-- ==== Sys2Proof/Word.lean ====
section
/-! DEFINITION. The word types of the SD9600 model (00_scope.md R6 to R9): bytes, 32-bit and
64-bit register values, fixed-point values and binary angles. -/

namespace Sys2Proof

/-- One byte of a descriptor, record or buffer. -/
abbrev Byte := BitVec 8

/-- A 32-bit register or payload field. -/
abbrev Word := BitVec 32

/-- A 64-bit register or host address. -/
abbrev DWord := BitVec 64

/-- One 32-byte ring descriptor, bit 0 being bit 0 of its first byte (R6). -/
abbrev Desc := BitVec 256

/-- An sQ16.16 value: two's complement, 16 integer bits and 16 fraction bits (R7). -/
abbrev Q16 := BitVec 32

/-- A BA32 binary angle, which wraps modulo 2^32 (R9). -/
abbrev BA32 := BitVec 32

/-- The shorter signed turn from `b` to `a` (R9): their difference read as a signed value. -/
def baDiff (a b : BA32) : Int := (a - b).toInt

end Sys2Proof
end

