-- ==== Sys2Proof/Syntax.lean ====
section
/-! DEFINITION. The commands and events of the SD9600, one constructor of `Instr` for each row of
spec/opcode_table.json, with their operands.

The first operand `dt` of every row is the time, in Machine Time ticks of 4 ns, that has passed
since the row before it.  A host command carries its CMD descriptor header `h` (R358) and the
payload fields of R381.  An event carries what the world outside showed the module at that
instant (a voltage, a pulse, a frame), or what a measuring circuit read.  `started` in CAN_TX_CANCEL says
whether the bus has committed to the head frame's SOF (R317); `volts` in LS_SHORT_TRIP is the output voltage
and VLOADq, in mV.  In the SEQ rows `par` is
a parity error on the fetched word (R230), and `bad` names sequencer and address of each store
word or header that differs from the image. -/

namespace Sys2Proof

/-- The header of a CMD descriptor (R358), its opcode apart. -/
structure Hdr where
  tag : BitVec 16 := 0
  fence : Bool := false
  irq : Bool := false
  deriving DecidableEq, Repr, Inhabited

/-- The REP and BUF operand forms (R379): a host address and a length in bytes. -/
structure Ref where
  addr : DWord := 0
  len : Word := 0
  deriving DecidableEq, Repr, Inhabited

/-- The clock islands of R11, a drive island by its group. -/
inductive Island where
  | hosti | core | navi | wheel | drv (g : Nat) | loadi | loopi | busi | fieldi | saga | sagb
  deriving DecidableEq, Repr, Inhabited

/-- The islands are those of R11: DRV0 to DRV11 among them. -/
def Island.real : Island → Bool
  | .drv g => decide (g < 12)
  | _ => true

/-- What the strap circuits read at one strap land (R466, R467): the resistance in ohms, none for
an open land.  SAGA and SAGB each read ST0 to ST2; for ST3 to ST7 only `a` is used. -/
structure StrapReading where
  a : Option Nat := none
  b : Option Nat := none
  deriving DecidableEq, Repr, Inhabited

/-- The voltages of an off-state test of a load switch in mV (R278): its output while the test current pulls it and
with the test current off, and VLOADq. -/
structure OffObs where
  pulled : Nat := 0
  off : Nat := 0
  vload : Nat := 0
  deriving DecidableEq, Repr, Inhabited

/-- What the BOOT steps of R48 find: the firmware signature, whether each flash slot reads back,
the charge tests of R187 and R426, and the force-safe path test of R444. -/
structure BootObs where
  sigOk : Bool := true
  slotReads : List Bool := [true, true, true]
  cMeas : List Nat := [47000, 47000, 47000, 47000]
  cMeasH : Nat := 470000
  pathOk : Bool := true
  deriving DecidableEq, Repr, Inhabited

/-- One exchange of cross-check frames (R441, R442): whether each lane's frame arrived with a good
CRC, each lane's SAFEN reading, and the three clocks in Hz as each is measured. -/
structure CrossObs where
  okA : Bool := true
  okB : Bool := true
  safenA : Bool := false
  safenB : Bool := false
  refHz : Nat := 26000000
  oscA : Nat := 40000000
  oscB : Nat := 40000000
  deriving DecidableEq, Repr, Inhabited

/-- The checks of R447, with the resource they name, and for a current its value and the ticks it has held. -/
inductive EnvCheck where
  | valveConducts (ch : Nat)
  | switchUnsafe (n : Nat)
  | fieldUnsafe (pin : Nat)
  | valveOverCap (ch ma held : Nat)
  | switchOverLimit (n ma held : Nat)
  deriving DecidableEq, Repr, Inhabited

/-- What the scrub of R446 finds in one memory (R445 classes 2 and 3). -/
inductive ScrubFinding where
  | corrected
  | coreOrWheel
  | tileSlot (slot : Nat)
  deriving DecidableEq, Repr, Inhabited

/-- The instructions of the boundary-scan port (R463). -/
inductive TapInstr where
  | bypass | idcode | sample | extest | clamp
  deriving DecidableEq, Repr, Inhabited

/-- The flash partitions of R27; the three configuration slots by place, as the roles move between them. -/
inductive FlashPart where
  | firmware | slot (n : Fin 3) | journal | calibration | records | reserved
  deriving DecidableEq, Repr, Inhabited

/-- One answered TILE descriptor as the module reads it (R138): ANSWER and HOST_ADDR. -/
structure TileAns where
  answer : Byte := 0
  addr : DWord := 0
  deriving DecidableEq, Repr, Inhabited

/-- The data of one doorbell read (R349, R356), and the answers of the TILE descriptors that the
answer index newly covers, oldest first.  `ok` is false where the read ended in error (R357). -/
structure Doorbell where
  ok : Bool := true
  idx : List Word := []
  hb : Word := 0
  answers : List TileAns := []
  deriving DecidableEq, Repr, Inhabited

/-- The inbound descriptors that arrive in one sweep (R356), and the rings whose descriptor read
ended in error with the address read (R357). -/
structure Fetch where
  cmds : List Desc := []
  rtcm : List Desc := []
  cantx : List (List Desc) := []
  failed : List (Nat × DWord) := []
  deriving DecidableEq, Repr, Inhabited

/-- The telemetry records of R389 that are formed at a native rate. -/
inductive TelKind where
  | fusion | valve (ch : Nat) | loop (n : Nat) | fd | edge (n : Nat) | ai | pi | count (run : Nat)
  deriving DecidableEq, Repr, Inhabited

/-- A satellite as the allocation of R65 sees it: system and number, elevation (BA32) and the
signals of R61 it transmits. -/
structure SatView where
  sys : Nat := 0
  svid : Nat := 0
  elev : Int := 0
  signals : List Nat := []
  /-- Doppler predicted from aiding, Hz (R67) -/
  doppler : Int := 0
  deriving DecidableEq, Repr, Inhabited

/-- An almanac or ephemeris message of one satellite, in the form of the RTCM message that carries the
same orbit (R63, R384): `eph` false for an almanac. -/
structure NavMsg where
  eph : Bool := true
  msg : Nat := 0
  body : List Byte := []
  deriving DecidableEq, Repr, Inhabited

/-- What a drive island has of one channel's coil since an arrival window opened (R192, R195). -/
structure DetObs where
  /-- MT of the first sample, a multiple of 250, and the channel's current on each sample in mA -/
  first : Nat := 0
  ma : List Nat := []
  /-- MT of the start and ticks of the on-time of each chop period since the window opened -/
  chops : List (Nat × Nat) := []
  deriving DecidableEq, Repr, Inhabited

/-- One channel's raw quantities at a measurement epoch (R79), with the predictions that the tests
of R85 compare them with.  Lengths are in 2^-10 m, Doppler in 2^-8 Hz, C/N0 in 0.25 dB-Hz. -/
structure MeasObs where
  ch : Nat := 0
  /-- complex correlator outputs of R70, in its table's order: VE, NE, E, P, L, NL, VL -/
  taps : List (Int × Int) := []
  /-- bit sync holds on a data-only signal (R73) -/
  bitSync : Bool := false
  /-- an orbit message demodulated whole from the data component since the last epoch (R63) -/
  nav : Option NavMsg := none
  pr : Nat := 0
  cp : Int := 0
  doppler : Int := 0
  cn0 : Nat := 0
  prStd : Nat := 0
  cpStd : Nat := 0
  /-- PR minus the predicted PR, and its 1 sigma -/
  prErr : Int := 0
  prSigma : Nat := 0
  /-- Doppler minus the Doppler predicted by ephemeris and fusion velocity -/
  dopErr : Int := 0
  /-- on antenna B: the between-antenna single difference predicted by the baseline, in 0.001 cycle (R85, R87) -/
  sdPred : Option Int := none
  /-- a navigation preamble has fixed the sign of a data-only signal (R74) -/
  preamble : Bool := false
  deriving DecidableEq, Repr, Inhabited

/-- The kind of the position solution an epoch gives (R119). -/
inductive SolKind where
  | none | single | dgnss | float | fixed
  deriving DecidableEq, Repr, Inhabited

/-- What Sextant's navigation cores measure and solve at one epoch (R75 to R88). -/
structure EpochObs where
  meas : List MeasObs := []
  kind : SolKind := .none
  /-- ambiguity ratio in 0.1, and satellites with fixed ambiguities (R119) -/
  ratio : Nat := 0
  fixedSats : Nat := 0
  usedSats : Nat := 0
  baseKm : Nat := 0
  corrAgeMs : Option Nat := none
  /-- solved error of EPOCH_FT in ps (R78), and GPS time solved at the epoch's sample in ns -/
  clkResid : Int := 0
  ft : Int := 0
  ftRate : Int := 0
  /-- phase error of the model in ns (R93), uncertainty in ns and rate uncertainty in 0.001 ns/s -/
  phaseErr : Int := 0
  unc : Nat := 0
  ru : Nat := 0
  /-- solved baseline length, mm (R85 test 5) -/
  baseLen : Option Nat := none
  /-- per port, sample pairs (I, Q) of the last 100 ms as the lands carry them (R57, R58); none given,
  none measured -/
  samples : List (List (BitVec 2 × BitVec 2)) := []
  /-- normalised residuals of the solution in 0.001, in the order of `meas`: of the first solution, then
  of each recomputation after an exclusion (R85 test 6) -/
  residuals : List (List Nat) := []
  /-- solved ECEF position of antenna A, mm -/
  px : Int := 0
  py : Int := 0
  pz : Int := 0
  /-- its velocity on the field axes, mm/s, and the yaw rate then, BA32 per second (R112) -/
  ve : Int := 0
  vn : Int := 0
  vu : Int := 0
  yawRate : Int := 0
  /-- heading candidates of R120 at the epoch and their HDU (R112) -/
  dual : Option (BA32 × Nat) := none
  cog : Option (BA32 × Nat) := none
  deriving DecidableEq, Repr, Inhabited

/-- What a measurement states that the filter of R116 applies. -/
inductive FusVal where
  /-- ECEF position of antenna A (mm) and its velocity on the field axes (mm/s) -/
  | gnss (x y z ve vn vu : Int)
  | heading (psi : BA32) (hdu : Nat)
  | speed (source : Nat) (mmps : Int)
  deriving DecidableEq, Repr, Inhabited

/-- A measurement with the MT it is valid at (R116). -/
structure FusMeas where
  mt : Nat := 0
  val : FusVal := .speed 0 0
  deriving DecidableEq, Repr, Inhabited

/-- What reaches fusion for one epoch besides the IMU's samples: the measurements that the filter applies, and the
candidates of R113 to R120. -/
structure FusObs where
  /-- heading candidates of R120 and their HDU -/
  dual : Option (BA32 × Nat) := none
  cog : Option (BA32 × Nat) := none
  antSpeed : Nat := 0
  course : BA32 := 0
  gnssSpeed : Nat := 0
  /-- GNSS ground speed at the position of each source of SPEED_SRC, mm/s (R114) -/
  gnssAt : List Int := []
  /-- GNSS reverse decision input and pitch along the dual-antenna baseline (R112) -/
  basePitch : Option Int := none
  /-- EPOCH_MTs of the solutions that have arrived since the last epoch, in the order of their arrival (R116) -/
  arrived : List Nat := []
  /-- the filter holds its speed usable: SPEED_VALID, for which the spec gives no condition (R99, R100) -/
  speedOk : Bool := true
  deriving DecidableEq, Repr, Inhabited

/-- A CAN frame (R309, R315). -/
structure CanFrame where
  id : BitVec 29 := 0
  ide : Bool := false
  rtr : Bool := false
  fdf : Bool := false
  brs : Bool := false
  esi : Bool := false
  data : List Byte := []
  deriving DecidableEq, Repr, Inhabited

/-- How a transmit attempt failed (R328). -/
inductive TxErr where
  /-- an error flag was sent: TEC + 8 -/
  | flagged
  /-- the stuff error in arbitration, on a recessive stuff bit read dominant: TEC unchanged -/
  | excepted
  /-- an ACK error, counted by R329; `dom`, a dominant bit was seen in the error flag: TEC + 8, unchanged while
  error passive with no such bit -/
  | noAck (dom : Bool)
  /-- 14 dominant bits after an active error flag, 8 after a passive one, or a further 8; or a bit error in the
  flag: TEC + 8, and no attempt ends with it -/
  | dominant
  deriving DecidableEq, Repr, Inhabited

/-- The rows of spec/opcode_table.json, in the table's order. -/
inductive Instr where
  | powerOnReset (dt vbat hold : Nat) (held : Nat)
  | resetnLow (dt lowNs : Nat)
  | watchdogTimeout (dt core : Nat)
  | saggarReset (dt : Nat)
  | moduleResetAssert (dt : Nat)
  | resetRelease (dt : Nat) (straps : List StrapReading) (vhio : Nat) (vbat : Nat)
  | startupComplete (dt : Nat)
  | bootComplete (dt : Nat) (b : BootObs)
  | configRequestRetry (dt : Nat)
  | safenAssert (dt lane lowNs : Nat)
  | safenRelease (dt highTicks : Nat)
  | sagEnter (dt mv : Nat) (held : Nat)
  | sagRelease (dt mv : Nat) (held : Nat)
  | lowFieldEnter (dt mv : Nat) (held : Nat)
  | lowFieldRelease (dt mv : Nat) (held : Nat)
  | brownout (dt mv hold : Nat) (held : Nat)
  | brownoutRecovery (dt mv : Nat) (held : Nat)
  | vbatOvervoltage (dt mv : Nat) (held : Nat)
  | driveSuspension (dt q mv : Nat) (held : Nat)
  | driveSuspensionEnd (dt q mv : Nat) (held : Nat)
  | loadSuspension (dt q mv : Nat) (held : Nat)
  | loadSuspensionEnd (dt q mv : Nat) (held : Nat)
  | vioLow (dt mv : Nat) (held : Nat)
  | vioLost (dt mv : Nat) (held : Nat)
  | vioRestored (dt mv : Nat) (held : Nat)
  | vio24Overvoltage (dt mv : Nat) (held : Nat)
  | vhioLow (dt mv : Nat) (held : Nat)
  | refclkLoss (dt : Nat)
  | islandClockStop (dt : Nat) (isl : Island)
  | timeMark (dt : Nat) (diffs : List Int)
  | timeMarkMissing (dt : Nat) (isl : Island)
  | laneCrossCheck (dt : Nat) (x : CrossObs)
  | forceSafePathTest (dt : Nat) (missing : List (Nat × Island))
  | envelopeViolation (dt : Nat) (c : EnvCheck) (lane : Nat)
  | dieOvertemp (dt die : Nat) (temp : Int) (held : Nat)
  | coreLockstepMismatch (dt core : Nat)
  | memoryScrub (dt : Nat) (fs : List ScrubFinding)
  | flashDigestCheck (dt : Nat) (bad : List FlashPart)
  | faultRecordWritten (dt : Nat) (ok : Bool)
  | laneConfirmTimeout (dt cls : Nat)
  | perstnAssert (dt : Nat)
  | hotReset (dt : Nat)
  | functionLevelReset (dt : Nat)
  | dlDown (dt : Nat)
  | busMasterEnableClear (dt : Nat) (memSpace : Bool)
  | d3hotEntry (dt : Nat)
  | hostAccessRestored (dt : Nat)
  | linkUp (dt : Nat)
  | heartbeatTimeout (dt : Nat)
  | hostGraceExpiry (dt : Nat)
  | doorbellSweep (dt : Nat)
  | doorbellReadComplete (dt : Nat) (d : Doorbell)
  | descriptorFetch (dt : Nat) (f : Fetch)
  | hostBufferRead (dt cmdIdx : Nat) (data : Option (List Byte))
  | statusBlockRefresh (dt : Nat)
  | msixModerationTimeout (dt v : Nat)
  | evtQueueDrain (dt : Nat)
  | telemetryRecord (dt : Nat) (k : TelKind)
  | telemetryAgeDrop (dt : Nat)
  | ringEnable (dt ring log2 vec : Nat)
  | ringDisable (dt ring vec : Nat)
  | regLocked (dt off : Nat) (val : DWord)
  | pollPeriodWrite (dt val : Nat)
  | hbTimeoutWrite (dt val : Nat)
  | hiErrClear (dt : Nat) (bits : Word)
  /-- the mask bit of vector v is cleared; with none, the Function Mask of the MSI-X capability -/
  | msixUnmask (dt : Nat) (v : Option Nat)
  | registerWrite (dt off size : Nat) (val : DWord)
  | bar0BadAccess (dt off size : Nat) (write : Bool)
  | unknownOpcode (dt : Nat) (h : Hdr) (op : Byte)
  | nop (dt : Nat) (h : Hdr)
  | bind (dt : Nat) (h : Hdr) (resume : Bool) (bootCount : Word)
  | unbind (dt : Nat) (h : Hdr)
  | arm (dt : Nat) (h : Hdr)
  | disarm (dt : Nat) (h : Hdr)
  | run (dt : Nat) (h : Hdr)
  | hold (dt : Nat) (h : Hdr)
  | manualEnter (dt : Nat) (h : Hdr)
  | manualExit (dt : Nat) (h : Hdr)
  | clearFault (dt : Nat) (h : Hdr)
  | heartbeat (dt : Nat) (h : Hdr)
  | moduleReset (dt : Nat) (h : Hdr)
  | stateQuery (dt : Nat) (h : Hdr)
  | telSelect (dt : Nat) (h : Hdr) (on : BitVec 7) (decs : List Nat) (ageMs : Nat)
  | cfgStage (dt : Nat) (h : Hdr) (buf : Ref)
  | stagingComplete (dt : Nat) (readbackOk : Bool)
  | cfgFire (dt : Nat) (h : Hdr) (digest : DWord)
  | cfgRollback (dt : Nat) (h : Hdr)
  | firingComplete (dt : Nat) (flashOk readbackOk : Bool)
  | journalEraseDone (dt : Nat)
  | cfgStatus (dt : Nat) (h : Hdr) (rep : Ref)
  | maintStart (dt : Nat) (h : Hdr) (param : Ref) (result : DWord) (activity : Byte) (loop : Nat)
  | maintAbort (dt : Nat) (h : Hdr) (target : BitVec 16)
  | maintStatus (dt : Nat) (h : Hdr) (rep : Ref)
  | valveSweepComplete (dt : Nat) (cMeas : List Nat)
  | wireCheckComplete (dt : Nat) (valves : List Nat) (switches : List (Option OffObs))
  | autoTuneComplete (dt : Nat)
  | autoTuneTimeout (dt : Nat)
  | flashScrubComplete (dt pages corrected : Nat) (bad : List FlashPart)
  | sensorZeroComplete (dt : Nat) (means : List Int) (artic : Int)
  | sextantSelfTestComplete (dt : Nat) (engines : BitVec 16) (chans : BitVec 128)
  | tilePatch (dt : Nat) (h : Hdr) (tx ty : BitVec 16) (rate dma : Bool) (offset len : Nat)
      (gen : Word) (data : BitVec 128)
  | tileInvalidate (dt : Nat) (h : Hdr) (tx0 ty0 tx1 ty1 : BitVec 16) (mode : Nat)
  | tileFlush (dt : Nat) (h : Hdr)
  | tileFlushComplete (dt : Nat)
  | rateTable (dt : Nat) (h : Hdr) (addr : DWord)
  | tileStatus (dt : Nat) (h : Hdr) (rep : Ref) (named : Bool) (tx ty : BitVec 16)
  | planSectionEnable (dt : Nat) (h : Hdr) (mask : BitVec 96) (en : Bool)
  | planManual (dt : Nat) (h : Hdr) (mask : BitVec 96) (on : Bool) (duty : Nat) (rate : Word)
  | planHoldAck (dt : Nat) (h : Hdr)
  | planStatus (dt : Nat) (h : Hdr) (rep : Ref) (mask : BitVec 96)
  | fieldOrigin (dt : Nat) (h : Hdr) (lat lon height : Word)
  | fieldOriginComplete (dt : Nat)
  | fusionStatus (dt : Nat) (h : Hdr) (rep : Ref)
  | fusionReset (dt : Nat) (h : Hdr)
  | valveStatus (dt : Nat) (h : Hdr) (rep : Ref) (mask : BitVec 96) (quads : BitVec 4)
  | valveClear (dt : Nat) (h : Hdr) (group : Nat) (mask : BitVec 8)
  | valveClearComplete (dt : Nat) (codes : List Nat)
  | valveDelayReset (dt : Nat) (h : Hdr) (mask : BitVec 96)
  | valveDiagNow (dt : Nat) (h : Hdr) (group : Nat) (mask : BitVec 8)
  | seqStatus (dt : Nat) (h : Hdr) (rep : Ref) (mask : BitVec 96)
  | seqRead (dt : Nat) (h : Hdr) (addr : DWord) (sequencer : Nat) (headers : Bool) (first words : Nat)
  | seqSetK (dt : Nat) (h : Hdr) (group : Nat) (mask : BitVec 8) (which en : BitVec 4)
      (ks : List (BitVec 16))
  | loopStatus (dt : Nat) (h : Hdr) (rep : Ref) (mask : Word) (clearSat : Bool)
  | loopClose (dt : Nat) (h : Hdr) (loop : Nat)
  | loopOpen (dt : Nat) (h : Hdr) (loop : Nat) (safe : Bool)
  | loopSetpoint (dt : Nat) (h : Hdr) (loop : Nat) (r : Q16)
  | loopOutput (dt : Nat) (h : Hdr) (loop : Nat) (u : Q16)
  | loopCoef (dt : Nat) (h : Hdr) (loop : Nat) (kp ki kd : Q16) (dTf : Word)
  | loopClear (dt : Nat) (h : Hdr) (loop : Nat)
  | traceArm (dt : Nat) (h : Hdr) (unit loop dec pre trig node : Nat) (flags : BitVec 5) (level : Q16)
  | traceStop (dt : Nat) (h : Hdr) (unit : Nat) (trigger discard : Bool)
  | traceStatus (dt : Nat) (h : Hdr) (rep : Ref)
  | lsSet (dt : Nat) (h : Hdr) (mask : BitVec 16) (mode : Nat) (duty : Q16)
  | lsStatus (dt : Nat) (h : Hdr) (rep : Ref) (mask : BitVec 16)
  | lsClear (dt : Nat) (h : Hdr) (mask : BitVec 16)
  | lsClearComplete (dt : Nat) (obs : List (Option OffObs))
  | lsDiagNow (dt : Nat) (h : Hdr) (mask : BitVec 16)
  | fdSet (dt : Nat) (h : Hdr) (mask levels : Word)
  | fdStatus (dt : Nat) (h : Hdr) (rep : Ref) (mask : Word)
  | fdClear (dt : Nat) (h : Hdr) (mask : Word)
  | aiStatus (dt : Nat) (h : Hdr) (rep : Ref) (mask : Word)
  | piStatus (dt : Nat) (h : Hdr) (rep : Ref) (mask : Word)
  | piCountSet (dt : Nat) (h : Hdr) (input : Nat) (count : Word) (at_ : DWord)
  | piCountLoad (dt input : Nat)
  | sxSet (dt : Nat) (h : Hdr) (b on : Bool)
  | canStatus (dt : Nat) (h : Hdr) (rep : Ref) (mask : BitVec 4)
  | canTxCancel (dt : Nat) (h : Hdr) (bus : Nat) (target : BitVec 16) (started : Bool)
  | canBusRecover (dt : Nat) (h : Hdr) (bus : Nat)
  | canMode (dt : Nat) (h : Hdr) (bus : Nat) (listen fdEn : Bool) (nom data : Nat)
  | canRateDetect (dt : Nat) (h : Hdr) (bus timeoutMs : Nat)
  | canSlotRead (dt : Nat) (h : Hdr) (rep : Ref) (bus : Nat) (mask : DWord)
  | canFilterSet (dt : Nat) (h : Hdr) (bus entries : Nat) (addr : DWord)
  | isoClaim (dt : Nat) (h : Hdr) (bus : Nat) (addr : Byte)
  | sxStatus (dt : Nat) (h : Hdr) (rep : Ref)
  | sxAidTime (dt : Nat) (h : Hdr) (ft : DWord) (unc : Word)
  | sxAidPos (dt : Nat) (h : Hdr) (lat lon height unc : Word)
  | sxAidOrbit (dt : Nat) (h : Hdr) (buf : Ref) (ephemeris : Bool)
  | sxRestart (dt : Nat) (h : Hdr) (kind : Nat)
  | sxExclude (dt : Nat) (h : Hdr) (incl : Bool) (signal svid : Byte) (sys : Nat)
  | sxRaw (dt : Nat) (h : Hdr) (en : Bool)
  | diagRecords (dt : Nat) (h : Hdr) (buf : Ref) (first : Word)
  | diagCounters (dt : Nat) (h : Hdr) (rep : Ref)
  | saggarStatus (dt : Nat) (h : Hdr) (rep : Ref)
  | diagErase (dt : Nat) (h : Hdr) (last : Word)
  | diagEraseComplete (dt : Nat) (ok : Bool)
  | plannerCycleStart (dt : Nat)
  | placementDeadline (dt : Nat) (unfinished : List Nat)
  | holdUnacked (dt : Nat)
  | holdExpired (dt : Nat)
  | fusionEpoch (dt : Nat) (o : FusObs)
  | imuDrdyEdge (dt : Nat)
  | imuSyncPulse (dt : Nat)
  | imuBurstComplete (dt : Nat) (frame : List Byte)
  | imuInitRetry (dt : Nat)
  | measurementEpoch (dt : Nat) (o : EpochObs)
  | coastStart (dt : Nat)
  | ftStep (dt : Nat)
  | slewComplete (dt : Nat)
  | coastUncertaintyLimit (dt : Nat)
  | tp0Pulse (dt : Nat)
  | channelAllocation (dt : Nat) (sats : List SatView)
  | acquisitionDetection (dt engine signal svid ch : Nat) (codePhase doppler : Int)
  | acquisitionConfirmTimeout (dt engine : Nat)
  | handoverLockTimeout (dt ch : Nat)
  | lowCn0Release (dt ch : Nat)
  | bocJump (dt ch : Nat) (late : Bool)
  | portFault (dt port cond : Nat)
  | portGood (dt port : Nat)
  | corrSwitch (dt : Nat)
  | prefetchRecompute (dt : Nat)
  | tileRequestEnterRing (dt : Nat)
  | tileRecordRead (dt slot : Nat) (data : Option (List Byte))
  | writebackDue (dt slot : Nat)
  | writebackComplete (dt slot : Nat) (ok : Bool)
  | tileTimeout (dt slot : Nat)
  | tileRetry (dt slot : Nat)
  | edgeHandover (dt ch : Nat)
  | edgeRelease (dt ch : Nat)
  | seqSrc (dt ch resMv : Nat) (par : Bool)
  | seqItgt (dt ch : Nat) (par : Bool)
  | seqWaiti (dt ch : Nat) (par : Bool)
  | seqWaitt (dt ch : Nat) (par : Bool)
  | seqArm (dt ch : Nat) (par : Bool)
  | seqDecay (dt ch : Nat) (par : Bool)
  | seqMark (dt ch : Nat) (par : Bool)
  | seqJmp (dt ch : Nat) (par : Bool)
  | seqJc (dt ch railMv : Nat) (par : Bool)
  | seqLoop (dt ch : Nat) (par : Bool)
  | seqHoldw (dt ch : Nat) (par : Bool)
  | seqEnd (dt ch : Nat) (par : Bool)
  | seqReservedOpcode (dt ch : Nat) (par : Bool)
  | seqStoreCompare (dt : Nat) (bad : List (Nat × Nat))
  | seqReload (dt group : Nat)
  | boostGrant (dt group resMv : Nat)
  | boostRefusal (dt ch : Nat)
  | waitiEnd (dt ch sampleMt ma : Nat)
  | waitiTimeout (dt ch : Nat)
  | waittExpiry (dt ch : Nat)
  | arrivalWindowTimeout (dt ch : Nat) (closing : Bool)
  | arrivalDetected (dt ch : Nat) (closing : Bool) (obs : DetObs)
  | decayEnd (dt ch resMv clampMj : Nat)
  | minOffElapsed (dt ch : Nat)
  | markBufferDrain (dt group : Nat)
  | offStateTest (dt ch finding : Nat)
  | shortSupplyTrip (dt ch ma : Nat)
  | openLoadOn (dt ch : Nat) (runs : List (Nat × Nat)) (vdrv : Nat)
  | coilR (dt ch : Nat) (runs : List ((Nat × Int) × Nat)) (vdrv : Nat)
  | railLeak (dt group : Nat) (runs : List ((Nat × List Nat) × Nat))
  | valveReadbackMismatch (dt n : Nat) (rail : Bool) (read : Nat) (obs : DetObs)
  | tied (dt ch partner : Nat) (stamps : List (Nat × Nat))
  | railOvercurrent (dt group ma held : Nat)
  | railOverload (dt group : Nat) (runs : List (Nat × Nat))
  | chOverload (dt ch : Nat) (runs : List (Nat × Nat))
  | bstOv (dt q mv held : Nat)
  | bstFail (dt q mv : Nat)
  | bstFailClear (dt q mv : Nat)
  | loopSample (dt loop : Nat)
  | measLost (dt loop : Nat)
  | traceWrite (dt unit : Nat)
  | loopCheck (dt loop : Nat)
  | lsPwmPeriodStart (dt pair : Nat) (obs : List (Int × Nat)) (cell : Int)
  | lsTrip (dt n : Nat) (ma : Int) (held : Nat)
  | lsShortTrip (dt n : Nat) (ma : Int) (volts : Nat × Nat) (held : Nat)
  | lsPauseEnd (dt n : Nat)
  | lsTripCountReset (dt n : Nat)
  | inrushWindowEnd (dt n : Nat) (below : Option Nat)
  | inrushBudgetSpent (dt n : Nat) (ma : Int)
  | thermalShutdown (dt pair : Nat) (temp : Int) (losses : Nat × Nat)
  | thermalRestart (dt pair : Nat) (temp : Int)
  | lsOffStateTest (dt n : Nat) (o : OffObs)
  | lsOpenLoadOn (dt n : Nat) (ma : Int)
  | lsReadbackMismatch (dt n : Nat) (high on : Bool)
  | downFrame (dt : Nat)
  | downFrameReceived (dt : Nat)
  | downFrameMissed (dt : Nat)
  | upFrame (dt : Nat) (good : Bool) (banks : List Nat)
  | fieldRxLost (dt : Nat)
  | silenceTimeout (dt : Nat)
  | resetSymbol (dt : Nat)
  | forceSafeSymbol (dt : Nat)
  | fieldClockFail (dt : Nat)
  | fdChange (dt pin : Nat) (level : Bool) (since : Nat)
  | wireBreak (dt pin : Nat) (broken : Bool)
  | fdOverload (dt pin : Nat)
  | bankOverload (dt bank pin ma : Nat)
  | fdOpenLoad (dt pin : Nat)
  | pinDriven (dt pin : Nat) (present : Bool)
  | fdReadbackMismatch (dt pin : Nat) (on : Bool)
  | aiReading (dt input : Nat) (samples : List Int) (vsx : Nat) (code : Word)
  | aiValid (dt input : Nat)
  | ma20ShuntDisconnect (dt input : Nat)
  | sxFault (dt : Nat) (b : Bool)
  | sxRetry (dt : Nat) (b holds : Bool)
  | piEdge (dt input : Nat) (mv : Int) (held : Nat)
  | piZeroTimeout (dt input : Nat)
  | extevEdge (dt input : Nat)
  | canFrameReceived (dt bus sof : Nat) (f : CanFrame)
  | tpSessionTimeout (dt bus : Nat) (tx : Bool) (sess : Nat)
  | canTxSuccess (dt bus sof : Nat)
  | canArbitrationLost (dt bus sof : Nat)
  | canTxError (dt bus sof : Nat) (e : TxErr)
  | canRxError (dt bus : Nat) (by8 : Bool)
  | busFault (dt bus : Nat)
  | busStuck (dt bus : Nat)
  | busLineClear (dt bus : Nat)
  | periodicFrame (dt n : Nat)
  | syncFrame (dt bus : Nat)
  | addressClaimComplete (dt bus : Nat)
  | txSessionOpen (dt bus : Nat) (data : Option (List Byte))
  | bamPacket (dt bus sess : Nat)
  | busRecovered (dt bus : Nat)
  | busRecoveryTimeout (dt bus : Nat)
  | rateDetectTimeout (dt bus : Nat)
  | regulatorOutOfRange (dt : Nat)
  | holdOvervoltage (dt mv : Nat)
  | vhioRestored (dt mv : Nat) (held : Nat)
  | phaseLock (dt ch : Nat) (indicator : Int)
  | diagStarvation (dt ch : Nat)
  | valveDiagNowComplete (dt : Nat) (codes : List Nat)
  | lsDiagNowComplete (dt : Nat) (obs : List (Option OffObs))
  | ma20ShuntReconnect (dt input : Nat)
  | busIntegration (dt bus : Nat)
  | vbatOvervoltageRelease (dt mv : Nat) (held : Nat)
  | vio24OvervoltageRelease (dt mv : Nat) (held : Nat)
  deriving DecidableEq, Repr

end Sys2Proof
end

