-- ==== Sys2Proof/Decode.lean ====
section
/-! DEFINITION. The command that a CMD descriptor spells (R358, R379, R381), as DESCRIPTOR_FETCH reads it;
and the table's own words, of which no row has any. -/

namespace Sys2Proof

/-- The opcode table gives no row bits, so no word spells a command. -/
def decodeTableWord (_nbits _w : Nat) : Option Instr := none

/-- Bits `lo` up of a CMD descriptor, `w` of them. -/
def cmdField (d : Desc) (lo w : Nat) : Nat := d.toNat / 2 ^ lo % 2 ^ w

/-- The same bits as a bit vector. -/
def cmdBits (d : Desc) (lo w : Nat) : BitVec w := BitVec.ofNat w (cmdField d lo w)

/-- One bit. -/
def cmdBit (d : Desc) (i : Nat) : Bool := cmdField d i 1 = 1

/-- The header of R358, its opcode apart. -/
def cmdHdr (d : Desc) : Hdr := { tag := cmdBits d 16 16, fence := cmdBit d 8, irq := cmdBit d 9 }

/-- The operand forms REP and BUF of R379: bits 95:32 and 127:96. -/
def cmdRef (d : Desc) : Ref := { addr := cmdBits d 32 64, len := cmdBits d 96 32 }

/-- System, configuration, maintenance and map commands (opcodes below 0x40). -/
def decodeLow (d : Desc) (op : Nat) (h : Hdr) : Option Instr :=
  let rep := cmdRef d
  match op with
  | 0x00 => some (.nop 0 h)
  | 0x01 => some (.bind 0 h (cmdBit d 32) (cmdBits d 64 32))
  | 0x02 => some (.unbind 0 h)
  | 0x03 => some (.arm 0 h)
  | 0x04 => some (.disarm 0 h)
  | 0x05 => some (.run 0 h)
  | 0x06 => some (.hold 0 h)
  | 0x07 => some (.manualEnter 0 h)
  | 0x08 => some (.manualExit 0 h)
  | 0x09 => some (.clearFault 0 h)
  | 0x0A => some (.heartbeat 0 h)
  | 0x0B => some (.moduleReset 0 h)
  | 0x0C => some (.stateQuery 0 h)
  | 0x0D => some (.telSelect 0 h (cmdBits d 32 7) ((List.range 7).map (fun i => cmdField d (48 + 16 * i) 16)) (cmdField d 160 8))
  | 0x10 => some (.cfgStage 0 h rep)
  | 0x11 => some (.cfgFire 0 h (cmdBits d 32 64))
  | 0x12 => some (.cfgRollback 0 h)
  | 0x13 => some (.cfgStatus 0 h rep)
  | 0x14 => some (.maintStart 0 h rep (cmdBits d 128 64) (cmdBits d 192 8) (cmdField d 200 5))
  | 0x15 => some (.maintAbort 0 h (cmdBits d 32 16))
  | 0x16 => some (.maintStatus 0 h rep)
  | 0x20 => some (.tilePatch 0 h (cmdBits d 32 16) (cmdBits d 48 16) (cmdBit d 64) (cmdBit d 65) (cmdField d 66 10)
      (cmdField d 76 10) (cmdBits d 96 32) (cmdBits d 128 128))
  | 0x21 => some (.tileInvalidate 0 h (cmdBits d 32 16) (cmdBits d 48 16) (cmdBits d 64 16) (cmdBits d 80 16) (cmdField d 96 2))
  | 0x22 => some (.tileFlush 0 h)
  | 0x23 => some (.rateTable 0 h (cmdBits d 32 64))
  | 0x24 => some (.tileStatus 0 h rep (cmdBit d 128) (cmdBits d 144 16) (cmdBits d 160 16))
  | 0x25 => some (.planSectionEnable 0 h (cmdBits d 32 96) (cmdBit d 128))
  | 0x26 => some (.planManual 0 h (cmdBits d 32 96) (cmdBit d 128) (cmdField d 129 7) (cmdBits d 136 32))
  | 0x27 => some (.planHoldAck 0 h)
  | 0x28 => some (.planStatus 0 h rep (cmdBits d 128 96))
  | 0x38 => some (.fieldOrigin 0 h (cmdBits d 32 32) (cmdBits d 64 32) (cmdBits d 96 32))
  | 0x39 => some (.fusionStatus 0 h rep)
  | 0x3A => some (.fusionReset 0 h)
  | _ => none

/-- Valve, sequencer and loop commands (0x40 to 0x5F). -/
def decodeMid (d : Desc) (op : Nat) (h : Hdr) : Option Instr :=
  let rep := cmdRef d
  let lp := cmdField d 32 5
  match op with
  | 0x40 => some (.valveStatus 0 h rep (cmdBits d 128 96) (cmdBits d 224 4))
  | 0x41 => some (.valveClear 0 h (cmdField d 32 4) (cmdBits d 36 8))
  | 0x42 => some (.valveDelayReset 0 h (cmdBits d 32 96))
  | 0x43 => some (.valveDiagNow 0 h (cmdField d 32 4) (cmdBits d 36 8))
  | 0x44 => some (.seqStatus 0 h rep (cmdBits d 128 96))
  | 0x45 => some (.seqRead 0 h (cmdBits d 32 64) (cmdField d 96 4) (cmdBit d 100) (cmdField d 101 9) (cmdField d 110 10))
  | 0x46 => some (.seqSetK 0 h (cmdField d 32 4) (cmdBits d 36 8) (cmdBits d 44 4) (cmdBits d 48 4)
      ((List.range 4).map (fun i => cmdBits d (64 + 16 * i) 16)))
  | 0x50 => some (.loopStatus 0 h rep (cmdBits d 128 32) (cmdBit d 160))
  | 0x51 => some (.loopClose 0 h lp)
  | 0x52 => some (.loopOpen 0 h lp (cmdBit d 37))
  | 0x53 => some (.loopSetpoint 0 h lp (cmdBits d 64 32))
  | 0x54 => some (.loopOutput 0 h lp (cmdBits d 64 32))
  | 0x55 => some (.loopCoef 0 h lp (cmdBits d 64 32) (cmdBits d 96 32) (cmdBits d 128 32) (cmdBits d 160 32))
  | 0x56 => some (.loopClear 0 h lp)
  | 0x57 => some (.traceArm 0 h (cmdField d 32 2) (cmdField d 34 5) (cmdField d 40 8) (cmdField d 48 12) (cmdField d 60 4)
      (cmdField d 64 3) (cmdBits d 67 5) (cmdBits d 96 32))
  | 0x58 => some (.traceStop 0 h (cmdField d 32 2) (cmdBit d 34) (cmdBit d 35))
  | 0x59 => some (.traceStatus 0 h rep)
  | _ => none

/-- Load switch, field, CAN, Sextant and diagnostic commands (0x60 up).  Whether the bus has committed to a
frame's SOF is no field of CAN_TX_CANCEL; `started` is false here. -/
def decodeHigh (d : Desc) (op : Nat) (h : Hdr) : Option Instr :=
  let rep := cmdRef d
  let bus := cmdField d 32 2
  match op with
  | 0x60 => some (.lsSet 0 h (cmdBits d 32 16) (cmdField d 48 3) (cmdBits d 64 32))
  | 0x61 => some (.lsStatus 0 h rep (cmdBits d 128 16))
  | 0x62 => some (.lsClear 0 h (cmdBits d 32 16))
  | 0x63 => some (.lsDiagNow 0 h (cmdBits d 32 16))
  | 0x70 => some (.fdSet 0 h (cmdBits d 32 32) (cmdBits d 64 32))
  | 0x71 => some (.fdStatus 0 h rep (cmdBits d 128 32))
  | 0x72 => some (.fdClear 0 h (cmdBits d 32 32))
  | 0x73 => some (.aiStatus 0 h rep (cmdBits d 128 32))
  | 0x74 => some (.piStatus 0 h rep (cmdBits d 128 32))
  | 0x75 => some (.piCountSet 0 h (cmdField d 32 4) (cmdBits d 64 32) (cmdBits d 96 64))
  | 0x76 => some (.sxSet 0 h (cmdBit d 32) (cmdBit d 33))
  | 0x80 => some (.canStatus 0 h rep (cmdBits d 128 4))
  | 0x81 => some (.canTxCancel 0 h bus (cmdBits d 48 16) false)
  | 0x82 => some (.canBusRecover 0 h bus)
  | 0x83 => some (.canMode 0 h bus (cmdBit d 34) (cmdBit d 35) (cmdField d 36 3) (cmdField d 39 2))
  | 0x84 => some (.canRateDetect 0 h bus (cmdField d 64 32))
  | 0x85 => some (.canSlotRead 0 h rep (cmdField d 128 2) (cmdBits d 192 64))
  | 0x86 => some (.canFilterSet 0 h bus (cmdField d 34 8) (cmdBits d 64 64))
  | 0x87 => some (.isoClaim 0 h bus (cmdBits d 40 8))
  | 0xA0 => some (.sxStatus 0 h rep)
  | 0xA1 => some (.sxAidTime 0 h (cmdBits d 32 64) (cmdBits d 96 32))
  | 0xA2 => some (.sxAidPos 0 h (cmdBits d 32 32) (cmdBits d 64 32) (cmdBits d 96 32) (cmdBits d 128 32))
  | 0xA3 => some (.sxAidOrbit 0 h rep (cmdBit d 128))
  | 0xA4 => some (.sxRestart 0 h (cmdField d 32 2))
  | 0xA5 => some (.sxExclude 0 h (cmdBit d 32) (cmdBits d 40 8) (cmdBits d 48 8) (cmdField d 56 4))
  | 0xA6 => some (.sxRaw 0 h (cmdBit d 32))
  | 0xB0 => some (.diagRecords 0 h rep (cmdBits d 128 32))
  | 0xB1 => some (.diagCounters 0 h rep)
  | 0xB2 => some (.saggarStatus 0 h rep)
  | 0xB3 => some (.diagErase 0 h (cmdBits d 32 32))
  | _ => none

/-- The command that a CMD descriptor spells: an opcode that is not assigned is UNKNOWN_OPCODE (R374). -/
def decodeCmd (d : Desc) : Instr :=
  let op := cmdField d 0 8
  let h := cmdHdr d
  let i := if op < 0x40 then decodeLow d op h else if op < 0x60 then decodeMid d op h else decodeHigh d op h
  i.getD (.unknownOpcode 0 h (BitVec.ofNat 8 op))

end Sys2Proof
end

