-- ==== Sys2Proof/Config.lean ====
section
/-! DEFINITION. What the spec leaves open, as constants without a body: a proof cannot see what
they are, so a statement that holds holds for every value of them (log entry 1). -/

namespace Sys2Proof

/-- A free yes or no, for an outcome the spec leaves open (R41, R450, R315): applied to the model's
counter `free`, which each use advances. -/
opaque Config.freeBool : Nat → Bool

/-- A free number, for a value the spec leaves open. -/
opaque Config.freeNat : Nat → Nat

/-- A free signed number, for a value the spec leaves open. -/
opaque Config.freeInt : Nat → Int

/-- How many waiting writes the link takes at an instant (R363): its load comes from outside; applied to the
count `linkN`. -/
opaque Config.linkTakes : Nat → Nat

/-- The state of fusion's filter at one instant (R116): ECEF position of the machine reference point in micrometres,
velocity on the field axes in mm/s, attitude and yaw rate in BA32 counts, gyro and accelerometer biases, speed
scales, and its 95 % position and speed-scale uncertainties. -/
structure FilterSt where
  mt : Nat := 0
  x : Int := 0
  y : Int := 0
  z : Int := 0
  ve : Int := 0
  vn : Int := 0
  vu : Int := 0
  psi : Int := 0
  pitch : Int := 0
  roll : Int := 0
  yawRate : Int := 0
  gyroBias : List Int := [0, 0, 0]
  accBias : List Int := [0, 0, 0]
  scales : List Word := [65536, 65536, 65536]
  hpu : Nat := 0
  su : Nat := 0
  deriving DecidableEq, Repr, Inhabited

/-- What the filter's strapdown makes of a state over a number of ticks with an IMU sample on the body axes, the IMU
on its lever arm of GEOMETRY (R116); the spec gives it no equations. -/
opaque Config.strapdown : (imu : List Int) → FilterSt → List Rat → Nat → FilterSt

/-- What the filter's correction makes of a state and a measurement at its MT, with antenna A and antenna B on their
lever arms of GEOMETRY (R116); the spec gives it no gains. -/
opaque Config.correct : (antA antB : List Int) → FilterSt → FusMeas → FilterSt

/-- What a code loop of a bandwidth and coherent time makes of its replica's code phase and a code error (R71, R73). -/
opaque Config.codeLoop : (bw coh : Nat) → (err : Rat) → (old : Int) → Int

/-- What a carrier loop, with its frequency assist where that acts, makes of its frequency and a phase error (R73). -/
opaque Config.carrierLoop : (bw : Nat) → (fll : Option Nat) → (coh : Nat) → (err : Rat) → (old : Int) → Int

/-- D(s) where both correlators read 0 (R71), and the phase of a prompt correlator that reads 0 (R73); the spec
states no value. -/
opaque Config.discrNone : Rat → Rat
opaque Config.phaseNone : Rat

/-- The instruction register of the boundary-scan port (R463): its length, and the code of each instruction; the spec
gives neither. -/
opaque Config.irLength : Nat
opaque Config.irDecode : List Bool → TapInstr

/-- BSR_LENGTH (R487): boundary cells in the scan register; the spec gives no number. -/
opaque Config.bsrLength : BitVec 16

/-- The largest HPU (mm) that supports a quality level above Q2 (R122); the spec gives no figure. -/
opaque Config.hpuBound : Nat → Nat

/-- Flash capacity of the fault-record partition in 64-byte records (R27, R388). -/
def Config.recordCap : Nat := 16384

/-- Records that share one flash sector (R381, DIAG_ERASE); the spec names no sector size. -/
opaque Config.recordsPerSector : Nat

end Sys2Proof
end

