-- ==== Sys2Proof/Machine/Fields.lean ====
section
/-! DEFINITION. The fields of a configuration image: their sections, positions, widths, scopes,
ranges and defaults, from the field tables of R95, R105, R125, R151, R180, R210, R231, R260, R283,
R307, R338 and R436 under the counting and width rules of R397.  An enumerated value is its
position in the range list; a default that a strap gives is set in Machine/Operands.lean. -/

namespace Sys2Proof

/-- The fields of R397, in section order and in position order within a section. -/
inductive Fld where
  -- GEOMETRY
  | antAX | antAY | antAZ | antBX | antBY | antBZ | imuX | imuY | imuZ | imuRoll | imuPitch
  | imuYaw | implType | cpX | cpY | cpZ | hitchX | hitchY | hitchZ | lAx | cpIX | cpIY
  | articSrcCfg | articAi | articGain | articMvMin | articMvMax | articLimit | articTol | imuMode
  | imuRate | imuLat | imuSpiHz | imuSpiMode | imuProfile | speedSrc | speedCanLat
  | speedScaleEst | zeroSpeedT | dirSrc | gnssAgeMax | fixConfirm | ratioMin | rtkBaseMax
  | stepMax | cogSpeedMin | gyroDrift | hduMax | drTime | drDist | accU | farOrigin
  -- VALVES
  | bstSetpoint | bstIlim | cbstNom | deferMax | diagPeriod | chProfile | defDOn | defDOff
  | detWin | detKink | detChop | detBump | detMinI | rCoilMin | rCoilMax | vcDiagOff | tiedCheck
  -- PROFILES
  | prog | hdr | kpreEn | kpre
  -- LOOPS
  | loopEn | period | phase | mSrc | mOffset | mGain | mStale | measHold | spSrc | spInit
  | spChannels | spGain | spTsrc | spTx | spTy | spRamp | spStep | kp | ki | kd | dTf | dSrc | aw
  | iMin | iMax | uBias | oSink | oGain | closeOn | feLimit | feTime
  -- LOADS
  | lsEnable | loadTo | pairMode | lsPwmHz | deadtime | ocTripT | ocTries | inrushEn | inrushI2t
  | inrushTime | inrushRest | shortMv | olMa | lsDiagOff | thermMode
  -- FIELD
  | silenceTimeout | fdMode | fdFilter | fdEvt | fdWb | fdOl | aiMode | aiAvg | aiValidMin
  | aiValidMax | aiPull | aiZeroEn | sxEn | piVth | piHyst | piPull | piGlitch | piEdge | piMode
  | piGate | piZeroT | piUnit | piK | piStampTel
  -- BUSES
  | busMode | nomRate | fdEn | dataRate | tdc | term | txFifoLimit | nomatch | filtKind | filtId
  | filtMask | filtIde | filtFdf | filtSa | filtSaMask | filtAction | filtSlot | isoEn | name
  | prefAddr | arbAddr | addrPoolMin | addrPoolMax | acceptCmdAddr | bamGap | ctsMax | timeRole
  | timePeriod | timeId | corrBus | corrPgn | corrSa | speedBus | speedSlotW | speedSlotG
  | txfBus | txfId | txfIde | txfLen | txfData | txfPeriod | txfField | txfSaAuto
  -- SEXTANT
  | antennas | signals | portIf | portInv | elevMask | cn0Mask | epochRate | spacingN | spacingW
  | ddEnable | dllBw | pllBw | fllBw | tCoh | aidLoops | smoothS | t1K | t2Min | t3Code | t3Dopp
  | t3Slip | t4Base | t4Spoof | t5Cn0Max | t5Rise | t6Jump | readmit | corrSource | corrSwitch
  | corrAgeMax | antDelayA | antDelayB | tpPeriod | tpWidth | tpOffset | coastDrift | tpUncMax
  -- PLANNER
  | workSpeed | workHyst | horizon | boundaryTol | overlapTol | coverLimit | uncCover | hpuFree
  | spreadK | onMinMm | gapMinMm | vChMin | pwmHz | dutyMin | dutyMax | flowLoop | pRef | qMin
  | posloss | holdAckMax | holdMax | markQMin | chEnable | chX | chY | chW | chFlow | chSection
  | trTime | trDist
  -- MAPS
  | cellSize | prefetchLead | prefetchWidth | tileAnswerMax | missMask | missRate | missCover
  | defaultRate
  -- LIMITS
  | iPeakMax | iHoldMax | spMin | spMax | uMin | uMax | uSafe | ocLimit | inrushLimit | lsSafe
  | fdSafe | energyClass | sagMv
  deriving DecidableEq, Repr, Inhabited

/-- What a field's INDEX counts (R397). -/
inductive Scope where
  | one | arr (n : Nat) | quad | group | chan | per (outer elems : Nat) | seq | loop | sw | pair
  | pin | input | out2 | bus | filter | frame
  deriving DecidableEq, Repr, Inhabited

/-- How many values of INDEX the scope has. -/
def Scope.size : Scope → Nat
  | .one => 1 | .arr n => n | .quad => 4 | .group => 12 | .chan => 96 | .per o e => o * e
  | .seq => 12 | .loop => 32 | .sw => 16 | .pair => 8 | .pin => 32 | .input => 16 | .out2 => 2
  | .bus => 4 | .filter => 512 | .frame => 32

/-- The range a field's table gives. -/
inductive Chk where
  | rng (lo hi : Int) | step (lo hi : Int) (by_ : Int) | set (xs : List Int) | any
  | blob (maxLen : Nat)
  deriving DecidableEq, Repr, Inhabited

/-- Whether a value lies in the range. -/
def Chk.ok : Chk → Int → Bool
  | .rng lo hi, x => lo ≤ x && x ≤ hi
  | .step lo hi st, x => lo ≤ x && x ≤ hi && (x - lo) % st == 0
  | .set xs, x => xs.contains x
  | .any, _ => true
  | .blob _, _ => true

/-- Whether the range admits negative values, so that the encoding is two's complement (R397). -/
def Chk.signed : Chk → Bool
  | .rng lo _ => lo < 0
  | _ => false

/-- One row of a field table. -/
structure FldInfo where
  sec : Nat
  pos : Nat
  width : Nat
  scope : Scope
  chk : Chk
  dflt : Int
  deriving DecidableEq, Repr, Inhabited

/-- The row of each field.  Width 0 stands for the variable fields of R397.  DEDUCED: a listed decimal that sQ16.16 does not
hold exactly (a tenth of SPREAD_K, SPACING_N 0.1 and 0.2, DLL_BW 0.05 and 0.1) has its nearest code alone (log 127). -/
def Fld.info : Fld → FldInfo
  | .antAX => ⟨1, 1, 4, .one, .rng (-30000) (30000), 0⟩
  | .antAY => ⟨1, 2, 4, .one, .rng (-30000) (30000), 0⟩
  | .antAZ => ⟨1, 3, 4, .one, .rng (-30000) (30000), 0⟩
  | .antBX => ⟨1, 4, 4, .one, .rng (-30000) (30000), 0⟩
  | .antBY => ⟨1, 5, 4, .one, .rng (-30000) (30000), 0⟩
  | .antBZ => ⟨1, 6, 4, .one, .rng (-30000) (30000), 0⟩
  | .imuX => ⟨1, 7, 4, .one, .rng (-30000) (30000), 0⟩
  | .imuY => ⟨1, 8, 4, .one, .rng (-30000) (30000), 0⟩
  | .imuZ => ⟨1, 9, 4, .one, .rng (-30000) (30000), 0⟩
  | .imuRoll => ⟨1, 10, 4, .one, .rng (0) (4294967295), 0⟩
  | .imuPitch => ⟨1, 11, 4, .one, .rng (0) (4294967295), 0⟩
  | .imuYaw => ⟨1, 12, 4, .one, .rng (0) (4294967295), 0⟩
  | .implType => ⟨1, 13, 1, .one, .rng 0 1, 0⟩
  | .cpX => ⟨1, 14, 4, .one, .rng (-30000) (30000), 0⟩
  | .cpY => ⟨1, 15, 4, .one, .rng (-30000) (30000), 0⟩
  | .cpZ => ⟨1, 16, 4, .one, .rng (-30000) (30000), 0⟩
  | .hitchX => ⟨1, 17, 4, .one, .rng (-30000) (30000), -1000⟩
  | .hitchY => ⟨1, 18, 4, .one, .rng (-30000) (30000), 0⟩
  | .hitchZ => ⟨1, 19, 4, .one, .rng (-30000) (30000), -500⟩
  | .lAx => ⟨1, 20, 4, .one, .rng (500) (20000), 5000⟩
  | .cpIX => ⟨1, 21, 4, .one, .rng (-30000) (30000), 0⟩
  | .cpIY => ⟨1, 22, 4, .one, .rng (-30000) (30000), 0⟩
  | .articSrcCfg => ⟨1, 23, 1, .one, .rng 0 2, 1⟩
  | .articAi => ⟨1, 24, 4, .one, .rng (0) (15), 0⟩
  | .articGain => ⟨1, 25, 4, .one, .rng (-16777216) (16777216), 0⟩
  | .articMvMin => ⟨1, 26, 4, .one, .rng (0) (32000), 250⟩
  | .articMvMax => ⟨1, 27, 4, .one, .rng (0) (32000), 4750⟩
  | .articLimit => ⟨1, 28, 4, .one, .rng (59652324) (1073741824), 715827883⟩
  | .articTol => ⟨1, 29, 4, .one, .rng (5965232) (238609294), 35791394⟩
  | .imuMode => ⟨1, 30, 1, .one, .rng 0 2, 0⟩
  | .imuRate => ⟨1, 31, 4, .one, .rng (100) (2000), 500⟩
  | .imuLat => ⟨1, 32, 4, .one, .rng (0) (5000), 0⟩
  | .imuSpiHz => ⟨1, 33, 4, .one, .rng (1000000) (10000000), 8000000⟩
  | .imuSpiMode => ⟨1, 34, 4, .one, .set [0, 3], 3⟩
  | .imuProfile => ⟨1, 35, 0, .one, .blob 512, 0⟩
  | .speedSrc => ⟨1, 36, 1, (.arr 3), .rng 0 26, 26⟩
  | .speedCanLat => ⟨1, 37, 4, .one, .rng (0) (100000), 10000⟩
  | .speedScaleEst => ⟨1, 38, 1, .one, .rng 0 1, 1⟩
  | .zeroSpeedT => ⟨1, 39, 4, .one, .rng (50) (5000), 500⟩
  | .dirSrc => ⟨1, 40, 1, .one, .rng 0 34, 34⟩
  | .gnssAgeMax => ⟨1, 41, 4, .one, .rng (150) (2000), 250⟩
  | .fixConfirm => ⟨1, 42, 4, .one, .rng (1) (20), 3⟩
  | .ratioMin => ⟨1, 43, 4, .one, .rng (131072) (655360), 196608⟩
  | .rtkBaseMax => ⟨1, 44, 4, .one, .rng (1) (100), 40⟩
  | .stepMax => ⟨1, 45, 4, .one, .rng (10) (1000), 50⟩
  | .cogSpeedMin => ⟨1, 46, 4, .one, .rng (200) (3000), 500⟩
  | .gyroDrift => ⟨1, 47, 4, .one, .rng (11930) (11930465), 119305⟩
  | .hduMax => ⟨1, 48, 4, .one, .rng (1193046) (119304647), 11930465⟩
  | .drTime => ⟨1, 49, 4, .one, .rng (0) (10000), 4000⟩
  | .drDist => ⟨1, 50, 4, .one, .rng (0) (100000), 30000⟩
  | .accU => ⟨1, 51, 4, .one, .rng (1) (200), 10⟩
  | .farOrigin => ⟨1, 52, 4, .one, .rng (1000) (200000), 20000⟩
  | .bstSetpoint => ⟨2, 1, 4, .quad, .step (20000) (60000) 100, 24000⟩
  | .bstIlim => ⟨2, 2, 4, .quad, .step (1000) (5000) 100, 3000⟩
  | .cbstNom => ⟨2, 3, 4, .quad, .rng (22000) (100000), 47000⟩
  | .deferMax => ⟨2, 4, 4, .group, .rng (0) (2000), 600⟩
  | .diagPeriod => ⟨2, 5, 4, .group, .rng (20) (10000), 100⟩
  | .chProfile => ⟨2, 6, 4, .chan, .rng (0) (15), 0⟩
  | .defDOn => ⟨2, 7, 4, .chan, .rng (100) (3900000), 20000⟩
  | .defDOff => ⟨2, 8, 4, .chan, .rng (100) (3900000), 15000⟩
  | .detWin => ⟨2, 9, 4, .chan, .rng (4) (64), 8⟩
  | .detKink => ⟨2, 10, 4, .chan, .rng (10) (90), 50⟩
  | .detChop => ⟨2, 11, 4, .chan, .rng (2) (50), 10⟩
  | .detBump => ⟨2, 12, 4, .chan, .rng (5) (500), 20⟩
  | .detMinI => ⟨2, 13, 4, .chan, .rng (5) (500), 30⟩
  | .rCoilMin => ⟨2, 14, 4, .chan, .rng (1000) (250000), 2000⟩
  | .rCoilMax => ⟨2, 15, 4, .chan, .rng (1000) (250000), 200000⟩
  | .vcDiagOff => ⟨2, 16, 1, .chan, .rng 0 1, 1⟩
  | .tiedCheck => ⟨2, 17, 1, .chan, .rng 0 1, 1⟩
  | .prog => ⟨3, 1, 0, .seq, .blob 2048, 0⟩
  | .hdr => ⟨3, 2, 16, (.per 12 16), .any, 0⟩
  | .kpreEn => ⟨3, 3, 1, (.per 96 4), .rng 0 1, 0⟩
  | .kpre => ⟨3, 4, 4, (.per 96 4), .rng (0) (65535), 0⟩
  | .loopEn => ⟨4, 1, 1, .loop, .rng 0 1, 0⟩
  | .period => ⟨4, 2, 4, .loop, .rng (50) (1000000), 1000⟩
  | .phase => ⟨4, 3, 4, .loop, .rng (0) (999999), 0⟩
  | .mSrc => ⟨4, 4, 4, .loop, .rng (0) (4294967295), 0⟩
  | .mOffset => ⟨4, 5, 4, .loop, .rng (-2147483648) (2147483647), 0⟩
  | .mGain => ⟨4, 6, 4, .loop, .rng (-2147483648) (2147483647), 16777216⟩
  | .mStale => ⟨4, 7, 4, .loop, .rng (10) (5000), 300⟩
  | .measHold => ⟨4, 8, 4, .loop, .rng (0) (1000), 20⟩
  | .spSrc => ⟨4, 9, 1, .loop, .rng 0 3, 0⟩
  | .spInit => ⟨4, 10, 4, .loop, .rng (-2147483648) (2147483647), 0⟩
  | .spChannels => ⟨4, 11, 12, .loop, .any, 0⟩
  | .spGain => ⟨4, 12, 4, .loop, .rng (-2147483648) (2147483647), 16777216⟩
  | .spTsrc => ⟨4, 13, 1, .loop, .rng 0 48, 0⟩
  | .spTx => ⟨4, 14, 4, (.per 32 16), .rng (-2147483648) (2147483647), 0⟩
  | .spTy => ⟨4, 15, 4, (.per 32 16), .rng (-2147483648) (2147483647), 0⟩
  | .spRamp => ⟨4, 16, 4, .loop, .rng (0) (2147418112), 0⟩
  | .spStep => ⟨4, 17, 4, .loop, .rng (0) (2147418112), 0⟩
  | .kp => ⟨4, 18, 4, .loop, .rng (-2147483648) (2147483647), 0⟩
  | .ki => ⟨4, 19, 4, .loop, .rng (-2147483648) (2147483647), 0⟩
  | .kd => ⟨4, 20, 4, .loop, .rng (-2147483648) (2147483647), 0⟩
  | .dTf => ⟨4, 21, 4, .loop, .rng (0) (10000000), 0⟩
  | .dSrc => ⟨4, 22, 1, .loop, .rng 0 1, 0⟩
  | .aw => ⟨4, 23, 1, .loop, .rng 0 1, 0⟩
  | .iMin => ⟨4, 24, 4, .loop, .rng (-2147483648) (2147483647), -2147483648⟩
  | .iMax => ⟨4, 25, 4, .loop, .rng (-2147483648) (2147483647), 2147418112⟩
  | .uBias => ⟨4, 26, 4, .loop, .rng (-2147483648) (2147483647), 0⟩
  | .oSink => ⟨4, 27, 4, .loop, .rng (0) (4294967295), 0⟩
  | .oGain => ⟨4, 28, 4, .loop, .rng (-2147483648) (2147483647), 16777216⟩
  | .closeOn => ⟨4, 29, 1, .loop, .rng 0 1, 1⟩
  | .feLimit => ⟨4, 30, 4, .loop, .rng (0) (2147418112), 0⟩
  | .feTime => ⟨4, 31, 4, .loop, .rng (1) (60000), 1000⟩
  | .lsEnable => ⟨5, 1, 1, .sw, .rng 0 1, 0⟩
  | .loadTo => ⟨5, 2, 1, .sw, .rng 0 1, 0⟩
  | .pairMode => ⟨5, 3, 1, .pair, .rng 0 2, 0⟩
  | .lsPwmHz => ⟨5, 4, 4, .pair, .rng (10) (20000), 1000⟩
  | .deadtime => ⟨5, 5, 4, .pair, .step (100) (2000) 10, 250⟩
  | .ocTripT => ⟨5, 6, 4, .sw, .rng (2) (500), 20⟩
  | .ocTries => ⟨5, 7, 4, .sw, .rng (1) (15), 7⟩
  | .inrushEn => ⟨5, 8, 1, .sw, .rng 0 1, 0⟩
  | .inrushI2t => ⟨5, 9, 4, .sw, .rng (1) (100000), 2000⟩
  | .inrushTime => ⟨5, 10, 4, .sw, .rng (1) (1000), 100⟩
  | .inrushRest => ⟨5, 11, 4, .sw, .rng (100) (10000), 1000⟩
  | .shortMv => ⟨5, 12, 4, .sw, .rng (500) (6000), 2000⟩
  | .olMa => ⟨5, 13, 4, .sw, .rng (0) (1000), 50⟩
  | .lsDiagOff => ⟨5, 14, 1, .sw, .rng 0 1, 1⟩
  | .thermMode => ⟨5, 15, 1, .pair, .rng 0 1, 0⟩
  | .silenceTimeout => ⟨6, 1, 4, .one, .rng (1) (100), 10⟩
  | .fdMode => ⟨6, 2, 1, .pin, .rng 0 3, 1⟩
  | .fdFilter => ⟨6, 3, 4, .pin, .step (0) (20000) 10, 1000⟩
  | .fdEvt => ⟨6, 4, 1, .pin, .rng 0 1, 0⟩
  | .fdWb => ⟨6, 5, 1, .pin, .rng 0 1, 0⟩
  | .fdOl => ⟨6, 6, 1, .pin, .rng 0 1, 0⟩
  | .aiMode => ⟨6, 7, 1, .input, .rng 0 5, 0⟩
  | .aiAvg => ⟨6, 8, 4, .input, .set [1, 2, 4, 8, 16, 32, 64, 128, 256], 1⟩
  | .aiValidMin => ⟨6, 9, 4, .input, .rng (-2147483648) (2147483647), -2147483648⟩
  | .aiValidMax => ⟨6, 10, 4, .input, .rng (-2147483648) (2147483647), 2147483647⟩
  | .aiPull => ⟨6, 11, 1, .input, .rng 0 2, 0⟩
  | .aiZeroEn => ⟨6, 12, 1, .input, .rng 0 1, 0⟩
  | .sxEn => ⟨6, 13, 1, .out2, .rng 0 1, 1⟩
  | .piVth => ⟨6, 14, 4, .input, .step (500) (20000) 100, 2500⟩
  | .piHyst => ⟨6, 15, 4, .input, .rng (100) (2000), 500⟩
  | .piPull => ⟨6, 16, 1, .input, .rng 0 2, 0⟩
  | .piGlitch => ⟨6, 17, 4, .input, .rng (0) (100), 0⟩
  | .piEdge => ⟨6, 18, 1, .input, .rng 0 2, 0⟩
  | .piMode => ⟨6, 19, 1, .input, .rng 0 3, 2⟩
  | .piGate => ⟨6, 20, 4, .input, .rng (1) (1000), 20⟩
  | .piZeroT => ⟨6, 21, 4, .input, .rng (10) (20000), 10000⟩
  | .piUnit => ⟨6, 22, 1, .input, .rng 0 2, 2⟩
  | .piK => ⟨6, 23, 4, .input, .rng (1) (4294967295), 65536⟩
  | .piStampTel => ⟨6, 24, 1, .input, .rng 0 1, 0⟩
  | .busMode => ⟨7, 1, 1, .bus, .rng 0 1, 0⟩
  | .nomRate => ⟨7, 2, 4, .bus, .set [125, 250, 500, 1000], 250⟩
  | .fdEn => ⟨7, 3, 1, .bus, .rng 0 1, 0⟩
  | .dataRate => ⟨7, 4, 4, .bus, .set [2, 4, 5], 2⟩
  | .tdc => ⟨7, 5, 1, .bus, .rng 0 1, 0⟩
  | .term => ⟨7, 6, 1, .bus, .rng 0 1, 0⟩
  | .txFifoLimit => ⟨7, 7, 4, .bus, .rng (1) (64), 64⟩
  | .nomatch => ⟨7, 8, 1, .bus, .rng 0 1, 1⟩
  | .filtKind => ⟨7, 9, 1, .filter, .rng 0 1, 0⟩
  | .filtId => ⟨7, 10, 4, .filter, .rng (0) (536870911), 0⟩
  | .filtMask => ⟨7, 11, 4, .filter, .rng (0) (536870911), 0⟩
  | .filtIde => ⟨7, 12, 1, .filter, .rng 0 1, 0⟩
  | .filtFdf => ⟨7, 13, 1, .filter, .rng 0 2, 0⟩
  | .filtSa => ⟨7, 14, 4, .filter, .rng (0) (255), 0⟩
  | .filtSaMask => ⟨7, 15, 4, .filter, .rng (0) (255), 0⟩
  | .filtAction => ⟨7, 16, 1, .filter, .rng 0 4, 0⟩
  | .filtSlot => ⟨7, 17, 4, .filter, .rng (0) (63), 0⟩
  | .isoEn => ⟨7, 18, 1, .bus, .rng 0 1, 0⟩
  | .name => ⟨7, 19, 8, .bus, .any, 0⟩
  | .prefAddr => ⟨7, 20, 4, .bus, .rng (0) (253), 128⟩
  | .arbAddr => ⟨7, 21, 1, .bus, .rng 0 1, 1⟩
  | .addrPoolMin => ⟨7, 22, 4, .bus, .rng (128) (247), 128⟩
  | .addrPoolMax => ⟨7, 23, 4, .bus, .rng (128) (247), 247⟩
  | .acceptCmdAddr => ⟨7, 24, 1, .bus, .rng 0 1, 0⟩
  | .bamGap => ⟨7, 25, 4, .bus, .rng (50) (200), 50⟩
  | .ctsMax => ⟨7, 26, 4, .bus, .rng (1) (255), 16⟩
  | .timeRole => ⟨7, 27, 1, .bus, .rng 0 2, 0⟩
  | .timePeriod => ⟨7, 28, 4, .bus, .rng (10) (10000), 1000⟩
  | .timeId => ⟨7, 29, 4, .bus, .rng (0) (536870911), -1⟩
  | .corrBus => ⟨7, 30, 1, .one, .rng 0 3, 0⟩
  | .corrPgn => ⟨7, 31, 4, .one, .rng (0) (262143), -1⟩
  | .corrSa => ⟨7, 32, 4, .one, .rng (0) (255), 255⟩
  | .speedBus => ⟨7, 33, 1, .one, .rng 0 3, 0⟩
  | .speedSlotW => ⟨7, 34, 4, .one, .rng (0) (63), 0⟩
  | .speedSlotG => ⟨7, 35, 4, .one, .rng (0) (63), 1⟩
  | .txfBus => ⟨7, 36, 1, .frame, .rng 0 3, -1⟩
  | .txfId => ⟨7, 37, 4, .frame, .rng (0) (536870911), -1⟩
  | .txfIde => ⟨7, 38, 1, .frame, .rng 0 1, 0⟩
  | .txfLen => ⟨7, 39, 4, .frame, .rng (0) (8), 0⟩
  | .txfData => ⟨7, 40, 0, .frame, .blob 8, 0⟩
  | .txfPeriod => ⟨7, 41, 4, .frame, .rng (10) (10000), 100⟩
  | .txfField => ⟨7, 42, 2, .frame, .any, 4096⟩
  | .txfSaAuto => ⟨7, 43, 1, .frame, .rng 0 1, 0⟩
  | .antennas => ⟨8, 1, 1, .one, .rng 0 2, 0⟩
  | .signals => ⟨8, 2, 8, .one, .any, 1688875630460934⟩
  | .portIf => ⟨8, 3, 4, (.arr 4), .rng (-10000000) (10000000), 0⟩
  | .portInv => ⟨8, 4, 1, (.arr 4), .rng 0 1, 0⟩
  | .elevMask => ⟨8, 5, 4, .one, .rng (0) (357913941), 119304647⟩
  | .cn0Mask => ⟨8, 6, 4, .one, .rng (80) (160), 112⟩
  | .epochRate => ⟨8, 7, 4, .one, .set [1, 2, 5, 10, 20], 10⟩
  | .spacingN => ⟨8, 8, 4, .one, .set [6554, 13107, 32768], 13107⟩
  | .spacingW => ⟨8, 9, 4, .one, .set [32768, 65536], 65536⟩
  | .ddEnable => ⟨8, 10, 1, .one, .rng 0 1, 1⟩
  | .dllBw => ⟨8, 11, 4, .one, .set [3277, 6554, 16384, 32768, 65536, 131072], 16384⟩
  | .pllBw => ⟨8, 12, 4, .one, .set [5, 10, 15, 20, 25], 15⟩
  | .fllBw => ⟨8, 13, 4, .one, .set [2, 5, 10], 5⟩
  | .tCoh => ⟨8, 14, 4, .one, .set [1, 4, 10, 20], 10⟩
  | .aidLoops => ⟨8, 15, 1, .one, .rng 0 1, 1⟩
  | .smoothS => ⟨8, 16, 4, .one, .rng (0) (100), 0⟩
  | .t1K => ⟨8, 17, 4, .one, .rng (196608) (393216), 262144⟩
  | .t2Min => ⟨8, 18, 4, .one, .rng (10) (300), 30⟩
  | .t3Code => ⟨8, 19, 4, .one, .rng (131072) (1310720), 327680⟩
  | .t3Dopp => ⟨8, 20, 4, .one, .rng (32768) (655360), 131072⟩
  | .t3Slip => ⟨8, 21, 4, .one, .rng (1311) (13107), 3277⟩
  | .t4Base => ⟨8, 22, 4, .one, .rng (5) (100), 20⟩
  | .t4Spoof => ⟨8, 23, 4, .one, .rng (1311) (13107), 3277⟩
  | .t5Cn0Max => ⟨8, 24, 4, .one, .rng (50) (60), 55⟩
  | .t5Rise => ⟨8, 25, 4, .one, .rng (5) (20), 10⟩
  | .t6Jump => ⟨8, 26, 4, .one, .rng (2) (50), 10⟩
  | .readmit => ⟨8, 27, 4, .one, .rng (32768) (1966080), 131072⟩
  | .corrSource => ⟨8, 28, 1, .one, .rng 0 3, 2⟩
  | .corrSwitch => ⟨8, 29, 4, .one, .rng (1) (30), 5⟩
  | .corrAgeMax => ⟨8, 30, 4, .one, .rng (1) (60), 10⟩
  | .antDelayA => ⟨8, 31, 4, .one, .rng (0) (1000), 0⟩
  | .antDelayB => ⟨8, 32, 4, .one, .rng (0) (1000), 0⟩
  | .tpPeriod => ⟨8, 33, 4, .one, .set [100, 200, 500, 1000], 1000⟩
  | .tpWidth => ⟨8, 34, 4, .one, .rng (1) (500000), 100000⟩
  | .tpOffset => ⟨8, 35, 4, .one, .rng (-500000) (500000), 0⟩
  | .coastDrift => ⟨8, 36, 4, .one, .rng (66) (65536), 328⟩
  | .tpUncMax => ⟨8, 37, 4, .one, .rng (100) (10000000), 1000000⟩
  | .workSpeed => ⟨9, 1, 4, .one, .rng (0) (5000), 500⟩
  | .workHyst => ⟨9, 2, 4, .one, .rng (0) (5000), 100⟩
  | .horizon => ⟨9, 3, 4, .one, .rng (100) (4000), 1000⟩
  | .boundaryTol => ⟨9, 4, 4, .one, .rng (0) (100), 50⟩
  | .overlapTol => ⟨9, 5, 4, .one, .rng (0) (100), 50⟩
  | .coverLimit => ⟨9, 6, 4, .one, .rng (1) (3), 1⟩
  | .uncCover => ⟨9, 7, 1, .one, .rng 0 1, 0⟩
  | .hpuFree => ⟨9, 8, 4, .one, .rng (0) (500), 50⟩
  | .spreadK => ⟨9, 9, 4, .one, .set ((List.range 41).map (fun (k : Nat) => (((k * 131072 + 10) / 20 : Nat) : Int))), 131072⟩
  | .onMinMm => ⟨9, 10, 4, .one, .rng (0) (5000), 100⟩
  | .gapMinMm => ⟨9, 11, 4, .one, .rng (0) (5000), 200⟩
  | .vChMin => ⟨9, 12, 4, .one, .rng (0) (1000), 100⟩
  | .pwmHz => ⟨9, 13, 4, (.arr 4), .set [0, 10, 11, 12, 13, 14, 15, 16, 17, 18, 19, 20, 21, 22, 23, 24, 25, 26, 27, 28, 29, 30, 31, 32,
      33, 34, 35, 36, 37, 38, 39, 40, 41, 42, 43, 44, 45, 46, 47, 48, 49, 50, 51, 52, 53, 54, 55, 56,
      57, 58, 59, 60, 61, 62, 63, 64, 65, 66, 67, 68, 69, 70, 71, 72, 73, 74, 75, 76, 77, 78, 79, 80,
      81, 82, 83, 84, 85, 86, 87, 88, 89, 90, 91, 92, 93, 94, 95, 96, 97, 98, 99, 100], 0⟩
  | .dutyMin => ⟨9, 14, 4, .one, .rng (1) (50), 10⟩
  | .dutyMax => ⟨9, 15, 4, .one, .rng (50) (100), 100⟩
  | .flowLoop => ⟨9, 16, 1, .one, .rng 0 32, 0⟩
  | .pRef => ⟨9, 17, 4, .one, .rng (1) (2147483647), 65536⟩
  | .qMin => ⟨9, 18, 1, .one, .rng 0 4, 0⟩
  | .posloss => ⟨9, 19, 1, .one, .rng 0 1, 0⟩
  | .holdAckMax => ⟨9, 20, 4, .one, .rng (100) (5000), 1000⟩
  | .holdMax => ⟨9, 21, 4, .one, .rng (1000) (60000), 10000⟩
  | .markQMin => ⟨9, 22, 1, .one, .rng 0 4, 1⟩
  | .chEnable => ⟨9, 23, 1, .chan, .rng 0 1, 0⟩
  | .chX => ⟨9, 24, 4, .chan, .rng (-30000) (30000), 0⟩
  | .chY => ⟨9, 25, 4, .chan, .rng (-30000) (30000), 0⟩
  | .chW => ⟨9, 26, 4, .chan, .rng (10) (20000), 500⟩
  | .chFlow => ⟨9, 27, 4, .chan, .rng (1) (100000), 1000⟩
  | .chSection => ⟨9, 28, 4, .chan, .rng (0) (95), 0⟩
  | .trTime => ⟨9, 29, 4, .chan, .rng (0) (3900000), 0⟩
  | .trDist => ⟨9, 30, 4, .chan, .rng (-5000) (5000), 0⟩
  | .cellSize => ⟨10, 1, 4, .one, .set [25, 50, 100, 200], 100⟩
  | .prefetchLead => ⟨10, 2, 4, .one, .rng (1500) (10000), 2000⟩
  | .prefetchWidth => ⟨10, 3, 4, .one, .rng (0) (20000), 3200⟩
  | .tileAnswerMax => ⟨10, 4, 4, .one, .rng (10) (5000), 1000⟩
  | .missMask => ⟨10, 5, 1, .one, .rng 0 1, 0⟩
  | .missRate => ⟨10, 6, 1, .one, .rng 0 1, 0⟩
  | .missCover => ⟨10, 7, 1, .one, .rng 0 1, 0⟩
  | .defaultRate => ⟨10, 8, 4, .one, .rng (0) (4294967295), 0⟩
  | .iPeakMax => ⟨11, 1, 4, .chan, .rng (0) (4000), 2000⟩
  | .iHoldMax => ⟨11, 2, 4, .chan, .rng (100) (1500), 1000⟩
  | .spMin => ⟨11, 3, 4, .loop, .rng (-2147483648) (2147483647), -2147483648⟩
  | .spMax => ⟨11, 4, 4, .loop, .rng (-2147483648) (2147483647), 2147418112⟩
  | .uMin => ⟨11, 5, 4, .loop, .rng (-2147483648) (2147483647), -2147483648⟩
  | .uMax => ⟨11, 6, 4, .loop, .rng (-2147483648) (2147483647), 2147418112⟩
  | .uSafe => ⟨11, 7, 4, .loop, .rng (-2147483648) (2147483647), 0⟩
  | .ocLimit => ⟨11, 8, 4, .sw, .step (500) (12000) 100, 6000⟩
  | .inrushLimit => ⟨11, 9, 4, .sw, .step (500) (12000) 100, 12000⟩
  | .lsSafe => ⟨11, 10, 1, .sw, .rng 0 2, 0⟩
  | .fdSafe => ⟨11, 11, 1, .pin, .rng 0 2, 0⟩
  | .energyClass => ⟨11, 12, 1, .one, .rng 0 2, 2⟩
  | .sagMv => ⟨11, 13, 4, .one, .rng (9000) (45600), 9000⟩

/-- The GEOMETRY fields in position order. -/
def geometryFields : List Fld :=
  [.antAX, .antAY, .antAZ, .antBX, .antBY, .antBZ, .imuX, .imuY, .imuZ, .imuRoll, .imuPitch,
   .imuYaw, .implType, .cpX, .cpY, .cpZ, .hitchX, .hitchY, .hitchZ, .lAx, .cpIX, .cpIY,
   .articSrcCfg, .articAi, .articGain, .articMvMin, .articMvMax, .articLimit, .articTol,
   .imuMode, .imuRate, .imuLat, .imuSpiHz, .imuSpiMode, .imuProfile, .speedSrc, .speedCanLat,
   .speedScaleEst, .zeroSpeedT, .dirSrc, .gnssAgeMax, .fixConfirm, .ratioMin, .rtkBaseMax,
   .stepMax, .cogSpeedMin, .gyroDrift, .hduMax, .drTime, .drDist, .accU, .farOrigin]

/-- The VALVES fields in position order. -/
def valvesFields : List Fld :=
  [.bstSetpoint, .bstIlim, .cbstNom, .deferMax, .diagPeriod, .chProfile, .defDOn, .defDOff,
   .detWin, .detKink, .detChop, .detBump, .detMinI, .rCoilMin, .rCoilMax, .vcDiagOff,
   .tiedCheck]

/-- The PROFILES fields in position order. -/
def profilesFields : List Fld :=
  [.prog, .hdr, .kpreEn, .kpre]

/-- The LOOPS fields in position order. -/
def loopsFields : List Fld :=
  [.loopEn, .period, .phase, .mSrc, .mOffset, .mGain, .mStale, .measHold, .spSrc, .spInit,
   .spChannels, .spGain, .spTsrc, .spTx, .spTy, .spRamp, .spStep, .kp, .ki, .kd, .dTf, .dSrc,
   .aw, .iMin, .iMax, .uBias, .oSink, .oGain, .closeOn, .feLimit, .feTime]

/-- The LOADS fields in position order. -/
def loadsFields : List Fld :=
  [.lsEnable, .loadTo, .pairMode, .lsPwmHz, .deadtime, .ocTripT, .ocTries, .inrushEn,
   .inrushI2t, .inrushTime, .inrushRest, .shortMv, .olMa, .lsDiagOff, .thermMode]

/-- The FIELD fields in position order. -/
def fieldFields : List Fld :=
  [.silenceTimeout, .fdMode, .fdFilter, .fdEvt, .fdWb, .fdOl, .aiMode, .aiAvg, .aiValidMin,
   .aiValidMax, .aiPull, .aiZeroEn, .sxEn, .piVth, .piHyst, .piPull, .piGlitch, .piEdge,
   .piMode, .piGate, .piZeroT, .piUnit, .piK, .piStampTel]

/-- The BUSES fields in position order. -/
def busesFields : List Fld :=
  [.busMode, .nomRate, .fdEn, .dataRate, .tdc, .term, .txFifoLimit, .nomatch, .filtKind,
   .filtId, .filtMask, .filtIde, .filtFdf, .filtSa, .filtSaMask, .filtAction, .filtSlot,
   .isoEn, .name, .prefAddr, .arbAddr, .addrPoolMin, .addrPoolMax, .acceptCmdAddr, .bamGap,
   .ctsMax, .timeRole, .timePeriod, .timeId, .corrBus, .corrPgn, .corrSa, .speedBus,
   .speedSlotW, .speedSlotG, .txfBus, .txfId, .txfIde, .txfLen, .txfData, .txfPeriod,
   .txfField, .txfSaAuto]

/-- The SEXTANT fields in position order. -/
def sextantFields : List Fld :=
  [.antennas, .signals, .portIf, .portInv, .elevMask, .cn0Mask, .epochRate, .spacingN,
   .spacingW, .ddEnable, .dllBw, .pllBw, .fllBw, .tCoh, .aidLoops, .smoothS, .t1K, .t2Min,
   .t3Code, .t3Dopp, .t3Slip, .t4Base, .t4Spoof, .t5Cn0Max, .t5Rise, .t6Jump, .readmit,
   .corrSource, .corrSwitch, .corrAgeMax, .antDelayA, .antDelayB, .tpPeriod, .tpWidth,
   .tpOffset, .coastDrift, .tpUncMax]

/-- The PLANNER fields in position order. -/
def plannerFields : List Fld :=
  [.workSpeed, .workHyst, .horizon, .boundaryTol, .overlapTol, .coverLimit, .uncCover,
   .hpuFree, .spreadK, .onMinMm, .gapMinMm, .vChMin, .pwmHz, .dutyMin, .dutyMax, .flowLoop,
   .pRef, .qMin, .posloss, .holdAckMax, .holdMax, .markQMin, .chEnable, .chX, .chY, .chW,
   .chFlow, .chSection, .trTime, .trDist]

/-- The MAPS fields in position order. -/
def mapsFields : List Fld :=
  [.cellSize, .prefetchLead, .prefetchWidth, .tileAnswerMax, .missMask, .missRate, .missCover,
   .defaultRate]

/-- The LIMITS fields in position order. -/
def limitsFields : List Fld :=
  [.iPeakMax, .iHoldMax, .spMin, .spMax, .uMin, .uMax, .uSafe, .ocLimit, .inrushLimit, .lsSafe,
   .fdSafe, .energyClass, .sagMv]

/-- The fields of a section by its identifier in R396. -/
def sectionFields : Nat → List Fld
  | 1 => geometryFields
  | 2 => valvesFields
  | 3 => profilesFields
  | 4 => loopsFields
  | 5 => loadsFields
  | 6 => fieldFields
  | 7 => busesFields
  | 8 => sextantFields
  | 9 => plannerFields
  | 10 => mapsFields
  | 11 => limitsFields
  | _ => []

/-- The field at a position (from 1) of a section. -/
def fieldAt (sec pos : Nat) : Option Fld := if pos = 0 then none else (sectionFields sec)[pos - 1]?

end Sys2Proof
end

