-- ==== Sys2Proof/Machine/StateBase.lean ====
section
/-! DEFINITION. The module-wide state: device state, time, supplies, Saggar, the host interface,
configuration, flash and maintenance.  A field's docstring reads: name | width | rule | reset. -/

namespace Sys2Proof.Machine

/-- The device states of R30. -/
inductive DevState where
  | reset | boot | safe | standby | parked | working | manual | fault
  deriving DecidableEq, Repr, Inhabited

/-- STATE as coded in the status block (R350). -/
def DevState.code : DevState → Nat
  | .reset => 0 | .boot => 1 | .safe => 2 | .standby => 3 | .parked => 4 | .working => 5
  | .manual => 6 | .fault => 7

/-- Sextant's clock state as FT_PAIR codes it (R393). -/
inductive ClockState where
  | locked | slew | coast
  deriving DecidableEq, Repr, Inhabited

def ClockState.code : ClockState → Nat
  | .locked => 0 | .slew => 1 | .coast => 2

/-- One published FT pair (R18, R19). -/
structure FtPair where
  /-- MT_BASE | 64 | 01 R18 | 0 -/
  mtBase : Nat := 0
  /-- FT_BASE | 64 | 01 R18 | 0 -/
  ftBase : Int := 0
  /-- FT_RATE | 32 | 01 R18 | 0 -/
  ftRate : Int := 0
  deriving DecidableEq, Repr, Inhabited

/-- The readings of the voltage and temperature monitors (R485). -/
structure Readings where
  vbat : Nat := 0
  vio24 : Nat := 0
  hold : Nat := 0
  vdrv : List Nat := []
  vload : List Nat := []
  res : List Nat := []
  temps : List Int := []
  deriving DecidableEq, Repr, Inhabited

/-- Time: Machine Time, its replicas, and the FT pair in force (R10, R13, R484). -/
structure Time where
  /-- model's own: ticks since power was applied | Nat | log 2 | 0 -/
  up : Nat := 0
  /-- MT master counter | 64 | 01 R13, 00 R10 | 0 -/
  mt : Nat := 0
  /-- MT runs (BOOT onward, WHEEL clocked) | 1 | 00 R10, 01 R17 | 0 -/
  running : Bool := false
  /-- replica of each island minus the master | Int each | 01 R13, R14 | 0 -/
  replicas : List Int := List.replicate 22 0
  /-- consecutive marks each island has missed | Nat each | 01 R15 | 0 -/
  missed : List Nat := List.replicate 22 0
  /-- FT_SEQ | 32 | 19 R484 | 0 -/
  ftSeq : Word := 0
  /-- FT_VALID | 1 | 19 R484 | 0 -/
  ftValid : Bool := false
  /-- CLOCK | 2 | 19 R484 | LOCKED -/
  clock : ClockState := .locked
  /-- the FT pair in force | 160 | 19 R484 | 0 -/
  pair : FtPair := {}
  /-- the pair before it, for stamps older than MT_BASE | 160 | 01 R19 | 0 -/
  prev : FtPair := {}
  /-- pairs published whose MT_BASE lies ahead | list | 19 R484 | empty -/
  ahead : List FtPair := []
  /-- FT_UNC | 32 | 19 R484 | DESIGN CHOICE 0 (log 3) -/
  ftUnc : Nat := 0
  /-- TP_LAST_MT | 64 | 19 R484 | 0 -/
  tpLastMt : Nat := 0
  /-- the readings that the power block shows from its last refresh on | 18 × 32, 5 × 16 | 19 R485 | DESIGN CHOICE none (log 165) -/
  shown : Readings := {}
  deriving DecidableEq, Repr, Inhabited

/-- The causes that CLEAR_FAULT must find gone (R40, R445), coded in FAULT_SUMMARY (R381). -/
inductive FCause where
  | safen | brownout | lsReadback (n : Nat) | fdReadback (pin : Nat) | loopCheck (loop : Nat)
  | cls (k : Nat) | orphan
  deriving DecidableEq, Repr, Inhabited

/-- HOST_GRACE while it runs (R51). -/
structure Grace where
  start : Nat := 0
  endsAt : Nat := 0
  deriving DecidableEq, Repr, Inhabited

/-- The controller states of IEEE 1149.1, in the order that numbers them in TAP_STATE (R487, log 147). -/
inductive TapState where
  | testLogicReset | runTestIdle | selectDr | captureDr | shiftDr | exit1Dr | pauseDr | exit2Dr | updateDr
  | selectIr | captureIr | shiftIr | exit1Ir | pauseIr | exit2Ir | updateIr
  deriving DecidableEq, Repr, Inhabited

/-- The boundary-scan port (R463, R487).  Its registers shift their first element out first. -/
structure Tap where
  /-- TAP_STATE | 4 | 19 R487 | Test-Logic-Reset, TRSTN being pulled down (18 R463) -/
  st : TapState := .testLogicReset
  /-- TRSTN_LEVEL | 1 | 19 R487, 18 R463 | 0, pulled down -/
  trstn : Bool := false
  /-- the instruction in force | — | 18 R463 | PRESUMED IDCODE, as IEEE 1149.1 has it (log 147) -/
  instr : TapInstr := .idcode
  /-- the instruction register's shift stage | — | 18 R463 | DESIGN CHOICE empty (log 147) -/
  ir : List Bool := []
  /-- the shift stage of the data register that the instruction selects | — | 18 R463 | DESIGN CHOICE empty (log 147) -/
  dr : List Bool := []
  /-- what the boundary cells drive under EXTEST and CLAMP | BSR_LENGTH | 18 R463 | DESIGN CHOICE empty (log 147) -/
  cells : List Bool := []
  deriving DecidableEq, Repr, Inhabited

/-- Device state, reset latch, boot findings and identity (R30, R44, R479). -/
structure Dev where
  /-- STATE | 8 | 19 R479, 02 R30 | RESET (the register reads 1 once BOOT begins, log 4) -/
  st : DevState := .reset
  /-- CAUSE of the last transition | 8 | 19 R479 | 10 -/
  cause : Nat := 10
  /-- STATE_MT | 64 | 19 R479 | 0 -/
  stMt : Nat := 0
  /-- FAULT_SUMMARY | 16 | 19 R479, 14 R381 | 0 -/
  summary : BitVec 16 := 0
  /-- the causes recorded in this FAULT | list | 02 R40, 17 R453 | empty -/
  causes : List FCause := []
  /-- run request | 1 | 02 R34 | 0 -/
  runReq : Bool := false
  /-- a host is bound | 1 | 02 R32, R33 | 0 -/
  bound : Bool := false
  /-- HOST_GRACE running, with its start and end | 1+128 | 02 R51, 13 R350 GRACE | not running -/
  grace : Option Grace := none
  /-- ORPHAN recorded and not yet written to EVT: MT at which the grace began, MT of the record |
  2 × 64 | 02 R51 | none -/
  orphan : Option (Nat × Nat) := none
  /-- BOOT_COUNT | 32 | 02 R44, 19 R479 | DESIGN CHOICE 0 (log 3) -/
  bootCount : Word := 0
  /-- RESET_SOURCE latched always-on | 8 | 02 R44, 19 R479 | 0 power-on -/
  resetSource : Nat := 0
  /-- RESET_STATE latched always-on | 8 | 02 R44, 19 R479 | DESIGN CHOICE RESET (log 3) -/
  resetState : DevState := .reset
  /-- RESET_MT latched always-on | 64 | 02 R44, 19 R479 | DESIGN CHOICE 0 (log 3) -/
  resetMt : Nat := 0
  /-- model's own: instant the reset was asserted, in `up` ticks | Nat | 02 R41 | 0 -/
  resetUp : Nat := 0
  /-- how long RESETN, or the supply, holds this reset, in ticks | Nat | 02 R41 | 0 -/
  resetHold : Nat := 0
  /-- instant the reset source was released, in `up` ticks | Nat | 02 R489 | none -/
  released : Option Nat := none
  /-- MT at which a MODULE_RESET taken asserts its reset | 64 | 14 R381 | none -/
  resetDue : Option Nat := none
  /-- FW_SIG_FAIL | 1 | 19 R479 | 0 -/
  sigFail : Bool := false
  /-- BAR0 is ready: straps sampled and the signature check ended | 1 | 19 R478 | 0 -/
  bar0Ready : Bool := false
  /-- IMAGE_BAD | 1 | 19 R479 | 0 -/
  imageBad : Bool := false
  /-- FALLBACK: PREVIOUS 0, straps 1 | 1 | 19 R479 | 0 -/
  fallback : Bool := false
  /-- PREVIOUS_BAD of the IMAGE_BAD event | 1 | 02 R48 | 0 -/
  previousBad : Bool := false
  /-- WAKEN driven low | 1 | 13 R342 | 0 -/
  wakenLow : Bool := false
  /-- FAULTN held low by the BOOT logic | 1 | 17 R449 | 1 through RESET and BOOT -/
  bootFaultn : Bool := true
  /-- STRAP_LEVEL of ST0 to ST7 | 3 each | 19 R479, 18 R466 | strap; open (7) before sampling (log 3) -/
  straps : List Nat := List.replicate 8 7
  /-- SAGB's own levels of ST0 to ST2 | 3 each | 17 R439, 18 R467 | strap; open (log 3) -/
  strapsB : List Nat := List.replicate 3 7
  /-- STRAP_MARGINAL | 8 | 19 R479 | strap; 0 (log 3) -/
  marginal : BitVec 8 := 0
  /-- VHIO level read at the reset, mV | Nat | 16 R420 | DESIGN CHOICE 3300 (log 3) -/
  vhioMv : Nat := 3300
  /-- VARIANT: 0 SD9600-AI, 1 SD9648-AI | 8 | 19 R479 | fitted variant, 0 here (log 5) -/
  variant : Nat := 0
  /-- GRADE | 8 | 19 R479 | 0 AI -/
  grade : Nat := 0
  /-- STEP | 8 | 19 R479 | DESIGN CHOICE 1 (log 5) -/
  step : Nat := 1
  /-- FW_VERSION | 32 | 19 R479 | DESIGN CHOICE 1 (log 5) -/
  fwVersion : Nat := 1
  /-- SERIAL | 64 | 19 R479 | DESIGN CHOICE 1 (log 5) -/
  serial : Nat := 1
  tap : Tap := {}
  /-- the instant at which RESETN, held low, goes high again, in `up` ticks | Nat | 02 R41, 18 R463 | 0 -/
  resetnHigh : Nat := 0
  /-- core SRAM of C0 to C15, of which the spec gives no content: bytes that differ from 0, by address |
  16 × 256 KiB | 01 R26 | DESIGN CHOICE 0 (log 78) -/
  coreRam : List (List (Nat × Byte)) := List.replicate 16 []
  /-- the safe-state selection in force: per load switch 0 OFF 1 LOW 2 HIGH | 2 each | 02 R43, R47 | OFF -/
  lsSafe : List Nat := List.replicate 16 0
  /-- the safe-state selection in force: per field pin 0 OFF 1 ON 2 HOLD | 2 each | 02 R43, R47 | OFF -/
  fdSafe : List Nat := List.replicate 32 0
  deriving DecidableEq, Repr, Inhabited

/-- Supplies, energy and temperatures (R422 to R431, R485). -/
structure Pwr where
  /-- VBAT_MV | 32 | 19 R485 | DESIGN CHOICE 0 (log 3) -/
  vbat : Nat := 0
  /-- VIO24_MV | 32 | 19 R485 | DESIGN CHOICE 0 (log 3) -/
  vio24 : Nat := 0
  /-- HOLD_MV | 32 | 19 R485 | DESIGN CHOICE 0 (log 3) -/
  hold : Nat := 0
  /-- VDRV_MV of quadrants 0 to 3 | 32 each | 19 R485 | DESIGN CHOICE 0 (log 3) -/
  vdrv : List Nat := List.replicate 4 0
  /-- VLOAD_MV of quadrants 0 to 3 | 32 each | 19 R485 | DESIGN CHOICE 0 (log 3) -/
  vload : List Nat := List.replicate 4 0
  /-- RES_MV, reservoir of quadrants 0 to 3 | 32 each | 19 R485 | DESIGN CHOICE 0 (log 3) -/
  res : List Nat := List.replicate 4 0
  /-- VBAT_COND: SAG | 1 | 19 R485 | 0 -/
  sag : Bool := false
  /-- VBAT_COND: LOW-FIELD | 1 | 19 R485 | 0 -/
  lowField : Bool := false
  /-- VBAT_COND: BROWNOUT | 1 | 19 R485 | 0 -/
  brownout : Bool := false
  /-- VBAT_COND: over-voltage | 1 | 19 R485 | 0 -/
  overV : Bool := false
  /-- DRV_SUSP | 4 | 19 R485 | 0 -/
  drvSusp : List Bool := List.replicate 4 false
  /-- LOAD_SUSP | 4 | 19 R485 | 0 -/
  loadSusp : List Bool := List.replicate 4 false
  /-- VIO_COND: VIO_LOW | 1 | 19 R485 | 0 -/
  vioLow : Bool := false
  /-- VIO_COND: VIO_LOST | 1 | 19 R485 | 0 -/
  vioLost : Bool := false
  /-- VIO_COND: VIO24 over-voltage | 1 | 19 R485 | 0 -/
  vio24Ov : Bool := false
  /-- SAG, LOW-FIELD entered by their own qualifying time since they were last left | 1 each | 16 R422 | 0 -/
  sagTold : Bool := false
  lowTold : Bool := false
  /-- VHIO below 1.40 V: PERSTN and SAFEN treated as asserted | 1 | 16 R420 | 0 -/
  vhioLow : Bool := false
  /-- ON_HOLD | 1 | 19 R485 | 0 -/
  onHold : Bool := false
  /-- Sextant, fusion, SXA and SXB shed by a BROWNOUT and not yet restarted | 1 | 16 R423 | 0 -/
  shed : Bool := false
  /-- an internal regulator outside 5 % | 1 | 17 R445 class 8 | 0 -/
  regBad : Bool := false
  /-- HOLD above V_HOLD + 2,000 mV, charger disconnected | 1 | 17 R445 class 8 | 0 -/
  holdOv : Bool := false
  /-- C_MEAS of quadrants 0 to 3, nF | 32 each | 07 R187 | 0 until measured (log 3) -/
  cMeas : List Nat := List.replicate 4 0
  /-- C_USE of quadrants 0 to 3, nF | 32 each | 07 R187 | 0 until measured (log 3) -/
  cUse : List Nat := List.replicate 4 0
  /-- V_LIM of quadrants 0 to 3, mV | 32 each | 19 R485, 07 R187 | 0 until measured (log 3) -/
  vLim : List Nat := List.replicate 4 0
  /-- C_MEAS_H, nF | 32 | 19 R485, 16 R426 | 0 until measured (log 3) -/
  cMeasH : Nat := 0
  /-- C_USE_H, nF | 32 | 16 R426 | 0 until measured (log 3) -/
  cUseH : Nat := 0
  /-- V_HOLD, mV | 32 | 19 R485, 16 R426 | 0 until measured (log 3) -/
  vHold : Nat := 0
  /-- T_PD0 to T_PD3, then T_LOGIC, deg C | 16 each | 19 R485 | DESIGN CHOICE 25 (log 3) -/
  temps : List Int := List.replicate 5 25
  /-- OVER, per die | 5 | 19 R485 | 0 -/
  overT : List Bool := List.replicate 5 false
  deriving DecidableEq, Repr, Inhabited

/-- The 14 classes of R445, as bits 1 to 14. -/
abbrev ClassSet := BitVec 15

/-- A copy of the fired limits (R439). -/
structure LimitCopy where
  /-- I_PEAK_MAX, I_HOLD_MAX of each channel, mA | list | 17 R439 | DESIGN CHOICE empty (log 3) -/
  iPeak : List Int := []
  iHold : List Int := []
  /-- V_LIM of each quadrant, and V_HOLD, mV | list, 32 | 17 R439 | DESIGN CHOICE empty, 0 (log 3) -/
  vLim : List Int := []
  vHold : Int := 0
  /-- OC_LIMIT, INRUSH_LIMIT of each switch, mA | list | 17 R439 | DESIGN CHOICE empty (log 3) -/
  ocLimit : List Int := []
  inrushLimit : List Int := []
  /-- LS_SAFE, FD_SAFE | list | 17 R439 | DESIGN CHOICE empty (log 3) -/
  lsSafe : List Int := []
  fdSafe : List Int := []
  /-- SAG_MV, and the energy class in force | 32 each | 17 R439 | DESIGN CHOICE 0 (log 3) -/
  sagMv : Int := 0
  cls : Int := 0
  deriving DecidableEq, Repr, Inhabited

/-- One fault record (R388). -/
structure FaultRec where
  number : Word := 0
  boot : Word := 0
  mt : DWord := 0
  state : Nat := 0
  source : Nat := 0
  code : BitVec 16 := 0
  subject : BitVec 16 := 0
  data : BitVec 128 := 0
  deriving DecidableEq, Repr, Inhabited

/-- A lane's registers, from its latest exchange (R486). -/
structure LaneView where
  /-- FORCE_SAFE and FAULTN_PULL | 1 each | 19 R486 | DESIGN CHOICE 1 (log 3) -/
  force : Bool := true
  /-- SAFEN_ASSERTED | 1 | 19 R486 | DESIGN CHOICE 0 (log 3) -/
  safen : Bool := false
  /-- ST0, ST1, ST2 | 3 each | 19 R486 | DESIGN CHOICE open (log 3) -/
  straps : List Nat := [7, 7, 7]
  /-- LIMIT_CRC | 32 | 19 R486 | DESIGN CHOICE 0 (log 3) -/
  crc : Word := 0
  /-- DETECTED, SUSPENDED | 14 each | 19 R486 | 0 -/
  detected : ClassSet := 0
  suspended : ClassSet := 0
  /-- OSC_HZ | 32 | 19 R486 | DESIGN CHOICE 40,000,000 (log 3) -/
  oscHz : Nat := 40000000
  /-- MISMATCHES | 32 | 19 R486 | 0 -/
  mism : Word := 0
  /-- LAST_DETECT_MT | 64 | 19 R486 | 0 -/
  lastMt : Nat := 0
  /-- LAST_RECORD | 32 | 19 R486 | 0 -/
  lastRec : Word := 0
  deriving DecidableEq, Repr, Inhabited

/-- One Saggar lane (R439, R486). -/
structure Lane where
  /-- force-safe asserted | 1 | 17 R443 | asserted through RESET -/
  force : Bool := true
  /-- SAFEN taken as asserted, after filtering | 1 | 17 R450 | 0 -/
  safen : Bool := false
  /-- the copy of the fired limits in force, whose CRC is LIMIT_CRC | copy | 17 R439, R440 | DESIGN CHOICE empty (log 3) -/
  limits : LimitCopy := {}
  /-- limit copy received and not yet taken | copy | 17 R440 | none -/
  newLimits : Option LimitCopy := none
  /-- classes currently detected | 14 | 17 R441, R445 | 0 -/
  detected : ClassSet := 0
  /-- its oscillator as last measured against REFCLK, Hz | 32 | 17 R442 | DESIGN CHOICE 40,000,000 (log 3) -/
  oscHz : Nat := 40000000
  /-- cross-check mismatches since BOOT | 32 | 14 R380, 19 R486 | 0 -/
  mism : Word := 0
  /-- MT of its last detection, and the number of that detection's record | 64, 32 | 19 R486 | 0 -/
  lastMt : Nat := 0
  lastRec : Word := 0
  /-- always-on buffer: records not yet in flash, at most 8 | list | 17 R439, R451 | empty -/
  buffer : List FaultRec := []
  /-- its registers | block | 19 R486 | block reset -/
  view : LaneView := {}
  deriving DecidableEq, Repr, Inhabited

/-- The Saggar supervisor (R437 to R453). -/
structure Sag where
  /-- SAGA | lane | 17 R439 | lane reset -/
  a : Lane := {}
  /-- SAGB | lane | 17 R439 | lane reset -/
  b : Lane := {}
  /-- consecutive exchanges in which the lanes' fields differ | Nat | 17 R441 | 0 -/
  diff : Nat := 0
  /-- consecutive missing or bad frames, each direction | Nat | 17 R441 | 0 -/
  badFrames : Nat := 0
  /-- sequence number of the cross-check frames | Nat | 17 R441 | 0 -/
  seq : Nat := 0
  /-- MT since which every exchange has agreed | 64 | 17 R445 class 9 | 0 -/
  agreeFrom : Nat := 0
  /-- every force-safe path echoed in the last test | 1 | 17 R444, R445 | 1 -/
  pathsOk : Bool := true
  /-- the BOOT test of the force-safe paths failed | 1 | 17 R444 | 0 -/
  bootPathBad : Bool := false
  /-- detections of each class since BOOT, those of a class that has reset the module among them | 32 each | 14 R380,
  17 R446 | 0 -/
  counts : List Word := List.replicate 14 0
  /-- MT of each class's last detection | 64 each | 14 R380 | 0 -/
  lastOf : List Nat := List.replicate 14 0
  /-- a record being written by the flash controller, with its detection MT | record | 17 R451 | none -/
  writing : List (FaultRec × Nat) := []
  /-- outputs that the envelope checks have found outside what is allowed, each with the MT it was last found | list |
  17 R445 class 13, R447 | empty -/
  outside : List (EnvCheck × Nat) := []
  /-- a class R reset pending: class, and the instant of its detection in `up` ticks | 4+64 | 17 R446 | none -/
  resetPending : Option (Nat × Nat) := none
  /-- single-lane detections not yet confirmed: class, lane, MT | list | 17 R451 | empty -/
  unconfirmed : List (Nat × Nat × Nat) := []
  /-- REFCLK failed | 1 | 17 R445 class 5 | 0 -/
  refBad : Bool := false
  /-- instant since which REFCLK has been good, in `up` ticks | 64 | 17 R446 | 0 -/
  refFrom : Nat := 0
  /-- exchanges in which each clock (REFCLK, SAGA, SAGB) was the odd one out | Nat each | 17 R442 | 0 -/
  clockOdd : List Nat := [0, 0, 0]
  /-- the clock that the last detection of R442 names: 0 REFCLK, 1 SAGA, 2 SAGB | 2 | 17 R442 | none -/
  clockNamed : Option Nat := none
  deriving DecidableEq, Repr, Inhabited

/-- One ring's registers and indices (R344, R351, R480). -/
structure Ring where
  /-- RING_BASE | 64 | 19 R480 | 0 -/
  base : DWord := 0
  /-- RING_LOG2 | 4 | 19 R480 | 4 -/
  log2 : Nat := 4
  /-- RING_EN | 1 | 19 R480 | 0 -/
  en : Bool := false
  /-- RING_VEC | 5 | 19 R480 | 0 -/
  vec : Nat := 0
  /-- MOD_IDX | 32 | 13 R351 | 0 -/
  mod : Word := 0
  /-- HOST_IDX as last read | 32 | 13 R351 | 0 -/
  host : Word := 0
  /-- enabled and not yet swept: the module index becomes 0 at the next sweep | 1 | 13 R347 | 0 -/
  fresh : Bool := false
  /-- records dropped since the last record written (LOSS) | 1 | 13 R354 | 0 -/
  loss : Bool := false
  /-- consecutive failures of descriptor reads | Nat | 13 R357 | 0 -/
  fails : Nat := 0
  /-- stopped under R357; RING_ERR is the W1C bit below | 1 | 13 R357 | 0 -/
  stopped : Bool := false
  /-- RING_ERR | 1 | 19 R480 | 0 -/
  err : Bool := false
  /-- MT at which RING_ERR was last set | 64 | 19 R482 | none -/
  errAt : Option Nat := none
  deriving DecidableEq, Repr, Inhabited

/-- One MSI-X vector (R367, R480, R483). -/
structure Vec where
  /-- MOD_TIME | 10 | 19 R480 | 50 -/
  modTime : Nat := 50
  /-- MOD_COUNT | 9 | 19 R480 | 16 -/
  modCount : Nat := 16
  /-- MOD_TIME in force for the pending records | 10 | 19 R482 | 50 -/
  curTime : Nat := 50
  /-- MOD_COUNT in force for the pending records | 9 | 19 R482 | 16 -/
  curCount : Nat := 16
  /-- MSG_ADDR | 64 | 19 R483 | 0 -/
  addr : DWord := 0
  /-- MSG_DATA | 32 | 19 R483 | 0 -/
  data : Word := 0
  /-- MASK | 1 | 19 R483 | 1 -/
  mask : Bool := true
  /-- PENDING (PBA) | 1 | 19 R483 | 0 -/
  pba : Bool := false
  /-- pending records | Nat | 13 R367 | 0 -/
  count : Nat := 0
  /-- MT at which the oldest pending record was written | 64 | 13 R367 | 0 -/
  oldest : Nat := 0
  deriving DecidableEq, Repr, Inhabited

/-- One event waiting or written (R385). -/
structure Evt where
  code : BitVec 16 := 0
  subject : BitVec 16 := 0xFFFF
  mt : DWord := 0
  data : BitVec 128 := 0
  urgent : Bool := false
  deriving DecidableEq, Repr, Inhabited

/-- One telemetry record formed and waiting (R366): its class (0 FUSION to 6 COUNT, 7 TIME), the MT
it was formed at, and its descriptors with FLAGS and TEL_SEQ still 0. -/
structure Tel where
  cls : Nat := 0
  formed : Nat := 0
  descs : List Desc := []
  deriving DecidableEq, Repr, Inhabited

/-- The writes the module issues to host memory and to the link, in order (R353). -/
inductive HostWrite where
  /-- every descriptor of a record, each at its address (R351), except the first 4 bytes of its header -/
  | body (ring : Nat) (idx : Word) (ds : List (DWord × Desc))
  /-- those 4 bytes, which hold TYPE, FLAGS and the sequence field -/
  | head (ring : Nat) (idx : Word) (addr : DWord) (w : Word)
  /-- the status block at ST_BASE (R350): MOD_IDX[0..15], ST_MT, BOOT_COUNT, STATE, GRACE, EVT_DROPPED,
  TEL_DROPPED and SWEEPS -/
  | status (addr : DWord) (mods : List Word) (mt : DWord) (boot : Word) (state : Nat) (grace : Bool)
      (evtDropped telDropped sweeps : Word)
  /-- an MSI-X message -/
  | msix (v : Nat) (addr : DWord) (data : Word)
  /-- a report, as 32-bit words at REPORT_ADDR (R380) -/
  | report (addr : DWord) (ws : List Word)
  /-- other bytes at an address the host named -/
  | bytes (addr : DWord) (bs : List Byte)
  /-- the DONE write of the CANTX or TILE descriptor at an address: its bits 255:64, the host's own fields as 0 -/
  | done (ring : Nat) (idx : Word) (addr : DWord) (res : BitVec 192)
  /-- the read of the doorbell block at DB_BASE that a sweep issues (R356) -/
  | doorbellRead (addr : DWord)
  /-- the read of `n` descriptors of a ring from an index and its address (R356) -/
  | descRead (ring : Nat) (idx : Word) (addr : DWord) (n : Nat)
  /-- the read of a host buffer that a command, a tile answer or a CAN message names -/
  | bufferRead (addr : DWord)
  /-- a Configuration Request answered with Request Retry Status (R49) -/
  | configRetry
  /-- a BAR0 access completed with Unsupported Request (R343) -/
  | unsupported
  deriving DecidableEq, Repr, Inhabited

/-- A command taken and not yet completed (R360): the command, its CMD index, and what it still
waits for. -/
structure Waiting where
  cmd : Instr
  op : Byte := 0
  h : Hdr := {}
  idx : Word := 0
  /-- it waits for the DMA of a host buffer -/
  dma : Bool := false
  /-- values the command has fixed so far -/
  aux : List Nat := []
  /-- taken before a host-interface reset: its completion is discarded (R342) -/
  silent : Bool := false
  /-- MT at which it was judged and began to wait -/
  mt : Nat := 0
  deriving DecidableEq, Repr

/-- Two views of one taken command. -/
def Waiting.same (w x : Waiting) : Bool := w.idx == x.idx && w.silent == x.silent

/-- The selection of TEL_SELECT (R365). -/
structure TelSel where
  /-- on, per class FUSION to COUNT | 7 | 13 R364 | the defaults at BIND -/
  on : BitVec 7 := 0b1110111
  /-- decimation per class | 16 each | 13 R364 | the defaults at BIND -/
  decs : List Nat := [10, 1, 1, 1, 10, 1, 1]
  /-- TEL_AGE_MAX, ms | 8 | 13 R365 | 10 -/
  age : Nat := 10
  deriving DecidableEq, Repr, Inhabited

/-- The host interface (R340 to R369, R480). -/
structure HostIf where
  /-- the link is in L0 | 1 | 13 R340, R342 | 0 -/
  link : Bool := false
  /-- Bus Master Enable | 1 | 13 R341 | DESIGN CHOICE 0, the PCI Express reset value (log 3) -/
  bme : Bool := false
  /-- Memory Space Enable | 1 | 13 R341 | DESIGN CHOICE 0, the PCI Express reset value (log 3) -/
  mse : Bool := false
  /-- the function is in D0 | 1 | 13 R341 | 1 -/
  d0 : Bool := true
  /-- Bus Master Enable was 0, or the function out of D0, since the last sweep began | 1 | 19 R482 | 0 -/
  paused : Bool := false
  /-- Function Mask of the MSI-X capability | 1 | 13 R368 | DESIGN CHOICE 0, the PCI Express reset value (log 3) -/
  fmask : Bool := false
  /-- DB_BASE | 64 | 19 R480 | 0 -/
  dbBase : DWord := 0
  /-- ST_BASE | 64 | 19 R480 | 0 -/
  stBase : DWord := 0
  /-- POLL_PERIOD | 7 | 19 R480 | 4 -/
  poll : Nat := 4
  /-- MT of the last POLL_PERIOD write | 64 | 19 R482 | 0 -/
  pollAt : Nat := 0
  /-- the sweep grid that POLL_PERIOD replaces at the first multiple of its own after that write | 7 | 19 R482 | 4 -/
  grid : Nat := 4
  /-- HB_TIMEOUT | 13 | 19 R480 | 250 -/
  hbTimeout : Nat := 250
  /-- HOST_GRACE | 11 | 19 R480, 18 R469 | strap (200 with ST4 open) -/
  hostGrace : Nat := 200
  /-- REG_LOCKED | 1 | 19 R480 | 0 -/
  regLocked : Bool := false
  /-- MT at which REG_LOCKED was last set | 64 | 19 R482 | none -/
  lockedAt : Option Nat := none
  /-- DB_READ_ERR | 1 | 19 R480 | 0 -/
  dbErr : Bool := false
  /-- MT at which DB_READ_ERR was last set | 64 | 19 R482 | none -/
  dbErrAt : Option Nat := none
  /-- rings 0 to 15 | ring | 13 R345 | ring reset -/
  rings : List Ring := List.replicate 16 {}
  /-- vectors 0 to 31 | vector | 13 R340 | vector reset -/
  vecs : List Vec := List.replicate 32 {}
  /-- HEARTBEAT of the previous sweep | 32 | 13 R356 | none yet -/
  hbWord : Option Word := none
  /-- MT of the last heartbeat | 64 | 02 R50 | 0 -/
  lastHb : Nat := 0
  /-- a sweep is in progress | 1 | 13 R355 | 0 -/
  sweeping : Bool := false
  /-- MT at which the last sweep started | 64 | 13 R355 | none -/
  lastSweep : Option Nat := none
  /-- a CPL write has asked for a further sweep | 1 | 13 R355 | 0 -/
  extraSweep : Bool := false
  /-- FAULT was entered during the sweep in progress: its commands are discarded | 1 | 02 R35 | 0 -/
  discard : Bool := false
  /-- consecutive doorbell reads that ended in error | Nat | 13 R357 | 0 -/
  dbFails : Nat := 0
  /-- SWEEPS | 32 | 13 R350 | 0 -/
  sweeps : Word := 0
  /-- a module index changed since the last status block | 1 | 13 R350 | 0 -/
  idxChanged : Bool := false
  /-- MT of the last status block write | 64 | 13 R350 | 0 -/
  lastStatus : Nat := 0
  /-- the event queue, at most 256, oldest first | list | 13 R362 | empty -/
  events : List Evt := []
  /-- EVT_SEQ | 16 | 14 R385 | 0 -/
  evtSeq : BitVec 16 := 0
  /-- the telemetry buffer, at most 64 KiB, oldest first | list | 13 R366 | empty -/
  tel : List Tel := []
  /-- the TIME queue, at most 64, oldest first | list | 13 R366 | empty -/
  telTime : List Tel := []
  /-- TEL_SEQ | 16 | 14 R389 | 0 -/
  telSeq : BitVec 16 := 0
  /-- telemetry records dropped, per class | 32 each | 13 R366 | 0 -/
  telDrops : List Word := List.replicate 8 0
  /-- TEL_SELECT settings | 7+112+8 | 13 R365 | the defaults -/
  telSel : TelSel := {}
  /-- MT at which a record type was last formed | 64 each | 13 R364 | empty -/
  telAt : List (Nat × Nat) := []
  /-- a host-interface reset has been, and no BIND since | 1 | 13 R342 | 0 -/
  away : Bool := false
  /-- decimation counts, per record type | Nat each | 14 R389 | 0 -/
  telCount : List (Nat × Nat) := []
  /-- commands taken and not yet completed, oldest first | list | 13 R360 | empty -/
  outstanding : List Waiting := []
  /-- completions of commands that CPL could not take yet, each with its IRQ, oldest first | list | 13 R360 | empty -/
  heldCpl : List (Desc × Bool) := []
  /-- model's own: what the module has formed for the host, oldest first | list | 13 R353 | empty -/
  out : List HostWrite := []
  /-- writes the link has not taken yet, each behind its precedence | list | 13 R363 | empty -/
  queue : List (Nat × HostWrite) := []
  /-- DMA reads the link has not taken yet, each behind its precedence | list | 13 R363 | empty -/
  reads : List (Nat × HostWrite) := []
  /-- precedence of the write formed last | 4 | 13 R363 | 1 -/
  lastPrec : Nat := 1
  /-- model's own: what the link has taken, in its order | list | 13 R363 | empty -/
  sent : List HostWrite := []
  /-- model's own: the number of the next free value of the link's load | Nat | 13 R363 | DESIGN CHOICE 0 (log 112) -/
  linkN : Nat := 0
  deriving DecidableEq, Repr, Inhabited

/-- One physical configuration slot with its journal marks (R400, R401). -/
structure Slot where
  /-- FILLED | 1 | 15 R401 | DESIGN CHOICE 0, as manufactured (log 6) -/
  filled : Bool := false
  /-- the image bytes | up to 1 MiB | 15 R396 | empty (log 6) -/
  image : List Byte := []
  /-- digest of the content | 64 | 15 R398 | 0 (log 6) -/
  digest : DWord := 0
  /-- generation it was fired under | 32 | 15 R402 | 0 (log 6) -/
  gen : Word := 0
  /-- BOOT_COUNT at that firing | 32 | 15 R401 | 0 (log 6) -/
  boot : Word := 0
  /-- the flash digest check found it bad (class 4) | 1 | 17 R445 | 0 -/
  bad : Bool := false
  /-- its image failed the check of BOOT | 1 | 15 R400 | 0 -/
  bootBad : Bool := false
  deriving DecidableEq, Repr, Inhabited

/-- The roles of the slots (R400). -/
structure Roles where
  staged : Nat := 0
  active : Nat := 1
  previous : Nat := 2
  deriving DecidableEq, Repr, Inhabited

/-- One journal record (R401). -/
structure JRec where
  seq : Word := 0
  /-- 0 staging, 1 firing, 2 rollback -/
  op : Nat := 0
  roles : Roles := {}
  marks : List (Bool × DWord × Word × Word) := []
  nextGen : Word := 1
  /-- CRC-32 over the rest, as it stands in flash -/
  crc : Word := 0
  deriving DecidableEq, Repr, Inhabited

/-- Field values of an image: its records, by field and INDEX, and its variable fields. -/
structure CfgVals where
  vals : List (Fld × Nat × Int) := []
  blobs : List (Fld × Nat × List Byte) := []
  deriving DecidableEq, Repr, Inhabited

/-- Which image is in force. -/
inductive InForce where
  | straps | slot (n : Nat)
  deriving DecidableEq, Repr, Inhabited

/-- A firing or rollback in progress (R406). -/
structure Firing where
  rollback : Bool := false
  start : Nat := 0
  /-- the slot whose content is fired -/
  src : Nat := 0
  /-- the commit record has been written -/
  committed : Bool := false
  deriving DecidableEq, Repr, Inhabited

/-- Configuration slots, journal, and the values in force (R396 to R409). -/
structure Cfg where
  /-- the three physical slots | 3 × 1 MiB | 01 R27, 15 R400 | empty (log 6) -/
  slots : List Slot := List.replicate 3 {}
  /-- roles | 3 × 2 | 15 R400 | slots 0, 1, 2 (log 6) -/
  roles : Roles := {}
  /-- the journal's records, oldest first | list | 15 R401 | empty (log 6) -/
  journal : List JRec := []
  /-- place of the next journal record, 0 to 1023 | Nat | 15 R401 | 0 (log 6) -/
  jpos : Nat := 0
  /-- next generation number | 32 | 15 R402 | 1 -/
  nextGen : Word := 1
  /-- which image is in force | — | 02 R48, 15 R400 | strap defaults -/
  inForce : InForce := .straps
  /-- ACTIVE_GEN | 32 | 19 R479 | 0 -/
  gen : Word := 0
  /-- ACTIVE_DIGEST | 64 | 19 R479 | 0 -/
  digest : DWord := 0
  /-- the values in force | records | 15 R397 | none: every field at its default -/
  vals : CfgVals := {}
  /-- a firing or rollback in progress | — | 15 R406 | none -/
  firing : Option Firing := none
  /-- a fired image whose VALVES, MAPS and PLANNER values wait for the next planner cycle start |
  records | 15 R408 | none -/
  newPlan : Option CfgVals := none
  deriving DecidableEq, Repr, Inhabited

/-- One calibration entry of a channel under its profile key (R199, R414). -/
structure CalEntry where
  ch : Nat := 0
  key : Word := 0
  dOn : Option (Nat × Nat) := none
  dOff : Option (Nat × Nat) := none
  deriving DecidableEq, Repr, Inhabited

/-- Flash content other than the configuration slots (R27). -/
structure Flash where
  /-- firmware partition reads good | 1 | 02 R48, 17 R445 | 1 -/
  fwOk : Bool := true
  /-- fault records, oldest first | list | 14 R388 | empty (log 6) -/
  records : List FaultRec := []
  /-- NUMBER of the next record | 32 | 14 R388 | 1 (log 6) -/
  nextRec : Word := 1
  /-- calibration store: valve sweep results | list | 01 R27, 15 R414 | empty (log 6) -/
  cal : List CalEntry := []
  /-- calibration store: AI_ZERO of AI0 to AI15 | 32 each | 11 R300 | 0 (log 6) -/
  aiZero : List Int := List.replicate 16 0
  /-- calibration store: ARTIC_ZERO | 32 | 04 R108 | 0 (log 6) -/
  articZero : Int := 0
  /-- calibration store: measured CBST values, nF | 32 each | 01 R27, 07 R187 | 0 (log 6) -/
  cbst : List Nat := List.replicate 4 0
  /-- calibration store: C_USE in nF and V_LIM in mV of each quadrant | 32 each | 07 R187 | 0 (log 6) -/
  cbstUse : List Nat := List.replicate 4 0
  cbstLim : List Nat := List.replicate 4 0
  deriving DecidableEq, Repr, Inhabited

/-- What a valve sweep knows of one channel (R414): the actuations still to come, and the samples of those so
far, in ticks. -/
structure Swept where
  ch : Nat := 0
  left : Nat := 0
  /-- openings DETECTED -/
  detected : Nat := 0
  /-- their usable samples (R197) -/
  opens : List Nat := []
  closes : List Nat := []
  deriving DecidableEq, Repr, Inhabited

/-- One running activity: MAINT_START's 1 to 6, or 7 firing, 8 rollback, 9 staging, 10 record
erase, 11 journal erase (R410). -/
structure Activity where
  code : Nat := 1
  tag : BitVec 16 := 0
  /-- CMD index of its MAINT_START -/
  idx : Word := 0
  loop : Nat := 0
  start : Nat := 0
  /-- parameters in force: for a sweep its actuations, for a tune its words -/
  params : List Int := []
  /-- a parameter was clamped -/
  clamped : Bool := false
  /-- RESULT_ADDR -/
  result : DWord := 0
  /-- the parameter block has been read -/
  ready : Bool := true
  /-- loops claimed -/
  loops : List Nat := []
  /-- SENSE claimed by a tune (R411) -/
  sense : Bool := false
  /-- the channels of a sweep, in channel order (R414) -/
  swept : List Swept := []
  deriving DecidableEq, Repr, Inhabited

end Sys2Proof.Machine
end

