-- ==== Sys2Proof/Machine/StateValve.lean ====
section
/-! DEFINITION. The state of the valve drive: channels with their delay filters, groups, quadrants,
and the sequencer contexts and stores (07, 08).  A field's docstring reads: name | width | rule |
reset. -/

namespace Sys2Proof.Machine

/-- The context states of R228, coded as SEQ_STATUS codes them. -/
inductive CtxSt where
  | idle | deferred | claim | run | hold | ended | decay | latched
  deriving DecidableEq, Repr, Inhabited

def CtxSt.code : CtxSt → Nat
  | .idle => 0 | .deferred => 1 | .claim => 2 | .run => 3 | .hold => 4 | .ended => 5 | .decay => 6
  | .latched => 7

/-- The outcomes of R196. -/
inductive Outc where
  | detected | miss | cut
  deriving DecidableEq, Repr, Inhabited

/-- The detectors of R195. -/
inductive Det where
  | rise | chop | bump
  deriving DecidableEq, Repr, Inhabited

/-- What the regulator of a channel was set to from an instant on (R218, R220): the MT, whether the channel
conducts, its target within the cap, and its chop mode with PAR. -/
structure Reg where
  at_ : Nat := 0
  on : Bool := false
  target : Nat := 0
  mode : Nat := 0
  par : Nat := 0
  deriving DecidableEq, Repr, Inhabited

/-- Where a regulator stands (R218): the setting it follows, its switch on or off, the MT it went on at and the
MT it went off at, and whether it has chopped under this setting. -/
structure Chop where
  of_ : Nat := 0
  on : Bool := true
  onAt : Nat := 0
  offAt : Nat := 0
  chopped : Bool := false
  deriving DecidableEq, Repr, Inhabited

/-- An arrival window (R221): its detector, the MT it opened at, and the MT of its timeout. -/
structure Window where
  det : Det := .rise
  opened : Nat := 0
  timeout : Option Nat := none
  /-- the regulator's chop phase when it opened -/
  chop : Chop := {}
  deriving DecidableEq, Repr, Inhabited

/-- What a context in RUN waits for (R217). -/
inductive Wait where
  /-- the next boundary -/
  | no
  /-- a current at or above (below, with `le`) `thr` mA on a sample at or after `from_` -/
  | current (le : Bool) (thr from_ : Nat) (timeout : Option Nat)
  /-- the given MT -/
  | till (mt : Nat)
  deriving DecidableEq, Repr, Inhabited

/-- One channel context of a sequencer (R213, R215). -/
structure Ctx where
  /-- context state | 3 | 08 R228 | IDLE -/
  st : CtxSt := .idle
  /-- address | 9 | 08 R213 | 0 -/
  pc : Nat := 0
  /-- MT that anchors the cycle grid | 64 | 08 R214 | 0 -/
  base : Nat := 0
  /-- MT of the boundary at which the next instruction executes | 64 | 08 R214 | 0 -/
  next : Nat := 0
  /-- K0 to K3 | 16 each | 08 R213 | DESIGN CHOICE 0 (log 3) -/
  ks : List Nat := [0, 0, 0, 0]
  /-- DET | 1 | 08 R213 | 0 -/
  det : Bool := false
  /-- TO | 1 | 08 R213 | 0 -/
  toF : Bool := false
  /-- DRV | 1 | 08 R213 | 0 -/
  drv : Bool := false
  /-- LOWB | 1 | 08 R213 | 0 -/
  lowb : Bool := false
  /-- source asked for: 0 NONE, 1 DRIVE, 2 BOOST | 2 | 08 R215 | NONE -/
  src : Nat := 0
  /-- the channel holds a granted boost-sourced phase | 1 | 08 R220 | 0 -/
  granted : Bool := false
  /-- requested target, mA | 12 | 08 R218 | 0 -/
  target : Nat := 0
  /-- chop mode 0 FULL, 1 HYST, 2 TOFF, and PAR | 2+2 | 08 R218 | FULL -/
  mode : Nat := 0
  par : Nat := 0
  /-- decay mode 0 SLOW, 1 FAST-RECOVER, 2 FAST-CLAMP | 2 | 08 R215, 07 R193 | SLOW -/
  decay : Nat := 0
  /-- decay in progress forced into FAST-CLAMP | 1 | 07 R194 | 0 -/
  clamped : Bool := false
  /-- the coil current still decays after an OFF release or END | 1 | 08 R229 | 0 -/
  decaying : Bool := false
  /-- what the context waits for | — | 08 R217 | nothing -/
  wait : Wait := .no
  /-- consecutive instructions without a wait | Nat | 08 R230 | 0 -/
  runLen : Nat := 0
  /-- decay mode in force up to the MT of the next sample, after a DECAY during a decay | 2, 64 | 08 R217 | none -/
  decayWas : Option (Nat × Nat) := none
  /-- a FAST-RECOVER decay that has brought the reservoir to V_LIM goes on in FAST-CLAMP | 1 | 07 R194 | 0 -/
  turned : Bool := false
  /-- presets of K0 to K3 taken at the profile start | 16 each | 08 R227, R233 | 0 -/
  pre : List Nat := [0, 0, 0, 0]
  /-- MT from which the switch may conduct (the 100 ns of R183 included) | 64 | 08 R220 | none -/
  conductAt : Option Nat := none
  /-- regulator settings of this actuation, oldest first; the last alone once the opening is decided | list | 08 R218, R221 | empty -/
  regs : List Reg := []
  /-- chop phase on the last sample observed | — | 08 R218 | on -/
  chop : Chop := {}
  /-- MT since which it is ON with a target of 100 mA or more on a sourced rail | 64 | 07 R206 | none -/
  loadFrom : Option Nat := none
  /-- the channel has conducted in this actuation | 1 | 08 R228 | 0 -/
  conducted : Bool := false
  /-- MT the boost claim was requested at | 64 | 07 R202 | none -/
  claimAt : Option Nat := none
  /-- MT the boost-sourced phase began | 64 | 08 R220 | none -/
  phaseAt : Option Nat := none
  /-- duration of this actuation's boost-sourced phase | 64 | 07 R200 | none -/
  phaseLen : Option Nat := none
  /-- opening window | — | 08 R221 | closed -/
  openWin : Option Window := none
  /-- the opening feature may still be confirmed after the OFF release (R221) -/
  confirm : Bool := false
  /-- MT up to which it may be | 64 | 07 R196 | 0 -/
  confirmTo : Nat := 0
  /-- closing detector armed: its CNT timeout in ticks (0 none) | — | 08 R221 | not armed -/
  closeArm : Option Nat := none
  /-- closing window | — | 08 R221 | closed -/
  closeWin : Option Window := none
  /-- opening outcome | — | 07 R196 | undecided -/
  openOut : Option Outc := none
  /-- closing outcome | — | 07 R196 | undecided -/
  closeOut : Option Outc := none
  /-- opening stamp | 64 | 07 R196 | 0 -/
  openMt : Nat := 0
  /-- closing stamp | 64 | 07 R196 | 0 -/
  closeMt : Nat := 0
  /-- ON release MT | 64 | 07 R197 | 0 -/
  onMt : Nat := 0
  /-- MT of the OFF release or END from which the closing sample counts | 64 | 07 R197, 08 R224 | none -/
  offMt : Option Nat := none
  /-- D_OFF in force at that OFF release or END | — | 06 R171 | 0 -/
  dOffAt : Rat := 0
  /-- the OFF has been released | 1 | 08 R229 | 1 -/
  offDone : Bool := true
  /-- MT since which an ON is DEFERRED | 64 | 08 R228 | none -/
  deferAt : Option Nat := none
  /-- deferral for MIN_OFF, decay or suspension, and for the rail, ticks | 64 each | 07 R197 | 0 -/
  deferOff : Nat := 0
  deferRail : Nat := 0
  /-- LOW_BOOST, DRIVE_PEAK, SELF_END of this actuation | 1 each | 07 R200 | 0 -/
  lowBoost : Bool := false
  drivePeak : Bool := false
  selfEnd : Bool := false
  /-- OUTLIER: a sample of this actuation was one | 1 | 07 R198, R200 | 0 -/
  outlier : Bool := false
  /-- an actuation is under way or not yet reported in full | 1 | 07 R200 | 0 -/
  act : Bool := false
  /-- TARGET_CLAMPED has been counted for a grant that was taken back on its tick | 1 | 07 R191, R201 | 0 -/
  clampDone : Bool := false
  deriving DecidableEq, Repr, Inhabited

/-- An actuation report (R200), as the planner core receives it. -/
structure Report where
  ch : Nat := 0
  onMt : Nat := 0
  offMt : Option Nat := none
  /-- D_OFF in force at the OFF release or END -/
  dOffAt : Rat := 0
  deferOff : Nat := 0
  deferRail : Nat := 0
  boost : Bool := false
  phaseLen : Option Nat := none
  openOut : Option Outc := none
  openMt : Nat := 0
  closeOut : Option Outc := none
  closeMt : Nat := 0
  lowBoost : Bool := false
  drivePeak : Bool := false
  selfEnd : Bool := false
  /-- D_ON, sigma_ON, D_OFF and sigma_OFF as they stand, the fallback and OUTLIER -/
  dOn : Rat := 0
  sOn : Rat := 0
  dOff : Rat := 0
  sOff : Rat := 0
  fallback : Bool := false
  outlier : Bool := false
  /-- the ON was cancelled before it conducted, or discarded under R24: only its deferral is reported -/
  cancelled : Bool := false
  /-- it is sent at the closing's decision -/
  closing : Bool := false
  deriving DecidableEq, Repr, Inhabited

/-- A consecutive run of outliers on one side of D (R198). -/
structure Outliers where
  above : Bool := false
  xs : List Rat := []
  deriving DecidableEq, Repr, Inhabited

/-- One valve channel (R188 to R209). -/
structure Chan where
  /-- latched OFF | 1 | 07 R208 | 0 -/
  latched : Bool := false
  /-- finding that latched it | 8 | 14 R380 | 0 -/
  finding : Nat := 0
  /-- MT of its last latch | 64 | 09 R238, R252 | none -/
  latchMt : Option Nat := none
  /-- default-delay fallback | 1 | 07 R199 | 1 -/
  fallback : Bool := true
  /-- D_ON, ticks | — | 07 R198 | DEF_D_ON at BOOT; 5,000,000 -/
  dOn : Rat := 5000000
  /-- sigma_ON, ticks | — | 07 R198 | a tenth of D_ON -/
  sOn : Rat := 500000
  /-- D_OFF, ticks | — | 07 R198 | DEF_D_OFF at BOOT; 3,750,000 -/
  dOff : Rat := 3750000
  /-- sigma_OFF, ticks | — | 07 R198 | a tenth of D_OFF -/
  sOff : Rat := 375000
  /-- consecutive opening MISSes | Nat | 07 R199 | 0 -/
  missOn : Nat := 0
  /-- consecutive closing MISSes | Nat | 07 R199 | 0 -/
  missOff : Nat := 0
  /-- outlier run of the openings | — | 07 R198 | empty -/
  outOn : Outliers := {}
  /-- outlier run of the closings | — | 07 R198 | empty -/
  outOff : Outliers := {}
  /-- the last actuation was good in the sense of R199 | 1 | 07 R199 | 0 -/
  goodLast : Bool := false
  /-- last COIL_R, milliohm | 32 | 14 R391 | 0 -/
  coilR : Nat := 0
  /-- last current sample, mA | 32 | 07 R192 | 0 -/
  ma : Nat := 0
  /-- actuations, DETECTED openings and closings, MISS openings and closings, CUT, OUTLIER,
  EXCLUDED_DRIVE, LOW_BOOST, DRIVE_PEAK, SELF_END, LATE | 32 each | 14 R391 | 0 -/
  counts : List Nat := List.replicate 12 0
  /-- ON_REDUNDANT, OFF_REDUNDANT, SELF_END, SEQ_TRAP, MARK_DROP | 32 each | 08 R232 | 0 -/
  seqCounts : List Word := List.replicate 5 0
  /-- due MT of the last LATE edge, and its ticks | 64 each | 01 R23 | none yet -/
  lateBy : Option (Nat × Nat) := none
  /-- edges dropped while latched | 32 | 07 R209 | 0 -/
  dropped : Word := 0
  /-- MT at which the last decay ended (MIN_OFF counts from it) | 64 | 08 R229 | none yet -/
  idleAt : Option Nat := none
  /-- MT of the last off-state test | 64 | 07 R205 | none yet -/
  testedAt : Option Nat := none
  /-- DIAG_STARVED raised since the last test | 1 | 07 R205 | 0 -/
  starved : Bool := false
  /-- ON and OFF release MTs of the last three actuations, newest first | 64 each | 07 R207 | empty -/
  lastActs : List (Nat × Nat) := []
  /-- last 8 boost-sourced phase durations | 64 each | 07 R202 | empty -/
  phases : List Nat := []
  /-- KPRE_EN and KPRE in force from SEQ_SET_K | 4 × (1+16) | 08 R233 | image values -/
  kover : List (Option (Bool × Nat)) := List.replicate 4 none
  /-- the context | — | 08 R213 | IDLE -/
  ctx : Ctx := {}
  deriving DecidableEq, Repr, Inhabited

/-- One MARK record (R222). -/
structure Mark where
  ch : Nat := 0
  code : Nat := 0
  evt : Bool := false
  value : Nat := 0
  mt : Nat := 0
  deriving DecidableEq, Repr, Inhabited

/-- One edge (R22, R168): its channel, kind, due MT, the flags of PLAN_STATUS and its profile. -/
structure Edge where
  ch : Nat := 0
  on : Bool := false
  due : Nat := 0
  /-- DEFAULT_DELAY, LEAD_CLIPPED, MINOFF_SHIFT, RATE_LOW, RATE_HIGH -/
  flags : BitVec 5 := 0
  /-- SHIFT, ticks -/
  shift : Int := 0
  /-- lateness R155 has fixed, ticks -/
  late : Nat := 0
  /-- delay that MINOFF_SHIFT records, ticks (R163) -/
  minoff : Nat := 0
  /-- 0 a boundary edge of R162, 1 a grid edge of R166, 3 a grid edge in MANUAL, 2 any other -/
  kind : Nat := 2
  /-- valve profile selected for the channel, on an ON (R169) -/
  profile : Nat := 0
  deriving DecidableEq, Repr, Inhabited

/-- One valve group: rail, claim, MARK buffer, handed-over edges and store (R183, R201, R213). -/
structure Group where
  /-- rail source 0 NONE, 1 DRIVE, 2 BOOST | 2 | 07 R183 | NONE -/
  rail : Nat := 0
  /-- group fault latched | 1 | 07 R208 | 0 -/
  fault : Bool := false
  /-- RAIL_OVERCURRENT and RAIL_OVERLOAD counts | 32 each | 07 R185 | 0 -/
  ocCount : Word := 0
  olCount : Word := 0
  /-- holder of the boost claim | 3 | 07 R201 | none -/
  holder : Option Nat := none
  /-- waiting requests, channel and MT, longest first | list | 07 R201 | empty -/
  queue : List (Nat × Nat) := []
  /-- MT of the end of the last boost-sourced phase | 64 | 07 R183, R201 | none -/
  boostEnd : Option Nat := none
  /-- the last grant: the channel, its MT, and the context before it, for a request of the same tick that comes first | — | 07 R201 | none -/
  took : Option (Nat × Nat × Ctx) := none
  /-- MT of the last release in the group or change of its rail source, which no running off-state test outlasts | 64 | 07 R205 | none -/
  stirred : Option Nat := none
  /-- MARK buffer, at most 64 | list | 08 R222 | empty -/
  marks : List Mark := []
  /-- handed-over edge commands, at most 32 | list | 01 R22 | empty -/
  handed : List Edge := []
  /-- program store, 24-bit words | 512 × 24 | 08 R213 | image; empty -/
  store : List (BitVec 24) := []
  /-- header table | 16 × 128 | 08 R213, R226 | image; empty headers -/
  hdrs : List (BitVec 128) := List.replicate 16 (BitVec.allOnes 128)
  /-- MT by which C15 reloads the store | 64 | 08 R230 | none -/
  reloadBy : Option Nat := none
  /-- MT of the last store comparison | 64 | 08 R230 | 0 -/
  compared : Nat := 0
  deriving DecidableEq, Repr, Inhabited

/-- One drive quadrant's boost (R186 to R190). -/
structure Quad where
  /-- BST_FAIL | 1 | 07 R189 | 0 -/
  fail : Bool := false
  /-- BST_FAULT | 1 | 07 R187 | 0 -/
  bad : Bool := false
  /-- the boost is switched off (reset, safe state, BST_OV, BST_FAULT) | 1 | 07 R188, 02 R43 | 1 -/
  off : Bool := true
  /-- the internal bleed runs | 1 | 02 R43, 07 R188 | 1 through reset -/
  bleed : Bool := true
  /-- MT of the boost's start or of the first end of a boost-sourced phase since which the reservoir has not read 90 % of V_LIM | 64 | 07 R189 | none -/
  since : Option Nat := none
  /-- the boost has stopped at V_LIM and the reservoir is not 1 % below it yet | 1 | 07 R186, R194 | 0 -/
  full : Bool := false
  /-- MT of the last reservoir reading below 90 % of V_LIM | 64 | 07 R189 | none -/
  lowAt : Option Nat := none
  /-- CLAMP_MJ | 32 | 07 R194 | 0 -/
  clampMj : Word := 0
  /-- E in class 14 detected and not yet passed a charge test | 1 | 17 R445 class 14 | 0 -/
  overE : Bool := false
  deriving DecidableEq, Repr, Inhabited

/-- A VALVE_CLEAR or VALVE_DIAG_NOW being tested stands in host.outstanding. -/
structure Valves where
  /-- channels 0 to 95 | channel | 07 R182 | channel reset -/
  ch : List Chan := List.replicate 96 {}
  /-- groups 0 to 11 | group | 07 R182 | group reset -/
  grp : List Group := List.replicate 12 {}
  /-- quadrants 0 to 3 | quadrant | 07 R182 | quadrant reset -/
  quad : List Quad := List.replicate 4 {}
  /-- actuation reports on their way to the planner cores, oldest first | list | 07 R200 | empty -/
  reports : List Report := []
  deriving DecidableEq, Repr, Inhabited

end Sys2Proof.Machine
end

