-- ==== Sys2Proof/Machine/StateMap.lean ====
section
/-! DEFINITION. The state of the map cache, the planner and the event wheel (05, 06), and the fusion
output they work from (04 R99, 14 R390).  A field's docstring reads: name | width | rule | reset. -/

namespace Sys2Proof.Machine

/-- One fusion output (R99, R390). -/
structure FusOut where
  epoch : Nat := 0
  quality : Nat := 0
  /-- 0 NONE, 1 DUAL, 2 COG, 3 GYRO, 4 HELD -/
  hdgSrc : Nat := 0
  /-- 0 NONE, 1 MEASURED, 2 ESTIMATED -/
  articSrc : Nat := 0
  originValid : Bool := false
  speedValid : Bool := false
  reverse : Bool := false
  posStep : Bool := false
  implInvalid : Bool := false
  noImu : Bool := false
  speedDisagree : Bool := false
  e : Int := 0
  n : Int := 0
  u : Int := 0
  ve : Int := 0
  vn : Int := 0
  vu : Int := 0
  speed : Int := 0
  heading : BA32 := 0
  pitch : Int := 0
  roll : Int := 0
  yawRate : Int := 0
  mHeading : BA32 := 0
  artic : Int := 0
  hpu : Nat := 0
  hdu : Nat := 0
  drT : Nat := 0
  drD : Nat := 0
  deriving DecidableEq, Repr, Inhabited

/-- The states of a slot that holds a tile (R134); an EMPTY slot is not listed. -/
inductive SlotSt where
  | pending | valid | refresh | void
  deriving DecidableEq, Repr, Inhabited

/-- One slot of Tile SRAM that is not EMPTY (R134). -/
structure TSlot where
  slot : Nat := 0
  tx : Int := 0
  ty : Int := 0
  st : SlotSt := .pending
  /-- COVER has marks not yet written back -/
  dirty : Bool := false
  gen : Word := 0
  /-- MT of the oldest unwritten mark -/
  oldest : Nat := 0
  /-- marks since the last write-back's snapshot, and the cells they changed (MARK_COUNT) -/
  marks : Nat := 0
  cells : List Nat := []
  /-- MT of the last lookup (R137) -/
  looked : Nat := 0
  /-- MASK and RATE fetched for a REFRESH, waiting for the next cycle start, with GEN and the MT they were read at
  (R147) -/
  fresh : Option (List Byte × Word × Nat) := none
  /-- no WRITEBACK, no FETCH of this slot is posted again before these MTs (R143, R147) -/
  notBefore : Nat := 0
  fetchAfter : Nat := 0
  /-- a write-back waits here for a queue entry; ahead of all fetches or not (R136) -/
  waitWb : Option Bool := none
  /-- a further write-back asked for while one is in transfer; ahead of all fetches or not (R143) -/
  again : Option Bool := none
  /-- DROP in progress (R147), and one whose dirty COVER is thrown away -/
  drop : Bool := false
  discard : Bool := false
  /-- ABSENT answered to a refresh: becomes VOID once clean (R147) -/
  gone : Bool := false
  /-- chosen for eviction (R137) -/
  evict : Bool := false
  deriving DecidableEq, Repr, Inhabited

/-- One request in the internal queue of R136. -/
structure TReq where
  fetch : Bool := true
  tx : Int := 0
  ty : Int := 0
  slot : Nat := 0
  need : Nat := 0
  /-- an eviction write-back: ahead of all fetches -/
  first : Bool := false
  /-- a FETCH that a TILE_INVALIDATE came after (R147) -/
  cancelled : Bool := false
  deriving DecidableEq, Repr, Inhabited

/-- One TILE descriptor placed in the ring and not yet DONE (R138). -/
structure TPlaced where
  idx : Word := 0
  seq : BitVec 16 := 0
  fetch : Bool := true
  tx : Int := 0
  ty : Int := 0
  slot : Nat := 0
  need : Nat := 0
  placed : Nat := 0
  /-- MARK_COUNT of the descriptor -/
  marks : Nat := 0
  timedOut : Bool := false
  /-- the command that invalidated it came after it (R147) -/
  cancelled : Bool := false
  /-- the host address once answered with ADDR -/
  addr : Option DWord := none
  /-- WRITEBACK: module part of the header and COVER as snapshotted, with the marks in it, the cells
  they changed and the MT of the oldest -/
  snap : List Byte := []
  snapMarks : Nat := 0
  snapCells : List Nat := []
  snapOldest : Nat := 0
  deriving DecidableEq, Repr, Inhabited

/-- One mark held for a tile not present (R144). -/
structure HeldMark where
  tx : Int := 0
  ty : Int := 0
  cell : Nat := 0
  mt : Nat := 0
  deriving DecidableEq, Repr, Inhabited

/-- The tile manager (R128 to R150). -/
structure Tiles where
  /-- Tile SRAM: byte 2048 × slot + offset; an unlisted byte reads 0 | 8 MiB | 01 R26, 05 R134 | empty (log 7) -/
  mem : List Host.Cell := []
  /-- the slots that hold a tile, by slot number | 4,096 | 05 R134 | all EMPTY -/
  slots : List TSlot := []
  /-- request queue | 256 | 05 R136 | empty -/
  queue : List TReq := []
  /-- descriptors placed and not DONE, oldest first | list | 05 R138 | empty -/
  placed : List TPlaced := []
  /-- TILE answer index last taken | 32 | 05 R139 | 0 -/
  answered : Word := 0
  /-- REQ_SEQ | 16 | 05 R138 | 0 -/
  reqSeq : BitVec 16 := 0
  /-- marks held for tiles not present | 4,096 | 05 R144 | empty -/
  held : List HeldMark := []
  /-- tiles whose first miss has raised TILE_MISS | list | 05 R149 | empty -/
  missed : List (Int × Int) := []
  /-- tiles refused by the checks, not fetched again before the MT | list | 05 R140 | empty -/
  waitBad : List (Int × Int × Nat) := []
  /-- fetches waiting for a free slot (CACHE_FULL) | list | 05 R137 | empty -/
  stuck : List (Int × Int × Nat) := []
  /-- the prefetch region of the last recomputation, with NEED_MT | list | 05 R135 | empty -/
  region : List (Int × Int × Nat) := []
  /-- MT of the last recomputation | 64 | 05 R135 | none -/
  recomputed : Option Nat := none
  /-- rate table; none: every entry is DEFAULT_RATE | 256 × 32 | 05 R133 | none -/
  rates : Option (List Nat) := none
  /-- COVER_GEN of tiles since their first fetch | 32 each | 05 R131 | empty -/
  coverGens : List (Int × Int × Word) := []
  deriving DecidableEq, Repr, Inhabited

/-- A span in which a channel was confirmed open (R171): its opening arrival, its end once known, and
how far it has been marked. -/
structure OpenSpan where
  start : Nat := 0
  stop : Option Nat := none
  pos : Nat := 0
  deriving DecidableEq, Repr, Inhabited

/-- D_ON, sigma_ON, D_OFF and sigma_OFF as the planner uses them (R157). -/
structure Delays where
  dOn : Rat := 0
  sOn : Rat := 0
  dOff : Rat := 0
  sOff : Rat := 0
  deriving DecidableEq, Repr, Inhabited

/-- What the planner keeps of one channel (R157 to R171). -/
structure PChan where
  /-- delays as the drive island had reported them at the latest cycle start, none before one and in the
  default-delay fallback | — | 06 R154 row 6, R157 | none -/
  view : Option Delays := none
  /-- DEFER_EST, ticks | — | 06 R157 | 0 -/
  defer : Rat := 0
  /-- last 8 boost-sourced phase durations reported (TB_EST is the largest) | 64 each | 06 R168 | empty -/
  phases : List Nat := []
  /-- LEAD_CLIPPED raised | 1 | 06 R159 | 0 -/
  clipRaised : Bool := false
  /-- rate of the channel's previous cycle (MISS_RATE LAST) | 32 | 05 R149 | DESIGN CHOICE 0 (log 3) -/
  lastRate : Rat := 0
  /-- duty last in force | — | 06 R175 | 1 -/
  duty : Rat := 1
  /-- confirmed-open spans not yet marked in full | list | 06 R171 | empty -/
  spans : List OpenSpan := []
  /-- margin of the last cycle, mm | — | 14 R380 | 0 -/
  margin : Rat := 0
  /-- due MT and SHIFT of the last ON, and due MT of the last OFF, frozen or released | 64 each | 06 R162 | none -/
  lastOn : Option (Nat × Int) := none
  lastOff : Option Nat := none
  /-- that last ON stands on the grid of R166 | 1 | 06 R167 | 0 -/
  lastGrid : Bool := false
  /-- ONs moved by R168, and the sum of their shifts in ticks | Nat, Int | 06 R168 | 0 -/
  shifts : Nat := 0
  shiftSum : Int := 0
  /-- pulses counted as RATE_LOW | Nat | 06 R164, R167 | 0 -/
  rateLow : Nat := 0
  /-- desired ON intervals of the last placement, in due MT | list | 06 R163 | empty -/
  ivs : List (Nat × Option Nat) := []
  /-- what the cycle before had placed and drawn: its intervals, duty and rate, with the RATE_LOW count | — | 06 R155 | empty -/
  before : List (Nat × Option Nat) := []
  dutyWas : Rat := 1
  rateWas : Rat := 0
  lowWas : Nat := 0
  /-- F of the first cycle in a row that was abandoned for the channel | 64 | 06 R155 | none -/
  abandoned : Option Nat := none
  deriving DecidableEq, Repr, Inhabited

/-- A section's MANUAL setting (R178). -/
structure Section where
  on : Bool := false
  duty : Nat := 0
  rate : Nat := 0
  deriving DecidableEq, Repr, Inhabited

/-- The planner and the event wheel (R153 to R178). -/
structure Planner where
  /-- channels 0 to 95 | — | 06 | channel reset -/
  ch : List PChan := List.replicate 96 {}
  /-- pending edges in MT order | 8,192 | 06 R169 | empty -/
  wheel : List Edge := []
  /-- edges of the previous cycle, kept until placement ends | list | 06 R155 | empty -/
  before : List Edge := []
  /-- edges of the latest cycle that the next one finds frozen | list | 06 R153, R162 | empty -/
  decided : List Edge := []
  /-- start of the latest cycle | 64 | 06 R153 | none -/
  cycle : Option Nat := none
  /-- placement of the latest cycle has not ended | 1 | 01 R21 | 0 -/
  placing : Bool := false
  /-- section enables | 96 | 06 R177 | all enabled -/
  enabled : BitVec 96 := BitVec.allOnes 96
  /-- MANUAL sections | 96 | 06 R178 | OFF -/
  manual : List Section := List.replicate 96 {}
  /-- position loss: 0 none, 1 OFF policy, 2 HOLD awaiting, 3 HOLD acknowledged | 2 | 06 R173 | 0 -/
  loss : Nat := 0
  /-- MT of the POS_LOSS event, and of the hold's beginning | 64 | 06 R175 | 0 -/
  lossMt : Nat := 0
  /-- a PLAN_HOLD_ACK waits for the cycle start | 1 | 06 R175 | 0 -/
  ackWaits : Bool := false
  /-- Q_REQ of each channel whose desired state is ON, for an edge due at F, mL/min | — | 06 R165 | 0 -/
  flows : List Rat := List.replicate 96 0
  /-- boundary ONs frozen within the last plan span, per group: ideal due, due, channel | list | 06 R168 | empty -/
  frozen : List (Nat × Nat × Nat) := []
  /-- F of the latest cycle | 64 | 06 R153 | 0 -/
  f : Nat := 0
  deriving DecidableEq, Repr, Inhabited

end Sys2Proof.Machine
end

