-- ==== Sys2Proof/Machine/StateNav.lean ====
section
/-! DEFINITION. The state of Sextant and of fusion (03, 04).  A field's docstring reads: name | width
| rule | reset. -/

namespace Sys2Proof.Machine

/-- The loop settings a channel tracks with (R73). -/
structure LoopSet where
  /-- DLL bandwidth, 2^-16 Hz -/
  dll : Nat := 0
  /-- PLL bandwidth, Hz; the PLL is of third order -/
  pll : Nat := 0
  /-- bandwidth of the second-order FLL assist, Hz; none once phase lock is declared -/
  fll : Option Nat := none
  /-- coherent time, ms -/
  coh : Nat := 0
  /-- the PLL discriminator is the two-quadrant Costas arctangent -/
  costas : Bool := false
  /-- the code loop is driven by D_DD (R71) -/
  dd : Bool := false
  deriving DecidableEq, Repr, Inhabited

/-- One tracking channel in use (R64, R68, R70 to R74, R76, R86). -/
structure TrkCh where
  ch : Nat := 0
  port : Nat := 0
  signal : Nat := 0
  sys : Nat := 0
  svid : Nat := 0
  /-- elevation and predicted Doppler (Hz) at the last allocation -/
  elev : Int := 0
  pred : Int := 0
  /-- phase lock declared -/
  locked : Bool := false
  /-- the FLL assist still acts (R73) -/
  fll : Bool := true
  /-- the next measurement carries SLIP -/
  slip : Bool := false
  /-- HALF_CYCLE: no preamble has fixed the sign -/
  half : Bool := false
  /-- MT of the last SLIP -/
  slipMt : Nat := 0
  /-- the channel has been started, by a detection or a handover (R67, R68) -/
  begun : Bool := false
  /-- a handed-over channel that has not locked: MT of its start -/
  handed : Option Nat := none
  /-- code phase in 2^-16 chip of 1.023 Mcps, and Doppler in 2^-8 Hz -/
  code : Int := 0
  doppler : Int := 0
  /-- Doppler fed forward to the carrier NCO (R73), the frequency its loop adds, and the NCO's frequency at the
  port, 2^-8 Hz -/
  feed : Int := 0
  car : Int := 0
  nco : Int := 0
  /-- bit sync on L1 C/A data (R73) -/
  bitSync : Bool := false
  loops : LoopSet := {}
  /-- places of the seven correlators against the prompt replica, chips, and their last outputs (R70) -/
  places : List Rat := []
  taps : List (Int × Int) := []
  /-- what a restart has added to the phase that the channel has accumulated since lock, 2^-16 cycle (R76) -/
  turn : Int := 0
  /-- MT, PR (2^-10 m) and CP of the last epoch measured, and C/N0 (0.25 dB) with its MT over the last second (R85) -/
  prev : Option (Nat × Int × Int) := none
  power : List (Nat × Nat) := []
  /-- on an upper-band channel: PR1 - PR5 (2^-10 m) with its MT over the last 60 s (R85) -/
  geo : List (Nat × Int) := []
  /-- carrier smoothing: epochs in it, smoothed PR in 2^-10 m, CP of the last epoch (R76) -/
  smooth : Option (Nat × Rat × Int) := none
  /-- half chips that R72 has moved the replica later by -/
  moved : Int := 0
  /-- BOC_JUMP until -/
  jumpTill : Option Nat := none
  /-- 0, or the test that excludes it -/
  excl : Nat := 0
  /-- MT since which it has passed every test -/
  passSince : Option Nat := none
  deriving DecidableEq, Repr, Inhabited

/-- A detection awaiting confirmation (R67). -/
structure AcqDet where
  signal : Nat := 0
  svid : Nat := 0
  ch : Nat := 0
  mt : Nat := 0
  codePhase : Int := 0
  doppler : Int := 0
  deriving DecidableEq, Repr, Inhabited

/-- What an acquisition engine searches (R67): the signal of one satellite on port 0, with the table's
coherent time, sums and Doppler bin, and the centre and half width of the Doppler window. -/
structure Search where
  ch : Nat := 0
  signal : Nat := 0
  svid : Nat := 0
  cohMs : Nat := 0
  sums : Nat := 0
  binHz : Nat := 0
  centreHz : Int := 0
  windowHz : Nat := 0
  deriving DecidableEq, Repr, Inhabited

/-- One acquisition engine (R67). -/
structure AcqEng where
  /-- the search in progress | — | 03 R67 | none -/
  search : Option Search := none
  /-- the detection awaiting confirmation | — | 03 R67 | none -/
  det : Option AcqDet := none
  /-- withdrawn by the self-test until the next BOOT (R98) -/
  bad : Bool := false
  deriving DecidableEq, Repr, Inhabited

/-- One sample port (R58, R59). -/
structure Port where
  /-- the last sample pair read, I and Q -/
  last : Int × Int := (0, 0)
  /-- fraction of magnitude bits set, as last measured over 100 ms -/
  mags : Option Rat := none
  /-- band centre as PORT_IF moves it, Hz -/
  centre : Int := 0
  fault : Bool := false
  /-- MT of the last fault condition, and which of R59's rows it was -/
  since : Nat := 0
  cond : Nat := 0
  interference : Bool := false
  deriving DecidableEq, Repr, Inhabited

/-- One correction stream's parser (R81 to R83). -/
structure Stream where
  /-- bytes of a partial frame -/
  part : List Byte := []
  /-- MT of the last valid frame -/
  lastValid : Nat := 0
  /-- MT since which frames have come without a gap of CORR_SWITCH -/
  goodFrom : Option Nat := none
  deriving DecidableEq, Repr, Inhabited

/-- The corrections in use (R80 to R84). -/
structure Corr where
  ring : Stream := {}
  can : Stream := {}
  /-- the active stream is CAN | 1 | 03 R83 | CORR_SOURCE's primary -/
  onCan : Bool := false
  /-- TAG of the last RTCM descriptor | 16 | 03 R82 | none -/
  lastTag : Option (BitVec 16) := none
  /-- station identifier and antenna position bits of the last 1005 or 1006 | — | 03 R84 | none -/
  station : Option (Nat × Nat) := none
  /-- ambiguities dropped: the solution is FLOAT until fixed again | 1 | 04 R119 | 0 -/
  refChanged : Bool := false
  /-- MT of the last corrections used | 64 | 03 R84 | none -/
  lastUsed : Option Nat := none
  /-- messages kept since: number, and body | — | 03 R80 | empty -/
  held : List (Nat × List Byte) := []
  /-- MSM message numbers, with the signal mask bits in use (R80) | list | 03 R80 | empty -/
  used : List (Nat × Nat) := []
  /-- message numbers discarded, with counts | list | 03 R80, 14 R380 | empty -/
  discards : List (Nat × Word) := []
  deriving DecidableEq, Repr, Inhabited

/-- One orbit message held: from the sky or from the host (R63, R97, R384). -/
structure Orbit where
  eph : Bool := true
  sky : Bool := false
  msg : Nat := 0
  body : List Byte := []
  deriving DecidableEq, Repr, Inhabited

/-- Host aiding, and the orbits held (R63, R97, R384). -/
structure Aid where
  time : Option (Nat × Nat × Nat) := none
  pos : Option (Int × Int × Int × Nat) := none
  orbits : List Orbit := []
  deriving DecidableEq, Repr, Inhabited

/-- The clock model beside the FT pair (R88 to R94). -/
structure Clk where
  /-- consecutive valid solutions | Nat | 03 R88, R93 | 0 -/
  run : Nat := 0
  /-- MT of the last valid solution | 64 | 03 R92 | none -/
  last : Option Nat := none
  /-- U0 in ns and RU in 0.001 ns/s then | 32 each | 03 R92 | 0 -/
  u0 : Nat := 0
  ru : Nat := 0
  /-- a step decided: e in ns, and the MT of the FT whole second it applies at | — | 03 R93 | none -/
  step : Option (Int × Nat) := none
  /-- a step decided was dropped before its second: it is decided afresh (R94) | 1 | 03 R94 | 0 -/
  again : Bool := false
  /-- a slew in progress: e in ns and the MT at which it is removed | — | 03 R93 | none -/
  slew : Option (Int × Nat) := none
  /-- FT_RATE of the model outside a slew | 32 | 03 R93 | 0 -/
  rate : Int := 0
  /-- the next epoch carries TIMESTEP, REALIGN | 1 each | 03 R78 | 0 -/
  timestep : Bool := false
  realign : Bool := false
  /-- the interval ending at the next pulse was stepped | 1 | 03 R93 | 0 -/
  stepped : Bool := false
  /-- FT of the first pulse after FT became valid, ns | 64 | 03 R90 | none -/
  firstPulse : Option Int := none
  /-- FT of the last pulse, ns | 64 | 03 R90 | none -/
  lastPulse : Option Int := none
  /-- TP0 is held low by R92 until FT is valid again | 1 | 03 R92 | 1 until FT is first valid -/
  tpOff : Bool := true
  /-- level of TP0 | 1 | 03 R90 | 0 -/
  tp0 : Bool := false
  deriving DecidableEq, Repr, Inhabited

/-- Sextant (R55 to R98). -/
structure Sextant where
  /-- tracking channels in use | 128 | 03 R64 | none -/
  chans : List TrkCh := []
  /-- channels withdrawn by the self-test | 128 | 03 R98 | none -/
  badChans : List Nat := []
  /-- acquisition engines | 16 | 03 R67 | idle -/
  engines : List AcqEng := List.replicate 16 {}
  /-- sample ports | 4 | 03 R59 | good -/
  ports : List Port := List.replicate 4 {}
  /-- satellites or signals the host excludes: system, SVID, signal (0 every) | list | 03 R66 | none -/
  excluded : List (Nat × Nat × Nat) := []
  /-- start of the search in progress: 0 cold, 1 warm, 2 hot | 2 | 03 R67 | cold -/
  start : Nat := 0
  corr : Corr := {}
  aid : Aid := {}
  clk : Clk := {}
  /-- SX_RAW enabled | 1 | 03 R77 | 0 -/
  raw : Bool := false
  /-- EPOCH_SEQ | 16 | 03 R78 | 0 -/
  seq : BitVec 16 := 0
  /-- DROPPED since the last header | 16 | 03 R77 | 0 -/
  dropped : Nat := 0
  /-- MT of the last epoch | 64 | 03 R75 | none -/
  lastEpoch : Option Nat := none
  /-- SPOOF_SUSPECT | 1 | 03 R87 | 0 -/
  spoof : Bool := false
  /-- consecutive epochs for SPOOF_SUSPECT to change | Nat | 03 R87 | 0 -/
  spoofRun : Nat := 0
  /-- MT of the last channel allocation | 64 | 03 R65 | none -/
  allocated : Option Nat := none
  deriving DecidableEq, Repr, Inhabited

/-- The latest GNSS solution fusion may use (R119, R121). -/
structure Sol where
  epoch : Nat := 0
  /-- GPS time at its epoch, ns (R97) -/
  ft : Int := 0
  /-- 2 SINGLE, 3 DGNSS, 4 FLOAT, 5 FIXED -/
  level : Nat := 2
  /-- ECEF position of antenna A, mm -/
  x : Int := 0
  y : Int := 0
  z : Int := 0
  /-- its velocity on the field axes, mm/s, and the yaw rate then, BA32 per second -/
  ve : Int := 0
  vn : Int := 0
  vu : Int := 0
  yawRate : Int := 0
  /-- its headings of R120, DUAL and COG, with their HDU -/
  dual : Option (BA32 × Nat) := none
  cog : Option (BA32 × Nat) := none
  deriving DecidableEq, Repr, Inhabited

/-- What a speed message says (R113, R115). -/
structure IsoSpd where
  sof : Option Nat := none
  /-- speed, none where the message marks it as not available -/
  mmps : Option Nat := none
  /-- the machine direction is reverse, none where the message does not give it -/
  reverse : Option Bool := none
  deriving DecidableEq, Repr, Inhabited

/-- One speed source of SPEED_SRC (R113, R114). -/
structure SpdSrc where
  avail : Bool := false
  /-- its speed, and the MT it is valid at -/
  mmps : Int := 0
  mt : Nat := 0
  disagree : Bool := false
  /-- MT since which it differs, or since which it agrees again -/
  since : Option Nat := none
  entries : Word := 0
  deriving DecidableEq, Repr, Inhabited

/-- Dead reckoning (R123, R124). -/
structure Dr where
  /-- EPOCH_MT of the solution that it runs from -/
  epoch : Nat := 0
  active : Bool := false
  /-- ended, and not to restart before a solution is used -/
  ended : Bool := false
  /-- it has ended at the present output, which still carries U(t), DR_T and DR_D -/
  tail : Bool := false
  /-- distance since the last solution, mm -/
  dist : Rat := 0
  u0 : Nat := 0
  su : Nat := 0
  hu0 : Nat := 0
  deriving DecidableEq, Repr, Inhabited

/-- One step of the filter's history (R116): its state, and the IMU sample that carried it there. -/
structure FilterStep where
  st : FilterSt := {}
  body : List Rat := []
  deriving DecidableEq, Repr, Inhabited

/-- The IMU port (R109 to R112). -/
structure Imu where
  /-- write transfers of the initialisation list last sent, and lists sent | — | 04 R111, R112 | none -/
  sent : List (List Byte) := []
  lists : Nat := 0
  /-- MT from which the burst in progress can end | 64 | 04 R110 | 0 -/
  readAt : Nat := 0
  /-- MT of the last ISYNC edge; ISYNC is high for 1 us from it | 64 | 04 R109, R110 | none -/
  isync : Option Nat := none
  /-- the last good sample on the body axes: rates (BA32/s), accelerations (mm/s²), temperature (0.01 °C)
  | — | 04 R111 | 0 -/
  body : List Rat := List.replicate 7 0
  /-- consecutive missed, and good, samples | Nat each | 04 R112 | 0 -/
  missed : Nat := 0
  good : Nat := 0
  /-- IMU_LOST: NO_IMU stands | 1 | 04 R112 | 0 -/
  lost : Bool := false
  /-- MT of the last initialisation list sent | 64 | 04 R112 | none -/
  initAt : Option Nat := none
  /-- a burst read in progress: the MT its sample is dated to | 64 | 04 R110 | none -/
  burst : Option Nat := none
  /-- counts of the last good sample: three rates, three accelerations, temperature | 32 each | 04 R111 | 0 -/
  sample : List Int := List.replicate 7 0
  /-- MT of the last good sample | 64 | 04 R110 | none -/
  sampleMt : Option Nat := none
  deriving DecidableEq, Repr, Inhabited

/-- Navigation: Sextant, the IMU port and fusion. -/
structure Nav where
  sx : Sextant := {}
  imu : Imu := {}
  /-- field origin: latitude, longitude, height | 3 × 32 | 04 R104 | none -/
  origin : Option (Word × Word × Word) := none
  /-- fusion outputs, newest first, the latest 4,096 | — | 04 R99, 06 R171 | none -/
  outs : List FusOut := []
  /-- the latest solution | — | 04 R121 | none -/
  sol : Option Sol := none
  /-- the solutions passed over the last 1.0 s, newest first | list | 04 R116, R119 | empty -/
  sols : List Sol := []
  /-- the solution that the last output went by | — | 04 R117 | none -/
  solUsed : Option Sol := none
  /-- consecutive solutions of at least level 2, 3, 4, 5 | Nat each | 04 R122 | 0 -/
  runs : List Nat := [0, 0, 0, 0]
  /-- direction last decided: reverse | 1 | 04 R115 | 0 -/
  reverse : Bool := false
  /-- heading the GYRO or HELD source started from: HDU then, and MT | 32+64 | 04 R120 | none -/
  hdgBase : Option (Nat × Nat) := none
  /-- heading that the gyro has integrated from the last DUAL or COG heading, BA32 counts | — | 04 R120 | 0 -/
  gyroPsi : Rat := 0
  /-- states of the filter over the last 1.0 s, newest first | list | 04 R116 | empty -/
  hist : List FilterStep := []
  /-- MTs of the measurements applied at the last epoch | list | 04 R116 | empty -/
  applied : List Nat := []
  /-- last heading of the machine | 32 | 04 R120 | 0 -/
  hdg : BA32 := 0
  /-- HELD began at | 64 | 04 R120 | none -/
  heldAt : Option Nat := none
  /-- speed sources 0 to 2 | — | 04 R114 | unavailable -/
  spd : List SpdSrc := List.replicate 3 {}
  /-- estimated articulation, BA32 counts | — | 04 R108 | none -/
  articEst : Option Rat := none
  /-- the articulation sensor is valid | 1 | 04 R108 | 1 -/
  articOk : Bool := true
  /-- MT since which measured and estimated angle differ beyond ARTIC_TOL | 64 | 04 R108 | none -/
  articDiff : Option Nat := none
  /-- ARTIC_DISAGREE raised for the present difference | 1 | 04 R108 | 0 -/
  articTold : Bool := false
  dr : Dr := {}
  /-- the control point lies beyond FAR_ORIGIN | 1 | 04 R104 | 0 -/
  far : Bool := false
  /-- gyro biases, accelerometer biases, speed scales | 32 each | 04 R116, R127 | 0, 0, 1 -/
  gyroBias : List Int := [0, 0, 0]
  accBias : List Int := [0, 0, 0]
  scales : List Word := [65536, 65536, 65536]
  /-- speed source in use, 3 none | 2 | 04 R113 | none -/
  source : Nat := 3
  deriving DecidableEq, Repr, Inhabited

end Sys2Proof.Machine
end

