-- ==== Sys2Proof/Machine/StateLoop.lean ====
section
/-! DEFINITION. The state of the rate loops, trace units and load switches (09, 10).  A field's
docstring reads: name | width | rule | reset. -/

namespace Sys2Proof.Machine

/-- The loop states of R246, coded as LOOP_STATUS codes them. -/
inductive LoopSt where
  | opened | closed | faulted | tune
  deriving DecidableEq, Repr, Inhabited

def LoopSt.code : LoopSt → Nat
  | .opened => 0 | .closed => 1 | .faulted => 2 | .tune => 3

/-- The coefficients of R244, sQ16.16. -/
structure Coef where
  kp : Int := 0
  ci : Int := 0
  cf : Int := 0
  cd : Int := 0
  deriving DecidableEq, Repr, Inhabited

/-- The nodes of one sample (R240, R258), sQ16.16. -/
structure Nodes where
  e : Int := 0
  p : Int := 0
  i : Int := 0
  d : Int := 0
  v : Int := 0
  u : Int := 0
  y : Int := 0
  rs : Int := 0
  deriving DecidableEq, Repr, Inhabited

/-- A relay auto-tune's progress on its loop (R256). -/
structure Relay where
  high : Bool := true
  /-- MT of the last switch to U0 + DU, and the span of y since -/
  upAt : Option Nat := none
  yLo : Int := 0
  yHi : Int := 0
  /-- cycles completed, newest first: period in ticks and amplitude -/
  cycles : List (Nat × Rat) := []
  /-- the two levels applied -/
  lo : Int := 0
  hi : Int := 0
  /-- 0 running, 1 stable, or the REASON it ends with: 2 MEAS_LOST, 3 LIMIT, 4 NO_OSC -/
  ended : Nat := 0
  deriving DecidableEq, Repr, Inhabited

/-- One rate loop (R234 to R257). -/
structure Loop where
  /-- state | 2 | 09 R246 | OPEN -/
  st : LoopSt := .opened
  /-- fault cause code | 8 | 09 R250 to R252 | 0 -/
  cause : Nat := 0
  /-- output in force at the sink | 32 | 09 R239, R246 | U_SAFE; 0 -/
  uOut : Int := 0
  /-- output computed and held for the next sample instant | 32 | 09 R238 | U_SAFE; 0 -/
  uNext : Int := 0
  /-- u was clamped at U_MAX, at U_MIN | 1 each | 09 R243 | 0 -/
  atMax : Bool := false
  atMin : Bool := false
  /-- value of the last LOOP_SETPOINT | 32 | 09 R235 | none; SP_INIT holds -/
  rHost : Option Int := none
  /-- target r | 32 | 09 R235 | 0 -/
  r : Int := 0
  /-- nodes of the last sample, r* among them | 8 × 32 | 09 R240 | 0 -/
  n : Nodes := {}
  /-- x of the last sample | 32 | 09 R240 | 0 -/
  x : Int := 0
  /-- y as last measured while valid (p of R164) | 32 | 06 R164 | none -/
  yValid : Option Int := none
  /-- the measurement is valid | 1 | 09 R234 | 0 -/
  measOk : Bool := false
  /-- sticky flags of R242 | 5 | 09 R242 | 0 -/
  sticky : BitVec 5 := 0
  /-- conditions of R242 in the last sample | 5 | 09 R259 | 0 -/
  conds : BitVec 5 := 0
  /-- samples with each condition | 5 × 32 | 09 R242 | 0 -/
  counts : List Word := List.replicate 5 0
  /-- coefficients in force from LOOP_COEF, and those for the next closing | 4 × 32 each | 09 R245 | image values -/
  coef : Option Coef := none
  coefNext : Option Coef := none
  /-- MT since which a CLOSED loop's measurement is invalid | 64 | 09 R250 | none -/
  holdFrom : Option Nat := none
  /-- MT since which |e| exceeds FE_LIMIT | 64 | 09 R251 | none -/
  feFrom : Option Nat := none
  /-- it closes at its next sample instant (R246) | 1 | 09 R246 | 0 -/
  closing : Bool := false
  /-- opened by LOOP_CLEAR: it closes on LOOP_CLOSE alone | 1 | 09 R253 | 0 -/
  cleared : Bool := false
  /-- CASCADE_OPEN: the inner loop it drives was not CLOSED at its last sample | 1 | 09 R249 | 0 -/
  cascOpen : Bool := false
  /-- it closed on its last sample (R249) | 1 | 09 R247 | 0 -/
  justClosed : Bool := false
  /-- MT of the last sample | 64 | 09 R238 | none -/
  sampled : Option Nat := none
  /-- MT of its latest recomputation by C13 | 64 | 09 R254 | 0 -/
  checked : Nat := 0
  /-- relay of an auto-tune | — | 09 R256 | none -/
  relay : Option Relay := none
  deriving DecidableEq, Repr, Inhabited

/-- y of a loop. -/
def Loop.y (l : Loop) : Int := l.n.y

/-- One recorded trace sample (R259). -/
structure TrSample where
  n : Nodes := {}
  sat : BitVec 5 := 0
  ramping : Bool := false
  measOk : Bool := false
  closed : Bool := false
  mt : Nat := 0
  deriving DecidableEq, Repr, Inhabited

/-- One trace unit (R258, R259). -/
structure Trace where
  /-- 0 idle, 1 armed, 2 recording, 3 writing | 2 | 09 R258, 14 R380 | 0 -/
  st : Nat := 0
  loop : Nat := 0
  dec : Nat := 1
  pre : Nat := 0
  trig : Nat := 0
  node : Nat := 0
  flags : BitVec 5 := 0
  level : Int := 0
  /-- sample instants until the next record -/
  skip : Nat := 0
  /-- samples held, oldest first | 4,096 | 09 R258 | empty -/
  samples : List TrSample := []
  /-- sticky flags at the trigger -/
  sticky : BitVec 5 := 0
  /-- cause in the header -/
  cause : Nat := 0
  /-- TRACE_STOP with TRIGGER waits for the next recorded sample -/
  hostTrig : Bool := false
  /-- descriptors still to write | Nat | 09 R259 | 0 -/
  left : Nat := 0
  deriving DecidableEq, Repr, Inhabited

/-- The modes of R266. -/
inductive LsMode where
  | off | low | high | pwm | bridge
  deriving DecidableEq, Repr, Inhabited

def LsMode.code : LsMode → Nat
  | .off => 0 | .low => 1 | .high => 2 | .pwm => 3 | .bridge => 4

/-- One load switch (R262 to R285). -/
structure Switch where
  /-- mode and duty in force, sQ16.16 % | 3+32 | 10 R266 | OFF, 0 -/
  mode : LsMode := .off
  duty : Int := 0
  /-- on-time of the active side in each period, LOADI cycles of 10 ns | Nat | 10 R268 | 0 -/
  cyc : Nat := 0
  /-- `Time.up` at which the high, the low side was last commanded on, as of the last change of mode, period start or
  reset | Nat each | 10 R264 | 0 -/
  hiOff : Nat := 0
  loOff : Nat := 0
  /-- readback found the high, the low side on when commanded off, and not off since | 1 each | 10 R280 | 0 -/
  rbHigh : Bool := false
  rbLow : Bool := false
  /-- mode and duty of the last LS_SET since PARKED was entered | 3+32 | 10 R266 | none -/
  asked : Option (LsMode × Int) := none
  /-- latched | 1 | 10 R281 | 0 -/
  latched : Bool := false
  /-- latch cause code | 8 | 14 R386 | 0 -/
  cause : Nat := 0
  /-- the owner has set no mode since LS_CLEAR | 1 | 10 R281 | 0 -/
  cleared : Bool := false
  /-- trip count | 4 | 10 R270 | 0 -/
  trips : Nat := 0
  /-- end of the pause | 64 | 10 R271 | none -/
  pause : Option Nat := none
  /-- MT of the last trip | 64 | 10 R277 | none -/
  tripAt : Option Nat := none
  /-- MT of its last latch | 64 | 09 R238, R252 | none -/
  latchMt : Option Nat := none
  /-- `Time.up` since which a side has conducted without a trip | Nat | 10 R270, R272 | none -/
  onFrom : Option Nat := none
  /-- MT since which its active side, its active side at a duty of 10 % or more has conducted, and since which the mean
  current has then stayed below OL_MA | 64 each | 10 R273, R279 | none -/
  condFrom : Option Nat := none
  wideFrom : Option Nat := none
  lowFrom : Option Nat := none
  /-- inrush window: MT it opened | 64 | 10 R273 | closed -/
  win : Option Nat := none
  /-- inrush budget, A²·ms, and the MT it was reckoned at | — | 10 R274 | full; INRUSH_I2T -/
  budget : Option Rat := none
  budgetAt : Nat := 0
  /-- LS_CURRENT, mA | 32 | 10 R269 | 0 -/
  ma : Int := 0
  /-- current of the present conduction as last observed, mA | 32 | 10 R269, R274 | 0 -/
  iNow : Int := 0
  /-- output voltage, mV | 32 | 10 R269 | 0 -/
  mv : Nat := 0
  /-- MT since which it has been OFF | 64 | 10 R278 | 0 -/
  offFrom : Nat := 0
  /-- MT of the last off-state test | 64 | 10 R278 | none -/
  tested : Option Nat := none
  /-- trips, shutdowns, findings | 32 each | 14 R380 | 0 -/
  counts : List Word := List.replicate 3 0
  deriving DecidableEq, Repr, Inhabited

/-- One thermal cell (R276). -/
structure LsPair where
  /-- DEADTIME that LOADI keeps, ns | 11 | 10 R264 | 250 -/
  dead : Nat := 250
  /-- MT of the last period start | 64 | 10 R267 | 0 -/
  start : Nat := 0
  /-- cell temperature, deg C | 16 | 10 R276 | DESIGN CHOICE 25 (log 3) -/
  temp : Int := 25
  /-- held off by a shutdown | 1 | 10 R276 | 0 -/
  hot : Bool := false
  /-- MTs of the shutdowns of the last 60 s | list | 10 R276 | empty -/
  shut : List Nat := []
  deriving DecidableEq, Repr, Inhabited

/-- Loops, trace units and load switches. -/
structure Loops where
  /-- MT of the tick on which step 1 of R238 last ran | 64 | 09 R238 | none -/
  appliedAt : Option Nat := none
  /-- LP0 to LP31 | loop | 09 R234 | loop reset -/
  loop : List Loop := List.replicate 32 {}
  /-- TR0 to TR3 | unit | 09 R258 | unit reset -/
  trace : List Trace := List.replicate 4 {}
  /-- TRACE_SEQ | 16 | 09 R259 | 0 -/
  traceSeq : BitVec 16 := 0
  /-- LS0 to LS15 | switch | 10 R262 | switch reset -/
  ls : List Switch := List.replicate 16 {}
  /-- pairs 0 to 7 | pair | 10 R262 | pair reset -/
  pair : List LsPair := List.replicate 8 {}
  deriving DecidableEq, Repr, Inhabited

end Sys2Proof.Machine
end

