-- ==== Sys2Proof/Machine/StateIo.lean ====
section
/-! DEFINITION. The state of field I/O, analog and pulse inputs, and the CAN buses (11, 12).  A field's
docstring reads: name | width | rule | reset. -/

namespace Sys2Proof.Machine

/-- One field pin, host side and field side (R286 to R296). -/
structure FdPin where
  /-- output command of the last FD_SET | 1 | 11 R295 | 0 -/
  cmd : Bool := false
  /-- cleared, and OFF until the next FD_SET names it | 1 | 11 R296 | 0 -/
  cleared : Bool := false
  /-- level the field side drives an output to | 1 | 11 R289 | OFF -/
  out : Bool := false
  /-- latched OFF | 1 | 11 R296 | 0 -/
  latched : Bool := false
  /-- finding that latched it | 8 | 14 R380 | 0 -/
  kind : Nat := 0
  /-- readback found the pin on when commanded off, and not off since | 1 | 11 R295 | 0 -/
  rb : Bool := false
  /-- output diagnostics that the next good up frame carries: finding code and urgency | list | 11 R287 | empty -/
  diag : List (Nat × Bool) := []
  /-- host side, as the last good up frame had them: latched, latch kind, INVALID, and the level that an OUT pin reads
  back | 1+8+1+1 | 11 R287, R292 | 0 -/
  hLatched : Bool := false
  hKind : Nat := 0
  hBroken : Bool := false
  read : Bool := false
  /-- PIN_DRIVEN condition present | 1 | 11 R295 | 0 -/
  driven : Bool := false
  /-- WIRE_BREAK: the state is INVALID | 1 | 11 R294 | 0 -/
  broken : Bool := false
  /-- last accepted state and stamp on the field side, and whether an up frame has yet to carry it |
  1+64+1 | 11 R293 | 0 -/
  level : Bool := false
  stamp : Nat := 0
  fresh : Bool := false
  /-- state and stamp as the host side has them | 1+64 | 11 R287 | 0 -/
  seen : Bool := false
  seenStamp : Nat := 0
  /-- FD_CHG_LOST | 32 | 11 R293 | 0 -/
  lost : Word := 0
  /-- findings | 32 | 14 R380 | 0 -/
  findings : Word := 0
  deriving DecidableEq, Repr, Inhabited

/-- One analog input (R297 to R300). -/
structure AiIn where
  /-- reading | 32 | 11 R298 | 0 -/
  reading : Int := 0
  /-- unrounded converter code | 32 | 14 R380 | 0 -/
  code : Word := 0
  /-- MT the reading is dated to | 64 | 11 R298 | 0 -/
  mt : Nat := 0
  /-- validity: 0 valid, 1 OVER_RANGE, 2 OPEN, 3 excitation | 2 | 11 R299 | valid -/
  kind : Nat := 0
  /-- the latest reading lies in OVER_RANGE, and the MT since which that has been so or not | 1+64 | 11 R299 | 0 -/
  above : Bool := false
  aboveAt : Nat := 0
  /-- the latest reading meets the condition of OPEN, and the MT since which that has been so or not | 1+64 |
  11 R299 | 0 -/
  open_ : Bool := false
  openAt : Nat := 0
  /-- MT at which a disconnected MA20 shunt reconnects | 64 | 11 R297 | connected -/
  shunt : Option Nat := none
  deriving DecidableEq, Repr, Inhabited

/-- One excitation output (R301). -/
structure SxOut where
  /-- commanded on | 1 | 11 R301, 02 R43 | off through a power-on reset -/
  on : Bool := false
  /-- shut off by SX_FAULT, a retry that has yet to hold for 100 ms, and the MT of the last retry or turning on |
  1+1+64 | 11 R301, R299 | 0 -/
  fault : Bool := false
  retry : Bool := false
  at_ : Nat := 0
  deriving DecidableEq, Repr, Inhabited

/-- One pulse input (R302 to R306). -/
structure PiIn where
  /-- level after the last accepted edge | 1 | 11 R302 | 0 -/
  level : Bool := false
  /-- count | 32 | 11 R303 | 0 -/
  count : Word := 0
  /-- stamps of the edges within PI_GATE and the last 64, oldest first | list | 11 R304, R308 | empty -/
  stamps : List Nat := []
  /-- period in ticks | Nat | 11 R303 | 0 -/
  period : Nat := 0
  /-- frequency in mHz at the last edge | 32 | 11 R304 | 0 -/
  f : Int := 0
  /-- reverse direction, and the one before the last edge | 1+1 | 11 R303 | 0 -/
  rev : Bool := false
  revWas : Bool := false
  /-- the last edge of a quadrature pair was one of B | 1 | 11 R303 | 0 -/
  lineB : Bool := false
  /-- last counted step of a quadrature pair | 2 | 11 R303 | 0 -/
  step : Int := 0
  /-- f has gone to 0 by PI_ZERO_T | 1 | 11 R304 | 1 -/
  zero : Bool := true
  /-- QUAD_ERR, STAMP_DROP | 32 each | 11 R303, R306 | 0 -/
  quadErr : Word := 0
  stampDrop : Word := 0
  /-- a count to load, and its MT | 32+64 | 11 R306 | none -/
  load : Option (Word × Nat) := none
  /-- MT of the last count loaded | 64 | 11 R306 | none -/
  loadedAt : Option Nat := none
  /-- stamps and levels waiting for an EDGE record | list | 11 R306 | empty -/
  tel : List (Nat × Bool) := []
  /-- MT of the second in which stamps are counted, and the count | 64+11 | 11 R306 | 0 -/
  secAt : Nat := 0
  inSec : Nat := 0
  deriving DecidableEq, Repr, Inhabited

/-- Field I/O and the non-isolated inputs (R286 to R308, R463). -/
structure Field where
  /-- FD0 to FD31 | pin | 11 R286 | pin reset -/
  pins : List FdPin := List.replicate 32 {}
  /-- last down frame: level per pin, none for its safe state; and RESUME | — | 11 R287 | safe -/
  frame : List (Option Bool) := List.replicate 32 none
  resume : Bool := false
  /-- the modes that the last down frame carries, and whether the frame is still on its way, no symbol having broken
  it | 2 each + 1 | 11 R287, R288 | none -/
  frameModes : Option (List Nat) := none
  inFlight : Bool := false
  /-- field side: FD_MODE in force per pin | 2 each | 11 R292 | IN_T3 -/
  modes : List Nat := List.replicate 32 1
  /-- field side: SILENT, good frames since, LINK_OK | 1+8+1 | 11 R289, R290 | 1 -/
  silent : Bool := true
  good : Nat := 0
  linkOk : Bool := false
  /-- field side: `Time.up` at the last good down frame | Nat | 11 R289 | 0 -/
  lastDown : Nat := 0
  /-- SILENCE_TIMEOUT that the field side holds, ms | 16 | 11 R289 | DESIGN CHOICE the default (log 3) -/
  timeout : Nat := 10
  /-- field side: consecutive down frames missed | Nat | 11 R287 | 0 -/
  missedDown : Nat := 0
  /-- field-side clock failed | 1 | 11 R290 | 0 -/
  clockBad : Bool := false
  /-- host side: consecutive up frames missed | Nat | 11 R287 | 0 -/
  missedUp : Nat := 0
  /-- host side: MT of the last good up frame | 64 | 14 R394 | 0 -/
  lastUp : Nat := 0
  /-- host side: every FD input STALE (RX lost) | 1 | 11 R287 | 0 -/
  stale : Bool := false
  /-- host side: FIELD_TX_LOST raised | 1 | 11 R287 | 0 -/
  txLost : Bool := false
  /-- host side: SILENT as last reported | 1 | 11 R289 | 1 -/
  hostSilent : Bool := true
  /-- host side: LINK_OK received and RESUME not yet sent | 1 | 11 R290 | 0 -/
  resumeDue : Bool := false
  /-- bank currents, mA | 4 × 32 | 14 R380 | 0 -/
  bankMa : List Nat := List.replicate 4 0
  /-- AI0 to AI15 | input | 11 R297 | input reset -/
  ai : List AiIn := List.replicate 16 {}
  /-- SXA, SXB | output | 11 R301 | output reset -/
  sx : List SxOut := List.replicate 2 {}
  /-- PI0 to PI15 | input | 11 R302 | input reset -/
  pi : List PiIn := List.replicate 16 {}
  /-- EXTEV0 and EXTEV1: rising-edge count, period, f and last 64 stamps | input | 18 R463 | input reset -/
  extev : List PiIn := List.replicate 2 {}
  deriving DecidableEq, Repr, Inhabited

/-- Whose an entry of a transmit FIFO is. -/
inductive TxKind where
  /-- a host frame: CANTX index and TAG -/
  | host (idx : Word) (tag : BitVec 16)
  /-- a host message descriptor: PGN, priority, destination, length, address -/
  | msg (idx : Word) (tag : BitVec 16) (pgn prio da len : Nat) (addr : DWord)
  /-- a periodic frame -/
  | txf (n : Nat)
  /-- a SYNC with its SEQ, and its FOLLOW_UP -/
  | sync (seq : Nat)
  | followUp (seq : Nat)
  /-- an address claim or cannot-claim message -/
  | claim
  /-- a frame of transmit session `n` -/
  | session (n : Nat)
  /-- any other module frame -/
  | other
  deriving DecidableEq, Repr, Inhabited

/-- One entry of a transmit FIFO (R314). -/
structure TxEnt where
  kind : TxKind := .other
  frame : CanFrame := {}
  attempts : Nat := 0
  /-- it leaves when this attempt ends without success: 1 CANCELLED, 2 DISCARDED (R317, R337), 3 to wait for the
  claim's end (R323) -/
  leave : Nat := 0
  /-- an attempt under way that a new mode lets end (R338, R339) -/
  going : Bool := false
  /-- descriptors behind it that are done already: their DONE follows in ring order, with index, RESULT and ATTEMPTS
  (R316) -/
  after : List (Word × Nat × Nat) := []
  deriving DecidableEq, Repr, Inhabited

/-- One mail slot (R322). -/
structure Mail where
  frame : Option CanFrame := none
  sof : Nat := 0
  count : BitVec 16 := 0
  /-- its shadow buffer, and the MT at which the last read of the slot ends -/
  shadow : Option (CanFrame × Nat) := none
  heldTo : Nat := 0
  deriving DecidableEq, Repr, Inhabited

/-- One receive session (R325). -/
structure RxSess where
  id : Nat := 0
  sa : Nat := 0
  da : Nat := 0
  pgn : Nat := 0
  /-- 0 TP BAM, 1 TP RTS/CTS, 2 ETP -/
  proto : Nat := 0
  len : Nat := 0
  bytes : List Byte := []
  /-- packets received; packets still granted by the last CTS; ETP packet offset -/
  got : Nat := 0
  granted : Nat := 0
  offset : Nat := 0
  /-- packets the sender allows per CTS -/
  maxCts : Nat := 255
  first : Nat := 0
  deadline : Nat := 0
  deriving DecidableEq, Repr, Inhabited

/-- One transmit session (R326). -/
structure TxSess where
  id : Nat := 0
  idx : Word := 0
  tag : BitVec 16 := 0
  pgn : Nat := 0
  prio : Nat := 6
  da : Nat := 255
  proto : Nat := 0
  data : List Byte := []
  /-- packets placed in the FIFO -/
  sent : Nat := 0
  /-- packets granted by the last CTS and not yet placed; packets before the last DPO -/
  granted : Nat := 0
  offset : Nat := 0
  deadline : Nat := 0
  /-- MT from which the next BAM packet may be placed -/
  nextAt : Nat := 0
  lastSof : Nat := 0
  deriving DecidableEq, Repr, Inhabited

/-- A filter as CAN_FILTER_SET gives it (R383). -/
structure Filt where
  kind : Nat := 0
  ide : Bool := false
  fdf : Nat := 0
  action : Nat := 0
  slot : Nat := 0
  sa : Nat := 0
  id : Nat := 0
  mask : Nat := 0
  saMask : Nat := 0
  deriving DecidableEq, Repr, Inhabited

/-- A rate detection under way (R333): candidate in the order of its table, good frames of it, and what
is adopted. -/
structure Detect where
  cand : Nat := 0
  good : Nat := 0
  nom : Option Nat := none
  data : Option Nat := none
  dcand : Nat := 0
  dgood : Nat := 0
  brs : Bool := false
  deadline : Nat := 0
  deriving DecidableEq, Repr, Inhabited

/-- One bus (R309 to R339). -/
structure Bus where
  /-- LISTEN | 1 | 12 R332 | MODE of the image; NORMAL -/
  listen : Bool := false
  /-- nominal rate code | 2 | 12 R312, R313 | 250 kbit/s -/
  nom : Nat := 1
  /-- FD_EN | 1 | 12 R338 | 0 -/
  fdEn : Bool := false
  /-- data rate code | 2 | 12 R312 | 2 Mbit/s -/
  data : Nat := 0
  /-- TERM in force | 1 | 12 R311 | 0 -/
  term : Bool := false
  /-- it reintegrates after CAN_MODE | 1 | 12 R339 | 0 -/
  integrating : Bool := false
  /-- TEC, REC | 16 each | 12 R328 | 0 -/
  tec : Nat := 0
  rec_ : Nat := 0
  /-- bus-off, and the MT at which a recovery began | 1+64 | 12 R328, R331 | 0 -/
  off : Bool := false
  recov : Option Nat := none
  /-- BUS_FAULT, BUS_STUCK | 1 each | 12 R310 | 0 -/
  fault : Bool := false
  stuck : Bool := false
  /-- consecutive ACK errors; ALONE | Nat+1 | 12 R329 | 0 -/
  acks : Nat := 0
  alone : Bool := false
  /-- transmit FIFO | 64 | 12 R314 | empty -/
  fifo : List TxEnt := []
  /-- frames of the control function that wait for the end of its claim | list | 12 R323 | empty -/
  held : List TxEnt := []
  /-- CANTX descriptors read and not yet taken into the FIFO: index and descriptors | list | 12 R315 | empty -/
  wait : List (Word × List Desc) := []
  /-- filters that CAN_FILTER_SET replaced, newest first: MT, index, filter | list | 12 R319, R339 | image values -/
  filters : List (Nat × Nat × Filt) := []
  /-- mail slots | 64 | 12 R322 | empty -/
  slots : List Mail := List.replicate 64 {}
  /-- claimed address | 8 | 12 R323 | none -/
  addr : Option Nat := none
  /-- address being claimed, and the MT its claim ends (none before its first attempt) | — | 12 R323 | none -/
  claim : Option (Nat × Option Nat) := none
  /-- the address that ISO_CLAIM has set | 8 | 12 R339 | none -/
  forced : Option Nat := none
  /-- all addresses lost | 1 | 12 R324 | 0 -/
  cannot : Bool := false
  /-- addresses other nodes have claimed, with their NAMEs | list | 12 R324 | empty -/
  others : List (Nat × Nat) := []
  /-- receive sessions | 16 | 12 R325 | none -/
  rx : List RxSess := []
  /-- transmit sessions | 8 | 12 R326 | none -/
  tx : List TxSess := []
  /-- next session number | Nat | 12 R325 | 0 -/
  nextId : Nat := 0
  /-- RX_SEQ | 16 | 12 R320 | 0 -/
  rxSeq : BitVec 16 := 0
  /-- DROPPED | 16 | 12 R320 | 0 -/
  dropped : Nat := 0
  /-- SEQ of the next SYNC, and the SYNC a follower has seen: SEQ and SOF | 4+68 | 12 R335, R336 | 0 -/
  timeSeq : Nat := 0
  syncSeen : Option (Nat × Nat) := none
  /-- unpaired SYNC and FOLLOW_UP frames | 32 | 12 R336 | 0 -/
  unpaired : Word := 0
  /-- rate detection | — | 12 R333 | none -/
  detect : Option Detect := none
  deriving DecidableEq, Repr, Inhabited

/-- The buses. -/
structure Can where
  /-- BUS0 to BUS3 | bus | 12 R309 | bus reset -/
  bus : List Bus := List.replicate 4 {}
  deriving DecidableEq, Repr, Inhabited

end Sys2Proof.Machine
end

