-- ==== Sys2Proof/Machine/State.lean ====
section
/-! DEFINITION. The state of the module, the state right after a power-on reset, and the reasons a
step can stop. -/

namespace Sys2Proof.Machine

/-- The whole state of an SD9600 and of what it has told its host. -/
structure State where
  /-- model's own: the commands and events that wait, first in first out | list | log 2 | empty -/
  pending : List Instr := []
  /-- model's own: how many free values have been used | Nat | log 1 | DESIGN CHOICE 0 -/
  free : Nat := 0
  time : Time := {}
  dev : Dev := {}
  pwr : Pwr := {}
  sag : Sag := {}
  host : HostIf := {}
  cfg : Cfg := {}
  flash : Flash := {}
  /-- running activities, earliest first | list | 15 R410 | empty -/
  acts : List Activity := []
  /-- the counters of R395, by index | 69 × 32 | 14 R395 | 0 -/
  cnt : List Word := List.replicate 69 0
  valves : Valves := {}
  tiles : Tiles := {}
  planner : Planner := {}
  nav : Nav := {}
  loops : Loops := {}
  field : Field := {}
  can : Can := {}
  deriving DecidableEq, Repr

/-- Why the model stops where the spec says that what follows is unpredictable. -/
inductive Fault where
  /-- A host error that R371 names as unchecked.  No command raises it: the module goes on with a free index
  (log 17).  Safe. -/
  | hostError (what : Nat)
  deriving DecidableEq, Repr

/-- Why the model gives a row no meaning. -/
inductive Refusal where
  /-- The row has no meaning in this model yet; raised by exec alone.  Safe. -/
  | notModelled (mnemonic : String)
  deriving DecidableEq, Repr

/-- The module right after power-on: RESET, no reset source released (R41, R43). -/
def State.reset : State := {}

end Sys2Proof.Machine
end

