-- ==== Sys2Proof/Machine/Ops.lean ====
section
/-! DEFINITION. The shared operations: time, packing of descriptors, ring records, events, fault
records, counters, and taking and completing a command. -/

namespace Sys2Proof.Machine

/-- The outcome type of every meaning. -/
abbrev Out := Host.Outcome State Fault Refusal

/-- Ticks in a millisecond and in a microsecond (R10). -/
abbrev msTicks : Nat := 250000
abbrev usTicks : Nat := 250

/-! ### Packing -/

/-- The number whose fields (low bit, width, value) are as given, every other bit 0. -/
def pack : List (Nat × Nat × Nat) → Nat
  | [] => 0
  | (lo, w, v) :: r => (v % 2 ^ w) * 2 ^ lo + pack r

/-- Two's complement of a number in `w` bits. -/
def twos (w : Nat) (i : Int) : Nat := (i % (2 ^ w : Int)).toNat

/-- A 32-bit report word of a signed number. -/
def w32 (i : Int) : Word := BitVec.ofInt 32 i

def b2n (b : Bool) : Nat := if b then 1 else 0

/-- A RESULT (CPL bits 255:128), its fields numbered within the descriptor as in R381. -/
def resultOf (fs : List (Nat × Nat × Nat)) : BitVec 128 := BitVec.ofNat 128 (pack fs >>> 128)

def descOf (fs : List (Nat × Nat × Nat)) : Desc := BitVec.ofNat 256 (pack fs)

/-- Bits `lo` up of a descriptor, `w` of them. -/
def Desc.field (d : Desc) (lo w : Nat) : Nat := (d.toNat >>> lo) % 2 ^ w

/-- The little-endian bytes of a number. -/
def leBytes : Nat → Nat → List Byte
  | 0, _ => []
  | k + 1, v => BitVec.ofNat 8 v :: leBytes k (v / 256)

/-- The number that little-endian bytes spell. -/
def ofLe : List Byte → Nat
  | [] => 0
  | b :: r => b.toNat + 256 * ofLe r

/-- Bytes `off` to `off + k - 1`; a byte past the end reads 0. -/
def slice (bs : List Byte) (off k : Nat) : List Byte :=
  let x := (bs.drop off).take k
  x ++ List.replicate (k - x.length) 0

def leAt (bs : List Byte) (off k : Nat) : Nat := ofLe (slice bs off k)

/-- A number read as two's complement in `w` bits. -/
def sgn (w v : Nat) : Int := if v % 2 ^ w < 2 ^ (w - 1) then (v % 2 ^ w : Nat) else (v % 2 ^ w : Nat) - (2 ^ w : Int)

/-- The numbers of the bits set in a mask. -/
def bitsOf {w : Nat} (m : BitVec w) : List Nat := (List.range w).filter (fun i => m.getLsbD i)

/-- The mask whose bits i hold for `p i`. -/
def maskOf (w : Nat) (p : Nat → Bool) : BitVec w :=
  BitVec.ofNat w ((List.range w).foldl (fun a i => if p i then a + 2 ^ i else a) 0)

/-- A 32-bit count that saturates (R395). -/
def satInc (w : Word) (k : Nat := 1) : Word := BitVec.ofNat 32 (min (w.toNat + k) (2 ^ 32 - 1))

/-! ### Exact arithmetic -/

/-- The integer square root, by halving `bits` times. -/
def isqrtAux : Nat → Nat → Nat → Nat
  | 0, r, _ => r
  | b + 1, r, n => if (r + 2 ^ b) * (r + 2 ^ b) ≤ n then isqrtAux b (r + 2 ^ b) n else isqrtAux b r n

/-- The largest r with r * r at most n, for n below 2^256. -/
def isqrt (n : Nat) : Nat := isqrtAux 128 0 n

/-- Round half up to an integer. -/
def roundRat (q : Rat) : Int := (q + 1 / 2).floor

/-- Clamp to a range. -/
def clampI (lo hi x : Int) : Int := max lo (min hi x)

/-! ### Time -/

/-- What the monitors read now (R485). -/
def Pwr.readings (p : Pwr) : Readings :=
  { vbat := p.vbat, vio24 := p.vio24, hold := p.hold, vdrv := p.vdrv, vload := p.vload, res := p.res, temps := p.temps }

/-- Time after `dt` ticks; what the power block shows is refreshed at each 1 ms of MT (R485, log 165). -/
def Time.pass (t : Time) (r : Readings) (dt : Nat) : Time :=
  let mt := if t.running then t.mt + dt else t.mt
  { t with up := t.up + dt, mt := mt, shown := if t.mt / msTicks < mt / msTicks then r else t.shown }

/-- Let `dt` ticks pass (R10): the model's clock always runs, MT while the module runs. -/
def State.advance (s : State) (dt : Nat) : State := { s with time := s.time.pass s.pwr.readings dt }

/-- The present master MT. -/
def State.now (s : State) : Nat := s.time.mt

/-- The islands run that a hold-up stops (R428). -/
def State.islands (s : State) : Bool := s.time.running && !s.pwr.onHold && !s.pwr.brownout

/-- Use one free value: its number, and the state that has used it. -/
def State.takeFree (s : State) : Nat × State := (s.free, { s with free := s.free + 1 })

/-! ### Counters -/

/-- Add to counter `i` of R395, saturating. -/
def State.count (s : State) (i : Nat) (k : Nat := 1) : State :=
  { s with cnt := s.cnt.modify i (satInc · k) }

/-! ### Field updates -/

def State.updTime (s : State) (f : Time → Time) : State := { s with time := f s.time }
def State.updDev (s : State) (f : Dev → Dev) : State := { s with dev := f s.dev }
def State.updPwr (s : State) (f : Pwr → Pwr) : State := { s with pwr := f s.pwr }
def State.updSag (s : State) (f : Sag → Sag) : State := { s with sag := f s.sag }
def State.updHost (s : State) (f : HostIf → HostIf) : State := { s with host := f s.host }
def State.updCfg (s : State) (f : Cfg → Cfg) : State := { s with cfg := f s.cfg }
def State.updFlash (s : State) (f : Flash → Flash) : State := { s with flash := f s.flash }
def State.updTiles (s : State) (f : Tiles → Tiles) : State := { s with tiles := f s.tiles }
def State.updPlanner (s : State) (f : Planner → Planner) : State := { s with planner := f s.planner }
def State.updChan (s : State) (ch : Nat) (f : Chan → Chan) : State :=
  { s with valves := { s.valves with ch := s.valves.ch.modify ch f } }
def State.updCtx (s : State) (ch : Nat) (f : Ctx → Ctx) : State :=
  s.updChan ch (fun c => { c with ctx := f c.ctx })
def State.updGroup (s : State) (g : Nat) (f : Group → Group) : State :=
  { s with valves := { s.valves with grp := s.valves.grp.modify g f } }
def State.updQuad (s : State) (q : Nat) (f : Quad → Quad) : State :=
  { s with valves := { s.valves with quad := s.valves.quad.modify q f } }
def State.updRing (s : State) (n : Nat) (f : Ring → Ring) : State :=
  { s with host := { s.host with rings := s.host.rings.modify n f } }
def State.updVec (s : State) (v : Nat) (f : Vec → Vec) : State :=
  { s with host := { s.host with vecs := s.host.vecs.modify v f } }

def State.chan (s : State) (ch : Nat) : Chan := s.valves.ch.getD ch {}
def State.ctx (s : State) (ch : Nat) : Ctx := (s.chan ch).ctx
def State.group (s : State) (g : Nat) : Group := s.valves.grp.getD g {}
def State.quad (s : State) (q : Nat) : Quad := s.valves.quad.getD q {}
def State.ring (s : State) (n : Nat) : Ring := s.host.rings.getD n {}
def State.vec (s : State) (v : Nat) : Vec := s.host.vecs.getD v {}

/-- Apply an update to each of a list. -/
def State.each {α : Type} (s : State) (xs : List α) (f : State → α → State) : State := xs.foldl f s

/-! ### The variant (R1 to R3) -/

/-- Valve channels, groups and quadrants fitted. -/
def State.nCh (s : State) : Nat := if s.dev.variant = 0 then 96 else 48
def State.nGrp (s : State) : Nat := if s.dev.variant = 0 then 12 else 6
def State.nQuad (s : State) : Nat := if s.dev.variant = 0 then 4 else 2

/-! ### The host interface (R340 to R368) -/

/-- Whether the module may issue DMA and MSI-X (R341, R482). -/
def HostIf.dmaOk (h : HostIf) : Bool := h.link && h.bme && h.d0
def State.dmaOk (s : State) : Bool := s.host.dmaOk

/-- Whether the device state serves rings at all (R31): RESET and BOOT serve none. -/
def DevState.servesRings : DevState → Bool
  | .reset => false
  | .boot => false
  | _ => true

/-- Whether ring `n` is served (R348): CMD and CPL whenever enabled, the others from BIND until
UNBIND or host loss; none until the next sweep once Bus Master Enable was 0 or the function out of D0 (R482). -/
def State.served (s : State) (n : Nat) : Bool :=
  s.dmaOk && !s.host.paused && s.dev.st.servesRings && (s.ring n).en && !(s.ring n).fresh && !(s.ring n).stopped
    && (n ≤ 1 || s.dev.bound)

/-- Free descriptors of an outbound ring (R351). -/
def Ring.room (r : Ring) : Nat := 2 ^ r.log2 - (r.mod - r.host).toNat

/-- The address of descriptor `i` (R351). -/
def Ring.addr (r : Ring) (i : Word) : DWord := r.base + BitVec.ofNat 64 (32 * (i.toNat % 2 ^ r.log2))

/-- Announced and not yet taken descriptors of an inbound ring (R351). -/
def Ring.waiting (r : Ring) : Nat := (r.host - r.mod).toNat

/-- The precedence of a ring's writes on a loaded link (R363). -/
def ringPrec (n : Nat) : Nat :=
  match n with
  | 1 => 1 | 2 => 2 | 4 => 3 | 6 => 6 | 7 => 7 | 3 => 8
  | n => if n < 12 then 4 else 5

/-- The precedence of a write (R363): what a command's completion announces goes with it, and a status block or a
message with the write formed before it (R353), none given. -/
def HostWrite.prec : HostWrite → Option Nat
  | .body n _ _ => some (ringPrec n)
  | .head n _ _ _ => some (ringPrec n)
  | .done n _ _ _ => some (ringPrec n)
  | .report _ _ => some 1
  | .bytes _ _ => some 1
  | _ => none

/-- What waits for no other: the answer to a request of the host. -/
def HostWrite.direct : HostWrite → Bool
  | .configRetry => true
  | .unsupported => true
  | _ => false

/-- The precedence of a DMA read among the reads (R363), none for a write. -/
def HostWrite.readPrec : HostWrite → Option Nat
  | .doorbellRead _ => some 1
  | .descRead _ _ _ _ => some 2
  | .bufferRead _ => some 3
  | _ => none

/-- Queue a write behind those of its precedence or a higher one (R363). -/
def queueWrite (p : Nat) (w : HostWrite) (q : List (Nat × HostWrite)) : List (Nat × HostWrite) :=
  q.takeWhile (fun x => x.1 ≤ p) ++ (p, w) :: q.dropWhile (fun x => x.1 ≤ p)

/-- A status block accounts for no record that the link has not taken (R350): such a ring's index stands at its
first record that waits. -/
def HostWrite.accounts (q : List (Nat × HostWrite)) : HostWrite → HostWrite
  | .status a mods mt boot st g e t n =>
    .status a (mods.zipIdx.map (fun m =>
      (q.findSome? (fun x => match x.2 with
        | .body r i _ => if r = m.2 then some i else none
        | _ => none)).getD m.1)) mt boot st g e t n
  | w => w

/-- The link takes up to `k` of the writes that wait, in their order: those taken, and those that still wait.  A
record that is started is finished (R353). -/
def linkStep : Nat → List (Nat × HostWrite) → List HostWrite × List (Nat × HostWrite)
  | 0, q => ([], q)
  | _ + 1, [] => ([], [])
  | k + 1, (_, .body n i ds) :: (_, .head m j a h) :: q =>
    let r := linkStep k q
    (.body n i ds :: .head m j a h :: r.1, r.2)
  | k + 1, (_, w) :: q =>
    let r := linkStep k q
    (w.accounts q :: r.1, r.2)

/-- The link takes some of the writes and of the reads that wait, how many being free values (log 112); none while
the module may issue nothing (R341). -/
def HostIf.issue (h : HostIf) : HostIf :=
  if h.dmaOk then
    let r := linkStep (Config.linkTakes h.linkN) h.queue
    let q := linkStep (Config.linkTakes (h.linkN + 1)) h.reads
    { h with linkN := h.linkN + 2, sent := h.sent ++ r.1 ++ q.1, queue := r.2, reads := q.2 }
  else h

/-- Form a write or a read: it waits for the link with the others of its kind. -/
def HostIf.form (h : HostIf) (w : HostWrite) : HostIf :=
  let h := { h with out := h.out ++ [w] }
  if w.direct then { h with sent := h.sent ++ [w] }
  else match w.readPrec with
    | some p => { h with reads := queueWrite p w h.reads }
    | none =>
      let p := w.prec.getD h.lastPrec
      { h with queue := queueWrite p w h.queue, lastPrec := p }

/-- Form writes or reads of the module, together; none but an answer while it may issue nothing (R341). -/
def State.emits (s : State) (ws : List HostWrite) : State :=
  { s with host := ((ws.filter (fun w => w.direct || s.dmaOk)).foldl HostIf.form s.host).issue }

def State.emit (s : State) (w : HostWrite) : State := s.emits [w]

/-- The link may take writes that wait. -/
def State.linkTakes (s : State) : State := { s with host := s.host.issue }

/-- Write the status block (R350), where the module may (R341). -/
def State.writeStatus (s : State) : State :=
  let h := s.host
  let w := HostWrite.status h.stBase (h.rings.map (·.mod)) (BitVec.ofNat 64 s.now) s.dev.bootCount
    s.dev.st.code s.dev.grace.isSome (s.cnt.getD 64 0) (s.cnt.getD 65 0) h.sweeps
  if s.dmaOk then (s.emit w).updHost (fun h => { h with idxChanged := false, lastStatus := s.now }) else s

/-- Send a vector's MSI-X message, or set its PBA bit (R367, R368, R483). -/
def State.sendMsix (s : State) (v : Nat) : State :=
  let x := s.vec v
  if x.mask || s.host.fmask || x.addr = 0 || s.host.paused || !s.dmaOk then
    s.updVec v (fun x => { x with pba := true, count := 0 })
  else (s.emit (.msix v x.addr x.data)).updVec v (fun x => { x with pba := false, count := 0 })

/-- A waiting write that a later message of vector `v` follows: a record of a ring of the vector, or the status block
written with one (R353, R367). -/
def State.beforeMsix (s : State) (v : Nat) (x : Nat × HostWrite) : Bool :=
  match x.2 with
  | .body r _ _ => decide ((s.ring r).vec = v)
  | .done r _ _ _ => decide ((s.ring r).vec = v)
  | .status .. => (List.range 16).any (fun r => decide ((s.ring r).vec = v ∧ ringPrec r = x.1))
  | _ => false

/-- Send a vector's message later than its last record: behind every write of it that waits (R353, R367). -/
def State.sendLate (s : State) (v : Nat) : State :=
  let p := ((s.host.queue.filter (s.beforeMsix v)).map (·.1)).foldl max 1
  (s.updHost (fun h => { h with lastPrec := p })).sendMsix v

/-- A vector whose PBA bit is set sends once nothing withholds it (R368, R482, R483). -/
def State.pbaSends (s : State) (v : Nat) : State :=
  let x := s.vec v
  if x.pba && !x.mask && !s.host.fmask && x.addr ≠ 0 then s.sendLate v else s

/-- Account one record to a vector (R367). -/
def State.notify (s : State) (v : Nat) (urgent : Bool) : State :=
  let s := s.updVec v (fun x =>
    { x with count := x.count + 1, curTime := x.modTime, curCount := x.modCount,
             oldest := if x.count = 0 then s.now else x.oldest })
  let x := s.vec v
  if urgent || x.curTime = 0 || x.curCount ≤ x.count then s.sendMsix v else s

/-- FLAGS of the next record of a ring (R354). -/
def Ring.flags (r : Ring) (urgent : Bool) : Nat :=
  pack [(0, 1, 1 - (r.mod.toNat >>> r.log2) % 2), (1, 1, b2n r.loss), (2, 1, b2n urgent)]

/-- Write one record of `ds` descriptors to an outbound ring, in the order of R353.  The header's
FLAGS (bits 15:8) are filled here. -/
def State.writeRec (s : State) (n : Nat) (ds : List Desc) (urgent : Bool) : State :=
  let r := s.ring n
  let hd := ds.headD 0
  let hd := hd ||| BitVec.ofNat 256 (r.flags urgent <<< 8)
  let body := (hd &&& ~~~(BitVec.ofNat 256 0xFFFFFFFF)) :: ds.drop 1
  let at_ := fun (i : Nat) => r.addr (r.mod + BitVec.ofNat 32 i)
  let s := s.emits [.body n r.mod (body.zipIdx.map (fun q => (at_ q.2, q.1))), .head n r.mod (at_ 0) (BitVec.ofNat 32 hd.toNat)]
  let s := s.updRing n (fun r => { r with mod := r.mod + BitVec.ofNat 32 ds.length, loss := false })
  let s := s.writeStatus
  s.notify r.vec urgent

/-- Whether `k` more descriptors can be written to an outbound ring now. -/
def State.canWrite (s : State) (n k : Nat) : Bool := s.served n && k ≤ (s.ring n).room

/-! ### Events (R362, R385) -/

def Evt.desc (e : Evt) (seq : BitVec 16) : Desc :=
  descOf [(0, 8, 1), (16, 16, seq.toNat), (32, 16, e.code.toNat), (48, 16, e.subject.toNat),
    (64, 64, e.mt.toNat), (128, 128, e.data.toNat)]

/-- Write one event to the EVT ring. -/
def State.writeEvt (s : State) (e : Evt) : State :=
  let s' := s.writeRec 2 [e.desc s.host.evtSeq] e.urgent
  { s' with host := { s'.host with evtSeq := s.host.evtSeq + 1 } }

/-- Queue an event; a full queue drops its oldest (R362). -/
def State.queueEvt (s : State) (e : Evt) : State :=
  if s.host.events.length < 256 then { s with host := { s.host with events := s.host.events ++ [e] } }
  else
    let s := { s with host := { s.host with events := s.host.events.drop 1 ++ [e] } }
    (s.count 64).updRing 2 (fun r => { r with loss := true })

/-- Raise an event: written at once where the EVT ring can take it and none waits (R362). -/
def State.raise (s : State) (code subject : Nat) (data : List (Nat × Nat × Nat)) (urgent : Bool) : State :=
  let e : Evt := { code := BitVec.ofNat 16 code, subject := BitVec.ofNat 16 subject,
                   mt := BitVec.ofNat 64 s.now, data := resultOf data, urgent := urgent }
  if s.host.events.isEmpty && s.canWrite 2 1 then s.writeEvt e else s.queueEvt e

/-- SUBJECT of the module. -/
abbrev subjModule : Nat := 0xFFFF

/-- Write queued events while the ring takes them (R362). -/
def State.drainEvts : Nat → State → State
  | 0, s => s
  | k + 1, s =>
    match s.host.events with
    | [] => s
    | e :: r =>
      if s.canWrite 2 1 then State.drainEvts k ({ s with host := { s.host with events := r } }.writeEvt e)
      else s

/-! ### Fault records (R388) -/

/-- Put a record into flash with the next number; a full partition loses its oldest. -/
def State.storeRec (s : State) (r : FaultRec) : State :=
  let r := { r with number := s.flash.nextRec }
  let rs := if s.flash.records.length < Config.recordCap then s.flash.records
            else s.flash.records.drop 1
  { s with flash := { s.flash with records := rs ++ [r], nextRec := s.flash.nextRec + 1 } }

/-- Append a record that already has its number. -/
def State.keepRec (s : State) (r : FaultRec) : State :=
  s.updFlash (fun f =>
    { f with records := (if f.records.length < Config.recordCap then f.records else f.records.drop 1) ++ [r] })

/-- The record of a happening now, not yet numbered. -/
def State.mkRec (s : State) (source code subject : Nat) (data : List (Nat × Nat × Nat)) : FaultRec :=
  { boot := s.dev.bootCount, mt := BitVec.ofNat 64 s.now, state := s.dev.st.code, source := source,
    code := BitVec.ofNat 16 code, subject := BitVec.ofNat 16 subject, data := resultOf data }

/-- Record a local finding in flash and raise its event (R388). -/
def State.record (s : State) (source code subject : Nat) (data : List (Nat × Nat × Nat))
    (urgent : Bool) : State :=
  (s.storeRec (s.mkRec source code subject data)).raise code subject data urgent

/-! ### Telemetry (R364 to R366) -/

/-- Size of a waiting record in the 64 KiB buffer. -/
def telBytes (t : List Tel) : Nat := (t.map (fun r => 32 * r.descs.length)).sum

/-- Drop one record of a class, counted. -/
def State.dropTel (s : State) (cls : Nat) : State :=
  let s := { s with host := { s.host with telDrops := s.host.telDrops.modify cls satInc } }
  (s.count 65).updRing 3 (fun r => { r with loss := true })

/-- Write one telemetry record. -/
def State.writeTel (s : State) (t : Tel) : State :=
  let hd := (t.descs.headD 0) ||| BitVec.ofNat 256 (s.host.telSeq.toNat <<< 16)
  let s' := s.writeRec 3 (hd :: t.descs.drop 1) false
  { s' with host := { s'.host with telSeq := s.host.telSeq + 1 } }

/-- A telemetry record of `k` descriptors can be written: the ring takes it, and on the link nothing waits before
it (R363). -/
def State.telReady (s : State) (k : Nat) : Bool := s.canWrite 3 k && s.host.queue.isEmpty

/-- Write waiting telemetry, TIME records first, while the TEL ring takes it and the link has nothing else to do. -/
def State.drainTel : Nat → State → State
  | 0, s => s
  | k + 1, s =>
    match s.host.telTime, s.host.tel with
    | t :: r, _ =>
      if s.telReady t.descs.length then
        State.drainTel k ({ s with host := { s.host with telTime := r } }.writeTel t)
      else s
    | [], t :: r =>
      if s.telReady t.descs.length then
        State.drainTel k ({ s with host := { s.host with tel := r } }.writeTel t)
      else s
    | [], [] => s

/-- Drop the oldest records until the buffer holds a record of `need` bytes. -/
def State.makeTelRoom : Nat → Nat → State → State
  | 0, _, s => s
  | k + 1, need, s =>
    match s.host.tel with
    | [] => s
    | t :: r =>
      if telBytes s.host.tel + need ≤ 65536 then s
      else State.makeTelRoom k need ({ s with host := { s.host with tel := r } }.dropTel t.cls)

/-- Form a telemetry record of class `cls` (7 for TIME) and write what the ring takes (R366); one
formed while the link is down, or from a host-interface reset to the next BIND, is dropped (R342, log 121). -/
def State.formTel (s : State) (cls : Nat) (ds : List Desc) : State :=
  if !s.host.link || s.host.away then s.dropTel cls
  else
  let t : Tel := { cls := cls, formed := s.now, descs := ds }
  let s :=
    if cls = 7 then
      if s.host.telTime.length < 64 then
        { s with host := { s.host with telTime := s.host.telTime ++ [t] } }
      else
        ({ s with host := { s.host with telTime := s.host.telTime.drop 1 ++ [t] } }).dropTel 7
    else
      let s := State.makeTelRoom s.host.tel.length (32 * ds.length) s
      { s with host := { s.host with tel := s.host.tel ++ [t] } }
  State.drainTel (s.host.tel.length + s.host.telTime.length) s.linkTakes

/-- Whether a class is selected (R365); TIME always is. -/
def State.telOn (s : State) (cls : Nat) : Bool := cls = 7 || s.host.telSel.on.getLsbD cls

/-- Count one forming of record type `typ` and say whether its decimation selects it (R389). -/
def State.telTurn (s : State) (cls typ : Nat) : Bool × State :=
  let n := ((s.host.telCount.find? (fun p => p.1 = typ)).map (·.2)).getD 0
  let dec := s.host.telSel.decs.getD cls 1
  let c := (typ, (n + 1) % (max dec 1)) :: s.host.telCount.filter (fun p => p.1 ≠ typ)
  (n = 0, { s with host := { s.host with telCount := c } })

/-- Form a selected and decimated record; discard one whose class is off. -/
def State.telemeter (s : State) (cls typ : Nat) (ds : List Desc) : State :=
  if s.telOn cls then
    let (turn, s) := s.telTurn cls typ
    if turn then s.formTel cls ds else s
  else s

/-! ### Commands (R358 to R377) -/

/-- The status codes of R373. -/
inductive Status where
  | ok | wrongState | busyMaint | notFired | started | clamped | noResource | timeout | faultHeld
  deriving DecidableEq, Repr, Inhabited

def Status.code : Status → Nat
  | .ok => 0 | .wrongState => 1 | .busyMaint => 2 | .notFired => 3 | .started => 4 | .clamped => 5
  | .noResource => 6 | .timeout => 7 | .faultHeld => 8

/-- The CPL descriptor of R361, FLAGS apart. -/
def cplDesc (op : Byte) (tag : BitVec 16) (st : Status) (idx : Word) (mt : Nat) (res : BitVec 128) : Desc :=
  descOf [(0, 8, op.toNat), (16, 16, tag.toNat), (32, 8, st.code), (48, 16, idx.toNat),
    (64, 64, mt), (128, 128, res.toNat)]

/-- A newly enabled ring at its first sweep (R347): its indices become 0. -/
def Ring.begin (r : Ring) : Ring := if r.fresh then { r with mod := 0, host := 0, fresh := false } else r

/-- The completions held go out, while CPL can take them (R360). -/
def State.drainCpl : Nat → State → State
  | 0, s => s
  | k + 1, s =>
    match s.host.heldCpl with
    | [] => s
    | c :: r =>
      if s.canWrite 1 1 then
        State.drainCpl k ((s.updHost (fun h => { h with heldCpl := r })).writeRec 1 [c.1] c.2)
      else s

/-- Start a sweep: newly enabled rings begin, the doorbell read is issued, and what waited for service to resume goes
out (R347, R356, R482). -/
def State.startSweep (s : State) : State :=
  let s := s.emit (.doorbellRead s.host.dbBase)
  let fresh := s.host.rings.any (·.fresh)
  let late := s.host.paused
  let s := s.updHost (fun h =>
    { h with rings := h.rings.map Ring.begin, idxChanged := h.idxChanged || fresh, paused := false, sweeping := true,
             lastSweep := some s.now, extraSweep := false, discard := false, sweeps := h.sweeps + 1 })
  let s := if late then s.each (List.range 32) State.pbaSends else s
  State.drainCpl s.host.heldCpl.length s

/-- Whether any ring is enabled. -/
def State.anyRing (s : State) : Bool := s.host.rings.any (·.en)

/-- The further sweep that a CPL write starts (R355); with a sweep in progress it starts at that one's end. -/
def State.extraSweep (s : State) : State :=
  let soon := match s.host.lastSweep with | some m => decide (s.now < m + 250) | none => false
  if soon then s
  else if s.host.sweeping then s.updHost (fun h => { h with extraSweep := true })
  else s.startSweep

/-- Write a completion that carries an MT, if CPL is enabled (R347, R360, R361); it waits where CPL can take none yet. -/
def State.completeAt (s : State) (op : Byte) (h : Hdr) (idx : Word) (st : Status) (res : BitVec 128) (mt : Nat) : State :=
  let d := cplDesc op h.tag st idx mt res
  if s.canWrite 1 1 then (s.writeRec 1 [d] h.irq).extraSweep
  else if (s.ring 1).en then s.updHost (fun x => { x with heldCpl := x.heldCpl ++ [(d, h.irq)] })
  else s

/-- Write the completion of a command that takes effect, or is judged, now. -/
def State.complete (s : State) (op : Byte) (h : Hdr) (idx : Word) (st : Status)
    (res : BitVec 128) : State := s.completeAt op h idx st res s.now

/-- The host buffer that a command's wait reads. -/
def bufferOf : Instr → DWord
  | .cfgStage _ _ b => b.addr
  | .maintStart _ _ p _ _ _ => p.addr
  | .rateTable _ _ a => a
  | .canFilterSet _ _ _ _ a => a
  | .sxAidOrbit _ _ b _ => b.addr
  | .tilePatch _ _ _ _ _ _ _ _ _ d => d.setWidth 64
  | _ => 0

/-- What a command that passes checks 1 and 2 comes to. -/
inductive Verdict where
  | done (st : Status) (res : BitVec 128) (s : State)
  | wait (dma : Bool) (aux : List Nat) (s : State)

/-- Commands of the first row of the legality matrix (R378), by opcode. -/
def firstRow (op : Nat) : Bool :=
  [0x00, 0x0B, 0x0C, 0xA0, 0x39, 0x24, 0x28, 0x40, 0x44, 0x45, 0x50, 0x59, 0x61, 0x71, 0x73, 0x74,
   0x80, 0x85, 0x13, 0x16, 0xB0, 0xB1, 0xB2].contains op

/-- The legality matrix of R378.  MAINT_START (0x14) is judged by its activity. -/
def legalIn (op : Nat) (st : DevState) : Bool :=
  let sb := st == .standby
  let pk := st == .parked
  let wk := st == .working
  let mn := st == .manual
  let ft := st == .fault
  let sf := st == .safe
  if firstRow op then sf || sb || pk || wk || mn || ft
  else if op = 0x10 ∨ op = 0x15 then sf || sb || pk || wk || mn || ft
  else if op = 0x01 then sf || ft || pk || wk || mn
  else if op = 0x02 then sb || ft
  else if op = 0x03 ∨ op = 0x38 then sb
  else if op = 0x11 ∨ op = 0x12 then sf || sb || pk
  else if op = 0xB3 then sf || sb
  else if op = 0x04 then pk || wk || mn
  else if op = 0x05 ∨ op = 0x06 then pk || wk
  else if op = 0x07 then pk
  else if op = 0x08 ∨ op = 0x26 then mn
  else if op = 0x27 then wk
  else if op = 0x09 then ft
  else if [0x0A, 0x0D, 0xA1, 0xA2, 0xA3, 0xA5, 0xA6].contains op then sb || pk || wk || mn || ft
  else if op = 0xA4 then sb || pk || ft
  else if [0x3A, 0x42, 0x43, 0x46, 0x63, 0x83, 0x84, 0x87].contains op then sb || pk
  else if [0x20, 0x21, 0x22, 0x23, 0x25, 0x41, 0x53, 0x55, 0x56, 0x57, 0x58, 0x75, 0x76, 0x81, 0x86].contains op then
    sb || pk || wk || mn
  else if [0x51, 0x52, 0x54, 0x60, 0x70].contains op then pk || wk || mn
  else if [0x62, 0x72, 0x82].contains op then sb || pk || wk || mn || ft
  else if op = 0x14 then sf || sb || pk || wk || mn || ft
  else false

/-- ST3 selects flash write-protect (R403, R468). -/
def State.writeProtect (s : State) : Bool :=
  let l := s.dev.straps.getD 3 7
  l = 3 || l = 4 || l = 5

/-- Check 2 of R374, with R53 during a grace, the write-protect of R403, and R35 for the commands of a sweep in
which FAULT was entered. -/
def State.admits (s : State) (op : Nat) : Bool :=
  legalIn op s.dev.st && !(s.host.discard && s.host.sweeping)
    && (if s.dev.grace.isSome then firstRow op || op = 0x01
        else op ≠ 0x01 || s.dev.st == .safe || s.dev.st == .fault)
    && !(s.writeProtect && [0x10, 0x11, 0x12, 0xB3].contains op)

/-- The commands taken that still owe a completion. -/
def State.open_ (s : State) : List Waiting := s.host.outstanding.filter (fun w => !w.silent)

/-- Whether the descriptor at the CMD ring's module index can be taken now (R348, R359): CMD is
served and announced, CPL has a descriptor beyond those reserved, fewer than 64 commands are
outstanding, and a FENCE has nothing before it. -/
def State.canTake (s : State) (fence : Bool) : Bool :=
  s.served 0 && 0 < (s.ring 0).waiting && (s.ring 0).waiting ≤ 2 ^ (s.ring 0).log2
    && s.served 1 && s.open_.length < (s.ring 1).room && s.open_.length < 64 && (!fence || s.open_.isEmpty)

/-- Take one command: judge it (R374) and complete it or let it wait (R360).  The caller has checked
canTake. -/
def State.take (s : State) (op : Byte) (cmd : Instr) (h : Hdr) (body : State → Verdict) : State :=
  let idx := (s.ring 0).mod
  let s := (s.updRing 0 (fun r => { r with mod := r.mod + 1 })).updHost (fun h => { h with idxChanged := true })
  if !s.admits op.toNat then s.complete op h idx .wrongState 0
  else match body s with
    | .done st res s => s.complete op h idx st res
    | .wait dma aux s =>
      let w : Waiting := { cmd := cmd, op := op, h := h, idx := idx, dma := dma, aux := aux, mt := s.now }
      let s := if dma then s.emit (.bufferRead (bufferOf cmd)) else s
      { s with host := { s.host with outstanding := s.host.outstanding ++ [w] } }

/-- Complete a waiting command with an MT, and forget it. -/
def State.finishAt (s : State) (w : Waiting) (st : Status) (res : BitVec 128) (mt : Nat) : State :=
  let s := { s with host := { s.host with outstanding := s.host.outstanding.filter (fun x => !w.same x) } }
  if w.silent then s else s.completeAt w.op w.h w.idx st res mt

/-- Complete a waiting command that takes effect, or is judged on its operands, now. -/
def State.finish (s : State) (w : Waiting) (st : Status) (res : BitVec 128) : State := s.finishAt w st res s.now

/-- Complete a waiting command that ends without effect, with the MT it was judged at (R361). -/
def State.finishNone (s : State) (w : Waiting) (st : Status) (res : BitVec 128) : State := s.finishAt w st res w.mt

/-- The waiting command of an opcode that a predicate selects, the oldest first. -/
def State.waitingFor (s : State) (op : Nat) (p : Waiting → Bool := fun _ => true) : Option Waiting :=
  s.host.outstanding.find? (fun w => w.op.toNat = op && p w)

/-- Change what a waiting command has fixed. -/
def State.updWaiting (s : State) (w : Waiting) (f : Waiting → Waiting) : State :=
  { s with host := { s.host with
      outstanding := s.host.outstanding.map (fun x => if w.same x then f x else x) } }

/-- The RESULT of BUSY_MAINT (R361). -/
def holderRes (tag : BitVec 16) : BitVec 128 := resultOf [(128, 16, tag.toNat)]

/-- Checks 3 to 6 of R374 in their order, then the command's own effect. -/
def checks (s : State) (exists_ : Bool) (content : Bool) (holder : Option (BitVec 16))
    (allowed : Option Status) (k : Verdict) : Verdict :=
  if !exists_ then .done .noResource 0 s
  else if !content then .done .notFired 0 s
  else match holder with
    | some t => .done .busyMaint (holderRes t) s
    | none => match allowed with
      | some st => .done st 0 s
      | none => k

/-- OK, or CLAMPED where a value was clamped (R377). -/
def okOr (clamped : Bool) : Status := if clamped then .clamped else .ok

/-! ### Reports (R380) -/

/-- One report item: KIND and the words after word 0. -/
abbrev Item := Nat × List Word

def itemWords (i : Item) : List Word :=
  BitVec.ofNat 32 ((i.2.length + 1) + i.1 * 65536) :: i.2

/-- The items that fit within a number of words, whole items only. -/
def fitItems : Nat → List Item → List Item
  | _, [] => []
  | room, i :: r => if i.2.length + 1 ≤ room then i :: fitItems (room - (i.2.length + 1)) r else []

/-- The two words of a 64-bit value, low word first. -/
def dwords (n : Nat) : List Word := [BitVec.ofNat 32 n, BitVec.ofNat 32 (n / 2 ^ 32)]

def wn (n : Nat) : Word := BitVec.ofNat 32 n

/-- Write a report to REP and complete OK with its counts.  A REPORT_LEN too short for the 32-byte
header gets no header either; R380 states no such case (log 8). -/
def report (op : Byte) (h : Hdr) (rep : Ref) (items : List Item) (s : State) : Verdict :=
  let len := rep.len.toNat / 4
  let kept := fitItems (len - 8) items
  let body := (kept.map itemWords).flatten
  let bytes := 32 + 4 * body.length
  let hdr : List Word :=
    [wn (op.toNat + h.tag.toNat * 65536)] ++ dwords s.now
      ++ [wn (kept.length + items.length % 65536 * 65536), wn bytes, 0, 0, 0]
  let addr := rep.addr &&& ~~~(31 : DWord)
  let (s, n, b) := if len < 8 then (s, 0, 0) else (s.emit (.report addr (hdr ++ body)), kept.length, bytes)
  .done .ok (resultOf [(128, 16, n), (144, 16, items.length), (160, 32, b)]) s

end Sys2Proof.Machine
end

