-- ==== Sys2Proof/Machine/Hash.lean ====
section
/-! DEFINITION. The checks over bytes that the spec names: CRC-32 with the conventions of R140, the
SHA-256 digest of R398, and CRC-24Q of RTCM 3 frames (R81, log 9). -/

namespace Sys2Proof.Machine

/-- Shift a reflected 32-bit remainder through `k` bits of the polynomial 0x04C1_1DB7. -/
def crc32Bits : Nat → Word → Word
  | 0, c => c
  | k + 1, c => crc32Bits k (if c.getLsbD 0 then (c >>> 1) ^^^ 0xEDB88320 else c >>> 1)

def crc32Step (c : Word) (b : Byte) : Word := crc32Bits 8 (c ^^^ b.setWidth 32)

/-- CRC-32 of R140: reflected, initial value and final XOR 0xFFFF_FFFF. -/
def crc32 (bs : List Byte) : Word := (bs.foldl crc32Step 0xFFFFFFFF) ^^^ 0xFFFFFFFF

def crc24Bits : Nat → BitVec 24 → BitVec 24
  | 0, c => c
  | k + 1, c => crc24Bits k (if c.getLsbD 23 then (c <<< 1) ^^^ 0x864CFB else c <<< 1)

/-- CRC-24Q over an RTCM 3 frame up to its parity (R81). -/
def crc24q (bs : List Byte) : BitVec 24 :=
  bs.foldl (fun (c : BitVec 24) (b : Byte) => crc24Bits 8 (c ^^^ ((b.setWidth 24 : BitVec 24) <<< 16))) 0

/-- The integer cube root, by halving `bits` times. -/
def icbrtAux : Nat → Nat → Nat → Nat
  | 0, r, _ => r
  | b + 1, r, n => if (r + 2 ^ b) ^ 3 ≤ n then icbrtAux b (r + 2 ^ b) n else icbrtAux b r n

/-- The first 64 primes, by trial division. -/
def shaPrimes : List Nat :=
  (List.range 312).filter (fun n => decide (2 ≤ n) && (List.range (isqrt n + 1)).all (fun d => decide (d < 2) || n % d != 0))

/-- The round constants of FIPS 180-4: the first 32 bits of the fractions of the cube roots of the first
64 primes. -/
def shaRoundConst (p : Nat) : Word := BitVec.ofNat 32 (icbrtAux 36 0 (p <<< 96))

/-- The initial hash value of FIPS 180-4: the same of the square roots of the first 8 primes. -/
def shaStart : List Word := (shaPrimes.take 8).map (fun p => BitVec.ofNat 32 (isqrtAux 38 0 (p <<< 64)))

/-- Big-endian 32-bit words of bytes. -/
def beWords : List Byte → List Word
  | a :: b :: c :: d :: r =>
    (a.setWidth 32 <<< 24 ||| b.setWidth 32 <<< 16 ||| c.setWidth 32 <<< 8 ||| d.setWidth 32) :: beWords r
  | _ => []

/-- The next `k` words of a message schedule held newest first. -/
def shaSchedule : Nat → List Word → List Word
  | 0, w => w
  | k + 1, w =>
    let w2 := w.getD 1 0
    let w7 := w.getD 6 0
    let w15 := w.getD 14 0
    let w16 := w.getD 15 0
    let s0 := w15.rotateRight 7 ^^^ w15.rotateRight 18 ^^^ (w15 >>> 3)
    let s1 := w2.rotateRight 17 ^^^ w2.rotateRight 19 ^^^ (w2 >>> 10)
    shaSchedule k ((w16 + s0 + w7 + s1) :: w)

/-- One round on the eight working variables. -/
def shaRound (v : List Word) (kw : Word × Word) : List Word :=
  let a := v.getD 0 0
  let b := v.getD 1 0
  let c := v.getD 2 0
  let e := v.getD 4 0
  let f := v.getD 5 0
  let g := v.getD 6 0
  let s1 := e.rotateRight 6 ^^^ e.rotateRight 11 ^^^ e.rotateRight 25
  let t1 := v.getD 7 0 + s1 + ((e &&& f) ^^^ (~~~e &&& g)) + kw.1 + kw.2
  let s0 := a.rotateRight 2 ^^^ a.rotateRight 13 ^^^ a.rotateRight 22
  let t2 := s0 + ((a &&& b) ^^^ (a &&& c) ^^^ (b &&& c))
  [t1 + t2, a, b, c, v.getD 3 0 + t1, e, f, g]

/-- Hash one block of 16 words into the state. -/
def shaBlock (h : List Word) (blk : List Word) : List Word :=
  let w := (shaSchedule 48 blk.reverse).reverse
  List.zipWith (· + ·) h (((shaPrimes.map shaRoundConst).zip w).foldl shaRound h)

/-- The blocks of a padded message, at most `k` of them. -/
def shaBlocks : Nat → List Word → List (List Word)
  | 0, _ => []
  | k + 1, w => if w.isEmpty then [] else w.take 16 :: shaBlocks k (w.drop 16)

/-- The padding of FIPS 180-4. -/
def shaPad (bs : List Byte) : List Byte :=
  let z := (119 - bs.length % 64) % 64
  bs ++ [(0x80 : Byte)] ++ List.replicate z 0 ++ (leBytes 8 (8 * bs.length)).reverse

/-- SHA-256 as eight words. -/
def sha256 (bs : List Byte) : List Word :=
  let w := beWords (shaPad bs)
  (shaBlocks (w.length / 16 + 1) w).foldl shaBlock shaStart

/-- The digest of R398: the first 8 bytes of the hash, read little-endian. -/
def digestOf (bs : List Byte) : DWord :=
  let h := sha256 bs
  let be := fun (w : Word) => (leBytes 4 w.toNat).reverse
  BitVec.ofNat 64 (ofLe (be (h.getD 0 0) ++ be (h.getD 1 0)))

end Sys2Proof.Machine
end

