-- ==== Sys2Proof/Machine/Operands.lean ====
section
/-! DEFINITION. Reading the configuration in force and the straps: field values with their defaults
(R396, R466 to R472), sources and sinks of loops, energy limits, and what is in use. -/

namespace Sys2Proof.Machine

/-- Offset of a flash partition (R27). -/
def flashOffset : FlashPart → Nat
  | .firmware => 0x00000000
  | .slot n => 0x01000000 + 0x00100000 * n.val
  | .journal => 0x01300000
  | .calibration => 0x01340000
  | .records => 0x013C0000
  | .reserved => 0x014C0000

/-- Size of a flash partition in bytes (R27). -/
def flashSize : FlashPart → Nat
  | .firmware => 0x01000000
  | .slot _ => 0x00100000
  | .journal => 0x00040000
  | .calibration => 0x00080000
  | .records => 0x00100000
  | .reserved => 0x00B40000

/-- Records of the journal, 256 bytes each, and of one of its halves (R401). -/
def journalPlaces : Nat := flashSize .journal / 256
def journalHalf : Nat := journalPlaces / 2

/-- Decoded level index of strap `n` (R466). -/
def State.strap (s : State) (n : Nat) : Nat := s.dev.straps.getD n 7

/-- The level index that a resistance decodes to (R466); an open land reads open. -/
def strapLevel : Option Nat → Nat
  | none => 7
  | some r => if r < 1000 then 0 else if r < 3200 then 1 else if r < 6860 then 2
    else if r < 14800 then 3 else if r < 32200 then 4 else if r < 68600 then 5
    else if r < 220000 then 6 else 7

/-- Whether a resistance lies within 5 % of a window boundary (R466). -/
def strapMarginal : Option Nat → Bool
  | none => false
  | some r => [1000, 3200, 6860, 14800, 32200, 68600, 220000].any
      (fun b => 95 * b ≤ 100 * r && 100 * r ≤ 105 * b)

/-- Default SAG level of ST0, mV (R421). -/
def st0Sag (l : Nat) : Nat := [9000, 10200, 18000, 20400, 36000, 40800, 15600, 18000].getD l 18000

/-- Class nominal of ST0, V (R421). -/
def st0Class (l : Nat) : Nat := [12, 12, 24, 24, 48, 48, 24, 24].getD l 24

/-- Energy class of ST1: 0 EC-A, 1 EC-B, 2 EC-C (R430). -/
def st1Class (l : Nat) : Nat := if l = 0 then 2 else if l = 1 then 1 else 0

/-- ST2's safe state of load switch `n`: 0 OFF, 1 LOW, 2 HIGH (R46). -/
def st2Ls (l n : Nat) : Nat :=
  if l = 2 ∨ l = 3 then 1
  else if l = 4 ∨ l = 5 then (if n < 4 then 2 else 0)
  else if l = 6 then (if n < 4 then 2 else 1)
  else 0

/-- ST2's safe state of every field output: 0 OFF, 1 ON, 2 HOLD (R46). -/
def st2Fd (l : Nat) : Nat := if l = 1 ∨ l = 3 ∨ l = 5 then 2 else 0

/-- HOST_GRACE of ST4, ms (R469). -/
def st4Grace (l : Nat) : Nat := [200, 0, 500, 1000, 200, 500, 200, 200].getD l 200

/-- Highest PCI Express rate of ST4, in 0.1 GT/s (R340, R469). -/
def st4Rate (l : Nat) : Nat := [80, 80, 80, 80, 50, 50, 25, 80].getD l 80

/-- The highest rate the link trains at (R340, R469). -/
def State.linkRate (s : State) : Nat := st4Rate (s.strap 4)

/-- Nominal rate of BUS0 by ST5, kbit/s (R470). -/
def st5Rate (l : Nat) : Nat := [250, 250, 250, 500, 500, 125, 1000, 250].getD l 250

/-- TERM of a bus by ST5 (R470). -/
def st5Term (l bus : Nat) : Nat :=
  if bus = 0 then (if l = 0 ∨ l = 1 ∨ l = 3 then 1 else 0)
  else if bus = 1 then (if l = 0 ∨ l = 3 then 1 else 0) else 0

/-- ANTENNAS of ST7: 0 none, 1 A, 2 A+B (R472). -/
def st7Antennas (l : Nat) : Nat := if l ≤ 2 then 2 else if l ≤ 5 then 1 else 0

/-- IMU_MODE of ST7: 0 NONE, 1 DRDY, 2 SYNC (R472). -/
def st7Imu (l : Nat) : Nat := if l = 0 ∨ l = 3 then 1 else if l = 1 ∨ l = 4 then 2 else 0

/-- The default ISO 11783 NAME (R338): identity number from the serial number, industry group 2,
arbitrary address capable; the bit places are ISO 11783-5's (log 10). -/
def defaultName (serial : Nat) : Nat := serial % 2 ^ 21 + 2 * 2 ^ 60 + 2 ^ 63

/-- The sinks of O_SINK, coded as log 11 states. -/
inductive Sink where
  | none | lsDuty (n : Nat) | lsBridge (pair : Nat) | vcDuty (ch : Nat) | can (frame : Nat)
  | cascade (loop : Nat)
  deriving DecidableEq, Repr, Inhabited

def decodeSink (v : Int) : Sink :=
  let n := v.toNat
  let i := n / 256 % 256
  match n % 256 with
  | 1 => .lsDuty i | 2 => .lsBridge i | 3 => .vcDuty i | 4 => .can i | 5 => .cascade i | _ => .none

/-- The measurement sources of M_SRC, coded as log 11 states. -/
inductive MSrc where
  | ai (n : Nat) | piFreq (n : Nat) | can (bus slot off width : Nat) (signed : Bool)
  | lsCurrent (n : Nat) | vbat | loopU (n : Nat)
  deriving DecidableEq, Repr, Inhabited

def decodeMSrc (v : Int) : MSrc :=
  let n := v.toNat
  let i := n / 256 % 256
  match n % 256 with
  | 1 => .piFreq (i % 16)
  | 2 => .can (i / 64) (i % 64) (n / 65536 % 64) ([8, 16, 32].getD (n / 2 ^ 24 % 4) 8) ((n / 2 ^ 26) % 2 = 1)
  | 3 => .lsCurrent (i % 16) | 4 => .vbat | 5 => .loopU (i % 32) | _ => .ai (i % 16)

/-- M_SRC and O_SINK name something of their lists, with nothing beside it (R260). -/
def mSrcOk (v : Int) : Bool :=
  let n := v.toNat
  match n % 256 with
  | 0 => n / 256 < 16 | 1 => n / 256 < 16
  | 2 => n / 65536 % 256 < 64 && n / 2 ^ 24 % 4 < 3 && n < 2 ^ 27
  | 3 => n / 256 < 16 | 4 => n / 256 = 0 | 5 => n / 256 < 32
  | _ => false

def sinkCodeOk (v : Int) : Bool :=
  let n := v.toNat
  n = 0 || (n / 256 < [0, 16, 8, 96, 32, 32].getD (n % 256) 0)

/-- The range of a sink in sQ16.16 (the Sinks table of R235). -/
def sinkRange : Sink → Int × Int
  | .lsDuty _ => (0, 100 * 65536)
  | .lsBridge _ => (-100 * 65536, 100 * 65536)
  | .vcDuty _ => (0, 100 * 65536)
  | _ => (-2147483648, 2147483647)

/-- A record of the values, where the image holds one. -/
def CfgVals.get? (v : CfgVals) (f : Fld) (i : Nat) : Option Int :=
  (v.vals.find? (fun r => r.1 = f && r.2.1 = i)).map (·.2.2)

/-- The variable-length field of an image; empty where it has none. -/
def CfgVals.blob (v : CfgVals) (f : Fld) (i : Nat) : List Byte :=
  ((v.blobs.find? (fun r => r.1 = f && r.2.1 = i)).map (·.2.2)).getD []

/-- The default of a field (R396): its table's, or the strap's. -/
def fldDefault (straps : List Nat) (serial : Nat) (v : CfgVals) (f : Fld) (i : Nat) : Int :=
  let st := fun n => straps.getD n 7
  match f with
  | .imuMode => st7Imu (st 7)
  | .antennas => st7Antennas (st 7)
  | .nomRate => if i = 0 then st5Rate (st 5) else 250
  | .term => st5Term (st 5) i
  | .isoEn => if i = 0 then 1 else 0
  | .name => defaultName serial
  | .prefAddr => 0x80 + st 6
  | .sagMv => st0Sag (st 0)
  | .tpWidth => min 100000 ((v.get? .tpPeriod 0).getD 1000 * 500)
  | .uMin => (sinkRange (decodeSink ((v.get? .oSink i).getD 0))).1
  | .uMax => (sinkRange (decodeSink ((v.get? .oSink i).getD 0))).2
  | .hdr => 2 ^ 128 - 1
  | f => f.info.dflt

/-- The value of a field under given values. -/
def CfgVals.val (v : CfgVals) (straps : List Nat) (serial : Nat) (f : Fld) (i : Nat) : Int :=
  (v.get? f i).getD (fldDefault straps serial v f i)

/-- The value of a field in force (R396). -/
def State.cfgI (s : State) (f : Fld) (i : Nat := 0) : Int :=
  s.cfg.vals.val s.dev.straps s.dev.serial f i

/-- The same as a natural number. -/
def State.cfgN (s : State) (f : Fld) (i : Nat := 0) : Nat := (s.cfgI f i).toNat

/-- The same as a 0 or 1 field. -/
def State.cfgB (s : State) (f : Fld) (i : Nat := 0) : Bool := s.cfgI f i ≠ 0

/-- Loop `n` is enabled (R234). -/
def State.loopOn (s : State) (n : Nat) : Bool := n < 32 && s.cfgB .loopEn n

def State.sink (s : State) (n : Nat) : Sink := decodeSink (s.cfgI .oSink n)

/-- The enabled loop whose sink is the given one. -/
def State.loopOfSink (s : State) (k : Sink) : Option Nat :=
  (List.range 32).find? (fun n => s.loopOn n && s.sink n == k)

/-- A channel that a loop drives as its VC_DUTY sink (R236). -/
def State.sinkCh (s : State) (ch : Nat) : Bool := (s.loopOfSink (.vcDuty ch)).isSome

/-- A valve channel in use (R488). -/
def State.inUse (s : State) (ch : Nat) : Bool :=
  ch < s.nCh && (s.cfgB .chEnable ch || s.sinkCh ch)

/-- A channel the planner drives. -/
def State.planned (s : State) (ch : Nat) : Bool := ch < s.nCh && s.cfgB .chEnable ch

/-- The energy class in force (R430). -/
def State.energyClass (s : State) : Nat := min (st1Class (s.strap 1)) (s.cfgN .energyClass)

/-- E_CAP per reservoir and E_HOLD, mJ (R430). -/
def eCap (c : Nat) : Nat := [20, 60, 180].getD c 20
def eHold (c : Nat) : Nat := [40, 120, 180].getD c 40

/-- Module total of R430, mJ. -/
def State.totalMj (s : State) : Nat := s.nQuad * eCap s.energyClass + eHold s.energyClass

/-- min(cap, sqrt(2 E / (1.05 C))) in mV rounded down to 100 mV, for E in mJ and C in nF (R187,
R426). -/
def energyMv (cap e c : Nat) : Nat :=
  if c = 0 then 0 else min cap (isqrt (2 * e * 10 ^ 14 / (105 * c))) / 100 * 100

/-- C_USE, the measured capacitance and 5 %, to the nearest nF (R187). -/
def useCap (c : Nat) : Nat := (105 * c + 50) / 100

/-- SAG_MV in force (R421). -/
def State.sagMv (s : State) : Nat := s.cfgN .sagMv

/-- The profile header of a channel (R213, R226). -/
def State.hdrOf (s : State) (ch : Nat) : BitVec 128 :=
  (s.group (ch / 8)).hdrs.getD (s.cfgN .chProfile ch) (BitVec.allOnes 128)

/-- A header is empty when it reads as all ones (R226). -/
def hdrEmpty (h : BitVec 128) : Bool := h == BitVec.allOnes 128

def hdrStart (h : BitVec 128) : Nat := h.toNat % 512
def hdrLast (h : BitVec 128) : Nat := h.toNat / 2 ^ 9 % 512
/-- MIN_OFF in ticks: units of 10 us (R226). -/
def hdrMinOff (h : BitVec 128) : Nat := h.toNat / 2 ^ 18 % 2 ^ 14 * 2500
def hdrK (h : BitVec 128) (n : Nat) : Nat := h.toNat / 2 ^ (32 + 16 * n) % 2 ^ 16
def hdrRailLo (h : BitVec 128) : Nat := h.toNat / 2 ^ 96 % 2 ^ 16
def hdrDecay (h : BitVec 128) : Nat := h.toNat / 2 ^ 112 % 4

/-- The minimum off-time of a channel's profile, in ticks (R229); an empty header has none. -/
def State.minOff (s : State) (ch : Nat) : Nat :=
  let h := s.hdrOf ch
  if hdrEmpty h then 0 else hdrMinOff h

/-- The preset of Kn for a channel (R227, R233). -/
def State.preset (s : State) (ch n : Nat) : Nat :=
  let i := 4 * ch + n
  let img := if s.cfgB .kpreEn i then some (s.cfgN .kpre i) else none
  match (s.chan ch).kover.getD n none with
  | some (true, v) => v
  | some (false, _) => hdrK (s.hdrOf ch) n
  | none => img.getD (hdrK (s.hdrOf ch) n)

end Sys2Proof.Machine
end

