-- ==== Sys2Proof/Machine/SeqIsa.lean ====
section
/-! DEFINITION. The current sequencers' instructions: the 24-bit encoding of R216, decoded and
encoded. -/

namespace Sys2Proof.Machine

/-- One sequencer instruction (R216).  Numeric fields hold the encoded values. -/
inductive SeqInstr where
  | src (s : BitVec 2)
  | itgt (mode : BitVec 2) (par : BitVec 2) (reg : Bool) (val : BitVec 12)
  | waiti (le : Bool) (scale : Bool) (cnt : BitVec 6) (thr : BitVec 12)
  | waitt (unit : BitVec 2) (count : BitVec 18)
  | arm (det : BitVec 2) (scale : Bool) (cnt : BitVec 6)
  | decay (mode : BitVec 2)
  | mark (code : BitVec 4) (evt reg : Bool) (val : BitVec 12)
  | jmp (addr : BitVec 9)
  | jc (cond : BitVec 4) (addr : BitVec 9)
  | loop (k : BitVec 2) (reload : Bool) (addr : BitVec 9)
  | holdw
  | end_
  deriving DecidableEq, Repr, Inhabited

/-- A field value that R216 marks reserved. -/
def SeqInstr.wf : SeqInstr → Bool
  | .src s => s ≠ 3
  | .itgt mode _ _ _ => mode ≠ 3
  | .decay mode => mode ≠ 3
  | .jc cond _ => cond.toNat ≤ 8
  | _ => true

/-- Bits `hi` down to `lo` of a word. -/
abbrev seqBits (w : BitVec 24) (lo n : Nat) : BitVec n := w.extractLsb' lo n

/-- Decode a word (R216): none for a reserved opcode or a reserved field value. -/
def decodeSeq (w : BitVec 24) : Option SeqInstr :=
  let i : Option SeqInstr :=
    match (seqBits w 20 4).toNat with
    | 0 => some (.src (seqBits w 18 2))
    | 1 => some (.itgt (seqBits w 18 2) (seqBits w 16 2) (w.getLsbD 15) (seqBits w 0 12))
    | 2 => some (.waiti (w.getLsbD 19) (w.getLsbD 18) (seqBits w 12 6) (seqBits w 0 12))
    | 3 => some (.waitt (seqBits w 18 2) (seqBits w 0 18))
    | 4 => some (.arm (seqBits w 18 2) (w.getLsbD 17) (seqBits w 11 6))
    | 5 => some (.decay (seqBits w 18 2))
    | 6 => some (.mark (seqBits w 16 4) (w.getLsbD 15) (w.getLsbD 14) (seqBits w 0 12))
    | 7 => some (.jmp (seqBits w 0 9))
    | 8 => some (.jc (seqBits w 16 4) (seqBits w 0 9))
    | 9 => some (.loop (seqBits w 18 2) (w.getLsbD 17) (seqBits w 0 9))
    | 10 => some .holdw
    | 11 => some .end_
    | _ => none
  match i with
  | some i => if i.wf then some i else none
  | none => none

/-- Encode an instruction, reserved bits 0 (R216). -/
def encodeSeq : SeqInstr → BitVec 24
  | .src s => 0x0#4 ++ s ++ 0#18
  | .itgt mode par reg val => 0x1#4 ++ mode ++ par ++ BitVec.ofBool reg ++ 0#3 ++ val
  | .waiti le scale cnt thr => 0x2#4 ++ BitVec.ofBool le ++ BitVec.ofBool scale ++ cnt ++ thr
  | .waitt unit count => 0x3#4 ++ unit ++ count
  | .arm det scale cnt => 0x4#4 ++ det ++ BitVec.ofBool scale ++ cnt ++ 0#11
  | .decay mode => 0x5#4 ++ mode ++ 0#18
  | .mark code evt reg val => 0x6#4 ++ code ++ BitVec.ofBool evt ++ BitVec.ofBool reg ++ 0#2 ++ val
  | .jmp addr => 0x7#4 ++ 0#11 ++ addr
  | .jc cond addr => 0x8#4 ++ cond ++ 0#7 ++ addr
  | .loop k reload addr => 0x9#4 ++ k ++ BitVec.ofBool reload ++ 0#8 ++ addr
  | .holdw => 0xA#4 ++ 0#20
  | .end_ => 0xB#4 ++ 0#20

end Sys2Proof.Machine
end

