-- ==== Sys2Proof/Machine/ValveOps.lean ====
section
/-! DEFINITION. Shared operations of the valve drive: rails and the boost claim (R183, R201 to
R204), releases (R228), decays and outcomes (R221, R229), the delay filters (R196 to R199), and
channel and group faults (R208). -/

namespace Sys2Proof.Machine

/-- Group and quadrant of a channel (R182). -/
abbrev grpOf (ch : Nat) : Nat := ch / 8
abbrev quadOf (ch : Nat) : Nat := ch / 24

/-- The first cycle boundary of a context at or after `t` (R214). -/
def Ctx.boundary (c : Ctx) (t : Nat) : Nat := c.base + (t - c.base + 24) / 25 * 25

/-- Add one to count `i` of the VALVE record. -/
def Chan.bump (c : Chan) (i : Nat) : Chan := { c with counts := c.counts.modify i (· + 1) }

def Chan.bumpSeq (c : Chan) (i : Nat) : Chan := { c with seqCounts := c.seqCounts.modify i satInc }

/-! ### The rail (R183) -/

/-- A channel that is ON: between its ON release and its OFF. -/
def Ctx.isOn (c : Ctx) : Bool := c.st == .run || c.st == .hold || c.st == .claim

/-- A channel draws from the rail, or its current still decays through it: a source in force, the SLOW decay
of a stalled SRC BOOST, or a decay for which the rail path has not been opened first (R183, R193, R220;
log 109). -/
def Ctx.drawing (c : Ctx) : Bool :=
  (c.isOn && (c.conductAt.isSome || (c.st == .claim && c.conducted))) || (c.decaying && !c.clamped)

/-- The decay mode in force at `t`: SLOW while an SRC BOOST stalls and in a chop off-time; a DECAY
during a decay counts from the next sample (R217, R218, R220). -/
def Ctx.decayNow (c : Ctx) (t : Nat) : Nat :=
  if c.st == .claim || (c.conductAt.isSome && !c.chop.on) then 0
  else if c.turned then 2
  else match c.decayWas with
    | some (m, u) => if t < u then m else c.decay
    | none => c.decay

/-- What the rail switch of a group is set to (R183, R208, R424). -/
def State.railSource (s : State) (g : Nat) : Nat :=
  let cs := (List.range 8).map (fun j => s.ctx (8 * g + j))
  if (s.group g).fault || s.pwr.drvSusp.getD (g / 3) false then 0
  else if cs.any (fun c => c.granted && c.isOn) then 2
  else if cs.any Ctx.drawing then 1
  else 0

/-- The cap of R191 on the source in force. -/
def State.capOf (s : State) (ch : Nat) (peak : Bool) : Nat :=
  if peak then s.cfgN .iPeakMax ch else s.cfgN .iHoldMax ch

/-- The target regulated to: the requested one within the cap on the source in force (R191, R218). -/
def State.targetOf (s : State) (ch : Nat) : Nat := min (s.ctx ch).target (s.capOf ch (s.ctx ch).granted)

/-- Note since when a channel is ON with a target of 100 mA or more on a sourced rail (R206). -/
def State.noteLoad (s : State) (ch : Nat) : State :=
  let due := (s.ctx ch).isOn && 100 ≤ s.targetOf ch && (s.group (grpOf ch)).rail != 0
  s.updCtx ch (fun c => { c with loadFrom := if due then some (c.loadFrom.getD s.now) else none })

/-- Set a group's rail switch to what its channels ask for (R183). -/
def State.setRail (s : State) (g : Nat) : State :=
  let r := s.railSource g
  let s := s.updGroup g (fun x => { x with rail := r, stirred := if x.rail = r then x.stirred else some s.now })
  s.each (List.range 8) (fun s j => s.noteLoad (8 * g + j))

/-! ### The boost claim (R201 to R204) -/

/-- The boost of a quadrant gives no boost-sourced phase (R189). -/
def Quad.noBoost (q : Quad) : Bool := q.fail || q.bad

/-- The reservoir is below 90 % of V_LIM (R190). -/
def State.lowRes (s : State) (q : Nat) : Bool :=
  s.pwr.res.getD q 0 * 10 < s.pwr.vLim.getD q 0 * 9

/-- The boost of a quadrant switches: it is on, and the reservoir is not held at V_LIM (R186, R194). -/
def Quad.switches (q : Quad) : Bool := !q.off && !q.full

/-- Take a reservoir reading: below 90 % of V_LIM it is noted, at V_LIM the boost stops and the FAST-RECOVER
decays into it go on in FAST-CLAMP, and 1 % below the boost restarts (R186, R189, R194). -/
def State.readRes (s : State) (q mv : Nat) : State :=
  let lim := s.pwr.vLim.getD q 0
  let s := s.updPwr (fun p => { p with res := p.res.set q mv })
  let s := s.updQuad q (fun x =>
    { x with lowAt := if mv * 10 < lim * 9 then some s.now else x.lowAt,
             since := if mv * 10 < lim * 9 then x.since else none,
             full := if lim ≤ mv then true else if mv * 100 ≤ lim * 99 then false else x.full })
  if lim ≤ mv then
    s.each (List.range 24) (fun s j => s.updCtx (24 * q + j) (fun c =>
      if c.decaying && c.decayNow s.now = 1 then { c with turned := true } else c))
  else s

/-- TB_MAX of a channel (R202). -/
def Chan.tbMax (c : Chan) : Nat := c.phases.foldl max 0

/-- End a channel's boost-sourced phase at `t` and give up its claim or its request. -/
def State.endPhase (s : State) (ch t : Nat) : State :=
  let c := s.ctx ch
  let g := grpOf ch
  let s := match c.phaseAt with
    | some b =>
      ((s.updChan ch (fun x => { x with phases := (x.phases ++ [t - b]).drop (x.phases.length - 7) })).updQuad
        (quadOf ch) (fun q => { q with since := some (q.since.getD t) })).updGroup g (fun x => { x with boostEnd := some t })
    | none => s
  let s := s.updCtx ch (fun c =>
    { c with granted := false, phaseAt := none,
             phaseLen := match c.phaseAt with | some b => some (t - b) | none => c.phaseLen })
  s.updGroup g (fun x =>
    { x with holder := if x.holder = some ch then none else x.holder,
             queue := x.queue.filter (fun q => q.1 ≠ ch) })

/-! ### Regulation (R218) -/

/-- The band of a HYST regulation in mA, and the off-time of a TOFF one in ticks (R216, R218): FULL regulates
as HYST with 50 mA once it has reached its target. -/
def Reg.band (r : Reg) : Nat := if r.mode = 1 then 25 * 2 ^ (r.par % 4) else 50
def Reg.offTicks (r : Reg) : Nat := 1250 * 2 ^ (r.par % 4)

/-- One current sample through the regulator (R218).  The switch goes off at the target plus half the band, in
TOFF at the target, after at least 2 us on; it goes on again at the target minus half the band, in TOFF after
the off-time, and no period is shorter than 10 us.  A new setting that finds the switch on starts without
chopping (log 125); FULL closes a switch that it finds off below its target, and keeps it on up to there. -/
def Chop.step (c : Chop) (r : Reg) (t i : Nat) : Chop :=
  if !r.on then { of_ := r.at_ }
  else
    let c := if c.of_ = r.at_ then c
      else if c.on then { c with of_ := r.at_, onAt := if c.onAt = 0 then r.at_ else c.onAt, chopped := false }
      else if r.mode = 0 && decide (i < r.target) then { of_ := r.at_, onAt := r.at_ }
      else { c with of_ := r.at_ }
    if c.on then
      let top := if r.mode = 2 then decide (r.target ≤ i) else decide (2 * r.target + r.band ≤ 2 * i)
      if top && c.onAt + 500 ≤ t then { c with on := false, offAt := t, chopped := true } else c
    else
      let low := if r.mode = 2 then decide (c.offAt + r.offTicks ≤ t) else decide (2 * i + r.band ≤ 2 * r.target)
      if low && c.onAt + 2500 ≤ t then { c with on := true, onAt := t } else c

/-- The setting in force at an instant. -/
def regAt (rs : List Reg) (t : Nat) : Reg := ((rs.filter (fun r => decide (r.at_ ≤ t))).getLast?).getD {}

/-- The regulator over samples, oldest first, and the samples taken while the switch conducts without
chopping. -/
def regulate (rs : List Reg) (c : Chop) : List (Nat × Nat) → Chop × List (Nat × Nat)
  | [] => (c, [])
  | (t, i) :: r =>
    let x := regAt rs t
    let c := c.step x t i
    let (e, ys) := regulate rs c r
    (e, if x.on && !c.chopped then (t, i) :: ys else ys)

/-- Note what the regulator is set to from `t` on. -/
def State.noteReg (s : State) (ch t : Nat) : State :=
  let c := s.ctx ch
  let r : Reg := { at_ := t, on := c.conductAt.isSome, target := s.targetOf ch, mode := c.mode, par := c.par }
  s.updCtx ch (fun c => { c with regs := if c.openOut.isSome then [r] else c.regs ++ [r],
                                 chop := if r.on then c.chop else {} })

/-- Take the chop phase from samples of the channel's current (R192, R218). -/
def State.watch (s : State) (ch : Nat) (xs : List (Nat × Nat)) : State :=
  s.updCtx ch (fun c =>
    { c with chop := (regulate c.regs c.chop (xs.filter (fun p => decide (max c.chop.onAt c.chop.offAt < p.1)))).1 })

/-- Count TARGET_CLAMPED where the target in force exceeds its cap (R191). -/
def State.countClamp (s : State) (ch : Nat) : State :=
  let c := s.ctx ch
  if c.conductAt.isSome && s.capOf ch c.granted < c.target then s.count 68 else s

/-- The count of TARGET_CLAMPED of a phase that begins, but for one counted already for a grant of its request that was
taken back (R191, R201, log 167). -/
def State.countPhase (s : State) (ch : Nat) : State :=
  if (s.ctx ch).clampDone then s.updCtx ch (fun c => { c with clampDone := false }) else s.countClamp ch

/-- Enter a request in the order of the instants they began waiting, and on one tick of channel numbers
(R201). -/
def insertReq (ch b : Nat) : List (Nat × Nat) → List (Nat × Nat)
  | [] => [(ch, b)]
  | x :: r => if b < x.2 || (b = x.2 && ch < x.1) then (ch, b) :: x :: r else x :: insertReq ch b r

/-- Grant the claim to a channel at `t` (R201, R220): its phase begins, with LOW_BOOST where the
reservoir is low, and conduction starts at `t` or at the end of the SRC cycle. -/
def State.grantClaim (s : State) (ch t : Nat) : State :=
  let c := s.ctx ch
  let g := grpOf ch
  let low := s.lowRes (quadOf ch)
  let wait := match c.claimAt with | some b => t - b | none => 0
  let sw := if (s.group g).rail = 1 && (s.group g).boostEnd != some t then 25 else 0
  let s := s.updGroup g (fun x =>
    { x with holder := some ch, queue := x.queue.filter (fun q => q.1 ≠ ch), took := some (ch, t, c) })
  let s := s.updCtx ch (fun c =>
    { c with st := .run, granted := true, phaseAt := some t, claimAt := none,
             lowb := c.lowb || low, lowBoost := c.lowBoost || low, deferRail := c.deferRail + wait,
             conductAt := some (max t c.next + sw), conducted := true, decaying := false, next := max c.next (c.boundary t),
             runLen := if c.next ≤ t && 0 < wait then 0 else c.runLen })
  ((s.noteReg ch (max t c.next + sw)).setRail g).countPhase ch

/-- Refuse a request at `t` (R202, R203): a drive-sourced peak with DRIVE_PEAK and DRV. -/
def State.refuseClaim (s : State) (ch t : Nat) : State :=
  let c := s.ctx ch
  let g := grpOf ch
  let wait := match c.claimAt with | some b => t - b | none => 0
  let s := s.updGroup g (fun x => { x with queue := x.queue.filter (fun q => q.1 ≠ ch) })
  let s := s.updCtx ch (fun c =>
    { c with st := .run, granted := false, claimAt := none, drv := true, drivePeak := true,
             deferRail := c.deferRail + wait, conductAt := some (max t c.next),
             conducted := true, decaying := false, next := max c.next (c.boundary t),
             runLen := if c.next ≤ t && 0 < wait then 0 else c.runLen })
  ((s.noteReg ch (max t c.next)).setRail g).countPhase ch

/-- A request for the claim at boundary `b` (R201, R202).  The context already stands past the SRC,
its `next` at the end of that cycle. -/
def State.askClaim (s : State) (ch b : Nat) : State :=
  let g := grpOf ch
  let grp := s.group g
  let s := s.updCtx ch (fun c => { c with claimAt := some b })
  if (s.quad (quadOf ch)).noBoost then s.refuseClaim ch b
  else if grp.holder.isNone && grp.queue.isEmpty then s.grantClaim ch b
  else
    let left := match grp.holder with
      | some h =>
        let el := match (s.ctx h).phaseAt with | some p => b - p | none => 0
        (s.chan h).tbMax - el
      | none => 0
    if s.cfgN .deferMax g * usTicks < left then s.refuseClaim ch b
    else
      let s := (s.updCtx ch (fun c => { c with st := .claim, conductAt := none })).noteReg ch b
      (s.updGroup g (fun x => { x with queue := insertReq ch b x.queue })).setRail g

/-- Take back a grant made on this tick: the context stands as it did before it, with what that grant counted. -/
def State.ungrant (s : State) (ch : Nat) (old : Ctx) : State :=
  (s.updCtx ch (fun c => { old with clampDone := decide (s.capOf ch true < c.target) })).updGroup (grpOf ch) (fun x => { x with holder := none, took := none })

/-- A request at boundary `b` where those of one tick are granted in channel number order (R201), whichever of their
rows comes first: the claim granted on the tick to a request of that tick with a higher number goes to this one, and
the other asks again. -/
def State.requestClaim (s : State) (ch b : Nat) : State :=
  match (s.group (grpOf ch)).took with
  | some (h, m, old) =>
    if (s.group (grpOf ch)).holder = some h && ch < h && m = b && !(s.quad (quadOf ch)).noBoost && old.claimAt = some b && (s.ctx h).pc = old.pc then
      let s := ((s.ungrant h old).updCtx ch (fun c => { c with claimAt := some b })).grantClaim ch b
      if old.st == .claim then (s.updGroup (grpOf ch) (fun x => { x with queue := insertReq h b x.queue })).setRail (grpOf ch)
      else s.askClaim h b
    else s.askClaim ch b
  | none => s.askClaim ch b

/-! ### The delay filters (R198, R199) -/

def ratMax (a b : Rat) : Rat := if a ≤ b then b else a
def ratMin (a b : Rat) : Rat := if a ≤ b then a else b
def ratAbs (a : Rat) : Rat := if a < 0 then -a else a

/-- 20 us, the least sigma of R198, and 1.2533 as a fraction. -/
abbrev sigmaMin : Rat := 5000
abbrev madK : Rat := 12533 / 10000

/-- One usable sample through the filter (R198): D, sigma, the outlier run and OUTLIER. -/
def filterStep (d sg : Rat) (o : Outliers) (x : Rat) : Rat × Rat × Outliers × Bool :=
  let dev := ratAbs (x - d)
  if dev ≤ 4 * sg + 250000 then
    (d + (x - d) / 8, ratMax sigmaMin (sg + (madK * dev - sg) / 16), {}, false)
  else
    let up := decide (d < x)
    let xs := if o.above = up then o.xs ++ [x] else [x]
    if xs.length = 3 then
      let m := xs.sum / 3
      let mad := (xs.map (fun y => ratAbs (y - m))).sum / 3
      (m, ratMax sigmaMin (ratMax sg (madK * mad)), {}, true)
    else (d, sg, { above := up, xs := xs }, true)

/-- The default delays of R199, in ticks. -/
def State.defDOn (s : State) (ch : Nat) : Rat := s.cfgN .defDOn ch * usTicks
def State.defDOff (s : State) (ch : Nat) : Rat := s.cfgN .defDOff ch * usTicks

/-- Put a channel into the default-delay fallback (R199). -/
def State.toFallback (s : State) (ch : Nat) : State :=
  let a := s.defDOn ch
  let b := s.defDOff ch
  s.updChan ch (fun c =>
    { c with fallback := true, dOn := a, sOn := ratMax sigmaMin (a / 10), dOff := b,
             sOff := ratMax sigmaMin (b / 10), goodLast := false, outOn := {}, outOff := {} })

/-- The profile key of a channel (R408): CRC-32 of its header, its words from START to LAST, and its
KPRE and KPRE_EN values, words as 3 bytes and KPRE as 2 (log 12). -/
def State.profileKey (s : State) (ch : Nat) : Word :=
  let h := s.hdrOf ch
  let g := s.group (grpOf ch)
  let ws := (g.store.drop (hdrStart h)).take (hdrLast h + 1 - hdrStart h)
  let k := (List.range 4).map (fun n =>
    leBytes 2 (s.cfgN .kpre (4 * ch + n)) ++ [BitVec.ofNat 8 (s.cfgN .kpreEn (4 * ch + n))])
  crc32 (leBytes 16 h.toNat ++ (ws.map (fun w => leBytes 3 w.toNat)).flatten ++ k.flatten)

/-- Start a channel's filters as at BOOT (R199): from the calibration store or in the fallback. -/
def State.seedFilters (s : State) (ch : Nat) : State :=
  let key := s.profileKey ch
  let s := s.updChan ch (fun c => { c with missOn := 0, missOff := 0 })
  match s.flash.cal.find? (fun e => e.ch = ch && e.key = key) with
  | some { dOn := some (a, sa), dOff := some (b, sb), .. } =>
    s.updChan ch (fun c =>
      { c with fallback := false, dOn := a, sOn := ratMax sigmaMin sa, dOff := b,
               sOff := ratMax sigmaMin sb, goodLast := false, outOn := {}, outOff := {} })
  | _ => s.toFallback ch

/-! ### Outcomes and reports (R196, R197, R200, R221) -/

/-- Send the actuation report of a channel to its planner core; of a cancelled ON, what it waited. -/
def State.report (s : State) (ch : Nat) (cancelled : Bool := false) (closing : Bool := false) : State :=
  let y := s.chan ch
  let c := y.ctx
  let r : Report :=
    { ch := ch, onMt := c.onMt, offMt := c.offMt, dOffAt := c.dOffAt, deferOff := c.deferOff, deferRail := c.deferRail,
      boost := c.phaseLen.isSome || c.phaseAt.isSome, phaseLen := c.phaseLen, openOut := c.openOut, openMt := c.openMt,
      closeOut := c.closeOut, closeMt := c.closeMt, lowBoost := c.lowBoost,
      drivePeak := c.drivePeak, selfEnd := c.selfEnd, cancelled := cancelled, closing := closing,
      dOn := y.dOn, sOn := y.sOn, dOff := y.dOff, sOff := y.sOff, fallback := y.fallback, outlier := c.outlier }
  { s with valves := { s.valves with reports := s.valves.reports ++ [r] } }

/-- Count a MISS and enter the fallback at the eighth in a row, raising STUCK (R199). -/
def State.missed (s : State) (ch : Nat) (closing : Bool) : State :=
  let s := s.updChan ch (fun c =>
    if closing then { c.bump 4 with missOff := c.missOff + 1 }
    else { c.bump 3 with missOn := c.missOn + 1 })
  let c := s.chan ch
  if !c.fallback && (if closing then c.missOff else c.missOn) = 8 then
    (s.toFallback ch).raise 0x4002 ch [(128, 1, b2n closing)] false
  else s

/-- An outlier is counted, and its actuation carries OUTLIER (R198, R200). -/
def Chan.outlied (c : Chan) : Chan := let c := c.bump 6; { c with ctx := { c.ctx with outlier := true } }

/-- Take one usable sample of a channel outside the fallback into its filter. -/
def State.sample (s : State) (ch : Nat) (closing : Bool) (x : Rat) : State :=
  let c := s.chan ch
  if c.fallback then s
  else if closing then
    let (d, sg, o, out) := filterStep c.dOff c.sOff c.outOff x
    s.updChan ch (fun c =>
      let c := { c with dOff := d, sOff := sg, outOff := o }
      if out then c.outlied else c)
  else
    let (d, sg, o, out) := filterStep c.dOn c.sOn c.outOn x
    s.updChan ch (fun c =>
      let c := { c with dOn := d, sOn := sg, outOn := o }
      if out then c.outlied else c)

/-- The opening and the closing sample of the actuation under way (R197). -/
def Ctx.openSample (c : Ctx) : Rat := (c.openMt : Rat) - c.onMt - (c.deferOff + c.deferRail : Nat)
def Ctx.closeSample (c : Ctx) : Rat := (c.closeMt : Rat) - (c.offMt.getD 0)

/-- Judge an actuation whose two outcomes are both decided: two good ones in a row end the fallback, the filters
seeded from the second (R199). -/
def State.judge (s : State) (ch : Nat) : State :=
  let y := s.chan ch
  let c := y.ctx
  if c.openOut.isNone || c.closeOut.isNone then s
  else if c.openOut = some .detected && !c.drivePeak && c.closeOut = some .detected then
    if y.fallback && y.goodLast then
      let a := c.openSample
      let x := c.closeSample
      (s.updChan ch (fun y =>
        { y with fallback := false, dOn := a, sOn := ratMax sigmaMin (a / 10), dOff := x,
                 sOff := ratMax sigmaMin (x / 10), goodLast := false, outOn := {}, outOff := {} })).raise
        0x4003 ch [] false
    else s.updChan ch (fun y => { y with goodLast := true })
  else s.updChan ch (fun y => { y with goodLast := false })

/-! ### Channels under a valve sweep (R414) -/

/-- A channel that a running valve sweep drives. -/
def State.sweeping (s : State) (ch : Nat) : Bool := s.acts.any (fun a => a.swept.any (fun x => x.ch = ch))

/-- Change what the sweep knows of a channel. -/
def State.updSwept (s : State) (ch : Nat) (f : Swept → Swept) : State :=
  { s with acts := s.acts.map (fun a => { a with swept := a.swept.map (fun x => if x.ch = ch then f x else x) }) }

/-- An actuation of a swept channel from `t` on: its ON lasts LEAD + 50 ms. -/
def State.sweepPlace (s : State) (ch t : Nat) : State :=
  let on : Edge := { ch := ch, on := true, due := t, profile := s.cfgN .chProfile ch }
  let off : Edge := { ch := ch, due := t + (s.chan ch).dOn.ceil.toNat + 50 * msTicks }
  s.updPlanner (fun p => { p with wheel := (p.wheel ++ [on, off]).mergeSort (fun a b => decide (a.due ≤ b.due)) })

/-- The next actuation of a group under a sweep, from `t` on: its channels are swept in channel order. -/
def State.sweepNext (s : State) (g t : Nat) : State :=
  match (s.acts.flatMap (·.swept)).find? (fun x => grpOf x.ch = g && decide (0 < x.left)) with
  | some x => (s.updSwept x.ch (fun x => { x with left := x.left - 1 })).sweepPlace x.ch t
  | none => s

/-- After the OFF of a swept channel, released or dropped now, the next ON of its group follows after MIN_OFF +
D_OFF + 50 ms (log 42). -/
def State.sweepAfter (s : State) (e : Edge) : State :=
  if s.sweeping e.ch && !e.on then
    s.sweepNext (grpOf e.ch) (s.now + s.minOff e.ch + (s.chan e.ch).dOff.ceil.toNat + 50 * msTicks)
  else s

/-- Decide the opening outcome of the actuation under way (R196, R197, R221) and report it. -/
def State.decideOpen (s : State) (ch : Nat) (o : Outc) (stamp : Nat) : State :=
  let c := s.ctx ch
  if c.openOut.isSome || !c.act then s
  else
    let s := s.updCtx ch (fun c =>
      { c with openOut := some o, openMt := stamp, openWin := none, confirm := false,
               det := c.det || o == .detected, act := c.closeOut.isNone })
    let s := s.updChan ch (fun x =>
      let x := x.bump 0
      let x := if c.lowBoost then x.bump 8 else x
      if c.drivePeak then x.bump 9 else x)
    let s := match o with
      | .detected =>
        let s := s.updChan ch (fun y => { y.bump 1 with missOn := 0 })
        let s := s.updSwept ch (fun x =>
          { x with detected := x.detected + 1,
                   opens := if c.drivePeak then x.opens else x.opens ++ [(s.ctx ch).openSample.floor.toNat] })
        if c.drivePeak then s.updChan ch (·.bump 7) else s.sample ch false (s.ctx ch).openSample
      | .miss => s.missed ch false
      | .cut => s.updChan ch (·.bump 5)
    (s.judge ch).report ch

/-- Decide the closing outcome (R196, R199, R221), report it and end the actuation. -/
def State.decideClose (s : State) (ch : Nat) (o : Outc) (stamp : Nat) : State :=
  let c := s.ctx ch
  if c.closeOut.isSome || !c.act then s
  else
    let s := s.updCtx ch (fun c =>
      { c with closeOut := some o, closeMt := stamp, closeWin := none, closeArm := none })
    let s := match o with
      | .detected =>
        let s := s.updSwept ch (fun x => { x with closes := x.closes ++ [(s.ctx ch).closeSample.floor.toNat] })
        (s.updChan ch (fun y => { y.bump 2 with missOff := 0 })).sample ch true (s.ctx ch).closeSample
      | _ => s.missed ch true
    let s := (s.judge ch).report ch false true
    s.updCtx ch (fun c => { c with act := c.openOut.isNone || c.confirm })

/-! ### Starting and stopping a channel (R215, R221, R228, R229) -/

/-- Start the channel's profile at `t` for the ON released at `onMt` (R215, R221). -/
def State.startProfile (s : State) (ch t : Nat) : State :=
  let h := s.hdrOf ch
  let old := s.ctx ch
  let s := if old.act && old.openOut.isNone then s.decideOpen ch .cut t else s
  let s := if old.act && old.closeOut.isNone && old.offMt.isSome then s.decideClose ch .miss t else s
  let wait := match old.deferAt with | some b => t - b | none => 0
  let ks := (List.range 4).map (s.preset ch)
  let s := s.updCtx ch (fun c =>
    { st := .run, pc := hdrStart h, base := t, next := t, ks := ks, pre := ks, decay := hdrDecay h,
      onMt := c.deferAt.getD t, offDone := false, deferOff := wait, act := true })
  s.setRail (grpOf ch)

/-- Begin the decay after the OFF release or END at `t`: the closing window opens if one is armed,
otherwise the closing is a MISS (R221). -/
def State.startDecay (s : State) (ch t : Nat) (clamp : Bool) : State :=
  let c := s.ctx ch
  let s := s.endPhase ch t
  let s := s.updCtx ch (fun c =>
    { c with src := 0, conductAt := none, decaying := true, clamped := clamp || (c.decaying && c.clamped),
             turned := c.decaying && c.turned, decayWas := if c.decaying && !clamp then c.decayWas else none,
             offMt := some t, dOffAt := (s.chan ch).dOff,
             decay := if clamp then 2 else c.decay, wait := .no,
             closeWin := match c.closeArm with
               | some n => some { det := .bump, opened := t, timeout := if n = 0 then none else some (t + n) }
               | none => none })
  let s := if c.closeArm.isNone then s.decideClose ch .miss t else s
  (s.noteReg ch t).setRail (grpOf ch)

/-- The span in which an opening feature may still be confirmed after its window (R196, R221). -/
def State.confirmSpan (s : State) (ch : Nat) : Nat := 2 * s.cfgN .detWin ch * 250 + 5000

/-- Keep the releases of an actuation for the watch of R207. -/
def State.noteAct (s : State) (ch t : Nat) : State :=
  s.updChan ch (fun c => { c with lastActs := ((c.ctx.onMt, t) :: c.lastActs).take 3 })

/-- Stop a running actuation at `t`, as an OFF release does (R228), or by force (R443). -/
def State.stopActuation (s : State) (ch t : Nat) (clamp : Bool) : State :=
  let c := s.ctx ch
  let s := match c.openOut, c.openWin with
    | none, none => s.decideOpen ch .miss t
    | none, some _ => s.updCtx ch (fun c => { c with confirm := true, confirmTo := t + s.confirmSpan ch })
    | some _, _ => s
  let s := (s.startDecay ch t clamp).noteAct ch t
  s.updCtx ch (fun c => { c with st := .decay, offDone := true })

/-- Cancel an ON that has not conducted (R201, R228): no actuation, and what it waited is reported.  A DEFERRED
one has waited since its own release; the actuation before it keeps its deferral. -/
def State.cancelOn (s : State) (ch t : Nat) : State :=
  let s := s.endPhase ch t
  let c := s.ctx ch
  let since := fun (m : Option Nat) => match m with | some b => t - b | none => 0
  let r : Report :=
    if c.st == .deferred then { ch := ch, onMt := c.deferAt.getD t, deferOff := since c.deferAt, cancelled := true }
    else { ch := ch, onMt := c.onMt, deferOff := c.deferOff, deferRail := c.deferRail + since c.claimAt,
           cancelled := true }
  let s := { s with valves := { s.valves with reports := s.valves.reports ++ [r] } }
  let s := s.updCtx ch (fun c =>
    { c with st := if c.decaying then .decay else .idle, offDone := true, deferAt := none, claimAt := none,
             act := c.act && c.st == .deferred, src := 0, wait := .no,
             openWin := if c.st == .deferred then c.openWin else none })
  s.setRail (grpOf ch)

/-- A running decay goes on in FAST-CLAMP, the rail path opened first (R194). -/
def State.clampDecay (s : State) (ch : Nat) : State :=
  (s.updCtx ch (fun c => if c.decaying then { c with decay := 2, clamped := true, decayWas := none } else c)).setRail (grpOf ch)

/-- Stop every activity of a channel at once, by FAST-CLAMP (R194, R208, R443). -/
def State.forceOff (s : State) (ch : Nat) : State :=
  let c := s.ctx ch
  match c.st with
  | .run | .hold => s.stopActuation ch s.now true
  | .claim => if c.conducted then s.stopActuation ch s.now true else s.cancelOn ch s.now
  | .deferred => (s.cancelOn ch s.now).clampDecay ch
  | .ended | .decay => (s.updCtx ch (fun c => { c with offDone := true, st := if c.decaying then .decay else .idle })).clampDecay ch
  | .idle | .latched => s

/-- Latch a channel OFF with a finding (R208). -/
def State.latchCh (s : State) (ch finding : Nat) : State :=
  let s := s.forceOff ch
  let s := s.updChan ch (fun c => { c with latched := true, finding := finding, latchMt := some s.now })
  let s := s.updCtx ch (fun c => { c with st := .latched })
  s.setRail (grpOf ch)

/-- The DATA of VALVE_FINDING (R386). -/
def findingData (finding partner coil : Nat) : List (Nat × Nat × Nat) :=
  [(128, 8, finding), (136, 8, partner), (144, 32, coil)]

/-- A channel fault (R208): off by FAST-CLAMP, latched, recorded, its event raised. -/
def State.channelFault (s : State) (ch finding : Nat) (partner : Nat := 0) : State :=
  (s.latchCh ch finding).record 2 0x4001 ch (findingData finding partner 0) true

/-- Latch all eight channels of a group, its rail at NONE and its claim ended (R204, R208). -/
def State.latchGroup (s : State) (g finding : Nat) : State :=
  let s := s.each (List.range 8) (fun s j => s.latchCh (8 * g + j) finding)
  s.updGroup g (fun x => { x with fault := true, rail := 0, holder := none, queue := [] })

/-- A group fault (R208). -/
def State.groupFault (s : State) (g finding : Nat) : State :=
  (s.latchGroup g finding).record 2 0x4001 (0x100 + g) (findingData finding 0 0) true

/-- Force-safe in the drive islands (R443): every channel off by FAST-CLAMP, every rail open, every
handed-over edge discarded, every claim ended, boosts stopped. -/
def State.valvesSafe (s : State) : State :=
  let s := s.each (List.range 96) (fun s ch => s.forceOff ch)
  { s with valves := { s.valves with
      grp := s.valves.grp.map (fun g => { g with handed := [], rail := 0, holder := none, queue := [] }),
      quad := s.valves.quad.map (fun q => { q with off := true }) } }

/-- An ON release for a channel at `t` (R228). -/
def State.onRelease (s : State) (ch t : Nat) : State :=
  let c := s.chan ch
  let x := c.ctx
  if c.latched then s.updChan ch (fun c => { c with dropped := satInc c.dropped })
  else
    let susp := s.pwr.drvSusp.getD (quadOf ch) false
    match x.st with
    | .idle =>
      let ready := match c.idleAt with | some m => m + s.minOff ch ≤ t | none => true
      let s := s.updCtx ch (fun x => { x with deferAt := none, claimAt := none })
      if hdrEmpty (s.hdrOf ch) then
        let s := s.updChan ch (·.bumpSeq 3)
        let s := s.latchCh ch 0
        s.record 2 0x4006 ch [(128, 9, 0), (144, 8, 3)] true
      else if ready && !susp then s.startProfile ch t
      else s.updCtx ch (fun x => { x with st := .deferred, deferAt := some t, offDone := false })
    | .decay =>
      s.updCtx ch (fun x => { x with st := .deferred, deferAt := some t, offDone := false })
    | _ => s.updChan ch (·.bumpSeq 0)

/-- An OFF release for a channel at `t` (R228). -/
def State.offRelease (s : State) (ch t : Nat) : State :=
  let c := s.chan ch
  let x := c.ctx
  if c.latched then s.updChan ch (fun c => { c with dropped := satInc c.dropped })
  else match x.st with
    | .idle | .decay => s.updChan ch (·.bumpSeq 1)
    | .deferred => s.cancelOn ch t
    | .claim => if x.conducted then s.stopActuation ch t false else s.cancelOn ch t
    | .run | .hold => s.stopActuation ch t false
    | .ended => (s.noteAct ch t).updCtx ch (fun x =>
        { x with offDone := true, st := if x.decaying then .decay else .idle })
    | .latched => s

/-- A decay ends (R229): MIN_OFF counts from here; a closing window without a timeout ends. -/
def State.decayEnds (s : State) (ch : Nat) : State :=
  let t := s.now
  let x := s.ctx ch
  let s := match x.closeWin with
    | some { timeout := none, .. } => s.decideClose ch .miss t
    | _ => s
  let s := s.updChan ch (fun c => { c with idleAt := some t, ma := 0 })
  let s := s.updCtx ch (fun x =>
    { x with decaying := false, clamped := false, turned := false, decayWas := none, st := if x.st == .decay then .idle else x.st })
  s.setRail (grpOf ch)

/-- A DEFERRED ON starts once the decay has ended, MIN_OFF has elapsed and no suspension holds
(R228, R424). -/
def State.deferredReady (s : State) (ch : Nat) : Bool :=
  let c := s.chan ch
  c.ctx.st == .deferred && !c.ctx.decaying && !s.pwr.drvSusp.getD (quadOf ch) false
    && (match c.idleAt with | some m => m + s.minOff ch ≤ s.now | none => true)

/-- Set a channel's boost limits of a quadrant from a measured capacitance (R187). -/
def State.setVLim (s : State) (q : Nat) : State :=
  let v := energyMv (s.cfgN .bstSetpoint q) (eCap s.energyClass) (s.pwr.cMeas.getD q 0)
  s.updPwr (fun p => { p with vLim := p.vLim.set q v })

/-- The charge test of a quadrant (R187, R189): a boost that BST_FAULT or class 14 held off starts once it
passes. -/
def State.chargeTest (s : State) (q c : Nat) : State :=
  let s := s.updPwr (fun p => { p with cMeas := p.cMeas.set q c, cUse := p.cUse.set q (useCap c) })
  let s := s.setVLim q
  let lim := s.pwr.vLim.getD q 0
  let s := s.updFlash (fun f =>
    { f with cbst := f.cbst.set q c, cbstUse := f.cbstUse.set q (useCap c), cbstLim := f.cbstLim.set q lim })
  let nom := s.cfgN .cbstNom q
  let bad := decide (c < 15000 ∨ 120000 < c ∨ 10 * c < 7 * nom ∨ 13 * nom < 10 * c)
  let was := (s.quad q).bad
  let s := s.updQuad q (fun x =>
    { x with bad := bad, overE := if bad then x.overE else false, off := bad || (x.off && !(x.bad || x.overE)), since := some s.now })
  if bad && !was then s.raise 0x4005 q [(128, 8, 2), (144, 16, s.pwr.res.getD q 0)] false else s

end Sys2Proof.Machine
end

