-- ==== Sys2Proof/Machine/Claims.lean ====
section
/-! DEFINITION. What maintenance activities and firings claim (R36, R405, R411, R412), and noting a
Saggar class (R445, R451). -/

namespace Sys2Proof.Machine

/-- The resources that activities claim (R411). -/
inductive Res where
  | valve (ch : Nat) | switch (n : Nat) | loop (n : Nat) | frame (n : Nat) | sense | nav | store
  deriving DecidableEq, Repr, Inhabited

/-- The actuator at the bottom of a tune: the sink of its innermost loop, with both switches of a pair (R411). -/
def State.sinkRes (s : State) : Sink → List Res
  | .lsDuty n => if s.cfgN .pairMode (n / 2) = 2 then [.switch (n / 2 * 2), .switch (n / 2 * 2 + 1)] else [.switch n]
  | .lsBridge k => [.switch (2 * k), .switch (2 * k + 1)]
  | .vcDuty ch => [.valve ch]
  | .can n => [.frame n]
  | _ => []

/-- What an activity's claim contains. -/
def State.claims (s : State) (a : Activity) (r : Res) : Bool :=
  match a.code with
  | 7 | 8 => true
  | 1 | 2 => match r with | .valve _ => true | .switch _ => true | _ => false
  | 3 =>
    (match r with
      | .loop n => a.loops.contains n
      | .sense => a.sense
      | _ => false)
      || (a.loops.getLast?.map (fun n => (s.sinkRes (s.sink n)).contains r)).getD false
  | 5 => r == .sense
  | 6 => r == .nav
  | _ => r == .store

/-- The tag of the earliest-started activity that claims any of the resources (R411, R412). -/
def State.holderOf (s : State) (rs : List Res) : Option (BitVec 16) :=
  (s.acts.find? (fun a => rs.any (s.claims a))).map (·.tag)

/-- The tag of a firing or rollback in progress (R405). -/
def State.firingTag (s : State) : Option (BitVec 16) :=
  (s.acts.find? (fun a => a.code = 7 ∨ a.code = 8)).map (·.tag)

def outputsRes : List Res :=
  (List.range 96).map Res.valve ++ (List.range 16).map Res.switch

/-- The holder that keeps OUTPUTS as a whole from a command. -/
def State.outputsHolder (s : State) : Option (BitVec 16) := s.holderOf outputsRes

/-- The holder for which a command on some resources completes BUSY_MAINT: the earliest-started activity that
claims OUTPUTS itself, or one of them (R212, R233, R285, R374). -/
def State.outputsOf (s : State) (rs : List Res) : Option (BitVec 16) :=
  (s.acts.find? (fun a => [1, 2, 7, 8].contains a.code || rs.any (s.claims a))).map (·.tag)

/-- Whether a resource is claimed now. -/
def State.claimed (s : State) (r : Res) : Bool := s.acts.any (fun a => s.claims a r)

/-- Change one lane (0 SAGA, 1 SAGB), or both (2). -/
def State.updLane (s : State) (lane : Nat) (f : Lane → Lane) : State :=
  s.updSag (fun g =>
    { g with a := if lane = 1 then g.a else f g.a, b := if lane = 0 then g.b else f g.b })

/-- Place a record in both lanes' always-on buffers of 8 (R439, R451). -/
def State.bufferRec (s : State) (r : FaultRec) : State :=
  s.updLane 2 (fun l => { l with buffer := (l.buffer ++ [r]).take 8 })

/-- Note a detection of class `k` (1 to 14) by a lane, or both (2): its bit, count and MT. -/
def State.noteClass (s : State) (k lane : Nat) : State :=
  let s := s.updLane lane (fun l =>
    { l with detected := l.detected ||| BitVec.ofNat 15 (2 ^ k), lastMt := s.now })
  s.updSag (fun g =>
    { g with counts := g.counts.modify (k - 1) satInc, lastOf := g.lastOf.set (k - 1) s.now })

/-- The monitor of class `k` reports good again in both lanes. -/
def State.clearClass (s : State) (k : Nat) : State :=
  s.updLane 2 (fun l => { l with detected := l.detected &&& ~~~(BitVec.ofNat 15 (2 ^ k)) })

/-- Class `k` is detected in either lane. -/
def State.classOn (s : State) (k : Nat) : Bool := s.sag.a.detected.getLsbD k || s.sag.b.detected.getLsbD k

/-- The Saggar class a cause belongs to; 0 for SAFEN and ORPHAN, which have none. -/
def FCause.klass : FCause → Nat
  | .safen => 0 | .brownout => 8 | .lsReadback _ => 6 | .fdReadback _ => 6 | .loopCheck _ => 12
  | .cls k => k | .orphan => 0

/-- A finding of class `k` that its clear command has not found gone (R445). -/
def State.findingHolds (s : State) (k : Nat) : Bool :=
  let valve := fun (fs : List Nat) => s.valves.ch.any (fun c => c.latched && fs.contains c.finding)
  let switch := fun (cs : List Nat) => s.loops.ls.any (fun x => x.latched && cs.contains x.cause)
  match k with
  | 3 => s.valves.grp.any (fun g => g.reloadBy.isSome)
  | 6 => valve [8, 9, 10] || switch [7] || s.field.pins.any (fun p => p.latched && p.kind = 6)
  | 7 => valve [1, 2, 3, 4, 5] || switch [4, 5, 6]
  | 14 => s.valves.quad.any (·.overE)
  | _ => false

/-- Something detected as class `k` is still there: a cause of FAULT, or a finding. -/
def State.classHolds (s : State) (k : Nat) : Bool := s.dev.causes.any (fun c => c.klass = k) || s.findingHolds k

/-- Class `k` is no longer detected once nothing of it is there. -/
def State.settle (s : State) (k : Nat) : State := if s.classHolds k then s else s.clearClass k

/-- An activity that claims OUTPUTS runs (R448). -/
def State.outputsHeld (s : State) : Bool := s.acts.any (fun a => [1, 2, 7, 8].contains a.code)

/-- A class is suspended by a claim (R448). -/
def State.suspended (s : State) (k : Nat) : Bool :=
  if k = 7 then s.outputsHeld
  else if k = 12 then s.acts.any (fun a => a.code = 5 ∨ (a.code = 3 ∧ !a.loops.isEmpty) ∨ a.code = 7 ∨ a.code = 8)
  else if k = 13 then s.outputsHolder.isSome
  else if k = 4 then s.claimed .store
  else false

end Sys2Proof.Machine
end

