-- ==== Sys2Proof/Machine/CorrOps.lean ====
section
/-! DEFINITION. Field Time from Machine Time (R18, R19), and the correction streams: RTCM 3 frames,
the streams' validity, and what each message does (R80 to R84). -/

namespace Sys2Proof.Machine

/-- The pair whose MT_BASE is the latest one not after an MT (R19). -/
def State.pairAt (s : State) (m : Nat) : FtPair :=
  (s.time.prev :: s.time.pair :: s.time.ahead).foldl
    (fun a p => if p.mtBase ≤ m && a.mtBase ≤ p.mtBase then p else a) s.time.prev

/-- FT under a pair, to the nearest nanosecond (R18). -/
def FtPair.ft (p : FtPair) (m : Nat) : Int :=
  roundRat (p.ftBase + ((m : Int) - p.mtBase) * 4 * (1 + p.ftRate / (2 ^ 40 : Rat)))

def State.ftAt (s : State) (m : Nat) : Int := (s.pairAt m).ft m

/-- Pairs whose MT_BASE has come are in force, FT_SEQ counting each; the one before is kept (R19, R484). -/
def State.settlePairs (s : State) : State :=
  s.each s.time.ahead (fun s p =>
    if p.mtBase ≤ s.now then
      s.updTime (fun t => { t with prev := t.pair, pair := p, ahead := t.ahead.drop 1, ftSeq := t.ftSeq + 1 })
    else s)

/-- The 95 % uncertainty of FT at an MT, ns: it grows while Sextant coasts (R92). -/
def State.ftU (s : State) (m : Nat) : Rat :=
  let c := s.nav.sx.clk
  match c.last with
  | some l =>
    if s.time.clock = .coast then
      let t : Rat := ((m - l : Nat) : Rat) / 250000000
      (c.u0 : Rat) + (c.ru : Rat) / 1000 * t + (s.cfgN .coastDrift : Rat) / 131072 * t * t
    else (c.u0 : Rat)
  | none => (s.time.ftUnc : Rat)

/-- The FT_PAIR record of a change (R393): 0 first valid, 1 rate, 2 slew, 3 step, 4 FT invalid. -/
def State.ftRecord (s : State) (change : Nat) (p : FtPair) (step : Int) : State :=
  s.formTel 7 [descOf [(0, 8, 1), (32, 8, change), (40, 2, s.time.clock.code), (64, 64, p.mtBase),
    (128, 64, twos 64 p.ftBase), (192, 32, twos 32 p.ftRate), (224, 32, twos 32 step)]]

/-- Publish a pair (R19), recorded as the given change. -/
def State.publish (s : State) (p : FtPair) (change : Nat) (step : Int := 0) : State :=
  let s := s.settlePairs
  ((s.updTime (fun t => { t with ahead := t.ahead ++ [p] })).settlePairs).ftRecord change p step

/-- FT becomes invalid (R92, R97): TP0 is held low. -/
def State.ftInvalid (s : State) : State :=
  if s.time.ftValid then
    let s := s.updTime (fun t => { t with ftValid := false, ahead := [] })
    ({ s with nav := { s.nav with sx := { s.nav.sx with clk :=
      { s.nav.sx.clk with tpOff := true, tp0 := false, again := false, step := none, slew := none, firstPulse := none } } } }).ftRecord 4 s.time.pair 0
  else s

/-! ### RTCM 3 frames (R81) -/

/-- The number that big-endian bytes spell. -/
def ofBe (bs : List Byte) : Nat := bs.foldl (fun a b => a * 256 + b.toNat) 0

/-- Bits `off` up of a message, `w` of them, bit 0 the first transmitted; short messages read 0. -/
def rtcmField (body : List Byte) (off w : Nat) : Nat :=
  let n := 8 * body.length
  if n < off + w then 0 else ofBe body / 2 ^ (n - off - w) % 2 ^ w

/-- Split stream bytes into the bodies of whole good frames, the number of CRC failures, and the
bytes of a partial frame. -/
def rtcmScan : Nat → List Byte → List (List Byte) × Nat × List Byte
  | 0, bs => ([], 0, bs)
  | k + 1, bs =>
    let fr := bs.dropWhile (fun b => b ≠ 0xD3)
    let len := (fr.getD 1 0).toNat % 4 * 256 + (fr.getD 2 0).toNat
    if fr.length < 3 || fr.length < len + 6 then ([], 0, fr)
    else
      let (g, c, p) := rtcmScan k (fr.drop (len + 6))
      if ofBe ((fr.drop (len + 3)).take 3) = (crc24q (fr.take (len + 3))).toNat then
        ((fr.drop 3).take len :: g, c, p)
      else (g, c + 1, p)

/-- The messages of R80 that are kept. -/
def rtcmAccepted (n : Nat) : Bool :=
  [1005, 1006, 1007, 1008, 1033, 1074, 1077, 1094, 1097, 1114, 1117, 1124, 1127].contains n

/-- MSM4 and MSM7 numbers of one system. -/
def msmPair (n : Nat) : Option Nat :=
  if n % 10 = 4 && 1070 ≤ n then some (n + 3) else if n % 10 = 7 && 1070 ≤ n then some (n - 3) else none

/-- The signal mask of an MSM message, its most significant bit signal 1 (log 81). -/
def msmMask (body : List Byte) : Nat := rtcmField body 137 32

/-- The signals of a message's system that correspond to R61, as bits of that mask (log 81). -/
def msmUsable (n : Nat) : Nat :=
  let ids : List Nat := if n / 10 = 109 then [2, 4, 5, 22, 23, 24] else if n / 10 = 112 then [22, 23, 24, 30, 31, 32] else [2, 22, 23, 24]
  (ids.map (fun k => 2 ^ (32 - k))).sum

def State.updCorr (s : State) (f : Corr → Corr) : State :=
  { s with nav := { s.nav with sx := { s.nav.sx with corr := f s.nav.sx.corr } } }

def State.updSextant (s : State) (f : Sextant → Sextant) : State :=
  { s with nav := { s.nav with sx := f s.nav.sx } }

/-- Count a discarded message by number (R80). -/
def State.corrDiscard (s : State) (n : Nat) : State :=
  (s.count 27).updCorr (fun c =>
    match c.discards.find? (fun d => d.1 = n) with
    | some _ => { c with discards := c.discards.map (fun d => if d.1 = n then (d.1, satInc d.2) else d) }
    | none => { c with discards := c.discards ++ [(n, 1)] })

/-- A changed reference station: ambiguities are dropped, REFSTN_CHANGE raised (R84). -/
def State.station (s : State) (id pos : Nat) : State :=
  let new := match s.nav.sx.corr.station with | some o => decide (o ≠ (id, pos)) | none => false
  let s := s.updCorr (fun c => { c with station := some (id, pos), refChanged := c.refChanged || new })
  if new then s.raise 0xA003 subjModule [(128, 12, id)] false else s

/-- Use one message of the active stream (R80, R84): an MSM4 that an MSM7 of its epoch stands for is
discarded.  Every message kept renews `lastUsed`, stations and descriptors too (log 85). -/
def State.corrUse (s : State) (body : List Byte) : State :=
  let n := rtcmField body 0 12
  if !rtcmAccepted n then s.corrDiscard n
  else
    let keep := fun (c : Corr) => { c with held := (n, body) :: c.held.filter (fun h => h.1 ≠ n), lastUsed := some s.now }
    if n = 1005 || n = 1006 then
      let pos := rtcmField body 34 38 * 2 ^ 76 + rtcmField body 74 38 * 2 ^ 38 + rtcmField body 114 38
      (s.updCorr keep).station (rtcmField body 12 12) pos
    else match msmPair n with
      | some o =>
        let same := s.nav.sx.corr.held.any (fun h => h.1 = o && rtcmField h.2 24 30 = rtcmField body 24 30)
        let use := fun (s : State) => (s.updCorr keep).updCorr (fun c =>
          { c with used := (n, msmMask body &&& msmUsable n) :: c.used.filter (fun u => u.1 ≠ n) })
        if same && n % 10 = 4 then s.corrDiscard n
        else if same then ((use s).updCorr (fun c =>
          { c with held := c.held.filter (fun h => h.1 ≠ o), used := c.used.filter (fun u => u.1 ≠ o) })).corrDiscard o
        else use s
      | none => s.updCorr keep

/-- Whether a stream is configured (R83). -/
def State.corrOn (s : State) (can : Bool) : Bool :=
  match s.cfgN .corrSource with | 0 => !can | 1 => can | _ => true

/-- The configured primary is CAN. -/
def State.corrPrimary (s : State) : Bool := s.cfgN .corrSource = 1 || s.cfgN .corrSource = 3

/-- Change one stream. -/
def State.updStream (s : State) (can : Bool) (f : Stream → Stream) : State :=
  s.updCorr (fun c => if can then { c with can := f c.can } else { c with ring := f c.ring })

/-- A valid frame on a stream: its run without a gap of CORR_SWITCH (R83). -/
def State.corrValid (s : State) (can : Bool) : State :=
  let gap := s.cfgN .corrSwitch * 1000 * msTicks
  s.updStream can (fun x =>
    { x with lastValid := s.now,
             goodFrom := match x.goodFrom with
               | some m => if s.now < x.lastValid + gap then some m else some s.now
               | none => some s.now })

/-- Give stream bytes to the parser (R81). -/
def State.corrFeed (s : State) (can : Bool) (bs : List Byte) : State :=
  if !s.corrOn can then s
  else
    let c := s.nav.sx.corr
    let all := (if can then c.can.part else c.ring.part) ++ bs
    let (good, bad, part) := rtcmScan all.length all
    let s := (s.updStream can (fun x => { x with part := part })).count 24 bad
    s.each good (fun s body =>
      let s := (s.count 23).corrValid can
      if s.nav.sx.corr.onCan = can then s.corrUse body else s)

/-- CORR_SOURCE has changed at a firing: its primary is active, without a switch (R83, R95, log 86). -/
def State.corrFired (s : State) : State :=
  s.updCorr (fun c => { c with onCan := s.corrPrimary, ring := { c.ring with part := [] }, can := { c.can with part := [] } })

/-- Take one RTCM ring descriptor (R82).  A TAG gap counts with RESYNC set too (log 87).
DESIGN CHOICE (log 148): with ANTENNAS none the streams are parsed and counted as ever. -/
def State.rtcmTake (s : State) (d : Desc) : State :=
  let len := Desc.field d 8 5
  let tag : BitVec 16 := BitVec.ofNat 16 (Desc.field d 16 16)
  if Desc.field d 0 8 ≠ 1 || len = 0 || 28 < len then s.count 26
  else
    let gap := match s.nav.sx.corr.lastTag with | some t => decide (tag ≠ t + 1) | none => false
    let s := s.updCorr (fun c => { c with lastTag := some tag })
    let s := if gap || Desc.field d 13 1 = 1 then s.updStream false (fun x => { x with part := [] }) else s
    let s := if gap then s.count 25 else s
    s.corrFeed false (leBytes len (Desc.field d 32 224))

end Sys2Proof.Machine
end

