-- ==== Sys2Proof/Machine/Field.lean ====
section
/-! DEFINITION. The meanings of the rows of isolated field I/O, analog and pulse inputs (R286 to R308,
R463), but for the readback row that faults the module. -/

namespace Sys2Proof.Machine

def State.updField (s : State) (f : Field → Field) : State := { s with field := f s.field }
def State.updPin (s : State) (p : Nat) (f : FdPin → FdPin) : State :=
  s.updField (fun x => { x with pins := x.pins.modify p f })
def State.updAi (s : State) (n : Nat) (f : AiIn → AiIn) : State :=
  s.updField (fun x => { x with ai := x.ai.modify n f })
def State.updPi (s : State) (n : Nat) (f : PiIn → PiIn) : State :=
  s.updField (fun x => { x with pi := x.pi.modify n f })
def State.updSx (s : State) (n : Nat) (f : SxOut → SxOut) : State :=
  s.updField (fun x => { x with sx := x.sx.modify n f })
def State.pin (s : State) (p : Nat) : FdPin := s.field.pins.getD p {}
def State.ain (s : State) (n : Nat) : AiIn := s.field.ai.getD n {}
def State.pin_ (s : State) (n : Nat) : PiIn := s.field.pi.getD n {}
def State.sxOut (s : State) (n : Nat) : SxOut := s.field.sx.getD n {}

/-! ### Pins -/

/-- The mode in force on the field side is OUT, or is IN_T1 or IN_T3 (R292). -/
def State.fdMode (s : State) (p : Nat) : Nat := s.field.modes.getD p 1
def State.fdOut (s : State) (p : Nat) : Bool := p < 32 && s.fdMode p = 2
def State.fdIn (s : State) (p : Nat) : Bool := p < 32 && s.fdMode p ≤ 1

/-- What an output drives: its level, unless it is latched or VIO24 or the field clock is lost. -/
def State.fdDrive (s : State) (p : Nat) : Bool :=
  s.fdOut p && (s.pin p).out && !(s.pin p).latched && !s.pwr.vioLost && !s.field.clockBad

/-- The level of an output pin itself: what it drives, or what drives it (R292, R295). -/
def State.fdLevel (s : State) (p : Nat) : Bool := s.fdOut p && (s.fdDrive p || (s.pin p).rb || (s.pin p).driven)

/-- An input's state is unavailable, as the host side has it (R287, R294). -/
def State.fdBad (s : State) (p : Nat) : Bool := (s.pin p).hBroken || s.field.stale

/-- Outputs follow their commands (R288). -/
def DevState.active (d : DevState) : Bool := d == .parked || d == .working || d == .manual

/-- Apply a pin's safe state of the selection in force (R289): HOLD keeps the level, and a cleared pin stays
OFF until an FD_SET names it (R296). -/
def safeLevel (sel : Nat) (p : FdPin) : FdPin :=
  { p with out := match sel with | 1 => !p.cleared | 2 => p.out | _ => false }

/-- The field side places every output in its safe state (R288, R289). -/
def State.fieldSafe (s : State) : State :=
  s.updField (fun x => { x with pins := x.pins.zipIdx.map (fun q => safeLevel (s.dev.fdSafe.getD q.2 0) q.1) })

/-- The command a down frame carries for a pin: its safe state outside PARKED, WORKING and MANUAL, and
while a firing runs (R406). -/
def State.frameLevel (s : State) (p : Nat) : Option Bool :=
  if s.dev.st.active && s.cfg.firing.isNone then (if (s.pin p).cleared then some false else some (s.pin p).cmd) else none

/-- DOWN_FRAME (R287, R290, R292, R295): sent at every MT multiple of 25,000; the FD_SETs that wait take
effect in it, and it carries the modes of the configuration from BOOT's end on, but while a firing runs (log 115). -/
def State.downFrame (s : State) : State :=
  if s.islands && s.now % 25000 = 0 && s.dev.st != .reset then
    let resume := s.field.resumeDue
    let s := s.updField (fun x =>
      { x with frame := (List.range 32).map s.frameLevel, resume := resume, resumeDue := false, inFlight := true,
               frameModes := if s.cfg.firing.isNone && s.dev.st != .boot
                 then some ((List.range 32).map (fun p => s.cfgN .fdMode p)) else none })
    let s := if resume then s.raise 0x7001 subjModule [(128, 8, 4)] false else s
    let down := s.field.hostSilent
    s.each (s.host.outstanding.filter (fun w => w.op = 0x70)) (fun s w =>
      s.finish w .ok (resultOf [(128, 1, b2n down)]))
  else s

def execDownFrame (dt : Nat) (s : State) : Out := .next (s.advance dt).downFrame

/-- Take a frame's commands on the field side. -/
def State.takeFrame (s : State) : State :=
  s.updField (fun x => { x with pins := x.pins.zipIdx.map (fun q =>
    match x.frame.getD q.2 none with
    | some l => { q.1 with out := l }
    | none => safeLevel (s.dev.fdSafe.getD q.2 0) q.1) })

/-- No good down frame has come for the SILENCE_TIMEOUT that the field side holds, also through a reset (R289). -/
def State.silenceDue (s : State) : Bool :=
  !s.field.silent && decide (s.field.lastDown + s.field.timeout * msTicks ≤ s.time.up)

/-- The field side falls silent: every output at its safe state (R289). -/
def State.fallSilent (s : State) : State :=
  if s.silenceDue then (s.updField (fun x => { x with silent := true, good := 0, linkOk := false })).fieldSafe else s

/-- DOWN_FRAME_RECEIVED (R287, R288, R290, R292): a frame that a symbol has broken is not received, and a silence
that is due is taken before the frame's content. -/
def State.downGood (s : State) : State :=
  if !s.field.inFlight then s
  else
    let s := s.fallSilent
    let f := s.field
    let s := s.updField (fun x =>
      { x with missedDown := 0, lastDown := s.time.up, clockBad := false, good := if x.silent then x.good + 1 else 0,
               inFlight := false, modes := x.frameModes.getD x.modes,
               timeout := if x.frameModes.isSome then s.cfgN .silenceTimeout else x.timeout,
               linkOk := if x.silent then decide (2 ≤ x.good) || x.linkOk else x.linkOk })
    if f.silent then
      if f.linkOk && f.resume then (s.updField (fun x => { x with silent := false, good := 0 })).takeFrame
      else s
    else s.takeFrame

def execDownFrameReceived (dt : Nat) (s : State) : Out := .next (s.advance dt).downGood

/-- DOWN_FRAME_MISSED (R287): missed 10 µs after its expected instant. -/
def execDownFrameMissed (dt : Nat) (s : State) : Out :=
  .next ((s.advance dt).updField (fun x => { x with missedDown := x.missedDown + 1, good := 0, linkOk := false, inFlight := false }))

/-- What an up frame carries of a pin (R287): its state with the stamp, the output diagnostics, each of which
raises its event, and an accepted change, FD_CHANGE with FD_EVT (R293). -/
def State.takePin (s : State) (p : Nat) : State :=
  let q := s.pin p
  let s := s.updPin p (fun q =>
    { q with fresh := false, seen := q.level, seenStamp := q.stamp, diag := [], hLatched := q.latched, hKind := q.kind,
             hBroken := q.broken, read := s.fdLevel p, findings := satInc q.findings q.diag.length })
  let s := s.each q.diag (fun s d => s.raise 0x7004 p [(128, 8, d.1)] d.2)
  if q.fresh && s.cfgB .fdEvt p && s.fdIn p then s.raise 0x7003 p [(128, 1, b2n q.level), (192, 64, q.stamp)] false
  else s

def State.takeChanges (s : State) : State := s.each (List.range 32) State.takePin

/-- UP_FRAME (R287, R289, R290): with the field-side clock failed no frame comes, which counts as missed. -/
def State.upFrame (s : State) (good : Bool) (banks : List Nat) : State :=
  if !good || s.field.clockBad then s.updField (fun x => { x with missedUp := x.missedUp + 1 })
  else
    let was := s.field
    let s := s.updField (fun x =>
      { x with missedUp := 0, lastUp := s.now, stale := false, txLost := decide (3 ≤ x.missedDown), hostSilent := x.silent,
               resumeDue := x.silent && x.linkOk, bankMa := (List.range 4).map (fun b => banks.getD b 0) })
    let s := if was.stale then s.raise 0x7001 subjModule [(128, 8, 1)] false else s
    let s := if !was.txLost && 3 ≤ was.missedDown then s.raise 0x7001 subjModule [(128, 8, 2)] false else s
    let s := if was.silent && !was.hostSilent then s.raise 0x7001 subjModule [(128, 8, 3)] true else s
    s.takeChanges

def execUpFrame (dt : Nat) (good : Bool) (banks : List Nat) (s : State) : Out :=
  .next ((s.advance dt).upFrame good banks)

/-- FIELD_RX_LOST (R287). -/
def execFieldRxLost (dt : Nat) (s : State) : Out :=
  let s := s.advance dt
  .next (if 3 ≤ s.field.missedUp && !s.field.stale then
      (s.updField (fun x => { x with stale := true })).raise 0x7001 subjModule [(128, 8, 0)] true
    else s)

/-- SILENCE_TIMEOUT (R289). -/
def execSilenceTimeout (dt : Nat) (s : State) : Out := .next (s.advance dt).fallSilent

/-- A symbol breaks into a frame in progress, and every output goes to its safe state (R288). -/
def State.symbol (s : State) : State := (s.updField (fun x => { x with inFlight := false })).fieldSafe

/-- RESET_SYMBOL (R288): sent while the module is in RESET. -/
def execResetSymbol (dt : Nat) (s : State) : Out :=
  let s := s.advance dt
  .next (if s.dev.st == .reset then s.symbol else s)

/-- FORCE_SAFE_SYMBOL (R288): sent while a lane asserts FORCE_SAFE. -/
def execForceSafeSymbol (dt : Nat) (s : State) : Out :=
  let s := s.advance dt
  .next (if s.sag.a.force || s.sag.b.force then s.symbol else s)

/-- FIELD_CLOCK_FAIL (R290): every output OFF, HOLD and ON included. -/
def execFieldClockFail (dt : Nat) (s : State) : Out :=
  .next ((s.advance dt).updField (fun x =>
    { x with clockBad := true, pins := x.pins.map (fun p => { p with out := false }) }))

/-- A pin's state becomes INVALID or valid again, which the next good up frame reports (R287, R294). -/
def State.setBroken (s : State) (p : Nat) (broken : Bool) : State :=
  if (s.pin p).broken = broken then s
  else s.updPin p (fun q => { q with broken := broken, diag := q.diag ++ [(if broken then 0 else 1, false)] })

/-- FD_CHANGE (R293): the pin has read `level` since `since` for FD_FILTER; reading ON makes its state valid. -/
def State.fdChanged (s : State) (p : Nat) (level : Bool) (since : Nat) : State :=
  if s.fdMode p ≠ 3 && p < 32 && since + s.cfgN .fdFilter p * usTicks ≤ s.now && (s.pin p).level ≠ level then
    let s := s.updPin p (fun q => { q with level := level, stamp := since, fresh := true,
                                           lost := if q.fresh then satInc q.lost else q.lost })
    if level then s.setBroken p false else s
  else s

def execFdChange (dt pin : Nat) (level : Bool) (since : Nat) (s : State) : Out :=
  .next ((s.advance dt).fdChanged pin level since)

/-- WIRE_BREAK (R294): measured while the pin reads OFF. -/
def execWireBreak (dt pin : Nat) (broken : Bool) (s : State) : Out :=
  let s := s.advance dt
  .next (if s.fdIn pin && s.cfgB .fdWb pin && !(broken && (s.pin pin).level) then s.setBroken pin broken else s)

/-- Latch a pin OFF with a finding, which the next good up frame reports (R287, R295, R296). -/
def State.latchPin (s : State) (p kind : Nat) (urgent : Bool) : State :=
  s.updPin p (fun q => { q with latched := true, kind := kind, diag := q.diag ++ [(kind, urgent)] })

/-- A finding with an event only (R295). -/
def State.pinFinding (s : State) (p kind : Nat) : State := s.updPin p (fun q => { q with diag := q.diag ++ [(kind, false)] })

def execFdOverload (dt pin : Nat) (s : State) : Out :=
  let s := s.advance dt
  .next (if s.fdDrive pin then s.latchPin pin 2 true else s)

/-- BANK_OVERLOAD (R295): `pin` is the bank's ON pin with the highest current. -/
def execBankOverload (dt bank pin ma : Nat) (s : State) : Out :=
  let s := s.advance dt
  .next (if pin / 8 = bank && 2000 < ma && s.fdDrive pin then s.latchPin pin 3 true else s)

def execFdOpenLoad (dt pin : Nat) (s : State) : Out :=
  let s := s.advance dt
  .next (if s.fdDrive pin && s.cfgB .fdOl pin then ((s.pinFinding pin 4).noteClass 7 2).settle 7 else s)

/-- PIN_DRIVEN (R295): an OFF output reads above 5 V for 10 ms, or no longer does. -/
def execPinDriven (dt pin : Nat) (present : Bool) (s : State) : Out :=
  let s := s.advance dt
  .next (if s.fdOut pin && present && !s.fdDrive pin && !(s.pin pin).driven then
      (s.updPin pin (fun q => { q with driven := true })).pinFinding pin 5
    else if s.fdOut pin && !present then s.updPin pin (fun q => { q with driven := false })
    else s)

/-! ### Analog inputs (R297 to R301) -/

/-- The excitation of a ratiometric input. -/
def State.ratioOf (s : State) (n : Nat) : Option Nat :=
  match s.cfgN .aiMode n with | 4 => some 0 | 5 => some 1 | _ => none

/-- An excitation supplies its output. -/
def State.sxGood (s : State) (k : Nat) : Bool := (s.sxOut k).on && !(s.sxOut k).fault && !s.pwr.shed

def State.aiValid (s : State) (n : Nat) : Bool := (s.ain n).kind = 0

/-- Set an input's validity, raising AI_VALID at a change (R299). -/
def State.setValid (s : State) (n kind : Nat) : State :=
  if n < 16 && (s.ain n).kind ≠ kind then
    (s.updAi n (fun a => { a with kind := kind })).raise 0x7005 n [(128, 8, kind)] false
  else s

/-- A reading above its mode's OVER_RANGE limit (R297). -/
def State.aiOver (s : State) (n : Nat) (r : Int) : Bool :=
  decide ((match s.cfgN .aiMode n with | 0 => 5100 | 1 => 10200 | 2 => 32500 | 3 => 21000 | _ => 5100) < r)

/-- A reading that meets the condition of OPEN (R299). -/
def State.aiOpen (s : State) (n : Nat) (r : Int) : Bool :=
  if s.cfgN .aiMode n = 3 then decide (r < 3600)
  else decide (r < s.cfgI .aiValidMin n) || decide (s.cfgI .aiValidMax n < r)

/-- A reading in the unit of its mode, from the mean of samples in that unit; in RATIO_A and RATIO_B the samples are
V_in in mV, and `vsx` is V_SX in mV. At V_SX 0 the spec gives no value (R297, log 116). -/
def State.aiUnit (s : State) (n : Nat) (mean : Rat) (vsx : Nat) : State × Int :=
  if (s.ratioOf n).isNone then (s, roundRat mean)
  else if vsx = 0 then ({ s with free := s.free + 1 }, Config.freeInt s.free)
  else (s, roundRat (mean * 5000 / (vsx : Rat)))

/-- AI_READING (R297, R298, R300): the mean of AI_AVG samples, dated to their middle; it comes 2 us after its last
sample. -/
def State.aiRead (s : State) (n : Nat) (samples : List Int) (vsx : Nat) (code : Word) : State :=
  let k := s.cfgN .aiAvg n
  if n < 16 && samples.length = k && s.islands then
    let last := (s.now - 500) / 2500 * 2500
    let (s, x) := s.aiUnit n ((samples.sum : Rat) / (samples.length : Rat)) vsx
    let r := x - s.flash.aiZero.getD n 0
    s.updAi n (fun a => { a with
      reading := r, code := code, mt := last - (k - 1) * 1250,
      above := s.aiOver n r, aboveAt := if s.aiOver n r = a.above then a.aboveAt else last,
      open_ := s.aiOpen n r, openAt := if s.aiOpen n r = a.open_ then a.openAt else last })
  else s

def execAiReading (dt input : Nat) (samples : List Int) (vsx : Nat) (code : Word) (s : State) : Out :=
  .next ((s.advance dt).aiRead input samples vsx code)

/-- The validity that the conditions of an input give now (R299): OVER_RANGE after 1 ms, OPEN after 10 ms, an
excitation faulted or off at once, and each gone after 10 ms without it. -/
def State.aiKind (s : State) (n : Nat) : Nat :=
  let a := s.ain n
  let gone (m : Nat) : Bool := decide (m + 10 * msTicks ≤ s.now)
  let sx : Option SxOut := (s.ratioOf n).map s.sxOut
  let exc := match s.ratioOf n with | some k => !s.sxGood k | none => false
  if exc then 3
  else if (if a.above then a.kind = 1 || decide (a.aboveAt + msTicks ≤ s.now) else a.kind = 1 && !gone a.aboveAt) then 1
  else if (if a.open_ then a.kind = 2 || gone a.openAt else a.kind = 2 && !gone a.openAt) then 2
  else if a.kind = 3 && (match sx with | some x => !gone x.at_ | none => false) then 3
  else 0

/-- AI_VALID (R299): an input's condition has held, or has been gone, for its time. -/
def execAiValid (dt input : Nat) (s : State) : Out :=
  let s := s.advance dt
  .next (if (s.ain input).shunt.isSome || !s.islands then s else s.setValid input (s.aiKind input))

/-- MA20_SHUNT_DISCONNECT (R297). -/
def execMa20ShuntDisconnect (dt input : Nat) (s : State) : Out :=
  let s := s.advance dt
  .next (if input < 16 && s.cfgN .aiMode input = 3 && (s.ain input).shunt.isNone then
      (s.updAi input (fun a => { a with shunt := some (s.now + 100 * msTicks) })).setValid input 1
    else s)

/-- MA20_SHUNT_RECONNECT (R297): OVER_RANGE ends here, and clears after 10 ms without it (R299). -/
def execMa20ShuntReconnect (dt input : Nat) (s : State) : Out :=
  let s := s.advance dt
  .next (match (s.ain input).shunt with
    | some m => if m ≤ s.now then s.updAi input (fun a => { a with shunt := none, above := false, aboveAt := s.now }) else s
    | none => s)

/-- The ratiometric inputs of an excitation that is faulted or off become invalid (R299). -/
def State.ratioLost (s : State) (k : Nat) : State :=
  s.each ((List.range 16).filter (fun n => s.ratioOf n = some k)) (fun s n => s.setValid n 3)

/-- SX_FAULT (R301). -/
def execSxFault (dt : Nat) (b : Bool) (s : State) : Out :=
  let s := s.advance dt
  let k := b2n b
  .next (if s.sxGood k then
      ((s.updSx k (fun x => { x with fault := true, retry := false, at_ := s.now })).raise 0x7006 k [(128, 1, 0)] false).ratioLost k
    else s)

/-- SX_RETRY (R301): every 100 ms a retry begins, and one that has held for 100 ms gives SX_GOOD; `holds`, the output
is within its limits. -/
def execSxRetry (dt : Nat) (b holds : Bool) (s : State) : Out :=
  let s := s.advance dt
  let k := b2n b
  let x := s.sxOut k
  .next (if !x.on || !x.fault || s.pwr.shed then s
    else if x.retry && !holds then s.updSx k (fun x => { x with retry := false, at_ := s.now })
    else if s.now < x.at_ + 100 * msTicks then s
    else if x.retry then
      (s.updSx k (fun x => { x with fault := false, retry := false, at_ := s.now })).raise 0x7006 k [(128, 1, 1)] false
    else s.updSx k (fun x => { x with retry := holds, at_ := s.now }))

/-! ### Pulse inputs (R302 to R306) -/

/-- PI_MODE of an input: 0 COUNT, 1 PERIOD, 2 FREQ, 3 QUAD; the second input of a QUAD pair is QUAD. -/
def State.piMode (s : State) (n : Nat) : Nat :=
  if n % 2 = 1 && s.cfgN .piMode (n - 1) = 3 then 3 else if n % 2 = 1 && s.cfgN .piMode n = 3 then 2 else s.cfgN .piMode n

/-- The reciprocal of a time in ticks, in mHz. -/
def mHzOf (ticks : Nat) : Int := if ticks = 0 then 0 else roundRat ((250000000000 : Rat) / (ticks : Rat))

/-- The frequency at the latest stamp (R304). -/
def gateFreq (gate : Nat) (stamps : List Nat) (period : Nat) : Int :=
  match stamps.getLast? with
  | none => 0
  | some t =>
    let w := stamps.filter (fun x => t ≤ x + gate)
    match w with
    | a :: _ :: _ => if a = t then mHzOf period
      else roundRat (((w.length - 1 : Nat) : Rat) * 250000000000 / ((t - a : Nat) : Rat))
    | _ => mHzOf period

/-- The frequency now (R304): falling once the time since the last edge exceeds the last period. -/
def State.piFreq (s : State) (n : Nat) : Int :=
  let p := s.pin_ n
  if p.zero then 0
  else match p.stamps.getLast? with
    | none => 0
    | some t =>
      let d := s.now - t
      let f := if p.period < d then mHzOf d else p.f.natAbs
      if s.piMode n = 3 && p.rev then -f else f

/-- The rate of a pulse input (R305), 0 with PI_UNIT NONE. -/
def State.piRate (s : State) (n : Nat) : Int :=
  let k : Rat := (s.cfgN .piK n : Rat) / 65536
  let f : Rat := (s.piFreq n : Rat) / 1000
  match s.cfgN .piUnit n with
  | 0 => roundRat (f * 1000 / k)
  | 1 => roundRat (f * 60000 / k)
  | _ => 0

/-- Load a count whose MT has come by `t` (R306). -/
def State.piLoad (s : State) (n t : Nat) : State :=
  match (s.pin_ n).load with
  | some (c, m) => if m ≤ t then s.updPi n (fun p => { p with count := c, load := none, loadedAt := some m }) else s
  | none => s

/-- Keep the stamps of the gate, and at least the last 64. -/
def keepStamps (gate t : Nat) (xs : List Nat) : List Nat :=
  (xs.zipIdx.filter (fun q => decide (xs.length ≤ q.2 + 64) || decide (t ≤ q.1 + gate))).map (·.1)

/-- An edge stamped `t` counts: no count has been loaded for a later MT (R306). -/
def PiIn.countsAt (p : PiIn) (t : Nat) : Bool := match p.loadedAt with | some m => decide (m ≤ t) | none => true

/-- Record an accepted edge's stamp `t`: period, frequency and telemetry. -/
def State.piStamp (s : State) (n src t : Nat) (level : Bool) (step : Int) : State :=
  let gate := s.cfgN .piGate n * msTicks
  let p := s.pin_ n
  let period := match p.stamps.getLast? with | some x => t - x | none => p.period
  let xs := keepStamps gate t (p.stamps ++ [t])
  let by_ : Int := if !p.countsAt t then 0 else if s.piMode n = 3 then step else 1
  let s := s.updPi n (fun p =>
    { p with stamps := xs, period := period, f := gateFreq gate xs period, zero := false, count := p.count + BitVec.ofInt 32 by_,
             step := if s.piMode n = 3 then by_ else step,
             revWas := p.rev, lineB := src % 2 = 1, rev := if s.piMode n = 3 then (if step = 0 then p.rev else decide (step < 0)) else p.rev })
  if !s.cfgB .piStampTel src then s
  else
    s.updPi src (fun p =>
      let fresh := decide (p.secAt + 250000000 ≤ t)
      let k := if fresh then 0 else p.inSec
      if k < 2000 then
        { p with tel := p.tel ++ [(t, level)], inSec := k + 1, secAt := if fresh then t else p.secAt }
      else { p with stampDrop := satInc p.stampDrop })

/-- What the comparator of a pulse input reads of a land at `mv` (R302): its hysteresis lies half above PI_VTH and half
below it (DESIGN CHOICE, log 111). -/
def State.piCompare (s : State) (n : Nat) (mv : Int) : Bool :=
  let h := s.cfgI .piHyst n
  if (s.pin_ n).level then decide (2 * s.cfgI .piVth n - h ≤ 2 * mv) else decide (2 * s.cfgI .piVth n + h ≤ 2 * mv)

/-- An edge of stamp `t` that the glitch filter has accepted (R302, R303). Edges of A and of B within 2 µs count QUAD_ERR, and the
count and the direction are those before them. -/
def State.piEdge (s : State) (n t : Nat) (level : Bool) : State :=
  let s := s.piLoad n t
  let s := s.updPi n (fun p => { p with level := level })
  if s.piMode n = 3 then
    let a := n / 2 * 2
    let s := s.piLoad a t
    let p := s.pin_ a
    let la := (s.pin_ a).level
    let lb := (s.pin_ (a + 1)).level
    let lead := if n = a then decide (la ≠ lb) else decide (la = lb)
    let near := match p.stamps.getLast? with
      | some u => decide (t ≤ u + 500) && p.lineB ≠ decide (n % 2 = 1)
      | none => false
    if near then
      (s.updPi a (fun p => { p with quadErr := satInc p.quadErr, count := p.count - BitVec.ofInt 32 p.step,
                                    rev := p.revWas })).piStamp a n t level 0
    else s.piStamp a n t level (if lead then 1 else -1)
  else
    let kind := s.cfgN .piEdge n
    if kind = 2 || (kind = 0 && level) || (kind = 1 && !level) then s.piStamp n n t level 0 else s

/-- PI_EDGE (R302, R17): the land crossed to `mv` `held` ticks ago and has stayed on that side since; the stamp is the MT
of the crossing, and a level shorter than PI_GLITCH is ignored (log 111). -/
def execPiEdge (dt input : Nat) (mv : Int) (held : Nat) (s : State) : Out :=
  let s := s.advance dt
  let level := s.piCompare input mv
  .next (if input < 16 && s.islands && level != (s.pin_ input).level && decide (s.cfgN .piGlitch input * usTicks ≤ held)
    then s.piEdge input (s.now - held) level else s)

/-- PI_ZERO_TIMEOUT (R304). -/
def execPiZeroTimeout (dt input : Nat) (s : State) : Out :=
  let s := s.advance dt
  .next (match (s.pin_ input).stamps.getLast? with
    | some t =>
      if t + s.cfgN .piZeroT input * msTicks ≤ s.now then s.updPi input (fun p => { p with zero := true, f := 0 })
      else s
    | none => s)

/-- One rising edge of an EXTEV input at MT `t` (R463): counted, and its stamp kept among the last 64. f is the
reciprocal of the last period, since the input has no PI_GATE (DESIGN CHOICE, log 114). -/
def PiIn.extevEdge (p : PiIn) (t : Nat) : PiIn :=
  let period := match p.stamps.getLast? with | some x => t - x | none => p.period
  { p with level := true, count := p.count + 1, stamps := keepStamps 0 t (p.stamps ++ [t]), period := period,
           f := mHzOf period, zero := false }

/-- f of an EXTEV input now: falling once the time since the last edge exceeds the period, as R304 has it; no
PI_ZERO_T takes it to 0 (DESIGN CHOICE, log 114). -/
def PiIn.extevFreq (p : PiIn) (now : Nat) : Int :=
  match p.stamps.getLast? with
  | some t => if p.period < now - t then mHzOf (now - t) else p.f
  | none => 0

def State.extevIn (s : State) (k : Nat) : PiIn := s.field.extev.getD k {}

/-- EXTEV_EDGE (R463). -/
def execExtevEdge (dt input : Nat) (s : State) : Out :=
  let s := s.advance dt
  .next (if s.islands then
      s.updField (fun x => { x with extev := x.extev.set input ((s.extevIn input).extevEdge s.now) })
    else s)

/-- PI_COUNT_LOAD (R306): the MT that PI_COUNT_SET named has come. -/
def execPiCountLoad (dt input : Nat) (s : State) : Out :=
  let s := s.advance dt
  .next (s.piLoad input s.now)

/-! ### Commands -/

/-- A pin that is not DISABLED, which a mask may name (R374, R375). -/
def State.fdEnabled (s : State) (p : Nat) : Bool := p < 32 && s.cfgN .fdMode p ≠ 3

/-- A pin the configuration sets to OUT, which an FD_SET may name (R308). -/
def State.fdSetOut (s : State) (p : Nat) : Bool := p < 32 && s.cfgN .fdMode p = 2

/-- FD_SET (R295, R308): stored at once; it completes in the next down frame. -/
def cmdFdSet (mask levels : Word) (s : State) : Verdict :=
  checks s ((bitsOf mask).all s.fdSetOut) true none none
    (.wait false [] (s.each (bitsOf mask) (fun s p =>
      s.updPin p (fun q => { q with cmd := levels.getLsbD p, cleared := false }))))

def maskW (p : Nat → Bool) : Word := maskOf 32 p

def State.fdItem (s : State) : Item :=
  let f := s.field
  (1, [maskW (fun p => (s.pin p).seen), maskW (fun p => s.fdOut p && (s.pin p).cmd), maskW (fun p => (s.pin p).read),
    maskW s.fdBad, maskW (fun p => (s.pin p).hLatched), wn s.pwr.vio24,
    wn (pack [(0, 1, b2n f.hostSilent), (1, 1, b2n f.stale), (2, 1, b2n f.txLost)])]
    ++ (List.range 4).map (fun b => wn (f.bankMa.getD b 0)))

def State.fdPinItem (s : State) (p : Nat) : Item :=
  let q := s.pin p
  (2, [wn (pack [(0, 8, p), (8, 8, s.cfgN .fdMode p), (16, 8, if q.hLatched then q.hKind else 0)])]
    ++ dwords q.seenStamp ++ [q.lost, q.findings])

/-- The latch of a pin is cleared on both sides; the pin stays OFF, in a frame on its way too, until an FD_SET names
it (R296, log 115). -/
def State.clearPin (s : State) (p : Nat) : State :=
  (s.updPin p (fun q => { q with latched := false, kind := 0, hLatched := false, hKind := 0, cleared := true, out := false })).updField
    (fun x => { x with frame := x.frame.set p (some false) })

/-- FD_CLEAR (R296): a pin whose PIN_DRIVEN condition is present stays latched. -/
def cmdFdClear (mask : Word) (s : State) : Verdict :=
  let t := s.each (bitsOf mask) (fun s p => if (s.pin p).latched && !(s.pin p).driven then s.clearPin p else s)
  let held := maskW (fun p => mask.getLsbD p && (t.pin p).latched)
  checks s ((bitsOf mask).all s.fdEnabled) true none none
    (.done (if held = 0 then .ok else .faultHeld) (resultOf [(128, 32, held.toNat)]) (t.settle 6))

def State.aiItem (s : State) (n : Nat) : Item :=
  let a := s.ain n
  (1, [wn (pack [(0, 8, n), (8, 8, s.cfgN .aiMode n), (16, 8, a.kind)]), w32 a.reading, a.code,
    w32 (s.flash.aiZero.getD n 0)])

/-- The item of PI_STATUS for input `n` (R308, R388); inputs 16 and 17 are EXTEV0 and EXTEV1, of MODE COUNT,
direction 0 and rate 0 (R463). -/
def State.piItem (s : State) (n : Nat) : Item :=
  let ext := decide (16 ≤ n)
  let p := if ext then s.extevIn (n - 16) else s.pin_ n
  let lost := s.field.pins.foldl (fun (a : Word) q => satInc a q.lost.toNat) 0
  let st := p.stamps.drop (p.stamps.length - 64)
  (1, [wn (pack [(0, 8, n), (8, 8, if ext then 0 else s.piMode n), (16, 1, b2n p.rev)]), p.count, wn p.period,
    w32 (if ext then p.extevFreq s.now else s.piFreq n), w32 (if ext then 0 else s.piRate n), p.quadErr, p.stampDrop, lost,
    wn st.length] ++ (st.map dwords).flatten)

/-- PI_COUNT_SET (R306): a past MT applies at once. -/
def cmdPiCountSet (input : Nat) (count : Word) (at_ : DWord) (s : State) : Verdict :=
  checks s (decide (input < 16)) true none none
    (.done .ok 0 ((s.updPi input (fun p => { p with load := some (count, at_.toNat) })).piLoad input s.now))

/-- SX_SET (R301, R308). -/
def cmdSxSet (b on : Bool) (s : State) : Verdict :=
  let k := b2n b
  let s := s.updSx k (fun x => { x with on := on, fault := false, retry := false, at_ := if on && (!x.on || x.fault) then s.now else x.at_ })
  .done .ok 0 (if on then s else s.ratioLost k)

/-! ### Transitions and firings -/

/-- Entry to PARKED leaves each output at its safe state until an FD_SET names it: the commands are
set from the levels in force. -/
def State.fieldParked (s : State) : State :=
  s.updField (fun x => { x with pins := x.pins.map (fun p => { p with cmd := p.out }) })

/-- A firing takes SX_EN (R308). -/
def State.fieldFired (s : State) : State :=
  s.each [0, 1] (fun s k =>
    let on := s.cfgB .sxEn k
    let s := s.updSx k (fun x => { x with on := on, at_ := if on && !x.on then s.now else x.at_ })
    if on then s else s.ratioLost k)

end Sys2Proof.Machine
end

