-- ==== Sys2Proof/Machine/Loads.lean ====
section
/-! DEFINITION. The meanings of the load switch rows (R262 to R285), but for the readback row that
faults the module. -/

namespace Sys2Proof.Machine

def State.updLs (s : State) (n : Nat) (f : Switch → Switch) : State :=
  { s with loops := { s.loops with ls := s.loops.ls.modify n f } }
def State.updLsPair (s : State) (k : Nat) (f : LsPair → LsPair) : State :=
  { s with loops := { s.loops with pair := s.loops.pair.modify k f } }
def State.ls (s : State) (n : Nat) : Switch := s.loops.ls.getD n {}
def State.lsPair (s : State) (k : Nat) : LsPair := s.loops.pair.getD k {}
def State.loop (s : State) (n : Nat) : Loop := s.loops.loop.getD n {}

/-- PAIR_MODE: 0 SINGLE, 1 BRIDGE, 2 PARALLEL (R263). -/
def State.pairMode (s : State) (n : Nat) : Nat := s.cfgN .pairMode (n / 2)

/-- The switches that trip and pause as one (R263). -/
def State.lsUnit (s : State) (n : Nat) : List Nat := if s.pairMode n = 2 then [n / 2 * 2, n / 2 * 2 + 1] else [n]

/-- The switch whose setting governs `n`: LS2k of a BRIDGE or PARALLEL pair. -/
def State.lsLead (s : State) (n : Nat) : Nat := if s.pairMode n = 0 then n else n / 2 * 2

/-- The loop that owns a switch (R265). -/
def State.lsOwner (s : State) (n : Nat) : Option Nat :=
  match s.loopOfSink (.lsDuty (s.lsLead n)) with
  | some l => some l
  | none => if s.pairMode n = 1 then s.loopOfSink (.lsBridge (n / 2)) else none

/-- The mode of a safe state: 0 OFF, 1 LOW, 2 HIGH (R46). -/
def safeMode (sel : Nat) : LsMode := match sel with | 1 => .low | 2 => .high | _ => .off

/-- A tune drives the switch even in STANDBY (R255). -/
def State.lsTuned (s : State) (n : Nat) : Bool := s.acts.any (fun a => a.code = 3 && s.claims a (.switch n))

/-- The mode and duty that a switch's owner has in force (R265, R266), its safe state while a firing runs
(R406). -/
def State.lsWanted (s : State) (n : Nat) : LsMode × Int :=
  let safe := (safeMode (s.dev.lsSafe.getD n 0), 0)
  if !(s.dev.st.active || s.lsTuned n) || s.cfg.firing.isSome then safe
  else match s.lsOwner n with
    | some l =>
      let u := (s.loop l).uOut
      if s.sink l == .lsBridge (n / 2) then (.bridge, clampI (-6553600) 6553600 u) else (.pwm, clampI 0 6553600 u)
    | none => ((s.ls (s.lsLead n)).asked).getD safe

/-- A cleared loop-owned switch waits until its loop is CLOSED again (R281). -/
def State.lsWaits (s : State) (n : Nat) : Bool :=
  (s.ls n).cleared && (match s.lsOwner n with
    | some l => (s.loop l).st != .closed && (s.loop l).st != .tune
    | none => true)

/-- What keeps both sides off (R264 to R281, R425).  LS_ENABLE is a field of an image: before any firing, and
with strap defaults, the safe state that ST2 selects acts (R46, log 83). -/
def State.lsHeld (s : State) (n : Nat) : Bool :=
  let x := s.ls n
  (s.cfg.inForce != .straps && !s.cfgB .lsEnable n) || x.latched || x.pause.isSome || (s.lsPair (n / 2)).hot || s.lsWaits n
    || s.pwr.loadSusp.getD (n / 4) false

/-- PWM period of a pair in ticks (R267), and in LOADI cycles of 10 ns. -/
def State.lsTicks (s : State) (k : Nat) : Nat := (roundRat ((250000000 : Rat) / (max 1 (s.cfgN .lsPwmHz k) : Nat))).toNat
def State.lsCycles (s : State) (k : Nat) : Nat := s.lsTicks k * 2 / 5

/-- A duty (sQ16.16 %) resolved to LOADI cycles of a period (R268, log 95): an on-time below 1 us is 0, an
off-time below 1 us the whole period. -/
def onCycles (period : Nat) (duty : Int) : Nat :=
  let c := (roundRat ((period * duty.natAbs : Nat) / (6553600 : Rat))).toNat
  if c < 100 then 0 else if period < c + 100 then period else c

/-- The half-bridge that a signed duty pulses: LS2k for d > 0, LS2k+1 for d < 0 (R266). -/
def pulsed (n : Nat) (duty : Int) : Bool := decide (duty ≠ 0) && (decide (0 < duty) == decide (n % 2 = 0))

/-- The active side of switch `n` conducts in this mode, at this duty and on-time (R266, R268, R273); of a BRIDGE pair,
that of the half-bridge that pulses. -/
def activeOn (n : Nat) (toSupply : Bool) (m : LsMode) (duty : Int) (cyc : Nat) : Bool :=
  match m with
  | .off => false
  | .low => toSupply
  | .high => !toSupply
  | .pwm => decide (0 < cyc)
  | .bridge => decide (0 < cyc) && pulsed n duty

/-- The switch pulses: its active side is on for part of each period (R266, R268). -/
def State.lsPulses (s : State) (n : Nat) : Bool :=
  let x := s.ls n
  (x.mode == .pwm || (x.mode == .bridge && pulsed n x.duty)) && decide (0 < x.cyc) && decide (x.cyc < s.lsCycles (n / 2))

def State.lsActive (s : State) (n : Nat) : Bool :=
  activeOn n (s.cfgB .loadTo n) (s.ls n).mode (s.ls n).duty (s.ls n).cyc

/-- LOADI cycles since the pair's last period start. -/
def State.lsPhase (s : State) (n : Nat) : Nat := (s.now - (s.lsPair (n / 2)).start) * 2 / 5

/-- The sides commanded on, high and low, at this phase of the period (R266); at 100 % the active side stays on
(R268). -/
def State.lsCmd (s : State) (n : Nat) : Bool × Bool :=
  let x := s.ls n
  let on := decide (s.lsPhase n < x.cyc) || decide (s.lsCycles (n / 2) ≤ x.cyc)
  match x.mode with
  | .off => (false, false)
  | .low => (false, true)
  | .high => (true, false)
  | .pwm => if s.cfgB .loadTo n then (!on, on) else (on, !on)
  | .bridge => if pulsed n x.duty then (on, !on) else (false, true)

/-- `Time.up` at an MT of the past. -/
def State.upAt (s : State) (t : Nat) : Nat := s.time.up - (s.now - t)

/-- The side whose part of a period comes first, true for the high side; none where no side pulses (R266). -/
def State.lsFirst (s : State) (n : Nat) : Option Bool :=
  match (s.ls n).mode with
  | .pwm => some (!s.cfgB .loadTo n)
  | .bridge => if pulsed n (s.ls n).duty then some true else none
  | _ => none

/-- `Time.up` at which the high and the low side were last on: now, where they are commanded on or found stuck on
(R264, R280). -/
def State.lsEnds (s : State) (n : Nat) : Nat × Nat :=
  let x := s.ls n
  let c := s.lsCmd n
  let past := decide (0 < x.cyc) && decide (x.cyc ≤ s.lsPhase n)
  let part := s.upAt ((s.lsPair (n / 2)).start + (x.cyc * 5 + 1) / 2)
  let e := fun (high on : Bool) (t : Nat) =>
    if on then s.time.up else if s.lsFirst n = some high && past then max t part else t
  (e true (c.1 || x.rbHigh) x.hiOff, e false (c.2 || x.rbLow) x.loOff)

/-- Keep those instants. -/
def State.lsDate (s : State) (n : Nat) : State :=
  let e := s.lsEnds n
  s.updLs n (fun x => { x with hiOff := e.1, loOff := e.2 })

/-- The sides that conduct, high and low: a side commanded on waits until the other side, in a PARALLEL pair
the pair's other sides, has been off for DEADTIME; a side found stuck on keeps the other one off (R263, R264,
R280). -/
def State.lsSides (s : State) (n : Nat) : Bool × Bool :=
  let c := s.lsCmd n
  let wait := ((s.lsPair (n / 2)).dead + 3) / 4
  let free := fun (t : Nat × Nat → Nat) => (s.lsUnit n).all (fun m => decide (t (s.lsEnds m) + wait ≤ s.time.up))
  let stuck := fun (f : Switch → Bool) => (s.lsUnit n).any (fun m => f (s.ls m))
  (c.1 && free (·.2) && !stuck Switch.rbLow, c.2 && free (·.1) && !stuck Switch.rbHigh)

/-- The inrush budget now (R274), its spending reckoned at the current last observed. -/
def State.lsBudget (s : State) (n : Nat) : Rat :=
  let x := s.ls n
  let full : Rat := (s.cfgN .inrushI2t n : Rat)
  let ms : Rat := ((s.now - x.budgetAt : Nat) : Rat) / msTicks
  let a : Rat := (x.iNow : Rat) / 1000
  let oc : Rat := (s.cfgN .ocLimit n : Rat) / 1000
  let spend := if x.win.isSome then ratMax 0 (a * a - oc * oc) else 0
  let b := x.budget.getD full
  ratMax 0 (ratMin full (b + ms * (full / (s.cfgN .inrushRest n : Rat) - spend)))

/-- Fix the budget as it stands now. -/
def State.lsReckon (s : State) (n : Nat) : State :=
  let b := s.lsBudget n
  s.updLs n (fun x => { x with budget := some b, budgetAt := s.now })

/-- Put a mode and duty in force: an inrush window opens where the active side starts to conduct. -/
def State.lsSet (s : State) (n : Nat) (m : LsMode) (duty : Int) : State :=
  let was := s.lsActive n
  let pwm := m == .pwm || m == .bridge
  let cyc := if pwm then onCycles (s.lsCycles (n / 2)) duty else 0
  let now := activeOn n (s.cfgB .loadTo n) m duty cyc
  let wide := now && (!pwm || decide (655360 ≤ duty.natAbs))
  let since := fun (on : Bool) (t : Nat) (o : Option Nat) => if on then some (o.getD t) else none
  let opens := now && !was && s.cfgB .inrushEn n
  (s.lsReckon n).updLs n (fun x =>
    { x with mode := m, duty := duty, cyc := cyc,
             offFrom := if m == .off && x.mode != .off then s.now else x.offFrom,
             win := if opens then some s.now else if now && was then x.win else none,
             iNow := if opens then 0 else x.iNow,
             onFrom := since (m != .off) s.time.up x.onFrom, condFrom := since now s.now x.condFrom,
             wideFrom := since wide s.now x.wideFrom, lowFrom := if wide then x.lowFrom else none })

/-- The same in the middle of a period: the sides that turn off are dated, for DEADTIME. -/
def State.lsPut (s : State) (n : Nat) (m : LsMode) (duty : Int) : State := (s.lsDate n).lsSet n m duty

/-- The mode and duty that a switch has to take: its owner's, or off where something holds it off. -/
def State.lsChoice (s : State) (n : Nat) : LsMode × Int := if s.lsHeld n then (.off, 0) else s.lsWanted n

/-- The owner has set a mode since LS_CLEAR. -/
def State.lsOwned (s : State) (n : Nat) : State :=
  if (s.ls n).cleared && !s.lsWaits n then s.updLs n (fun x => { x with cleared := false }) else s

/-- Bring a switch to the mode it has to take: one that involves PWM at its pair's next period start (R267). -/
def State.lsApply (s : State) (n : Nat) : State :=
  let s := s.lsOwned n
  let w := s.lsChoice n
  if (w.1 == .pwm || w.1 == .bridge) && decide (((s.ls n).mode, (s.ls n).duty) ≠ w) then s else s.lsPut n w.1 w.2

/-- Both sides off at once. -/
def State.lsOff (s : State) (n : Nat) : State := s.lsPut n .off 0

/-- The LS_LATCH causes of R386. -/
abbrev lsOver : Nat := 1

/-- Latch one switch (R281); in RESET its record waits for BOOT in the always-on buffers (log 162). -/
def State.lsLatchOne (s : State) (n cause : Nat) : State :=
  if (s.ls n).latched then s
  else
    let s := (s.lsOff n).updLs n (fun x => { x with latched := true, cause := cause, pause := none, latchMt := some s.now })
    if s.dev.st == .reset then s.bufferRec (s.mkRec 3 0x6002 n [(128, 8, cause)])
    else s.record 3 0x6002 n [(128, 8, cause)] true

/-- Latch a switch, a PARALLEL pair as one (R263, R281). -/
def State.lsLatch (s : State) (n cause : Nat) : State := s.each (s.lsUnit n) (fun s m => s.lsLatchOne m cause)

/-- Latch a switch on a finding of its tests. -/
def State.lsFinding (s : State) (n cause : Nat) : State :=
  ((s.updLs n (fun x => { x with counts := x.counts.modify 2 satInc })).noteClass 7 2).lsLatch n cause

/-- The pause after trip `i`, in ticks (R271). -/
def pauseTicks (i : Nat) : Nat := min (10 * 2 ^ (i - 1)) 2560 * msTicks

/-- A trip (R270, R271): the unit turns off, pauses, or latches at OC_TRIES. -/
def State.lsTripped (s : State) (n : Nat) (ma : Int) (short : Bool) : State :=
  let us := s.lsUnit n
  let s := s.updLs n (fun x => { x with iNow := ma })
  let s := s.each us (fun s m => (s.lsOff m).updLs m (fun x => { x with trips := x.trips + 1 }))
  let s := s.updLs n (fun x => { x with tripAt := some s.now, counts := x.counts.modify 0 satInc })
  let t := (s.ls n).trips
  let s := s.raise 0x6001 n [(128, 1, b2n short), (136, 8, t), (144, 32, twos 32 ma)] false
  if s.cfgN .ocTries n ≤ t then s.lsLatch n lsOver
  else s.each us (fun s m => s.updLs m (fun x => { x with pause := some (s.now + pauseTicks t) }))

/-- I_LIM of a switch (R270). -/
def State.iLim (s : State) (n : Nat) : Nat :=
  if (s.ls n).win.isSome then s.cfgN .inrushLimit n else s.cfgN .ocLimit n

/-- A side of a switch has conducted for `held` ticks. -/
def State.lsOnFor (s : State) (n held : Nat) : Bool :=
  match (s.ls n).onFrom with
  | some m => decide (m + held ≤ s.time.up)
  | none => false

/-- LS_TRIP (R270): the current has been held at I_LIM for `held` ticks, OC_TRIP_T or more. -/
def execLsTrip (dt n : Nat) (ma : Int) (held : Nat) (s : State) : Out :=
  let s := s.advance dt
  .next (if n < 16 && (s.ls n).mode != .off && !s.lsHeld n && (s.iLim n : Int) ≤ ma.natAbs
      && decide (s.cfgN .ocTripT n * usTicks ≤ held) && s.lsOnFor n held then
      s.lsTripped n ma false
    else s)

/-- LS_SHORT_TRIP (R275): held at INRUSH_LIMIT for `held` ticks of the window, 50 us or more, with the output on the
short's side of SHORT_MV throughout; `volts` is the output voltage at its end, and VLOADq. -/
def execLsShortTrip (dt n : Nat) (ma : Int) (volts : Nat × Nat) (held : Nat) (s : State) : Out :=
  let (mv, vload) := volts
  let s := ((s.advance dt).updLs n (fun x => { x with mv := mv })).updPwr (fun p => { p with vload := p.vload.set (n / 4) vload })
  let low := if s.cfgB .loadTo n then decide (s.pwr.vload.getD (n / 4) 0 < mv + s.cfgN .shortMv n)
    else decide (mv < s.cfgN .shortMv n)
  let inWin := match (s.ls n).win with | some m => decide (m + held ≤ s.now) | none => false
  .next (if n < 16 && inWin && decide (50 * usTicks ≤ held) && low && (s.cfgN .inrushLimit n : Int) ≤ ma.natAbs then
      s.lsTripped n ma true
    else s)

/-- LS_PAUSE_END (R271). -/
def execLsPauseEnd (dt n : Nat) (s : State) : Out :=
  let s := s.advance dt
  .next (match (s.ls n).pause with
    | some m =>
      if m ≤ s.now then
        (s.each (s.lsUnit n) (fun s m => s.updLs m (fun x => { x with pause := none }))).each (s.lsUnit n) State.lsApply
      else s
    | none => s)

/-- LS_TRIP_COUNT_RESET (R272). -/
def execLsTripCountReset (dt n : Nat) (s : State) : Out :=
  let s := s.advance dt
  .next (if s.lsOnFor n (1000 * msTicks) then s.each (s.lsUnit n) (fun s m => s.updLs m (fun x => { x with trips := 0 })) else s)

/-- The inrush window opened at `m` ends: INRUSH_TIME has passed, or 1 ms since the current fell below OC_LIMIT
at `below` (R273). -/
def State.winOver (s : State) (n m : Nat) (below : Option Nat) : Bool :=
  decide (m + s.cfgN .inrushTime n * msTicks ≤ s.now) || (match below with
    | some b => decide (m ≤ b) && decide (b + msTicks ≤ s.now)
    | none => false)

/-- INRUSH_WINDOW_END (R273). -/
def execInrushWindowEnd (dt n : Nat) (below : Option Nat) (s : State) : Out :=
  let s := s.advance dt
  .next (match (s.ls n).win with
    | some m => if s.winOver n m below then (s.lsReckon n).updLs n (fun x => { x with win := none }) else s
    | none => s)

/-- INRUSH_BUDGET_SPENT (R274): at the current `ma`, held since the budget was last reckoned, it is spent, and I_LIM
becomes OC_LIMIT. -/
def execInrushBudgetSpent (dt n : Nat) (ma : Int) (s : State) : Out :=
  let s := ((s.advance dt).updLs n (fun x => { x with iNow := ma })).lsReckon n
  .next (if (s.ls n).win.isSome && decide ((s.ls n).budget = some 0) then s.updLs n (fun x => { x with win := none }) else s)

/-- A pair's PWM period starts now (R267): the first LOADI cycle of 2.5 ticks at or after the grid. -/
def State.pairStart (s : State) (k : Nat) : Bool :=
  let T := s.lsTicks k
  decide ((2 * (s.now : Int) - ((k % 2 * T : Nat) : Int)) % ((2 * T : Nat) : Int) < 6)

/-- Show the mean current and the voltage of a switch (R269): the budget is reckoned at the mean of the time since
(R274), and a mean below OL_MA while the active side conducts is dated (R279). -/
def State.lsMean (s : State) (n : Nat) (o : Int × Nat) : State :=
  let low := (s.ls n).wideFrom.isSome && decide (o.1.natAbs < s.cfgN .olMa n)
  ((s.updLs n (fun x => { x with iNow := o.1 })).lsReckon n).updLs n (fun x =>
    { x with ma := o.1, mv := o.2, lowFrom := if low then some (x.lowFrom.getD s.now) else none })

/-- LS_PWM_PERIOD_START (R267, R269): a new duty or mode takes effect; the measured means of the last
period of the switches that pulse and the cell temperature are shown.  At the MT multiples of 1 ms the means of the
last 1 ms of the switches that do not pulse (log 122). -/
def State.lsPeriod (s : State) (k : Nat) (obs : List (Int × Nat)) (cell : Int) : State :=
  let o := fun (n : Nat) => obs.getD (n % 2) (0, 0)
  let ns := [2 * k, 2 * k + 1]
  let ms := decide (s.now % msTicks = 0)
  if !(decide (k < 8) && s.islands) then s
  else if s.pairStart k then
    let s := (s.each ns State.lsDate).updLsPair k (fun p => { p with temp := cell, start := s.now })
    s.each ns (fun s n =>
      let s := (if ms || s.lsPulses n then s.lsMean n (o n) else s).lsOwned n
      s.lsSet n (s.lsChoice n).1 (s.lsChoice n).2)
  else if ms then s.each (ns.filter (fun n => !s.lsPulses n)) (fun s n => s.lsMean n (o n))
  else s

def execLsPwmPeriodStart (dt pair : Nat) (obs : List (Int × Nat)) (cell : Int) (s : State) : Out :=
  .next ((s.advance dt).lsPeriod pair obs cell)

/-- The switch a shutdown is attributed to (R277): 0 the lower, 1 the upper. -/
def State.thermCause (s : State) (k : Nat) (losses : Nat × Nat) : Nat :=
  let hit := fun (n : Nat) => match (s.ls n).tripAt with
    | some m => decide (s.now ≤ m + 10000 * msTicks)
    | none => false
  let a := hit (2 * k)
  let b := hit (2 * k + 1)
  if a && !b then 0 else if b && !a then 1 else if losses.1 < losses.2 then 1 else 0

/-- THERMAL_SHUTDOWN (R276, R277). -/
def State.thermal (s : State) (k : Nat) (temp : Int) (losses : Nat × Nat) : State :=
  if k < 8 && 175 ≤ temp && !(s.lsPair k).hot then
    let c := s.thermCause k losses
    let asked := (s.lsWanted (2 * k + (1 - c))).1 != .off
    let shut := ((s.lsPair k).shut.filter (fun m => decide (s.now ≤ m + 60000 * msTicks))) ++ [s.now]
    let s := s.updLsPair k (fun p => { p with temp := temp, hot := true, shut := shut })
    let s := s.each [2 * k, 2 * k + 1] (fun s n =>
      (s.lsOff n).updLs n (fun x => { x with counts := x.counts.modify 1 satInc }))
    let ev := fun (s : State) (n kind : Nat) => s.raise 0x6003 n [(128, 8, kind), (136, 16, twos 16 temp)] false
    let s := ev s (2 * k + c) 2
    let s := if asked then ev s (2 * k + (1 - c)) 3 else s
    if s.cfgB .thermMode k then
      (s.lsLatchOne (2 * k + c) 2).lsLatchOne (2 * k + (1 - c)) (if asked then 3 else 2)
    else if 10 ≤ shut.length then (s.lsLatchOne (2 * k) 2).lsLatchOne (2 * k + 1) 2
    else s
  else s

def execThermalShutdown (dt pair : Nat) (temp : Int) (losses : Nat × Nat) (s : State) : Out :=
  .next ((s.advance dt).thermal pair temp losses)

/-- THERMAL_RESTART (R276). -/
def execThermalRestart (dt pair : Nat) (temp : Int) (s : State) : Out :=
  let s := s.advance dt
  .next (if (s.lsPair pair).hot && temp ≤ 160 then
      let s := s.updLsPair pair (fun p => { p with temp := temp, hot := false })
      (s.lsApply (2 * pair)).lsApply (2 * pair + 1)
    else s)

/-- An off-state test of a switch can run (R278). -/
def State.lsTestable (s : State) (n : Nat) : Bool :=
  let partner := if n % 2 = 0 then n + 1 else n - 1
  n < 16 && s.cfgB .lsEnable n && (s.ls n).mode == .off && (s.ls n).offFrom + 10 * msTicks ≤ s.now
    && (s.ls partner).mode == .off

/-- The latch cause of a test's finding: 1 OPEN_LOAD, 2 SHORT_SUPPLY, 3 SHORT_GND. -/
def lsCause (code : Nat) : Nat := if code = 1 then 4 else if code = 2 then 5 else 6

/-- What a test finds (R278) from its voltages: 0 nothing, 1 OPEN_LOAD, 2 SHORT_SUPPLY, 3 SHORT_GND.  A short is
found before an open load, and a BRIDGE pair is judged at LS2k, which the test pulls up (log 161). -/
def State.lsFound (s : State) (n : Nat) (o : OffObs) : Nat :=
  if s.pairMode n = 1 || !s.cfgB .loadTo n then
    if 6500 < o.off then 2 else if 4000 < o.pulled then 1 else 0
  else if o.off < 1000 then 3 else if o.pulled + 4000 < o.vload then 1 else 0

/-- The switches that one test covers: a BRIDGE pair is tested as one load (R278). -/
def State.lsLoad (s : State) (n : Nat) : List Nat := if s.pairMode n = 1 then [n / 2 * 2, n / 2 * 2 + 1] else [n]

/-- One off-state test has run, with finding `c`. -/
def State.lsTested (s : State) (n c : Nat) : State :=
  let s := s.each (s.lsLoad n) (fun s m => s.updLs m (fun x => { x with tested := some s.now }))
  if c = 0 then s else s.each (s.lsLoad n) (fun s m => s.lsFinding m (lsCause c))

/-- LS_OFF_STATE_TEST (R278): every 100 ms with DIAG_OFF. -/
def execLsOffStateTest (dt n : Nat) (o : OffObs) (s : State) : Out :=
  let s := s.advance dt
  let due := match (s.ls n).tested with | some m => decide (m + 100 * msTicks ≤ s.now) | none => true
  .next (if s.lsTestable n && s.cfgB .lsDiagOff n && due && !s.outputsHeld && s.islands then
      s.lsTested n (s.lsFound n o)
    else s)

/-- The mean current has stayed below OL_MA, the active side conducting at a duty of 10 % or more, for 20 ms, or for one
PWM period where that is longer (R279). -/
def State.lsLow (s : State) (n : Nat) : Bool :=
  let x := s.ls n
  let T := if x.mode == .pwm || x.mode == .bridge then s.lsTicks (n / 2) else 0
  match x.lowFrom with | some m => decide (m + max (20 * msTicks) T ≤ s.now) | none => false

/-- LS_OPEN_LOAD_ON (R279). -/
def execLsOpenLoadOn (dt n : Nat) (ma : Int) (s : State) : Out :=
  let s := s.advance dt
  .next (if n < 16 && s.lsActive n && s.lsLow n && (ma.natAbs : Nat) < s.cfgN .olMa n && !s.outputsHeld then
      s.lsFinding n 4
    else s)

/-! ### Commands -/

/-- Clamp a duty to the range of its mode. -/
def lsDuty (mode : LsMode) (d : Int) : Int :=
  match mode with
  | .pwm => clampI 0 6553600 d
  | .bridge => clampI (-6553600) 6553600 d
  | _ => 0

def lsModeOf (m : Nat) : Option LsMode :=
  match m with | 0 => some .off | 1 => some .low | 2 => some .high | 3 => some .pwm | 4 => some .bridge | _ => none

/-- LS_SET names an enabled switch, or LS2k of a pair, and BRIDGE only a BRIDGE pair (log 123). -/
def State.lsNamed (s : State) (m : LsMode) (n : Nat) : Bool :=
  s.cfgB .lsEnable n && (s.pairMode n = 0 || n % 2 = 0) && (m != .bridge || s.pairMode n = 1)

/-- The switches that a setting of LSn moves: the whole pair in BRIDGE and PARALLEL (R263). -/
def State.lsPairOf (s : State) (n : Nat) : List Nat := if s.pairMode n = 0 then [n] else [n, n + 1]

/-- LS_SET (R265 to R267, R284). -/
def cmdLsSet (mask : BitVec 16) (mode : Nat) (duty : Q16) (s : State) : Verdict :=
  match lsModeOf mode with
  | none => .done (if mask = 0 then .ok else .noResource) 0 s
  | some m =>
    let ns := bitsOf mask
    let d := lsDuty m duty.toInt
    let clamped := mask ≠ 0 && (m == .pwm || m == .bridge) && d ≠ duty.toInt
    let owned := ns.any (fun n => (s.lsOwner n).isSome)
    let holder := if ns.isEmpty then none else s.outputsOf (ns.map Res.switch)
    checks s (ns.all (s.lsNamed m)) true holder (if owned then some .wrongState else none)
      (let s := s.each ns (fun s n =>
         s.each (s.lsPairOf n) (fun s j => s.updLs j (fun x =>
           { x with asked := if j = n then some (m, d) else x.asked, cleared := false })))
       let s := s.each ns (fun s n =>
         if m == .pwm || m == .bridge then s
         else s.each (s.lsPairOf n) (fun s j => s.lsApply j))
       .done (okOr clamped) (if mask = 0 then 0 else resultOf [(128, 32, twos 32 d)]) s)

def State.lsItem (s : State) (n : Nat) : Item :=
  let x := s.ls n
  let left := match x.pause with | some m => (m - s.now + (msTicks - 1)) / msTicks | none => 0
  (1, [wn (pack [(0, 8, n), (8, 8, (s.lsOwner n).getD 0xFF), (16, 8, x.mode.code)]), w32 x.duty, w32 x.ma, wn x.mv,
    wn x.trips, wn left, wn (roundRat (s.lsBudget n * 65536)).toNat, w32 (s.lsPair (n / 2)).temp,
    wn (if x.latched then x.cause else 0)] ++ x.counts)

/-- The RESULT of 16 finding codes, 4 bits each. -/
def lsCodes (codes : List Nat) : BitVec 128 := resultOf (codes.zipIdx.map (fun p => (128 + 4 * p.2, 4, p.1)))

/-- LS_CLEAR (R281, R285): its tests wait, at most 100 ms. -/
def cmdLsClear (mask : BitVec 16) (s : State) : Verdict :=
  checks s ((bitsOf mask).all (fun n => s.cfgB .lsEnable n)) true none none
    (if mask = 0 then .done .ok (lsCodes (List.replicate 16 5)) s else .wait false [s.now] s)

/-- The finding of a switch's test in a round, 4 where it could not run. -/
def State.lsCode (s : State) (n : Nat) (obs : List (Option OffObs)) : Nat :=
  match obs.getD n none with
  | some o => if s.lsTestable n then s.lsFound n o else 4
  | none => 4

/-- The codes of a test round: 5 not named, 4 where the test could not run. -/
def State.lsTestCodes (s : State) (mask : BitVec 16) (obs : List (Option OffObs)) : List Nat :=
  (List.range 16).map (fun n =>
    if !mask.getLsbD n then 5 else if s.claimed (.switch n) then 4 else s.lsCode n obs)

/-- LS_CLEAR_COMPLETE (R281), a PARALLEL pair cleared as one (R263). -/
def State.lsClearDone (s : State) (obs : List (Option OffObs)) : State :=
  match s.waitingFor 0x62 with
  | some w =>
    match w.cmd with
    | .lsClear _ _ mask =>
      let cs := s.lsTestCodes mask obs
      let late := decide (w.aux.headD 0 + 100 * msTicks ≤ s.now)
      let bad := cs.any (fun c => 1 ≤ c && c ≤ 3)
      if cs.contains 4 && !bad && !late then s
      else
      let s := s.each (List.range 16) (fun s n => if cs.getD n 5 < 4 then s.lsTested n (cs.getD n 5) else s)
      if bad then s.finish w .faultHeld (lsCodes cs)
      else if cs.contains 4 then s.finish w .timeout (lsCodes cs)
      else
        let s := s.each ((bitsOf mask).flatMap s.lsUnit) (fun s n => s.updLs n (fun x =>
          { x with latched := false, cause := 0, trips := 0, cleared := true, asked := none }))
        ((s.settle 6).settle 7).finish w .ok (lsCodes cs)
    | _ => s
  | none => s

def execLsClearComplete (dt : Nat) (obs : List (Option OffObs)) (s : State) : Out :=
  .next ((s.advance dt).lsClearDone obs)

/-- LS_DIAG_NOW (R284, R285). -/
def cmdLsDiagNow (mask : BitVec 16) (s : State) : Verdict :=
  let holder := if mask = 0 then none else s.outputsOf ((bitsOf mask).map Res.switch)
  checks s ((bitsOf mask).all (fun n => s.cfgB .lsEnable n)) true holder none
    (if mask = 0 then .done .ok (lsCodes (List.replicate 16 5)) s else .wait false [s.now] s)

/-- LS_DIAG_NOW_COMPLETE (R284): a switch that is not OFF is not tested. -/
def State.lsDiagDone (s : State) (obs : List (Option OffObs)) : State :=
  match s.waitingFor 0x63 with
  | some w =>
    match w.cmd with
    | .lsDiagNow _ _ mask =>
      let cs := s.lsTestCodes mask obs
      let s := s.each (List.range 16) (fun s n => if cs.getD n 5 < 4 then s.lsTested n (cs.getD n 5) else s)
      s.finish w .ok (lsCodes cs)
    | _ => s
  | none => s

def execLsDiagNowComplete (dt : Nat) (obs : List (Option OffObs)) (s : State) : Out :=
  .next ((s.advance dt).lsDiagDone obs)

/-- Every switch to what its owner, or its safe state, asks for: at a transition, a suspension or a
firing. -/
def State.lsAll (s : State) : State := s.each (List.range 16) State.lsApply

/-- The dead times of an image reach LOADI (R264, R283). -/
def State.loadsFired (s : State) : State :=
  s.each (List.range 8) (fun s k => s.updLsPair k (fun p => { p with dead := s.cfgN .deadtime k }))

/-- A switch at a reset (R43, R46, R264, R270 to R272, R280, R281, R425): its latched safe state, under its current limit,
and but through a power-on reset its latch, trip count, budget and the rest of its pause, which hold both sides off, as
a load suspension does; a side found on, and the instants the sides were last on, are kept through every reset
(log 124). -/
def State.lsAtReset (s : State) (por : Bool) (sel n : Nat) : Switch :=
  let x := s.ls n
  let e := s.lsEnds n
  let pause := if por then none else x.pause.map (fun m => m - s.now)
  let m := if (!por && (x.latched || (s.lsPair (n / 2)).hot)) || pause.isSome
      || s.pwr.loadSusp.getD (n / 4) false then LsMode.off else safeMode sel
  { mode := m, latched := !por && x.latched, cause := if por then 0 else x.cause, trips := if por then 0 else x.trips,
    pause := pause, budget := if por then none else some (s.lsBudget n), rbHigh := x.rbHigh, rbLow := x.rbLow,
    hiOff := e.1, loOff := e.2, onFrom := if m = .off then none else some (x.onFrom.getD s.time.up),
    latchMt := if por then none else x.latchMt }

/-- A pair at a reset: its dead time, and but through a power-on reset its thermal hold (R264, R276). -/
def LsPair.atReset (p : LsPair) (por : Bool) : LsPair :=
  if por then { dead := p.dead } else { dead := p.dead, temp := p.temp, hot := p.hot }

/-- Leaving PARKED, WORKING and MANUAL forgets what the host has set (R266). -/
def State.lsForget (s : State) : State :=
  s.each (List.range 16) (fun s n => s.updLs n (fun x => { x with asked := none }))

end Sys2Proof.Machine
end

