-- ==== Sys2Proof/Machine/LoopOps.lean ====
section
/-! DEFINITION. The operations of the rate loops (R234 to R259): saturating arithmetic, measurement and
target, the law, closing, faults, relay auto-tune and trace recording. -/

namespace Sys2Proof.Machine

def State.updLoop (s : State) (n : Nat) (f : Loop → Loop) : State :=
  { s with loops := { s.loops with loop := s.loops.loop.modify n f } }
def State.updTrace (s : State) (n : Nat) (f : Trace → Trace) : State :=
  { s with loops := { s.loops with trace := s.loops.trace.modify n f } }
def State.trace (s : State) (n : Nat) : Trace := s.loops.trace.getD n {}

/-! ### Arithmetic (R241) -/

def q16Max : Int := 2147483647
def q16Min : Int := -2147483648

/-- Saturate to sQ16.16. -/
def satQ (x : Int) : Int := clampI q16Min q16Max x

/-- Whether a value saturates. -/
def overQ (x : Int) : Bool := decide (x < q16Min) || decide (q16Max < x)

/-- An exact product over `k` fraction bits, halves rounded toward plus infinity. -/
def roundShift (x : Int) (k : Nat) : Int := (x + 2 ^ (k - 1)) / 2 ^ k

/-- The product of two sQ16.16 values before saturation. -/
def mulQ (a b : Int) : Int := roundShift (a * b) 16

/-! ### Mail slots (R322) -/

/-- A slot once the read that held it has ended: the shadow replaces its frame. -/
def Mail.settle (m : Mail) (now : Nat) : Mail :=
  match m.shadow with
  | some (f, sof) => if m.heldTo ≤ now then { m with frame := some f, sof := sof, shadow := none } else m
  | none => m

/-- A mail slot as a reader sees it. -/
def State.mail (s : State) (b n : Nat) : Mail := (((s.can.bus.getD b {}).slots.getD n {})).settle s.now

/-- A reader holds a slot for at most 1 µs: for how long is free. -/
def State.holdSlot (s : State) (b n : Nat) : State :=
  let (k, s) := s.takeFree
  let now := s.now
  { s with can := { s.can with bus := s.can.bus.modify b (fun x => { x with slots := x.slots.modify n (fun m =>
      let m := m.settle now
      { m with heldTo := max m.heldTo (now + Config.freeNat k % (usTicks + 1)) }) }) } }

/-- The speed message that a mail slot holds (R113, R327): 0 PGN 65096, 1 PGN 65097, laid out as ISO 11783-7 has
them (log 97). -/
def State.isoSlot (s : State) (k : Nat) : Nat := if k = 0 then s.cfgN .speedSlotW else s.cfgN .speedSlotG

def State.isoRead (s : State) (k : Nat) : IsoSpd :=
  let m := s.mail (s.cfgN .speedBus) (s.isoSlot k)
  match m.frame with
  | none => {}
  | some f =>
    let v := leAt f.data 0 2
    let dir := leAt f.data 7 1 % 4
    { sof := some m.sof, mmps := if v ≤ 0xFAFF then some v else none,
      reverse := if dir = 0 then some true else if dir = 1 then some false else none }

/-! ### Measurement and target (R234, R235) -/

/-- A field of a mail slot's frame: value and validity (R234). -/
def canField (f : CanFrame) (off width : Nat) (signed : Bool) : Int × Bool :=
  let k := width / 8
  let v := leAt f.data off k
  let top := leAt f.data (off + k - 1) 1
  let held := decide (off + k ≤ f.data.length)
  if signed then (sgn width v, held) else ((v : Int), held && top ≠ 0xFE && top ≠ 0xFF)

/-- The raw value of a loop's source and whether it is valid. -/
def State.rawOf (s : State) (n : Nat) : Int × Bool :=
  match decodeMSrc (s.cfgI .mSrc n) with
  | .ai i => ((s.ain i).reading, s.aiValid i)
  | .piFreq i => (s.piFreq i, true)
  | .can b sl off w sg =>
    let m := s.mail b sl
    match m.frame with
    | some f =>
      let (v, ok) := canField f off w sg
      (v, ok && decide (s.now ≤ m.sof + s.cfgN .mStale n * msTicks))
    | none => (0, false)
  | .lsCurrent i => ((s.ls i).ma, true)
  | .vbat => ((s.pwr.vbat : Int), true)
  | .loopU i => ((s.loop i).uOut, true)

/-- y before saturation (R235): M_GAIN is sQ8.24. -/
def State.measure (s : State) (n : Nat) (raw : Int) : Int :=
  roundShift ((raw - s.cfgI .mOffset n) * s.cfgI .mGain n) 8

/-- Piecewise-linear interpolation of the points of TABLE (R235). -/
def interp (x : Int) : List (Int × Int) → Int
  | [] => 0
  | [p] => p.2
  | p :: q :: r =>
    if x ≤ p.1 then p.2
    else if x ≤ q.1 then
      (if q.1 = p.1 then q.2 else roundRat ((p.2 : Rat) + ((q.2 - p.2) * (x - p.1) : Int) / ((q.1 - p.1 : Int) : Rat)))
    else interp x (q :: r)

/-- The loop whose sink names this loop (R235, R249). -/
def State.outerOf (s : State) (n : Nat) : Option Nat := s.loopOfSink (.cascade n)

/-- The unclamped target (R235). -/
def State.rawTarget (s : State) (n : Nat) : Int :=
  match s.cfgN .spSrc n with
  | 0 => ((s.loop n).rHost).getD (s.cfgI .spInit n)
  | 1 =>
    let m : BitVec 96 := BitVec.ofNat 96 (s.cfgN .spChannels n)
    let q := ((bitsOf m).map (fun ch => s.planner.flows.getD ch 0)).sum
    satQ (roundRat (q * (s.cfgI .spGain n : Rat) / 256))
  | 2 =>
    let x : Int := match s.cfgN .spTsrc n with
      | 0 => ((s.nav.outs.head?).map (·.speed)).getD 0
      | k + 1 => if k < 16 then (s.ain k).reading else (s.loop (k - 16)).y
    interp x ((List.range 16).map (fun i => (s.cfgI .spTx (16 * n + i), s.cfgI .spTy (16 * n + i))))
  | _ => match s.outerOf n with | some o => (s.loop o).uOut | none => 0

/-- The target r, clamped to SP_MIN to SP_MAX. -/
def State.target (s : State) (n : Nat) : Int := clampI (s.cfgI .spMin n) (s.cfgI .spMax n) (s.rawTarget n)

/-! ### Coefficients (R244) -/

/-- The conversion of R244; CF one short of 1.0 where it would round to it. -/
def coefOf (kp ki kd dTf period : Int) : Coef × Bool :=
  let ts := period
  let cf := roundRat ((dTf * 65536 : Int) / ((dTf + ts : Int) : Rat))
  let cut := decide (65536 ≤ cf)
  ({ kp := kp, ci := satQ (roundRat ((ki * ts : Int) / (1000000 : Rat))), cf := if cut then 65535 else cf,
     cd := satQ (roundRat ((kd * 1000000 : Int) / ((dTf + ts : Int) : Rat))) }, cut)

/-- The coefficients of a loop: those of LOOP_COEF in force, or the image's. -/
def State.coefs (s : State) (n : Nat) : Coef :=
  match (s.loop n).coef with
  | some c => c
  | none => (coefOf (s.cfgI .kp n) (s.cfgI .ki n) (s.cfgI .kd n) (s.cfgI .dTf n) (s.cfgI .period n)).1

/-! ### Outputs and faults -/

def State.uSafe (s : State) (n : Nat) : Int := s.cfgI .uSafe n

/-- Write a loop's output into the waiting instance of its periodic frame (R318). -/
def State.loopField (s : State) (n : Nat) (u : Int) : State :=
  match s.sink n with
  | .can f =>
    let w := s.cfgN .txfField f / 256
    let off := s.cfgN .txfField f % 256
    let v := roundShift (u * s.cfgI .oGain n) 40
    let bs := leBytes (w / 8) (twos w v)
    let put := fun (d : List Byte) => (d.take off ++ bs ++ d.drop (off + w / 8)).take d.length
    { s with can := { s.can with bus := s.can.bus.map (fun b => { b with fifo := b.fifo.map (fun e =>
        match e.kind with
        | .txf k => if k = f then { e with frame := { e.frame with data := put e.frame.data } } else e
        | _ => e) }) } }
  | _ => s

/-- Put an output in force at once. -/
def State.setOut (s : State) (n : Nat) (u : Int) : State :=
  (s.updLoop n (fun l => { l with uOut := u, uNext := u })).loopField n u

/-- Enter FAULTED (R252): U_SAFE, I and D cleared, LOOP_FAULT and a fault record with e of this instant. -/
def State.loopFault (s : State) (n cause : Nat) : State :=
  let l := s.loop n
  let data := [(128, 8, cause), (160, 32, twos 32 (satQ (l.n.rs - l.n.y))), (192, 32, twos 32 l.n.y), (224, 32, twos 32 l.n.rs)]
  let s := s.setOut n (s.uSafe n)
  let s := s.updLoop n (fun l =>
    { l with st := .faulted, cause := cause, closing := false, holdFrom := none, feFrom := none,
             n := { l.n with i := 0, d := 0 }, relay := l.relay.map (fun r => { r with ended := max r.ended 4 }) })
  s.record 4 0x5001 n data true

/-- OPEN at U_SAFE. -/
def State.loopSafe (s : State) (n : Nat) : State :=
  (s.setOut n (s.uSafe n)).updLoop n (fun l =>
    { l with st := .opened, closing := false, holdFrom := none, feFrom := none, cause := 0 })

/-- A sink is latched, or has latched since the loop's last sample (R238, R252). -/
def Loop.lostTo (l : Loop) (latched : Bool) (at_ : Option Nat) : Bool :=
  latched || (match l.sampled, at_ with
    | some t, some m => decide (t ≤ m)
    | none, some _ => false
    | _, none => false)

/-- The loop's load switch or valve channel is latched, or has latched since its last sample (R238, R252). -/
def State.sinkLost (s : State) (n : Nat) : Bool :=
  let ls := fun (m : Nat) => (s.loop n).lostTo (s.ls m).latched (s.ls m).latchMt
  match s.sink n with
  | .lsDuty k => (s.lsUnit k).any ls
  | .lsBridge k => ls (2 * k) || ls (2 * k + 1)
  | .vcDuty ch => (s.loop n).lostTo (s.chan ch).latched (s.chan ch).latchMt
  | _ => false

/-- Leaving PARKED, WORKING and MANUAL (R246); the loops that a tune claims go on (R255). -/
def State.loopsSafe (s : State) : State :=
  s.each ((List.range 32).filter (fun n => !s.acts.any (fun a => a.code = 3 && a.ready && a.loops.contains n))) (fun s n =>
    match (s.loop n).st with
    | .opened => if s.loopOn n then s.loopSafe n else s
    | .closed => s.loopSafe n
    | _ => s)

/-- Entering PARKED by ARM, or ending a firing in PARKED: CLOSE_ON ARM (R246). -/
def State.loopsArm (s : State) : State :=
  s.each (List.range 32) (fun s n =>
    if s.loopOn n && !s.cfgB .closeOn n && !(s.loop n).cleared && (s.loop n).st == .opened then s.updLoop n (fun l => { l with closing := true })
    else s)

/-! ### One sample (R238 to R251) -/

/-- The sample instants of a loop (R238). -/
def State.sampleDue (s : State) (n : Nat) : Bool :=
  let T := s.cfgN .period n * usTicks
  s.loopOn n && s.islands && 0 < T && s.now % T = s.cfgN .phase n * usTicks % T
    && s.dev.st != .reset && s.dev.st != .boot && (s.loop n).sampled ≠ some s.now

/-- Step 1: the outputs of every loop on this tick are applied, once, before any measures. -/
def State.applyOutputs (s : State) : State :=
  if s.loops.appliedAt = some s.now then s
  else
    let s := s.each ((List.range 32).filter s.sampleDue) (fun s n =>
      let u := (s.loop n).uNext
      if (s.loop n).uOut = u then s.loopField n u
      else (s.updLoop n (fun l => { l with uOut := u })).loopField n u)
    { s with loops := { s.loops with appliedAt := some s.now } }

/-- Step 2: measure, and decide MEAS_LOST and SINK_LOST. -/
def State.loopMeasure (s : State) (n : Nat) : State :=
  let (raw, ok) := s.rawOf n
  let s := match decodeMSrc (s.cfgI .mSrc n) with
    | .can b sl _ _ _ => s.holdSlot b sl
    | _ => s
  let y := s.measure n raw
  let s : State := s.updLoop n (fun (l : Loop) =>
    { l with measOk := ok, justClosed := false, conds := if ok && overQ y then 16 else 0,
             n := { l.n with y := if ok then satQ y else l.n.y },
             yValid := if ok then some (satQ y) else l.yValid,
             holdFrom := if ok then none else if l.st == LoopSt.closed then (match l.holdFrom with
               | some m => some m
               | none => some s.now) else none })
  let l := s.loop n
  let lost := match l.holdFrom with
    | some m => l.st == LoopSt.closed && decide (m + s.cfgN .measHold n * msTicks ≤ s.now)
    | none => false
  if lost then s.loopFault n 1
  else if l.st != LoopSt.faulted && s.sinkLost n then s.loopFault n 3
  else s

/-- Raise LOOP_SAT for the flags newly set, and count the conditions (R242). -/
def State.noteSat (s : State) (n : Nat) (c : BitVec 5) : State :=
  let l := s.loop n
  let new := c &&& ~~~l.sticky
  let s := s.updLoop n (fun l =>
    { l with conds := c, sticky := l.sticky ||| c,
             counts := l.counts.zipIdx.map (fun p => if c.getLsbD p.2 then satInc p.1 else p.1) })
  if new = 0 then s else s.raise 0x5002 n [(128, 5, new.toNat)] false

/-- Set I of the outer loop so that its v equals the inner loop's y (R249); the output it holds for its next
sample instant stays the one of its own last sample (R239). -/
def State.outerTakes (s : State) (n : Nat) : State :=
  match s.outerOf n with
  | some o =>
    let l := s.loop o
    if l.st == .closed then
      let i0 := satQ ((s.loop n).y - s.cfgI .uBias o - l.n.p - l.n.d)
      let i := clampI (s.cfgI .iMin o) (s.cfgI .iMax o) i0
      let v := satQ (s.cfgI .uBias o + l.n.p + i + l.n.d)
      let s := s.updLoop o (fun l => { l with n := { l.n with i := i, v := v } })
      if i = i0 || l.conds.getLsbD 1 then s
      else (s.noteSat o 2).updLoop o (fun x => { x with conds := l.conds ||| 2 })
    else s
  | none => s

/-- x of R240 for an error and a measurement. -/
def State.xOf (s : State) (n : Nat) (e y : Int) : Int := if s.cfgB .dSrc n then e else satQ (-y)

/-- Close a loop on this sample (R247); a clamp of I counts as any (R242). -/
def State.closeLoop (s : State) (n : Nat) : State :=
  let l := s.loop n
  let i0 := l.uOut - s.cfgI .uBias n
  let i := clampI (s.cfgI .iMin n) (s.cfgI .iMax n) (satQ i0)
  let cut : BitVec 5 := (if i ≠ satQ i0 then 2 else 0) ||| (if overQ i0 then 16 else 0)
  let s := s.updLoop n (fun l =>
    { l with st := .closed, cleared := false, conds := l.conds ||| cut, closing := false, justClosed := true,
             atMax := false, atMin := false, cause := 0, feFrom := none, holdFrom := none,
             coef := match l.coefNext with | some c => some c | none => l.coef, coefNext := none,
             x := s.xOf n 0 l.n.y, n := { l.n with rs := l.n.y, i := i, d := 0, p := 0, e := 0 }, r := s.target n })
  s.outerTakes n

/-- Step 4: the target, and the internal setpoint r* (R248), frozen while R250 holds the output. -/
def State.loopTarget (s : State) (n : Nat) : State :=
  let l := s.loop n
  let r := s.target n
  let ramp := s.cfgI .spRamp n
  let rs :=
    if l.st != .closed then r
    else if l.holdFrom.isSome then l.n.rs
    else if l.justClosed then l.n.y
    else if ramp = 0 then r
    else if (s.cfgI .spStep n) < (r - l.r).natAbs then l.n.y
    else
      let step := max 1 (roundRat ((ramp * s.cfgI .period n : Int) / (1000000 : Rat)))
      if (r - l.n.rs).natAbs ≤ step then r else if l.n.rs < r then l.n.rs + step else l.n.rs - step
  s.updLoop n (fun l => { l with r := r, n := { l.n with rs := rs } })

/-- The loop drives an inner loop that is not CLOSED (R249). -/
def State.cascadeOpen (s : State) (n : Nat) : Bool :=
  match s.sink n with | .cascade m => (s.loop m).st != .closed | _ => false

/-- The following-error check (R251); true where it faults the loop. -/
def State.feCheck (s : State) (n : Nat) : Bool × State :=
  let l := s.loop n
  let lim := s.cfgI .feLimit n
  let e := satQ (l.n.rs - l.n.y)
  if lim = 0 || s.cascadeOpen n || e.natAbs ≤ lim then (false, s.updLoop n (fun l => { l with feFrom := none }))
  else
    let m := l.feFrom.getD s.now
    (decide (m + s.cfgN .feTime n * msTicks ≤ s.now), s.updLoop n (fun l => { l with feFrom := some m, n := { l.n with e := e } }))

/-- Step 5: the law (R240 to R243). -/
def State.loopLaw (s : State) (n : Nat) : State :=
  let l := s.loop n
  let c := s.coefs n
  let bias := s.cfgI .uBias n
  let e0 := l.n.rs - l.n.y
  let e := satQ e0
  let p0 := mulQ c.kp e
  let p := satQ p0
  let inc0 := mulQ c.ci e
  let inc := satQ inc0
  let cond := !s.cfgB .aw n && ((l.atMax && decide (0 < inc)) || (l.atMin && decide (inc < 0)))
  let inc := if cond || s.cascadeOpen n then 0 else inc
  let i0 := satQ (l.n.i + inc)
  let i := clampI (s.cfgI .iMin n) (s.cfgI .iMax n) i0
  let x := s.xOf n e l.n.y
  let dx0 := x - l.x
  let a0 := mulQ c.cf l.n.d
  let b0 := mulQ c.cd (satQ dx0)
  let d0 := satQ a0 + satQ b0
  let d := satQ d0
  let v1 := bias + p
  let v2 := satQ v1 + i
  let v3 := satQ v2 + d
  let v := satQ v3
  let lo := s.cfgI .uMin n
  let hi := s.cfgI .uMax n
  let u := clampI lo hi v
  let bit := fun (k : Nat) (b : Bool) => if b then (1 : BitVec 5) <<< k else 0
  let conds := l.conds ||| bit 0 (overQ p0) ||| bit 1 (overQ inc0 || i ≠ i0)
    ||| bit 2 (overQ dx0 || overQ a0 || overQ b0 || overQ d0) ||| bit 3 (u ≠ v)
    ||| bit 4 (overQ e0 || overQ v1 || overQ v2 || overQ v3)
  let s := s.updLoop n (fun l =>
    { l with uNext := u, atMax := decide (hi < v), atMin := decide (v < lo), x := x,
             n := { e := e, p := p, i := i, d := d, v := v, u := u, y := l.n.y, rs := l.n.rs } })
  s.noteSat n conds

/-! ### Relay auto-tune (R256) -/

/-- A cycle has ended: its period and amplitude; stable once the last N_CYC agree. -/
def relayStable (k : Nat) (cs : List (Nat × Rat)) : Bool :=
  let w := cs.take k
  let mp : Rat := ((w.map (fun c => (c.1 : Rat))).sum) / (k : Rat)
  let ma : Rat := ((w.map (·.2)).sum) / (k : Rat)
  w.length = k && w.all (fun c => decide (ratAbs ((c.1 : Rat) - mp) * 20 ≤ mp) && decide (ratAbs (c.2 - ma) * 10 ≤ ma))

/-- Pu in ticks and a, the means of the last N_CYC cycles. -/
def relayMeans (k : Nat) (cs : List (Nat × Rat)) : Rat × Rat :=
  let w := cs.take k
  (((w.map (fun c => (c.1 : Rat))).sum) / (k : Rat), ((w.map (·.2)).sum) / (k : Rat))

/-- One relay sample of loop `n` under the parameters R_T, U0, DU, HYST, Y_MIN, Y_MAX and N_CYC. -/
def State.relaySample (s : State) (n : Nat) (ps : List Int) : State :=
  let g := fun (k : Nat) => ps.getD k 0
  let l := s.loop n
  let lvl := clampI (s.cfgI .uMin n) (s.cfgI .uMax n)
  let hi := lvl (satQ (g 1 + g 2))
  let lo := lvl (satQ (g 1 - g 2))
  let cut := fun (k : Nat) (b : Bool) => if b then (1 : BitVec 5) <<< k else 0
  match l.relay with
  | none =>
    s.updLoop n (fun l =>
      { l with st := .tune, relay := some { hi := hi, lo := lo, yLo := l.n.y, yHi := l.n.y }, uNext := hi,
               conds := l.conds ||| cut 3 (hi ≠ satQ (g 1 + g 2)) ||| cut 4 (overQ (g 0 - l.n.y) || overQ (g 1 + g 2)) })
  | some r =>
    if r.ended ≠ 0 then s
    else if !l.measOk then s.updLoop n (fun l => { l with relay := some { r with ended := 2 } })
    else if l.n.y < g 4 ∨ g 5 < l.n.y then
      (s.setOut n (s.uSafe n)).updLoop n (fun l => { l with relay := some { r with ended := 3 } })
    else
      let e := satQ (g 0 - l.n.y)
      let up := if g 3 < e then true else if e < -(g 3) then false else r.high
      let r := { r with yLo := min r.yLo l.n.y, yHi := max r.yHi l.n.y }
      let k := (g 6).toNat
      let r :=
        if up && !r.high then
          let cs := match r.upAt with
            | some m => (s.now - m, ((r.yHi - r.yLo : Int) : Rat) / 2) :: r.cycles
            | none => r.cycles
          let done := relayStable k cs
          let fit := decide ((g 3 : Rat) < (relayMeans k cs).2)
          { r with upAt := some s.now, yLo := l.n.y, yHi := l.n.y, cycles := cs,
                   ended := if done then (if fit then 1 else 4) else 0 }
        else r
      let raw := if up then g 1 + g 2 else g 1 - g 2
      s.updLoop n (fun l =>
        { l with relay := some { r with high := up }, uNext := if up then hi else lo,
                 conds := l.conds ||| cut 3 (lvl (satQ raw) ≠ satQ raw) ||| cut 4 (overQ (g 0 - l.n.y) || overQ raw) })

/-! ### Traces (R258, R259) -/

/-- A node by its code in TRACE_ARM. -/
def Nodes.node (n : Nodes) (k : Nat) : Int :=
  match k with
  | 0 => n.e | 1 => n.p | 2 => n.i | 3 => n.d | 4 => n.v | 5 => n.u | 6 => n.y | _ => n.rs

/-- The sample a trace unit records of a loop now. -/
def State.trSample (s : State) (n : Nat) : TrSample :=
  let l := s.loop n
  let closed := l.st == .closed
  let nd := if closed then l.n
    else { e := satQ (l.r - l.n.y), v := l.uOut, u := l.uOut, y := l.n.y, rs := l.r }
  { n := nd, sat := l.conds, ramping := closed && l.n.rs ≠ l.r, measOk := l.measOk, closed := closed, mt := s.now }

/-- Whether the unit's trigger fires on this sample. -/
def Trace.fires (t : Trace) (x : TrSample) (faulted closed : Bool) : Bool :=
  let was := (t.samples.getLast?).map (fun y => y.n.node t.node)
  t.hostTrig || (match t.trig with
    | 0 => true
    | 1 => (match was with | some w => decide (w < t.level) && decide (t.level ≤ x.n.node t.node) | none => false)
    | 2 => (match was with | some w => decide (t.level < w) && decide (x.n.node t.node ≤ t.level) | none => false)
    | 3 => x.sat &&& t.flags ≠ 0
    | 4 => faulted
    | 5 => closed
    | _ => false)

/-- A unit records one sample of its loop into its store of 4,096. -/
def Trace.take (t : Trace) (x : TrSample) (sticky : BitVec 5) (faulted closed : Bool) : Trace :=
  if 0 < t.skip then { t with skip := t.skip - 1 }
  else
    let t := { t with skip := t.dec - 1 }
    if t.st = 1 then
      if t.pre ≤ t.samples.length && t.fires x faulted closed then
        { t with st := if t.pre = 4095 then 3 else 2, left := if t.pre = 4095 then 8193 else t.left,
                 samples := t.samples.drop (t.samples.length - t.pre) ++ [x], sticky := sticky,
                 cause := if t.hostTrig then 6 else t.trig, hostTrig := false }
      else { t with samples := (t.samples ++ [x]).drop (t.samples.length + 1 - 4096) }
    else if t.st = 2 then
      let xs := t.samples ++ [x]
      if 4096 ≤ xs.length then { t with samples := xs, st := 3, left := 8193 } else { t with samples := xs }
    else t

/-- Every unit on the loop records it. -/
def State.recordTraces (s : State) (n : Nat) (faulted closed : Bool) : State :=
  let x := s.trSample n
  let st := (s.loop n).sticky
  s.each (List.range 4) (fun s k =>
    if (s.trace k).loop = n && ((s.trace k).st = 1 || (s.trace k).st = 2) then
      s.updTrace k (fun t => t.take x st faulted closed)
    else s)

end Sys2Proof.Machine
end

