-- ==== Sys2Proof/Machine/CanOps.lean ====
section
/-! DEFINITION. The operations of the CAN buses (R309 to R339): the transmit FIFO, DONE, error
counters, filters and CANRX records, ISO 11783 addresses and transport sessions. -/

namespace Sys2Proof.Machine

def State.busOf (s : State) (b : Nat) : Bus := s.can.bus.getD b {}
def State.updBus (s : State) (b : Nat) (f : Bus → Bus) : State :=
  { s with can := { s.can with bus := s.can.bus.modify b f } }

/-- Count one of the eight counters of a bus (R395). -/
def State.busCount (s : State) (b k : Nat) (n : Nat := 1) : State := s.count (31 + 8 * b + k) n

/-- The buses work: neither RESET nor BOOT (R337). -/
def State.canLive (s : State) : Bool := s.islands && s.dev.st != .reset && s.dev.st != .boot

/-- PARKED, WORKING or MANUAL. -/
def DevState.operating : DevState → Bool
  | .parked => true | .working => true | .manual => true | _ => false

/-- A bus can contend for transmission and send. -/
def Bus.sends (x : Bus) : Bool := !x.off && !x.listen

/-- The head entry that can be on the bus now (R314, R317): not a message descriptor, and in LISTEN or while the bus
reintegrates only to end a started attempt. -/
def State.contender (s : State) (b : Nat) : Option TxEnt :=
  let x := s.busOf b
  match x.fifo with
  | e :: _ =>
    (match e.kind with
      | .msg _ _ _ _ _ _ _ => none
      | _ => if !x.off && (!x.listen || e.leave ≠ 0) && (!x.integrating || e.going) && s.canLive then some e else none)
  | [] => none

/-- Whether the entry `i` has started, which only a head that can contend has: free (R317). -/
def State.instStarted (s : State) (b i : Nat) : Bool × State :=
  if i = 0 && (s.contender b).isSome then
    let (n, s) := s.takeFree
    (Config.freeBool n, s)
  else (false, s)

/-! ### DONE (R315, R316, R326) -/

/-- Write DONE of a CANTX descriptor; it counts toward the ring's vector (R367). -/
def State.canDone (s : State) (b : Nat) (idx : Word) (fs : List (Nat × Nat × Nat)) : State :=
  if s.dmaOk && (s.ring (8 + b)).en && !(s.ring (8 + b)).stopped then
    let s := s.emit (.done (8 + b) idx ((s.ring (8 + b)).addr idx) (BitVec.ofNat 192 (pack fs >>> 64)))
    (s.writeStatus).notify (s.ring (8 + b)).vec false
  else s

/-- DONE of a frame: RESULT, ATTEMPTS and SOF_MT, all ones unless sent (R315). -/
def State.frameDone (s : State) (b : Nat) (idx : Word) (res attempts : Nat) (sof : Option Nat) : State :=
  s.canDone b idx [(80, 1, 1), (81, 3, res), (88, 8, attempts), (96, 64, sof.getD (2 ^ 64 - 1))]

/-- DONE of a message (R326). -/
def State.msgDone (s : State) (b : Nat) (idx : Word) (res reason endMt : Nat) : State :=
  s.canDone b idx [(88, 1, 1), (89, 3, res), (96, 8, reason), (192, 64, endMt)]

/-- DONE of frame descriptors that ended without being sent, in ring order behind the last host frame among the
FIFO's first `i` entries (R316): each with its index, RESULT and ATTEMPTS. -/
def State.doneBehind (s : State) (b i : Nat) (ds : List (Word × Nat × Nat)) : State :=
  let isFrame := fun (e : TxEnt) => match e.kind with | .host _ _ => true | _ => false
  match (((s.busOf b).fifo.take i).zipIdx.filter (fun q => isFrame q.1)).getLast? with
  | some q => s.updBus b (fun x => { x with fifo := x.fifo.modify q.2 (fun e => { e with after := e.after ++ ds }) })
  | none => s.each ds (fun s d => s.frameDone b d.1 d.2.1 d.2.2 none)

/-- An entry has left the head without having been sent: its descriptor's RESULT 1 CANCELLED or 2 DISCARDED.  A
message of one frame ends with it. -/
def State.entDone (s : State) (b : Nat) (e : TxEnt) (res : Nat) : State :=
  match e.kind with
  | .host idx _ => (s.frameDone b idx res e.attempts none).doneBehind b 0 e.after
  | .msg idx _ _ _ _ _ _ => s.msgDone b idx res 0 0
  | .session id =>
    match (s.busOf b).tx.find? (fun t => t.id = id && t.proto = 3) with
    | some t => (s.updBus b (fun x => { x with tx := x.tx.filter (fun u => u.id ≠ id) })).msgDone b t.idx res 0 t.lastSof
    | none => s
  | _ => s

/-- Whether the waiting entry `i` of the FIFO leaves it, cancelled (R317): its DONE is written at once. -/
def State.entCancelled (s : State) (b i : Nat) : State :=
  let e := (s.busOf b).fifo.getD i {}
  let s := (s.updBus b (fun x => { x with fifo := x.fifo.eraseIdx i })).entDone b { e with after := [] } 1
  s.doneBehind b i e.after

/-! ### Frames of the module -/

/-- An extended data frame. -/
def extFrame (id : Nat) (data : List Byte) : CanFrame := { id := BitVec.ofNat 29 id, ide := true, data := data }

/-- The identifier of a parameter group (ISO 11783-3): PDU1 groups carry the destination. -/
def isoId (prio pgn da sa : Nat) : Nat :=
  let p := pgn % 2 ^ 18
  let mid := if p / 256 % 256 < 240 then p / 256 * 256 + da % 256 else p
  prio % 8 * 2 ^ 26 + mid * 256 + sa % 256

/-- Frames that the module sends as its control function, but for the claim itself (R323). -/
def TxKind.ofCf : TxKind → Bool
  | .session _ => true
  | .other => true
  | _ => false

/-- Place a module frame at the FIFO's end, where there is room (log 40).  While a claim runs, the control function's
other frames wait for its end (R323, log 118). -/
def State.place (s : State) (b : Nat) (k : TxKind) (f : CanFrame) : State :=
  s.updBus b (fun x =>
    if k.ofCf && x.claim.isSome then { x with held := x.held ++ [{ kind := k, frame := f }] }
    else if x.fifo.length < 64 then { x with fifo := x.fifo ++ [{ kind := k, frame := f }] } else x)

/-- A transport control frame, with the bytes of a little-endian number (log 41). -/
def State.placeCm (s : State) (b : Nat) (k : TxKind) (prio pgnCm da sa : Nat) (bytes : List Nat) : State :=
  s.place b k (extFrame (isoId prio pgnCm da sa) (bytes.map (BitVec.ofNat 8)))

abbrev tpCm : Nat := 0xEC00
abbrev tpDt : Nat := 0xEB00
abbrev etpCm : Nat := 0xC800
abbrev etpDt : Nat := 0xC700

def nbytes (k v : Nat) : List Nat := (leBytes k v).map (·.toNat)

/-- An abort with a reason, under the protocol of a session (ISO 11783-3). -/
def State.placeAbort (s : State) (b prio proto pgn da sa reason : Nat) : State :=
  s.placeCm b .other prio (if proto = 2 then etpCm else tpCm) da sa
    ([255, reason, 255, 255, 255] ++ nbytes 3 pgn)

/-- Packets of 7 bytes. -/
def packets (len : Nat) : Nat := (len + 6) / 7

/-- Seven data bytes of packet `i` (from 0) behind its sequence number, padded with FF. -/
def dtBytes (seq : Nat) (data : List Byte) (i : Nat) : List Byte :=
  let x := (data.drop (7 * i)).take 7
  BitVec.ofNat 8 seq :: (x ++ List.replicate (7 - x.length) 0xFF)

/-! ### Transmit sessions (R326) -/

/-- The source address of the module on a bus, 254 where none is held. -/
def Bus.sa (x : Bus) : Nat := x.addr.getD 254

/-- Place the next data packet of a session. -/
def State.placeDt (s : State) (b : Nat) (t : TxSess) : State :=
  let sa := (s.busOf b).sa
  let s := s.place b (.session t.id) (extFrame (isoId t.prio (if t.proto = 2 then etpDt else tpDt) t.da sa)
    (dtBytes (t.sent - t.offset + 1) t.data t.sent))
  s.updBus b (fun x => { x with tx := x.tx.map (fun u =>
    if u.id = t.id then { u with sent := u.sent + 1, granted := u.granted - 1 } else u) })

/-- Place granted packets while the FIFO has room. -/
def State.pumpTx : Nat → State → Nat → State
  | 0, s, _ => s
  | k + 1, s, b =>
    let x := s.busOf b
    match x.tx.find? (fun t => 0 < t.granted && t.sent < packets t.data.length) with
    | some t => if x.fifo.length < 64 then State.pumpTx k (s.placeDt b t) b else s
    | none => s

/-- Close a transmit session and write its DONE; its frames leave the FIFO, but a started one ends its attempt. -/
def State.closeTxAt (s : State) (b : Nat) (t : TxSess) (res reason : Nat) (started : Bool) : State :=
  let mine := fun (e : TxEnt) => e.kind == .session t.id
  let k := if started then 1 else 0
  let s := s.updBus b (fun x => { x with
    tx := x.tx.filter (fun u => u.id ≠ t.id), held := x.held.filter (fun e => !mine e),
    fifo := (x.fifo.take k).map (fun e => if mine e then { e with kind := .other, leave := 2 } else e)
      ++ (x.fifo.drop k).filter (fun e => !mine e) })
  let s := if res = 4 then s.busCount b 6 else s
  s.msgDone b t.idx res reason t.lastSof

def State.closeTx (s : State) (b : Nat) (t : TxSess) (res reason : Nat) : State :=
  let (st, s) := if (s.contender b).any (fun e => e.kind == .session t.id) then s.instStarted b 0 else (false, s)
  s.closeTxAt b t res reason st

/-! ### The CANTX ring (R315) -/

/-- Lengths a frame may have. -/
def lenOk (fdf : Bool) (n : Nat) : Bool := n ≤ 8 || (fdf && [12, 16, 20, 24, 32, 48, 64].contains n)

/-- Continuation descriptors behind a header. -/
def contOf (d : Desc) : Nat :=
  let n := Desc.field d 72 7
  if Desc.field d 0 8 = 1 && lenOk (Desc.field d 63 1 = 1) n && 8 < n then (if n ≤ 40 then 1 else 2) else 0

/-- The FIFO entry that a descriptor gives, none where it is BAD (R315, R326). -/
def State.txEntry (s : State) (b : Nat) (idx : Word) (ds : List Desc) : Option TxEnt :=
  let d := ds.headD 0
  let tag : BitVec 16 := BitVec.ofNat 16 (Desc.field d 16 16)
  if Desc.field d 0 8 = 1 then
    let ide := Desc.field d 61 1 = 1
    let rtr := Desc.field d 62 1 = 1
    let fdf := Desc.field d 63 1 = 1
    let brs := Desc.field d 64 1 = 1
    let len := Desc.field d 72 7
    if (rtr && fdf) || (fdf && !(s.busOf b).fdEn) || (brs && !fdf) || !lenOk fdf len then none
    else
      let all := leBytes 8 (Desc.field d 192 64) ++ (ds.drop 1).flatMap (fun c => leBytes 32 c.toNat)
      some { kind := .host idx tag,
             frame := { id := BitVec.ofNat 29 (Desc.field d 32 (if ide then 29 else 11)), ide := ide, rtr := rtr,
                        fdf := fdf, brs := brs, data := all.take len } }
  else if Desc.field d 0 8 = 2 then
    let da := Desc.field d 56 8
    let len := Desc.field d 64 24
    if 65536 < len || (1785 < len && da = 255) then none
    else some { kind := .msg idx tag (Desc.field d 32 18) (Desc.field d 50 3) da len (BitVec.ofNat 64 (Desc.field d 128 64)) }
  else none

/-- DONE with a RESULT for a descriptor that does not enter the FIFO: a frame's in ring order (R316). -/
def State.descDone (s : State) (b : Nat) (idx : Word) (ds : List Desc) (res : Nat) : State :=
  if Desc.field (ds.headD 0) 0 8 = 2 then s.msgDone b idx res 0 0
  else s.doneBehind b (s.busOf b).fifo.length [(idx, res, 0)]

def TxEnt.isHost (e : TxEnt) : Bool :=
  match e.kind with | .host _ _ => true | .msg _ _ _ _ _ _ _ => true | _ => false

/-- Host frames are taken in this state (R337). -/
def State.takesTx (s : State) (b : Nat) : Bool := s.served (8 + b) && s.dev.st != .safe

/-- The FIFO has a place for one more host frame (R315). -/
def State.fifoRoom (s : State) (b : Nat) : Bool :=
  let x := s.busOf b
  x.fifo.length < 64 && (x.fifo.filter TxEnt.isHost).length < s.cfgN .txFifoLimit b

/-- A bus's FIFO can take descriptors of its ring, or the module ends them at once (R315, R332, R337). -/
def State.fifoTakes (s : State) (b : Nat) : Bool :=
  s.takesTx b && (s.fifoRoom b || (s.busOf b).listen || s.dev.st == .fault)

/-- Descriptors of a CANTX ring that have been read and not taken. -/
def Bus.readAhead (x : Bus) : Word :=
  x.wait.foldl (fun a w => a + if w.2.isEmpty then w.1 else BitVec.ofNat 32 (1 + contOf (w.2.headD 0))) 0

/-- Take `n` descriptors of a CANTX ring, of which `r` then wait. -/
def State.popTx (s : State) (b : Nat) (r : List (Word × List Desc)) (n : Word) : State :=
  ((s.updBus b (fun x => { x with wait := r })).updRing (8 + b) (fun g => { g with mod := g.mod + n })).updHost
    (fun h => { h with idxChanged := true })

/-- Take read descriptors in ring order while the FIFO can take them (R315, R332, R337). -/
def State.takeTx : Nat → State → Nat → State
  | 0, s, _ => s
  | k + 1, s, b =>
    let x := s.busOf b
    match x.wait with
    | [] => s
    | (idx, ds) :: r =>
      let pop := fun (s : State) =>
        s.popTx b r (BitVec.ofNat 32 (1 + contOf (ds.headD 0)))
      if !s.takesTx b then s
      else if ds.isEmpty then
        State.takeTx k (s.popTx b r idx) b
      else match s.txEntry b idx ds with
        | none => State.takeTx k ((pop s).descDone b idx ds 3) b
        | some e =>
          if x.listen || s.dev.st == .fault then State.takeTx k ((pop s).descDone b idx ds 2) b
          else if s.fifoRoom b then
            State.takeTx k (((pop s)).updBus b (fun x => { x with fifo := x.fifo ++ [e] })) b
          else s

/-- The FIFO has room again: granted packets, then the ring. -/
def State.refill (s : State) (b : Nat) : State :=
  let s := State.pumpTx 64 s b
  State.takeTx ((s.busOf b).wait.length) s b

/-! ### Error confinement (R328, R329) -/

/-- 1 error active, 2 error passive, 3 bus-off, as BUS_STATE codes them. -/
def Bus.errState (x : Bus) : Nat := if x.off then 3 else if 127 < x.tec || 127 < x.rec_ then 2 else 1

/-- Raise BUS_STATE for what changed since `o` (R328). -/
def State.errEvents (s : State) (b : Nat) (o : Bus) : State :=
  let x := s.busOf b
  let data := fun k => [(128, 8, k), (136, 16, x.tec), (152, 16, x.rec_)]
  let s := if (o.tec < 96 && 96 ≤ x.tec) || (o.rec_ < 96 && 96 ≤ x.rec_) then s.raise 0x8001 b (data 0) false else s
  if o.errState = x.errState then s else s.raise 0x8001 b (data x.errState) (x.errState = 3)

/-- Change the counters, and raise what follows. -/
def State.errUpd (s : State) (b : Nat) (f : Bus → Bus) : State :=
  let o := s.busOf b
  (s.updBus b f).errEvents b o

/-- Remove the head entry. -/
def State.popHead (s : State) (b : Nat) : State := s.updBus b (fun x => { x with fifo := x.fifo.drop 1 })

/-- The head's attempt ended without success: it is pending again, or leaves (R314, R317, R337). -/
def State.attemptFailed (s : State) (b : Nat) : State :=
  match (s.busOf b).fifo with
  | [] => s
  | e :: _ =>
    let e := { e with attempts := min 255 (e.attempts + 1), going := false }
    let s := s.busCount b 7
    if e.leave = 0 then s.updBus b (fun x => { x with fifo := e :: x.fifo.drop 1 })
    else if e.leave = 3 then s.updBus b (fun x => { x with fifo := x.fifo.drop 1, held := { e with leave := 0 } :: x.held })
    else ((s.popHead b).entDone b e e.leave).refill b

/-! ### ISO 11783 addresses (R323, R324) -/

/-- The ISO 11783 control function of a bus runs. -/
def State.isoOn (s : State) (b : Nat) : Bool := s.cfgB .isoEn b && !(s.busOf b).listen

def State.isoName (s : State) (b : Nat) : Nat := s.cfgN .name b % 2 ^ 64

/-- Place an address claim, or the cannot-claim message, from an address. -/
def State.placeClaim (s : State) (b sa : Nat) : State :=
  s.place b .claim (extFrame (isoId 6 0xEE00 0xFF sa) (leBytes 8 (s.isoName b)))

/-- Complete waiting ISO_CLAIMs of a bus with the address held. -/
def State.claimDone (s : State) (b addr : Nat) : State :=
  s.each (s.host.outstanding.filter (fun w => w.op.toNat = 0x87 && w.aux.headD 9 = b)) (fun s w =>
    s.finish w (okOr (w.aux.getD 1 0 = 1)) (resultOf [(128, 8, addr)]))

/-- Take the frames that need the claimed address out of the FIFO (R318, R323, log 118): earlier claims and periodic
frames are dropped, and the others wait for the claim's end.  A started one ends its attempt. -/
def State.holdCf (s : State) (b : Nat) : State :=
  let (st, s) := s.instStarted b 0
  let k := if st then 1 else 0
  let auto := fun (e : TxEnt) => match e.kind with | .txf n => s.cfgB .txfSaAuto n | _ => false
  let gone := fun (e : TxEnt) => e.kind == .claim || auto e
  s.updBus b (fun x => { x with
    fifo := (x.fifo.take k).map (fun e =>
        if gone e then { e with kind := .other, leave := 2 } else if e.kind.ofCf && e.leave = 0 then { e with leave := 3 } else e)
      ++ (x.fifo.drop k).filter (fun e => !gone e && !e.kind.ofCf),
    held := x.held ++ (x.fifo.drop k).filter (fun e => e.kind.ofCf) })

/-- Start the claim of an address (R323). -/
def State.startClaim (s : State) (b addr : Nat) : State :=
  let s := (s.holdCf b).updBus b (fun x => { x with addr := none, claim := some (addr, none), cannot := false })
  s.placeClaim b addr

/-- The claim is over: the address is held, and the frames that waited for it follow with it (R323). -/
def State.claimHeld (s : State) (b addr : Nat) : State :=
  let es := (s.busOf b).held
  let s := s.updBus b (fun x => { x with addr := some addr, claim := none, held := [] })
  s.each es (fun s e => s.place b e.kind { e.frame with id := BitVec.ofNat 29 (e.frame.id.toNat / 256 * 256 + addr % 256) })

/-- No address is held any more: every address lost raises ADDR_LOST (R324), transmit sessions end NO_ADDRESS (R326),
and sessions that a peer opened with the address are gone (log 118). -/
def State.noAddress (s : State) (b : Nat) : State :=
  let s := s.holdCf b
  let x := s.busOf b
  let had := x.addr.isSome || x.claim.isSome
  let s := s.updBus b (fun x => { x with addr := none, claim := none, cannot := false, held := [] })
  let s := s.each x.tx (fun s t => s.closeTxAt b t 5 0 false)
  let s := s.each (x.rx.filter (fun r => r.proto ≠ 0)) (fun s r =>
    (s.updBus b (fun x => { x with rx := x.rx.filter (fun u => u.id ≠ r.id) })).busCount b 5)
  if had then s.raise 0x8005 b [(128, 8, 254), (136, 1, 1)] false else s

/-- The lowest free address of the pool. -/
def State.poolFree (s : State) (b : Nat) : Option Nat :=
  let lo := s.cfgN .addrPoolMin b
  let hi := s.cfgN .addrPoolMax b
  ((List.range (hi + 1 - lo)).map (lo + ·)).find? (fun a => !(s.busOf b).others.any (fun o => o.1 = a))

/-- The address is lost to a lower NAME (R324). -/
def State.loseAddr (s : State) (b : Nat) : State :=
  match (if s.cfgB .arbAddr b then s.poolFree b else none) with
  | some a => s.startClaim b a
  | none =>
    let s := (s.noAddress b).updBus b (fun x => { x with cannot := true })
    (s.placeClaim b 254).claimDone b 254

/-- Another node's claim, or cannot-claim from 254 (R324). -/
def State.seeClaim (s : State) (b sa name : Nat) : State :=
  let s := s.updBus b (fun x =>
    let o := x.others.filter (fun p => p.2 ≠ name && p.1 ≠ sa)
    { x with others := if sa < 254 then o ++ [(sa, name)] else o })
  let x := s.busOf b
  let mine := x.addr = some sa || (x.claim.map (·.1)) = some sa
  if !mine || s.dev.st == .safe then s
  else if name < s.isoName b then s.loseAddr b
  else
    let s := s.updBus b (fun x => { x with others := x.others.filter (fun p => p.1 ≠ sa) })
    s.placeClaim b sa

/-- A request for PGN 60928 (R324). -/
def State.answerClaim (s : State) (b : Nat) : State :=
  let x := s.busOf b
  match x.addr, x.claim with
  | some a, _ => s.placeClaim b a
  | none, some (a, _) => s.placeClaim b a
  | none, none => if x.cannot then s.placeClaim b 254 else s

/-- Entry to STANDBY: the address claim of every bus with ISO_EN at 1, for PREF_ADDR, or for the address that
ISO_CLAIM set (R323, R339). -/
def State.claimAll (s : State) : State :=
  s.each ((List.range 4).filter s.isoOn) (fun s b => s.startClaim b ((s.busOf b).forced.getD (s.cfgN .prefAddr b)))

/-! ### CANRX (R320, R321, R325) -/

/-- Write one CANRX record whole, or drop and count it (R321).  The header lacks RX_SEQ; `drop` says
whether it carries DROPPED. -/
def State.canRecord (s : State) (b : Nat) (hd : List (Nat × Nat × Nat)) (conts : List Desc) (drop : Bool) : State :=
  let x := s.busOf b
  if s.canWrite (12 + b) (1 + conts.length) then
    let fs := (16, 16, x.rxSeq.toNat) :: (if drop then (160, 16, x.dropped) :: hd else hd)
    let s := s.writeRec (12 + b) (descOf fs :: conts) false
    s.updBus b (fun x => { x with rxSeq := x.rxSeq + 1, dropped := if drop then 0 else x.dropped })
  else
    let s := (s.busCount b 2).updRing (12 + b) (fun r => { r with loss := true })
    s.updBus b (fun x => { x with dropped := min 65535 (x.dropped + 1) })

/-- Bytes in whole descriptors. -/
def chunks : Nat → List Byte → List Desc
  | 0, _ => []
  | k + 1, bs => if bs.isEmpty then [] else BitVec.ofNat 256 (ofLe (bs.take 32)) :: chunks k (bs.drop 32)

def b2nF (f : CanFrame) : List (Nat × Nat × Nat) :=
  [(32, 29, f.id.toNat), (61, 1, b2n f.ide), (62, 1, b2n f.rtr), (63, 1, b2n f.fdf)]

/-- Write a received frame to CANRX (R320). -/
def State.canHost (s : State) (b : Nat) (f : CanFrame) (sof : Nat) (filt : Option Nat) : State :=
  let conts := chunks 2 (f.data.drop 8)
  s.canRecord b ([(0, 8, 1)] ++ b2nF f ++ [(64, 1, b2n f.brs), (65, 1, b2n f.esi), (72, 7, f.data.length),
    (80, 7, filt.getD 0), (87, 1, b2n filt.isNone), (88, 8, conts.length), (96, 64, sof),
    (192, 64, ofLe (f.data.take 8))]) conts true

/-- The filter in force for a frame whose SOF is `sof` (R319, R339). -/
def State.filtOf (s : State) (b i sof : Nat) : Filt :=
  match (s.busOf b).filters.find? (fun p => p.2.1 = i && p.1 < sof) with
  | some p => p.2.2
  | none =>
    let k := 128 * b + i
    { kind := s.cfgN .filtKind k, ide := s.cfgB .filtIde k, fdf := s.cfgN .filtFdf k, action := s.cfgN .filtAction k,
      slot := s.cfgN .filtSlot k, sa := s.cfgN .filtSa k, id := s.cfgN .filtId k, mask := s.cfgN .filtMask k,
      saMask := s.cfgN .filtSaMask k }

def Filt.frameMatch (t : Filt) (f : CanFrame) : Bool :=
  t.action ≠ 0 && t.kind = 0 && ((f.id.toNat ^^^ t.id) &&& t.mask) = 0 && t.ide == f.ide
    && (t.fdf = 0 || (t.fdf = 1 && !f.fdf) || (t.fdf = 2 && f.fdf))

def Filt.msgMatch (t : Filt) (pgn sa : Nat) : Bool :=
  t.action ≠ 0 && t.kind = 1 && ((pgn ^^^ t.id) &&& t.mask) = 0 && ((sa ^^^ t.sa) &&& t.saMask) = 0

/-- A frame for a slot (R322): into its shadow buffer while a reader holds it. -/
def Mail.arrive (m : Mail) (now : Nat) (f : CanFrame) (sof : Nat) : Mail :=
  let m := m.settle now
  if now < m.heldTo then { m with shadow := some (f, sof), count := m.count + 1 }
  else { m with frame := some f, sof := sof, count := m.count + 1 }

/-- Put a frame into a mail slot (R322); one that overwrites a full shadow buffer counts SLOT_OVERRUN. -/
def State.toSlot (s : State) (b n : Nat) (f : CanFrame) (sof : Nat) : State :=
  let now := s.now
  let full := (s.mail b n).shadow.isSome
  let s := s.updBus b (fun x => { x with slots := x.slots.modify n (fun m => m.arrive now f sof) })
  if full then s.busCount b 1 else s

/-- Route one received frame by the filters (R319). -/
def State.route (s : State) (b : Nat) (f : CanFrame) (sof : Nat) : State :=
  match (List.range 128).find? (fun i => (s.filtOf b i sof).frameMatch f) with
  | some i =>
    let t := s.filtOf b i sof
    let s := if t.action = 2 || t.action = 3 then s.toSlot b t.slot f sof else s
    if t.action = 1 || t.action = 3 then s.canHost b f sof (some i) else s
  | none => if s.cfgN .nomatch b = 0 then s.canHost b f sof none else s

/-- The data of a correction message, for the CAN stream (R327). -/
def State.corrFrom (s : State) (b pgn sa : Nat) (data : List Byte) : State :=
  if s.cfgN .corrBus = b && 0 ≤ s.cfgI .corrPgn && s.cfgN .corrPgn = pgn
      && (s.cfgN .corrSa = 255 || s.cfgN .corrSa = sa) then s.corrFeed true data
  else s

/-- A whole message: the command address, the correction stream, the host (R324, R325, R327). -/
def State.msgComplete (s : State) (b : Nat) (r : RxSess) (data : List Byte) (sof : Nat) : State :=
  let s := s.corrFrom b r.pgn r.sa data
  let st := s.dev.st
  let s :=
    if r.pgn = 0xFED8 && data.length = 9 && s.cfgB .acceptCmdAddr b && ofLe (data.take 8) = s.isoName b
        && (st == .standby || st.operating) then s.startClaim b (data.getD 8 0).toNat
    else s
  match (List.range 128).find? (fun i => (s.filtOf b i sof).msgMatch r.pgn r.sa) with
  | some i =>
    if (s.filtOf b i sof).action = 1 then
      let conts := chunks (data.length / 32 + 1) data
      s.canRecord b [(0, 8, 2), (32, 18, r.pgn), (56, 8, r.sa), (64, 8, r.da), (72, 2, r.proto), (80, 7, i),
        (88, 24, data.length), (112, 16, conts.length), (128, 64, r.first), (192, 64, sof)] conts false
    else s
  | none => s.busCount b 4

/-! ### Receive sessions (R325) -/

/-- Reassembly memory in use. -/
def Bus.rxMem (x : Bus) : Nat := (x.rx.map (·.len)).sum

def Bus.rxRoom (x : Bus) (len : Nat) : Bool := len ≤ 65536 && x.rxMem + len ≤ 262144 && x.rx.length < 16

/-- Send CTS for the next packets of a session. -/
def State.sendCts (s : State) (b : Nat) (r : RxSess) : State :=
  let n := min (min (s.cfgN .ctsMax b) r.maxCts) (packets r.len - r.got)
  let sa := (s.busOf b).sa
  let s := s.updBus b (fun x => { x with rx := x.rx.map (fun u =>
    if u.id = r.id then { u with granted := n, deadline := s.now + 1250 * msTicks } else u) })
  if r.proto = 2 then s.placeCm b .other 7 etpCm r.sa sa ([21, n] ++ nbytes 3 (r.got + 1) ++ nbytes 3 r.pgn)
  else s.placeCm b .other 7 tpCm r.sa sa ([17, n, r.got + 1, 255, 255] ++ nbytes 3 r.pgn)

/-- Open a receive session. -/
def State.openRx (s : State) (b : Nat) (r : RxSess) : State :=
  let s := s.updBus b (fun x => { x with
    rx := x.rx.filter (fun u => !(u.sa = r.sa && u.da = r.da && (u.proto == 2) == (r.proto == 2))) })
  let x := s.busOf b
  if !x.rxRoom r.len then
    if r.proto = 0 then s.busCount b 3 else s.placeAbort b 7 r.proto r.pgn r.sa x.sa 2
  else
    let r := { r with id := x.nextId, deadline := s.now + 750 * msTicks }
    let s := s.updBus b (fun x => { x with rx := x.rx ++ [r], nextId := x.nextId + 1 })
    if r.proto = 0 then s else s.sendCts b r

/-- Close a receive session. -/
def State.closeRx (s : State) (b id : Nat) : State :=
  s.updBus b (fun x => { x with rx := x.rx.filter (fun u => u.id ≠ id) })

/-- A data packet for a session. -/
def State.takeDt (s : State) (b : Nat) (r : RxSess) (data : List Byte) (sof : Nat) : State :=
  let seq := (data.getD 0 0).toNat
  if seq ≠ (r.got - r.offset) + 1 || (r.proto ≠ 0 && r.granted = 0) then s
  else
    let r := { r with got := r.got + 1, granted := r.granted - 1, bytes := r.bytes ++ slice data 1 7,
                      deadline := s.now + 750 * msTicks }
    if packets r.len ≤ r.got then
      let sa := (s.busOf b).sa
      let s :=
        if r.proto = 1 then
          s.placeCm b .other 7 tpCm r.sa sa ([19] ++ nbytes 2 r.len ++ [packets r.len, 255] ++ nbytes 3 r.pgn)
        else if r.proto = 2 then s.placeCm b .other 7 etpCm r.sa sa ([23] ++ nbytes 4 r.len ++ nbytes 3 r.pgn)
        else s
      (s.closeRx b r.id).msgComplete b r (r.bytes.take r.len) sof
    else
      let s := s.updBus b (fun x => { x with rx := x.rx.map (fun u => if u.id = r.id then r else u) })
      if r.proto ≠ 0 && r.granted = 0 then s.sendCts b r else s

/-! ### Connection management, both ways (R325, R326) -/

/-- A CTS for a transmit session. -/
def State.takeCts (s : State) (b : Nat) (t : TxSess) (n next : Nat) : State :=
  let total := packets t.data.length
  if n = 0 then
    s.updBus b (fun x => { x with tx := x.tx.map (fun u =>
      if u.id = t.id then { u with deadline := s.now + 1050 * msTicks } else u) })
  else
    let g := min n (total + 1 - next)
    let s := s.updBus b (fun x => { x with tx := x.tx.map (fun u =>
      if u.id = t.id then { u with sent := next - 1, granted := g, offset := if t.proto = 2 then next - 1 else 0,
                                   deadline := s.now + 1250 * msTicks } else u) })
    let s :=
      if t.proto = 2 then
        s.placeCm b (.session t.id) t.prio etpCm t.da (s.busOf b).sa ([22, g] ++ nbytes 3 (next - 1) ++ nbytes 3 t.pgn)
      else s
    State.pumpTx 64 s b

/-- A connection management frame from `sa` to `da` (255 for global).  In FAULT the module answers address claims
only (R337). -/
def State.takeCm (s : State) (b : Nat) (etp : Bool) (sa da : Nat) (d : List Byte) (sof : Nat) : State :=
  let x := s.busOf b
  let c := (d.getD 0 0).toNat
  let pgn := leAt d 5 3 % 2 ^ 18
  let mine := x.addr = some da
  let proto := if etp then 2 else 1
  let tx := x.tx.find? (fun t => t.proto = proto && t.da = sa && t.pgn = pgn)
  let rx := x.rx.find? (fun r => r.proto = proto && r.sa = sa && r.pgn = pgn)
  if !etp && c = 32 && da = 255 then
    let len := leAt d 1 2
    if 9 ≤ len && len ≤ 1785 then
      s.openRx b { sa := sa, da := 255, pgn := pgn, proto := 0, len := len, first := sof }
    else s
  else if !mine || s.dev.st == .fault then s
  else if !etp && c = 16 then
    let len := leAt d 1 2
    if 9 ≤ len && len ≤ 1785 then
      s.openRx b { sa := sa, da := da, pgn := pgn, proto := 1, len := len, first := sof, maxCts := leAt d 4 1 }
    else s
  else if etp && c = 20 then
    let len := leAt d 1 4
    if 1786 ≤ len then s.openRx b { sa := sa, da := da, pgn := pgn, proto := 2, len := len, first := sof } else s
  else if (!etp && c = 17) || (etp && c = 21) then
    match tx with
    | some t =>
      let next := if etp then leAt d 2 3 else leAt d 2 1
      if leAt d 1 1 ≠ 0 && (next = 0 || packets t.data.length < next) then s else s.takeCts b t (leAt d 1 1) next
    | none => s
  else if etp && c = 22 then
    match rx with
    | some r => s.updBus b (fun x => { x with rx := x.rx.map (fun u =>
        if u.id = r.id then { u with offset := leAt d 2 3, deadline := s.now + 750 * msTicks } else u) })
    | none => s
  else if (!etp && c = 19) || (etp && c = 23) then
    match tx with
    | some t => if packets t.data.length ≤ t.sent then s.closeTx b t 0 0 else s
    | none => s
  else if c = 255 then
    match tx, rx with
    | some t, _ => s.closeTx b t 4 (leAt d 1 1)
    | none, some r => (s.closeRx b r.id).busCount b 5
    | none, none => s
  else s

/-- The ISO 11783 stack's share of a received frame (R319, R324, R325). -/
def State.isoFrame (s : State) (b : Nat) (f : CanFrame) (sof : Nat) : State :=
  let id := f.id.toNat
  let sa := id % 256
  let ps := id / 256 % 256
  let pf := id / 2 ^ 16 % 256
  let pgn := if pf < 240 then id / 2 ^ 16 % 4 * 2 ^ 16 + pf * 256 else id / 256 % 2 ^ 18
  let x := s.busOf b
  let forUs := ps = 255 || x.addr = some ps || (x.claim.map (·.1)) = some ps
  if !f.ide || f.rtr || f.fdf then s
  else
    let s := s.corrFrom b pgn sa f.data
    if !s.isoOn b then s
    else if pgn = 0xEE00 then s.seeClaim b sa (leAt f.data 0 8)
    else if pgn = 0xEA00 then
      if forUs && leAt f.data 0 3 = 0xEE00 && s.dev.st != .safe then s.answerClaim b else s
    else if pgn = tpCm then s.takeCm b false sa ps f.data sof
    else if pgn = etpCm then s.takeCm b true sa ps f.data sof
    else if pgn = tpDt then
      match x.rx.find? (fun r => r.proto ≠ 2 && r.sa = sa && r.da = ps) with
      | some r => s.takeDt b r f.data sof
      | none => s
    else if pgn = etpDt then
      match x.rx.find? (fun r => r.proto = 2 && r.sa = sa && r.da = ps) with
      | some r => s.takeDt b r f.data sof
      | none => s
    else s

/-! ### Time on the bus (R335, R336) -/

/-- The time field of a FOLLOW_UP, for FT in ns. -/
def ftField (ft : Int) : Nat :=
  let sec := ft / 1000000000
  (sec / 604800 % 64).toNat + (sec % 604800).toNat * 2 ^ 6 + (ft % 1000000000).toNat * 2 ^ 26

/-- A follower's share of a received frame (R336). -/
def State.timeFrame (s : State) (b : Nat) (f : CanFrame) (sof : Nat) : State :=
  if s.cfgN .timeRole b = 2 && s.cfgI .timeId b = f.id.toNat && f.ide && !f.rtr && !f.fdf && f.data.length = 8 then
    let b0 := leAt f.data 0 1
    let seq := b0 / 16
    let x := s.busOf b
    if b0 % 4 = 1 then
      s.updBus b (fun x => { x with syncSeen := some (seq, sof),
                                    unpaired := if x.syncSeen.isSome then satInc x.unpaired else x.unpaired })
    else if b0 % 4 = 2 then
      match x.syncSeen with
      | some (q, m) =>
        if q = seq then
          (s.canRecord b [(0, 8, 3), (32, 64, m), (96, 56, leAt f.data 1 7)] [] false).updBus b (fun x => { x with syncSeen := none })
        else s.updBus b (fun x => { x with unpaired := satInc x.unpaired })
      | none => s.updBus b (fun x => { x with unpaired := satInc x.unpaired })
    else s
  else s

/-- Place the FOLLOW_UP of a SYNC sent (R335); SAFE and FAULT have no such frame (R337). -/
def State.placeFollowUp (s : State) (b seq sof : Nat) : State :=
  if s.time.ftValid && (s.dev.st == .standby || s.dev.st.operating) then
    let ck := if s.nav.sx.clk.stepped then 3 else s.time.clock.code
    s.place b (.followUp seq) (extFrame (s.cfgN .timeId b)
      (leBytes 1 (2 + ck * 4 + seq * 16) ++ leBytes 7 (ftField (s.ftAt sof))))
  else s

/-! ### Whole buses -/

/-- An entry that has not started leaves the FIFO: DISCARDED where the host placed it (R337). -/
def State.entDiscarded (s : State) (b : Nat) (e : TxEnt) : State :=
  match e.kind with
  | .host idx _ => s.doneBehind b 1 ((idx, 2, e.attempts) :: e.after)
  | .msg idx _ _ _ _ _ _ => s.msgDone b idx 2 0 0
  | _ => s

/-- Everything queued and every open transmit session completes DISCARDED; a started head ends its
attempt first (R332, R337).  Receive and transmit sessions with a peer are aborted with reason 2 where
`abort`. -/
def State.canDiscard (s : State) (b : Nat) (abort : Bool) : State :=
  let (st, s) := s.instStarted b 0
  let x := s.busOf b
  let k := if st then 1 else 0
  let s := s.updBus b (fun x => { x with held := [], fifo := (x.fifo.take k).map (fun e =>
    { e with leave := if e.leave = 0 || e.leave = 3 then 2 else e.leave, going := true }) })
  let s := s.each (x.fifo.drop k) (fun s e => s.entDiscarded b e)
  let ends := fun (t : TxSess) => t.proto = 3 && (x.fifo.take k).any (fun e => e.kind == .session t.id)
  let s := s.each (x.tx.filter (fun t => !ends t)) (fun s t =>
    let s := if abort && (t.proto = 1 || t.proto = 2) then (s.placeAbort b t.prio t.proto t.pgn t.da x.sa 2).busCount b 6 else s
    if abort && (t.proto = 1 || t.proto = 2) then s.msgDone b t.idx 4 2 t.lastSof else s.msgDone b t.idx 2 0 t.lastSof)
  let s := s.each (x.rx.filter (fun r => abort && r.proto ≠ 0)) (fun s r =>
    (s.placeAbort b 7 r.proto r.pgn r.sa x.sa 2).busCount b 5)
  s.updBus b (fun x => { x with tx := x.tx.filter ends, rx := if abort then x.rx.filter (fun r => r.proto = 0) else [] })

/-- The address of a bus is given up on entry to SAFE (R337): the loss raises ADDR_LOST (R324). -/
def State.dropAddress (s : State) (b : Nat) : State :=
  let x := s.busOf b
  let s := s.updBus b (fun x => { x with addr := none, claim := none, cannot := false })
  if x.addr.isSome || x.claim.isSome then s.raise 0x8005 b [(128, 8, 254), (136, 1, 1)] false else s

/-- Entry to SAFE or FAULT (R337). -/
def State.canSafe (s : State) (fault : Bool) : State :=
  s.each (List.range 4) (fun s b =>
    let s := (s.canDiscard b true).updBus b (fun x => { x with held := [] })
    let s := if fault then s else s.dropAddress b
    State.takeTx ((s.busOf b).wait.length) s b)

/-- A periodic frame is not sent in STANDBY, unless a tune claims it (R318, R337). -/
def State.txfStops (s : State) (e : TxEnt) : Bool := match e.kind with | .txf n => !s.claimed (.frame n) | _ => false

/-- The waiting instances of the periodic frames that STANDBY does not send are dropped; a started one ends its attempt
(R318, R337). -/
def State.dropTxf (s : State) (b : Nat) : State :=
  let (st, s) := if ((s.busOf b).fifo.head?.map s.txfStops).getD false then s.instStarted b 0 else (false, s)
  let k := if st then 1 else 0
  let kept := fun (es : List TxEnt) =>
    (es.take k).map (fun e => { e with leave := 2, going := true }) ++ (es.drop k).filter (fun e => !s.txfStops e)
  (s.updBus b (fun x => { x with fifo := kept x.fifo })).refill b

/-- Periodic frames stop on every bus, in STANDBY (R318). -/
def State.stopTxf (s : State) : State := if s.dev.st == .standby then s.each (List.range 4) State.dropTxf else s

/-- A bus enters LISTEN (R332). -/
def State.enterListen (s : State) (b : Nat) : State :=
  let s := (s.canDiscard b false).updBus b (fun x => { x with listen := true, addr := none, claim := none, cannot := false })
  let s := s.claimDone b 254
  State.takeTx ((s.busOf b).wait.length) s b

/-- The nominal and data rate codes of R383. -/
def nomCode (k : Nat) : Nat := if k = 125 then 0 else if k = 250 then 1 else if k = 500 then 2 else 3
def dataCode (k : Nat) : Nat := if k = 2 then 0 else if k = 4 then 1 else 2

/-- The BUSES values of a fired or booted image take effect (R338, R339). -/
def State.canConfigure (s : State) (boot : Bool) : State :=
  s.each (List.range 4) (fun s b =>
    let l := decide (s.cfgN .busMode b = 1)
    let s := if l && !(s.busOf b).listen && !boot then s.enterListen b else s.updBus b (fun x => { x with listen := l })
    let s := s.updBus b (fun x => { x with
      nom := nomCode (s.cfgN .nomRate b), fdEn := s.cfgB .fdEn b,
      data := dataCode (s.cfgN .dataRate b), term := s.cfgB .term b, filters := [] })
    if boot || s.cfgB .isoEn b then s else s.noAddress b)

/-- The end of a firing starts a claim on each bus whose NAME or PREF_ADDR has changed, whose control function has
come to run, or whose address ISO_CLAIM had set (R339, R408); `was` is the state before. -/
def State.reclaim (s was : State) : State :=
  s.each ((List.range 4).filter (fun b => s.isoOn b && s.dev.st != .safe
      && (!was.isoOn b || (s.busOf b).forced.isSome || s.isoName b != was.isoName b
        || s.cfgN .prefAddr b != was.cfgN .prefAddr b))) (fun s b =>
    (s.updBus b (fun x => { x with forced := none })).startClaim b (s.cfgN .prefAddr b))

end Sys2Proof.Machine
end

