-- ==== Sys2Proof/Machine/Can.lean ====
section
/-! DEFINITION. The meanings of the CAN rows and commands (R309 to R339). -/

namespace Sys2Proof.Machine

/-- A stamp of a happening that has been, within its bound of R17 of the MT it reached the land at. -/
def State.stampBy (s : State) (t : Nat) : Nat := min t s.now

/-- The claim's 250 ms run from the SOF of its first attempt (R323). -/
def State.claimAttempt (s : State) (b : Nat) (e : TxEnt) (sof : Nat) : State :=
  if e.kind = .claim then
    s.updBus b (fun x => { x with claim := match x.claim with
      | some (a, none) => some (a, some (sof + 250 * msTicks))
      | c => c })
  else s

/-! ### Rate detection (R333) -/

def detNom : List Nat := [1, 2, 0, 3]
def detData : List Nat := [2, 1, 0]

/-- The RESULT of CAN_RATE_DETECT. -/
def Detect.res (d : Detect) : BitVec 128 := resultOf [(128, 4, d.nom.getD 15), (132, 4, d.data.getD 15)]

/-- End a detection, completing its command. -/
def State.endDetect (s : State) (b : Nat) (st : Status) : State :=
  match (s.busOf b).detect with
  | none => s
  | some d =>
    let s := s.updBus b (fun x => { x with detect := none })
    match s.waitingFor 0x84 (fun w => w.aux.headD 9 = b) with
    | some w => s.finish w (if st = .ok then okOr (w.aux.getD 1 0 = 1) else st) d.res
    | none => s

def State.rateFound (s : State) (b : Nat) (d : Detect) : State :=
  s.raise 0x8006 b [(128, 4, d.nom.getD 15), (132, 4, d.data.getD 15)] false

/-- A frame received without error during detection.  When the data rate is decided as NONE, no frame with BRS having
been seen since the nominal rate was adopted, is free (log 119). -/
def State.detGood (s : State) (b : Nat) (d : Detect) (f : CanFrame) : State :=
  match d.nom with
  | none =>
    if d.good + 1 < 2 then s.updBus b (fun x => { x with detect := some { d with good := d.good + 1 } })
    else
      let n := detNom.getD d.cand 1
      let d := { d with nom := some n }
      let s := (s.updBus b (fun x => { x with detect := some d, nom := n })).rateFound b d
      if (s.busOf b).fdEn then s else s.endDetect b .ok
  | some _ =>
    if !f.brs then
      if d.brs then s
      else
        let (n, s) := s.takeFree
        if Config.freeBool n then s.endDetect b .ok else s
    else
    let d := { d with brs := true }
    if d.dgood + 1 < 2 then s.updBus b (fun x => { x with detect := some { d with dgood := d.dgood + 1 } })
    else
      let n := detData.getD d.dcand 0
      let d := { d with data := some n }
      ((s.updBus b (fun x => { x with detect := some d, data := n })).rateFound b d).endDetect b .ok

/-- An error during detection drops the candidate. -/
def Detect.bad (d : Detect) : Detect :=
  match d.nom with
  | none => { d with cand := (d.cand + 1) % 4, good := 0 }
  | some _ => { d with dcand := (d.dcand + 1) % 3, dgood := 0 }

/-! ### Receiving -/

/-- CAN_FRAME_RECEIVED (R319 to R336): a whole good frame, with its SOF stamp, which is not after now (R17). -/
def execCanFrameReceived (dt bus sof : Nat) (f : CanFrame) (s : State) : Out :=
  let s := s.advance dt
  let sof := s.stampBy sof
  let x := s.busOf bus
  .next (if !(bus < 4) || !s.canLive || x.off || x.integrating || (f.fdf && !x.fdEn) then s
    else
      let s :=
        if x.listen then s
        else s.errUpd bus (fun x => { x with rec_ := if 127 < x.rec_ then 120 else x.rec_ - 1 })
      match x.detect with
      | some d =>
        let s := s.detGood bus d f
        if d.nom.isSome then ((s.route bus f sof).isoFrame bus f sof).timeFrame bus f sof else s
      | none => ((s.route bus f sof).isoFrame bus f sof).timeFrame bus f sof)

/-- CAN_RX_ERROR (R328). -/
def execCanRxError (dt bus : Nat) (by8 : Bool) (s : State) : Out :=
  let s := s.advance dt
  let x := s.busOf bus
  .next (if !(bus < 4) || !s.canLive || x.off || x.integrating then s
    else match x.detect with
      | some d => s.updBus bus (fun x => { x with detect := some d.bad })
      | none =>
        if x.listen then s
        else s.errUpd bus (fun x => { x with rec_ := x.rec_ + (if by8 then 8 else 1) }))

/-! ### Transmitting -/

/-- A session frame has been sent (R326). -/
def State.sessionSent (s : State) (b id sof : Nat) : State :=
  let s := s.updBus b (fun x => { x with tx := x.tx.map (fun t =>
    if t.id = id then { t with lastSof := sof, deadline := s.now + 1250 * msTicks } else t) })
  let x := s.busOf b
  match x.tx.find? (fun t => t.id = id) with
  | none => s
  | some t =>
    if t.proto = 3 || (t.proto = 0 && packets t.data.length ≤ t.sent && !x.fifo.any (fun e => e.kind == .session id)) then
      s.closeTx b t 0 0
    else s

/-- CAN_TX_SUCCESS (R314, R316): the head frame has been sent and acknowledged. -/
def execCanTxSuccess (dt bus sof : Nat) (s : State) : Out :=
  let s := s.advance dt
  let sof := s.stampBy sof
  .next (match s.contender bus with
    | none => s
    | some e =>
      if !(bus < 4) then s
      else
        let alone := (s.busOf bus).alone
        let s := (s.popHead bus).claimAttempt bus e sof
        let s := s.errUpd bus (fun x => { x with tec := if x.listen then x.tec else x.tec - 1, acks := 0, alone := false })
        let s := if alone then s.raise 0x8004 bus [] false else s
        let s := match e.kind with
          | .host idx _ => (s.frameDone bus idx 0 e.attempts (some sof)).doneBehind bus 0 e.after
          | .sync q => s.placeFollowUp bus q sof
          | .session id => s.sessionSent bus id sof
          | _ => s
        s.refill bus)

/-- CAN_ARBITRATION_LOST (R314). -/
def execCanArbitrationLost (dt bus sof : Nat) (s : State) : Out :=
  let s := s.advance dt
  let sof := s.stampBy sof
  .next (match s.contender bus with
    | some e => if bus < 4 then (s.claimAttempt bus e sof).attemptFailed bus else s
    | none => s)

/-- What an error of a transmission does to the counters (R328, R329). -/
def Bus.txErr (x : Bus) : TxErr → Bus
  | .excepted => { x with acks := 0 }
  | .flagged => { x with tec := x.tec + 8, acks := 0 }
  | .noAck dom =>
    { x with tec := if x.errState = 2 && !dom then x.tec else x.tec + 8, acks := x.acks + 1,
             alone := x.alone || decide (16 ≤ x.acks + 1) }
  | .dominant => { x with tec := x.tec + 8 }

/-- Bus-off when TEC exceeds 255 (R328). -/
def Bus.bound (x : Bus) : Bus := { x with off := decide (255 < x.tec) }

/-- CAN_TX_ERROR (R328 to R330). -/
def execCanTxError (dt bus sof : Nat) (e : TxErr) (s : State) : Out :=
  let s := s.advance dt
  let sof := s.stampBy sof
  .next (match (if e == .dominant then (if s.canLive && !(s.busOf bus).off then some ({} : TxEnt) else none)
      else s.contender bus) with
    | none => s
    | some h =>
      if !(bus < 4) then s
      else
        let o := s.busOf bus
        let s := if e == .dominant then s else (s.claimAttempt bus h sof).attemptFailed bus
        let s := if o.listen then s else s.errUpd bus (fun x => (x.txErr e).bound)
        if !o.alone && (s.busOf bus).alone then s.raise 0x8004 bus [(128, 1, 1)] false else s)

/-- BUS_FAULT (R310). -/
def execBusFault (dt bus : Nat) (s : State) : Out :=
  let s := s.advance dt
  .next (if bus < 4 && s.canLive && !(s.busOf bus).fault then
      (s.updBus bus (fun x => { x with fault := true })).raise 0x8003 bus [(128, 8, 0)] false
    else s)

/-- BUS_STUCK (R310). -/
def execBusStuck (dt bus : Nat) (s : State) : Out :=
  let s := s.advance dt
  .next (if bus < 4 && s.canLive && !(s.busOf bus).stuck then
      (s.updBus bus (fun x => { x with stuck := true })).raise 0x8003 bus [(128, 8, 1)] false
    else s)

/-- BUS_LINE_CLEAR (R310): 11 recessive bits. -/
def execBusLineClear (dt bus : Nat) (s : State) : Out :=
  let s := s.advance dt
  .next (if bus < 4 && ((s.busOf bus).fault || (s.busOf bus).stuck) then
      (s.updBus bus (fun x => { x with fault := false, stuck := false })).raise 0x8003 bus [(128, 8, 2)] false
    else s)

/-- BUS_INTEGRATION (R339): 11 recessive bits, once a started attempt has ended. -/
def execBusIntegration (dt bus : Nat) (s : State) : Out :=
  let s := s.advance dt
  .next (if ((s.busOf bus).fifo.headD {}).going then s else s.updBus bus (fun x => { x with integrating := false }))

/-! ### Periodic and time frames -/

/-- Data of a periodic frame: TXF_DATA over TXF_LEN bytes, and the fields its loops write (R318). -/
def State.txfLoops (s : State) (f : Nat) : State :=
  s.each ((List.range 32).filter (fun n => s.loopOn n && s.sink n == .can f)) (fun s n => s.loopField n (s.loop n).uOut)

/-- Add an instance of a module frame, or renew its waiting instance (R318). -/
def State.mergeIn (s : State) (b : Nat) (isIt : TxKind → Bool) (k : TxKind) (f : CanFrame) : State :=
  match (s.busOf b).fifo.findIdx? (fun e => isIt e.kind && e.leave = 0) with
  | some i =>
    let (st, s) := s.instStarted b i
    if !st then
      (s.updBus b (fun x => { x with fifo := x.fifo.modify i (fun e => { e with kind := k, frame := f }) })).busCount b 0
    else match ((s.busOf b).fifo.drop 1).findIdx? (fun e => isIt e.kind) with
      | some j =>
        (s.updBus b (fun x => { x with fifo := x.fifo.modify (j + 1) (fun e => { e with kind := k, frame := f }) })).busCount b 0
      | none => s.place b k f
  | none => s.place b k f

/-- PERIODIC_FRAME (R318); none is placed while a firing runs (R406). -/
def execPeriodicFrame (dt n : Nat) (s : State) : Out :=
  let s := s.advance dt
  let b := s.cfgN .txfBus n
  let due := n < 32 && 0 ≤ s.cfgI .txfBus n && 0 ≤ s.cfgI .txfId n && s.canLive
    && s.now % (s.cfgN .txfPeriod n * msTicks) = 0
  let st := s.dev.st.operating || (s.dev.st == .standby && s.claimed (.frame n))
  let x := s.busOf b
  let auto := s.cfgB .txfSaAuto n
  .next (if !due || !st || s.cfg.firing.isSome || x.listen || (auto && x.addr.isNone) then s
    else
      let len := s.cfgN .txfLen n
      let id := s.cfgN .txfId n
      let f : CanFrame :=
        { id := BitVec.ofNat 29 (if auto then id / 256 * 256 + x.sa else id), ide := s.cfgB .txfIde n,
          data := slice (s.cfg.vals.blob .txfData n) 0 len }
      (s.mergeIn b (fun k => k == .txf n) (.txf n) f).txfLoops n)

def TxKind.isSync : TxKind → Bool
  | .sync _ => true
  | _ => false

/-- SYNC_FRAME (R335). -/
def execSyncFrame (dt bus : Nat) (s : State) : Out :=
  let s := s.advance dt
  let due := bus < 4 && s.cfgN .timeRole bus = 1 && 0 ≤ s.cfgI .timeId bus && s.canLive
    && s.now % (s.cfgN .timePeriod bus * msTicks) = 0 && s.time.ftValid
  let st := s.dev.st == .standby || s.dev.st.operating
  .next (if !due || !st || (s.busOf bus).listen then s
    else
      let q := (s.busOf bus).timeSeq
      let f := extFrame (s.cfgN .timeId bus) (leBytes 8 (1 + q * 16))
      (s.mergeIn bus TxKind.isSync (.sync q) f).updBus bus (fun x => { x with timeSeq := (q + 1) % 16 }))

/-! ### ISO 11783 -/

/-- ADDRESS_CLAIM_COMPLETE (R323, R324). -/
def execAddressClaimComplete (dt bus : Nat) (s : State) : Out :=
  let s := s.advance dt
  .next (match (s.busOf bus).claim with
    | some (a, some m) =>
      if bus < 4 && m ≤ s.now then
        let s := s.claimHeld bus a
        (s.raise 0x8005 bus [(128, 8, a)] false).claimDone bus a |>.refill bus
      else s
    | _ => s)

/-- TX_SESSION_OPEN (R326): a message descriptor at the head; `data` is its buffer as read by DMA, none
where the read ends in error. -/
def execTxSessionOpen (dt bus : Nat) (data : Option (List Byte)) (s : State) : Out :=
  let s := s.advance dt
  let x := s.busOf bus
  .next (match x.fifo with
    | e :: _ =>
      (match e.kind with
      | .msg idx tag pgn prio da len addr =>
        if !(bus < 4) || !s.canLive || !x.sends || 8 ≤ x.tx.length then s
        else match x.addr with
          | none => ((s.popHead bus).msgDone bus idx 5 0 0).refill bus
          | some sa =>
            if !s.dmaOk then s
            else match data with
              | none =>
                let (n, s) := (s.emit (.bufferRead addr)).takeFree
                ((s.popHead bus).msgDone bus idx (Config.freeNat n % 5 + 1) 0 0).refill bus
              | some bs =>
                let s := s.emit (.bufferRead addr)
                let bs := slice bs 0 len
                let id := x.nextId
                let proto := if len ≤ 8 then 3 else if len ≤ 1785 then (if da = 255 then 0 else 1) else 2
                let t : TxSess :=
                  { id := id, idx := idx, tag := tag, pgn := pgn, prio := prio, da := da, proto := proto, data := bs,
                    deadline := s.now + 1250 * msTicks, nextAt := s.now + s.cfgN .bamGap bus * msTicks }
                let s := (s.popHead bus).updBus bus (fun x => { x with tx := x.tx ++ [t], nextId := id + 1 })
                let cm := nbytes 3 pgn
                let s :=
                  if proto = 3 then s.place bus (.session id) (extFrame (isoId prio pgn da sa) bs)
                  else if proto = 0 then s.placeCm bus (.session id) prio tpCm 255 sa ([32] ++ nbytes 2 len ++ [packets len, 255] ++ cm)
                  else if proto = 1 then s.placeCm bus (.session id) prio tpCm da sa ([16] ++ nbytes 2 len ++ [packets len, 255] ++ cm)
                  else s.placeCm bus (.session id) prio etpCm da sa ([20] ++ nbytes 4 len ++ cm)
                s.refill bus
      | _ => s)
    | [] => s)

/-- BAM_PACKET (R326). -/
def execBamPacket (dt bus sess : Nat) (s : State) : Out :=
  let s := s.advance dt
  let x := s.busOf bus
  .next (match x.tx.find? (fun t => t.id = sess) with
    | some t =>
      if bus < 4 && t.proto = 0 && t.nextAt ≤ s.now && t.sent < packets t.data.length && x.fifo.length < 64 && x.claim.isNone then
        (s.placeDt bus t).updBus bus (fun x => { x with tx := x.tx.map (fun u =>
          if u.id = sess then { u with nextAt := s.now + s.cfgN .bamGap bus * msTicks, granted := 0 } else u) })
      else s
    | none => s)

/-- TP_SESSION_TIMEOUT (R325, R330). -/
def execTpSessionTimeout (dt bus : Nat) (tx : Bool) (sess : Nat) (s : State) : Out :=
  let s := s.advance dt
  let x := s.busOf bus
  .next (if !(bus < 4) || !s.canLive then s
    else if tx then
      match x.tx.find? (fun t => t.id = sess && (t.proto = 1 || t.proto = 2) && t.deadline ≤ s.now) with
      | some t =>
        let s := s.closeTx bus t 4 3
        (if x.off then s else s.placeAbort bus t.prio t.proto t.pgn t.da x.sa 3).refill bus
      | none => s
    else match x.rx.find? (fun r => r.id = sess && r.deadline ≤ s.now) with
      | some r =>
        let s := (s.closeRx bus r.id).busCount bus 5
        if r.proto = 0 then s else s.placeAbort bus 7 r.proto r.pgn r.sa x.sa 3
      | none => s)

/-! ### Bus-off and detection ends -/

/-- BUS_RECOVERED (R331): 128 runs of 11 recessive bits. -/
def execBusRecovered (dt bus : Nat) (s : State) : Out :=
  let s := s.advance dt
  let x := s.busOf bus
  .next (if bus < 4 && x.off && x.recov.isSome then
      let s := s.errUpd bus (fun x => { x with off := false, recov := none, tec := 0, rec_ := 0, acks := 0 })
      let s := s.raise 0x8002 bus [] false
      s.each (s.host.outstanding.filter (fun w => w.op.toNat = 0x82 && w.aux.headD 9 = bus)) (fun s w => s.finish w .ok 0)
    else s)

/-- BUS_RECOVERY_TIMEOUT (R331). -/
def execBusRecoveryTimeout (dt bus : Nat) (s : State) : Out :=
  let s := s.advance dt
  .next (match s.waitingFor 0x82 (fun w => w.aux.headD 9 = bus && w.aux.getD 1 0 + 1000 * msTicks ≤ s.now) with
    | some w => s.finish w .timeout 0
    | none => s)

/-- RATE_DETECT_TIMEOUT (R333). -/
def execRateDetectTimeout (dt bus : Nat) (s : State) : Out :=
  let s := s.advance dt
  .next (match (s.busOf bus).detect with
    | some d => if bus < 4 && d.deadline ≤ s.now then s.endDetect bus .timeout else s
    | none => s)

/-! ### Commands -/

/-- Cancel an open session (R326). -/
def State.cancelSession (s : State) (b : Nat) (t : TxSess) (started : Bool) : State :=
  let x := s.busOf b
  let s := s.closeTxAt b t 1 0 started
  let s := if t.proto = 1 || t.proto = 2 then (s.placeAbort b t.prio t.proto t.pgn t.da x.sa 2).busCount b 6 else s
  s.refill b

def TxEnt.tag? (e : TxEnt) : Option (BitVec 16) :=
  match e.kind with
  | .host _ t => some t
  | .msg _ t _ _ _ _ _ => some t
  | _ => none

/-- The filter entries of a CAN_FILTER_SET buffer (R383). -/
def filterEntry (e : List Byte) : Nat × Filt :=
  let b1 := leAt e 1 1
  (leAt e 0 1, { kind := b1 % 2, ide := b1 / 2 % 2 = 1, fdf := b1 / 4 % 4, action := b1 / 16 % 8, slot := leAt e 2 1,
                 sa := leAt e 3 1, id := leAt e 4 4, mask := leAt e 8 4, saMask := leAt e 12 1 })

/-- Replace the filters named, for frames whose SOF follows now (R339); content that names no filter,
slot or action is refused. -/
def State.filterSet (s : State) (b n : Nat) (data : List Byte) : Option State :=
  let es := (List.range n).map (fun k => filterEntry (slice data (16 * k) 16))
  if es.any (fun e => 128 ≤ e.1 || 4 < e.2.action || 2 < e.2.fdf || ((e.2.action = 2 || e.2.action = 3) && 63 < e.2.slot)) then none
  else some (s.each es (fun s e =>
    s.updBus b (fun x =>
      let old := (x.filters.filter (fun p => p.2.1 = e.1 && p.1 < s.now)).take 1
      { x with filters := (s.now, e.1, e.2) :: (old ++ x.filters.filter (fun p => p.2.1 ≠ e.1)) })))

end Sys2Proof.Machine
end

