-- ==== Sys2Proof/Machine/Detect.lean ====
section
/-! DEFINITION. The three arrival detectors of R195, over the samples or chop periods since a window opened:
each answers the MT of its feature and the MT at which it is confirmed. -/

namespace Sys2Proof.Machine

/-- Samples with their MTs, one every 250 ticks (R219). -/
def samplesAt (first : Nat) : List Nat → List (Nat × Nat)
  | [] => []
  | x :: r => (first, x) :: samplesAt (first + 250) r

/-- The current slope S over the last `win` samples, where they follow each other, with the MT of each last
sample. -/
def slopes (win : Nat) (xs : List (Nat × Nat)) : List (Nat × Int) :=
  ((xs.zip (xs.drop (win - 1))).filter (fun p => p.2.1 = p.1.1 + 250 * (win - 1))).map
    (fun p => (p.2.1, (p.2.2 : Int) - (p.1.2 : Int)))

/-- RISE along the slopes: `top` the largest S so far, `low` the smallest since, `at_` its MT. -/
def riseScan (win kink : Nat) (top low : Int) (at_ : Nat) : List (Nat × Int) → Option (Nat × Nat)
  | [] => none
  | (t, x) :: r =>
    if x < low then riseScan win kink top x t r
    else if 100 * low < kink * top && 2 * low ≤ x && t ≤ at_ + 500 * win then some (at_, t)
    else if top ≤ x then riseScan win kink x x t r
    else riseScan win kink top low at_ r

/-- RISE: the slope has its minimum below DET_KINK of the largest, and recovers to twice it within 2 x DET_WIN
samples. -/
def detRise (win kink : Nat) (xs : List (Nat × Nat)) : Option (Nat × Nat) :=
  match slopes win xs with
  | [] => none
  | (t, x) :: r => riseScan win kink x x t r

/-- CHOP along the periods: `first` the first on-time, `top` the largest so far. -/
def chopScan (pct first top : Nat) : List (Nat × Nat) → Option (Nat × Nat)
  | [] => none
  | (t, x) :: r =>
    if (100 + pct) * first < 100 * top && 100 * x < (100 - pct) * top then some (t, t + x)
    else chopScan pct first (max top x) r

/-- The periods are such as the regulator makes: on for at least 2 us, none shorter than 10 us (R218). -/
def chopsOk : List (Nat × Nat) → Bool
  | a :: b :: r => 500 ≤ a.2 && a.1 + 2500 ≤ b.1 && a.1 + a.2 ≤ b.1 && chopsOk (b :: r)
  | [a] => 500 ≤ a.2
  | [] => true

/-- CHOP: the first period whose on-time is below (1 - DET_CHOP) of the largest, once one has exceeded
(1 + DET_CHOP) of the first. -/
def detChop (pct : Nat) (xs : List (Nat × Nat)) : Option (Nat × Nat) :=
  match xs with
  | [] => none
  | (_, x) :: r => if chopsOk xs then chopScan pct x x r else none

/-- BUMP along the samples: `low` the running minimum, `top` the largest current since, `at_` its MT. -/
def bumpScan (win bump least low top at_ : Nat) : List (Nat × Nat) → Option (Nat × Nat)
  | [] => none
  | (t, x) :: r =>
    if low + bump ≤ top && least ≤ top && 2 * x + bump ≤ 2 * top && t ≤ at_ + 500 * win then some (at_, t)
    else if x < low then bumpScan win bump least x x t r
    else if top < x then bumpScan win bump least low x t r
    else bumpScan win bump least low top at_ r

/-- BUMP: a maximum DET_BUMP above the running minimum and of at least DET_MIN_I, after which the current falls
by half of DET_BUMP within 2 x DET_WIN samples. -/
def detBump (win bump least : Nat) (xs : List (Nat × Nat)) : Option (Nat × Nat) :=
  match xs with
  | [] => none
  | (t, x) :: r => bumpScan win bump least x x t r

end Sys2Proof.Machine
end

