-- ==== Sys2Proof/Machine/Valves.lean ====
section
/-! DEFINITION. The meanings of the valve drive's rows: edges, arrivals, decays, diagnostics,
boosts, and the valve commands (R182 to R212, R16 to R24). -/

namespace Sys2Proof.Machine

/-- Island numbers of the replica list: HOSTI, CORE, NAVI, WHEEL, DRV0 to DRV11, LOADI, LOOPI, BUSI,
FIELDI, SAGA, SAGB. -/
def islandIdx : Island → Nat
  | .hosti => 0 | .core => 1 | .navi => 2 | .wheel => 3 | .drv g => 4 + g | .loadi => 16
  | .loopi => 17 | .busi => 18 | .fieldi => 19 | .saga => 20 | .sagb => 21

/-- The MT that a drive island's replica shows (R14). -/
def State.drvMt (s : State) (g : Nat) : Nat := ((s.now : Int) + s.time.replicas.getD (4 + g) 0).toNat

/-- The first edge of a channel in a list. -/
def firstEdge (es : List Edge) (ch : Nat) : Option Edge :=
  es.foldl (fun o e => if e.ch ≠ ch then o else match o with
    | none => some e
    | some a => if e.due < a.due || (e.due = a.due && a.on && !e.on) then some e else o) none

/-- One edge crosses to its drive island, at most 32 of them held there; a latched channel's is discarded
and counted (R22, R209). -/
def State.cross (s : State) (e : Edge) : State :=
  let g := grpOf e.ch
  if (s.chan e.ch).latched then
    ((s.updPlanner (fun p => { p with wheel := p.wheel.erase e })).updChan e.ch
      (fun c => { c with dropped := satInc c.dropped })).sweepAfter e
  else if 32 ≤ (s.group g).handed.length then s
  else
    (s.updPlanner (fun p => { p with wheel := p.wheel.erase e })).updGroup g
      (fun x => { x with handed := x.handed ++ [e] })

/-- EDGE_HANDOVER (R22, R23): the channel's first edge, and before it those of its group that are due earlier
and have not crossed yet. -/
def State.handover (s : State) (ch : Nat) : State :=
  match firstEdge s.planner.wheel ch with
  | none => s
  | some e =>
    if s.now + 4096 < e.due then s
    else
      let before := s.planner.wheel.filter (fun x => grpOf x.ch = grpOf ch && decide (x.due < e.due))
      (s.each (before.mergeSort (fun a b => decide (a.due ≤ b.due))) State.cross).cross e

def execEdgeHandover (dt ch : Nat) (s : State) : Out := .next ((s.advance dt).handover ch)

/-- Record lateness of a released edge: the ticks between its due MT and its release, and those of R155
(R23). -/
def State.lateEdge (s : State) (e : Edge) (t : Nat) : State :=
  if e.due < t ∨ 0 < e.late then
    (s.count 16).updChan e.ch (fun c => { c.bump 11 with lateBy := some (e.due, t - e.due + e.late) })
  else s

/-- EDGE_RELEASE (R16, R23, R24). -/
def State.releaseEdge (s : State) (ch : Nat) : State :=
  let g := grpOf ch
  let t := s.drvMt g
  match firstEdge (s.group g).handed ch with
  | none => s
  | some e =>
    if t < e.due then s
    else
      let same := (s.group g).handed.filter (fun x => x.ch = ch && x.due = e.due && x.on && !e.on)
      let s := s.updGroup g (fun x =>
        { x with handed := (x.handed.erase e).filter (fun y => !same.contains y) })
      let s := s.count 13 same.length
      let told : List Report := same.map (fun x => { ch := ch, onMt := x.due, cancelled := true })
      let s := { s with valves := { s.valves with reports := s.valves.reports ++ told } }
      let s := (s.lateEdge e t).updGroup g (fun x => { x with stirred := some s.now })
      if e.on then s.onRelease ch s.now else (s.offRelease ch s.now).sweepAfter e

def execEdgeRelease (dt ch : Nat) (s : State) : Out := .next ((s.advance dt).releaseEdge ch)

/-- BOOST_GRANT (R201): the claim is free and goes to the longest-waiting request, the reservoir read at that
instant; without a boost that request is refused (R189). -/
def State.passClaim (s : State) (g resMv : Nat) : State :=
  let x := s.group g
  match x.holder, x.queue with
  | none, (ch, _) :: _ =>
    if (s.quad (quadOf ch)).noBoost then s.refuseClaim ch s.now
    else (s.readRes (quadOf ch) resMv).grantClaim ch s.now
  | _, _ => s

def execBoostGrant (dt group resMv : Nat) (s : State) : Out := .next ((s.advance dt).passClaim group resMv)

/-- BOOST_REFUSAL (R202): a request has waited DEFER_MAX with the claim still held. -/
def State.refuseWaiting (s : State) (ch : Nat) : State :=
  let x := s.ctx ch
  match x.st, x.claimAt with
  | .claim, some b =>
    if b + s.cfgN .deferMax (grpOf ch) * usTicks ≤ s.now && (s.group (grpOf ch)).holder.isSome
    then s.refuseClaim ch s.now else s
  | _, _ => s

def execBoostRefusal (dt ch : Nat) (s : State) : Out := .next ((s.advance dt).refuseWaiting ch)

/-- No feature was confirmed after the OFF release: MISS where the window's timeout passed before the release,
CUT where the release ended it (R196, R221). -/
def State.unconfirmed (s : State) (ch : Nat) (timeout : Option Nat) : State :=
  let off := (s.ctx ch).offMt.getD s.now
  match timeout with
  | some m => if m ≤ off then s.decideOpen ch .miss m else s.decideOpen ch .cut off
  | none => s.decideOpen ch .cut off

/-- ARRIVAL_WINDOW_TIMEOUT (R221). -/
def State.windowTimeout (s : State) (ch : Nat) (closing : Bool) : State :=
  let x := s.ctx ch
  if closing then
    match x.closeWin with
    | some { timeout := some m, .. } => if m ≤ s.now then s.decideClose ch .miss m else s
    | _ => s
  else
    match x.openWin with
    | some w =>
      if x.confirm then if x.confirmTo ≤ s.now then s.unconfirmed ch w.timeout else s
      else match w.timeout with
        | some m =>
          if s.now < m then s
          else if x.st == .hold then s.decideOpen ch .miss m
          else s.updCtx ch (fun c => { c with openWin := none })
        | none => s
    | none => s

def execArrivalWindowTimeout (dt ch : Nat) (closing : Bool) (s : State) : Out :=
  .next ((s.advance dt).windowTimeout ch closing)

/-- The feature that a window's detector finds in what the drive island observed, and the MT it is confirmed at
(R195, R221): RISE looks at the samples taken while the switch conducts without chopping, the regulator followed from
the start of the conduction where they reach back to it, and from the chop phase at the ARM where not. -/
def State.feature (s : State) (ch : Nat) (w : Window) (obs : DetObs) : Option (Nat × Nat) :=
  let x := s.ctx ch
  let win := s.cfgN .detWin ch
  let xs := (samplesAt obs.first obs.ma).filter (fun p => decide (w.opened ≤ p.1))
  match w.det with
  | .rise =>
    let whole := x.regs.all (fun r => !r.on || decide (obs.first ≤ r.at_))
    let ys := if whole then (regulate x.regs {} (samplesAt obs.first obs.ma)).2 else (regulate x.regs w.chop xs).2
    detRise win (s.cfgN .detKink ch) (ys.filter (fun p => decide (w.opened ≤ p.1)))
  | .chop => detChop (s.cfgN .detChop ch) (obs.chops.filter (fun p => decide (w.opened ≤ p.1)))
  | .bump => detBump win (s.cfgN .detBump ch) (s.cfgN .detMinI ch) xs

/-- A feature counts that lies before the window's timeout and `lim`, and has been confirmed by now (R196). -/
def State.counts (s : State) (w : Window) (lim : Nat) (f : Nat × Nat) : Bool :=
  decide (f.1 ≤ lim) && decide (f.2 ≤ s.now) && (match w.timeout with | some m => decide (f.1 ≤ m) | none => true)

/-- ARRIVAL_DETECTED (R195 to R200): a detector confirms a feature in the current. -/
def State.arrival (s : State) (ch : Nat) (closing : Bool) (obs : DetObs) : State :=
  let s := s.watch ch (samplesAt obs.first obs.ma)
  let x := s.ctx ch
  match if closing then x.closeWin else x.openWin with
  | none => s
  | some w =>
    let lim := if !closing && x.confirm then x.offMt.getD s.now else s.now
    match s.feature ch w obs with
    | none => s
    | some f =>
      if s.counts w lim f then
        if closing then s.decideClose ch .detected f.1 else s.decideOpen ch .detected f.1
      else s

def execArrivalDetected (dt ch : Nat) (closing : Bool) (obs : DetObs) (s : State) : Out :=
  let s := s.advance dt
  .next (if s.islands then s.arrival ch closing obs else s)

/-- DECAY_END (R194, R229): the current reads below 10 mA on two samples; `resMv` is the reservoir then and
`clampMj` the energy that the clamp took, counted where the decay went on in FAST-CLAMP at V_LIM. -/
def State.decayOver (s : State) (ch resMv clampMj : Nat) : State :=
  let s := s.readRes (quadOf ch) resMv
  let s := if (s.ctx ch).turned then
      s.updQuad (quadOf ch) (fun q => { q with clampMj := q.clampMj + wn clampMj })
    else s
  s.decayEnds ch

def execDecayEnd (dt ch resMv clampMj : Nat) (s : State) : Out :=
  let s := s.advance dt
  .next (if (s.ctx ch).decaying then s.decayOver ch resMv clampMj else s)

/-- MIN_OFF_ELAPSED (R228): a DEFERRED ON starts its profile. -/
def execMinOffElapsed (dt ch : Nat) (s : State) : Out :=
  let s := s.advance dt
  .next (if s.deferredReady ch then s.startProfile ch s.now else s)

/-- The MARK telemetry record (R394). -/
def Mark.desc (m : Mark) : Desc :=
  descOf [(0, 8, 0x21), (32, 7, m.ch), (40, 4, m.code), (44, 1, b2n m.evt), (48, 16, m.value), (64, 64, m.mt)]

/-- MARK_BUFFER_DRAIN (R222). -/
def execMarkBufferDrain (dt group : Nat) (s : State) : Out :=
  let s := s.advance dt
  let ms := (s.group group).marks
  let s := s.updGroup group (fun g => { g with marks := [] })
  .next (s.each ms (fun s m => s.telemeter 2 0x21 [m.desc]))

/-! ### Diagnostics -/

/-- The reaction to an off-state test's result (R205, R208): 1 OPEN_LOAD, 2 SHORT_GND,
3 SHORT_SUPPLY. -/
def State.offFinding (s : State) (ch code : Nat) : State :=
  if code = 1 then (s.noteClass 7 2).channelFault ch 4
  else if code = 2 then (s.noteClass 7 2).groupFault (grpOf ch) 3
  else if code = 3 then (s.noteClass 7 2).groupFault (grpOf ch) 2
  else s

/-- An off-state test of the channel has run by now (R205): the channel OFF for long enough, the other channels
of the group OFF, the rail on NONE, and no release or rail change in the group in the 200 us of the test
(log 126). -/
def State.testable (s : State) (ch : Nat) : Bool :=
  let c := s.chan ch
  let g := grpOf ch
  (c.ctx.st == .idle || c.ctx.st == .latched) && !c.ctx.decaying
    && (match c.idleAt with | some m => m + s.minOff ch + msTicks ≤ s.now | none => true)
    && (s.group g).rail = 0 && (List.range 8).all (fun j => !(s.ctx (8 * g + j)).isOn)
    && (match (s.group g).stirred with | some m => m + 200 * usTicks ≤ s.now | none => true)

/-- One off-state test has run. -/
def State.tested (s : State) (ch code : Nat) : State :=
  (s.updChan ch (fun c => { c with testedAt := some s.now, starved := false })).offFinding ch code

/-- OFF_STATE_TEST (R205). -/
def State.offTest (s : State) (ch finding : Nat) : State :=
  let due := match (s.chan ch).testedAt with
    | some m => m + s.cfgN .diagPeriod (grpOf ch) * msTicks ≤ s.now
    | none => true
  if s.inUse ch && s.cfgB .vcDiagOff ch && s.testable ch && due && !s.outputsHeld && s.islands then s.tested ch finding
  else s

def execOffStateTest (dt ch finding : Nat) (s : State) : Out := .next ((s.advance dt).offTest ch finding)

/-- DIAG_STARVATION (R205). -/
def State.diagStarved (s : State) (ch : Nat) : State :=
  let c := s.chan ch
  let last := c.testedAt.getD 0
  if s.islands && s.inUse ch && s.cfgB .vcDiagOff ch && !c.starved
      && last + 10 * s.cfgN .diagPeriod (grpOf ch) * msTicks ≤ s.now then
    (s.updChan ch (fun c => { c with starved := true })).raise 0x4004 ch [] false
  else s

def execDiagStarvation (dt ch : Nat) (s : State) : Out := .next ((s.advance dt).diagStarved ch)

/-- Take a reading of VDRVq, of the channel's quadrant. -/
def State.readVdrv (s : State) (ch mv : Nat) : State := s.updPwr (fun p => { p with vdrv := p.vdrv.set (quadOf ch) mv })

/-- The on-state low-supply exception of R424. -/
def State.drvLow (s : State) (ch : Nat) : Bool := s.pwr.vdrv.getD (quadOf ch) 0 < 9000

/-- SHORT_SUPPLY_TRIP (R206, R208): the trip current is at least 5,400 mA. -/
def execShortSupplyTrip (dt ch ma : Nat) (s : State) : Out :=
  let s := s.advance dt
  .next (if (s.ctx ch).isOn && s.inUse ch && 5400 ≤ ma then
      ((s.updChan ch (fun c => { c with ma := ma })).noteClass 7 2).channelFault ch 1
    else s)

/-- The samples that runs of equal readings stand for, the newest taken now (R192: one a microsecond). -/
def runLen {α : Type} (rs : List (α × Nat)) : Nat := (rs.map Prod.snd).sum

/-- OPEN_LOAD_ON (R206, R208): the channel's samples of the last millisecond or more all read below 50 mA, and it
has been ON with a target of 100 mA or more on a sourced rail as long. -/
def execOpenLoadOn (dt ch : Nat) (runs : List (Nat × Nat)) (vdrv : Nat) (s : State) : Out :=
  let s := (s.advance dt).readVdrv ch vdrv
  let x := s.ctx ch
  .next (if (match x.loadFrom with | some m => decide (m + msTicks ≤ s.now) | none => false) && s.inUse ch
      && 1000 ≤ runLen runs && runs.all (fun p => p.1 < 50) && !s.drvLow ch && !s.outputsHeld then
      (s.noteClass 7 2).channelFault ch 5
    else s)

/-- The coil resistance in milliohm that samples of 2 ms or more of current (mA) and coil voltage (mV) give, mean
voltage over mean current, while the current stays within 2 % of its mean (R206). -/
def coilOhms (runs : List ((Nat × Int) × Nat)) : Option Nat :=
  let n := runLen runs
  let i : Rat := (((runs.map (fun p => p.1.1 * p.2)).sum : Nat) : Rat) / (n : Rat)
  let u : Rat := (((runs.map (fun p => p.1.2 * (p.2 : Int))).sum : Int) : Rat) / (n : Rat)
  if 2000 ≤ n && 0 < i && runs.all (fun p => p.2 = 0 || decide (100 * ratAbs ((p.1.1 : Rat) - i) ≤ 2 * i)) then
    some (roundRat (1000 * u / i)).toNat
  else none

/-- COIL_R (R206): the resistance of a steady hold from the samples of its last 2 ms, and its window. -/
def execCoilR (dt ch : Nat) (runs : List ((Nat × Int) × Nat)) (vdrv : Nat) (s : State) : Out :=
  let s := (s.advance dt).readVdrv ch vdrv
  .next (match if (s.ctx ch).st == .hold && s.inUse ch && !s.drvLow ch then coilOhms runs else none with
    | some mOhm =>
      let s := s.updChan ch (fun c => { c with coilR := mOhm })
      if mOhm < s.cfgN .rCoilMin ch || s.cfgN .rCoilMax ch < mOhm then
        s.raise 0x4001 ch (findingData 14 0 mOhm) false
      else s
    | none => s)

/-- A group's rail is sourced, or one of its channels is ON. -/
def State.grpLive (s : State) (g : Nat) : Bool :=
  (s.group g).rail != 0 || (List.range 8).any (fun j => (s.ctx (8 * g + j)).isOn)

/-- RAIL_LEAK (R206): checked while a channel is ON and wherever the rail is sourced.  On the samples of 100 us
or more the rail current exceeds the sum of the channel currents by more than 200 mA. -/
def execRailLeak (dt group : Nat) (runs : List ((Nat × List Nat) × Nat)) (s : State) : Out :=
  let s := s.advance dt
  .next (if group < s.nGrp && s.grpLive group && 100 ≤ runLen runs
      && runs.all (fun p => p.1.2.sum + 200 < p.1.1) then s.groupFault group 11 else s)

/-- The channel's switch is commanded on now: it conducts, and its regulator has it on (R218). -/
def State.switchOn (s : State) (ch : Nat) : Bool :=
  match (s.ctx ch).conductAt with | some m => decide (m ≤ s.now) && (s.ctx ch).chop.on | none => false

/-- VALVE_READBACK_MISMATCH (R206, R208): what a channel's switch reads (0 off) or a rail's (0 open, 1 DRIVE,
2 BOOST, 3 both paths closed), and the channel's current samples before it, which tell its chop phase.  A rail
path closed when commanded open is RAIL_STUCK; one open when commanded closed has no reaction in R208
(log 13). -/
def State.valveReadback (s : State) (n : Nat) (rail : Bool) (read : Nat) (obs : DetObs) : State :=
  if rail then
    if n < s.nGrp && read ≠ 0 && read ≠ (s.group n).rail then (s.noteClass 6 2).groupFault n 10 else s
  else if s.inUse n then
    let s := s.watch n (samplesAt obs.first obs.ma)
    if read ≠ 0 then
      if !s.switchOn n then (s.noteClass 6 2).groupFault (grpOf n) 8 else s
    else if s.switchOn n then (s.noteClass 6 2).channelFault n 9 else s
  else s

def execValveReadbackMismatch (dt n : Nat) (rail : Bool) (read : Nat) (obs : DetObs) (s : State) : Out :=
  .next ((s.advance dt).valveReadback n rail read obs)

/-- The comparator of an OFF channel went low within 2 us after the ON release of each of the last three
actuations of another, and high again within 2 us after its OFF release: `stamps` are those of the channel,
newest first (R207). -/
def tiedTo (acts stamps : List (Nat × Nat)) : Bool :=
  acts.length = 3 && stamps.length = 3 && (acts.zip stamps).all (fun p =>
    p.1.1 ≤ p.2.1 && p.2.1 ≤ p.1.1 + 500 && p.1.2 ≤ p.2.2 && p.2.2 ≤ p.1.2 + 500)

/-- None of a channel's own actuations touches any of another's (R207: it is OFF). -/
def offOver (own acts : List (Nat × Nat)) : Bool :=
  acts.all (fun a => own.all (fun o => decide (o.2 < a.1) || decide (a.2 + 500 < o.1)))

/-- TIED (R207, R208): a channel fault on both partners. -/
def execTied (dt ch partner : Nat) (stamps : List (Nat × Nat)) (s : State) : Out :=
  let s := s.advance dt
  .next (if s.islands && s.inUse ch && s.inUse partner && ch ≠ partner && s.cfgB .tiedCheck ch && !(s.ctx ch).isOn
      && offOver (s.chan ch).lastActs (s.chan partner).lastActs && tiedTo (s.chan partner).lastActs stamps then
      (s.channelFault ch 7 partner).channelFault partner 7 ch
    else s)

/-- RAIL_OVERCURRENT (R185): above 20 A for 1 us. -/
def execRailOvercurrent (dt group ma held : Nat) (s : State) : Out :=
  let s := s.advance dt
  .next (if s.islands && group < s.nGrp && 20000 < ma && usTicks ≤ held then
      (s.updGroup group (fun g => { g with ocCount := satInc g.ocCount })).groupFault group 12 else s)

/-- RAIL_OVERLOAD (R185): the samples of 1 s average above 8.5 A. -/
def execRailOverload (dt group : Nat) (runs : List (Nat × Nat)) (s : State) : Out :=
  let s := s.advance dt
  .next (if s.islands && group < s.nGrp && runLen runs = 1000000
      && 8500 * 1000000 < (runs.map (fun p => p.1 * p.2)).sum then
      (s.updGroup group (fun g => { g with olCount := satInc g.olCount })).groupFault group 13 else s)

/-- CH_OVERLOAD (R191, R192): the RMS of the samples of 1 s exceeds 1,600 mA. -/
def execChOverload (dt ch : Nat) (runs : List (Nat × Nat)) (s : State) : Out :=
  let s := s.advance dt
  .next (if s.islands && s.inUse ch && runLen runs = 1000000
      && 1600 * 1600 * 1000000 < (runs.map (fun p => p.1 * p.1 * p.2)).sum then s.channelFault ch 6 else s)

/-! ### Boosts -/

/-- The lanes, as `noteClass` numbers them, that find a reservoir above V_LIM + 2,000 mV, each against its own copy of the
limits (R445 class 14). -/
def Sag.overLanes (g : Sag) (q mv : Nat) : Option Nat :=
  let high := fun (l : Lane) => decide (l.limits.vLim.getD q 0 + 2000 < (mv : Int))
  if high g.a then some (if high g.b then 2 else 0) else if high g.b then some 1 else none

/-- BST_OV (R188, class 14): above V_LIM + 2,000 mV for 10 us; the boost stops, the bleed runs, every group of the quadrant faults. -/
def State.boostOver (s : State) (q mv held : Nat) : State :=
  let s := s.readRes q mv
  let lanes := s.sag.overLanes q mv
  if q < s.nQuad && 10 * usTicks ≤ held && lanes.isSome then
    let s := s.updQuad q (fun x => { x with off := true, bleed := true, overE := true })
    let s := s.noteClass 14 (lanes.getD 2)
    let s := s.each [3 * q, 3 * q + 1, 3 * q + 2] (fun s g => s.latchGroup g 0)
    s.record 2 0x4005 q [(128, 8, 0), (144, 16, mv)] true
  else s

def execBstOv (dt q mv held : Nat) (s : State) : Out := .next ((s.advance dt).boostOver q mv held)

/-- BST_FAIL (R189). -/
def execBstFail (dt q mv : Nat) (s : State) : Out :=
  let s := (s.advance dt).readRes q mv
  let x := s.quad q
  .next (if q < s.nQuad && x.switches && !x.fail && s.lowRes q
      && (match x.since with | some m => decide (m + 50 * msTicks ≤ s.now) | none => false) then
      (s.updQuad q (fun x => { x with fail := true })).raise 0x4005 q [(128, 8, 1), (144, 16, mv)] false
    else s)

/-- No reading of the last second was below 90 % of V_LIM. -/
def State.heldHigh (s : State) (q : Nat) : Bool :=
  match (s.quad q).lowAt with | some m => decide (m + 1000 * msTicks ≤ s.now) | none => true

/-- BST_FAIL_CLEAR (R189): `mv` is the lowest reading of the last second. -/
def execBstFailClear (dt q mv : Nat) (s : State) : Out :=
  let s := (s.advance dt).readRes q mv
  .next (if q < s.nQuad && (s.quad q).fail && s.heldHigh q then
      (s.updQuad q (fun x => { x with fail := false })).raise 0x4005 q [(128, 8, 3), (144, 16, mv)] false
    else s)

/-! ### Commands -/

/-- The 512 bits of the VALVE record (R391), FLAGS and TEL_SEQ 0. -/
def State.valveRecord (s : State) (ch : Nat) : Nat :=
  let c := s.chan ch
  let t := fun (q : Rat) => (roundRat q).toNat
  pack ([(0, 8, 0x20), (32, 7, ch), (39, 1, b2n c.fallback), (40, 1, b2n c.latched),
    (64, 32, t c.dOn), (96, 32, t c.sOn), (128, 32, t c.dOff), (160, 32, t c.sOff), (192, 32, c.coilR)]
    ++ (List.range 12).map (fun i => (224 + 16 * i, 16, c.counts.getD i 0)))

def wordsOf (n k lo : Nat) : List Word := (List.range k).map (fun i => wn (n >>> (32 * (lo + i))))

def State.valveItem (s : State) (ch : Nat) : Item :=
  let c := s.chan ch
  (1, [wn (pack [(0, 8, ch), (8, 1, b2n c.ctx.isOn), (9, 1, b2n c.latched), (10, 1, b2n c.fallback)]),
    wn c.finding, wn c.ma] ++ wordsOf (s.valveRecord ch) 12 1)

def State.quadItem (s : State) (q : Nat) : Item :=
  let x := s.quad q
  (2, [wn (pack [(0, 8, q), (8, 1, b2n x.fail), (9, 1, b2n x.bad)]), wn (s.pwr.res.getD q 0),
    wn (s.pwr.vLim.getD q 0), wn (s.pwr.cMeas.getD q 0), wn (s.pwr.cUse.getD q 0), x.clampMj])

/-- Every channel a mask names is fitted. -/
def State.fitted (s : State) (chs : List Nat) : Bool := chs.all (· < s.nCh)

def cmdValveStatus (h : Hdr) (rep : Ref) (mask : BitVec 96) (quads : BitVec 4) (s : State) : Verdict :=
  let ok := s.fitted (bitsOf mask) && (bitsOf quads).all (· < s.nQuad)
  checks s ok true none none
    (report 0x40 h rep ((bitsOf mask).map s.valveItem ++ (bitsOf quads).map s.quadItem) s)

/-- The channels that VALVE_CLEAR and VALVE_DIAG_NOW name. -/
def namedCh (group : Nat) (mask : BitVec 8) : List Nat := (bitsOf mask).map (fun j => 8 * group + j)

def State.namedOk (s : State) (group : Nat) (mask : BitVec 8) : Bool :=
  group < s.nGrp && (namedCh group mask).all s.inUse

/-- The RESULT of finding codes, 4 bits per item. -/
def codesRes (codes : List Nat) : BitVec 128 :=
  resultOf (codes.zipIdx.map (fun p => (128 + 4 * p.2, 4, p.1)))

/-- VALVE_CLEAR (R209, R212): its tests wait, at most 100 ms, whatever claims OUTPUTS. -/
def cmdValveClear (_h : Hdr) (group : Nat) (mask : BitVec 8) (s : State) : Verdict :=
  checks s (s.namedOk group mask) true none none
    (if mask = 0 then .done .ok (codesRes (List.replicate 8 5)) s else .wait false [s.now] s)

/-- The codes of a test round: unnamed channels 5, and 4 where the test could not run (R205, R209). -/
def State.testCodes (s : State) (group : Nat) (mask : BitVec 8) (codes : List Nat) : List Nat :=
  (List.range 8).map (fun j =>
    if !mask.getLsbD j then 5
    else if s.testable (8 * group + j) && !s.claimed (.valve (8 * group + j)) then min 4 (codes.getD j 0)
    else 4)

/-- Unlatch channels; the group fault goes when none of its channels in use is latched (R209). -/
def State.unlatch (s : State) (group : Nat) (chs : List Nat) : State :=
  let s := s.each chs (fun s ch =>
    (s.updChan ch (fun c => { c with latched := false, finding := 0 })).updCtx ch
      (fun x => { x with st := if x.st == .latched then .idle else x.st }))
  if (List.range 8).any (fun j => s.inUse (8 * group + j) && (s.chan (8 * group + j)).latched) then s
  else
    let s := s.updGroup group (fun g => { g with fault := false })
    s.each (List.range 8) (fun s j =>
      (s.updChan (8 * group + j) (fun c => { c with latched := false, finding := 0 })).updCtx (8 * group + j)
        (fun x => { x with st := if x.st == .latched then .idle else x.st }))

/-- VALVE_CLEAR_COMPLETE (R209): the tests have run, or 100 ms have passed. -/
def State.valveClearDone (s : State) (codes : List Nat) : State :=
  match s.waitingFor 0x41 with
  | some w =>
    match w.cmd with
    | .valveClear _ _ group mask =>
      let cs := s.testCodes group mask codes
      let late := decide (w.aux.headD 0 + 100 * msTicks ≤ s.now)
      let bad := cs.any (fun c => 1 ≤ c && c ≤ 3)
      if cs.contains 4 && !bad && !late then s
      else
        let s := s.each (List.range 8) (fun s j =>
          if cs.getD j 5 < 4 then s.tested (8 * group + j) (cs.getD j 5) else s)
        if bad then s.finish w .faultHeld (codesRes cs)
        else if cs.contains 4 then s.finish w .timeout (codesRes cs)
        else (((s.unlatch group (namedCh group mask)).settle 6).settle 7).finish w .ok (codesRes cs)
    | _ => s
  | none => s

def execValveClearComplete (dt : Nat) (codes : List Nat) (s : State) : Out :=
  .next ((s.advance dt).valveClearDone codes)

/-- VALVE_DELAY_RESET (R211, R212). -/
def cmdValveDelayReset (_h : Hdr) (mask : BitVec 96) (s : State) : Verdict :=
  checks s ((bitsOf mask).all s.inUse) true
    (if mask = 0 then none else s.outputsOf ((bitsOf mask).map Res.valve)) none
    (.done .ok 0 (s.each (bitsOf mask) (fun s ch => s.seedFilters ch)))

/-- VALVE_DIAG_NOW (R211, R212). -/
def cmdValveDiagNow (_h : Hdr) (group : Nat) (mask : BitVec 8) (s : State) : Verdict :=
  checks s (s.namedOk group mask) true
    (if mask = 0 then none else s.outputsOf ((namedCh group mask).map Res.valve)) none
    (if mask = 0 then .done .ok (codesRes (List.replicate 8 5)) s else .wait false [s.now] s)

/-- VALVE_DIAG_NOW_COMPLETE (R211): each result, or TIMEOUT after 100 ms. -/
def State.valveDiagDone (s : State) (codes : List Nat) : State :=
  match s.waitingFor 0x43 with
  | some w =>
    match w.cmd with
    | .valveDiagNow _ _ group mask =>
      let cs := s.testCodes group mask codes
      let late := decide (w.aux.headD 0 + 100 * msTicks ≤ s.now)
      if cs.contains 4 && !late then s
      else
        let s := s.each (List.range 8) (fun s j =>
          if cs.getD j 5 < 4 then s.tested (8 * group + j) (cs.getD j 5) else s)
        s.finish w (if cs.contains 4 then .timeout else .ok) (codesRes cs)
    | _ => s
  | none => s

def execValveDiagNowComplete (dt : Nat) (codes : List Nat) (s : State) : Out :=
  .next ((s.advance dt).valveDiagDone codes)

end Sys2Proof.Machine
end

