-- ==== Sys2Proof/Machine/Seq.lean ====
section
/-! DEFINITION. The meanings of the current sequencers' rows (R213 to R233): one definition per
instruction, the waits, traps and parity errors, and the sequencer commands. -/

namespace Sys2Proof.Machine

/-! ### Stores -/

/-- The 24-bit words of a PROG field: 4 bytes each, bits 23:0 (R397). -/
def progWords : Nat → List Byte → List (BitVec 24)
  | 0, _ => []
  | k + 1, bs => if bs.isEmpty then [] else BitVec.ofNat 24 (leAt bs 0 4) :: progWords k (bs.drop 4)

/-- Write one sequencer's store and header table from the values in force (R231), the reserved bits of a filled
header 0 (R226). -/
def State.loadStore (s : State) (g : Nat) : State :=
  (s.updGroup g (fun x =>
    { x with store := progWords 512 (s.cfg.vals.blob .prog g),
             hdrs := (List.range 16).map (fun h =>
               let w := BitVec.ofInt 128 (s.cfgI .hdr (16 * g + h))
               if hdrEmpty w then w else w &&& BitVec.ofNat 128 (2 ^ 114 - 1)),
             reloadBy := none, compared := s.now })).settle 3

/-! ### Faults of a sequencer (R230) -/

/-- SEQ_TRAP: counted, latched as a channel fault, recorded with address and cause. -/
def State.trap (s : State) (ch addr cause : Nat) : State :=
  let s := s.updChan ch (·.bumpSeq 3)
  let s := s.latchCh ch 0
  s.record 2 0x4006 ch [(128, 9, addr), (144, 8, cause)] true

/-- SEQ_PARITY: a group fault, and a reload of the store within 10 ms. -/
def State.parity (s : State) (g addr : Nat) : State :=
  let s := s.latchGroup g 0
  let s := (s.updGroup g (fun x => { x with reloadBy := some (s.now + 10 * msTicks) })).noteClass 3 2
  s.record 2 0x4007 (0x100 + g) [(128, 9, addr)] true

/-! ### One instruction -/

/-- The context has an instruction to execute at its next boundary (R214, R217). -/
def Ctx.due (c : Ctx) (now : Nat) : Bool := c.st == .run && c.wait == .no && c.next ≤ now

/-- Step past an instruction of `cycles` cycles. -/
def State.past (s : State) (ch cycles : Nat) : State :=
  s.updCtx ch (fun c => { c with pc := c.pc + 1, next := c.next + 25 * cycles, runLen := c.runLen + 1 })

/-- Jump to an address in 2 cycles. -/
def State.jump (s : State) (ch addr : Nat) : State :=
  s.updCtx ch (fun c => { c with pc := addr, next := c.next + 50, runLen := c.runLen + 1 })

/-- Fetch the instruction due on a channel and run `act` on it at its boundary, if it is of the kind
that the row stands for; a parity error, execution past LAST, a run without a wait or a reserved
encoding is handled as R230 says, and so is the 4,096th instruction in a row without a wait. -/
def State.seqRun (s : State) (ch : Nat) (par : Bool)
    (act : State → Nat → SeqInstr → Option State) : State :=
  let c := s.ctx ch
  let g := grpOf ch
  if ch < s.nCh && c.due s.now then
    if par then s.parity g c.pc
    else if hdrLast (s.hdrOf ch) < c.pc then s.trap ch c.pc 3
    else if 4096 ≤ c.runLen then s.trap ch c.pc 4
    else match decodeSeq ((s.group g).store.getD c.pc 0) with
      | none => s.trap ch c.pc 1
      | some i =>
        let r := (act s c.next i).getD s
        if 4096 ≤ (r.ctx ch).runLen && (r.ctx ch).st == .run then r.trap ch c.pc 4 else r
  else s

/-- The value of Kn. -/
def Ctx.k (c : Ctx) (n : Nat) : Nat := c.ks.getD n 0

/-- A decay that goes on in FAST-CLAMP at V_LIM is cut short: the energy the clamp has taken is counted, a free value
(R194, log 160). -/
def State.cutClamp (s : State) (ch : Nat) : State :=
  if (s.ctx ch).decaying && (s.ctx ch).turned then
    let (n, s) := s.takeFree
    (s.updQuad (quadOf ch) (fun q => { q with clampMj := q.clampMj + wn (Config.freeNat n) })).updCtx ch (fun c => { c with turned := false })
  else s

/-- The effect of SRC (R217, R220). -/
def State.doSrc (s : State) (ch b k : Nat) : State :=
  let g := grpOf ch
  let s := s.endPhase ch b
  let s := s.past ch 1
  let s := s.updCtx ch (fun c => { c with src := k })
  match k with
  | 0 =>
    let s := s.updCtx ch (fun c =>
      { c with conductAt := none, decaying := c.decaying || c.conductAt.isSome, turned := c.decaying && c.turned,
               decayWas := if c.decaying then c.decayWas else none })
    (s.noteReg ch b).setRail g
  | 1 =>
    let old := (s.group g).rail
    let s := (s.cutClamp ch).updCtx ch (fun c =>
      { c with conductAt := some (b + 25), conducted := true, decaying := false })
    let s := s.setRail g
    let gap := if old = 2 && (s.group g).rail = 1 && (s.group g).queue.isEmpty then 25 else 0
    ((s.updCtx ch (fun c => { c with conductAt := some (b + 25 + gap) })).noteReg ch (b + 25 + gap)).countClamp ch
  | _ => (s.cutClamp ch).requestClaim ch b

/-- SRC; `resMv` is the reservoir at the boundary, read where BOOST is asked for. -/
def execSeqSrc (dt ch resMv : Nat) (par : Bool) (s : State) : Out :=
  .next ((s.advance dt).seqRun ch par (fun s b i => match i with
    | .src k =>
      some (if k = 2 then (s.readRes (quadOf ch) resMv).doSrc ch b 2 else s.doSrc ch b k.toNat)
    | _ => none))

/-- ITGT (R218): the target in 2 mA steps or from Kn, and the chop mode. -/
def execSeqItgt (dt ch : Nat) (par : Bool) (s : State) : Out :=
  .next ((s.advance dt).seqRun ch par (fun s b i => match i with
    | .itgt mode p reg v =>
      let t := if reg then (s.ctx ch).k (v.toNat % 4) else 2 * v.toNat
      let s := s.updCtx ch (fun c => { c with target := t, mode := mode.toNat, par := p.toNat })
      some ((((s.noteReg ch b).noteLoad ch).countClamp ch).past ch 1)
    | _ => none))

/-- Ticks of an ARM or WAITI timeout: units of 100 us or 10 ms. -/
def cntTicks (scale : Bool) (cnt : Nat) : Nat := cnt * (if scale then 2500000 else 25000)

/-- WAITI (R219): wait from this boundary for a current against THR, or a timeout. -/
def execSeqWaiti (dt ch : Nat) (par : Bool) (s : State) : Out :=
  .next ((s.advance dt).seqRun ch par (fun s b i => match i with
    | .waiti le scale cnt thr =>
      let tmo := if cnt = 0 then none else some (b + cntTicks scale cnt.toNat)
      some (s.updCtx ch (fun c =>
        { c with pc := c.pc + 1, runLen := 0, wait := .current le (2 * thr.toNat) b tmo }))
    | _ => none))

/-- Duration of a WAITT in ticks, at least one cycle (R217). -/
def waittTicks (c : Ctx) (unit : BitVec 2) (count : BitVec 18) : Nat :=
  let n := count.toNat
  max 25 (match unit.toNat with
    | 0 => n * 25
    | 1 => n * 2500
    | 2 => n * 250000
    | _ => c.k (n % 4) * 2500)

/-- WAITT: wait for the time given. -/
def execSeqWaitt (dt ch : Nat) (par : Bool) (s : State) : Out :=
  .next ((s.advance dt).seqRun ch par (fun s b i => match i with
    | .waitt unit count =>
      some (s.updCtx ch (fun c =>
        { c with pc := c.pc + 1, runLen := 0, wait := .till (b + waittTicks c unit count) }))
    | _ => none))

/-- ARM (R221): RISE and CHOP open the opening window, BUMP arms the closing window, DISARM closes an
open opening window. -/
def State.doArm (s : State) (ch b det tmo : Nat) : State :=
  let t := if tmo = 0 then none else some (b + tmo)
  match det with
  | 0 => s.updCtx ch (fun c => if c.openOut.isSome then c else
      { c with openWin := some { det := .rise, opened := b, timeout := t, chop := c.chop } })
  | 1 => s.updCtx ch (fun c => if c.openOut.isSome then c else
      { c with openWin := some { det := .chop, opened := b, timeout := t } })
  | 2 => s.updCtx ch (fun c => { c with closeArm := some tmo })
  | _ => s.updCtx ch (fun c => { c with openWin := none })

def execSeqArm (dt ch : Nat) (par : Bool) (s : State) : Out :=
  .next ((s.advance dt).seqRun ch par (fun s b i => match i with
    | .arm det scale cnt => some ((s.doArm ch b det.toNat (cntTicks scale cnt.toNat)).past ch 1)
    | _ => none))

/-- DECAY (R193, R217): the mode from now on; for a decay under way, from the next sample. -/
def execSeqDecay (dt ch : Nat) (par : Bool) (s : State) : Out :=
  .next ((s.advance dt).seqRun ch par (fun s b i => match i with
    | .decay mode => some ((s.updCtx ch (fun c =>
        { c with decay := mode.toNat,
                 decayWas := if c.decaying then some (c.decayNow b, (b + 249) / 250 * 250) else none })).past ch 1)
    | _ => none))

/-- MARK (R222): into the group's buffer of 64, dropped and counted where it is full; raised as
SEQ_MARK with EVT. -/
def State.doMark (s : State) (ch b code : Nat) (evt : Bool) (value : Nat) : State :=
  let g := grpOf ch
  if (s.group g).marks.length < 64 then
    let m : Mark := { ch := ch, code := code, evt := evt, value := value, mt := b }
    let s := s.updGroup g (fun x => { x with marks := x.marks ++ [m] })
    if evt then s.raise 0x4008 ch [(128, 4, code), (144, 16, value)] false else s
  else (s.count 67).updChan ch (·.bumpSeq 4)

def execSeqMark (dt ch : Nat) (par : Bool) (s : State) : Out :=
  .next ((s.advance dt).seqRun ch par (fun s b i => match i with
    | .mark code evt reg v =>
      let x := if reg then (s.ctx ch).k (v.toNat % 4) else v.toNat
      some ((s.doMark ch b code.toNat evt x).past ch 1)
    | _ => none))

/-- A jump target must lie within START to LAST, taken or not (R230). -/
def State.seqTarget (s : State) (ch addr : Nat) (taken : Bool) : State :=
  let h := s.hdrOf ch
  if addr < hdrStart h || hdrLast h < addr then s.trap ch (s.ctx ch).pc 2
  else if taken then s.jump ch addr else s.past ch 1

def execSeqJmp (dt ch : Nat) (par : Bool) (s : State) : Out :=
  .next ((s.advance dt).seqRun ch par (fun s _ i => match i with
    | .jmp addr => some (s.seqTarget ch addr.toNat true)
    | _ => none))

/-- The conditions of JC, RAILLO against the last rail voltage sample. -/
def condHolds (c : Ctx) (railLo railMv cond : Nat) : Bool :=
  match cond with
  | 0 => c.det
  | 1 => !c.det
  | 2 => c.toF
  | 3 => !c.toF
  | 4 => c.drv
  | 5 => c.lowb
  | 6 => c.k 0 == 0
  | 7 => c.k 0 != 0
  | _ => decide (railMv < railLo)

def execSeqJc (dt ch railMv : Nat) (par : Bool) (s : State) : Out :=
  .next ((s.advance dt).seqRun ch par (fun s _ i => match i with
    | .jc cond addr =>
      some (s.seqTarget ch addr.toNat (condHolds (s.ctx ch) (hdrRailLo (s.hdrOf ch)) railMv cond.toNat))
    | _ => none))

/-- LOOP (R223): count Kn down and jump, or fall through and reload. -/
def State.doLoop (s : State) (ch n : Nat) (reload : Bool) (addr : Nat) : State :=
  let k := (s.ctx ch).k n
  let k' := k - 1
  let fall := k' = 0
  let v := if fall && reload then (s.ctx ch).pre.getD n 0 else k'
  let s := s.updCtx ch (fun c => { c with ks := c.ks.set n v })
  s.seqTarget ch addr (!fall)

def execSeqLoop (dt ch : Nat) (par : Bool) (s : State) : Out :=
  .next ((s.advance dt).seqRun ch par (fun s _ i => match i with
    | .loop k reload addr => some (s.doLoop ch k.toNat reload addr.toNat)
    | _ => none))

/-- HOLDW (R217, R221): keep source, target and mode until OFF; with no opening window open and no
outcome, the opening is a MISS. -/
def execSeqHoldw (dt ch : Nat) (par : Bool) (s : State) : Out :=
  .next ((s.advance dt).seqRun ch par (fun s b i => match i with
    | .holdw =>
      let s := s.updCtx ch (fun c => { c with st := .hold, runLen := 0 })
      some (if (s.ctx ch).openWin.isNone then s.decideOpen ch .miss b else s)
    | _ => none))

/-- END (R224): conduction stops, the opening is decided MISS if it is open, the decay begins, and
the context waits in ENDED. -/
def State.doEnd (s : State) (ch b : Nat) : State :=
  let s := s.updCtx ch (fun c => { c with selfEnd := true })
  let s := s.updChan ch (fun x => (x.bump 10).bumpSeq 2)
  let s := s.decideOpen ch .miss b
  let s := s.startDecay ch b false
  s.updCtx ch (fun c => { c with st := .ended, runLen := 0 })

def execSeqEnd (dt ch : Nat) (par : Bool) (s : State) : Out :=
  .next ((s.advance dt).seqRun ch par (fun s b i => match i with
    | .end_ => some (s.doEnd ch b)
    | _ => none))

/-- SEQ_RESERVED_OPCODE (R216, R230): the word due is reserved; the context traps. -/
def execSeqReservedOpcode (dt ch : Nat) (par : Bool) (s : State) : Out :=
  .next ((s.advance dt).seqRun ch par (fun _ _ _ => none))

/-- SEQ_STORE_COMPARE (R230): every 1 s each store and header table is compared with the image. -/
def State.compareStores (s : State) (bad : List (Nat × Nat)) : State :=
  s.each (List.range s.nGrp) (fun s g =>
    if s.islands && (s.group g).compared + 1000 * msTicks ≤ s.now then
      let s := s.updGroup g (fun x => { x with compared := s.now })
      match bad.find? (fun p => p.1 = g) with
      | some p => s.parity g p.2
      | none => s
    else s)

def execSeqStoreCompare (dt : Nat) (bad : List (Nat × Nat)) (s : State) : Out :=
  .next ((s.advance dt).compareStores bad)

/-- SEQ_RELOAD (R230): C15 reloads the store and headers after a SEQ_PARITY. -/
def execSeqReload (dt group : Nat) (s : State) : Out :=
  let s := s.advance dt
  .next (if (s.group group).reloadBy.isSome then s.loadStore group else s)

/-! ### Waits -/

/-- WAITI_END (R219): a sample of instant `sampleMt` meets THR; the wait ends at the first boundary
at or after 200 ns past it, and TO is cleared. -/
def State.waitiDone (s : State) (ch sampleMt ma : Nat) : State :=
  let c := s.ctx ch
  match c.st, c.wait with
  | .run, .current le thr fr tmo =>
    let met := if le then decide (ma ≤ thr) else decide (thr ≤ ma)
    let inTime := match tmo with | some m => decide (sampleMt + 50 ≤ m) | none => true
    if met && inTime && sampleMt % 250 = 0 && fr ≤ sampleMt && sampleMt + 50 ≤ s.now then
      let s := (s.updChan ch (fun x => { x with ma := ma })).watch ch [(sampleMt, ma)]
      s.updCtx ch (fun c => { c with wait := .no, toF := false, next := c.boundary (sampleMt + 50) })
    else s
  | _, _ => s

def execWaitiEnd (dt ch sampleMt ma : Nat) (s : State) : Out :=
  .next ((s.advance dt).waitiDone ch sampleMt ma)

/-- WAITI_TIMEOUT (R217, R219): the timeout, counted from the WAITI's boundary, sets TO. -/
def State.waitiOver (s : State) (ch : Nat) : State :=
  let c := s.ctx ch
  match c.st, c.wait with
  | .run, .current _ _ _ (some m) =>
    if m ≤ s.now then s.updCtx ch (fun c => { c with wait := .no, toF := true, next := c.boundary m }) else s
  | _, _ => s

def execWaitiTimeout (dt ch : Nat) (s : State) : Out := .next ((s.advance dt).waitiOver ch)

/-- WAITT_EXPIRY (R217). -/
def State.waittOver (s : State) (ch : Nat) : State :=
  let c := s.ctx ch
  match c.st, c.wait with
  | .run, .till m =>
    if m ≤ s.now then s.updCtx ch (fun c => { c with wait := .no, next := c.boundary m }) else s
  | _, _ => s

def execWaittExpiry (dt ch : Nat) (s : State) : Out := .next ((s.advance dt).waittOver ch)

/-! ### Commands -/

/-- The SEQ_STATUS item of a channel (R380): a waiting or stalled instruction still occupies its context
(R217), and the OFF release has ended an opening window that is only watched for its confirmation (R196). -/
def State.seqItem (s : State) (ch : Nat) : Item :=
  let c := s.chan ch
  let x := c.ctx
  let at_ := if x.wait == .no && x.st != .claim then x.pc else x.pc - 1
  (1, [wn (pack [(0, 8, ch), (8, 8, x.st.code), (16, 9, at_)]),
    wn (pack [(0, 16, x.k 0), (16, 16, x.k 1)]), wn (pack [(0, 16, x.k 2), (16, 16, x.k 3)]),
    wn (pack [(0, 1, b2n x.det), (1, 1, b2n x.toF), (2, 1, b2n x.drv), (3, 1, b2n x.lowb),
      (4, 1, b2n (x.openWin.isSome && !x.confirm)), (5, 1, b2n x.closeWin.isSome)])] ++ c.seqCounts)

def cmdSeqStatus (h : Hdr) (rep : Ref) (mask : BitVec 96) (s : State) : Verdict :=
  checks s (s.fitted (bitsOf mask)) true none none (report 0x44 h rep ((bitsOf mask).map s.seqItem) s)

/-- SEQ_READ (R232, R381): store words as 32-bit words, or the header table as 16 bytes each. -/
def cmdSeqRead (addr : DWord) (sequencer : Nat) (headers : Bool) (first words : Nat) (s : State) : Verdict :=
  let g := s.group sequencer
  let n := min (max words 1) (512 - first)
  let bs := if headers then (g.hdrs.map (fun h => leBytes 16 h.toNat)).flatten
    else ((List.range n).map (fun i => leBytes 4 (g.store.getD (first + i) 0).toNat)).flatten
  checks s (sequencer < s.nGrp) true none none
    (.done (okOr (!headers && n ≠ words)) (resultOf [(128, 32, bs.length)]) (s.emit (.bytes addr bs)))

/-- SEQ_SET_K (R232, R233): from each named channel's next profile start. -/
def cmdSeqSetK (group : Nat) (mask : BitVec 8) (which en : BitVec 4) (ks : List (BitVec 16))
    (s : State) : Verdict :=
  checks s (s.namedOk group mask) true
    (if mask = 0 then none else s.outputsOf ((namedCh group mask).map Res.valve)) none
    (.done .ok 0 (s.each (namedCh group mask) (fun s ch =>
      s.updChan ch (fun c => { c with kover := (List.range 4).map (fun n =>
        if which.getLsbD n then some (en.getLsbD n, (ks.getD n 0).toNat) else c.kover.getD n none) }))))

end Sys2Proof.Machine
end

