-- ==== Sys2Proof/Machine/Geo.lean ====
section
/-! DEFINITION. Plane geometry over the rationals: sines and square roots to fixed precision (log
14), the prediction of R156, landing points of R158, and a segment cut by the cell grid of R160. -/

namespace Sys2Proof.Machine

/-- Round down to a multiple of 2^-48. -/
def q48 (x : Rat) : Rat := mkRat (x * 2 ^ 48).floor (2 ^ 48)

/-- Pi to 30 digits. -/
def piR : Rat := mkRat 3141592653589793238462643383279 1000000000000000000000000000000

/-- The Taylor terms of a sine or cosine from term `t` of order `n`. -/
def trigSum : Nat → Rat → Rat → Nat → Rat
  | 0, _, _, _ => 0
  | k + 1, x2, t, n => t + trigSum k x2 (q48 (-(t * x2) / ((n + 1) * (n + 2) : Nat))) (n + 2)

/-- A BA32 count, whole or not, as radians in [-pi, pi). -/
def baRad (a : Rat) : Rat :=
  let r := a - ((a / 2 ^ 32 + 1 / 2).floor : Rat) * 2 ^ 32
  r * (2 * piR) / 2 ^ 32

def sinBa (a : Rat) : Rat := let x := q48 (baRad a); trigSum 16 (q48 (x * x)) x 1
def cosBa (a : Rat) : Rat := let x := q48 (baRad a); trigSum 16 (q48 (x * x)) 1 0

/-- Square root to 2^-40, 0 for a negative number. -/
def sqrtR (x : Rat) : Rat := if x ≤ 0 then 0 else mkRat (isqrt (x * 2 ^ 80).floor.toNat) (2 ^ 40)

/-- Constant-turn motion from an instant on (R156): position in mm, heading and yaw rate in BA32
counts, ground speed in mm/s. -/
structure Motion where
  e : Rat := 0
  n : Rat := 0
  psi : Rat := 0
  s : Rat := 0
  w : Rat := 0
  deriving DecidableEq, Repr, Inhabited

/-- Yaw rate in rad/s (R156). -/
def Motion.omega (m : Motion) : Rat := q48 (m.w * (2 * piR) / 2 ^ 32)

/-- The motion `tau` seconds on (R156), straight where the turn is below 10^-6 rad. -/
def Motion.after (m : Motion) (tau : Rat) : Motion :=
  let om := m.omega
  let psi := m.psi + m.w * tau
  if ratAbs (om * tau) < 1 / 1000000 then
    { m with e := q48 (m.e + m.s * tau * sinBa m.psi), n := q48 (m.n + m.s * tau * cosBa m.psi), psi := psi }
  else
    let r := m.s / om
    { m with e := q48 (m.e + r * (cosBa m.psi - cosBa psi)), n := q48 (m.n + r * (sinBa psi - sinBa m.psi)),
             psi := psi }

/-- The motion that a fusion output states (R99, R156). -/
def FusOut.motion (o : FusOut) : Motion :=
  { e := o.e, n := o.n, psi := (o.heading.toNat : Rat), s := o.speed, w := o.yawRate }

/-- Seconds of a number of ticks. -/
def secs (t : Rat) : Rat := t / 250000000

/-- The motion of a fusion output carried to an MT. -/
def FusOut.motionAt (o : FusOut) (mt : Rat) : Motion := o.motion.after (secs (mt - o.epoch))

/-- A placed swath: landing point and unit vector of travel. -/
structure Swath where
  e : Rat := 0
  n : Rat := 0
  ue : Rat := 0
  un : Rat := 0
  deriving DecidableEq, Repr, Inhabited

/-- Forward component and channel speed of R164. -/
def Motion.fwd (m : Motion) (y : Int) : Rat := m.s - m.omega * y
def Motion.chSpeed (m : Motion) (x y : Int) : Rat :=
  let f := m.fwd y
  let l := m.omega * x
  sqrtR (f * f + l * l)

/-- The landing point of a channel at (x, y) with distance term `trd` (R156, R158).  A channel at
rest has the implement's forward vector. -/
def Motion.swath (m : Motion) (x y trd : Int) : Swath :=
  let sn := sinBa m.psi
  let cs := cosBa m.psi
  let v := m.chSpeed x y
  let f := m.fwd y
  let l := m.omega * x
  let ue := if v = 0 then sn else q48 ((f * sn + l * cs) / v)
  let un := if v = 0 then cs else q48 ((f * cs - l * sn) / v)
  { e := q48 (m.e + x * sn + y * cs - trd * ue), n := q48 (m.n + x * cs - y * sn - trd * un), ue := ue, un := un }

/-- A swath moved along its direction of travel. -/
def Swath.moved (w : Swath) (d : Rat) : Swath := { w with e := w.e + d * w.ue, n := w.n + d * w.un }

/-- Left and right ends of a swath segment of width `w` (R160). -/
def Swath.ends (g : Swath) (w : Rat) : (Rat × Rat) × (Rat × Rat) :=
  ((g.e - w / 2 * g.un, g.n + w / 2 * g.ue), (g.e + w / 2 * g.un, g.n - w / 2 * g.ue))

/-- The fractions of a segment from `a` to `a + d` at which it crosses lines k × cell. -/
def crossings (a d : Rat) (cell : Nat) : List Rat :=
  if d = 0 then []
  else
    let lo := (min a (a + d) / cell).ceil
    let hi := (max a (a + d) / cell).floor
    (List.range (hi + 1 - lo).toNat).map (fun k => (((lo + (k : Int)) * cell : Int) - a) / d)

/-- The cells a segment lies in, with the share of its length in each piece (R160): its cuts by the
grid, each piece in the cell of its middle (R128). -/
def Swath.cells (g : Swath) (w : Rat) (cell : Nat) : List (Int × Int × Rat) :=
  let ((ax, ay), (bx, by_)) := g.ends w
  let ts := ((0 : Rat) :: 1 :: (crossings ax (bx - ax) cell ++ crossings ay (by_ - ay) cell)).filter
    (fun t => 0 ≤ t && t ≤ 1)
  let ts := ts.mergeSort (fun a b => decide (a ≤ b))
  (ts.zip (ts.drop 1)).filterMap (fun p =>
    if p.2 ≤ p.1 then none
    else
      let m := (p.1 + p.2) / 2
      some (((ax + (bx - ax) * m) / cell).floor, ((ay + (by_ - ay) * m) / cell).floor, p.2 - p.1))

/-- How far a point lies ahead of a segment, and to its right. -/
def Swath.ahead (g : Swath) (x y : Rat) : Rat := (x - g.e) * g.ue + (y - g.n) * g.un
def Swath.right (g : Swath) (x y : Rat) : Rat := (x - g.e) * g.un - (y - g.n) * g.ue

/-- A swath part of the way between two. -/
def Swath.between (a b : Swath) (l : Rat) : Swath :=
  { e := a.e + (b.e - a.e) * l, n := a.n + (b.n - a.n) * l,
    ue := a.ue + (b.ue - a.ue) * l, un := a.un + (b.un - a.un) * l }

/-- The cells whose centre moves from ahead of the segment to behind it (R171): the segment moves
linearly between the two places, and holds its left end and not its right end (R160). -/
def sweptCells (a b : Swath) (w : Rat) (cell : Nat) : List (Int × Int) :=
  let (p, q) := a.ends w
  let (r, t) := b.ends w
  let lo := fun (x y z u : Rat) => (min (min x y) (min z u) / cell).floor
  let hi := fun (x y z u : Rat) => (max (max x y) (max z u) / cell).floor
  let x0 := lo p.1 q.1 r.1 t.1
  let x1 := hi p.1 q.1 r.1 t.1
  let y0 := lo p.2 q.2 r.2 t.2
  let y1 := hi p.2 q.2 r.2 t.2
  (List.range (y1 + 1 - y0).toNat).flatMap (fun j =>
    (List.range (x1 + 1 - x0).toNat).filterMap (fun i =>
      let cx := x0 + (i : Int)
      let cy := y0 + (j : Int)
      let x : Rat := (cx + 1 / 2 : Rat) * cell
      let y : Rat := (cy + 1 / 2 : Rat) * cell
      let da := a.ahead x y
      let db := b.ahead x y
      if 0 < da && db ≤ 0 then
        let c := (a.between b (da / (da - db))).right x y
        if -(w / 2) ≤ c && c < w / 2 then some (cx, cy) else none
      else none))

/-! ### Tile SRAM as a list of bytes -/

/-- The byte at an address; an unlisted address reads 0 (log 7). -/
def Memory.read (m : List Host.Cell) (a : Nat) : Byte :=
  match m with
  | [] => 0
  | (b, v) :: r => if b = a then v else if a < b then 0 else Memory.read r a

/-- Write one byte, keeping addresses rising and no entry 0. -/
def Memory.write (m : List Host.Cell) (a : Nat) (x : Byte) : List Host.Cell :=
  match m with
  | [] => if x = 0 then [] else [(a, x)]
  | (b, v) :: r =>
    if b < a then (b, v) :: Memory.write r a x
    else if b = a then (if x = 0 then r else (a, x) :: r)
    else (if x = 0 then (b, v) :: r else (a, x) :: (b, v) :: r)

def Memory.writes (m : List Host.Cell) (a : Nat) : List Byte → List Host.Cell
  | [] => m
  | x :: r => Memory.writes (Memory.write m a x) (a + 1) r

def Memory.reads (m : List Host.Cell) (a k : Nat) : List Byte :=
  (List.range k).map (fun i => Memory.read m (a + i))

/-- The canonical form: rising addresses, no byte equal to what an unlisted address reads as. -/
def Memory.wf (m : List Host.Cell) : Bool :=
  m.all (fun c => c.2 != 0) && (m.zip (m.drop 1)).all (fun p => decide (p.1.1 < p.2.1))

end Sys2Proof.Machine
end

