-- ==== Sys2Proof/Machine/Track.lean ====
section
/-! DEFINITION. What a sample port reads and a tracking channel is made of: sample coding, correlators
and their discriminators, loop settings, searches, handover and carrier smoothing (R58, R59, R63,
R67, R68, R70, R71, R73, R76). -/

namespace Sys2Proof.Machine

/-- The signals of R61, those on the lower band, those without a pilot, and BOC signals. -/
def sxSignals : List Nat := [0x01, 0x02, 0x11, 0x12, 0x21, 0x22, 0x31, 0x32]
def lowerBand (sig : Nat) : Bool := sig % 16 = 2
def dataOnly (sig : Nat) : Bool := sig = 0x01 || sig = 0x31
def bocSignal (sig : Nat) : Bool := sig = 0x11 || sig = 0x21

/-- Primary code period in ms, and chip rate in kcps (R61). -/
def codeMs (sig : Nat) : Nat := if sig = 0x11 then 4 else if sig = 0x21 then 10 else 1
def chipKcps (sig : Nat) : Nat := if lowerBand sig then 10230 else 1023

/-- Carrier frequency of a signal, in 10 kHz. -/
def carrier (sig : Nat) : Nat := if lowerBand sig then 117645 else 157542

/-! ### Sample ports (R55, R58, R59) -/

/-- The port is in the antenna configuration (R55). -/
def State.portOn (s : State) (p : Nat) : Bool := decide (p < 4) && (if p < 2 then s.cfgN .antennas ≠ 0 else s.cfgN .antennas = 2)

/-- The two-bit sample coding: bit 1 is the sign, bit 0 the magnitude. -/
def sampleValue (b : BitVec 2) : Int := (if b.getLsbD 1 then -1 else 1) * (if b.getLsbD 0 then 3 else 1)

/-- A sample pair as a port reads it: PORT_INV negates Q. -/
def State.samplePair (s : State) (p : Nat) (x : BitVec 2 × BitVec 2) : Int × Int :=
  (sampleValue x.1, if s.cfgI .portInv p = 1 then -sampleValue x.2 else sampleValue x.2)

/-- The fraction of magnitude bits set, over I and Q. -/
def magFraction (xs : List (BitVec 2 × BitVec 2)) : Rat :=
  ((xs.map (fun x => b2n (x.1.getLsbD 0) + b2n (x.2.getLsbD 0))).sum : Rat) / (2 * xs.length : Nat)

/-- A port's band centre, moved by PORT_IF, Hz. -/
def State.portCentre (s : State) (p : Nat) : Int := (if p % 2 = 0 then 1575420000 else 1176450000) + s.cfgI .portIf p

/-- A port reads the pairs of 100 ms: its last pair, its magnitude fraction, and INTERFERENCE where that
lies outside 15 % to 50 %. -/
def State.readPort (s : State) (p : Nat) (xs : List (BitVec 2 × BitVec 2)) (x : Port) : Port :=
  let c := { x with centre := s.portCentre p }
  if xs.isEmpty || !s.portOn p || x.fault then c
  else
    let f := magFraction xs
    { c with last := (xs.getLast?.map (s.samplePair p)).getD x.last, mags := some f,
             interference := decide (f < 15 / 100) || decide (50 / 100 < f) }

def State.takeSamples (s : State) (xs : List (List (BitVec 2 × BitVec 2))) : State :=
  s.updSextant (fun x => { x with ports := x.ports.zipIdx.map (fun q => s.readPort q.2 (xs.getD q.2 []) q.1) })

/-- Length of the baseline that GEOMETRY sets, mm. -/
def State.baseline (s : State) : Rat :=
  let d := fun (a b : Fld) => s.cfgI b - s.cfgI a
  let x := d .antAX .antBX
  let y := d .antAY .antBY
  let z := d .antAZ .antBZ
  sqrtR (x * x + y * y + z * z : Int)

/-! ### Correlators and loops (R70, R71, R73) -/

/-- d, the early-to-late spacing in chips. -/
def State.spacing (s : State) (sig : Nat) : Rat := (s.cfgN (if lowerBand sig then .spacingW else .spacingN) : Rat) / 65536

/-- The places of VE, NE, E, P, L, NL and VL against the prompt replica, in chips. -/
def corrPlaces (d : Rat) (boc : Bool) : List Rat :=
  let v : Rat := if boc then 1 / 2 else d
  [-v, -(d / 4), -(d / 2), 0, d / 2, d / 4, v]

/-- The magnitude of a correlator's output. -/
def tapMag (ts : List (Int × Int)) (i : Nat) : Rat :=
  let t := ts.getD i (0, 0)
  sqrtR (t.1 * t.1 + t.2 * t.2 : Int)

/-- D(s) of two correlator magnitudes (R71); where both are 0 the spec states no value, and it is free (log 132). -/
def discr (sp a b : Rat) : Rat := if a + b = 0 then Config.discrNone sp else (1 - sp / 2) * (a - b) / (a + b)

/-- D(d/2), of NE and NL. -/
def discrNarrow (d : Rat) (ts : List (Int × Int)) : Rat := discr (d / 2) (tapMag ts 1) (tapMag ts 5)

/-- D(d), of E and L. -/
def discrWide (d : Rat) (ts : List (Int × Int)) : Rat := discr d (tapMag ts 2) (tapMag ts 4)

/-- The code discriminator that drives the code loop: D_DD with DD_ENABLE, else D(d). -/
def State.codeError (s : State) (sig : Nat) (ts : List (Int × Int)) : Rat :=
  let d := s.spacing sig
  if s.cfgB .ddEnable then 2 * discrNarrow d ts - discrWide d ts else discrWide d ts

/-- The multipath indicator M, in mm by the chip length. -/
def State.multipath (s : State) (sig : Nat) (ts : List (Int × Int)) : Int :=
  let d := s.spacing sig
  roundRat ((discrNarrow d ts - discrWide d ts) * 299792458 / (chipKcps sig : Rat))

/-- The arctangent of a number of at most 1 in magnitude, radians, by two half-angle steps and its series. -/
def atanUnit (x : Rat) : Rat :=
  let half := fun (y : Rat) => y / (1 + sqrtR (1 + y * y))
  let y := q48 (half (half x))
  4 * (List.range 12).foldl (fun a k => a + (if k % 2 = 0 then 1 else -1) * y ^ (2 * k + 1) / ((2 * k + 1 : Nat) : Rat)) 0

/-- The two-quadrant arctangent of q / i, and the four-quadrant one, radians. -/
def costasAtan (i q : Rat) : Rat :=
  if i = 0 ∧ q = 0 then Config.phaseNone
  else if ratAbs q ≤ ratAbs i then atanUnit (q / i)
  else (if 0 ≤ q * i then piR / 2 else -(piR / 2)) - atanUnit (i / q)
def fullAtan (i q : Rat) : Rat :=
  if 0 ≤ i then (if i = 0 ∧ q < 0 then -(piR / 2) else costasAtan i q)
  else if 0 ≤ q then costasAtan i q + piR else costasAtan i q - piR

/-- The PLL discriminator on the prompt correlator: Costas on data-only signals, four-quadrant on pilots (R73). -/
def carrierError (sig : Nat) (ts : List (Int × Int)) : Rat :=
  let p := ts.getD 3 (0, 0)
  if dataOnly sig then costasAtan p.1 p.2 else fullAtan p.1 p.2

/-- Coherent integration time, ms: T_COH on pilots, whose primary code no image's T_COH is below (moduleRule); on
L1 C/A data by bit sync. -/
def State.cohMs (s : State) (c : TrkCh) : Nat :=
  if dataOnly c.signal then (if c.bitSync then 20 else 1) else s.cfgN .tCoh

/-- A channel with its correlators placed, its loops set and its NCO at its Doppler. -/
def State.tune (s : State) (c : TrkCh) : TrkCh :=
  { c with places := corrPlaces (s.spacing c.signal) (bocSignal c.signal),
           loops := { dll := s.cfgN .dllBw, pll := s.cfgN .pllBw, fll := if c.fll then some (s.cfgN .fllBw) else none,
                      coh := s.cohMs c, costas := dataOnly c.signal, dd := s.cfgB .ddEnable },
           nco := 256 * s.cfgI .portIf c.port + c.feed + c.car }

/-- How far the carrier loop's frequency moves the code phase between epochs, 2^-16 chip of 1.023 Mcps: the code loop
is carrier-aided (R73). -/
def State.codeAid (s : State) (c : TrkCh) : Int :=
  roundRat (-(((c.feed + c.car : Int) : Rat) / 256) / ((carrier c.signal * 10000 : Nat) : Rat) * 1023000 * 65536 / (max 1 (s.cfgN .epochRate) : Nat))

/-- What an epoch measures on a channel and what its loops make of it (R71, R73): correlators and bit sync; with
AID_LOOPS the Doppler predicted from the latest fusion output is fed forward and the PLL tracks the residual; the
carrier loop is driven by its arctangent, the carrier-aided code loop by the code discriminator. -/
def State.track (s : State) (c : TrkCh) (o : MeasObs) : TrkCh :=
  let feed := if s.cfgB .aidLoops then o.doppler - o.dopErr else 0
  let l := (s.tune { c with bitSync := o.bitSync }).loops
  let c := { c with feed := feed, car := Config.carrierLoop l.pll l.fll l.coh (carrierError c.signal o.taps) (c.car + c.feed - feed) }
  s.tune { c with code := Config.codeLoop l.dll l.coh (s.codeError c.signal o.taps) (c.code + s.codeAid c),
                  doppler := o.doppler, taps := o.taps, bitSync := o.bitSync }

/-! ### Self-test (R98) and release -/

/-- The running activity of a code, its parameters read. -/
def State.running (s : State) (code : Nat) : Option Activity := s.acts.find? (fun a => a.code = code && a.ready)

/-- The channels that the self-test has out of service: eight at a time, for 50 ms each (R98).  DESIGN CHOICE
(log 149): channels 8 k to 8 k + 7 in the k-th 50 ms. -/
def State.underTest (s : State) (ch : Nat) : Bool :=
  match s.running 6 with
  | some a => (s.now - a.start) / (50 * msTicks) = ch / 8
  | none => false

/-- Free channels: what engines search or have detected for them is given up, and the engines are idle again. -/
def State.freeTrk (s : State) (p : TrkCh → Bool) : State :=
  s.updSextant (fun x =>
    let gone := fun (n : Nat) => x.chans.any (fun c => c.ch = n && p c)
    { x with chans := x.chans.filter (fun c => !p c),
             engines := x.engines.map (fun e =>
               if e.search.any (fun q => gone q.ch) || e.det.any (fun d => gone d.ch) then { e with search := none, det := none } else e) })

/-! ### Search, start and stop of a channel (R67, R68) -/

/-- Coherent time (ms), sums and Doppler bin (Hz) of a search. -/
def searchTable (sig : Nat) : Nat × Nat × Nat :=
  if sig = 0x11 then (4, 4, 125) else if sig = 0x21 then (10, 2, 50) else (1, 16, 500)

/-- Doppler window of the search in progress, Hz. -/
def State.window (s : State) : Nat := [6000, 1000, 200].getD s.nav.sx.start 6000

def State.searchFor (s : State) (c : TrkCh) : Search :=
  let (coh, sums, bin) := searchTable c.signal
  { ch := c.ch, signal := c.signal, svid := c.svid, cohMs := coh, sums := sums, binHz := bin,
    centreHz := if s.nav.sx.start = 0 then 0 else c.pred, windowHz := s.window }

/-- A channel that awaits a search: an upper-band signal on antenna A, not started. -/
def TrkCh.waits (c : TrkCh) : Bool := c.port = 0 && !c.begun

/-- Idle engines in service take waiting channels, each in order (log 79). -/
def State.assignSearches (s : State) : State :=
  let busy := s.nav.sx.engines.filterMap (fun e => e.search.map (·.ch))
  let cs := (s.nav.sx.chans.filter (fun c => c.waits && !busy.contains c.ch))
  let free := s.nav.sx.engines.zipIdx.filter (fun q => q.1.search.isNone && q.1.det.isNone && !q.1.bad)
  s.each (free.zip cs) (fun s q => s.updSextant (fun x =>
    { x with engines := x.engines.modify q.1.2 (fun e => { e with search := some (s.searchFor q.2) }) }))

/-- Hand code phase and Doppler over to a channel, the Doppler scaled for the lower band (R68). -/
def State.handOver (s : State) (u c : TrkCh) : TrkCh :=
  let d := if lowerBand c.signal then roundRat ((u.doppler : Rat) * 117645 / 157542) else u.doppler
  s.tune { c with begun := true, handed := some s.now, code := u.code, doppler := d, car := d, feed := 0 }

/-- The channels of a satellite that are not searched and not started are handed over from its locked
upper-band channel on antenna A, both in service (R98). -/
def State.handOvers (s : State) : State :=
  s.updSextant (fun x => { x with chans := x.chans.map (fun c =>
    if c.port = 0 || c.begun || s.underTest c.ch then c
    else match x.chans.find? (fun u => u.sys = c.sys && u.svid = c.svid && u.port = 0 && u.locked && !s.underTest u.ch) with
      | some u => s.handOver u c
      | none => c) })

/-- A channel stops: it has no lock and has to be started again (R59). -/
def State.stopTrk (s : State) (c : TrkCh) : TrkCh :=
  s.tune { c with locked := false, fll := true, begun := false, handed := none }

/-! ### Carrier smoothing (R76) -/

/-- Length of 2^-16 cycle, in 2^-10 m. -/
def cycleLen (sig : Nat) : Rat := 299792458 * 1024 / ((carrier sig * 10000 * 65536 : Nat) : Rat)

/-- Carrier smoothing over SMOOTH_S: the weighted mean of log 80, begun anew at a slip; none when off. -/
def State.smoothed (s : State) (c : TrkCh) (pr : Nat) (cp : Int) (slip : Bool) : Option (Nat × Rat × Int) :=
  if s.cfgN .smoothS = 0 then none
  else match if slip then none else c.smooth with
    | none => some (1, pr, cp)
    | some (n, p, old) =>
      let k := min (n + 1) (max 1 (s.cfgN .smoothS * s.cfgN .epochRate))
      some (k, (pr : Rat) / k + (k - 1 : Nat) / (k : Rat) * (p + cycleLen c.signal * (cp - old : Int)), cp)

/-! ### Orbits (R63, R97, R384) -/

/-- Satellite number and issue of an orbit message, at the places RTCM 10403 gives them (log 81). -/
def orbitKey (msg : Nat) (body : List Byte) : Nat × Nat :=
  if msg = 1044 then (rtcmField body 12 4, rtcmField body 78 8)
  else (rtcmField body 12 6, if msg = 1046 then rtcmField body 30 10 else if msg = 1042 then rtcmField body 49 5 else rtcmField body 48 8)

/-- The same kind of orbit of the same satellite. -/
def Orbit.same (a b : Orbit) : Bool :=
  a.eph = b.eph && a.msg = b.msg && (orbitKey a.msg a.body).1 = (orbitKey b.msg b.body).1

/-- Hold an orbit in place of the one held of its kind, message and satellite.  DESIGN CHOICE (log 139): whatever
the issue of either, the one that comes later is held. -/
def Aid.hold (a : Aid) (o : Orbit) : Aid := { a with orbits := o :: a.orbits.filter (fun x => !o.same x) }

/-- Aided ephemeris gives way to ephemeris of the sky of the same issue (R97, log 82). -/
def Aid.beaten (a : Aid) (o : Orbit) : Bool :=
  o.eph && a.orbits.any (fun x => x.sky && o.same x && orbitKey x.msg x.body = orbitKey o.msg o.body)

end Sys2Proof.Machine
end

