-- ==== Sys2Proof/Machine/Image.lean ====
section
/-! DEFINITION. Reading a configuration image and checking it as staging and firing do (R396 to R399,
R404): header, directory, CRCs, digest, field records, ranges, cross-field rules and the static
profile checks of R231. -/

namespace Sys2Proof.Machine

/-- One directory entry: ID, OFFSET, SIZE and CRC. -/
structure SecDir where
  id : Nat := 0
  off : Nat := 0
  size : Nat := 0
  crc : Nat := 0
  deriving DecidableEq, Repr, Inhabited

def imgLength (bs : List Byte) : Nat := leAt bs 8 4
def imgDigest (bs : List Byte) : DWord := BitVec.ofNat 64 (leAt bs 20 8)

def imgDirs (bs : List Byte) : List SecDir :=
  (List.range (leAt bs 6 1)).map (fun k =>
    { id := leAt bs (64 + 16 * k) 1, off := leAt bs (68 + 16 * k) 4, size := leAt bs (72 + 16 * k) 4,
      crc := leAt bs (76 + 16 * k) 4 })

/-- No two bodies share a byte. -/
def disjoint : List SecDir → Bool
  | [] => true
  | d :: r => r.all (fun e => d.size = 0 || e.size = 0 || d.off + d.size ≤ e.off || e.off + e.size ≤ d.off) && disjoint r

/-- Check 1 of R404. -/
def imgShape (bs : List Byte) (bufLen : Nat) : Bool :=
  let n := imgLength bs
  leAt bs 0 4 = 0x5D96C0F1 && leAt bs 4 1 = 1 && 64 + 16 * leAt bs 6 1 ≤ n
    && (imgDirs bs).all (fun d => d.off + d.size ≤ n) && disjoint (imgDirs bs) && n ≤ bufLen

/-- One field record: FIELD, INDEX and VALUE (R397). -/
def records : Nat → List Byte → Option (List (Nat × Nat × List Byte))
  | 0, bs => if bs.isEmpty then some [] else none
  | k + 1, bs =>
    if bs.isEmpty then some []
    else
      let len := leAt bs 4 2
      let pad := (len + 3) / 4 * 4
      if bs.length < 8 + len then none
      else match records k (bs.drop (8 + pad)) with
        | some r => some ((leAt bs 0 2, leAt bs 2 2, (bs.drop 8).take len) :: r)
        | none => none

/-- Fields whose range admits negative values (R397). -/
def fldSigned (f : Fld) : Bool := f.info.chk.signed

/-- How many indices of a scope the variant has (R1, R3). -/
def scopeSize (variant : Nat) (c : Scope) : Nat :=
  if variant = 0 then c.size
  else match c with
    | .chan => 48 | .group => 6 | .seq => 6 | .quad => 2
    | .per 12 e => 6 * e
    | .per 96 e => 48 * e
    | c => c.size

/-- Add one record to the values, where it breaks no rule of R397 (REASON 3 otherwise). -/
def addRecord (variant sec : Nat) (v : CfgVals) (r : Nat × Nat × List Byte) : Option CfgVals :=
  match fieldAt sec r.1 with
  | none => none
  | some f =>
    let i := f.info
    let len := r.2.2.length
    if scopeSize variant i.scope ≤ r.2.1 then none
    else if i.width = 0 then
      let max := match i.chk with | .blob m => m | _ => 0
      if max < len || v.blobs.any (fun b => b.1 = f && b.2.1 = r.2.1) then none
      else some { v with blobs := v.blobs ++ [(f, r.2.1, r.2.2)] }
    else if len ≠ i.width || v.vals.any (fun b => b.1 = f && b.2.1 = r.2.1) then none
    else
      let x : Int := if fldSigned f then sgn (8 * len) (ofLe r.2.2) else ofLe r.2.2
      if i.chk.ok x then some { v with vals := v.vals ++ [(f, r.2.1, x)] } else none

def addAll (variant sec : Nat) : CfgVals → List (Nat × Nat × List Byte) → Option CfgVals
  | v, [] => some v
  | v, r :: rs => match addRecord variant sec v r with
    | some w => addAll variant sec w rs
    | none => none

/-- The values of the sections of an image (R396, R397). -/
def readSections (variant : Nat) (bs : List Byte) : CfgVals → List SecDir → Option CfgVals
  | v, [] => some v
  | v, d :: ds =>
    if d.off % 4 ≠ 0 || d.id = 0 || 11 < d.id || ds.any (fun e => e.id = d.id) then none
    else match records (d.size / 8 + 1) ((bs.drop d.off).take d.size) with
      | none => none
      | some rs => match addAll variant d.id v rs with
        | some w => readSections variant bs w ds
        | none => none

/-! ### IMU_PROFILE (R111, R397) -/

/-- One quantity in the burst: byte offset, 32-bit width, signed, scale as IEEE 754 bits. -/
structure ImuQ where
  off : Nat := 0
  wide : Bool := false
  signed : Bool := false
  scale : Nat := 0
  deriving DecidableEq, Repr, Inhabited

structure ImuProfile where
  inits : List (List Byte) := []
  cmd : List Byte := []
  read : Nat := 8
  qs : List ImuQ := []
  statusOff : Nat := 0
  statusWidth : Nat := 16
  statusMask : Nat := 0
  crcKind : Nat := 0
  crcPoly : Nat := 0
  crcInit : Nat := 0
  deriving DecidableEq, Repr, Inhabited

/-- The initialisation transfers, and what follows them. -/
def imuInits : Nat → List Byte → Option (List (List Byte) × List Byte)
  | 0, bs => some ([], bs)
  | k + 1, bs =>
    let n := leAt bs 0 1
    if n < 1 || 8 < n || bs.length < 1 + n then none
    else match imuInits k (bs.drop (1 + n)) with
      | some (r, t) => some ((bs.drop 1).take n :: r, t)
      | none => none

/-- Read an IMU_PROFILE; none where it breaks the ranges of R397. -/
def imuParse (bs : List Byte) : Option ImuProfile :=
  if bs.isEmpty || 16 < leAt bs 0 1 then none
  else match imuInits (leAt bs 0 1) (bs.drop 1) with
    | none => none
    | some (inits, t) =>
      let c := leAt t 0 1
      let r := t.drop (1 + c)
      let q := r.drop 1
      let st := q.drop 42
      if 4 < c || leAt r 0 1 < 8 || 64 < leAt r 0 1 || t.length ≠ 1 + c + 1 + 42 + 6 + 5 then none
      else if (leAt st 1 1 ≠ 16 && leAt st 1 1 ≠ 32) || 2 < leAt st 6 1 then none
      else some
        { inits := inits, cmd := (t.drop 1).take c, read := leAt r 0 1,
          qs := (List.range 7).map (fun k =>
            { off := leAt q (6 * k) 1, wide := leAt q (6 * k + 1) 1 % 2 = 1, signed := leAt q (6 * k + 1) 1 / 2 % 2 = 1,
              scale := leAt q (6 * k + 2) 4 }),
          statusOff := leAt st 0 1, statusWidth := leAt st 1 1, statusMask := leAt st 2 4, crcKind := leAt st 6 1,
          crcPoly := leAt st 7 2, crcInit := leAt st 9 2 }

/-! ### Program stores and profiles (R226, R231) -/

/-- The 24-bit words of a PROG value; none where it breaks R397. -/
def imgWords : Nat → List Byte → Option (List (BitVec 24))
  | 0, bs => if bs.isEmpty then some [] else none
  | k + 1, bs =>
    if bs.isEmpty then some []
    else if bs.length < 4 || leAt bs 3 1 ≠ 0 then none
    else match imgWords k (bs.drop 4) with
      | some r => some (BitVec.ofNat 24 (leAt bs 0 3) :: r)
      | none => none

def CfgVals.prog (v : CfgVals) (g : Nat) : Option (List (BitVec 24)) := imgWords 512 (v.blob .prog g)

/-- Header `p` of sequencer `g`; empty where the image fills none. -/
def CfgVals.hdr (v : CfgVals) (g p : Nat) : BitVec 128 :=
  match v.get? .hdr (16 * g + p) with
  | some x => BitVec.ofInt 128 x
  | none => BitVec.allOnes 128

/-- Where control can go after an instruction at `a`: none where a target lies outside START to LAST,
or the word is reserved. -/
def seqSuccs (st last a : Nat) (w : BitVec 24) : Option (List Nat) :=
  let tgt := fun (t : BitVec 9) (fall : Bool) =>
    if t.toNat < st || last < t.toNat then none
    else some (if fall then [t.toNat, a + 1] else [t.toNat])
  match decodeSeq w with
  | none => none
  | some (.jmp t) => tgt t false
  | some (.jc _ t) => tgt t true
  | some (.loop _ _ t) => tgt t true
  | some .holdw => some []
  | some .end_ => some []
  | some _ => some [a + 1]

/-- A waiting instruction (R231). -/
def seqWaits (w : BitVec 24) : Bool :=
  match decodeSeq w with
  | some (.waiti _ _ _ _) => true | some (.waitt _ _) => true | some .holdw => true | _ => false

def seqOverTarget (w : BitVec 24) : Bool :=
  match decodeSeq w with
  | some (.itgt _ _ reg val) => !reg && 4000 < 2 * val.toNat
  | _ => false

/-- The reachable addresses, or none where a case of R230 is reachable. -/
def seqReach (prog : List (BitVec 24)) (st last : Nat) : Nat → List Nat → List Nat → Option (List Nat)
  | 0, seen, _ => some seen
  | _ + 1, seen, [] => some seen
  | k + 1, seen, a :: todo =>
    if seen.contains a then seqReach prog st last k seen todo
    else if last < a then none
    else match prog[a]? with
      | none => none
      | some w => match seqSuccs st last a w with
        | none => none
        | some n => seqReach prog st last k (a :: seen) (n ++ todo)

/-- Drop nodes without a successor in the set, `k` times; what is left lies on or before a cycle. -/
def seqCyclic (succ : Nat → List Nat) : Nat → List Nat → Bool
  | 0, xs => !xs.isEmpty
  | k + 1, xs => seqCyclic succ k (xs.filter (fun a => (succ a).any xs.contains))

/-- The static checks of a store as a whole, reached by a profile or not (R231): no immediate target above
4,000 mA, and no LOOP or JMP cycle without a waiting instruction. -/
def progOk (prog : List (BitVec 24)) : Bool :=
  let w := fun a => prog.getD a 0
  let succ := fun a => (seqSuccs 0 (prog.length - 1) a (w a)).getD []
  !prog.any seqOverTarget
    && !seqCyclic succ (prog.length + 1) ((List.range prog.length).filter (fun a => !seqWaits (w a)))

/-- The static checks of one profile (R231). -/
def profileOk (prog : List (BitVec 24)) (h : BitVec 128) : Bool :=
  let st := hdrStart h
  let last := hdrLast h
  if hdrEmpty h then true
  else if last < st || hdrDecay h = 3 then false
  else match seqReach prog st last 2048 [] [st] with
    | none => false
    | some seen =>
      let w := fun a => prog.getD a 0
      let succ := fun a => (seqSuccs st last a (w a)).getD []
      !seen.any (fun a => seqOverTarget (w a))
        && !seqCyclic succ (seen.length + 1) (seen.filter (fun a => !seqWaits (w a)))

/-! ### Rules over several fields (R399) -/

/-- What the checks know besides the image. -/
structure ImgEnv where
  variant : Nat := 0
  fw : Nat := 1
  straps : List Nat := []
  serial : Nat := 1
  deriving DecidableEq, Repr, Inhabited

abbrev allChs (e : ImgEnv) : List Nat := List.range (if e.variant = 0 then 96 else 48)

section rules
variable (e : ImgEnv) (v : CfgVals)

/-- A value, its default included. -/
def iv (f : Fld) (i : Nat := 0) : Int := v.val e.straps e.serial f i

def imgLoops : List Nat := (List.range 32).filter (fun n => iv e v .loopEn n ≠ 0)

def imgSink (n : Nat) : Sink := decodeSink (iv e v .oSink n)

def imgInUse (ch : Nat) : Bool :=
  iv e v .chEnable ch ≠ 0 || (imgLoops e v).any (fun n => imgSink e v n == .vcDuty ch)

/-- The inner loop chain of a loop, at most `k` long. -/
def imgChain : Nat → Nat → List Nat
  | 0, n => [n]
  | k + 1, n => match imgSink e v n with
    | .cascade m => n :: imgChain k m
    | _ => [n]

def sinkExists : Sink → Bool
  | .none => true
  | .lsDuty n => n < 16
  | .lsBridge k => k < 8
  | .vcDuty ch => ch < (if e.variant = 0 then 96 else 48)
  | .can f => f < 32
  | .cascade m => m < 32

/-- The rules of R237 and R244 on one enabled loop. -/
def loopRule (n : Nat) : Bool :=
  let k := imgSink e v n
  let u := fun (f : Fld) (i : Nat) => iv e v f i
  let cf := roundRat (65536 * (u .dTf n) / ((u .dTf n + u .period n : Int) : Rat))
  let named := (imgLoops e v).any (fun m => imgSink e v m == .cascade n)
  sinkExists e k
    && (k == .none || !(imgLoops e v).any (fun m => m ≠ n && imgSink e v m == k))
    && (imgChain e v 5 n).length ≤ 4
    && (u .spSrc n ≠ 3 || named)
    && (u .spSrc n ≠ 1 || (v.get? .spChannels n).getD 0 < (2 : Int) ^ (if e.variant = 0 then 96 else 48))
    && (u .spSrc n ≠ 2 || (List.range 15).all (fun i => u .spTx (16 * n + i) ≤ u .spTx (16 * n + i + 1)))
    && cf ≠ 65536
    && (match k with
      | .vcDuty ch => u .chEnable ch = 0 && 0 < u .pwmHz (ch / 24)
      | .lsBridge p => u .pairMode p = 1
      | .lsDuty m => m % 2 = 0 || u .pairMode (m / 2) = 0
      | _ => true)

/-- The ranges of R260 that depend on other fields, and its lists, on any loop. -/
def loopRange (n : Nat) : Bool :=
  let u := fun (f : Fld) (i : Nat) => iv e v f i
  let r := sinkRange (imgSink e v n)
  let inR := fun (x : Int) => r.1 ≤ x && x ≤ r.2
  mSrcOk (u .mSrc n) && sinkCodeOk (u .oSink n)
    && inR (u .uMin n) && inR (u .uMax n) && u .uMin n ≤ u .uSafe n && u .uSafe n ≤ u .uMax n
    && u .iMin n < u .iMax n && u .phase n < u .period n

/-- The rules of R283 on a pair. -/
def pairRule (k : Nat) : Bool :=
  let u := fun (f : Fld) (i : Nat) => iv e v f i
  let a := 2 * k
  let b := 2 * k + 1
  (u .pairMode k = 0 || (u .lsEnable a ≠ 0 && u .lsEnable b ≠ 0))
    && (u .pairMode k ≠ 2 || (u .loadTo a = 0 && u .loadTo b = 0 && u .ocLimit a = u .ocLimit b))
    && u .ocLimit a ≤ u .inrushLimit a && u .ocLimit b ≤ u .inrushLimit b

/-- The rules of R338 on a bus. -/
def busRule (b : Nat) : Bool :=
  let u := fun (f : Fld) (i : Nat) => iv e v f i
  (u .fdEn b ≠ 0 || (u .dataRate b = 2 && u .tdc b = 0
      && (List.range 128).all (fun i => u .filtAction (128 * b + i) = 0 || u .filtFdf (128 * b + i) ≠ 2)))
    && (u .timeRole b = 0 || 0 ≤ u .timeId b)
    && (u .arbAddr b = 0 || (128 ≤ u .prefAddr b && u .prefAddr b ≤ 247))

def txfRule (f : Nat) : Bool :=
  let x := (iv e v .txfField f).toNat
  x % 256 ≤ 7 && [8, 16, 32].contains (x / 256)

/-- R185 on a group. -/
def groupRule (g : Nat) : Bool :=
  (((List.range 8).map (fun i => if imgInUse e v (8 * g + i) then iv e v .iHoldMax (8 * g + i) else 0)).sum) ≤ 8000

/-- R159, R210 and R231 on a channel. -/
def chanRule (ch : Nat) : Bool :=
  let u := fun (f : Fld) (i : Nat) => iv e v f i
  let lim := u .horizon 0 * 1000 - 10500
  (u .defDOn ch + u .trTime ch ≤ lim && u .defDOff ch + u .trTime ch ≤ lim)
    && (!imgInUse e v ch || !hdrEmpty (v.hdr (ch / 8) (u .chProfile ch).toNat))

/-- The rules of R34, R73, R95, R105, R125, R300 and R436. -/
def moduleRule : Bool :=
  let u := fun (f : Fld) => iv e v f 0
  let sq := fun (x : Int) => x * x
  let d := sq (u .antBX - u .antAX) + sq (u .antBY - u .antAY) + sq (u .antBZ - u .antAZ)
  (u .antennas ≠ 2 || (1000 * 1000 ≤ d && d ≤ 5000 * 5000))
    && 1000 + 50 * u .epochRate ≤ u .gnssAgeMax * u .epochRate
    && u .workHyst ≤ u .workSpeed
    && u .tpWidth * 2 ≤ u .tpPeriod * 1000
    && (sxSignals.all (fun g => dataOnly g || !(BitVec.ofInt 64 (u .signals)).getLsbD g || decide ((codeMs g : Int) ≤ u .tCoh)))
    && iv e v .aiZeroEn (u .articAi).toNat = 0
    && u .sagMv * 100 ≤ 95 * 1000 * (st0Class (e.straps.getD 0 7) : Int)
    && (match v.blobs.find? (fun b => b.1 = .imuProfile) with
      | some b => (imuParse b.2.2).isSome
      | none => true)

/-- The rules of R399 over the values of an image. -/
def imgRules : Bool :=
  moduleRule e v
    && (List.range 8).all (pairRule e v)
    && (List.range 4).all (busRule e v)
    && (List.range 32).all (txfRule e v)
    && (List.range 32).all (loopRange e v)
    && (imgLoops e v).all (loopRule e v)
    && (List.range 12).all (groupRule e v)
    && (allChs e).all (chanRule e v)
    && (List.range 12).all (fun g => match v.prog g with
      | some p => progOk p && (List.range 16).all (fun k => profileOk p (v.hdr g k))
      | none => false)

end rules

/-- Check an image in the order of R404: its values, or the REASON of R381. -/
def checkImage (e : ImgEnv) (bs : List Byte) (bufLen : Nat) : Except Nat CfgVals :=
  let n := imgLength bs
  if !imgShape bs bufLen then .error 3
  else if n < 96 || flashSize (.slot 0) < n then .error 4
  else if leAt bs 5 1 ≠ e.variant then .error 1
  else if e.fw < leAt bs 12 4 || leAt bs 16 4 < e.fw then .error 5
  else if digestOf ((bs.take n).drop 64) ≠ imgDigest bs
      || (imgDirs bs).any (fun d => (crc32 ((bs.drop d.off).take d.size)).toNat ≠ d.crc) then .error 2
  else if leAt bs 6 1 < 1 || 11 < leAt bs 6 1 || !(imgDirs bs).all (fun d => 64 + 16 * leAt bs 6 1 ≤ d.off || d.size = 0) then .error 3
  else match readSections e.variant bs {} (imgDirs bs) with
    | none => .error 3
    | some v => if imgRules e v then .ok v else .error 3

/-- The firing check: digest, section CRCs and the rules (R406); REASON 2 or 3. -/
def recheckImage (e : ImgEnv) (bs : List Byte) : Except Nat CfgVals :=
  match checkImage e bs bs.length with
  | .error 2 => .error 2
  | .error _ => .error 3
  | .ok v => .ok v

/-- What the checks know of this module. -/
def State.imgEnv (s : State) : ImgEnv :=
  { variant := s.dev.variant, fw := s.dev.fwVersion, straps := s.dev.straps, serial := s.dev.serial }

/-- The header-only facts an image reports (R396). -/
def imgModel (bs : List Byte) : List Byte := slice bs 32 24

end Sys2Proof.Machine
end

