-- ==== Sys2Proof/Machine/LoopRows.lean ====
section
/-! DEFINITION. The meanings of the rate loop and trace rows (R234 to R261), but for LOOP_CHECK, which
faults the module. -/

namespace Sys2Proof.Machine

/-- The tag of the activity that claims a loop, in TUNE or below a loop in TUNE, or all of them (R261, R374,
R405). -/
def State.loopHolder (s : State) (n : Nat) : Option (BitVec 16) := s.holderOf [.loop n]

/-- Judge one loop command on its sample instant (R238 step 3) and complete it. -/
def State.loopCmd (s : State) (n : Nat) (w : Waiting) : State :=
  let l := s.loop n
  match s.loopHolder n with
  | some t => s.finish w .busyMaint (holderRes t)
  | none =>
    match w.cmd with
    | .loopClose .. =>
      if l.st == LoopSt.faulted then s.finish w .wrongState 0
      else if l.st == .closed then s.finish w .ok 0
      else if l.measOk then (s.closeLoop n).finish w .ok 0
      else s.finish w .faultHeld 0
    | .loopOpen _ _ _ safe =>
      if l.st == LoopSt.faulted then s.finish w .wrongState 0
      else if l.st == .opened then (if safe then s.setOut n (s.uSafe n) else s).finish w .ok 0
      else
        let s := if safe then s.setOut n (s.uSafe n) else s.setOut n l.uOut
        (s.updLoop n (fun l => { l with st := .opened, closing := false, holdFrom := none, feFrom := none })).finish w .ok 0
    | .loopSetpoint _ _ _ r =>
      if s.cfgN .spSrc n ≠ 0 then s.finish w .wrongState 0
      else
        let v := clampI (s.cfgI .spMin n) (s.cfgI .spMax n) r.toInt
        (s.updLoop n (fun l => { l with rHost := some v })).finish w (okOr (v ≠ r.toInt)) (resultOf [(128, 32, twos 32 v)])
    | .loopOutput _ _ _ u =>
      if l.st != .opened then s.finish w .wrongState 0
      else
        let v := clampI (s.cfgI .uMin n) (s.cfgI .uMax n) u.toInt
        (s.setOut n v).finish w (okOr (v ≠ u.toInt)) (resultOf [(128, 32, twos 32 v)])
    | .loopCoef _ _ _ kp ki kd dTf =>
      if l.st == .closed then s.finish w .wrongState 0
      else
        let t := min 10000000 dTf.toNat
        let (c, cut) := coefOf kp.toInt ki.toInt kd.toInt t (s.cfgI .period n)
        let clamped := cut || decide (t ≠ dTf.toNat)
        (s.updLoop n (fun l => { l with coefNext := some c })).finish w (okOr clamped)
          (resultOf [(128, 32, twos 32 c.ci), (160, 32, twos 32 c.cf), (192, 32, twos 32 c.cd)])
    | .loopClear .. =>
      if l.st != LoopSt.faulted then s.finish w .wrongState 0
      else
        let held := (l.cause = 1 && !l.measOk) || (l.cause = 3 && s.sinkLost n)
        if held then s.finish w .faultHeld (resultOf [(128, 8, l.cause)])
        else ((s.loopSafe n).updLoop n (fun l => { l with cleared := true })).finish w .ok 0
    | _ => s

/-- The commands that wait for loop `n`'s sample, in CMD ring order. -/
def State.loopCmds (s : State) (n : Nat) : State :=
  let mine := s.host.outstanding.filter (fun w =>
    0x51 ≤ w.op.toNat && w.op.toNat ≤ 0x56 && w.aux.headD 99 = n)
  s.each mine (fun s w => s.loopCmd n w)

/-- One sample of a loop, in the order of R238. -/
def State.loopSample (s : State) (n : Nat) : State :=
  if s.sampleDue n then
    let was := s.loop n
    let s := s.applyOutputs
    let s := s.loopMeasure n
    let s := s.loopCmds n
    let l := s.loop n
    let s := if l.closing && l.st == .opened then
        (if l.measOk then s.closeLoop n
         else (s.updLoop n (fun l => { l with closing := false })).raise 0x5003 n [] false)
      else s
    let s := s.loopTarget n
    let l := s.loop n
    let s := match s.acts.find? (fun a => a.code = 3 && a.ready && a.loop = n) with
      | some a => if l.st != LoopSt.faulted then s.relaySample n a.params else s
      | none => s
    let l := s.loop n
    let s := if l.st == .closed && l.holdFrom.isNone then
        let (bad, s) := s.feCheck n
        let eCut : BitVec 5 := if overQ (l.n.rs - l.n.y) then 16 else 0
        if bad then (s.loopFault n 2).noteSat n (l.conds ||| eCut) else s.loopLaw n
      else s.noteSat n l.conds
    let s := s.updLoop n (fun l => { l with sampled := some s.now, cascOpen := s.cascadeOpen n })
    let l := s.loop n
    s.recordTraces n (l.st == LoopSt.faulted && was.st != LoopSt.faulted) l.justClosed
  else s

/-- MEAS_LOST (R238, R250): the first sample of a loop on which its measurement has been invalid for MEAS_HOLD;
that sample's step 2 decides the fault. -/
def execMeasLost (dt loop : Nat) (s : State) : Out :=
  let s := s.advance dt
  let l := s.loop loop
  .next (match l.holdFrom with
    | some m =>
      if l.st == .closed && m + s.cfgN .measHold loop * msTicks ≤ s.now then s.loopSample loop else s
    | none => s)

/-! ### Trace writing (R259) -/

/-- The header descriptor of a trace. -/
def State.traceHeader (s : State) (k : Nat) : Desc :=
  let t := s.trace k
  let T := s.cfgN .period t.loop * usTicks
  descOf [(0, 8, 1), (16, 16, s.loops.traceSeq.toNat), (32, 2, k), (34, 5, t.loop), (40, 8, t.cause), (48, 16, t.pre),
    (64, 64, (t.samples.headD {}).mt), (128, 40, T * t.dec), (168, 5, t.sticky.toNat), (176, 16, 4096)]

/-- The pair of descriptors of sample `i`. -/
def sampleDescs (seq : BitVec 16) (i : Nat) (x : TrSample) : List Desc :=
  let n := x.n
  let q := fun (v : Int) => twos 32 v
  [descOf [(0, 8, 2), (16, 16, seq.toNat), (32, 32, q n.e), (64, 32, q n.p), (96, 32, q n.i), (128, 32, q n.d),
     (160, 32, q n.v), (192, 32, q n.u), (224, 32, q n.y)],
   descOf [(0, 8, 3), (16, 16, seq.toNat), (32, 12, i), (48, 5, x.sat.toNat), (53, 1, b2n x.ramping),
     (54, 1, b2n x.measOk), (55, 1, b2n x.closed), (64, 32, q n.rs)]]

/-- The FLAGS of a pair's second descriptor (R259). -/
def State.traceFlags (s : State) (ds : List Desc) : List Desc :=
  let r := s.ring 7
  ds.take 1 ++ (ds.drop 1).map (· ||| BitVec.ofNat 256 ({ r with mod := r.mod + 1, loss := false }.flags false <<< 8))

/-- Write a stopped unit's trace while the ring has room, at most `fuel` records of it. -/
def State.traceOut : Nat → Nat → State → State
  | 0, _, s => s
  | fuel + 1, k, s =>
    let t := s.trace k
    if t.left = 0 ∨ t.st ≠ 3 then s
    else if t.left = 8193 then
      if s.canWrite 7 1 then
        let s := s.writeRec 7 [s.traceHeader k] false
        State.traceOut fuel k (s.updTrace k (fun t => { t with left := 8192 }))
      else s
    else if s.canWrite 7 2 then
      let i := 4096 - t.left / 2
      let s := s.writeRec 7 (s.traceFlags (sampleDescs s.loops.traceSeq i (t.samples.getD i {}))) false
      if t.left = 2 then
        { (s.updTrace k (fun _ => {})) with loops := { (s.updTrace k (fun _ => {})).loops with traceSeq := s.loops.traceSeq + 1 } }
      else State.traceOut fuel k (s.updTrace k (fun t => { t with left := t.left - 2 }))
    else s

/-- TRACE_WRITE (R259): only one trace is written at a time, so that none is split. -/
def State.traceWrite (s : State) (k : Nat) : State :=
  if (List.range 4).any (fun j => j ≠ k && (s.trace j).st = 3 && (s.trace j).left < 8193) then s
  else State.traceOut 4097 k s

def execTraceWrite (dt unit : Nat) (s : State) : Out := .next ((s.advance dt).traceWrite unit)

/-! ### Commands -/

/-- A loop command that takes effect at the loop's next sample (R238). -/
def cmdLoop (n : Nat) (s : State) : Verdict :=
  checks s (s.loopOn n) true (s.loopHolder n) none (.wait false [n] s)

/-- A LOOP_STATUS item: the coefficients converted last (R244). -/
def State.loopItem (s : State) (n : Nat) : Item :=
  let l := s.loop n
  let c := l.coefNext.getD (s.coefs n)
  (1, [wn (pack [(0, 8, n), (8, 8, l.st.code)]), wn l.sticky.toNat, w32 l.r, w32 l.n.rs, w32 l.n.y, w32 l.uOut,
    w32 l.n.i, w32 c.kp, w32 c.ci, w32 c.cf, w32 c.cd] ++ l.counts ++ [wn (if l.st == LoopSt.faulted then l.cause else 0)])

/-- LOOP_STATUS (R242, R261): CLEAR_SAT clears the flags after reading. -/
def cmdLoopStatus (h : Hdr) (rep : Ref) (mask : Word) (clearSat : Bool) (s : State) : Verdict :=
  let ns := bitsOf mask
  let items := ns.map s.loopItem
  let s' := if clearSat then s.each ns (fun s n => s.updLoop n (fun l => { l with sticky := 0 })) else s
  checks s (ns.all s.loopOn) true none none (report 0x50 h rep items s')

/-- TRACE_ARM (R258, R259). -/
def cmdTraceArm (unit loop dec pre trig node : Nat) (flags : BitVec 5) (level : Q16) (s : State) : Verdict :=
  if unit < 4 && trig ≤ 6 && dec < 256 && pre < 4096 then
    if !s.loopOn loop || (s.trace unit).st ≠ 0 then .done .wrongState 0 s
    else .done .ok 0 (s.updTrace unit (fun _ =>
      { st := 1, loop := loop, dec := dec + 1, pre := pre, trig := trig, node := node, flags := flags, level := level.toInt }))
  else .done .noResource 0 s

/-- TRACE_STOP (R258, R259): DISCARD prevails over TRIGGER.  A trigger before
the unit holds PRE samples is ignored (R258). -/
def cmdTraceStop (unit : Nat) (trigger discard : Bool) (s : State) : Verdict :=
  if 4 ≤ unit then .done .noResource 0 s
  else if (s.trace unit).st ≠ 0 && !s.loopOn (s.trace unit).loop then .done .wrongState 0 s
  else if discard then .done .ok 0 (s.updTrace unit (fun _ => {}))
  else if trigger && (s.trace unit).st = 1 && (s.trace unit).pre ≤ (s.trace unit).samples.length then
      .done .ok 0 (s.updTrace unit (fun t => { t with hostTrig := true }))
  else .done .ok 0 s

def State.traceItem (s : State) (k : Nat) : Item :=
  let t := s.trace k
  (1, [wn (pack [(0, 8, k), (8, 8, t.loop), (16, 8, t.st)]), wn t.samples.length, wn t.left])

end Sys2Proof.Machine
end

