-- ==== Sys2Proof/Machine/TileOps.lean ====
section
/-! DEFINITION. Shared operations of the tile cache (R128 to R150): lookups, requests, answers,
write-backs, marks, and what the planner cycle start applies. -/

namespace Sys2Proof.Machine

abbrev slotCap : Nat := 4096

/-! ### Cells and tiles (R128 to R132) -/

def State.cellMm (s : State) : Nat := s.cfgN .cellSize

/-- CELL_CODE of a cell size (R128). -/
def cellCode (mm : Nat) : Nat := if mm = 25 then 0 else if mm = 50 then 1 else if mm = 100 then 2 else 3

def tileOf (c : Int) : Int := c / 64

/-- Cell index within its tile. -/
def cellIdx (cx cy : Int) : Nat := 64 * (cy % 64).toNat + (cx % 64).toNat

/-- A tile column or row that a signed 16-bit identifier reaches (R129). -/
def reach (t : Int) : Bool := -32768 ≤ t && t ≤ 32767

def State.slotFor (s : State) (tx ty : Int) : Option TSlot :=
  s.tiles.slots.find? (fun x => x.tx = tx && x.ty = ty)

def State.updSlot (s : State) (n : Nat) (f : TSlot → TSlot) : State :=
  s.updTiles (fun t => { t with slots := t.slots.map (fun x => if x.slot = n then f x else x) })

def State.sram (s : State) (slot off k : Nat) : List Byte := Memory.reads s.tiles.mem (2048 * slot + off) k

def State.putSram (s : State) (slot off : Nat) (bs : List Byte) : State :=
  s.updTiles (fun t => { t with mem := Memory.writes t.mem (2048 * slot + off) bs })

/-- Clear a slot's record. -/
def State.clearSram (s : State) (slot : Nat) : State := s.putSram slot 0 (List.replicate 2048 0)

/-- What a lookup of one cell gives: MASK, pass count and rate index; none is a miss (R149). -/
def State.lookCell (s : State) (cx cy : Int) : Option (Bool × Nat × Nat) :=
  let tx := tileOf cx
  let ty := tileOf cy
  if !(reach tx && reach ty) then some (false, 0, 0)
  else match s.slotFor tx ty with
    | none => none
    | some t =>
      match t.st with
      | .pending => none
      | .void => some (false, 0, 0)
      | _ =>
        let n := cellIdx cx cy
        let b := fun o => (Memory.read s.tiles.mem (2048 * t.slot + o)).toNat
        some ((b (64 + n / 8) >>> (n % 8)) % 2 = 1, (b (576 + n / 4) >>> (2 * (n % 4))) % 4,
          b (1600 + 16 * (n / 64 / 4) + n % 64 / 4))

/-- The rate a rate index selects (R133). -/
def State.rateOf (s : State) (i : Nat) : Nat :=
  match s.tiles.rates with
  | some t => t.getD i 0
  | none => s.cfgN .defaultRate

/-! ### DONE and ring places -/

/-- Write DONE with RESULT and BAD_REASON over the module's fields of R138 and the status block behind it (R353),
and forget the request. -/
def State.tileDone (s : State) (p : TPlaced) (result reason : Nat) : State :=
  let r := s.ring 4
  let s := if r.en && !r.stopped then
      (s.emit (.done 4 p.idx (r.addr p.idx) (BitVec.ofNat 192 (pack
        [(0, 12, p.slot), (24, 1, 1), (25, 2, result), (27, 5, reason), (32, 64, p.need), (160, 16, p.marks)])))).writeStatus
    else s
  s.updTiles (fun t => { t with placed := t.placed.filter (fun q => q.idx ≠ p.idx) })

/-- A slot has a request queued or placed. -/
def State.slotBusy (s : State) (n : Nat) : Bool :=
  s.tiles.queue.any (fun r => r.slot = n) || s.tiles.placed.any (fun p => p.slot = n && !p.timedOut)
    || s.tiles.slots.any (fun x => x.slot = n && x.waitWb.isSome)

/-- A slot has a WRITEBACK that is still to take its snapshot: queued, placed, or waiting for an entry. -/
def State.wbBusy (s : State) (n : Nat) : Bool :=
  s.tiles.queue.any (fun r => r.slot = n && !r.fetch)
    || s.tiles.placed.any (fun p => p.slot = n && !p.fetch && !p.timedOut && p.addr.isNone)
    || s.tiles.slots.any (fun x => x.slot = n && x.waitWb.isSome)

/-- A slot's COVER has been snapshotted and is on its way to the host. -/
def State.wbGoing (s : State) (n : Nat) : Bool :=
  s.tiles.placed.any (fun p => p.slot = n && !p.fetch && !p.timedOut && p.addr.isSome)

/-- A slot in REFRESH is still to be read again; one whose tile the host has withdrawn is not (R147). -/
def TSlot.needsRecord (x : TSlot) : Bool := x.st == .refresh && x.fresh.isNone && !x.gone

/-- A slot's tile has a FETCH outstanding that is not cancelled. -/
def State.fetchBusy (s : State) (x : TSlot) : Bool :=
  s.tiles.queue.any (fun r => r.slot = x.slot && r.fetch && !r.cancelled && r.tx = x.tx && r.ty = x.ty)
    || s.tiles.placed.any (fun p => p.slot = x.slot && p.fetch && !p.timedOut && !p.cancelled && p.tx = x.tx && p.ty = x.ty)

/-- The slot of a placed request, where it still holds that tile. -/
def State.slotOf (s : State) (p : TPlaced) : Option TSlot :=
  s.tiles.slots.find? (fun x => x.slot = p.slot && x.tx = p.tx && x.ty = p.ty)

/-- The module works with a plan (R135): fetches are posted. -/
def DevState.planning : DevState → Bool
  | .parked => true
  | .working => true
  | .manual => true
  | _ => false

/-- Make a slot EMPTY. -/
def State.dropSlot (s : State) (n : Nat) : State :=
  let s := s.clearSram n
  s.updTiles (fun t => { t with
    missed := t.missed.filter (fun m => !t.slots.any (fun x => x.slot = n && x.tx = m.1 && x.ty = m.2)),
    slots := t.slots.filter (fun x => x.slot ≠ n) })

/-! ### The request queue (R136) -/

/-- The queued fetch with the latest NEED_MT. -/
def latestFetch (q : List TReq) : Option TReq :=
  q.foldl (fun o r => if !r.fetch then o else match o with
    | none => some r
    | some a => if a.need ≤ r.need then some r else some a) none

/-- Drop a fetch, counted QUEUE_DROP; a PENDING slot that has no other is freed. -/
def State.dropFetch (s : State) (r : TReq) : State :=
  let s := s.count 0
  let s := s.updTiles (fun t => { t with queue := t.queue.erase r })
  match s.tiles.slots.find? (fun x => x.slot = r.slot && x.tx = r.tx && x.ty = r.ty) with
  | some x => if x.st == .pending && !s.fetchBusy x then s.dropSlot r.slot else s
  | none => s

def State.queueFetch (s : State) (r : TReq) : State :=
  let s := s.updTiles (fun t => { t with queue := t.queue ++ [r] })
  if s.tiles.queue.length ≤ 256 then s
  else match latestFetch s.tiles.queue with
    | some l => s.dropFetch l
    | none => s

/-- Queue a write-back; with the queue full of write-backs it waits at its slot. -/
def State.queueWb (s : State) (r : TReq) : State :=
  if s.tiles.queue.length < 256 then s.updTiles (fun t => { t with queue := t.queue ++ [r] })
  else match latestFetch s.tiles.queue with
    | some l => (s.dropFetch l).updTiles (fun t => { t with queue := t.queue ++ [r] })
    | none => s.updSlot r.slot (fun x => { x with waitWb := some r.first })

/-- Write-backs that wait at their slots enter the queue while it has room, ahead of any fetch (R136). -/
def State.enterWaiting : Nat → State → State
  | 0, s => s
  | k + 1, s =>
    match if s.tiles.queue.length < 256 then s.tiles.slots.find? (fun x => x.waitWb.isSome) else none with
    | some x => ((s.updSlot x.slot (fun x => { x with waitWb := none })).updTiles (fun t => { t with
        queue := t.queue ++ [{ fetch := false, tx := x.tx, ty := x.ty, slot := x.slot, need := x.oldest, first := x.waitWb.getD false }] })).enterWaiting k
    | none => s

/-- Post a WRITEBACK of a DIRTY slot, `first` ahead of all fetches (R136, R143, R150).  While one is in transfer,
what has been marked since its snapshot waits for it to finish, so that write-backs of a tile follow each
other.  DESIGN CHOICE (log 159): TILE_FLUSH, DROP and BIND post one at once in the second after a BAD one too. -/
def State.postWb (s : State) (n : Nat) (first : Bool) : State :=
  match s.tiles.slots.find? (fun x => x.slot = n) with
  | some x =>
    if s.wbGoing n then s.updSlot n (fun x => { x with again := some (first || x.again.getD false) })
    else if x.dirty && !s.wbBusy n then
      s.queueWb { fetch := false, tx := x.tx, ty := x.ty, slot := n, need := x.oldest, first := first }
    else s
  | none => s

/-- The lowest EMPTY slot. -/
def State.emptySlot (s : State) : Option Nat :=
  (List.range slotCap).find? (fun n => !s.tiles.slots.any (fun x => x.slot = n))

def inRegion (s : State) (x : TSlot) : Bool := s.tiles.region.any (fun r => r.1 = x.tx && r.2.1 = x.ty)

/-- The least recently looked up of the slots a predicate selects. -/
def State.lruSlot (s : State) (p : TSlot → Bool) : Option TSlot :=
  s.tiles.slots.foldl (fun o x => if !p x then o else match o with
    | none => some x
    | some a => if x.looked < a.looked then some x else some a) none

/-- Find a slot for a new fetch (R137): EMPTY, or a clean victim; else, where `more`, start an eviction
write-back of a DIRTY one, not before a failed one may be posted again (R143). -/
def State.allocSlot (s : State) (more : Bool) : Option Nat × State :=
  match s.emptySlot with
  | some n => (some n, s)
  | none =>
    let free := fun x => !inRegion s x && !s.slotBusy x.slot
    match s.lruSlot (fun x => free x && !x.dirty && (x.st == .valid || x.st == .void)) with
    | some x => (some x.slot, s.dropSlot x.slot)
    | none =>
      match if more then s.lruSlot (fun x => free x && x.dirty && x.st == .valid && decide (x.notBefore ≤ s.now)) else none with
        | some x => (none, (s.updSlot x.slot (fun x => { x with evict := true })).postWb x.slot true)
        | none => (none, s)

/-- Slots being written back for eviction. -/
def State.evicting (s : State) : Nat := (s.tiles.slots.filter (·.evict)).length

/-- Post a FETCH for a tile that is not held (R137, R140).  A fetch that finds no slot waits, one eviction for
each, and counts CACHE_FULL where none can be started for it. -/
def State.fetchTile (s : State) (tx ty : Int) (need : Nat) : State :=
  if !(reach tx && reach ty) || (s.slotFor tx ty).isSome
      || s.tiles.waitBad.any (fun w => w.1 = tx && w.2.1 = ty && s.now < w.2.2) then s
  else
    let known := s.tiles.stuck.any (fun w => w.1 = tx && w.2.1 = ty)
    let s := s.updTiles (fun t => { t with
      stuck := t.stuck.map (fun w => if w.1 = tx && w.2.1 = ty then (w.1, w.2.1, min w.2.2 need) else w) })
    let (o, s) := s.allocSlot (decide (s.evicting < s.tiles.stuck.length + (if known then 0 else 1)))
    match o with
    | some n =>
      let s := s.updTiles (fun t => { t with
        slots := t.slots ++ [{ slot := n, tx := tx, ty := ty, looked := s.now }],
        stuck := t.stuck.filter (fun w => !(w.1 = tx && w.2.1 = ty)) })
      s.queueFetch { fetch := true, tx := tx, ty := ty, slot := n, need := need }
    | none =>
      if known then s
      else
        let s := s.updTiles (fun t => { t with stuck := t.stuck ++ [(tx, ty, need)] })
        if s.tiles.stuck.length ≤ s.evicting then s else s.count 1

/-- Post a FETCH, in PARKED, WORKING and MANUAL only (R135). -/
def State.postFetch (s : State) (tx ty : Int) (need : Nat) : State :=
  if s.dev.st.planning then s.fetchTile tx ty need else s

/-- Post the fetches that waited for a slot. -/
def State.unstick (s : State) : State :=
  s.each s.tiles.stuck (fun s w => s.postFetch w.1 w.2.1 w.2.2)

/-- Post a refresh FETCH for a slot in REFRESH (R147).  DESIGN CHOICE (log 157): in any state. -/
def State.postRefresh (s : State) (x : TSlot) (need : Nat) : State :=
  if s.fetchBusy x then s
  else s.queueFetch { fetch := true, tx := x.tx, ty := x.ty, slot := x.slot, need := need }

/-- The order in which requests leave the queue (R136). -/
def State.nextReq (s : State) : Option TReq :=
  let q := s.tiles.queue
  let early := fun (p : TReq → Bool) => q.foldl (fun o r => if !p r then o else match o with
    | none => some r
    | some a => if r.need < a.need then some r else some a) (none : Option TReq)
  match q.find? (fun r => !r.fetch && r.first) with
  | some r => some r
  | none => match early (fun r => r.fetch && r.need < s.now + 1000 * msTicks) with
    | some r => some r
    | none => match q.find? (fun r => !r.fetch) with
      | some r => some r
      | none => early (·.fetch)

/-- The TILE ring can take a request (R351): N places, and DONE of the one N before it. -/
def State.tileRoom (s : State) : Bool :=
  let r := s.ring 4
  s.served 4 && 0 < r.room && !s.tiles.placed.any (fun p => p.idx + BitVec.ofNat 32 (2 ^ r.log2) = r.mod)

/-- The TILE descriptor of a request (R138). -/
def State.tileDesc (s : State) (r : TReq) : Desc :=
  let marks := match s.tiles.slots.find? (fun x => x.slot = r.slot) with
    | some x => if r.fetch then 0 else min x.cells.length 65535
    | none => 0
  descOf [(0, 8, if r.fetch then 1 else 2), (16, 16, s.tiles.reqSeq.toNat), (32, 16, twos 16 r.tx),
    (48, 16, twos 16 r.ty), (64, 12, r.slot), (96, 64, r.need), (224, 16, marks)]

/-- Place the next queued request in the TILE ring (R136, R138).  DESIGN CHOICE (log 158): the first since BOOT has
REQ_SEQ 0. -/
def State.enterRing (s : State) : State :=
  match s.nextReq with
  | none => s
  | some r =>
    if !s.tileRoom then s
    else
      let idx := (s.ring 4).mod
      let urgent := r.fetch && r.need < s.now + 200 * msTicks
      let d := s.tileDesc r
      let s := s.updTiles (fun t => { t with
        queue := t.queue.erase r, reqSeq := t.reqSeq + 1,
        placed := t.placed ++ [{ idx := idx, seq := t.reqSeq, fetch := r.fetch, tx := r.tx, ty := r.ty, slot := r.slot,
                                 need := r.need, placed := s.now, marks := Desc.field d 224 16, cancelled := r.cancelled }] })
      (State.enterWaiting 1 s).writeRec 4 [d] urgent

/-! ### Held marks and patches -/

/-- Marks held for a tile are dropped, counted COVER_LOST (R144). -/
def State.loseHeld (s : State) (tx ty : Int) : State :=
  let n := (s.tiles.held.filter (fun m => m.tx = tx && m.ty = ty)).length
  (s.updTiles (fun t => { t with held := t.held.filter (fun m => !(m.tx = tx && m.ty = ty)) })).count 4 n

/-- A TILE_PATCH waiting for a tile's fetch is discarded when that ends without a record (R146). -/
def State.patchEnds (s : State) (tx ty : Int) : State :=
  s.each s.host.outstanding (fun s w =>
    match w.cmd with
    | .tilePatch _ _ x y _ _ _ _ _ _ =>
      if x.toInt = tx && y.toInt = ty && w.aux.headD 0 = 1 then s.finish w .ok (resultOf [(128, 1, 1), (129, 1, 1)])
      else s
    | _ => s)

/-- Increase a cell's pass count in a slot that holds the tile (R142). -/
def State.markSlot (s : State) (x : TSlot) (cell mt : Nat) : State :=
  let a := 2048 * x.slot + 576 + cell / 4
  let b := (Memory.read s.tiles.mem a).toNat
  let sh := 2 * (cell % 4)
  let v := (b >>> sh) % 4
  let s := if v < 3 then s.updTiles (fun t => { t with mem := Memory.write t.mem a (BitVec.ofNat 8 (b + 2 ^ sh)) })
    else s
  s.updSlot x.slot (fun x =>
    { x with dirty := true, marks := x.marks + 1, oldest := if x.marks = 0 then mt else x.oldest,
             cells := if v < 3 && !x.cells.contains cell then x.cells ++ [cell] else x.cells })

/-- Mark one cell (R142, R144), in the cycle that started at `mt`.  DESIGN CHOICE (log 129): a point in no tile
(R129) marks nothing and counts nothing. -/
def State.markCell (s : State) (cx cy : Int) (mt : Nat) : State :=
  let tx := tileOf cx
  let ty := tileOf cy
  if !(reach tx && reach ty) then s
  else
    let hold := fun (s : State) =>
      if s.tiles.held.length < 4096 then
        (s.updTiles (fun t => { t with
          held := t.held ++ [{ tx := tx, ty := ty, cell := cellIdx cx cy, mt := mt }],
          queue := t.queue.map (fun r => if r.fetch && r.tx = tx && r.ty = ty then { r with need := min r.need mt } else r) })).postFetch
          tx ty mt
      else s.count 4
    match s.slotFor tx ty with
    | none => hold s
    | some x =>
      match x.st with
      | .pending => hold s
      | .void => s.count 5
      | _ => s.markSlot x (cellIdx cx cy) mt

/-- Apply the marks held for a tile that has become VALID (R144). -/
def State.applyHeld (s : State) (tx ty : Int) : State :=
  let hs := s.tiles.held.filter (fun m => m.tx = tx && m.ty = ty)
  let s := s.updTiles (fun t => { t with held := t.held.filter (fun m => !(m.tx = tx && m.ty = ty)) })
  s.each hs (fun s m => match s.slotFor tx ty with
    | some x => s.markSlot x m.cell m.mt
    | none => s)

/-! ### Commands that wait for write-backs -/

/-- A write-back that the commands `ops` wait for has ended.  Their aux holds the number posted, the number
failed, then the slots still to end. -/
def State.wbEndedFor (s : State) (ops : List Byte) (slot : Nat) (ok : Bool) : State :=
  { s with host := { s.host with outstanding := s.host.outstanding.map (fun w =>
      if ops.contains w.op ∧ (w.aux.drop 2).contains slot then
        { w with aux := w.aux.headD 0 :: (w.aux.getD 1 0 + (if ok then 0 else 1))
                          :: (w.aux.drop 2).filter (· ≠ slot) }
      else w) } }

/-- A write-back has ended for TILE_FLUSH (0x22) and FIELD_ORIGIN (0x38). -/
def State.wbEnded (s : State) (slot : Nat) (ok : Bool) : State := s.wbEndedFor [0x22, 0x38] slot ok

/-- FIELD_ORIGIN waits: a failed WRITEBACK is not posted again (R104). -/
def State.originWaits (s : State) : Bool := s.host.outstanding.any (fun w => w.op = 0x38)

/-- Complete each TILE_INVALIDATE whose dropped tiles have all left the cache (R147).  Its aux holds
the number of tiles affected, then the slots. -/
def State.dropsEnded (s : State) : State :=
  s.each s.host.outstanding (fun s w =>
    if w.op = 0x21 && !(w.aux.drop 1).any (fun n => s.tiles.slots.any (fun x => x.slot = n && x.drop)) then
      s.finish w .ok (resultOf [(128, 16, w.aux.headD 0)])
    else s)

/-- A slot that is clean now leaves the cache, becomes VOID or is evicted, where that waits for it; for one marked
again meanwhile the choice of R137 is made again. -/
def State.settled (s : State) (n : Nat) : State :=
  match s.tiles.slots.find? (fun x => x.slot = n) with
  | some x =>
    if x.drop && (x.discard || !x.dirty) then ((s.count 6 x.marks).dropSlot n).dropsEnded
    else if x.dirty then if x.evict && !s.wbBusy n then (s.updSlot n (fun x => { x with evict := false })).unstick else s
    else if x.evict then (s.dropSlot n).unstick
    else if x.gone then (s.clearSram n).updSlot n (fun x => { x with st := .void, gone := false })
    else s
  | none => s

/-! ### Fetches -/

/-- Enter VOID, its fetch answered ABSENT (R140, R144). -/
def State.toVoid (s : State) (x : TSlot) : State :=
  let s := s.clearSram x.slot
  let s := s.updSlot x.slot (fun x => { x with st := .void, dirty := false, marks := 0, cells := [], gone := false })
  (s.loseHeld x.tx x.ty).patchEnds x.tx x.ty

/-- The ORIGIN_CRC of the field origin (R140). -/
def State.originCrc (s : State) : Word :=
  match s.nav.origin with
  | some (a, b, c) => crc32 (leBytes 4 a.toNat ++ leBytes 4 b.toNat ++ leBytes 4 c.toNat)
  | none => crc32 (List.replicate 12 0)

/-- The checks of R140: 0, or the BAD_REASON. -/
def State.tileCheck (s : State) (tx ty : Int) (d : List Byte) : Nat :=
  let body := crc32 ((d.drop 64).take 512 ++ (d.drop 1600).take 256)
  if leAt d 0 2 ≠ 0x5D96 ∨ leAt d 2 1 ≠ 1 then 1
  else if leAt d 3 1 % 4 ≠ cellCode s.cellMm then 2
  else if leAt d 4 2 ≠ twos 16 tx ∨ leAt d 6 2 ≠ twos 16 ty then 3
  else if leAt d 8 4 ≠ s.originCrc.toNat then 4
  else if leAt d 16 4 ≠ body.toNat then 5
  else 0

/-- A fetch failed with BAD (R140, R147). -/
def State.fetchBad (s : State) (p : TPlaced) (reason : Nat) : State :=
  let s := s.tileDone p 1 reason
  let s := s.raise 0x2001 subjModule [(128, 16, twos 16 p.tx), (144, 16, twos 16 p.ty), (160, 8, reason)] false
  match s.slotOf p with
  | some x =>
    if x.st == .refresh then s.updSlot x.slot (fun x => { x with fetchAfter := s.now + 1000 * msTicks })
    else
      let s := (s.dropSlot x.slot).loseHeld p.tx p.ty
      let s := s.updTiles (fun t => { t with
        waitBad := t.waitBad.filter (fun w => !(w.1 = p.tx && w.2.1 = p.ty))
          ++ [(p.tx, p.ty, s.now + 1000 * msTicks)] })
      (s.patchEnds p.tx p.ty).unstick
  | none => s

/-- COVER_GEN of a tile: its write-backs since its first fetch under this origin (R131). -/
def State.coverGen (s : State) (tx ty : Int) : Word :=
  ((s.tiles.coverGens.find? (fun g => g.1 = tx && g.2.1 = ty)).map (·.2.2)).getD 0

/-- The record of a fetch has arrived, or its read failed (R140, R147). -/
def State.recordRead (s : State) (p : TPlaced) (data : Option (List Byte)) : State :=
  if p.cancelled then
    let s := (s.tileDone p 3 0).patchEnds p.tx p.ty
    match s.slotFor p.tx p.ty with
    | some x =>
      if s.fetchBusy x || !(x.st == .pending || x.needsRecord) then s
      else s.queueFetch { fetch := true, tx := p.tx, ty := p.ty, slot := x.slot, need := p.need }
    | none => s.fetchTile p.tx p.ty p.need
  else match data with
  | none => s.fetchBad p 6
  | some d =>
    let r := s.tileCheck p.tx p.ty d
    if r ≠ 0 then s.fetchBad p r
    else match s.slotOf p with
      | none => s.tileDone p 0 0
      | some x =>
        let gen : Word := BitVec.ofNat 32 (leAt d 12 4)
        let s := s.tileDone p 0 0
        if x.st == .refresh then
          s.updSlot x.slot (fun x => { x with fresh := some (slice d 64 512 ++ slice d 1600 256, gen, s.now), fetchAfter := 0 })
        else
          let s := s.putSram x.slot 0 (slice d 0 2048)
          let s := s.updSlot x.slot (fun x => { x with st := .valid, gen := gen })
          s.applyHeld p.tx p.ty

/-! ### Write-backs (R143) -/

/-- The module part of the header and COVER at a snapshot (R131). -/
def State.snapshot (s : State) (x : TSlot) : List Byte :=
  let g := s.coverGen x.tx x.ty + 1
  leBytes 4 g.toNat ++ leBytes 8 s.now ++ leBytes 4 s.dev.bootCount.toNat
    ++ leBytes 2 (min x.cells.length 65535) ++ List.replicate 14 0 ++ s.sram x.slot 576 1024

/-- The answer ADDR to a WRITEBACK: COVER is snapshotted. -/
def State.takeSnapshot (s : State) (p : TPlaced) (addr : DWord) : State :=
  match (s.slotOf p).filter (fun x => x.st != .void) with
  | none => (s.tileDone p 0 0).wbEnded p.slot true
  | some x =>
    let bs := s.snapshot x
    let s := s.updTiles (fun t => { t with placed := t.placed.map (fun q =>
      if q.idx = p.idx then { q with addr := some addr, snap := bs, snapMarks := x.marks, snapCells := x.cells,
                                     snapOldest := x.oldest, marks := min x.cells.length 65535 } else q) })
    s.updSlot p.slot (fun x => { x with marks := 0, cells := [] })

/-- The data writes of a WRITEBACK have finished, or did not reach the host (R143). -/
def State.wbDone (s : State) (p : TPlaced) (ok : Bool) : State :=
  if ok then
    let a : DWord := (p.addr.getD 0) &&& ~~~(63 : DWord)
    let s := s.emit (.bytes (a + 32) (p.snap.take 32))
    let s := s.emit (.bytes (a + 576) (p.snap.drop 32))
    let s := s.tileDone p 0 0
    let g := s.coverGen p.tx p.ty + 1
    let s := s.updTiles (fun t => { t with
      coverGens := (p.tx, p.ty, g) :: t.coverGens.filter (fun c => !(c.1 = p.tx && c.2.1 = p.ty)) })
    match s.slotOf p with
    | none => s
    | some x =>
      let s := s.updSlot p.slot (fun x => { x with dirty := decide (0 < x.marks), notBefore := 0, again := none })
      let due := decide (x.oldest + 2000 * msTicks ≤ s.now) && !s.originWaits
      let s := match x.again with
        | some first => if x.discard then s else s.postWb p.slot first
        | none => if due && !x.discard then s.postWb p.slot false else s
      (if x.again.isSome && s.wbBusy p.slot then s else s.wbEnded p.slot true).settled p.slot
  else if (s.slotOf p).isNone then s.tileDone p 1 6
  else
    let s := s.tileDone p 1 6
    let s := s.updSlot p.slot (fun x =>
      { x with marks := x.marks + p.snapMarks, oldest := p.snapOldest, evict := false, again := none,
               cells := p.snapCells ++ x.cells.filter (fun c => !p.snapCells.contains c),
               notBefore := s.now + 1000 * msTicks })
    ((s.wbEndedFor [0x38] p.slot false).settled p.slot).unstick

/-- DISCARD: the marks up to now are dropped, counted COVER_DISCARDED (R143). -/
def State.wbDiscard (s : State) (p : TPlaced) : State :=
  match s.slotOf p with
  | none => s.tileDone p 0 0
  | some x =>
    let s := (s.tileDone p 0 0).count 6 x.marks
    let s := s.updSlot p.slot (fun x => { x with dirty := false, marks := 0, cells := [], notBefore := 0 })
    (s.wbEnded p.slot true).settled p.slot

/-! ### Answers (R139 to R141, R147) -/

/-- Take the host's answer to one descriptor. -/
def State.tileAnswer (s : State) (p : TPlaced) (a : TileAns) : State :=
  let v := a.answer.toNat
  let bad := !(v = 1 || (v = 2 && p.fetch) || (v = 3 && !p.fetch))
  let s := if bad then s.count 3 else s
  let v := if bad then (if p.fetch then 2 else 3) else v
  if p.timedOut then s.tileDone p 2 0
  else if p.cancelled then s.recordRead p none
  else if p.fetch then
    if v = 1 then
      (s.emit (.bufferRead (a.addr &&& ~~~(63 : DWord)))).updTiles (fun t => { t with placed := t.placed.map (fun q =>
        if q.idx = p.idx then { q with addr := some a.addr } else q) })
    else
      let s := s.tileDone p 0 0
      match s.slotOf p with
      | some x =>
        if x.st == .refresh && x.dirty then
          (s.updSlot x.slot (fun x => { x with gone := true })).postWb x.slot false
        else s.toVoid x
      | none => s
  else if v = 1 then s.takeSnapshot p a.addr
  else s.wbDiscard p

/-- A request not answered within TILE_ANSWER_MAX (R141). -/
def State.tileOver (s : State) (p : TPlaced) : State :=
  let s := s.count 2
  let s := s.updTiles (fun t => { t with placed := t.placed.map (fun q =>
    if q.idx = p.idx then { q with timedOut := true } else q) })
  if p.fetch then
    match if p.cancelled then (s.slotOf p).filter (fun x => !s.fetchBusy x) else s.slotOf p with
    | some x =>
      if x.st == .refresh then (if x.needsRecord then s.postRefresh x s.now else s)
      else if x.st != .pending then s
      else
        let s := ((s.dropSlot x.slot).loseHeld p.tx p.ty).patchEnds p.tx p.ty
        let s := s.unstick
        match s.tiles.region.find? (fun r => r.1 = p.tx && r.2.1 = p.ty) with
        | some r => s.postFetch p.tx p.ty r.2.2
        | none => s
    | none => s
  else
    let origin := s.originWaits
    let s := (s.updSlot p.slot (fun x => { x with evict := false })).wbEnded p.slot false
    match s.slotOf p with
    | some x => if x.discard then s.settled p.slot else if origin then s else (s.postWb p.slot false).unstick
    | none => s

/-! ### What the planner cycle start applies (R154 row 3 and 4) -/

/-- Replace MASK and RATE of refreshed slots (R147). -/
def State.applyFresh (s : State) : State :=
  s.each s.tiles.slots (fun s x => match x.fresh with
    | some (bs, gen, _) =>
      let s := s.putSram x.slot 64 (bs.take 512)
      let s := s.putSram x.slot 1600 (bs.drop 512)
      s.updSlot x.slot (fun x => { x with st := .valid, gen := gen, fresh := none })
    | none => s)

/-- A patch taken before the record of a REFRESH was read, which the record replaces (R145, R147). -/
def TSlot.older (t : TSlot) (mt : Nat) : Bool := match t.fresh with | some (_, _, m) => decide (mt ≤ m) | none => false

/-- Apply the waiting TILE_PATCHes whose tile is held, in ring order (R146): with `early`, those that a refreshed
MASK and RATE replaces, and otherwise all.  Their aux holds whether they found the tile PENDING, then the patch
bytes. -/
def State.applyPatches (s : State) (early : Bool) : State :=
  s.each s.host.outstanding (fun s w =>
    match w.cmd with
    | .tilePatch _ _ x y rate _ off _ gen _ =>
      if w.dma || (early && !((s.slotFor x.toInt y.toInt).map (·.older w.mt)).getD false) then s
      else match s.slotFor x.toInt y.toInt with
        | none => s.finish w .ok (resultOf [(128, 1, 1), (129, 1, w.aux.headD 0)])
        | some t =>
          match t.st with
          | .pending => s.updWaiting w (fun w => { w with aux := 1 :: w.aux.drop 1 })
          | .void => s.finish w .ok (resultOf [(128, 1, 1), (129, 1, w.aux.headD 0)])
          | _ =>
            let base := if rate then 1600 else 64
            let s := s.putSram t.slot (base + off) ((w.aux.drop 1).map (BitVec.ofNat 8 ·))
            let s := s.updSlot t.slot (fun t => { t with gen := gen })
            s.finish w .ok (resultOf [(129, 1, w.aux.headD 0)])
    | _ => s)

/-- Apply the waiting RATE_TABLEs whose table has been read (R133). -/
def State.applyRates (s : State) : State :=
  s.each s.host.outstanding (fun s w =>
    match w.cmd with
    | .rateTable .. =>
      if w.dma then s
      else (s.updTiles (fun t => { t with rates := some w.aux })).finish w .ok 0
    | _ => s)

/-- Empty the cache (R104, R148). -/
def State.emptyCache (s : State) : State :=
  s.updTiles (fun t => { t with mem := [], slots := [], queue := [], missed := [], waitBad := [], stuck := [],
                                coverGens := [], region := [],
                                placed := t.placed.map (fun p => { p with timedOut := true }) })

/-- The unanswered requests of a TILE ring that has stopped end as not answered (R141). -/
def State.unanswered (s : State) : State :=
  let s := s.each (s.tiles.placed.filter (fun p => p.addr.isNone && !p.timedOut)) State.tileOver
  s.updTiles (fun t => { t with placed := t.placed.filter (·.addr.isSome) })

/-- At a BIND, a WRITEBACK for every DIRTY tile before any fetch (R150), those queued or waiting already too, and
those that a disabled ring left unanswered. -/
def State.bindTiles (s : State) : State :=
  let s := if (s.ring 4).en then s else s.unanswered
  let s := s.updTiles (fun t => { t with
    queue := t.queue.map (fun r => if r.fetch then r else { r with first := true }),
    slots := t.slots.map (fun x => { x with waitWb := x.waitWb.map (fun _ => true) }) })
  s.each (s.tiles.slots.filter (·.dirty)) (fun s x => s.postWb x.slot true)

end Sys2Proof.Machine
end

