-- ==== Sys2Proof/Machine/Tiles.lean ====
section
/-! DEFINITION. The leads of R157 and the meanings of the tile cache's rows (R128 to R152): prefetch,
requests, answers, write-backs and the tile commands. -/

namespace Sys2Proof.Machine

/-! ### Leads (R157, R159) -/

def State.pchan (s : State) (ch : Nat) : PChan := s.planner.ch.getD ch {}

/-- The delays used: those taken at the latest cycle start, the default ones of VALVES without them (R154,
R157). -/
def State.delays (s : State) (ch : Nat) : Delays :=
  (s.pchan ch).view.getD
    { dOn := s.defDOn ch, sOn := s.defDOn ch / 10, dOff := s.defDOff ch, sOff := s.defDOff ch / 10 }

def State.updPChan (s : State) (ch : Nat) (f : PChan → PChan) : State :=
  s.updPlanner (fun p => { p with ch := p.ch.modify ch f })

/-- TR_TIME in ticks. -/
def State.trTicks (s : State) (ch : Nat) : Nat := s.cfgN .trTime ch * usTicks

/-- LEAD_ON and LEAD_OFF before clipping. -/
def State.leadOnRaw (s : State) (ch : Nat) : Rat :=
  (s.delays ch).dOn + (s.pchan ch).defer + (s.trTicks ch : Rat)
def State.leadOffRaw (s : State) (ch : Nat) : Rat := (s.delays ch).dOff + (s.trTicks ch : Rat)

/-- HORIZON - 10.5 ms. -/
def State.leadCap (s : State) : Rat := (s.cfgN .horizon * msTicks : Nat) - (2625000 : Rat)

def State.leadOn (s : State) (ch : Nat) : Rat := ratMin (s.leadOnRaw ch) s.leadCap
def State.leadOff (s : State) (ch : Nat) : Rat := ratMin (s.leadOffRaw ch) s.leadCap
def State.leadMax (s : State) (ch : Nat) : Rat := ratMax (s.leadOn ch) (s.leadOff ch)

/-- By how much the larger lead exceeds the horizon. -/
def State.leadExcess (s : State) (ch : Nat) : Rat :=
  ratMax 0 (ratMax (s.leadOnRaw ch) (s.leadOffRaw ch) - s.leadCap)

/-! ### The prefetch region (R135) -/

/-- Squared distance from a point to tile (tx, ty) of side `side`. -/
def tileDist2 (side : Nat) (tx ty : Int) (e n : Rat) : Rat :=
  let gap := fun (t : Int) (x : Rat) =>
    ratMax 0 (ratMax ((t * side : Int) - x) (x - ((t + 1) * side : Int)))
  gap tx e * gap tx e + gap ty n * gap ty n

/-- The tiles within `r` of a point. -/
def tilesNear (side : Nat) (e n r : Rat) : List (Int × Int) :=
  let x0 := ((e - r) / side).floor
  let x1 := ((e + r) / side).floor
  let y0 := ((n - r) / side).floor
  let y1 := ((n + r) / side).floor
  (List.range (y1 + 1 - y0).toNat).flatMap (fun j =>
    (List.range (x1 + 1 - x0).toNat).filterMap (fun i =>
      let t := (x0 + (i : Int), y0 + (j : Int))
      if tileDist2 side t.1 t.2 e n ≤ r * r then some t else none))

/-- Enter a tile with its NEED_MT, the earliest one kept. -/
def needTile (rs : List (Int × Int × Nat)) (t : Int × Int) (need : Nat) : List (Int × Int × Nat) :=
  match rs with
  | [] => [(t.1, t.2, need)]
  | r :: q => if r.1 = t.1 && r.2.1 = t.2 then (r.1, r.2.1, min r.2.2 need) :: q else r :: needTile q t need

/-- The farthest instant looked up for a channel, from cycle start `c`. -/
def State.lookEnd (s : State) (c ch : Nat) : Rat := (c : Rat) + 2604096 + s.leadMax ch

/-- The first cycle start at or after `c` whose look-up reach covers instant `t` (R135). -/
def State.needMt (s : State) (c ch : Nat) (t : Rat) : Nat :=
  c + 125000 * ((t - s.lookEnd c ch) / 125000).ceil.toNat

/-- The instant between `a` and `b` at which a distance that falls and then rises is least. -/
def closest (f : Nat → Rat) : Nat → Nat → Nat → Nat
  | 0, a, b => (a + b) / 2
  | k + 1, a, b =>
    let d := (b - a) / 3
    if f (a + d) ≤ f (b - d) then closest f k a (b - d) else closest f k (a + d) b

/-- The first instant of a condition that does not hold at `a` and holds at `b`. -/
def firstHit (p : Nat → Bool) : Nat → Nat → Nat → Nat
  | 0, _, b => b
  | k + 1, a, b => let m := (a + b) / 2; if p m then firstHit p k a m else firstHit p k m b

/-- The first instant of a piece of an arc within `r` of a tile (log 14). -/
def touches (g : Nat → Rat × Rat) (side : Nat) (r : Rat) (a b : Nat) (t : Int × Int) : Option Nat :=
  let f := fun (m : Nat) => tileDist2 side t.1 t.2 (g m).1 (g m).2
  if f a ≤ r * r then some a
  else
    let c := if f b ≤ r * r then b else closest f 36 a b
    if f c ≤ r * r then some (firstHit (fun m => decide (f m ≤ r * r)) 24 a c) else none

/-- The region of one channel: the arc of its ground point, where its product lands (R158), in pieces of 10 ms, the tiles that each comes within the margin of, and
when it first does (log 14). -/
def State.chanRegion (s : State) (o : FusOut) (ch : Nat) (rs : List (Int × Int × Nat)) : List (Int × Int × Nat) :=
  let c := s.planner.cycle.getD s.now
  let stop := (s.lookEnd c ch + (s.cfgN .prefetchLead * msTicks : Nat)).ceil.toNat
  let r : Rat := (s.cfgN .prefetchWidth + o.hpu : Nat)
  let side := 64 * s.cellMm
  let g := fun (m : Nat) => let p := (o.motionAt m).swath (s.cfgI .chX ch) (s.cfgI .chY ch) (s.cfgI .trDist ch); (p.e, p.n)
  (List.range ((stop - s.now + 2499999) / 2500000)).foldl (fun rs k =>
    let a := s.now + 2500000 * k
    let b := min stop (a + 2500000)
    let d := sqrtR (((g b).1 - (g a).1) * ((g b).1 - (g a).1) + ((g b).2 - (g a).2) * ((g b).2 - (g a).2))
    (tilesNear side (g a).1 (g a).2 (r + d + 1)).foldl (fun rs x =>
      match touches g side r a b x with
      | some m => needTile rs x (s.needMt c ch m)
      | none => rs) rs) rs

/-- A slot in REFRESH is still to be read again, and may be (R136, R147). -/
def TSlot.wantsRecord (x : TSlot) (now : Nat) : Bool := x.needsRecord && decide (x.fetchAfter ≤ now)

/-- Ask for one tile of the region, or for a new record of it, needed at an MT. -/
def State.prefetchTile (s : State) (tx ty : Int) (need : Nat) : State :=
  match (s.slotFor tx ty).filter (·.wantsRecord s.now) with
  | some x => s.postRefresh x need
  | none => s.postFetch tx ty need

/-- PREFETCH_RECOMPUTE (R135); a refresh FETCH that the queue dropped is requested again (R136). -/
def State.prefetch (s : State) : State :=
  let due := match s.tiles.recomputed with
    | some m => m + 10 * msTicks ≤ s.now
    | none => true
  if s.dev.st.planning && due then
    let rs := match s.nav.outs.head? with
      | some o => ((List.range s.nCh).filter s.planned).foldl (fun rs ch => s.chanRegion o ch rs) []
      | none => []
    let rs := rs.filter (fun r => reach r.1 && reach r.2.1)
    let s := s.updTiles (fun t => { t with region := rs, recomputed := some s.now })
    let s := s.unstick
    s.each rs (fun s r => s.prefetchTile r.1 r.2.1 r.2.2)
  else s

def execPrefetchRecompute (dt : Nat) (s : State) : Out := .next (s.advance dt).prefetch

def execTileRequestEnterRing (dt : Nat) (s : State) : Out := .next (s.advance dt).enterRing

/-! ### Exchanges -/

/-- The placed request of a slot that has been answered with an address and is still to be finished. -/
def State.answeredReq (s : State) (fetch : Bool) (slot : Nat) : Option TPlaced :=
  s.tiles.placed.find? (fun p => p.fetch = fetch && p.slot = slot && p.addr.isSome)

/-- TILE_RECORD_READ (R140): the record arrives, or its read fails. -/
def State.tileRead (s : State) (slot : Nat) (data : Option (List Byte)) : State :=
  match s.answeredReq true slot with
  | some p => s.recordRead p data
  | none => s

def execTileRecordRead (dt slot : Nat) (data : Option (List Byte)) (s : State) : Out :=
  .next ((s.advance dt).tileRead slot data)

/-- WRITEBACK_DUE (R143): 2 s after the oldest unwritten mark; the marks of a WRITEBACK in transfer are being
written. -/
def State.wbDue (s : State) (slot : Nat) : State :=
  match s.tiles.slots.find? (fun x => x.slot = slot) with
  | some x =>
    if x.dirty && !s.wbGoing slot && x.oldest + 2000 * msTicks ≤ s.now && x.notBefore ≤ s.now && !s.originWaits then
      s.postWb slot false
    else s
  | none => s

def execWritebackDue (dt slot : Nat) (s : State) : Out := .next ((s.advance dt).wbDue slot)

/-- WRITEBACK_COMPLETE (R143). -/
def State.wbComplete (s : State) (slot : Nat) (ok : Bool) : State :=
  match s.answeredReq false slot with
  | some p => s.wbDone p ok
  | none => s

def execWritebackComplete (dt slot : Nat) (ok : Bool) (s : State) : Out :=
  .next ((s.advance dt).wbComplete slot ok)

/-- TILE_TIMEOUT (R141): not answered within TILE_ANSWER_MAX of its placement. -/
def State.tileTimedOut (s : State) (slot : Nat) : State :=
  match s.tiles.placed.find? (fun p => p.slot = slot && p.addr.isNone && !p.timedOut) with
  | some p => if p.placed + s.cfgN .tileAnswerMax * msTicks ≤ s.now then s.tileOver p else s
  | none => s

def execTileTimeout (dt slot : Nat) (s : State) : Out := .next ((s.advance dt).tileTimedOut slot)

/-- Post again what a slot's failed exchange waits for (R143, R147). -/
def State.retrySlot (s : State) (x : TSlot) : State :=
  let s := if x.dirty && !s.wbGoing x.slot && 0 < x.notBefore && decide (x.notBefore ≤ s.now) && !s.originWaits then
      s.postWb x.slot false
    else s
  if x.wantsRecord s.now then s.postRefresh x s.now else s

/-- Request again a tile that failed its checks and still lies in the region, or has marks held for it (R140,
R144). -/
def State.retryTile (s : State) (w : Int × Int × Nat) : State :=
  match s.tiles.region.find? (fun r => r.1 = w.1 && r.2.1 = w.2.1), s.tiles.held.find? (fun m => m.tx = w.1 && m.ty = w.2.1) with
  | some r, some m => s.postFetch w.1 w.2.1 (min r.2.2 m.mt)
  | some r, none => s.postFetch w.1 w.2.1 r.2.2
  | none, some m => s.postFetch w.1 w.2.1 m.mt
  | none, none => s

/-- TILE_RETRY: the slot's refresh or write-back, and every refused tile that is due. -/
def State.tileRetry (s : State) (slot : Nat) : State :=
  let s := match s.tiles.slots.find? (fun x => x.slot = slot) with
    | some x => s.retrySlot x
    | none => s
  let due := s.tiles.waitBad.filter (fun w => decide (w.2.2 ≤ s.now))
  let s := s.updTiles (fun t => { t with waitBad := t.waitBad.filter (fun w => decide (s.now < w.2.2)) })
  due.foldl State.retryTile s

def execTileRetry (dt slot : Nat) (s : State) : Out := .next ((s.advance dt).tileRetry slot)

/-! ### Commands -/

/-- TILE_PATCH (R146, R381): judged when taken; it waits for its bytes and for the next cycle start. -/
def cmdTilePatch (rate dma : Bool) (offset len : Nat) (tx ty : BitVec 16) (data : BitVec 128) (s : State) : Verdict :=
  let size := if rate then 256 else 512
  let fits := decide (offset + len ≤ size) && (dma || decide (len ≤ 16))
  checks s fits true none none
    (match s.slotFor tx.toInt ty.toInt with
      | none => .done .ok (resultOf [(128, 1, 1)]) s
      | some x =>
        let p := b2n (x.st == .pending)
        let bs := if dma then [] else ((leBytes 16 data.toNat).take len).map (·.toNat)
        .wait dma (p :: bs) s)

/-- The cached tiles of a rectangle; a PENDING one is not cached yet (R147). -/
def State.rectSlots (s : State) (x0 y0 x1 y1 : Int) : List TSlot :=
  s.tiles.slots.filter (fun x =>
    x.st != .pending && x0 ≤ x.tx && x.tx ≤ x1 && y0 ≤ x.ty && x.ty ≤ y1)

/-- A FETCH posted before the command, queued or placed, is CANCELLED when it is answered (R147). -/
def State.cancelRect (s : State) (x0 y0 x1 y1 : Int) : State :=
  let hit := fun (x y : Int) => x0 ≤ x && x ≤ x1 && y0 ≤ y && y ≤ y1
  s.updTiles (fun t => { t with
    placed := t.placed.map (fun p => if p.fetch && !p.timedOut && hit p.tx p.ty then { p with cancelled := true } else p),
    queue := t.queue.map (fun r => if r.fetch && hit r.tx r.ty then { r with cancelled := true } else r) })

/-- A WRITEBACK of a slot is in progress in the ring: it completes normally (R147). -/
def State.wbPlaced (s : State) (n : Nat) : Bool := s.tiles.placed.any (fun p => p.slot = n && !p.fetch && !p.timedOut)

/-- One tile under TILE_INVALIDATE: mode 0 KEEP_COVER, 1 DROP, 2 DROP_DISCARD.  A DROP_DISCARD waits for a WRITEBACK
in progress, and throws away what that has not written (log 107).  The entry it frees goes to a write-back that waits
at its slot (R136). -/
def State.invalidate (s : State) (mode : Nat) (x : TSlot) : State :=
  if mode = 0 then
    (s.updSlot x.slot (fun x => { x with st := .refresh, fresh := none, gone := false, fetchAfter := 0 })).postRefresh x s.now
  else if mode = 1 && x.dirty then (s.updSlot x.slot (fun x => { x with drop := true })).postWb x.slot false
  else if s.wbPlaced x.slot then s.updSlot x.slot (fun x => { x with drop := true, discard := decide (mode = 2) })
  else
    let s := (s.count 6 x.marks).wbEnded x.slot true
    let s := s.updTiles (fun t => { t with queue := t.queue.filter (fun r => r.fetch || r.slot ≠ x.slot) })
    (State.enterWaiting 1 (s.dropSlot x.slot)).dropsEnded

def cmdTileInvalidate (tx0 ty0 tx1 ty1 : BitVec 16) (mode : Nat) (s : State) : Verdict :=
  checks s (decide (mode ≤ 2)) true none none
    (let xs := s.rectSlots tx0.toInt ty0.toInt tx1.toInt ty1.toInt
     let s := s.cancelRect tx0.toInt ty0.toInt tx1.toInt ty1.toInt
     let s := s.each xs (fun s x => s.invalidate mode x)
     let left := (xs.map (·.slot)).filter (fun n => s.tiles.slots.any (fun x => x.slot = n && x.drop))
     if left.isEmpty then .done .ok (resultOf [(128, 16, xs.length)]) s.unstick
     else .wait false (xs.length :: left) s.unstick)

/-- The slots whose tile is DIRTY, a WRITEBACK posted for each (R148). -/
def State.flushAll (s : State) : List Nat × State :=
  let ds := (s.tiles.slots.filter (·.dirty)).map (·.slot)
  (ds, s.each ds (fun s n => s.postWb n false))

def cmdTileFlush (s : State) : Verdict :=
  let (ds, s) := s.flushAll
  if ds.isEmpty then .done .ok 0 s else .wait false (ds.length :: 0 :: ds) s

/-- TILE_FLUSH_COMPLETE (R148): OK once each write-back has finished, TIMEOUT where one has failed. -/
def State.flushDone (s : State) : State :=
  match s.waitingFor 0x22 with
  | some w =>
    let posted := w.aux.headD 0
    let failed := w.aux.getD 1 0
    let res := resultOf [(128, 16, posted), (144, 16, failed)]
    if 0 < failed then s.finish w .timeout res
    else if (w.aux.drop 2).isEmpty then s.finish w .ok res
    else s
  | none => s

def execTileFlushComplete (dt : Nat) (s : State) : Out := .next (s.advance dt).flushDone

/-- Slot states as TILE_STATUS codes them: 0 EMPTY to 5 VOID. -/
def TSlot.code (x : TSlot) : Nat :=
  match x.st with
  | .pending => 1
  | .valid => if x.dirty then 3 else 2
  | .refresh => 4
  | .void => 5

def State.tileItems (s : State) (named : Bool) (tx ty : BitVec 16) : List Item :=
  let n := fun k => (s.tiles.slots.filter (fun x => x.code = k)).length
  let all : Item := (1, [wn (slotCap - s.tiles.slots.length), wn (n 1), wn (n 2), wn (n 3), wn (n 4), wn (n 5)]
    ++ s.cnt.take 11)
  let one : Item := match s.slotFor tx.toInt ty.toInt with
    | some x => (2, [wn (pack [(0, 16, tx.toNat), (16, 16, ty.toNat)]), wn x.code, x.gen]
        ++ dwords (if x.dirty then x.oldest else 0))
    | none => (2, [wn (pack [(0, 16, tx.toNat), (16, 16, ty.toNat)]), 0xFF, 0, 0, 0])
  if named then [all, one] else [all]

end Sys2Proof.Machine
end

