-- ==== Sys2Proof/Machine/PlanOps.lean ====
section
/-! DEFINITION. The planner's decisions for one channel in one cycle (R156 to R168): the desired state
along the predicted path, intervals, duties and pulses, and the chains of a group. -/

namespace Sys2Proof.Machine

/-! ### The desired state (R160, R161) -/

/-- What a segment shows of the map (R160). -/
structure Seg where
  allowed : Rat := 0
  covered : Rat := 0
  rate : Rat := 0
  tiles : List (Int × Int) := []
  deriving DecidableEq, Repr, Inhabited

/-- MASK, pass count and rate of a cell, a miss under the policies of R149. -/
def State.cellAt (s : State) (ch : Nat) (cx cy : Int) : Bool × Nat × Rat :=
  match s.lookCell cx cy with
  | some (m, c, r) => (m, c, (s.rateOf r : Rat))
  | none => (s.cfgB .missMask, s.cfgN .missCover,
      if s.cfgB .missRate then (s.pchan ch).lastRate else (s.cfgN .defaultRate : Rat))

/-- Intersect a channel's segment with the cell grid (R160). -/
def State.segAt (s : State) (ch : Nat) (g : Swath) : Seg :=
  let lim := s.cfgN .coverLimit
  let acc := (g.cells (s.cfgN .chW ch) s.cellMm).foldl (fun (a : Seg) x =>
    let (m, c, r) := s.cellAt ch x.1 x.2.1
    let t := (tileOf x.1, tileOf x.2.1)
    { allowed := if m then a.allowed + x.2.2 else a.allowed,
      covered := if lim ≤ c then a.covered + x.2.2 else a.covered,
      rate := if m then a.rate + x.2.2 * r else a.rate,
      tiles := if a.tiles.contains t then a.tiles else t :: a.tiles }) {}
  { acc with rate := if acc.allowed = 0 then 0 else acc.rate / acc.allowed }

/-- The desired state for one landing instant, with what else the planner draws from it. -/
structure Want where
  on : Bool := false
  /-- every condition but Overlap holds -/
  overlapOnly : Bool := false
  rate : Rat := 0
  v : Rat := 0
  margin : Rat := 0
  /-- tiles looked up for MASK and COVER, and for RATE -/
  tiles : List (Int × Int) := []
  rateTiles : List (Int × Int) := []
  deriving DecidableEq, Repr, Inhabited

/-- The channel's section is enabled (R177). -/
def State.sectionOn (s : State) (ch : Nat) : Bool := s.planner.enabled.getLsbD (s.cfgN .chSection ch)

/-- The margin of R161 for a spread of `sigma` ticks at channel speed `v`. -/
def State.marginOf (s : State) (o : FusOut) (ch : Nat) (sigma v : Rat) : Rat :=
  let y : Rat := ((s.cfgI .chY ch).natAbs : Rat)
  let hd : Rat := (o.hdu : Rat) * (2 * piR) / 2 ^ 32
  ratMax 0 ((o.hpu : Rat) + y * hd - s.cfgN .hpuFree)
    + ((s.cfgN .spreadK : Rat) / 65536) * secs sigma * v

/-- R161 for landing instant `t`. -/
def State.want (s : State) (o : FusOut) (ch : Nat) (sigma t : Rat) : Want :=
  let x := s.cfgI .chX ch
  let y := s.cfgI .chY ch
  let mo := o.motionAt t
  let v := mo.chSpeed x y
  let g := mo.swath x y (s.cfgI .trDist ch)
  let m := s.marginOf o ch sigma v
  let a := s.segAt ch (g.moved m)
  let b := s.segAt ch (g.moved (-m))
  let c := s.segAt ch g
  let tol : Rat := 1 - (s.cfgN .boundaryTol : Rat) / 100
  let ot : Rat := (s.cfgN .overlapTol : Rat) / 100
  let boundary := decide (tol ≤ a.allowed) && decide (tol ≤ b.allowed)
  let overlap := if s.cfgB .uncCover then decide (a.covered ≤ ot) && decide (b.covered ≤ ot)
    else decide (a.covered ≤ ot) || decide (b.covered ≤ ot)
  let motion := decide ((s.cfgN .vChMin : Rat) ≤ v) && decide (0 < mo.fwd y) && !o.reverse
  let rest := boundary && decide (0 < c.rate) && s.sectionOn ch && motion
  { on := rest && overlap, overlapOnly := rest, rate := c.rate, v := v, margin := m,
    tiles := a.tiles ++ b.tiles.filter (fun t => !a.tiles.contains t), rateTiles := c.tiles }

/-! ### Duty (R164) -/

/-- Flow a channel needs, mL/min. -/
def State.qReq (s : State) (ch : Nat) (rate v : Rat) : Rat := rate * v * (s.cfgN .chW ch : Rat) * 6 / 10 ^ 9

/-- p of R164, in the loop's measurement units (sQ16.16). -/
def State.pressure (s : State) : Int :=
  match s.cfgN .flowLoop with
  | 0 => s.cfgI .pRef
  | k + 1 => ((s.loops.loop.getD k {}).yValid).getD (s.cfgI .pRef)

/-- Flag bits of an edge: RATE_LOW and RATE_HIGH. -/
abbrev fRateLow : BitVec 5 := 8
abbrev fRateHigh : BitVec 5 := 16

/-- The duty of R164 for a rate and speed, with RATE_LOW or RATE_HIGH. -/
def State.dutyFor (s : State) (ch : Nat) (rate v : Rat) : Rat × BitVec 5 :=
  let lo : Rat := (s.cfgN .dutyMin : Rat) / 100
  let hi : Rat := (s.cfgN .dutyMax : Rat) / 100
  let p := s.pressure
  if p ≤ 0 then (hi, fRateLow)
  else
    let qn := (s.cfgN .chFlow ch : Rat) * sqrtR ((p : Rat) / (s.cfgI .pRef : Rat))
    if qn = 0 then (hi, fRateLow)
    else
      let d := s.qReq ch rate v / qn
      if hi < d then (hi, fRateLow) else if d < lo then (lo, fRateHigh) else (d, 0)

/-! ### Intervals (R162, R163) -/

/-- One sampled landing instant with the desired state for an ON and for an OFF. -/
structure Smp where
  t : Rat := 0
  a : Want := {}
  b : Want := {}
  deriving DecidableEq, Repr, Inhabited

/-- The desired state at one landing instant. -/
def State.smpAt (s : State) (o : FusOut) (ch : Nat) (t : Rat) : Smp :=
  let d := s.delays ch
  { t := t, a := s.want o ch d.sOn t, b := s.want o ch d.sOff t }

/-- Nothing that R161 looks at can change between two landing instants: all the cells that the channel's segment
can touch on the way, with the margin on either side and 2 mm for the arc, show the same. -/
def State.still (s : State) (o : FusOut) (ch : Nat) (x y : Smp) : Bool :=
  let m := ratMax (ratMax x.a.margin x.b.margin) (ratMax y.a.margin y.b.margin) + 2
  let w : Rat := (s.cfgN .chW ch : Rat)
  let g := fun (t : Rat) => (o.motionAt t).swath (s.cfgI .chX ch) (s.cfgI .chY ch) (s.cfgI .trDist ch)
  let ends := [g x.t, g y.t].flatMap (fun q => [(q.ends w).1, (q.ends w).2])
  let es := ends.map Prod.fst
  let ns := ends.map Prod.snd
  let cell := fun (r : Rat) => (r / s.cellMm).floor
  let lo := fun (l : List Rat) => cell (l.foldl ratMin (l.headD 0) - m)
  let hi := fun (l : List Rat) => cell (l.foldl ratMax (l.headD 0) + m)
  let here := s.cellAt ch (lo es) (lo ns)
  (List.range (hi ns + 1 - lo ns).toNat).all (fun j => (List.range (hi es + 1 - lo es).toNat).all (fun i =>
    decide (s.cellAt ch (lo es + (i : Int)) (lo ns + (j : Int)) = here)))

/-- The instants between two samples at which the desired state is looked up as well, halving down to one tick
wherever the map shows a difference on the way. -/
def State.between (s : State) (o : FusOut) (ch : Nat) : Nat → Smp → Smp → List Smp
  | 0, _, _ => []
  | k + 1, x, y =>
    if y.t - x.t ≤ 1 || s.still o ch x y then []
    else
      let m := s.smpAt o ch ((x.t + y.t) / 2)
      s.between o ch k x m ++ m :: s.between o ch k m y

/-- Each sample with those between it and the next. -/
def State.closer (s : State) (o : FusOut) (ch : Nat) : List Smp → List Smp
  | x :: y :: r => x :: (s.between o ch 15 x y ++ s.closer o ch (y :: r))
  | l => l

/-- The samples from `t0` to `t1`, one every 25,000 ticks and down to one a tick where the ground differs on the
way (log 14). -/
def State.samples (s : State) (o : FusOut) (ch : Nat) (t0 t1 : Rat) : List Smp :=
  let n := ((t1 - t0) / 25000).ceil.toNat
  s.closer o ch ((List.range (n + 1)).map (fun (k : Nat) => s.smpAt o ch (ratMin t1 (t0 + 25000 * (k : Rat)))))

/-- Close in on the instant between `a` and `b` at which `p` changes from its value at `a`. -/
def bisect (p : Rat → Bool) (was : Bool) : Nat → Rat → Rat → Rat
  | 0, _, b => b
  | k + 1, a, b => let m := (a + b) / 2; if p m = was then bisect p was k m b else bisect p was k a m

/-- The changes of the desired state along the samples, from state `st`: an ON where the ON test rises,
or the OFF test rises with the ON test holding; an OFF likewise where they fall. -/
def scan (pOn pOff : Rat → Bool) : Bool → List Smp → List (Bool × Rat)
  | st, x :: y :: r =>
    if st then
      if x.b.on && !y.b.on then (false, bisect pOff true 17 x.t y.t) :: scan pOn pOff false (y :: r)
      else if x.a.on && !y.a.on && !y.b.on then
        (false, bisect pOn true 17 x.t y.t) :: scan pOn pOff false (y :: r)
      else scan pOn pOff st (y :: r)
    else
      if !x.a.on && y.a.on then (true, bisect pOn false 17 x.t y.t) :: scan pOn pOff true (y :: r)
      else if !x.b.on && y.b.on && y.a.on then
        (true, bisect pOff false 17 x.t y.t) :: scan pOn pOff true (y :: r)
      else scan pOn pOff st (y :: r)
  | _, _ => []

/-- A desired ON interval in landing instants; no `on` where the channel is open already, no `off`
where it ends beyond what was looked up. -/
structure Iv where
  on : Option Rat := none
  off : Option Rat := none
  deriving DecidableEq, Repr, Inhabited

/-- Pair the changes into intervals; `cur` is the interval under way. -/
def ivsOf : Option Iv → List (Bool × Rat) → List Iv
  | some c, (false, t) :: r => { c with off := some t } :: ivsOf none r
  | some c, (true, _) :: r => ivsOf (some c) r
  | none, (true, t) :: r => ivsOf (some { on := some t }) r
  | none, (false, _) :: r => ivsOf none r
  | some c, [] => [c]
  | none, [] => []

/-- Bridge the gaps shorter than `gap` mm, at `v` mm/s, throughout which only Overlap fails. -/
def bridge (smp : List Smp) (v gap : Rat) : List Iv → List Iv
  | [] => []
  | a :: r =>
    match bridge smp v gap r with
    | [] => [a]
    | b :: q =>
      match a.off, b.on with
      | some x, some y =>
        let only := smp.all (fun m => !(decide (x < m.t) && decide (m.t < y)) || m.b.overlapOnly)
        if secs (y - x) * v < gap && only then { on := a.on, off := b.off } :: q else a :: b :: q
      | _, _ => a :: b :: q

/-- Leave out the intervals shorter than ON_MIN_MM. -/
def longEnough (v least : Rat) (i : Iv) : Bool :=
  match i.on, i.off with
  | some x, some y => decide (least ≤ secs (y - x) * v)
  | _, _ => true

/-- Speed of the landing point along its track. -/
def State.landSpeed (s : State) (o : FusOut) (ch : Nat) : Rat :=
  let v := o.motion.chSpeed (s.cfgI .chX ch) (s.cfgI .chY ch)
  let l := o.motion.omega * (s.cfgI .trDist ch : Rat)
  sqrtR (v * v + l * l)

/-- One interval in due MT. -/
structure DIv where
  on : Option Nat := none
  off : Option Nat := none
  /-- ideal due MT of its ON, which may lie before the freeze point -/
  ideal : Int := 0
  /-- ticks by which R155 places its ON, and its OFF, late -/
  lateOn : Nat := 0
  lateOff : Nat := 0
  /-- delay of MINOFF_SHIFT -/
  minoff : Nat := 0
  deriving DecidableEq, Repr, Inhabited

/-- The latest of the samples, newest first, at which `p` has the value `was`, closed in on from the first
sample that follows it: the instant at which `p` left that value. -/
def lastChange (p : Rat → Bool) (was : Bool) : List Rat → Option Rat
  | y :: x :: r => if p x = was then some (bisect p was 17 x y) else lastChange p was (x :: r)
  | _ => none

/-- The landing instant of a channel's last frozen edge. -/
def State.lastLanding (s : State) (ch : Nat) : Rat :=
  let p := s.pchan ch
  let a : Rat := match p.lastOn with
    | some (d, sh) => (d : Rat) - (sh : Rat) + s.leadOn ch
    | none => 0
  let b : Rat := match p.lastOff with
    | some d => (d : Rat) + s.leadOff ch
    | none => 0
  ratMax a b

/-- Due MT of a landing instant, at least F; and how late an abandoned cycle makes it (R155). -/
def dueOf (abandoned : Bool) (f : Nat) (t lead : Rat) : Nat × Nat :=
  let x := roundRat (t - lead)
  if x < (f : Int) then (f, if abandoned then ((f : Int) - x).toNat else 0) else (x.toNat, 0)

/-- Turn intervals into due MTs, holding the minimum off-time after the previous closing (R163); `close`
tells the OFF that closes an interval. -/
def State.dueIvs (s : State) (ch f : Nat) (close : DIv → Option Nat) (prev : Option Nat) : List Iv → List DIv
  | [] => []
  | i :: r =>
    let ab := (s.pchan ch).abandoned.isSome
    let off := i.off.map (fun t => dueOf ab f t (s.leadOff ch))
    let offDue := off.map (·.1)
    match i.on with
    | none =>
      let d : DIv := { off := offDue, lateOff := (off.map (·.2)).getD 0 }
      d :: s.dueIvs ch f close ((close d).or prev) r
    | some t =>
      let on := dueOf ab f t (s.leadOn ch)
      let least := match prev with
        | some d => ((d : Rat) + (s.delays ch).dOff + s.minOff ch).ceil.toNat
        | none => 0
      let due := max on.1 least
      let gone := match offDue with | some d => decide (d ≤ due) | none => false
      if gone then s.dueIvs ch f close prev r
      else
        let d : DIv :=
          { on := some due, off := offDue, lateOn := on.2, lateOff := (off.map (·.2)).getD 0, minoff := due - on.1,
            ideal := if on.1 < due then (due : Int) else roundRat (t - s.leadOn ch) }
        d :: s.dueIvs ch f close ((close d).or prev) r

/-- What one channel's look-ahead gives in a cycle. -/
structure Ahead where
  ivs : List DIv := []
  smp : List Smp := []
  deriving DecidableEq, Repr, Inhabited

/-- Decide a channel's intervals from freeze point `f` on, from desired state `st` there (R162, R163).  Until
the last frozen edge has landed, the state before it lands is that edge's own affair; where the desired
state differs from `st` after it, the instant at which it changed is sought back to one plan span before the
freeze point's own landing (log 108).  Where it is not found, a change in the direction of `st` that would
have been due before the freeze point is what that frozen edge was for, and nothing is placed for it. -/
def State.lookAhead (s : State) (o : FusOut) (ch f : Nat) (st : Bool) (close : DIv → Option Nat) : Ahead :=
  let d := s.delays ch
  let zone := ((s.cfgN .spreadK : Rat) / 65536) * ratAbs (d.sOn - d.sOff) + 1
  let lead := if st then s.leadOff ch else s.leadOn ch
  let tf := (f : Rat) + lead
  let t0 := ratMax tf (s.lastLanding ch + zone)
  let t1 := ratMax t0 ((f : Rat) + 2500000 + s.leadMax ch)
  let smp := s.samples o ch t0 t1
  let pOn := fun t => (s.want o ch d.sOn t).on
  let pOff := fun t => (s.want o ch d.sOff t).on
  let h := smp.headD {}
  let back := (List.range (((t0 - tf + 2500000) / 25000).ceil.toNat + 1)).map (fun (k : Nat) => t0 - 25000 * (k : Rat))
  let evs : List (Bool × Rat) :=
    if st && !h.b.on then
      let r := scan pOn pOff false smp
      match lastChange pOff true back, r with
      | some x, _ => (false, x) :: r
      | none, (true, x) :: q => if x - s.leadOn ch < (f : Rat) then q else (false, tf) :: r
      | none, _ => (false, tf) :: r
    else if !st && h.a.on then
      let r := scan pOn pOff true smp
      match lastChange pOn false back, r with
      | some x, _ => (true, x) :: r
      | none, (false, x) :: q => if x - s.leadOff ch < (f : Rat) then q else (true, tf) :: r
      | none, _ => (true, tf) :: r
    else scan pOn pOff st smp
  let v := s.landSpeed o ch
  let ivs := ivsOf (if st then some {} else none) evs
  let ivs := (bridge smp v (s.cfgN .gapMinMm : Rat) ivs).filter (longEnough v (s.cfgN .onMinMm : Rat))
  { ivs := s.dueIvs ch f close (s.pchan ch).lastOff ivs, smp := smp }

/-! ### Pulses (R166, R167) -/

/-- One pulse or held ON to be placed: its ON and its OFF where they are placed. -/
structure Pulse where
  ch : Nat := 0
  on : Option Nat := none
  off : Option Nat := none
  /-- the OFF moves with the ON, at most to `cap` -/
  tied : Bool := false
  cap : Option Nat := none
  /-- 0 a boundary ON of R162, 1 a grid ON of R166, 3 a grid ON in MANUAL, 2 any other -/
  kind : Nat := 2
  /-- ideal due MT of a boundary ON, and its due MT before R168 moves it -/
  ideal : Int := 0
  at_ : Option Nat := none
  /-- the release of a pulse left out because its width is 0 or less (R167) -/
  skip : Option Nat := none
  flags : BitVec 5 := 0
  shift : Int := 0
  lateOn : Nat := 0
  lateOff : Nat := 0
  minoff : Nat := 0
  deriving DecidableEq, Repr, Inhabited

/-- PWM period of a channel's quadrant in ticks, none at PWM_HZ 0. -/
def State.pwmT (s : State) (ch : Nat) : Option Nat :=
  let hz := s.cfgN .pwmHz (quadOf ch)
  if hz = 0 then none else some (roundRat ((250000000 : Rat) / (hz : Rat))).toNat

/-- Offset of a channel's grid (R166). -/
def pwmPhase (T ch : Nat) : Nat := (roundRat ((T * (3 * (ch % 8) + (ch / 8) % 3) : Nat) / (24 : Rat))).toNat

/-- The grid releases of a channel from `a` on and before `b`. -/
def gridPoints (T ch a b : Nat) : List Nat :=
  let ph := pwmPhase T ch
  let k0 := (a - ph + T - 1) / T
  let n := (b - a) / T + 2
  ((List.range n).map (fun i => (k0 + i) * T + ph)).filter (fun g => a ≤ g && g < b)

/-- How a channel's pulses are drawn: the width for a release at the given MT, none where that holds it ON,
and the flags of its duty. -/
structure Draw where
  width : Nat → Option Rat × BitVec 5
  /-- predicted closing delay and minimum off-time -/
  dOff : Rat
  minOff : Nat
  /-- grid widths are shortened to leave the minimum off-time -/
  shorten : Bool

/-- A grid pulse's width leaves the minimum off-time before the next, the cut counted as RATE_LOW (R167). -/
def Draw.cut (w : Draw) (T : Nat) (x : Rat) (fl : BitVec 5) : Rat × BitVec 5 :=
  let most : Rat := (T : Rat) - w.dOff - w.minOff
  if w.shorten && decide (most < x) then ((most.floor : Rat), fl ||| fRateLow) else (x, fl)

/-- The pulses of one interval on the grid (R167).  `held`: the channel is ON with no OFF placed yet;
`close`: predicted closing of the pulse before. -/
def gridPulses (ch T : Nat) (w : Draw) (cap : Option Nat) : List Nat → Bool → Option Rat → List Pulse
  | [], true, _ => match cap with
    | some c => [{ ch := ch, off := some c }]
    | none => []
  | [], false, _ => []
  | g :: r, true, cl =>
    match w.width g with
    | (none, _) => gridPulses ch T w cap r true cl
    | (some x, fl) =>
      let (x, fl) := w.cut T x fl
      let off := g + (roundRat (ratMax 0 x)).toNat
      let off := match cap with | some c => min off c | none => off
      { ch := ch, off := some off, flags := fl } :: gridPulses ch T w cap r false (some (off + w.dOff))
  | g :: r, false, cl =>
    let early := match cl with | some c => decide ((g : Rat) < c + w.minOff) | none => false
    match w.width g with
    | (none, fl) =>
      if early then gridPulses ch T w cap r false cl
      else { ch := ch, on := some g, kind := 1, flags := fl } :: gridPulses ch T w cap r true none
    | (some x, fl) =>
      let (x, fl) := w.cut T x fl
      if early then gridPulses ch T w cap r false cl
      else if x ≤ 0 then { ch := ch, skip := some g } :: gridPulses ch T w cap r false cl
      else
        let off := g + (roundRat x).toNat
        let off' := match cap with | some c => min off c | none => off
        { ch := ch, on := some g, off := some off', tied := true, cap := cap, kind := 1, flags := fl }
          :: gridPulses ch T w cap r false (some (off' + w.dOff))

/-- What the frozen edges leave a pulsed channel in: ON or OFF, the due MT of its last ON, the grid point or
boundary it was drawn for and whether it stands on the grid, and its last OFF. -/
structure Frozen where
  phys : Bool := false
  on : Option (Nat × Nat × Bool) := none
  off : Option Nat := none
  deriving DecidableEq, Repr, Inhabited

/-- The last grid release of a channel after `d` and before `f`. -/
def lastGrid (T ch d f : Nat) : Option Nat := (gridPoints T ch (max (d + 1) (f - T)) f).getLast?

/-- The pulse that a channel left ON at `f` is in: where it is released, the point it is drawn for, and whether it
stands on the grid.  It is its last ON's for a period, and while that is still to end; one that has been held ON is in
the pulse of the last grid point it has passed (R166). -/
def openPulse (T ch f : Nat) (w : Draw) : Option (Nat × Nat × Bool) → Option (Nat × Nat × Bool)
  | none => (lastGrid T ch 0 f).map (fun g => (g, g, true))
  | some d =>
    let ends := match (w.width d.2.1).1 with
      | some x => decide (f ≤ d.1 + max T (roundRat (ratMax 0 x)).toNat)
      | none => false
    if ends then some d
    else match lastGrid T ch d.1 f with
      | some g => some (g, g, true)
      | none => some d

/-- The pulses of one interval from freeze point `f`, grid points before `stop`. -/
def pulsedIv (ch T f stop : Nat) (w : Draw) (z : Frozen) (i : DIv) : List Pulse :=
  let fin := match i.off with | some d => min d stop | none => stop
  let cap := match i.off with | some d => if d < stop then some d else none | none => none
  let lim := fun (x : Nat) => match i.off with | some d => min x d | none => x
  match i.on with
  | some a =>
    if stop ≤ a then []
    else
      match w.width a with
      | (none, fl) =>
        { ch := ch, on := some a, kind := 0, flags := fl, ideal := i.ideal, at_ := some a, lateOn := i.lateOn,
          minoff := i.minoff } :: gridPulses ch T w cap (gridPoints T ch (a + 1) fin) true none
      | (some x, fl) =>
        if x ≤ 0 then
          { ch := ch, skip := some a } :: gridPulses ch T w cap (gridPoints T ch (a + 1) fin) false
            (z.off.map (fun (d : Nat) => (d : Rat) + w.dOff))
        else
          let off := lim (a + (roundRat x).toNat)
          { ch := ch, on := some a, off := some off, tied := true, cap := i.off, kind := 0, flags := fl,
            ideal := i.ideal, at_ := some a, lateOn := i.lateOn, minoff := i.minoff }
            :: gridPulses ch T w cap (gridPoints T ch (a + 1) fin) false (some ((off : Rat) + w.dOff))
  | none =>
    if z.phys then
      match (openPulse T ch f w z.on).bind (fun d => (w.width d.2.1).1.map (fun x => (d, x, (w.width d.2.1).2))) with
      | none => gridPulses ch T w cap (gridPoints T ch f fin) true none
      | some ((d, _, grid), x, fl) =>
        let (x, fl) := if grid then w.cut T x fl else (x, fl)
        let off := lim (max f (d + (roundRat (ratMax 0 x)).toNat))
        { ch := ch, off := some off, flags := fl }
          :: gridPulses ch T w cap (gridPoints T ch f fin) false (some ((off : Rat) + w.dOff))
    else gridPulses ch T w cap (gridPoints T ch f fin) false (z.off.map (fun (d : Nat) => (d : Rat) + w.dOff))

/-- The OFF that closes an interval: its last pulse's (R163). -/
def pulsedClose (ch T f stop : Nat) (w : Draw) (z : Frozen) (i : DIv) : Option Nat :=
  ((pulsedIv ch T f stop w z i).filterMap (·.off)).getLast?

/-- The edges of an interval of a channel that is simply ON or OFF. -/
def plainIv (ch stop : Nat) (i : DIv) : List Pulse :=
  let on := i.on.filter (· < stop)
  let off := i.off.filter (· < stop)
  if i.on.isSome && on.isNone then []
  else if on.isNone && off.isNone then []
  else [{ ch := ch, on := on, off := off, kind := 0, ideal := i.ideal, at_ := on, lateOn := i.lateOn,
          lateOff := i.lateOff, minoff := i.minoff }]

/-! ### Chains (R168) -/

/-- TB_EST of a channel. -/
def State.tbEst (s : State) (ch : Nat) : Nat := (s.pchan ch).phases.foldl max 0

/-- One member of a chain: ideal due MT, channel, and its due where it is already frozen. -/
structure Mem where
  ideal : Int := 0
  ch : Nat := 0
  fixed : Option Nat := none
  deriving DecidableEq, Repr, Inhabited

/-- Group sorted members into chains. -/
def chainsOf (tb : Nat → Nat) : List Mem → List (List Mem)
  | [] => []
  | m :: r =>
    match chainsOf tb r with
    | [] => [[m]]
    | c :: q =>
      match c with
      | x :: _ => if x.ideal < m.ideal + (tb m.ch : Int) then (m :: c) :: q else [m] :: c :: q
      | [] => [m] :: q

/-- Where each member lies behind the first, spaced by TB_EST. -/
def chainOffsets (tb : Nat → Nat) : Nat → List Mem → List Nat
  | _, [] => []
  | a, m :: r => a :: chainOffsets tb (a + tb m.ch) r

/-- Set the members from the left, none before F, each TB_EST after the one before. -/
def setChain (tb : Nat → Nat) (f : Nat) (base : Int) : Nat → List (Mem × Nat) → List (Mem × Nat)
  | _, [] => []
  | least, (m, off) :: r =>
    let due := match m.fixed with
      | some d => d
      | none => max (max f least) (base + (off : Int)).toNat
    (m, due) :: setChain tb f base (due + tb m.ch) r

/-- Place one chain so that its largest early and late shifts are equal. -/
def placeChain (tb : Nat → Nat) (f : Nat) (c : List Mem) : List (Mem × Nat) :=
  let z := c.zip (chainOffsets tb 0 c)
  let qs := z.map (fun p => (p.2 : Int) - p.1.ideal)
  let hi := qs.foldl max (qs.headD 0)
  let lo := qs.foldl min (qs.headD 0)
  setChain tb f (-((hi + lo) / 2)) 0 z

/-- Where a placed chain ends. -/
def chainEnd (tb : Nat → Nat) (p : List (Mem × Nat)) : Nat :=
  match p.getLast? with
  | some (m, d) => d + tb m.ch
  | none => 0

/-- Merge the first two neighbours that overlap once placed; none where none do. -/
def mergeOnce (tb : Nat → Nat) (f : Nat) : List (List Mem) → Option (List (List Mem))
  | a :: b :: r =>
    if ((placeChain tb f b).headD ({}, 0)).2 < chainEnd tb (placeChain tb f a) then some ((a ++ b) :: r)
    else (mergeOnce tb f (b :: r)).map (a :: ·)
  | _ => none

def mergeAll (tb : Nat → Nat) (f : Nat) : Nat → List (List Mem) → List (List Mem)
  | 0, cs => cs
  | k + 1, cs => match mergeOnce tb f cs with
    | some cs' => mergeAll tb f k cs'
    | none => cs

/-- Move a pulse's ON, and its OFF with it where that is tied, at most to the boundary OFF; SHIFT counts from the
ideal `from_`.  A pulse whose ON would not come before that OFF, or its own, is left out (R167, R168, log 128). -/
def Pulse.moveTo (p : Pulse) (due : Nat) (from_ : Int) : Pulse :=
  match p.on with
  | some a =>
    let off := if p.tied then p.off.map (fun o =>
        let x := ((o : Int) + (due : Int) - (a : Int)).toNat
        match p.cap with | some c => min x c | none => x) else p.off
    if off.any (· ≤ due) || p.cap.any (· ≤ due) then { p with on := none, off := none }
    else { p with on := some due, off := off, shift := (due : Int) - from_ }
  | none => p

/-- A held ON moved to or past the OFF that ends it is left out with that OFF. -/
def tidy : List Pulse → List Pulse
  | p :: q :: r =>
    match p.on, p.off, q.on, q.off with
    | some a, none, none, some b => if q.ch = p.ch && b ≤ a then tidy r else p :: tidy (q :: r)
    | _, _, _, _ => p :: tidy (q :: r)
  | l => l

/-- Space the boundary ONs of a group and move the grid ONs out of the chains (R168).  `frozen` are
boundary ONs already frozen: they keep their places.  An ON in a chain of its own is not moved: it stands at
its ideal due MT, at F where that lies before F (R162). -/
def spaceGroup (tb : Nat → Nat) (f : Nat) (frozen : List (Nat × Nat × Nat)) (ps : List Pulse) : List Pulse :=
  let mine := (ps.filter (fun p => p.kind = 0 && p.on.isSome)).map (fun p =>
    ({ ideal := p.ideal, ch := p.ch } : Mem))
  let old := frozen.map (fun x => ({ ideal := (x.1 : Int), ch := x.2.2, fixed := some x.2.1 } : Mem))
  let ms := (mine ++ old).mergeSort (fun a b => decide (a.ideal < b.ideal ∨ (a.ideal = b.ideal ∧ a.ch ≤ b.ch)))
  let placed := (mergeAll tb f ms.length (chainsOf tb ms)).map (placeChain tb f)
  tidy <| ps.map (fun p =>
    match p.on with
    | none => p
    | some a =>
      if p.kind = 0 then
        match placed.find? (fun c => c.any (fun x => x.1.fixed.isNone && x.1.ch = p.ch && x.1.ideal = p.ideal)) with
        | some c =>
          if c.length < 2 then p
          else match c.find? (fun x => x.1.fixed.isNone && x.1.ch = p.ch && x.1.ideal = p.ideal) with
            | some x => p.moveTo x.2 p.ideal
            | none => p
        | none => p
      else if p.kind = 1 then
        match placed.find? (fun c => (c.headD ({}, 0)).2 ≤ a && a < chainEnd tb c) with
        | some c => p.moveTo (chainEnd tb c) (a : Int)
        | none => p
      else p)

/-! ### Edges (R169) -/

/-- The edges of a pulse with the channel's own flags (bit 0 DEFAULT_DELAY, 1 LEAD_CLIPPED). -/
def Pulse.edges (p : Pulse) (own : BitVec 5) (profile : Nat) : List Edge :=
  let fl := own ||| p.flags
  (match p.on with
    | some a => [{ ch := p.ch, on := true, due := a, flags := if 0 < p.minoff then fl ||| 4 else fl,
                   shift := p.shift, late := p.lateOn, minoff := p.minoff, kind := p.kind, profile := profile }]
    | none => [])
  ++ (match p.off with
    | some b => [{ ch := p.ch, on := false, due := b, flags := fl, late := p.lateOff }]
    | none => [])

end Sys2Proof.Machine
end

