-- ==== Sys2Proof/Machine/Trans.lean ====
section
/-! DEFINITION. The transitions of the device state (R30 to R45): entering a state, module-wide faults
and their records (R39, R451), ending activities (R38), host loss and grace (R50 to R54), and reset
(R41 to R44). -/

namespace Sys2Proof.Machine

/-! ### Cause codes (R386) and the fault summary (R381) -/

abbrev causeCommand : Nat := 0
abbrev causeSpeed : Nat := 1
abbrev causeHostLoss : Nat := 2
abbrev causeGrace : Nat := 3
abbrev causeBoot : Nat := 10
abbrev causeSignature : Nat := 11

/-- The cause code of the transition into FAULT that a cause brings about. -/
def FCause.code : FCause → Nat
  | .safen => 5 | .brownout => 6 | .lsReadback _ => 7 | .fdReadback _ => 8 | .loopCheck _ => 9
  | .cls _ => 4 | .orphan => 3

/-- Its bit of FAULT_SUMMARY. -/
def FCause.bit : FCause → Nat
  | .safen => 0 | .brownout => 1 | .lsReadback _ => 2 | .fdReadback _ => 3 | .loopCheck _ => 4
  | .cls _ => 5 | .orphan => 6

def summaryOf (cs : List FCause) : BitVec 16 := cs.foldl (fun m c => m ||| BitVec.ofNat 16 (2 ^ c.bit)) 0

/-- Record one more cause. -/
def State.addCause (s : State) (c : FCause) : State :=
  if s.dev.causes.contains c then s
  else s.updDev (fun d =>
    { d with causes := d.causes ++ [c], summary := d.summary ||| BitVec.ofNat 16 (2 ^ c.bit) })

/-! ### Edges at a transition (R34) -/

/-- Withdraw the pending edges of channels, discard their handed-over ONs due from now on, and give an
OFF due now to each that is open or whose ON has been released or is due already. -/
def State.withdraw (s : State) (chs : List Nat) : State :=
  let now := s.now
  let keep := fun (e : Edge) => !chs.contains e.ch
  let s := s.updPlanner (fun p =>
    { p with wheel := p.wheel.filter keep, before := p.before.filter keep, decided := p.decided.filter keep,
             frozen := p.frozen.filter (fun f => !chs.contains f.2.2),
             ch := p.ch.zipIdx.map (fun q => if chs.contains q.2 then
               { q.1 with ivs := [], lastOn := none, lastGrid := false, lastOff := none, abandoned := none } else q.1) })
  s.each chs (fun s ch =>
    let g := grpOf ch
    let s := s.updGroup g (fun x =>
      { x with handed := x.handed.filter (fun e => !(e.ch = ch && e.on && decide (now ≤ e.due))) })
    let open_ := !(s.ctx ch).offDone || (s.group g).handed.any (fun e => e.ch = ch && e.on)
    let off : Edge := { ch := ch, on := false, due := now }
    if !open_ then s
    else if (s.group g).handed.length < 32 then s.updGroup g (fun x => { x with handed := x.handed ++ [off] })
    else s.updPlanner (fun p => { p with wheel := p.wheel ++ [off] }))

/-- Drop every edge not yet handed over, and what the planner remembers of its placements. -/
def State.plannerDrop (s : State) : State :=
  s.updPlanner (fun p =>
    { p with wheel := [], before := [], decided := [], frozen := [], placing := false,
             ch := p.ch.map (fun c =>
               { c with ivs := [], lastOn := none, lastGrid := false, lastOff := none, abandoned := none }) })

/-- The channels the planner drives. -/
def State.plannedChs (s : State) : List Nat := (List.range s.nCh).filter s.planned

/-- A valve channel that a sweep or a tune drives in STANDBY too (R255, R414). -/
def State.actDrives (s : State) (ch : Nat) : Bool :=
  s.acts.any (fun a => (a.code = 1 || a.code = 3) && s.claims a (.valve ch))

/-! ### Waiting commands at a transition (R376) -/

/-- The opcodes of configuration and maintenance, and of DIAG_ERASE, whose activities follow R38. -/
def activityOp (op : Nat) : Bool := [0x10, 0x11, 0x12, 0x13, 0x14, 0xB3].contains op

/-- Complete WRONG_STATE each waiting command that the new state does not allow. -/
def State.dropIllegal (s : State) : State :=
  let s := s.each (List.range 4) (fun s b =>
    if (s.busOf b).detect.isSome && !legalIn 0x84 s.dev.st then s.endDetect b .wrongState else s)
  let bad := s.host.outstanding.filter (fun w => !activityOp w.op.toNat && !legalIn w.op.toNat s.dev.st)
  let s := if bad.any (fun w => w.op = 0x27) then s.updPlanner (fun p => { p with ackWaits := false }) else s
  s.each bad (fun s w => s.finishNone w .wrongState 0)

/-! ### Entering a state (R30, R31, R33) -/

/-- Force-safe is released when the module leaves FAULT, or at the end of BOOT (R443). -/
def State.releaseForce (s : State) : State :=
  let s := s.updLane 2 (fun l => { l with force := false })
  let now := s.now
  { s with valves := { s.valves with
      quad := s.valves.quad.map (fun q => { q with off := q.bad || q.overE, bleed := false, since := some now }) } }

/-- Enter device state `new` for the cause coded `cause`. -/
def State.enter (s : State) (new : DevState) (cause : Nat) : State :=
  let old := s.dev.st
  let s := match new with
    | .fault => s.valvesSafe.plannerDrop
    | .parked => if old == DevState.working || old == DevState.manual then s.withdraw s.plannedChs else s
    | .safe => if old.active then s.withdraw (List.range 96) else s
    | .standby => if old.active then s.withdraw ((List.range 96).filter (fun ch => !s.actDrives ch)) else s
    | _ => s
  let s := s.updDev (fun d => { d with st := new, cause := cause, stMt := s.now })
  let s := if old == DevState.working then s.updPlanner (fun p => { p with loss := 0 }) else s
  let s := if old == DevState.fault then s.releaseForce else s
  let s :=
    if new.active then (if old.active then s else s.fieldParked.lsAll)
    else if old.active || new == DevState.fault then s.loopsSafe.lsForget.lsAll
    else s
  let s := match new with
    | .safe => if old == DevState.boot then s else s.canSafe false
    | .fault => if old == DevState.boot then s else s.canSafe true
    | .standby => s.stopTxf.claimAll
    | _ => s
  let s := s.dropIllegal
  s.raise 0x0001 subjModule [(128, 8, old.code), (136, 8, new.code), (144, 8, cause)] (new == DevState.safe || new == DevState.fault)

/-! ### Activities (R38) -/

/-- End an activity: its claim is over, a sweep's channels get no further edge, and a tune leaves its loops OPEN at
U_SAFE. -/
def State.endActivity (s : State) (a : Activity) : State :=
  let s := if a.swept.isEmpty then s else s.withdraw (a.swept.map (·.ch))
  let s := { s with acts := s.acts.filter (fun x => !(x == a)) }
  let s := s.each (if a.ready then a.loops else []) (fun s n =>
    let s := s.updLoop n (fun l => { l with relay := none })
    if (s.loop n).st == .faulted then s
    else
      let s := s.loopSafe n
      if n ≠ a.loop && s.dev.st.active && !s.cfgB .closeOn n then s.updLoop n (fun l => { l with closing := true }) else s)
  if a.code = 3 then s.lsAll.stopTxf else s

/-- The MAINT_START command of an activity. -/
def State.maintCmd (s : State) (a : Activity) : Option Waiting :=
  s.waitingFor 0x14 (fun w => w.idx = a.idx)

/-- Abort one activity: TIMEOUT with REASON 1 where a host is bound, else a fault record. -/
def State.abortAct (s : State) (a : Activity) : State :=
  let s := s.endActivity a
  let s := if s.dev.bound then s else s.storeRec (s.mkRec 8 0 subjModule [])
  match s.maintCmd a with
  | some w =>
    if s.dev.bound then s.finish w .timeout (resultOf [(128, 8, 1)])
    else s.updHost (fun h => { h with outstanding := h.outstanding.filter (fun x => !w.same x) })
  | none => s

/-- Abort every running activity but a verify or scrub, a firing or rollback, and the other holders of
STORE. -/
def State.abortAll (s : State) : State :=
  s.each (s.acts.filter (fun a => [1, 2, 3, 5, 6].contains a.code)) (fun s a => s.abortAct a)

/-! ### FAULT (R39, R451, R452, R54) -/

/-- WAKEN is driven low on entry to FAULT, or when ORPHAN is recorded, with the link not in L0 (R342). -/
def State.wake (s : State) : State := if s.host.link then s else s.updDev (fun d => { d with wakenLow := true })

/-- Record ORPHAN for a grace that began at `start` (R51): its event waits for the next BIND. -/
def State.recordOrphan (s : State) (start : Nat) : State :=
  let s := s.storeRec (s.mkRec 6 0x0003 subjModule [(128, 64, start)])
  (s.updDev (fun d => { d with grace := none, orphan := some (start, s.now) })).wake

/-- Enter FAULT from SAFE to MANUAL; in FAULT a further cause changes no state (R452).  The commands of a sweep in
progress are discarded (R35). -/
def State.toFault (s : State) (cause : Nat) : State :=
  match s.dev.st with
  | .reset | .boot | .fault => s
  | _ =>
    let s := match s.dev.grace with
      | some g => (s.recordOrphan g.start).addCause .orphan
      | none => s
    (s.abortAll.wake.updHost (fun h => { h with discard := h.sweeping })).enter .fault cause

/-- Place a Saggar record in both lanes' buffers and hand it to the flash controller under the next number (R451). -/
def State.sagRecord (s : State) (code subject : Nat) (data : List (Nat × Nat × Nat)) : State :=
  let r := { s.mkRec 0 code subject data with number := s.flash.nextRec }
  let s := s.updFlash (fun f => { f with nextRec := f.nextRec + 1 })
  (s.bufferRec r).updSag (fun g => { g with writing := g.writing ++ [(r, s.now)] })

/-- DATA of SAGGAR_DETECT: the lane and the record's number. -/
def detectData (lane : Nat) (n : Word) : List (Nat × Nat × Nat) := [(128, 8, lane), (160, 32, n.toNat)]

/-- The record of a detection of class `k` by a lane, and its event (R451, R486). -/
def State.detectRec (s : State) (k lane : Nat) : State :=
  let n := s.flash.nextRec
  let s := (s.sagRecord 0xB001 k (detectData lane n)).updLane lane (fun l => { l with lastRec := n })
  s.raise 0xB001 k (detectData lane n) true

/-- A module-wide detection of the class of `c` by a lane (0 SAGA, 1 SAGB, 2 both): force-safe, one record and event
for the class while it stays detected, and FAULT (R443, R451, R452). -/
def State.moduleWide (s : State) (c : FCause) (lane : Nat) : State :=
  let k := c.klass
  let told := s.classOn k && s.dev.causes.any (fun x => x.klass = k)
  let s := (s.noteClass k lane).updLane lane (fun l => { l with force := true })
  let s :=
    if told then s
    else
      let s := s.detectRec k lane
      if lane < 2 then s.updSag (fun g => { g with unconfirmed := g.unconfirmed ++ [(k, lane, s.now)] }) else s
  (s.addCause c).toFault c.code

/-- A class marked for reset (R446): force-safe stays until the reset that Saggar asserts. -/
def State.resetClass (s : State) (k lane : Nat) : State :=
  let s := s.moduleWide (.cls k) lane
  s.updSag (fun g => { g with resetPending := match g.resetPending with
    | some p => some p
    | none => some (k, s.time.up) })

/-- Monitors run once the module is out of RESET. -/
def State.supervised (s : State) : Bool := s.dev.st != .reset

/-! ### Host loss (R50, R51) -/

/-- HOST_GRACE ends with nothing bound (R51): SAFE, with ORPHAN recorded. -/
def State.graceExpires (s : State) (start : Nat) : State := (s.recordOrphan start).enter .safe causeGrace

/-- A grace that has run out ends before the commands of a sweep and the speed comparison of a cycle (R35, R51). -/
def State.graceFirst (s : State) : State :=
  match s.dev.grace with
  | some g => if g.endsAt ≤ s.now then s.graceExpires g.start else s
  | none => s

/-- The meaning of a host command row: after `dt` ticks, and after a grace that has run out has ended (R35), the module
takes the command from the CMD ring, where it can; where it cannot, the descriptor stays in the ring. -/
def State.command (s : State) (dt : Nat) (op : Byte) (cmd : Instr) (h : Hdr)
    (body : State → Verdict) : State :=
  let s := (s.advance dt).graceFirst
  if s.canTake h.fence then s.take op cmd h body else s

/-- A detected host loss, `det` coded as HOST_LOST codes it. -/
def State.hostLost (s : State) (det : Nat) : State :=
  let s := s.updDev (fun d => { d with bound := false })
  let s := (s.raise 0x0002 subjModule [(128, 8, det)] false).abortAll
  match s.dev.st with
  | .standby => s.enter .safe causeHostLoss
  | .parked | .working | .manual =>
    if s.dev.grace.isSome then s
    else if s.host.hostGrace = 0 then s.graceExpires s.now
    else s.updDev (fun d => { d with grace := some { start := s.now, endsAt := s.now + s.host.hostGrace * msTicks } })
  | _ => s

/-- What disabling a ring drops (R347): the records formed and not started, counted, and the descriptors
read and not taken. -/
def State.ringStops (s : State) (n : Nat) : State :=
  let mine := fun (x : Nat × HostWrite) => match x.2 with
    | .body r _ _ => r = n
    | .head r _ _ _ => r = n
    | .done r _ _ _ => r = n
    | _ => false
  let k := (s.host.queue.filter (fun x => match x.2 with | .body r _ _ => r = n | _ => false)).length
  let s := s.updHost (fun h => { h with queue := h.queue.filter (fun x => !mine x),
                                        reads := h.reads.filter (fun x => match x.2 with | .descRead r _ _ _ => r ≠ n | _ => true) })
  let s := if k = 0 then s else (s.count 66 k).updRing n (fun r => { r with loss := true })
  if n = 1 then (s.count 66 s.host.heldCpl.length).updHost (fun h => { h with heldCpl := [] })
  else if n = 3 then
    let s := if s.host.tel.isEmpty then s else s.updRing 3 (fun r => { r with loss := true })
    (s.count 66 s.host.tel.length).updHost (fun h => { h with tel := [] })
  else if 8 ≤ n ∧ n < 12 then s.updBus (n - 8) (fun x => { x with wait := [] })
  else s

/-- The host-interface block, the MSI-X table and the PBA return to their reset values (R341, R482); the
completions of commands already taken are discarded (R342). -/
def State.hostIfReset (s : State) : State :=
  let grace := st4Grace (s.strap 4)
  let s := s.each ((List.range 16).filter (fun n => (s.ring n).en)) State.ringStops
  s.updHost (fun h =>
    { h with bme := false, mse := false, d0 := true, paused := false, fmask := false, dbBase := 0, stBase := 0,
             poll := 4, pollAt := 0, grid := 4, hbTimeout := 250, hostGrace := grace, regLocked := false,
             lockedAt := none, dbErr := false, dbErrAt := none, heldCpl := [], rings := h.rings.map (fun r => { loss := r.loss }),
             vecs := List.replicate 32 {}, hbWord := none, sweeping := false, extraSweep := false, dbFails := 0,
             idxChanged := false, queue := [], reads := [], away := true, outstanding := h.outstanding.map (fun w => { w with silent := true }) })

/-! ### Reset (R41 to R44) -/

/-- The always-on buffer of a lane after a reset: the records not yet in flash, with one for each activity that the reset
aborts (R38; its number is given when BOOT writes it), at most 8. -/
def State.keptRecs (s : State) (l : Lane) : List FaultRec :=
  (l.buffer
    ++ (s.acts.filter (fun a => [1, 2, 3, 5, 6].contains a.code)).map (fun _ => s.mkRec 8 0 subjModule [])).take 8

/-- What SAGGAR_STATUS reports of the classes after a reset: those marked for reset are still reported after the reset
they have asked for (R446, log 163). -/
def keptClass {α : Type} (source : Nat) (zero : α) (xs : List α) : List α :=
  xs.zipIdx.map (fun p => if (source = 3 || source = 4) && [1, 3, 5, 8, 10].contains (p.2 + 1) then p.1 else zero)

/-- A lane at a reset. -/
def State.laneAtReset (s : State) (l : Lane) : Lane := { safen := l.safen, oscHz := l.oscHz, buffer := s.keptRecs l }

/-- Assert a reset: source as R388 codes it (0 power-on, 1 RESETN, 2 MODULE_RESET, 3 watchdog, 4 Saggar)
and its length in ticks.  Everything but what Saggar's always-on domain, the flash, the supplies' monitors
and the safe-state latches hold returns to its reset value. -/
def State.assertReset (s : State) (source hold : Nat) : State :=
  let por := source = 0
  let ls := if por then List.replicate 16 0 else s.dev.lsSafe
  let fd := if por then List.replicate 32 0 else s.dev.fdSafe
  let outs := s.field.pins.zipIdx.map (fun q =>
    if por then ({} : FdPin)
    else
      let p := safeLevel (fd.getD q.2 0) q.1
      ({ out := p.out, latched := p.latched, kind := p.kind, cleared := p.cleared, driven := p.driven, rb := p.rb,
         broken := p.broken, level := p.level, stamp := p.stamp, diag := p.diag } : FdPin))
  let f := s.field
  let side : Field := if por then { lastDown := s.time.up } else
    { modes := f.modes, timeout := f.timeout, silent := f.silent, good := f.good, linkOk := f.linkOk, missedDown := f.missedDown,
      lastDown := f.lastDown, clockBad := f.clockBad }
  let sx := s.field.sx.zipIdx.map (fun q =>
    if por then ({} : SxOut) else ({ on := s.cfgB .sxEn q.2, fault := q.1.fault && q.1.on } : SxOut))
  let d := s.dev
  { pending := s.pending, free := s.free,
    time := { up := s.time.up },
    dev := { resetSource := source, resetState := d.st, resetMt := s.now, resetUp := s.time.up, resetHold := hold,
             bootCount := d.bootCount, straps := d.straps, strapsB := d.strapsB, marginal := d.marginal,
             vhioMv := d.vhioMv, variant := d.variant, grade := d.grade, step := d.step, fwVersion := d.fwVersion,
             serial := d.serial, tap := if por then {} else d.tap, resetnHigh := d.resetnHigh, lsSafe := ls, fdSafe := fd },
    pwr := { s.pwr with regBad := false, onHold := !por && s.pwr.onHold, overT := List.replicate 5 false },
    sag := { a := s.laneAtReset s.sag.a, b := s.laneAtReset s.sag.b, refBad := s.sag.refBad,
             counts := keptClass source 0 s.sag.counts, lastOf := keptClass source 0 s.sag.lastOf },
    host := { out := s.host.out, sent := s.host.sent, linkN := s.host.linkN },
    cfg := { slots := s.cfg.slots, roles := s.cfg.roles, journal := s.cfg.journal, jpos := s.cfg.jpos,
             nextGen := s.cfg.nextGen },
    flash := s.flash,
    field := { side with pins := outs, sx := sx },
    loops := { ls := (List.range 16).map (fun n => s.lsAtReset por (ls.getD n 0) n),
               pair := s.loops.pair.map (·.atReset por) },
    can := { bus := s.can.bus.map (fun b => ({ term := !por && b.term } : Bus)) } }

end Sys2Proof.Machine
end

