-- ==== Sys2Proof/Machine/Config.lean ====
section
/-! DEFINITION. Configuration (R396 to R409): the islands' settings from an image, staging, firing,
rollback, the journal, and the configuration commands. -/

namespace Sys2Proof.Machine

/-! ### What an image sets -/

/-- The safe-state selection of the values in force: the image's, or ST2's with strap defaults (R46).  A switch
that an image leaves disabled has both sides off (R283). -/
def State.selectSafe (s : State) : State :=
  let l := s.strap 2
  let straps := s.cfg.inForce == .straps
  s.updDev (fun d =>
    { d with lsSafe := (List.range 16).map (fun n => if straps then st2Ls l n else if s.cfgB .lsEnable n then s.cfgN .lsSafe n else 0),
             fdSafe := (List.range 32).map (fun p => if straps then st2Fd l else s.cfgN .fdSafe p) })

/-- The CRC of a copy of the limits (R440), in R439's order, 4 bytes each. -/
def limitCrc (c : LimitCopy) : Word :=
  crc32 ((c.iPeak ++ c.iHold ++ c.vLim ++ [c.vHold] ++ c.ocLimit ++ c.inrushLimit ++ c.lsSafe ++ c.fdSafe ++ [c.sagMv, c.cls]).flatMap
    (fun x => leBytes 4 (twos 32 x)))

/-- A lane's copy of the fired limits (R439), for straps `st` as that lane reads them. -/
def State.limitsOf (s : State) (st : List Nat) : LimitCopy :=
  let v := fun (f : Fld) (i : Nat) => s.cfg.vals.val (st ++ s.dev.straps.drop 3) s.dev.serial f i
  let straps := s.cfg.inForce == .straps
  let ls := fun n => if straps then (st2Ls (st.getD 2 7) n : Int) else v .lsSafe n
  let fd := fun p => if straps then (st2Fd (st.getD 2 7) : Int) else v .fdSafe p
  let cls := min (st1Class (st.getD 1 7)) (v .energyClass 0).toNat
  { iPeak := (List.range s.nCh).map (v .iPeakMax), iHold := (List.range s.nCh).map (v .iHoldMax),
    vLim := (List.range s.nQuad).map (fun q => (s.pwr.vLim.getD q 0 : Int)), vHold := s.pwr.vHold,
    ocLimit := (List.range 16).map (v .ocLimit), inrushLimit := (List.range 16).map (v .inrushLimit),
    lsSafe := (List.range 16).map ls, fdSafe := (List.range 32).map fd, sagMv := v .sagMv 0, cls := cls }

/-- Both lanes are sent the limits now in force; they take them together at the next exchange. -/
def State.sendLimits (s : State) : State :=
  let a := s.limitsOf (s.dev.straps.take 3)
  let b := s.limitsOf s.dev.strapsB
  s.updSag (fun g => { g with a := { g.a with newLimits := some a }, b := { g.b with newLimits := some b } })

/-- V_HOLD of R426 from the stored capacitance. -/
def State.setVHold (s : State) : State :=
  s.updPwr (fun p =>
    { p with vHold := if 100000 ≤ p.cMeasH ∧ p.cMeasH ≤ 1500000 then energyMv 24000 (eHold s.energyClass) p.cMeasH else 0 })

/-- A firing recomputes the energy limits, and stored energy above them is bled (R431). -/
def State.refitEnergy (s : State) : State :=
  let s := (s.each (List.range s.nQuad) State.setVLim).setVHold
  s.updPwr (fun p =>
    { p with res := (p.res.zip p.vLim).map (fun q => min q.1 q.2), hold := min p.hold p.vHold })

/-- ANTENNAS none stops Sextant (R60). -/
def State.stopSextant (s : State) : State :=
  if s.cfgN .antennas = 0 then
    (s.ftInvalid).updSextant (fun x =>
      { x with chans := [], engines := x.engines.map (fun e => { e with det := none, search := none }),
               clk := { x.clk with run := 0 } })
  else s

/-- The sections written into the islands at BOOT and at a firing (R48, R406): sequencer stores and
headers, buses, excitation, and every loop OPEN at its U_SAFE. -/
def State.configure (s : State) (boot : Bool) : State :=
  let s := s.each (List.range s.nGrp) State.loadStore
  let s := (s.canConfigure boot).fieldFired.loadsFired
  let s := s.each (List.range 32) (fun s n => if s.loopOn n then s.loopSafe n else s)
  s.stopSextant

/-! ### FUSION_RESET (R127) -/

/-- The filter's biases at zero and its speed scales at one; position, velocity and attitude stay. -/
def unbiased (f : FilterSt) : FilterSt :=
  { f with gyroBias := [0, 0, 0], accBias := [0, 0, 0], scales := [65536, 65536, 65536] }

/-- Biases and scales to zero and one, in every state of the history; heading and quality start again from the
sources available (R126, R127, log 66).  The origin, the history's positions and the articulation estimate stay. -/
def State.fusionReset (s : State) : State :=
  { s with nav := { s.nav with gyroBias := [0, 0, 0], accBias := [0, 0, 0], scales := [65536, 65536, 65536],
                               hdgBase := none, heldAt := none, sol := none, solUsed := none, runs := [0, 0, 0, 0],
                               dr := { ended := true },
                               hist := s.nav.hist.map (fun x => { x with st := unbiased x.st }) } }

/-- Send the initialisation list of IMU_PROFILE (R111, R112). -/
def State.imuInit (s : State) : State :=
  match if s.cfgN .imuMode = 0 then none else imuParse (s.cfg.vals.blob .imuProfile 0) with
  | some p => { s with nav := { s.nav with imu := { s.nav.imu with initAt := some s.now, sent := p.inits, lists := s.nav.imu.lists + 1 } } }
  | none => s

/-! ### Effects at the end of a firing (R408) -/

/-- The sections that the planner takes at its next cycle start: VALVES, PLANNER, MAPS. -/
def planSection (f : Fld) : Bool := [2, 9, 10].contains f.info.sec

/-- Values of `new` but for the planner's sections, which stay those of `old`. -/
def heldBack (old new : CfgVals) : CfgVals :=
  { vals := new.vals.filter (fun r => !planSection r.1) ++ old.vals.filter (fun r => planSection r.1),
    blobs := new.blobs }

/-- The records of a section, to tell whether it has changed. -/
def CfgVals.section_ (v : CfgVals) (sec : Nat) : List (Fld × Nat × Int) × List (Fld × Nat × List Byte) :=
  (v.vals.filter (fun r => r.1.info.sec = sec), v.blobs.filter (fun r => r.1.info.sec = sec))

/-- A field has the same value in two states at every index below `n`. -/
def sameField (s t : State) (f : Fld) (n : Nat := 1) : Bool := (List.range n).all (fun i => s.cfgI f i == t.cfgI f i)

/-- The port, signal and loop settings of a tracking channel are the same. -/
def sameTracking (s t : State) (c : TrkCh) : Bool :=
  sameField s t .antennas && s.cfgI .portIf c.port == t.cfgI .portIf c.port
    && s.cfgI .portInv c.port == t.cfgI .portInv c.port
    && (BitVec.ofNat 64 (t.cfgN .signals)).getLsbD c.signal
    && [Fld.spacingN, .spacingW, .ddEnable, .dllBw, .pllBw, .fllBw, .tCoh, .aidLoops].all (fun f => sameField s t f)

/-- The setpoint target that a loop keeps (R408). -/
def keptTarget (s t : State) (n : Nat) : Option Int :=
  if s.loopOn n && t.loopOn n && s.cfgI .spSrc n = 0 && t.cfgI .spSrc n = 0 then
    ((s.loop n).rHost).map (clampI (t.cfgI .spMin n) (t.cfgI .spMax n))
  else none

/-- Apply a whole image's values: `was` is the state before, with the old values in force. -/
def State.applyImage (s : State) (v : CfgVals) : State :=
  let was := s
  let s := s.updCfg (fun c => { c with vals := v })
  let s := { s with valves := { s.valves with ch := s.valves.ch.map (fun (c : Chan) => ({ c with kover := List.replicate 4 none } : Chan)) } }
  let s := (s.configure false).reclaim was
  let s := s.each (List.range 32) (fun s n =>
    s.updLoop n (fun l => { l with coef := none, coefNext := none, rHost := keptTarget was s n, yValid := none }))
  let s := s.each (List.range 4) (fun s k =>
    if (s.trace k).st = 1 ∨ (s.trace k).st = 2 then s.updTrace k (fun _ => {}) else s)
  let s := s.each (List.range s.nCh) (fun s ch =>
    if was.profileKey ch = s.profileKey ch then s else s.seedFilters ch)
  let s := s.freeTrk (fun c => !sameTracking was s c)
  let s := if was.cfgN .corrSource = s.cfgN .corrSource then s else s.corrFired
  let s := if was.cfg.vals.section_ 1 = v.section_ 1 then s else s.fusionReset
  let s := if was.cellMm = s.cellMm then s else s.emptyCache
  let s := s.refitEnergy
  s.updCfg (fun c => { c with vals := heldBack was.cfg.vals v, newPlan := some v })

/-- Outputs are released at instant 6 (R406, R408): the safe states of the selection in force, and in
PARKED the loops that close on ARM. -/
def State.releaseOutputs (s : State) : State :=
  let s := s.updCfg (fun c => { c with firing := none })
  let s := s.selectSafe.fieldSafe.fieldParked.lsForget.lsAll
  if s.dev.st == .parked then s.loopsArm else s

/-! ### Slots and journal (R400 to R402) -/

def State.slot (s : State) (n : Nat) : Slot := s.cfg.slots.getD n {}

def State.updCfgSlot (s : State) (n : Nat) (f : Slot → Slot) : State :=
  s.updCfg (fun c => { c with slots := c.slots.modify n f })

/-- What a record's CRC-32 covers: its other fields in R401's order, little-endian (log 166). -/
def JRec.bytes (r : JRec) : List Byte :=
  leBytes 4 r.seq.toNat ++ leBytes 1 r.op ++ [r.roles.staged, r.roles.active, r.roles.previous].flatMap (leBytes 1)
    ++ r.marks.flatMap (fun m => leBytes 1 (b2n m.1) ++ leBytes 8 m.2.1.toNat ++ leBytes 4 m.2.2.1.toNat ++ leBytes 4 m.2.2.2.toNat)
    ++ leBytes 4 r.nextGen.toNat

/-- A record that is whole (R401): one torn by a power loss fails its CRC. -/
def JRec.valid (r : JRec) : Bool := r.crc = crc32 r.bytes

/-- The valid record with the highest sequence number (R401). -/
def governing (j : List JRec) : Option JRec :=
  (j.filter JRec.valid).foldl (fun b r => match b with
    | none => some r
    | some x => if x.seq.toNat < r.seq.toNat then some r else b) none

/-- The record of an operation on the roles and marks as they now are. -/
def Cfg.journalRec (c : Cfg) (op : Nat) : JRec :=
  let r : JRec := { seq := ((governing c.journal).map (fun r => r.seq + 1)).getD 1, op := op, roles := c.roles, nextGen := c.nextGen,
                    marks := c.slots.map (fun x => (x.filled, x.digest, x.gen, x.boot)) }
  { r with crc := crc32 r.bytes }

/-- Put a record at the journal's next place. -/
def Cfg.journalPut (c : Cfg) (r : JRec) : Cfg := { c with journal := c.journal ++ [r], jpos := (c.jpos + 1) % journalPlaces }

/-- No valid record stands in the half of the journal's next place. -/
def Cfg.halfFresh (c : Cfg) : Bool := (c.journal.drop (c.journal.length - c.jpos % journalHalf)).all (fun r => !r.valid)

/-- Write a journal record: 0 staging, 1 firing, 2 rollback.  The first record of a half starts the erase
of the other half under HOLDER_TAG 0xFFFF. -/
def State.writeJournal (s : State) (op : Nat) : State :=
  let first := s.cfg.halfFresh
  let s := s.updCfg (fun c => c.journalPut (c.journalRec op))
  if first then { s with acts := s.acts ++ [({ code := 11, tag := 0xFFFF, start := s.now } : Activity)] } else s

/-- A power loss tears the record being written: it takes its place and fails its CRC. -/
def State.tearJournal (s : State) (op : Nat) : State :=
  s.updCfg (fun c =>
    let r := c.journalRec op
    c.journalPut { r with crc := ~~~r.crc })

/-- A slot with the marks of a journal record; one that a staging has erased is empty whatever its mark (R404). -/
def Slot.marked (x : Slot) (m : Option (Bool × DWord × Word × Word)) : Slot :=
  match m with
  | some m => if x.image.isEmpty then x else { x with filled := m.1, digest := m.2.1, gen := m.2.2.1, boot := m.2.2.2 }
  | none => x

/-- BOOT takes the roles, the marks and the next generation from the governing record (R401); with none they are as
manufactured (log 6). -/
def State.readJournal (s : State) : State :=
  match governing s.cfg.journal with
  | none => s
  | some r => s.updCfg (fun c =>
    { c with roles := r.roles, nextGen := r.nextGen, slots := c.slots.zipIdx.map (fun q => q.1.marked (r.marks[q.2]?)) })

/-- The role moves of a firing or rollback, with the new generation (R400, R402). -/
def State.moveRoles (s : State) (rollback : Bool) : State :=
  let r := s.cfg.roles
  let g := s.cfg.nextGen
  let src := if rollback then r.previous else r.staged
  let s := if rollback then s else s.updCfgSlot r.previous (fun _ => {})
  let s := if (s.slot r.active).bootBad then s.updCfgSlot r.active (fun _ => {}) else s
  let s := s.updCfgSlot src (fun x => { x with gen := g, boot := s.dev.bootCount, bootBad := false })
  let roles : Roles := if rollback then { staged := r.staged, active := r.previous, previous := r.active }
    else { staged := r.previous, active := r.staged, previous := r.active }
  let s := s.updCfg (fun c => { c with roles := roles, nextGen := g + 1 })
  s.writeJournal (if rollback then 2 else 1)

/-- The content a firing reads passes its checks again (R406 instant 3). -/
def State.recheckSlot (s : State) (n : Nat) : Except Nat CfgVals :=
  if (s.slot n).bad then .error 2 else recheckImage s.imgEnv (s.slot n).image

/-! ### CFG_STAGE (R404) -/

def cmdCfgStage (h : Hdr) (buf : Ref) (s : State) : Verdict :=
  checks s true true (s.holderOf [.store]) none
    (.wait true [buf.len.toNat] { s with acts := s.acts ++ [({ code := 9, tag := h.tag, start := s.now } : Activity)] })

def execCfgStage (dt : Nat) (h : Hdr) (buf : Ref) (s : State) : Out :=
  .next (s.command dt 0x10 (.cfgStage dt h buf) h (cmdCfgStage h buf))

/-- End a staging, releasing STORE. -/
def State.stageEnd (s : State) (w : Waiting) (st : Status) (res : BitVec 128) : State :=
  ({ s with acts := s.acts.filter (fun a => a.code ≠ 9) }).finish w st res

/-- The image of a CFG_STAGE has been read (R404 steps 2 and 3): refused with its REASON, or written into
the STAGED slot, which is empty until its journal record. -/
def State.stageRead (s : State) (w : Waiting) (data : List Byte) : State :=
  match checkImage s.imgEnv data (w.aux.headD 0) with
  | .error r => s.stageEnd w .noResource (resultOf [(128, 8, r)])
  | .ok _ =>
    let n := s.cfg.roles.staged
    let img := data.take (imgLength data)
    (s.updCfgSlot n (fun _ => { image := img, digest := imgDigest img })).updWaiting w (fun w => { w with dma := false })

/-- STAGING_COMPLETE (R404 steps 4 and 5). -/
def State.stageDone (s : State) (ok : Bool) : State :=
  match s.waitingFor 0x10 (fun w => !w.dma) with
  | none => s
  | some w =>
    let n := s.cfg.roles.staged
    if ok then
      let x := s.slot n
      let s := (s.updCfgSlot n (fun x => { x with filled := true })).writeJournal 0
      s.stageEnd w .ok (resultOf [(128, 64, x.digest.toNat), (192, 32, x.image.length)])
    else (s.updCfgSlot n (fun _ => {})).stageEnd w .timeout 0

def execStagingComplete (dt : Nat) (readbackOk : Bool) (s : State) : Out :=
  .next ((s.advance dt).stageDone readbackOk)

/-! ### CFG_FIRE and CFG_ROLLBACK (R405, R409) -/

/-- A firing of a slot would change CELL_SIZE while coverage is unwritten (R148). -/
def State.cellBlocked (s : State) (n : Nat) : Bool :=
  (s.tiles.slots.any (·.dirty) || !s.tiles.held.isEmpty) && (match s.recheckSlot n with
    | .ok v => decide ((v.val s.dev.straps s.dev.serial .cellSize 0).toNat ≠ s.cellMm)
    | .error _ => false)

/-- Start a firing of slot `n`: every resource claimed, every output at its safe state, and every loop OPEN at U_SAFE, as
none can be in TUNE (R406, R410). -/
def State.startFiring (s : State) (h : Hdr) (rollback : Bool) (n : Nat) : State :=
  let s := { s with acts := s.acts ++ [({ code := if rollback then 8 else 7, tag := h.tag, start := s.now } : Activity)] }
  let s := s.updCfg (fun c => { c with firing := some { rollback := rollback, start := s.now, src := n } })
  let s := s.updDev (fun d => { d with runReq := false })
  (s.each ((List.range 32).filter s.loopOn) State.loopSafe).lsForget.lsAll

def cmdCfgFire (h : Hdr) (digest : DWord) (s : State) : Verdict :=
  let n := s.cfg.roles.staged
  checks s true (s.slot n).filled (s.acts.head?.map (·.tag)) none
    (if (s.slot n).digest ≠ digest then .done .noResource (resultOf [(128, 8, 2)]) s
     else if s.cellBlocked n then .done .wrongState 0 s
     else .wait false [] (s.startFiring h false n))

def execCfgFire (dt : Nat) (h : Hdr) (digest : DWord) (s : State) : Out :=
  .next (s.command dt 0x11 (.cfgFire dt h digest) h (cmdCfgFire h digest))

def cmdCfgRollback (h : Hdr) (s : State) : Verdict :=
  let n := s.cfg.roles.previous
  checks s true (s.slot n).filled (s.acts.head?.map (·.tag)) none
    (if s.cellBlocked n then .done .wrongState 0 s else .wait false [] (s.startFiring h true n))

def execCfgRollback (dt : Nat) (h : Hdr) (s : State) : Out :=
  .next (s.command dt 0x12 (.cfgRollback dt h) h (cmdCfgRollback h))

/-- End a firing: outputs released, claims ended, the command completed. -/
def State.fireEnd (s : State) (st : Status) (res : BitVec 128) : State :=
  let s := { s with acts := s.acts.filter (fun a => a.code ≠ 7 && a.code ≠ 8) }
  let s := s.releaseOutputs
  match s.host.outstanding.find? (fun w => w.op = 0x11 ∨ w.op = 0x12) with
  | some w => s.finish w st res
  | none => s

/-- FIRING_COMPLETE (R406): the content checked again, configured, committed and released, or the old
image restored.  `flashOk`: the slot could be read; `readbackOk`: the islands read back as written. -/
def State.fireDone (s : State) (flashOk readbackOk : Bool) : State :=
  match s.cfg.firing with
  | none => s
  | some f =>
    match (if flashOk then s.recheckSlot f.src else .error 2) with
    | .error r => s.fireEnd .noResource (resultOf [(128, 8, r)])
    | .ok v =>
      if readbackOk then
        let gen := s.cfg.nextGen
        let dig := (s.slot f.src).digest
        let s := (s.applyImage v).moveRoles f.rollback
        let s := s.updCfg (fun c => { c with inForce := .slot f.src, gen := gen, digest := dig })
        (s.sendLimits).fireEnd .ok (resultOf [(128, 32, gen.toNat), (160, 64, dig.toNat)])
      else
        (s.applyImage (s.cfg.newPlan.getD s.cfg.vals)).fireEnd .timeout 0

def execFiringComplete (dt : Nat) (flashOk readbackOk : Bool) (s : State) : Out :=
  .next ((s.advance dt).fireDone flashOk readbackOk)

/-- A record that was being written when the module was reset may be torn, or not begun: no row tells, so it is free
(log 166). -/
def State.maybeTear (s : State) (op : Nat) : State :=
  let (n, s) := s.takeFree
  if Config.freeBool n then s.tearJournal op else s

/-- What a reset finds of a firing or staging in progress (R404, R407): whether the commit record was valid
already is not told by any row, so it is free; a staging past its checks leaves the slot empty. -/
def State.cutFiring (s : State) : State :=
  let s := match s.waitingFor 0x10 (fun w => !w.dma) with
    | some _ => (s.maybeTear 0).updCfgSlot s.cfg.roles.staged (fun _ => {})
    | none => s
  match s.cfg.firing with
  | none => s
  | some f =>
    let (n, s) := s.takeFree
    match s.recheckSlot f.src with
    | .ok _ => if Config.freeBool n then s.moveRoles f.rollback else s.maybeTear (if f.rollback then 2 else 1)
    | .error _ => s

/-- JOURNAL_ERASE_DONE (R401): the other half is empty and STORE is released. -/
def execJournalEraseDone (dt : Nat) (s : State) : Out :=
  let s := s.advance dt
  .next (if s.acts.any (fun a => a.code = 11) then
      let held := (s.cfg.jpos + (journalHalf - 1)) % journalHalf + 1
      let s := s.updCfg (fun c => { c with journal := c.journal.drop (c.journal.length - held) })
      { s with acts := s.acts.filter (fun a => a.code ≠ 11) }
    else s)

/-! ### CFG_STATUS -/

def State.slotItem (s : State) (role n : Nat) : Item :=
  let x := s.slot n
  (1, [wn (pack [(0, 8, role), (8, 1, b2n x.filled), (9, 1, b2n (s.cfg.inForce == .slot n))]),
       if role = 0 then 0 else x.gen] ++ dwords x.digest.toNat ++ [wn x.image.length, x.boot])

def execCfgStatus (dt : Nat) (h : Hdr) (rep : Ref) (s : State) : Out :=
  .next (s.command dt 0x13 (.cfgStatus dt h rep) h (fun s =>
    report 0x13 h rep [s.slotItem 0 s.cfg.roles.staged, s.slotItem 1 s.cfg.roles.active,
      s.slotItem 2 s.cfg.roles.previous] s))

end Sys2Proof.Machine
end

