-- ==== Sys2Proof/Machine/Reset.lean ====
section
/-! DEFINITION. The meanings of the reset and BOOT rows (R41 to R49, R446, R489). -/

namespace Sys2Proof.Machine

/-- Ticks of the 1 ms for which an internal source, or RESETN at least, holds a reset (R41). -/
abbrev resetTicks : Nat := 250000

/-- Assert a reset now, after what it cuts short in flash. -/
def State.resetNow (s : State) (source hold : Nat) : State := s.cutFiring.assertReset source hold

/-- POWER_ON_RESET (R41, R422): the logic rail, the higher of VBAT and HOLD, has been below 4,500 mV for
2 us.  Its length is not fixed: it ends with RESET_RELEASE. -/
def execPowerOnReset (dt vbat hold held : Nat) (s : State) : Out :=
  let s := (s.advance dt).updPwr (fun p => { p with vbat := vbat, hold := hold })
  .next (if max vbat hold < 4500 && 2 * usTicks ≤ held then s.resetNow 0 0 else s)

/-- RESETN_LOW (R41): below 200 ns ignored, from 200 ns to 1 us either ignored or taken as a whole, from 1
us on taken; held while RESETN is low and for 1 ms at least. -/
def execResetnLow (dt lowNs : Nat) (s : State) : Out :=
  let s := s.advance dt
  let (n, s) := s.takeFree
  let taken := decide (1000 ≤ lowNs) || (decide (200 ≤ lowNs) && Config.freeBool n)
  let s := if taken then s.resetNow 1 (max resetTicks (lowNs / 4)) else s
  .next (s.updDev (fun d => { d with resetnHigh := s.time.up + lowNs / 4 }))

/-- WATCHDOG_TIMEOUT (R41, R445 class 10): the cores run from BOOT on. -/
def execWatchdogTimeout (dt _core : Nat) (s : State) : Out :=
  let s := s.advance dt
  .next (if s.supervised then (s.noteClass 10 2).resetNow 3 resetTicks else s)

/-- The reset of a class marked R may be asserted (R446): its record is out of the always-on buffers, or 10 ms have passed;
Saggar counts its time with its own oscillators, as MT may
have stopped. -/
def State.sagResetDue (s : State) : Bool :=
  match s.sag.resetPending with
  | none => false
  | some (k, t) =>
    (s.sag.a.buffer.all (fun r => r.code ≠ 0xB001 || r.subject ≠ BitVec.ofNat 16 k) || decide (t + 10 * msTicks ≤ s.time.up))
      && (k ≠ 5 || (!s.sag.refBad && decide (s.sag.refFrom + 10 * msTicks ≤ s.time.up)))

/-- SAGGAR_RESET (R446). -/
def execSaggarReset (dt : Nat) (s : State) : Out :=
  let s := s.advance dt
  .next (if s.supervised && s.sagResetDue then s.resetNow 4 resetTicks else s)

/-- MODULE_RESET_ASSERT (R381): 100 us after the completion of MODULE_RESET. -/
def execModuleResetAssert (dt : Nat) (s : State) : Out :=
  let s := s.advance dt
  .next (match s.dev.resetDue with
    | some t => if t ≤ s.now then s.resetNow 2 resetTicks else s
    | none => s)

/-- RESET_RELEASE (R489, R466, R467, R420): the length of the reset has passed, or VBAT is above POR after a power-on
one; the straps are sampled and the VHIO level is read. It ends a power-on reset for the excitations, which go on
(R301, log 117). -/
def execResetRelease (dt : Nat) (straps : List StrapReading) (vhio vbat : Nat) (s : State) : Out :=
  let s := (s.advance dt).updPwr (fun p => { p with vbat := vbat })
  let r := fun n => straps.getD n {}
  .next (if s.dev.st == .reset && s.dev.released.isNone && s.dev.resetUp + s.dev.resetHold ≤ s.time.up
      && (s.dev.resetSource ≠ 0 || 4500 ≤ vbat) then
      let s := if s.dev.resetSource = 0 then s.updField (fun x => { x with sx := x.sx.map (fun o => { o with on := true }) }) else s
      s.updDev (fun d =>
        { d with released := some s.time.up, vhioMv := vhio,
                 straps := (List.range 8).map (fun n => strapLevel (r n).a),
                 strapsB := (List.range 3).map (fun n => strapLevel (r n).b),
                 marginal := maskOf 8 (fun n => strapMarginal (r n).a || (decide (n < 3) && strapMarginal (r n).b)) })
    else s)

/-- SAFEN is asserted as a lane sees it: its own input, or VHIO too low to tell (R420). -/
def State.safenIn (s : State) (l : Lane) : Bool := l.safen || s.pwr.vhioLow

/-- STARTUP_COMPLETE (R489, R10, R44): at least 1.5 ms after the release BOOT begins; MT starts from zero,
BOOT_COUNT rises by one, each lane derives its limits from its own straps (R440), and a SAFEN asserted through the
reset is raised (R450). -/
def execStartupComplete (dt : Nat) (s : State) : Out :=
  let s := s.advance dt
  let ready := match s.dev.released with | some t => decide (t + 375000 ≤ s.time.up) | none => false
  .next (if s.dev.st == .reset && ready then
      let s := s.updDev (fun d => { d with st := .boot, cause := causeBoot, stMt := 0, bootCount := d.bootCount + 1 })
      let s := s.updTime (fun t => { t with mt := 0, running := true })
      let s := s.updHost (fun h => { h with hostGrace := st4Grace (s.strap 4) })
      let a := s.limitsOf (s.dev.straps.take 3)
      let b := s.limitsOf s.dev.strapsB
      let s := s.updSag (fun g => { g with a := { g.a with limits := a }, b := { g.b with limits := b } })
      if s.safenIn s.sag.a || s.safenIn s.sag.b then s.raise 0xB002 subjModule [(128, 1, 1)] true else s
    else s)

/-! ### BOOT (R48) -/

/-- BOOT writes the records of the always-on buffers, then the one of SOURCE 1 (R44, R451). -/
def State.bootRecords (s : State) : State :=
  let rs := s.sag.a.buffer ++ s.sag.b.buffer.filter (fun r => !s.sag.a.buffer.contains r)
  let s := s.each rs (fun s r => if r.number = 0 then s.storeRec r else s.keepRec r)
  let s := s.updLane 2 (fun l => { l with buffer := [] })
  let d := s.dev
  s.storeRec { boot := d.bootCount, mt := BitVec.ofNat 64 d.resetMt, state := d.resetState.code, source := 1,
               code := BitVec.ofNat 16 d.resetSource, subject := 0xFFFF }

/-- Whether a slot's image passes the check of BOOT, and its values. -/
def State.bootSlot (s : State) (n : Nat) (reads : List Bool) : Option CfgVals :=
  if (s.slot n).filled && reads.getD n true then
    match s.recheckSlot n with
    | .ok v => some v
    | .error _ => none
  else none

/-- Put a slot's image in force without a firing. -/
def State.useSlot (s : State) (n : Nat) (v : CfgVals) : State :=
  let x := s.slot n
  s.updCfg (fun c => { c with inForce := .slot n, vals := v, gen := x.gen, digest := x.digest })

/-- IMAGE_BAD with its fallback: 0 PREVIOUS, 1 straps (R48). -/
def State.imageFailed (s : State) (n fall : Nat) (prevBad : Bool) : State :=
  let s := s.updCfgSlot n (fun x => { x with bootBad := true })
  let s := s.updDev (fun d => { d with imageBad := true, fallback := decide (fall = 1), previousBad := prevBad })
  s.record 7 0x0004 subjModule [(128, 8, fall), (136, 1, b2n prevBad)] true

/-- The image that BOOT puts in force (R48, R400, R401, R403, R468).  An empty ACTIVE slot leaves the strap
defaults in force and is no failed check. -/
def State.bootImage (s : State) (reads : List Bool) : State :=
  let s := s.readJournal
  let l := s.strap 3
  let act := s.cfg.roles.active
  let prev := s.cfg.roles.previous
  if l = 2 ∨ l = 5 then s
  else if !(s.slot act).filled then s
  else match s.bootSlot act reads with
    | some v => s.useSlot act v
    | none =>
      if l = 1 ∨ l = 4 then s.imageFailed act 1 false
      else match s.bootSlot prev reads with
        | some v => (s.useSlot prev v).imageFailed act 0 false
        | none => s.imageFailed act 1 true

/-- The charge tests of BOOT (R187, R426). -/
def State.bootCharge (s : State) (b : BootObs) : State :=
  let s := s.each (List.range s.nQuad) (fun s q => s.chargeTest q (b.cMeas.getD q 0))
  let s := s.updPwr (fun p => { p with cMeasH := b.cMeasH, cUseH := useCap b.cMeasH })
  s.setVHold

/-- The islands configured, filters seeded and the safe-state selection applied (R47, R48, R199). -/
def State.bootConfigure (s : State) : State :=
  let s := (s.configure true).selectSafe
  let s := s.each (List.range s.nCh) State.seedFilters
  let s := s.updCorr (fun c => { c with onCan := s.corrPrimary })
  let s := s.sendLimits
  let s := s.updSag (fun g => { g with a := { g.a with limits := g.a.newLimits.getD {}, newLimits := none },
                                       b := { g.b with limits := g.b.newLimits.getD {}, newLimits := none } })
  (s.fieldSafe).lsAll.imuInit

/-- A lane's straps differ from the other's (R467). -/
def State.strapsDiffer (s : State) : Bool := s.dev.straps.take 3 != s.dev.strapsB

/-- SAFEN as a cause of FAULT: its record has SOURCE 0 and CODE 0xB002 (R39). -/
def State.safenFault (s : State) : State :=
  if s.dev.causes.contains .safen then s
  else ((s.sagRecord 0xB002 subjModule [(128, 1, 1)]).addCause .safen).toFault FCause.safen.code

/-- BOOT_COMPLETE (R48, R33, R490): SAFE, or FAULT where a module-wide cause is present, the causes in R35's order (R452);
a failed signature leaves the module in BOOT. -/
def execBootComplete (dt : Nat) (b : BootObs) (s : State) : Out :=
  let s := s.advance dt
  .next (if !(s.dev.st == .boot) || s.dev.sigFail then s
    else if !b.sigOk then s.updDev (fun d => { d with sigFail := true, bar0Ready := true, cause := causeSignature })
    else
      let s := (s.updDev (fun d => { d with bar0Ready := true })).bootRecords
      let s := ((s.bootImage b.slotReads).bootCharge b).bootConfigure
      let s := if b.pathOk then s
        else (s.updSag (fun g => { g with bootPathBad := true, pathsOk := false })).moduleWide (.cls 9) 2
      let s := if s.strapsDiffer then s.moduleWide (.cls 9) 2 else s
      let s := if s.pwr.overV || s.pwr.holdOv then s.moduleWide (.cls 8) 2 else s
      let s := if s.sag.a.safen || s.sag.b.safen || s.pwr.vhioLow then s.safenFault else s
      let s := if s.pwr.brownout then s.moduleWide .brownout 2 else s
      let s := s.updDev (fun d => { d with bootFaultn := false })
      match s.dev.causes with
      | [] => (s.releaseForce).enter .safe causeBoot
      | c :: _ => (s.updLane 2 (fun l => { l with force := true })).enter .fault c.code)

/-- CONFIG_REQUEST_RETRY (R49): until BAR0 is ready. -/
def execConfigRequestRetry (dt : Nat) (s : State) : Out :=
  let s := s.advance dt
  .next (if s.dev.st == .boot && !s.dev.bar0Ready then s.emit .configRetry else s)

end Sys2Proof.Machine
end

