-- ==== Sys2Proof/Machine/Supply.lean ====
section
/-! DEFINITION. The meanings of the supply rows (R420 to R429, R291, R445 class 8).  `mv` is the reading of the row and
`held` the ticks for which the condition has held by then: one is entered, and left, after its qualifying time (R422). -/

namespace Sys2Proof.Machine

/-! ### The host link going down, and SAFEN, as VHIO_LOW has them too -/

/-- A host loss that also takes the link down and resets the host-interface block (R341). -/
def State.linkLost (s : State) (det : Nat) : State :=
  let s := s.updHost (fun h => { h with link := false })
  if s.dev.st == .reset then s.hostIfReset else (s.hostLost det).hostIfReset

/-- A lane (2: both) sees SAFEN asserted (R450): it forces safe, SAFEN is raised, and FAULT is entered. -/
def State.safenSeen (s : State) (lane : Nat) : State :=
  let s := s.updLane lane (fun l => { l with force := true })
  if s.dev.st == .reset then s
  else
    let s := s.raise 0xB002 subjModule [(128, 1, 1)] true
    if s.dev.st == .boot then s else s.safenFault

/-! ### VBAT (R422, R423) -/

/-- SUPPLY with its kind and VBAT; the module raises nothing while in RESET. -/
def State.supplyEvt (s : State) (kind mv : Nat) : State :=
  if s.supervised then s.raise 0xB003 subjModule [(128, 8, kind), (144, 16, mv)] (decide (kind = 2)) else s

/-- The supply class's condition is gone in the monitors (R445 class 8). -/
def State.supplyGood (s : State) : Bool :=
  !s.pwr.brownout && !s.pwr.lowField && !s.pwr.overV && !s.pwr.holdOv && !s.pwr.regBad

/-- A lane stops detecting the supply class once its conditions are gone. -/
def State.supplyClears (s : State) : State := if s.supplyGood then s.clearClass 8 else s

/-- A reading of VBAT; every row that carries a reading gives it to the monitors, whether or not a condition follows (R485). -/
def State.readVbat (s : State) (mv : Nat) : State := s.updPwr (fun p => { p with vbat := mv })

/-- SAG_ENTER (R422): entered after its own qualifying time, also where a lower condition implies it already (log 164). -/
def execSagEnter (dt mv held : Nat) (s : State) : Out :=
  let s := (s.advance dt).readVbat mv
  .next (if !s.pwr.sagTold && mv < s.sagMv && msTicks ≤ held then
      (s.updPwr (fun p => { p with sag := true, sagTold := true })).supplyEvt 0 mv
    else s)

/-- SAG_RELEASE (R422): VBAT is above every release level. -/
def execSagRelease (dt mv held : Nat) (s : State) : Out :=
  let s := (s.advance dt).readVbat mv
  .next (if s.pwr.sag && !s.pwr.lowField && !s.pwr.brownout && decide (s.sagMv + 500 < mv) && msTicks ≤ held then
      (s.updPwr (fun p => { p with sag := false, sagTold := false })).supplyEvt 3 mv
    else s)

/-- LOW_FIELD_ENTER (R422, R423): a lower condition implies the higher ones. -/
def execLowFieldEnter (dt mv held : Nat) (s : State) : Out :=
  let s := (s.advance dt).readVbat mv
  .next (if !s.pwr.lowTold && mv < 9000 && 100 * usTicks ≤ held then
      (s.updPwr (fun p => { p with sag := true, lowField := true, lowTold := true })).supplyEvt 1 mv
    else s)

/-- What a BROWNOUT shed restarts (R423, R301): Sextant, fusion, and the excitations with SX_GOOD. -/
def State.restart (s : State) : State :=
  if s.pwr.shed then
    let s := s.updPwr (fun p => { p with shed := false })
    if s.supervised then
      s.each ((List.range 2).filter s.sxGood) (fun s k =>
        (s.updSx k (fun x => { x with at_ := s.now })).raise 0x7006 k [(128, 1, 1)] false)
    else s
  else s

/-- LOW_FIELD_RELEASE (R423). -/
def execLowFieldRelease (dt mv held : Nat) (s : State) : Out :=
  let s := (s.advance dt).readVbat mv
  .next (if s.pwr.lowField && !s.pwr.brownout && decide (9500 < mv) && 100 * usTicks ≤ held then
      ((s.updPwr (fun p => { p with lowField := false, lowTold := false })).restart).supplyClears
    else s)

/-- What a BROWNOUT sheds (R423, R428): Sextant and fusion stop, SXA and SXB go off. -/
def State.shedLoads (s : State) : State :=
  let on := (List.range 2).filter s.sxGood
  let s := s.updPwr (fun p => { p with shed := true })
  let s := s.updSextant (fun x => { x with chans := [], engines := x.engines.map (fun e => { e with det := none, search := none }) })
  s.each on State.ratioLost

/-- BROWNOUT (R39, R423, R428): the logic moves onto HOLD and Saggar's supply class is detected. -/
def execBrownout (dt mv hold held : Nat) (s : State) : Out :=
  let s := ((s.advance dt).readVbat mv).updPwr (fun p => { p with hold := hold })
  .next (if !s.pwr.brownout && mv < 6000 && 10 * usTicks ≤ held then
      let s := s.updPwr (fun p =>
        { p with sag := true, lowField := true, brownout := true, onHold := true })
      let s := s.supplyEvt 2 mv
      let s := if s.supervised then s.moduleWide .brownout 2 else s
      s.shedLoads
    else s)

/-- BROWNOUT_RECOVERY (R429): back on VBAT without a reset; FAULT and the safe states stay. -/
def execBrownoutRecovery (dt mv held : Nat) (s : State) : Out :=
  let s := (s.advance dt).readVbat mv
  .next (if s.pwr.brownout && decide (6500 < mv) && 10 * usTicks ≤ held then
      s.updPwr (fun p => { p with brownout := false, onHold := false })
    else s)

/-- VBAT_OVERVOLTAGE (R422). -/
def execVbatOvervoltage (dt mv held : Nat) (s : State) : Out :=
  let s := (s.advance dt).readVbat mv
  .next (if !s.pwr.overV && 66000 < mv && 10 * usTicks ≤ held then
      let s := s.updPwr (fun p => { p with overV := true })
      if s.supervised then s.moduleWide (.cls 8) 2 else s
    else s)

/-- VBAT_OVERVOLTAGE_RELEASE (R422). -/
def execVbatOvervoltageRelease (dt mv held : Nat) (s : State) : Out :=
  let s := (s.advance dt).readVbat mv
  .next (if s.pwr.overV && decide (mv < 64000) && 10 * usTicks ≤ held then
      (s.updPwr (fun p => { p with overV := false })).supplyClears
    else s)

/-- REGULATOR_OUT_OF_RANGE (R445 class 8): marked for reset. -/
def execRegulatorOutOfRange (dt : Nat) (s : State) : Out :=
  let s := s.advance dt
  .next (if s.supervised then (s.updPwr (fun p => { p with regBad := true })).resetClass 8 2 else s)

/-- HOLD_OVERVOLTAGE (R445 class 8): a reading of HOLD; above V_HOLD + 2,000 mV HOLD is disconnected from its
charger. -/
def execHoldOvervoltage (dt mv : Nat) (s : State) : Out :=
  let s := (s.advance dt).updPwr (fun p => { p with hold := mv })
  .next (if s.pwr.vHold + 2000 < mv then
      let s := s.updPwr (fun p => { p with holdOv := true })
      if s.supervised then s.moduleWide (.cls 8) 2 else s
    else s)

/-! ### VDRV and VLOAD (R424, R425) -/

/-- Outside the window that a suspension is entered by. -/
def outOfWindow (mv : Nat) : Bool := decide (mv < 5500) || decide (60500 < mv)
/-- Inside the window that ends one. -/
def inWindow (mv : Nat) : Bool := decide (6000 ≤ mv) && decide (mv ≤ 59500)

/-- The channels and the groups of a quadrant. -/
def quadChs (q : Nat) : List Nat := (List.range 24).map (24 * q + ·)
def quadGroups (q : Nat) : List Nat := (List.range 3).map (3 * q + ·)

/-- End a channel's activity for a drive suspension; a DEFERRED ON goes on waiting, the decay before it in
FAST-CLAMP. -/
def State.suspendCh (s : State) (ch : Nat) : State := if (s.ctx ch).st == .deferred then s.clampDecay ch else s.forceOff ch

/-- DRIVE_SUSPENSION (R424). -/
def State.suspend (s : State) (q : Nat) : State :=
  let s := s.updPwr (fun p => { p with drvSusp := p.drvSusp.set q true })
  let s := s.each (quadChs q) State.suspendCh
  s.each (quadGroups q) State.setRail

def execDriveSuspension (dt q mv held : Nat) (s : State) : Out :=
  let s := (s.advance dt).updPwr (fun p => { p with vdrv := p.vdrv.set q mv })
  .next (if q < s.nQuad && !s.pwr.drvSusp.getD q false && outOfWindow mv && 10 * usTicks ≤ held then s.suspend q else s)

/-- DRIVE_SUSPENSION_END (R424): a deferred ON whose decay and MIN_OFF are over starts. -/
def State.resume (s : State) (q : Nat) : State :=
  let s := s.updPwr (fun p => { p with drvSusp := p.drvSusp.set q false })
  let s := s.each (quadGroups q) State.setRail
  s.each (quadChs q) (fun s ch => if s.deferredReady ch then s.startProfile ch s.now else s)

def execDriveSuspensionEnd (dt q mv held : Nat) (s : State) : Out :=
  let s := (s.advance dt).updPwr (fun p => { p with vdrv := p.vdrv.set q mv })
  .next (if q < s.nQuad && s.pwr.drvSusp.getD q false && inWindow mv && 10 * usTicks ≤ held then s.resume q else s)

/-- LOAD_SUSPENSION (R425). -/
def execLoadSuspension (dt q mv held : Nat) (s : State) : Out :=
  let s := (s.advance dt).updPwr (fun p => { p with vload := p.vload.set q mv })
  .next (if q < 4 && !s.pwr.loadSusp.getD q false && outOfWindow mv && 10 * usTicks ≤ held then
      (s.updPwr (fun p => { p with loadSusp := p.loadSusp.set q true })).lsAll
    else s)

/-- LOAD_SUSPENSION_END (R425): each switch returns to the mode its owner has in force. -/
def execLoadSuspensionEnd (dt q mv held : Nat) (s : State) : Out :=
  let s := (s.advance dt).updPwr (fun p => { p with vload := p.vload.set q mv })
  .next (if q < 4 && s.pwr.loadSusp.getD q false && inWindow mv && 10 * usTicks ≤ held then
      (s.updPwr (fun p => { p with loadSusp := p.loadSusp.set q false })).lsAll
    else s)

/-! ### VIO24 (R291, R422) -/

/-- VIO with its kind and VIO24. -/
def State.vioEvt (s : State) (kind mv : Nat) : State :=
  if s.supervised then s.raise 0x7002 subjModule [(128, 8, kind), (144, 16, mv)] (decide (kind = 1)) else s

/-- VIO_LOW (R291): outputs keep their commands. -/
def execVioLow (dt mv held : Nat) (s : State) : Out :=
  let s := (s.advance dt).updPwr (fun p => { p with vio24 := mv })
  .next (if !s.pwr.vioLow && mv < 16000 && msTicks ≤ held then (s.updPwr (fun p => { p with vioLow := true })).vioEvt 0 mv else s)

/-- VIO_LOST (R291): every output is OFF; what each is held or commanded to stays. -/
def execVioLost (dt mv held : Nat) (s : State) : Out :=
  let s := (s.advance dt).updPwr (fun p => { p with vio24 := mv })
  .next (if !s.pwr.vioLost && mv < 12000 && msTicks ≤ held then
      (s.updPwr (fun p => { p with vioLow := true, vioLost := true })).vioEvt 1 mv
    else s)

/-- VIO_RESTORED (R291): VIO_LOW is left only where VIO24 is back at 16.0 V. -/
def execVioRestored (dt mv held : Nat) (s : State) : Out :=
  let s := (s.advance dt).updPwr (fun p => { p with vio24 := mv })
  .next (if ((s.pwr.vioLost && decide (14000 < mv)) || (s.pwr.vioLow && decide (16000 ≤ mv))) && msTicks ≤ held then
      (s.updPwr (fun p => { p with vioLost := false, vioLow := decide (mv < 16000) })).vioEvt 2 mv
    else s)

/-- VIO24_OVERVOLTAGE (R422): VIO, kind 1, with VIO24. -/
def execVio24Overvoltage (dt mv held : Nat) (s : State) : Out :=
  let s := (s.advance dt).updPwr (fun p => { p with vio24 := mv })
  .next (if !s.pwr.vio24Ov && 35000 < mv && msTicks ≤ held then (s.updPwr (fun p => { p with vio24Ov := true })).vioEvt 1 mv else s)

/-- VIO24_OVERVOLTAGE_RELEASE (R422). -/
def execVio24OvervoltageRelease (dt mv held : Nat) (s : State) : Out :=
  let s := (s.advance dt).updPwr (fun p => { p with vio24 := mv })
  .next (if s.pwr.vio24Ov && decide (mv < 33000) && msTicks ≤ held then
      s.updPwr (fun p => { p with vio24Ov := false })
    else s)

/-! ### VHIO (R420) -/

/-- VHIO_LOW: PERSTN and SAFEN are treated as asserted. -/
def execVhioLow (dt mv held : Nat) (s : State) : Out :=
  let s := s.advance dt
  .next (if !s.pwr.vhioLow && mv < 1400 && 10 * usTicks ≤ held then ((s.updPwr (fun p => { p with vhioLow := true })).linkLost 0).safenSeen 2 else s)

/-- SAFEN counts as released in both lanes: the event with bit 128 clear (R450). -/
def State.safenFree (s : State) : State :=
  if s.supervised then s.raise 0xB002 subjModule [(128, 1, 0)] false else s

/-- VHIO is within the range of the level read at the reset (R418). -/
def State.vhioIn (s : State) (mv : Nat) : Bool :=
  if s.dev.vhioMv < 2500 then decide (1710 ≤ mv) && decide (mv ≤ 1890) else decide (3000 ≤ mv) && decide (mv ≤ 3600)

/-- VHIO_RESTORED. -/
def execVhioRestored (dt mv held : Nat) (s : State) : Out :=
  let s := s.advance dt
  .next (if s.pwr.vhioLow && s.vhioIn mv && msTicks ≤ held then
      let s := s.updPwr (fun p => { p with vhioLow := false })
      if s.sag.a.safen || s.sag.b.safen then s else s.safenFree
    else s)

end Sys2Proof.Machine
end

