-- ==== Sys2Proof/Machine/Clock.lean ====
section
/-! DEFINITION. The meanings of the clock rows: REFCLK, the islands' clocks and the time marks (R14, R15,
R28, R29). -/

namespace Sys2Proof.Machine

/-- The lane that detects a fault of an island's clock: the other one for a lane's own. -/
def watcher : Island → Nat
  | .saga => 1
  | .sagb => 0
  | _ => 2

/-- An island clock fault (R445 class 5). -/
def State.clockFault (s : State) (lane : Nat) : State := if s.supervised then s.resetClass 5 lane else s

/-- REFCLK_LOSS (R29): the reset waits until REFCLK is good again (R446). -/
def State.refLost (s : State) : State :=
  if s.supervised then (s.updSag (fun g => { g with refBad := true })).resetClass 5 2 else s

def execRefclkLoss (dt : Nat) (s : State) : Out := .next (s.advance dt).refLost

/-- The stages of an island turn off by their own detectors (R28). -/
def State.stagesOff (s : State) : Island → State
  | .drv g =>
    let s := s.each ((List.range 8).map (8 * g + ·)) State.forceOff
    s.updGroup g (fun x => { x with rail := 0 })
  | .loadi => s.each (List.range 16) State.lsOff
  | _ => s

/-- The master counter stops with the WHEEL clock, until the next BOOT (R13, R17). -/
def State.mtStops (s : State) (isl : Island) : State :=
  if isl = .wheel then s.updTime (fun t => { t with running := false }) else s

/-- ISLAND_CLOCK_STOP (R17, R28, R445 class 5).  DESIGN CHOICE (log 142): the islands DRV0 to DRV11 of R11 are
taken to exist on the SD9648 too, so the clock of one beyond its groups can stop. -/
def execIslandClockStop (dt : Nat) (isl : Island) (s : State) : Out :=
  let s := s.advance dt
  .next (if isl.real then ((s.clockFault (watcher isl)).stagesOff isl).mtStops isl else s)

/-- The replica of island `i` after a mark that finds it `d` ticks from the master (R14): one tick is corrected, and a
drive island's stays within one tick (log 28). -/
def markFix (i : Nat) (d : Int) : Int :=
  if d = 1 ∨ d = -1 then 0 else if 4 ≤ i ∧ i < 16 then clampI (-1) 1 d else d

/-- TIME_MARK (R14, R15): `diffs`, how far each replica is from the mark.  DESIGN CHOICE (log 142): every island
of R11 holds a replica, DRV6 to DRV11 of the SD9648 among them. -/
def State.timeMark (s : State) (diffs : List Int) : State :=
  let ds := (List.range 22).map (fun i => if i = 3 then 0 else diffs.getD i 0)
  let s := s.updTime (fun t => { t with replicas := ds.zipIdx.map (fun p => markFix p.2 p.1), missed := List.replicate 22 0 })
  if ds.any (fun d => decide (2 < d) || decide (d < -2)) then s.clockFault 2 else s

def execTimeMark (dt : Nat) (diffs : List Int) (s : State) : Out :=
  let s := s.advance dt
  .next (if s.time.running && s.now % 1024 = 0 then s.timeMark diffs else s)

/-- TIME_MARK_MISSING (R15): the fourth consecutive mark has failed to arrive.  DESIGN CHOICE (log 142): DRV6 to
DRV11 of the SD9648 receive marks as every island does. -/
def execTimeMarkMissing (dt : Nat) (isl : Island) (s : State) : Out :=
  let s := s.advance dt
  .next (if isl = .wheel || !isl.real then s
    else (s.updTime (fun t => { t with missed := t.missed.set (islandIdx isl) 4 })).clockFault (watcher isl))

end Sys2Proof.Machine
end

