-- ==== Sys2Proof/Machine/Saggar.lean ====
section
/-! DEFINITION. The meanings of Saggar's rows: SAFEN, the cross-check, the force-safe paths, the envelope,
scrub and digest checks, and the fault records (R435, R440 to R453). -/

namespace Sys2Proof.Machine

/-! ### SAFEN (R450) -/

/-- A lane takes SAFEN as asserted. -/
def State.safenTaken (s : State) (lane : Nat) : State :=
  let told := s.safenIn s.sag.a || s.safenIn s.sag.b
  let s := s.updLane lane (fun l => { l with safen := true })
  if told then s.updLane lane (fun l => { l with force := true }) else s.safenSeen lane

/-- SAFEN_ASSERT: below 200 ns ignored, from 200 ns to 1 us free, from 1 us on an assertion. -/
def execSafenAssert (dt lane lowNs : Nat) (s : State) : Out :=
  let s := s.advance dt
  let (n, s) := s.takeFree
  let taken := decide (1000 ≤ lowNs) || (decide (200 ≤ lowNs) && Config.freeBool n)
  .next (if taken then s.safenTaken lane else s)

/-- SAFEN_RELEASE: high for 1 ms in both lanes. -/
def execSafenRelease (dt highTicks : Nat) (s : State) : Out :=
  let s := s.advance dt
  .next (if msTicks ≤ highTicks && (s.sag.a.safen || s.sag.b.safen) then
      let s := s.updLane 2 (fun l => { l with safen := false })
      if s.pwr.vhioLow then s else s.safenFree
    else s)

/-! ### The cross-check (R440 to R442) -/

/-- A field of the frames differs between the lanes. -/
def State.lanesDiffer (s : State) (x : CrossObs) : Bool :=
  let a := s.sag.a
  let b := s.sag.b
  a.force != b.force || limitCrc a.limits != limitCrc b.limits || s.strapsDiffer || x.safenA != x.safenB || a.detected != b.detected

/-- The fault limit of a die: power dies 0 to 3, and the logic die (R435). -/
def dieLimit (die : Nat) : Int := if die = 4 then 135 else 160

/-- Frequencies in millionths of nominal: REFCLK, and the lanes' oscillators. -/
def refPpm (hz : Nat) : Nat := hz / 26
def oscPpm (hz : Nat) : Nat := hz / 40

/-- Two clocks differ by more than 2 %. -/
def apart (p q : Nat) : Bool := decide (max p q > min p q + 20000)

/-- Which of the three clocks differs from both others. -/
def oddOnes (x : CrossObs) : List Bool :=
  let r := refPpm x.refHz
  let a := oscPpm x.oscA
  let b := oscPpm x.oscB
  [apart r a && apart r b, apart a r && apart a b, apart b r && apart b a]

/-- Count the exchanges in which each clock is the odd one; one that has been for 10 us is named, and acted on. -/
def State.clockCompare (s : State) (x : CrossObs) : State :=
  let ks := (s.sag.clockOdd.zip (oddOnes x)).map (fun p => if p.2 then p.1 + 1 else 0)
  let s := s.updSag (fun g => { g with clockOdd := ks })
  let s := if s.sag.refBad && decide (25740000 ≤ x.refHz) && decide (x.refHz ≤ 26260000) then
      s.updSag (fun g => { g with refBad := false, refFrom := s.time.up })
    else s
  let s := match ks.idxOf? 2 with | some i => s.updSag (fun g => { g with clockNamed := some i }) | none => s
  let s := if ks.getD 0 0 = 2 then s.refLost else s
  let s := if ks.getD 1 0 = 2 then s.clockFault 2 else s
  if ks.getD 2 0 = 2 then s.clockFault 2 else s

/-- Both lanes take a limit copy sent to them, on the first exchange after the commit (R440), one whose frames arrive. -/
def State.takeLimits (s : State) : State :=
  match s.sag.a.newLimits, s.sag.b.newLimits with
  | some p, some q => s.updSag (fun g =>
      { g with a := { g.a with limits := p, newLimits := none }, b := { g.b with limits := q, newLimits := none } })
  | _, _ => s

/-- A detection is confirmed once the other lane has it too. -/
def Sag.otherHas (g : Sag) (u : Nat × Nat × Nat) : Bool :=
  if u.2.1 = 0 then g.b.detected.getLsbD u.1 else g.a.detected.getLsbD u.1

/-- An output that the envelope checks have found outside what is allowed matches it again: no check has found it so
for the time in which R447 finds it (log 30). -/
def State.matchesAgain (s : State) (o : EnvCheck × Nat) : Bool :=
  let us := match o.1 with | .fieldUnsafe _ => 200 | _ => 20
  decide (o.2 + us * usTicks < s.now)

/-- HOLD is back below V_HOLD after an over-voltage (R445 class 8). -/
def State.holdGood (s : State) : Bool := !s.pwr.holdOv || decide (s.pwr.hold < s.pwr.vHold)

/-- Whether a cause is gone (R40, R445, R453). -/
def State.causeGone (s : State) : FCause → Bool
  | .safen => !s.safenIn s.sag.a && !s.safenIn s.sag.b
  | .brownout => !s.pwr.brownout && !s.pwr.lowField && !s.pwr.overV && s.holdGood
  | .lsReadback n => !(s.ls n).rbHigh && !(s.ls n).rbLow
  | .fdReadback p => !(s.pin p).rb
  | .loopCheck n => (s.loop n).st == .opened
  | .orphan => true
  | .cls k =>
    if k = 8 then !s.pwr.overV && !s.pwr.regBad && !s.pwr.lowField && !s.pwr.brownout && s.holdGood
    else if k = 9 then !s.sag.bootPathBad && s.sag.pathsOk && decide (s.sag.diff = 0) && decide (s.sag.badFrames = 0)
      && decide (s.sag.agreeFrom + 1000 * msTicks ≤ s.now) && !s.strapsDiffer
    else if k = 11 then (List.range 5).all (fun d => decide (s.pwr.temps.getD d 0 + 10 ≤ dieLimit d))
    else if k = 13 then s.sag.outside.all s.matchesAgain
    else if k = 12 then true
    else false

/-- The classes that the lanes currently detect (R441): one whose causes are all gone is detected no longer. -/
def State.currentClasses (s : State) : State :=
  s.each [6, 11, 12, 13] (fun s k =>
    if s.dev.causes.all (fun c => c.klass ≠ k || s.causeGone c) && !s.findingHolds k then s.clearClass k else s)

/-- A lane's registers as its exchange gives them (R486). -/
def State.viewOf (s : State) (l : Lane) (straps : List Nat) : LaneView :=
  { force := l.force, safen := s.safenIn l, straps := straps, crc := limitCrc l.limits, detected := l.detected,
    suspended := maskOf 15 s.suspended, oscHz := l.oscHz, mism := l.mism, lastMt := l.lastMt, lastRec := l.lastRec }

def State.showLanes (s : State) : State :=
  s.updSag (fun g => { g with a := { g.a with view := s.viewOf g.a (s.dev.straps.take 3) },
                              b := { g.b with view := s.viewOf g.b s.dev.strapsB } })

/-- LANE_CROSS_CHECK (R441). -/
def State.crossCheck (s : State) (x : CrossObs) : State :=
  let s := s.currentClasses
  let bad := !(x.okA && x.okB)
  let differ := !bad && s.lanesDiffer x
  let s := s.updSag (fun g =>
    { g with seq := g.seq + 1, badFrames := if bad then g.badFrames + 1 else 0, diff := if differ then g.diff + 1 else 0,
             agreeFrom := if bad || differ then s.now else g.agreeFrom,
             unconfirmed := g.unconfirmed.filter (fun u => !g.otherHas u) })
  let s := s.updSag (fun g =>
    { g with a := { g.a with oscHz := x.oscA, mism := if differ then satInc g.a.mism else g.a.mism },
             b := { g.b with oscHz := x.oscB, mism := if differ then satInc g.b.mism else g.b.mism } })
  let s := if s.sag.diff = 2 ∨ s.sag.badFrames = 2 then s.moduleWide (.cls 9) 2
    else if !bad && !differ && s.sag.pathsOk then s.clearClass 9 else s
  let s := s.clockCompare x
  (if bad then s else s.takeLimits).showLanes

def execLaneCrossCheck (dt : Nat) (x : CrossObs) (s : State) : Out :=
  let s := s.advance dt
  .next (if s.supervised then s.crossCheck x else s)

/-- LANE_CONFIRM_TIMEOUT (R451): 20 us after a single-lane detection a class 9 record follows. -/
def execLaneConfirmTimeout (dt cls : Nat) (s : State) : Out :=
  let s := s.advance dt
  .next (match s.sag.unconfirmed.find? (fun u => u.1 = cls && decide (u.2.2 + 20 * usTicks ≤ s.now)) with
    | none => s
    | some u =>
      let ok := s.sag.otherHas u
      let s := s.updSag (fun g => { g with unconfirmed := g.unconfirmed.filter (fun v => v != u) })
      if ok then s else s.moduleWide (.cls 9) 2)

/-! ### Force-safe paths (R444) -/

/-- A force-safe line of the module.  DESIGN CHOICE (log 142): a line per drive group that the module has, so
none for DRV6 to DRV11 of the SD9648, whose stages R182 calls absent. -/
def State.isLine (s : State) : Island → Bool
  | .drv g => g < s.nGrp
  | .loadi => true
  | .fieldi => true
  | _ => false

/-- FORCE_SAFE_PATH_TEST: the lines whose echo is missing, each with its lane. -/
def State.pathTest (s : State) (missing : List (Nat × Island)) : State :=
  let ms := missing.filter (fun m => s.isLine m.2)
  if ms.isEmpty then s.updSag (fun g => { g with pathsOk := !g.bootPathBad })
  else
    let lane := if ms.all (fun m => m.1 = 0) then 0 else if ms.all (fun m => m.1 = 1) then 1 else 2
    (s.updSag (fun g => { g with pathsOk := false })).moduleWide (.cls 9) lane

def execForceSafePathTest (dt : Nat) (missing : List (Nat × Island)) (s : State) : Out :=
  let s := s.advance dt
  .next (if s.supervised then s.pathTest missing else s)

/-! ### The envelope (R447) -/

def State.forcing (s : State) : Bool := s.sag.a.force || s.sag.b.force

/-- FAULTN is pulled low (R449): by a lane, by the BOOT logic, or in FAULT; with the logic rail below POR it is
high-impedance. -/
def State.faultnLow (s : State) : Bool :=
  decide (4500 ≤ max s.pwr.vbat s.pwr.hold) && (s.forcing || s.dev.bootFaultn || s.dev.st == .fault)

/-- The copies of the limits that the finding lanes check against: each its own (R439, R440). -/
def Sag.copies (g : Sag) (lane : Nat) : List LimitCopy :=
  match lane with | 0 => [g.a.limits] | 1 => [g.b.limits] | _ => [g.a.limits, g.b.limits]

/-- The check holds against the state: what it finds is outside what the finding lanes allow. -/
def State.envelopeOut (s : State) (lane : Nat) : EnvCheck → Bool
  | .valveConducts ch =>
    decide (ch < s.nCh) && (s.forcing || !(s.dev.st == .working || s.dev.st == .manual || (s.dev.st == .parked && s.sinkCh ch)))
      && !s.claimed (.valve ch)
  | .switchUnsafe n => (s.forcing || !s.dev.st.active) && !s.claimed (.switch n)
  | .fieldUnsafe _ => (s.forcing || !s.dev.st.active) && s.firingTag.isNone
  | .valveOverCap ch ma held =>
    s.inUse ch && decide (10 * usTicks ≤ held) && (s.sag.copies lane).all (fun c =>
      decide (11 * (if (s.ctx ch).granted then c.iPeak else c.iHold).getD ch 0 + 500 < 10 * (ma : Int)))
  | .switchOverLimit n ma held =>
    decide (n < 16) && decide (s.cfgN .ocTripT n * usTicks + 10 * usTicks < held) && (s.sag.copies lane).all (fun c =>
      decide (12 * (if (s.ls n).win.isSome then c.inrushLimit else c.ocLimit).getD n 0 < 10 * (ma : Int)))

/-- ENVELOPE_VIOLATION: module-wide for an output at the wrong level, local for a current too high. -/
def State.envelope (s : State) (c : EnvCheck) (lane : Nat) : State :=
  if !s.envelopeOut lane c then s
  else match c with
    | .valveOverCap ch _ _ => ((s.noteClass 13 lane).channelFault ch 15).settle 13
    | .switchOverLimit n _ _ => ((s.noteClass 13 lane).lsLatch n 7).settle 13
    | _ => (s.updSag (fun g => { g with outside := g.outside.filter (fun o => o.1 ≠ c) ++ [(c, s.now)] })).moduleWide (.cls 13) lane

def execEnvelopeViolation (dt : Nat) (c : EnvCheck) (lane : Nat) (s : State) : Out :=
  let s := s.advance dt
  .next (if s.supervised then s.envelope c lane else s)

/-! ### Heat, cores, memories and flash (R435, R445, R446) -/

/-- DIE_OVERTEMP (R435): a reading of a die, which has been at its fault limit for `held` ticks. -/
def execDieOvertemp (dt die : Nat) (temp : Int) (held : Nat) (s : State) : Out :=
  let s := s.advance dt
  .next (if die < 5 && s.supervised then
      let hot := decide (dieLimit die ≤ temp)
      let s := s.updPwr (fun p => { p with temps := p.temps.set die temp, overT := p.overT.set die hot })
      if hot && msTicks ≤ held then s.moduleWide (.cls 11) 2 else s
    else s)

/-- CORE_LOCKSTEP_MISMATCH (R445 class 1). -/
def execCoreLockstepMismatch (dt core : Nat) (s : State) : Out :=
  let s := s.advance dt
  .next (if core < 16 && s.supervised then s.resetClass 1 2 else s)

/-- A Tile SRAM slot with an uncorrected error is emptied (R445 class 3). -/
def State.slotLost (s : State) (n : Nat) : State :=
  match s.tiles.slots.find? (fun x => x.slot = n) with
  | none => s
  | some x =>
    let s := s.count 4 x.marks
    let s := s.updTiles (fun t =>
      { t with queue := t.queue.filter (fun r => r.slot ≠ n),
               placed := t.placed.map (fun p => if p.slot = n then { p with timedOut := true } else p) })
    ((s.dropSlot n).wbEnded n false).dropsEnded.unstick

def State.scrubbed (s : State) : ScrubFinding → State
  | .corrected => (s.noteClass 2 2).settle 2
  | .coreOrWheel => s.resetClass 3 2
  | .tileSlot n => ((s.noteClass 3 2).slotLost n).settle 3

/-- MEMORY_SCRUB (R446). -/
def execMemoryScrub (dt : Nat) (fs : List ScrubFinding) (s : State) : Out :=
  let s := s.advance dt
  .next (if s.supervised then s.each fs State.scrubbed else s)

/-- The partition is configuration slot `n`. -/
def isSlot (p : FlashPart) (n : Nat) : Bool := match p with | .slot k => k.val = n | _ => false

/-- A flash partition found bad (R445 class 4): the firmware and the ACTIVE slot module-wide, the others with
an event and a record. -/
def State.flashBad (s : State) (p : FlashPart) : State :=
  let s := match p with
    | .firmware => s.updFlash (fun f => { f with fwOk := false })
    | .slot n => s.updCfgSlot n.val (fun x => { x with bad := true })
    | _ => s
  if p = .firmware || isSlot p s.cfg.roles.active then s.moduleWide (.cls 4) 2
  else (s.noteClass 4 2).detectRec 4 2

/-- FLASH_DIGEST_CHECK (R445 class 4): suspended while STORE is claimed (R448). -/
def execFlashDigestCheck (dt : Nat) (bad : List FlashPart) (s : State) : Out :=
  let s := s.advance dt
  .next (if s.supervised && !s.claimed .store then s.each bad State.flashBad else s)

/-! ### Fault records (R451) -/

/-- FAULT_RECORD_WRITTEN: the oldest record handed over is in flash and leaves the always-on buffers, or stays there. -/
def execFaultRecordWritten (dt : Nat) (ok : Bool) (s : State) : Out :=
  let s := s.advance dt
  .next (match s.sag.writing with
    | [] => s
    | (r, _) :: rest =>
      let s := s.updSag (fun g => { g with writing := rest })
      if ok then (s.keepRec r).updLane 2 (fun l => { l with buffer := l.buffer.erase r }) else s)

/-! ### Leaving FAULT (R453) -/

/-- The recorded causes still present. -/
def State.causesLeft (s : State) : List FCause := s.dev.causes.filter (fun c => !s.causeGone c)

/-- A condition that a CLEAR_FAULT has found gone is left. -/
def State.forgetCause (s : State) (c : FCause) : State :=
  let s := if c.klass = 0 then s else s.settle c.klass
  if c.klass = 8 then s.updPwr (fun p => { p with holdOv := false })
  else if c.klass = 13 then s.updSag (fun g => { g with outside := [] }) else s

/-- CLEAR_FAULT (R40, R453): STANDBY where every cause is gone, FAULT_HELD otherwise. -/
def State.clearFault (s : State) : Verdict :=
  let left := s.causesLeft
  if left.isEmpty then
    let s := (s.updDev (fun d => { d with causes := [], summary := 0 })).each s.dev.causes State.forgetCause
    .done .ok (resultOf [(128, 8, DevState.standby.code)]) (s.enter .standby causeCommand)
  else .done .faultHeld (resultOf [(128, 8, s.dev.st.code), (144, 16, (summaryOf left).toNat)]) s

end Sys2Proof.Machine
end

