-- ==== Sys2Proof/Machine/Tap.lean ====
section
/-! DEFINITION. The boundary-scan port (R463, R487): what one cycle of TCK, and a level on TRSTN, do to it.  The table of
commands has no row for a tester's lands, so no step runs these (log 147). -/

namespace Sys2Proof.Machine

/-- TAP_STATE as R487 codes it (log 147). -/
def TapState.code : TapState → Nat
  | .testLogicReset => 0 | .runTestIdle => 1 | .selectDr => 2 | .captureDr => 3 | .shiftDr => 4 | .exit1Dr => 5
  | .pauseDr => 6 | .exit2Dr => 7 | .updateDr => 8 | .selectIr => 9 | .captureIr => 10 | .shiftIr => 11
  | .exit1Ir => 12 | .pauseIr => 13 | .exit2Ir => 14 | .updateIr => 15

/-- The controller's next state for a level on TMS (IEEE 1149.1). -/
def TapState.next (x : TapState) (tms : Bool) : TapState :=
  match x, tms with
  | .testLogicReset, true => .testLogicReset
  | .testLogicReset, false => .runTestIdle
  | .runTestIdle, true => .selectDr
  | .runTestIdle, false => .runTestIdle
  | .selectDr, true => .selectIr
  | .selectDr, false => .captureDr
  | .captureDr, true => .exit1Dr
  | .captureDr, false => .shiftDr
  | .shiftDr, true => .exit1Dr
  | .shiftDr, false => .shiftDr
  | .exit1Dr, true => .updateDr
  | .exit1Dr, false => .pauseDr
  | .pauseDr, true => .exit2Dr
  | .pauseDr, false => .pauseDr
  | .exit2Dr, true => .updateDr
  | .exit2Dr, false => .shiftDr
  | .updateDr, true => .selectDr
  | .updateDr, false => .runTestIdle
  | .selectIr, true => .testLogicReset
  | .selectIr, false => .captureIr
  | .captureIr, true => .exit1Ir
  | .captureIr, false => .shiftIr
  | .shiftIr, true => .exit1Ir
  | .shiftIr, false => .shiftIr
  | .exit1Ir, true => .updateIr
  | .exit1Ir, false => .pauseIr
  | .pauseIr, true => .exit2Ir
  | .pauseIr, false => .pauseIr
  | .exit2Ir, true => .updateIr
  | .exit2Ir, false => .shiftIr
  | .updateIr, true => .selectDr
  | .updateIr, false => .runTestIdle

/-- What IDCODE shifts out (R487). -/
def State.idcode (s : State) : Word :=
  wn (pack [(0, 1, 1), (1, 11, 0x2D3), (12, 16, if s.dev.variant = 0 then 0x9600 else 0x9648), (28, 4, s.dev.step)])

/-- RESETN is held low. -/
def State.resetnLow (s : State) : Bool := decide (s.time.up < s.dev.resetnHigh)

/-- The instruction the port executes: EXTEST and CLAMP while RESETN is held low, and else as BYPASS (R463). -/
def State.tapActs (s : State) : TapInstr :=
  match s.dev.tap.instr with
  | .extest => if s.resetnLow then .extest else .bypass
  | .clamp => if s.resetnLow then .clamp else .bypass
  | i => i

/-- EXTEST_LIVE (R487). -/
def State.extestLive (s : State) : Bool := match s.tapActs with | .extest => true | .clamp => true | _ => false

/-- What boundary cell `i` drives its land to, where it does. -/
def State.landDriven (s : State) (i : Nat) : Option Bool := if s.extestLive then s.dev.tap.cells[i]? else none

/-- What the data register that the instruction selects captures; the levels of the lands, of which State holds only some,
are free (log 147). -/
def State.tapCapture (s : State) : List Bool × State :=
  match s.tapActs with
  | .idcode => ((List.range 32).map s.idcode.getLsbD, s)
  | .sample | .extest =>
    let (n, s) := s.takeFree
    ((List.range Config.bsrLength.toNat).map (fun i => (Config.freeNat n).testBit i), s)
  | .bypass | .clamp => ([false], s)

def State.updTap (s : State) (f : Tap → Tap) : State := s.updDev (fun d => { d with tap := f d.tap })

/-- What the controller's present state does at a cycle of TCK. -/
def State.tapAct (s : State) (tdi : Bool) : State :=
  match s.dev.tap.st with
  | .testLogicReset => s.updTap (fun t => { t with instr := .idcode })
  | .captureIr => s.updTap (fun t => { t with ir := [true, false] ++ List.replicate (Config.irLength - 2) false })
  | .shiftIr => s.updTap (fun t => { t with ir := t.ir.drop 1 ++ [tdi] })
  | .updateIr => s.updTap (fun t => { t with instr := Config.irDecode t.ir })
  | .captureDr => let (b, s) := s.tapCapture; s.updTap (fun t => { t with dr := b })
  | .shiftDr => s.updTap (fun t => { t with dr := t.dr.drop 1 ++ [tdi] })
  | .updateDr => match s.tapActs with
    | .sample | .extest => s.updTap (fun t => { t with cells := t.dr })
    | _ => s
  | _ => s

/-- One cycle of TCK with the levels of TMS and TDI; TRSTN low keeps the port in reset (R463). -/
def State.tck (s : State) (tms tdi : Bool) : State :=
  if s.dev.tap.trstn then (s.tapAct tdi).updTap (fun t => { t with st := t.st.next tms }) else s

/-- The level on TRSTN; low resets the port (R463). -/
def State.trstnTo (s : State) (high : Bool) : State :=
  s.updTap (fun t => if high then { t with trstn := true } else { t with trstn := false, st := .testLogicReset, instr := .idcode })

/-- TDO: high impedance except while shifting (R463). -/
def State.tdo (s : State) : Option Bool :=
  match s.dev.tap.st with
  | .shiftIr => s.dev.tap.ir.head?
  | .shiftDr => s.dev.tap.dr.head?
  | _ => none

end Sys2Proof.Machine
end

