-- ==== Sys2Proof/Machine/Regs.lean ====
section
/-! DEFINITION. BAR0 (R343, R344, R477 to R487): what a write does to the host-interface block and the MSI-X
table, and what a read of each field gives; the meanings of the register rows. -/

namespace Sys2Proof.Machine

/-! ### Writes -/

/-- BAR0 answers an access: the link is up, Memory Space Enable is 1, the function is in D0 and BAR0 is ready
(R341, R478). -/
def State.bar0Open (s : State) : Bool := s.host.link && s.host.mse && s.host.d0 && s.dev.bar0Ready

/-- Replace the low or high half of a 64-bit register. -/
def setHalf (x : DWord) (high : Bool) (v : Word) : DWord :=
  if high then v ++ x.setWidth 32 else (x >>> 32).setWidth 32 ++ v

def State.setRegLocked (s : State) : State := s.updHost (fun h => { h with regLocked := true, lockedAt := some s.now })

/-- What enabling a ring leaves of its last use: TILE's unanswered requests end as not answered (R141). -/
def State.ringStarts (s : State) (n : Nat) : State :=
  if n = 4 then
    s.unanswered.updTiles (fun t => { t with answered := 0 })
  else s

/-- A write to a ring's control word (R347, R481). -/
def State.ringControl (s : State) (n : Nat) (v : Word) : State :=
  let r := s.ring n
  let log2 := max 4 (min 12 (v.toNat % 16))
  let en := v.getLsbD 8
  let vec := v.toNat / 65536 % 32
  if r.en then
    if log2 ≠ r.log2 then s.setRegLocked
    else
      let s := s.updRing n (fun r => { r with en := en, vec := vec, fresh := r.fresh && en })
      if en then s else s.ringStops n
  else
    let s := if en then s.ringStarts n else s
    s.updRing n (fun r =>
      { r with log2 := log2, vec := vec, en := en, fresh := en, fails := 0, stopped := r.stopped && !en })

/-- A new HB_TIMEOUT applies at once to the running timer (R482). -/
def State.setHbTimeout (s : State) (v : Nat) : State :=
  let s := s.updHost (fun h => { h with hbTimeout := v })
  if s.dev.bound && decide (s.host.lastHb + v * msTicks ≤ s.now) then s.hostLost 2 else s

/-- The sweep grid in force, in µs (R482): POLL_PERIOD from the first multiple of its own grid after it was written. -/
def State.pollGrid (s : State) : Nat :=
  let h := s.host
  if h.pollAt < s.now / (h.poll * usTicks) * (h.poll * usTicks) then h.poll else h.grid

/-- A new POLL_PERIOD, which takes effect at the first multiple of its own grid after the write (R482). -/
def State.setPoll (s : State) (v : Nat) : State :=
  s.updHost (fun h => { h with grid := s.pollGrid, pollAt := s.now, poll := v })

/-- A write of ones clears HI_ERR bits; one that the module set at this instant stays (R482). -/
def State.clearHiErr (s : State) (v : Word) : State :=
  let keep := fun (b : Bool) (m : Option Nat) (i : Nat) => b && (!v.getLsbD i || decide (m = some s.now))
  s.updHost (fun h =>
    { h with regLocked := keep h.regLocked h.lockedAt 0, dbErr := keep h.dbErr h.dbErrAt 1,
             rings := h.rings.zipIdx.map (fun q => { q.1 with err := keep q.1.err q.1.errAt (16 + q.2) }) })

/-- A 4-byte write at an aligned offset (R477, R480, R483); every other offset ignores it. -/
def State.write32 (s : State) (off : Nat) (v : Word) : State :=
  let high := off / 4 % 2 = 1
  let n := v.toNat
  if off = 0x400 ∨ off = 0x404 then
    if s.anyRing then s.setRegLocked
    else s.updHost (fun h => { h with dbBase := setHalf h.dbBase high v &&& ~~~(127 : DWord) })
  else if off = 0x408 ∨ off = 0x40C then
    if s.anyRing then s.setRegLocked
    else s.updHost (fun h => { h with stBase := setHalf h.stBase high v &&& ~~~(127 : DWord) })
  else if off = 0x410 then s.setPoll (max 1 (min 64 (n % 128)))
  else if off = 0x414 then s.setHbTimeout (max 10 (min 5000 (n % 8192)))
  else if off = 0x418 then s.updHost (fun h => { h with hostGrace := min 2000 (n % 2048) })
  else if off = 0x41C then s.clearHiErr v
  else if 0x500 ≤ off ∧ off < 0x600 then
    let k := (off - 0x500) / 16
    match off % 16 with
    | 8 => s.ringControl k v
    | 12 => s
    | _ =>
      if (s.ring k).en then s.setRegLocked
      else s.updRing k (fun r => { r with base := setHalf r.base high v &&& ~~~(4095 : DWord) })
  else if 0x700 ≤ off ∧ off < 0x800 then
    if high then s
    else s.updVec ((off - 0x700) / 8) (fun x =>
      { x with modTime := min 1000 (n % 1024), modCount := max 1 (min 256 (n / 65536 % 512)) })
  else if 0x1000 ≤ off ∧ off < 0x1200 then
    let k := (off - 0x1000) / 16
    match off % 16 with
    | 8 => s.updVec k (fun x => { x with data := v })
    | 12 => (s.updVec k (fun x => { x with mask := v.getLsbD 0 })).pbaSends k
    | _ => (s.updVec k (fun x => { x with addr := setHalf x.addr high v &&& ~~~(3 : DWord) })).pbaSends k
  else s

/-- A size and alignment that BAR0 takes (R343). -/
def goodAccess (off size : Nat) : Bool := (size = 4 && off % 4 = 0) || (size = 8 && off % 8 = 0)

/-- A write of 4 or 8 bytes, the low half first. -/
def State.regWrite (s : State) (off size : Nat) (v : DWord) : State :=
  let s := s.write32 off (v.setWidth 32)
  if size = 8 then s.write32 (off + 4) ((v >>> 32).setWidth 32) else s

/-! ### The meanings -/

/-- REGISTER_WRITE (R477): completed with Unsupported Request where R343 says so. -/
def execRegisterWrite (dt off size : Nat) (val : DWord) (s : State) : Out :=
  let s := s.advance dt
  .next (if !s.bar0Open then s
    else if goodAccess off size && off + size ≤ 65536 then s.regWrite off size val
    else s.emit .unsupported)

/-- BAR0_BAD_ACCESS (R343). -/
def execBar0BadAccess (dt off size : Nat) (_write : Bool) (s : State) : Out :=
  let s := s.advance dt
  .next (if s.bar0Open && !goodAccess off size then s.emit .unsupported else s)

/-- The control word of a ring. -/
def controlWord (log2 vec : Nat) (en : Bool) : DWord := BitVec.ofNat 64 (pack [(0, 4, log2), (8, 1, b2n en), (16, 5, vec)])

/-- RING_ENABLE (R347, R481): a write that sets RING_EN. -/
def execRingEnable (dt ring log2 vec : Nat) (s : State) : Out :=
  let s := s.advance dt
  .next (if s.bar0Open && decide (ring < 16) then s.regWrite (0x508 + 16 * ring) 4 (controlWord log2 vec true) else s)

/-- RING_DISABLE (R347, R481): a write that clears RING_EN and leaves RING_LOG2. -/
def execRingDisable (dt ring vec : Nat) (s : State) : Out :=
  let s := s.advance dt
  .next (if s.bar0Open && decide (ring < 16) then
      s.regWrite (0x508 + 16 * ring) 4 (controlWord (s.ring ring).log2 vec false)
    else s)

/-- A 4-byte write that R344 or R481 locks. -/
def State.locks (s : State) (off : Nat) (v : Word) : Bool :=
  if 0x400 ≤ off ∧ off < 0x410 then s.anyRing
  else if 0x500 ≤ off ∧ off < 0x600 then
    let r := s.ring ((off - 0x500) / 16)
    r.en && (match off % 16 with
      | 8 => decide (max 4 (min 12 (v.toNat % 16)) ≠ r.log2)
      | 12 => false
      | _ => true)
  else false

/-- REG_LOCKED (R344): a write to a base or size field in use. -/
def execRegLocked (dt off : Nat) (val : DWord) (s : State) : Out :=
  let s := s.advance dt
  .next (if s.bar0Open && off % 4 = 0 && s.locks off (val.setWidth 32) then s.regWrite off 4 val else s)

/-- POLL_PERIOD_WRITE (R482): the new grid begins at its first multiple (DOORBELL_SWEEP). -/
def execPollPeriodWrite (dt val : Nat) (s : State) : Out :=
  let s := s.advance dt
  .next (if s.bar0Open then s.regWrite 0x410 4 (BitVec.ofNat 64 val) else s)

/-- HB_TIMEOUT_WRITE (R482). -/
def execHbTimeoutWrite (dt val : Nat) (s : State) : Out :=
  let s := s.advance dt
  .next (if s.bar0Open then s.regWrite 0x414 4 (BitVec.ofNat 64 val) else s)

/-- HI_ERR_CLEAR (R482). -/
def execHiErrClear (dt : Nat) (bits : Word) (s : State) : Out :=
  let s := s.advance dt
  .next (if s.bar0Open then s.regWrite 0x41C 4 (bits.setWidth 64) else s)

/-- MSIX_UNMASK (R368). -/
def execMsixUnmask (dt : Nat) (v : Option Nat) (s : State) : Out :=
  let s := s.advance dt
  .next (match v with
    | some v => if s.bar0Open && decide (v < 32) then s.regWrite (0x100C + 16 * v) 4 0 else s
    | none => if s.host.link then (s.updHost (fun h => { h with fmask := false })).each (List.range 32) State.pbaSends else s)

/-! ### Reads (R477, R479 to R487) -/

/-- HOLD_READY (R427). -/
def State.holdReady (s : State) : Bool := decide (420000 ≤ s.pwr.cMeasH) && decide (9500 ≤ s.pwr.hold)

/-- A die at or above its HOT level (R435). -/
def hotDie (die : Nat) (t : Int) : Bool := decide ((if die = 4 then 120 else 145) ≤ t)

/-- A lane's registers, from its latest exchange (R486). -/
def LaneView.reg (l : LaneView) (off : Nat) : Nat :=
  match off with
  | 0x00 => pack [(0, 1, b2n l.force), (1, 1, b2n l.force), (2, 1, b2n l.safen), (8, 3, l.straps.getD 0 7),
      (11, 3, l.straps.getD 1 7), (14, 3, l.straps.getD 2 7)]
  | 0x04 => l.crc.toNat
  | 0x08 => l.detected.toNat
  | 0x0C => l.suspended.toNat
  | 0x10 => l.oscHz
  | 0x14 => l.mism.toNat
  | 0x18 => l.lastMt
  | 0x1C => l.lastMt / 2 ^ 32
  | 0x20 => l.lastRec.toNat
  | _ => 0

/-- The identity block (R479). -/
def State.identReg (s : State) (off : Nat) : Nat :=
  let d := s.dev
  match off with
  | 0x00 => 0x5D960001
  | 0x04 => pack [(0, 8, d.variant), (8, 8, d.grade), (16, 8, d.step)]
  | 0x08 => d.fwVersion
  | 0x0C => pack [(0, 1, b2n d.sigFail), (1, 1, b2n (s.cfg.inForce == .straps)), (2, 1, b2n d.imageBad),
      (3, 1, b2n d.fallback), (4, 1, b2n s.writeProtect)]
  | 0x10 => d.serial
  | 0x14 => d.serial / 2 ^ 32
  | 0x18 => d.bootCount.toNat
  | 0x1C => pack [(0, 8, d.st.code), (8, 8, d.cause), (16, 16, d.summary.toNat)]
  | 0x20 => d.stMt
  | 0x24 => d.stMt / 2 ^ 32
  | 0x28 => pack [(0, 8, d.resetSource), (8, 8, d.resetState.code)]
  | 0x30 => d.resetMt
  | 0x34 => d.resetMt / 2 ^ 32
  | 0x38 => pack ((List.range 8).map (fun n => (3 * n, 3, d.straps.getD n 7)) ++ [(24, 8, d.marginal.toNat)])
  | 0x40 => s.cfg.gen.toNat
  | 0x48 => s.cfg.digest.toNat
  | 0x4C => s.cfg.digest.toNat / 2 ^ 32
  | _ => 0

/-- The host-interface block (R480). -/
def State.hostReg (s : State) (off : Nat) : Nat :=
  let h := s.host
  match off with
  | 0x400 => h.dbBase.toNat
  | 0x404 => h.dbBase.toNat / 2 ^ 32
  | 0x408 => h.stBase.toNat
  | 0x40C => h.stBase.toNat / 2 ^ 32
  | 0x410 => h.poll
  | 0x414 => h.hbTimeout
  | 0x418 => h.hostGrace
  | 0x41C => pack ([(0, 1, b2n h.regLocked), (1, 1, b2n h.dbErr)] ++ h.rings.zipIdx.map (fun q => (16 + q.2, 1, b2n q.1.err)))
  | _ =>
    if 0x500 ≤ off ∧ off < 0x600 then
      let r := s.ring ((off - 0x500) / 16)
      match off % 16 with
      | 0 => r.base.toNat
      | 4 => r.base.toNat / 2 ^ 32
      | 8 => pack [(0, 4, r.log2), (8, 1, b2n r.en), (16, 5, r.vec)]
      | _ => 0
    else if 0x700 ≤ off ∧ off < 0x800 ∧ off % 8 = 0 then
      let x := s.vec ((off - 0x700) / 8)
      pack [(0, 10, x.modTime), (16, 9, x.modCount)]
    else 0

/-- The MSI-X table and PBA (R483). -/
def State.msixReg (s : State) (off : Nat) : Nat :=
  if off = 0x1800 then (maskOf 32 (fun v => (s.vec v).pba)).toNat
  else if off < 0x1200 then
    let x := s.vec ((off - 0x1000) / 16)
    match off % 16 with
    | 0 => x.addr.toNat
    | 4 => x.addr.toNat / 2 ^ 32
    | 8 => x.data.toNat
    | _ => b2n x.mask
  else 0

/-- The time block (R484). -/
def State.timeReg (s : State) (off : Nat) : Nat :=
  let t := s.time
  let p := s.pairAt s.now
  match off with
  | 0x00 => t.mt
  | 0x04 => t.mt / 2 ^ 32
  | 0x08 => (s.settlePairs).time.ftSeq.toNat
  | 0x0C => pack [(0, 1, b2n t.ftValid), (1, 2, t.clock.code)]
  | 0x10 => p.mtBase
  | 0x14 => p.mtBase / 2 ^ 32
  | 0x18 => twos 32 p.ftBase
  | 0x1C => twos 64 p.ftBase / 2 ^ 32
  | 0x20 => twos 32 p.ftRate
  | 0x24 => (roundRat (s.ftU (s.now / msTicks * msTicks))).toNat
  | 0x28 => t.tpLastMt
  | 0x2C => t.tpLastMt / 2 ^ 32
  | _ => 0

/-- The readings that the power block shows: as of the last 1 ms of MT (R485). -/
def State.shownReadings (s : State) : Readings := if s.now < msTicks then s.pwr.readings else s.time.shown

/-- The power-and-energy block (R485). -/
def State.powerReg (s : State) (off : Nat) : Nat :=
  let p := s.pwr
  let r := s.shownReadings
  let q := off / 4 % 4
  let fit := fun (x : Nat) => if q < s.nQuad then x else 0
  let mask4 := fun (f : Nat → Bool) => (maskOf 4 f).toNat
  let t := fun (i : Nat) => twos 16 (r.temps.getD i 0)
  match off with
  | 0x00 => pack [(0, 1, b2n p.sag), (1, 1, b2n p.lowField), (2, 1, b2n p.brownout), (3, 1, b2n p.overV),
      (4, 4, mask4 (fun i => p.drvSusp.getD i false)), (8, 4, mask4 (fun i => p.loadSusp.getD i false)),
      (12, 1, b2n p.vioLow), (13, 1, b2n p.vioLost), (14, 1, b2n p.vio24Ov), (15, 1, b2n s.holdReady),
      (16, 1, b2n p.onHold), (17, 2, (st0Class (s.strap 0)) / 24), (20, 2, s.energyClass),
      (22, 2, st1Class (s.strap 1)), (24, 2, s.cfgN .energyClass)]
  | 0x04 => r.vbat
  | 0x08 => r.vio24
  | 0x0C => r.hold
  | 0x30 => s.sagMv
  | 0x34 => p.vHold
  | 0x38 => p.cMeasH
  | 0x60 => s.totalMj
  | 0x64 => eCap s.energyClass
  | 0x68 => eHold s.energyClass
  | 0x70 => t 0 + 65536 * t 1
  | 0x74 => t 2 + 65536 * t 3
  | 0x78 => pack [(0, 16, t 4), (16, 5, (maskOf 5 (fun i => hotDie i (p.temps.getD i 0))).toNat),
      (21, 5, (maskOf 5 (fun i => p.overT.getD i false)).toNat)]
  | _ =>
    if 0x10 ≤ off ∧ off < 0x20 then fit (r.vdrv.getD q 0)
    else if 0x20 ≤ off ∧ off < 0x30 then r.vload.getD q 0
    else if 0x40 ≤ off ∧ off < 0x50 then fit (p.vLim.getD q 0)
    else if 0x50 ≤ off ∧ off < 0x60 then fit (r.res.getD q 0)
    else 0

/-- The boundary-scan block (R487). -/
def State.scanReg (s : State) (off : Nat) : Nat :=
  match off with
  | 0 => s.idcode.toNat
  | 4 => pack [(0, 4, s.dev.tap.st.code), (4, 1, b2n s.dev.tap.trstn), (5, 1, b2n s.extestLive)]
  | 8 => Config.bsrLength.toNat
  | _ => 0

/-- What a 4-byte read of BAR0 at an aligned offset gives (R343): an offset outside the blocks reads 0. -/
def State.read32 (s : State) (off : Nat) : Word :=
  wn (if off < 0x400 then s.identReg off
    else if off < 0x800 then s.hostReg off
    else if 0x1000 ≤ off ∧ off < 0x2000 then s.msixReg off
    else if 0x2000 ≤ off ∧ off < 0x2400 then s.timeReg (off - 0x2000)
    else if 0x2400 ≤ off ∧ off < 0x2800 then s.powerReg (off - 0x2400)
    else if 0x2800 ≤ off ∧ off < 0x2840 then s.sag.a.view.reg (off - 0x2800)
    else if 0x2840 ≤ off ∧ off < 0x2880 then s.sag.b.view.reg (off - 0x2840)
    else if 0x4000 ≤ off ∧ off < 0x4400 then s.scanReg (off - 0x4000)
    else 0)

/-- What an 8-byte read at an aligned offset gives: both halves of one instant's value (R477); so a read at 0x0018 gives
BOOT_COUNT together with the STATE word (R479). -/
def State.read64 (s : State) (off : Nat) : DWord := s.read32 (off + 4) ++ s.read32 off

/-- What BAR0 answers a read: none where it completes with Unsupported Request (R343). -/
def State.regRead (s : State) (off size : Nat) : Option DWord :=
  if !goodAccess off size || 65536 < off + size then none
  else some (if size = 8 then s.read64 off else (s.read32 off).setWidth 64)

end Sys2Proof.Machine
end

