-- ==== Sys2Proof/Machine/HostLink.lean ====
section
/-! DEFINITION. The meanings of the host link's rows: host loss, sweeps, the status block, interrupts, the
event queue and telemetry (R340 to R342, R350 to R368, R389 to R395). -/

namespace Sys2Proof.Machine

/-! ### The link and host loss (R341, R342, R50 to R52) -/

def execPerstnAssert (dt : Nat) (s : State) : Out := .next ((s.advance dt).linkLost 0)

def execHotReset (dt : Nat) (s : State) : Out := .next ((s.advance dt).linkLost 0)

def execDlDown (dt : Nat) (s : State) : Out := .next ((s.advance dt).linkLost 0)

/-- A detected host loss; the module detects none while in RESET. -/
def State.lost (s : State) (det : Nat) : State := if s.supervised then s.hostLost det else s

/-- FUNCTION_LEVEL_RESET: the link stays up, and from it on nothing is issued (R341, R342). -/
def execFunctionLevelReset (dt : Nat) (s : State) : Out :=
  .next (((s.advance dt).updHost (fun h => { h with bme := false })).lost 0).hostIfReset

/-- BUS_MASTER_ENABLE_CLEAR: Bus Master Enable, or Memory Space Enable, goes from 1 to 0. -/
def execBusMasterEnableClear (dt : Nat) (memSpace : Bool) (s : State) : Out :=
  let s := s.advance dt
  let was := if memSpace then s.host.mse else s.host.bme
  let s := s.updHost (fun h => { h with bme := h.bme && memSpace, mse := h.mse && !memSpace, paused := h.paused || !memSpace })
  .next (if was then s.lost 3 else s)

/-- D3HOT_ENTRY. -/
def execD3hotEntry (dt : Nat) (s : State) : Out :=
  let s := s.advance dt
  .next (if s.host.d0 then (s.updHost (fun h => { h with d0 := false, paused := true })).lost 4 else s)

/-- HOST_ACCESS_RESTORED: rings and messages are served again from the next sweep (R482). -/
def execHostAccessRestored (dt : Nat) (s : State) : Out :=
  .next ((s.advance dt).updHost (fun h => { h with bme := true, mse := true, d0 := true }))

/-- LINK_UP (R49, R342): HOSTI trains the link from BOOT on, and not while VHIO is too low (R420). -/
def execLinkUp (dt : Nat) (s : State) : Out :=
  let s := s.advance dt
  .next (if s.supervised && !s.pwr.vhioLow then
      (s.updHost (fun h => { h with link := true })).updDev (fun d => { d with wakenLow := false })
    else s)

/-- HEARTBEAT_TIMEOUT (R50). -/
def execHeartbeatTimeout (dt : Nat) (s : State) : Out :=
  let s := s.advance dt
  .next (if s.dev.bound && decide (s.host.lastHb + s.host.hbTimeout * msTicks ≤ s.now) then s.lost 2 else s)

/-- HOST_GRACE_EXPIRY (R51). -/
def execHostGraceExpiry (dt : Nat) (s : State) : Out := .next (s.advance dt).graceFirst

/-! ### Sweeps (R355 to R357) -/

/-- This instant lies on the grid of a POLL_PERIOD. -/
def State.onGrid (s : State) (us : Nat) : Bool := s.now % (us * usTicks) = 0

/-- DOORBELL_SWEEP (R355): on the grid in force. -/
def State.sweepStarts (s : State) : State :=
  if s.dmaOk && s.dev.st.servesRings && s.anyRing && !s.host.sweeping && s.onGrid s.pollGrid then s.startSweep else s

def execDoorbellSweep (dt : Nat) (s : State) : Out :=
  let s := s.advance dt
  .next (if s.time.running then s.sweepStarts else s)

/-- The end of a sweep: the status block where an index changed (R350), and the sweep a CPL write asked for. -/
def State.sweepEnds (s : State) : State :=
  let again := s.host.extraSweep
  let s := s.updHost (fun h => { h with sweeping := false, extraSweep := false })
  let s := if s.host.idxChanged then s.writeStatus else s
  if again && s.dmaOk && s.dev.st.servesRings then s.startSweep else s

/-- The doorbell read ended in error: the sweep ends (R357). -/
def State.doorbellFailed (s : State) : State :=
  let s := (s.count 63).updHost (fun h => { h with dbErr := true, dbErrAt := some s.now, dbFails := h.dbFails + 1 })
  let s := if s.host.dbFails = 3 then (s.updHost (fun h => { h with dbFails := 0 })).hostLost 1 else s
  s.sweepEnds

/-- The rings whose descriptors the module reads. -/
def inbound (n : Nat) : Bool := n = 0 || n = 5 || (decide (8 ≤ n) && decide (n < 12))

/-- A host index that R371 leaves unchecked: it moves backwards, lies more than one ring ahead, or answers
beyond the requests placed. -/
def badIndex (n : Nat) (r : Ring) (x : Word) : Bool :=
  r.en && !r.fresh && !r.stopped &&
    (decide (2 ^ 31 ≤ (x - r.host).toNat)
      || (let d := (x - r.mod).toNat
          let most := if n = 4 then 0 else 2 ^ r.log2
          decide (most < d ∧ (inbound n ∨ d < 2 ^ 31))))

/-- Take the host's indices; a ring not enabled, or not yet begun, takes none. -/
def State.takeIndices (s : State) (idx : List Word) : State :=
  s.updHost (fun h => { h with rings := h.rings.zipIdx.map (fun q =>
    if q.1.en && !q.1.fresh && !q.1.stopped then { q.1 with host := idx.getD q.2 0 } else q.1) })

/-- The TILE answers that the answer index newly covers are taken at this instant (R139, R356). -/
def State.takeAnswers : List TileAns → State → State
  | [], s => s
  | a :: r, s =>
    if s.served 4 && decide (0 < ((s.ring 4).host - s.tiles.answered).toNat) then
      let i := s.tiles.answered
      let s := s.updTiles (fun t => { t with answered := i + 1 })
      State.takeAnswers r (match s.tiles.placed.find? (fun p => p.idx = i) with
        | some p => s.tileAnswer p a
        | none => s)
    else s

/-- The announced descriptors of an inbound ring that the module has not read, and the index of the first (R356): on a
CANTX ring they begin behind those read and not yet taken. -/
def State.unread (s : State) (n : Nat) : Word × Nat :=
  let r := s.ring n
  let k : Word := if 8 ≤ n then (s.busOf (n - 8)).readAhead else 0
  (r.mod + k, if s.served n then r.waiting - k.toNat else 0)

/-- How many descriptors of an inbound ring a sweep reads (R356): at most 64 of RTCM, and of a CANTX ring none unless its
FIFO can take them. -/
def State.toRead (s : State) (n : Nat) : Nat :=
  let k := (s.unread n).2
  if n = 5 then min 64 k
  else if 8 ≤ n then (if s.fifoTakes (n - 8) then k else 0)
  else k

/-- The inbound rings whose descriptors a sweep reads. -/
def State.readRings (s : State) : List Nat := [0, 5, 8, 9, 10, 11].filter (fun n => decide (0 < s.toRead n))

/-- A read of `k` descriptors from the first unread one on. -/
def State.descReadOf (s : State) (n k : Nat) : HostWrite :=
  let i := (s.unread n).1
  .descRead n i ((s.ring n).addr i) k

/-- The descriptor reads of a sweep (R356). -/
def State.descReads (s : State) : List HostWrite := s.readRings.map (fun n => s.descReadOf n (s.toRead n))

/-- HEARTBEAT changed between two sweeps (R356). -/
def State.seeHeartbeat (s : State) (hb : Word) : State :=
  let beat := match s.host.hbWord with | some w => w != hb | none => false
  s.updHost (fun h => { h with hbWord := some hb, lastHb := if beat then s.now else h.lastHb })

/-- CPL may have room for completions held (R360); one written asks for a further sweep (R355). -/
def State.cplRoom (s : State) : State :=
  let t := State.drainCpl s.host.heldCpl.length s
  if t.host.heldCpl.length < s.host.heldCpl.length then t.extraSweep else t

/-- The doorbell data has arrived (R356 steps 2 to 4). -/
def State.doorbellRead (s : State) (d : Doorbell) : State :=
  let s := (s.updHost (fun h => { h with dbFails := 0 })).seeHeartbeat d.hb
  let s := State.takeAnswers d.answers (s.takeIndices d.idx)
  let s := s.cplRoom
  let s := State.drainTel (s.host.tel.length + s.host.telTime.length) s
  if s.readRings.isEmpty then s.sweepEnds else s.emits s.descReads

/-- The indices of a doorbell read as the module takes them: one that R371 leaves unchecked is free (log 17). -/
def State.freeIndices (s : State) (idx : List Word) : List Word × State :=
  (List.range 16).foldl (fun (p : List Word × State) n =>
    let x := idx.getD n 0
    if badIndex n (p.2.ring n) x then
      let (k, t) := p.2.takeFree
      (p.1 ++ [wn (Config.freeNat k)], t)
    else (p.1 ++ [x], p.2)) ([], s)

/-- DOORBELL_READ_COMPLETE. -/
def execDoorbellReadComplete (dt : Nat) (d : Doorbell) (s : State) : Out :=
  let s := s.advance dt
  .next (if !s.host.sweeping then s
    else if !d.ok then s.doorbellFailed
    else
      let (idx, s) := s.freeIndices d.idx
      s.doorbellRead { d with idx := idx })

/-- STATUS_BLOCK_REFRESH (R350). -/
def execStatusBlockRefresh (dt : Nat) (s : State) : Out :=
  let s := s.advance dt
  .next (if s.anyRing && s.dmaOk && s.dev.st.servesRings then s.writeStatus else s)

/-! ### Interrupts and events (R362, R367) -/

/-- MSIX_MODERATION_TIMEOUT (R367). -/
def execMsixModerationTimeout (dt v : Nat) (s : State) : Out :=
  let s := s.advance dt
  let x := s.vec v
  .next (if v < 32 && decide (0 < x.count) && decide (x.oldest + x.curTime * usTicks ≤ s.now) then s.sendLate v else s)

/-- EVT_QUEUE_DRAIN (R362); the link may take waiting writes first (R363), and waiting telemetry follows (R366). -/
def execEvtQueueDrain (dt : Nat) (s : State) : Out :=
  let s := State.drainEvts 256 (s.advance dt).linkTakes
  .next (State.drainTel (s.host.tel.length + s.host.telTime.length) s)

/-! ### Telemetry (R366, R389 to R395) -/

/-- A number of `k` descriptors. -/
def descsOf (k n : Nat) : List Desc := (List.range k).map (fun i => BitVec.ofNat 256 (n >>> (256 * i)))

/-- The FUSION record (R390), FLAGS and TEL_SEQ 0. -/
def FusOut.record (o : FusOut) : Nat :=
  pack [(0, 8, 0x10), (32, 3, o.quality), (35, 3, o.hdgSrc), (38, 2, o.articSrc), (40, 1, b2n o.originValid),
    (41, 1, b2n o.speedValid), (42, 1, b2n o.reverse), (43, 1, b2n o.posStep), (44, 1, b2n o.implInvalid),
    (45, 1, b2n o.noImu), (46, 1, b2n o.speedDisagree), (64, 64, o.epoch), (128, 32, twos 32 o.e), (160, 32, twos 32 o.n),
    (192, 32, twos 32 o.u), (224, 32, twos 32 o.ve), (256, 32, twos 32 o.vn), (288, 32, twos 32 o.vu),
    (320, 32, twos 32 o.speed), (352, 32, o.heading.toNat), (384, 32, twos 32 o.pitch), (416, 32, twos 32 o.roll),
    (448, 32, twos 32 o.yawRate), (480, 32, o.mHeading.toNat), (512, 32, twos 32 o.artic), (544, 32, o.hpu),
    (576, 32, o.hdu), (608, 32, o.drT), (640, 32, o.drD)]

/-- The LOOP record (R394). -/
def State.loopRecord (s : State) (n : Nat) : Nat :=
  let l := s.loop n
  let x := s.trSample n
  pack [(0, 8, 0x30), (32, 5, n), (37, 2, l.st.code), (39, 1, b2n l.measOk), (40, 1, b2n x.ramping), (41, 5, l.sticky.toNat),
    (64, 32, twos 32 l.r), (96, 32, twos 32 x.n.rs), (128, 32, twos 32 l.n.y), (160, 32, twos 32 l.uOut),
    (192, 64, l.sampled.getD 0)]

/-- The FD record. -/
def State.fdRecord (s : State) : Nat :=
  pack [(0, 8, 0x40), (32, 32, (maskW (fun p => (s.pin p).seen)).toNat), (64, 32, (maskW (fun p => s.fdOut p && (s.pin p).cmd)).toNat),
    (96, 32, (maskW s.fdBad).toNat), (128, 32, (maskW (fun p => (s.pin p).hLatched)).toNat), (192, 64, s.field.lastUp)]

/-- The EDGE record of up to three stamps (R392). -/
def edgeRecord (n : Nat) (es : List (Nat × Bool)) : Nat :=
  pack ([(0, 8, 0x41), (32, 4, n), (36, 2, es.length)] ++ es.zipIdx.map (fun p => (38 + p.2, 1, b2n p.1.2))
    ++ es.zipIdx.map (fun p => (64 + 64 * p.2, 64, p.1.1)))

/-- The AI and PI records. -/
def State.aiRecord (s : State) : Nat :=
  pack ([(0, 8, 0x42), (32, 16, (maskOf 16 s.aiValid).toNat), (64, 64, s.now)]
    ++ (List.range 16).map (fun i => (128 + 32 * i, 32, twos 32 (s.ain i).reading)))

def State.piRecord (s : State) : Nat :=
  pack ([(0, 8, 0x43), (32, 16, (maskOf 16 (fun i => (s.pin_ i).rev)).toNat), (64, 64, s.now)]
    ++ (List.range 16).map (fun i => (128 + 32 * i, 32, twos 32 (s.piFreq i))))

/-- The COUNT record of run `k` (R395): six counters, and three in the last. -/
def State.countRecord (s : State) (k : Nat) : Nat :=
  let n := min 6 (69 - 6 * k)
  pack ([(0, 8, 0x50), (32, 16, 6 * k), (48, 3, n)]
    ++ (List.range n).map (fun i => (64 + 32 * i, 32, (s.cnt.getD (6 * k + i) 0).toNat)))

/-- Form one record at its native rate (R364, R389). -/
def State.formRecord (s : State) : TelKind → State
  | .fusion => match s.nav.outs with
    | o :: _ => s.telemeter 0 0x10 (descsOf 3 o.record)
    | [] => s
  | .valve ch => if s.planned ch then s.telemeter 1 (0x20 + 256 * ch) (descsOf 2 (s.valveRecord ch)) else s
  | .loop n => if s.loopOn n then s.telemeter 3 (0x30 + 256 * n) (descsOf 1 (s.loopRecord n)) else s
  | .fd => s.telemeter 4 0x40 (descsOf 1 s.fdRecord)
  | .edge n =>
    let es := (s.pin_ n).tel.take 3
    if es.isEmpty then s
    else (s.updPi n (fun p => { p with tel := p.tel.drop 3 })).telemeter 5 0x41 (descsOf 1 (edgeRecord n es))
  | .ai => s.telemeter 4 0x42 (descsOf 3 s.aiRecord)
  | .pi => s.telemeter 4 0x43 (descsOf 3 s.piRecord)
  | .count k => if k < 12 then s.telemeter 6 (0x50 + 256 * k) (descsOf 1 (s.countRecord k)) else s

/-- A record's type and native period in ticks (R364): a fusion output once, a pulse edge as its stamps allow. -/
def telRate : TelKind → Nat × Nat
  | .fusion => (0x10, 0)
  | .valve ch => (0x20 + 256 * ch, 25000000)
  | .loop n => (0x30 + 256 * n, 2500000)
  | .fd => (0x40, 2500000)
  | .edge n => (0x41 + 256 * n, 0)
  | .ai => (0x42, 2500000)
  | .pi => (0x43, 2500000)
  | .count k => (0x50 + 256 * k, 250000000)

/-- A record of this kind is due: its native period has passed since the last, or the fusion output is a new one. -/
def State.telDue (s : State) (k : TelKind) : Bool :=
  match s.host.telAt.find? (fun p => p.1 = (telRate k).1) with
  | none => true
  | some p => (match k with
    | .fusion => decide (p.2 < ((s.nav.outs.head?).map (·.epoch)).getD 0)
    | _ => decide (p.2 + (telRate k).2 ≤ s.now))

/-- TELEMETRY_RECORD, at most at its native rate (R364). -/
def execTelemetryRecord (dt : Nat) (k : TelKind) (s : State) : Out :=
  let s := s.advance dt
  .next (if s.islands && s.dev.st.servesRings && s.telDue k then
      (s.updHost (fun h => { h with telAt := ((telRate k).1, s.now) :: h.telAt.filter (fun p => p.1 ≠ (telRate k).1) })).formRecord k
    else s)

/-- TELEMETRY_AGE_DROP (R366): records not written within TEL_AGE_MAX of being formed. -/
def State.dropOld (s : State) : State :=
  let old := fun (t : Tel) => decide (t.formed + s.host.telSel.age * msTicks ≤ s.now)
  let gone := s.host.tel.filter old
  let s := s.updHost (fun h => { h with tel := h.tel.filter (fun t => !old t) })
  s.each gone (fun s t => s.dropTel t.cls)

def execTelemetryAgeDrop (dt : Nat) (s : State) : Out := .next (s.advance dt).dropOld

end Sys2Proof.Machine
end

