-- ==== Sys2Proof/Machine/Maint.lean ====
section
/-! DEFINITION. Maintenance activities (R36, R38, R98, R255 to R257, R300, R381, R382, R410 to R416): start,
abort, status, and the end of each. -/

namespace Sys2Proof.Machine

/-! ### Claims of a request (R410, R411) -/

/-- Loop `n` and every loop below it in a cascade. -/
def State.loopChain (s : State) : Nat → Nat → List Nat
  | 0, n => [n]
  | k + 1, n => match s.sink n with
    | .cascade m => n :: s.loopChain k m
    | _ => [n]

/-- A loop measures an analog input with AI_ZERO_EN at 1, or the ARTIC_AI input (R411). -/
def State.sensed (s : State) (n : Nat) : Bool :=
  match decodeMSrc (s.cfgI .mSrc n) with
  | .ai i => s.cfgB .aiZeroEn i || s.cfgN .articAi = i
  | _ => false

/-- The activity a MAINT_START asks for. -/
def State.request (s : State) (h : Hdr) (result : DWord) (code loop : Nat) : Activity :=
  let ls := if code = 3 then s.loopChain 5 loop else []
  { code := code, tag := h.tag, idx := (s.ring 0).mod - 1, loop := loop, start := s.now, result := result,
    ready := !(code = 1 || code = 3), loops := ls, sense := ls.any s.sensed }

/-- Its claim as a set. -/
def State.claimOf (s : State) (a : Activity) : List Res :=
  match a.code with
  | 1 | 2 => outputsRes
  | 3 => a.loops.map Res.loop ++ s.sinkRes (s.sink (a.loops.getLast?.getD a.loop)) ++ (if a.sense then [.sense] else [])
  | 5 => [.sense]
  | 6 => [.nav]
  | _ => [.store]

/-- The device states that allow an activity (R36). -/
def DevState.admitsAct (d : DevState) (code : Nat) : Bool :=
  if code = 4 then d.servesRings
  else if code = 6 then d == .safe || d == .standby || d == .parked
  else d == .standby || d == .parked

/-! ### MAINT_START -/

/-- MAINT_START: a parameter block is read first, where the activity has one.  DESIGN CHOICE (log 149): the Sextant self-test
starts and ends with ANTENNAS none too. -/
def cmdMaintStart (h : Hdr) (result : DWord) (code loop : Nat) (s : State) : Verdict :=
  if code < 1 ∨ 6 < code then .done .noResource 0 s
  else if !s.dev.st.admitsAct code then .done .wrongState 0 s
  else
    let a := s.request h result code loop
    checks s (code ≠ 3 || s.loopOn loop) (code ≠ 1 || s.cfg.inForce != .straps) (s.holderOf (s.claimOf a)) none
      (.wait (!a.ready) [] { s with acts := s.acts ++ [a] })

def execMaintStart (dt : Nat) (h : Hdr) (param : Ref) (result : DWord) (activity : Byte) (loop : Nat) (s : State) : Out :=
  .next (s.command dt 0x14 (.maintStart dt h param result activity loop) h
    (cmdMaintStart h result activity.toNat loop))

/-- Change one activity. -/
def State.updAct (s : State) (a : Activity) (f : Activity → Activity) : State :=
  { s with acts := s.acts.map (fun x => if x == a then f x else x) }

/-- The RESULT of a maintenance activity's completion (R382). -/
def maintRes (reason : Nat) (ws : List Word) : BitVec 128 := resultOf [(128, 8, reason), (136, 32, 4 * ws.length)]

/-- End an activity: its result block is written and its command completes. -/
def State.maintEnd (s : State) (a : Activity) (st : Status) (reason : Nat) (ws : List Word) : State :=
  let s := s.endActivity a
  let s := if ws.isEmpty || !s.dmaOk then s else s.emit (.bytes a.result (ws.map (fun w => leBytes 4 w.toNat)).flatten)
  match s.maintCmd a with
  | some w => s.finish w st (maintRes reason ws)
  | none => s

/-- The words of a parameter block, a word past its end reading 0. -/
def paramWords (k : Nat) (bs : List Byte) : List Nat := (List.range k).map (fun i => leAt bs (4 * i) 4)

/-- The machine moves too fast for a valve sweep. -/
def State.sweepMoves (s : State) : Bool :=
  match s.nav.outs with
  | o :: _ => o.speedValid && decide (200 < o.speed.natAbs)
  | [] => false

/-- A running sweep ends with REASON 1 while the machine moves too fast. -/
def State.sweepHalts (s : State) : State :=
  match s.acts.find? (fun a => a.code = 1 && a.ready) with
  | some a => if s.sweepMoves then s.maintEnd a .timeout 1 [] else s
  | none => s

/-- The parameters of a valve sweep (R382, R414): each group's first channel named is actuated first. -/
def State.sweepParams (s : State) (a : Activity) (bs : List Byte) : State :=
  let ws := paramWords 4 bs
  let mask := ws.getD 0 0 + 2 ^ 32 * ws.getD 1 0 + 2 ^ 64 * ws.getD 2 0
  let chs := bitsOf (BitVec.ofNat 96 mask)
  let n := max 8 (min 256 (ws.getD 3 0))
  if !chs.all s.inUse then s.maintEnd a .noResource 0 []
  else if chs.isEmpty then s.maintEnd a .ok 0 []
  else
    let s := s.updAct a (fun x =>
      { x with ready := true, clamped := n != ws.getD 3 0, params := [(n : Int)],
               swept := chs.map (fun c => ({ ch := c, left := n } : Swept)) })
    (s.each (List.range s.nGrp) (fun s g => s.sweepNext g s.now)).sweepHalts

/-- The parameters of a relay auto-tune (R255, R382), N_CYC 4 where the block ends before it; its inner loops are closed under R247. -/
def State.tuneParams (s : State) (a : Activity) (bs : List Byte) : State :=
  let ws := paramWords 9 bs
  let cyc := if bs.length < 28 then 4 else ws.getD 6 0
  let n := max 2 (min 16 cyc)
  let t := max 1 (min 600 (ws.getD 7 0))
  let r := min 2 (ws.getD 8 0)
  let s := s.updAct a (fun x =>
    { x with ready := true, clamped := n != cyc || t != ws.getD 7 0 || r != ws.getD 8 0,
             params := (ws.take 6).map (sgn 32) ++ [(n : Int), (t : Int), (r : Int)] })
  s.each (a.loops.drop 1) (fun s k =>
    if (s.loop k).st == .opened then s.updLoop k (fun l => { l with closing := true }) else s)

/-- The parameter block has been read, or its DMA failed (R357). -/
def State.maintParams (s : State) (w : Waiting) (data : Option (List Byte)) : State :=
  match s.acts.find? (fun a => a.idx = w.idx && !a.ready) with
  | none => s
  | some a =>
    match data with
    | none => (s.endActivity a).finishNone w .timeout (maintRes 5 [])
    | some bs =>
      let s := s.updWaiting w (fun x => { x with dma := false })
      if a.code = 1 then s.sweepParams a bs else s.tuneParams a bs

/-! ### MAINT_ABORT and MAINT_STATUS -/

/-- MAINT_ABORT: an activity of MAINT_START, or a staging, ends with REASON 1; what cannot be withdrawn
completes STARTED. -/
def cmdMaintAbort (target : BitVec 16) (s : State) : Verdict :=
  match s.acts.find? (fun a => a.tag = target) with
  | none => .done .noResource 0 s
  | some a =>
    if a.code ≤ 6 then .done .ok 0 (s.maintEnd a .timeout 1 [])
    else if a.code = 9 then
      match s.waitingFor 0x10 with
      | some w =>
        let s := if w.dma then s else s.updCfgSlot s.cfg.roles.staged (fun _ => {})
        .done .ok 0 (s.stageEnd w .timeout (resultOf [(128, 8, 1)]))
      | none => .done .ok 0 { s with acts := s.acts.filter (fun a => a.code ≠ 9) }
    else .done .started 0 s

def execMaintAbort (dt : Nat) (h : Hdr) (target : BitVec 16) (s : State) : Out :=
  .next (s.command dt 0x15 (.maintAbort dt h target) h (cmdMaintAbort target))

/-- The item of one running activity, with its progress. -/
def State.actItem (s : State) (a : Activity) (progress : Nat) : Item :=
  let all := a.code = 7 || a.code = 8
  let out := all || a.code = 1 || a.code = 2
  (1, [wn (pack [(0, 16, a.tag.toNat), (16, 8, a.code)]),
    wn (pack [(0, 1, b2n out), (1, 1, b2n (s.claims a .sense)), (2, 1, b2n (s.claims a .nav)), (3, 1, b2n (s.claims a .store))]),
    maskOf 32 (fun n => s.claims a (.loop n))] ++ dwords a.start ++ [wn progress])

/-- The items of the running activities; the spec gives no measure of progress. -/
def State.actItems (s : State) : List Activity → List Item × State
  | [] => ([], s)
  | a :: r =>
    let (n, s) := s.takeFree
    let (is, t) := s.actItems r
    (s.actItem a (Config.freeNat n % 1001) :: is, t)

/-- MAINT_STATUS. -/
def cmdMaintStatus (h : Hdr) (rep : Ref) (s : State) : Verdict :=
  let (is, s) := s.actItems s.acts
  report 0x16 h rep is s

def execMaintStatus (dt : Nat) (h : Hdr) (rep : Ref) (s : State) : Out :=
  .next (s.command dt 0x16 (.maintStatus dt h rep) h (cmdMaintStatus h rep))

/-! ### Valve sweep and wire check (R414, R415) -/

/-- Mean, and standard deviation of at least 20 us, in ticks. -/
def sweepStat (xs : List Nat) : Nat × Nat :=
  let n : Rat := (xs.length : Rat)
  let m : Rat := ((xs.map (fun (x : Nat) => (x : Rat))).sum) / n
  let v : Rat := ((xs.map (fun (x : Nat) => ((x : Rat) - m) * ((x : Rat) - m))).sum) / n
  ((roundRat m).toNat, max 5000 (roundRat (sqrtR v)).toNat)

/-- Half the actuations, or more, were DETECTED, and not every sample left out. -/
def sweptWell (acts det : Nat) (xs : List Nat) : Bool := decide (acts ≤ 2 * det) && !xs.isEmpty

/-- The result words of one delay. -/
def delayWords (acts det : Nat) (xs : List Nat) : List Word :=
  if sweptWell acts det xs then [wn (sweepStat xs).1, wn (sweepStat xs).2] else [0xFFFFFFFF, 0xFFFFFFFF]

/-- Store a swept channel's delays under its profile key and seed its filters. -/
def State.sweepStore (s : State) (acts : Nat) (o : Swept) : State :=
  if sweptWell acts o.detected o.opens && sweptWell acts o.closes.length o.closes then
    let key := s.profileKey o.ch
    let e : CalEntry := { ch := o.ch, key := key, dOn := some (sweepStat o.opens), dOff := some (sweepStat o.closes) }
    (s.updFlash (fun f =>
      { f with cal := f.cal.filter (fun x => !(x.ch = o.ch && x.key = key)) ++ [e] })).seedFilters o.ch
  else s

/-- A swept channel has no actuation to come, and both outcomes of its last are decided. -/
def State.sweptOut (s : State) (o : Swept) : Bool :=
  o.left = 0 && (s.planner.wheel ++ (s.group (grpOf o.ch)).handed).all (fun e => e.ch ≠ o.ch)
    && !(s.ctx o.ch).act && (s.ctx o.ch).offDone

/-- VALVE_SWEEP_COMPLETE. -/
def State.sweepDone (s : State) (cMeas : List Nat) : State :=
  match s.running 1 with
  | none => s
  | some a =>
    if s.sweepMoves then s.maintEnd a .timeout 1 []
    else if !a.swept.all s.sweptOut then s
    else
      let n := (a.params.headD 8).toNat
      let os := a.swept
      let s := s.each os (fun s o => s.sweepStore n o)
      let s := (s.each (List.range s.nQuad) (fun s q => s.chargeTest q (cMeas.getD q 0))).settle 14
      let ws := os.flatMap (fun o => wn o.ch :: (delayWords n o.detected o.opens ++ delayWords n o.closes.length o.closes))
      let qs := (List.range s.nQuad).flatMap (fun q => [wn q, wn (s.pwr.cMeas.getD q 0), wn (s.pwr.vLim.getD q 0)])
      s.maintEnd a (okOr a.clamped) 0 (ws ++ qs)

def execValveSweepComplete (dt : Nat) (cMeas : List Nat) (s : State) : Out :=
  .next ((s.advance dt).sweepDone cMeas)

/-- WIRE_CHECK_COMPLETE: 4 where a test could not run. -/
def State.wireDone (s : State) (valves : List Nat) (switches : List (Option OffObs)) : State :=
  match s.running 2 with
  | none => s
  | some a =>
    let vs := (List.range s.nCh).map (fun ch => if s.inUse ch && s.testable ch then min 3 (valves.getD ch 0) else 4)
    let ls := (List.range 16).map (fun n => s.lsCode n switches)
    let s := s.each (List.range s.nCh) (fun s ch => if vs.getD ch 4 < 4 then s.tested ch (vs.getD ch 4) else s)
    let s := s.each (List.range 16) (fun s n => if ls.getD n 4 < 4 then s.lsTested n (ls.getD n 4) else s)
    s.maintEnd a .ok 0 ((vs ++ ls).map wn)

def execWireCheckComplete (dt : Nat) (valves : List Nat) (switches : List (Option OffObs)) (s : State) : Out :=
  .next ((s.advance dt).wireDone valves switches)

/-! ### Relay auto-tune (R255 to R257) -/

/-- A tune whose relay has ended with a REASON ends at that sample (R256). -/
def State.tuneEnds (s : State) (n : Nat) : State :=
  match s.acts.find? (fun a => a.code = 3 && a.ready && a.loop = n), (s.loop n).relay with
  | some a, some r => if 2 ≤ r.ended then s.maintEnd a .timeout r.ended [] else s
  | _, _ => s

/-- LOOP_SAMPLE (R238 to R260). -/
def execLoopSample (dt loop : Nat) (s : State) : Out := .next (((s.advance dt).loopSample loop).tuneEnds loop)

/-- A real number as sQ16.16. -/
def toQ16 (x : Rat) : Word := w32 (satQ (roundRat (x * 65536)))

/-- KP, KI and KD of a gain rule (R257), for Ku and Pu in seconds. -/
def gains (rule : Nat) (ku pu : Rat) : Rat × Rat × Rat :=
  if rule = 0 then (ku * 45 / 100, ku * 54 / 100 / pu, 0)
  else if rule = 1 then (ku * 6 / 10, ku * 12 / 10 / pu, ku * pu * 75 / 1000)
  else (ku * 2 / 10, ku * 4 / 10 / pu, ku * pu * 2 / 30)

/-- Ku of R257 from d, a and HYST; no value is given where a² does not exceed HYST². -/
def kuOf (d a h : Rat) (free : Int) : Rat :=
  if a * a ≤ h * h then (free : Rat) else 4 * d / (piR * sqrtR (a * a - h * h))

/-- AUTO_TUNE_COMPLETE. -/
def State.tuneDone (s : State) : State :=
  match s.acts.find? (fun a => a.code = 3 && a.ready && ((s.loop a.loop).relay.map (·.ended)) == some 1) with
  | none => s
  | some a =>
    match (s.loop a.loop).relay with
    | none => s
    | some r =>
      let (f, s) := s.takeFree
      let k := (a.params.getD 6 4).toNat
      let (pt, am) := relayMeans k r.cycles
      let d : Rat := ((r.hi - r.lo : Int) : Rat) / 2
      let ku := kuOf (d / 65536) (am / 65536) ((a.params.getD 3 0 : Rat) / 65536) (Config.freeInt f)
      let (kp, ki, kd) := gains (a.params.getD 8 0).toNat ku (secs pt)
      s.maintEnd a (okOr a.clamped) 0
        [wn (roundRat (pt / 250)).toNat, toQ16 (am / 65536), toQ16 (d / 65536), toQ16 ku, toQ16 kp, toQ16 ki, toQ16 kd, wn k]

def execAutoTuneComplete (dt : Nat) (s : State) : Out := .next (s.advance dt).tuneDone

/-- AUTO_TUNE_TIMEOUT: no stability within the timeout. -/
def State.tuneTimeout (s : State) : State :=
  match s.acts.find? (fun a => a.code = 3 && a.ready
      && decide (a.start + (a.params.getD 7 0).toNat * 250000000 ≤ s.now)
      && ((s.loop a.loop).relay.map (·.ended)) != some 1) with
  | some a => s.maintEnd a .timeout 4 []
  | none => s

def execAutoTuneTimeout (dt : Nat) (s : State) : Out := .next (s.advance dt).tuneTimeout

/-! ### Scrub, sensor zero and self-test (R416, R300, R98) -/

/-- FLASH_SCRUB_COMPLETE: `bad` names the partition of each uncorrectable page. -/
def State.scrubDone (s : State) (pages corrected : Nat) (bad : List FlashPart) : State :=
  match s.running 4 with
  | none => s
  | some a => (s.each bad State.flashBad).maintEnd a .ok 0 [wn pages, wn corrected, wn bad.length]

def execFlashScrubComplete (dt pages corrected : Nat) (bad : List FlashPart) (s : State) : Out :=
  .next ((s.advance dt).scrubDone pages corrected bad)

/-- SENSOR_ZERO_COMPLETE: the means are taken before AI_ZERO and ARTIC_ZERO are subtracted. -/
def State.zeroDone (s : State) (means : List Int) (artic : Int) : State :=
  match s.running 5 with
  | none => s
  | some a =>
    if s.now < a.start + 250000000 then s
    else
      let z := fun (i : Nat) => if s.cfgB .aiZeroEn i then means.getD i 0 else 0
      let zs := (List.range 16).map z
      let s := s.updFlash (fun f =>
        { f with aiZero := f.aiZero.zipIdx.map (fun p => if s.cfgB .aiZeroEn p.2 then z p.2 else p.1), articZero := artic })
      s.maintEnd a .ok 0 (zs.map w32 ++ [w32 artic])

def execSensorZeroComplete (dt : Nat) (means : List Int) (artic : Int) (s : State) : Out :=
  .next ((s.advance dt).zeroDone means artic)

/-- The event that names a failing engine or channel (R98): R386 lists no code for it, so its code is free
(log 93), its SUBJECT the index. -/
def State.selfTestEvent (s : State) (i : Nat) : State :=
  let (n, s) := s.takeFree
  s.raise (Config.freeNat n) i [] (Config.freeBool n)

/-- SEXTANT_SELF_TEST_COMPLETE: failing engines and channels are withdrawn until the next BOOT, each named in
an event; what a failing engine searched or had detected waits for another.  A channel that was out of service for
its 50 ms has a slip (log 94). -/
def State.selfTestDone (s : State) (engines : BitVec 16) (chans : BitVec 128) : State :=
  match s.running 6 with
  | none => s
  | some a =>
    if s.now < a.start + 200000000 then s
    else
      let lost := fun (c : TrkCh) => s.nav.sx.engines.zipIdx.any (fun p => engines.getLsbD p.2 && p.1.det.any (fun d => d.ch = c.ch)) && !c.locked
      let s := s.freeTrk (fun c => chans.getLsbD c.ch)
      let s := s.updSextant (fun x =>
        { x with chans := x.chans.map (fun c => { (if lost c then s.stopTrk c else c) with slip := true }),
                 badChans := x.badChans ++ (bitsOf chans).filter (fun c => !x.badChans.contains c),
                 engines := x.engines.zipIdx.map (fun p => if engines.getLsbD p.2 then { p.1 with bad := true, det := none, search := none } else p.1) })
      let s := s.each (bitsOf engines ++ bitsOf chans) State.selfTestEvent
      s.maintEnd a .ok 0 (wn engines.toNat :: (List.range 4).map (fun k => wn (chans.toNat >>> (32 * k))))

def execSextantSelfTestComplete (dt : Nat) (engines : BitVec 16) (chans : BitVec 128) (s : State) : Out :=
  .next ((s.advance dt).selfTestDone engines chans)

end Sys2Proof.Machine
end

