-- ==== Sys2Proof/Machine/Cmds.lean ====
section
/-! DEFINITION. The system and state commands (R32 to R40, R50 to R53, R365, R374, R381) and the diagnostic
commands (R380, R381, R388). -/

namespace Sys2Proof.Machine

/-! ### Unknown opcodes and NOP -/

/-- An opcode that some device state admits: an assigned one (R378). -/
def assigned (op : Nat) : Bool :=
  [DevState.safe, .standby, .parked, .working, .manual, .fault].any (legalIn op)

/-- Check 1 of R374: NO_RESOURCE with UNKNOWN_OPCODE, before the device state is looked at. -/
def State.takeUnknown (s : State) (op : Byte) (h : Hdr) : State :=
  let idx := (s.ring 0).mod
  let s := (s.updRing 0 (fun r => { r with mod := r.mod + 1 })).updHost (fun h => { h with idxChanged := true })
  s.complete op h idx .noResource (resultOf [(128, 1, 1)])

/-- UNKNOWN_OPCODE. -/
def execUnknownOpcode (dt : Nat) (h : Hdr) (op : Byte) (s : State) : Out :=
  let s := (s.advance dt).graceFirst
  .next (if !assigned op.toNat && s.canTake h.fence then s.takeUnknown op h else s)

/-- NOP. -/
def execNop (dt : Nat) (h : Hdr) (s : State) : Out :=
  .next (s.command dt 0x00 (.nop dt h) h (fun s => .done .ok 0 s))

/-! ### BIND and UNBIND (R32, R51, R52, R365, R413) -/

/-- RESULT of BIND. -/
def State.bindRes (s : State) (resumed : Bool) : BitVec 128 :=
  resultOf [(128, 8, s.dev.st.code), (136, 1, b2n resumed), (144, 32, s.dev.bootCount.toNat)]

/-- The event that ORPHAN owes the next host, ahead of every other (R51). -/
def State.tellOrphan (s : State) : State :=
  match s.dev.orphan with
  | none => s
  | some (start, mt) =>
    let e : Evt := { code := 0x0003, mt := BitVec.ofNat 64 mt, data := resultOf [(128, 64, start)], urgent := true }
    (s.updHost (fun h => { h with events := e :: h.events })).updDev (fun d => { d with orphan := none })

/-- A host is bound: the heartbeat timer runs from here, and the EVT ring is live. -/
def State.bindHost (s : State) (resume : Bool) : State :=
  let s := s.updDev (fun d => { d with bound := true, grace := none })
  let s := s.updHost (fun h => { h with lastHb := s.now, away := false, telSel := if resume then h.telSel else {} })
  (State.drainEvts 257 s.tellOrphan).bindTiles

/-- The state that a BIND leads to: what RESUME keeps during a grace, STANDBY otherwise; FAULT stays. -/
def cmdBind (resume : Bool) (boot : Word) (s : State) : Verdict :=
  checks s true true s.firingTag none
    (let keeps := s.dev.grace.isSome && resume && boot == s.dev.bootCount
     let s := s.bindHost resume
     let s := if keeps || s.dev.st == .fault then s else s.enter .standby causeCommand
     .done .ok (s.bindRes keeps) s)

def execBind (dt : Nat) (h : Hdr) (resume : Bool) (bootCount : Word) (s : State) : Out :=
  .next (s.command dt 0x01 (.bind dt h resume bootCount) h (cmdBind resume bootCount))

/-- The earliest activity whose resource R36 does not allow in SAFE (R413). -/
def State.unsafeHolder (s : State) : Option (BitVec 16) :=
  (s.acts.find? (fun a => [1, 2, 3, 5, 7, 8].contains a.code)).map (·.tag)

/-- UNBIND. -/
def cmdUnbind (s : State) : Verdict :=
  checks s true true s.unsafeHolder none
    (let s := (s.updDev (fun d => { d with bound := false })).updHost (fun h => { h with telSel := {} })
     .done .ok 0 (if s.dev.st == .standby then s.enter .safe causeCommand else s))

def execUnbind (dt : Nat) (h : Hdr) (s : State) : Out := .next (s.command dt 0x02 (.unbind dt h) h cmdUnbind)

/-! ### The state commands (R32 to R37, R178) -/

/-- RESULT of ARM to MANUAL_EXIT: the state after, and the run request. -/
def State.stateRes (s : State) : BitVec 128 := resultOf [(128, 8, s.dev.st.code), (136, 1, b2n s.dev.runReq)]

def State.setRun (s : State) (on : Bool) : State := s.updDev (fun d => { d with runReq := on })

/-- Complete OK with the state after. -/
def State.stateDone (s : State) : Verdict := .done .ok s.stateRes s

/-- ARM: a fired image and a field origin are needed. -/
def cmdArm (s : State) : Verdict :=
  checks s true (s.cfg.inForce != .straps) s.firingTag (if s.nav.origin.isNone then some .wrongState else none)
    ((s.setRun false).enter .parked causeCommand).loopsArm.stateDone

def execArm (dt : Nat) (h : Hdr) (s : State) : Out := .next (s.command dt 0x03 (.arm dt h) h cmdArm)

/-- DISARM. -/
def cmdDisarm (s : State) : Verdict := checks s true true s.firingTag none (s.enter .standby causeCommand).stateDone

def execDisarm (dt : Nat) (h : Hdr) (s : State) : Out := .next (s.command dt 0x04 (.disarm dt h) h cmdDisarm)

/-- RUN. -/
def cmdRun (s : State) : Verdict := checks s true true s.firingTag none (s.setRun true).stateDone

def execRun (dt : Nat) (h : Hdr) (s : State) : Out := .next (s.command dt 0x05 (.run dt h) h cmdRun)

/-- HOLD. -/
def cmdHold (s : State) : Verdict := checks s true true s.firingTag none (s.setRun false).stateDone

def execHold (dt : Nat) (h : Hdr) (s : State) : Out := .next (s.command dt 0x06 (.hold dt h) h cmdHold)

/-- MANUAL_ENTER: MANUAL needs OUTPUTS, and every section starts OFF. -/
def cmdManualEnter (s : State) : Verdict :=
  checks s true true s.outputsHolder none
    ((s.enter .manual causeCommand).updPlanner (fun p => { p with manual := List.replicate 96 {} })).stateDone

def execManualEnter (dt : Nat) (h : Hdr) (s : State) : Out :=
  .next (s.command dt 0x07 (.manualEnter dt h) h cmdManualEnter)

/-- MANUAL_EXIT. -/
def cmdManualExit (s : State) : Verdict :=
  checks s true true s.firingTag none ((s.setRun false).enter .parked causeCommand).stateDone

def execManualExit (dt : Nat) (h : Hdr) (s : State) : Out :=
  .next (s.command dt 0x08 (.manualExit dt h) h cmdManualExit)

/-- CLEAR_FAULT (R40, R453). -/
def cmdClearFault (s : State) : Verdict :=
  checks s true true s.firingTag (if s.dev.bound then none else some .wrongState) s.clearFault

def execClearFault (dt : Nat) (h : Hdr) (s : State) : Out :=
  .next (s.command dt 0x09 (.clearFault dt h) h cmdClearFault)

/-- HEARTBEAT (R50). -/
def cmdHeartbeat (s : State) : Verdict := .done .ok 0 (s.updHost (fun h => { h with lastHb := s.now }))

def execHeartbeat (dt : Nat) (h : Hdr) (s : State) : Out :=
  .next (s.command dt 0x0A (.heartbeat dt h) h cmdHeartbeat)

/-- MODULE_RESET: the reset comes 100 us after the completion (MODULE_RESET_ASSERT). -/
def cmdModuleReset (s : State) : Verdict := .done .ok 0 (s.updDev (fun d => { d with resetDue := some (s.now + 25000) }))

def execModuleReset (dt : Nat) (h : Hdr) (s : State) : Out :=
  .next (s.command dt 0x0B (.moduleReset dt h) h cmdModuleReset)

/-- STATE_QUERY. -/
def State.queryRes (s : State) : BitVec 128 :=
  resultOf [(128, 8, s.dev.st.code), (136, 8, s.dev.cause), (144, 32, s.dev.bootCount.toNat), (176, 16, s.dev.summary.toNat),
    (192, 1, b2n s.dev.grace.isSome), (193, 1, b2n (s.cfg.inForce == .straps))]

def execStateQuery (dt : Nat) (h : Hdr) (s : State) : Out :=
  .next (s.command dt 0x0C (.stateQuery dt h) h (fun s => .done .ok s.queryRes s))

/-! ### TEL_SELECT (R365) -/

/-- A value clamped to 1 up to `hi`. -/
def clamp1 (hi v : Nat) : Nat := max 1 (min hi v)

/-- TEL_SELECT. -/
def cmdTelSelect (on : BitVec 7) (decs : List Nat) (age : Nat) (s : State) : Verdict :=
  let ds := (List.range 7).map (fun i => decs.getD i 0)
  let ds' := ds.map (clamp1 1000)
  let age' := clamp1 100 age
  .done (okOr (ds' != ds || age' != age)) 0
    (s.updHost (fun h => { h with telSel := { on := on, decs := ds', age := age' } }))

def execTelSelect (dt : Nat) (h : Hdr) (on : BitVec 7) (decs : List Nat) (ageMs : Nat) (s : State) : Out :=
  .next (s.command dt 0x0D (.telSelect dt h on decs ageMs) h (cmdTelSelect on decs ageMs))

end Sys2Proof.Machine
end

