-- ==== Sys2Proof/Machine/Diag.lean ====
section
/-! DEFINITION. The diagnostic commands (R380, R381, R388, R395): fault records, counters, Saggar's status,
and the erase of fault records. -/

namespace Sys2Proof.Machine

/-! ### Fault records -/

/-- The 60 bytes of a fault record before its CRC (R388). -/
def FaultRec.bits (r : FaultRec) : Nat :=
  pack [(0, 32, r.number.toNat), (32, 32, r.boot.toNat), (64, 64, r.mt.toNat), (128, 8, r.state), (136, 8, r.source),
    (144, 16, r.code.toNat), (160, 16, r.subject.toNat), (256, 128, r.data.toNat)]

/-- The 64 bytes of a fault record. -/
def FaultRec.bytes (r : FaultRec) : List Byte :=
  let bs := leBytes 60 r.bits
  bs ++ leBytes 4 (crc32 bs).toNat

/-- The records from a number on, by number. -/
def State.recordsFrom (s : State) (first : Word) : List FaultRec :=
  (s.flash.records.filter (fun r => decide (first.toNat ≤ r.number.toNat))).mergeSort
    (fun a b => decide (a.number.toNat ≤ b.number.toNat))

/-- DIAG_RECORDS: whole records, as many as BUF holds. -/
def cmdDiagRecords (buf : Ref) (first : Word) (s : State) : Verdict :=
  let rs := (s.recordsFrom first).take (buf.len.toNat / 64)
  let res := resultOf [(128, 32, rs.length), (160, 32, (s.flash.nextRec - 1).toNat)]
  .done .ok res (if rs.isEmpty then s else s.emit (.bytes buf.addr (rs.map FaultRec.bytes).flatten))

def execDiagRecords (dt : Nat) (h : Hdr) (buf : Ref) (first : Word) (s : State) : Out :=
  .next (s.command dt 0xB0 (.diagRecords dt h buf first) h (cmdDiagRecords buf first))

/-! ### Counters and Saggar -/

/-- DIAG_COUNTERS. -/
def execDiagCounters (dt : Nat) (h : Hdr) (rep : Ref) (s : State) : Out :=
  .next (s.command dt 0xB1 (.diagCounters dt h rep) h (fun s => report 0xB1 h rep [(1, s.cnt)] s))

/-- The item of one lane. -/
def laneItem (n : Nat) (l : Lane) : Item := (1, [wn n, wn l.oscHz, l.mism])

/-- The item of one class: suspended before detected. -/
def State.classItem (s : State) (k : Nat) : Item :=
  (2, [wn k, wn (if s.suspended k then 2 else b2n (s.classOn k)), s.sag.counts.getD (k - 1) 0]
    ++ dwords (s.sag.lastOf.getD (k - 1) 0))

/-- SAGGAR_STATUS. -/
def execSaggarStatus (dt : Nat) (h : Hdr) (rep : Ref) (s : State) : Out :=
  .next (s.command dt 0xB2 (.saggarStatus dt h rep) h (fun s =>
    report 0xB2 h rep ([laneItem 0 s.sag.a, laneItem 1 s.sag.b] ++ (List.range 14).map (fun i => s.classItem (i + 1))) s))

/-! ### DIAG_ERASE -/

/-- The flash sector that holds a record: records lie in the partition by number. -/
def recSector (n : Word) : Nat := (n.toNat - 1) % Config.recordCap / Config.recordsPerSector

/-- The records whose sector holds none above `last`. -/
def State.erasable (s : State) (last : Word) : List FaultRec :=
  let rs := s.flash.records
  rs.filter (fun r => rs.all (fun x =>
    recSector x.number ≠ recSector r.number || decide (x.number.toNat ≤ last.toNat)))

/-- DIAG_ERASE claims STORE until the erase has been read back. -/
def cmdDiagErase (h : Hdr) (s : State) : Verdict :=
  checks s true true (s.holderOf [.store]) none
    (.wait false [] { s with acts := s.acts ++ [({ code := 10, tag := h.tag, start := s.now } : Activity)] })

def execDiagErase (dt : Nat) (h : Hdr) (last : Word) (s : State) : Out :=
  .next (s.command dt 0xB3 (.diagErase dt h last) h (cmdDiagErase h))

/-- The erase has ended: read back good, or failed, which leaves the records' survival open. -/
def State.eraseDone (s : State) (ok : Bool) : State :=
  if !s.acts.any (fun a => a.code = 10) then s
  else
    let (n, s) := s.takeFree
    let s := { s with acts := s.acts.filter (fun a => a.code ≠ 10) }
    match s.waitingFor 0xB3 with
    | some w =>
      match w.cmd with
      | .diagErase _ _ last =>
        let gone := s.erasable last
        let erase := s.updFlash (fun f => { f with records := f.records.filter (fun r => !gone.contains r) })
        if ok then erase.finish w .ok (resultOf [(128, 32, gone.length)])
        else (if Config.freeBool n then erase else s).finish w .timeout 0
      | _ => s
    | none => s

/-- DIAG_ERASE_COMPLETE. -/
def execDiagEraseComplete (dt : Nat) (ok : Bool) (s : State) : Out := .next ((s.advance dt).eraseDone ok)

end Sys2Proof.Machine
end

