-- ==== Sys2Proof/Machine/Planner.lean ====
section
/-! DEFINITION. The planner cycle (R34, R153 to R178, R236): its inputs in the order of R154, the marking of
COVER, position loss, the placement of edges, and the planner commands. -/

namespace Sys2Proof.Machine

/-- Ticks between cycle starts, and from a start to its freeze point and to the end of its placement. -/
abbrev cycleTicks : Nat := 125000
abbrev freezeTicks : Nat := 104096
abbrev placeTicks : Nat := 100000
abbrev spanTicks : Nat := 2500000

/-- The latest fusion output available at this instant (R20, R21). -/
def State.fusionAt (s : State) : Option FusOut := s.nav.outs.find? (fun o => decide (o.epoch + 50000 ≤ s.now))

/-! ### Speed comparison (R34, R37, R54) -/

/-- The speed compared: 0 without a valid one. -/
def State.groundSpeed (s : State) : Nat :=
  match s.fusionAt with
  | some o => if o.speedValid then o.speed.natAbs else 0
  | none => 0

def State.speedCompare (s : State) : State :=
  let v := s.groundSpeed
  let ws := s.cfgN .workSpeed
  match s.dev.st with
  | .parked =>
    if s.dev.runReq && s.dev.grace.isNone && decide (ws ≤ v) && s.outputsHolder.isNone then s.enter .working causeSpeed else s
  | .working =>
    if !s.dev.runReq then s.enter .parked causeCommand
    else if v + s.cfgN .workHyst < ws then s.enter .parked causeSpeed
    else s
  | _ => s

/-! ### Inputs of a cycle start (R154) -/

/-- VALVES, PLANNER and MAPS of a fired image. -/
def State.takePlan (s : State) : State :=
  match s.cfg.newPlan with
  | some v => s.updCfg (fun c => { c with vals := v, newPlan := none })
  | none => s

/-- One waiting section, MANUAL or hold command takes effect. -/
def State.takeWaiting (s : State) (w : Waiting) : State :=
  match w.cmd with
  | .planSectionEnable _ _ mask en =>
    (s.updPlanner (fun p => { p with enabled := if en then p.enabled ||| mask else p.enabled &&& ~~~mask })).finish w .ok 0
  | .planManual _ _ mask on _ rate =>
    let d := w.aux.headD 0
    let x : Section := { on := on, duty := d, rate := rate.toNat }
    (s.updPlanner (fun p => { p with manual := p.manual.zipIdx.map (fun q => if mask.getLsbD q.2 then x else q.1) })).finish w
      (okOr (w.aux.getD 1 0 = 1)) (resultOf [(129, 7, d)])
  | .planHoldAck .. =>
    if s.planner.loss = 2 then (s.updPlanner (fun p => { p with loss := 3, ackWaits := false })).finish w .ok 0
    else (s.updPlanner (fun p => { p with ackWaits := false })).finish w .wrongState 0
  | _ => s

/-- An opening's report: the deferral enters DEFER_EST, and a detected opening begins a span (R157, R171). -/
def State.openReport (s : State) (r : Report) : State :=
  let s := s.updPChan r.ch (fun p => { p with defer := p.defer + (((r.deferOff + r.deferRail : Nat) : Rat) - p.defer) / 8 })
  if !s.planned r.ch then s
  else if r.openOut == some .detected then
    let stop := match r.closeOut, r.offMt with
      | some .detected, _ => some r.closeMt
      | some _, some m => some ((m : Rat) + r.dOffAt).ceil.toNat
      | _, _ => none
    s.updPChan r.ch (fun p => { p with spans := p.spans ++ [{ start := r.openMt, stop := stop, pos := r.openMt }] })
  else if s.cfgN .pwmHz (quadOf r.ch) ≠ 0 then s.count 14
  else s

/-- The end of a confirmed-open span. -/
def closeSpan (stop : Nat) : List OpenSpan → List OpenSpan
  | [] => []
  | x :: r => if x.stop.isNone && decide (x.start ≤ stop) then { x with stop := some stop } :: r else x :: closeSpan stop r

/-- A closing's report: the boost phase enters TB_EST, and the span ends (R168, R171). -/
def State.closeReport (s : State) (r : Report) : State :=
  let s := match r.phaseLen with
    | some d => s.updPChan r.ch (fun p => { p with phases := (d :: p.phases).take 8 })
    | none => s
  let stop := if r.closeOut == some .detected then r.closeMt else ((r.offMt.getD r.onMt : Rat) + r.dOffAt).ceil.toNat
  s.updPChan r.ch (fun p => { p with spans := closeSpan stop p.spans })

/-- The reports of the drive islands. -/
def State.takeReports (s : State) : State :=
  let rs := s.valves.reports
  let s := { s with valves := { s.valves with reports := [] } }
  let s := s.each rs (fun s r => if r.cancelled then s else if r.closing then s.closeReport r else s.openReport r)
  let live := fun (ch : Nat) =>
    let c := s.chan ch
    if c.fallback then none else some ({ dOn := c.dOn, sOn := c.sOn, dOff := c.dOff, sOff := c.sOff } : Delays)
  s.updPlanner (fun p => { p with ch := p.ch.zipIdx.map (fun q => { q.1 with view := live q.2 }) })

/-- Count a settled ON's SHIFT and RATE_LOW for its channel (R167, R168). -/
def PChan.settle (p : PChan) (e : Edge) : PChan :=
  if e.on then
    { p with lastOn := some (e.due, e.shift), lastGrid := e.kind == 1 || e.kind == 3,
             shifts := if e.shift = 0 then p.shifts else p.shifts + 1, shiftSum := p.shiftSum + e.shift }
  else { p with lastOff := some e.due, rateLow := if e.flags.getLsbD 3 then p.rateLow + 1 else p.rateLow }

/-- What the last cycle decided is frozen: its edges are the last of their channels. -/
def State.settleDecided (s : State) (f : Nat) : State :=
  let es := s.planner.decided
  let s := s.each es (fun s e => s.updPChan e.ch (·.settle e))
  s.updPlanner (fun p =>
    { p with decided := [],
             frozen := (p.frozen ++ (es.filter (fun e => e.on && e.kind = 0)).map (fun e =>
               (((e.due : Int) - e.shift).toNat, e.due, e.ch))).filter (fun x => f ≤ x.2.1 + spanTicks) })

/-! ### Marking (R171, R172) -/

/-- Two consecutive outputs sweep cells for marking. -/
def State.marksAt (s : State) (b : FusOut) : Bool :=
  decide (s.cfgN .markQMin + 1 ≤ b.quality) && !b.posStep && !b.reverse

/-- Mark the movement between outputs `a` and `b` of one channel, as far as landing instants `lo` to `hi`. -/
def State.markMove (s : State) (ch : Nat) (a b : FusOut) (lo hi : Nat) : State :=
  let x := max lo a.epoch
  let y := min hi b.epoch
  if y ≤ x then s
  else if b.posStep then s.count 15
  else if !s.marksAt b then s
  else
    let g := fun (o : FusOut) => o.motion.swath (s.cfgI .chX ch) (s.cfgI .chY ch) (s.cfgI .trDist ch)
    let d : Rat := ((b.epoch - a.epoch : Nat) : Rat)
    let p := (g a).between (g b) (((x - a.epoch : Nat) : Rat) / d)
    let q := (g a).between (g b) (((y - a.epoch : Nat) : Rat) / d)
    s.each (sweptCells p q (s.cfgN .chW ch) s.cellMm) (fun s c => s.markCell c.1 c.2 s.now)

/-- Up to when a span is known to be open: its end, and while that is not known the OFF release, or now. -/
def State.openUntil (s : State) (ch : Nat) (x : OpenSpan) : Nat :=
  match x.stop, (s.ctx ch).offMt with
  | some m, _ => m
  | none, some m => if x.start ≤ m then m else s.now
  | none, none => s.now

/-- Mark one span over the outputs available, oldest first. -/
def State.markSpan (s : State) (ch : Nat) (os : List FusOut) (x : OpenSpan) : State :=
  let tr := s.trTicks ch
  let hi := s.openUntil ch x + tr
  s.each (os.zip (os.drop 1)) (fun s p => s.markMove ch p.1 p.2 (x.pos + tr) hi)

/-- Mark every channel's confirmed-open spans up to the last output available. -/
def State.markAll (s : State) : State :=
  let os := (s.nav.outs.filter (fun o => decide (o.epoch + 50000 ≤ s.now))).reverse
  let last := (os.getLast?.map (·.epoch)).getD 0
  s.each (List.range s.nCh) (fun s ch =>
    let xs := (s.pchan ch).spans
    let s := s.each xs (fun s x => s.markSpan ch os x)
    let tr := s.trTicks ch
    s.updPChan ch (fun p =>
      { p with spans := (xs.map (fun x => { x with pos := max x.pos (min (last - tr) (s.openUntil ch x)) })).filter
                 (fun x => match x.stop with | some m => decide (x.pos < m) | none => true) }))

/-! ### Position loss (R173 to R175) -/

/-- QUALITY lies below Q_MIN, or at Q0. -/
def State.qualityBad (s : State) (o : FusOut) : Bool := decide (o.quality < s.cfgN .qMin + 1)

def State.positionLoss (s : State) (o : FusOut) : State :=
  if s.dev.st != .working then s.updPlanner (fun p => { p with loss := 0 })
  else if s.qualityBad o then
    if s.planner.loss = 0 then
      let hold := s.cfgB .posloss
      (s.updPlanner (fun p => { p with loss := if hold then 2 else 1, lossMt := s.now })).raise 0x2004 subjModule
        [(128, 8, o.quality), (136, 1, b2n hold)] true
    else s
  else if s.planner.loss ≠ 0 then
    (s.updPlanner (fun p => { p with loss := 0 })).raise 0x2005 subjModule [(128, 8, o.quality)] false
  else s

/-! ### One channel's placement -/

/-- The state the frozen edges leave a channel in at the freeze point. -/
def State.leftOn (s : State) (ch f : Nat) : Bool :=
  let es := (s.planner.wheel ++ (s.group (grpOf ch)).handed).filter (fun e => e.ch = ch && decide (e.due < f))
  match es.foldl (fun (o : Option Edge) e => match o with
      | none => some e
      | some a => if a.due < e.due || (a.due = e.due && !e.on) then some e else o) none with
  | some e => e.on
  | none => !(s.ctx ch).offDone

/-- A pulsed channel's desired state at the freeze point, from the intervals last placed. -/
def State.wantedAt (s : State) (ch f : Nat) : Bool :=
  (s.pchan ch).ivs.any (fun i => decide (i.1 < f) && (match i.2 with | some m => decide (f ≤ m) | none => true))

/-- What a channel's placement gives. -/
structure Placed where
  pulses : List Pulse := []
  ivs : List DIv := []
  look : List Want := []
  flow : Rat := 0
  margin : Rat := 0
  /-- rate and duty for an edge due at the freeze point, where they are drawn -/
  rate : Option Rat := none
  duty : Option Rat := none
  deriving DecidableEq, Repr, Inhabited

/-- An OFF due at the freeze point for a channel left open. -/
def State.shutAt (s : State) (ch f : Nat) : Placed :=
  { pulses := if s.leftOn ch f then [{ ch := ch, off := some f }] else [] }

/-- The width of R167 for a duty. -/
def State.pulseWidth (s : State) (ch T : Nat) (d : Rat) : Rat :=
  let x := s.delays ch
  d * (T : Rat) - x.dOff + x.dOn + (s.pchan ch).defer

/-- How pulses are drawn from a duty at each release; at 1 and above the channel is held ON. -/
def State.drawn (s : State) (ch T : Nat) (duty : Nat → Rat × BitVec 5) : Draw :=
  { width := fun g => let (d, fl) := duty g; (if 1 ≤ d then none else some (s.pulseWidth ch T d), fl)
    dOff := (s.delays ch).dOff, minOff := s.minOff ch, shorten := true }

/-- What the frozen edges leave a pulsed channel in. -/
def State.frozenAt (s : State) (ch f : Nat) : Frozen :=
  let p := s.pchan ch
  { phys := s.leftOn ch f, off := p.lastOff,
    on := p.lastOn.map (fun x => (x.1, ((x.1 : Int) - x.2).toNat, p.lastGrid)) }

/-- Pulses or plain edges of intervals; a boundary OFF that R155 places late is LATE. -/
def State.pulsesOf (s : State) (ch f : Nat) (duty : Nat → Rat × BitVec 5) (ivs : List DIv) : List Pulse :=
  let stop := f + spanTicks
  match s.pwmT ch with
  | none => ivs.flatMap (plainIv ch stop)
  | some T => ivs.flatMap (fun i => (pulsedIv ch T f stop (s.drawn ch T duty) (s.frozenAt ch f) i).map (fun p =>
      if p.off.isSome && p.off == i.off then { p with lateOff := i.lateOff } else p))

/-- The OFF that closes an interval of the channel (R163). -/
def State.closeOf (s : State) (ch f : Nat) (duty : Nat → Rat × BitVec 5) (i : DIv) : Option Nat :=
  match s.pwmT ch with
  | none => i.off
  | some T => pulsedClose ch T f (f + spanTicks) (s.drawn ch T duty) (s.frozenAt ch f) i

/-- A channel under the map (R160 to R168); `live` is false in PARKED, where nothing is placed. -/
def State.planMap (s : State) (o : FusOut) (ch f : Nat) (live : Bool) : Placed :=
  let st := if (s.pwmT ch).isSome then s.wantedAt ch f else s.leftOn ch f
  let w := s.want o ch (s.delays ch).sOn ((f : Rat) + s.leadOn ch)
  let duty := fun (g : Nat) =>
    let y := s.want o ch (s.delays ch).sOn ((g : Rat) + s.leadOn ch)
    s.dutyFor ch y.rate y.v
  let x := s.lookAhead o ch f (live && st) (s.closeOf ch f duty)
  { pulses := if live then s.pulsesOf ch f duty x.ivs else [],
    ivs := if live then x.ivs else [],
    look := w :: x.smp.flatMap (fun m => [m.a, m.b]),
    flow := if w.on then s.qReq ch w.rate w.v else 0,
    margin := w.margin, rate := some w.rate, duty := if w.on then some (s.dutyFor ch w.rate w.v).1 else none }

/-- The interval of a channel that is to be ON, or OFF, from the freeze point on. -/
def fromNow (f : Nat) (was on : Bool) : List DIv :=
  if on then (if was then [{}] else [{ on := some f, ideal := (f : Int) }]) else (if was then [{ off := some f }] else [])

/-- Speed of a channel at the landing instant of an ON released at `g`. -/
def State.speedAt (s : State) (o : FusOut) (ch g : Nat) : Rat :=
  (o.motionAt ((g : Rat) + s.leadOn ch)).chSpeed (s.cfgI .chX ch) (s.cfgI .chY ch)

/-- A channel of a MANUAL section (R178): its ONs are no boundary ONs, and no chain moves them. -/
def State.planManual (s : State) (o : FusOut) (ch f : Nat) : Placed :=
  let m := s.planner.manual.getD (s.cfgN .chSection ch) {}
  let on := m.on && s.sectionOn ch
  let was := if (s.pwmT ch).isSome then s.wantedAt ch f else s.leftOn ch f
  let duty := fun (g : Nat) =>
    let v := s.speedAt o ch g
    if o.speedValid && decide ((s.cfgN .vChMin : Rat) ≤ v) then s.dutyFor ch (m.rate : Rat) v
    else ((m.duty : Rat) / 100, (0 : BitVec 5))
  let ivs := fromNow f was on
  { pulses := (s.pulsesOf ch f duty ivs).map (fun p => { p with kind := if p.kind = 1 then 3 else 2 }), ivs := ivs,
    flow := if on then s.qReq ch (m.rate : Rat) (s.speedAt o ch f) else 0,
    duty := if on then some (duty f).1 else none }

/-- A channel held through position loss (R175); that of a disabled section is shut (R177). -/
def State.planHeld (s : State) (ch f : Nat) : Placed :=
  if !s.sectionOn ch then s.shutAt ch f
  else match s.pwmT ch with
  | none => {}
  | some _ =>
    if s.wantedAt ch f then
      let d := (s.pchan ch).duty
      let ivs : List DIv := [{}]
      { pulses := s.pulsesOf ch f (fun _ => (d, 0)) ivs, ivs := ivs }
    else s.shutAt ch f

/-- A channel that a loop drives as its sink (R236). -/
def State.planSink (s : State) (ch f n : Nat) : Placed :=
  match s.pwmT ch with
  | none => s.shutAt ch f
  | some T =>
    let d : Rat := ((s.loop n).uOut : Rat) / 6553600
    let w : Draw :=
      { width := fun _ => (if 1 ≤ d then none else some (d * (T : Rat)), 0), dOff := 0, minOff := 0, shorten := false }
    { pulses := pulsedIv ch T f (f + spanTicks) w { s.frozenAt ch f with off := none } {} }

/-- A sink is driven: in PARKED, WORKING and MANUAL, and under a tune (R236, R255). -/
def State.sinkLive (s : State) (ch : Nat) : Bool :=
  s.dev.st.active || s.acts.any (fun a => a.code = 3 && s.claims a (.valve ch))

/-- One channel's placement in this cycle; a latched one gets no edges (R209). -/
def State.planChan (s : State) (o : FusOut) (ch f : Nat) : Placed :=
  if (s.chan ch).latched then {}
  else if s.planned ch then
    match s.dev.st with
    | .working =>
      if s.planner.loss = 0 then s.planMap o ch f true
      else if s.planner.loss = 1 then s.shutAt ch f
      else s.planHeld ch f
    | .manual => s.planManual o ch f
    | .parked => s.planMap o ch f false
    | _ => s.shutAt ch f
  else match s.loopOfSink (.vcDuty ch) with
    | some n => if s.sinkLive ch then s.planSink ch f n else s.shutAt ch f
    | none => s.shutAt ch f

/-! ### The whole placement -/

/-- Count hits and misses of one channel's lookups, and tell the first miss of a tile (R149): MASK and COVER
at both points of R161, MASK and RATE at the landing point.  A tile out of reach is never a miss (R129), and by
DESIGN CHOICE (log 129) no hit either. -/
def State.countLooks (s : State) (ch : Nat) (ws : List Want) : State :=
  let near := fun (t : Int × Int) => reach t.1 && reach t.2
  let ts := ((ws.flatMap (·.tiles)).filter near).dedup
  let rs := ((ws.flatMap (·.rateTiles)).filter near).dedup
  let all := ts ++ rs.filter (fun t => !ts.contains t)
  s.each all (fun s t =>
    let held := match s.slotFor t.1 t.2 with | some x => x.st != SlotSt.pending | none => false
    if held then
      (s.count 7).updTiles (fun u => { u with slots := u.slots.map (fun (x : TSlot) =>
        if x.tx = t.1 && x.ty = t.2 then { x with looked := s.now } else x) })
    else
      let s := s.count 8
      let s := if ts.contains t then s.count 10 else s
      let s := if rs.contains t then s.count 9 else s
      if s.tiles.missed.contains t then s
      else (s.updTiles (fun u => { u with missed := u.missed ++ [t] })).raise 0x2002 ch
        [(128, 16, twos 16 t.1), (144, 16, twos 16 t.2)] false)

/-- The flags every edge of a channel carries: DEFAULT_DELAY, LEAD_CLIPPED. -/
def State.ownFlags (s : State) (ch : Nat) : BitVec 5 :=
  (if (s.pchan ch).view.isNone then 1 else 0) ||| (if 0 < s.leadExcess ch then 2 else 0)

/-- Place a channel's edges behind the frozen ones on the wheel, at most 32 and 8,192 in all (R169). -/
def State.putEdges (s : State) (f ch : Nat) (es : List Edge) : State :=
  let w := s.planner.wheel.filter (fun e => !(e.ch = ch && decide (f ≤ e.due)))
  let room := min (32 - (w.filter (fun e => e.ch = ch)).length) (8192 - w.length)
  let es := es.mergeSort (fun a b => decide (a.due < b.due ∨ (a.due = b.due ∧ !a.on)))
  let new := es.take room
  let s := s.count 12 (es.length - new.length)
  let clipped := decide (0 < s.leadExcess ch) && !new.isEmpty && !(s.pchan ch).clipRaised
  let s := s.updPlanner (fun p =>
    { p with wheel := (w ++ new).mergeSort (fun a b => decide (a.due ≤ b.due)),
             decided := p.decided.filter (fun e => e.ch ≠ ch) ++ new.filter (fun e => decide (e.due < f + cycleTicks)) })
  if clipped then
    (s.updPChan ch (fun p => { p with clipRaised := true })).raise 0x2003 ch
      [(128, 32, (roundRat (s.leadExcess ch)).toNat)] false
  else s

/-- Where an interval's ON has been placed by the spacing of R168. -/
def placedIv (ps : List Pulse) (ch : Nat) (i : DIv) : Nat × Option Nat :=
  match i.on with
  | none => (0, i.off)
  | some a => (((ps.find? (fun p => p.ch = ch && p.at_ == some a)).bind (·.on)).getD a, i.off)

/-- What the planner keeps of a channel's placement. -/
def State.keepPlaced (s : State) (ch f : Nat) (x : Placed) (ps : List Pulse) : State :=
  let s := s.updPChan ch (fun p =>
    { p with ivs := (x.ivs.filter (fun i => match i.on with | some a => decide (a < f + spanTicks) | none => true)).map (placedIv ps ch),
             margin := x.margin, lastRate := x.rate.getD p.lastRate, duty := x.duty.getD p.duty, abandoned := none,
             before := p.ivs, dutyWas := p.duty, rateWas := p.lastRate, lowWas := p.rateLow,
             rateLow := p.rateLow + (x.pulses.filter (fun q => match q.skip with
               | some g => decide (g < f + cycleTicks) | none => false)).length })
  s.updPlanner (fun p => { p with flows := p.flows.set ch x.flow })

/-- One group: its channels' pulses, spaced, become edges; a channel under a sweep keeps the sweep's (R414). -/
def State.planGroup (s : State) (o : FusOut) (f g : Nat) : State :=
  let chs := (List.range 8).map (fun j => 8 * g + j)
  let xs := chs.map (fun ch => (ch, s.planChan o ch f))
  let old := s.planner.frozen.filter (fun x => grpOf x.2.2 = g)
  let ps := spaceGroup s.tbEst f old (xs.flatMap (fun x => x.2.pulses))
  s.each xs (fun s x =>
    let s := s.countLooks x.1 x.2.look
    let es := ((ps.filter (fun p => p.ch = x.1)).flatMap (fun p => p.edges (s.ownFlags x.1) (s.cfgN .chProfile x.1))).filter
      (fun e => decide (e.due < f + spanTicks))
    (if s.sweeping x.1 then s else s.putEdges f x.1 es).keepPlaced x.1 f x.2 ps)

/-- The inputs of R154 that come before the fusion output. -/
def State.cycleInputs (s : State) (f : Nat) : State :=
  let s := ((s.speedCompare.takePlan.applyPatches true).applyFresh.applyPatches false).applyRates
  let s := s.each s.host.outstanding State.takeWaiting
  s.takeReports.settleDecided f

/-- One planner cycle of every core, starting now. -/
def State.planCycle (s : State) : State :=
  let f := s.now + freezeTicks
  let s := s.cycleInputs f
  let o := (s.fusionAt).getD {}
  let s := s.markAll.positionLoss o
  let s := s.updPlanner (fun p =>
    { p with cycle := some s.now, f := f, before := p.wheel, placing := true, flows := List.replicate 96 0 })
  s.each (List.range s.nGrp) (fun s g => s.planGroup o f g)

/-- PLANNER_CYCLE_START. -/
def execPlannerCycleStart (dt : Nat) (s : State) : Out :=
  let s := s.advance dt
  .next (if s.islands && s.dev.st.servesRings && s.now % cycleTicks = 0 then s.graceFirst.planCycle else s)

/-- A channel that has not been placed in time keeps the edges of the cycle before, and what that cycle decided
for it (R155). -/
def State.abandon (s : State) (ch : Nat) : State :=
  let p := s.planner
  let old := p.before.filter (fun e => e.ch = ch && decide (p.f ≤ e.due))
  let s := s.updPlanner (fun p =>
    { p with wheel := (p.wheel.filter (fun e => !(e.ch = ch && decide (p.f ≤ e.due))) ++ old).mergeSort
               (fun a b => decide (a.due ≤ b.due)),
             decided := p.decided.filter (fun e => e.ch ≠ ch) ++ old.filter (fun e => decide (e.due < p.f + cycleTicks)) })
  (s.count 11).updPChan ch (fun c =>
    { c with abandoned := c.abandoned.or (some p.f), ivs := c.before, duty := c.dutyWas, lastRate := c.rateWas,
             rateLow := c.lowWas })

/-- PLACEMENT_DEADLINE. -/
def execPlacementDeadline (dt : Nat) (unfinished : List Nat) (s : State) : Out :=
  let s := s.advance dt
  let due := match s.planner.cycle with | some m => decide (m + placeTicks ≤ s.now) | none => false
  .next (if s.planner.placing && due then
      let s := s.each (unfinished.dedup.filter (fun ch => decide (ch < s.nCh) && !s.sweeping ch)) State.abandon
      s.updPlanner (fun p => { p with placing := false, before := [] })
    else s)

/-- HOLD_UNACKED. -/
def execHoldUnacked (dt : Nat) (s : State) : Out :=
  let s := s.advance dt
  .next (if s.dev.st == .working && s.planner.loss = 2 && decide (s.planner.lossMt + s.cfgN .holdAckMax * msTicks ≤ s.now) then
      (s.updPlanner (fun p => { p with loss := 1 })).raise 0x2006 subjModule [] true
    else s)

/-- HOLD_EXPIRED. -/
def execHoldExpired (dt : Nat) (s : State) : Out :=
  let s := s.advance dt
  .next (if s.dev.st == .working && s.planner.loss = 3 && decide (s.planner.lossMt + s.cfgN .holdMax * msTicks ≤ s.now) then
      (s.updPlanner (fun p => { p with loss := 1 })).raise 0x2007 subjModule [] true
    else s)

/-! ### Commands (R177, R178, R181) -/

/-- PLAN_SECTION_ENABLE waits for the next cycle start. -/
def cmdPlanSectionEnable (mask : BitVec 96) (s : State) : Verdict :=
  if mask = 0 then .done .ok 0 s else .wait false [] s

def execPlanSectionEnable (dt : Nat) (h : Hdr) (mask : BitVec 96) (en : Bool) (s : State) : Out :=
  .next (s.command dt 0x25 (.planSectionEnable dt h mask en) h (cmdPlanSectionEnable mask))

/-- PLAN_MANUAL waits with its duty clamped to DUTY_MIN to DUTY_MAX. -/
def cmdPlanManual (mask : BitVec 96) (duty : Nat) (s : State) : Verdict :=
  let d := max (s.cfgN .dutyMin) (min (s.cfgN .dutyMax) duty)
  if mask = 0 then .done .ok (resultOf [(129, 7, d)]) s else .wait false [d, b2n (d != duty)] s

def execPlanManual (dt : Nat) (h : Hdr) (mask : BitVec 96) (on : Bool) (duty : Nat) (rate : Word) (s : State) : Out :=
  .next (s.command dt 0x26 (.planManual dt h mask on duty rate) h (cmdPlanManual mask duty))

/-- PLAN_HOLD_ACK: a hold must be pending. -/
def cmdPlanHoldAck (s : State) : Verdict :=
  checks s true true none (if s.planner.loss = 2 then none else some .wrongState)
    (.wait false [] (s.updPlanner (fun p => { p with ackWaits := true })))

def execPlanHoldAck (dt : Nat) (h : Hdr) (s : State) : Out :=
  .next (s.command dt 0x27 (.planHoldAck dt h) h cmdPlanHoldAck)

/-- The four words of a pending edge. -/
def edgeWords (e : Edge) : List Word :=
  dwords e.due ++ [wn (pack [(0, 1, b2n e.on), (1, 5, e.flags.toNat), (8, 4, e.profile)]), w32 e.shift]

/-- The item of the module. -/
def State.planItem (s : State) : Item := (1, (List.range 6).map (fun i => s.cnt.getD (11 + i) 0) ++ [wn s.planner.loss])

/-- The item of one channel. -/
def State.planChItem (s : State) (ch : Nat) : Item :=
  let d := s.delays ch
  let p := s.pchan ch
  let t := fun (q : Rat) => wn (roundRat q).toNat
  let es := s.planner.wheel.filter (fun e => e.ch = ch)
  (2, [wn ch, t d.dOn, t d.sOn, t d.dOff, t d.sOff, t p.defer, wn (s.tbEst ch), t p.margin, wn es.length] ++ es.flatMap edgeWords)

/-- PLAN_STATUS. -/
def cmdPlanStatus (h : Hdr) (rep : Ref) (mask : BitVec 96) (s : State) : Verdict :=
  checks s (s.fitted (bitsOf mask)) true none none (report 0x28 h rep (s.planItem :: (bitsOf mask).map s.planChItem) s)

def execPlanStatus (dt : Nat) (h : Hdr) (rep : Ref) (mask : BitVec 96) (s : State) : Out :=
  .next (s.command dt 0x28 (.planStatus dt h rep mask) h (cmdPlanStatus h rep mask))

end Sys2Proof.Machine
end

