-- ==== Sys2Proof/Machine/Fusion.lean ====
section
/-! DEFINITION. Fusion (04): the output of each millisecond from what its filter estimates, the IMU
port, and the fusion commands (R99 to R127). -/

namespace Sys2Proof.Machine

def State.updNav (s : State) (f : Nav → Nav) : State := { s with nav := f s.nav }
def State.updImu (s : State) (f : Imu → Imu) : State := s.updNav (fun n => { n with imu := f n.imu })

/-- The navigation side runs: its islands do, and VBAT has not shed it (R425). -/
def State.navRuns (s : State) : Bool := s.islands && !s.pwr.shed

/-- NO_IMU: the IMU is lost, or none is declared (R112). -/
def State.noImu (s : State) : Bool := s.nav.imu.lost || s.cfgN .imuMode = 0

/-! ### Speed and direction (R113 to R115) -/

/-- A source of SPEED_SRC, coded as log 15 states. -/
inductive SpdKind where
  | pulse (n : Nat) | quad (n : Nat) | iso (k : Nat) | none
  deriving DecidableEq, Repr

def State.spdKind (s : State) (i : Nat) : SpdKind :=
  let k := s.cfgN .speedSrc i
  if k < 16 then .pulse k else if k < 24 then .quad (2 * (k - 16)) else if k < 26 then .iso (k - 24) else .none

/-- Speed of a pulse input or pair by its K-factor; 0 after ZERO_SPEED_T without an edge (R113). -/
def State.pulseSpeed (s : State) (n : Nat) : Int :=
  let silent := match (s.pin_ n).stamps.getLast? with
    | some t => decide (t + s.cfgN .zeroSpeedT * msTicks ≤ s.now)
    | none => true
  if silent then 0
  else ((roundRat ((s.piFreq n : Rat) * 65536 / (s.cfgN .piK n : Rat))).natAbs : Nat)

/-- What a speed source reads: its speed, the MT it is valid at, and the GNSS ground speed there. -/
structure SpdRead where
  avail : Bool := false
  mmps : Int := 0
  mt : Nat := 0
  gnss : Int := 0
  deriving DecidableEq, Repr, Inhabited

/-- What source `i` reads (R113): a pulse source at the edge that completed its period, a CAN source as its
last message of 300 ms gives it, SPEED_CAN_LAT before its SOF. -/
def State.spdRead (s : State) (i : Nat) (gnss : Int) : SpdRead :=
  match s.spdKind i with
  | .pulse n | .quad n => { avail := true, mmps := s.pulseSpeed n, mt := (s.pin_ n).stamps.getLast?.getD 0, gnss := gnss }
  | .iso k =>
    let x := s.isoRead k
    match x.sof, x.mmps with
    | some m, some v => { avail := decide (s.now < m + 300 * msTicks), mmps := v, mt := m - s.cfgN .speedCanLat * usTicks, gnss := gnss }
    | _, _ => {}
  | .none => {}

def State.spdReads (s : State) (o : FusObs) : List SpdRead :=
  (List.range 3).map (fun i => s.spdRead i (o.gnssAt.getD i 0))

def State.spdSrc (s : State) (i : Nat) : SpdSrc := s.nav.spd.getD i {}

/-- The first available source not marked SPEED_DISAGREE, 3 where there is none. -/
def State.selected (s : State) (xs : List SpdRead) : Nat :=
  ((List.range 3).find? (fun i => (xs.getD i {}).avail && !(s.spdSrc i).disagree)).getD 3

/-- Compare a source with the GNSS ground speed (R114).  DESIGN CHOICE (log 155): the 10 % is of the GNSS ground
speed. -/
def State.spdCompare (s : State) (sel i : Nat) (x : SpdRead) (q : Nat) : State :=
  let y := s.spdSrc i
  let set := fun (s : State) (y : SpdSrc) => s.updNav (fun n => { n with spd := n.spd.set i y })
  let y := { y with avail := x.avail, mmps := x.mmps, mt := x.mt }
  if q < 3 || !x.avail || (i ≠ sel && !y.disagree) then set s { y with since := none }
  else
    let far := decide ((max 300 (x.gnss.natAbs / 10) : Nat) < (x.mmps - x.gnss).natAbs)
    let m := y.since.getD s.now
    if far = y.disagree then set s { y with since := none }
    else if m + (if far then 500000000 else 1250000000) ≤ s.now then
      (set s { y with disagree := far, since := none, entries := if far then satInc y.entries else y.entries }).raise
        0x3005 i [(128, 1, b2n far)] false
    else set s { y with since := some m }

/-- Compare every source, and keep the selected one. -/
def State.spdStep (s : State) (xs : List SpdRead) (q : Nat) : State :=
  let sel := s.selected xs
  let s := s.each [0, 1, 2] (fun s i => s.spdCompare sel i (xs.getD i {}) q)
  s.updNav (fun n => { n with source := s.selected xs })

/-- Two headings differ by more than 90 degrees. -/
def acrossFrom (a b : BA32) : Bool := decide (2 ^ 30 < (a - b).toInt.natAbs)

/-- The direction decided, or held where no source decides (R115). -/
def State.direction (s : State) (o : FusObs) (xs : List SpdRead) (dual : Option BA32) : Bool :=
  let d := s.cfgN .dirSrc
  let held := s.nav.reverse
  if d = 0 then
    match (List.range 3).findSome? (fun i => match s.spdKind i with | .quad n => some n | _ => none) with
    | some n => (s.pin_ n).rev
    | none => held
  else if d ≤ 32 then (if s.fdBad (d - 1) then held else (s.pin (d - 1)).seen)
  else if d = 33 then
    match s.spdKind s.nav.source with
    | .iso k => if (xs.getD s.nav.source {}).avail then ((s.isoRead k).reverse).getD held else held
    | _ => held
  else match dual with
    | some h => if s.cfgN .cogSpeedMin < o.gnssSpeed then acrossFrom o.course h else held
    | none => held

/-! ### Heading (R120) -/

/-- Antenna B is excluded by the cross-antenna test (R85, R120): every satellite it tracks is (log 98). -/
def State.antBOut (s : State) : Bool :=
  let cs := s.nav.sx.chans.filter (fun c => decide (2 ≤ c.port) && c.locked)
  !cs.isEmpty && cs.all (fun c => c.excl = 4)

/-- A heading of the latest GNSS solution, carried on at its yaw rate (R112). -/
def State.carried (s : State) (x : Sol) (h : Option (BA32 × Nat)) : Option (BA32 × Nat) :=
  h.map (fun p => (p.1 + BitVec.ofInt 32 (roundRat ((x.yawRate : Rat) * secs ((s.now - x.epoch : Nat) : Rat))), p.2))

/-- The DUAL heading, where antenna B serves; under NO_IMU that of the latest solution, carried on.  SPOOF_SUSPECT
gives fusion no new one (R119). -/
def State.dualHeading (s : State) (o : FusObs) : Option (BA32 × Nat) :=
  if s.cfgN .antennas = 2 && !s.antBOut then
    match if s.noImu then s.nav.sol else none with
    | some x => s.carried x x.dual
    | none => if s.nav.sx.spoof then none else o.dual
  else none

/-- The COG heading, in the same way. -/
def State.cogHeading (s : State) (o : FusObs) : Option (BA32 × Nat) :=
  match if s.noImu then s.nav.sol else none with
  | some x => s.carried x x.cog
  | none => if s.nav.sx.spoof then none else o.cog

/-- The machine heading: source, heading and HDU. -/
structure Hdg where
  src : Nat := 0
  psi : BA32 := 0
  hdu : Nat := 0
  /-- the gyro's integrated heading, counts -/
  gyro : Rat := 0
  deriving DecidableEq, Repr, Inhabited

/-- HDU of a heading integrated since its base (R120). -/
def State.gyroHdu (s : State) (u m : Nat) : Nat :=
  u + (roundRat ((s.cfgN .gyroDrift : Rat) * ((s.now - m : Nat) : Rat) / 250000000)).toNat

/-- The heading that the gyro integrates over this output: the yaw rate since the last one. -/
def State.gyroNow (s : State) (f : FilterSt) : Rat :=
  q48 (s.nav.gyroPsi + (f.yawRate : Rat) * secs ((s.now - (s.nav.outs.headD {}).epoch : Nat) : Rat))

/-- The heading source of this output (R120): 1 DUAL, 2 COG, 3 GYRO, 4 HELD, 0 NONE.  With HELD and NONE the
last output's HDU is kept (log 99). -/
def State.heading (s : State) (o : FusObs) (f : FilterSt) (rev : Bool) : Hdg :=
  let n := s.nav
  let none_ : Hdg := { psi := n.hdg, hdu := (n.outs.headD {}).hdu, gyro := n.gyroPsi }
  match s.dualHeading o with
  | some (h, u) => { src := 1, psi := h, hdu := u, gyro := h.toNat }
  | none =>
    match if s.cfgN .cogSpeedMin < o.antSpeed then s.cogHeading o else none with
    | some (h, u) => let p := if rev then h + 0x80000000 else h; { src := 2, psi := p, hdu := u, gyro := p.toNat }
    | none =>
      match n.hdgBase with
      | none => none_
      | some (u, m) =>
        if !s.noImu then
          if s.gyroHdu u m ≤ s.cfgN .hduMax then
            { src := 3, psi := BitVec.ofInt 32 (roundRat (s.gyroNow f)), hdu := s.gyroHdu u m, gyro := s.gyroNow f }
          else { none_ with hdu := s.gyroHdu u m }
        else if o.antSpeed < s.cfgN .cogSpeedMin && s.now < (n.heldAt.getD s.now) + s.cfgN .drTime * msTicks then
          { none_ with src := 4 }
        else none_

/-- Keep what the next heading starts from. -/
def State.keepHeading (s : State) (h : Hdg) : State :=
  s.updNav (fun n =>
    { n with hdg := h.psi, gyroPsi := h.gyro,
             hdgBase := if h.src = 1 || h.src = 2 then some (h.hdu, s.now) else n.hdgBase,
             heldAt := if h.src = 4 then some (n.heldAt.getD s.now) else if h.src = 0 then n.heldAt else none })

/-! ### Implement (R106 to R108) -/

/-- A body vector on the field's east, north and up axes, for an attitude in BA32 counts (R102, R103). -/
def bodyToField (psi pitch roll x y z : Rat) : Rat × Rat × Rat :=
  let sp := sinBa psi
  let cp := cosBa psi
  let st := sinBa pitch
  let ct := cosBa pitch
  let sr := sinBa roll
  let cr := cosBa roll
  let f := x * ct + y * st * sr + z * st * cr
  let r := y * cr - z * sr
  (q48 (f * sp + r * cp), q48 (f * cp - r * sp), q48 (x * st - y * ct * sr - z * ct * cr))

/-- The measured articulation (R108). -/
def State.articMeas (s : State) : Int :=
  ((s.ain (s.cfgN .articAi)).reading - s.flash.articZero) * s.cfgI .articGain

/-- The articulation sensor is valid (R108). -/
def State.articValid (s : State) : Bool :=
  let r := (s.ain (s.cfgN .articAi)).reading
  s.cfgI .articMvMin ≤ r && r ≤ s.cfgI .articMvMax && s.articMeas.natAbs ≤ s.cfgN .articLimit

/-- The machine as one epoch states it, on the field axes. -/
structure Mach where
  e : Rat := 0
  n : Rat := 0
  u : Rat := 0
  ve : Rat := 0
  vn : Rat := 0
  vu : Rat := 0
  psi : Rat := 0
  /-- yaw rate, rad/s -/
  om : Rat := 0
  pitch : Rat := 0
  roll : Rat := 0
  deriving DecidableEq, Repr, Inhabited

/-- The state of a point fixed to the machine. -/
def Mach.at (m : Mach) (x y z : Rat) : Mach :=
  let (e, n, u) := bodyToField m.psi m.pitch m.roll x y z
  { m with e := m.e + e, n := m.n + n, u := m.u + u, ve := m.ve + m.om * n, vn := m.vn - m.om * e }

/-- Radians per second of a BA32 rate, and back. -/
def radOf (w : Rat) : Rat := q48 (w * (2 * piR) / 2 ^ 32)
def baOf (r : Rat) : Rat := q48 (r * 2 ^ 32 / (2 * piR))

/-- The control point: motion, heading in counts, yaw rate in counts/s, articulation and its source. -/
structure Cp where
  m : Mach := {}
  psi : Rat := 0
  w : Rat := 0
  speed : Rat := 0
  artic : Int := 0
  articSrc : Nat := 0
  bad : Bool := false
  deriving DecidableEq, Repr, Inhabited

/-- The control point of a mounted implement (R106). -/
def State.mounted (s : State) (m : Mach) (w : Int) : Cp :=
  let p := m.at (s.cfgI .cpX) (s.cfgI .cpY) (s.cfgI .cpZ)
  { m := p, psi := m.psi, w := w, speed := p.ve * sinBa m.psi + p.vn * cosBa m.psi }

/-- Rate of the implement heading behind a hitch, rad/s (R107). -/
def State.drawbarRate (s : State) (h : Mach) (psi : Rat) : Rat :=
  q48 ((h.ve * cosBa psi - h.vn * sinBa psi) / (s.cfgN .lAx : Rat))

/-- Difference of angles in counts, in [-2^31, 2^31). -/
def wrapBa (a : Rat) : Rat := a - ((a / 2 ^ 32 + 1 / 2).floor : Rat) * 2 ^ 32

/-- What the estimate runs on from: where a valid sensor has just been lost, the last valid measured angle. -/
def State.articFrom (s : State) : Option Rat :=
  let l := s.nav.outs.headD {}
  if s.cfgN .articSrcCfg = 2 && !s.articValid && l.articSrc = 1 then some (l.artic : Rat) else s.nav.articEst

/-- The estimate carried over one millisecond (R107): from the last one, else from the measured angle,
else from 0. -/
def State.articStep (s : State) (h : Mach) (w : Int) (dtN : Nat) : Rat :=
  match s.articFrom with
  | none => if s.articValid then (s.articMeas : Rat) else 0
  | some g =>
    let t : Rat := secs (dtN : Rat)
    wrapBa (g + ((w : Rat) - baOf (s.drawbarRate h (h.psi - g))) * t)

/-- The control point of a towed implement, and the estimate to keep (R107, R108).  DESIGN CHOICE (log 154): its U is
the hitch's. -/
def State.towed (s : State) (m : Mach) (w : Int) (dtN : Nat) : Cp × Rat :=
  let h := m.at (s.cfgI .hitchX) (s.cfgI .hitchY) (s.cfgI .hitchZ)
  let lim : Rat := (s.cfgN .articLimit : Rat)
  let src := s.cfgN .articSrcCfg
  let ok := s.articValid
  let raw := s.articStep h w dtN
  let wide := decide (lim < ratAbs raw)
  let est := max (-lim) (min lim raw)
  let meas := ok && src ≠ 1
  let g : Rat := if meas then (s.articMeas : Rat) else if src = 0 then ((s.nav.outs.headD {}).artic : Rat) else est
  let bad := if meas then false else if src = 0 then true else wide
  let psi := m.psi - g
  let wi := s.drawbarRate h psi
  let sn := sinBa psi
  let cs := cosBa psi
  let fx : Rat := (s.cfgI .cpIX : Rat) - (s.cfgN .lAx : Rat)
  let fy : Rat := (s.cfgI .cpIY : Rat)
  let de := q48 (fx * sn + fy * cs)
  let dn := q48 (fx * cs - fy * sn)
  let p : Mach := { h with e := h.e + de, n := h.n + dn, ve := h.ve + wi * dn, vn := h.vn - wi * de }
  ({ m := p, psi := psi, w := baOf wi, speed := p.ve * sn + p.vn * cs, artic := roundRat g,
     articSrc := if meas then 1 else if src = 0 then 0 else 2, bad := bad },
   if meas && src = 2 && !s.nav.articOk then (s.articMeas : Rat) else est)

/-- Validity of the articulation sensor, and its comparison with the estimate (R108). -/
def State.articEvents (s : State) (est : Rat) : State :=
  let ok := s.articValid
  let s := if ok = s.nav.articOk then s
    else (s.updNav (fun n => { n with articOk := ok })).raise 0x3006 subjModule [(128, 1, b2n ok)] false
  let d := wrapBa ((s.articMeas : Rat) - est)
  if !ok || ratAbs d ≤ (s.cfgN .articTol : Rat) then
    s.updNav (fun n => { n with articDiff := none, articTold := false })
  else
    let m := s.nav.articDiff.getD s.now
    let s := s.updNav (fun n => { n with articDiff := some m })
    if !s.nav.articTold && m + 500000000 ≤ s.now then
      (s.updNav (fun n => { n with articTold := true })).raise 0x3007 subjModule [(128, 32, twos 32 (roundRat d))] false
    else s

/-! ### The field frame (R101) -/

/-- WGS84: half axis in micrometres, and the square of the eccentricity. -/
def wgsA : Rat := 6378137000000
def wgsE2 : Rat := let f : Rat := mkRat 1000000000 298257223563; f * (2 - f)

/-- BA32 counts of 10^-7 degrees. -/
def countsOf (d : Word) : Rat := (d.toInt : Rat) * 2 ^ 32 / 3600000000

/-- East, north and up (mm) of an ECEF position (micrometres) from a field origin (R101). -/
def fieldFrame (lat lon height : Word) (x y z : Int) : Rat × Rat × Rat :=
  let sp := sinBa (countsOf lat)
  let cp := cosBa (countsOf lat)
  let sl := sinBa (countsOf lon)
  let cl := cosBa (countsOf lon)
  let n := wgsA / sqrtR (1 - wgsE2 * sp * sp)
  let h : Rat := (height.toInt : Rat) * 1000
  let dx := (x : Rat) - (n + h) * cp * cl
  let dy := (y : Rat) - (n + h) * cp * sl
  let dz := (z : Rat) - (n * (1 - wgsE2) + h) * sp
  (q48 ((dy * cl - dx * sl) / 1000), q48 ((dz * cp - (dx * cl + dy * sl) * sp) / 1000),
   q48 (((dx * cl + dy * sl) * cp + dz * sp) / 1000))

/-- The field position of an ECEF position (micrometres); 0 without an origin, whose outputs hold theirs. -/
def State.fieldPos (s : State) (x y z : Int) : Rat × Rat × Rat :=
  match s.nav.origin with
  | some (a, b, c) => fieldFrame a b c x y z
  | none => (0, 0, 0)

/-- The ECEF displacement in micrometres of a displacement in mm on the axes of a field origin. -/
def ecefOf (lat lon : Word) (e n u : Rat) : Int × Int × Int :=
  let sp := sinBa (countsOf lat)
  let cp := cosBa (countsOf lat)
  let sl := sinBa (countsOf lon)
  let cl := cosBa (countsOf lon)
  (roundRat (1000 * (u * cp * cl - e * sl - n * sp * cl)), roundRat (1000 * (u * cp * sl + e * cl - n * sp * sl)),
   roundRat (1000 * (n * cp + u * sp)))

/-- The machine at this epoch: as the filter has it; under NO_IMU the latest GNSS solution
carried on at constant velocity and yaw rate, from antenna A to the reference point (R112, log 100). -/
def State.machine (s : State) (f : FilterSt) (psi : BA32) (pitch : Int) : Mach :=
  let psi : Rat := (psi.toNat : Rat)
  match if s.noImu then s.nav.sol else none with
  | some x =>
    let t := secs ((s.now - x.epoch : Nat) : Rat)
    let (e, n, u) := s.fieldPos (1000 * x.x) (1000 * x.y) (1000 * x.z)
    let (le, ln, lu) := bodyToField psi pitch 0 (s.cfgI .antAX) (s.cfgI .antAY) (s.cfgI .antAZ)
    let om := radOf x.yawRate
    { e := e + x.ve * t - le, n := n + x.vn * t - ln, u := u + x.vu * t - lu, ve := x.ve - om * ln, vn := x.vn + om * le,
      vu := x.vu, psi := psi, om := om, pitch := pitch, roll := 0 }
  | none =>
    let (e, n, u) := s.fieldPos f.x f.y f.z
    { e := e, n := n, u := u, ve := f.ve, vn := f.vn, vu := f.vu, psi := psi, om := radOf f.yawRate,
      pitch := pitch, roll := if s.noImu then 0 else (f.roll : Rat) }

/-! ### Quality and dead reckoning (R121 to R124) -/

/-- The latest solution is no older than GNSS_AGE_MAX. -/
def State.solFresh (s : State) : Bool :=
  match s.nav.sol with | some x => decide (s.now ≤ x.epoch + s.cfgN .gnssAgeMax * msTicks) | none => false

/-- Whether dead reckoning can run; a limit of 0 disables it (R125, log 101). -/
def State.drPossible (s : State) (hdu : Nat) : Bool :=
  !s.noImu && s.nav.source < 3 && s.cfgN .drTime ≠ 0 && s.cfgN .drDist ≠ 0 && hdu ≤ s.cfgN .hduMax

/-- Distance moved since an epoch by the outputs kept, mm. -/
def movedSince (m : Nat) (os : List FusOut) : Rat :=
  ((os.filter (fun o => decide (m < o.epoch))).map (fun o => (o.speed.natAbs : Rat) / 1000)).sum

/-- Dead reckoning at this output; `v` is the speed of the control point and `u`, `su`, `hu` the
uncertainties that a new solution fixes. -/
def State.drNext (s : State) (v : Rat) (u su hu : Nat) : Dr :=
  let d := s.nav.dr
  match s.nav.sol with
  | none => { d with active := false, tail := false }
  | some x =>
    if x.epoch ≠ d.epoch then
      { epoch := x.epoch, dist := movedSince x.epoch s.nav.outs + ratAbs v / 1000, u0 := u, su := su, hu0 := hu }
    else
      let d := { d with dist := d.dist + ratAbs v / 1000 }
      if s.solFresh then { d with active := false, tail := false }
      else if d.ended then { d with tail := false }
      else if !s.drPossible hu || x.epoch + s.cfgN .drTime * msTicks ≤ s.now || (s.cfgN .drDist : Rat) ≤ d.dist then
        { d with active := false, ended := true, tail := d.active }
      else { d with active := true }

/-- The output carries U(t), DR_T and DR_D: while dead reckoning runs, and at the output at which it ends (R123's
example, instant 4). -/
def Dr.shown (d : Dr) : Bool := d.active || d.tail

/-- U(t) of R123, mm. -/
def State.drHpu (s : State) (d : Dr) : Nat :=
  let t : Rat := secs ((s.now - d.epoch : Nat) : Rat)
  (roundRat ((d.u0 : Rat) + ((d.su : Rat) / 1000000 + radOf d.hu0 + radOf (s.cfgN .gyroDrift) * t) * d.dist
    + (s.cfgN .accU : Rat) * t * t / 2)).toNat

/-- The highest level not above `l` that HPU supports: above Q2, each level has a bound the spec does not give
(R122, log 102). -/
def supported (hpu l : Nat) : Nat :=
  if l ≤ 2 then l else ((List.range (l + 1)).reverse.find? (fun k => decide (k ≤ 2) || decide (hpu ≤ Config.hpuBound k))).getD 0

/-- The level that R121 names, before R122. -/
def State.levelNow (s : State) (h : Hdg) (bad : Bool) (d : Dr) : Nat :=
  if s.nav.origin.isNone || h.src = 0 || bad then 0
  else if s.solFresh then
    let l := match s.nav.sol with | some x => x.level | none => 0
    if h.src = 2 || h.src = 4 then min l 2 else l
  else if d.active then 1 else 0

/-- Whether consecutive solutions confirm a rise to a level (R122). -/
def State.confirmed (s : State) (l : Nat) : Bool :=
  if l = 5 then decide (max 1 (s.cfgN .fixConfirm) ≤ s.nav.runs.getD 3 0)
  else decide (2 ≤ s.nav.runs.getD (l - 2) 0)

/-- QUALITY of this output: it falls at once, and rises to the highest confirmed level (R122). -/
def State.qualityOf (s : State) (old l : Nat) : Nat :=
  if l ≤ old then l
  else ((List.range 6).reverse.find? (fun k => decide (old < k) && decide (k ≤ l) && s.confirmed k)).getD old

/-! ### The output -/

/-- PITCH without an IMU: along the baseline where it lies within 30 degrees of body X (R112). -/
def State.basePitch (s : State) (o : FusObs) : Int :=
  let d := fun (a b : Fld) => s.cfgI b - s.cfgI a
  let x := d .antAX .antBX
  let y := d .antAY .antBY
  let z := d .antAZ .antBZ
  if 3 * (x * x + y * y + z * z) ≤ 4 * x * x then o.basePitch.getD 0 else 0

/-- Length of a vector, mm. -/
def hypot (a b : Rat) : Rat := sqrtR (a * a + b * b)

/-! ### The filter (R116, R117) -/

/-- A lever arm of GEOMETRY. -/
def State.arm (s : State) (x y z : Fld) : List Int := [s.cfgI x, s.cfgI y, s.cfgI z]

/-- The scales of a state that has been carried or corrected: estimated within 0.85 to 1.15 with SPEED_SCALE_EST, else
as they were, with their uncertainty (R114). -/
def State.scaled (s : State) (old f : FilterSt) : FilterSt :=
  if s.cfgB .speedScaleEst && f.scales.length = 3 then
    { f with scales := f.scales.map (fun w => BitVec.ofNat 32 (max 55706 (min 75366 w.toNat))) }
  else { f with scales := old.scales, su := old.su }

/-- A filter's state carried to an MT by an IMU sample. -/
def State.carryTo (s : State) (f : FilterSt) (body : List Rat) (mt : Nat) : FilterSt :=
  if mt ≤ f.mt then f
  else s.scaled f { Config.strapdown (s.arm .imuX .imuY .imuZ) f body (mt - f.mt) with mt := mt }

/-- Propagate again from a state through the steps that follow it, oldest first. -/
def State.repropagate (s : State) (f : FilterSt) : List FilterStep → List FilterStep
  | [] => []
  | x :: r => let g := s.carryTo f x.body x.st.mt; { st := g, body := x.body } :: s.repropagate g r

/-- How far a GNSS position of antenna A departs from the one that a state gives it, on the field axes (mm). -/
def State.gnssOff (s : State) (f : FilterSt) (x y z : Int) : Rat × Rat × Rat :=
  let (e, n, u) := s.fieldPos f.x f.y f.z
  let (le, ln, lu) := bodyToField f.psi f.pitch f.roll (s.cfgI .antAX) (s.cfgI .antAY) (s.cfgI .antAZ)
  let (a, b, c) := s.fieldPos (1000 * x) (1000 * y) (1000 * z)
  (a - e - le, b - n - ln, c - u - lu)

/-- Correct a state by a measurement at its own MT, with the step: a GNSS position beyond STEP_MAX is applied in
full (R117, log 103). -/
def State.corrected (s : State) (f : FilterSt) (m : FusMeas) : FilterSt × Option (Int × Int) :=
  let g := s.scaled f { Config.correct (s.arm .antAX .antAY .antAZ) (s.arm .antBX .antBY .antBZ) f m with mt := m.mt }
  match m.val, s.nav.origin with
  | .gnss x y z _ _ _, some (lat, lon, _) =>
    let (e, n, u) := s.gnssOff f x y z
    if (s.cfgN .stepMax : Rat) < hypot e n then
      let (dx, dy, dz) := ecefOf lat lon e n u
      ({ g with x := f.x + dx, y := f.y + dy, z := f.z + dz }, some (roundRat e, roundRat n))
    else (g, none)
  | _, _ => (g, none)

/-- Apply one measurement to the history, newest first, at its own MT, and propagate from there to the present.
DESIGN CHOICE (log 156): one that is older than the whole history corrects its oldest state. -/
def State.applyMeas (s : State) (h : List FilterStep) (m : FusMeas) : List FilterStep × Option (Int × Int) :=
  let older := h.filter (fun x => decide (x.st.mt ≤ m.mt))
  let later := (h.filter (fun x => decide (m.mt < x.st.mt))).reverse
  let b := older.headD (later.headD { st := { mt := m.mt } })
  let body := (later.headD b).body
  let (f, step) := s.corrected (s.carryTo b.st body m.mt) m
  ((s.repropagate f later).reverse ++ { st := f, body := body } :: older, step)

/-- A measurement that arrives no more than 1.0 s after its MT. -/
def State.timely (s : State) (m : FusMeas) : Bool := decide (s.now ≤ m.mt + 250000000)

/-- The measurements of a solution passed to fusion: its position, and its heading, DUAL before COG, which REVERSE
turns (R116, R119, R120). -/
def State.solMeas (s : State) (o : FusObs) (x : Sol) : List FusMeas :=
  let h : Option (BA32 × Nat) := match if s.cfgN .antennas = 2 && !s.antBOut then x.dual else none with
    | some p => some p
    | none => if s.cfgN .cogSpeedMin < o.antSpeed then x.cog.map (fun p => (if s.nav.reverse then p.1 + 0x80000000 else p.1, p.2)) else none
  { mt := x.epoch, val := .gnss x.x x.y x.z x.ve x.vn x.vu } :: (h.map (fun p => ({ mt := x.epoch, val := .heading p.1 p.2 } : FusMeas))).toList

/-- The speed that the selected source has read anew (R113).  DESIGN CHOICE (log 156): the zero of a pulse source
without an edge is measured at each output. -/
def State.speedMeas (s : State) (xs : List SpdRead) : List FusMeas :=
  let i := s.selected xs
  let x := xs.getD i {}
  let was := s.spdSrc i
  if !x.avail then []
  else if x.mmps = 0 && !(match s.spdKind i with | .iso _ => true | _ => false) then [{ mt := s.now, val := .speed i 0 }]
  else if s.nav.source = i && was.mt = x.mt && was.mmps = x.mmps then []
  else [{ mt := x.mt, val := .speed i x.mmps }]

/-- The measurements that have arrived since the last output: solutions that Sextant passed, and the selected speed. -/
def State.arrivals (s : State) (o : FusObs) (xs : List SpdRead) : List FusMeas :=
  o.arrived.flatMap (fun m => match s.nav.sols.find? (fun x => x.epoch = m) with
    | some x => s.solMeas o x
    | none => []) ++ s.speedMeas xs

/-- Measurements older than 1.0 s when they arrive (R116). -/
def State.staleOf (s : State) (o : FusObs) (xs : List SpdRead) : Nat :=
  (o.arrived.filter (fun m => decide (m + 250000000 < s.now))).length + ((s.speedMeas xs).filter (fun m => !s.timely m)).length

/-- A history, newest first, cut to the states of the last 1.0 s and the one that they run on from. -/
def State.lastSecond (s : State) (h : List FilterStep) : List FilterStep :=
  let young := fun (x : FilterStep) => decide (s.now ≤ x.st.mt + 250000000)
  h.filter young ++ ((h.filter (fun x => !young x)).head?).toList

/-- The history with the measurements that have arrived applied, and the last step. -/
def State.filtered (s : State) (ms : List FusMeas) : List FilterStep × Option (Int × Int) :=
  let (h, st) := (ms.filter s.timely).foldl (fun (a : List FilterStep × Option (Int × Int)) m =>
    let (h, st) := s.applyMeas a.1 m
    (h, st.or a.2)) (s.nav.hist, none)
  (s.lastSecond h, st)

/-- The filter's state at this epoch, carried from its newest step by the latest IMU sample. -/
def State.estimate (s : State) : List FilterStep → FilterSt
  | [] => { mt := s.now }
  | x :: _ => s.carryTo x.st s.nav.imu.body s.now

/-- Keep the filter's history, what it estimates besides the output, and which measurements it has applied (R114,
R116).  The scale's uncertainty is kept in `Dr.su`; no record has a place for it (log 104). -/
def State.keepFilter (s : State) (ms : List FusMeas) (h : List FilterStep) (f : FilterSt) : State :=
  let three := fun (α : List Int) (old : List Int) => if α.length = 3 then α else old
  s.updNav (fun n =>
    { n with gyroBias := three f.gyroBias n.gyroBias, accBias := three f.accBias n.accBias,
             scales := if f.scales.length = 3 then f.scales else n.scales,
             hist := h, applied := (ms.filter s.timely).map (·.mt) })

/-- The step that an output without an IMU makes where it goes by a new solution: east and north of the new position
from where the one before it, carried on, has antenna A at that epoch (R112, R117). -/
def State.solStep (s : State) : Option (Int × Int) :=
  match s.nav.solUsed, s.nav.sol, s.nav.origin with
  | some a, some b, some _ =>
    let t := secs ((b.epoch - a.epoch : Nat) : Rat)
    let (e, n, _) := s.fieldPos (1000 * a.x) (1000 * a.y) (1000 * a.z)
    let (x, y, _) := s.fieldPos (1000 * b.x) (1000 * b.y) (1000 * b.z)
    let de := x - e - a.ve * t
    let dn := y - n - a.vn * t
    if a.epoch < b.epoch && decide ((s.cfgN .stepMax : Rat) < hypot de dn) then some (roundRat de, roundRat dn) else none
  | _, _, _ => none

/-- Carry the filter to the MT of a new IMU sample (R116). -/
def State.strapdown (s : State) (m : Nat) (body : List Rat) : State :=
  s.updNav (fun n =>
    { n with hist := s.lastSecond (({ st := s.carryTo (n.hist.headD { st := { mt := m } }).st body m, body := body } : FilterStep) :: n.hist) })

/-- FAR_ORIGIN, once per entry into its range, by the horizontal distance (R104, log 105). -/
def State.farCheck (s : State) (x : FusOut) : State :=
  let d := hypot x.e x.n
  let far := x.originValid && decide ((s.cfgN .farOrigin : Rat) * 1000 < d)
  let was := s.nav.far
  let s := s.updNav (fun n => { n with far := far })
  if far && !was then s.raise 0x3008 subjModule [(128, 32, (roundRat (d / 1000)).toNat)] false else s

/-- Form the output of this epoch. -/
def State.fuse (s : State) (o : FusObs) : State :=
  let last := s.nav.outs.headD {}
  let xs := s.spdReads o
  let ms := s.arrivals o xs
  let stale := s.staleOf o xs
  let (hist, jump) := s.filtered ms
  let f := s.estimate hist
  let step := if s.noImu then s.solStep else jump
  let s := ((s.spdStep xs last.quality).keepFilter ms hist f).updNav (fun n => { n with solUsed := n.sol })
  let rev := s.direction o xs ((s.dualHeading o).map (·.1))
  let s := s.each [0, 1, 2] (fun s i => match s.spdKind i with
    | .iso k => s.holdSlot (s.cfgN .speedBus) (s.isoSlot k)
    | _ => s)
  let h := s.heading o f rev
  let s := (s.keepHeading h).updNav (fun n => { n with reverse := rev })
  let noImu := s.noImu
  let m := s.machine f h.psi (if noImu then s.basePitch o else f.pitch)
  let w := match if noImu then s.nav.sol else none with | some x => x.yawRate | none => f.yawRate
  let tow := s.cfgN .implType = 1
  let (c, est) := if tow then s.towed m w (s.now - last.epoch) else (s.mounted m w, 0)
  let s := if tow then (s.articEvents est).updNav (fun n => { n with articEst := some est }) else s
  let d := s.drNext c.speed f.hpu f.su h.hdu
  let s := s.updNav (fun n => { n with dr := d })
  let hpu := if d.shown then s.drHpu d else f.hpu
  let q := s.qualityOf last.quality (supported hpu (s.levelNow h c.bad d))
  let r := fun (x : Rat) => roundRat x
  let held := s.nav.origin.isNone
  let x : FusOut :=
    { epoch := s.now, quality := q, hdgSrc := h.src, articSrc := c.articSrc, originValid := s.nav.origin.isSome,
      speedValid := o.speedOk, reverse := rev, posStep := step.isSome, implInvalid := c.bad, noImu := noImu,
      speedDisagree := s.nav.spd.any (·.disagree), e := if held then last.e else r c.m.e,
      n := if held then last.n else r c.m.n, u := if held then last.u else r c.m.u, ve := r c.m.ve,
      vn := r c.m.vn, vu := r c.m.vu, speed := r c.speed, heading := BitVec.ofInt 32 (r c.psi), pitch := r m.pitch,
      roll := r m.roll, yawRate := r c.w, mHeading := h.psi, artic := c.artic,
      hpu := hpu, hdu := h.hdu,
      drT := if d.shown then (s.now - d.epoch) / usTicks else 0, drD := if d.shown then (r d.dist).toNat else 0 }
  let s := (s.count 30 stale).updNav (fun n => { n with outs := (x :: n.outs).take 4096 })
  let s := if q ≠ last.quality then s.raise 0x3001 subjModule [(128, 8, last.quality), (136, 8, q)] false else s
  let s := match step with
    | some (a, b) => s.raise 0x3002 subjModule [(128, 32, twos 32 a), (160, 32, twos 32 b)] false
    | none => s
  let s := s.farCheck x
  match s.running 1 with
  | some a => if s.sweepMoves then s.maintEnd a .timeout 1 [] else s
  | none => s

/-- FUSION_EPOCH (R20). -/
def execFusionEpoch (dt : Nat) (o : FusObs) (s : State) : Out :=
  let s := s.advance dt
  .next (if s.navRuns && s.now % 250000 = 0 then (s.fuse o).sweepHalts else s)

/-! ### IMU port (R109 to R112) -/

/-- ISYNC is high for 1 us from its edge (R109). -/
def State.isyncLevel (s : State) : Bool :=
  match s.nav.imu.isync with | some m => decide (s.now < m + usTicks) | none => false

/-- A missed sample; the tenth in a row is the loss (R112). -/
def State.imuMiss (s : State) : State :=
  let s := (s.count 29).updImu (fun i => { i with missed := i.missed + 1, good := 0, burst := none })
  if 10 ≤ s.nav.imu.missed && !s.nav.imu.lost then
    (s.updImu (fun i => { i with lost := true })).raise 0x3003 subjModule [(128, 32, (s.cnt.getD 29 0).toNat)] false
  else s

/-- A sample instant: a burst read that has not ended is abandoned, and the next one starts `wait` ticks from
now (R110). -/
def State.imuInstant (s : State) (m wait : Nat) : State :=
  let s := if s.nav.imu.burst.isSome then s.imuMiss else s
  s.updImu (fun i => { i with burst := some m, readAt := s.now + wait })

def execImuDrdyEdge (dt : Nat) (s : State) : Out :=
  let s := s.advance dt
  .next (if s.navRuns && s.cfgN .imuMode = 1 then s.imuInstant (s.now - s.cfgN .imuLat * usTicks) 0 else s)

/-- IMU_SYNC_PULSE: ISYNC rises, and the IMU is read IMU_LAT after it.  DESIGN CHOICE (log 141): a sample period
that is no whole number of ticks is cut to one. -/
def execImuSyncPulse (dt : Nat) (s : State) : Out :=
  let s := s.advance dt
  .next (if s.navRuns && s.cfgN .imuMode = 2 && s.now % (250000000 / max 1 (s.cfgN .imuRate)) = 0 then
      (s.imuInstant s.now (s.cfgN .imuLat * usTicks)).updImu (fun i => { i with isync := some s.now })
    else s)

/-- One bit of a CRC of width `w`, most significant first. -/
def crcBit (w poly c : Nat) (b : Bool) : Nat :=
  let top := decide (c / 2 ^ (w - 1) % 2 = 1)
  let c := c * 2 % 2 ^ w
  if top != b then c ^^^ (poly % 2 ^ w) else c

/-- CRC-8 or CRC-16 of bytes, most significant bit first (log 16). -/
def imuCrc (w poly init : Nat) (bs : List Byte) : Nat :=
  bs.foldl (fun c b => (List.range 8).foldl (fun c i => crcBit w poly c (b.getMsbD i)) c) (init % 2 ^ w)

/-- A reading of the frame. -/
def imuCount (fr : List Byte) (q : ImuQ) : Int :=
  let k := if q.wide then 4 else 2
  let v := leAt fr q.off k
  if q.signed then sgn (8 * k) v else v

/-- A reading at full scale, either end. -/
def imuFull (fr : List Byte) (q : ImuQ) : Bool :=
  let w := if q.wide then 32 else 16
  let v := imuCount fr q
  if q.signed then v = 2 ^ (w - 1) - 1 || v = -(2 ^ (w - 1)) else v = 2 ^ w - 1

/-- Whether a frame is to be used (R111). -/
def ImuProfile.good (p : ImuProfile) (fr : List Byte) : Bool :=
  let k := p.crcKind
  fr.length = p.read
    && (k = 0 || imuCrc (8 * k) p.crcPoly p.crcInit (fr.take (p.read - k)) = leAt fr (p.read - k) k)
    && (leAt fr p.statusOff (p.statusWidth / 8)) &&& p.statusMask = 0
    && !p.qs.any (imuFull fr)

/-- The value of an IEEE 754 single; one that is not finite has none, and stands for a free number (log 106). -/
def f32 (b : Nat) : Rat :=
  let e : Nat := b / 2 ^ 23 % 256
  let m : Nat := b % 2 ^ 23
  let v : Rat := if e = 255 then Config.freeInt b
    else if e = 0 then (m : Rat) / 2 ^ 149
    else ((2 ^ 23 + m : Nat) : Rat) * ((2 ^ e : Nat) : Rat) / 2 ^ 150
  if b / 2 ^ 31 % 2 = 1 then -v else v

/-- An IMU vector on the body axes: yaw, then pitch, then roll (R105, R111). -/
def State.imuAxes (s : State) (x y z : Rat) : List Rat :=
  let a := fun (f : Fld) => (s.cfgI f : Rat)
  let sr := sinBa (a .imuRoll)
  let cr := cosBa (a .imuRoll)
  let sp := sinBa (a .imuPitch)
  let cp := cosBa (a .imuPitch)
  let sy := sinBa (a .imuYaw)
  let cy := cosBa (a .imuYaw)
  let f := x * cp + y * sp * sr + z * sp * cr
  let r := y * cr - z * sr
  [q48 (f * cy - r * sy), q48 (f * sy + r * cy), q48 (z * cp * cr + y * cp * sr - x * sp)]

/-- A frame's rates and accelerations, scaled and on the body axes, and its temperature (R111). -/
def State.imuBody (s : State) (p : ImuProfile) (fr : List Byte) : List Rat :=
  let v := p.qs.map (fun q => (imuCount fr q : Rat) * f32 q.scale)
  let g := fun (k : Nat) => v.getD k 0
  s.imuAxes (g 0) (g 1) (g 2) ++ s.imuAxes (g 3) (g 4) (g 5) ++ [g 6]

/-- A good sample; the hundredth in a row ends a loss, and the initialisation list is sent (R111, R112). -/
def State.imuGood (s : State) (p : ImuProfile) (m : Nat) (fr : List Byte) : State :=
  let s := s.updImu (fun i =>
    { i with missed := 0, good := i.good + 1, burst := none, sample := p.qs.map (imuCount fr), body := s.imuBody p fr,
             sampleMt := some m })
  let s := s.strapdown m s.nav.imu.body
  if s.nav.imu.lost && 100 ≤ s.nav.imu.good then
    ((s.updImu (fun i => { i with lost := false })).imuInit).raise 0x3004 subjModule
      [(128, 32, (s.cnt.getD 29 0).toNat)] false
  else s

def execImuBurstComplete (dt : Nat) (frame : List Byte) (s : State) : Out :=
  let s := s.advance dt
  .next (match s.nav.imu.burst with
    | some m =>
      if !s.navRuns || decide (s.now < s.nav.imu.readAt) then s
      else match imuParse (s.cfg.vals.blob .imuProfile 0) with
        | some p => if p.good frame then s.imuGood p m frame else s.imuMiss
        | none => s.imuMiss
    | none => s)

/-- IMU_INIT_RETRY (R112). -/
def execImuInitRetry (dt : Nat) (s : State) : Out :=
  let s := s.advance dt
  let due := match s.nav.imu.initAt with | some m => decide (m + 250000000 ≤ s.now) | none => true
  .next (if s.navRuns && s.nav.imu.lost && due then s.imuInit else s)

/-! ### Commands (R104, R126, R127) -/

/-- FIELD_ORIGIN takes effect: coverage not written back is lost, the cache is emptied. -/
def State.setOrigin (s : State) (w : Waiting) (lat lon height : Word) : State :=
  let ds := s.tiles.slots.filter (·.dirty)
  let hs := s.tiles.held.map (fun m => (m.tx, m.ty))
  let lost := (ds.map (fun x => (x.tx, x.ty)) ++ hs).dedup.length
  let s := (s.count 4 ((ds.map (·.marks)).sum + hs.length)).updTiles (fun t => { t with held := [] })
  let s := s.emptyCache.updNav (fun n => { n with origin := some (lat, lon, height), far := false })
  s.finish w .ok (resultOf [(128, 32, s.originCrc.toNat), (160, 16, lost)])

/-- The origin write-backs have all finished (R104). -/
def State.originDone (s : State) : State :=
  match s.waitingFor 0x38 with
  | some w =>
    match w.cmd with
    | .fieldOrigin _ _ lat lon height => if (w.aux.drop 2).isEmpty then s.setOrigin w lat lon height else s
    | _ => s
  | none => s

def execFieldOriginComplete (dt : Nat) (s : State) : Out := .next (s.advance dt).originDone

/-- FIELD_ORIGIN: a WRITEBACK is posted for every DIRTY tile. -/
def cmdFieldOrigin (s : State) : Verdict :=
  let (ds, s) := s.flushAll
  .wait false (ds.length :: 0 :: ds) s

def execFieldOrigin (dt : Nat) (h : Hdr) (lat lon height : Word) (s : State) : Out :=
  .next (s.command dt 0x38 (.fieldOrigin dt h lat lon height) h cmdFieldOrigin)

/-- The item of FUSION_STATUS (R380). -/
def State.fusionItem (s : State) : Item :=
  let n := s.nav
  let (a, b, c) := n.origin.getD (0, 0, 0)
  let rec_ := (n.outs.headD {}).record
  (1, [a, b, c, s.originCrc, wn n.source] ++ n.gyroBias.map w32 ++ n.accBias.map w32 ++ n.scales
    ++ [s.cnt.getD 29 0, s.cnt.getD 30 0, wn (n.spd.map (·.entries.toNat)).sum]
    ++ (List.range 23).map (fun i => wn (rec_ / 2 ^ (32 * (i + 1)))))

def execFusionStatus (dt : Nat) (h : Hdr) (rep : Ref) (s : State) : Out :=
  .next (s.command dt 0x39 (.fusionStatus dt h rep) h (fun s => report 0x39 h rep [s.fusionItem] s))

def execFusionReset (dt : Nat) (h : Hdr) (s : State) : Out :=
  .next (s.command dt 0x3A (.fusionReset dt h) h (fun s => .done .ok 0 s.fusionReset))

end Sys2Proof.Machine
end

