-- ==== Sys2Proof/Machine/Sextant.lean ====
section
/-! DEFINITION. Sextant (03): ports, channels and acquisition, measurement epochs with their consistency
tests, the clock model and TP0, and its commands (R55 to R98). -/

namespace Sys2Proof.Machine

def State.sx (s : State) : Sextant := s.nav.sx
def State.updClk (s : State) (f : Clk → Clk) : State := s.updSextant (fun x => { x with clk := f x.clk })
def State.updTrk (s : State) (ch : Nat) (f : TrkCh → TrkCh) : State :=
  s.updSextant (fun x => { x with chans := x.chans.map (fun c => if c.ch = ch then f c else c) })
def State.trk (s : State) (ch : Nat) : Option TrkCh := s.sx.chans.find? (fun c => c.ch = ch)
/-- Sextant works (R60, R425). -/
def State.sxRuns (s : State) : Bool := s.navRuns && s.cfgN .antennas ≠ 0

def State.port (s : State) (p : Nat) : Port := s.sx.ports.getD p {}
def State.updPort (s : State) (p : Nat) (f : Port → Port) : State :=
  s.updSextant (fun x => { x with ports := x.ports.modify p f })

/-! ### Ports (R59) -/

/-- PORT_FAULT: one of R59's conditions stops the port's channels; the third only marks measurements. -/
def State.portBad (s : State) (p cond : Nat) : State :=
  if !s.portOn p then s
  else if 2 ≤ cond then s.updPort p (fun x => { x with interference := true })
  else
    let was := (s.port p).fault
    let s := s.updPort p (fun x => { x with fault := true, since := s.now, cond := cond })
    let s := s.updSextant (fun x =>
      { x with chans := x.chans.map (fun c => if c.port = p then s.stopTrk c else c) })
    if was then s else s.raise 0xA001 p [(128, 8, 0), (136, 8, cond)] false

def execPortFault (dt port cond : Nat) (s : State) : Out :=
  let s := s.advance dt
  .next (if s.sxRuns then s.portBad port cond else s)

/-- PORT_GOOD: 100 ms without a fault condition, or a magnitude fraction back in range. -/
def execPortGood (dt port : Nat) (s : State) : Out :=
  let s := s.advance dt
  .next (if !s.sxRuns || !s.portOn port then s
    else if (s.port port).fault then
      if (s.port port).since + 100 * msTicks ≤ s.now then
        (s.updPort port (fun x => { x with fault := false })).raise 0xA001 port [(128, 8, 1), (136, 8, (s.port port).cond)] false
      else s
    else s.updPort port (fun x => { x with interference := false }))

/-! ### Allocation, acquisition and tracking (R64 to R74) -/

/-- The host excludes a satellite, or one signal of it (R66). -/
def State.hostExcludes (s : State) (sys svid sig : Nat) : Bool :=
  s.sx.excluded.any (fun e => e.1 = sys && e.2.1 = svid && (e.2.2 = 0 || e.2.2 = sig))

/-- The ports and signals that a satellite's full set takes (R65). -/
def State.fullSet (s : State) (v : SatView) : List (Nat × Nat) :=
  let sg := v.signals.filter (fun g => sxSignals.contains g && (BitVec.ofNat 64 (s.cfgN .signals)).getLsbD g
    && !s.hostExcludes v.sys v.svid g)
  sg.flatMap (fun g => (if lowerBand g then [1, 3] else [0, 2]).filterMap (fun p => if s.portOn p then some (p, g) else none))

/-- Give a satellite the channels it lacks, all or none (R65), of those in service. -/
def State.admitSat (s : State) (v : SatView) : State :=
  let has := fun (x : Nat × Nat) => s.sx.chans.any (fun c => c.sys = v.sys && c.svid = v.svid && c.port = x.1 && c.signal = x.2)
  let need := (s.fullSet v).filter (fun x => !has x)
  let idle := (List.range 128).filter (fun n => !s.sx.chans.any (fun c => c.ch = n) && !s.sx.badChans.contains n && !s.underTest n)
  if idle.length < need.length then s
  else
    let new := (need.zip idle).map (fun q =>
      s.tune { ch := q.2, port := q.1.1, signal := q.1.2, sys := v.sys, svid := v.svid, elev := v.elev, pred := v.doppler, half := dataOnly q.1.2 })
    s.updSextant (fun x => { x with chans := x.chans.map (fun c =>
      if c.sys = v.sys && c.svid = v.svid then { c with elev := v.elev, pred := v.doppler } else c) ++ new })

/-- Two degrees in BA32 counts. -/
abbrev twoDeg : Int := 23860929

/-- A channel that its satellite releases at an allocation: excluded by the host, or below the mask less 2 degrees. -/
def State.releases (s : State) (vs : List SatView) (c : TrkCh) : Bool :=
  s.hostExcludes c.sys c.svid c.signal
    || (match vs.find? (fun v => v.sys = c.sys && v.svid = c.svid) with
        | some v => decide (v.elev < s.cfgI .elevMask - twoDeg)
        | none => true)

/-- CHANNEL_ALLOCATION, once per second; new channels are handed over or searched. -/
def State.allocate (s : State) (vs : List SatView) : State :=
  let s := s.freeTrk (s.releases vs)
  let vs := (vs.filter (fun v => decide (s.cfgI .elevMask < v.elev))).mergeSort (fun a b => decide (b.elev ≤ a.elev))
  let s := (s.each vs State.admitSat).handOvers.assignSearches
  s.updSextant (fun x => { x with allocated := some s.now })

def execChannelAllocation (dt : Nat) (sats : List SatView) (s : State) : Out :=
  let s := s.advance dt
  let due := match s.sx.allocated with | some m => decide (m + 250000000 ≤ s.now) | none => true
  .next (if s.sxRuns && due then s.allocate sats else s)

/-- ACQUISITION_DETECTION: an engine finds the upper-band signal on antenna A that it searches, within its window,
and starts channel `ch`, in service (R98). -/
def execAcquisitionDetection (dt engine signal svid ch : Nat) (codePhase doppler : Int) (s : State) : Out :=
  let s := s.advance dt
  let ok := match s.trk ch with
    | some c => c.port = 0 && c.signal = signal && c.svid = svid && !c.locked && !s.underTest ch
    | none => false
  let e := s.sx.engines.getD engine { bad := true }
  let sought := e.det.isNone && (match e.search with
    | some q => q.ch = ch && q.signal = signal && q.svid = svid && decide ((doppler - q.centreHz).natAbs ≤ q.windowHz)
    | none => false)
  .next (if s.sxRuns && ok && !e.bad && !(s.port 0).fault && sought then
      (s.updSextant (fun x => { x with engines := x.engines.modify engine (fun e =>
        { e with det := some { signal := signal, svid := svid, ch := ch, mt := s.now, codePhase := codePhase, doppler := doppler } }) })).updTrk ch
        (fun c => s.tune { c with begun := true, code := codePhase, doppler := 256 * doppler, car := 256 * doppler, feed := 0 })
    else s)

/-- ACQUISITION_CONFIRM_TIMEOUT: 200 ms without a tracking channel's confirmation (R67): the detection is
dropped and its channel waits for a search again. -/
def execAcquisitionConfirmTimeout (dt engine : Nat) (s : State) : Out :=
  let s := s.advance dt
  .next (match (s.sx.engines.getD engine {}).det with
    | some d =>
      if d.mt + 200 * msTicks ≤ s.now then
        (s.updSextant (fun x => { x with engines := x.engines.modify engine (fun e => { e with det := none, search := none }) })).updTrk d.ch
          (fun c => if c.locked then c else s.stopTrk c)
      else s
    | none => s)

/-- HANDOVER_LOCK_TIMEOUT (R68). -/
def execHandoverLockTimeout (dt ch : Nat) (s : State) : Out :=
  let s := s.advance dt
  .next (s.freeTrk (fun c => c.ch = ch && !c.locked
    && (match c.handed with | some m => decide (m + 500 * msTicks ≤ s.now) | none => false)))

/-- LOW_CN0_RELEASE: C/N0 has stayed below 24 dB-Hz for 500 ms (R74). -/
def execLowCn0Release (dt ch : Nat) (s : State) : Out :=
  let s := s.advance dt
  .next (if s.sxRuns && !s.underTest ch then s.freeTrk (fun c => c.ch = ch) else s)

/-- BOC_JUMP: VE or VL has exceeded P for 20 integrations, and the replica moves half a chip (R72). -/
def execBocJump (dt ch : Nat) (late : Bool) (s : State) : Out :=
  let s := s.advance dt
  .next (s.updTrk ch (fun c =>
    if s.sxRuns && bocSignal c.signal && !s.underTest ch then
      { c with jumpTill := some (s.now + 250000000), moved := c.moved + (if late then 1 else -1),
               code := c.code + (if late then 32768 else -32768) }
    else c))

/-- Phase lock is declared: the assist is dropped, the next measurement carries SLIP, a detection is
confirmed, and the satellite's other channels are handed over (R67, R68, R73, R74). -/
def State.gainLock (s : State) (c : TrkCh) : State :=
  let s := s.updTrk c.ch (fun c =>
    s.tune { c with locked := true, fll := false, slip := true, half := dataOnly c.signal, slipMt := s.now, handed := none,
                      turn := 0 })
  let s := s.updSextant (fun x => { x with engines := x.engines.map (fun e =>
    match e.det with | some d => if d.ch = c.ch then { e with det := none, search := none } else e | none => e) })
  if c.port ≠ 0 then s else s.handOvers

/-- PHASE_LOCK: the indicator of R74, in thousandths, of a channel that has been started. -/
def execPhaseLock (dt ch : Nat) (indicator : Int) (s : State) : Out :=
  let s := s.advance dt
  .next (match s.trk ch with
    | some c =>
      if !s.sxRuns || (s.port c.port).fault || !c.begun || s.underTest ch then s
      else if !c.locked && 800 ≤ indicator then s.gainLock c
      else if c.locked && indicator < 600 then s.updTrk ch (fun c => s.tune { c with locked := false, fll := true })
      else s
    | none => s)

/-- CORR_SWITCH (R83): to the standby when the active stream has been silent, back when the primary
has been good, for CORR_SWITCH. -/
def State.corrSwap (s : State) : State :=
  let c := s.sx.corr
  let gap := s.cfgN .corrSwitch * 1000 * msTicks
  let pri := s.corrPrimary
  let get := fun (can : Bool) => if can then c.can else c.ring
  let swap := if c.onCan = pri then decide ((get pri).lastValid + gap ≤ s.now)
    else match (get pri).goodFrom with
      | some m => decide (m + gap ≤ s.now) && decide (s.now < (get pri).lastValid + gap)
      | none => false
  if 2 ≤ s.cfgN .corrSource && swap then
    let s := s.updCorr (fun c => { c with onCan := !c.onCan, ring := { c.ring with part := [] }, can := { c.can with part := [] } })
    s.raise 0xA002 subjModule [(128, 1, b2n s.sx.corr.onCan)] false
  else s

def execCorrSwitch (dt : Nat) (s : State) : Out :=
  let s := s.advance dt
  .next (if s.sxRuns then s.corrSwap else s)

/-! ### Consistency tests (R85, R86) -/

/-- A measurement under test: its channel, what was measured, the test failed, and its phase. -/
structure Meas where
  c : TrkCh := {}
  o : MeasObs := {}
  code : Nat := 0
  slip : Bool := false
  cp : Int := 0
  /-- pseudorange as reported, 2^-10 m -/
  pr : Int := 0
  deriving DecidableEq, Repr, Inhabited

/-- The median of numbers.  DESIGN CHOICE (log 135): the median of none is 0, so R85's rise test stands where no
other satellite is measured. -/
def medianOf (xs : List Int) : Rat :=
  let ys := xs.mergeSort (fun a b => decide (a ≤ b))
  ((ys.getD ((ys.length - 1) / 2) 0 : Rat) + (ys.getD (ys.length / 2) 0 : Rat)) / 2

/-- What R85 states of a pair of measurements one epoch apart: the last PR and CP of a channel that was measured at the
epoch before this one. -/
def State.lastMeas (s : State) (c : TrkCh) : Option (Int × Int) :=
  match c.prev with | some (m, pr, cp) => if some m = s.sx.lastEpoch then some (pr, cp) else none | none => none

def sameSat (a b : TrkCh) : Bool := a.sys = b.sys && a.svid = b.svid
def sameAnt (a b : TrkCh) : Bool := a.port / 2 = b.port / 2

/-- Rise of C/N0 within 1 s, 0.25 dB: from the least of that second. -/
def State.rise (s : State) (m : Meas) : Int :=
  let past := m.c.power.filter (fun p => decide (s.now ≤ p.1 + 250000000))
  (m.o.cn0 : Int) - past.foldl (fun a p => min a (p.2 : Int)) m.o.cn0

/-- Test 5: power plausibility, C/N0 in 0.25 dB. -/
def State.badPower (s : State) (ms : List Meas) (m : Meas) : Bool :=
  let rises := (ms.filter (fun x => !sameSat x.c m.c)).map s.rise
  let band := (ms.filter (fun x => lowerBand x.c.signal = lowerBand m.c.signal)).map (fun x => (x.o.cn0 : Int))
  decide (4 * s.cfgN .t5Cn0Max < m.o.cn0)
    || (decide (4 * s.cfgI .t5Rise < s.rise m) && decide (medianOf rises < 8))
    || decide (medianOf band + 48 < (m.o.cn0 : Rat))

/-- Change of PR less that of the carrier since the last epoch, 2^-10 m.  DESIGN CHOICE (log 150): PR in the tests of
R85 is the code's, before carrier smoothing. -/
def State.codeMinusCarrier (s : State) (m : Meas) : Option Rat :=
  (s.lastMeas m.c).map (fun p => ((m.o.pr : Int) - p.1 : Int) - cycleLen m.c.signal * (m.cp - p.2 : Int))

/-- Test 6: jump plausibility, lengths in 2^-10 m and Doppler in 2^-8 Hz. -/
def State.badJump (s : State) (m : Meas) : Bool :=
  (!m.slip && (match s.codeMinusCarrier m with | some d => decide ((1024 * s.cfgN .t6Jump : Nat) < ratAbs d) | none => false))
    || decide (5120 < m.o.dopErr.natAbs)

/-- Test 2: receiver clock. -/
def State.badClock (s : State) (m : Meas) : Bool :=
  decide (max (1024 * s.cfgN .t2Min) (5 * m.o.prSigma) < m.o.prErr.natAbs)

/-- The measurements of a satellite at an antenna on the upper and on the lower band, given one of them. -/
def bandPair (ms : List Meas) (m : Meas) : Option (Meas × Meas) :=
  (ms.find? (fun x => sameSat x.c m.c && sameAnt x.c m.c && lowerBand x.c.signal ≠ lowerBand m.c.signal)).map
    (fun x => if lowerBand m.c.signal then (x, m) else (m, x))

/-- Departure of PR1 - PR5 from the mean of its last 60 s, 2^-10 m; none before the first (log 150). -/
def State.geoCode (s : State) (u l : Meas) : Option Rat :=
  let past := (u.c.geo.filter (fun p => decide (s.now ≤ p.1 + 15000000000))).map (·.2)
  if past.isEmpty then none
  else some (((u.o.pr : Int) - (l.o.pr : Int) : Int) - (past.sum : Rat) / (past.length : Rat))

/-- D5 - D1 x 1176.45 / 1575.42, 2^-8 Hz. -/
def geoDopp (u l : Meas) : Rat := (l.o.doppler : Rat) - (u.o.doppler : Rat) * 117645 / 157542

/-- Change of lambda1 CP1 - lambda5 CP5 since the last epoch, 2^-10 m; none where either phase has a SLIP in
between (log 150). -/
def State.geoPhase (s : State) (u l : Meas) : Option Rat :=
  if u.slip || l.slip then none
  else match s.lastMeas u.c, s.lastMeas l.c with
    | some p, some q => some (cycleLen u.c.signal * (u.cp - p.2 : Int) - cycleLen l.c.signal * (l.cp - q.2 : Int))
    | _, _ => none

/-- Test 3: code or Doppler across the two bands. -/
def State.badCross (s : State) (ms : List Meas) (m : Meas) : Bool :=
  match bandPair ms m with
  | some (u, l) =>
    (match s.geoCode u l with | some g => decide ((1024 * s.cfgN .t3Code : Nat) < 65536 * ratAbs g) | none => false)
      || decide ((256 * s.cfgN .t3Dopp : Nat) < 65536 * ratAbs (geoDopp u l))
  | none => false

/-- Test 3 on the carrier: both phases restart. -/
def State.phaseStep (s : State) (ms : List Meas) (m : Meas) : Bool :=
  match (bandPair ms m).bind (fun p => s.geoPhase p.1 p.2) with
  | some g => decide ((1024 * s.cfgN .t3Slip : Nat) < 65536 * ratAbs g)
  | none => false

/-- The between-antenna carrier single difference of a measurement on antenna B with the locked one of the same signal
on antenna A, and its prediction, in cycles. -/
def singleDiff (ms : List Meas) (m : Meas) : Option (Rat × Rat) :=
  match ms.find? (fun x => sameSat x.c m.c && x.c.signal = m.c.signal && x.c.port + 2 = m.c.port && x.c.locked), m.o.sdPred with
  | some a, some p => if m.c.locked then some (((m.cp - a.cp : Int) : Rat) / 65536, (p : Rat) / 1000) else none
  | _, _ => none

/-- Departure of two phases in cycles.  DEDUCED (log 151): a phase accumulates from its own start of lock (R76), so
only its part of a cycle counts. -/
def cycleOff (a b : Rat) : Rat := let d := a - b; ratAbs (d - (d + 1 / 2).floor)

/-- Test 4: with antenna B and a fixed heading, a satellite one of whose single differences departs, or
every satellite when the solved baseline's length does. -/
def State.badAntenna (s : State) (o : EpochObs) (ms : List Meas) (m : Meas) : Bool :=
  s.cfgN .antennas = 2 && decide (2 ≤ m.c.port) && decide ((s.nav.outs.headD {}).hdgSrc = 1)
    && (ms.any (fun x => sameSat x.c m.c && sameAnt x.c m.c
          && (match singleDiff ms x with | some d => decide ((3 / 20 : Rat) < cycleOff d.1 d.2) | none => false))
      || (match o.baseLen with | some d => decide ((s.cfgN .t4Base : Rat) < ratAbs ((d : Rat) - s.baseline)) | none => false))

/-- The first test a measurement fails before the residual test, 0 if none. -/
def State.testCode (s : State) (o : EpochObs) (ms : List Meas) (m : Meas) : Nat :=
  if s.badPower ms m then 5
  else if s.badJump m then 6
  else if s.badClock m then 2
  else if s.badCross ms m then 3
  else if s.badAntenna o ms m then 4 else 0

/-- PR is usable: no BOC jump within 1 s (R72). -/
def State.prValid (s : State) (c : TrkCh) : Bool :=
  match c.jumpTill with | some m => decide (m ≤ s.now) | none => true

/-- A measurement enters the solution. -/
def State.solves (s : State) (m : Meas) : Bool :=
  m.code = 0 && m.c.excl = 0 && decide (s.cfgN .cn0Mask ≤ m.o.cn0) && s.prValid m.c

/-- The residual test: the worst measurement above T1_K is excluded and the solution recomputed. -/
def State.residualTest (s : State) : Nat → List (List Nat) → List Meas → List Meas
  | 0, _, ms => ms
  | _ + 1, [], ms => ms
  | k + 1, r :: rs, ms =>
    let xs := (ms.zip r).zipIdx.filter (fun q => s.solves q.1.1)
    match xs.foldl (fun (w : Option (Nat × Nat)) q => match w with
        | some (_, v) => if v < q.1.2 then some (q.2, q.1.2) else w
        | none => some (q.2, q.1.2)) none with
    | some (i, v) =>
      if s.cfgN .t1K * 1000 < v * 65536 then s.residualTest k rs (ms.modify i (fun m => { m with code := 1 })) else ms
    | none => ms

/-- A phase restarted from the pseudorange (R76), in 2^-16 cycle. -/
def restartPhase (m : Meas) : Int := roundRat ((m.o.pr : Rat) * 64 * 10000 * (carrier m.c.signal : Rat) / 299792458)

/-- A measurement whose phase restarts, with SLIP: its channel goes on from there (R76). -/
def Meas.restart (m : Meas) : Meas :=
  { m with slip := true, cp := restartPhase m, c := { m.c with turn := restartPhase m - m.o.cp } }

/-- A phase that would overflow its field restarts (R76). -/
def Meas.fit (m : Meas) : Meas := if decide (m.cp < -(2 ^ 47) ∨ 2 ^ 47 ≤ m.cp) then m.restart else m

/-- Phases that test 3 on the carrier restarts, on both signals of the satellite at that antenna (R85). -/
def State.restarted (s : State) (ms : List Meas) (m : Meas) : Meas := if s.phaseStep ms m then m.restart else m

/-- The measurements of an epoch, of channels started and in service. -/
def State.measured (s : State) (o : EpochObs) : List Meas :=
  o.meas.filterMap (fun x => match s.trk x.ch with
    | some c =>
      if s.portOn c.port && !(s.port c.port).fault && c.begun && !s.underTest c.ch then
        some (({ c := s.track c x, o := x, slip := c.slip, cp := x.cp + c.turn, pr := x.pr } : Meas).fit) else none
    | none => none)

/-- A measurement whose pseudorange is carrier-smoothed (R76). -/
def State.smoothMeas (s : State) (m : Meas) : Meas :=
  let x := s.smoothed m.c m.o.pr m.cp m.slip
  { m with c := { m.c with smooth := x }, pr := match x with | some (_, p, _) => roundRat p | none => m.pr }

/-- The measurements of an epoch, tested in R85's order: the carrier part of test 3 sets SLIP after the
jump test has been judged. -/
def State.testedMeas (s : State) (o : EpochObs) : List Meas :=
  let ms := s.measured o
  let ms := ms.map (fun m => { s.restarted ms m with code := s.testCode o ms m })
  s.residualTest 8 o.residuals (ms.map s.smoothMeas)

/-- Exclusion of a channel after its tests: excluded at once, readmitted after READMIT (R85, R86). -/
def State.exclude (s : State) (m : Meas) : TrkCh :=
  let c := m.c
  if m.code ≠ 0 then { c with excl := m.code, passSince := none }
  else if c.excl = 0 then c
  else
    let t := c.passSince.getD s.now
    if t + s.cfgN .readmit * 250000000 / 65536 ≤ s.now then { c with excl := 0, passSince := none }
    else { c with passSince := some t }

/-- Keep on a channel what the tests of the epochs that follow compare with (R85). -/
def State.keepPast (s : State) (ms : List Meas) (m : Meas) (c : TrkCh) : TrkCh :=
  { c with prev := some (s.now, m.o.pr, m.cp),
           power := (s.now, m.o.cn0) :: c.power.filter (fun p => decide (s.now ≤ p.1 + 250000000)),
           geo := match if lowerBand c.signal then none else bandPair ms m with
             | some (u, l) => (s.now, (u.o.pr : Int) - (l.o.pr : Int)) :: c.geo.filter (fun p => decide (s.now ≤ p.1 + 15000000000))
             | none => c.geo }

/-- Keep the tests' results: channels, counts, SLIP and its instant. -/
def State.keepTests (s : State) (ms : List Meas) : List Meas × State :=
  let ms := ms.map (fun m =>
    let c := s.keepPast ms m (s.exclude m)
    { m with c := { c with half := c.half && !m.o.preamble, slipMt := if m.slip then s.now else c.slipMt } })
  let s := s.each ms (fun s m => if m.code = 0 then s else s.count (16 + m.code))
  (ms, s.each ms (fun s m => s.updTrk m.c.ch (fun _ => { m.c with slip := false })))

/-- Satellites that remain in the solution. -/
def State.satsLeft (s : State) (ms : List Meas) : Nat :=
  ((ms.filter s.solves).map (fun m => (m.c.sys, m.c.svid))).dedup.length

/-- No solution is formed (R86). -/
def State.noSolution (s : State) (o : EpochObs) (ms : List Meas) : Bool :=
  decide (ms.length < 3 * (ms.filter (fun m => m.c.excl ≠ 0)).length) || decide (s.satsLeft ms < 5) || o.kind == .none

/-! ### Single-transmitter test (R87) -/

/-- The shortest arc of a cycle that holds phases: what they spread by when a term common to all is removed. -/
def arcSpread (xs : List Rat) : Rat :=
  let ys := (xs.map (fun x => x - (x.floor : Rat))).mergeSort (fun a b => decide (a ≤ b))
  1 - (List.zipWith (fun a b => b - a) ys (ys.tail ++ [ys.headD 0 + 1])).foldl max 0

/-- The spread that is left of the single differences of at least 4 satellites, and that of their predictions, in
cycles.  DESIGN CHOICE (log 151): on the upper band, where every satellite has the same wavelength. -/
def singleSpread (ms : List Meas) : Option (Rat × Rat) :=
  let ds := (ms.filter (fun m => !lowerBand m.c.signal)).filterMap (singleDiff ms)
  let ps := ds.map (·.2)
  if ds.length < 4 then none else some (arcSpread (ds.map (·.1)), ps.foldl max (ps.headD 0) - ps.foldl min (ps.headD 0))

/-- The single-transmitter test of an epoch.  DESIGN CHOICE (log 136): SPOOF_SUSPECT stays set where a firing takes
antenna B out of use. -/
def State.spoofTest (s : State) (ms : List Meas) : State :=
  let x := s.sx
  let t := fun (hit : Bool) => if hit then x.spoofRun + 1 else 0
  let set := fun (v : Bool) (n : Nat) =>
    let s := s.updSextant (fun x => { x with spoofRun := n, spoof := v })
    if v ≠ x.spoof then s.raise 0xA004 subjModule [(128, 1, b2n v)] v else s
  match if s.cfgN .antennas = 2 then singleSpread ms else none with
  | none => set x.spoof 0
  | some (left, pred) =>
    let n := if x.spoof then t (decide ((1 / 4 : Rat) < left))
      else t (decide ((1 / 4 : Rat) < pred) && decide (65536 * left < (s.cfgN .t4Spoof : Rat)))
    if 10 ≤ n then set (!x.spoof) 0 else set x.spoof n

/-! ### Solutions for fusion (R119) -/

/-- Corrections younger than CORR_AGE_MAX are held. -/
def State.corrHeld (s : State) : Bool :=
  match s.sx.corr.lastUsed with | some m => decide (s.now ≤ m + s.cfgN .corrAgeMax * 250000000) | none => false

/-- The level of an epoch's solution (R80, R119). -/
def State.solLevel (s : State) (o : EpochObs) : Nat :=
  let young := s.corrHeld && (match o.corrAgeMs with | some a => decide (a ≤ 1000 * s.cfgN .corrAgeMax) | none => false)
  let rtk := decide (o.baseKm ≤ s.cfgN .rtkBaseMax) && s.sx.corr.station.isSome
  let fixed := decide (s.cfgN .ratioMin * 10 ≤ o.ratio * 65536) && decide (5 ≤ o.fixedSats) && !s.sx.corr.refChanged
  match o.kind with
  | .none => 0
  | .single => 2
  | .dgnss => if young then 3 else 2
  | _ => if !young then 2 else if !rtk then 3 else if fixed then 5 else 4

/-- Pass a solution to fusion, or none. -/
def State.passSol (s : State) (o : EpochObs) (ok : Bool) : State :=
  if !ok then s.updNav (fun n => { n with runs := [0, 0, 0, 0] })
  else
    let l := s.solLevel o
    let x : Sol := { epoch := s.now, ft := o.ft, level := l, x := o.px, y := o.py, z := o.pz, ve := o.ve, vn := o.vn, vu := o.vu, yawRate := o.yawRate,
                     dual := o.dual, cog := o.cog }
    let s := s.updNav (fun n =>
      { n with sol := some x, sols := x :: n.sols.filter (fun y => decide (s.now ≤ y.epoch + 250000000)),
               runs := n.runs.zipIdx.map (fun q => if q.2 + 2 ≤ l then q.1 + 1 else 0) })
    if 4 ≤ l then s.updCorr (fun c => { c with refChanged := false }) else s

/-! ### The clock model (R88 to R94) -/

/-- FT at an MT, not rounded. -/
def State.ftExact (s : State) (m : Nat) : Rat :=
  let p := s.pairAt m
  (p.ftBase : Rat) + ((m : Rat) - p.mtBase) * 4 * (1 + (p.ftRate : Rat) / 2 ^ 40)

/-- The multiple of a period nearest to a time. -/
def nearest (period : Nat) (t : Rat) : Int := roundRat (t / (period : Rat)) * period

/-- Period of TP0, ns. -/
def State.tpNs (s : State) : Nat := s.cfgN .tpPeriod * 1000000

/-- Publish a pair from this instant on: no step, the rate given. -/
def State.rerate (s : State) (rate : Int) (change : Nat) : State :=
  s.publish { mtBase := s.now, ftBase := s.ftAt s.now, ftRate := rate } change

/-- FT becomes valid (R88 to R90): compensated for ANT_DELAY_A and shifted by TP_OFFSET.  A firing that
changes either field takes effect on FT here, when FT next becomes valid (log 88). -/
def State.ftFirst (s : State) (o : EpochObs) : State :=
  let ft := o.ft + s.cfgI .antDelayA + s.cfgI .tpOffset
  let p : Int := s.tpNs
  let s := s.updTime (fun t => { t with ftValid := true, clock := .locked, ahead := [] })
  let s := s.updClk (fun c =>
    { c with tpOff := false, realign := true, rate := o.ftRate, firstPulse := some (-((-(ft + 500000000)) / p) * p), lastPulse := none })
  s.publish { mtBase := s.now, ftBase := ft, ftRate := o.ftRate } 0

/-- The phase error after COAST (R93): a slew, or a step decided for the next FT whole second. -/
def State.removeError (s : State) (o : EpochObs) : State :=
  let e := o.phaseErr
  let s := s.updClk (fun c => { c with rate := o.ftRate, again := false })
  if e.natAbs ≤ 300 then
    let d : Int := if e < 0 then 54976 else if e = 0 then 0 else -54976
    let s := s.updTime (fun t => { t with clock := .slew })
    (s.updClk (fun c => { c with slew := some (e, s.now + e.natAbs * 5000000) })).rerate (o.ftRate + d) 2
  else
    let ft := s.ftExact s.now
    let sec : Rat := ((ft / 1000000000).floor + 1 : Int) * 1000000000
    let m := s.now + ((sec - ft) / (4 * (1 + ((s.pairAt s.now).ftRate : Rat) / 2 ^ 40))).ceil.toNat
    (s.updTime (fun t => { t with clock := .locked })).updClk (fun c => { c with step := some (e, m) })

/-- COAST ends: COAST_END, and the error measured is removed (R93). -/
def State.coastEnd (s : State) (o : EpochObs) : State :=
  (s.raise 0xA006 subjModule [(128, 32, twos 32 o.phaseErr)] false).removeError o

/-- The clock model after an epoch; `ok`, it gave a valid solution.  A step decided is dropped when
solutions are lost before its second, and decided afresh on their return, with or without a COAST
between (R94, log 89). -/
def State.clockEpoch (s : State) (o : EpochObs) (ok : Bool) : State :=
  if !ok then s.updClk (fun c => { c with run := 0, step := none, again := c.again || c.step.isSome })
  else
    let s := s.updClk (fun c => { c with run := c.run + 1, last := some s.now, u0 := o.unc, ru := o.ru })
    let s := s.updTime (fun t => { t with ftUnc := o.unc })
    let run := s.sx.clk.run
    if !s.time.ftValid then (if 3 ≤ run then s.ftFirst o else s)
    else match s.time.clock with
      | .coast => if 3 ≤ run then s.coastEnd o else s
      | .slew => s.updClk (fun c => { c with rate := o.ftRate })
      | .locked =>
        if s.sx.clk.again then (if 3 ≤ run then s.removeError o else s)
        else if s.sx.clk.step.isSome || s.sx.clk.rate = o.ftRate then s
        else (s.updClk (fun c => { c with rate := o.ftRate })).rerate o.ftRate 1

/-- COAST_START: 1.0 s after the last valid solution; a slew stops where it has reached (R92, R94). -/
def execCoastStart (dt : Nat) (s : State) : Out :=
  let s := s.advance dt
  let due := match s.sx.clk.last with | some m => decide (m + 250000000 ≤ s.now) | none => false
  .next (if s.navRuns && s.time.ftValid && s.time.clock ≠ .coast && due then
      let s := if s.sx.clk.slew.isSome then s.rerate s.sx.clk.rate 1 else s
      let s := s.updClk (fun c => { c with slew := none, step := none, again := false, run := 0 })
      (s.updTime (fun t => { t with clock := .coast })).raise 0xA005 subjModule [] false
    else s)

/-- FT_STEP: the whole second of a step decided has come (R93).  With e negative FT passes over that second,
and its pulse is the one released before the step, if it has been (log 90). -/
def execFtStep (dt : Nat) (s : State) : Out :=
  let s := s.advance dt
  .next (match s.sx.clk.step with
    | some (e, m) =>
      if s.navRuns && s.time.ftValid && m ≤ s.now then
        let p : FtPair := { mtBase := m, ftBase := s.ftAt m - e, ftRate := s.sx.clk.rate }
        let s := (s.updClk (fun c => { c with step := none, timestep := true, stepped := true })).publish p 3 (-e)
        s.raise 0xA007 subjModule [(128, 64, twos 64 (-e))] true
      else s
    | none => s)

/-- SLEW_COMPLETE: e is removed (R93). -/
def execSlewComplete (dt : Nat) (s : State) : Out :=
  let s := s.advance dt
  .next (match s.sx.clk.slew with
    | some (_, m) =>
      if s.navRuns && s.time.ftValid && m ≤ s.now then
        let s := (s.updClk (fun c => { c with slew := none })).updTime (fun t => { t with clock := .locked })
        s.rerate s.sx.clk.rate 1
      else s
    | none => s)

/-- COAST_UNCERTAINTY_LIMIT: U(t) exceeds TP_UNC_MAX (R92). -/
def execCoastUncertaintyLimit (dt : Nat) (s : State) : Out :=
  let s := s.advance dt
  .next (if s.navRuns && s.time.ftValid && s.time.clock = .coast && decide ((s.cfgN .tpUncMax : Rat) < s.ftU s.now) then
      (s.updClk (fun c => { c with run := 0 })).ftInvalid
    else s)

/-- The TP0_PULSE record (R393). -/
def State.tpRecord (s : State) (ft : Int) (qerr : Int) : Desc :=
  descOf [(0, 8, 2), (32, 2, s.time.clock.code), (34, 1, b2n s.sx.clk.stepped), (48, 16, twos 16 qerr),
    (64, 64, s.now), (128, 64, twos 64 ft), (192, 32, (roundRat (s.ftU s.now)).toNat)]

/-- An instant is the tick nearest to an ideal FT in ns: the sub-tick difference, ideal minus actual, in ps. -/
def State.subTick (s : State) (ideal : Int) : Option Int :=
  let q := ((ideal : Rat) - s.ftExact s.now) * 1000
  if ratAbs q ≤ 2000 then some (roundRat q) else none

/-- FT of the falling edge that is due: TP_WIDTH after the last pulse (R90). -/
def State.tpFall (s : State) : Option Int :=
  if s.sx.clk.tp0 then s.sx.clk.lastPulse.map (fun l => l + s.cfgI .tpWidth * 1000) else none

/-- TP0_PULSE: the tick nearest to an edge of TP0: a rise at an FT multiple of TP_PERIOD, reported, or the
fall TP_WIDTH after it (R90, R91).  DESIGN CHOICE (log 137): a BROWNOUT that stops Sextant in a pulse leaves TP0
high until its work goes on. -/
def execTp0Pulse (dt : Nat) (s : State) : Out :=
  let s := s.advance dt
  let c := s.sx.clk
  let ft := s.ftExact s.now
  let m := nearest s.tpNs ft
  let new := (match c.firstPulse with | some f => decide (f ≤ m) | none => false)
    && (match c.lastPulse with | some l => decide (l < m) | none => true)
  .next (if !s.navRuns || !s.time.ftValid || c.tpOff then s
    else match s.tpFall.bind s.subTick, s.subTick m with
      | some _, _ => (s.updClk (fun c => { c with tp0 := false })).updTime (fun t => { t with tpLastMt := s.now })
      | none, some q =>
        if new then
          let s := s.formTel 7 [s.tpRecord m q]
          (s.updClk (fun c => { c with lastPulse := some m, stepped := false, tp0 := true })).updTime (fun t => { t with tpLastMt := s.now })
        else s
      | none, none => s)

/-! ### The RAW ring (R77 to R79) -/

/-- The epoch header, FLAGS apart (R78).  The first epoch after BOOT has EPOCH_SEQ 0 (log 84). -/
def State.rawHeader (s : State) (o : EpochObs) (n : Nat) (noSol : Bool) : Desc :=
  let t := s.time
  descOf [(0, 8, 1), (16, 16, s.sx.seq.toNat), (32, 64, s.now), (96, 64, if t.ftValid then twos 64 (s.ftAt s.now) else 2 ^ 64 - 1),
    (160, 8, n), (168, 1, b2n t.ftValid), (169, 1, b2n s.sx.clk.timestep), (170, 1, b2n (t.clock == .coast)), (171, 1, b2n s.corrHeld),
    (172, 1, b2n s.sx.spoof), (173, 1, b2n s.sx.clk.realign), (174, 1, b2n noSol), (176, 32, twos 32 o.clkResid),
    (208, 16, s.sx.dropped), (224, 8, s.cfgN .epochRate)]

/-- The MP field: M in mm; the spec gives no value for an M that does not fit its 16 bits (log 91). -/
def State.mpField (s : State) (c : TrkCh) : Int :=
  let m := s.multipath c.signal c.taps
  if decide (-(2 ^ 15) ≤ m ∧ m < 2 ^ 15) then m else Config.freeInt m.natAbs

/-- One measurement, FLAGS apart (R79).  DESIGN CHOICE (log 133): LOCK of a channel that has had no SLIP counts
from MT 0. -/
def State.rawMeas (s : State) (m : Meas) : Desc :=
  let c := m.c
  let jump := !s.prValid c
  descOf [(0, 8, 2), (16, 16, s.sx.seq.toNat), (32, 8, c.signal), (40, 8, c.svid), (48, 7, c.ch), (56, 2, c.port), (64, 40, twos 40 m.pr),
    (104, 48, twos 48 m.cp), (152, 24, twos 24 m.o.doppler), (176, 8, m.o.cn0), (184, 16, min 65535 ((s.now - c.slipMt) / 2500000)),
    (200, 16, twos 16 (s.mpField c)), (216, 8, min 255 m.o.prStd), (224, 8, min 255 m.o.cpStd), (232, 1, b2n (!jump)), (233, 1, b2n c.locked),
    (234, 1, b2n c.half), (235, 1, b2n m.slip), (236, 1, b2n c.loops.dd), (237, 1, b2n (c.excl ≠ 0)), (238, 3, c.excl),
    (241, 1, b2n (!dataOnly c.signal)), (242, 1, b2n c.smooth.isSome), (243, 1, b2n jump), (244, 1, b2n (s.port c.port).interference)]

/-- Write an epoch whole to the RAW ring, or drop it. -/
def State.writeRaw (s : State) (o : EpochObs) (ms : List Meas) (noSol : Bool) : State :=
  if !s.sx.raw then s
  else if !s.canWrite 6 (1 + ms.length) then
    ((s.count 28).updRing 6 (fun r => { r with loss := true })).updSextant (fun x => { x with dropped := min 65535 (x.dropped + 1) })
  else
    let r := s.ring 6
    let body := (ms.map s.rawMeas).zipIdx.map (fun q =>
      q.1 ||| BitVec.ofNat 256 (({ r with mod := r.mod + BitVec.ofNat 32 (q.2 + 1), loss := false } : Ring).flags false <<< 8))
    (s.writeRec 6 (s.rawHeader o ms.length noSol :: body) false).updSextant (fun x => { x with dropped := 0 })

/-- An instant of the epoch grid (R75): of MT, or of FT once valid, within the stamp bound of R17. -/
def State.epochDue (s : State) : Bool :=
  let rate := max 1 (s.cfgN .epochRate)
  let on := if s.time.ftValid then
      decide (ratAbs (s.ftExact s.now - (nearest (1000000000 / rate) (s.ftExact s.now) : Rat)) ≤ 12)
    else decide (s.now % (250000000 / rate) = 0)
  on && (match s.sx.lastEpoch with | some m => decide (m + 125000000 / rate ≤ s.now) | none => true)

/-- Orbits demodulated from the data components replace those held (R63, R97). -/
def State.skyOrbits (s : State) (ms : List Meas) : State :=
  let put := fun (a : Aid) (n : NavMsg) => a.hold { eph := n.eph, sky := true, msg := n.msg, body := n.body }
  s.updSextant (fun x => { x with aid := (ms.filterMap (fun m => m.o.nav)).foldl put x.aid })

/-- One measurement epoch. -/
def State.epoch (s : State) (o : EpochObs) : State :=
  let s := s.takeSamples o.samples
  let (ms, s) := s.keepTests (s.testedMeas o)
  let noSol := s.noSolution o ms
  let s := (s.skyOrbits ms).spoofTest ms
  let s := s.writeRaw o ms noSol
  let s := s.updSextant (fun x =>
    { x with seq := x.seq + 1, lastEpoch := some s.now, clk := { x.clk with timestep := false, realign := false } })
  let ok := !noSol && !s.sx.spoof
  (s.passSol o ok).clockEpoch o (ok && decide (5 ≤ o.usedSats))

def execMeasurementEpoch (dt : Nat) (o : EpochObs) (s : State) : Out :=
  let s := s.advance dt
  .next (if s.sxRuns && s.epochDue then s.epoch o else s)

/-! ### Commands (R96, R97) -/

/-- Sextant commands but SX_STATUS need an antenna (R60). -/
def State.sxCmd (s : State) (k : Verdict) : Verdict := checks s (s.cfgN .antennas ≠ 0) true none none k

/-- The start that the host's aiding allows (R67, R69). -/
def Aid.start (a : Aid) : Nat :=
  match a.time, a.pos with
  | some (_, u, _), some (_, _, _, v) =>
    if a.orbits.any (fun o => o.eph && !o.sky) && u ≤ 1000000 && v ≤ 10000000 then 2
    else if a.orbits.any (fun o => !o.sky) && u ≤ 2000000000 && v ≤ 100000000 then 1 else 0
  | _, _ => 0

def State.updAid (s : State) (f : Aid → Aid) : State :=
  s.updSextant (fun x => let a := f x.aid; { x with aid := a, start := a.start })

/-- The item of SX_STATUS (R380). -/
def State.sxItem (s : State) : Item :=
  let x := s.sx
  let sats := ((x.chans.filter (·.locked)).map (fun c => (c.sys, c.svid))).dedup.length
  (1, [wn x.chans.length, wn sats, wn s.time.clock.code, wn (roundRat (s.ftU s.now)).toNat]
    ++ (List.range 12).map (fun i => s.cnt.getD (17 + i) 0) ++ [wn x.corr.discards.length]
    ++ x.corr.discards.flatMap (fun d => [wn d.1, d.2]))

def execSxStatus (dt : Nat) (h : Hdr) (rep : Ref) (s : State) : Out :=
  .next (s.command dt 0xA0 (.sxStatus dt h rep) h (fun s => report 0xA0 h rep [s.sxItem] s))

/-- A GPS time disagrees with that of the latest valid solution, carried on, by more than its uncertainty. -/
def State.timeDisagrees (s : State) (ft : DWord) (unc : Word) : Bool :=
  match s.nav.sol with
  | some x => s.solFresh && decide (unc.toNat < ((ft.toNat : Int) - (x.ft + 4 * (s.now - x.epoch : Nat))).natAbs)
  | none => false

/-- SX_AID_TIME: aiding that disagrees with a valid solution is ignored (R97). -/
def cmdSxAidTime (ft : DWord) (unc : Word) (s : State) : Verdict :=
  s.sxCmd (
    if s.timeDisagrees ft unc then .done .ok (resultOf [(128, 1, 1)]) s
    else .done .ok 0 (s.updAid (fun a => { a with time := some (ft.toNat, unc.toNat, s.now) })))

def execSxAidTime (dt : Nat) (h : Hdr) (ft : DWord) (unc : Word) (s : State) : Out :=
  .next (s.command dt 0xA1 (.sxAidTime dt h ft unc) h (cmdSxAidTime ft unc))

/-- ECEF position (mm) of a geodetic one. -/
def ecefMm (lat lon height : Word) : Rat × Rat × Rat :=
  let sp := sinBa (countsOf lat)
  let cp := cosBa (countsOf lat)
  let n := wgsA / 1000 / sqrtR (1 - wgsE2 * sp * sp)
  let h : Rat := height.toInt
  ((n + h) * cp * cosBa (countsOf lon), (n + h) * cp * sinBa (countsOf lon), (n * (1 - wgsE2) + h) * sp)

/-- A position disagrees with the latest valid solution by more than its uncertainty. -/
def State.posDisagrees (s : State) (lat lon height unc : Word) : Bool :=
  match s.nav.sol with
  | some x =>
    let (a, b, c) := ecefMm lat lon height
    s.solFresh && decide ((unc.toNat : Rat) * unc.toNat < (a - x.x) * (a - x.x) + (b - x.y) * (b - x.y) + (c - x.z) * (c - x.z))
  | none => false

def cmdSxAidPos (lat lon height unc : Word) (s : State) : Verdict :=
  s.sxCmd (
    if s.posDisagrees lat lon height unc then .done .ok (resultOf [(128, 1, 1)]) s
    else .done .ok 0 (s.updAid (fun a => { a with pos := some (lat.toInt, lon.toInt, height.toInt, unc.toNat) })))

def execSxAidPos (dt : Nat) (h : Hdr) (lat lon height unc : Word) (s : State) : Out :=
  .next (s.command dt 0xA2 (.sxAidPos dt h lat lon height unc) h (cmdSxAidPos lat lon height unc))

/-- SX_AID_ORBIT waits for its buffer. -/
def execSxAidOrbit (dt : Nat) (h : Hdr) (buf : Ref) (ephemeris : Bool) (s : State) : Out :=
  .next (s.command dt 0xA3 (.sxAidOrbit dt h buf ephemeris) h (fun s => s.sxCmd (.wait true [] s)))

/-- The frames of an orbit buffer (R384): the messages kept, and the number discarded. -/
def orbitFrames (bs : List Byte) : List (Nat × List Byte) × Nat :=
  let (good, bad, _) := rtcmScan bs.length bs
  let ms := good.map (fun b => (rtcmField b 0 12, b))
  let keep := ms.filter (fun m => [1019, 1042, 1044, 1046].contains m.1)
  (keep, bad + (ms.length - keep.length))

/-- The buffer of SX_AID_ORBIT has been read: one orbit is held per kind, message and satellite.
Ephemeris of an issue that the sky has given is not taken; where it differs from it while a solution is
valid it disagrees and is IGNORED (R97, log 82). -/
def State.aidOrbits (s : State) (w : Waiting) (eph : Bool) (bs : List Byte) : State :=
  let (ms, bad) := orbitFrames bs
  let os := ms.map (fun m => ({ eph := eph, msg := m.1, body := m.2 } : Orbit))
  let (out, keep) := os.partition s.sx.aid.beaten
  let ignored := s.solFresh && out.any (fun o => !s.sx.aid.orbits.any (fun x => x.sky && x.body = o.body))
  (s.updAid (fun a => keep.foldl Aid.hold a)).finish w .ok
    (resultOf [(128, 16, ms.length), (144, 16, bad), (160, 1, b2n ignored)])

/-- SX_RESTART: 0 cold, 1 warm, 2 hot (R96, R97); 3, which R381 does not list, is taken as hot (log 92). -/
def cmdSxRestart (kind : Nat) (s : State) : Verdict :=
  s.sxCmd (
    let s := s.updSextant (fun x => { x with chans := [], engines := x.engines.map (fun e => { e with det := none, search := none }), allocated := none })
    let s := s.updAid (fun a => if kind = 0 then {} else if kind = 1 then { a with orbits := a.orbits.filter (fun o => !o.eph) } else a)
    .done .ok 0 (if kind = 0 then (s.updClk (fun c => { c with run := 0 })).ftInvalid else s))

def execSxRestart (dt : Nat) (h : Hdr) (kind : Nat) (s : State) : Out :=
  .next (s.command dt 0xA4 (.sxRestart dt h kind) h (cmdSxRestart kind))

/-- A satellite number of R79, by system. -/
def svidOk (sys svid : Nat) : Bool :=
  if sys = 0 then 1 ≤ svid && svid ≤ 32 else if sys = 1 then 1 ≤ svid && svid ≤ 36
  else if sys = 2 then 1 ≤ svid && svid ≤ 63 else sys = 3 && 193 ≤ svid && svid ≤ 202

/-- SX_EXCLUDE (R66).  DESIGN CHOICE (log 140): including one signal leaves the exclusion of its whole satellite,
so that satellite stays out; a signal that is not one of the named system's (log 152) is excluded to no effect. -/
def cmdSxExclude (incl : Bool) (signal svid : Byte) (sys : Nat) (s : State) : Verdict :=
  let g := signal.toNat
  let e := (sys, svid.toNat, g)
  s.sxCmd (checks s (svidOk sys svid.toNat && (g = 0 || sxSignals.contains g)) true none none
    (.done .ok 0 (s.updSextant (fun x =>
      { x with excluded :=
          if incl then x.excluded.filter (fun y => !(y.1 = sys && y.2.1 = svid.toNat && (g = 0 || y.2.2 = g)))
          else if x.excluded.contains e then x.excluded else x.excluded ++ [e] }))))

def execSxExclude (dt : Nat) (h : Hdr) (incl : Bool) (signal svid : Byte) (sys : Nat) (s : State) : Out :=
  .next (s.command dt 0xA5 (.sxExclude dt h incl signal svid sys) h (cmdSxExclude incl signal svid sys))

/-- SX_RAW: raw output needs a RAW ring of 256 entries (R77).  DESIGN CHOICE (log 134): turning raw output off
needs none. -/
def cmdSxRaw (en : Bool) (s : State) : Verdict :=
  s.sxCmd (checks s (!en || ((s.ring 6).en && 8 ≤ (s.ring 6).log2)) true none none
    (.done .ok 0 (s.updSextant (fun x => { x with raw := en }))))

def execSxRaw (dt : Nat) (h : Hdr) (en : Bool) (s : State) : Out :=
  .next (s.command dt 0xA6 (.sxRaw dt h en) h (cmdSxRaw en))

end Sys2Proof.Machine
end

