-- ==== Sys2Proof/Machine/Checks.lean ====
section
/-! DEFINITION. The readback and recomputation checks that fault the module (R254, R280, R295). -/

namespace Sys2Proof.Machine

/-- Record whether readback finds a side on when it is commanded off; the other side may turn on DEADTIME after it is
read off again (R264). -/
def State.lsStuck (s : State) (n : Nat) (high v : Bool) : State :=
  s.updLs n (fun x =>
    if high then { x with rbHigh := v, hiOff := if x.rbHigh then s.time.up else x.hiOff }
    else { x with rbLow := v, loOff := if x.rbLow then s.time.up else x.loOff })

/-- LS_READBACK_MISMATCH (R280): a side off when commanded on latches the switch; a side on when commanded off
is module-wide, until it is read off again.  In RESET, where the module has no FAULT to enter, LOADI alone reacts: the
other side off, or the latch (log 162). -/
def execLsReadbackMismatch (dt n : Nat) (high on : Bool) (s : State) : Out :=
  let s := s.advance dt
  let c := if high then (s.lsCmd n).1 else (s.lsCmd n).2
  let g := if high then (s.lsSides n).1 else (s.lsSides n).2
  .next (if 16 ≤ n then s
    else if on then
      (if c then s
       else if s.supervised then (s.lsStuck n high true).moduleWide (.lsReadback n) 2
       else s.lsStuck n high true)
    else if g then (if s.supervised then s.noteClass 6 2 else s).lsLatch n 7
    else s.lsStuck n high false)

/-- FD_READBACK_MISMATCH (R295), outside OVERLOAD and VIO_LOST. -/
def execFdReadbackMismatch (dt pin : Nat) (on : Bool) (s : State) : Out :=
  let s := s.advance dt
  .next (if !s.supervised || 32 ≤ pin then s
    else if on then (if !s.fdOut pin || s.fdDrive pin then s else (s.updPin pin (fun q => { q with rb := true })).moduleWide (.fdReadback pin) 2)
    else if s.fdDrive pin then (s.noteClass 6 2).latchPin pin 6 true else s.updPin pin (fun q => { q with rb := false }))

/-- The check of a loop is suspended: the loop is claimed, or it measures an input that sensor zero stores a value
for while SENSE is claimed (R448). -/
def State.loopUnchecked (s : State) (n : Nat) : Bool := s.claimed (.loop n) || (s.claimed .sense && s.sensed n)

/-- LOOP_CHECK (R254): a recomputed sample of a CLOSED loop differs. -/
def execLoopCheck (dt loop : Nat) (s : State) : Out :=
  let s := s.advance dt
  .next (if s.islands && s.loopOn loop && (s.loop loop).st == LoopSt.closed && !s.loopUnchecked loop then
      (s.raise 0x5004 loop [] true).moduleWide (.loopCheck loop) 2
    else s)

end Sys2Proof.Machine
end

