-- ==== Sys2Proof/Machine/CmdRows.lean ====
section
/-! DEFINITION. The rows of the host commands whose effects the files before hold: each is taken from the CMD ring, where
it can be, after a grace that has run out has ended (R35, R359). -/

namespace Sys2Proof.Machine

/-! ### Valve drive (R212) -/

def execValveStatus (dt : Nat) (h : Hdr) (rep : Ref) (mask : BitVec 96) (quads : BitVec 4) (s : State) : Out :=
  .next (s.command dt 0x40 (.valveStatus dt h rep mask quads) h (cmdValveStatus h rep mask quads))

def execValveClear (dt : Nat) (h : Hdr) (group : Nat) (mask : BitVec 8) (s : State) : Out :=
  .next (s.command dt 0x41 (.valveClear dt h group mask) h (cmdValveClear h group mask))

def execValveDelayReset (dt : Nat) (h : Hdr) (mask : BitVec 96) (s : State) : Out :=
  .next (s.command dt 0x42 (.valveDelayReset dt h mask) h (cmdValveDelayReset h mask))

def execValveDiagNow (dt : Nat) (h : Hdr) (group : Nat) (mask : BitVec 8) (s : State) : Out :=
  .next (s.command dt 0x43 (.valveDiagNow dt h group mask) h (cmdValveDiagNow h group mask))

/-! ### Sequencers (R233) -/

def execSeqStatus (dt : Nat) (h : Hdr) (rep : Ref) (mask : BitVec 96) (s : State) : Out :=
  .next (s.command dt 0x44 (.seqStatus dt h rep mask) h (cmdSeqStatus h rep mask))

def execSeqRead (dt : Nat) (h : Hdr) (addr : DWord) (sequencer : Nat) (headers : Bool)
    (first words : Nat) (s : State) : Out :=
  .next (s.command dt 0x45 (.seqRead dt h addr sequencer headers first words) h
    (cmdSeqRead addr sequencer headers first words))

def execSeqSetK (dt : Nat) (h : Hdr) (group : Nat) (mask : BitVec 8) (which en : BitVec 4)
    (ks : List (BitVec 16)) (s : State) : Out :=
  .next (s.command dt 0x46 (.seqSetK dt h group mask which en ks) h (cmdSeqSetK group mask which en ks))

/-! ### Tiles (R148 to R150) -/

def execTilePatch (dt : Nat) (h : Hdr) (tx ty : BitVec 16) (rate dma : Bool) (offset len : Nat) (gen : Word)
    (data : BitVec 128) (s : State) : Out :=
  .next (s.command dt 0x20 (.tilePatch dt h tx ty rate dma offset len gen data) h
    (cmdTilePatch rate dma offset len tx ty data))

def execTileInvalidate (dt : Nat) (h : Hdr) (tx0 ty0 tx1 ty1 : BitVec 16) (mode : Nat) (s : State) : Out :=
  .next (s.command dt 0x21 (.tileInvalidate dt h tx0 ty0 tx1 ty1 mode) h (cmdTileInvalidate tx0 ty0 tx1 ty1 mode))

def execTileFlush (dt : Nat) (h : Hdr) (s : State) : Out :=
  .next (s.command dt 0x22 (.tileFlush dt h) h cmdTileFlush)

/-- RATE_TABLE (R133): waits for its buffer and for the next cycle start. -/
def execRateTable (dt : Nat) (h : Hdr) (addr : DWord) (s : State) : Out :=
  .next (s.command dt 0x23 (.rateTable dt h addr) h (fun s => .wait true [] s))

def execTileStatus (dt : Nat) (h : Hdr) (rep : Ref) (named : Bool) (tx ty : BitVec 16) (s : State) : Out :=
  .next (s.command dt 0x24 (.tileStatus dt h rep named tx ty) h
    (fun s => report 0x24 h rep (s.tileItems named tx ty) s))

/-! ### Field inputs and outputs (R307) -/

def execFdSet (dt : Nat) (h : Hdr) (mask levels : Word) (s : State) : Out :=
  .next (s.command dt 0x70 (.fdSet dt h mask levels) h (cmdFdSet mask levels))

def execFdStatus (dt : Nat) (h : Hdr) (rep : Ref) (mask : Word) (s : State) : Out :=
  .next (s.command dt 0x71 (.fdStatus dt h rep mask) h
    (fun s => checks s ((bitsOf mask).all s.fdEnabled) true none none
      (report 0x71 h rep (s.fdItem :: (bitsOf mask).map s.fdPinItem) s)))

def execFdClear (dt : Nat) (h : Hdr) (mask : Word) (s : State) : Out :=
  .next (s.command dt 0x72 (.fdClear dt h mask) h (cmdFdClear mask))

def execAiStatus (dt : Nat) (h : Hdr) (rep : Ref) (mask : Word) (s : State) : Out :=
  .next (s.command dt 0x73 (.aiStatus dt h rep mask) h
    (fun s => checks s ((bitsOf mask).all (· < 16)) true none none (report 0x73 h rep ((bitsOf mask).map s.aiItem) s)))

def execPiStatus (dt : Nat) (h : Hdr) (rep : Ref) (mask : Word) (s : State) : Out :=
  .next (s.command dt 0x74 (.piStatus dt h rep mask) h
    (fun s => checks s ((bitsOf mask).all (· < 18)) true none none (report 0x74 h rep ((bitsOf mask).map s.piItem) s)))

def execPiCountSet (dt : Nat) (h : Hdr) (input : Nat) (count : Word) (at_ : DWord) (s : State) : Out :=
  .next (s.command dt 0x75 (.piCountSet dt h input count at_) h (cmdPiCountSet input count at_))

def execSxSet (dt : Nat) (h : Hdr) (b on : Bool) (s : State) : Out :=
  .next (s.command dt 0x76 (.sxSet dt h b on) h (cmdSxSet b on))

/-! ### Load switches (R284, R285) -/

def execLsSet (dt : Nat) (h : Hdr) (mask : BitVec 16) (mode : Nat) (duty : Q16) (s : State) : Out :=
  .next (s.command dt 0x60 (.lsSet dt h mask mode duty) h (cmdLsSet mask mode duty))

def execLsStatus (dt : Nat) (h : Hdr) (rep : Ref) (mask : BitVec 16) (s : State) : Out :=
  .next (s.command dt 0x61 (.lsStatus dt h rep mask) h
    (fun s => checks s ((bitsOf mask).all (fun n => s.cfgB .lsEnable n)) true none none
      (report 0x61 h rep ((bitsOf mask).map s.lsItem) s)))

def execLsClear (dt : Nat) (h : Hdr) (mask : BitVec 16) (s : State) : Out :=
  .next (s.command dt 0x62 (.lsClear dt h mask) h (cmdLsClear mask))

def execLsDiagNow (dt : Nat) (h : Hdr) (mask : BitVec 16) (s : State) : Out :=
  .next (s.command dt 0x63 (.lsDiagNow dt h mask) h (cmdLsDiagNow mask))

/-! ### Rate loops (R261) -/

def execLoopClose (dt : Nat) (h : Hdr) (loop : Nat) (s : State) : Out :=
  .next (s.command dt 0x51 (.loopClose dt h loop) h (cmdLoop loop))
def execLoopOpen (dt : Nat) (h : Hdr) (loop : Nat) (safe : Bool) (s : State) : Out :=
  .next (s.command dt 0x52 (.loopOpen dt h loop safe) h (cmdLoop loop))
def execLoopSetpoint (dt : Nat) (h : Hdr) (loop : Nat) (r : Q16) (s : State) : Out :=
  .next (s.command dt 0x53 (.loopSetpoint dt h loop r) h (cmdLoop loop))
def execLoopOutput (dt : Nat) (h : Hdr) (loop : Nat) (u : Q16) (s : State) : Out :=
  .next (s.command dt 0x54 (.loopOutput dt h loop u) h (cmdLoop loop))
def execLoopCoef (dt : Nat) (h : Hdr) (loop : Nat) (kp ki kd : Q16) (dTf : Word) (s : State) : Out :=
  .next (s.command dt 0x55 (.loopCoef dt h loop kp ki kd dTf) h (cmdLoop loop))
def execLoopClear (dt : Nat) (h : Hdr) (loop : Nat) (s : State) : Out :=
  .next (s.command dt 0x56 (.loopClear dt h loop) h (cmdLoop loop))

def execLoopStatus (dt : Nat) (h : Hdr) (rep : Ref) (mask : Word) (clearSat : Bool) (s : State) : Out :=
  .next (s.command dt 0x50 (.loopStatus dt h rep mask clearSat) h (cmdLoopStatus h rep mask clearSat))

def execTraceArm (dt : Nat) (h : Hdr) (unit loop dec pre trig node : Nat) (flags : BitVec 5) (level : Q16)
    (s : State) : Out :=
  .next (s.command dt 0x57 (.traceArm dt h unit loop dec pre trig node flags level) h
    (cmdTraceArm unit loop dec pre trig node flags level))

def execTraceStop (dt : Nat) (h : Hdr) (unit : Nat) (trigger discard : Bool) (s : State) : Out :=
  .next (s.command dt 0x58 (.traceStop dt h unit trigger discard) h (cmdTraceStop unit trigger discard))

def execTraceStatus (dt : Nat) (h : Hdr) (rep : Ref) (s : State) : Out :=
  .next (s.command dt 0x59 (.traceStatus dt h rep) h
    (fun s => report 0x59 h rep ((List.range 4).map s.traceItem) s))

/-! ### CAN (R338, R339) -/

/-- CAN_STATUS (R339). -/
def execCanStatus (dt : Nat) (h : Hdr) (rep : Ref) (mask : BitVec 4) (s : State) : Out :=
  .next (s.command dt 0x80 (.canStatus dt h rep mask) h (fun s =>
    report 0x80 h rep ((bitsOf mask).map (fun b =>
      let x := s.busOf b
      ((1, [wn (b + b2n x.listen * 256 + x.errState * 65536 + x.sa * 2 ^ 24), wn (x.nom + x.data * 16),
        wn (x.tec + x.rec_ * 65536), wn (x.fifo.length + (x.rx.length + x.tx.length) * 65536)]
        ++ (List.range 8).map (fun k => s.cnt.getD (31 + 8 * b + k) 0)) : Item))) s))

/-- CAN_TX_CANCEL (R317, R326).  `started` says whether the head frame is started when the cancel
reaches BUSI. -/
def execCanTxCancel (dt : Nat) (h : Hdr) (bus : Nat) (target : BitVec 16) (started : Bool) (s : State) : Out :=
  .next (s.command dt 0x81 (.canTxCancel dt h bus target started) h (fun s =>
    if 4 ≤ bus then .done .noResource 0 s
    else
      let s := s.refill bus
      let x := s.busOf bus
      match x.tx.find? (fun t => t.tag = target) with
      | some t =>
        let st := started && (s.contender bus).any (fun e => e.kind == .session t.id)
        if st && t.proto = 3 then
          .done .started 0 (s.updBus bus (fun x => { x with fifo := x.fifo.modify 0 (fun e => { e with leave := 1 }) }))
        else .done .ok 0 (s.cancelSession bus t st)
      | none =>
        match x.fifo.findIdx? (fun e => e.tag? = some target) with
        | some i =>
          if i = 0 && started && (s.contender bus).isSome then
            .done .started 0 (s.updBus bus (fun x => { x with fifo := x.fifo.modify 0 (fun e => { e with leave := 1 }) }))
          else
            .done .ok 0 ((s.entCancelled bus i).refill bus)
        | none =>
          match x.wait.find? (fun w => !w.2.isEmpty && Desc.field (w.2.headD 0) 16 16 = target.toNat) with
          | some w =>
            let n : Word := BitVec.ofNat 32 (1 + contOf (w.2.headD 0))
            let s := s.updBus bus (fun x =>
              { x with wait := x.wait.map (fun v => if !v.2.isEmpty && v.1 = w.1 then (n, []) else v) })
            .done .ok 0 (if Desc.field (w.2.headD 0) 0 8 = 2 then s.msgDone bus w.1 1 0 0 else s.frameDone bus w.1 1 0 none)
          | none => .done .noResource 0 s))

/-- CAN_BUS_RECOVER (R331): completes at the recovery, or after 1 s. -/
def execCanBusRecover (dt : Nat) (h : Hdr) (bus : Nat) (s : State) : Out :=
  .next (s.command dt 0x82 (.canBusRecover dt h bus) h (fun s =>
    if 4 ≤ bus then .done .noResource 0 s
    else if !(s.busOf bus).off then .done .wrongState 0 s
    else
      .wait false [bus, s.now] (s.updBus bus (fun x => { x with recov := match x.recov with
        | some m => some m
        | none => some s.now }))))

/-- CAN_MODE (R332, R339). -/
def execCanMode (dt : Nat) (h : Hdr) (bus : Nat) (listen fdEn : Bool) (nom data : Nat) (s : State) : Out :=
  .next (s.command dt 0x83 (.canMode dt h bus listen fdEn nom data) h (fun s =>
    if 4 ≤ bus then .done .noResource 0 s
    else
      let s := s.endDetect bus .timeout
      let s :=
        if listen && !(s.busOf bus).listen then s.enterListen bus
        else
          let (st, s) := s.instStarted bus 0
          s.updBus bus (fun x => { x with listen := listen, fifo := x.fifo.modify 0 (fun e => { e with going := st }) })
      let s := s.updBus bus (fun x => { x with fdEn := fdEn, nom := min 3 nom, data := min 2 data, integrating := true })
      .done (okOr (3 < nom || 2 < data)) 0 s))

/-- CAN_RATE_DETECT (R333). -/
def execCanRateDetect (dt : Nat) (h : Hdr) (bus timeoutMs : Nat) (s : State) : Out :=
  .next (s.command dt 0x84 (.canRateDetect dt h bus timeoutMs) h (fun s =>
    if 4 ≤ bus then .done .noResource 0 s
    else if !(s.busOf bus).listen || (s.busOf bus).detect.isSome then .done .wrongState 0 s
    else
      let t := max 100 (min 60000 timeoutMs)
      .wait false [bus, b2n (t ≠ timeoutMs)]
        (s.updBus bus (fun x => { x with detect := some { deadline := s.now + t * msTicks } }))))

/-- CAN_SLOT_READ (R322). -/
def execCanSlotRead (dt : Nat) (h : Hdr) (rep : Ref) (bus : Nat) (mask : DWord) (s : State) : Out :=
  .next (s.command dt 0x85 (.canSlotRead dt h rep bus mask) h (fun s =>
    if 4 ≤ bus then .done .noResource 0 s
    else
    report 0x85 h rep ((bitsOf mask).map (fun n =>
      let m := s.mail bus n
      let f := m.frame.getD {}
      ((1, [wn (n + m.count.toNat * 65536)] ++ dwords m.sof ++ [wn (pack (b2nF f) >>> 32), wn f.data.length]
        ++ (List.range 16).map (fun k => wn (leAt f.data (4 * k) 4))) : Item)))
      (s.each (bitsOf mask) (fun s n => s.holdSlot bus n))))

/-- CAN_FILTER_SET (R383): waits for its entries. -/
def execCanFilterSet (dt : Nat) (h : Hdr) (bus entries : Nat) (addr : DWord) (s : State) : Out :=
  .next (s.command dt 0x86 (.canFilterSet dt h bus entries addr) h (fun s =>
    if 4 ≤ bus then .done .noResource 0 s
    else
      let n := max 1 (min 128 entries)
      .wait true [bus, n, b2n (n ≠ entries)] s))

/-- ISO_CLAIM (R324): completes when the claim does. -/
def execIsoClaim (dt : Nat) (h : Hdr) (bus : Nat) (addr : Byte) (s : State) : Out :=
  .next (s.command dt 0x87 (.isoClaim dt h bus addr) h (fun s =>
    if !(bus < 4 && s.isoOn bus) then .done .noResource 0 s
    else
      let a := min 253 addr.toNat
      .wait false [bus, b2n (a ≠ addr.toNat)] ((s.updBus bus (fun x => { x with forced := some a })).startClaim bus a)))

end Sys2Proof.Machine
end

