-- ==== Sys2Proof/Machine/Fetch.lean ====
section
/-! DEFINITION. What arrives by DMA: the descriptors that a sweep reads from the inbound rings, and the host
buffers that commands name (R356 to R359). -/

namespace Sys2Proof.Machine

/-- The state after a meaning that never stops. -/
def nextOr (s : State) : Out → State
  | .next t => t
  | _ => s

/-- Take the command that a CMD descriptor spells, by its own meaning.  Only host commands are spelt. -/
def runCmd (c : Instr) (s : State) : State :=
  match c with
  | .unknownOpcode dt h op => nextOr s (execUnknownOpcode dt h op s)
  | .nop dt h => nextOr s (execNop dt h s)
  | .bind dt h resume bootCount => nextOr s (execBind dt h resume bootCount s)
  | .unbind dt h => nextOr s (execUnbind dt h s)
  | .arm dt h => nextOr s (execArm dt h s)
  | .disarm dt h => nextOr s (execDisarm dt h s)
  | .run dt h => nextOr s (execRun dt h s)
  | .hold dt h => nextOr s (execHold dt h s)
  | .manualEnter dt h => nextOr s (execManualEnter dt h s)
  | .manualExit dt h => nextOr s (execManualExit dt h s)
  | .clearFault dt h => nextOr s (execClearFault dt h s)
  | .heartbeat dt h => nextOr s (execHeartbeat dt h s)
  | .moduleReset dt h => nextOr s (execModuleReset dt h s)
  | .stateQuery dt h => nextOr s (execStateQuery dt h s)
  | .telSelect dt h on decs ageMs => nextOr s (execTelSelect dt h on decs ageMs s)
  | .cfgStage dt h buf => nextOr s (execCfgStage dt h buf s)
  | .cfgFire dt h digest => nextOr s (execCfgFire dt h digest s)
  | .cfgRollback dt h => nextOr s (execCfgRollback dt h s)
  | .cfgStatus dt h rep => nextOr s (execCfgStatus dt h rep s)
  | .maintStart dt h param result activity loop => nextOr s (execMaintStart dt h param result activity loop s)
  | .maintAbort dt h target => nextOr s (execMaintAbort dt h target s)
  | .maintStatus dt h rep => nextOr s (execMaintStatus dt h rep s)
  | .tilePatch dt h tx ty rate dma offset len gen data => nextOr s (execTilePatch dt h tx ty rate dma offset len gen data s)
  | .tileInvalidate dt h tx0 ty0 tx1 ty1 mode => nextOr s (execTileInvalidate dt h tx0 ty0 tx1 ty1 mode s)
  | .tileFlush dt h => nextOr s (execTileFlush dt h s)
  | .rateTable dt h addr => nextOr s (execRateTable dt h addr s)
  | .tileStatus dt h rep named tx ty => nextOr s (execTileStatus dt h rep named tx ty s)
  | .planSectionEnable dt h mask en => nextOr s (execPlanSectionEnable dt h mask en s)
  | .planManual dt h mask on duty rate => nextOr s (execPlanManual dt h mask on duty rate s)
  | .planHoldAck dt h => nextOr s (execPlanHoldAck dt h s)
  | .planStatus dt h rep mask => nextOr s (execPlanStatus dt h rep mask s)
  | .fieldOrigin dt h lat lon height => nextOr s (execFieldOrigin dt h lat lon height s)
  | .fusionStatus dt h rep => nextOr s (execFusionStatus dt h rep s)
  | .fusionReset dt h => nextOr s (execFusionReset dt h s)
  | .valveStatus dt h rep mask quads => nextOr s (execValveStatus dt h rep mask quads s)
  | .valveClear dt h group mask => nextOr s (execValveClear dt h group mask s)
  | .valveDelayReset dt h mask => nextOr s (execValveDelayReset dt h mask s)
  | .valveDiagNow dt h group mask => nextOr s (execValveDiagNow dt h group mask s)
  | .seqStatus dt h rep mask => nextOr s (execSeqStatus dt h rep mask s)
  | .seqRead dt h addr sequencer headers first words => nextOr s (execSeqRead dt h addr sequencer headers first words s)
  | .seqSetK dt h group mask which en ks => nextOr s (execSeqSetK dt h group mask which en ks s)
  | .loopStatus dt h rep mask clearSat => nextOr s (execLoopStatus dt h rep mask clearSat s)
  | .loopClose dt h loop => nextOr s (execLoopClose dt h loop s)
  | .loopOpen dt h loop safe => nextOr s (execLoopOpen dt h loop safe s)
  | .loopSetpoint dt h loop r => nextOr s (execLoopSetpoint dt h loop r s)
  | .loopOutput dt h loop u => nextOr s (execLoopOutput dt h loop u s)
  | .loopCoef dt h loop kp ki kd dTf => nextOr s (execLoopCoef dt h loop kp ki kd dTf s)
  | .loopClear dt h loop => nextOr s (execLoopClear dt h loop s)
  | .traceArm dt h unit loop dec pre trig node flags level => nextOr s (execTraceArm dt h unit loop dec pre trig node flags level s)
  | .traceStop dt h unit trigger discard => nextOr s (execTraceStop dt h unit trigger discard s)
  | .traceStatus dt h rep => nextOr s (execTraceStatus dt h rep s)
  | .lsSet dt h mask mode duty => nextOr s (execLsSet dt h mask mode duty s)
  | .lsStatus dt h rep mask => nextOr s (execLsStatus dt h rep mask s)
  | .lsClear dt h mask => nextOr s (execLsClear dt h mask s)
  | .lsDiagNow dt h mask => nextOr s (execLsDiagNow dt h mask s)
  | .fdSet dt h mask levels => nextOr s (execFdSet dt h mask levels s)
  | .fdStatus dt h rep mask => nextOr s (execFdStatus dt h rep mask s)
  | .fdClear dt h mask => nextOr s (execFdClear dt h mask s)
  | .aiStatus dt h rep mask => nextOr s (execAiStatus dt h rep mask s)
  | .piStatus dt h rep mask => nextOr s (execPiStatus dt h rep mask s)
  | .piCountSet dt h input count at_ => nextOr s (execPiCountSet dt h input count at_ s)
  | .sxSet dt h b on => nextOr s (execSxSet dt h b on s)
  | .canStatus dt h rep mask => nextOr s (execCanStatus dt h rep mask s)
  | .canTxCancel dt h bus target _ =>
    let (n, t) := s.takeFree
    nextOr t (execCanTxCancel dt h bus target (Config.freeBool n) t)
  | .canBusRecover dt h bus => nextOr s (execCanBusRecover dt h bus s)
  | .canMode dt h bus listen fdEn nom data => nextOr s (execCanMode dt h bus listen fdEn nom data s)
  | .canRateDetect dt h bus timeoutMs => nextOr s (execCanRateDetect dt h bus timeoutMs s)
  | .canSlotRead dt h rep bus mask => nextOr s (execCanSlotRead dt h rep bus mask s)
  | .canFilterSet dt h bus entries addr => nextOr s (execCanFilterSet dt h bus entries addr s)
  | .isoClaim dt h bus addr => nextOr s (execIsoClaim dt h bus addr s)
  | .sxStatus dt h rep => nextOr s (execSxStatus dt h rep s)
  | .sxAidTime dt h ft unc => nextOr s (execSxAidTime dt h ft unc s)
  | .sxAidPos dt h lat lon height unc => nextOr s (execSxAidPos dt h lat lon height unc s)
  | .sxAidOrbit dt h buf ephemeris => nextOr s (execSxAidOrbit dt h buf ephemeris s)
  | .sxRestart dt h kind => nextOr s (execSxRestart dt h kind s)
  | .sxExclude dt h incl signal svid sys => nextOr s (execSxExclude dt h incl signal svid sys s)
  | .sxRaw dt h en => nextOr s (execSxRaw dt h en s)
  | .diagRecords dt h buf first => nextOr s (execDiagRecords dt h buf first s)
  | .diagCounters dt h rep => nextOr s (execDiagCounters dt h rep s)
  | .saggarStatus dt h rep => nextOr s (execSaggarStatus dt h rep s)
  | .diagErase dt h last => nextOr s (execDiagErase dt h last s)
  | _ => s

/-- Take CMD descriptors in index order while they can be taken (R359). -/
def runCmds : List Desc → State → State
  | [], s => s
  | d :: r, s =>
    let t := runCmd (decodeCmd d) s
    if (t.ring 0).mod = (s.ring 0).mod then t else runCmds r t

/-- Take RTCM descriptors, at most 64 in one sweep. -/
def State.rtcmTakes (s : State) (ds : List Desc) : State :=
  s.each (ds.take (min 64 (s.ring 5).waiting)) (fun s d =>
    ((s.updRing 5 (fun r => { r with mod := r.mod + 1 })).updHost (fun h => { h with idxChanged := true })).rtcmTake d)

/-- Newly read CANTX descriptors, each header with its continuations; an incomplete one is read again. -/
def groupTx : Nat → Word → List Desc → List (Word × List Desc)
  | 0, _, _ => []
  | _ + 1, _, [] => []
  | k + 1, i, d :: r =>
    let n := contOf d
    if r.length < n then []
    else (i, d :: r.take n) :: groupTx k (i + BitVec.ofNat 32 (n + 1)) (r.drop n)

/-- Read a CANTX ring up to the producer index in force (R315, R317). -/
def State.cantxRead (s : State) (b : Nat) (ds : List Desc) : State :=
  let (at_, k) := s.unread (8 + b)
  let ds := ds.take k
  s.updBus b (fun x => { x with wait := x.wait ++ groupTx ds.length at_ ds })

/-- The buses whose CANTX ring a CAN_TX_CANCEL among the commands reads, though the sweep does not (R317). -/
def State.cancelReads (s : State) (cmds : List Desc) : List Nat :=
  let named := cmds.filterMap (fun d => match decodeCmd d with | .canTxCancel _ _ b _ _ => some b | _ => none)
  [0, 1, 2, 3].filter (fun b => named.contains b && s.toRead (8 + b) = 0 && decide (0 < (s.unread (8 + b)).2))

/-- Take what a bus's FIFO can of its descriptors read (R315). -/
def State.cantxTake (s : State) (b : Nat) : State := State.takeTx (s.busOf b).wait.length s b

/-- A descriptor read of a ring ended in error; the third in a row stops the ring (R357). -/
def State.ringFailed (s : State) (n : Nat) (addr : DWord) : State :=
  if !s.served n then s
  else if (s.ring n).fails < 2 then s.updRing n (fun r => { r with fails := r.fails + 1 })
  else (s.updRing n (fun r => { r with fails := 0, stopped := true, err := true, errAt := some s.now })).raise 0x0005 n [(128, 64, addr.toNat)] true

/-- The descriptors of one sweep have arrived (R356 steps 4 and 5); a CANTX ring is read before a command that
looks into it, that command reading it where the sweep does not (R317). -/
def State.fetched (s : State) (f : Fetch) : State :=
  let good := fun (n : Nat) => !f.failed.any (fun p => p.1 = n)
  let more := s.cancelReads f.cmds
  let reads := s.readRings ++ more.map (8 + ·)
  let s := if more.isEmpty then s else s.emits (more.map (fun b => s.descReadOf (8 + b) (s.unread (8 + b)).2))
  let s := s.each f.failed (fun s p => if inbound p.1 then s.ringFailed p.1 p.2 else s)
  let s := s.each (reads.filter good) (fun s n => s.updRing n (fun r => { r with fails := 0 }))
  let read := fun (s : State) (b : Nat) => if good (8 + b) && s.served (8 + b) then s.cantxRead b (f.cantx.getD b []) else s
  let early := [0, 1, 2, 3].filter (fun b => s.served (8 + b))
  let s := s.each early read
  let s := if good 0 then runCmds f.cmds s else s
  let s := if good 5 && s.served 5 then s.rtcmTakes f.rtcm else s
  let s := s.each ([0, 1, 2, 3].filter (fun b => !early.contains b)) read
  let s := s.each [0, 1, 2, 3] (fun s b => if good (8 + b) && s.served (8 + b) then s.cantxTake b else s)
  s.sweepEnds

/-- DESCRIPTOR_FETCH: where the module may serve no ring any more, the sweep ends with it. -/
def execDescriptorFetch (dt : Nat) (f : Fetch) (s : State) : Out :=
  let s := s.advance dt
  .next (if !s.host.sweeping then s
    else if s.dmaOk && s.dev.st.servesRings then s.graceFirst.fetched f
    else s.sweepEnds)

/-! ### Host buffers (R357) -/

/-- A read that failed: TIMEOUT with DMA_ERR, whose place in RESULT the spec gives for MAINT_START only. -/
def State.bufferLost (s : State) (w : Waiting) : State :=
  let (n, s) := s.takeFree
  let res : BitVec 128 := BitVec.ofNat 128 (Config.freeNat n)
  if w.op = 0x10 then s.stageEnd w .timeout res else s.finishNone w .timeout res

/-- A buffer that a command named has been read. -/
def State.bufferRead (s : State) (w : Waiting) (bs : List Byte) : State :=
  match w.cmd with
  | .cfgStage .. => s.stageRead w bs
  | .maintStart .. => s.maintParams w (some bs)
  | .rateTable .. => s.updWaiting w (fun w => { w with dma := false, aux := (List.range 256).map (fun i => leAt bs (4 * i) 4) })
  | .tilePatch _ _ _ _ _ _ _ len _ _ =>
    s.updWaiting w (fun w => { w with dma := false, aux := w.aux.take 1 ++ (slice bs 0 len).map (·.toNat) })
  | .canFilterSet .. =>
    match s.filterSet (w.aux.getD 0 0) (w.aux.getD 1 0) bs with
    | some t => t.finish w (okOr (w.aux.getD 2 0 = 1)) 0
    | none => s.finish w .noResource 0
  | .sxAidOrbit _ _ buf eph => s.aidOrbits w eph (bs.take buf.len.toNat)
  | _ => s

/-- HOST_BUFFER_READ. -/
def execHostBufferRead (dt cmdIdx : Nat) (data : Option (List Byte)) (s : State) : Out :=
  let s := s.advance dt
  .next (match s.host.outstanding.find? (fun w => w.idx.toNat = cmdIdx && w.dma) with
    | none => s
    | some w =>
      match data with
      | some bs => s.bufferRead w bs
      | none => if w.op = 0x14 then s.maintParams w none else s.bufferLost w)

end Sys2Proof.Machine
end

