-- ==== Sys2Proof/Machine/Dispatch.lean ====
section
/-! DEFINITION. The dispatch of every command to its meaning. -/

namespace Sys2Proof.Machine

def exec (i : Instr) (s : State) : Host.Outcome State Fault Refusal :=
  match i with
  | .powerOnReset dt vbat hold held => Sys2Proof.Machine.execPowerOnReset dt vbat hold held s
  | .resetnLow dt lowNs => Sys2Proof.Machine.execResetnLow dt lowNs s
  | .watchdogTimeout dt core => Sys2Proof.Machine.execWatchdogTimeout dt core s
  | .saggarReset dt => Sys2Proof.Machine.execSaggarReset dt s
  | .moduleResetAssert dt => Sys2Proof.Machine.execModuleResetAssert dt s
  | .resetRelease dt straps vhio vbat => Sys2Proof.Machine.execResetRelease dt straps vhio vbat s
  | .startupComplete dt => Sys2Proof.Machine.execStartupComplete dt s
  | .bootComplete dt b => Sys2Proof.Machine.execBootComplete dt b s
  | .configRequestRetry dt => Sys2Proof.Machine.execConfigRequestRetry dt s
  | .safenAssert dt lane lowNs => Sys2Proof.Machine.execSafenAssert dt lane lowNs s
  | .safenRelease dt highTicks => Sys2Proof.Machine.execSafenRelease dt highTicks s
  | .sagEnter dt mv held => Sys2Proof.Machine.execSagEnter dt mv held s
  | .sagRelease dt mv held => Sys2Proof.Machine.execSagRelease dt mv held s
  | .lowFieldEnter dt mv held => Sys2Proof.Machine.execLowFieldEnter dt mv held s
  | .lowFieldRelease dt mv held => Sys2Proof.Machine.execLowFieldRelease dt mv held s
  | .brownout dt mv hold held => Sys2Proof.Machine.execBrownout dt mv hold held s
  | .brownoutRecovery dt mv held => Sys2Proof.Machine.execBrownoutRecovery dt mv held s
  | .vbatOvervoltage dt mv held => Sys2Proof.Machine.execVbatOvervoltage dt mv held s
  | .driveSuspension dt q mv held => Sys2Proof.Machine.execDriveSuspension dt q mv held s
  | .driveSuspensionEnd dt q mv held => Sys2Proof.Machine.execDriveSuspensionEnd dt q mv held s
  | .loadSuspension dt q mv held => Sys2Proof.Machine.execLoadSuspension dt q mv held s
  | .loadSuspensionEnd dt q mv held => Sys2Proof.Machine.execLoadSuspensionEnd dt q mv held s
  | .vioLow dt mv held => Sys2Proof.Machine.execVioLow dt mv held s
  | .vioLost dt mv held => Sys2Proof.Machine.execVioLost dt mv held s
  | .vioRestored dt mv held => Sys2Proof.Machine.execVioRestored dt mv held s
  | .vio24Overvoltage dt mv held => Sys2Proof.Machine.execVio24Overvoltage dt mv held s
  | .vhioLow dt mv held => Sys2Proof.Machine.execVhioLow dt mv held s
  | .refclkLoss dt => Sys2Proof.Machine.execRefclkLoss dt s
  | .islandClockStop dt isl => Sys2Proof.Machine.execIslandClockStop dt isl s
  | .timeMark dt diffs => Sys2Proof.Machine.execTimeMark dt diffs s
  | .timeMarkMissing dt isl => Sys2Proof.Machine.execTimeMarkMissing dt isl s
  | .laneCrossCheck dt x => Sys2Proof.Machine.execLaneCrossCheck dt x s
  | .forceSafePathTest dt missing => Sys2Proof.Machine.execForceSafePathTest dt missing s
  | .envelopeViolation dt c lane => Sys2Proof.Machine.execEnvelopeViolation dt c lane s
  | .dieOvertemp dt die temp held => Sys2Proof.Machine.execDieOvertemp dt die temp held s
  | .coreLockstepMismatch dt core => Sys2Proof.Machine.execCoreLockstepMismatch dt core s
  | .memoryScrub dt fs => Sys2Proof.Machine.execMemoryScrub dt fs s
  | .flashDigestCheck dt bad => Sys2Proof.Machine.execFlashDigestCheck dt bad s
  | .faultRecordWritten dt ok => Sys2Proof.Machine.execFaultRecordWritten dt ok s
  | .laneConfirmTimeout dt cls => Sys2Proof.Machine.execLaneConfirmTimeout dt cls s
  | .perstnAssert dt => Sys2Proof.Machine.execPerstnAssert dt s
  | .hotReset dt => Sys2Proof.Machine.execHotReset dt s
  | .functionLevelReset dt => Sys2Proof.Machine.execFunctionLevelReset dt s
  | .dlDown dt => Sys2Proof.Machine.execDlDown dt s
  | .busMasterEnableClear dt memSpace => Sys2Proof.Machine.execBusMasterEnableClear dt memSpace s
  | .d3hotEntry dt => Sys2Proof.Machine.execD3hotEntry dt s
  | .hostAccessRestored dt => Sys2Proof.Machine.execHostAccessRestored dt s
  | .linkUp dt => Sys2Proof.Machine.execLinkUp dt s
  | .heartbeatTimeout dt => Sys2Proof.Machine.execHeartbeatTimeout dt s
  | .hostGraceExpiry dt => Sys2Proof.Machine.execHostGraceExpiry dt s
  | .doorbellSweep dt => Sys2Proof.Machine.execDoorbellSweep dt s
  | .doorbellReadComplete dt d => Sys2Proof.Machine.execDoorbellReadComplete dt d s
  | .descriptorFetch dt f => Sys2Proof.Machine.execDescriptorFetch dt f s
  | .hostBufferRead dt cmdIdx data => Sys2Proof.Machine.execHostBufferRead dt cmdIdx data s
  | .statusBlockRefresh dt => Sys2Proof.Machine.execStatusBlockRefresh dt s
  | .msixModerationTimeout dt v => Sys2Proof.Machine.execMsixModerationTimeout dt v s
  | .evtQueueDrain dt => Sys2Proof.Machine.execEvtQueueDrain dt s
  | .telemetryRecord dt k => Sys2Proof.Machine.execTelemetryRecord dt k s
  | .telemetryAgeDrop dt => Sys2Proof.Machine.execTelemetryAgeDrop dt s
  | .ringEnable dt ring log2 vec => Sys2Proof.Machine.execRingEnable dt ring log2 vec s
  | .ringDisable dt ring vec => Sys2Proof.Machine.execRingDisable dt ring vec s
  | .regLocked dt off val => Sys2Proof.Machine.execRegLocked dt off val s
  | .pollPeriodWrite dt val => Sys2Proof.Machine.execPollPeriodWrite dt val s
  | .hbTimeoutWrite dt val => Sys2Proof.Machine.execHbTimeoutWrite dt val s
  | .hiErrClear dt bits => Sys2Proof.Machine.execHiErrClear dt bits s
  | .msixUnmask dt v => Sys2Proof.Machine.execMsixUnmask dt v s
  | .registerWrite dt off size val => Sys2Proof.Machine.execRegisterWrite dt off size val s
  | .bar0BadAccess dt off size write => Sys2Proof.Machine.execBar0BadAccess dt off size write s
  | .unknownOpcode dt h op => Sys2Proof.Machine.execUnknownOpcode dt h op s
  | .nop dt h => Sys2Proof.Machine.execNop dt h s
  | .bind dt h resume bootCount => Sys2Proof.Machine.execBind dt h resume bootCount s
  | .unbind dt h => Sys2Proof.Machine.execUnbind dt h s
  | .arm dt h => Sys2Proof.Machine.execArm dt h s
  | .disarm dt h => Sys2Proof.Machine.execDisarm dt h s
  | .run dt h => Sys2Proof.Machine.execRun dt h s
  | .hold dt h => Sys2Proof.Machine.execHold dt h s
  | .manualEnter dt h => Sys2Proof.Machine.execManualEnter dt h s
  | .manualExit dt h => Sys2Proof.Machine.execManualExit dt h s
  | .clearFault dt h => Sys2Proof.Machine.execClearFault dt h s
  | .heartbeat dt h => Sys2Proof.Machine.execHeartbeat dt h s
  | .moduleReset dt h => Sys2Proof.Machine.execModuleReset dt h s
  | .stateQuery dt h => Sys2Proof.Machine.execStateQuery dt h s
  | .telSelect dt h on decs ageMs => Sys2Proof.Machine.execTelSelect dt h on decs ageMs s
  | .cfgStage dt h buf => Sys2Proof.Machine.execCfgStage dt h buf s
  | .stagingComplete dt readbackOk => Sys2Proof.Machine.execStagingComplete dt readbackOk s
  | .cfgFire dt h digest => Sys2Proof.Machine.execCfgFire dt h digest s
  | .cfgRollback dt h => Sys2Proof.Machine.execCfgRollback dt h s
  | .firingComplete dt flashOk readbackOk => Sys2Proof.Machine.execFiringComplete dt flashOk readbackOk s
  | .journalEraseDone dt => Sys2Proof.Machine.execJournalEraseDone dt s
  | .cfgStatus dt h rep => Sys2Proof.Machine.execCfgStatus dt h rep s
  | .maintStart dt h param result activity loop => Sys2Proof.Machine.execMaintStart dt h param result activity loop s
  | .maintAbort dt h target => Sys2Proof.Machine.execMaintAbort dt h target s
  | .maintStatus dt h rep => Sys2Proof.Machine.execMaintStatus dt h rep s
  | .valveSweepComplete dt cMeas => Sys2Proof.Machine.execValveSweepComplete dt cMeas s
  | .wireCheckComplete dt valves switches => Sys2Proof.Machine.execWireCheckComplete dt valves switches s
  | .autoTuneComplete dt => Sys2Proof.Machine.execAutoTuneComplete dt s
  | .autoTuneTimeout dt => Sys2Proof.Machine.execAutoTuneTimeout dt s
  | .flashScrubComplete dt pages corrected bad => Sys2Proof.Machine.execFlashScrubComplete dt pages corrected bad s
  | .sensorZeroComplete dt means artic => Sys2Proof.Machine.execSensorZeroComplete dt means artic s
  | .sextantSelfTestComplete dt engines chans => Sys2Proof.Machine.execSextantSelfTestComplete dt engines chans s
  | .tilePatch dt h tx ty rate dma offset len gen data => Sys2Proof.Machine.execTilePatch dt h tx ty rate dma offset len gen data s
  | .tileInvalidate dt h tx0 ty0 tx1 ty1 mode => Sys2Proof.Machine.execTileInvalidate dt h tx0 ty0 tx1 ty1 mode s
  | .tileFlush dt h => Sys2Proof.Machine.execTileFlush dt h s
  | .tileFlushComplete dt => Sys2Proof.Machine.execTileFlushComplete dt s
  | .rateTable dt h addr => Sys2Proof.Machine.execRateTable dt h addr s
  | .tileStatus dt h rep named tx ty => Sys2Proof.Machine.execTileStatus dt h rep named tx ty s
  | .planSectionEnable dt h mask en => Sys2Proof.Machine.execPlanSectionEnable dt h mask en s
  | .planManual dt h mask on duty rate => Sys2Proof.Machine.execPlanManual dt h mask on duty rate s
  | .planHoldAck dt h => Sys2Proof.Machine.execPlanHoldAck dt h s
  | .planStatus dt h rep mask => Sys2Proof.Machine.execPlanStatus dt h rep mask s
  | .fieldOrigin dt h lat lon height => Sys2Proof.Machine.execFieldOrigin dt h lat lon height s
  | .fieldOriginComplete dt => Sys2Proof.Machine.execFieldOriginComplete dt s
  | .fusionStatus dt h rep => Sys2Proof.Machine.execFusionStatus dt h rep s
  | .fusionReset dt h => Sys2Proof.Machine.execFusionReset dt h s
  | .valveStatus dt h rep mask quads => Sys2Proof.Machine.execValveStatus dt h rep mask quads s
  | .valveClear dt h group mask => Sys2Proof.Machine.execValveClear dt h group mask s
  | .valveClearComplete dt codes => Sys2Proof.Machine.execValveClearComplete dt codes s
  | .valveDelayReset dt h mask => Sys2Proof.Machine.execValveDelayReset dt h mask s
  | .valveDiagNow dt h group mask => Sys2Proof.Machine.execValveDiagNow dt h group mask s
  | .seqStatus dt h rep mask => Sys2Proof.Machine.execSeqStatus dt h rep mask s
  | .seqRead dt h addr sequencer headers first words => Sys2Proof.Machine.execSeqRead dt h addr sequencer headers first words s
  | .seqSetK dt h group mask which en ks => Sys2Proof.Machine.execSeqSetK dt h group mask which en ks s
  | .loopStatus dt h rep mask clearSat => Sys2Proof.Machine.execLoopStatus dt h rep mask clearSat s
  | .loopClose dt h loop => Sys2Proof.Machine.execLoopClose dt h loop s
  | .loopOpen dt h loop safe => Sys2Proof.Machine.execLoopOpen dt h loop safe s
  | .loopSetpoint dt h loop r => Sys2Proof.Machine.execLoopSetpoint dt h loop r s
  | .loopOutput dt h loop u => Sys2Proof.Machine.execLoopOutput dt h loop u s
  | .loopCoef dt h loop kp ki kd dTf => Sys2Proof.Machine.execLoopCoef dt h loop kp ki kd dTf s
  | .loopClear dt h loop => Sys2Proof.Machine.execLoopClear dt h loop s
  | .traceArm dt h unit loop dec pre trig node flags level => Sys2Proof.Machine.execTraceArm dt h unit loop dec pre trig node flags level s
  | .traceStop dt h unit trigger discard => Sys2Proof.Machine.execTraceStop dt h unit trigger discard s
  | .traceStatus dt h rep => Sys2Proof.Machine.execTraceStatus dt h rep s
  | .lsSet dt h mask mode duty => Sys2Proof.Machine.execLsSet dt h mask mode duty s
  | .lsStatus dt h rep mask => Sys2Proof.Machine.execLsStatus dt h rep mask s
  | .lsClear dt h mask => Sys2Proof.Machine.execLsClear dt h mask s
  | .lsClearComplete dt obs => Sys2Proof.Machine.execLsClearComplete dt obs s
  | .lsDiagNow dt h mask => Sys2Proof.Machine.execLsDiagNow dt h mask s
  | .fdSet dt h mask levels => Sys2Proof.Machine.execFdSet dt h mask levels s
  | .fdStatus dt h rep mask => Sys2Proof.Machine.execFdStatus dt h rep mask s
  | .fdClear dt h mask => Sys2Proof.Machine.execFdClear dt h mask s
  | .aiStatus dt h rep mask => Sys2Proof.Machine.execAiStatus dt h rep mask s
  | .piStatus dt h rep mask => Sys2Proof.Machine.execPiStatus dt h rep mask s
  | .piCountSet dt h input count at_ => Sys2Proof.Machine.execPiCountSet dt h input count at_ s
  | .piCountLoad dt input => Sys2Proof.Machine.execPiCountLoad dt input s
  | .sxSet dt h b on => Sys2Proof.Machine.execSxSet dt h b on s
  | .canStatus dt h rep mask => Sys2Proof.Machine.execCanStatus dt h rep mask s
  | .canTxCancel dt h bus target started => Sys2Proof.Machine.execCanTxCancel dt h bus target started s
  | .canBusRecover dt h bus => Sys2Proof.Machine.execCanBusRecover dt h bus s
  | .canMode dt h bus listen fdEn nom data => Sys2Proof.Machine.execCanMode dt h bus listen fdEn nom data s
  | .canRateDetect dt h bus timeoutMs => Sys2Proof.Machine.execCanRateDetect dt h bus timeoutMs s
  | .canSlotRead dt h rep bus mask => Sys2Proof.Machine.execCanSlotRead dt h rep bus mask s
  | .canFilterSet dt h bus entries addr => Sys2Proof.Machine.execCanFilterSet dt h bus entries addr s
  | .isoClaim dt h bus addr => Sys2Proof.Machine.execIsoClaim dt h bus addr s
  | .sxStatus dt h rep => Sys2Proof.Machine.execSxStatus dt h rep s
  | .sxAidTime dt h ft unc => Sys2Proof.Machine.execSxAidTime dt h ft unc s
  | .sxAidPos dt h lat lon height unc => Sys2Proof.Machine.execSxAidPos dt h lat lon height unc s
  | .sxAidOrbit dt h buf ephemeris => Sys2Proof.Machine.execSxAidOrbit dt h buf ephemeris s
  | .sxRestart dt h kind => Sys2Proof.Machine.execSxRestart dt h kind s
  | .sxExclude dt h incl signal svid sys => Sys2Proof.Machine.execSxExclude dt h incl signal svid sys s
  | .sxRaw dt h en => Sys2Proof.Machine.execSxRaw dt h en s
  | .diagRecords dt h buf first => Sys2Proof.Machine.execDiagRecords dt h buf first s
  | .diagCounters dt h rep => Sys2Proof.Machine.execDiagCounters dt h rep s
  | .saggarStatus dt h rep => Sys2Proof.Machine.execSaggarStatus dt h rep s
  | .diagErase dt h last => Sys2Proof.Machine.execDiagErase dt h last s
  | .diagEraseComplete dt ok => Sys2Proof.Machine.execDiagEraseComplete dt ok s
  | .plannerCycleStart dt => Sys2Proof.Machine.execPlannerCycleStart dt s
  | .placementDeadline dt unfinished => Sys2Proof.Machine.execPlacementDeadline dt unfinished s
  | .holdUnacked dt => Sys2Proof.Machine.execHoldUnacked dt s
  | .holdExpired dt => Sys2Proof.Machine.execHoldExpired dt s
  | .fusionEpoch dt o => Sys2Proof.Machine.execFusionEpoch dt o s
  | .imuDrdyEdge dt => Sys2Proof.Machine.execImuDrdyEdge dt s
  | .imuSyncPulse dt => Sys2Proof.Machine.execImuSyncPulse dt s
  | .imuBurstComplete dt frame => Sys2Proof.Machine.execImuBurstComplete dt frame s
  | .imuInitRetry dt => Sys2Proof.Machine.execImuInitRetry dt s
  | .measurementEpoch dt o => Sys2Proof.Machine.execMeasurementEpoch dt o s
  | .coastStart dt => Sys2Proof.Machine.execCoastStart dt s
  | .ftStep dt => Sys2Proof.Machine.execFtStep dt s
  | .slewComplete dt => Sys2Proof.Machine.execSlewComplete dt s
  | .coastUncertaintyLimit dt => Sys2Proof.Machine.execCoastUncertaintyLimit dt s
  | .tp0Pulse dt => Sys2Proof.Machine.execTp0Pulse dt s
  | .channelAllocation dt sats => Sys2Proof.Machine.execChannelAllocation dt sats s
  | .acquisitionDetection dt engine signal svid ch codePhase doppler => Sys2Proof.Machine.execAcquisitionDetection dt engine signal svid ch codePhase doppler s
  | .acquisitionConfirmTimeout dt engine => Sys2Proof.Machine.execAcquisitionConfirmTimeout dt engine s
  | .handoverLockTimeout dt ch => Sys2Proof.Machine.execHandoverLockTimeout dt ch s
  | .lowCn0Release dt ch => Sys2Proof.Machine.execLowCn0Release dt ch s
  | .bocJump dt ch late => Sys2Proof.Machine.execBocJump dt ch late s
  | .portFault dt port cond => Sys2Proof.Machine.execPortFault dt port cond s
  | .portGood dt port => Sys2Proof.Machine.execPortGood dt port s
  | .corrSwitch dt => Sys2Proof.Machine.execCorrSwitch dt s
  | .prefetchRecompute dt => Sys2Proof.Machine.execPrefetchRecompute dt s
  | .tileRequestEnterRing dt => Sys2Proof.Machine.execTileRequestEnterRing dt s
  | .tileRecordRead dt slot data => Sys2Proof.Machine.execTileRecordRead dt slot data s
  | .writebackDue dt slot => Sys2Proof.Machine.execWritebackDue dt slot s
  | .writebackComplete dt slot ok => Sys2Proof.Machine.execWritebackComplete dt slot ok s
  | .tileTimeout dt slot => Sys2Proof.Machine.execTileTimeout dt slot s
  | .tileRetry dt slot => Sys2Proof.Machine.execTileRetry dt slot s
  | .edgeHandover dt ch => Sys2Proof.Machine.execEdgeHandover dt ch s
  | .edgeRelease dt ch => Sys2Proof.Machine.execEdgeRelease dt ch s
  | .seqSrc dt ch resMv par => Sys2Proof.Machine.execSeqSrc dt ch resMv par s
  | .seqItgt dt ch par => Sys2Proof.Machine.execSeqItgt dt ch par s
  | .seqWaiti dt ch par => Sys2Proof.Machine.execSeqWaiti dt ch par s
  | .seqWaitt dt ch par => Sys2Proof.Machine.execSeqWaitt dt ch par s
  | .seqArm dt ch par => Sys2Proof.Machine.execSeqArm dt ch par s
  | .seqDecay dt ch par => Sys2Proof.Machine.execSeqDecay dt ch par s
  | .seqMark dt ch par => Sys2Proof.Machine.execSeqMark dt ch par s
  | .seqJmp dt ch par => Sys2Proof.Machine.execSeqJmp dt ch par s
  | .seqJc dt ch railMv par => Sys2Proof.Machine.execSeqJc dt ch railMv par s
  | .seqLoop dt ch par => Sys2Proof.Machine.execSeqLoop dt ch par s
  | .seqHoldw dt ch par => Sys2Proof.Machine.execSeqHoldw dt ch par s
  | .seqEnd dt ch par => Sys2Proof.Machine.execSeqEnd dt ch par s
  | .seqReservedOpcode dt ch par => Sys2Proof.Machine.execSeqReservedOpcode dt ch par s
  | .seqStoreCompare dt bad => Sys2Proof.Machine.execSeqStoreCompare dt bad s
  | .seqReload dt group => Sys2Proof.Machine.execSeqReload dt group s
  | .boostGrant dt group resMv => Sys2Proof.Machine.execBoostGrant dt group resMv s
  | .boostRefusal dt ch => Sys2Proof.Machine.execBoostRefusal dt ch s
  | .waitiEnd dt ch sampleMt ma => Sys2Proof.Machine.execWaitiEnd dt ch sampleMt ma s
  | .waitiTimeout dt ch => Sys2Proof.Machine.execWaitiTimeout dt ch s
  | .waittExpiry dt ch => Sys2Proof.Machine.execWaittExpiry dt ch s
  | .arrivalWindowTimeout dt ch closing => Sys2Proof.Machine.execArrivalWindowTimeout dt ch closing s
  | .arrivalDetected dt ch closing obs => Sys2Proof.Machine.execArrivalDetected dt ch closing obs s
  | .decayEnd dt ch resMv clampMj => Sys2Proof.Machine.execDecayEnd dt ch resMv clampMj s
  | .minOffElapsed dt ch => Sys2Proof.Machine.execMinOffElapsed dt ch s
  | .markBufferDrain dt group => Sys2Proof.Machine.execMarkBufferDrain dt group s
  | .offStateTest dt ch finding => Sys2Proof.Machine.execOffStateTest dt ch finding s
  | .shortSupplyTrip dt ch ma => Sys2Proof.Machine.execShortSupplyTrip dt ch ma s
  | .openLoadOn dt ch runs vdrv => Sys2Proof.Machine.execOpenLoadOn dt ch runs vdrv s
  | .coilR dt ch runs vdrv => Sys2Proof.Machine.execCoilR dt ch runs vdrv s
  | .railLeak dt group runs => Sys2Proof.Machine.execRailLeak dt group runs s
  | .valveReadbackMismatch dt n rail read obs => Sys2Proof.Machine.execValveReadbackMismatch dt n rail read obs s
  | .tied dt ch partner stamps => Sys2Proof.Machine.execTied dt ch partner stamps s
  | .railOvercurrent dt group ma held => Sys2Proof.Machine.execRailOvercurrent dt group ma held s
  | .railOverload dt group runs => Sys2Proof.Machine.execRailOverload dt group runs s
  | .chOverload dt ch runs => Sys2Proof.Machine.execChOverload dt ch runs s
  | .bstOv dt q mv held => Sys2Proof.Machine.execBstOv dt q mv held s
  | .bstFail dt q mv => Sys2Proof.Machine.execBstFail dt q mv s
  | .bstFailClear dt q mv => Sys2Proof.Machine.execBstFailClear dt q mv s
  | .loopSample dt loop => Sys2Proof.Machine.execLoopSample dt loop s
  | .measLost dt loop => Sys2Proof.Machine.execMeasLost dt loop s
  | .traceWrite dt unit => Sys2Proof.Machine.execTraceWrite dt unit s
  | .loopCheck dt loop => Sys2Proof.Machine.execLoopCheck dt loop s
  | .lsPwmPeriodStart dt pair obs cell => Sys2Proof.Machine.execLsPwmPeriodStart dt pair obs cell s
  | .lsTrip dt n ma held => Sys2Proof.Machine.execLsTrip dt n ma held s
  | .lsShortTrip dt n ma volts held => Sys2Proof.Machine.execLsShortTrip dt n ma volts held s
  | .lsPauseEnd dt n => Sys2Proof.Machine.execLsPauseEnd dt n s
  | .lsTripCountReset dt n => Sys2Proof.Machine.execLsTripCountReset dt n s
  | .inrushWindowEnd dt n below => Sys2Proof.Machine.execInrushWindowEnd dt n below s
  | .inrushBudgetSpent dt n ma => Sys2Proof.Machine.execInrushBudgetSpent dt n ma s
  | .thermalShutdown dt pair temp losses => Sys2Proof.Machine.execThermalShutdown dt pair temp losses s
  | .thermalRestart dt pair temp => Sys2Proof.Machine.execThermalRestart dt pair temp s
  | .lsOffStateTest dt n o => Sys2Proof.Machine.execLsOffStateTest dt n o s
  | .lsOpenLoadOn dt n ma => Sys2Proof.Machine.execLsOpenLoadOn dt n ma s
  | .lsReadbackMismatch dt n high on => Sys2Proof.Machine.execLsReadbackMismatch dt n high on s
  | .downFrame dt => Sys2Proof.Machine.execDownFrame dt s
  | .downFrameReceived dt => Sys2Proof.Machine.execDownFrameReceived dt s
  | .downFrameMissed dt => Sys2Proof.Machine.execDownFrameMissed dt s
  | .upFrame dt good banks => Sys2Proof.Machine.execUpFrame dt good banks s
  | .fieldRxLost dt => Sys2Proof.Machine.execFieldRxLost dt s
  | .silenceTimeout dt => Sys2Proof.Machine.execSilenceTimeout dt s
  | .resetSymbol dt => Sys2Proof.Machine.execResetSymbol dt s
  | .forceSafeSymbol dt => Sys2Proof.Machine.execForceSafeSymbol dt s
  | .fieldClockFail dt => Sys2Proof.Machine.execFieldClockFail dt s
  | .fdChange dt pin level since => Sys2Proof.Machine.execFdChange dt pin level since s
  | .wireBreak dt pin broken => Sys2Proof.Machine.execWireBreak dt pin broken s
  | .fdOverload dt pin => Sys2Proof.Machine.execFdOverload dt pin s
  | .bankOverload dt bank pin ma => Sys2Proof.Machine.execBankOverload dt bank pin ma s
  | .fdOpenLoad dt pin => Sys2Proof.Machine.execFdOpenLoad dt pin s
  | .pinDriven dt pin present => Sys2Proof.Machine.execPinDriven dt pin present s
  | .fdReadbackMismatch dt pin on => Sys2Proof.Machine.execFdReadbackMismatch dt pin on s
  | .aiReading dt input samples vsx code => Sys2Proof.Machine.execAiReading dt input samples vsx code s
  | .aiValid dt input => Sys2Proof.Machine.execAiValid dt input s
  | .ma20ShuntDisconnect dt input => Sys2Proof.Machine.execMa20ShuntDisconnect dt input s
  | .sxFault dt b => Sys2Proof.Machine.execSxFault dt b s
  | .sxRetry dt b holds => Sys2Proof.Machine.execSxRetry dt b holds s
  | .piEdge dt input mv held => Sys2Proof.Machine.execPiEdge dt input mv held s
  | .piZeroTimeout dt input => Sys2Proof.Machine.execPiZeroTimeout dt input s
  | .extevEdge dt input => Sys2Proof.Machine.execExtevEdge dt input s
  | .canFrameReceived dt bus sof f => Sys2Proof.Machine.execCanFrameReceived dt bus sof f s
  | .tpSessionTimeout dt bus tx sess => Sys2Proof.Machine.execTpSessionTimeout dt bus tx sess s
  | .canTxSuccess dt bus sof => Sys2Proof.Machine.execCanTxSuccess dt bus sof s
  | .canArbitrationLost dt bus sof => Sys2Proof.Machine.execCanArbitrationLost dt bus sof s
  | .canTxError dt bus sof e => Sys2Proof.Machine.execCanTxError dt bus sof e s
  | .canRxError dt bus by8 => Sys2Proof.Machine.execCanRxError dt bus by8 s
  | .busFault dt bus => Sys2Proof.Machine.execBusFault dt bus s
  | .busStuck dt bus => Sys2Proof.Machine.execBusStuck dt bus s
  | .busLineClear dt bus => Sys2Proof.Machine.execBusLineClear dt bus s
  | .periodicFrame dt n => Sys2Proof.Machine.execPeriodicFrame dt n s
  | .syncFrame dt bus => Sys2Proof.Machine.execSyncFrame dt bus s
  | .addressClaimComplete dt bus => Sys2Proof.Machine.execAddressClaimComplete dt bus s
  | .txSessionOpen dt bus data => Sys2Proof.Machine.execTxSessionOpen dt bus data s
  | .bamPacket dt bus sess => Sys2Proof.Machine.execBamPacket dt bus sess s
  | .busRecovered dt bus => Sys2Proof.Machine.execBusRecovered dt bus s
  | .busRecoveryTimeout dt bus => Sys2Proof.Machine.execBusRecoveryTimeout dt bus s
  | .rateDetectTimeout dt bus => Sys2Proof.Machine.execRateDetectTimeout dt bus s
  | .regulatorOutOfRange dt => Sys2Proof.Machine.execRegulatorOutOfRange dt s
  | .holdOvervoltage dt mv => Sys2Proof.Machine.execHoldOvervoltage dt mv s
  | .vhioRestored dt mv held => Sys2Proof.Machine.execVhioRestored dt mv held s
  | .phaseLock dt ch indicator => Sys2Proof.Machine.execPhaseLock dt ch indicator s
  | .diagStarvation dt ch => Sys2Proof.Machine.execDiagStarvation dt ch s
  | .valveDiagNowComplete dt codes => Sys2Proof.Machine.execValveDiagNowComplete dt codes s
  | .lsDiagNowComplete dt obs => Sys2Proof.Machine.execLsDiagNowComplete dt obs s
  | .ma20ShuntReconnect dt input => Sys2Proof.Machine.execMa20ShuntReconnect dt input s
  | .busIntegration dt bus => Sys2Proof.Machine.execBusIntegration dt bus s
  | .vbatOvervoltageRelease dt mv held => Sys2Proof.Machine.execVbatOvervoltageRelease dt mv held s
  | .vio24OvervoltageRelease dt mv held => Sys2Proof.Machine.execVio24OvervoltageRelease dt mv held s

end Sys2Proof.Machine
end

