-- ==== Sys2Proof/Safety.lean ====
section
/-! DEFINITION. The terms that claims are stated in: completing a row, taking and answering a host command, what
may change, resets, FAULT, and the safe states of the outputs. -/

namespace Sys2Proof.Machine

/-- Row `c` completes from `s` in a next state that holds `P`. -/
def Completes (c : Instr) (s : State) (P : State → Prop) : Prop := ∃ t, exec c s = .next t ∧ P t

/-! ### Host commands (R348, R351, R359 to R361, R374) -/

/-- The CMD descriptor at the module index has been taken off the ring (R351). -/
def State.taken (s : State) : State :=
  (s.updRing 0 (fun r => { r with mod := r.mod + 1 })).updHost (fun h => { h with idxChanged := true })

/-- `dt` ticks on, no grace has run out (R51). -/
abbrev State.graceLasts (s : State) (dt : Nat) : Prop := s.dev.grace.all (fun g => decide ((s.advance dt).now < g.endsAt)) = true

/-- The module can take a command of opcode `op` with header `h` from the CMD ring `dt` ticks on (R348, R359), no grace
having run out by then (R35), and its device state, a grace and the write-protect allow it: checks 1 and 2 of R374. -/
abbrev Takes (s : State) (dt : Nat) (op : Byte) (h : Hdr) : Prop :=
  s.graceLasts dt ∧ s.canTake h.fence = true ∧ s.admits op.toNat = true

/-- Command `c` of opcode `op` is taken from `s` and answered at once: STATUS `st` and RESULT `res` are completed
from a state that holds `P`, the command's own effect. -/
def Answers (c : Instr) (op : Byte) (h : Hdr) (s : State) (st : Status) (res : BitVec 128) (P : State → Prop) : Prop :=
  ∃ v, exec c s = .next (v.complete op h (s.ring 0).mod st res) ∧ P v

/-- Command `c` is taken from `s` and waits: the next state holds `P`, and the command is the youngest outstanding
one, with its CMD index and the MT of now, waiting for the DMA of a host buffer where `dma` says so. -/
def Waits (c : Instr) (op : Byte) (h : Hdr) (s : State) (dma : Bool) (P : State → Prop) : Prop :=
  ∃ t, exec c s = .next t ∧ P t ∧
    ∃ aux old, t.host.outstanding = old ++ [{ cmd := c, op := op, h := h, idx := (s.ring 0).mod, dma := dma, aux := aux,
                                              mt := t.now }]

/-- Between `s` and `v` the report of a command has been written, with RESULT `res` (R380): at REPORT_ADDR rounded down to
32 bytes, within REPORT_LEN, under the 32-byte header with the opcode, the tag, the MT, the items written and selected,
and the bytes.  A REPORT_LEN below 32 gets no report (log 8). -/
def Reported (op : Byte) (h : Hdr) (rep : Ref) (s v : State) (res : BitVec 128) : Prop :=
  ∃ (n avail : Nat) (ws : List Word),
    res = resultOf [(128, 16, n), (144, 16, avail), (160, 32, if 32 ≤ rep.len.toNat then 4 * ws.length else 0)]
    ∧ (32 ≤ rep.len.toNat → v.host.out = s.host.out ++ [.report (rep.addr &&& ~~~(31 : DWord)) ws]
        ∧ 4 * ws.length ≤ rep.len.toNat
        ∧ ws.take 8 = [wn (op.toNat + h.tag.toNat * 65536), wn v.now, wn (v.now / 2 ^ 32), wn (n + avail % 65536 * 65536),
            wn (4 * ws.length), 0, 0, 0])
    ∧ (rep.len.toNat < 32 → n = 0 ∧ v.host.out = s.host.out)

/-! ### What may change -/

/-- `t` differs from `s` in the host interface, and in the counters of R395, at most. -/
def HostOnly (s t : State) : Prop := t = { s with host := t.host, cnt := t.cnt }

/-- `t` differs from `s` in the supplies' state, the host interface and the counters at most. -/
def PwrOnly (s t : State) : Prop := t = { s with pwr := t.pwr, host := t.host, cnt := t.cnt }

/-- A status command `c` of opcode `op`, where it can be taken, is answered OK at once, its report written (R380), and
the machine otherwise left as it was. -/
def Tells (s : State) (dt : Nat) (h : Hdr) (rep : Ref) (c : Instr) (op : Byte) : Prop :=
  Takes s dt op h → ∃ res, Answers c op h s .ok res (fun v => HostOnly (s.advance dt) v ∧ Reported op h rep s v res)

/-- The class and the number of descriptors of a telemetry record, where there is one to form (R364, R389 to R395). -/
def State.telForms (s : State) : TelKind → Option (Nat × Nat)
  | .fusion => if s.nav.outs.isEmpty then none else some (0, 3)
  | .valve ch => if s.planned ch then some (1, 2) else none
  | .loop n => if s.loopOn n then some (3, 1) else none
  | .fd => some (4, 1)
  | .edge n => if (s.pin_ n).tel.isEmpty then none else some (5, 1)
  | .ai => some (4, 3)
  | .pi => some (4, 3)
  | .count k => if k < 12 then some (6, 1) else none

/-- The ground point of channel `ch` at MT `m`, after output `o`, lies within the prefetch margin of a tile (R135, R158). -/
def State.nearTile (s : State) (o : FusOut) (ch m : Nat) (tx ty : Int) : Prop :=
  let p := (o.motionAt m).swath (s.cfgI .chX ch) (s.cfgI .chY ch) (s.cfgI .trDist ch)
  let r : Rat := (s.cfgN .prefetchWidth + o.hpu : Nat)
  tileDist2 (64 * s.cellMm) tx ty p.e p.n ≤ r * r

/-- Activity `a` has ended between `s` and `t`, its MAINT_START `w` completed, and the device state kept. -/
def EndsAct (s t : State) (a : Activity) (w : Waiting) : Prop :=
  t.acts = s.acts.filter (fun x => !(x == a)) ∧ t.host.outstanding = s.host.outstanding.filter (fun x => !w.same x)
    ∧ t.dev = s.dev

/-! ### Reset (R41 to R45) -/

/-- `t` is in RESET, asserted `dt` ticks after `s` by source `src`, held for `hold` ticks: the latches of R44, MT
stopped, both lanes forcing safe, and everything that R43 and R45 return to its reset value there. -/
def ResetBy (s : State) (dt src hold : Nat) (t : State) : Prop :=
  t.dev.st = .reset ∧ t.dev.resetSource = src ∧ t.dev.resetState = s.dev.st ∧ t.dev.resetMt = (s.advance dt).now
    ∧ t.dev.resetHold = hold ∧ t.dev.bootCount = s.dev.bootCount ∧ t.time.running = false ∧ t.time.mt = 0
    ∧ t.sag.a.force = true ∧ t.sag.b.force = true ∧ t.host.rings = List.replicate 16 {} ∧ t.acts = []
    ∧ t.valves = {} ∧ t.tiles = {} ∧ t.planner = {} ∧ t.nav = {}
    ∧ t.can = { bus := s.can.bus.map (fun b => { term := decide (src ≠ 0) && b.term }) }
    ∧ t.flash = s.flash ∧ t.pending = s.pending

/-! ### The device state (R33, R50) -/

/-- The arrows of the table of R33, from one state to another. -/
def DevState.moves (a b : DevState) : Bool :=
  match b with
  | .reset => true
  | .boot => a == .reset
  | .safe => a == .boot || a == .standby || a.active
  | .standby => a == .safe || a == .fault || a.active
  | .parked => a == .standby || a == .working || a == .manual
  | .working => a == .parked
  | .manual => a == .parked
  | .fault => a == .boot || a == .safe || a == .standby || a.active

/-- One command of a sweep has run between `u` and `v`, by its own meaning, along at most one arrow (a CAN_TX_CANCEL, which
a free value tells whether the frame's transmission has started, changes no device state). -/
def Ran (ds : List Desc) (u v : State) : Prop :=
  (∃ d ∈ ds, exec (decodeCmd d) u = .next v ∨ cmdField d 0 8 = 0x81 ∧ v.dev = u.dev)
    ∧ (v.dev.st = u.dev.st ∨ u.dev.st.moves v.dev.st = true)

/-- A grace runs only in PARKED, WORKING or MANUAL. -/
abbrev State.graceOk (s : State) : Prop := s.dev.grace.isSome = true → s.dev.st.active = true

/-! ### FAULT (R39, R443, R452) -/

/-- A lane (0 SAGA, 1 SAGB, 2 both) has its field `f`. -/
def Sag.inLane (g : Sag) (lane : Nat) (f : Lane → Bool) : Prop :=
  (lane ≠ 1 → f g.a = true) ∧ (lane ≠ 0 → f g.b = true)

/-- The module is out of RESET and BOOT. -/
abbrev DevState.booted (d : DevState) : Prop := d ≠ .reset ∧ d ≠ .boot

/-- `t` is in FAULT with cause `c` recorded, the lane that detected it forces safe, and the cause's class is among
the lane's detections. -/
def InFault (c : FCause) (lane : Nat) (t : State) : Prop :=
  t.dev.st = .fault ∧ c ∈ t.dev.causes ∧ t.sag.inLane lane (·.force)
    ∧ t.sag.inLane lane (fun l => l.detected.getLsbD c.klass)

/-! ### Host loss (R50 to R52, R54) -/

/-- A host loss detected `dt` ticks after `s` has been answered in `t`: nothing is bound; STANDBY becomes SAFE;
PARKED, WORKING and MANUAL stay while HOST_GRACE runs from that instant, or become SAFE where HOST_GRACE is 0; every
other state stays. -/
def HostLossIn (s : State) (dt : Nat) (t : State) : Prop :=
  let now := (s.advance dt).now
  t.dev.bound = false
    ∧ (s.dev.st = .standby → t.dev.st = .safe)
    ∧ (s.dev.st.active = true → s.dev.grace = none → s.host.hostGrace ≠ 0 → t.dev.st = s.dev.st
        ∧ t.dev.grace = some { start := now, endsAt := now + s.host.hostGrace * 250000 })
    ∧ (s.dev.st.active = true → s.dev.grace = none → s.host.hostGrace = 0 → t.dev.st = .safe ∧ t.dev.grace = none)
    ∧ (s.dev.st ≠ .standby → s.dev.st.active = false → t.dev.st = s.dev.st)

/-- The host-interface block, the MSI-X table and the PBA hold their reset values (R341, R482). -/
def HostRegsReset (t : State) : Prop :=
  t.host.bme = false ∧ t.host.mse = false ∧ t.host.d0 = true ∧ t.host.fmask = false ∧ t.host.dbBase = 0 ∧ t.host.stBase = 0 ∧ t.host.poll = 4
    ∧ t.host.hbTimeout = 250 ∧ t.host.regLocked = false ∧ (∀ r ∈ t.host.rings, r = { loss := r.loss })
    ∧ t.host.vecs = List.replicate 32 {} ∧ t.host.sweeping = false

/-- Every valve output is off at its rail: no group's rail is on, no edge waits in a group, no boost runs. -/
def State.valvesOff (s : State) : Prop :=
  (∀ g ∈ s.valves.grp, g.rail = 0 ∧ g.handed = [] ∧ g.holder = none) ∧ ∀ q ∈ s.valves.quad, q.off = true

/-! ### Valves and sequencers (R208, R214 to R217) -/

/-- The channel is among the model's 96, and its group among the 12. -/
abbrev State.hasCh (s : State) (ch : Nat) : Prop := ch < s.valves.ch.length ∧ grpOf ch < s.valves.grp.length

/-- A channel is latched OFF with a finding (R208). -/
def State.chLatched (s : State) (ch finding : Nat) : Prop :=
  (s.chan ch).latched = true ∧ (s.chan ch).finding = finding ∧ (s.ctx ch).st = .latched

/-- A group has faulted: all eight channels are latched OFF with the finding, its rail is open and its claim ended. -/
def State.grpLatched (s : State) (g finding : Nat) : Prop :=
  (∀ j < 8, 8 * g + j < s.valves.ch.length → s.chLatched (8 * g + j) finding)
    ∧ (s.group g).fault = true ∧ (s.group g).rail = 0 ∧ (s.group g).holder = none ∧ (s.group g).queue = []

/-- Instruction `i` is due on channel `ch` `dt` ticks after `s`: its context runs, the boundary has come, the address
lies within the profile, it is not the 4,096th instruction in a row without a wait (R230), and the word there is `i`. -/
abbrev SeqDue (s : State) (dt ch : Nat) (i : SeqInstr) : Prop :=
  s.hasCh ch ∧ ch < s.nCh ∧ (s.ctx ch).due (s.advance dt).now = true ∧ (s.ctx ch).pc ≤ hdrLast (s.hdrOf ch)
    ∧ (s.ctx ch).runLen < 4095 ∧ decodeSeq ((s.group (grpOf ch)).store.getD (s.ctx ch).pc 0) = some i

/-- `t` differs from `s`, `dt` ticks later, in channel `ch`'s context, in its counts, in its group, in the events raised,
and in since when the other channels of its group have a load on a sourced rail, at most. -/
def SeqStep (s : State) (dt ch : Nat) (t : State) : Prop :=
  t = { s.advance dt with valves := t.valves, host := t.host, cnt := t.cnt } 
    ∧ (∀ j, j ≠ ch → t.chan j = { s.chan j with ctx := { s.ctx j with loadFrom := (t.ctx j).loadFrom } })
    ∧ (∀ j, grpOf j ≠ grpOf ch → t.chan j = s.chan j) ∧ (∀ g, g ≠ grpOf ch → t.group g = s.group g)

end Sys2Proof.Machine
end

