-- ==== Sys2Proof/WellFormed.lean ====
section
/-! DEFINITION. Which commands are well formed: every operand that names a resource, or that stands in a field
of a descriptor, within the range that its encoding admits (R343 to R345, R381). -/

namespace Sys2Proof

/-- A number below a bound. -/
def below (n k : Nat) : Bool := decide (n < k)

/-- The check of one command. -/
def Instr.wf (i : Instr) : Bool :=
  match i with
  | .powerOnReset _ _ _ _ => true
  | .resetnLow _ _ => true
  | .watchdogTimeout _ core => below core 16
  | .saggarReset _ => true
  | .moduleResetAssert _ => true
  | .resetRelease _ _ _ _ => true
  | .startupComplete _ => true
  | .bootComplete _ _ => true
  | .configRequestRetry _ => true
  | .safenAssert _ lane _ => below lane 3
  | .safenRelease _ _ => true
  | .sagEnter _ _ _ => true
  | .sagRelease _ _ _ => true
  | .lowFieldEnter _ _ _ => true
  | .lowFieldRelease _ _ _ => true
  | .brownout _ _ _ _ => true
  | .brownoutRecovery _ _ _ => true
  | .vbatOvervoltage _ _ _ => true
  | .driveSuspension _ q _ _ => below q 4
  | .driveSuspensionEnd _ q _ _ => below q 4
  | .loadSuspension _ q _ _ => below q 4
  | .loadSuspensionEnd _ q _ _ => below q 4
  | .vioLow _ _ _ => true
  | .vioLost _ _ _ => true
  | .vioRestored _ _ _ => true
  | .vio24Overvoltage _ _ _ => true
  | .vhioLow _ _ _ => true
  | .refclkLoss _ => true
  | .islandClockStop _ isl => isl.real
  | .timeMark _ _ => true
  | .timeMarkMissing _ isl => isl.real
  | .laneCrossCheck _ _ => true
  | .forceSafePathTest _ _ => true
  | .envelopeViolation _ _ lane => below lane 3
  | .dieOvertemp _ die _ _ => below die 5
  | .coreLockstepMismatch _ core => below core 16
  | .memoryScrub _ _ => true
  | .flashDigestCheck _ _ => true
  | .faultRecordWritten _ _ => true
  | .laneConfirmTimeout _ cls => below cls 15
  | .perstnAssert _ => true
  | .hotReset _ => true
  | .functionLevelReset _ => true
  | .dlDown _ => true
  | .busMasterEnableClear _ _ => true
  | .d3hotEntry _ => true
  | .hostAccessRestored _ => true
  | .linkUp _ => true
  | .heartbeatTimeout _ => true
  | .hostGraceExpiry _ => true
  | .doorbellSweep _ => true
  | .doorbellReadComplete _ _ => true
  | .descriptorFetch _ _ => true
  | .hostBufferRead _ cmdIdx _ => below cmdIdx (2 ^ 32)
  | .statusBlockRefresh _ => true
  | .msixModerationTimeout _ v => below v 32
  | .evtQueueDrain _ => true
  | .telemetryRecord _ _ => true
  | .telemetryAgeDrop _ => true
  | .ringEnable _ ring _ vec => below ring 16 && below vec 32
  | .ringDisable _ ring vec => below ring 16 && below vec 32
  | .regLocked _ _ _ => true
  | .pollPeriodWrite _ _ => true
  | .hbTimeoutWrite _ _ => true
  | .hiErrClear _ _ => true
  | .msixUnmask _ v => v.all (fun n => below n 32)
  | .registerWrite _ _ _ _ => true
  | .bar0BadAccess _ _ _ _ => true
  | .unknownOpcode _ _ _ => true
  | .nop _ _ => true
  | .bind _ _ _ _ => true
  | .unbind _ _ => true
  | .arm _ _ => true
  | .disarm _ _ => true
  | .run _ _ => true
  | .hold _ _ => true
  | .manualEnter _ _ => true
  | .manualExit _ _ => true
  | .clearFault _ _ => true
  | .heartbeat _ _ => true
  | .moduleReset _ _ => true
  | .stateQuery _ _ => true
  | .telSelect _ _ _ decs ageMs => below ageMs 256 && decide (decs.length = 7) && decs.all (fun n => below n 65536)
  | .cfgStage _ _ _ => true
  | .stagingComplete _ _ => true
  | .cfgFire _ _ _ => true
  | .cfgRollback _ _ => true
  | .firingComplete _ _ _ => true
  | .journalEraseDone _ => true
  | .cfgStatus _ _ _ => true
  | .maintStart _ _ _ _ _ loop => below loop 32
  | .maintAbort _ _ _ => true
  | .maintStatus _ _ _ => true
  | .valveSweepComplete _ _ => true
  | .wireCheckComplete _ _ _ => true
  | .autoTuneComplete _ => true
  | .autoTuneTimeout _ => true
  | .flashScrubComplete _ _ _ _ => true
  | .sensorZeroComplete _ _ _ => true
  | .sextantSelfTestComplete _ _ _ => true
  | .tilePatch _ _ _ _ _ _ offset len _ _ => below offset 1024 && below len 1024
  | .tileInvalidate _ _ _ _ _ _ mode => below mode 4
  | .tileFlush _ _ => true
  | .tileFlushComplete _ => true
  | .rateTable _ _ _ => true
  | .tileStatus _ _ _ _ _ _ => true
  | .planSectionEnable _ _ _ _ => true
  | .planManual _ _ _ _ duty _ => below duty 128
  | .planHoldAck _ _ => true
  | .planStatus _ _ _ _ => true
  | .fieldOrigin _ _ _ _ _ => true
  | .fieldOriginComplete _ => true
  | .fusionStatus _ _ _ => true
  | .fusionReset _ _ => true
  | .valveStatus _ _ _ _ _ => true
  | .valveClear _ _ group _ => below group 16
  | .valveClearComplete _ _ => true
  | .valveDelayReset _ _ _ => true
  | .valveDiagNow _ _ group _ => below group 16
  | .seqStatus _ _ _ _ => true
  | .seqRead _ _ _ sequencer _ first words => below sequencer 16 && below first 512 && below words 1024
  | .seqSetK _ _ group _ _ _ ks => below group 16 && decide (ks.length = 4)
  | .loopStatus _ _ _ _ _ => true
  | .loopClose _ _ loop => below loop 32
  | .loopOpen _ _ loop _ => below loop 32
  | .loopSetpoint _ _ loop _ => below loop 32
  | .loopOutput _ _ loop _ => below loop 32
  | .loopCoef _ _ loop _ _ _ _ => below loop 32
  | .loopClear _ _ loop => below loop 32
  | .traceArm _ _ unit loop dec pre trig node _ _ => below unit 4 && below loop 32 && below dec 256 && below pre 4096 && below trig 16 && below node 8
  | .traceStop _ _ unit _ _ => below unit 4
  | .traceStatus _ _ _ => true
  | .lsSet _ _ _ mode _ => below mode 8
  | .lsStatus _ _ _ _ => true
  | .lsClear _ _ _ => true
  | .lsClearComplete _ _ => true
  | .lsDiagNow _ _ _ => true
  | .fdSet _ _ _ _ => true
  | .fdStatus _ _ _ _ => true
  | .fdClear _ _ _ => true
  | .aiStatus _ _ _ _ => true
  | .piStatus _ _ _ _ => true
  | .piCountSet _ _ input _ _ => below input 16
  | .piCountLoad _ input => below input 16
  | .sxSet _ _ _ _ => true
  | .canStatus _ _ _ _ => true
  | .canTxCancel _ _ bus _ _ => below bus 4
  | .canBusRecover _ _ bus => below bus 4
  | .canMode _ _ bus _ _ nom data => below bus 4 && below nom 8 && below data 4
  | .canRateDetect _ _ bus timeoutMs => below bus 4 && below timeoutMs (2 ^ 32)
  | .canSlotRead _ _ _ bus _ => below bus 4
  | .canFilterSet _ _ bus entries _ => below bus 4 && below entries 256
  | .isoClaim _ _ bus _ => below bus 4
  | .sxStatus _ _ _ => true
  | .sxAidTime _ _ _ _ => true
  | .sxAidPos _ _ _ _ _ _ => true
  | .sxAidOrbit _ _ _ _ => true
  | .sxRestart _ _ kind => below kind 4
  | .sxExclude _ _ _ _ _ sys => below sys 16
  | .sxRaw _ _ _ => true
  | .diagRecords _ _ _ _ => true
  | .diagCounters _ _ _ => true
  | .saggarStatus _ _ _ => true
  | .diagErase _ _ _ => true
  | .diagEraseComplete _ _ => true
  | .plannerCycleStart _ => true
  | .placementDeadline _ _ => true
  | .holdUnacked _ => true
  | .holdExpired _ => true
  | .fusionEpoch _ _ => true
  | .imuDrdyEdge _ => true
  | .imuSyncPulse _ => true
  | .imuBurstComplete _ _ => true
  | .imuInitRetry _ => true
  | .measurementEpoch _ _ => true
  | .coastStart _ => true
  | .ftStep _ => true
  | .slewComplete _ => true
  | .coastUncertaintyLimit _ => true
  | .tp0Pulse _ => true
  | .channelAllocation _ _ => true
  | .acquisitionDetection _ engine _ _ ch _ _ => below engine 16 && below ch 128
  | .acquisitionConfirmTimeout _ engine => below engine 16
  | .handoverLockTimeout _ ch => below ch 128
  | .lowCn0Release _ ch => below ch 128
  | .bocJump _ ch _ => below ch 128
  | .portFault _ port cond => below port 4 && below cond 3
  | .portGood _ port => below port 4
  | .corrSwitch _ => true
  | .prefetchRecompute _ => true
  | .tileRequestEnterRing _ => true
  | .tileRecordRead _ slot _ => below slot 4096
  | .writebackDue _ slot => below slot 4096
  | .writebackComplete _ slot _ => below slot 4096
  | .tileTimeout _ slot => below slot 4096
  | .tileRetry _ slot => below slot 4096
  | .edgeHandover _ ch => below ch 96
  | .edgeRelease _ ch => below ch 96
  | .seqSrc _ ch _ _ => below ch 96
  | .seqItgt _ ch _ => below ch 96
  | .seqWaiti _ ch _ => below ch 96
  | .seqWaitt _ ch _ => below ch 96
  | .seqArm _ ch _ => below ch 96
  | .seqDecay _ ch _ => below ch 96
  | .seqMark _ ch _ => below ch 96
  | .seqJmp _ ch _ => below ch 96
  | .seqJc _ ch _ _ => below ch 96
  | .seqLoop _ ch _ => below ch 96
  | .seqHoldw _ ch _ => below ch 96
  | .seqEnd _ ch _ => below ch 96
  | .seqReservedOpcode _ ch _ => below ch 96
  | .seqStoreCompare _ _ => true
  | .seqReload _ group => below group 12
  | .boostGrant _ group _ => below group 12
  | .boostRefusal _ ch => below ch 96
  | .waitiEnd _ ch _ _ => below ch 96
  | .waitiTimeout _ ch => below ch 96
  | .waittExpiry _ ch => below ch 96
  | .arrivalWindowTimeout _ ch _ => below ch 96
  | .arrivalDetected _ ch _ _ => below ch 96
  | .decayEnd _ ch _ _ => below ch 96
  | .minOffElapsed _ ch => below ch 96
  | .markBufferDrain _ group => below group 12
  | .offStateTest _ ch _ => below ch 96
  | .shortSupplyTrip _ ch _ => below ch 96
  | .openLoadOn _ ch _ _ => below ch 96
  | .coilR _ ch _ _ => below ch 96
  | .railLeak _ group _ => below group 12
  | .valveReadbackMismatch _ _ _ _ _ => true
  | .tied _ ch partner _ => below ch 96 && below partner 96
  | .railOvercurrent _ group _ _ => below group 12
  | .railOverload _ group _ => below group 12
  | .chOverload _ ch _ => below ch 96
  | .bstOv _ q _ _ => below q 4
  | .bstFail _ q _ => below q 4
  | .bstFailClear _ q _ => below q 4
  | .loopSample _ loop => below loop 32
  | .measLost _ loop => below loop 32
  | .traceWrite _ unit => below unit 4
  | .loopCheck _ loop => below loop 32
  | .lsPwmPeriodStart _ pair _ _ => below pair 8
  | .lsTrip _ n _ _ => below n 16
  | .lsShortTrip _ n _ _ _ => below n 16
  | .lsPauseEnd _ n => below n 16
  | .lsTripCountReset _ n => below n 16
  | .inrushWindowEnd _ n _ => below n 16
  | .inrushBudgetSpent _ n _ => below n 16
  | .thermalShutdown _ pair _ _ => below pair 8
  | .thermalRestart _ pair _ => below pair 8
  | .lsOffStateTest _ n _ => below n 16
  | .lsOpenLoadOn _ n _ => below n 16
  | .lsReadbackMismatch _ n _ _ => below n 16
  | .downFrame _ => true
  | .downFrameReceived _ => true
  | .downFrameMissed _ => true
  | .upFrame _ _ _ => true
  | .fieldRxLost _ => true
  | .silenceTimeout _ => true
  | .resetSymbol _ => true
  | .forceSafeSymbol _ => true
  | .fieldClockFail _ => true
  | .fdChange _ pin _ _ => below pin 32
  | .wireBreak _ pin _ => below pin 32
  | .fdOverload _ pin => below pin 32
  | .bankOverload _ bank pin _ => below bank 4 && below pin 32
  | .fdOpenLoad _ pin => below pin 32
  | .pinDriven _ pin _ => below pin 32
  | .fdReadbackMismatch _ pin _ => below pin 32
  | .aiReading _ input _ _ _ => below input 16
  | .aiValid _ input => below input 16
  | .ma20ShuntDisconnect _ input => below input 16
  | .sxFault _ _ => true
  | .sxRetry _ _ _ => true
  | .piEdge _ input _ _ => below input 16
  | .piZeroTimeout _ input => below input 16
  | .extevEdge _ input => below input 2
  | .canFrameReceived _ bus _ _ => below bus 4
  | .tpSessionTimeout _ bus _ _ => below bus 4
  | .canTxSuccess _ bus _ => below bus 4
  | .canArbitrationLost _ bus _ => below bus 4
  | .canTxError _ bus _ _ => below bus 4
  | .canRxError _ bus _ => below bus 4
  | .busFault _ bus => below bus 4
  | .busStuck _ bus => below bus 4
  | .busLineClear _ bus => below bus 4
  | .periodicFrame _ n => below n 32
  | .syncFrame _ bus => below bus 4
  | .addressClaimComplete _ bus => below bus 4
  | .txSessionOpen _ bus _ => below bus 4
  | .bamPacket _ bus _ => below bus 4
  | .busRecovered _ bus => below bus 4
  | .busRecoveryTimeout _ bus => below bus 4
  | .rateDetectTimeout _ bus => below bus 4
  | .regulatorOutOfRange _ => true
  | .holdOvervoltage _ _ => true
  | .vhioRestored _ _ _ => true
  | .phaseLock _ ch _ => below ch 128
  | .diagStarvation _ ch => below ch 96
  | .valveDiagNowComplete _ _ => true
  | .lsDiagNowComplete _ _ => true
  | .ma20ShuntReconnect _ input => below input 16
  | .busIntegration _ bus => below bus 4
  | .vbatOvervoltageRelease _ _ _ => true
  | .vio24OvervoltageRelease _ _ _ => true

/-- The place of a trigger among those of one planner cycle or poll sweep (R35): reset, module-wide fault, SAFEN,
BROWNOUT, expiry of HOST_GRACE, commands, speed comparison.  A row whose
monitor can find a module-wide condition stands with those, whether or not it finds one. -/
def Instr.trigger : Instr → Option Nat
  | .powerOnReset _ _ _ _ | .resetnLow _ _ | .watchdogTimeout _ _ | .saggarReset _ | .moduleResetAssert _ => some 0
  | .envelopeViolation _ _ _ | .lsReadbackMismatch _ _ _ _ | .fdReadbackMismatch _ _ _ | .loopCheck _ _
  | .islandClockStop _ _ | .refclkLoss _ | .timeMark _ _ | .timeMarkMissing _ _ | .laneCrossCheck _ _
  | .laneConfirmTimeout _ _ | .forceSafePathTest _ _ | .dieOvertemp _ _ _ _ | .coreLockstepMismatch _ _
  | .memoryScrub _ _ | .flashDigestCheck _ _ | .flashScrubComplete _ _ _ _ | .vbatOvervoltage _ _ _ | .holdOvervoltage _ _
  | .regulatorOutOfRange _ => some 1
  | .safenAssert _ _ _ | .vhioLow _ _ _ => some 2
  | .brownout _ _ _ _ => some 3
  | .hostGraceExpiry _ => some 4
  | .descriptorFetch _ _ => some 5
  | .unknownOpcode _ .. | .nop _ .. | .bind _ .. | .unbind _ .. | .arm _ .. | .disarm _ .. | .run _ ..
  | .hold _ .. | .manualEnter _ .. | .manualExit _ .. | .clearFault _ .. | .heartbeat _ .. | .moduleReset _ ..
  | .stateQuery _ .. | .telSelect _ .. | .cfgStage _ .. | .cfgFire _ .. | .cfgRollback _ .. | .cfgStatus _ ..
  | .maintStart _ .. | .maintAbort _ .. | .maintStatus _ .. | .tilePatch _ .. | .tileInvalidate _ ..
  | .tileFlush _ .. | .rateTable _ .. | .tileStatus _ .. | .planSectionEnable _ .. | .planManual _ ..
  | .planHoldAck _ .. | .planStatus _ .. | .fieldOrigin _ .. | .fusionStatus _ .. | .fusionReset _ ..
  | .valveStatus _ .. | .valveClear _ .. | .valveDelayReset _ .. | .valveDiagNow _ .. | .seqStatus _ ..
  | .seqRead _ .. | .seqSetK _ .. | .loopStatus _ .. | .loopClose _ .. | .loopOpen _ .. | .loopSetpoint _ ..
  | .loopOutput _ .. | .loopCoef _ .. | .loopClear _ .. | .traceArm _ .. | .traceStop _ .. | .traceStatus _ ..
  | .lsSet _ .. | .lsStatus _ .. | .lsClear _ .. | .lsDiagNow _ .. | .fdSet _ .. | .fdStatus _ ..
  | .fdClear _ .. | .aiStatus _ .. | .piStatus _ .. | .piCountSet _ .. | .sxSet _ .. | .canStatus _ ..
  | .canTxCancel _ .. | .canBusRecover _ .. | .canMode _ .. | .canRateDetect _ .. | .canSlotRead _ ..
  | .canFilterSet _ .. | .isoClaim _ .. | .sxStatus _ .. | .sxAidTime _ .. | .sxAidPos _ .. | .sxAidOrbit _ ..
  | .sxRestart _ .. | .sxExclude _ .. | .sxRaw _ .. | .diagRecords _ .. | .diagCounters _ ..
  | .saggarStatus _ .. | .diagErase _ .. => some 5
  | .plannerCycleStart _ => some 6
  | _ => none

/-- The place of a row among those that meet on the field side (R288): reset symbol, force-safe symbol, silence
timeout, frame content. -/
def Instr.fieldTrigger : Instr → Option Nat
  | .resetSymbol _ => some 0
  | .forceSafeSymbol _ => some 1
  | .silenceTimeout _ => some 2
  | .downFrameReceived _ | .downFrameMissed _ => some 3
  | _ => none

/-- The ticks since the row before it. -/
def Instr.ticks : Instr → Nat
  | .powerOnReset dt .. | .resetnLow dt .. | .watchdogTimeout dt .. | .saggarReset dt .. | .moduleResetAssert dt ..
  | .resetRelease dt .. | .startupComplete dt .. | .bootComplete dt .. | .configRequestRetry dt ..
  | .safenAssert dt .. | .safenRelease dt .. | .sagEnter dt .. | .sagRelease dt .. | .lowFieldEnter dt ..
  | .lowFieldRelease dt .. | .brownout dt .. | .brownoutRecovery dt .. | .vbatOvervoltage dt ..
  | .driveSuspension dt .. | .driveSuspensionEnd dt .. | .loadSuspension dt .. | .loadSuspensionEnd dt ..
  | .vioLow dt .. | .vioLost dt .. | .vioRestored dt .. | .vio24Overvoltage dt .. | .vhioLow dt ..
  | .refclkLoss dt .. | .islandClockStop dt .. | .timeMark dt .. | .timeMarkMissing dt .. | .laneCrossCheck dt ..
  | .forceSafePathTest dt .. | .envelopeViolation dt .. | .dieOvertemp dt .. | .coreLockstepMismatch dt ..
  | .memoryScrub dt .. | .flashDigestCheck dt .. | .faultRecordWritten dt .. | .laneConfirmTimeout dt ..
  | .perstnAssert dt .. | .hotReset dt .. | .functionLevelReset dt .. | .dlDown dt .. | .busMasterEnableClear dt ..
  | .d3hotEntry dt .. | .hostAccessRestored dt .. | .linkUp dt .. | .heartbeatTimeout dt .. | .hostGraceExpiry dt ..
  | .doorbellSweep dt .. | .doorbellReadComplete dt .. | .descriptorFetch dt .. | .hostBufferRead dt ..
  | .statusBlockRefresh dt .. | .msixModerationTimeout dt .. | .evtQueueDrain dt .. | .telemetryRecord dt ..
  | .telemetryAgeDrop dt .. | .ringEnable dt .. | .ringDisable dt .. | .regLocked dt .. | .pollPeriodWrite dt ..
  | .hbTimeoutWrite dt .. | .hiErrClear dt .. | .msixUnmask dt .. | .registerWrite dt .. | .bar0BadAccess dt ..
  | .unknownOpcode dt .. | .nop dt .. | .bind dt .. | .unbind dt .. | .arm dt .. | .disarm dt .. | .run dt ..
  | .hold dt .. | .manualEnter dt .. | .manualExit dt .. | .clearFault dt .. | .heartbeat dt .. | .moduleReset dt ..
  | .stateQuery dt .. | .telSelect dt .. | .cfgStage dt .. | .stagingComplete dt .. | .cfgFire dt ..
  | .cfgRollback dt .. | .firingComplete dt .. | .journalEraseDone dt .. | .cfgStatus dt .. | .maintStart dt ..
  | .maintAbort dt .. | .maintStatus dt .. | .valveSweepComplete dt .. | .wireCheckComplete dt ..
  | .autoTuneComplete dt .. | .autoTuneTimeout dt .. | .flashScrubComplete dt .. | .sensorZeroComplete dt ..
  | .sextantSelfTestComplete dt .. | .tilePatch dt .. | .tileInvalidate dt .. | .tileFlush dt ..
  | .tileFlushComplete dt .. | .rateTable dt .. | .tileStatus dt .. | .planSectionEnable dt .. | .planManual dt ..
  | .planHoldAck dt .. | .planStatus dt .. | .fieldOrigin dt .. | .fieldOriginComplete dt .. | .fusionStatus dt ..
  | .fusionReset dt .. | .valveStatus dt .. | .valveClear dt .. | .valveClearComplete dt .. | .valveDelayReset dt ..
  | .valveDiagNow dt .. | .seqStatus dt .. | .seqRead dt .. | .seqSetK dt .. | .loopStatus dt .. | .loopClose dt ..
  | .loopOpen dt .. | .loopSetpoint dt .. | .loopOutput dt .. | .loopCoef dt .. | .loopClear dt .. | .traceArm dt ..
  | .traceStop dt .. | .traceStatus dt .. | .lsSet dt .. | .lsStatus dt .. | .lsClear dt .. | .lsClearComplete dt ..
  | .lsDiagNow dt .. | .fdSet dt .. | .fdStatus dt .. | .fdClear dt .. | .aiStatus dt .. | .piStatus dt ..
  | .piCountSet dt .. | .piCountLoad dt .. | .sxSet dt .. | .canStatus dt .. | .canTxCancel dt ..
  | .canBusRecover dt .. | .canMode dt .. | .canRateDetect dt .. | .canSlotRead dt .. | .canFilterSet dt ..
  | .isoClaim dt .. | .sxStatus dt .. | .sxAidTime dt .. | .sxAidPos dt .. | .sxAidOrbit dt .. | .sxRestart dt ..
  | .sxExclude dt .. | .sxRaw dt .. | .diagRecords dt .. | .diagCounters dt .. | .saggarStatus dt ..
  | .diagErase dt .. | .diagEraseComplete dt .. | .plannerCycleStart dt .. | .placementDeadline dt ..
  | .holdUnacked dt .. | .holdExpired dt .. | .fusionEpoch dt .. | .imuDrdyEdge dt .. | .imuSyncPulse dt ..
  | .imuBurstComplete dt .. | .imuInitRetry dt .. | .measurementEpoch dt .. | .coastStart dt .. | .ftStep dt ..
  | .slewComplete dt .. | .coastUncertaintyLimit dt .. | .tp0Pulse dt .. | .channelAllocation dt ..
  | .acquisitionDetection dt .. | .acquisitionConfirmTimeout dt .. | .handoverLockTimeout dt ..
  | .lowCn0Release dt .. | .bocJump dt .. | .portFault dt .. | .portGood dt .. | .corrSwitch dt ..
  | .prefetchRecompute dt .. | .tileRequestEnterRing dt .. | .tileRecordRead dt .. | .writebackDue dt ..
  | .writebackComplete dt .. | .tileTimeout dt .. | .tileRetry dt .. | .edgeHandover dt .. | .edgeRelease dt ..
  | .seqSrc dt .. | .seqItgt dt .. | .seqWaiti dt .. | .seqWaitt dt .. | .seqArm dt .. | .seqDecay dt ..
  | .seqMark dt .. | .seqJmp dt .. | .seqJc dt .. | .seqLoop dt .. | .seqHoldw dt .. | .seqEnd dt ..
  | .seqReservedOpcode dt .. | .seqStoreCompare dt .. | .seqReload dt .. | .boostGrant dt .. | .boostRefusal dt ..
  | .waitiEnd dt .. | .waitiTimeout dt .. | .waittExpiry dt .. | .arrivalWindowTimeout dt .. | .arrivalDetected dt ..
  | .decayEnd dt .. | .minOffElapsed dt .. | .markBufferDrain dt .. | .offStateTest dt .. | .shortSupplyTrip dt ..
  | .openLoadOn dt .. | .coilR dt .. | .railLeak dt .. | .valveReadbackMismatch dt .. | .tied dt ..
  | .railOvercurrent dt .. | .railOverload dt .. | .chOverload dt .. | .bstOv dt .. | .bstFail dt ..
  | .bstFailClear dt .. | .loopSample dt .. | .measLost dt .. | .traceWrite dt .. | .loopCheck dt ..
  | .lsPwmPeriodStart dt .. | .lsTrip dt .. | .lsShortTrip dt .. | .lsPauseEnd dt .. | .lsTripCountReset dt ..
  | .inrushWindowEnd dt .. | .inrushBudgetSpent dt .. | .thermalShutdown dt .. | .thermalRestart dt ..
  | .lsOffStateTest dt .. | .lsOpenLoadOn dt .. | .lsReadbackMismatch dt .. | .downFrame dt ..
  | .downFrameReceived dt .. | .downFrameMissed dt .. | .upFrame dt .. | .fieldRxLost dt .. | .silenceTimeout dt ..
  | .resetSymbol dt .. | .forceSafeSymbol dt .. | .fieldClockFail dt .. | .fdChange dt .. | .wireBreak dt ..
  | .fdOverload dt .. | .bankOverload dt .. | .fdOpenLoad dt .. | .pinDriven dt .. | .fdReadbackMismatch dt ..
  | .aiReading dt .. | .aiValid dt .. | .ma20ShuntDisconnect dt .. | .sxFault dt .. | .sxRetry dt .. | .piEdge dt ..
  | .piZeroTimeout dt .. | .extevEdge dt .. | .canFrameReceived dt .. | .tpSessionTimeout dt .. | .canTxSuccess dt ..
  | .canArbitrationLost dt .. | .canTxError dt .. | .canRxError dt .. | .busFault dt .. | .busStuck dt ..
  | .busLineClear dt .. | .periodicFrame dt .. | .syncFrame dt .. | .addressClaimComplete dt ..
  | .txSessionOpen dt .. | .bamPacket dt .. | .busRecovered dt .. | .busRecoveryTimeout dt ..
  | .rateDetectTimeout dt .. | .regulatorOutOfRange dt .. | .holdOvervoltage dt .. | .vhioRestored dt ..
  | .phaseLock dt .. | .diagStarvation dt .. | .valveDiagNowComplete dt .. | .lsDiagNowComplete dt ..
  | .ma20ShuntReconnect dt .. | .busIntegration dt .. | .vbatOvervoltageRelease dt ..
  | .vio24OvervoltageRelease dt .. => dt

/-- Row `b` may follow `a` at one instant. -/
def keepsOrder (a b : Option Nat) : Bool :=
  match a, b with
  | some x, some y => decide (x ≤ y)
  | _, _ => true

/-- Every row at the instant of `a` may follow it. -/
def followsWell (a : Instr) : List Instr → Bool
  | b :: r => b.ticks ≠ 0 || (keepsOrder a.trigger b.trigger && keepsOrder a.fieldTrigger b.fieldTrigger && followsWell a r)
  | [] => true

/-- A queue keeps the orders of R35 and R288: of the triggers at one instant, the one taken first stands first
(log 96). -/
def wellOrdered : List Instr → Bool
  | a :: r => followsWell a r && wellOrdered r
  | [] => true

end Sys2Proof
end

