-- ==== Sys2Proof/Certificates/Slice0/Obligations.lean ====
section
/-! DEFINITION. The statements for the provers, in the order of the spec's chapters. -/

open Sys2Proof Sys2Proof.Machine

/-! ### The queue, and the state after power-on -/

/-- The block's step: the front command's own effect on the rest of the queue; with none waiting, one tick passes (the
model's choice, log 2). -/
def Obligations.StepRunsFront : Prop :=
  (∀ (c : Instr) (rest : List Instr) (s : State),
    step { s with pending := c :: rest } = exec c { s with pending := rest })
  ∧ ∀ s : State, s.pending = [] → step s = .next (s.advance 1)

/-- Right after power-on: RESET with MT stopped, both lanes forcing safe, no ring or vector enabled, every register that
R479 to R487 give a reset value at it. Two clauses rest on the model's choices: that STATE at power-on is RESET (log
4), and that every byte of Tile SRAM reads 0 (log 7). Right after power-on the invariants hold: no grace runs, Tile
SRAM lists nothing, and no counter has counted. -/
def Obligations.PowerOnState : Prop :=
  (let s := State.reset
  s.dev.st = .reset ∧ s.time.running = false ∧ s.time.mt = 0 ∧ s.sag.a.force = true ∧ s.sag.b.force = true
  ∧ s.pending = [] ∧ s.host.poll = 4 ∧ s.host.hbTimeout = 250 ∧ s.host.dbBase = 0 ∧ s.host.stBase = 0
  ∧ (∀ n < 16, (s.ring n).en = false ∧ (s.ring n).log2 = 4 ∧ (s.ring n).vec = 0 ∧ (s.ring n).base = 0)
  ∧ (∀ v < 32, (s.vec v).mask = true ∧ (s.vec v).pba = false ∧ (s.vec v).modTime = 50 ∧ (s.vec v).modCount = 16)
  ∧ s.host.regLocked = false ∧ s.host.dbErr = false ∧ s.time.ftValid = false ∧ s.time.ftSeq = 0
  ∧ s.cfg.gen = 0 ∧ s.cfg.digest = 0 ∧ s.cnt = List.replicate 69 0 ∧ s.acts = [])
  ∧ (State.reset.graceOk ∧ Memory.wf State.reset.tiles.mem = true ∧ (∀ a, Memory.read State.reset.tiles.mem a = 0)
    ∧ State.reset.cnt.length = 69 ∧ ∀ i, State.reset.cnt.getD i 0 = 0)

/-! ### Resets and BOOT -/

/-- The rows that assert a reset, each with its source and its length: a RESETN pulse of 1 us or more, one from 200 ns
to 1 us, which either resets or does nothing, and one below 200 ns, which does nothing; Saggar's reset, which waits
for its record, and after class 5 for 10 ms of a good REFCLK too. Completing, under its hypotheses: powerOnReset,
resetnLow, watchdogTimeout, saggarReset, moduleResetAssert. -/
def Obligations.ResetRows : Prop :=
  (∀ (s : State) (dt vbat hold held : Nat), max vbat hold < 4500 → 500 ≤ held → Completes (.powerOnReset dt vbat hold held) s (ResetBy s dt 0 0))
  ∧ (∀ (s : State) (dt lowNs : Nat), 1000 ≤ lowNs →
      Completes (.resetnLow dt lowNs) s (ResetBy s dt 1 (max 250000 (lowNs / 4))))
  ∧ (∀ (s : State) (dt core : Nat), s.dev.st ≠ .reset → Completes (.watchdogTimeout dt core) s (ResetBy s dt 3 250000))
  ∧ (∀ (s : State) (dt k m : Nat), s.dev.st ≠ .reset → s.sag.resetPending = some (k, m) → k ≠ 5 →
      ((∀ r ∈ s.sag.a.buffer, r.code ≠ 0xB001 ∨ r.subject ≠ BitVec.ofNat 16 k) ∨ m + 2500000 ≤ s.time.up + dt) →
      Completes (.saggarReset dt) s (ResetBy s dt 4 250000))
  ∧ (∀ (s : State) (dt due : Nat), s.dev.resetDue = some due → due ≤ (s.advance dt).now →
      Completes (.moduleResetAssert dt) s (ResetBy s dt 2 250000))
  ∧ (∀ (s : State) (dt lowNs : Nat), 200 ≤ lowNs → lowNs < 1000 → Completes (.resetnLow dt lowNs) s (fun t =>
      (ResetBy s dt 1 250000 t ∨ (t = { s.advance dt with free := s.free + 1, dev := t.dev }
        ∧ t.dev = { s.dev with resetnHigh := t.dev.resetnHigh }))))
  ∧ (∀ (s : State) (dt lowNs : Nat), lowNs < 200 → Completes (.resetnLow dt lowNs) s (fun t =>
      t = { s.advance dt with free := s.free + 1, dev := t.dev } ∧ t.dev = { s.dev with resetnHigh := t.dev.resetnHigh }))
  ∧ (∀ (s : State) (dt m : Nat), s.dev.st ≠ .reset → s.sag.resetPending = some (5, m) → s.sag.refBad = false →
      s.sag.refFrom + 2500000 ≤ s.time.up + dt →
      ((∀ r ∈ s.sag.a.buffer, r.code ≠ 0xB001 ∨ r.subject ≠ 5) ∨ m + 2500000 ≤ s.time.up + dt) →
      Completes (.saggarReset dt) s (ResetBy s dt 4 250000))

/-- From the release of a reset to SAFE: the straps are sampled once the length has passed, BOOT begins 1.5 ms later at
the earliest with MT at zero and BOOT_COUNT risen by one, and BOOT ends in SAFE where no module-wide cause is
present, or stays with cause 11 on a failed signature. Completing, under its hypotheses: resetRelease,
startupComplete, bootComplete, configRequestRetry. -/
def Obligations.BootRows : Prop :=
  (∀ (s : State) (dt : Nat) (straps : List StrapReading) (vhio vbat : Nat), s.dev.st = .reset → s.dev.released = none →
      s.dev.resetUp + s.dev.resetHold ≤ s.time.up + dt → (s.dev.resetSource = 0 → 4500 ≤ vbat) →
      Completes (.resetRelease dt straps vhio vbat) s (fun t =>
        t.dev.released = some (s.time.up + dt) ∧ t.dev.vhioMv = vhio ∧ t.dev.st = .reset
        ∧ t.dev.straps = (List.range 8).map (fun n => strapLevel (straps.getD n {}).a)
        ∧ t.dev.strapsB = (List.range 3).map (fun n => strapLevel (straps.getD n {}).b)))
  ∧ (∀ (s : State) (dt r : Nat), s.dev.st = .reset → s.dev.released = some r → r + 375000 ≤ s.time.up + dt →
      Completes (.startupComplete dt) s (fun t =>
        t.dev.st = .boot ∧ t.dev.cause = 10 ∧ t.dev.stMt = 0 ∧ t.time.mt = 0 ∧ t.time.running = true
        ∧ t.dev.bootCount = s.dev.bootCount + 1 ∧ t.dev.resetSource = s.dev.resetSource))
  ∧ (∀ (s : State) (dt : Nat) (b : BootObs), s.dev.st = .boot → s.dev.sigFail = false → b.sigOk = true →
      b.pathOk = true → s.strapsDiffer = false → s.pwr.brownout = false → s.pwr.overV = false → s.pwr.holdOv = false →
      s.sag.a.safen = false → s.sag.b.safen = false → s.pwr.vhioLow = false → s.dev.causes = [] →
      Completes (.bootComplete dt b) s (fun t =>
        t.dev.st = .safe ∧ t.dev.cause = 10 ∧ t.dev.stMt = (s.advance dt).now ∧ t.dev.bar0Ready = true
        ∧ t.dev.bootFaultn = false ∧ t.dev.bound = s.dev.bound))
  ∧ (∀ (s : State) (dt : Nat) (b : BootObs), s.dev.st = .boot → s.dev.sigFail = false → b.sigOk = false →
      Completes (.bootComplete dt b) s (fun t =>
        t.dev.st = .boot ∧ t.dev.sigFail = true ∧ t.dev.bar0Ready = true ∧ t.dev.cause = 11))
  ∧ (∀ (s : State) (dt : Nat), s.dev.st = .boot → s.dev.bar0Ready = false →
      Completes (.configRequestRetry dt) s (fun t =>
        t.host.out = s.host.out ++ [.configRetry] ∧ HostOnly (s.advance dt) t))

/-! ### Supplies, clocks and Saggar -/

/-- VBAT's sag and low-field conditions and its over-voltage release, and VIO24's and VHIO's conditions: each row sets
or clears its condition and the level read, and nothing else but the event it raises; a reading is taken also where
no condition follows. That SAG and LOW-FIELD are each told at their own time though a lower condition implies them
is the model's reading (log 164), and so is the 16,000 mV at which VIO_LOW is left (log 27); VIO24's thresholds are
R291's. Drive and load suspensions of a fitted quadrant: entered outside 5,500 to 60,500 mV, left from 6,000 to
59,500 mV, with the rails of a suspended quadrant's groups off. Completing, under its hypotheses: sagEnter,
sagRelease, lowFieldEnter, lowFieldRelease, brownoutRecovery, vbatOvervoltageRelease, vioLow, vioLost, vioRestored,
vio24Overvoltage, vio24OvervoltageRelease, vhioRestored, driveSuspension, driveSuspensionEnd, loadSuspension,
loadSuspensionEnd. -/
def Obligations.SupplyRows : Prop :=
  (∀ (s : State) (dt mv held : Nat), mv < s.sagMv → s.pwr.sagTold = false → 250000 ≤ held →
      Completes (.sagEnter dt mv held) s (fun t =>
      t.pwr = { s.pwr with vbat := mv, sag := true, sagTold := true } ∧ PwrOnly (s.advance dt) t))
  ∧ (∀ (s : State) (dt mv held : Nat), s.pwr.sag = true → s.pwr.lowField = false → s.pwr.brownout = false → s.sagMv + 500 < mv → 250000 ≤ held →
      Completes (.sagRelease dt mv held) s (fun t =>
        t.pwr = { s.pwr with vbat := mv, sag := false, sagTold := false } ∧ PwrOnly (s.advance dt) t))
  ∧ (∀ (s : State) (dt mv held : Nat), mv < 9000 → s.pwr.lowTold = false → 25000 ≤ held →
      Completes (.lowFieldEnter dt mv held) s (fun t =>
      t.pwr = { s.pwr with vbat := mv, sag := true, lowField := true, lowTold := true } ∧ PwrOnly (s.advance dt) t))
  ∧ (∀ (s : State) (dt mv held : Nat), s.pwr.lowField = true → s.pwr.brownout = false → 9500 < mv → 25000 ≤ held →
      Completes (.lowFieldRelease dt mv held) s (fun t =>
        t.pwr = { s.pwr with vbat := mv, lowField := false, lowTold := false, shed := false } ∧ t.dev = s.dev ∧ t.valves = s.valves))
  ∧ (∀ (s : State) (dt mv held : Nat), s.pwr.brownout = true → 6500 < mv → 2500 ≤ held →
      Completes (.brownoutRecovery dt mv held) s (fun t =>
      t.pwr = { s.pwr with vbat := mv, brownout := false, onHold := false } ∧ PwrOnly (s.advance dt) t))
  ∧ (∀ (s : State) (dt mv held : Nat), s.pwr.overV = true → mv < 64000 → 2500 ≤ held →
      Completes (.vbatOvervoltageRelease dt mv held) s (fun t =>
      t.pwr = { s.pwr with vbat := mv, overV := false } ∧ t.dev = s.dev ∧ t.valves = s.valves))
  ∧ (∀ (s : State) (dt mv held : Nat), mv < 16000 → s.pwr.vioLow = false → 250000 ≤ held →
      Completes (.vioLow dt mv held) s (fun t =>
      t.pwr = { s.pwr with vio24 := mv, vioLow := true } ∧ PwrOnly (s.advance dt) t))
  ∧ (∀ (s : State) (dt mv held : Nat), mv < 12000 → s.pwr.vioLost = false → 250000 ≤ held →
      Completes (.vioLost dt mv held) s (fun t =>
      t.pwr = { s.pwr with vio24 := mv, vioLow := true, vioLost := true } ∧ PwrOnly (s.advance dt) t))
  ∧ (∀ (s : State) (dt mv held : Nat), s.pwr.vioLost = true → 14000 < mv → 250000 ≤ held →
      Completes (.vioRestored dt mv held) s (fun t =>
      t.pwr = { s.pwr with vio24 := mv, vioLost := false, vioLow := decide (mv < 16000) } ∧ PwrOnly (s.advance dt) t))
  ∧ (∀ (s : State) (dt mv held : Nat), 35000 < mv → s.pwr.vio24Ov = false → 250000 ≤ held →
      Completes (.vio24Overvoltage dt mv held) s (fun t =>
      t.pwr = { s.pwr with vio24 := mv, vio24Ov := true } ∧ PwrOnly (s.advance dt) t))
  ∧ (∀ (s : State) (dt mv held : Nat), s.pwr.vio24Ov = true → mv < 33000 → 250000 ≤ held →
      Completes (.vio24OvervoltageRelease dt mv held) s (fun t =>
      t.pwr = { s.pwr with vio24 := mv, vio24Ov := false } ∧ PwrOnly (s.advance dt) t))
  ∧ (∀ (s : State) (dt mv held : Nat), s.pwr.vhioLow = true → s.vhioIn mv = true → 250000 ≤ held →
      Completes (.vhioRestored dt mv held) s (fun t =>
      t.pwr = { s.pwr with vhioLow := false } ∧ PwrOnly (s.advance dt) t))
  ∧ (∀ (s : State) (dt mv held : Nat), s.sagMv ≤ mv → Completes (.sagEnter dt mv held) s (fun t =>
      t = { s.advance dt with pwr := { s.pwr with vbat := mv } }))
  ∧ (∀ (s : State) (dt mv held : Nat), 16000 ≤ mv → Completes (.vioLow dt mv held) s (fun t =>
      t = { s.advance dt with pwr := { s.pwr with vio24 := mv } }))
  ∧ (∀ (s : State) (dt q mv held : Nat), q < s.nQuad → (mv < 5500 ∨ 60500 < mv) → s.pwr.drvSusp.getD q false = false → 2500 ≤ held →
      Completes (.driveSuspension dt q mv held) s (fun t =>
      t.pwr = { s.pwr with vdrv := s.pwr.vdrv.set q mv, drvSusp := s.pwr.drvSusp.set q true }
      ∧ (q < s.pwr.drvSusp.length → ∀ g, 3 * q ≤ g → g ≤ 3 * q + 2 → (t.group g).rail = 0)
      ∧ t.dev = s.dev ∧ t.loops = s.loops ∧ t.flash = s.flash))
  ∧ (∀ (s : State) (dt q mv held : Nat), q < s.nQuad → s.pwr.drvSusp.getD q false = true → 6000 ≤ mv → mv ≤ 59500 → 2500 ≤ held →
      Completes (.driveSuspensionEnd dt q mv held) s (fun t =>
        t.pwr = { s.pwr with vdrv := s.pwr.vdrv.set q mv, drvSusp := s.pwr.drvSusp.set q false }
        ∧ t.dev = s.dev ∧ t.loops = s.loops ∧ t.flash = s.flash))
  ∧ (∀ (s : State) (dt q mv held : Nat), q < 4 → (mv < 5500 ∨ 60500 < mv) → s.pwr.loadSusp.getD q false = false → 2500 ≤ held →
      Completes (.loadSuspension dt q mv held) s (fun t =>
      t.pwr = { s.pwr with vload := s.pwr.vload.set q mv, loadSusp := s.pwr.loadSusp.set q true }
      ∧ t = { s.advance dt with pwr := t.pwr, loops := t.loops }))
  ∧ (∀ (s : State) (dt q mv held : Nat), q < 4 → s.pwr.loadSusp.getD q false = true → 6000 ≤ mv → mv ≤ 59500 → 2500 ≤ held →
      Completes (.loadSuspensionEnd dt q mv held) s (fun t =>
        t.pwr = { s.pwr with vload := s.pwr.vload.set q mv, loadSusp := s.pwr.loadSusp.set q false }
        ∧ t = { s.advance dt with pwr := t.pwr, loops := t.loops }))

/-- The supply rows that a module out of RESET and BOOT answers with FAULT: the brownout of VBAT, its over-voltage, a
regulator out of range (which also asks for a reset), HOLD's over-voltage, and VHIO too low, which also loses the
host. Completing, under its hypotheses: brownout, vbatOvervoltage, regulatorOutOfRange, holdOvervoltage, vhioLow. -/
def Obligations.SupplyFaults : Prop :=
  (∀ (s : State) (dt mv hold held : Nat), s.dev.st.booted → mv < 6000 → s.pwr.brownout = false → 2500 ≤ held →
      Completes (.brownout dt mv hold held) s (fun t =>
      InFault .brownout 2 t
      ∧ t.pwr = { s.pwr with vbat := mv, hold := hold, sag := true, lowField := true, brownout := true, onHold := true,
                             shed := true }))
  ∧ (∀ (s : State) (dt mv held : Nat), s.dev.st.booted → 66000 < mv → s.pwr.overV = false → 2500 ≤ held →
      Completes (.vbatOvervoltage dt mv held) s (fun t =>
      InFault (.cls 8) 2 t ∧ t.pwr = { s.pwr with vbat := mv, overV := true }))
  ∧ (∀ (s : State) (dt : Nat), s.dev.st.booted → Completes (.regulatorOutOfRange dt) s (fun t =>
      InFault (.cls 8) 2 t ∧ t.pwr = { s.pwr with regBad := true } ∧ t.sag.resetPending ≠ none))
  ∧ (∀ (s : State) (dt mv : Nat), s.dev.st.booted → s.pwr.vHold + 2000 < mv →
      Completes (.holdOvervoltage dt mv) s (fun t =>
      InFault (.cls 8) 2 t ∧ t.pwr = { s.pwr with hold := mv, holdOv := true }))
  ∧ (∀ (s : State) (dt mv held : Nat), s.dev.st.booted → (s.dev.st ≠ .fault → FCause.safen ∉ s.dev.causes) → mv < 1400 → s.pwr.vhioLow = false → 2500 ≤ held →
      Completes (.vhioLow dt mv held) s (fun t =>
        t.dev.st = .fault ∧ FCause.safen ∈ t.dev.causes ∧ t.sag.a.force = true ∧ t.sag.b.force = true
        ∧ t.dev.bound = false ∧ t.host.link = false ∧ t.pwr = { s.pwr with vhioLow := true }))

/-- Clock rows: a lost REFCLK, a stopped island clock and a fourth missing mark are class 5, which asks for a reset; a
time mark corrects each replica by one tick at most, and a replica more than two ticks off is class 5. That a
deviation of exactly two ticks is left as it is, but in a drive island is kept at one tick, is the model's choice
(log 28); so is that DRV6 to DRV11 of the SD9648 have clocks, replicas and marks (log 142). Completing, under its
hypotheses: refclkLoss, islandClockStop, timeMark, timeMarkMissing. -/
def Obligations.ClockRows : Prop :=
  (∀ (s : State) (dt : Nat), s.dev.st.booted → Completes (.refclkLoss dt) s (fun t =>
      InFault (.cls 5) 2 t ∧ t.sag.refBad = true ∧ t.sag.resetPending ≠ none))
  ∧ (∀ (s : State) (dt : Nat) (isl : Island), s.dev.st.booted → isl.real = true → Completes (.islandClockStop dt isl) s (fun t =>
      InFault (.cls 5) (watcher isl) t ∧ t.sag.resetPending ≠ none))
  ∧ (∀ (s : State) (dt : Nat) (diffs : List Int), s.time.running = true → (s.time.mt + dt) % 1024 = 0 →
      (∀ d ∈ diffs, -2 ≤ d ∧ d ≤ 2) → Completes (.timeMark dt diffs) s (fun t =>
        t = { s.advance dt with time := t.time } ∧ t.time.mt = s.time.mt + dt ∧ t.time.missed = List.replicate 22 0
        ∧ ∀ i < 22, t.time.replicas.getD i 0 = if i = 3 then 0 else markFix i (diffs.getD i 0)))
  ∧ (∀ (s : State) (dt : Nat) (diffs : List Int) (i : Nat), s.dev.st.booted → s.time.running = true →
      (s.time.mt + dt) % 1024 = 0 → i < 22 → i ≠ 3 → (2 < diffs.getD i 0 ∨ diffs.getD i 0 < -2) →
      Completes (.timeMark dt diffs) s (InFault (.cls 5) 2))
  ∧ (∀ (s : State) (dt : Nat) (isl : Island), s.dev.st.booted → isl ≠ .wheel → isl.real = true → Completes (.timeMarkMissing dt isl) s (fun t =>
      InFault (.cls 5) (watcher isl) t ∧ t.sag.resetPending ≠ none))

/-- SAFEN: an assertion of 1 us or more in a lane forces the lane safe and faults a booted module with cause SAFEN; a
release of 1 ms in both lanes clears both. Completing, under its hypotheses: safenAssert, safenRelease. -/
def Obligations.SafenRows : Prop :=
  (∀ (s : State) (dt lane lowNs : Nat), s.dev.st.booted → 1000 ≤ lowNs → s.sag.a.safen = false → s.sag.b.safen = false →
      s.pwr.vhioLow = false → (s.dev.st ≠ .fault → FCause.safen ∉ s.dev.causes) →
      Completes (.safenAssert dt lane lowNs) s (fun t =>
        t.dev.st = .fault ∧ FCause.safen ∈ t.dev.causes ∧ t.sag.inLane lane (fun l => l.safen && l.force)))
  ∧ (∀ (s : State) (dt highTicks : Nat), 250000 ≤ highTicks → (s.sag.a.safen = true ∨ s.sag.b.safen = true) →
      Completes (.safenRelease dt highTicks) s (fun t =>
        t.sag.a = { s.sag.a with safen := false } ∧ t.sag.b = { s.sag.b with safen := false }
        ∧ t = { s.advance dt with sag := t.sag, host := t.host, cnt := t.cnt }))

/-- The cross-check between the lanes and the test of the force-safe paths: an exchange that agrees counts and clears
the differences; a second bad frame in a row, a second differing exchange in a row, a single-lane detection the
other lane has not confirmed in 20 us, and a missing echo are class 9. Completing, under its hypotheses:
laneCrossCheck, laneConfirmTimeout, forceSafePathTest. -/
def Obligations.CrossCheckRows : Prop :=
  (∀ (s : State) (dt : Nat) (x : CrossObs), s.dev.st ≠ .reset → x.okA = true → x.okB = true → s.lanesDiffer x = false →
      oddOnes x = [false, false, false] → Completes (.laneCrossCheck dt x) s (fun t =>
        t.sag.seq = s.sag.seq + 1 ∧ t.sag.diff = 0 ∧ t.sag.badFrames = 0 ∧ t.sag.a.oscHz = x.oscA ∧ t.sag.b.oscHz = x.oscB
        ∧ t = { s.advance dt with sag := t.sag }))
  ∧ (∀ (s : State) (dt : Nat) (x : CrossObs), s.dev.st.booted → (x.okA && x.okB) = false → s.sag.badFrames = 1 →
      Completes (.laneCrossCheck dt x) s (InFault (.cls 9) 2))
  ∧ (∀ (s : State) (dt : Nat) (x : CrossObs), s.dev.st.booted → x.okA = true → x.okB = true → (s.advance dt).currentClasses.lanesDiffer x = true →
      s.sag.diff = 1 → Completes (.laneCrossCheck dt x) s (InFault (.cls 9) 2))
  ∧ (∀ (s : State) (dt k m : Nat), s.dev.st.booted → s.sag.unconfirmed = [(k, 0, m)] → m + 5000 ≤ (s.advance dt).now →
      s.sag.b.detected.getLsbD k = false → Completes (.laneConfirmTimeout dt k) s (InFault (.cls 9) 2))
  ∧ (∀ (s : State) (dt : Nat) (missing : List (Nat × Island)), s.dev.st ≠ .reset → (∀ m ∈ missing, s.isLine m.2 = false) →
      Completes (.forceSafePathTest dt missing) s (fun t =>
        t.sag.pathsOk = !s.sag.bootPathBad ∧ t = { s.advance dt with sag := t.sag }))
  ∧ (∀ (s : State) (dt lane : Nat) (isl : Island), s.dev.st.booted → lane < 2 → s.isLine isl = true →
      Completes (.forceSafePathTest dt [(lane, isl)]) s (fun t => InFault (.cls 9) lane t ∧ t.sag.pathsOk = false))

/-- Saggar's other monitors: outputs outside the envelope, a die at its fault limit, cores that differ, memory and flash
errors, each with its class and lane; the local ones leave the device state alone. The checks that read an output or
a loop back: on when commanded off faults the module; off when commanded on latches the output; a recomputed sample
that differs faults the module. Completing, under its hypotheses: envelopeViolation, dieOvertemp,
coreLockstepMismatch, memoryScrub, flashDigestCheck, faultRecordWritten, lsReadbackMismatch, fdReadbackMismatch,
loopCheck. -/
def Obligations.MonitorRows : Prop :=
  (∀ (s : State) (dt ch lane : Nat), s.dev.st.booted → (s.advance dt).envelopeOut lane (.valveConducts ch) = true →
      Completes (.envelopeViolation dt (.valveConducts ch) lane) s (InFault (.cls 13) lane))
  ∧ (∀ (s : State) (dt n lane : Nat), s.dev.st.booted → (s.advance dt).envelopeOut lane (.switchUnsafe n) = true →
      Completes (.envelopeViolation dt (.switchUnsafe n) lane) s (InFault (.cls 13) lane))
  ∧ (∀ (s : State) (dt n ma held lane : Nat), s.dev.st ≠ .reset → n < 16 → s.loops.ls.length = 16 →
      (∀ c ∈ s.sag.copies lane, 12 * (if (s.ls n).win.isSome then c.inrushLimit else c.ocLimit).getD n 0 < 10 * (ma : Int)) →
      s.cfgN .ocTripT n * 250 + 2500 < held → Completes (.envelopeViolation dt (.switchOverLimit n ma held) lane) s (fun t =>
        t.dev = s.dev ∧ t.sag.counts = s.sag.counts.modify 12 satInc
        ∧ ∀ m ∈ s.lsUnit n, (t.ls m).latched = true ∧ ((s.ls m).latched = false → (t.ls m).cause = 7 ∧ (t.ls m).mode = .off)))
  ∧ (∀ (s : State) (dt ch ma held lane : Nat), s.dev.st ≠ .reset → s.hasCh ch → s.inUse ch = true →
      (∀ c ∈ s.sag.copies lane, 11 * (if (s.ctx ch).granted then c.iPeak else c.iHold).getD ch 0 + 500 < 10 * (ma : Int)) → 2500 ≤ held →
      Completes (.envelopeViolation dt (.valveOverCap ch ma held) lane) s (fun t =>
        t.dev = s.dev ∧ t.sag.counts = s.sag.counts.modify 12 satInc ∧ t.chLatched ch 15))
  ∧ (∀ (s : State) (dt die held : Nat) (temp : Int), s.dev.st.booted → die < 5 → dieLimit die ≤ temp → 250000 ≤ held →
      Completes (.dieOvertemp dt die temp held) s (fun t =>
        InFault (.cls 11) 2 t
        ∧ t.pwr = { s.pwr with temps := s.pwr.temps.set die temp, overT := s.pwr.overT.set die true }))
  ∧ (∀ (s : State) (dt die held : Nat) (temp : Int), s.dev.st ≠ .reset → die < 5 → temp < dieLimit die ∨ held < 250000 →
      Completes (.dieOvertemp dt die temp held) s (fun t => t = { s.advance dt with pwr := { s.pwr with
        temps := s.pwr.temps.set die temp, overT := s.pwr.overT.set die (decide (dieLimit die ≤ temp)) } }))
  ∧ (∀ (s : State) (dt core : Nat), s.dev.st.booted → core < 16 → Completes (.coreLockstepMismatch dt core) s (fun t =>
      InFault (.cls 1) 2 t ∧ t.sag.resetPending ≠ none))
  ∧ (∀ (s : State) (dt : Nat), s.dev.st ≠ .reset → Completes (.memoryScrub dt [.corrected]) s (fun t =>
      t.sag.counts = s.sag.counts.modify 1 satInc ∧ t = { s.advance dt with sag := t.sag }))
  ∧ (∀ (s : State) (dt : Nat), s.dev.st.booted → Completes (.memoryScrub dt [.coreOrWheel]) s (fun t =>
      InFault (.cls 3) 2 t ∧ t.sag.resetPending ≠ none))
  ∧ (∀ (s : State) (dt n : Nat), s.dev.st ≠ .reset → Completes (.memoryScrub dt [.tileSlot n]) s (fun t =>
      t.sag.counts = s.sag.counts.modify 2 satInc ∧ (∀ x ∈ t.tiles.slots, x.slot ≠ n) ∧ t.dev = s.dev ∧ t.flash = s.flash))
  ∧ (∀ (s : State) (dt : Nat), s.dev.st.booted → s.claimed .store = false → Completes (.flashDigestCheck dt [.firmware]) s (fun t =>
      InFault (.cls 4) 2 t ∧ t.flash.fwOk = false))
  ∧ (∀ (s : State) (dt : Nat) (n : Fin 3), s.dev.st.booted → s.claimed .store = false → n.val = s.cfg.roles.active →
      Completes (.flashDigestCheck dt [.slot n]) s (InFault (.cls 4) 2))
  ∧ (∀ (s : State) (dt : Nat) (n : Fin 3), s.dev.st ≠ .reset → s.claimed .store = false → n.val ≠ s.cfg.roles.active →
      Completes (.flashDigestCheck dt [.slot n]) s (fun t =>
        t.dev = s.dev ∧ t.sag.inLane 2 (fun l => l.detected.getLsbD 4)
        ∧ t.cfg.slots = s.cfg.slots.modify n.val (fun x => { x with bad := true })))
  ∧ (∀ (s : State) (dt m : Nat) (r : FaultRec) (rest : List (FaultRec × Nat)), s.sag.writing = (r, m) :: rest →
      Completes (.faultRecordWritten dt true) s (fun t =>
        t.sag = { s.sag with writing := rest, a := { s.sag.a with buffer := s.sag.a.buffer.erase r },
                             b := { s.sag.b with buffer := s.sag.b.buffer.erase r } } ∧ r ∈ t.flash.records ∧ t = { s.advance dt with sag := t.sag, flash := t.flash }))
  ∧ (∀ (s : State) (dt m : Nat) (r : FaultRec) (rest : List (FaultRec × Nat)), s.sag.writing = (r, m) :: rest →
      Completes (.faultRecordWritten dt false) s (fun t =>
        t.sag = { s.sag with writing := rest } ∧ t = { s.advance dt with sag := t.sag }))
  ∧ (∀ (s : State) (dt n : Nat) (high : Bool), s.dev.st.booted → n < 16 →
      (if high then ((s.advance dt).lsCmd n).1 else ((s.advance dt).lsCmd n).2) = false →
      Completes (.lsReadbackMismatch dt n high true) s (InFault (.lsReadback n) 2))
  ∧ (∀ (s : State) (dt n : Nat) (high : Bool), s.dev.st ≠ .reset → n < 16 →
      (if high then ((s.advance dt).lsSides n).1 else ((s.advance dt).lsSides n).2) = true →
      Completes (.lsReadbackMismatch dt n high false) s (fun t =>
        t.dev = s.dev ∧ t.sag.inLane 2 (fun l => l.detected.getLsbD 6)))
  ∧ (∀ (s : State) (dt pin : Nat), s.dev.st.booted → pin < 32 → s.fdOut pin = true → s.fdDrive pin = false →
      Completes (.fdReadbackMismatch dt pin true) s (InFault (.fdReadback pin) 2))
  ∧ (∀ (s : State) (dt pin : Nat), s.dev.st ≠ .reset → pin < 32 → s.fdDrive pin = true →
      Completes (.fdReadbackMismatch dt pin false) s (fun t =>
        t.dev = s.dev ∧ t.sag.inLane 2 (fun l => l.detected.getLsbD 6)))
  ∧ (∀ (s : State) (dt n : Nat), s.dev.st.booted → s.islands = true → s.loopOn n = true → (s.loop n).st = .closed →
      s.loopUnchecked n = false → Completes (.loopCheck dt n) s (InFault (.loopCheck n) 2))

/-! ### The host link -/

/-- PERSTN, a PCIe hot reset and a link-down are host loss and no reset: the device state follows the rules of host
loss, MT goes on, no BOOT is counted, and the image in force stays; the link is down and the host's registers are at
their reset values. That the PCI Express enables are 0 among those is the model's choice (log 3). Completing, under
its hypotheses: perstnAssert, hotReset, dlDown. -/
def Obligations.LinkLossIsHostLoss : Prop :=
  ∀ (s : State) (dt : Nat) (c : Instr), s.dev.st ≠ .reset → c ∈ [.perstnAssert dt, .hotReset dt, .dlDown dt] →
    Completes c s (fun t => HostLossIn s dt t ∧ t.dev.st ≠ .reset ∧ t.dev.bootCount = s.dev.bootCount
      ∧ t.time = (s.advance dt).time ∧ t.cfg = s.cfg ∧ HostRegsReset t ∧ t.host.link = false)

/-- The other rows that lose the host: a function-level reset (the host's registers are at their reset values, and the
link stays), Bus Master or Memory Space Enable cleared, D3hot, and a heartbeat that stays away. That a reset of the
registers leaves the PCI Express enables at 0 is the model's choice (log 3). The host's return and the end of a
grace: LINK_UP, out of RESET and with VHIO high enough, releases WAKEN, HOST_ACCESS_RESTORED sets the enables, and a
grace that ends with nothing bound leaves SAFE with ORPHAN recorded. Completing, under its hypotheses:
functionLevelReset, busMasterEnableClear, d3hotEntry, heartbeatTimeout, linkUp, hostAccessRestored, hostGraceExpiry. -/
def Obligations.HostLinkRows : Prop :=
  (∀ (s : State) (dt : Nat), s.dev.st ≠ .reset → Completes (.functionLevelReset dt) s (fun t =>
      HostLossIn s dt t ∧ HostRegsReset t ∧ t.host.link = s.host.link))
  ∧ (∀ (s : State) (dt : Nat), s.dev.st ≠ .reset → s.host.bme = true →
      Completes (.busMasterEnableClear dt false) s (fun t => HostLossIn s dt t ∧ t.host.bme = false ∧ t.host.mse = s.host.mse
        ∧ t.host.paused = true))
  ∧ (∀ (s : State) (dt : Nat), s.dev.st ≠ .reset → s.host.mse = true →
      Completes (.busMasterEnableClear dt true) s (fun t => HostLossIn s dt t ∧ t.host.mse = false ∧ t.host.bme = s.host.bme))
  ∧ (∀ (s : State) (dt : Nat), s.dev.st ≠ .reset → s.host.d0 = true →
      Completes (.d3hotEntry dt) s (fun t => HostLossIn s dt t ∧ t.host.d0 = false ∧ t.host.paused = true))
  ∧ (∀ (s : State) (dt : Nat), s.dev.st ≠ .reset → s.dev.bound = true →
      s.host.lastHb + s.host.hbTimeout * 250000 ≤ (s.advance dt).now →
      Completes (.heartbeatTimeout dt) s (HostLossIn s dt))
  ∧ (∀ (s : State) (dt : Nat), s.dev.st ≠ .reset → s.pwr.vhioLow = false → Completes (.linkUp dt) s (fun t =>
      t = { s.advance dt with host := { s.host with link := true }, dev := { s.dev with wakenLow := false } }))
  ∧ (∀ (s : State) (dt : Nat), Completes (.hostAccessRestored dt) s (fun t =>
      t = { s.advance dt with host := { s.host with bme := true, mse := true, d0 := true } }))
  ∧ (∀ (s : State) (dt : Nat) (g : Grace), s.dev.grace = some g → g.endsAt ≤ (s.advance dt).now →
      Completes (.hostGraceExpiry dt) s (fun t =>
        t.dev.st = .safe ∧ t.dev.cause = 3 ∧ t.dev.grace = none ∧ t.dev.orphan = some (g.start, (s.advance dt).now)))

/-- Sweeps: one starts on the grid in force while a ring is enabled and DMA is allowed, and with it the service that a
cleared Bus Master Enable or D3hot had paused; its doorbell data gives every ring in use its host index and the
heartbeat word, a free value where R371 leaves the index unpredictable (log 17); a failed doorbell read is counted
and ends the sweep, the further sweep asked for follows, and the third in a row is host loss; the command
descriptors that arrive are taken in order, each as its own row takes it. A host buffer that a waiting command
named: its bytes become the command's, and a failed read completes it TIMEOUT, a MAINT_START with REASON 5 and any
other command but a staging with a RESULT that is free (log 36). Completing, under its hypotheses: doorbellSweep,
doorbellReadComplete, descriptorFetch, hostBufferRead. -/
def Obligations.SweepRows : Prop :=
  (∀ (s : State) (dt : Nat), s.time.running = true → s.dmaOk = true → s.dev.st.servesRings = true → s.anyRing = true →
      s.host.sweeping = false → (s.advance dt).now % ((s.advance dt).pollGrid * 250) = 0 → Completes (.doorbellSweep dt) s (fun t =>
        t.host.sweeping = true ∧ t.host.lastSweep = some (s.advance dt).now ∧ t.host.sweeps = s.host.sweeps + 1
        ∧ t.host.paused = false ∧ (s.host.out ++ [.doorbellRead s.host.dbBase]) <+: t.host.out
        ∧ t = { s.advance dt with host := t.host }
        ∧ (s.host.paused = false → s.host.heldCpl = [] → t.host.out = s.host.out ++ [.doorbellRead s.host.dbBase])
        ∧ (s.host.paused = true → s.host.fmask = false → ∀ v < 32, (s.vec v).mask = false → (s.vec v).addr ≠ 0 → (t.vec v).pba = false)))
  ∧ (∀ (s : State) (dt : Nat) (d : Doorbell), s.host.sweeping = true → d.ok = true → d.answers = [] →
      (∀ n < 16, badIndex n (s.ring n) (d.idx.getD n 0) = false) → Completes (.doorbellReadComplete dt d) s (fun t =>
        t.host.hbWord = some d.hb ∧ HostOnly (s.advance dt) t
        ∧ ∀ n < s.host.rings.length, (s.ring n).en = true → (s.ring n).fresh = false → (s.ring n).stopped = false →
            (t.ring n).host = d.idx.getD n 0))
  ∧ (∀ (s : State) (dt : Nat) (d : Doorbell) (n : Nat), s.host.sweeping = true → d.ok = true → d.answers = [] → n < 16 →
      badIndex n (s.ring n) (d.idx.getD n 0) = true → Completes (.doorbellReadComplete dt d) s (fun t =>
        t.dev = s.dev ∧ t = { s.advance dt with host := t.host, cnt := t.cnt, free := t.free }))
  ∧ (∀ (s : State) (dt : Nat) (d : Doorbell), s.host.sweeping = true → d.ok = false → s.host.dbFails ≠ 2 →
      Completes (.doorbellReadComplete dt d) s (fun t =>
        t.host.dbErr = true ∧ t.host.dbFails = s.host.dbFails + 1
        ∧ t.cnt = s.cnt.modify 63 (satInc · 1) ∧ t = { s.advance dt with host := t.host, cnt := t.cnt }
        ∧ (s.host.extraSweep = false → t.host.sweeping = false)
        ∧ (s.host.extraSweep = true → s.dmaOk = true → s.dev.st.servesRings = true →
            t.host.sweeping = true ∧ t.host.lastSweep = some (s.advance dt).now)))
  ∧ (∀ (s : State) (dt : Nat) (d : Desc) (h : Hdr), s.host.sweeping = true → s.dmaOk = true → s.dev.st.servesRings = true →
      (∀ g, s.dev.grace = some g → (s.advance dt).now < g.endsAt) →
      (∀ n, 1 < n → (s.ring n).en = false) → decodeCmd d = .nop 0 h → s.canTake h.fence = true →
      Completes (.descriptorFetch dt { cmds := [d], rtcm := [], cantx := [], failed := [] }) s (fun t =>
        (t.ring 0).mod = (s.ring 0).mod + 1 ∧ HostOnly (s.advance dt) t))
  ∧ (∀ (s : State) (dt : Nat) (d : Desc), s.host.sweeping = true → s.dmaOk = true → s.dev.st.servesRings = true →
      s.graceLasts dt → (∀ n, 1 < n → (s.ring n).en = false) → (s.ring 0).fails = 0 → cmdField d 0 8 ≠ 0x81 →
      Completes (.descriptorFetch dt { cmds := [d], rtcm := [], cantx := [], failed := [] }) s (fun t =>
        ∃ u, exec (decodeCmd d) (s.advance dt) = .next u ∧ t = u.sweepEnds))
  ∧ (∀ (s : State) (dt : Nat) (d e : Desc), s.host.sweeping = true → s.dmaOk = true → s.dev.st.servesRings = true →
      s.graceLasts dt → (∀ n, 1 < n → (s.ring n).en = false) → (s.ring 0).fails = 0 → cmdField d 0 8 ≠ 0x81 → cmdField e 0 8 ≠ 0x81 →
      Completes (.descriptorFetch dt { cmds := [d, e], rtcm := [], cantx := [], failed := [] }) s (fun t =>
        ∃ u v, exec (decodeCmd d) (s.advance dt) = .next u
          ∧ (if (u.ring 0).mod = (s.ring 0).mod then v = u else exec (decodeCmd e) u = .next v) ∧ t = v.sweepEnds))
  ∧ (∀ (s : State) (dt : Nat) (d : Doorbell), s.dev.st ≠ .reset → s.host.sweeping = true → d.ok = false → s.host.dbFails = 2 →
      Completes (.doorbellReadComplete dt d) s (fun t => HostLossIn s dt t ∧ t.host.dbErr = true ∧ t.host.dbFails = 0))
  ∧ (∀ (s : State) (dt i : Nat) (w : Waiting) (bs : List Byte) (d : Nat) (h : Hdr) (a : DWord), w.cmd = .rateTable d h a →
      s.host.outstanding.find? (fun w => w.idx.toNat = i && w.dma) = some w → Completes (.hostBufferRead dt i (some bs)) s (fun t =>
        t = (s.advance dt).updWaiting w (fun w =>
          { w with dma := false, aux := (List.range 256).map (fun i => leAt bs (4 * i) 4) })))
  ∧ (∀ (s : State) (dt i : Nat) (w : Waiting), s.host.outstanding.find? (fun w => w.idx.toNat = i && w.dma) = some w →
      w.op ≠ 0x10 → w.op ≠ 0x14 → Completes (.hostBufferRead dt i none) s (fun t =>
        t = ({ s.advance dt with free := s.free + 1 } : State).finishNone w .timeout
          (BitVec.ofNat 128 (Config.freeNat s.free))))
  ∧ (∀ (s : State) (dt i : Nat) (w : Waiting) (a : Activity), s.host.outstanding.find? (fun w => w.idx.toNat = i && w.dma) = some w →
      w.op = 0x14 → s.acts.find? (fun a => a.idx = w.idx && !a.ready) = some a → Completes (.hostBufferRead dt i none) s (fun t =>
        t = ((s.advance dt).endActivity a).finishNone w .timeout (resultOf [(128, 8, 5)])))

/-- What the module writes on its own: the status block, a vector's message once its moderation time is over, queued
events, oldest first, while the EVT ring takes them, and telemetry of every class, of which records too old are
dropped and counted. That a message withheld while no DMA is allowed sets its PBA bit is the model's reading (log
33). Completing, under its hypotheses: statusBlockRefresh, msixModerationTimeout, evtQueueDrain, telemetryRecord,
telemetryAgeDrop. -/
def Obligations.OutboundRows : Prop :=
  (∀ (s : State) (dt : Nat), s.anyRing = true → s.dmaOk = true → s.dev.st.servesRings = true →
      Completes (.statusBlockRefresh dt) s (fun t =>
        t.host.out = s.host.out ++ [.status s.host.stBase (s.host.rings.map (·.mod)) (BitVec.ofNat 64 (s.advance dt).now) s.dev.bootCount
          s.dev.st.code s.dev.grace.isSome (s.cnt.getD 64 0) (s.cnt.getD 65 0) s.host.sweeps]
        ∧ t.host.lastStatus = (s.advance dt).now ∧ t = { s.advance dt with host := t.host }))
  ∧ (∀ (s : State) (dt v : Nat), v < 32 → 0 < (s.vec v).count → (s.vec v).oldest + (s.vec v).curTime * 250 ≤ (s.advance dt).now →
      Completes (.msixModerationTimeout dt v) s (fun t =>
        (t.vec v).count = 0
        ∧ (if (s.vec v).mask = true ∨ s.host.fmask = true ∨ (s.vec v).addr = 0 ∨ s.host.paused = true ∨ s.dmaOk = false
            then (t.vec v).pba = true ∧ t.host.out = s.host.out
            else (t.vec v).pba = false ∧ t.host.out = s.host.out ++ [.msix v (s.vec v).addr (s.vec v).data])
        ∧ t = { s.advance dt with host := t.host }))
  ∧ (∀ (s : State) (dt : Nat), s.host.events.length ≤ 256 → s.canWrite 2 s.host.events.length = true →
      Completes (.evtQueueDrain dt) s (fun t =>
        t.host.events = [] ∧ t.host.evtSeq = s.host.evtSeq + BitVec.ofNat 16 s.host.events.length
        ∧ (t.ring 2).mod = (s.ring 2).mod + BitVec.ofNat 32 s.host.events.length ∧ t = { s.advance dt with host := t.host }))
  ∧ (∀ (s : State) (dt : Nat), s.canWrite 2 1 = false → Completes (.evtQueueDrain dt) s (fun t =>
        t.host.events = s.host.events ∧ t.host.evtSeq = s.host.evtSeq ∧ t = { s.advance dt with host := t.host }))
  ∧ (∀ (s : State) (dt : Nat) (k : TelKind) (c n : Nat), s.islands = true → s.dev.st.servesRings = true →
      (s.advance dt).telDue k = true → s.telForms k = some (c, n) → s.host.telSel.on.getLsbD c = true →
      s.host.telCount = [] → s.host.link = true → s.host.away = false → s.host.queue = [] → s.host.tel = [] →
      s.host.telTime = [] → s.canWrite 3 n = true → Completes (.telemetryRecord dt k) s (fun t =>
        t.host.telSeq = s.host.telSeq + 1 ∧ (t.ring 3).mod = (s.ring 3).mod + BitVec.ofNat 32 n ∧ t.host.tel = []
        ∧ t = { s.advance dt with host := t.host, cnt := t.cnt, field := t.field }))
  ∧ (∀ (s : State) (dt : Nat) (k : TelKind) (c n : Nat), s.telForms k = some (c, n) → s.host.telSel.on.getLsbD c = false →
      Completes (.telemetryRecord dt k) s (fun t =>
        t.host = { s.host with telAt := t.host.telAt } ∧ t = { s.advance dt with host := t.host, field := t.field }))
  ∧ (∀ (s : State) (dt : Nat) (k : TelKind), Completes (.telemetryRecord dt k) s (fun t =>
        t = { s.advance dt with host := t.host, cnt := t.cnt, field := t.field }))
  ∧ (∀ (s : State) (dt : Nat), Completes (.telemetryAgeDrop dt) s (fun t =>
        t.host.tel = s.host.tel.filter (fun r => decide ((s.advance dt).now < r.formed + s.host.telSel.age * 250000))
        ∧ HostOnly (s.advance dt) t))

/-- Register writes: enabling and disabling a ring, a locked field, the poll period, the heartbeat timeout, the error
bits, unmasking a vector, and the general write, which sets the bases, the rings, the moderation and the MSI-X
table, is refused as an Unsupported Request where R343 says so, and is ignored in the read-only blocks. That
unmasking with no vector named clears the Function Mask, and that the PBA bit stays where DMA is not allowed, are
the model's choices (log 33). Completing, under its hypotheses: ringEnable, ringDisable, regLocked, pollPeriodWrite,
hbTimeoutWrite, hiErrClear, msixUnmask, registerWrite, bar0BadAccess. -/
def Obligations.RegisterRows : Prop :=
  (∀ (s : State) (dt n log2 vec : Nat), s.bar0Open = true → n < 16 → n < s.host.rings.length → (s.ring n).en = false →
      Completes (.ringEnable dt n log2 vec) s (fun t =>
        (t.ring n).en = true ∧ (t.ring n).fresh = true ∧ (t.ring n).log2 = max 4 (min 12 (log2 % 16))
        ∧ (t.ring n).vec = vec % 32 ∧ (t.ring n).stopped = false ∧ t.dev = s.dev))
  ∧ (∀ (s : State) (dt n vec : Nat), s.bar0Open = true → n < 16 → n < s.host.rings.length → (s.ring n).en = true →
      4 ≤ (s.ring n).log2 → (s.ring n).log2 ≤ 12 → Completes (.ringDisable dt n vec) s (fun t =>
        (t.ring n).en = false ∧ (t.ring n).fresh = false ∧ (t.ring n).vec = vec % 32 ∧ (n = 3 → t.host.tel = []) ∧ (n = 1 → t.host.heldCpl = []) ∧ t.dev = s.dev))
  ∧ (∀ (s : State) (dt off : Nat) (v : DWord), s.bar0Open = true → off % 4 = 0 → s.locks off (v.setWidth 32) = true →
      Completes (.regLocked dt off v) s (fun t => t = { s.advance dt with host := { s.host with regLocked := true, lockedAt := some (s.advance dt).now } }))
  ∧ (∀ (s : State) (dt v : Nat), s.bar0Open = true → Completes (.pollPeriodWrite dt v) s (fun t =>
        t = (s.advance dt).updHost (fun x =>
          { x with poll := max 1 (min 64 (v % 128)), pollAt := (s.advance dt).now, grid := (s.advance dt).pollGrid })))
  ∧ (∀ (s : State) (dt v : Nat), s.bar0Open = true →
      (s.dev.bound = false ∨ (s.advance dt).now < s.host.lastHb + max 10 (min 5000 (v % 8192)) * 250000) →
      Completes (.hbTimeoutWrite dt v) s (fun t =>
        t = { s.advance dt with host := { s.host with hbTimeout := max 10 (min 5000 (v % 8192)) } }))
  ∧ (∀ (s : State) (dt : Nat) (bits : Word), s.bar0Open = true → Completes (.hiErrClear dt bits) s (fun t =>
        let keeps := fun (m : Option Nat) (i : Nat) => !bits.getLsbD i || decide (m = some (s.advance dt).now)
        t.host.regLocked = (s.host.regLocked && keeps s.host.lockedAt 0) ∧ t.host.dbErr = (s.host.dbErr && keeps s.host.dbErrAt 1)
        ∧ (∀ n < s.host.rings.length, t.ring n = { s.ring n with err := (s.ring n).err && keeps (s.ring n).errAt (16 + n) })
        ∧ t = { s.advance dt with host := t.host }))
  ∧ (∀ (s : State) (dt v : Nat), s.bar0Open = true → v < 32 → v < s.host.vecs.length → Completes (.msixUnmask dt (some v)) s (fun t =>
        (t.vec v).mask = false ∧ t = { s.advance dt with host := t.host }
        ∧ ((s.vec v).pba = true → s.host.fmask = false → (s.vec v).addr ≠ 0 → s.host.paused = false → s.dmaOk = true →
            (t.vec v).pba = false ∧ t.host.out = s.host.out ++ [.msix v (s.vec v).addr (s.vec v).data])))
  ∧ (∀ (s : State) (dt : Nat), s.host.link = true → s.host.vecs.length = 32 → Completes (.msixUnmask dt none) s (fun t =>
        t.host.fmask = false ∧ t = { s.advance dt with host := t.host }
        ∧ (∀ v < 32, (s.vec v).mask = true → t.vec v = s.vec v)
        ∧ (∀ v < 32, (s.vec v).pba = true → (s.vec v).mask = false → (s.vec v).addr ≠ 0 → s.host.paused = false → s.dmaOk = true →
            (t.vec v).pba = false)))
  ∧ (∀ (s : State) (dt : Nat) (v : DWord), s.bar0Open = true → Completes (.registerWrite dt 0x418 4 v) s (fun t =>
        t = { s.advance dt with host := { s.host with hostGrace := min 2000 (v.toNat % 2048) } }))
  ∧ (∀ (s : State) (dt off size : Nat) (v : DWord), s.bar0Open = true → goodAccess off size = true → off + size ≤ 0x400 →
      Completes (.registerWrite dt off size v) s (fun t => t = s.advance dt))
  ∧ (∀ (s : State) (dt off size : Nat) (v : DWord), s.bar0Open = true → goodAccess off size = false →
      Completes (.registerWrite dt off size v) s (fun t => t = (s.advance dt).emit .unsupported))
  ∧ (∀ (s : State) (dt off size : Nat) (write : Bool), s.bar0Open = true → goodAccess off size = false →
      Completes (.bar0BadAccess dt off size write) s (fun t => t = (s.advance dt).emit .unsupported))
  ∧ (∀ (s : State) (dt off size : Nat) (v : DWord), s.bar0Open = true → goodAccess off size = true → off + size ≤ 65536 →
      (0x420 ≤ off ∧ off + size ≤ 0x500 ∨ 0x600 ≤ off ∧ off + size ≤ 0x700 ∨ 0x800 ≤ off ∧ off + size ≤ 0x1000 ∨ 0x1200 ≤ off) →
      Completes (.registerWrite dt off size v) s (fun t => t = s.advance dt))
  ∧ (∀ (s : State) (dt : Nat) (v : DWord), s.bar0Open = true → s.anyRing = false →
      Completes (.registerWrite dt 0x400 8 v) s (fun t => t = { s.advance dt with host := { s.host with dbBase := v &&& ~~~(127 : DWord) } })
      ∧ Completes (.registerWrite dt 0x408 8 v) s (fun t => t = { s.advance dt with host := { s.host with stBase := v &&& ~~~(127 : DWord) } }))
  ∧ (∀ (s : State) (dt n : Nat) (v : DWord), s.bar0Open = true → n < 16 → (s.ring n).en = false →
      Completes (.registerWrite dt (0x500 + 16 * n) 8 v) s (fun t =>
        t = (s.advance dt).updRing n (fun r => { r with base := v &&& ~~~(4095 : DWord) })))
  ∧ (∀ (s : State) (dt off size : Nat) (v : DWord), s.bar0Open = true → goodAccess off size = true → size = 4 →
      s.locks off (v.setWidth 32) = true → Completes (.registerWrite dt off size v) s (fun t =>
        t = { s.advance dt with host := { s.host with regLocked := true, lockedAt := some (s.advance dt).now } }))
  ∧ (∀ (s : State) (dt n log2 vec : Nat), s.bar0Open = true → n < 16 →
      exec (.registerWrite dt (0x508 + 16 * n) 4 (controlWord log2 vec true)) s = exec (.ringEnable dt n log2 vec) s)
  ∧ (∀ (s : State) (dt k : Nat) (v : DWord), s.bar0Open = true → k < 32 →
      Completes (.registerWrite dt (0x700 + 8 * k) 4 v) s (fun t =>
        t = (s.advance dt).updVec k (fun x => { x with modTime := min 1000 (v.toNat % 1024), modCount := max 1 (min 256 (v.toNat / 65536 % 512)) })))
  ∧ (∀ (s : State) (dt k : Nat) (v : DWord), s.bar0Open = true → k < 32 → k < s.host.vecs.length →
      Completes (.registerWrite dt (0x1000 + 16 * k) 8 v) s (fun t =>
        (t.vec k).addr = v &&& ~~~(3 : DWord) ∧ t = { s.advance dt with host := t.host })
      ∧ Completes (.registerWrite dt (0x1008 + 16 * k) 4 v) s (fun t => (t.vec k).data = v.setWidth 32 ∧ t = { s.advance dt with host := t.host })
      ∧ Completes (.registerWrite dt (0x100C + 16 * k) 4 v) s (fun t => (t.vec k).mask = v.getLsbD 0 ∧ t = { s.advance dt with host := t.host }))
  ∧ (∀ (s : State) (dt v : Nat), s.bar0Open = true → s.dev.bound = true →
      s.host.lastHb + max 10 (min 5000 (v % 8192)) * 250000 ≤ (s.advance dt).now → Completes (.hbTimeoutWrite dt v) s (fun t =>
        HostLossIn s dt t ∧ t.host.hbTimeout = max 10 (min 5000 (v % 8192))))

/-! ### System, status and diagnostic commands -/

/-- NOP, HEARTBEAT, MODULE_RESET, STATE_QUERY, TEL_SELECT, with values inside its ranges and with values that are
clamped, and an unknown opcode, each with its completion and its whole effect. Completing, under its hypotheses:
nop, heartbeat, moduleReset, stateQuery, telSelect, unknownOpcode. -/
def Obligations.SystemCommands : Prop :=
  (∀ (s : State) (dt : Nat) (h : Hdr), Takes s dt 0x00 h →
      Answers (.nop dt h) 0x00 h s .ok 0 (fun v => v = (s.advance dt).taken))
  ∧ (∀ (s : State) (dt : Nat) (h : Hdr), Takes s dt 0x0A h → Answers (.heartbeat dt h) 0x0A h s .ok 0 (fun v =>
      v = (s.advance dt).taken.updHost (fun x => { x with lastHb := (s.advance dt).now })))
  ∧ (∀ (s : State) (dt : Nat) (h : Hdr), Takes s dt 0x0B h → Answers (.moduleReset dt h) 0x0B h s .ok 0 (fun v =>
      v = (s.advance dt).taken.updDev (fun d => { d with resetDue := some ((s.advance dt).now + 25000) })))
  ∧ (∀ (s : State) (dt : Nat) (h : Hdr), Takes s dt 0x0C h →
      Answers (.stateQuery dt h) 0x0C h s .ok (resultOf [(128, 8, s.dev.st.code), (136, 8, s.dev.cause),
        (144, 32, s.dev.bootCount.toNat), (176, 16, s.dev.summary.toNat), (192, 1, b2n s.dev.grace.isSome),
        (193, 1, b2n (s.cfg.inForce == .straps))]) (fun v => v = (s.advance dt).taken))
  ∧ (∀ (s : State) (dt : Nat) (h : Hdr) (on : BitVec 7) (decs : List Nat) (age : Nat), Takes s dt 0x0D h → decs.length = 7 →
      (∀ d ∈ decs, 1 ≤ d ∧ d ≤ 1000) → 1 ≤ age → age ≤ 100 → Answers (.telSelect dt h on decs age) 0x0D h s .ok 0 (fun v =>
        v = (s.advance dt).taken.updHost (fun x => { x with telSel := { on := on, decs := decs, age := age } })))
  ∧ (∀ (s : State) (dt : Nat) (h : Hdr) (on : BitVec 7) (decs : List Nat) (age : Nat), Takes s dt 0x0D h → decs.length = 7 →
      ((∃ d ∈ decs, d < 1 ∨ 1000 < d) ∨ age < 1 ∨ 100 < age) → Answers (.telSelect dt h on decs age) 0x0D h s .clamped 0 (fun v =>
        v = (s.advance dt).taken.updHost (fun x => { x with
          telSel := { on := on, decs := decs.map (fun d => max 1 (min 1000 d)), age := max 1 (min 100 age) } })))
  ∧ (∀ (s : State) (dt : Nat) (h : Hdr) (op : Byte), s.graceLasts dt → s.canTake h.fence = true → assigned op.toNat = false →
      Answers (.unknownOpcode dt h op) op h s .noResource (resultOf [(128, 1, 1)]) (fun v => v = (s.advance dt).taken))

/-- BIND and UNBIND: the host is bound and a grace ends; the state becomes STANDBY, but stays where a BIND resumes a
grace of this boot, and in FAULT; UNBIND from STANDBY leaves SAFE. Completing, under its hypotheses: bind, unbind. -/
def Obligations.BindCommands : Prop :=
  (∀ (s : State) (dt : Nat) (h : Hdr) (resume : Bool) (boot : Word), Takes s dt 0x01 h → s.firingTag = none → s.dev.st ≠ .fault →
      (s.dev.grace = none ∨ resume = false ∨ boot ≠ s.dev.bootCount) →
      Answers (.bind dt h resume boot) 0x01 h s .ok (resultOf [(128, 8, 3), (136, 1, 0), (144, 32, s.dev.bootCount.toNat)])
        (fun v => v.dev.bound = true ∧ v.dev.grace = none ∧ v.dev.st = .standby ∧ v.dev.cause = 0
          ∧ v.host.lastHb = (s.advance dt).now))
  ∧ (∀ (s : State) (dt : Nat) (h : Hdr) (g : Grace), Takes s dt 0x01 h → s.firingTag = none → s.dev.grace = some g →
      Answers (.bind dt h true s.dev.bootCount) 0x01 h s .ok
        (resultOf [(128, 8, s.dev.st.code), (136, 1, 1), (144, 32, s.dev.bootCount.toNat)])
        (fun v => v.dev.bound = true ∧ v.dev.grace = none ∧ v.dev.st = s.dev.st ∧ v.valves = s.valves))
  ∧ (∀ (s : State) (dt : Nat) (h : Hdr) (resume : Bool) (boot : Word), Takes s dt 0x01 h → s.firingTag = none → s.dev.st = .fault →
      s.dev.grace = none → Answers (.bind dt h resume boot) 0x01 h s .ok (resultOf [(128, 8, 7), (144, 32, s.dev.bootCount.toNat)])
        (fun v => v.dev = { s.dev with bound := true, orphan := none } ∧ v.host.lastHb = (s.advance dt).now))
  ∧ (∀ (s : State) (dt : Nat) (h : Hdr), Takes s dt 0x02 h → s.unsafeHolder = none →
      Answers (.unbind dt h) 0x02 h s .ok 0 (fun v =>
        v.dev.bound = false ∧ v.host.telSel = {} ∧ (s.dev.st = .standby → v.dev.st = .safe)
        ∧ (s.dev.st ≠ .standby → v.dev.st = s.dev.st)))

/-- The state commands: each enters the state of R32 with cause 0, sets the run request as R34 says, and answers the
state after it. CLEAR_FAULT: STANDBY with no cause, no summary bit and no lane forcing safe where every recorded
cause is gone; FAULT_HELD, and still in FAULT, where one is still present, here a class that only a reset ends.
Completing, under its hypotheses: arm, disarm, run, hold, manualEnter, manualExit, clearFault. -/
def Obligations.StateCommands : Prop :=
  (∀ (s : State) (dt : Nat) (h : Hdr), Takes s dt 0x03 h → s.firingTag = none → s.cfg.inForce ≠ .straps → s.nav.origin ≠ none →
      Answers (.arm dt h) 0x03 h s .ok (resultOf [(128, 8, 4), (136, 1, 0)]) (fun v =>
        v.dev = { s.dev with st := .parked, cause := 0, stMt := (s.advance dt).now, runReq := false } ∧ v.sag = s.sag))
  ∧ (∀ (s : State) (dt : Nat) (h : Hdr), Takes s dt 0x04 h → s.firingTag = none →
      Answers (.disarm dt h) 0x04 h s .ok (resultOf [(128, 8, 3), (136, 1, b2n s.dev.runReq)]) (fun v =>
        v.dev = { s.dev with st := .standby, cause := 0, stMt := (s.advance dt).now } ∧ v.sag = s.sag))
  ∧ (∀ (s : State) (dt : Nat) (h : Hdr), Takes s dt 0x05 h → s.firingTag = none →
      Answers (.run dt h) 0x05 h s .ok (resultOf [(128, 8, s.dev.st.code), (136, 1, 1)]) (fun v =>
        v = (s.advance dt).taken.updDev (fun d => { d with runReq := true })))
  ∧ (∀ (s : State) (dt : Nat) (h : Hdr), Takes s dt 0x06 h → s.firingTag = none →
      Answers (.hold dt h) 0x06 h s .ok (resultOf [(128, 8, s.dev.st.code), (136, 1, 0)]) (fun v =>
        v = (s.advance dt).taken.updDev (fun d => { d with runReq := false })))
  ∧ (∀ (s : State) (dt : Nat) (h : Hdr), Takes s dt 0x07 h → s.outputsHolder = none →
      Answers (.manualEnter dt h) 0x07 h s .ok (resultOf [(128, 8, 6), (136, 1, b2n s.dev.runReq)]) (fun v =>
        v.dev = { s.dev with st := .manual, cause := 0, stMt := (s.advance dt).now }
        ∧ v.planner.manual = List.replicate 96 {} ∧ v.sag = s.sag))
  ∧ (∀ (s : State) (dt : Nat) (h : Hdr), Takes s dt 0x08 h → s.firingTag = none →
      Answers (.manualExit dt h) 0x08 h s .ok (resultOf [(128, 8, 4), (136, 1, 0)]) (fun v =>
        v.dev = { s.dev with st := .parked, cause := 0, stMt := (s.advance dt).now, runReq := false } ∧ v.sag = s.sag))
  ∧ (∀ (s : State) (dt : Nat) (h : Hdr), Takes s dt 0x09 h → s.firingTag = none → s.dev.bound = true →
      (∀ c ∈ s.dev.causes, (s.advance dt).causeGone c = true) →
      Answers (.clearFault dt h) 0x09 h s .ok (resultOf [(128, 8, 3)]) (fun v =>
        v.dev = { s.dev with st := .standby, cause := 0, stMt := (s.advance dt).now, causes := [], summary := 0 }
        ∧ v.sag.a.force = false ∧ v.sag.b.force = false))
  ∧ (∀ (s : State) (dt : Nat) (h : Hdr), Takes s dt 0x09 h → s.firingTag = none → s.dev.bound = true → s.dev.causes = [.cls 1] →
      Answers (.clearFault dt h) 0x09 h s .faultHeld (resultOf [(128, 8, 7), (144, 16, 32)]) (fun v =>
        v.dev = s.dev ∧ v.sag = s.sag))

/-- The forms REP and BUF of a payload, and the status commands: each is answered OK once its report has been written to
REP, whole items under the fixed header, with the counts of both in its RESULT, and the machine is otherwise left as
it was, but for the flags that LOOP_STATUS with CLEAR_SAT clears. That a REPORT_LEN below 32 gets no report is the
model's reading (log 8), and so is that CAN_SLOT_READ holds the slots it reads (log 120). Completing, under its
hypotheses: cfgStatus, tileStatus, planStatus, seqStatus, fusionStatus, valveStatus, loopStatus, traceStatus,
lsStatus, fdStatus, aiStatus, piStatus, canStatus, sxStatus, diagCounters, saggarStatus, canSlotRead, maintStatus. -/
def Obligations.StatusCommands : Prop :=
  (∀ d : Desc, cmdRef d = { addr := d.extractLsb' 32 64, len := d.extractLsb' 96 32 })
  ∧ (∀ (s : State) (dt : Nat) (h : Hdr) (rep : Ref),
    Tells s dt h rep (.cfgStatus dt h rep) 0x13
    ∧ (∀ (named : Bool) (tx ty : BitVec 16), Tells s dt h rep (.tileStatus dt h rep named tx ty) 0x24)
    ∧ (∀ (mask : BitVec 96), s.fitted (bitsOf mask) = true →
        Tells s dt h rep (.planStatus dt h rep mask) 0x28 ∧ Tells s dt h rep (.seqStatus dt h rep mask) 0x44)
    ∧ Tells s dt h rep (.fusionStatus dt h rep) 0x39
    ∧ (∀ (mask : BitVec 96) (quads : BitVec 4), s.fitted (bitsOf mask) = true → (∀ q ∈ bitsOf quads, q < s.nQuad) →
        Tells s dt h rep (.valveStatus dt h rep mask quads) 0x40)
    ∧ (∀ mask : Word, (∀ n ∈ bitsOf mask, s.loopOn n = true) → Tells s dt h rep (.loopStatus dt h rep mask false) 0x50)
    ∧ Tells s dt h rep (.traceStatus dt h rep) 0x59
    ∧ (∀ mask : BitVec 16, (∀ n ∈ bitsOf mask, s.cfgB .lsEnable n = true) → Tells s dt h rep (.lsStatus dt h rep mask) 0x61)
    ∧ (∀ mask : Word, (∀ p ∈ bitsOf mask, s.fdEnabled p = true) → Tells s dt h rep (.fdStatus dt h rep mask) 0x71)
    ∧ (∀ mask : Word, ((∀ n ∈ bitsOf mask, n < 16) → Tells s dt h rep (.aiStatus dt h rep mask) 0x73)
        ∧ ((∀ n ∈ bitsOf mask, n < 18) → Tells s dt h rep (.piStatus dt h rep mask) 0x74))
    ∧ (∀ mask : BitVec 4, Tells s dt h rep (.canStatus dt h rep mask) 0x80)
    ∧ Tells s dt h rep (.sxStatus dt h rep) 0xA0
    ∧ Tells s dt h rep (.diagCounters dt h rep) 0xB1
    ∧ Tells s dt h rep (.saggarStatus dt h rep) 0xB2
    ∧ (∀ (bus : Nat) (mask : DWord), bus < 4 → Takes s dt 0x85 h → ∃ res,
        Answers (.canSlotRead dt h rep bus mask) 0x85 h s .ok res (fun v =>
          (∀ b n, (v.mail b n).frame = ((s.advance dt).mail b n).frame ∧ (v.mail b n).sof = ((s.advance dt).mail b n).sof
            ∧ (v.mail b n).count = ((s.advance dt).mail b n).count)
          ∧ v = { s.advance dt with can := v.can, host := v.host, free := v.free, cnt := v.cnt } ∧ Reported 0x85 h rep s v res))
    ∧ (Takes s dt 0x16 h → ∃ res, Answers (.maintStatus dt h rep) 0x16 h s .ok res (fun v =>
        v = { s.advance dt with host := v.host, free := v.free } ∧ Reported 0x16 h rep s v res))
    ∧ (∀ mask : Word, (∀ n ∈ bitsOf mask, s.loopOn n = true) → Takes s dt 0x50 h → ∃ res,
        Answers (.loopStatus dt h rep mask true) 0x50 h s .ok res (fun v =>
          (∀ n < s.loops.loop.length, v.loop n = if mask.getLsbD n then { s.loop n with sticky := 0 } else s.loop n)
          ∧ v = { s.advance dt with loops := { s.loops with loop := v.loops.loop }, host := v.host, cnt := v.cnt }
          ∧ Reported 0x50 h rep s v res)))

/-- The diagnostic commands: the fault records from a number on are written to the host's buffer, and an erase claims
STORE, waits, and drops the records that share no sector with a younger one. That an erase leaves a record which
shares a flash sector with one that stays is the model's reading (log 45). Completing, under its hypotheses:
diagRecords, diagErase, diagEraseComplete. -/
def Obligations.DiagCommands : Prop :=
  (∀ (s : State) (dt : Nat) (h : Hdr) (buf : Ref) (first : Word), Takes s dt 0xB0 h →
      let rs := (s.recordsFrom first).take (buf.len.toNat / 64)
      Answers (.diagRecords dt h buf first) 0xB0 h s .ok
        (resultOf [(128, 32, rs.length), (160, 32, (s.flash.nextRec - 1).toNat)]) (fun v =>
          HostOnly (s.advance dt) v
          ∧ v.host.out = s.host.out ++ (if rs = [] then [] else [.bytes buf.addr (rs.map FaultRec.bytes).flatten])))
  ∧ (∀ (s : State) (dt : Nat) (h : Hdr) (last : Word), Takes s dt 0xB3 h → s.holderOf [.store] = none →
      Waits (.diagErase dt h last) 0xB3 h s false (fun t =>
        t.acts = s.acts ++ [{ code := 10, tag := h.tag, start := (s.advance dt).now }] ∧ t.flash = s.flash ∧ t.dev = s.dev))
  ∧ (∀ (s : State) (dt d : Nat) (h : Hdr) (last : Word) (w : Waiting), s.acts.any (fun a => a.code = 10) = true →
      s.waitingFor 0xB3 = some w → w.cmd = .diagErase d h last → Completes (.diagEraseComplete dt true) s (fun t =>
        t.flash = { s.flash with records := s.flash.records.filter (fun r => !(s.erasable last).contains r) }
        ∧ t.acts = s.acts.filter (fun a => a.code ≠ 10)
        ∧ t.host.outstanding = s.host.outstanding.filter (fun x => !w.same x)))

/-! ### Configuration and maintenance -/

/-- Staging, firing and rollback: the claims they hold while they wait, the journal, and the image in force after.
Completing, under its hypotheses: cfgStage, stagingComplete, cfgFire, cfgRollback, firingComplete, journalEraseDone. -/
def Obligations.ConfigRows : Prop :=
  (∀ (s : State) (dt : Nat) (h : Hdr) (buf : Ref), Takes s dt 0x10 h → s.holderOf [.store] = none →
      Waits (.cfgStage dt h buf) 0x10 h s true (fun t =>
        t.acts = s.acts ++ [{ code := 9, tag := h.tag, start := (s.advance dt).now }] ∧ t.cfg = s.cfg ∧ t.dev = s.dev))
  ∧ (∀ (s : State) (dt : Nat) (w : Waiting), s.waitingFor 0x10 (fun w => !w.dma) = some w →
      s.cfg.roles.staged < s.cfg.slots.length → Completes (.stagingComplete dt true) s (fun t =>
        (t.slot s.cfg.roles.staged) = { s.slot s.cfg.roles.staged with filled := true } ∧ t.cfg.roles = s.cfg.roles
        ∧ t.cfg.journal.length = s.cfg.journal.length + 1 ∧ (∀ a ∈ t.acts, a.code ≠ 9)
        ∧ t.host.outstanding = s.host.outstanding.filter (fun x => !w.same x)))
  ∧ (∀ (s : State) (dt : Nat) (h : Hdr) (digest : DWord), Takes s dt 0x11 h → s.acts = [] → (s.slot s.cfg.roles.staged).filled = true →
      (s.slot s.cfg.roles.staged).digest = digest → s.cellBlocked s.cfg.roles.staged = false →
      Waits (.cfgFire dt h digest) 0x11 h s false (fun t =>
        t.cfg = { s.cfg with firing := some { rollback := false, start := (s.advance dt).now, src := s.cfg.roles.staged } }
        ∧ t.acts = [{ code := 7, tag := h.tag, start := (s.advance dt).now }] ∧ t.dev = { s.dev with runReq := false }))
  ∧ (∀ (s : State) (dt : Nat) (h : Hdr), Takes s dt 0x12 h → s.acts = [] → (s.slot s.cfg.roles.previous).filled = true →
      s.cellBlocked s.cfg.roles.previous = false → Waits (.cfgRollback dt h) 0x12 h s false (fun t =>
        t.cfg = { s.cfg with firing := some { rollback := true, start := (s.advance dt).now, src := s.cfg.roles.previous } }
        ∧ t.acts = [{ code := 8, tag := h.tag, start := (s.advance dt).now }] ∧ t.dev = { s.dev with runReq := false }))
  ∧ (∀ (s : State) (dt : Nat) (f : Firing) (v : CfgVals), s.cfg.firing = some f → s.recheckSlot f.src = .ok v →
      Completes (.firingComplete dt true true) s (fun t =>
        t.cfg.inForce = .slot f.src ∧ t.cfg.gen = s.cfg.nextGen ∧ t.cfg.nextGen = s.cfg.nextGen + 1
        ∧ t.cfg.digest = (s.slot f.src).digest ∧ t.cfg.firing = none ∧ ∀ a ∈ t.acts, a.code ≠ 7 ∧ a.code ≠ 8))
  ∧ (∀ (s : State) (dt : Nat) (f : Firing) (readback : Bool), s.cfg.firing = some f →
      Completes (.firingComplete dt false readback) s (fun t =>
        t.cfg = { s.cfg with firing := none } ∧ ∀ a ∈ t.acts, a.code ≠ 7 ∧ a.code ≠ 8))
  ∧ (∀ (s : State) (dt : Nat), s.acts.any (fun a => a.code = 11) = true → Completes (.journalEraseDone dt) s (fun t =>
        t.acts = s.acts.filter (fun a => a.code ≠ 11)
        ∧ t.cfg.journal = s.cfg.journal.drop (s.cfg.journal.length - ((s.cfg.jpos + (journalHalf - 1)) % journalHalf + 1))
        ∧ t = { s.advance dt with acts := t.acts, cfg := t.cfg }))

/-- Starting and aborting a maintenance activity. That an abort of a firing, an erase or a rollback is answered STARTED
is the model's reading (logs 24, 39). The ends of the maintenance activities: the activity's claim is over, its
MAINT_START is answered, and what it measured is kept where the spec keeps it. That a sweep's result is kept under
the key of its profile words is the model's choice (log 12), and that sensor zero keeps the means as they are before
a zero is subtracted its reading (log 44). Completing, under its hypotheses: maintStart, maintAbort,
valveSweepComplete, wireCheckComplete, autoTuneComplete, autoTuneTimeout, flashScrubComplete, sensorZeroComplete,
sextantSelfTestComplete. -/
def Obligations.MaintenanceRows : Prop :=
  (∀ (s : State) (dt : Nat) (h : Hdr) (param : Ref) (result : DWord) (act : Byte) (loop : Nat), Takes s dt 0x14 h →
      1 ≤ act.toNat → act.toNat ≤ 6 → s.dev.st.admitsAct act.toNat = true → (act.toNat = 3 → s.loopOn loop = true) →
      (act.toNat = 1 → s.cfg.inForce ≠ .straps) →
      let u := (s.advance dt).taken
      let a := u.request h result act.toNat loop
      u.holderOf (u.claimOf a) = none →
      Waits (.maintStart dt h param result act loop) 0x14 h s (act.toNat = 1 || act.toNat = 3) (fun t =>
        t.acts = s.acts ++ [a] ∧ a.code = act.toNat ∧ a.tag = h.tag ∧ a.idx = (s.ring 0).mod ∧ a.start = (s.advance dt).now
        ∧ t.dev = s.dev ∧ t.valves = s.valves ∧ t.loops = s.loops))
  ∧ (∀ (s : State) (dt : Nat) (h : Hdr) (target : BitVec 16) (a : Activity), Takes s dt 0x15 h →
      s.acts.find? (fun a => a.tag = target) = some a → a.code ≤ 6 →
      Answers (.maintAbort dt h target) 0x15 h s .ok 0 (fun v =>
        v.acts = s.acts.filter (fun x => !(x == a)) ∧ v.dev = s.dev ∧ v.flash = s.flash))
  ∧ (∀ (s : State) (dt : Nat) (h : Hdr) (target : BitVec 16) (a : Activity), Takes s dt 0x15 h →
      s.acts.find? (fun a => a.tag = target) = some a → 6 < a.code → a.code ≠ 9 →
      Answers (.maintAbort dt h target) 0x15 h s .started 0 (fun v => v = (s.advance dt).taken))
  ∧ (∀ (s : State) (dt : Nat) (o : Swept) (n : Nat) (cMeas : List Nat) (a : Activity) (w : Waiting), s.running 1 = some a →
      a.params = [(n : Int)] → a.swept = [o] → s.sweptOut o = true → s.maintCmd a = some w → s.sweepMoves = false →
      sweptWell n o.detected o.opens = true → sweptWell n o.closes.length o.closes = true →
      Completes (.valveSweepComplete dt cMeas) s (fun t =>
        EndsAct s t a w ∧ ∃ e ∈ t.flash.cal, e.ch = o.ch ∧ e.key = s.profileKey o.ch ∧ e.dOn = some (sweepStat o.opens)
          ∧ e.dOff = some (sweepStat o.closes)))
  ∧ (∀ (s : State) (dt : Nat) (valves : List Nat) (switches : List (Option OffObs)) (a : Activity) (w : Waiting), s.running 2 = some a →
      s.maintCmd a = some w → Completes (.wireCheckComplete dt valves switches) s (fun t => EndsAct s t a w))
  ∧ (∀ (s : State) (dt : Nat) (a : Activity) (w : Waiting), s.maintCmd a = some w →
      s.acts.find? (fun a => a.code = 3 && a.ready && ((s.loop a.loop).relay.map (·.ended)) == some 1) = some a →
      Completes (.autoTuneComplete dt) s (fun t => EndsAct s t a w))
  ∧ (∀ (s : State) (dt : Nat) (a : Activity) (w : Waiting), s.maintCmd a = some w →
      s.acts.find? (fun a => a.code = 3 && a.ready
        && decide (a.start + (a.params.getD 7 0).toNat * 250000000 ≤ (s.advance dt).now)
        && ((s.loop a.loop).relay.map (·.ended)) != some 1) = some a →
      Completes (.autoTuneTimeout dt) s (fun t => EndsAct s t a w))
  ∧ (∀ (s : State) (dt pages corrected : Nat) (a : Activity) (w : Waiting), s.running 4 = some a → s.maintCmd a = some w →
      Completes (.flashScrubComplete dt pages corrected []) s (fun t => EndsAct s t a w))
  ∧ (∀ (s : State) (dt : Nat) (means : List Int) (artic : Int) (a : Activity) (w : Waiting), s.running 5 = some a →
      s.maintCmd a = some w → a.start + 250000000 ≤ (s.advance dt).now →
      Completes (.sensorZeroComplete dt means artic) s (fun t =>
        EndsAct s t a w ∧ t.flash.articZero = artic
        ∧ ∀ i < s.flash.aiZero.length, t.flash.aiZero.getD i 0 =
            if s.cfgB .aiZeroEn i then means.getD i 0 else s.flash.aiZero.getD i 0))
  ∧ (∀ (s : State) (dt : Nat) (engines : BitVec 16) (chans : BitVec 128) (a : Activity) (w : Waiting), s.running 6 = some a →
      s.maintCmd a = some w → a.start + 200000000 ≤ (s.advance dt).now →
      Completes (.sextantSelfTestComplete dt engines chans) s (fun t =>
        EndsAct s t a w ∧ (∀ c ∈ t.nav.sx.chans, chans.getLsbD c.ch = false)
        ∧ ∀ i : Fin 128, chans.getLsbD i = true → i.val ∈ t.nav.sx.badChans))

/-! ### Tiles and the planner -/

/-- The tile cache's own rows: the prefetch region, a request placed in the TILE ring, a record that passes its checks
(the slot is VALID and Tile SRAM holds the record), a write-back that is due, and one that has finished. That a tile
is needed where a channel's path comes within the margins of R135 is computed to the precision of log 14, and the
FETCH posted again for a record that went bad goes in any state (log 157). Completing, under its hypotheses:
prefetchRecompute, tileRequestEnterRing, tileRecordRead, writebackDue, writebackComplete, tileTimeout, tileRetry. -/
def Obligations.TileExchangeRows : Prop :=
  (∀ (s : State) (dt : Nat), s.dev.st.planning = true →
      (s.tiles.recomputed = none ∨ ∃ m, s.tiles.recomputed = some m ∧ m + 2500000 ≤ (s.advance dt).now) →
      Completes (.prefetchRecompute dt) s (fun t =>
        t.tiles.recomputed = some (s.advance dt).now ∧ (s.nav.outs = [] → t.tiles.region = []) ∧ t.dev = s.dev
        ∧ (∀ r ∈ t.tiles.region, reach r.1 = true ∧ reach r.2.1 = true
            ∧ ∃ o ∈ s.nav.outs.head?, ∃ ch m, ch < s.nCh ∧ s.planned ch = true ∧ (s.advance dt).now ≤ m ∧ s.nearTile o ch m r.1 r.2.1)
        ∧ (∀ o ∈ s.nav.outs.head?, ∀ ch < s.nCh, s.planned ch = true → (∀ c, s.planner.cycle = some c → (s.advance dt).now < c + 2604096) →
            ∀ tx ty : Int, reach tx = true → reach ty = true → s.nearTile o ch (s.advance dt).now tx ty →
              t.tiles.region.any (fun r => r.1 = tx && r.2.1 = ty) = true)))
  ∧ (∀ (s : State) (dt : Nat) (r : TReq), (s.advance dt).nextReq = some r → s.tileRoom = true →
      Completes (.tileRequestEnterRing dt) s (fun t =>
        t.tiles.queue = s.tiles.queue.erase r ∧ t.tiles.reqSeq = s.tiles.reqSeq + 1
        ∧ t.tiles.placed = s.tiles.placed ++
          [{ idx := (s.ring 4).mod, seq := s.tiles.reqSeq, fetch := r.fetch, tx := r.tx, ty := r.ty, slot := r.slot,
             need := r.need, placed := (s.advance dt).now }]
        ∧ (t.ring 4).mod = (s.ring 4).mod + 1 ∧ t = { s.advance dt with host := t.host, tiles := t.tiles }))
  ∧ (∀ (s : State) (dt n : Nat) (p : TPlaced) (x : TSlot) (d : List Byte), s.answeredReq true n = some p → p.cancelled = false →
      s.tileCheck p.tx p.ty d = 0 → s.slotFor p.tx p.ty = some x → x.st ≠ .refresh → s.tiles.held = [] →
      Completes (.tileRecordRead dt n (some d)) s (fun t =>
        t.tiles.mem = Memory.writes s.tiles.mem (2048 * x.slot) (slice d 0 2048)
        ∧ (∀ y ∈ t.tiles.slots, y.slot = x.slot → y.st = .valid ∧ y.gen = BitVec.ofNat 32 (leAt d 12 4))
        ∧ (∀ q ∈ t.tiles.placed, q.idx ≠ p.idx) ∧ t = { s.advance dt with host := t.host, tiles := t.tiles }))
  ∧ (∀ (s : State) (dt n : Nat) (x : TSlot), s.tiles.slots.find? (fun x => x.slot = n) = some x → x.dirty = true →
      x.oldest + 500000000 ≤ (s.advance dt).now → x.notBefore ≤ (s.advance dt).now → s.wbBusy n = false →
      s.tiles.queue.length < 256 → Completes (.writebackDue dt n) s (fun t =>
        t.tiles = { s.tiles with queue := s.tiles.queue ++
          [{ fetch := false, tx := x.tx, ty := x.ty, slot := n, need := x.oldest, first := false }] }
        ∧ t = { s.advance dt with tiles := t.tiles }))
  ∧ (∀ (s : State) (dt n : Nat) (p : TPlaced), s.answeredReq false n = some p → Completes (.writebackComplete dt n true) s (fun t =>
        t.coverGen p.tx p.ty = s.coverGen p.tx p.ty + 1 ∧ (∀ q ∈ t.tiles.placed, q.idx ≠ p.idx) ∧ t.dev = s.dev
        ∧ t.flash = s.flash))
  ∧ (∀ (s : State) (dt n : Nat) (p : TPlaced),
      s.tiles.placed.find? (fun p => p.slot = n && p.addr.isNone && !p.timedOut) = some p →
      p.placed + s.cfgN .tileAnswerMax * 250000 ≤ (s.advance dt).now → Completes (.tileTimeout dt n) s (fun t =>
        (∀ q ∈ t.tiles.placed, q.idx = p.idx → q.timedOut = true) ∧ t.dev = s.dev ∧ t.flash = s.flash))
  ∧ (∀ (s : State) (dt n : Nat), Completes (.tileRetry dt n) s (fun t =>
        t.tiles.waitBad = s.tiles.waitBad.filter (fun w => decide ((s.advance dt).now < w.2.2)) ∧ t.dev = s.dev))
  ∧ (∀ (s : State) (dt n : Nat) (x : TSlot), s.tiles.slots.find? (fun x => x.slot = n) = some x → x.dirty = false →
      x.needsRecord = true → x.fetchAfter ≤ (s.advance dt).now → s.fetchBusy x = false → s.tiles.queue.length < 256 →
      s.tiles.waitBad = [] → Completes (.tileRetry dt n) s (fun t =>
        t.tiles = { s.tiles with queue := s.tiles.queue ++
          [{ fetch := true, tx := x.tx, ty := x.ty, slot := n, need := (s.advance dt).now }] }
        ∧ t = { s.advance dt with tiles := t.tiles }))
  ∧ (∀ (s : State) (dt n m need : Nat) (tx ty : Int), s.tiles.waitBad = [(tx, ty, m)] → m ≤ (s.advance dt).now →
      s.dev.st.planning = true → reach tx = true → reach ty = true → s.tiles.region = [(tx, ty, need)] → s.tiles.held = [] →
      s.tiles.slots = [] → s.tiles.stuck = [] → s.tiles.queue.length < 256 → Completes (.tileRetry dt n) s (fun t =>
        t.tiles.queue = s.tiles.queue ++ [{ fetch := true, tx := tx, ty := ty, slot := 0, need := need }]
        ∧ t.tiles.waitBad = [] ∧ t = { s.advance dt with tiles := t.tiles, cnt := t.cnt }))

/-- The tile commands. A patch of a tile that is not cached is NOT_CACHED, and TILE_INVALIDATE leaves a dirty tile that
is to be dropped until its write-back ends, as logs 48 and 107 read the rules. The planner commands wait for the
next cycle start, an empty mask at once; a hold acknowledged where none is pending is WRONG_STATE. That a second
acknowledgement of a hold is WRONG_STATE is the model's reading (log 52). Completing, under its hypotheses:
tilePatch, tileInvalidate, tileFlush, tileFlushComplete, rateTable, planSectionEnable, planManual, planHoldAck. -/
def Obligations.MapCommands : Prop :=
  (∀ (s : State) (dt : Nat) (h : Hdr) (tx ty : BitVec 16) (rate dma : Bool) (off len : Nat) (gen : Word) (data : BitVec 128),
      Takes s dt 0x20 h → off + len ≤ (if rate then 256 else 512) → (dma = true ∨ len ≤ 16) →
      (s.slotFor tx.toInt ty.toInt = none →
        Answers (.tilePatch dt h tx ty rate dma off len gen data) 0x20 h s .ok (resultOf [(128, 1, 1)])
          (fun v => v = (s.advance dt).taken))
      ∧ (∀ x, s.slotFor tx.toInt ty.toInt = some x →
        Waits (.tilePatch dt h tx ty rate dma off len gen data) 0x20 h s dma (fun t => HostOnly (s.advance dt) t)))
  ∧ (∀ (s : State) (dt : Nat) (h : Hdr) (x0 y0 x1 y1 : BitVec 16), Takes s dt 0x21 h → s.tiles.stuck = [] →
      let xs := s.rectSlots x0.toInt y0.toInt x1.toInt y1.toInt
      ((∀ x ∈ s.tiles.slots, x.drop = false) → Answers (.tileInvalidate dt h x0 y0 x1 y1 0) 0x21 h s .ok
          (resultOf [(128, 16, xs.length)])
          (fun v => ∀ y ∈ v.rectSlots x0.toInt y0.toInt x1.toInt y1.toInt, y.st = .refresh))
      ∧ (∀ x, xs = [x] → x.dirty = true → s.tiles.queue.length < 256 →
        Waits (.tileInvalidate dt h x0 y0 x1 y1 1) 0x21 h s false (fun t =>
          ∀ y ∈ t.tiles.slots, y.slot = x.slot → y.drop = true))
      ∧ Answers (.tileInvalidate dt h x0 y0 x1 y1 2) 0x21 h s .ok (resultOf [(128, 16, xs.length)])
          (fun v => v.rectSlots x0.toInt y0.toInt x1.toInt y1.toInt = []))
  ∧ (∀ (s : State) (dt : Nat) (h : Hdr), Takes s dt 0x22 h →
      ((∀ x ∈ s.tiles.slots, x.dirty = false) → Answers (.tileFlush dt h) 0x22 h s .ok 0 (fun v => v = (s.advance dt).taken))
      ∧ ((∃ x ∈ s.tiles.slots, x.dirty = true) → Waits (.tileFlush dt h) 0x22 h s false (fun t => t.dev = s.dev)))
  ∧ (∀ (s : State) (dt posted failed : Nat) (w : Waiting), s.waitingFor 0x22 = some w → w.aux = [posted, failed] →
      Completes (.tileFlushComplete dt) s (fun t =>
        t = (s.advance dt).finish w (if 0 < failed then .timeout else .ok) (resultOf [(128, 16, posted), (144, 16, failed)])))
  ∧ (∀ (s : State) (dt : Nat) (h : Hdr) (addr : DWord), Takes s dt 0x23 h →
      Waits (.rateTable dt h addr) 0x23 h s true (fun t => HostOnly (s.advance dt) t))
  ∧ (∀ (s : State) (dt : Nat) (h : Hdr) (mask : BitVec 96) (en : Bool), Takes s dt 0x25 h →
      (mask = 0 → Answers (.planSectionEnable dt h mask en) 0x25 h s .ok 0 (fun v => v = (s.advance dt).taken))
      ∧ (mask ≠ 0 → Waits (.planSectionEnable dt h mask en) 0x25 h s false (fun t => HostOnly (s.advance dt) t)))
  ∧ (∀ (s : State) (dt : Nat) (h : Hdr) (mask : BitVec 96) (on : Bool) (duty : Nat) (rate : Word), Takes s dt 0x26 h →
      (mask = 0 → Answers (.planManual dt h mask on duty rate) 0x26 h s .ok
        (resultOf [(129, 7, max (s.cfgN .dutyMin) (min (s.cfgN .dutyMax) duty))]) (fun v => v = (s.advance dt).taken))
      ∧ (mask ≠ 0 → Waits (.planManual dt h mask on duty rate) 0x26 h s false (fun t => HostOnly (s.advance dt) t)))
  ∧ (∀ (s : State) (dt : Nat) (h : Hdr), Takes s dt 0x27 h →
      (s.planner.loss = 2 → Waits (.planHoldAck dt h) 0x27 h s false (fun t =>
        t.planner = { s.planner with ackWaits := true } ∧ t.dev = s.dev))
      ∧ (s.planner.loss ≠ 2 → Answers (.planHoldAck dt h) 0x27 h s .wrongState 0 (fun v => v = (s.advance dt).taken)))

/-- The planner's rows: a cycle start takes the freeze point and the fired settings, compares the speed and lets waiting
section commands take effect; the deadline abandons what is unfinished; a hold that stays unacknowledged, or lasts
too long, becomes a shut-off. The CAUSE of the entries to WORKING and PARKED is the model's reading (log 25).
Completing, under its hypotheses: plannerCycleStart, placementDeadline, holdUnacked, holdExpired. -/
def Obligations.PlannerRows : Prop :=
  (∀ (s : State) (dt : Nat), s.islands = true → s.dev.st.servesRings = true → (s.advance dt).now % 125000 = 0 →
      Completes (.plannerCycleStart dt) s (fun t =>
        t.planner.cycle = some (s.advance dt).now ∧ t.planner.f = (s.advance dt).now + 104096 ∧ t.planner.placing = true
        ∧ t.cfg.newPlan = none
        ∧ t.cfg.vals = s.cfg.newPlan.getD s.cfg.vals ∧ t.time = (s.advance dt).time
        ∧ ((∀ g, s.dev.grace = some g → (s.advance dt).now < g.endsAt) → t.flash = s.flash)))
  ∧ (∀ (s : State) (dt : Nat), s.islands = true → (s.advance dt).now % 125000 = 0 → s.dev.st = .parked → s.dev.runReq = true →
      s.dev.grace = none → s.cfgN .workSpeed ≤ (s.advance dt).groundSpeed → s.outputsHolder = none →
      Completes (.plannerCycleStart dt) s (fun t =>
        t.dev = { s.dev with st := .working, cause := 1, stMt := (s.advance dt).now }))
  ∧ (∀ (s : State) (dt : Nat), s.islands = true → (s.advance dt).now % 125000 = 0 → s.dev.st = .working → s.dev.runReq = true →
      (∀ g, s.dev.grace = some g → (s.advance dt).now < g.endsAt) →
      (s.advance dt).groundSpeed + s.cfgN .workHyst < s.cfgN .workSpeed → Completes (.plannerCycleStart dt) s (fun t =>
        t.dev = { s.dev with st := .parked, cause := 1, stMt := (s.advance dt).now }))
  ∧ (∀ (s : State) (dt d : Nat) (h : Hdr) (w : Waiting) (mask : BitVec 96) (en : Bool), s.islands = true →
      (s.advance dt).now % 125000 = 0 → s.dev.st = .standby → s.host.outstanding = [w] →
      w.cmd = .planSectionEnable d h mask en → Completes (.plannerCycleStart dt) s (fun t =>
        t.planner.enabled = (if en then s.planner.enabled ||| mask else s.planner.enabled &&& ~~~mask)
        ∧ t.host.outstanding = []))
  ∧ (∀ (s : State) (dt m : Nat) (unfinished : List Nat), s.planner.placing = true → s.planner.cycle = some m →
      m + 100000 ≤ (s.advance dt).now → Completes (.placementDeadline dt unfinished) s (fun t =>
        t.planner.placing = false ∧ t.planner.before = []
        ∧ (∀ ch ∈ unfinished, ch < s.nCh → ch < s.planner.ch.length → s.sweeping ch = false →
            (t.pchan ch).abandoned = (s.pchan ch).abandoned.or (some s.planner.f))
        ∧ t = { s.advance dt with planner := t.planner, cnt := t.cnt }))
  ∧ (∀ (s : State) (dt : Nat), s.dev.st = .working → s.planner.loss = 2 →
      s.planner.lossMt + s.cfgN .holdAckMax * 250000 ≤ (s.advance dt).now →
      Completes (.holdUnacked dt) s (fun t =>
        t.planner = { s.planner with loss := 1 } ∧ t = { s.advance dt with planner := t.planner, host := t.host, cnt := t.cnt }))
  ∧ (∀ (s : State) (dt : Nat), s.dev.st = .working → s.planner.loss = 3 →
      s.planner.lossMt + s.cfgN .holdMax * 250000 ≤ (s.advance dt).now →
      Completes (.holdExpired dt) s (fun t =>
        t.planner = { s.planner with loss := 1 } ∧ t = { s.advance dt with planner := t.planner, host := t.host, cnt := t.cnt }))

/-! ### Position and Sextant -/

/-- Fusion's output each millisecond, and the IMU port: without a field origin, or without a heading, an output has
quality 0; an instant starts a burst read and abandons one that has not ended; a good frame is kept, dated to its
instant, and the hundredth in a row ends a loss; a missed one is counted, and the tenth in a row is the loss. That
SPEED_VALID is an operand, and that the initialisation list is sent again each second, are the model's choices (logs
19, 68). Completing, under its hypotheses: fusionEpoch, imuDrdyEdge, imuSyncPulse, imuBurstComplete, imuInitRetry. -/
def Obligations.FusionRows : Prop :=
  (∀ (s : State) (dt : Nat) (o : FusObs), s.navRuns = true → (s.advance dt).now % 250000 = 0 → s.running 1 = none →
      Completes (.fusionEpoch dt o) s (fun t => ∃ x, t.nav.outs = (x :: s.nav.outs).take 4096
        ∧ x.epoch = (s.advance dt).now ∧ x.originValid = s.nav.origin.isSome ∧ x.speedValid = o.speedOk
        ∧ x.noImu = (s.advance dt).noImu ∧ (x.originValid = false ∨ x.hdgSrc = 0 → x.quality = 0)
        ∧ t = { s.advance dt with nav := t.nav, can := t.can, host := t.host, free := t.free, cnt := t.cnt }))
  ∧ (∀ (s : State) (dt : Nat), s.navRuns = true → s.cfgN .imuMode = 1 → s.nav.imu.burst = none →
      Completes (.imuDrdyEdge dt) s (fun t =>
        t.nav.imu = { s.nav.imu with burst := some ((s.advance dt).now - s.cfgN .imuLat * 250), readAt := (s.advance dt).now }
        ∧ t = { s.advance dt with nav := t.nav }))
  ∧ (∀ (s : State) (dt : Nat), s.navRuns = true → s.cfgN .imuMode = 2 →
      (s.advance dt).now % (250000000 / max 1 (s.cfgN .imuRate)) = 0 →
      Completes (.imuSyncPulse dt) s (fun t =>
        t.nav.imu.burst = some (s.advance dt).now ∧ t.nav.imu.isync = some (s.advance dt).now
        ∧ t.nav.imu.readAt = (s.advance dt).now + s.cfgN .imuLat * 250
        ∧ (s.nav.imu.burst.isSome = true → t.nav.imu.missed = s.nav.imu.missed + 1 ∧ t.nav.imu.good = 0)
        ∧ t = { s.advance dt with nav := t.nav, host := t.host, cnt := t.cnt }))
  ∧ (∀ (s : State) (dt m : Nat) (fr : List Byte) (p : ImuProfile), s.navRuns = true → s.nav.imu.burst = some m →
      s.nav.imu.readAt ≤ (s.advance dt).now →
      imuParse (s.cfg.vals.blob .imuProfile 0) = some p →
      (p.good fr = true → Completes (.imuBurstComplete dt fr) s (fun t =>
        t.nav.imu.burst = none ∧ t.nav.imu.missed = 0 ∧ t.nav.imu.sampleMt = some m
        ∧ t.nav.imu.sample = p.qs.map (imuCount fr) ∧ t.nav.imu.good = s.nav.imu.good + 1
        ∧ t.nav.imu.lost = (s.nav.imu.lost && decide (s.nav.imu.good < 99))
        ∧ t = { s.advance dt with nav := t.nav, host := t.host, cnt := t.cnt }))
      ∧ (p.good fr = false → Completes (.imuBurstComplete dt fr) s (fun t =>
        t.nav.imu.burst = none ∧ t.nav.imu.missed = s.nav.imu.missed + 1 ∧ t.nav.imu.good = 0
        ∧ t.nav.imu.lost = (s.nav.imu.lost || decide (9 ≤ s.nav.imu.missed)) ∧ t.nav.imu.sample = s.nav.imu.sample
        ∧ t = { s.advance dt with nav := t.nav, host := t.host, cnt := t.cnt })))
  ∧ (∀ (s : State) (dt m : Nat) (p : ImuProfile), s.navRuns = true → s.nav.imu.lost = true → s.nav.imu.initAt = some m →
      s.cfgN .imuMode ≠ 0 → imuParse (s.cfg.vals.blob .imuProfile 0) = some p →
      m + 250000000 ≤ (s.advance dt).now → Completes (.imuInitRetry dt) s (fun t =>
        t.nav.imu = { s.nav.imu with initAt := some (s.advance dt).now, sent := p.inits, lists := s.nav.imu.lists + 1 }
        ∧ t = { s.advance dt with nav := t.nav }))

/-- The field origin and the fusion reset: FIELD_ORIGIN posts a write-back for every dirty tile and waits for them; then
the cache is emptied and the origin stands. Sextant's commands: aiding is held, or ignored where it disagrees with
what Sextant knows; an orbit buffer is waited for; a restart frees the channels, and a cold one forgets the aiding;
a satellite or a signal is excluded and included again; raw output needs a RAW ring of 256 entries. That aiding
which disagrees is one that differs from a solution by more than its own uncertainty (log 71), that a KIND of 3 is a
hot restart (log 92), that SX_EXCLUDE takes any pair of a system and a signal (log 152) and SX_RAW off any ring (log
134) are the model's choices. Completing, under its hypotheses: fieldOrigin, fieldOriginComplete, fusionReset,
sxAidTime, sxAidPos, sxAidOrbit, sxRestart, sxExclude, sxRaw. -/
def Obligations.NavigationCommands : Prop :=
  (∀ (s : State) (dt : Nat) (h : Hdr) (lat lon height : Word), Takes s dt 0x38 h →
      Waits (.fieldOrigin dt h lat lon height) 0x38 h s false (fun t =>
        t.nav = s.nav ∧ ((∀ x ∈ s.tiles.slots, x.dirty = false) → HostOnly (s.advance dt) t)))
  ∧ (∀ (s : State) (dt d : Nat) (h : Hdr) (lat lon height : Word) (w : Waiting), s.waitingFor 0x38 = some w →
      w.cmd = .fieldOrigin d h lat lon height → w.aux.drop 2 = [] → Completes (.fieldOriginComplete dt) s (fun t =>
        t.nav = { s.nav with origin := some (lat, lon, height), far := false } ∧ t.tiles.slots = [] ∧ t.tiles.mem = []
        ∧ t.tiles.queue = [] ∧ t.tiles.held = [] ∧ t.dev = s.dev ∧ t.flash = s.flash ∧ t.cfg = s.cfg))
  ∧ (∀ (s : State) (dt : Nat) (h : Hdr), Takes s dt 0x3A h →
      Answers (.fusionReset dt h) 0x3A h s .ok 0 (fun v => v = (s.advance dt).taken.fusionReset ∧ v.nav.gyroBias = [0, 0, 0]
        ∧ v.nav.accBias = [0, 0, 0] ∧ v.nav.scales = [65536, 65536, 65536] ∧ v.nav.origin = s.nav.origin))
  ∧ (∀ (s : State) (dt : Nat) (h : Hdr) (ft : DWord) (unc : Word), Takes s dt 0xA1 h → s.cfgN .antennas ≠ 0 →
      let differs := ∃ x ∈ s.nav.sol, (s.advance dt).now ≤ x.epoch + s.cfgN .gnssAgeMax * 250000 ∧ unc.toNat < ((ft.toNat : Int) - (x.ft + 4 * ((s.advance dt).now - x.epoch : Nat))).natAbs
      (¬differs → Answers (.sxAidTime dt h ft unc) 0xA1 h s .ok 0 (fun v =>
        v.nav.sx.aid = { s.nav.sx.aid with time := some (ft.toNat, unc.toNat, (s.advance dt).now) }
        ∧ v = { (s.advance dt).taken with nav := v.nav }))
      ∧ (differs → Answers (.sxAidTime dt h ft unc) 0xA1 h s .ok (resultOf [(128, 1, 1)]) (fun v => v = (s.advance dt).taken)))
  ∧ (∀ (s : State) (dt : Nat) (h : Hdr) (lat lon height unc : Word), Takes s dt 0xA2 h → s.cfgN .antennas ≠ 0 →
      ((s.advance dt).posDisagrees lat lon height unc = false → Answers (.sxAidPos dt h lat lon height unc) 0xA2 h s .ok 0 (fun v =>
        v.nav.sx.aid = { s.nav.sx.aid with pos := some (lat.toInt, lon.toInt, height.toInt, unc.toNat) }
        ∧ v = { (s.advance dt).taken with nav := v.nav }))
      ∧ ((s.advance dt).posDisagrees lat lon height unc = true →
        Answers (.sxAidPos dt h lat lon height unc) 0xA2 h s .ok (resultOf [(128, 1, 1)]) (fun v => v = (s.advance dt).taken)))
  ∧ (∀ (s : State) (dt : Nat) (h : Hdr) (buf : Ref) (eph : Bool), Takes s dt 0xA3 h → s.cfgN .antennas ≠ 0 →
      Waits (.sxAidOrbit dt h buf eph) 0xA3 h s true (fun t => HostOnly (s.advance dt) t))
  ∧ (∀ (s : State) (dt : Nat) (h : Hdr) (kind : Nat), Takes s dt 0xA4 h → s.cfgN .antennas ≠ 0 →
      Answers (.sxRestart dt h kind) 0xA4 h s .ok 0 (fun v =>
        v.nav.sx.chans = [] ∧ (∀ e ∈ v.nav.sx.engines, e.det = none) ∧ v.nav.sol = s.nav.sol
        ∧ (kind = 0 → v.nav.sx.aid = {} ∧ v.nav.sx.start = 0 ∧ v.time.ftValid = false)
        ∧ (kind = 1 → (∀ x ∈ v.nav.sx.aid.orbits, x.1 = false) ∧ v.nav.sx.aid.time = s.nav.sx.aid.time)
        ∧ (kind ≠ 0 → v.time = (s.advance dt).time)))
  ∧ (∀ (s : State) (dt : Nat) (h : Hdr) (incl : Bool) (sig svid : Byte) (sys : Nat), Takes s dt 0xA5 h → s.cfgN .antennas ≠ 0 →
      svidOk sys svid.toNat = true → (sig = 0 ∨ sxSignals.contains sig.toNat = true) →
      Answers (.sxExclude dt h incl sig svid sys) 0xA5 h s .ok 0 (fun v =>
        ((sys, svid.toNat, sig.toNat) ∈ v.nav.sx.excluded ↔ incl = false)
        ∧ v = { (s.advance dt).taken with nav := v.nav }))
  ∧ (∀ (s : State) (dt : Nat) (h : Hdr) (en : Bool), Takes s dt 0xA6 h → s.cfgN .antennas ≠ 0 →
      (en = true → (s.ring 6).en = true ∧ 8 ≤ (s.ring 6).log2) → Answers (.sxRaw dt h en) 0xA6 h s .ok 0 (fun v =>
        v.nav.sx = { s.nav.sx with raw := en } ∧ v = { (s.advance dt).taken with nav := v.nav }))

/-- Ports, channels and engines: a port with a fault condition loses its channels' lock and recovers after 100 ms; an
allocation frees what the host excludes and comes once a second; a detection in the search window is kept, lasts 200
ms unconfirmed, and phase lock confirms it; a channel handed over has 500 ms to lock; a channel that loses C/N0 is
released; a BOC jump moves the replica half a chip. That an allocation is due 1 s after the last, and that
LOW_CN0_RELEASE and BOC_JUMP are their conditions themselves, are the model's readings (logs 71, 72). Completing,
under its hypotheses: portFault, portGood, channelAllocation, acquisitionDetection, acquisitionConfirmTimeout,
handoverLockTimeout, lowCn0Release, bocJump, phaseLock. -/
def Obligations.TrackingRows : Prop :=
  (∀ (s : State) (dt p cond : Nat), s.sxRuns = true → s.portOn p = true → p < s.nav.sx.ports.length → cond < 2 →
      Completes (.portFault dt p cond) s (fun t =>
        (t.port p).fault = true ∧ (t.port p).since = (s.advance dt).now
        ∧ (∀ c ∈ t.nav.sx.chans, c.port = p → c.locked = false ∧ c.fll = true)
        ∧ t = { s.advance dt with nav := t.nav, host := t.host, cnt := t.cnt }))
  ∧ (∀ (s : State) (dt p : Nat), s.sxRuns = true → s.portOn p = true → p < s.nav.sx.ports.length → (s.port p).fault = true →
      (s.port p).since + 25000000 ≤ (s.advance dt).now → Completes (.portGood dt p) s (fun t =>
        t.port p = { s.port p with fault := false }
        ∧ t = { s.advance dt with nav := t.nav, host := t.host, cnt := t.cnt }))
  ∧ (∀ (s : State) (dt : Nat) (vs : List SatView), s.sxRuns = true →
      (s.nav.sx.allocated = none ∨ ∃ m, s.nav.sx.allocated = some m ∧ m + 250000000 ≤ (s.advance dt).now) →
      Completes (.channelAllocation dt vs) s (fun t =>
        t.nav.sx.allocated = some (s.advance dt).now ∧ (vs = [] → t.nav.sx.chans = [])
        ∧ (∀ c ∈ t.nav.sx.chans, s.hostExcludes c.sys c.svid c.signal = false)
        ∧ t = { s.advance dt with nav := t.nav }))
  ∧ (∀ (s : State) (dt e sig svid ch : Nat) (cp dopp : Int) (c : TrkCh) (q : Search), s.sxRuns = true → s.trk ch = some c →
      c.port = 0 → c.signal = sig → c.svid = svid → c.locked = false → e < s.nav.sx.engines.length →
      (s.nav.sx.engines.getD e {}).bad = false → (s.port 0).fault = false → (s.nav.sx.engines.getD e {}).det = none →
      (s.nav.sx.engines.getD e {}).search = some q → q.ch = ch → q.signal = sig → q.svid = svid →
      (dopp - q.centreHz).natAbs ≤ q.windowHz →
      Completes (.acquisitionDetection dt e sig svid ch cp dopp) s (fun t =>
        (t.nav.sx.engines.getD e {}).det =
          some { signal := sig, svid := svid, ch := ch, mt := (s.advance dt).now, codePhase := cp, doppler := dopp }
        ∧ (∀ d ∈ t.nav.sx.chans, d.ch = ch → d.begun = true ∧ d.code = cp ∧ d.doppler = 256 * dopp)
        ∧ (∀ d ∈ s.nav.sx.chans, d.ch ≠ ch → d ∈ t.nav.sx.chans) ∧ t = { s.advance dt with nav := t.nav }))
  ∧ (∀ (s : State) (dt e : Nat) (d : AcqDet), e < s.nav.sx.engines.length → (s.nav.sx.engines.getD e {}).det = some d →
      d.mt + 50000000 ≤ (s.advance dt).now → Completes (.acquisitionConfirmTimeout dt e) s (fun t =>
        (t.nav.sx.engines.getD e {}).det = none ∧ (t.nav.sx.engines.getD e {}).search = none
        ∧ t = { s.advance dt with nav := t.nav }))
  ∧ (∀ (s : State) (dt ch : Nat), Completes (.handoverLockTimeout dt ch) s (fun t =>
        (∀ c ∈ s.nav.sx.chans, c ∈ t.nav.sx.chans ↔
          ¬(c.ch = ch ∧ c.locked = false ∧ ∃ m, c.handed = some m ∧ m + 125000000 ≤ (s.advance dt).now))
        ∧ t = { s.advance dt with nav := t.nav }))
  ∧ (∀ (s : State) (dt ch : Nat), s.sxRuns = true → Completes (.lowCn0Release dt ch) s (fun t =>
        t.nav.sx.chans = s.nav.sx.chans.filter (fun c => c.ch ≠ ch) ∧ t = { s.advance dt with nav := t.nav }))
  ∧ (∀ (s : State) (dt ch : Nat) (late : Bool) (c : TrkCh), s.sxRuns = true → s.nav.sx.chans = [c] → c.ch = ch →
      c.signal = 0x11 ∨ c.signal = 0x21 → Completes (.bocJump dt ch late) s (fun t =>
        t.nav.sx.chans = [{ c with jumpTill := some ((s.advance dt).now + 250000000),
                                   moved := c.moved + (if late then 1 else -1),
                                   code := c.code + (if late then 32768 else -32768) }]
        ∧ t = { s.advance dt with nav := t.nav }))
  ∧ (∀ (s : State) (dt ch : Nat) (ind : Int) (c : TrkCh), s.sxRuns = true → s.trk ch = some c → (s.port c.port).fault = false → c.begun = true →
      (c.locked = false → 800 ≤ ind → Completes (.phaseLock dt ch ind) s (fun t =>
        (∀ d ∈ t.nav.sx.chans, d.ch = ch → d.locked = true ∧ d.fll = false ∧ d.slip = true ∧ d.slipMt = (s.advance dt).now)
        ∧ (∀ e ∈ t.nav.sx.engines, ∀ d, e.det = some d → d.ch ≠ ch) ∧ t = { s.advance dt with nav := t.nav }))
      ∧ (c.locked = true → ind < 600 → Completes (.phaseLock dt ch ind) s (fun t =>
        (∀ d ∈ t.nav.sx.chans, d.ch = ch → d.locked = false ∧ d.fll = true) ∧ t = { s.advance dt with nav := t.nav })))

/-- Epochs, corrections and the clock model: an epoch numbers itself, and one without a solution ends the run of
solutions and passes none; the active correction stream changes; 1 s without a solution is COAST; a decided step,
and the end of a slew, take place at their instants; an uncertainty beyond its limit makes FT invalid; TP0 is dated
to its tick. The tolerance within which an epoch is due (log 73), the drop of a step at a loss (log 89) and the rate
left at a slew's end (log 70) are the model's readings. Completing, under its hypotheses: measurementEpoch,
corrSwitch, coastStart, ftStep, slewComplete, coastUncertaintyLimit, tp0Pulse. -/
def Obligations.ClockModelRows : Prop :=
  (∀ (s : State) (dt : Nat) (o : EpochObs), s.sxRuns = true → (s.advance dt).epochDue = true →
      Completes (.measurementEpoch dt o) s (fun t =>
        t.nav.sx.seq = s.nav.sx.seq + 1 ∧ t.nav.sx.lastEpoch = some (s.advance dt).now ∧ t.nav.sx.clk.timestep = false
        ∧ (o.kind = .none → t.nav.runs = [0, 0, 0, 0] ∧ t.nav.sol = s.nav.sol ∧ t.nav.sx.clk.run = 0
            ∧ t.time.ftValid = s.time.ftValid)
        ∧ (t.nav.sol ≠ s.nav.sol → ∃ l, l ≤ 5 ∧
            t.nav.sol = some { epoch := (s.advance dt).now, level := l, x := o.px, y := o.py, z := o.pz, ve := o.ve, vn := o.vn,
                               vu := o.vu, yawRate := o.yawRate, dual := o.dual, cog := o.cog })
        ∧ t = { s.advance dt with time := t.time, nav := t.nav, host := t.host, cnt := t.cnt }))
  ∧ (∀ (s : State) (dt : Nat), s.sxRuns = true → 2 ≤ s.cfgN .corrSource → s.nav.sx.corr.onCan = s.corrPrimary →
      (if s.corrPrimary then s.nav.sx.corr.can else s.nav.sx.corr.ring).lastValid + s.cfgN .corrSwitch * 250000000
        ≤ (s.advance dt).now → Completes (.corrSwitch dt) s (fun t =>
        t.nav.sx.corr.onCan = !s.nav.sx.corr.onCan ∧ t.nav.sx.corr.ring.part = [] ∧ t.nav.sx.corr.can.part = []
        ∧ t = { s.advance dt with nav := t.nav, host := t.host, cnt := t.cnt }))
  ∧ (∀ (s : State) (dt m : Nat), s.navRuns = true → s.time.ftValid = true → s.time.clock ≠ .coast →
      s.nav.sx.clk.last = some m → m + 250000000 ≤ (s.advance dt).now → Completes (.coastStart dt) s (fun t =>
        t.time.clock = .coast ∧ t.time.ftValid = true ∧ t.nav.sx.clk = { s.nav.sx.clk with slew := none, step := none, again := false, run := 0 }
        ∧ t = { s.advance dt with time := t.time, nav := t.nav, host := t.host, cnt := t.cnt }))
  ∧ (∀ (s : State) (dt m : Nat) (e : Int), s.navRuns = true → s.time.ftValid = true → s.time.ahead = [] →
      s.nav.sx.clk.step = some (e, m) → m ≤ (s.advance dt).now → Completes (.ftStep dt) s (fun t =>
        t.time.pair = { mtBase := m, ftBase := s.ftAt m - e, ftRate := s.nav.sx.clk.rate } ∧ t.time.prev = s.time.pair
        ∧ t.time.ftSeq = s.time.ftSeq + 1 ∧ t.time.ahead = []
        ∧ t.nav.sx.clk = { s.nav.sx.clk with step := none, timestep := true, stepped := true }
        ∧ t = { s.advance dt with time := t.time, nav := t.nav, host := t.host, cnt := t.cnt }))
  ∧ (∀ (s : State) (dt m : Nat) (e : Int), s.navRuns = true → s.time.ftValid = true → s.time.ahead = [] →
      s.nav.sx.clk.slew = some (e, m) → m ≤ (s.advance dt).now → Completes (.slewComplete dt) s (fun t =>
        t.time.clock = .locked ∧ t.nav.sx.clk = { s.nav.sx.clk with slew := none }
        ∧ t.time.pair.ftRate = s.nav.sx.clk.rate ∧ t.time.pair.mtBase = (s.advance dt).now
        ∧ t.time.pair.ftBase = s.ftAt (s.advance dt).now
        ∧ t = { s.advance dt with time := t.time, nav := t.nav, host := t.host, cnt := t.cnt }))
  ∧ (∀ (s : State) (dt : Nat), s.navRuns = true → s.time.ftValid = true → s.time.clock = .coast →
      (s.cfgN .tpUncMax : Rat) < s.ftU (s.advance dt).now → Completes (.coastUncertaintyLimit dt) s (fun t =>
        t.time.ftValid = false ∧ t.time.ahead = [] ∧ t.nav.sx.clk.tpOff = true ∧ t.nav.sx.clk.step = none
        ∧ t.nav.sx.clk.slew = none ∧ t.nav.sx.clk.run = 0
        ∧ t = { s.advance dt with time := t.time, nav := t.nav, host := t.host, cnt := t.cnt }))
  ∧ (∀ (s : State) (dt : Nat) (f : Int), s.navRuns = true → s.time.ftValid = true → s.nav.sx.clk.tpOff = false →
      s.nav.sx.clk.firstPulse = some f → s.nav.sx.clk.lastPulse = none →
      let m := nearest (s.cfgN .tpPeriod * 1000000) (s.ftExact (s.advance dt).now)
      f ≤ m → ratAbs ((m : Rat) - s.ftExact (s.advance dt).now) ≤ 2 → Completes (.tp0Pulse dt) s (fun t =>
        t.time.tpLastMt = (s.advance dt).now ∧ t.nav.sx.clk = { s.nav.sx.clk with lastPulse := some m, stepped := false, tp0 := true }
        ∧ t = { s.advance dt with time := t.time, nav := t.nav, host := t.host, cnt := t.cnt }))
  ∧ (∀ (s : State) (dt : Nat) (l : Int), s.navRuns = true → s.time.ftValid = true → s.nav.sx.clk.tpOff = false →
      s.nav.sx.clk.tp0 = true → s.nav.sx.clk.lastPulse = some l →
      ratAbs ((l + s.cfgI .tpWidth * 1000 : Int) - s.ftExact (s.advance dt).now) ≤ 2 → Completes (.tp0Pulse dt) s (fun t =>
        t.nav.sx.clk = { s.nav.sx.clk with tp0 := false } ∧ t.time = { (s.advance dt).time with tpLastMt := (s.advance dt).now }
        ∧ t = { s.advance dt with nav := t.nav, time := t.time }))

/-! ### Valves and sequencers -/

/-- Edges: one within 4,096 ticks, due no later than any other of its group, goes to its group; on its due MT an ON
starts the profile of an idle channel and an OFF ends the conduction of one in RUN or HOLD; edges for a latched
channel are dropped and counted; an ON during a decay waits, and starts when the decay and MIN_OFF are over.
Completing, under its hypotheses: edgeHandover, edgeRelease, decayEnd, minOffElapsed. -/
def Obligations.EdgeRows : Prop :=
  (∀ (s : State) (dt ch : Nat) (e : Edge), s.hasCh ch → firstEdge s.planner.wheel ch = some e →
      (∀ x ∈ s.planner.wheel, grpOf x.ch = grpOf ch → e.due ≤ x.due) →
      e.due ≤ (s.advance dt).now + 4096 → (s.group (grpOf ch)).handed.length < 32 → (s.chan ch).latched = false →
      Completes (.edgeHandover dt ch) s (fun t =>
        t.planner = { s.planner with wheel := s.planner.wheel.erase e }
        ∧ t.group (grpOf ch) = { s.group (grpOf ch) with handed := (s.group (grpOf ch)).handed ++ [e] }
        ∧ t.valves.ch = s.valves.ch ∧ t = { s.advance dt with planner := t.planner, valves := t.valves }))
  ∧ (∀ (s : State) (dt ch : Nat) (e : Edge), s.hasCh ch → firstEdge s.planner.wheel ch = some e →
      (∀ x ∈ s.planner.wheel, grpOf x.ch = grpOf ch → e.due ≤ x.due) →
      e.due ≤ (s.advance dt).now + 4096 → (s.chan ch).latched = true → Completes (.edgeHandover dt ch) s (fun t =>
        t.planner = { s.planner with wheel := s.planner.wheel.erase e } ∧ t.valves.grp = s.valves.grp
        ∧ t.chan ch = { s.chan ch with dropped := satInc (s.chan ch).dropped }))
  ∧ (∀ (s : State) (dt ch : Nat) (e : Edge), s.hasCh ch → firstEdge (s.group (grpOf ch)).handed ch = some e → e.ch = ch →
      e.due ≤ (s.advance dt).drvMt (grpOf ch) → e.on = true → (s.chan ch).latched = false → (s.ctx ch).st = .idle →
      (s.chan ch).idleAt = none → hdrEmpty (s.hdrOf ch) = false → s.pwr.drvSusp.getD (quadOf ch) false = false →
      Completes (.edgeRelease dt ch) s (fun t =>
        (t.ctx ch).st = .run ∧ (t.ctx ch).pc = hdrStart (s.hdrOf ch) ∧ (t.ctx ch).onMt = (s.advance dt).now
        ∧ (t.ctx ch).base = (s.advance dt).now ∧ (t.ctx ch).next = (s.advance dt).now ∧ (t.ctx ch).act = true
        ∧ (t.ctx ch).decay = hdrDecay (s.hdrOf ch) ∧ (t.ctx ch).conductAt = none ∧ (t.group (grpOf ch)).handed = (s.group (grpOf ch)).handed.erase e
        ∧ t.dev = s.dev ∧ t.planner = s.planner ∧ t.cfg = s.cfg ∧ t.flash = s.flash))
  ∧ (∀ (s : State) (dt ch : Nat) (e : Edge), s.hasCh ch → firstEdge (s.group (grpOf ch)).handed ch = some e → e.ch = ch →
      e.due ≤ (s.advance dt).drvMt (grpOf ch) → e.on = false → (s.chan ch).latched = false →
      ((s.ctx ch).st = .run ∨ (s.ctx ch).st = .hold) → Completes (.edgeRelease dt ch) s (fun t =>
        (t.ctx ch).st = .decay ∧ (t.ctx ch).decaying = true ∧ (t.ctx ch).conductAt = none ∧ (t.ctx ch).granted = false
        ∧ (t.ctx ch).offMt = some (s.advance dt).now ∧ (t.ctx ch).offDone = true ∧ (t.ctx ch).decay = (s.ctx ch).decay
        ∧ t.dev = s.dev ∧ (s.running 1 = none → t.planner = s.planner) ∧ t.cfg = s.cfg ∧ t.flash = s.flash))
  ∧ (∀ (s : State) (dt ch mv mj : Nat), s.hasCh ch → (s.ctx ch).decaying = true → (s.ctx ch).closeWin = none →
      Completes (.decayEnd dt ch mv mj) s (fun t =>
        (t.ctx ch).decaying = false ∧ (t.ctx ch).clamped = false ∧ (t.chan ch).idleAt = some (s.advance dt).now
        ∧ (t.chan ch).ma = 0 ∧ (t.ctx ch).st = (if (s.ctx ch).st = .decay then .idle else (s.ctx ch).st)
        ∧ t.pwr = { s.pwr with res := s.pwr.res.set (quadOf ch) mv }
        ∧ t = { s.advance dt with valves := t.valves, pwr := t.pwr }))
  ∧ (∀ (s : State) (dt ch : Nat), s.hasCh ch → (s.advance dt).deferredReady ch = true →
      Completes (.minOffElapsed dt ch) s (fun t =>
        (t.ctx ch).st = .run ∧ (t.ctx ch).pc = hdrStart (s.hdrOf ch) ∧ (t.ctx ch).base = (s.advance dt).now
        ∧ (t.ctx ch).onMt = (s.ctx ch).deferAt.getD (s.advance dt).now ∧ (t.ctx ch).act = true
        ∧ t.dev = s.dev ∧ t.planner = s.planner ∧ t.cfg = s.cfg ∧ t.flash = s.flash))

/-- The boost claim and the arrival windows: a free claim goes to the longest-waiting request, or, without a boost, that
request is refused; one that has waited DEFER_MAX is refused, and its peak comes from the drive rail; a feature
inside its window decides the outcome, and the window's end decides a miss. The feature that decides is that of log
111. Completing, under its hypotheses: boostGrant, boostRefusal, arrivalDetected, arrivalWindowTimeout,
markBufferDrain. -/
def Obligations.ClaimArrivalRows : Prop :=
  (∀ (s : State) (dt g ch m mv : Nat) (rest : List (Nat × Nat)), s.hasCh ch → grpOf ch = g → (s.group g).holder = none →
      (s.group g).queue = (ch, m) :: rest →
      ((s.quad (quadOf ch)).noBoost = false → Completes (.boostGrant dt g mv) s (fun t =>
        (t.group g).holder = some ch ∧ (t.ctx ch).st = .run ∧ (t.ctx ch).granted = true
        ∧ (t.ctx ch).phaseAt = some (s.advance dt).now ∧ (t.ctx ch).claimAt = none ∧ (t.ctx ch).conducted = true
        ∧ (∀ q ∈ (t.group g).queue, q.1 ≠ ch) ∧ t.pwr = { s.pwr with res := s.pwr.res.set (quadOf ch) mv }
        ∧ t = { s.advance dt with valves := t.valves, pwr := t.pwr, cnt := t.cnt }))
      ∧ ((s.quad (quadOf ch)).noBoost = true → Completes (.boostGrant dt g mv) s (fun t =>
        (t.group g).holder = none ∧ (t.ctx ch).st = .run ∧ (t.ctx ch).granted = false ∧ (t.ctx ch).drivePeak = true
        ∧ (t.ctx ch).claimAt = none ∧ (∀ q ∈ (t.group g).queue, q.1 ≠ ch)
        ∧ t = { s.advance dt with valves := t.valves, cnt := t.cnt })))
  ∧ (∀ (s : State) (dt ch b : Nat), s.hasCh ch → (s.ctx ch).st = .claim → (s.ctx ch).claimAt = some b →
      b + s.cfgN .deferMax (grpOf ch) * 250 ≤ (s.advance dt).now → (s.group (grpOf ch)).holder.isSome = true →
      Completes (.boostRefusal dt ch) s (fun t =>
        (t.ctx ch).st = .run ∧ (t.ctx ch).granted = false ∧ (t.ctx ch).drv = true ∧ (t.ctx ch).drivePeak = true
        ∧ (t.ctx ch).claimAt = none ∧ (t.group (grpOf ch)).holder = (s.group (grpOf ch)).holder
        ∧ (∀ q ∈ (t.group (grpOf ch)).queue, q.1 ≠ ch) ∧ t = { s.advance dt with valves := t.valves, cnt := t.cnt }))
  ∧ (∀ (s : State) (dt ch : Nat) (obs : DetObs) (f : Nat × Nat) (w : Window), s.hasCh ch → (s.ctx ch).openWin = some w →
      s.islands = true → (s.ctx ch).confirm = false → (s.ctx ch).openOut = none → (s.ctx ch).act = true → s.feature ch w obs = some f →
      f.1 ≤ (s.advance dt).now → f.2 ≤ (s.advance dt).now → (∀ m, w.timeout = some m → f.1 ≤ m) →
      Completes (.arrivalDetected dt ch false obs) s (fun t =>
        (t.ctx ch).openOut = some .detected ∧ (t.ctx ch).openMt = f.1 ∧ (t.ctx ch).det = true ∧ (t.ctx ch).openWin = none
        ∧ (t.chan ch).missOn = 0 ∧ t.valves.reports.length = s.valves.reports.length + 1 ∧ (s.running 1 = none → t.acts = s.acts)
        ∧ t = { s.advance dt with valves := t.valves, acts := t.acts }))
  ∧ (∀ (s : State) (dt ch : Nat) (obs : DetObs) (f : Nat × Nat) (w : Window), s.hasCh ch → (s.ctx ch).closeWin = some w →
      s.islands = true → (s.ctx ch).closeOut = none → (s.ctx ch).act = true → s.feature ch w obs = some f →
      f.1 ≤ (s.advance dt).now → f.2 ≤ (s.advance dt).now → (∀ m, w.timeout = some m → f.1 ≤ m) →
      Completes (.arrivalDetected dt ch true obs) s (fun t =>
        (t.ctx ch).closeOut = some .detected ∧ (t.ctx ch).closeMt = f.1 ∧ (t.ctx ch).closeWin = none
        ∧ (t.chan ch).missOff = 0 ∧ (s.running 1 = none → t.acts = s.acts)
        ∧ t = { s.advance dt with valves := t.valves, acts := t.acts, host := t.host, cnt := t.cnt }))
  ∧ (∀ (s : State) (dt ch m : Nat) (w : Window), s.hasCh ch → (s.ctx ch).openWin = some w → w.timeout = some m →
      m ≤ (s.advance dt).now → (s.ctx ch).confirm = false → (s.ctx ch).st = .hold → (s.ctx ch).openOut = none →
      (s.ctx ch).act = true → Completes (.arrivalWindowTimeout dt ch false) s (fun t =>
        (t.ctx ch).openOut = some .miss ∧ (t.ctx ch).openMt = m ∧ (t.chan ch).missOn = (s.chan ch).missOn + 1
        ∧ t = { s.advance dt with valves := t.valves, host := t.host, cnt := t.cnt }))
  ∧ (∀ (s : State) (dt ch m : Nat) (w : Window), s.hasCh ch → (s.ctx ch).closeWin = some w → w.timeout = some m →
      m ≤ (s.advance dt).now → (s.ctx ch).closeOut = none → (s.ctx ch).act = true →
      Completes (.arrivalWindowTimeout dt ch true) s (fun t =>
        (t.ctx ch).closeOut = some .miss ∧ (t.ctx ch).closeMt = m ∧ (t.chan ch).missOff = (s.chan ch).missOff + 1
        ∧ t = { s.advance dt with valves := t.valves, host := t.host, cnt := t.cnt }))
  ∧ (∀ (s : State) (dt g : Nat), g < s.valves.grp.length → Completes (.markBufferDrain dt g) s (fun t =>
        t.group g = { s.group g with marks := [] } ∧ t.valves.ch = s.valves.ch
        ∧ t = { s.advance dt with valves := t.valves, host := t.host, cnt := t.cnt }))

/-- Diagnostics: an off-state test that is due is made, and its finding latches the channel or the group; starved
channels are reported once; a short to supply, an open load, a tied pair and an overload latch channels; a leaking
rail, a readback that conducts, an overcurrent and an overload of the rail latch the group; a coil resistance is
kept. That a test is taken over the 200 us before its row, and a check at the VDRV and for the time its row carries,
are the model's readings (logs 126, 143). The boosts: an overvoltage stops the boost, bleeds the reservoir and
latches the quadrant's groups, without a change of the device state; a reservoir that stays low for 50 ms fails the
boost, and one back at level clears it. Completing, under its hypotheses: offStateTest, diagStarvation,
shortSupplyTrip, openLoadOn, coilR, railLeak, railOvercurrent, railOverload, valveReadbackMismatch, chOverload,
tied, bstOv, bstFail, bstFailClear. -/
def Obligations.ValveFindingRows : Prop :=
  (∀ (s : State) (dt ch code : Nat), s.hasCh ch → s.inUse ch = true → s.cfgB .vcDiagOff ch = true →
      (s.advance dt).testable ch = true → s.outputsHeld = false → s.islands = true → (s.chan ch).latched = false →
      (s.chan ch).testedAt = none → Completes (.offStateTest dt ch code) s (fun t =>
        (t.chan ch).testedAt = some (s.advance dt).now ∧ (code = 1 → t.chLatched ch 4)
        ∧ (code = 2 → t.grpLatched (grpOf ch) 3) ∧ (code = 3 → t.grpLatched (grpOf ch) 2)
        ∧ (code = 0 → t.chan ch = { s.chan ch with testedAt := some (s.advance dt).now, starved := false } ∧ t.flash = s.flash)
        ∧ t.dev = s.dev))
  ∧ (∀ (s : State) (dt ch m : Nat), s.hasCh ch → s.inUse ch = true → s.cfgB .vcDiagOff ch = true → (s.chan ch).starved = false → s.islands = true →
      (s.chan ch).testedAt = some m → m + 10 * s.cfgN .diagPeriod (grpOf ch) * 250000 ≤ (s.advance dt).now →
      Completes (.diagStarvation dt ch) s (fun t =>
        t.chan ch = { s.chan ch with starved := true }
        ∧ t = { s.advance dt with valves := t.valves, host := t.host, cnt := t.cnt }))
  ∧ (∀ (s : State) (dt ch ma : Nat), s.hasCh ch → s.inUse ch = true → (s.ctx ch).isOn = true → 5400 ≤ ma →
      Completes (.shortSupplyTrip dt ch ma) s (fun t => t.chLatched ch 1 ∧ t.dev = s.dev ∧ t.cfg = s.cfg))
  ∧ (∀ (s : State) (dt ch m vdrv : Nat) (runs : List (Nat × Nat)), s.hasCh ch → quadOf ch < s.pwr.vdrv.length →
      s.inUse ch = true → (s.ctx ch).loadFrom = some m → m + 250000 ≤ (s.advance dt).now → 1000 ≤ runLen runs →
      (∀ p ∈ runs, p.1 < 50) → s.outputsHeld = false →
      (9000 ≤ vdrv → Completes (.openLoadOn dt ch runs vdrv) s (fun t =>
        t.chLatched ch 5 ∧ t.dev = s.dev ∧ t.cfg = s.cfg ∧ t.pwr = { s.pwr with vdrv := s.pwr.vdrv.set (quadOf ch) vdrv }))
      ∧ (vdrv < 9000 → Completes (.openLoadOn dt ch runs vdrv) s (fun t =>
        t = { s.advance dt with pwr := { s.pwr with vdrv := s.pwr.vdrv.set (quadOf ch) vdrv } })))
  ∧ (∀ (s : State) (dt ch r vdrv : Nat) (runs : List ((Nat × Int) × Nat)), s.hasCh ch → quadOf ch < s.pwr.vdrv.length →
      s.inUse ch = true → (s.ctx ch).st = .hold → 9000 ≤ vdrv → coilOhms runs = some r → Completes (.coilR dt ch runs vdrv) s (fun t =>
        t.chan ch = { s.chan ch with coilR := r } ∧ t.pwr = { s.pwr with vdrv := s.pwr.vdrv.set (quadOf ch) vdrv }
        ∧ t = { s.advance dt with valves := t.valves, pwr := t.pwr, host := t.host, cnt := t.cnt }
        ∧ (s.cfgN .rCoilMin ch ≤ r → r ≤ s.cfgN .rCoilMax ch → t.host = s.host)))
  ∧ (∀ (s : State) (dt g : Nat), g < s.nGrp → g < s.valves.grp.length → s.islands = true →
      (∀ runs : List ((Nat × List Nat) × Nat), s.grpLive g = true → 100 ≤ runLen runs →
        (∀ p ∈ runs, p.1.2.sum + 200 < p.1.1) →
        Completes (.railLeak dt g runs) s (fun t => t.grpLatched g 11 ∧ t.dev = s.dev))
      ∧ (∀ ma held : Nat, 20000 < ma → 250 ≤ held → Completes (.railOvercurrent dt g ma held) s (fun t =>
        t.grpLatched g 12 ∧ (t.group g).ocCount = satInc (s.group g).ocCount ∧ t.dev = s.dev))
      ∧ (∀ runs : List (Nat × Nat), runLen runs = 1000000 → 8500 * 1000000 < (runs.map (fun p => p.1 * p.2)).sum →
        Completes (.railOverload dt g runs) s (fun t =>
          t.grpLatched g 13 ∧ (t.group g).olCount = satInc (s.group g).olCount ∧ t.dev = s.dev))
      ∧ (∀ (read : Nat) (obs : DetObs), read ≠ 0 → read ≠ (s.group g).rail →
        Completes (.valveReadbackMismatch dt g true read obs) s (fun t => t.grpLatched g 10 ∧ t.dev = s.dev)))
  ∧ (∀ (s : State) (dt ch : Nat), s.hasCh ch → s.inUse ch = true → s.islands = true →
      (∀ runs : List (Nat × Nat), runLen runs = 1000000 →
        1600 * 1600 * 1000000 < (runs.map (fun p => p.1 * p.1 * p.2)).sum →
        Completes (.chOverload dt ch runs) s (fun t => t.chLatched ch 6 ∧ t.dev = s.dev))
      ∧ (∀ (read : Nat) (obs : DetObs), let w := (s.advance dt).watch ch (samplesAt obs.first obs.ma)
        (w.switchOn ch = false → read ≠ 0 → Completes (.valveReadbackMismatch dt ch false read obs) s (fun t =>
          t.grpLatched (grpOf ch) 8 ∧ t.dev = s.dev))
        ∧ (w.switchOn ch = true → read = 0 → Completes (.valveReadbackMismatch dt ch false read obs) s (fun t =>
          t.chLatched ch 9 ∧ t.dev = s.dev))))
  ∧ (∀ (s : State) (dt a b : Nat) (stamps : List (Nat × Nat)), s.hasCh a → s.hasCh b → s.inUse a = true →
      s.inUse b = true → s.islands = true → a ≠ b → s.cfgB .tiedCheck a = true → (s.ctx a).isOn = false →
      offOver (s.chan a).lastActs (s.chan b).lastActs = true →
      tiedTo (s.chan b).lastActs stamps = true → Completes (.tied dt a b stamps) s (fun t => t.chLatched a 7 ∧ t.chLatched b 7 ∧ t.dev = s.dev))
  ∧ (∀ (s : State) (dt q mv held : Nat), q < s.nQuad → q < s.valves.quad.length → 3 * q + 2 < s.valves.grp.length →
      s.pwr.vLim.getD q 0 + 2000 < mv → 2500 ≤ held → Completes (.bstOv dt q mv held) s (fun t =>
        (t.quad q).off = true ∧ (t.quad q).bleed = true ∧ (t.quad q).overE = true
        ∧ (∀ g, 3 * q ≤ g → g ≤ 3 * q + 2 → t.grpLatched g 0) ∧ t.dev = s.dev ∧ t.cfg = s.cfg))
  ∧ (∀ (s : State) (dt q mv m : Nat), q < s.nQuad → q < s.valves.quad.length → q < s.pwr.res.length → (s.quad q).off = false →
      (s.quad q).fail = false → (s.quad q).since = some m → m + 12500000 ≤ (s.advance dt).now →
      mv * 10 < s.pwr.vLim.getD q 0 * 9 →
      Completes (.bstFail dt q mv) s (fun t => 
        t.quad q = { s.quad q with fail := true, full := false, lowAt := some (s.advance dt).now } ∧ t.pwr.res.getD q 0 = mv
        ∧ t = { s.advance dt with valves := t.valves, pwr := t.pwr, host := t.host, cnt := t.cnt }))
  ∧ (∀ (s : State) (dt q mv : Nat), q < s.nQuad → q < s.valves.quad.length → q < s.pwr.res.length → (s.quad q).fail = true →
      s.pwr.vLim.getD q 0 * 9 ≤ mv * 10 → (∀ m, (s.quad q).lowAt = some m → m + 250000000 ≤ (s.advance dt).now) →
      Completes (.bstFailClear dt q mv) s (fun t =>
        t.quad q = { s.quad q with fail := false, full := (t.quad q).full, since := none } ∧ t.pwr.res.getD q 0 = mv
        ∧ t = { s.advance dt with valves := t.valves, pwr := t.pwr, host := t.host, cnt := t.cnt }))

/-- The valve commands: an empty mask is answered with code 5 for every channel, and every other clear or test waits; a
clear whose tests find nothing unlatches the channels; what they find is answered as for any off-state test, and the
channels stay latched; a delay reset starts the named filters as at BOOT. SEQ_READ writes the words, or the header
table, to the host; SEQ_SET_K fixes the presets of the named channels. Completing, under its hypotheses: valveClear,
valveDiagNow, valveClearComplete, valveDelayReset, valveDiagNowComplete, seqRead, seqSetK. -/
def Obligations.ValveCommands : Prop :=
  (∀ (s : State) (dt : Nat) (h : Hdr) (g : Nat) (mask : BitVec 8), s.namedOk g mask = true →
      (Takes s dt 0x41 h →
        (mask = 0 → Answers (.valveClear dt h g mask) 0x41 h s .ok (codesRes (List.replicate 8 5))
          (fun v => v = (s.advance dt).taken))
        ∧ (mask ≠ 0 → Waits (.valveClear dt h g mask) 0x41 h s false (fun t => HostOnly (s.advance dt) t)))
      ∧ (Takes s dt 0x43 h →
        (mask = 0 → Answers (.valveDiagNow dt h g mask) 0x43 h s .ok (codesRes (List.replicate 8 5))
          (fun v => v = (s.advance dt).taken))
        ∧ (mask ≠ 0 → s.outputsOf ((namedCh g mask).map Res.valve) = none → Waits (.valveDiagNow dt h g mask) 0x43 h s false (fun t => HostOnly (s.advance dt) t))))
  ∧ (∀ (s : State) (dt d g : Nat) (h : Hdr) (mask : BitVec 8) (codes : List Nat) (w : Waiting), s.waitingFor 0x41 = some w →
      w.cmd = .valveClear d h g mask → let cs := (s.advance dt).testCodes g mask codes
      ((∀ c ∈ cs, c = 0 ∨ c = 5) → Completes (.valveClearComplete dt codes) s (fun t =>
        t = ({ s.advance dt with valves := t.valves, sag := t.sag } : State).finish w .ok (codesRes cs)
        ∧ (∀ ch ∈ namedCh g mask, ch < s.valves.ch.length →
            (t.chan ch).latched = false ∧ (t.chan ch).testedAt = some (s.advance dt).now)))
      ∧ ((∃ c ∈ cs, 1 ≤ c ∧ c ≤ 3) → Completes (.valveClearComplete dt codes) s (fun t =>
        t = ((s.advance dt).each (List.range 8) (fun s j =>
          if cs.getD j 5 < 4 then s.tested (8 * g + j) (cs.getD j 5) else s)).finish w .faultHeld (codesRes cs)
        ∧ (∀ j < 8, 1 ≤ cs.getD j 5 → cs.getD j 5 ≤ 3 → 8 * g + j < s.valves.ch.length → (t.chan (8 * g + j)).latched = true)
        ∧ t.host.outstanding = s.host.outstanding.filter (fun x => !w.same x) ∧ t.dev = s.dev)))
  ∧ (∀ (s : State) (dt : Nat) (h : Hdr) (mask : BitVec 96), Takes s dt 0x42 h → (∀ ch ∈ bitsOf mask, s.inUse ch = true) →
      (mask ≠ 0 → s.outputsOf ((bitsOf mask).map Res.valve) = none) → Answers (.valveDelayReset dt h mask) 0x42 h s .ok 0 (fun v =>
        (∀ ch ∈ bitsOf mask, ch < s.valves.ch.length → (v.chan ch).missOn = 0 ∧ (v.chan ch).missOff = 0
          ∧ (s.flash.cal = [] → (v.chan ch).fallback = true ∧ (v.chan ch).dOn = s.cfgN .defDOn ch * 250
              ∧ (v.chan ch).dOff = s.cfgN .defDOff ch * 250))
        ∧ v = { (s.advance dt).taken with valves := v.valves }))
  ∧ (∀ (s : State) (dt d g : Nat) (h : Hdr) (mask : BitVec 8) (codes : List Nat) (w : Waiting), s.waitingFor 0x43 = some w →
      w.cmd = .valveDiagNow d h g mask → let cs := (s.advance dt).testCodes g mask codes
      (∀ c ∈ cs, c = 0 ∨ c = 5) → Completes (.valveDiagNowComplete dt codes) s (fun t =>
        (∀ j < 8, cs.getD j 5 = 0 → 8 * g + j < s.valves.ch.length →
          (t.chan (8 * g + j)).testedAt = some (s.advance dt).now)
        ∧ t.dev = s.dev ∧ t.flash = s.flash))
  ∧ (∀ (s : State) (dt : Nat) (h : Hdr) (a : DWord) (g first n : Nat), Takes s dt 0x45 h → g < s.nGrp → 1 ≤ n → first + n ≤ 512 →
      Answers (.seqRead dt h a g false first n) 0x45 h s .ok (resultOf [(128, 32, 4 * n)]) (fun v =>
        v = (s.advance dt).taken.emit (.bytes a (((List.range n).map (fun i =>
          leBytes 4 ((s.group g).store.getD (first + i) 0).toNat)).flatten))))
  ∧ (∀ (s : State) (dt : Nat) (h : Hdr) (a : DWord) (g first n : Nat), Takes s dt 0x45 h → g < s.nGrp →
      (s.group g).hdrs.length = 16 → Answers (.seqRead dt h a g true first n) 0x45 h s .ok (resultOf [(128, 32, 256)])
        (fun v => v = (s.advance dt).taken.emit (.bytes a (((s.group g).hdrs.map (fun x => leBytes 16 x.toNat)).flatten))))
  ∧ (∀ (s : State) (dt : Nat) (h : Hdr) (g : Nat) (mask : BitVec 8) (which en : BitVec 4) (ks : List (BitVec 16)),
      Takes s dt 0x46 h → s.namedOk g mask = true → (mask ≠ 0 → s.outputsOf ((namedCh g mask).map Res.valve) = none) →
      Answers (.seqSetK dt h g mask which en ks) 0x46 h s .ok 0 (fun v =>
        (∀ ch ∈ namedCh g mask, ch < s.valves.ch.length → ∀ n < 4, (v.chan ch).kover.getD n none =
          if which.getLsbD n then some (en.getLsbD n, (ks.getD n 0).toNat) else (s.chan ch).kover.getD n none)
        ∧ v = { (s.advance dt).taken with valves := v.valves }))

/-- Instructions that move, wait or set: SRC, ITGT, WAITT, ARM, DECAY, MARK and HOLDW, each due on its channel. The
energy that a clamped decay has taken when SRC cuts it short is a free value (log 160). Completing, under its
hypotheses: seqSrc, seqItgt, seqWaitt, seqArm, seqDecay, seqMark, seqHoldw, seqEnd, waittExpiry. -/
def Obligations.SeqInstrRows : Prop :=
  (∀ (s : State) (dt ch mv : Nat) (k : BitVec 2), SeqDue s dt ch (.src k) →
      (k = 2 → ∀ x, (s.group (grpOf ch)).took = some x → x.2.1 ≠ (s.ctx ch).next) → Completes (.seqSrc dt ch mv false) s (fun t =>
      (t.ctx ch).src = k.toNat ∧ (t.ctx ch).pc = (s.ctx ch).pc + 1
      ∧ (k = 0 → (t.ctx ch).conductAt = none ∧ (t.ctx ch).granted = false ∧ (t.ctx ch).next = (s.ctx ch).next + 25)
      ∧ (k = 1 → (t.ctx ch).conductAt.isSome = true ∧ (t.ctx ch).conducted = true ∧ (t.ctx ch).granted = false)
      ∧ (k = 2 → (s.quad (quadOf ch)).noBoost = false → (s.group (grpOf ch)).holder = none → (s.group (grpOf ch)).queue = [] →
          (t.ctx ch).granted = true ∧ (t.group (grpOf ch)).holder = some ch ∧ (t.ctx ch).phaseAt = some (s.ctx ch).next)
      ∧ (k = 2 → (s.quad (quadOf ch)).noBoost = true → (t.ctx ch).granted = false ∧ (t.ctx ch).drv = true ∧ (t.ctx ch).drivePeak = true)
      ∧ (k = 0 ∨ k = 1 ∧ ((s.ctx ch).decaying = false ∨ (s.ctx ch).turned = false) → SeqStep s dt ch t)
      ∧ (k = 1 → (s.ctx ch).decaying = true → (s.ctx ch).turned = true → SeqStep { s with free := s.free + 1 } dt ch t
          ∧ (quadOf ch < s.valves.quad.length →
            (t.quad (quadOf ch)).clampMj = (s.quad (quadOf ch)).clampMj + BitVec.ofNat 32 (Config.freeNat s.free)))
      ∧ (k = 2 → t = { s.advance dt with valves := t.valves, pwr := t.pwr, cnt := t.cnt, free := t.free }
          ∧ t.pwr = { s.pwr with res := s.pwr.res.set (quadOf ch) mv } ∧ (∀ g, g ≠ grpOf ch → t.group g = s.group g)
          ∧ (mv < s.pwr.vLim.getD (quadOf ch) 0 →
            ∀ j, j ≠ ch → t.chan j = { s.chan j with ctx := { s.ctx j with loadFrom := (t.ctx j).loadFrom } }))))
  ∧ (∀ (s : State) (dt ch : Nat) (m p : BitVec 2) (reg : Bool) (v : BitVec 12), SeqDue s dt ch (.itgt m p reg v) →
      Completes (.seqItgt dt ch false) s (fun t =>
        t.ctx ch = { s.ctx ch with
          target := if reg then (s.ctx ch).k (v.toNat % 4) else 2 * v.toNat, mode := m.toNat, par := p.toNat
          regs := (t.ctx ch).regs, chop := (t.ctx ch).chop, loadFrom := (t.ctx ch).loadFrom
          pc := (s.ctx ch).pc + 1, next := (s.ctx ch).next + 25, runLen := (s.ctx ch).runLen + 1 }
        ∧ (t.ctx ch).regs.getLast? = some { at_ := (s.ctx ch).next, on := (s.ctx ch).conductAt.isSome,
                                            target := t.targetOf ch, mode := m.toNat, par := p.toNat }
        ∧ SeqStep s dt ch t))
  ∧ (∀ (s : State) (dt ch : Nat) (u : BitVec 2) (n : BitVec 18), SeqDue s dt ch (.waitt u n) →
      Completes (.seqWaitt dt ch false) s (fun t =>
        t.ctx ch = { s.ctx ch with
          pc := (s.ctx ch).pc + 1, runLen := 0, wait := .till ((s.ctx ch).next + waittTicks (s.ctx ch) u n) }
        ∧ SeqStep s dt ch t))
  ∧ (∀ (s : State) (dt ch : Nat) (det : BitVec 2) (scale : Bool) (cnt : BitVec 6), SeqDue s dt ch (.arm det scale cnt) →
      Completes (.seqArm dt ch false) s (fun t =>
        (t.ctx ch).pc = (s.ctx ch).pc + 1 ∧ (t.ctx ch).next = (s.ctx ch).next + 25
        ∧ (det.toNat < 2 → (s.ctx ch).openOut = none → ∃ w, (t.ctx ch).openWin = some w ∧ w.opened = (s.ctx ch).next)
        ∧ (det = 2 → (t.ctx ch).closeArm = some (cntTicks scale cnt.toNat))
        ∧ (det = 3 → (t.ctx ch).openWin = none) ∧ SeqStep s dt ch t))
  ∧ (∀ (s : State) (dt ch : Nat) (m : BitVec 2), SeqDue s dt ch (.decay m) → Completes (.seqDecay dt ch false) s (fun t =>
        t.ctx ch = { s.ctx ch with
          decay := m.toNat
          decayWas := if (s.ctx ch).decaying = true then
              some ((s.ctx ch).decayNow (s.ctx ch).next, ((s.ctx ch).next + 249) / 250 * 250) else none
          pc := (s.ctx ch).pc + 1, next := (s.ctx ch).next + 25, runLen := (s.ctx ch).runLen + 1 }
        ∧ SeqStep s dt ch t))
  ∧ (∀ (s : State) (dt ch : Nat) (code : BitVec 4) (evt reg : Bool) (v : BitVec 12), SeqDue s dt ch (.mark code evt reg v) →
      Completes (.seqMark dt ch false) s (fun t =>
        ((s.group (grpOf ch)).marks.length < 64 → (t.group (grpOf ch)).marks = (s.group (grpOf ch)).marks ++
          [{ ch := ch, code := code.toNat, evt := evt, mt := (s.ctx ch).next,
             value := if reg then (s.ctx ch).k (v.toNat % 4) else v.toNat }])
        ∧ (64 ≤ (s.group (grpOf ch)).marks.length → (t.group (grpOf ch)).marks = (s.group (grpOf ch)).marks ∧ t.host = s.host)
        ∧ (t.ctx ch).pc = (s.ctx ch).pc + 1 ∧ (t.ctx ch).next = (s.ctx ch).next + 25 ∧ SeqStep s dt ch t))
  ∧ (∀ (s : State) (dt ch : Nat), SeqDue s dt ch .holdw → Completes (.seqHoldw dt ch false) s (fun t =>
        (t.ctx ch).st = .hold ∧ (t.ctx ch).runLen = 0
        ∧ ((s.ctx ch).openWin = none → (s.ctx ch).openOut = none → (s.ctx ch).act = true →
            (t.ctx ch).openOut = some .miss ∧ (t.ctx ch).openMt = (s.ctx ch).next)
        ∧ SeqStep s dt ch t))
  ∧ (∀ (s : State) (dt ch : Nat), SeqDue s dt ch .end_ → Completes (.seqEnd dt ch false) s (fun t =>
        (t.ctx ch).st = .ended ∧ (t.ctx ch).decaying = true ∧ (t.ctx ch).conductAt = none ∧ (t.ctx ch).selfEnd = true
        ∧ (t.ctx ch).offMt = some (s.ctx ch).next ∧ t.dev = s.dev ∧ t.flash = s.flash))
  ∧ (∀ (s : State) (dt ch m : Nat), s.hasCh ch → (s.ctx ch).st = .run → (s.ctx ch).wait = .till m → m ≤ (s.advance dt).now →
      Completes (.waittExpiry dt ch) s (fun t =>
        t.ctx ch = { s.ctx ch with wait := .no, next := (s.ctx ch).boundary m } ∧ SeqStep s dt ch t))

/-- Jumps: a target inside the profile is taken, or passed by, and one outside it is a trap; a reserved word traps; the
store's compare each second, and a reload from the image. Completing, under its hypotheses: seqJmp, seqJc,
seqReservedOpcode, seqSrc, seqStoreCompare, seqReload. -/
def Obligations.SeqFlowRows : Prop :=
  (∀ (s : State) (dt ch : Nat) (a : BitVec 9), SeqDue s dt ch (.jmp a) →
      (hdrStart (s.hdrOf ch) ≤ a.toNat → a.toNat ≤ hdrLast (s.hdrOf ch) → Completes (.seqJmp dt ch false) s (fun t =>
        t.ctx ch = { s.ctx ch with pc := a.toNat, next := (s.ctx ch).next + 50, runLen := (s.ctx ch).runLen + 1 }
        ∧ SeqStep s dt ch t))
      ∧ (a.toNat < hdrStart (s.hdrOf ch) ∨ hdrLast (s.hdrOf ch) < a.toNat → Completes (.seqJmp dt ch false) s (fun t =>
        t.chLatched ch 0 ∧ t.dev = s.dev)))
  ∧ (∀ (s : State) (dt ch mv : Nat) (c : BitVec 4) (a : BitVec 9), SeqDue s dt ch (.jc c a) → hdrStart (s.hdrOf ch) ≤ a.toNat →
      a.toNat ≤ hdrLast (s.hdrOf ch) → Completes (.seqJc dt ch mv false) s (fun t =>
        t.ctx ch = (if condHolds (s.ctx ch) (hdrRailLo (s.hdrOf ch)) mv c.toNat = true then
          { s.ctx ch with pc := a.toNat, next := (s.ctx ch).next + 50, runLen := (s.ctx ch).runLen + 1 }
          else { s.ctx ch with pc := (s.ctx ch).pc + 1, next := (s.ctx ch).next + 25, runLen := (s.ctx ch).runLen + 1 })
        ∧ SeqStep s dt ch t))
  ∧ (∀ (s : State) (dt ch : Nat), s.hasCh ch → ch < s.nCh → (s.ctx ch).due (s.advance dt).now = true →
      (s.ctx ch).pc ≤ hdrLast (s.hdrOf ch) → (s.ctx ch).runLen < 4096 →
      decodeSeq ((s.group (grpOf ch)).store.getD (s.ctx ch).pc 0) = none →
      Completes (.seqReservedOpcode dt ch false) s (fun t => t.chLatched ch 0 ∧ t.dev = s.dev))
  ∧ (∀ (s : State) (dt ch mv : Nat), s.hasCh ch → ch < s.nCh → (s.ctx ch).due (s.advance dt).now = true →
      Completes (.seqSrc dt ch mv true) s (fun t => t.grpLatched (grpOf ch) 0 ∧ t.dev = s.dev
        ∧ (t.group (grpOf ch)).reloadBy = some ((s.advance dt).now + 2500000)))
  ∧ (∀ (s : State) (dt : Nat), s.islands = true → Completes (.seqStoreCompare dt []) s (fun t =>
        (∀ g < s.nGrp, g < s.valves.grp.length → (s.group g).compared + 250000000 ≤ (s.advance dt).now →
          t.group g = { s.group g with compared := (s.advance dt).now })
        ∧ t = { s.advance dt with valves := t.valves }))
  ∧ (∀ (s : State) (dt g a : Nat), s.islands = true → g < s.nGrp → g < s.valves.grp.length →
      (s.group g).compared + 250000000 ≤ (s.advance dt).now → Completes (.seqStoreCompare dt [(g, a)]) s (fun t =>
        t.grpLatched g 0 ∧ (t.group g).reloadBy = some ((s.advance dt).now + 2500000) ∧ t.dev = s.dev))
  ∧ (∀ (s : State) (dt g : Nat), g < s.valves.grp.length → (s.group g).reloadBy.isSome = true →
      Completes (.seqReload dt g) s (fun t =>
        t.group g = { s.group g with
          store := progWords 512 (s.cfg.vals.blob .prog g)
          hdrs := (List.range 16).map (fun h =>
            let w := BitVec.ofInt 128 (s.cfgI .hdr (16 * g + h))
            if hdrEmpty w then w else w &&& BitVec.ofNat 128 (2 ^ 114 - 1))
          reloadBy := none, compared := (s.advance dt).now }
        ∧ t = { s.advance dt with valves := t.valves, sag := t.sag }))

/-- LOOP works on the Kn it names: a Kn of 2 or more is decreased by one and the context jumps to ADDR; a Kn of 1 or 0
falls through with Kn at 0, or, with RELOAD, at the preset that the profile started with. Completing, under its
hypotheses: seqLoop. Stated: R223. -/
def Obligations.LoopInstruction : Prop :=
  (∀ (s : State) (dt ch : Nat) (n : BitVec 2) (reload : Bool) (a : BitVec 9), SeqDue s dt ch (.loop n reload a) →
      hdrStart (s.hdrOf ch) ≤ a.toNat → a.toNat ≤ hdrLast (s.hdrOf ch) → n.toNat < (s.ctx ch).ks.length →
      Completes (.seqLoop dt ch false) s (fun t =>
        (2 ≤ (s.ctx ch).k n.toNat → (t.ctx ch).k n.toNat = (s.ctx ch).k n.toNat - 1 ∧ (t.ctx ch).pc = a.toNat
          ∧ (t.ctx ch).next = (s.ctx ch).next + 50)
        ∧ ((s.ctx ch).k n.toNat ≤ 1 → (t.ctx ch).k n.toNat = (if reload then (s.ctx ch).pre.getD n.toNat 0 else 0)
          ∧ (t.ctx ch).pc = (s.ctx ch).pc + 1 ∧ (t.ctx ch).next = (s.ctx ch).next + 25)
        ∧ SeqStep s dt ch t))

/-- WAITI considers only samples whose instant is a multiple of 250 ticks at or after its own boundary, each 50 ticks
after its instant; one that meets its threshold ends it at the first boundary at or after that, and clears TO; the
timeout counts from its own boundary, ends it there, and sets TO. Completing, under its hypotheses: seqWaiti,
waitiEnd, waitiTimeout. Stated: R219. -/
def Obligations.WaitSamples : Prop :=
  (∀ (s : State) (dt ch : Nat) (le scale : Bool) (cnt : BitVec 6) (thr : BitVec 12), SeqDue s dt ch (.waiti le scale cnt thr) →
      Completes (.seqWaiti dt ch false) s (fun t =>
        t.ctx ch = { s.ctx ch with
          pc := (s.ctx ch).pc + 1, runLen := 0
          wait := .current le (2 * thr.toNat) (s.ctx ch).next
            (if cnt = 0 then none else some ((s.ctx ch).next + cntTicks scale cnt.toNat)) } ∧ SeqStep s dt ch t))
  ∧ (∀ (s : State) (dt ch m ma thr fr : Nat) (le : Bool) (tmo : Option Nat), s.hasCh ch → (s.ctx ch).st = .run →
      (s.ctx ch).wait = .current le thr fr tmo → (if le then ma ≤ thr else thr ≤ ma) → (∀ x, tmo = some x → m + 50 ≤ x) →
      m % 250 = 0 → fr ≤ m → m + 50 ≤ (s.advance dt).now → Completes (.waitiEnd dt ch m ma) s (fun t =>
        t.ctx ch = { s.ctx ch with wait := .no, toF := false, next := (s.ctx ch).boundary (m + 50), chop := (t.ctx ch).chop }
        ∧ (t.chan ch).ma = ma
        ∧ SeqStep s dt ch t))
  ∧ (∀ (s : State) (dt ch m thr fr : Nat) (le : Bool), s.hasCh ch → (s.ctx ch).st = .run →
      (s.ctx ch).wait = .current le thr fr (some m) → m ≤ (s.advance dt).now → Completes (.waitiTimeout dt ch) s (fun t =>
        t.ctx ch = { s.ctx ch with wait := .no, toF := true, next := (s.ctx ch).boundary m } ∧ SeqStep s dt ch t))
  ∧ (∀ (s : State) (dt ch m ma thr fr : Nat) (le : Bool) (tmo : Option Nat), (s.ctx ch).wait = .current le thr fr tmo →
      (m < fr ∨ m % 250 ≠ 0 ∨ (s.advance dt).now < m + 50) → Completes (.waitiEnd dt ch m ma) s (fun t => t = s.advance dt))

/-! ### Loops, traces and load switches -/

/-- One sample of a loop: an open loop keeps its output and shows its measurement and target; a closed one applies the
law. A sample whose measurement has been invalid for MEAS_HOLD faults the loop to U_SAFE. Traces: a finished trace
goes to the TRACE ring while it has room; TRACE_ARM arms a free unit on a loop of the image; TRACE_STOP discards, or
triggers an armed unit that holds its PRE samples. That traces are written one at a time is the model's reading (log
57). Completing, under its hypotheses: loopSample, measLost, traceWrite, traceArm, traceStop. -/
def Obligations.LoopRows : Prop :=
  (∀ (s : State) (dt n : Nat), n < s.loops.loop.length → (s.advance dt).sampleDue n = true → (s.loop n).st = .opened →
      (s.loop n).closing = false → s.host.outstanding = [] → s.acts = [] → s.sinkLost n = false →
      s.loops.appliedAt ≠ some (s.advance dt).now → Completes (.loopSample dt n) s (fun t =>
        (t.loop n).st = .opened ∧ (t.loop n).sampled = some (s.advance dt).now ∧ (t.loop n).uOut = (s.loop n).uNext
        ∧ (t.loop n).n.rs = (t.loop n).r
        ∧ (s.cfgI .spMin n ≤ s.cfgI .spMax n → s.cfgI .spMin n ≤ (t.loop n).r ∧ (t.loop n).r ≤ s.cfgI .spMax n)
        ∧ t = { s.advance dt with loops := t.loops, can := t.can, host := t.host, free := t.free, cnt := t.cnt }))
  ∧ (∀ (s : State) (dt n : Nat), n < s.loops.loop.length → (s.advance dt).sampleDue n = true → (s.loop n).st = .closed →
      (s.loop n).closing = false → s.host.outstanding = [] → s.acts = [] → s.sinkLost n = false → s.cfgI .feLimit n = 0 →
      s.cfgI .spRamp n = 0 → s.loops.appliedAt ≠ some (s.advance dt).now →
      ((s.advance dt).applyOutputs.rawOf n).2 = true → Completes (.loopSample dt n) s (fun t =>
        let l := t.loop n
        l.st = .closed ∧ l.measOk = true ∧ l.uOut = (s.loop n).uNext ∧ l.n.rs = l.r
        ∧ l.n.y = satQ ((s.advance dt).applyOutputs.measure n ((s.advance dt).applyOutputs.rawOf n).1)
        ∧ l.n.e = satQ (l.n.rs - l.n.y) ∧ l.n.p = satQ (mulQ (s.coefs n).kp l.n.e)
        ∧ l.n.i = clampI (s.cfgI .iMin n) (s.cfgI .iMax n) l.n.i ∧ l.n.u = clampI (s.cfgI .uMin n) (s.cfgI .uMax n) l.n.v
        ∧ l.uNext = l.n.u ∧ t = { s.advance dt with loops := t.loops, can := t.can, host := t.host, free := t.free, cnt := t.cnt }))
  ∧ (∀ (s : State) (dt n m : Nat), n < s.loops.loop.length → (s.advance dt).sampleDue n = true → (s.loop n).st = .closed →
      s.host.outstanding = [] → s.acts = [] → ((s.advance dt).applyOutputs.rawOf n).2 = false →
      (s.loop n).holdFrom = some m → m + s.cfgN .measHold n * 250000 ≤ (s.advance dt).now →
      Completes (.measLost dt n) s (fun t =>
        (t.loop n).st = .faulted ∧ (t.loop n).cause = 1 ∧ (t.loop n).uOut = s.cfgI .uSafe n ∧ (t.loop n).n.i = 0
        ∧ (t.loop n).n.d = 0 ∧ t.dev = s.dev ∧ t.cfg = s.cfg))
  ∧ (∀ (s : State) (dt k : Nat), (s.trace k).st ≠ 3 → Completes (.traceWrite dt k) s (fun t => t = s.advance dt))
  ∧ (∀ (s : State) (dt k : Nat), k < s.loops.trace.length → (s.trace k).st = 3 → (s.trace k).left = 8193 →
      (∀ j < 4, j ≠ k → (s.trace j).st = 3 → 8193 ≤ (s.trace j).left) → s.canWrite 7 1 = true →
      Completes (.traceWrite dt k) s (fun t =>
        (t.trace k).left ≤ 8192 ∧ (∀ j, j ≠ k → t.trace j = s.trace j) ∧ t.loops.loop = s.loops.loop
        ∧ t = { s.advance dt with loops := t.loops, host := t.host }))
  ∧ (∀ (s : State) (dt : Nat) (h : Hdr) (u n dec pre trig node : Nat) (fl : BitVec 5) (lvl : Q16), Takes s dt 0x57 h →
      u < s.loops.trace.length → u < 4 → trig ≤ 6 → dec < 256 → pre < 4096 → s.loopOn n = true → (s.trace u).st = 0 →
      Answers (.traceArm dt h u n dec pre trig node fl lvl) 0x57 h s .ok 0 (fun v =>
        v.trace u = { st := 1, loop := n, dec := dec + 1, pre := pre, trig := trig, node := node, flags := fl, level := lvl.toInt }
        ∧ v = { (s.advance dt).taken with loops := v.loops }))
  ∧ (∀ (s : State) (dt : Nat) (h : Hdr) (u : Nat) (trig : Bool), Takes s dt 0x58 h → u < s.loops.trace.length → u < 4 →
      ((s.trace u).st = 0 ∨ s.loopOn (s.trace u).loop = true) →
      Answers (.traceStop dt h u trig true) 0x58 h s .ok 0 (fun v =>
        v.trace u = {} ∧ v = { (s.advance dt).taken with loops := v.loops })
      ∧ ((s.trace u).st = 1 → (s.trace u).pre ≤ (s.trace u).samples.length → Answers (.traceStop dt h u true false) 0x58 h s .ok 0 (fun v =>
        v.trace u = { s.trace u with hostTrig := true } ∧ v = { (s.advance dt).taken with loops := v.loops })))

/-- The loop commands wait for the loop's next sample, which judges them: it closes a loop whose measurement is valid,
opens one, clamps and takes a setpoint, clamps and puts out an output, keeps coefficients until the loop closes.
Completing, under its hypotheses: loopClose, loopOpen, loopSetpoint, loopOutput, loopCoef, loopClear, loopSample. -/
def Obligations.LoopCommands : Prop :=
  (∀ (s : State) (dt n : Nat) (h : Hdr), s.loopOn n = true → s.loopHolder n = none →
      (Takes s dt 0x51 h → Waits (.loopClose dt h n) 0x51 h s false (fun t => HostOnly (s.advance dt) t))
      ∧ (∀ safe, Takes s dt 0x52 h → Waits (.loopOpen dt h n safe) 0x52 h s false (fun t => HostOnly (s.advance dt) t))
      ∧ (∀ r, Takes s dt 0x53 h → Waits (.loopSetpoint dt h n r) 0x53 h s false (fun t => HostOnly (s.advance dt) t))
      ∧ (∀ u, Takes s dt 0x54 h → Waits (.loopOutput dt h n u) 0x54 h s false (fun t => HostOnly (s.advance dt) t))
      ∧ (∀ kp ki kd tf, Takes s dt 0x55 h → Waits (.loopCoef dt h n kp ki kd tf) 0x55 h s false (fun t => HostOnly (s.advance dt) t))
      ∧ (Takes s dt 0x56 h → Waits (.loopClear dt h n) 0x56 h s false (fun t => HostOnly (s.advance dt) t)))
  ∧ (∀ (s : State) (dt n : Nat) (w : Waiting), n < s.loops.loop.length → (s.advance dt).sampleDue n = true →
      s.host.outstanding = [w] → w.aux = [n] → 0x51 ≤ w.op.toNat → w.op.toNat ≤ 0x56 → s.acts = [] → s.sinkLost n = false →
      (s.loop n).closing = false → (s.loop n).st = .opened → 0 ≤ s.cfgI .feLimit n → ((s.advance dt).applyOutputs.rawOf n).2 = true →
      (∀ d h, w.cmd = .loopClose d h n → Completes (.loopSample dt n) s (fun t =>
        (t.loop n).st = .closed ∧ t.host.outstanding = []))
      ∧ (∀ d h, w.cmd = .loopOpen d h n true → Completes (.loopSample dt n) s (fun t =>
        (t.loop n).st = .opened ∧ (t.loop n).uOut = s.cfgI .uSafe n ∧ t.host.outstanding = []))
      ∧ (∀ d h r, w.cmd = .loopSetpoint d h n r → s.cfgN .spSrc n = 0 → Completes (.loopSample dt n) s (fun t =>
        (t.loop n).rHost = some (clampI (s.cfgI .spMin n) (s.cfgI .spMax n) r.toInt) ∧ t.host.outstanding = []))
      ∧ (∀ d h u, w.cmd = .loopOutput d h n u → Completes (.loopSample dt n) s (fun t =>
        (t.loop n).uOut = clampI (s.cfgI .uMin n) (s.cfgI .uMax n) u.toInt ∧ t.host.outstanding = []))
      ∧ (∀ d h kp ki kd tf, w.cmd = .loopCoef d h n kp ki kd tf → Completes (.loopSample dt n) s (fun t =>
        (t.loop n).coefNext = some (coefOf kp.toInt ki.toInt kd.toInt (min 10000000 tf.toNat) (s.cfgI .period n)).1
        ∧ t.host.outstanding = [])))
  ∧ (∀ (s : State) (dt n d : Nat) (h : Hdr) (w : Waiting), n < s.loops.loop.length → (s.advance dt).sampleDue n = true →
      s.host.outstanding = [w] → w.aux = [n] → w.op = 0x56 → w.cmd = .loopClear d h n → s.acts = [] → s.sinkLost n = false →
      (s.loop n).closing = false → (s.loop n).st = .faulted → (s.loop n).cause ≠ 1 → Completes (.loopSample dt n) s (fun t =>
        (t.loop n).st = .opened ∧ (t.loop n).uOut = s.cfgI .uSafe n ∧ t.host.outstanding = []))

/-- Trips and inrush: a trip turns the unit off, pauses it and counts, and latches it at OC_TRIES; the pause ends; the
count resets after 1 s of conduction; the inrush window ends, or its budget is spent; at a PWM period's start the
wanted mode and duty take effect. That the budget is reckoned with the mean a reading carries, and that the row of a
period's start also stands at each millisecond, are the model's readings (logs 55, 122). Thermal shutdown and the
tests: at 175 degrees both switches of the cell turn off until it has cooled to 160; a due off-state test latches on
a finding, and so does an open load while on. That a short is found before an open load, and a BRIDGE pair judged at
LS2k, is the model's choice (log 161). Completing, under its hypotheses: lsTrip, lsShortTrip, lsPauseEnd,
lsTripCountReset, inrushWindowEnd, inrushBudgetSpent, lsPwmPeriodStart, thermalShutdown, thermalRestart,
lsOffStateTest, lsOpenLoadOn. -/
def Obligations.SwitchRows : Prop :=
  (∀ (s : State) (dt n held : Nat) (ma : Int), n < 16 → s.loops.ls.length = 16 → (s.ls n).mode ≠ .off → s.lsHeld n = false →
      (s.iLim n : Int) ≤ ma.natAbs → s.cfgN .ocTripT n * 250 ≤ held → (s.advance dt).lsOnFor n held = true →
      Completes (.lsTrip dt n ma held) s (fun t =>
        (∀ m ∈ s.lsUnit n, (t.ls m).mode = .off ∧ (t.ls m).trips = (s.ls m).trips + 1)
        ∧ ((s.ls n).trips + 1 < s.cfgN .ocTries n → ∀ m ∈ s.lsUnit n,
            (t.ls m).pause = some ((s.advance dt).now + pauseTicks ((s.ls n).trips + 1)) ∧ t.flash = s.flash)
        ∧ (s.cfgN .ocTries n ≤ (s.ls n).trips + 1 → ∀ m ∈ s.lsUnit n, (t.ls m).latched = true) ∧ t.dev = s.dev))
  ∧ (∀ (s : State) (dt n mv vload held m : Nat) (ma : Int), n < 16 → s.loops.ls.length = 16 → n / 4 < s.pwr.vload.length → (s.ls n).win = some m →
      m + held ≤ (s.advance dt).now → 12500 ≤ held →
      (if s.cfgB .loadTo n then vload < mv + s.cfgN .shortMv n else mv < s.cfgN .shortMv n) →
      (s.cfgN .inrushLimit n : Int) ≤ ma.natAbs → Completes (.lsShortTrip dt n ma (mv, vload) held) s (fun t =>
        (∀ m ∈ s.lsUnit n, (t.ls m).mode = .off ∧ (t.ls m).trips = (s.ls m).trips + 1) ∧ (t.ls n).mv = mv
        ∧ t.pwr = { s.pwr with vload := s.pwr.vload.set (n / 4) vload } ∧ t.dev = s.dev))
  ∧ (∀ (s : State) (dt n m : Nat), n < 16 → s.loops.ls.length = 16 → (s.ls n).pause = some m → m ≤ (s.advance dt).now →
      Completes (.lsPauseEnd dt n) s (fun t =>
        (∀ j ∈ s.lsUnit n, (t.ls j).pause = none) ∧ (∀ j, j ∉ s.lsUnit n → t.ls j = s.ls j) ∧ t = { s.advance dt with loops := t.loops }))
  ∧ (∀ (s : State) (dt n m : Nat), n < 16 → s.loops.ls.length = 16 → (s.ls n).onFrom = some m → m + 250000000 ≤ (s.advance dt).time.up →
      Completes (.lsTripCountReset dt n) s (fun t =>
        (∀ j ∈ s.lsUnit n, t.ls j = { s.ls j with trips := 0 }) ∧ (∀ j, j ∉ s.lsUnit n → t.ls j = s.ls j)
        ∧ t = { s.advance dt with loops := t.loops }))
  ∧ (∀ (s : State) (dt n m : Nat) (ma : Int), n < s.loops.ls.length → (s.ls n).win = some m →
      (∀ below, (s.advance dt).winOver n m below = true → Completes (.inrushWindowEnd dt n below) s (fun t =>
        t.ls n = { s.ls n with win := none, budget := some ((s.advance dt).lsBudget n), budgetAt := (s.advance dt).now }
        ∧ t = { s.advance dt with loops := t.loops }))
      ∧ (((s.advance dt).updLs n (fun x => { x with iNow := ma })).lsBudget n = 0 → Completes (.inrushBudgetSpent dt n ma) s (fun t =>
        t.ls n = { s.ls n with win := none, budget := some 0, budgetAt := (s.advance dt).now, iNow := ma }
        ∧ t.iLim n = s.cfgN .ocLimit n ∧ t = { s.advance dt with loops := t.loops })))
  ∧ (∀ (s : State) (dt k n : Nat) (a b : Int × Nat) (cell : Int), k < 8 → s.loops.ls.length = 16 → k < s.loops.pair.length →
      s.islands = true → (s.advance dt).pairStart k = true → n = 2 * k ∨ n = 2 * k + 1 →
      Completes (.lsPwmPeriodStart dt k [a, b] cell) s (fun t =>
        (t.lsPair k).temp = cell
        ∧ ((s.advance dt).now % 250000 = 0 → (t.ls n).ma = (if n = 2 * k then a else b).1 ∧ (t.ls n).mv = (if n = 2 * k then a else b).2)
        ∧ (s.lsHeld n = true → (t.ls n).mode = .off)
        ∧ (s.lsHeld n = false → (t.ls n).mode = (s.lsWanted n).1 ∧ (t.ls n).duty = (s.lsWanted n).2)
        ∧ t = { s.advance dt with loops := t.loops }))
  ∧ (∀ (s : State) (dt k : Nat) (temp : Int) (x : Nat × Nat), k < 8 → s.loops.ls.length = 16 → k < s.loops.pair.length →
      175 ≤ temp → (s.lsPair k).hot = false → Completes (.thermalShutdown dt k temp x) s (fun t =>
        (t.lsPair k).hot = true ∧ (t.lsPair k).temp = temp ∧ (t.ls (2 * k)).mode = .off ∧ (t.ls (2 * k + 1)).mode = .off
        ∧ (s.cfgB .thermMode k = true → (t.ls (2 * k)).latched = true ∧ (t.ls (2 * k + 1)).latched = true)
        ∧ t.dev = s.dev))
  ∧ (∀ (s : State) (dt k : Nat) (temp : Int), k < 8 → s.loops.ls.length = 16 → k < s.loops.pair.length →
      (s.lsPair k).hot = true → temp ≤ 160 → Completes (.thermalRestart dt k temp) s (fun t =>
        t.lsPair k = { s.lsPair k with temp := temp, hot := false } ∧ t = { s.advance dt with loops := t.loops }))
  ∧ (∀ (s : State) (dt n : Nat) (o : OffObs), s.loops.ls.length = 16 → (s.advance dt).lsTestable n = true → s.cfgB .lsDiagOff n = true →
      (s.ls n).tested = none → (s.ls n).latched = false → s.outputsHeld = false → s.islands = true →
      let up := s.pairMode n = 1 ∨ s.cfgB .loadTo n = false
      Completes (.lsOffStateTest dt n o) s (fun t =>
        (t.ls n).tested = some (s.advance dt).now ∧ t.dev = s.dev
        ∧ (up → 6500 < o.off → (t.ls n).latched = true ∧ (t.ls n).cause = 5)
        ∧ (up → o.off ≤ 6500 → 4000 < o.pulled → (t.ls n).latched = true ∧ (t.ls n).cause = 4)
        ∧ (¬up → o.off < 1000 → (t.ls n).latched = true ∧ (t.ls n).cause = 6)
        ∧ (¬up → 1000 ≤ o.off → o.pulled + 4000 < o.vload → (t.ls n).latched = true ∧ (t.ls n).cause = 4)
        ∧ ((if up then o.off ≤ 6500 ∧ o.pulled ≤ 4000 else 1000 ≤ o.off ∧ o.vload ≤ o.pulled + 4000) →
            (t.ls n).latched = false ∧ t = { s.advance dt with loops := t.loops })))
  ∧ (∀ (s : State) (dt n : Nat) (ma : Int), n < 16 → s.loops.ls.length = 16 → s.lsActive n = true →
      (s.advance dt).lsLow n = true →
      ma.natAbs < s.cfgN .olMa n → s.outputsHeld = false → (s.ls n).latched = false →
      Completes (.lsOpenLoadOn dt n ma) s (fun t =>
        (t.ls n).latched = true ∧ (t.ls n).cause = 4 ∧ (t.ls n).mode = .off ∧ t.dev = s.dev))

/-- The switch commands: LS_SET gives its mode and clamped duty to every named switch; a clear and a test of an empty
mask are answered at once and wait otherwise; a clear that finds nothing unlatches. Which switches a mode may name
is, for pairs, the model's choice (log 123). Completing, under its hypotheses: lsSet, lsClear, lsDiagNow,
lsClearComplete, lsDiagNowComplete. -/
def Obligations.SwitchCommands : Prop :=
  (∀ (s : State) (dt : Nat) (h : Hdr) (mask : BitVec 16) (k : Nat) (m : LsMode) (duty : Q16), Takes s dt 0x60 h →
      s.loops.ls.length = 16 → lsModeOf k = some m → (∀ n ∈ bitsOf mask, s.lsNamed m n = true ∧ s.lsOwner n = none) →
      (mask ≠ 0 → s.outputsOf ((bitsOf mask).map Res.switch) = none) → Answers (.lsSet dt h mask k duty) 0x60 h s
        (okOr ((m == .pwm || m == .bridge) && decide (lsDuty m duty.toInt ≠ duty.toInt)))
        (resultOf [(128, 32, twos 32 (lsDuty m duty.toInt))]) (fun v =>
          (∀ n ∈ bitsOf mask, (v.ls n).asked = some (m, lsDuty m duty.toInt) ∧ (v.ls n).cleared = false)
          ∧ (m = .pwm → ∀ n, (v.ls n).mode = (s.ls n).mode ∧ (v.ls n).duty = (s.ls n).duty)
          ∧ v = { (s.advance dt).taken with loops := v.loops }))
  ∧ (∀ (s : State) (dt : Nat) (h : Hdr) (mask : BitVec 16), (∀ n ∈ bitsOf mask, s.cfgB .lsEnable n = true) →
      (Takes s dt 0x62 h →
        (mask = 0 → Answers (.lsClear dt h mask) 0x62 h s .ok (lsCodes (List.replicate 16 5)) (fun v => v = (s.advance dt).taken))
        ∧ (mask ≠ 0 → Waits (.lsClear dt h mask) 0x62 h s false (fun t => HostOnly (s.advance dt) t)))
      ∧ (Takes s dt 0x63 h →
        (mask = 0 → Answers (.lsDiagNow dt h mask) 0x63 h s .ok (lsCodes (List.replicate 16 5)) (fun v => v = (s.advance dt).taken))
        ∧ (mask ≠ 0 → s.outputsOf ((bitsOf mask).map Res.switch) = none → Waits (.lsDiagNow dt h mask) 0x63 h s false (fun t => HostOnly (s.advance dt) t))))
  ∧ (∀ (s : State) (dt d : Nat) (h : Hdr) (mask : BitVec 16) (obs : List (Option OffObs)) (w : Waiting), s.loops.ls.length = 16 →
      s.waitingFor 0x62 = some w → w.cmd = .lsClear d h mask → let cs := (s.advance dt).lsTestCodes mask obs
      ((∀ c ∈ cs, c = 0 ∨ c = 5) → Completes (.lsClearComplete dt obs) s (fun t =>
        (∀ n ∈ bitsOf mask, (t.ls n).latched = false ∧ (t.ls n).trips = 0 ∧ (t.ls n).cleared = true)
        ∧ t = ({ s.advance dt with loops := t.loops, sag := t.sag } : State).finish w .ok (lsCodes cs)))
      ∧ ((∃ c ∈ cs, 1 ≤ c ∧ c ≤ 3) → Completes (.lsClearComplete dt obs) s (fun t =>
        t = ((s.advance dt).each (List.range 16) (fun s n =>
          if cs.getD n 5 < 4 then s.lsTested n (cs.getD n 5) else s)).finish w .faultHeld (lsCodes cs)
        ∧ (∀ n < 16, 1 ≤ cs.getD n 5 → cs.getD n 5 ≤ 3 → (t.ls n).latched = true)
        ∧ t.host.outstanding = s.host.outstanding.filter (fun x => !w.same x) ∧ t.dev = s.dev)))
  ∧ (∀ (s : State) (dt d : Nat) (h : Hdr) (mask : BitVec 16) (obs : List (Option OffObs)) (w : Waiting), s.loops.ls.length = 16 →
      s.waitingFor 0x63 = some w → w.cmd = .lsDiagNow d h mask → let cs := (s.advance dt).lsTestCodes mask obs
      (∀ c ∈ cs, c = 0 ∨ 4 ≤ c) → Completes (.lsDiagNowComplete dt obs) s (fun t =>
        (∀ n < 16, cs.getD n 5 = 0 → (t.ls n).tested = some (s.advance dt).now)
        ∧ t = { s.advance dt with loops := t.loops, host := t.host, cnt := t.cnt }))

/-! ### Isolated field I/O -/

/-- The field link: a down frame each 100 us carries every pin's command and completes the FD_SETs that wait; a good one
puts them in force, a missed one is counted; an up frame carries the field side's state; three missed make the
inputs stale; silence, RESET and FORCE_SAFE put every output in its safe state, and a failed field clock puts it
off. That each down frame carries the modes of the pins, in force on receipt, is the model's choice (log 115).
Completing, under its hypotheses: downFrame, downFrameReceived, downFrameMissed, upFrame, fieldRxLost,
silenceTimeout, resetSymbol, forceSafeSymbol, fieldClockFail. -/
def Obligations.FieldLinkRows : Prop :=
  (∀ (s : State) (dt : Nat), s.islands = true → (s.advance dt).now % 25000 = 0 → s.dev.st ≠ .reset →
      Completes (.downFrame dt) s (fun t =>
        t.field = { s.field with
          frame := (List.range 32).map s.frameLevel, resume := s.field.resumeDue, resumeDue := false, inFlight := true
          frameModes := if s.cfg.firing = none ∧ s.dev.st ≠ .boot then some ((List.range 32).map (fun p => s.cfgN .fdMode p)) else none }
        ∧ (∀ w ∈ t.host.outstanding, w.op ≠ 0x70)
        ∧ t = { s.advance dt with field := t.field, host := t.host, cnt := t.cnt }))
  ∧ (∀ (s : State) (dt p : Nat), s.field.silent = false → p < s.field.pins.length →
      (s.field.inFlight = true → (s.advance dt).time.up < s.field.lastDown + s.field.timeout * 250000 →
        Completes (.downFrameReceived dt) s (fun t =>
          t.pin p = (match s.field.frame.getD p none with
            | some l => { s.pin p with out := l }
            | none => safeLevel (s.dev.fdSafe.getD p 0) (s.pin p))
          ∧ t.field.lastDown = (s.advance dt).time.up ∧ t.field.missedDown = 0 ∧ t.field.inFlight = false
          ∧ t.field.modes = s.field.frameModes.getD s.field.modes
          ∧ t = { s.advance dt with field := t.field }))
      ∧ (s.field.inFlight = false → Completes (.downFrameReceived dt) s (fun t => t = s.advance dt)))
  ∧ (∀ (s : State) (dt : Nat), Completes (.downFrameMissed dt) s (fun t =>
        t = { s.advance dt with
          field := { s.field with missedDown := s.field.missedDown + 1, good := 0, linkOk := false, inFlight := false } }))
  ∧ (∀ (s : State) (dt : Nat) (banks : List Nat), s.field.clockBad = false → Completes (.upFrame dt true banks) s (fun t =>
        t.field.missedUp = 0 ∧ t.field.stale = false ∧ t.field.hostSilent = s.field.silent
        ∧ t.field.resumeDue = (s.field.silent && s.field.linkOk) ∧ t.field.txLost = decide (3 ≤ s.field.missedDown)
        ∧ (∀ p < 32, p < s.field.pins.length → (s.pin p).fresh = true →
            (t.pin p).fresh = false ∧ (t.pin p).seen = (s.pin p).level ∧ (t.pin p).seenStamp = (s.pin p).stamp)
        ∧ (∀ p < 32, p < s.field.pins.length → (t.pin p).diag = [] ∧ (t.pin p).hLatched = (s.pin p).latched
            ∧ (t.pin p).hBroken = (s.pin p).broken ∧ (t.pin p).findings = satInc (s.pin p).findings (s.pin p).diag.length)
        ∧ t = { s.advance dt with field := t.field, host := t.host, cnt := t.cnt }))
  ∧ (∀ (s : State) (dt : Nat) (good : Bool) (banks : List Nat), good = false ∨ s.field.clockBad = true →
      Completes (.upFrame dt good banks) s (fun t =>
        t = { s.advance dt with field := { s.field with missedUp := s.field.missedUp + 1 } }))
  ∧ (∀ (s : State) (dt : Nat), 3 ≤ s.field.missedUp → s.field.stale = false → Completes (.fieldRxLost dt) s (fun t =>
        t.field = { s.field with stale := true } ∧ t = { s.advance dt with field := t.field, host := t.host, cnt := t.cnt }))
  ∧ (∀ (s : State) (dt : Nat), s.field.silent = false →
      s.field.lastDown + s.field.timeout * 250000 ≤ (s.advance dt).time.up → Completes (.silenceTimeout dt) s (fun t =>
        t.field.silent = true ∧ t.field.linkOk = false
        ∧ (∀ p < s.field.pins.length, t.pin p = safeLevel (s.dev.fdSafe.getD p 0) (s.pin p))
        ∧ t = { s.advance dt with field := t.field }))
  ∧ (∀ (s : State) (dt : Nat), s.dev.st = .reset → Completes (.resetSymbol dt) s (fun t =>
        (∀ p < s.field.pins.length, t.pin p = safeLevel (s.dev.fdSafe.getD p 0) (s.pin p)) ∧ t.field.inFlight = false
        ∧ t = { s.advance dt with field := t.field }))
  ∧ (∀ (s : State) (dt : Nat), s.sag.a.force = true ∨ s.sag.b.force = true → Completes (.forceSafeSymbol dt) s (fun t =>
        (∀ p < s.field.pins.length, t.pin p = safeLevel (s.dev.fdSafe.getD p 0) (s.pin p)) ∧ t.field.inFlight = false
        ∧ t = { s.advance dt with field := t.field }))
  ∧ (∀ (s : State) (dt : Nat), Completes (.fieldClockFail dt) s (fun t =>
        t.field.clockBad = true ∧ (∀ p < s.field.pins.length, t.pin p = { s.pin p with out := false })
        ∧ t = { s.advance dt with field := t.field }))

/-- Pins: a level that has lasted FD_FILTER is the pin's state; wire breaks, open loads and driven outputs are reported;
an overload latches the pin, and an overloaded bank the pin that carries most. Completing, under its hypotheses:
fdChange, wireBreak, fdOverload, bankOverload, fdOpenLoad, pinDriven. -/
def Obligations.PinRows : Prop :=
  (∀ (s : State) (dt p since : Nat) (l : Bool), p < 32 → p < s.field.pins.length → s.fdMode p ≠ 3 →
      since + s.cfgN .fdFilter p * 250 ≤ (s.advance dt).now → (s.pin p).level ≠ l → Completes (.fdChange dt p l since) s (fun t =>
        (t.pin p).level = l ∧ (t.pin p).stamp = since ∧ (t.pin p).fresh = true ∧ (t.pin p).out = (s.pin p).out
        ∧ (t.pin p).broken = ((s.pin p).broken && !l) ∧ (∀ q, q ≠ p → t.pin q = s.pin q)
        ∧ t = { s.advance dt with field := t.field }))
  ∧ (∀ (s : State) (dt p : Nat) (b : Bool), p < s.field.pins.length → s.fdIn p = true → s.cfgB .fdWb p = true →
      (b = true → (s.pin p).level = false) → (s.pin p).broken ≠ b → Completes (.wireBreak dt p b) s (fun t =>
        t.pin p = { s.pin p with broken := b, diag := (s.pin p).diag ++ [(if b then 0 else 1, false)] }
        ∧ t = { s.advance dt with field := t.field }))
  ∧ (∀ (s : State) (dt p : Nat), p < s.field.pins.length → s.fdDrive p = true →
      Completes (.fdOverload dt p) s (fun t =>
        t.pin p = { s.pin p with latched := true, kind := 2, diag := (s.pin p).diag ++ [(2, true)] } ∧ t.fdDrive p = false
        ∧ t = { s.advance dt with field := t.field })
      ∧ (∀ ma, 2000 < ma → Completes (.bankOverload dt (p / 8) p ma) s (fun t =>
        t.pin p = { s.pin p with latched := true, kind := 3, diag := (s.pin p).diag ++ [(3, true)] } ∧ t.fdDrive p = false
        ∧ t = { s.advance dt with field := t.field }))
      ∧ (s.cfgB .fdOl p = true → Completes (.fdOpenLoad dt p) s (fun t =>
        t.pin p = { s.pin p with diag := (s.pin p).diag ++ [(4, false)] } ∧ t.fdDrive p = true
        ∧ t = { s.advance dt with field := t.field, sag := t.sag })))
  ∧ (∀ (s : State) (dt p : Nat), p < s.field.pins.length → s.fdOut p = true → s.fdDrive p = false → (s.pin p).driven = false →
      Completes (.pinDriven dt p true) s (fun t =>
        t.pin p = { s.pin p with driven := true, diag := (s.pin p).diag ++ [(5, false)] }
        ∧ t = { s.advance dt with field := t.field }))
  ∧ (∀ (s : State) (dt p : Nat), p < s.field.pins.length → s.fdOut p = true → Completes (.pinDriven dt p false) s (fun t =>
        t.pin p = { s.pin p with driven := false } ∧ t = { s.advance dt with field := t.field }))

/-- Analog inputs and excitations: a reading is the mean of its samples, of a ratiometric input scaled by 5,000 mV over
V_SX, less the sensor's zero; validity changes are kept and reported; a 20 mA input loses its shunt for 100 ms; a
faulted excitation makes its ratiometric inputs invalid. That a reconnected shunt ends the disconnection is the
model's reading (log 58). Pulse inputs: a counted edge adds 1, is stamped, and gives the period; one of the other
kind moves the level alone, and a level shorter than PI_GLITCH nothing; a QUAD edge counts up or down and gives the
direction; a count waits for its MT; the frequency falls to 0 after PI_ZERO_T; an EXTEV edge is counted and stamped.
That the row stands at the end of the time the level has held, its stamp that time before, and the frequency of an
EXTEV are the model's (logs 111, 114). Completing, under its hypotheses: aiReading, aiValid, ma20ShuntDisconnect,
ma20ShuntReconnect, sxFault, sxRetry, piEdge, piZeroTimeout, piCountLoad, extevEdge. -/
def Obligations.AnalogPulseRows : Prop :=
  (∀ (s : State) (dt n vsx : Nat) (xs : List Int) (code : Word), n < 16 → n < s.field.ai.length → xs.length = s.cfgN .aiAvg n →
      s.islands = true → Completes (.aiReading dt n xs vsx code) s (fun t =>
        let mean : Rat := (xs.sum : Rat) / (xs.length : Rat)
        (s.ratioOf n = none → (t.ain n).reading = roundRat mean - s.flash.aiZero.getD n 0 ∧ t.free = s.free)
        ∧ (s.ratioOf n ≠ none → vsx ≠ 0 →
            (t.ain n).reading = roundRat (mean * 5000 / (vsx : Rat)) - s.flash.aiZero.getD n 0 ∧ t.free = s.free)
        ∧ (t.ain n).code = code ∧ (t.ain n).kind = (s.ain n).kind
        ∧ (t.ain n).mt = ((s.advance dt).now - 500) / 2500 * 2500 - (s.cfgN .aiAvg n - 1) * 1250
        ∧ t = { s.advance dt with field := t.field, free := t.free }))
  ∧ (∀ (s : State) (dt n : Nat), n < 16 → n < s.field.ai.length → s.islands = true → (s.ain n).shunt = none → s.ratioOf n = none →
      let now := (s.advance dt).now
      let a := s.ain n
      Completes (.aiValid dt n) s (fun t =>
        t.ain n = { a with kind := (t.ain n).kind }
        ∧ (a.above = true → a.aboveAt + 250000 ≤ now → (t.ain n).kind = 1)
        ∧ (a.above = false → a.kind ≠ 1 → a.open_ = true → a.openAt + 2500000 ≤ now → (t.ain n).kind = 2)
        ∧ (a.above = false → a.aboveAt + 2500000 ≤ now → a.open_ = false → a.openAt + 2500000 ≤ now → (t.ain n).kind = 0)
        ∧ t = { s.advance dt with field := t.field, host := t.host, cnt := t.cnt }))
  ∧ (∀ (s : State) (dt n : Nat), n < 16 → n < s.field.ai.length → s.cfgN .aiMode n = 3 → (s.ain n).shunt = none →
      Completes (.ma20ShuntDisconnect dt n) s (fun t =>
        t.ain n = { s.ain n with shunt := some ((s.advance dt).now + 25000000), kind := 1 }
        ∧ t = { s.advance dt with field := t.field, host := t.host, cnt := t.cnt }))
  ∧ (∀ (s : State) (dt n m : Nat), n < 16 → n < s.field.ai.length → (s.ain n).shunt = some m → m ≤ (s.advance dt).now →
      Completes (.ma20ShuntReconnect dt n) s (fun t =>
        t.ain n = { s.ain n with shunt := none, above := false, aboveAt := (s.advance dt).now }
        ∧ t = { s.advance dt with field := t.field }))
  ∧ (∀ (s : State) (dt : Nat) (b : Bool), s.field.sx.length = 2 → s.field.ai.length = 16 → s.sxGood (b2n b) = true →
      Completes (.sxFault dt b) s (fun t =>
        t.sxOut (b2n b) = { s.sxOut (b2n b) with fault := true, retry := false, at_ := (s.advance dt).now }
        ∧ (∀ n < 16, s.ratioOf n = some (b2n b) → (t.ain n).kind = 3)
        ∧ t = { s.advance dt with field := t.field, host := t.host, cnt := t.cnt }))
  ∧ (∀ (s : State) (dt : Nat) (b holds : Bool), s.field.sx.length = 2 → s.pwr.shed = false → (s.sxOut (b2n b)).on = true →
      (s.sxOut (b2n b)).fault = true → (s.sxOut (b2n b)).at_ + 25000000 ≤ (s.advance dt).now →
      Completes (.sxRetry dt b holds) s (fun t =>
        t.sxOut (b2n b) = (if (s.sxOut (b2n b)).retry = true ∧ holds = true then
            { s.sxOut (b2n b) with fault := false, retry := false, at_ := (s.advance dt).now }
          else { s.sxOut (b2n b) with retry := !(s.sxOut (b2n b)).retry && holds, at_ := (s.advance dt).now })
        ∧ t = { s.advance dt with field := t.field, host := t.host, cnt := t.cnt }))
  ∧ (∀ (s : State) (dt n held : Nat) (mv : Int) (level : Bool), n < 16 → s.field.pi.length = 16 → s.islands = true → s.piMode n ≠ 3 →
      s.piCompare n mv = level → (s.pin_ n).level ≠ level → s.cfgN .piGlitch n * 250 ≤ held → (s.pin_ n).load = none →
      (s.cfgN .piEdge n = 2 ∨ s.cfgN .piEdge n = (if level then 0 else 1)) → Completes (.piEdge dt n mv held) s (fun t =>
        (t.pin_ n).count = (s.pin_ n).count +
          (if ∃ m ∈ (s.pin_ n).loadedAt, (s.advance dt).now - held < m then 0 else 1)
        ∧ (t.pin_ n).level = level ∧ (t.pin_ n).zero = false
        ∧ (∀ m, (s.pin_ n).stamps.getLast? = some m → (t.pin_ n).period = (s.advance dt).now - held - m)
        ∧ (t.pin_ n).stamps.getLast? = some ((s.advance dt).now - held) ∧ (∀ j, j ≠ n → t.pin_ j = s.pin_ j)
        ∧ t = { s.advance dt with field := t.field }))
  ∧ (∀ (s : State) (dt n held : Nat) (mv : Int) (level : Bool), n < 16 → s.field.pi.length = 16 → s.islands = true → s.piMode n ≠ 3 →
      s.piCompare n mv = level → (s.pin_ n).level ≠ level → s.cfgN .piGlitch n * 250 ≤ held → (s.pin_ n).load = none →
      s.cfgN .piEdge n = (if level then 1 else 0) → Completes (.piEdge dt n mv held) s (fun t =>
        t.pin_ n = { s.pin_ n with level := level } ∧ (∀ j, j ≠ n → t.pin_ j = s.pin_ j)
        ∧ t = { s.advance dt with field := t.field }))
  ∧ (∀ (s : State) (dt n held : Nat) (mv : Int), held < s.cfgN .piGlitch n * 250 →
      Completes (.piEdge dt n mv held) s (fun t => t = s.advance dt))
  ∧ (∀ (s : State) (dt k held : Nat) (mv : Int) (b level : Bool), k < 8 → let n := 2 * k + b2n b
      s.field.pi.length = 16 → s.islands = true → s.piMode n = 3 → s.piCompare n mv = level → (s.pin_ n).level ≠ level →
      s.cfgN .piGlitch n * 250 ≤ held → (s.pin_ (2 * k)).load = none → (s.pin_ (2 * k + 1)).load = none →
      (∀ m, (s.pin_ (2 * k)).stamps.getLast? = some m → m + 500 < (s.advance dt).now - held) →
      (∀ m ∈ (s.pin_ (2 * k)).loadedAt, m ≤ (s.advance dt).now - held) →
      let up := if b then decide ((s.pin_ (2 * k)).level = level) else decide (level ≠ (s.pin_ (2 * k + 1)).level)
      Completes (.piEdge dt n mv held) s (fun t =>
        (t.pin_ (2 * k)).count = (s.pin_ (2 * k)).count + (if up then 1 else -1) ∧ (t.pin_ (2 * k)).rev = !up
        ∧ (t.pin_ n).level = level ∧ (t.pin_ (2 * k)).stamps.getLast? = some ((s.advance dt).now - held)
        ∧ (t.pin_ (2 * k)).quadErr = (s.pin_ (2 * k)).quadErr ∧ t = { s.advance dt with field := t.field }))
  ∧ (∀ (s : State) (dt n m : Nat), n < s.field.pi.length → (s.pin_ n).stamps.getLast? = some m →
      m + s.cfgN .piZeroT n * 250000 ≤ (s.advance dt).now → Completes (.piZeroTimeout dt n) s (fun t =>
        t.pin_ n = { s.pin_ n with zero := true, f := 0 } ∧ t.piFreq n = 0 ∧ t = { s.advance dt with field := t.field }))
  ∧ (∀ (s : State) (dt n m : Nat) (c : Word), n < s.field.pi.length → (s.pin_ n).load = some (c, m) → m ≤ (s.advance dt).now →
      Completes (.piCountLoad dt n) s (fun t =>
        t.pin_ n = { s.pin_ n with count := c, load := none, loadedAt := some m } ∧ t = { s.advance dt with field := t.field }))
  ∧ (∀ (s : State) (dt n : Nat), s.islands = true → n < s.field.extev.length → Completes (.extevEdge dt n) s (fun t =>
        (t.extevIn n).count = (s.extevIn n).count + 1 ∧ (t.extevIn n).stamps.getLast? = some (s.advance dt).now
        ∧ (∀ m, (s.extevIn n).stamps.getLast? = some m → (t.extevIn n).period = (s.advance dt).now - m)
        ∧ (∀ j, j ≠ n → t.extevIn j = s.extevIn j) ∧ t.field.pi = s.field.pi
        ∧ t = { s.advance dt with field := t.field }))

/-- The field commands: FD_SET stores its levels and waits for the next down frame; FD_CLEAR unlatches what is not
driven from outside, off until set again; PI_COUNT_SET loads at its MT; SX_SET switches an excitation. That FD_CLEAR
clears both sides of the link at once is the model's choice (log 115). Completing, under its hypotheses: fdSet,
fdClear, piCountSet, sxSet. -/
def Obligations.FieldCommands : Prop :=
  (∀ (s : State) (dt : Nat) (h : Hdr) (mask levels : Word), Takes s dt 0x70 h → (∀ p ∈ bitsOf mask, s.fdSetOut p = true) →
      Waits (.fdSet dt h mask levels) 0x70 h s false (fun t =>
        (∀ p ∈ bitsOf mask, p < s.field.pins.length → t.pin p = { s.pin p with cmd := levels.getLsbD p, cleared := false })
        ∧ (∀ p, p ∉ bitsOf mask → t.pin p = s.pin p)
        ∧ t = { s.advance dt with field := t.field, host := t.host }))
  ∧ (∀ (s : State) (dt : Nat) (h : Hdr) (mask : Word), Takes s dt 0x72 h →
      (∀ p ∈ bitsOf mask, p < s.field.pins.length ∧ ((s.pin p).latched = true → (s.pin p).driven = false)) →
      Answers (.fdClear dt h mask) 0x72 h s .ok 0 (fun v =>
        (∀ p ∈ bitsOf mask, (v.pin p).latched = false
          ∧ ((s.pin p).latched = true → (v.pin p).cleared = true ∧ (v.pin p).out = false))
        ∧ v = { (s.advance dt).taken with field := v.field, sag := v.sag }))
  ∧ (∀ (s : State) (dt n : Nat) (h : Hdr) (c : Word) (m : DWord), Takes s dt 0x75 h → n < 16 → n < s.field.pi.length →
      Answers (.piCountSet dt h n c m) 0x75 h s .ok 0 (fun v =>
        (m.toNat ≤ (s.advance dt).now → v.pin_ n = { s.pin_ n with count := c, load := none, loadedAt := some m.toNat })
        ∧ ((s.advance dt).now < m.toNat → v.pin_ n = { s.pin_ n with load := some (c, m.toNat) })
        ∧ v = { (s.advance dt).taken with field := v.field }))
  ∧ (∀ (s : State) (dt : Nat) (h : Hdr) (b on : Bool), Takes s dt 0x76 h → s.field.sx.length = 2 → s.field.ai.length = 16 →
      Answers (.sxSet dt h b on) 0x76 h s .ok 0 (fun v =>
        v.sxOut (b2n b) = { s.sxOut (b2n b) with
            on := on, fault := false, retry := false
            at_ := if on = true ∧ ((s.sxOut (b2n b)).on = false ∨ (s.sxOut (b2n b)).fault = true) then (s.advance dt).now else (s.sxOut (b2n b)).at_ }
        ∧ (on = false → ∀ n < 16, s.ratioOf n = some (b2n b) → (v.ain n).kind = 3)
        ∧ (on = true → v = { (s.advance dt).taken with field := v.field })))

/-! ### The CAN buses -/

/-- Receiving: a frame that a filter sends to a mail slot replaces the slot's content, or waits in its shadow while a
reader holds it, and counts; REC falls with a good frame and rises with an error; detection counts good frames and
moves on at an error; a session that times out is closed; integration ends. How long a reader holds a slot (log 120)
and what a detection delivers (log 113) are the model's choices. The state of a bus: line faults and their end, the
recovery from bus-off and its limit, the end of a rate detection, and a claim that stands after 250 ms. That held
frames follow a claim with its address is the model's choice (log 118). Completing, under its hypotheses:
canFrameReceived, canRxError, tpSessionTimeout, busIntegration, busFault, busStuck, busLineClear, busRecovered,
busRecoveryTimeout, rateDetectTimeout, addressClaimComplete. -/
def Obligations.CanReceiveRows : Prop :=
  (∀ (s : State) (dt b sof i : Nat) (f : CanFrame), b < 4 → s.can.bus.length = 4 → s.canLive = true →
      (s.busOf b).off = false → (s.busOf b).integrating = false → (f.fdf = true → (s.busOf b).fdEn = true) →
      (s.busOf b).listen = false → (s.busOf b).detect = none →
      (List.range 128).find? (fun i => (s.filtOf b i sof).frameMatch f) = some i → (s.filtOf b i sof).action = 2 →
      (s.filtOf b i sof).slot < (s.busOf b).slots.length → sof ≤ (s.advance dt).now →
      Completes (.canFrameReceived dt b sof f) s (fun t =>
        let m := (s.advance dt).mail b (s.filtOf b i sof).slot
        (t.busOf b).slots.getD (s.filtOf b i sof).slot {} =
          (if (s.advance dt).now < m.heldTo then { m with shadow := some (f, sof), count := m.count + 1 }
          else { m with frame := some f, sof := sof, count := m.count + 1 })
        ∧ (t.busOf b).rec_ = (if 127 < (s.busOf b).rec_ then 120 else (s.busOf b).rec_ - 1)
        ∧ t.dev = s.dev ∧ t.cfg = s.cfg ∧ t.valves = s.valves))
  ∧ (∀ (s : State) (dt b sof : Nat) (f : CanFrame) (d : Detect), b < 4 → s.can.bus.length = 4 → s.canLive = true →
      (s.busOf b).off = false → (s.busOf b).integrating = false → f.fdf = false → (s.busOf b).listen = true →
      (s.busOf b).detect = some d → d.nom = none → (d.good = 0 → Completes (.canFrameReceived dt b sof f) s (fun t =>
        (t.busOf b) = { s.busOf b with detect := some { d with good := 1 } } ∧ t = { s.advance dt with can := t.can }))
      ∧ (d.good = 1 → (s.busOf b).fdEn = true → Completes (.canFrameReceived dt b sof f) s (fun t =>
        (t.busOf b).nom = detNom.getD d.cand 1
        ∧ t = { s.advance dt with can := t.can, host := t.host, cnt := t.cnt })))
  ∧ (∀ (s : State) (dt b : Nat) (by8 : Bool), b < 4 → s.can.bus.length = 4 → s.canLive = true → (s.busOf b).off = false →
      (s.busOf b).integrating = false → (s.busOf b).listen = false → (s.busOf b).detect = none →
      Completes (.canRxError dt b by8) s (fun t =>
        t.busOf b = { s.busOf b with rec_ := (s.busOf b).rec_ + (if by8 then 8 else 1) }
        ∧ t = { s.advance dt with can := t.can, host := t.host, cnt := t.cnt }))
  ∧ (∀ (s : State) (dt b : Nat) (by8 : Bool) (d : Detect), b < 4 → s.can.bus.length = 4 → s.canLive = true →
      (s.busOf b).off = false → (s.busOf b).integrating = false → (s.busOf b).detect = some d → d.nom = none →
      Completes (.canRxError dt b by8) s (fun t =>
        t.busOf b = { s.busOf b with detect := some { d with cand := (d.cand + 1) % 4, good := 0 } }
        ∧ t = { s.advance dt with can := t.can }))
  ∧ (∀ (s : State) (dt b id : Nat) (u : RxSess), b < 4 → s.can.bus.length = 4 → s.canLive = true →
      (s.busOf b).rx.find? (fun r => r.id = id && decide (r.deadline ≤ (s.advance dt).now)) = some u →
      Completes (.tpSessionTimeout dt b false id) s (fun t =>
        (∀ x ∈ (t.busOf b).rx, x.id ≠ u.id) ∧ t = { s.advance dt with can := t.can, cnt := t.cnt }))
  ∧ (∀ (s : State) (dt b id : Nat) (u : TxSess), b < 4 → s.can.bus.length = 4 → s.canLive = true →
      (s.busOf b).tx.find? (fun t => t.id = id && (t.proto = 1 || t.proto = 2) && decide (t.deadline ≤ (s.advance dt).now)) = some u →
      Completes (.tpSessionTimeout dt b true id) s (fun t =>
        (∀ x ∈ (t.busOf b).tx, x.id ≠ u.id) ∧ t.dev = s.dev ∧ t.cfg = s.cfg))
  ∧ (∀ (s : State) (dt b : Nat), b < s.can.bus.length → Completes (.busIntegration dt b) s (fun t =>
        t.busOf b = { s.busOf b with integrating := false } ∧ t = { s.advance dt with can := t.can }))
  ∧ (∀ (s : State) (dt b : Nat), b < 4 → s.can.bus.length = 4 → s.canLive = true →
      ((s.busOf b).fault = false → Completes (.busFault dt b) s (fun t =>
        t.busOf b = { s.busOf b with fault := true } ∧ t = { s.advance dt with can := t.can, host := t.host, cnt := t.cnt }))
      ∧ ((s.busOf b).stuck = false → Completes (.busStuck dt b) s (fun t =>
        t.busOf b = { s.busOf b with stuck := true } ∧ t = { s.advance dt with can := t.can, host := t.host, cnt := t.cnt }))
      ∧ ((s.busOf b).fault = true ∨ (s.busOf b).stuck = true → Completes (.busLineClear dt b) s (fun t =>
        t.busOf b = { s.busOf b with fault := false, stuck := false }
        ∧ t = { s.advance dt with can := t.can, host := t.host, cnt := t.cnt })))
  ∧ (∀ (s : State) (dt b : Nat), b < 4 → s.can.bus.length = 4 → (s.busOf b).off = true → (s.busOf b).recov.isSome = true →
      Completes (.busRecovered dt b) s (fun t =>
        t.busOf b = { s.busOf b with off := false, recov := none, tec := 0, rec_ := 0, acks := 0 }
        ∧ (∀ w ∈ t.host.outstanding, ¬(w.op = 0x82 ∧ w.aux.headD 9 = b))
        ∧ t = { s.advance dt with can := t.can, host := t.host, cnt := t.cnt }))
  ∧ (∀ (s : State) (dt b m : Nat) (w : Waiting), s.host.outstanding = [w] → w.op = 0x82 → w.aux = [b, m] →
      m + 250000000 ≤ (s.advance dt).now → Completes (.busRecoveryTimeout dt b) s (fun t =>
        t = (s.advance dt).finish w .timeout 0 ∧ t.host.outstanding = []))
  ∧ (∀ (s : State) (dt b : Nat) (d : Detect), b < 4 → s.can.bus.length = 4 → (s.busOf b).detect = some d →
      d.deadline ≤ (s.advance dt).now → Completes (.rateDetectTimeout dt b) s (fun t =>
        t.busOf b = { s.busOf b with detect := none } ∧ t = { s.advance dt with can := t.can, host := t.host, cnt := t.cnt }))
  ∧ (∀ (s : State) (dt b a m : Nat), b < 4 → s.can.bus.length = 4 → (s.busOf b).claim = some (a, some m) →
      m ≤ (s.advance dt).now → Completes (.addressClaimComplete dt b) s (fun t =>
        (t.busOf b).addr = some a ∧ (t.busOf b).claim = none ∧ (t.busOf b).held = []
        ∧ ((s.busOf b).wait = [] → (s.busOf b).tx = [] → (s.busOf b).fifo.length + (s.busOf b).held.length ≤ 64 →
            t.busOf b = { s.busOf b with
              addr := some a, claim := none, held := []
              fifo := (s.busOf b).fifo ++ (s.busOf b).held.map (fun e =>
                { kind := e.kind, frame := { e.frame with id := BitVec.ofNat 29 (e.frame.id.toNat / 256 * 256 + a % 256) } }) })
        ∧ (∀ w ∈ t.host.outstanding, ¬(w.op = 0x87 ∧ w.aux.headD 9 = b))
        ∧ t = { s.advance dt with can := t.can, host := t.host, cnt := t.cnt }))

/-- Transmitting: the head frame sent lowers TEC and leaves the FIFO; an attempt without success counts and stays
pending; errors raise TEC, to bus-off beyond 255, and the sixteenth missing acknowledgement is ALONE. The bytes of
transport-protocol frames are those of ISO 11783-3 and J1939-21 (log 41). Completing, under its hypotheses:
canTxSuccess, canArbitrationLost, canTxError, periodicFrame, syncFrame, txSessionOpen, bamPacket. -/
def Obligations.CanTransmitRows : Prop :=
  (∀ (s : State) (dt b sof : Nat) (e : TxEnt), b < 4 → s.can.bus.length = 4 → s.contender b = some e →
      Completes (.canTxSuccess dt b sof) s (fun t =>
        (t.busOf b).tec = (if (s.busOf b).listen = true then (s.busOf b).tec else (s.busOf b).tec - 1) ∧ (t.busOf b).acks = 0 ∧ (t.busOf b).alone = false
        ∧ ((s.busOf b).tx = [] → (s.busOf b).wait = [] → (∀ q, e.kind ≠ .sync q) → (t.busOf b).fifo = (s.busOf b).fifo.drop 1)
        ∧ t.dev = s.dev ∧ t.cfg = s.cfg))
  ∧ (∀ (s : State) (dt b sof : Nat) (e : TxEnt), b < 4 → s.can.bus.length = 4 → s.contender b = some e → e.leave = 0 →
      e.kind ≠ .claim →
      Completes (.canArbitrationLost dt b sof) s (fun t =>
        t.busOf b = { s.busOf b with fifo := { e with attempts := min 255 (e.attempts + 1) } :: (s.busOf b).fifo.drop 1 }
        ∧ t = { s.advance dt with can := t.can, cnt := t.cnt })
      ∧ ((s.busOf b).listen = false → Completes (.canTxError dt b sof .flagged) s (fun t =>
        (t.busOf b).tec = (s.busOf b).tec + 8 ∧ (t.busOf b).off = decide (255 < (s.busOf b).tec + 8) ∧ (t.busOf b).acks = 0
        ∧ (t.busOf b).fifo = { e with attempts := min 255 (e.attempts + 1) } :: (s.busOf b).fifo.drop 1
        ∧ t = { s.advance dt with can := t.can, host := t.host, cnt := t.cnt }))
      ∧ (∀ dom : Bool, (s.busOf b).listen = false → Completes (.canTxError dt b sof (.noAck dom)) s (fun t =>
        (t.busOf b).tec = (if (s.busOf b).errState = 2 ∧ dom = false then (s.busOf b).tec else (s.busOf b).tec + 8)
        ∧ (t.busOf b).acks = (s.busOf b).acks + 1
        ∧ (t.busOf b).alone = ((s.busOf b).alone || decide (15 ≤ (s.busOf b).acks))
        ∧ t = { s.advance dt with can := t.can, host := t.host, cnt := t.cnt })))
  ∧ (∀ (s : State) (dt n : Nat), n < 32 → s.can.bus.length = 4 → 0 ≤ s.cfgI .txfBus n → s.cfgN .txfBus n < 4 →
      0 ≤ s.cfgI .txfId n → s.canLive = true → (s.advance dt).now % (s.cfgN .txfPeriod n * 250000) = 0 →
      s.dev.st.operating = true → s.cfg.firing = none → s.cfgB .txfSaAuto n = false →
      let b := s.cfgN .txfBus n
      (s.busOf b).listen = false → (s.busOf b).fifo.length < 64 → (∀ e ∈ (s.busOf b).fifo, e.kind ≠ .txf n) →
      Completes (.periodicFrame dt n) s (fun t =>
        (∃ e, (t.busOf b).fifo = (s.busOf b).fifo ++ [e] ∧ e.kind = .txf n ∧ e.attempts = 0
          ∧ e.frame.id = BitVec.ofNat 29 (s.cfgN .txfId n) ∧ e.frame.ide = s.cfgB .txfIde n)
        ∧ t = { s.advance dt with can := t.can }))
  ∧ (∀ (s : State) (dt b : Nat), b < 4 → s.can.bus.length = 4 → s.cfgN .timeRole b = 1 → 0 ≤ s.cfgI .timeId b →
      s.canLive = true → (s.advance dt).now % (s.cfgN .timePeriod b * 250000) = 0 → s.time.ftValid = true →
      s.dev.st = .standby → (s.busOf b).listen = false → (s.busOf b).fifo.length < 64 →
      (∀ e ∈ (s.busOf b).fifo, e.kind.isSync = false) → Completes (.syncFrame dt b) s (fun t =>
        (t.busOf b).fifo = (s.busOf b).fifo ++
          [{ kind := .sync (s.busOf b).timeSeq, frame := extFrame (s.cfgN .timeId b) (leBytes 8 (1 + (s.busOf b).timeSeq * 16)) }]
        ∧ (t.busOf b).timeSeq = ((s.busOf b).timeSeq + 1) % 16 ∧ t = { s.advance dt with can := t.can }))
  ∧ (∀ (s : State) (dt b len : Nat) (e : TxEnt) (rest : List TxEnt) (idx : Word) (tag : BitVec 16) (pgn prio da : Nat)
      (a : DWord), b < 4 → s.can.bus.length = 4 → s.canLive = true → (s.busOf b).sends = true → (s.busOf b).tx.length < 8 →
      (s.busOf b).fifo = e :: rest → e.kind = .msg idx tag pgn prio da len a →
      ((s.busOf b).addr = none → (s.busOf b).tx = [] → (s.busOf b).wait = [] →
        Completes (.txSessionOpen dt b none) s (fun t => (t.busOf b).fifo = rest ∧ (t.busOf b).tx = [] ∧ t.dev = s.dev))
      ∧ (∀ sa bs, (s.busOf b).addr = some sa → s.dmaOk = true → Completes (.txSessionOpen dt b (some bs)) s (fun t =>
        (t.busOf b).nextId = (s.busOf b).nextId + 1
        ∧ (∃ u ∈ (t.busOf b).tx, u.id = (s.busOf b).nextId ∧ u.idx = idx ∧ u.tag = tag ∧ u.pgn = pgn ∧ u.prio = prio ∧ u.da = da
            ∧ u.data = slice bs 0 len ∧ u.proto = (if len ≤ 8 then 3 else if len ≤ 1785 then (if da = 255 then 0 else 1) else 2))
        ∧ t.dev = s.dev ∧ t.cfg = s.cfg)))
  ∧ (∀ (s : State) (dt b id : Nat) (u : TxSess), b < 4 → s.can.bus.length = 4 → (s.busOf b).tx = [u] → u.id = id → u.proto = 0 →
      u.nextAt ≤ (s.advance dt).now → u.sent < packets u.data.length → (s.busOf b).fifo.length < 64 → (s.busOf b).claim = none →
      Completes (.bamPacket dt b id) s (fun t =>
        (t.busOf b).tx = [{ u with sent := u.sent + 1, granted := 0, nextAt := (s.advance dt).now + s.cfgN .bamGap b * 250000 }]
        ∧ (∃ e, (t.busOf b).fifo = (s.busOf b).fifo ++ [e] ∧ e.kind = .session id
            ∧ e.frame = extFrame (isoId u.prio tpDt u.da (s.busOf b).sa) (dtBytes (u.sent - u.offset + 1) u.data u.sent))
        ∧ t = { s.advance dt with can := t.can }))

/-- The CAN commands: a pending frame is cancelled, a started one leaves when its attempt ends; a recovery is asked for
and waits; a mode is put in force, clamped; a detection runs in LISTEN until its deadline; filters wait for their
buffer; a claim starts and waits. Whether a frame has been started (log 63), the clamp of ISO_CLAIM's address and
the loss of an address in LISTEN (log 62) are the model's. Completing, under its hypotheses: canTxCancel,
canBusRecover, canMode, canRateDetect, canFilterSet, isoClaim. -/
def Obligations.CanCommands : Prop :=
  (∀ (s : State) (dt b i : Nat) (h : Hdr) (tag : BitVec 16) (started : Bool), Takes s dt 0x81 h → b < 4 → s.can.bus.length = 4 →
      (s.busOf b).tx = [] → (s.busOf b).wait = [] → (s.busOf b).fifo.findIdx? (fun e => e.tag? = some tag) = some i →
      ((i = 0 → started = false) → Answers (.canTxCancel dt h b tag started) 0x81 h s .ok 0 (fun v =>
        (v.busOf b).fifo = (s.busOf b).fifo.eraseIdx i ∧ v = { (s.advance dt).taken with can := v.can, host := v.host }))
      ∧ (i = 0 → started = true → (s.contender b).isSome = true →
        Answers (.canTxCancel dt h b tag started) 0x81 h s .started 0 (fun v =>
          (v.busOf b).fifo = (s.busOf b).fifo.modify 0 (fun e => { e with leave := 1 })
          ∧ v = { (s.advance dt).taken with can := v.can })))
  ∧ (∀ (s : State) (dt b : Nat) (h : Hdr), Takes s dt 0x82 h → b < 4 → s.can.bus.length = 4 → (s.busOf b).off = true →
      Waits (.canBusRecover dt h b) 0x82 h s false (fun t =>
        (t.busOf b).recov = some ((s.busOf b).recov.getD (s.advance dt).now)
        ∧ t = { s.advance dt with can := t.can, host := t.host }))
  ∧ (∀ (s : State) (dt b : Nat) (h : Hdr) (listen fd : Bool) (nom data : Nat), Takes s dt 0x83 h → b < 4 → s.can.bus.length = 4 →
      (s.busOf b).detect = none → Answers (.canMode dt h b listen fd nom data) 0x83 h s (okOr (decide (3 < nom ∨ 2 < data))) 0
        (fun v => (v.busOf b).listen = listen ∧ (v.busOf b).fdEn = fd ∧ (v.busOf b).nom = min 3 nom
          ∧ (v.busOf b).data = min 2 data ∧ (v.busOf b).integrating = true
          ∧ (listen = true → (s.busOf b).listen = false → (v.busOf b).addr = none ∧ (v.busOf b).tx = [])
          ∧ v.dev = s.dev ∧ v.cfg = s.cfg))
  ∧ (∀ (s : State) (dt b ms : Nat) (h : Hdr), Takes s dt 0x84 h → b < 4 → s.can.bus.length = 4 → (s.busOf b).listen = true →
      (s.busOf b).detect = none → Waits (.canRateDetect dt h b ms) 0x84 h s false (fun t =>
        t.busOf b = { s.busOf b with
          detect := some { deadline := (s.advance dt).now + max 100 (min 60000 ms) * 250000 } }
        ∧ t = { s.advance dt with can := t.can, host := t.host }))
  ∧ (∀ (s : State) (dt b n : Nat) (h : Hdr) (a : DWord), Takes s dt 0x86 h → b < 4 →
      Waits (.canFilterSet dt h b n a) 0x86 h s true (fun t => HostOnly (s.advance dt) t))
  ∧ (∀ (s : State) (dt b : Nat) (h : Hdr) (a : Byte), Takes s dt 0x87 h → b < 4 → s.can.bus.length = 4 → s.isoOn b = true →
      Waits (.isoClaim dt h b a) 0x87 h s false (fun t =>
        (t.busOf b).addr = none ∧ (t.busOf b).claim = some (min 253 a.toNat, none) ∧ (t.busOf b).cannot = false
        ∧ t = { s.advance dt with can := t.can, host := t.host, free := t.free, cnt := t.cnt }))

/-! ### What the variant lacks, and defaults -/

/-- On the SD9648, a command that names a valve channel, group, sequencer or drive quadrant absent from it completes
NO_RESOURCE and has no effect; the mask of a valve sweep stands in its parameter block, and is judged once that has
been read. Completing, under its hypotheses: hostBufferRead. Stated: R3. -/
def Obligations.AbsentOnVariant : Prop :=
  ∀ (s : State) (dt : Nat) (h : Hdr), s.dev.variant ≠ 0 →
    let refused := fun (c : Instr) (op : Byte) => Takes s dt op h →
      Answers c op h s .noResource 0 (fun v => v = (s.advance dt).taken)
    (∀ (rep : Ref) (mask : BitVec 96), (∃ ch ∈ bitsOf mask, 48 ≤ ch) →
      refused (.planStatus dt h rep mask) 0x28 ∧ refused (.seqStatus dt h rep mask) 0x44
      ∧ refused (.valveDelayReset dt h mask) 0x42 ∧ ∀ quads, refused (.valveStatus dt h rep mask quads) 0x40)
    ∧ (∀ (rep : Ref) (mask : BitVec 96) (quads : BitVec 4), (∃ q ∈ bitsOf quads, 2 ≤ q) →
      refused (.valveStatus dt h rep mask quads) 0x40)
    ∧ (∀ (g : Nat) (mask : BitVec 8), 6 ≤ g →
      refused (.valveClear dt h g mask) 0x41 ∧ refused (.valveDiagNow dt h g mask) 0x43
      ∧ (∀ which en ks, refused (.seqSetK dt h g mask which en ks) 0x46)
      ∧ ∀ addr headers first words, refused (.seqRead dt h addr g headers first words) 0x45)
    ∧ (∀ (i k : Nat) (bs : List Byte) (w : Waiting) (a : Activity) (d loop : Nat) (param : Ref) (result : DWord) (act : Byte),
      w.cmd = .maintStart d h param result act loop → w.op = 0x14 → w.dma = true →
      s.host.outstanding = [w] → w.idx.toNat = i → s.acts = [a] → a.idx = w.idx → a.code = 1 → a.ready = false → a.swept = [] →
      48 ≤ k → k < 96 → (leAt bs 0 12).testBit k = true → Completes (.hostBufferRead dt i (some bs)) s (fun t =>
        t = ({ s.advance dt with acts := [] } : State).finish w .noResource 0))

/-- Where no image sets it, the preferred ISO 11783 address of BUS0 is 0x80 plus the level index of ST6, 0x80 to 0x87.
Stated: R471. -/
def Obligations.PreferredAddress : Prop :=
  ∀ s : State, s.cfg.vals.get? .prefAddr 0 = none → s.cfgN .prefAddr 0 = 0x80 + s.dev.straps.getD 6 7
    ∧ (s.dev.straps.getD 6 7 ≤ 7 → 0x80 ≤ s.cfgN .prefAddr 0 ∧ s.cfgN .prefAddr 0 ≤ 0x87)

/-! ### Rules of the whole machine -/

/-- Every row of the table completes: it answers a next state from every state and on every operand, and leaves the
queue of waiting commands as it is. -/
def Obligations.EveryRowCompletes : Prop :=
  ∀ (c : Instr) (s : State), Completes c s (fun t => t.pending = s.pending)

/-- The device state moves only along the arrows of the table of transitions, from every state in which a grace runs
only in PARKED, WORKING or MANUAL: along one of them by every row but DESCRIPTOR_FETCH, and by that row along one
where a grace has run out, and then along at most one with each command that the descriptors spell. Completing,
under its hypotheses: descriptorFetch. -/
def Obligations.TransitionTable : Prop :=
  (∀ (c : Instr) (s t : State), s.graceOk → (∀ dt d, c ≠ .descriptorFetch dt d) → exec c s = .next t →
      t.dev.st = s.dev.st ∨ s.dev.st.moves t.dev.st = true)
  ∧ (∀ (s t : State) (dt : Nat) (f : Fetch), s.graceOk → exec (.descriptorFetch dt f) s = .next t →
      ∃ u v, (u.dev = s.dev ∨ s.dev.grace.isSome = true ∧ s.dev.st.active = true ∧ u.dev.st = .safe)
        ∧ Relation.ReflTransGen (Ran f.cmds) u v ∧ t.dev = v.dev)

/-- A grace runs only in PARKED, WORKING or MANUAL: every step keeps it so. -/
def Obligations.GraceKept : Prop :=
  ∀ s t : State, s.graceOk → step s = .next t → t.graceOk

/-- Tile SRAM keeps its canonical form: rising addresses, and no byte listed that equals what an unlisted address reads
as. -/
def Obligations.TileMemoryKept : Prop :=
  ∀ s t : State, Memory.wf s.tiles.mem = true → step s = .next t → Memory.wf t.tiles.mem = true

/-- A counter never falls, but by a reset: whatever row runs, each counter of R395 is at least what it was, unless the
row has put the module into RESET. -/
def Obligations.CountersNeverFall : Prop :=
  ∀ (c : Instr) (s t : State), exec c s = .next t → t.dev.st ≠ .reset →
    ∀ i, (s.cnt.getD i 0).toNat ≤ (t.cnt.getD i 0).toNat

/-- A row that takes the module into FAULT leaves every valve off: no group has a rail, a claim or an edge in hand, and
no boost runs. -/
def Obligations.FaultSafesOutputs : Prop :=
  ∀ (c : Instr) (s t : State), exec c s = .next t → s.dev.st ≠ .fault → t.dev.st = .fault → t.valvesOff

/-- A command whose opcode is assigned, and which the device state, a grace or the write-protect does not admit, is
taken and completes WRONG_STATE without any other effect; so does a MAINT_START of an activity that the device state
does not admit. Completing, under its hypotheses: maintStart. -/
def Obligations.WrongStateAnswered : Prop :=
  (∀ (s : State) (d : Desc), s.graceLasts 0 → s.canTake (cmdHdr d).fence = true → assigned (cmdField d 0 8) = true →
      s.admits (cmdField d 0 8) = false →
      Answers (decodeCmd d) (cmdBits d 0 8) (cmdHdr d) s .wrongState 0 (fun v => v = (s.advance 0).taken))
  ∧ (∀ (s : State) (dt loop : Nat) (h : Hdr) (param : Ref) (result : DWord) (act : Byte), Takes s dt 0x14 h → 1 ≤ act.toNat →
      act.toNat ≤ 6 → s.dev.st.admitsAct act.toNat = false →
      Answers (.maintStart dt h param result act loop) 0x14 h s .wrongState 0 (fun v => v = (s.advance dt).taken))

/-- A completion is one CPL record: where CPL is served, its descriptor's second to eighth words are written to the slot
of the module's index, at RING_BASE + 32 times the index modulo the ring's size, then its first word, with the
opcode, the tag and the flags; the module's index rises by one. -/
def Obligations.CompletionRecord : Prop :=
  ∀ (s : State) (op : Byte) (h : Hdr) (idx : Word) (st : Status) (res : BitVec 128), s.served 1 = true → 1 < s.host.rings.length →
    let t := s.complete op h idx st res
    let a : DWord := (s.ring 1).base + BitVec.ofNat 64 (32 * ((s.ring 1).mod.toNat % 2 ^ (s.ring 1).log2))
    let d : Desc := res ++ BitVec.ofNat 64 s.now ++ idx.setWidth 16 ++ (0 : Byte) ++ BitVec.ofNat 8 st.code ++ (0 : Word)
    let w : Word := h.tag ++ BitVec.ofNat 8 ((s.ring 1).flags h.irq) ++ op
    (t.ring 1).mod = (s.ring 1).mod + 1 ∧ t = { s with host := t.host }
      ∧ ∃ rest, t.host.out = s.host.out ++ [.body 1 (s.ring 1).mod [(a, d)], .head 1 (s.ring 1).mod a w] ++ rest

/-! ### Encodings -/

/-- Every instruction of the valve sequencer decodes from its word as it was encoded, with every operand; and a word
that decodes gives a well-formed instruction, whose own word decodes to it. Every command that a CMD descriptor
spells is well formed. -/
def Obligations.EncodingsAgree : Prop :=
  (∀ i : SeqInstr, i.wf = true → decodeSeq (encodeSeq i) = some i)
    ∧ (∀ (w : BitVec 24) (i : SeqInstr), decodeSeq w = some i → i.wf = true ∧ decodeSeq (encodeSeq i) = some i)
  ∧ (∀ d : Desc, (decodeCmd d).wf = true)

/-- Words written out from the tables of encodings decode to what they stand for: valve-sequencer words, reserved ones
among them, and CMD descriptors. -/
def Obligations.DecodedWords : Prop :=
  decodeSeq 0b0000_10_000000000000000000 = some (.src 2)
    ∧ decodeSeq 0b0001_01_10_1_000_000000000011 = some (.itgt 1 2 true 3)
    ∧ decodeSeq 0b0010_1_0_000101_000011111010 = some (.waiti true false 5 250)
    ∧ decodeSeq 0b0011_10_000000000000000111 = some (.waitt 2 7)
    ∧ decodeSeq 0b1000_0101_0000000_000010001 = some (.jc 5 17)
    ∧ decodeSeq 0b1001_11_1_00000000_000000101 = some (.loop 3 true 5)
    ∧ decodeSeq 0b1010_00000000000000000000 = some .holdw
    ∧ decodeSeq 0b1100_00000000000000000000 = none ∧ decodeSeq 0b0000_11_000000000000000000 = none
    ∧ decodeSeq 0b1000_1001_0000000_000000000 = none
    ∧ decodeCmd 0x00000009_00000001_00070201 = .bind 0 { tag := 7, irq := true } true 9
    ∧ decodeCmd 0x00010000_00000003_00090153 = .loopSetpoint 0 { tag := 9, fence := true } 3 0x10000
    ∧ decodeCmd 0x0005000E = .unknownOpcode 0 { tag := 5 } 0x0E
end

