-- ==== Sys2Proof/Laws/State.lean ====
section
/-! SUPPORT. What the plain updates of State change: one lemma per update, every field that it leaves alone, and one
for the field that it changes. -/

set_option Elab.async false

namespace Sys2Proof.Machine

/-! ### Choosing between two states -/

@[simp] theorem State.ite_pending (c : Prop) [Decidable c] (a b : State) :
    (if c then a else b).pending = if c then a.pending else b.pending := by split <;> rfl
@[simp] theorem State.ite_free (c : Prop) [Decidable c] (a b : State) :
    (if c then a else b).free = if c then a.free else b.free := by split <;> rfl
@[simp] theorem State.ite_time (c : Prop) [Decidable c] (a b : State) :
    (if c then a else b).time = if c then a.time else b.time := by split <;> rfl
@[simp] theorem State.ite_dev (c : Prop) [Decidable c] (a b : State) :
    (if c then a else b).dev = if c then a.dev else b.dev := by split <;> rfl
@[simp] theorem State.ite_pwr (c : Prop) [Decidable c] (a b : State) :
    (if c then a else b).pwr = if c then a.pwr else b.pwr := by split <;> rfl
@[simp] theorem State.ite_sag (c : Prop) [Decidable c] (a b : State) :
    (if c then a else b).sag = if c then a.sag else b.sag := by split <;> rfl
@[simp] theorem State.ite_host (c : Prop) [Decidable c] (a b : State) :
    (if c then a else b).host = if c then a.host else b.host := by split <;> rfl
@[simp] theorem State.ite_cfg (c : Prop) [Decidable c] (a b : State) :
    (if c then a else b).cfg = if c then a.cfg else b.cfg := by split <;> rfl
@[simp] theorem State.ite_flash (c : Prop) [Decidable c] (a b : State) :
    (if c then a else b).flash = if c then a.flash else b.flash := by split <;> rfl
@[simp] theorem State.ite_acts (c : Prop) [Decidable c] (a b : State) :
    (if c then a else b).acts = if c then a.acts else b.acts := by split <;> rfl
@[simp] theorem State.ite_cnt (c : Prop) [Decidable c] (a b : State) :
    (if c then a else b).cnt = if c then a.cnt else b.cnt := by split <;> rfl
@[simp] theorem State.ite_valves (c : Prop) [Decidable c] (a b : State) :
    (if c then a else b).valves = if c then a.valves else b.valves := by split <;> rfl
@[simp] theorem State.ite_tiles (c : Prop) [Decidable c] (a b : State) :
    (if c then a else b).tiles = if c then a.tiles else b.tiles := by split <;> rfl
@[simp] theorem State.ite_planner (c : Prop) [Decidable c] (a b : State) :
    (if c then a else b).planner = if c then a.planner else b.planner := by split <;> rfl
@[simp] theorem State.ite_nav (c : Prop) [Decidable c] (a b : State) :
    (if c then a else b).nav = if c then a.nav else b.nav := by split <;> rfl
@[simp] theorem State.ite_loops (c : Prop) [Decidable c] (a b : State) :
    (if c then a else b).loops = if c then a.loops else b.loops := by split <;> rfl
@[simp] theorem State.ite_field (c : Prop) [Decidable c] (a b : State) :
    (if c then a else b).field = if c then a.field else b.field := by split <;> rfl
@[simp] theorem State.ite_can (c : Prop) [Decidable c] (a b : State) :
    (if c then a else b).can = if c then a.can else b.can := by split <;> rfl

/-! ### Doing something for each of a list -/

@[simp] theorem State.each_pending {α : Type} (s : State) (xs : List α) (f : State → α → State)
    (h : ∀ s x, (f s x).pending = s.pending) : (s.each xs f).pending = s.pending := by
  unfold State.each
  induction xs generalizing s with
  | nil => rfl
  | cons x xs ih => rw [List.foldl_cons, ih, h]
@[simp] theorem State.each_free {α : Type} (s : State) (xs : List α) (f : State → α → State)
    (h : ∀ s x, (f s x).free = s.free) : (s.each xs f).free = s.free := by
  unfold State.each
  induction xs generalizing s with
  | nil => rfl
  | cons x xs ih => rw [List.foldl_cons, ih, h]
@[simp] theorem State.each_time {α : Type} (s : State) (xs : List α) (f : State → α → State)
    (h : ∀ s x, (f s x).time = s.time) : (s.each xs f).time = s.time := by
  unfold State.each
  induction xs generalizing s with
  | nil => rfl
  | cons x xs ih => rw [List.foldl_cons, ih, h]
@[simp] theorem State.each_dev {α : Type} (s : State) (xs : List α) (f : State → α → State)
    (h : ∀ s x, (f s x).dev = s.dev) : (s.each xs f).dev = s.dev := by
  unfold State.each
  induction xs generalizing s with
  | nil => rfl
  | cons x xs ih => rw [List.foldl_cons, ih, h]
@[simp] theorem State.each_pwr {α : Type} (s : State) (xs : List α) (f : State → α → State)
    (h : ∀ s x, (f s x).pwr = s.pwr) : (s.each xs f).pwr = s.pwr := by
  unfold State.each
  induction xs generalizing s with
  | nil => rfl
  | cons x xs ih => rw [List.foldl_cons, ih, h]
@[simp] theorem State.each_sag {α : Type} (s : State) (xs : List α) (f : State → α → State)
    (h : ∀ s x, (f s x).sag = s.sag) : (s.each xs f).sag = s.sag := by
  unfold State.each
  induction xs generalizing s with
  | nil => rfl
  | cons x xs ih => rw [List.foldl_cons, ih, h]
@[simp] theorem State.each_host {α : Type} (s : State) (xs : List α) (f : State → α → State)
    (h : ∀ s x, (f s x).host = s.host) : (s.each xs f).host = s.host := by
  unfold State.each
  induction xs generalizing s with
  | nil => rfl
  | cons x xs ih => rw [List.foldl_cons, ih, h]
@[simp] theorem State.each_cfg {α : Type} (s : State) (xs : List α) (f : State → α → State)
    (h : ∀ s x, (f s x).cfg = s.cfg) : (s.each xs f).cfg = s.cfg := by
  unfold State.each
  induction xs generalizing s with
  | nil => rfl
  | cons x xs ih => rw [List.foldl_cons, ih, h]
@[simp] theorem State.each_flash {α : Type} (s : State) (xs : List α) (f : State → α → State)
    (h : ∀ s x, (f s x).flash = s.flash) : (s.each xs f).flash = s.flash := by
  unfold State.each
  induction xs generalizing s with
  | nil => rfl
  | cons x xs ih => rw [List.foldl_cons, ih, h]
@[simp] theorem State.each_acts {α : Type} (s : State) (xs : List α) (f : State → α → State)
    (h : ∀ s x, (f s x).acts = s.acts) : (s.each xs f).acts = s.acts := by
  unfold State.each
  induction xs generalizing s with
  | nil => rfl
  | cons x xs ih => rw [List.foldl_cons, ih, h]
@[simp] theorem State.each_cnt {α : Type} (s : State) (xs : List α) (f : State → α → State)
    (h : ∀ s x, (f s x).cnt = s.cnt) : (s.each xs f).cnt = s.cnt := by
  unfold State.each
  induction xs generalizing s with
  | nil => rfl
  | cons x xs ih => rw [List.foldl_cons, ih, h]
@[simp] theorem State.each_valves {α : Type} (s : State) (xs : List α) (f : State → α → State)
    (h : ∀ s x, (f s x).valves = s.valves) : (s.each xs f).valves = s.valves := by
  unfold State.each
  induction xs generalizing s with
  | nil => rfl
  | cons x xs ih => rw [List.foldl_cons, ih, h]
@[simp] theorem State.each_tiles {α : Type} (s : State) (xs : List α) (f : State → α → State)
    (h : ∀ s x, (f s x).tiles = s.tiles) : (s.each xs f).tiles = s.tiles := by
  unfold State.each
  induction xs generalizing s with
  | nil => rfl
  | cons x xs ih => rw [List.foldl_cons, ih, h]
@[simp] theorem State.each_planner {α : Type} (s : State) (xs : List α) (f : State → α → State)
    (h : ∀ s x, (f s x).planner = s.planner) : (s.each xs f).planner = s.planner := by
  unfold State.each
  induction xs generalizing s with
  | nil => rfl
  | cons x xs ih => rw [List.foldl_cons, ih, h]
@[simp] theorem State.each_nav {α : Type} (s : State) (xs : List α) (f : State → α → State)
    (h : ∀ s x, (f s x).nav = s.nav) : (s.each xs f).nav = s.nav := by
  unfold State.each
  induction xs generalizing s with
  | nil => rfl
  | cons x xs ih => rw [List.foldl_cons, ih, h]
@[simp] theorem State.each_loops {α : Type} (s : State) (xs : List α) (f : State → α → State)
    (h : ∀ s x, (f s x).loops = s.loops) : (s.each xs f).loops = s.loops := by
  unfold State.each
  induction xs generalizing s with
  | nil => rfl
  | cons x xs ih => rw [List.foldl_cons, ih, h]
@[simp] theorem State.each_field {α : Type} (s : State) (xs : List α) (f : State → α → State)
    (h : ∀ s x, (f s x).field = s.field) : (s.each xs f).field = s.field := by
  unfold State.each
  induction xs generalizing s with
  | nil => rfl
  | cons x xs ih => rw [List.foldl_cons, ih, h]
@[simp] theorem State.each_can {α : Type} (s : State) (xs : List α) (f : State → α → State)
    (h : ∀ s x, (f s x).can = s.can) : (s.each xs f).can = s.can := by
  unfold State.each
  induction xs generalizing s with
  | nil => rfl
  | cons x xs ih => rw [List.foldl_cons, ih, h]

/-! ### The field that an update changes -/

@[simp] theorem State.updTime_time (s : State) (f : Time → Time) : (s.updTime f).time = f s.time := rfl
@[simp] theorem State.updDev_dev (s : State) (f : Dev → Dev) : (s.updDev f).dev = f s.dev := rfl
@[simp] theorem State.updPwr_pwr (s : State) (f : Pwr → Pwr) : (s.updPwr f).pwr = f s.pwr := rfl
@[simp] theorem State.updSag_sag (s : State) (f : Sag → Sag) : (s.updSag f).sag = f s.sag := rfl
@[simp] theorem State.updHost_host (s : State) (f : HostIf → HostIf) : (s.updHost f).host = f s.host := rfl
@[simp] theorem State.updCfg_cfg (s : State) (f : Cfg → Cfg) : (s.updCfg f).cfg = f s.cfg := rfl
@[simp] theorem State.updFlash_flash (s : State) (f : Flash → Flash) : (s.updFlash f).flash = f s.flash := rfl
@[simp] theorem State.updTiles_tiles (s : State) (f : Tiles → Tiles) : (s.updTiles f).tiles = f s.tiles := rfl
@[simp] theorem State.updPlanner_planner (s : State) (f : Planner → Planner) : (s.updPlanner f).planner = f s.planner := rfl
@[simp] theorem State.updNav_nav (s : State) (f : Nav → Nav) : (s.updNav f).nav = f s.nav := rfl
@[simp] theorem State.advance_up (s : State) (dt : Nat) : (s.advance dt).time.up = s.time.up + dt := rfl
@[simp] theorem State.advance_running (s : State) (dt : Nat) : (s.advance dt).time.running = s.time.running := rfl
@[simp] theorem State.advance_zero (s : State) : s.advance 0 = s := by
  have h : s.time.pass s.pwr.readings 0 = s.time := by simp [Time.pass]
  simp [State.advance, h]
@[simp] theorem State.count_cnt (s : State) (i k : Nat) : (s.count i k).cnt = s.cnt.modify i (satInc · k) := rfl

end Sys2Proof.Machine
end

