-- ==== Sys2Proof/Laws/FrameOps.lean ====
section
/-! SUPPORT. What the operations of Machine/Ops.lean leave alone: one lemma per operation, the conjunction of
every field of State that it keeps. -/

set_option Elab.async false

open Sys2Proof Sys2Proof.Machine

namespace Sys2Proof.Machine

@[simp] theorem State.advance_keeps (s : State) (dt : Nat) :
    (State.advance s dt).pending = s.pending ∧ (State.advance s dt).free = s.free ∧
    (State.advance s dt).dev = s.dev ∧ (State.advance s dt).pwr = s.pwr ∧ (State.advance s dt).sag = s.sag ∧
    (State.advance s dt).host = s.host ∧ (State.advance s dt).cfg = s.cfg ∧ (State.advance s dt).flash = s.flash ∧
    (State.advance s dt).acts = s.acts ∧ (State.advance s dt).cnt = s.cnt ∧ (State.advance s dt).valves = s.valves ∧
    (State.advance s dt).tiles = s.tiles ∧ (State.advance s dt).planner = s.planner ∧
    (State.advance s dt).nav = s.nav ∧ (State.advance s dt).loops = s.loops ∧ (State.advance s dt).field = s.field ∧
    (State.advance s dt).can = s.can := by
  simp [State.advance]

@[simp] theorem State.takeFree_keeps (s : State) :
    (State.takeFree s).2.pending = s.pending ∧ (State.takeFree s).2.time = s.time ∧
    (State.takeFree s).2.dev = s.dev ∧ (State.takeFree s).2.pwr = s.pwr ∧ (State.takeFree s).2.sag = s.sag ∧
    (State.takeFree s).2.host = s.host ∧ (State.takeFree s).2.cfg = s.cfg ∧ (State.takeFree s).2.flash = s.flash ∧
    (State.takeFree s).2.acts = s.acts ∧ (State.takeFree s).2.cnt = s.cnt ∧ (State.takeFree s).2.valves = s.valves ∧
    (State.takeFree s).2.tiles = s.tiles ∧ (State.takeFree s).2.planner = s.planner ∧
    (State.takeFree s).2.nav = s.nav ∧ (State.takeFree s).2.loops = s.loops ∧ (State.takeFree s).2.field = s.field ∧
    (State.takeFree s).2.can = s.can := by
  simp [State.takeFree]

@[simp] theorem State.count_keeps (s : State) (i : Nat) (k : Nat) :
    (State.count s i k).pending = s.pending ∧ (State.count s i k).free = s.free ∧
    (State.count s i k).time = s.time ∧ (State.count s i k).dev = s.dev ∧ (State.count s i k).pwr = s.pwr ∧
    (State.count s i k).sag = s.sag ∧ (State.count s i k).host = s.host ∧ (State.count s i k).cfg = s.cfg ∧
    (State.count s i k).flash = s.flash ∧ (State.count s i k).acts = s.acts ∧
    (State.count s i k).valves = s.valves ∧ (State.count s i k).tiles = s.tiles ∧
    (State.count s i k).planner = s.planner ∧ (State.count s i k).nav = s.nav ∧
    (State.count s i k).loops = s.loops ∧ (State.count s i k).field = s.field ∧
    (State.count s i k).can = s.can := by
  simp [State.count]

@[simp] theorem State.updTime_keeps (s : State) (f : Time → Time) :
    (State.updTime s f).pending = s.pending ∧ (State.updTime s f).free = s.free ∧ (State.updTime s f).dev = s.dev ∧
    (State.updTime s f).pwr = s.pwr ∧ (State.updTime s f).sag = s.sag ∧ (State.updTime s f).host = s.host ∧
    (State.updTime s f).cfg = s.cfg ∧ (State.updTime s f).flash = s.flash ∧ (State.updTime s f).acts = s.acts ∧
    (State.updTime s f).cnt = s.cnt ∧ (State.updTime s f).valves = s.valves ∧ (State.updTime s f).tiles = s.tiles ∧
    (State.updTime s f).planner = s.planner ∧ (State.updTime s f).nav = s.nav ∧
    (State.updTime s f).loops = s.loops ∧ (State.updTime s f).field = s.field ∧
    (State.updTime s f).can = s.can := by
  exact ⟨rfl, rfl, rfl, rfl, rfl, rfl, rfl, rfl, rfl, rfl, rfl, rfl, rfl, rfl, rfl, rfl, rfl⟩

@[simp] theorem State.updDev_keeps (s : State) (f : Dev → Dev) :
    (State.updDev s f).pending = s.pending ∧ (State.updDev s f).free = s.free ∧ (State.updDev s f).time = s.time ∧
    (State.updDev s f).pwr = s.pwr ∧ (State.updDev s f).sag = s.sag ∧ (State.updDev s f).host = s.host ∧
    (State.updDev s f).cfg = s.cfg ∧ (State.updDev s f).flash = s.flash ∧ (State.updDev s f).acts = s.acts ∧
    (State.updDev s f).cnt = s.cnt ∧ (State.updDev s f).valves = s.valves ∧ (State.updDev s f).tiles = s.tiles ∧
    (State.updDev s f).planner = s.planner ∧ (State.updDev s f).nav = s.nav ∧ (State.updDev s f).loops = s.loops ∧
    (State.updDev s f).field = s.field ∧ (State.updDev s f).can = s.can := by
  exact ⟨rfl, rfl, rfl, rfl, rfl, rfl, rfl, rfl, rfl, rfl, rfl, rfl, rfl, rfl, rfl, rfl, rfl⟩

@[simp] theorem State.updPwr_keeps (s : State) (f : Pwr → Pwr) :
    (State.updPwr s f).pending = s.pending ∧ (State.updPwr s f).free = s.free ∧ (State.updPwr s f).time = s.time ∧
    (State.updPwr s f).dev = s.dev ∧ (State.updPwr s f).sag = s.sag ∧ (State.updPwr s f).host = s.host ∧
    (State.updPwr s f).cfg = s.cfg ∧ (State.updPwr s f).flash = s.flash ∧ (State.updPwr s f).acts = s.acts ∧
    (State.updPwr s f).cnt = s.cnt ∧ (State.updPwr s f).valves = s.valves ∧ (State.updPwr s f).tiles = s.tiles ∧
    (State.updPwr s f).planner = s.planner ∧ (State.updPwr s f).nav = s.nav ∧ (State.updPwr s f).loops = s.loops ∧
    (State.updPwr s f).field = s.field ∧ (State.updPwr s f).can = s.can := by
  exact ⟨rfl, rfl, rfl, rfl, rfl, rfl, rfl, rfl, rfl, rfl, rfl, rfl, rfl, rfl, rfl, rfl, rfl⟩

@[simp] theorem State.updSag_keeps (s : State) (f : Sag → Sag) :
    (State.updSag s f).pending = s.pending ∧ (State.updSag s f).free = s.free ∧ (State.updSag s f).time = s.time ∧
    (State.updSag s f).dev = s.dev ∧ (State.updSag s f).pwr = s.pwr ∧ (State.updSag s f).host = s.host ∧
    (State.updSag s f).cfg = s.cfg ∧ (State.updSag s f).flash = s.flash ∧ (State.updSag s f).acts = s.acts ∧
    (State.updSag s f).cnt = s.cnt ∧ (State.updSag s f).valves = s.valves ∧ (State.updSag s f).tiles = s.tiles ∧
    (State.updSag s f).planner = s.planner ∧ (State.updSag s f).nav = s.nav ∧ (State.updSag s f).loops = s.loops ∧
    (State.updSag s f).field = s.field ∧ (State.updSag s f).can = s.can := by
  exact ⟨rfl, rfl, rfl, rfl, rfl, rfl, rfl, rfl, rfl, rfl, rfl, rfl, rfl, rfl, rfl, rfl, rfl⟩

@[simp] theorem State.updHost_keeps (s : State) (f : HostIf → HostIf) :
    (State.updHost s f).pending = s.pending ∧ (State.updHost s f).free = s.free ∧
    (State.updHost s f).time = s.time ∧ (State.updHost s f).dev = s.dev ∧ (State.updHost s f).pwr = s.pwr ∧
    (State.updHost s f).sag = s.sag ∧ (State.updHost s f).cfg = s.cfg ∧ (State.updHost s f).flash = s.flash ∧
    (State.updHost s f).acts = s.acts ∧ (State.updHost s f).cnt = s.cnt ∧ (State.updHost s f).valves = s.valves ∧
    (State.updHost s f).tiles = s.tiles ∧ (State.updHost s f).planner = s.planner ∧
    (State.updHost s f).nav = s.nav ∧ (State.updHost s f).loops = s.loops ∧ (State.updHost s f).field = s.field ∧
    (State.updHost s f).can = s.can := by
  exact ⟨rfl, rfl, rfl, rfl, rfl, rfl, rfl, rfl, rfl, rfl, rfl, rfl, rfl, rfl, rfl, rfl, rfl⟩

@[simp] theorem State.updCfg_keeps (s : State) (f : Cfg → Cfg) :
    (State.updCfg s f).pending = s.pending ∧ (State.updCfg s f).free = s.free ∧ (State.updCfg s f).time = s.time ∧
    (State.updCfg s f).dev = s.dev ∧ (State.updCfg s f).pwr = s.pwr ∧ (State.updCfg s f).sag = s.sag ∧
    (State.updCfg s f).host = s.host ∧ (State.updCfg s f).flash = s.flash ∧ (State.updCfg s f).acts = s.acts ∧
    (State.updCfg s f).cnt = s.cnt ∧ (State.updCfg s f).valves = s.valves ∧ (State.updCfg s f).tiles = s.tiles ∧
    (State.updCfg s f).planner = s.planner ∧ (State.updCfg s f).nav = s.nav ∧ (State.updCfg s f).loops = s.loops ∧
    (State.updCfg s f).field = s.field ∧ (State.updCfg s f).can = s.can := by
  exact ⟨rfl, rfl, rfl, rfl, rfl, rfl, rfl, rfl, rfl, rfl, rfl, rfl, rfl, rfl, rfl, rfl, rfl⟩

@[simp] theorem State.updFlash_keeps (s : State) (f : Flash → Flash) :
    (State.updFlash s f).pending = s.pending ∧ (State.updFlash s f).free = s.free ∧
    (State.updFlash s f).time = s.time ∧ (State.updFlash s f).dev = s.dev ∧ (State.updFlash s f).pwr = s.pwr ∧
    (State.updFlash s f).sag = s.sag ∧ (State.updFlash s f).host = s.host ∧ (State.updFlash s f).cfg = s.cfg ∧
    (State.updFlash s f).acts = s.acts ∧ (State.updFlash s f).cnt = s.cnt ∧ (State.updFlash s f).valves = s.valves ∧
    (State.updFlash s f).tiles = s.tiles ∧ (State.updFlash s f).planner = s.planner ∧
    (State.updFlash s f).nav = s.nav ∧ (State.updFlash s f).loops = s.loops ∧ (State.updFlash s f).field = s.field ∧
    (State.updFlash s f).can = s.can := by
  exact ⟨rfl, rfl, rfl, rfl, rfl, rfl, rfl, rfl, rfl, rfl, rfl, rfl, rfl, rfl, rfl, rfl, rfl⟩

@[simp] theorem State.updTiles_keeps (s : State) (f : Tiles → Tiles) :
    (State.updTiles s f).pending = s.pending ∧ (State.updTiles s f).free = s.free ∧
    (State.updTiles s f).time = s.time ∧ (State.updTiles s f).dev = s.dev ∧ (State.updTiles s f).pwr = s.pwr ∧
    (State.updTiles s f).sag = s.sag ∧ (State.updTiles s f).host = s.host ∧ (State.updTiles s f).cfg = s.cfg ∧
    (State.updTiles s f).flash = s.flash ∧ (State.updTiles s f).acts = s.acts ∧ (State.updTiles s f).cnt = s.cnt ∧
    (State.updTiles s f).valves = s.valves ∧ (State.updTiles s f).planner = s.planner ∧
    (State.updTiles s f).nav = s.nav ∧ (State.updTiles s f).loops = s.loops ∧ (State.updTiles s f).field = s.field ∧
    (State.updTiles s f).can = s.can := by
  exact ⟨rfl, rfl, rfl, rfl, rfl, rfl, rfl, rfl, rfl, rfl, rfl, rfl, rfl, rfl, rfl, rfl, rfl⟩

@[simp] theorem State.updPlanner_keeps (s : State) (f : Planner → Planner) :
    (State.updPlanner s f).pending = s.pending ∧ (State.updPlanner s f).free = s.free ∧
    (State.updPlanner s f).time = s.time ∧ (State.updPlanner s f).dev = s.dev ∧ (State.updPlanner s f).pwr = s.pwr ∧
    (State.updPlanner s f).sag = s.sag ∧ (State.updPlanner s f).host = s.host ∧ (State.updPlanner s f).cfg = s.cfg ∧
    (State.updPlanner s f).flash = s.flash ∧ (State.updPlanner s f).acts = s.acts ∧
    (State.updPlanner s f).cnt = s.cnt ∧ (State.updPlanner s f).valves = s.valves ∧
    (State.updPlanner s f).tiles = s.tiles ∧ (State.updPlanner s f).nav = s.nav ∧
    (State.updPlanner s f).loops = s.loops ∧ (State.updPlanner s f).field = s.field ∧
    (State.updPlanner s f).can = s.can := by
  exact ⟨rfl, rfl, rfl, rfl, rfl, rfl, rfl, rfl, rfl, rfl, rfl, rfl, rfl, rfl, rfl, rfl, rfl⟩

@[simp] theorem State.updChan_keeps (s : State) (ch : Nat) (f : Chan → Chan) :
    (State.updChan s ch f).pending = s.pending ∧ (State.updChan s ch f).free = s.free ∧
    (State.updChan s ch f).time = s.time ∧ (State.updChan s ch f).dev = s.dev ∧ (State.updChan s ch f).pwr = s.pwr ∧
    (State.updChan s ch f).sag = s.sag ∧ (State.updChan s ch f).host = s.host ∧ (State.updChan s ch f).cfg = s.cfg ∧
    (State.updChan s ch f).flash = s.flash ∧ (State.updChan s ch f).acts = s.acts ∧
    (State.updChan s ch f).cnt = s.cnt ∧ (State.updChan s ch f).tiles = s.tiles ∧
    (State.updChan s ch f).planner = s.planner ∧ (State.updChan s ch f).nav = s.nav ∧
    (State.updChan s ch f).loops = s.loops ∧ (State.updChan s ch f).field = s.field ∧
    (State.updChan s ch f).can = s.can := by
  exact ⟨rfl, rfl, rfl, rfl, rfl, rfl, rfl, rfl, rfl, rfl, rfl, rfl, rfl, rfl, rfl, rfl, rfl⟩

@[simp] theorem State.updCtx_keeps (s : State) (ch : Nat) (f : Ctx → Ctx) :
    (State.updCtx s ch f).pending = s.pending ∧ (State.updCtx s ch f).free = s.free ∧
    (State.updCtx s ch f).time = s.time ∧ (State.updCtx s ch f).dev = s.dev ∧ (State.updCtx s ch f).pwr = s.pwr ∧
    (State.updCtx s ch f).sag = s.sag ∧ (State.updCtx s ch f).host = s.host ∧ (State.updCtx s ch f).cfg = s.cfg ∧
    (State.updCtx s ch f).flash = s.flash ∧ (State.updCtx s ch f).acts = s.acts ∧
    (State.updCtx s ch f).cnt = s.cnt ∧ (State.updCtx s ch f).tiles = s.tiles ∧
    (State.updCtx s ch f).planner = s.planner ∧ (State.updCtx s ch f).nav = s.nav ∧
    (State.updCtx s ch f).loops = s.loops ∧ (State.updCtx s ch f).field = s.field ∧
    (State.updCtx s ch f).can = s.can := by
  exact ⟨rfl, rfl, rfl, rfl, rfl, rfl, rfl, rfl, rfl, rfl, rfl, rfl, rfl, rfl, rfl, rfl, rfl⟩

@[simp] theorem State.updGroup_keeps (s : State) (g : Nat) (f : Group → Group) :
    (State.updGroup s g f).pending = s.pending ∧ (State.updGroup s g f).free = s.free ∧
    (State.updGroup s g f).time = s.time ∧ (State.updGroup s g f).dev = s.dev ∧ (State.updGroup s g f).pwr = s.pwr ∧
    (State.updGroup s g f).sag = s.sag ∧ (State.updGroup s g f).host = s.host ∧ (State.updGroup s g f).cfg = s.cfg ∧
    (State.updGroup s g f).flash = s.flash ∧ (State.updGroup s g f).acts = s.acts ∧
    (State.updGroup s g f).cnt = s.cnt ∧ (State.updGroup s g f).tiles = s.tiles ∧
    (State.updGroup s g f).planner = s.planner ∧ (State.updGroup s g f).nav = s.nav ∧
    (State.updGroup s g f).loops = s.loops ∧ (State.updGroup s g f).field = s.field ∧
    (State.updGroup s g f).can = s.can := by
  exact ⟨rfl, rfl, rfl, rfl, rfl, rfl, rfl, rfl, rfl, rfl, rfl, rfl, rfl, rfl, rfl, rfl, rfl⟩

@[simp] theorem State.updQuad_keeps (s : State) (q : Nat) (f : Quad → Quad) :
    (State.updQuad s q f).pending = s.pending ∧ (State.updQuad s q f).free = s.free ∧
    (State.updQuad s q f).time = s.time ∧ (State.updQuad s q f).dev = s.dev ∧ (State.updQuad s q f).pwr = s.pwr ∧
    (State.updQuad s q f).sag = s.sag ∧ (State.updQuad s q f).host = s.host ∧ (State.updQuad s q f).cfg = s.cfg ∧
    (State.updQuad s q f).flash = s.flash ∧ (State.updQuad s q f).acts = s.acts ∧
    (State.updQuad s q f).cnt = s.cnt ∧ (State.updQuad s q f).tiles = s.tiles ∧
    (State.updQuad s q f).planner = s.planner ∧ (State.updQuad s q f).nav = s.nav ∧
    (State.updQuad s q f).loops = s.loops ∧ (State.updQuad s q f).field = s.field ∧
    (State.updQuad s q f).can = s.can := by
  exact ⟨rfl, rfl, rfl, rfl, rfl, rfl, rfl, rfl, rfl, rfl, rfl, rfl, rfl, rfl, rfl, rfl, rfl⟩

@[simp] theorem State.updRing_keeps (s : State) (n : Nat) (f : Ring → Ring) :
    (State.updRing s n f).pending = s.pending ∧ (State.updRing s n f).free = s.free ∧
    (State.updRing s n f).time = s.time ∧ (State.updRing s n f).dev = s.dev ∧ (State.updRing s n f).pwr = s.pwr ∧
    (State.updRing s n f).sag = s.sag ∧ (State.updRing s n f).cfg = s.cfg ∧ (State.updRing s n f).flash = s.flash ∧
    (State.updRing s n f).acts = s.acts ∧ (State.updRing s n f).cnt = s.cnt ∧
    (State.updRing s n f).valves = s.valves ∧ (State.updRing s n f).tiles = s.tiles ∧
    (State.updRing s n f).planner = s.planner ∧ (State.updRing s n f).nav = s.nav ∧
    (State.updRing s n f).loops = s.loops ∧ (State.updRing s n f).field = s.field ∧
    (State.updRing s n f).can = s.can := by
  exact ⟨rfl, rfl, rfl, rfl, rfl, rfl, rfl, rfl, rfl, rfl, rfl, rfl, rfl, rfl, rfl, rfl, rfl⟩

@[simp] theorem State.updVec_keeps (s : State) (v : Nat) (f : Vec → Vec) :
    (State.updVec s v f).pending = s.pending ∧ (State.updVec s v f).free = s.free ∧
    (State.updVec s v f).time = s.time ∧ (State.updVec s v f).dev = s.dev ∧ (State.updVec s v f).pwr = s.pwr ∧
    (State.updVec s v f).sag = s.sag ∧ (State.updVec s v f).cfg = s.cfg ∧ (State.updVec s v f).flash = s.flash ∧
    (State.updVec s v f).acts = s.acts ∧ (State.updVec s v f).cnt = s.cnt ∧ (State.updVec s v f).valves = s.valves ∧
    (State.updVec s v f).tiles = s.tiles ∧ (State.updVec s v f).planner = s.planner ∧
    (State.updVec s v f).nav = s.nav ∧ (State.updVec s v f).loops = s.loops ∧ (State.updVec s v f).field = s.field ∧
    (State.updVec s v f).can = s.can := by
  exact ⟨rfl, rfl, rfl, rfl, rfl, rfl, rfl, rfl, rfl, rfl, rfl, rfl, rfl, rfl, rfl, rfl, rfl⟩

@[simp] theorem State.emits_keeps (s : State) (ws : List HostWrite) :
    (State.emits s ws).pending = s.pending ∧ (State.emits s ws).free = s.free ∧ (State.emits s ws).time = s.time ∧
    (State.emits s ws).dev = s.dev ∧ (State.emits s ws).pwr = s.pwr ∧ (State.emits s ws).sag = s.sag ∧
    (State.emits s ws).cfg = s.cfg ∧ (State.emits s ws).flash = s.flash ∧ (State.emits s ws).acts = s.acts ∧
    (State.emits s ws).cnt = s.cnt ∧ (State.emits s ws).valves = s.valves ∧ (State.emits s ws).tiles = s.tiles ∧
    (State.emits s ws).planner = s.planner ∧ (State.emits s ws).nav = s.nav ∧ (State.emits s ws).loops = s.loops ∧
    (State.emits s ws).field = s.field ∧ (State.emits s ws).can = s.can := by
  simp [State.emits]

@[simp] theorem State.emit_keeps (s : State) (w : HostWrite) :
    (State.emit s w).pending = s.pending ∧ (State.emit s w).free = s.free ∧ (State.emit s w).time = s.time ∧
    (State.emit s w).dev = s.dev ∧ (State.emit s w).pwr = s.pwr ∧ (State.emit s w).sag = s.sag ∧
    (State.emit s w).cfg = s.cfg ∧ (State.emit s w).flash = s.flash ∧ (State.emit s w).acts = s.acts ∧
    (State.emit s w).cnt = s.cnt ∧ (State.emit s w).valves = s.valves ∧ (State.emit s w).tiles = s.tiles ∧
    (State.emit s w).planner = s.planner ∧ (State.emit s w).nav = s.nav ∧ (State.emit s w).loops = s.loops ∧
    (State.emit s w).field = s.field ∧ (State.emit s w).can = s.can := by
  simp [State.emit]

@[simp] theorem State.linkTakes_keeps (s : State) :
    (State.linkTakes s).pending = s.pending ∧ (State.linkTakes s).free = s.free ∧
    (State.linkTakes s).time = s.time ∧ (State.linkTakes s).dev = s.dev ∧ (State.linkTakes s).pwr = s.pwr ∧
    (State.linkTakes s).sag = s.sag ∧ (State.linkTakes s).cfg = s.cfg ∧ (State.linkTakes s).flash = s.flash ∧
    (State.linkTakes s).acts = s.acts ∧ (State.linkTakes s).cnt = s.cnt ∧ (State.linkTakes s).valves = s.valves ∧
    (State.linkTakes s).tiles = s.tiles ∧ (State.linkTakes s).planner = s.planner ∧
    (State.linkTakes s).nav = s.nav ∧ (State.linkTakes s).loops = s.loops ∧ (State.linkTakes s).field = s.field ∧
    (State.linkTakes s).can = s.can := by
  simp [State.linkTakes]

@[simp] theorem State.writeStatus_keeps (s : State) :
    (State.writeStatus s).pending = s.pending ∧ (State.writeStatus s).free = s.free ∧
    (State.writeStatus s).time = s.time ∧ (State.writeStatus s).dev = s.dev ∧ (State.writeStatus s).pwr = s.pwr ∧
    (State.writeStatus s).sag = s.sag ∧ (State.writeStatus s).cfg = s.cfg ∧ (State.writeStatus s).flash = s.flash ∧
    (State.writeStatus s).acts = s.acts ∧ (State.writeStatus s).cnt = s.cnt ∧
    (State.writeStatus s).valves = s.valves ∧ (State.writeStatus s).tiles = s.tiles ∧
    (State.writeStatus s).planner = s.planner ∧ (State.writeStatus s).nav = s.nav ∧
    (State.writeStatus s).loops = s.loops ∧ (State.writeStatus s).field = s.field ∧
    (State.writeStatus s).can = s.can := by
  simp [State.writeStatus]

@[simp] theorem State.sendMsix_keeps (s : State) (v : Nat) :
    (State.sendMsix s v).pending = s.pending ∧ (State.sendMsix s v).free = s.free ∧
    (State.sendMsix s v).time = s.time ∧ (State.sendMsix s v).dev = s.dev ∧ (State.sendMsix s v).pwr = s.pwr ∧
    (State.sendMsix s v).sag = s.sag ∧ (State.sendMsix s v).cfg = s.cfg ∧ (State.sendMsix s v).flash = s.flash ∧
    (State.sendMsix s v).acts = s.acts ∧ (State.sendMsix s v).valves = s.valves ∧
    (State.sendMsix s v).tiles = s.tiles ∧ (State.sendMsix s v).planner = s.planner ∧
    (State.sendMsix s v).nav = s.nav ∧ (State.sendMsix s v).loops = s.loops ∧ (State.sendMsix s v).field = s.field ∧
    (State.sendMsix s v).can = s.can := by
  simp [State.sendMsix]

@[simp] theorem State.sendLate_keeps (s : State) (v : Nat) :
    (State.sendLate s v).pending = s.pending ∧ (State.sendLate s v).free = s.free ∧
    (State.sendLate s v).time = s.time ∧ (State.sendLate s v).dev = s.dev ∧ (State.sendLate s v).pwr = s.pwr ∧
    (State.sendLate s v).sag = s.sag ∧ (State.sendLate s v).cfg = s.cfg ∧ (State.sendLate s v).flash = s.flash ∧
    (State.sendLate s v).acts = s.acts ∧ (State.sendLate s v).valves = s.valves ∧
    (State.sendLate s v).tiles = s.tiles ∧ (State.sendLate s v).planner = s.planner ∧
    (State.sendLate s v).nav = s.nav ∧ (State.sendLate s v).loops = s.loops ∧ (State.sendLate s v).field = s.field ∧
    (State.sendLate s v).can = s.can := by
  simp [State.sendLate]

@[simp] theorem State.pbaSends_keeps (s : State) (v : Nat) :
    (State.pbaSends s v).pending = s.pending ∧ (State.pbaSends s v).free = s.free ∧
    (State.pbaSends s v).time = s.time ∧ (State.pbaSends s v).dev = s.dev ∧ (State.pbaSends s v).pwr = s.pwr ∧
    (State.pbaSends s v).sag = s.sag ∧ (State.pbaSends s v).cfg = s.cfg ∧ (State.pbaSends s v).flash = s.flash ∧
    (State.pbaSends s v).acts = s.acts ∧ (State.pbaSends s v).valves = s.valves ∧
    (State.pbaSends s v).tiles = s.tiles ∧ (State.pbaSends s v).planner = s.planner ∧
    (State.pbaSends s v).nav = s.nav ∧ (State.pbaSends s v).loops = s.loops ∧ (State.pbaSends s v).field = s.field ∧
    (State.pbaSends s v).can = s.can := by
  simp [State.pbaSends]

@[simp] theorem State.notify_keeps (s : State) (v : Nat) (urgent : Bool) :
    (State.notify s v urgent).pending = s.pending ∧ (State.notify s v urgent).free = s.free ∧
    (State.notify s v urgent).time = s.time ∧ (State.notify s v urgent).dev = s.dev ∧
    (State.notify s v urgent).pwr = s.pwr ∧ (State.notify s v urgent).sag = s.sag ∧
    (State.notify s v urgent).cfg = s.cfg ∧ (State.notify s v urgent).flash = s.flash ∧
    (State.notify s v urgent).acts = s.acts ∧ (State.notify s v urgent).valves = s.valves ∧
    (State.notify s v urgent).tiles = s.tiles ∧ (State.notify s v urgent).planner = s.planner ∧
    (State.notify s v urgent).nav = s.nav ∧ (State.notify s v urgent).loops = s.loops ∧
    (State.notify s v urgent).field = s.field ∧ (State.notify s v urgent).can = s.can := by
  simp [State.notify]

@[simp] theorem State.writeRec_keeps (s : State) (n : Nat) (ds : List Desc) (urgent : Bool) :
    (State.writeRec s n ds urgent).pending = s.pending ∧ (State.writeRec s n ds urgent).free = s.free ∧
    (State.writeRec s n ds urgent).time = s.time ∧ (State.writeRec s n ds urgent).dev = s.dev ∧
    (State.writeRec s n ds urgent).pwr = s.pwr ∧ (State.writeRec s n ds urgent).sag = s.sag ∧
    (State.writeRec s n ds urgent).cfg = s.cfg ∧ (State.writeRec s n ds urgent).flash = s.flash ∧
    (State.writeRec s n ds urgent).acts = s.acts ∧ (State.writeRec s n ds urgent).valves = s.valves ∧
    (State.writeRec s n ds urgent).tiles = s.tiles ∧ (State.writeRec s n ds urgent).planner = s.planner ∧
    (State.writeRec s n ds urgent).nav = s.nav ∧ (State.writeRec s n ds urgent).loops = s.loops ∧
    (State.writeRec s n ds urgent).field = s.field ∧ (State.writeRec s n ds urgent).can = s.can := by
  simp [State.writeRec]

@[simp] theorem State.writeEvt_keeps (s : State) (e : Evt) :
    (State.writeEvt s e).pending = s.pending ∧ (State.writeEvt s e).free = s.free ∧
    (State.writeEvt s e).time = s.time ∧ (State.writeEvt s e).dev = s.dev ∧ (State.writeEvt s e).pwr = s.pwr ∧
    (State.writeEvt s e).sag = s.sag ∧ (State.writeEvt s e).cfg = s.cfg ∧ (State.writeEvt s e).flash = s.flash ∧
    (State.writeEvt s e).acts = s.acts ∧ (State.writeEvt s e).valves = s.valves ∧
    (State.writeEvt s e).tiles = s.tiles ∧ (State.writeEvt s e).planner = s.planner ∧
    (State.writeEvt s e).nav = s.nav ∧ (State.writeEvt s e).loops = s.loops ∧ (State.writeEvt s e).field = s.field ∧
    (State.writeEvt s e).can = s.can := by
  simp [State.writeEvt]

@[simp] theorem State.queueEvt_keeps (s : State) (e : Evt) :
    (State.queueEvt s e).pending = s.pending ∧ (State.queueEvt s e).free = s.free ∧
    (State.queueEvt s e).time = s.time ∧ (State.queueEvt s e).dev = s.dev ∧ (State.queueEvt s e).pwr = s.pwr ∧
    (State.queueEvt s e).sag = s.sag ∧ (State.queueEvt s e).cfg = s.cfg ∧ (State.queueEvt s e).flash = s.flash ∧
    (State.queueEvt s e).acts = s.acts ∧ (State.queueEvt s e).valves = s.valves ∧
    (State.queueEvt s e).tiles = s.tiles ∧ (State.queueEvt s e).planner = s.planner ∧
    (State.queueEvt s e).nav = s.nav ∧ (State.queueEvt s e).loops = s.loops ∧ (State.queueEvt s e).field = s.field ∧
    (State.queueEvt s e).can = s.can := by
  simp [State.queueEvt]

@[simp] theorem State.raise_keeps (s : State) (code subject : Nat) (data : List (Nat × Nat × Nat)) (urgent : Bool) :
    (State.raise s code subject data urgent).pending = s.pending ∧
    (State.raise s code subject data urgent).free = s.free ∧
    (State.raise s code subject data urgent).time = s.time ∧ (State.raise s code subject data urgent).dev = s.dev ∧
    (State.raise s code subject data urgent).pwr = s.pwr ∧ (State.raise s code subject data urgent).sag = s.sag ∧
    (State.raise s code subject data urgent).cfg = s.cfg ∧
    (State.raise s code subject data urgent).flash = s.flash ∧
    (State.raise s code subject data urgent).acts = s.acts ∧
    (State.raise s code subject data urgent).valves = s.valves ∧
    (State.raise s code subject data urgent).tiles = s.tiles ∧
    (State.raise s code subject data urgent).planner = s.planner ∧
    (State.raise s code subject data urgent).nav = s.nav ∧
    (State.raise s code subject data urgent).loops = s.loops ∧
    (State.raise s code subject data urgent).field = s.field ∧
    (State.raise s code subject data urgent).can = s.can := by
  simp [State.raise]

@[simp] theorem State.storeRec_keeps (s : State) (r : FaultRec) :
    (State.storeRec s r).pending = s.pending ∧ (State.storeRec s r).free = s.free ∧
    (State.storeRec s r).time = s.time ∧ (State.storeRec s r).dev = s.dev ∧ (State.storeRec s r).pwr = s.pwr ∧
    (State.storeRec s r).sag = s.sag ∧ (State.storeRec s r).host = s.host ∧ (State.storeRec s r).cfg = s.cfg ∧
    (State.storeRec s r).acts = s.acts ∧ (State.storeRec s r).cnt = s.cnt ∧ (State.storeRec s r).valves = s.valves ∧
    (State.storeRec s r).tiles = s.tiles ∧ (State.storeRec s r).planner = s.planner ∧
    (State.storeRec s r).nav = s.nav ∧ (State.storeRec s r).loops = s.loops ∧ (State.storeRec s r).field = s.field ∧
    (State.storeRec s r).can = s.can := by
  simp [State.storeRec]

@[simp] theorem State.keepRec_keeps (s : State) (r : FaultRec) :
    (State.keepRec s r).pending = s.pending ∧ (State.keepRec s r).free = s.free ∧
    (State.keepRec s r).time = s.time ∧ (State.keepRec s r).dev = s.dev ∧ (State.keepRec s r).pwr = s.pwr ∧
    (State.keepRec s r).sag = s.sag ∧ (State.keepRec s r).host = s.host ∧ (State.keepRec s r).cfg = s.cfg ∧
    (State.keepRec s r).acts = s.acts ∧ (State.keepRec s r).cnt = s.cnt ∧ (State.keepRec s r).valves = s.valves ∧
    (State.keepRec s r).tiles = s.tiles ∧ (State.keepRec s r).planner = s.planner ∧
    (State.keepRec s r).nav = s.nav ∧ (State.keepRec s r).loops = s.loops ∧ (State.keepRec s r).field = s.field ∧
    (State.keepRec s r).can = s.can := by
  simp [State.keepRec]

@[simp] theorem State.record_keeps (s : State) (source code subject : Nat) (data : List (Nat × Nat × Nat)) (urgent : Bool) :
    (State.record s source code subject data urgent).pending = s.pending ∧
    (State.record s source code subject data urgent).free = s.free ∧
    (State.record s source code subject data urgent).time = s.time ∧
    (State.record s source code subject data urgent).dev = s.dev ∧
    (State.record s source code subject data urgent).pwr = s.pwr ∧
    (State.record s source code subject data urgent).sag = s.sag ∧
    (State.record s source code subject data urgent).cfg = s.cfg ∧
    (State.record s source code subject data urgent).acts = s.acts ∧
    (State.record s source code subject data urgent).valves = s.valves ∧
    (State.record s source code subject data urgent).tiles = s.tiles ∧
    (State.record s source code subject data urgent).planner = s.planner ∧
    (State.record s source code subject data urgent).nav = s.nav ∧
    (State.record s source code subject data urgent).loops = s.loops ∧
    (State.record s source code subject data urgent).field = s.field ∧
    (State.record s source code subject data urgent).can = s.can := by
  simp [State.record]

@[simp] theorem State.dropTel_keeps (s : State) (cls : Nat) :
    (State.dropTel s cls).pending = s.pending ∧ (State.dropTel s cls).free = s.free ∧
    (State.dropTel s cls).time = s.time ∧ (State.dropTel s cls).dev = s.dev ∧ (State.dropTel s cls).pwr = s.pwr ∧
    (State.dropTel s cls).sag = s.sag ∧ (State.dropTel s cls).cfg = s.cfg ∧ (State.dropTel s cls).flash = s.flash ∧
    (State.dropTel s cls).acts = s.acts ∧ (State.dropTel s cls).valves = s.valves ∧
    (State.dropTel s cls).tiles = s.tiles ∧ (State.dropTel s cls).planner = s.planner ∧
    (State.dropTel s cls).nav = s.nav ∧ (State.dropTel s cls).loops = s.loops ∧
    (State.dropTel s cls).field = s.field ∧ (State.dropTel s cls).can = s.can := by
  simp [State.dropTel]

@[simp] theorem State.writeTel_keeps (s : State) (t : Tel) :
    (State.writeTel s t).pending = s.pending ∧ (State.writeTel s t).free = s.free ∧
    (State.writeTel s t).time = s.time ∧ (State.writeTel s t).dev = s.dev ∧ (State.writeTel s t).pwr = s.pwr ∧
    (State.writeTel s t).sag = s.sag ∧ (State.writeTel s t).cfg = s.cfg ∧ (State.writeTel s t).flash = s.flash ∧
    (State.writeTel s t).acts = s.acts ∧ (State.writeTel s t).valves = s.valves ∧
    (State.writeTel s t).tiles = s.tiles ∧ (State.writeTel s t).planner = s.planner ∧
    (State.writeTel s t).nav = s.nav ∧ (State.writeTel s t).loops = s.loops ∧ (State.writeTel s t).field = s.field ∧
    (State.writeTel s t).can = s.can := by
  simp [State.writeTel]

@[simp] theorem State.telTurn_keeps (s : State) (cls typ : Nat) :
    (State.telTurn s cls typ).2.pending = s.pending ∧ (State.telTurn s cls typ).2.free = s.free ∧
    (State.telTurn s cls typ).2.time = s.time ∧ (State.telTurn s cls typ).2.dev = s.dev ∧
    (State.telTurn s cls typ).2.pwr = s.pwr ∧ (State.telTurn s cls typ).2.sag = s.sag ∧
    (State.telTurn s cls typ).2.cfg = s.cfg ∧ (State.telTurn s cls typ).2.flash = s.flash ∧
    (State.telTurn s cls typ).2.acts = s.acts ∧ (State.telTurn s cls typ).2.cnt = s.cnt ∧
    (State.telTurn s cls typ).2.valves = s.valves ∧ (State.telTurn s cls typ).2.tiles = s.tiles ∧
    (State.telTurn s cls typ).2.planner = s.planner ∧ (State.telTurn s cls typ).2.nav = s.nav ∧
    (State.telTurn s cls typ).2.loops = s.loops ∧ (State.telTurn s cls typ).2.field = s.field ∧
    (State.telTurn s cls typ).2.can = s.can := by
  simp [State.telTurn]

@[simp] theorem State.updWaiting_keeps (s : State) (w : Waiting) (f : Waiting → Waiting) :
    (State.updWaiting s w f).pending = s.pending ∧ (State.updWaiting s w f).free = s.free ∧
    (State.updWaiting s w f).time = s.time ∧ (State.updWaiting s w f).dev = s.dev ∧
    (State.updWaiting s w f).pwr = s.pwr ∧ (State.updWaiting s w f).sag = s.sag ∧
    (State.updWaiting s w f).cfg = s.cfg ∧ (State.updWaiting s w f).flash = s.flash ∧
    (State.updWaiting s w f).acts = s.acts ∧ (State.updWaiting s w f).cnt = s.cnt ∧
    (State.updWaiting s w f).valves = s.valves ∧ (State.updWaiting s w f).tiles = s.tiles ∧
    (State.updWaiting s w f).planner = s.planner ∧ (State.updWaiting s w f).nav = s.nav ∧
    (State.updWaiting s w f).loops = s.loops ∧ (State.updWaiting s w f).field = s.field ∧
    (State.updWaiting s w f).can = s.can := by
  exact ⟨rfl, rfl, rfl, rfl, rfl, rfl, rfl, rfl, rfl, rfl, rfl, rfl, rfl, rfl, rfl, rfl, rfl⟩

@[simp] theorem State.drainEvts_keeps (k : Nat) (s : State) :
    (State.drainEvts k s).pending = s.pending ∧ (State.drainEvts k s).free = s.free ∧
    (State.drainEvts k s).time = s.time ∧ (State.drainEvts k s).dev = s.dev ∧ (State.drainEvts k s).pwr = s.pwr ∧
    (State.drainEvts k s).sag = s.sag ∧ (State.drainEvts k s).cfg = s.cfg ∧ (State.drainEvts k s).flash = s.flash ∧
    (State.drainEvts k s).acts = s.acts ∧ (State.drainEvts k s).valves = s.valves ∧
    (State.drainEvts k s).tiles = s.tiles ∧ (State.drainEvts k s).planner = s.planner ∧
    (State.drainEvts k s).nav = s.nav ∧ (State.drainEvts k s).loops = s.loops ∧
    (State.drainEvts k s).field = s.field ∧ (State.drainEvts k s).can = s.can := by
  induction k generalizing s with
  | zero => simp [State.drainEvts]
  | succ k ih => unfold State.drainEvts; (repeat' split) <;> simp [ih]

@[simp] theorem State.drainTel_keeps (k : Nat) (s : State) :
    (State.drainTel k s).pending = s.pending ∧ (State.drainTel k s).free = s.free ∧
    (State.drainTel k s).time = s.time ∧ (State.drainTel k s).dev = s.dev ∧ (State.drainTel k s).pwr = s.pwr ∧
    (State.drainTel k s).sag = s.sag ∧ (State.drainTel k s).cfg = s.cfg ∧ (State.drainTel k s).flash = s.flash ∧
    (State.drainTel k s).acts = s.acts ∧ (State.drainTel k s).valves = s.valves ∧
    (State.drainTel k s).tiles = s.tiles ∧ (State.drainTel k s).planner = s.planner ∧
    (State.drainTel k s).nav = s.nav ∧ (State.drainTel k s).loops = s.loops ∧ (State.drainTel k s).field = s.field ∧
    (State.drainTel k s).can = s.can := by
  induction k generalizing s with
  | zero => simp [State.drainTel]
  | succ k ih => unfold State.drainTel; (repeat' split) <;> simp [ih]

@[simp] theorem State.makeTelRoom_keeps (k need : Nat) (s : State) :
    (State.makeTelRoom k need s).pending = s.pending ∧ (State.makeTelRoom k need s).free = s.free ∧
    (State.makeTelRoom k need s).time = s.time ∧ (State.makeTelRoom k need s).dev = s.dev ∧
    (State.makeTelRoom k need s).pwr = s.pwr ∧ (State.makeTelRoom k need s).sag = s.sag ∧
    (State.makeTelRoom k need s).cfg = s.cfg ∧ (State.makeTelRoom k need s).flash = s.flash ∧
    (State.makeTelRoom k need s).acts = s.acts ∧ (State.makeTelRoom k need s).valves = s.valves ∧
    (State.makeTelRoom k need s).tiles = s.tiles ∧ (State.makeTelRoom k need s).planner = s.planner ∧
    (State.makeTelRoom k need s).nav = s.nav ∧ (State.makeTelRoom k need s).loops = s.loops ∧
    (State.makeTelRoom k need s).field = s.field ∧ (State.makeTelRoom k need s).can = s.can := by
  induction k generalizing s with
  | zero => simp [State.makeTelRoom]
  | succ k ih => unfold State.makeTelRoom; (repeat' split) <;> simp [ih]

@[simp] theorem State.formTel_keeps (s : State) (cls : Nat) (ds : List Desc) :
    (s.formTel cls ds).pending = s.pending ∧ (s.formTel cls ds).free = s.free ∧ (s.formTel cls ds).time = s.time ∧
    (s.formTel cls ds).dev = s.dev ∧ (s.formTel cls ds).pwr = s.pwr ∧ (s.formTel cls ds).sag = s.sag ∧
    (s.formTel cls ds).cfg = s.cfg ∧ (s.formTel cls ds).flash = s.flash ∧ (s.formTel cls ds).acts = s.acts ∧
    (s.formTel cls ds).valves = s.valves ∧ (s.formTel cls ds).tiles = s.tiles ∧
    (s.formTel cls ds).planner = s.planner ∧ (s.formTel cls ds).nav = s.nav ∧ (s.formTel cls ds).loops = s.loops ∧
    (s.formTel cls ds).field = s.field ∧ (s.formTel cls ds).can = s.can := by
  unfold State.formTel; dsimp only; (repeat' split) <;> simp

@[simp] theorem State.telemeter_keeps (s : State) (cls typ : Nat) (ds : List Desc) :
    (s.telemeter cls typ ds).pending = s.pending ∧ (s.telemeter cls typ ds).free = s.free ∧
    (s.telemeter cls typ ds).time = s.time ∧ (s.telemeter cls typ ds).dev = s.dev ∧
    (s.telemeter cls typ ds).pwr = s.pwr ∧ (s.telemeter cls typ ds).sag = s.sag ∧
    (s.telemeter cls typ ds).cfg = s.cfg ∧ (s.telemeter cls typ ds).flash = s.flash ∧
    (s.telemeter cls typ ds).acts = s.acts ∧ (s.telemeter cls typ ds).valves = s.valves ∧
    (s.telemeter cls typ ds).tiles = s.tiles ∧ (s.telemeter cls typ ds).planner = s.planner ∧
    (s.telemeter cls typ ds).nav = s.nav ∧ (s.telemeter cls typ ds).loops = s.loops ∧
    (s.telemeter cls typ ds).field = s.field ∧ (s.telemeter cls typ ds).can = s.can := by
  unfold State.telemeter; dsimp only; (repeat' split) <;> simp

@[simp] theorem State.drainCpl_keeps (k : Nat) (s : State) :
    (State.drainCpl k s).pending = s.pending ∧ (State.drainCpl k s).free = s.free ∧
    (State.drainCpl k s).time = s.time ∧ (State.drainCpl k s).dev = s.dev ∧ (State.drainCpl k s).pwr = s.pwr ∧
    (State.drainCpl k s).sag = s.sag ∧ (State.drainCpl k s).cfg = s.cfg ∧ (State.drainCpl k s).flash = s.flash ∧
    (State.drainCpl k s).acts = s.acts ∧ (State.drainCpl k s).valves = s.valves ∧
    (State.drainCpl k s).tiles = s.tiles ∧ (State.drainCpl k s).planner = s.planner ∧
    (State.drainCpl k s).nav = s.nav ∧ (State.drainCpl k s).loops = s.loops ∧ (State.drainCpl k s).field = s.field ∧
    (State.drainCpl k s).can = s.can := by
  induction k generalizing s with
  | zero => simp [State.drainCpl]
  | succ k ih => unfold State.drainCpl; (repeat' split) <;> simp [ih]

@[simp] theorem State.startSweep_keeps (s : State) :
    (s.startSweep).pending = s.pending ∧ (s.startSweep).free = s.free ∧ (s.startSweep).time = s.time ∧
    (s.startSweep).dev = s.dev ∧ (s.startSweep).pwr = s.pwr ∧ (s.startSweep).sag = s.sag ∧
    (s.startSweep).cfg = s.cfg ∧ (s.startSweep).flash = s.flash ∧ (s.startSweep).acts = s.acts ∧
    (s.startSweep).valves = s.valves ∧ (s.startSweep).tiles = s.tiles ∧ (s.startSweep).planner = s.planner ∧
    (s.startSweep).nav = s.nav ∧ (s.startSweep).loops = s.loops ∧ (s.startSweep).field = s.field ∧
    (s.startSweep).can = s.can := by
  unfold State.startSweep; dsimp only; (repeat' split) <;> simp

@[simp] theorem State.extraSweep_keeps (s : State) :
    (s.extraSweep).pending = s.pending ∧ (s.extraSweep).free = s.free ∧ (s.extraSweep).time = s.time ∧
    (s.extraSweep).dev = s.dev ∧ (s.extraSweep).pwr = s.pwr ∧ (s.extraSweep).sag = s.sag ∧
    (s.extraSweep).cfg = s.cfg ∧ (s.extraSweep).flash = s.flash ∧ (s.extraSweep).acts = s.acts ∧
    (s.extraSweep).valves = s.valves ∧ (s.extraSweep).tiles = s.tiles ∧ (s.extraSweep).planner = s.planner ∧
    (s.extraSweep).nav = s.nav ∧ (s.extraSweep).loops = s.loops ∧ (s.extraSweep).field = s.field ∧
    (s.extraSweep).can = s.can := by
  unfold State.extraSweep; dsimp only; (repeat' split) <;> simp

@[simp] theorem State.completeAt_keeps (s : State) (op : Byte) (h : Hdr) (idx : Word) (st : Status) (res : BitVec 128) (mt : Nat) :
    (s.completeAt op h idx st res mt).pending = s.pending ∧ (s.completeAt op h idx st res mt).free = s.free ∧
    (s.completeAt op h idx st res mt).time = s.time ∧ (s.completeAt op h idx st res mt).dev = s.dev ∧
    (s.completeAt op h idx st res mt).pwr = s.pwr ∧ (s.completeAt op h idx st res mt).sag = s.sag ∧
    (s.completeAt op h idx st res mt).cfg = s.cfg ∧ (s.completeAt op h idx st res mt).flash = s.flash ∧
    (s.completeAt op h idx st res mt).acts = s.acts ∧ (s.completeAt op h idx st res mt).valves = s.valves ∧
    (s.completeAt op h idx st res mt).tiles = s.tiles ∧ (s.completeAt op h idx st res mt).planner = s.planner ∧
    (s.completeAt op h idx st res mt).nav = s.nav ∧ (s.completeAt op h idx st res mt).loops = s.loops ∧
    (s.completeAt op h idx st res mt).field = s.field ∧ (s.completeAt op h idx st res mt).can = s.can := by
  unfold State.completeAt; dsimp only; (repeat' split) <;> simp

@[simp] theorem State.complete_keeps (s : State) (op : Byte) (h : Hdr) (idx : Word) (st : Status) (res : BitVec 128) :
    (s.complete op h idx st res).pending = s.pending ∧ (s.complete op h idx st res).free = s.free ∧
    (s.complete op h idx st res).time = s.time ∧ (s.complete op h idx st res).dev = s.dev ∧
    (s.complete op h idx st res).pwr = s.pwr ∧ (s.complete op h idx st res).sag = s.sag ∧
    (s.complete op h idx st res).cfg = s.cfg ∧ (s.complete op h idx st res).flash = s.flash ∧
    (s.complete op h idx st res).acts = s.acts ∧ (s.complete op h idx st res).valves = s.valves ∧
    (s.complete op h idx st res).tiles = s.tiles ∧ (s.complete op h idx st res).planner = s.planner ∧
    (s.complete op h idx st res).nav = s.nav ∧ (s.complete op h idx st res).loops = s.loops ∧
    (s.complete op h idx st res).field = s.field ∧ (s.complete op h idx st res).can = s.can := by
  simp [State.complete]

@[simp] theorem State.finishAt_keeps (s : State) (w : Waiting) (st : Status) (res : BitVec 128) (mt : Nat) :
    (s.finishAt w st res mt).pending = s.pending ∧ (s.finishAt w st res mt).free = s.free ∧
    (s.finishAt w st res mt).time = s.time ∧ (s.finishAt w st res mt).dev = s.dev ∧
    (s.finishAt w st res mt).pwr = s.pwr ∧ (s.finishAt w st res mt).sag = s.sag ∧
    (s.finishAt w st res mt).cfg = s.cfg ∧ (s.finishAt w st res mt).flash = s.flash ∧
    (s.finishAt w st res mt).acts = s.acts ∧ (s.finishAt w st res mt).valves = s.valves ∧
    (s.finishAt w st res mt).tiles = s.tiles ∧ (s.finishAt w st res mt).planner = s.planner ∧
    (s.finishAt w st res mt).nav = s.nav ∧ (s.finishAt w st res mt).loops = s.loops ∧
    (s.finishAt w st res mt).field = s.field ∧ (s.finishAt w st res mt).can = s.can := by
  unfold State.finishAt; dsimp only; (repeat' split) <;> simp

@[simp] theorem State.finish_keeps (s : State) (w : Waiting) (st : Status) (res : BitVec 128) :
    (s.finish w st res).pending = s.pending ∧ (s.finish w st res).free = s.free ∧
    (s.finish w st res).time = s.time ∧ (s.finish w st res).dev = s.dev ∧ (s.finish w st res).pwr = s.pwr ∧
    (s.finish w st res).sag = s.sag ∧ (s.finish w st res).cfg = s.cfg ∧ (s.finish w st res).flash = s.flash ∧
    (s.finish w st res).acts = s.acts ∧ (s.finish w st res).valves = s.valves ∧
    (s.finish w st res).tiles = s.tiles ∧ (s.finish w st res).planner = s.planner ∧
    (s.finish w st res).nav = s.nav ∧ (s.finish w st res).loops = s.loops ∧ (s.finish w st res).field = s.field ∧
    (s.finish w st res).can = s.can := by
  simp [State.finish]

@[simp] theorem State.finishNone_keeps (s : State) (w : Waiting) (st : Status) (res : BitVec 128) :
    (s.finishNone w st res).pending = s.pending ∧ (s.finishNone w st res).free = s.free ∧
    (s.finishNone w st res).time = s.time ∧ (s.finishNone w st res).dev = s.dev ∧
    (s.finishNone w st res).pwr = s.pwr ∧ (s.finishNone w st res).sag = s.sag ∧
    (s.finishNone w st res).cfg = s.cfg ∧ (s.finishNone w st res).flash = s.flash ∧
    (s.finishNone w st res).acts = s.acts ∧ (s.finishNone w st res).valves = s.valves ∧
    (s.finishNone w st res).tiles = s.tiles ∧ (s.finishNone w st res).planner = s.planner ∧
    (s.finishNone w st res).nav = s.nav ∧ (s.finishNone w st res).loops = s.loops ∧
    (s.finishNone w st res).field = s.field ∧ (s.finishNone w st res).can = s.can := by
  simp [State.finishNone]

end Sys2Proof.Machine
end

