-- ==== Sys2Proof/Laws/FrameValveOps.lean ====
section
/-! SUPPORT. What the operations of Machine/ValveOps.lean leave alone: one lemma per operation, the conjunction of
every field of State that it keeps. -/

set_option Elab.async false

open Sys2Proof Sys2Proof.Machine

namespace Sys2Proof.Machine

@[simp] theorem State.noteLoad_keeps (s : State) (ch : Nat) :
    (State.noteLoad s ch).pending = s.pending ∧ (State.noteLoad s ch).free = s.free ∧
    (State.noteLoad s ch).time = s.time ∧ (State.noteLoad s ch).dev = s.dev ∧ (State.noteLoad s ch).pwr = s.pwr ∧
    (State.noteLoad s ch).sag = s.sag ∧ (State.noteLoad s ch).host = s.host ∧ (State.noteLoad s ch).cfg = s.cfg ∧
    (State.noteLoad s ch).flash = s.flash ∧ (State.noteLoad s ch).acts = s.acts ∧
    (State.noteLoad s ch).cnt = s.cnt ∧ (State.noteLoad s ch).tiles = s.tiles ∧
    (State.noteLoad s ch).planner = s.planner ∧ (State.noteLoad s ch).nav = s.nav ∧
    (State.noteLoad s ch).loops = s.loops ∧ (State.noteLoad s ch).field = s.field ∧
    (State.noteLoad s ch).can = s.can := by
  simp [State.noteLoad]

@[simp] theorem State.setRail_keeps (s : State) (g : Nat) :
    (State.setRail s g).pending = s.pending ∧ (State.setRail s g).free = s.free ∧
    (State.setRail s g).time = s.time ∧ (State.setRail s g).dev = s.dev ∧ (State.setRail s g).pwr = s.pwr ∧
    (State.setRail s g).sag = s.sag ∧ (State.setRail s g).host = s.host ∧ (State.setRail s g).cfg = s.cfg ∧
    (State.setRail s g).flash = s.flash ∧ (State.setRail s g).acts = s.acts ∧ (State.setRail s g).cnt = s.cnt ∧
    (State.setRail s g).tiles = s.tiles ∧ (State.setRail s g).planner = s.planner ∧
    (State.setRail s g).nav = s.nav ∧ (State.setRail s g).loops = s.loops ∧ (State.setRail s g).field = s.field ∧
    (State.setRail s g).can = s.can := by
  simp [State.setRail]

@[simp] theorem State.readRes_keeps (s : State) (q mv : Nat) :
    (State.readRes s q mv).pending = s.pending ∧ (State.readRes s q mv).free = s.free ∧
    (State.readRes s q mv).time = s.time ∧ (State.readRes s q mv).dev = s.dev ∧ (State.readRes s q mv).sag = s.sag ∧
    (State.readRes s q mv).host = s.host ∧ (State.readRes s q mv).cfg = s.cfg ∧
    (State.readRes s q mv).flash = s.flash ∧ (State.readRes s q mv).acts = s.acts ∧
    (State.readRes s q mv).cnt = s.cnt ∧ (State.readRes s q mv).tiles = s.tiles ∧
    (State.readRes s q mv).planner = s.planner ∧ (State.readRes s q mv).nav = s.nav ∧
    (State.readRes s q mv).loops = s.loops ∧ (State.readRes s q mv).field = s.field ∧
    (State.readRes s q mv).can = s.can := by
  simp [State.readRes]

@[simp] theorem State.endPhase_keeps (s : State) (ch t : Nat) :
    (State.endPhase s ch t).pending = s.pending ∧ (State.endPhase s ch t).free = s.free ∧
    (State.endPhase s ch t).time = s.time ∧ (State.endPhase s ch t).dev = s.dev ∧
    (State.endPhase s ch t).pwr = s.pwr ∧ (State.endPhase s ch t).sag = s.sag ∧
    (State.endPhase s ch t).host = s.host ∧ (State.endPhase s ch t).cfg = s.cfg ∧
    (State.endPhase s ch t).flash = s.flash ∧ (State.endPhase s ch t).acts = s.acts ∧
    (State.endPhase s ch t).cnt = s.cnt ∧ (State.endPhase s ch t).tiles = s.tiles ∧
    (State.endPhase s ch t).planner = s.planner ∧ (State.endPhase s ch t).nav = s.nav ∧
    (State.endPhase s ch t).loops = s.loops ∧ (State.endPhase s ch t).field = s.field ∧
    (State.endPhase s ch t).can = s.can := by
  unfold State.endPhase; dsimp only; (repeat' split) <;> simp_all

@[simp] theorem State.noteReg_keeps (s : State) (ch t : Nat) :
    (State.noteReg s ch t).pending = s.pending ∧ (State.noteReg s ch t).free = s.free ∧
    (State.noteReg s ch t).time = s.time ∧ (State.noteReg s ch t).dev = s.dev ∧ (State.noteReg s ch t).pwr = s.pwr ∧
    (State.noteReg s ch t).sag = s.sag ∧ (State.noteReg s ch t).host = s.host ∧ (State.noteReg s ch t).cfg = s.cfg ∧
    (State.noteReg s ch t).flash = s.flash ∧ (State.noteReg s ch t).acts = s.acts ∧
    (State.noteReg s ch t).cnt = s.cnt ∧ (State.noteReg s ch t).tiles = s.tiles ∧
    (State.noteReg s ch t).planner = s.planner ∧ (State.noteReg s ch t).nav = s.nav ∧
    (State.noteReg s ch t).loops = s.loops ∧ (State.noteReg s ch t).field = s.field ∧
    (State.noteReg s ch t).can = s.can := by
  simp [State.noteReg]

@[simp] theorem State.watch_keeps (s : State) (ch : Nat) (xs : List (Nat × Nat)) :
    (State.watch s ch xs).pending = s.pending ∧ (State.watch s ch xs).free = s.free ∧
    (State.watch s ch xs).time = s.time ∧ (State.watch s ch xs).dev = s.dev ∧ (State.watch s ch xs).pwr = s.pwr ∧
    (State.watch s ch xs).sag = s.sag ∧ (State.watch s ch xs).host = s.host ∧ (State.watch s ch xs).cfg = s.cfg ∧
    (State.watch s ch xs).flash = s.flash ∧ (State.watch s ch xs).acts = s.acts ∧
    (State.watch s ch xs).cnt = s.cnt ∧ (State.watch s ch xs).tiles = s.tiles ∧
    (State.watch s ch xs).planner = s.planner ∧ (State.watch s ch xs).nav = s.nav ∧
    (State.watch s ch xs).loops = s.loops ∧ (State.watch s ch xs).field = s.field ∧
    (State.watch s ch xs).can = s.can := by
  simp [State.watch]

@[simp] theorem State.countClamp_keeps (s : State) (ch : Nat) :
    (State.countClamp s ch).pending = s.pending ∧ (State.countClamp s ch).free = s.free ∧
    (State.countClamp s ch).time = s.time ∧ (State.countClamp s ch).dev = s.dev ∧
    (State.countClamp s ch).pwr = s.pwr ∧ (State.countClamp s ch).sag = s.sag ∧
    (State.countClamp s ch).host = s.host ∧ (State.countClamp s ch).cfg = s.cfg ∧
    (State.countClamp s ch).flash = s.flash ∧ (State.countClamp s ch).acts = s.acts ∧
    (State.countClamp s ch).valves = s.valves ∧ (State.countClamp s ch).tiles = s.tiles ∧
    (State.countClamp s ch).planner = s.planner ∧ (State.countClamp s ch).nav = s.nav ∧
    (State.countClamp s ch).loops = s.loops ∧ (State.countClamp s ch).field = s.field ∧
    (State.countClamp s ch).can = s.can := by
  simp [State.countClamp]

@[simp] theorem State.countPhase_keeps (s : State) (ch : Nat) :
    (State.countPhase s ch).pending = s.pending ∧ (State.countPhase s ch).free = s.free ∧
    (State.countPhase s ch).time = s.time ∧ (State.countPhase s ch).dev = s.dev ∧
    (State.countPhase s ch).pwr = s.pwr ∧ (State.countPhase s ch).sag = s.sag ∧
    (State.countPhase s ch).host = s.host ∧ (State.countPhase s ch).cfg = s.cfg ∧
    (State.countPhase s ch).flash = s.flash ∧ (State.countPhase s ch).acts = s.acts ∧
    (State.countPhase s ch).tiles = s.tiles ∧ (State.countPhase s ch).planner = s.planner ∧
    (State.countPhase s ch).nav = s.nav ∧ (State.countPhase s ch).loops = s.loops ∧
    (State.countPhase s ch).field = s.field ∧ (State.countPhase s ch).can = s.can := by
  simp [State.countPhase]

@[simp] theorem State.grantClaim_keeps (s : State) (ch t : Nat) :
    (State.grantClaim s ch t).pending = s.pending ∧ (State.grantClaim s ch t).free = s.free ∧
    (State.grantClaim s ch t).time = s.time ∧ (State.grantClaim s ch t).dev = s.dev ∧
    (State.grantClaim s ch t).pwr = s.pwr ∧ (State.grantClaim s ch t).sag = s.sag ∧
    (State.grantClaim s ch t).host = s.host ∧ (State.grantClaim s ch t).cfg = s.cfg ∧
    (State.grantClaim s ch t).flash = s.flash ∧ (State.grantClaim s ch t).acts = s.acts ∧
    (State.grantClaim s ch t).tiles = s.tiles ∧ (State.grantClaim s ch t).planner = s.planner ∧
    (State.grantClaim s ch t).nav = s.nav ∧ (State.grantClaim s ch t).loops = s.loops ∧
    (State.grantClaim s ch t).field = s.field ∧ (State.grantClaim s ch t).can = s.can := by
  simp [State.grantClaim]

@[simp] theorem State.refuseClaim_keeps (s : State) (ch t : Nat) :
    (State.refuseClaim s ch t).pending = s.pending ∧ (State.refuseClaim s ch t).free = s.free ∧
    (State.refuseClaim s ch t).time = s.time ∧ (State.refuseClaim s ch t).dev = s.dev ∧
    (State.refuseClaim s ch t).pwr = s.pwr ∧ (State.refuseClaim s ch t).sag = s.sag ∧
    (State.refuseClaim s ch t).host = s.host ∧ (State.refuseClaim s ch t).cfg = s.cfg ∧
    (State.refuseClaim s ch t).flash = s.flash ∧ (State.refuseClaim s ch t).acts = s.acts ∧
    (State.refuseClaim s ch t).tiles = s.tiles ∧ (State.refuseClaim s ch t).planner = s.planner ∧
    (State.refuseClaim s ch t).nav = s.nav ∧ (State.refuseClaim s ch t).loops = s.loops ∧
    (State.refuseClaim s ch t).field = s.field ∧ (State.refuseClaim s ch t).can = s.can := by
  simp [State.refuseClaim]

@[simp] theorem State.askClaim_keeps (s : State) (ch b : Nat) :
    (State.askClaim s ch b).pending = s.pending ∧ (State.askClaim s ch b).free = s.free ∧
    (State.askClaim s ch b).time = s.time ∧ (State.askClaim s ch b).dev = s.dev ∧
    (State.askClaim s ch b).pwr = s.pwr ∧ (State.askClaim s ch b).sag = s.sag ∧
    (State.askClaim s ch b).host = s.host ∧ (State.askClaim s ch b).cfg = s.cfg ∧
    (State.askClaim s ch b).flash = s.flash ∧ (State.askClaim s ch b).acts = s.acts ∧
    (State.askClaim s ch b).tiles = s.tiles ∧ (State.askClaim s ch b).planner = s.planner ∧
    (State.askClaim s ch b).nav = s.nav ∧ (State.askClaim s ch b).loops = s.loops ∧
    (State.askClaim s ch b).field = s.field ∧ (State.askClaim s ch b).can = s.can := by
  simp [State.askClaim]

@[simp] theorem State.ungrant_keeps (s : State) (ch : Nat) (old : Ctx) :
    (State.ungrant s ch old).pending = s.pending ∧ (State.ungrant s ch old).free = s.free ∧
    (State.ungrant s ch old).time = s.time ∧ (State.ungrant s ch old).dev = s.dev ∧
    (State.ungrant s ch old).pwr = s.pwr ∧ (State.ungrant s ch old).sag = s.sag ∧
    (State.ungrant s ch old).host = s.host ∧ (State.ungrant s ch old).cfg = s.cfg ∧
    (State.ungrant s ch old).flash = s.flash ∧ (State.ungrant s ch old).acts = s.acts ∧
    (State.ungrant s ch old).cnt = s.cnt ∧ (State.ungrant s ch old).tiles = s.tiles ∧
    (State.ungrant s ch old).planner = s.planner ∧ (State.ungrant s ch old).nav = s.nav ∧
    (State.ungrant s ch old).loops = s.loops ∧ (State.ungrant s ch old).field = s.field ∧
    (State.ungrant s ch old).can = s.can := by
  simp [State.ungrant]

@[simp] theorem State.requestClaim_keeps (s : State) (ch b : Nat) :
    (State.requestClaim s ch b).pending = s.pending ∧ (State.requestClaim s ch b).free = s.free ∧
    (State.requestClaim s ch b).time = s.time ∧ (State.requestClaim s ch b).dev = s.dev ∧
    (State.requestClaim s ch b).pwr = s.pwr ∧ (State.requestClaim s ch b).sag = s.sag ∧
    (State.requestClaim s ch b).host = s.host ∧ (State.requestClaim s ch b).cfg = s.cfg ∧
    (State.requestClaim s ch b).flash = s.flash ∧ (State.requestClaim s ch b).acts = s.acts ∧
    (State.requestClaim s ch b).tiles = s.tiles ∧ (State.requestClaim s ch b).planner = s.planner ∧
    (State.requestClaim s ch b).nav = s.nav ∧ (State.requestClaim s ch b).loops = s.loops ∧
    (State.requestClaim s ch b).field = s.field ∧ (State.requestClaim s ch b).can = s.can := by
  unfold State.requestClaim; (repeat' split) <;> simp

@[simp] theorem State.toFallback_keeps (s : State) (ch : Nat) :
    (State.toFallback s ch).pending = s.pending ∧ (State.toFallback s ch).free = s.free ∧
    (State.toFallback s ch).time = s.time ∧ (State.toFallback s ch).dev = s.dev ∧
    (State.toFallback s ch).pwr = s.pwr ∧ (State.toFallback s ch).sag = s.sag ∧
    (State.toFallback s ch).host = s.host ∧ (State.toFallback s ch).cfg = s.cfg ∧
    (State.toFallback s ch).flash = s.flash ∧ (State.toFallback s ch).acts = s.acts ∧
    (State.toFallback s ch).cnt = s.cnt ∧ (State.toFallback s ch).tiles = s.tiles ∧
    (State.toFallback s ch).planner = s.planner ∧ (State.toFallback s ch).nav = s.nav ∧
    (State.toFallback s ch).loops = s.loops ∧ (State.toFallback s ch).field = s.field ∧
    (State.toFallback s ch).can = s.can := by
  simp [State.toFallback]

@[simp] theorem State.seedFilters_keeps (s : State) (ch : Nat) :
    (State.seedFilters s ch).pending = s.pending ∧ (State.seedFilters s ch).free = s.free ∧
    (State.seedFilters s ch).time = s.time ∧ (State.seedFilters s ch).dev = s.dev ∧
    (State.seedFilters s ch).pwr = s.pwr ∧ (State.seedFilters s ch).sag = s.sag ∧
    (State.seedFilters s ch).cfg = s.cfg ∧ (State.seedFilters s ch).flash = s.flash ∧
    (State.seedFilters s ch).acts = s.acts ∧ (State.seedFilters s ch).tiles = s.tiles ∧
    (State.seedFilters s ch).planner = s.planner ∧ (State.seedFilters s ch).nav = s.nav ∧
    (State.seedFilters s ch).loops = s.loops ∧ (State.seedFilters s ch).field = s.field ∧
    (State.seedFilters s ch).can = s.can := by
  unfold State.seedFilters; dsimp only; (repeat' split) <;> simp_all

@[simp] theorem State.report_keeps (s : State) (ch : Nat) (cancelled : Bool) (closing : Bool) :
    (State.report s ch cancelled closing).pending = s.pending ∧
    (State.report s ch cancelled closing).free = s.free ∧ (State.report s ch cancelled closing).time = s.time ∧
    (State.report s ch cancelled closing).dev = s.dev ∧ (State.report s ch cancelled closing).pwr = s.pwr ∧
    (State.report s ch cancelled closing).sag = s.sag ∧ (State.report s ch cancelled closing).cfg = s.cfg ∧
    (State.report s ch cancelled closing).flash = s.flash ∧ (State.report s ch cancelled closing).acts = s.acts ∧
    (State.report s ch cancelled closing).cnt = s.cnt ∧ (State.report s ch cancelled closing).tiles = s.tiles ∧
    (State.report s ch cancelled closing).planner = s.planner ∧ (State.report s ch cancelled closing).nav = s.nav ∧
    (State.report s ch cancelled closing).loops = s.loops ∧ (State.report s ch cancelled closing).field = s.field ∧
    (State.report s ch cancelled closing).can = s.can := by
  simp [State.report]

@[simp] theorem State.missed_keeps (s : State) (ch : Nat) (closing : Bool) :
    (State.missed s ch closing).pending = s.pending ∧ (State.missed s ch closing).free = s.free ∧
    (State.missed s ch closing).time = s.time ∧ (State.missed s ch closing).dev = s.dev ∧
    (State.missed s ch closing).pwr = s.pwr ∧ (State.missed s ch closing).sag = s.sag ∧
    (State.missed s ch closing).cfg = s.cfg ∧ (State.missed s ch closing).flash = s.flash ∧
    (State.missed s ch closing).acts = s.acts ∧ (State.missed s ch closing).tiles = s.tiles ∧
    (State.missed s ch closing).planner = s.planner ∧ (State.missed s ch closing).nav = s.nav ∧
    (State.missed s ch closing).loops = s.loops ∧ (State.missed s ch closing).field = s.field ∧
    (State.missed s ch closing).can = s.can := by
  simp [State.missed]

@[simp] theorem State.sample_keeps (s : State) (ch : Nat) (closing : Bool) (x : Rat) :
    (State.sample s ch closing x).pending = s.pending ∧ (State.sample s ch closing x).free = s.free ∧
    (State.sample s ch closing x).time = s.time ∧ (State.sample s ch closing x).dev = s.dev ∧
    (State.sample s ch closing x).pwr = s.pwr ∧ (State.sample s ch closing x).sag = s.sag ∧
    (State.sample s ch closing x).host = s.host ∧ (State.sample s ch closing x).cfg = s.cfg ∧
    (State.sample s ch closing x).flash = s.flash ∧ (State.sample s ch closing x).acts = s.acts ∧
    (State.sample s ch closing x).cnt = s.cnt ∧ (State.sample s ch closing x).tiles = s.tiles ∧
    (State.sample s ch closing x).planner = s.planner ∧ (State.sample s ch closing x).nav = s.nav ∧
    (State.sample s ch closing x).loops = s.loops ∧ (State.sample s ch closing x).field = s.field ∧
    (State.sample s ch closing x).can = s.can := by
  simp [State.sample]

@[simp] theorem State.judge_keeps (s : State) (ch : Nat) :
    (State.judge s ch).pending = s.pending ∧ (State.judge s ch).free = s.free ∧ (State.judge s ch).time = s.time ∧
    (State.judge s ch).dev = s.dev ∧ (State.judge s ch).pwr = s.pwr ∧ (State.judge s ch).sag = s.sag ∧
    (State.judge s ch).cfg = s.cfg ∧ (State.judge s ch).flash = s.flash ∧ (State.judge s ch).acts = s.acts ∧
    (State.judge s ch).tiles = s.tiles ∧ (State.judge s ch).planner = s.planner ∧ (State.judge s ch).nav = s.nav ∧
    (State.judge s ch).loops = s.loops ∧ (State.judge s ch).field = s.field ∧ (State.judge s ch).can = s.can := by
  simp [State.judge]

@[simp] theorem State.updSwept_keeps (s : State) (ch : Nat) (f : Swept → Swept) :
    (State.updSwept s ch f).pending = s.pending ∧ (State.updSwept s ch f).free = s.free ∧
    (State.updSwept s ch f).time = s.time ∧ (State.updSwept s ch f).dev = s.dev ∧
    (State.updSwept s ch f).pwr = s.pwr ∧ (State.updSwept s ch f).sag = s.sag ∧
    (State.updSwept s ch f).host = s.host ∧ (State.updSwept s ch f).cfg = s.cfg ∧
    (State.updSwept s ch f).flash = s.flash ∧ (State.updSwept s ch f).cnt = s.cnt ∧
    (State.updSwept s ch f).valves = s.valves ∧ (State.updSwept s ch f).tiles = s.tiles ∧
    (State.updSwept s ch f).planner = s.planner ∧ (State.updSwept s ch f).nav = s.nav ∧
    (State.updSwept s ch f).loops = s.loops ∧ (State.updSwept s ch f).field = s.field ∧
    (State.updSwept s ch f).can = s.can := by
  exact ⟨rfl, rfl, rfl, rfl, rfl, rfl, rfl, rfl, rfl, rfl, rfl, rfl, rfl, rfl, rfl, rfl, rfl⟩

@[simp] theorem State.sweepPlace_keeps (s : State) (ch t : Nat) :
    (State.sweepPlace s ch t).pending = s.pending ∧ (State.sweepPlace s ch t).free = s.free ∧
    (State.sweepPlace s ch t).time = s.time ∧ (State.sweepPlace s ch t).dev = s.dev ∧
    (State.sweepPlace s ch t).pwr = s.pwr ∧ (State.sweepPlace s ch t).sag = s.sag ∧
    (State.sweepPlace s ch t).host = s.host ∧ (State.sweepPlace s ch t).cfg = s.cfg ∧
    (State.sweepPlace s ch t).flash = s.flash ∧ (State.sweepPlace s ch t).acts = s.acts ∧
    (State.sweepPlace s ch t).cnt = s.cnt ∧ (State.sweepPlace s ch t).valves = s.valves ∧
    (State.sweepPlace s ch t).tiles = s.tiles ∧ (State.sweepPlace s ch t).nav = s.nav ∧
    (State.sweepPlace s ch t).loops = s.loops ∧ (State.sweepPlace s ch t).field = s.field ∧
    (State.sweepPlace s ch t).can = s.can := by
  simp [State.sweepPlace]

@[simp] theorem State.sweepNext_keeps (s : State) (g t : Nat) :
    (State.sweepNext s g t).pending = s.pending ∧ (State.sweepNext s g t).free = s.free ∧
    (State.sweepNext s g t).time = s.time ∧ (State.sweepNext s g t).dev = s.dev ∧
    (State.sweepNext s g t).pwr = s.pwr ∧ (State.sweepNext s g t).sag = s.sag ∧
    (State.sweepNext s g t).host = s.host ∧ (State.sweepNext s g t).cfg = s.cfg ∧
    (State.sweepNext s g t).flash = s.flash ∧ (State.sweepNext s g t).cnt = s.cnt ∧
    (State.sweepNext s g t).valves = s.valves ∧ (State.sweepNext s g t).tiles = s.tiles ∧
    (State.sweepNext s g t).nav = s.nav ∧ (State.sweepNext s g t).loops = s.loops ∧
    (State.sweepNext s g t).field = s.field ∧ (State.sweepNext s g t).can = s.can := by
  unfold State.sweepNext; (repeat' split) <;> simp

@[simp] theorem State.sweepAfter_keeps (s : State) (e : Edge) :
    (State.sweepAfter s e).pending = s.pending ∧ (State.sweepAfter s e).free = s.free ∧
    (State.sweepAfter s e).time = s.time ∧ (State.sweepAfter s e).dev = s.dev ∧ (State.sweepAfter s e).pwr = s.pwr ∧
    (State.sweepAfter s e).sag = s.sag ∧ (State.sweepAfter s e).host = s.host ∧ (State.sweepAfter s e).cfg = s.cfg ∧
    (State.sweepAfter s e).flash = s.flash ∧ (State.sweepAfter s e).cnt = s.cnt ∧
    (State.sweepAfter s e).valves = s.valves ∧ (State.sweepAfter s e).tiles = s.tiles ∧
    (State.sweepAfter s e).nav = s.nav ∧ (State.sweepAfter s e).loops = s.loops ∧
    (State.sweepAfter s e).field = s.field ∧ (State.sweepAfter s e).can = s.can := by
  simp [State.sweepAfter]

@[simp] theorem State.decideOpen_keeps (s : State) (ch : Nat) (o : Outc) (stamp : Nat) :
    (State.decideOpen s ch o stamp).pending = s.pending ∧ (State.decideOpen s ch o stamp).free = s.free ∧
    (State.decideOpen s ch o stamp).time = s.time ∧ (State.decideOpen s ch o stamp).dev = s.dev ∧
    (State.decideOpen s ch o stamp).pwr = s.pwr ∧ (State.decideOpen s ch o stamp).sag = s.sag ∧
    (State.decideOpen s ch o stamp).cfg = s.cfg ∧ (State.decideOpen s ch o stamp).flash = s.flash ∧
    (State.decideOpen s ch o stamp).tiles = s.tiles ∧ (State.decideOpen s ch o stamp).planner = s.planner ∧
    (State.decideOpen s ch o stamp).nav = s.nav ∧ (State.decideOpen s ch o stamp).loops = s.loops ∧
    (State.decideOpen s ch o stamp).field = s.field ∧ (State.decideOpen s ch o stamp).can = s.can := by
  unfold State.decideOpen; (repeat' split) <;> simp

@[simp] theorem State.decideClose_keeps (s : State) (ch : Nat) (o : Outc) (stamp : Nat) :
    (State.decideClose s ch o stamp).pending = s.pending ∧ (State.decideClose s ch o stamp).free = s.free ∧
    (State.decideClose s ch o stamp).time = s.time ∧ (State.decideClose s ch o stamp).dev = s.dev ∧
    (State.decideClose s ch o stamp).pwr = s.pwr ∧ (State.decideClose s ch o stamp).sag = s.sag ∧
    (State.decideClose s ch o stamp).cfg = s.cfg ∧ (State.decideClose s ch o stamp).flash = s.flash ∧
    (State.decideClose s ch o stamp).tiles = s.tiles ∧ (State.decideClose s ch o stamp).planner = s.planner ∧
    (State.decideClose s ch o stamp).nav = s.nav ∧ (State.decideClose s ch o stamp).loops = s.loops ∧
    (State.decideClose s ch o stamp).field = s.field ∧ (State.decideClose s ch o stamp).can = s.can := by
  unfold State.decideClose; (repeat' split) <;> simp

@[simp] theorem State.startProfile_keeps (s : State) (ch t : Nat) :
    (State.startProfile s ch t).pending = s.pending ∧ (State.startProfile s ch t).free = s.free ∧
    (State.startProfile s ch t).time = s.time ∧ (State.startProfile s ch t).dev = s.dev ∧
    (State.startProfile s ch t).pwr = s.pwr ∧ (State.startProfile s ch t).sag = s.sag ∧
    (State.startProfile s ch t).cfg = s.cfg ∧ (State.startProfile s ch t).flash = s.flash ∧
    (State.startProfile s ch t).tiles = s.tiles ∧ (State.startProfile s ch t).planner = s.planner ∧
    (State.startProfile s ch t).nav = s.nav ∧ (State.startProfile s ch t).loops = s.loops ∧
    (State.startProfile s ch t).field = s.field ∧ (State.startProfile s ch t).can = s.can := by
  simp [State.startProfile]

@[simp] theorem State.startDecay_keeps (s : State) (ch t : Nat) (clamp : Bool) :
    (State.startDecay s ch t clamp).pending = s.pending ∧ (State.startDecay s ch t clamp).free = s.free ∧
    (State.startDecay s ch t clamp).time = s.time ∧ (State.startDecay s ch t clamp).dev = s.dev ∧
    (State.startDecay s ch t clamp).pwr = s.pwr ∧ (State.startDecay s ch t clamp).sag = s.sag ∧
    (State.startDecay s ch t clamp).cfg = s.cfg ∧ (State.startDecay s ch t clamp).flash = s.flash ∧
    (State.startDecay s ch t clamp).tiles = s.tiles ∧ (State.startDecay s ch t clamp).planner = s.planner ∧
    (State.startDecay s ch t clamp).nav = s.nav ∧ (State.startDecay s ch t clamp).loops = s.loops ∧
    (State.startDecay s ch t clamp).field = s.field ∧ (State.startDecay s ch t clamp).can = s.can := by
  simp [State.startDecay]

@[simp] theorem State.noteAct_keeps (s : State) (ch t : Nat) :
    (State.noteAct s ch t).pending = s.pending ∧ (State.noteAct s ch t).free = s.free ∧
    (State.noteAct s ch t).time = s.time ∧ (State.noteAct s ch t).dev = s.dev ∧ (State.noteAct s ch t).pwr = s.pwr ∧
    (State.noteAct s ch t).sag = s.sag ∧ (State.noteAct s ch t).cfg = s.cfg ∧
    (State.noteAct s ch t).flash = s.flash ∧ (State.noteAct s ch t).acts = s.acts ∧
    (State.noteAct s ch t).tiles = s.tiles ∧ (State.noteAct s ch t).planner = s.planner ∧
    (State.noteAct s ch t).nav = s.nav ∧ (State.noteAct s ch t).loops = s.loops ∧
    (State.noteAct s ch t).field = s.field ∧ (State.noteAct s ch t).can = s.can := by
  simp [State.noteAct]

@[simp] theorem State.stopActuation_keeps (s : State) (ch t : Nat) (clamp : Bool) :
    (State.stopActuation s ch t clamp).pending = s.pending ∧ (State.stopActuation s ch t clamp).free = s.free ∧
    (State.stopActuation s ch t clamp).time = s.time ∧ (State.stopActuation s ch t clamp).dev = s.dev ∧
    (State.stopActuation s ch t clamp).pwr = s.pwr ∧ (State.stopActuation s ch t clamp).sag = s.sag ∧
    (State.stopActuation s ch t clamp).cfg = s.cfg ∧ (State.stopActuation s ch t clamp).flash = s.flash ∧
    (State.stopActuation s ch t clamp).tiles = s.tiles ∧ (State.stopActuation s ch t clamp).planner = s.planner ∧
    (State.stopActuation s ch t clamp).nav = s.nav ∧ (State.stopActuation s ch t clamp).loops = s.loops ∧
    (State.stopActuation s ch t clamp).field = s.field ∧ (State.stopActuation s ch t clamp).can = s.can := by
  unfold State.stopActuation; dsimp only; (repeat' split) <;> simp_all

@[simp] theorem State.cancelOn_keeps (s : State) (ch t : Nat) :
    (State.cancelOn s ch t).pending = s.pending ∧ (State.cancelOn s ch t).free = s.free ∧
    (State.cancelOn s ch t).time = s.time ∧ (State.cancelOn s ch t).dev = s.dev ∧
    (State.cancelOn s ch t).pwr = s.pwr ∧ (State.cancelOn s ch t).sag = s.sag ∧
    (State.cancelOn s ch t).host = s.host ∧ (State.cancelOn s ch t).cfg = s.cfg ∧
    (State.cancelOn s ch t).flash = s.flash ∧ (State.cancelOn s ch t).acts = s.acts ∧
    (State.cancelOn s ch t).cnt = s.cnt ∧ (State.cancelOn s ch t).tiles = s.tiles ∧
    (State.cancelOn s ch t).planner = s.planner ∧ (State.cancelOn s ch t).nav = s.nav ∧
    (State.cancelOn s ch t).loops = s.loops ∧ (State.cancelOn s ch t).field = s.field ∧
    (State.cancelOn s ch t).can = s.can := by
  simp [State.cancelOn]

@[simp] theorem State.clampDecay_keeps (s : State) (ch : Nat) :
    (State.clampDecay s ch).pending = s.pending ∧ (State.clampDecay s ch).free = s.free ∧
    (State.clampDecay s ch).time = s.time ∧ (State.clampDecay s ch).dev = s.dev ∧
    (State.clampDecay s ch).pwr = s.pwr ∧ (State.clampDecay s ch).sag = s.sag ∧
    (State.clampDecay s ch).host = s.host ∧ (State.clampDecay s ch).cfg = s.cfg ∧
    (State.clampDecay s ch).flash = s.flash ∧ (State.clampDecay s ch).acts = s.acts ∧
    (State.clampDecay s ch).cnt = s.cnt ∧ (State.clampDecay s ch).tiles = s.tiles ∧
    (State.clampDecay s ch).planner = s.planner ∧ (State.clampDecay s ch).nav = s.nav ∧
    (State.clampDecay s ch).loops = s.loops ∧ (State.clampDecay s ch).field = s.field ∧
    (State.clampDecay s ch).can = s.can := by
  simp [State.clampDecay]

@[simp] theorem State.forceOff_keeps (s : State) (ch : Nat) :
    (State.forceOff s ch).pending = s.pending ∧ (State.forceOff s ch).free = s.free ∧
    (State.forceOff s ch).time = s.time ∧ (State.forceOff s ch).dev = s.dev ∧ (State.forceOff s ch).pwr = s.pwr ∧
    (State.forceOff s ch).sag = s.sag ∧ (State.forceOff s ch).cfg = s.cfg ∧ (State.forceOff s ch).flash = s.flash ∧
    (State.forceOff s ch).tiles = s.tiles ∧ (State.forceOff s ch).planner = s.planner ∧
    (State.forceOff s ch).nav = s.nav ∧ (State.forceOff s ch).loops = s.loops ∧
    (State.forceOff s ch).field = s.field ∧ (State.forceOff s ch).can = s.can := by
  unfold State.forceOff; dsimp only; (repeat' split) <;> simp_all

@[simp] theorem State.latchCh_keeps (s : State) (ch finding : Nat) :
    (State.latchCh s ch finding).pending = s.pending ∧ (State.latchCh s ch finding).free = s.free ∧
    (State.latchCh s ch finding).time = s.time ∧ (State.latchCh s ch finding).dev = s.dev ∧
    (State.latchCh s ch finding).pwr = s.pwr ∧ (State.latchCh s ch finding).sag = s.sag ∧
    (State.latchCh s ch finding).cfg = s.cfg ∧ (State.latchCh s ch finding).flash = s.flash ∧
    (State.latchCh s ch finding).tiles = s.tiles ∧ (State.latchCh s ch finding).planner = s.planner ∧
    (State.latchCh s ch finding).nav = s.nav ∧ (State.latchCh s ch finding).loops = s.loops ∧
    (State.latchCh s ch finding).field = s.field ∧ (State.latchCh s ch finding).can = s.can := by
  simp [State.latchCh]

@[simp] theorem State.channelFault_keeps (s : State) (ch finding : Nat) (partner : Nat) :
    (State.channelFault s ch finding partner).pending = s.pending ∧
    (State.channelFault s ch finding partner).free = s.free ∧
    (State.channelFault s ch finding partner).time = s.time ∧
    (State.channelFault s ch finding partner).dev = s.dev ∧ (State.channelFault s ch finding partner).pwr = s.pwr ∧
    (State.channelFault s ch finding partner).sag = s.sag ∧ (State.channelFault s ch finding partner).cfg = s.cfg ∧
    (State.channelFault s ch finding partner).tiles = s.tiles ∧
    (State.channelFault s ch finding partner).planner = s.planner ∧
    (State.channelFault s ch finding partner).nav = s.nav ∧
    (State.channelFault s ch finding partner).loops = s.loops ∧
    (State.channelFault s ch finding partner).field = s.field ∧
    (State.channelFault s ch finding partner).can = s.can := by
  simp [State.channelFault]

@[simp] theorem State.latchGroup_keeps (s : State) (g finding : Nat) :
    (State.latchGroup s g finding).pending = s.pending ∧ (State.latchGroup s g finding).free = s.free ∧
    (State.latchGroup s g finding).time = s.time ∧ (State.latchGroup s g finding).dev = s.dev ∧
    (State.latchGroup s g finding).pwr = s.pwr ∧ (State.latchGroup s g finding).sag = s.sag ∧
    (State.latchGroup s g finding).cfg = s.cfg ∧ (State.latchGroup s g finding).flash = s.flash ∧
    (State.latchGroup s g finding).tiles = s.tiles ∧ (State.latchGroup s g finding).planner = s.planner ∧
    (State.latchGroup s g finding).nav = s.nav ∧ (State.latchGroup s g finding).loops = s.loops ∧
    (State.latchGroup s g finding).field = s.field ∧ (State.latchGroup s g finding).can = s.can := by
  simp [State.latchGroup]

@[simp] theorem State.groupFault_keeps (s : State) (g finding : Nat) :
    (State.groupFault s g finding).pending = s.pending ∧ (State.groupFault s g finding).free = s.free ∧
    (State.groupFault s g finding).time = s.time ∧ (State.groupFault s g finding).dev = s.dev ∧
    (State.groupFault s g finding).pwr = s.pwr ∧ (State.groupFault s g finding).sag = s.sag ∧
    (State.groupFault s g finding).cfg = s.cfg ∧ (State.groupFault s g finding).tiles = s.tiles ∧
    (State.groupFault s g finding).planner = s.planner ∧ (State.groupFault s g finding).nav = s.nav ∧
    (State.groupFault s g finding).loops = s.loops ∧ (State.groupFault s g finding).field = s.field ∧
    (State.groupFault s g finding).can = s.can := by
  simp [State.groupFault]

@[simp] theorem State.valvesSafe_keeps (s : State) :
    (State.valvesSafe s).pending = s.pending ∧ (State.valvesSafe s).free = s.free ∧
    (State.valvesSafe s).time = s.time ∧ (State.valvesSafe s).dev = s.dev ∧ (State.valvesSafe s).pwr = s.pwr ∧
    (State.valvesSafe s).sag = s.sag ∧ (State.valvesSafe s).cfg = s.cfg ∧ (State.valvesSafe s).flash = s.flash ∧
    (State.valvesSafe s).tiles = s.tiles ∧ (State.valvesSafe s).planner = s.planner ∧
    (State.valvesSafe s).nav = s.nav ∧ (State.valvesSafe s).loops = s.loops ∧ (State.valvesSafe s).field = s.field ∧
    (State.valvesSafe s).can = s.can := by
  simp [State.valvesSafe]

@[simp] theorem State.onRelease_keeps (s : State) (ch t : Nat) :
    (State.onRelease s ch t).pending = s.pending ∧ (State.onRelease s ch t).free = s.free ∧
    (State.onRelease s ch t).time = s.time ∧ (State.onRelease s ch t).dev = s.dev ∧
    (State.onRelease s ch t).pwr = s.pwr ∧ (State.onRelease s ch t).sag = s.sag ∧
    (State.onRelease s ch t).cfg = s.cfg ∧ (State.onRelease s ch t).tiles = s.tiles ∧
    (State.onRelease s ch t).planner = s.planner ∧ (State.onRelease s ch t).nav = s.nav ∧
    (State.onRelease s ch t).loops = s.loops ∧ (State.onRelease s ch t).field = s.field ∧
    (State.onRelease s ch t).can = s.can := by
  unfold State.onRelease; dsimp only; (repeat' split) <;> simp_all

@[simp] theorem State.offRelease_keeps (s : State) (ch t : Nat) :
    (State.offRelease s ch t).pending = s.pending ∧ (State.offRelease s ch t).free = s.free ∧
    (State.offRelease s ch t).time = s.time ∧ (State.offRelease s ch t).dev = s.dev ∧
    (State.offRelease s ch t).pwr = s.pwr ∧ (State.offRelease s ch t).sag = s.sag ∧
    (State.offRelease s ch t).cfg = s.cfg ∧ (State.offRelease s ch t).flash = s.flash ∧
    (State.offRelease s ch t).tiles = s.tiles ∧ (State.offRelease s ch t).planner = s.planner ∧
    (State.offRelease s ch t).nav = s.nav ∧ (State.offRelease s ch t).loops = s.loops ∧
    (State.offRelease s ch t).field = s.field ∧ (State.offRelease s ch t).can = s.can := by
  unfold State.offRelease; dsimp only; (repeat' split) <;> simp_all

@[simp] theorem State.decayEnds_keeps (s : State) (ch : Nat) :
    (State.decayEnds s ch).pending = s.pending ∧ (State.decayEnds s ch).free = s.free ∧
    (State.decayEnds s ch).time = s.time ∧ (State.decayEnds s ch).dev = s.dev ∧ (State.decayEnds s ch).pwr = s.pwr ∧
    (State.decayEnds s ch).sag = s.sag ∧ (State.decayEnds s ch).cfg = s.cfg ∧
    (State.decayEnds s ch).flash = s.flash ∧ (State.decayEnds s ch).tiles = s.tiles ∧
    (State.decayEnds s ch).planner = s.planner ∧ (State.decayEnds s ch).nav = s.nav ∧
    (State.decayEnds s ch).loops = s.loops ∧ (State.decayEnds s ch).field = s.field ∧
    (State.decayEnds s ch).can = s.can := by
  unfold State.decayEnds; dsimp only; (repeat' split) <;> simp_all

@[simp] theorem State.setVLim_keeps (s : State) (q : Nat) :
    (State.setVLim s q).pending = s.pending ∧ (State.setVLim s q).free = s.free ∧
    (State.setVLim s q).time = s.time ∧ (State.setVLim s q).dev = s.dev ∧ (State.setVLim s q).sag = s.sag ∧
    (State.setVLim s q).host = s.host ∧ (State.setVLim s q).cfg = s.cfg ∧ (State.setVLim s q).flash = s.flash ∧
    (State.setVLim s q).acts = s.acts ∧ (State.setVLim s q).cnt = s.cnt ∧ (State.setVLim s q).valves = s.valves ∧
    (State.setVLim s q).tiles = s.tiles ∧ (State.setVLim s q).planner = s.planner ∧
    (State.setVLim s q).nav = s.nav ∧ (State.setVLim s q).loops = s.loops ∧ (State.setVLim s q).field = s.field ∧
    (State.setVLim s q).can = s.can := by
  simp [State.setVLim]

@[simp] theorem State.chargeTest_keeps (s : State) (q c : Nat) :
    (State.chargeTest s q c).pending = s.pending ∧ (State.chargeTest s q c).free = s.free ∧
    (State.chargeTest s q c).time = s.time ∧ (State.chargeTest s q c).dev = s.dev ∧
    (State.chargeTest s q c).sag = s.sag ∧ (State.chargeTest s q c).cfg = s.cfg ∧
    (State.chargeTest s q c).acts = s.acts ∧ (State.chargeTest s q c).tiles = s.tiles ∧
    (State.chargeTest s q c).planner = s.planner ∧ (State.chargeTest s q c).nav = s.nav ∧
    (State.chargeTest s q c).loops = s.loops ∧ (State.chargeTest s q c).field = s.field ∧
    (State.chargeTest s q c).can = s.can := by
  simp [State.chargeTest]

end Sys2Proof.Machine
end

