-- ==== Sys2Proof/Laws/FrameClaims.lean ====
section
/-! SUPPORT. What the operations of Machine/Claims.lean leave alone: one lemma per operation, the conjunction of
every field of State that it keeps. -/

set_option Elab.async false

open Sys2Proof Sys2Proof.Machine

namespace Sys2Proof.Machine

@[simp] theorem State.updLane_keeps (s : State) (lane : Nat) (f : Lane → Lane) :
    (State.updLane s lane f).pending = s.pending ∧ (State.updLane s lane f).free = s.free ∧
    (State.updLane s lane f).time = s.time ∧ (State.updLane s lane f).dev = s.dev ∧
    (State.updLane s lane f).pwr = s.pwr ∧ (State.updLane s lane f).host = s.host ∧
    (State.updLane s lane f).cfg = s.cfg ∧ (State.updLane s lane f).flash = s.flash ∧
    (State.updLane s lane f).acts = s.acts ∧ (State.updLane s lane f).cnt = s.cnt ∧
    (State.updLane s lane f).valves = s.valves ∧ (State.updLane s lane f).tiles = s.tiles ∧
    (State.updLane s lane f).planner = s.planner ∧ (State.updLane s lane f).nav = s.nav ∧
    (State.updLane s lane f).loops = s.loops ∧ (State.updLane s lane f).field = s.field ∧
    (State.updLane s lane f).can = s.can := by
  exact ⟨rfl, rfl, rfl, rfl, rfl, rfl, rfl, rfl, rfl, rfl, rfl, rfl, rfl, rfl, rfl, rfl, rfl⟩

@[simp] theorem State.bufferRec_keeps (s : State) (r : FaultRec) :
    (State.bufferRec s r).pending = s.pending ∧ (State.bufferRec s r).free = s.free ∧
    (State.bufferRec s r).time = s.time ∧ (State.bufferRec s r).dev = s.dev ∧ (State.bufferRec s r).pwr = s.pwr ∧
    (State.bufferRec s r).cfg = s.cfg ∧ (State.bufferRec s r).flash = s.flash ∧
    (State.bufferRec s r).acts = s.acts ∧ (State.bufferRec s r).valves = s.valves ∧
    (State.bufferRec s r).tiles = s.tiles ∧ (State.bufferRec s r).planner = s.planner ∧
    (State.bufferRec s r).nav = s.nav ∧ (State.bufferRec s r).loops = s.loops ∧
    (State.bufferRec s r).field = s.field ∧ (State.bufferRec s r).can = s.can := by
  simp [State.bufferRec]

@[simp] theorem State.noteClass_keeps (s : State) (k lane : Nat) :
    (State.noteClass s k lane).pending = s.pending ∧ (State.noteClass s k lane).free = s.free ∧
    (State.noteClass s k lane).time = s.time ∧ (State.noteClass s k lane).dev = s.dev ∧
    (State.noteClass s k lane).pwr = s.pwr ∧ (State.noteClass s k lane).host = s.host ∧
    (State.noteClass s k lane).cfg = s.cfg ∧ (State.noteClass s k lane).flash = s.flash ∧
    (State.noteClass s k lane).acts = s.acts ∧ (State.noteClass s k lane).cnt = s.cnt ∧
    (State.noteClass s k lane).valves = s.valves ∧ (State.noteClass s k lane).tiles = s.tiles ∧
    (State.noteClass s k lane).planner = s.planner ∧ (State.noteClass s k lane).nav = s.nav ∧
    (State.noteClass s k lane).loops = s.loops ∧ (State.noteClass s k lane).field = s.field ∧
    (State.noteClass s k lane).can = s.can := by
  simp [State.noteClass]

@[simp] theorem State.clearClass_keeps (s : State) (k : Nat) :
    (State.clearClass s k).pending = s.pending ∧ (State.clearClass s k).free = s.free ∧
    (State.clearClass s k).time = s.time ∧ (State.clearClass s k).dev = s.dev ∧ (State.clearClass s k).pwr = s.pwr ∧
    (State.clearClass s k).host = s.host ∧ (State.clearClass s k).cfg = s.cfg ∧
    (State.clearClass s k).flash = s.flash ∧ (State.clearClass s k).acts = s.acts ∧
    (State.clearClass s k).cnt = s.cnt ∧ (State.clearClass s k).valves = s.valves ∧
    (State.clearClass s k).tiles = s.tiles ∧ (State.clearClass s k).planner = s.planner ∧
    (State.clearClass s k).nav = s.nav ∧ (State.clearClass s k).loops = s.loops ∧
    (State.clearClass s k).field = s.field ∧ (State.clearClass s k).can = s.can := by
  simp [State.clearClass]

@[simp] theorem State.settle_keeps (s : State) (k : Nat) :
    (State.settle s k).pending = s.pending ∧ (State.settle s k).free = s.free ∧ (State.settle s k).time = s.time ∧
    (State.settle s k).dev = s.dev ∧ (State.settle s k).pwr = s.pwr ∧ (State.settle s k).host = s.host ∧
    (State.settle s k).cfg = s.cfg ∧ (State.settle s k).flash = s.flash ∧ (State.settle s k).acts = s.acts ∧
    (State.settle s k).cnt = s.cnt ∧ (State.settle s k).valves = s.valves ∧ (State.settle s k).tiles = s.tiles ∧
    (State.settle s k).planner = s.planner ∧ (State.settle s k).nav = s.nav ∧ (State.settle s k).loops = s.loops ∧
    (State.settle s k).field = s.field ∧ (State.settle s k).can = s.can := by
  simp [State.settle]

end Sys2Proof.Machine
end

