-- ==== Sys2Proof/Laws/FrameValves.lean ====
section
/-! SUPPORT. What the operations of Machine/Valves.lean leave alone: one lemma per operation, the conjunction of
every field of State that it keeps. -/

set_option Elab.async false

open Sys2Proof Sys2Proof.Machine

namespace Sys2Proof.Machine

@[simp] theorem State.cross_keeps (s : State) (e : Edge) :
    (State.cross s e).pending = s.pending ∧ (State.cross s e).free = s.free ∧ (State.cross s e).time = s.time ∧
    (State.cross s e).dev = s.dev ∧ (State.cross s e).pwr = s.pwr ∧ (State.cross s e).sag = s.sag ∧
    (State.cross s e).host = s.host ∧ (State.cross s e).cfg = s.cfg ∧ (State.cross s e).flash = s.flash ∧
    (State.cross s e).cnt = s.cnt ∧ (State.cross s e).tiles = s.tiles ∧ (State.cross s e).nav = s.nav ∧
    (State.cross s e).loops = s.loops ∧ (State.cross s e).field = s.field ∧ (State.cross s e).can = s.can := by
  simp [State.cross]

@[simp] theorem State.handover_keeps (s : State) (ch : Nat) :
    (State.handover s ch).pending = s.pending ∧ (State.handover s ch).free = s.free ∧
    (State.handover s ch).time = s.time ∧ (State.handover s ch).dev = s.dev ∧ (State.handover s ch).pwr = s.pwr ∧
    (State.handover s ch).sag = s.sag ∧ (State.handover s ch).host = s.host ∧ (State.handover s ch).cfg = s.cfg ∧
    (State.handover s ch).flash = s.flash ∧ (State.handover s ch).cnt = s.cnt ∧
    (State.handover s ch).tiles = s.tiles ∧ (State.handover s ch).nav = s.nav ∧
    (State.handover s ch).loops = s.loops ∧ (State.handover s ch).field = s.field ∧
    (State.handover s ch).can = s.can := by
  unfold State.handover; (repeat' split) <;> simp

@[simp] theorem State.lateEdge_keeps (s : State) (e : Edge) (t : Nat) :
    (State.lateEdge s e t).pending = s.pending ∧ (State.lateEdge s e t).free = s.free ∧
    (State.lateEdge s e t).time = s.time ∧ (State.lateEdge s e t).dev = s.dev ∧ (State.lateEdge s e t).pwr = s.pwr ∧
    (State.lateEdge s e t).sag = s.sag ∧ (State.lateEdge s e t).host = s.host ∧ (State.lateEdge s e t).cfg = s.cfg ∧
    (State.lateEdge s e t).flash = s.flash ∧ (State.lateEdge s e t).acts = s.acts ∧
    (State.lateEdge s e t).tiles = s.tiles ∧ (State.lateEdge s e t).planner = s.planner ∧
    (State.lateEdge s e t).nav = s.nav ∧ (State.lateEdge s e t).loops = s.loops ∧
    (State.lateEdge s e t).field = s.field ∧ (State.lateEdge s e t).can = s.can := by
  simp [State.lateEdge]

@[simp] theorem State.releaseEdge_keeps (s : State) (ch : Nat) :
    (State.releaseEdge s ch).pending = s.pending ∧ (State.releaseEdge s ch).free = s.free ∧
    (State.releaseEdge s ch).time = s.time ∧ (State.releaseEdge s ch).dev = s.dev ∧
    (State.releaseEdge s ch).pwr = s.pwr ∧ (State.releaseEdge s ch).sag = s.sag ∧
    (State.releaseEdge s ch).cfg = s.cfg ∧ (State.releaseEdge s ch).tiles = s.tiles ∧
    (State.releaseEdge s ch).nav = s.nav ∧ (State.releaseEdge s ch).loops = s.loops ∧
    (State.releaseEdge s ch).field = s.field ∧ (State.releaseEdge s ch).can = s.can := by
  unfold State.releaseEdge; dsimp only; (repeat' split) <;> simp_all

@[simp] theorem State.passClaim_keeps (s : State) (g resMv : Nat) :
    (State.passClaim s g resMv).pending = s.pending ∧ (State.passClaim s g resMv).free = s.free ∧
    (State.passClaim s g resMv).time = s.time ∧ (State.passClaim s g resMv).dev = s.dev ∧
    (State.passClaim s g resMv).sag = s.sag ∧ (State.passClaim s g resMv).host = s.host ∧
    (State.passClaim s g resMv).cfg = s.cfg ∧ (State.passClaim s g resMv).flash = s.flash ∧
    (State.passClaim s g resMv).acts = s.acts ∧ (State.passClaim s g resMv).tiles = s.tiles ∧
    (State.passClaim s g resMv).planner = s.planner ∧ (State.passClaim s g resMv).nav = s.nav ∧
    (State.passClaim s g resMv).loops = s.loops ∧ (State.passClaim s g resMv).field = s.field ∧
    (State.passClaim s g resMv).can = s.can := by
  unfold State.passClaim; dsimp only; (repeat' split) <;> simp_all

@[simp] theorem State.refuseWaiting_keeps (s : State) (ch : Nat) :
    (State.refuseWaiting s ch).pending = s.pending ∧ (State.refuseWaiting s ch).free = s.free ∧
    (State.refuseWaiting s ch).time = s.time ∧ (State.refuseWaiting s ch).dev = s.dev ∧
    (State.refuseWaiting s ch).pwr = s.pwr ∧ (State.refuseWaiting s ch).sag = s.sag ∧
    (State.refuseWaiting s ch).host = s.host ∧ (State.refuseWaiting s ch).cfg = s.cfg ∧
    (State.refuseWaiting s ch).flash = s.flash ∧ (State.refuseWaiting s ch).acts = s.acts ∧
    (State.refuseWaiting s ch).tiles = s.tiles ∧ (State.refuseWaiting s ch).planner = s.planner ∧
    (State.refuseWaiting s ch).nav = s.nav ∧ (State.refuseWaiting s ch).loops = s.loops ∧
    (State.refuseWaiting s ch).field = s.field ∧ (State.refuseWaiting s ch).can = s.can := by
  unfold State.refuseWaiting; dsimp only; (repeat' split) <;> simp_all

@[simp] theorem State.unconfirmed_keeps (s : State) (ch : Nat) (timeout : Option Nat) :
    (State.unconfirmed s ch timeout).pending = s.pending ∧ (State.unconfirmed s ch timeout).free = s.free ∧
    (State.unconfirmed s ch timeout).time = s.time ∧ (State.unconfirmed s ch timeout).dev = s.dev ∧
    (State.unconfirmed s ch timeout).pwr = s.pwr ∧ (State.unconfirmed s ch timeout).sag = s.sag ∧
    (State.unconfirmed s ch timeout).cfg = s.cfg ∧ (State.unconfirmed s ch timeout).flash = s.flash ∧
    (State.unconfirmed s ch timeout).tiles = s.tiles ∧ (State.unconfirmed s ch timeout).planner = s.planner ∧
    (State.unconfirmed s ch timeout).nav = s.nav ∧ (State.unconfirmed s ch timeout).loops = s.loops ∧
    (State.unconfirmed s ch timeout).field = s.field ∧ (State.unconfirmed s ch timeout).can = s.can := by
  unfold State.unconfirmed; (repeat' split) <;> simp

@[simp] theorem State.windowTimeout_keeps (s : State) (ch : Nat) (closing : Bool) :
    (State.windowTimeout s ch closing).pending = s.pending ∧ (State.windowTimeout s ch closing).free = s.free ∧
    (State.windowTimeout s ch closing).time = s.time ∧ (State.windowTimeout s ch closing).dev = s.dev ∧
    (State.windowTimeout s ch closing).pwr = s.pwr ∧ (State.windowTimeout s ch closing).sag = s.sag ∧
    (State.windowTimeout s ch closing).cfg = s.cfg ∧ (State.windowTimeout s ch closing).flash = s.flash ∧
    (State.windowTimeout s ch closing).tiles = s.tiles ∧ (State.windowTimeout s ch closing).planner = s.planner ∧
    (State.windowTimeout s ch closing).nav = s.nav ∧ (State.windowTimeout s ch closing).loops = s.loops ∧
    (State.windowTimeout s ch closing).field = s.field ∧ (State.windowTimeout s ch closing).can = s.can := by
  unfold State.windowTimeout; dsimp only; (repeat' split) <;> simp_all

@[simp] theorem State.arrival_keeps (s : State) (ch : Nat) (closing : Bool) (obs : DetObs) :
    (State.arrival s ch closing obs).pending = s.pending ∧ (State.arrival s ch closing obs).free = s.free ∧
    (State.arrival s ch closing obs).time = s.time ∧ (State.arrival s ch closing obs).dev = s.dev ∧
    (State.arrival s ch closing obs).pwr = s.pwr ∧ (State.arrival s ch closing obs).sag = s.sag ∧
    (State.arrival s ch closing obs).cfg = s.cfg ∧ (State.arrival s ch closing obs).flash = s.flash ∧
    (State.arrival s ch closing obs).tiles = s.tiles ∧ (State.arrival s ch closing obs).planner = s.planner ∧
    (State.arrival s ch closing obs).nav = s.nav ∧ (State.arrival s ch closing obs).loops = s.loops ∧
    (State.arrival s ch closing obs).field = s.field ∧ (State.arrival s ch closing obs).can = s.can := by
  unfold State.arrival; dsimp only; (repeat' split) <;> simp_all

@[simp] theorem State.decayOver_keeps (s : State) (ch resMv clampMj : Nat) :
    (State.decayOver s ch resMv clampMj).pending = s.pending ∧ (State.decayOver s ch resMv clampMj).free = s.free ∧
    (State.decayOver s ch resMv clampMj).time = s.time ∧ (State.decayOver s ch resMv clampMj).dev = s.dev ∧
    (State.decayOver s ch resMv clampMj).sag = s.sag ∧ (State.decayOver s ch resMv clampMj).cfg = s.cfg ∧
    (State.decayOver s ch resMv clampMj).flash = s.flash ∧ (State.decayOver s ch resMv clampMj).tiles = s.tiles ∧
    (State.decayOver s ch resMv clampMj).planner = s.planner ∧ (State.decayOver s ch resMv clampMj).nav = s.nav ∧
    (State.decayOver s ch resMv clampMj).loops = s.loops ∧ (State.decayOver s ch resMv clampMj).field = s.field ∧
    (State.decayOver s ch resMv clampMj).can = s.can := by
  simp [State.decayOver]

@[simp] theorem State.offFinding_keeps (s : State) (ch code : Nat) :
    (State.offFinding s ch code).pending = s.pending ∧ (State.offFinding s ch code).free = s.free ∧
    (State.offFinding s ch code).time = s.time ∧ (State.offFinding s ch code).dev = s.dev ∧
    (State.offFinding s ch code).pwr = s.pwr ∧ (State.offFinding s ch code).cfg = s.cfg ∧
    (State.offFinding s ch code).tiles = s.tiles ∧ (State.offFinding s ch code).planner = s.planner ∧
    (State.offFinding s ch code).nav = s.nav ∧ (State.offFinding s ch code).loops = s.loops ∧
    (State.offFinding s ch code).field = s.field ∧ (State.offFinding s ch code).can = s.can := by
  simp [State.offFinding]

@[simp] theorem State.tested_keeps (s : State) (ch code : Nat) :
    (State.tested s ch code).pending = s.pending ∧ (State.tested s ch code).free = s.free ∧
    (State.tested s ch code).time = s.time ∧ (State.tested s ch code).dev = s.dev ∧
    (State.tested s ch code).pwr = s.pwr ∧ (State.tested s ch code).cfg = s.cfg ∧
    (State.tested s ch code).tiles = s.tiles ∧ (State.tested s ch code).planner = s.planner ∧
    (State.tested s ch code).nav = s.nav ∧ (State.tested s ch code).loops = s.loops ∧
    (State.tested s ch code).field = s.field ∧ (State.tested s ch code).can = s.can := by
  simp [State.tested]

@[simp] theorem State.offTest_keeps (s : State) (ch finding : Nat) :
    (State.offTest s ch finding).pending = s.pending ∧ (State.offTest s ch finding).free = s.free ∧
    (State.offTest s ch finding).time = s.time ∧ (State.offTest s ch finding).dev = s.dev ∧
    (State.offTest s ch finding).pwr = s.pwr ∧ (State.offTest s ch finding).cfg = s.cfg ∧
    (State.offTest s ch finding).tiles = s.tiles ∧ (State.offTest s ch finding).planner = s.planner ∧
    (State.offTest s ch finding).nav = s.nav ∧ (State.offTest s ch finding).loops = s.loops ∧
    (State.offTest s ch finding).field = s.field ∧ (State.offTest s ch finding).can = s.can := by
  simp [State.offTest]

@[simp] theorem State.diagStarved_keeps (s : State) (ch : Nat) :
    (State.diagStarved s ch).pending = s.pending ∧ (State.diagStarved s ch).free = s.free ∧
    (State.diagStarved s ch).time = s.time ∧ (State.diagStarved s ch).dev = s.dev ∧
    (State.diagStarved s ch).pwr = s.pwr ∧ (State.diagStarved s ch).sag = s.sag ∧
    (State.diagStarved s ch).cfg = s.cfg ∧ (State.diagStarved s ch).flash = s.flash ∧
    (State.diagStarved s ch).acts = s.acts ∧ (State.diagStarved s ch).tiles = s.tiles ∧
    (State.diagStarved s ch).planner = s.planner ∧ (State.diagStarved s ch).nav = s.nav ∧
    (State.diagStarved s ch).loops = s.loops ∧ (State.diagStarved s ch).field = s.field ∧
    (State.diagStarved s ch).can = s.can := by
  simp [State.diagStarved]

@[simp] theorem State.readVdrv_keeps (s : State) (ch mv : Nat) :
    (State.readVdrv s ch mv).pending = s.pending ∧ (State.readVdrv s ch mv).free = s.free ∧
    (State.readVdrv s ch mv).time = s.time ∧ (State.readVdrv s ch mv).dev = s.dev ∧
    (State.readVdrv s ch mv).sag = s.sag ∧ (State.readVdrv s ch mv).host = s.host ∧
    (State.readVdrv s ch mv).cfg = s.cfg ∧ (State.readVdrv s ch mv).flash = s.flash ∧
    (State.readVdrv s ch mv).acts = s.acts ∧ (State.readVdrv s ch mv).cnt = s.cnt ∧
    (State.readVdrv s ch mv).valves = s.valves ∧ (State.readVdrv s ch mv).tiles = s.tiles ∧
    (State.readVdrv s ch mv).planner = s.planner ∧ (State.readVdrv s ch mv).nav = s.nav ∧
    (State.readVdrv s ch mv).loops = s.loops ∧ (State.readVdrv s ch mv).field = s.field ∧
    (State.readVdrv s ch mv).can = s.can := by
  simp [State.readVdrv]

@[simp] theorem State.valveReadback_keeps (s : State) (n : Nat) (rail : Bool) (read : Nat) (obs : DetObs) :
    (State.valveReadback s n rail read obs).pending = s.pending ∧
    (State.valveReadback s n rail read obs).free = s.free ∧ (State.valveReadback s n rail read obs).time = s.time ∧
    (State.valveReadback s n rail read obs).dev = s.dev ∧ (State.valveReadback s n rail read obs).pwr = s.pwr ∧
    (State.valveReadback s n rail read obs).cfg = s.cfg ∧ (State.valveReadback s n rail read obs).tiles = s.tiles ∧
    (State.valveReadback s n rail read obs).planner = s.planner ∧
    (State.valveReadback s n rail read obs).nav = s.nav ∧ (State.valveReadback s n rail read obs).loops = s.loops ∧
    (State.valveReadback s n rail read obs).field = s.field ∧
    (State.valveReadback s n rail read obs).can = s.can := by
  simp [State.valveReadback]

@[simp] theorem State.boostOver_keeps (s : State) (q mv held : Nat) :
    (State.boostOver s q mv held).pending = s.pending ∧ (State.boostOver s q mv held).free = s.free ∧
    (State.boostOver s q mv held).time = s.time ∧ (State.boostOver s q mv held).dev = s.dev ∧
    (State.boostOver s q mv held).cfg = s.cfg ∧ (State.boostOver s q mv held).tiles = s.tiles ∧
    (State.boostOver s q mv held).planner = s.planner ∧ (State.boostOver s q mv held).nav = s.nav ∧
    (State.boostOver s q mv held).loops = s.loops ∧ (State.boostOver s q mv held).field = s.field ∧
    (State.boostOver s q mv held).can = s.can := by
  simp [State.boostOver]

@[simp] theorem State.unlatch_keeps (s : State) (group : Nat) (chs : List Nat) :
    (State.unlatch s group chs).pending = s.pending ∧ (State.unlatch s group chs).free = s.free ∧
    (State.unlatch s group chs).time = s.time ∧ (State.unlatch s group chs).dev = s.dev ∧
    (State.unlatch s group chs).pwr = s.pwr ∧ (State.unlatch s group chs).sag = s.sag ∧
    (State.unlatch s group chs).host = s.host ∧ (State.unlatch s group chs).cfg = s.cfg ∧
    (State.unlatch s group chs).flash = s.flash ∧ (State.unlatch s group chs).acts = s.acts ∧
    (State.unlatch s group chs).cnt = s.cnt ∧ (State.unlatch s group chs).tiles = s.tiles ∧
    (State.unlatch s group chs).planner = s.planner ∧ (State.unlatch s group chs).nav = s.nav ∧
    (State.unlatch s group chs).loops = s.loops ∧ (State.unlatch s group chs).field = s.field ∧
    (State.unlatch s group chs).can = s.can := by
  simp [State.unlatch]

@[simp] theorem State.valveClearDone_keeps (s : State) (codes : List Nat) :
    (State.valveClearDone s codes).pending = s.pending ∧ (State.valveClearDone s codes).free = s.free ∧
    (State.valveClearDone s codes).time = s.time ∧ (State.valveClearDone s codes).dev = s.dev ∧
    (State.valveClearDone s codes).pwr = s.pwr ∧ (State.valveClearDone s codes).cfg = s.cfg ∧
    (State.valveClearDone s codes).tiles = s.tiles ∧ (State.valveClearDone s codes).planner = s.planner ∧
    (State.valveClearDone s codes).nav = s.nav ∧ (State.valveClearDone s codes).loops = s.loops ∧
    (State.valveClearDone s codes).field = s.field ∧ (State.valveClearDone s codes).can = s.can := by
  unfold State.valveClearDone; (repeat' split) <;> simp

@[simp] theorem State.valveDiagDone_keeps (s : State) (codes : List Nat) :
    (State.valveDiagDone s codes).pending = s.pending ∧ (State.valveDiagDone s codes).free = s.free ∧
    (State.valveDiagDone s codes).time = s.time ∧ (State.valveDiagDone s codes).dev = s.dev ∧
    (State.valveDiagDone s codes).pwr = s.pwr ∧ (State.valveDiagDone s codes).cfg = s.cfg ∧
    (State.valveDiagDone s codes).tiles = s.tiles ∧ (State.valveDiagDone s codes).planner = s.planner ∧
    (State.valveDiagDone s codes).nav = s.nav ∧ (State.valveDiagDone s codes).loops = s.loops ∧
    (State.valveDiagDone s codes).field = s.field ∧ (State.valveDiagDone s codes).can = s.can := by
  unfold State.valveDiagDone; (repeat' split) <;> simp

end Sys2Proof.Machine
end

