-- ==== Sys2Proof/Laws/FrameSeq.lean ====
section
/-! SUPPORT. What the operations of Machine/Seq.lean leave alone: one lemma per operation, the conjunction of
every field of State that it keeps. -/

set_option Elab.async false

open Sys2Proof Sys2Proof.Machine

namespace Sys2Proof.Machine

@[simp] theorem State.loadStore_keeps (s : State) (g : Nat) :
    (State.loadStore s g).pending = s.pending ∧ (State.loadStore s g).free = s.free ∧
    (State.loadStore s g).time = s.time ∧ (State.loadStore s g).dev = s.dev ∧ (State.loadStore s g).pwr = s.pwr ∧
    (State.loadStore s g).host = s.host ∧ (State.loadStore s g).cfg = s.cfg ∧
    (State.loadStore s g).flash = s.flash ∧ (State.loadStore s g).acts = s.acts ∧
    (State.loadStore s g).cnt = s.cnt ∧ (State.loadStore s g).tiles = s.tiles ∧
    (State.loadStore s g).planner = s.planner ∧ (State.loadStore s g).nav = s.nav ∧
    (State.loadStore s g).loops = s.loops ∧ (State.loadStore s g).field = s.field ∧
    (State.loadStore s g).can = s.can := by
  simp [State.loadStore]

@[simp] theorem State.trap_keeps (s : State) (ch addr cause : Nat) :
    (State.trap s ch addr cause).pending = s.pending ∧ (State.trap s ch addr cause).free = s.free ∧
    (State.trap s ch addr cause).time = s.time ∧ (State.trap s ch addr cause).dev = s.dev ∧
    (State.trap s ch addr cause).pwr = s.pwr ∧ (State.trap s ch addr cause).sag = s.sag ∧
    (State.trap s ch addr cause).cfg = s.cfg ∧ (State.trap s ch addr cause).tiles = s.tiles ∧
    (State.trap s ch addr cause).planner = s.planner ∧ (State.trap s ch addr cause).nav = s.nav ∧
    (State.trap s ch addr cause).loops = s.loops ∧ (State.trap s ch addr cause).field = s.field ∧
    (State.trap s ch addr cause).can = s.can := by
  simp [State.trap]

@[simp] theorem State.parity_keeps (s : State) (g addr : Nat) :
    (State.parity s g addr).pending = s.pending ∧ (State.parity s g addr).free = s.free ∧
    (State.parity s g addr).time = s.time ∧ (State.parity s g addr).dev = s.dev ∧
    (State.parity s g addr).pwr = s.pwr ∧ (State.parity s g addr).cfg = s.cfg ∧
    (State.parity s g addr).tiles = s.tiles ∧ (State.parity s g addr).planner = s.planner ∧
    (State.parity s g addr).nav = s.nav ∧ (State.parity s g addr).loops = s.loops ∧
    (State.parity s g addr).field = s.field ∧ (State.parity s g addr).can = s.can := by
  simp [State.parity]

@[simp] theorem State.past_keeps (s : State) (ch cycles : Nat) :
    (State.past s ch cycles).pending = s.pending ∧ (State.past s ch cycles).free = s.free ∧
    (State.past s ch cycles).time = s.time ∧ (State.past s ch cycles).dev = s.dev ∧
    (State.past s ch cycles).pwr = s.pwr ∧ (State.past s ch cycles).sag = s.sag ∧
    (State.past s ch cycles).host = s.host ∧ (State.past s ch cycles).cfg = s.cfg ∧
    (State.past s ch cycles).flash = s.flash ∧ (State.past s ch cycles).acts = s.acts ∧
    (State.past s ch cycles).cnt = s.cnt ∧ (State.past s ch cycles).tiles = s.tiles ∧
    (State.past s ch cycles).planner = s.planner ∧ (State.past s ch cycles).nav = s.nav ∧
    (State.past s ch cycles).loops = s.loops ∧ (State.past s ch cycles).field = s.field ∧
    (State.past s ch cycles).can = s.can := by
  simp [State.past]

@[simp] theorem State.jump_keeps (s : State) (ch addr : Nat) :
    (State.jump s ch addr).pending = s.pending ∧ (State.jump s ch addr).free = s.free ∧
    (State.jump s ch addr).time = s.time ∧ (State.jump s ch addr).dev = s.dev ∧ (State.jump s ch addr).pwr = s.pwr ∧
    (State.jump s ch addr).sag = s.sag ∧ (State.jump s ch addr).host = s.host ∧ (State.jump s ch addr).cfg = s.cfg ∧
    (State.jump s ch addr).flash = s.flash ∧ (State.jump s ch addr).acts = s.acts ∧
    (State.jump s ch addr).cnt = s.cnt ∧ (State.jump s ch addr).tiles = s.tiles ∧
    (State.jump s ch addr).planner = s.planner ∧ (State.jump s ch addr).nav = s.nav ∧
    (State.jump s ch addr).loops = s.loops ∧ (State.jump s ch addr).field = s.field ∧
    (State.jump s ch addr).can = s.can := by
  simp [State.jump]

@[simp] theorem State.cutClamp_keeps (s : State) (ch : Nat) :
    (State.cutClamp s ch).pending = s.pending ∧ (State.cutClamp s ch).time = s.time ∧
    (State.cutClamp s ch).dev = s.dev ∧ (State.cutClamp s ch).pwr = s.pwr ∧ (State.cutClamp s ch).sag = s.sag ∧
    (State.cutClamp s ch).host = s.host ∧ (State.cutClamp s ch).cfg = s.cfg ∧
    (State.cutClamp s ch).flash = s.flash ∧ (State.cutClamp s ch).acts = s.acts ∧
    (State.cutClamp s ch).cnt = s.cnt ∧ (State.cutClamp s ch).tiles = s.tiles ∧
    (State.cutClamp s ch).planner = s.planner ∧ (State.cutClamp s ch).nav = s.nav ∧
    (State.cutClamp s ch).loops = s.loops ∧ (State.cutClamp s ch).field = s.field ∧
    (State.cutClamp s ch).can = s.can := by
  simp [State.cutClamp]

@[simp] theorem State.doSrc_keeps (s : State) (ch b k : Nat) :
    (State.doSrc s ch b k).pending = s.pending ∧ (State.doSrc s ch b k).time = s.time ∧
    (State.doSrc s ch b k).dev = s.dev ∧ (State.doSrc s ch b k).pwr = s.pwr ∧ (State.doSrc s ch b k).sag = s.sag ∧
    (State.doSrc s ch b k).host = s.host ∧ (State.doSrc s ch b k).cfg = s.cfg ∧
    (State.doSrc s ch b k).flash = s.flash ∧ (State.doSrc s ch b k).acts = s.acts ∧
    (State.doSrc s ch b k).tiles = s.tiles ∧ (State.doSrc s ch b k).planner = s.planner ∧
    (State.doSrc s ch b k).nav = s.nav ∧ (State.doSrc s ch b k).loops = s.loops ∧
    (State.doSrc s ch b k).field = s.field ∧ (State.doSrc s ch b k).can = s.can := by
  unfold State.doSrc; (repeat' split) <;> simp

@[simp] theorem State.doArm_keeps (s : State) (ch b det tmo : Nat) :
    (State.doArm s ch b det tmo).pending = s.pending ∧ (State.doArm s ch b det tmo).free = s.free ∧
    (State.doArm s ch b det tmo).time = s.time ∧ (State.doArm s ch b det tmo).dev = s.dev ∧
    (State.doArm s ch b det tmo).pwr = s.pwr ∧ (State.doArm s ch b det tmo).sag = s.sag ∧
    (State.doArm s ch b det tmo).host = s.host ∧ (State.doArm s ch b det tmo).cfg = s.cfg ∧
    (State.doArm s ch b det tmo).flash = s.flash ∧ (State.doArm s ch b det tmo).acts = s.acts ∧
    (State.doArm s ch b det tmo).cnt = s.cnt ∧ (State.doArm s ch b det tmo).tiles = s.tiles ∧
    (State.doArm s ch b det tmo).planner = s.planner ∧ (State.doArm s ch b det tmo).nav = s.nav ∧
    (State.doArm s ch b det tmo).loops = s.loops ∧ (State.doArm s ch b det tmo).field = s.field ∧
    (State.doArm s ch b det tmo).can = s.can := by
  unfold State.doArm; (repeat' split) <;> simp

@[simp] theorem State.doMark_keeps (s : State) (ch b code : Nat) (evt : Bool) (value : Nat) :
    (State.doMark s ch b code evt value).pending = s.pending ∧ (State.doMark s ch b code evt value).free = s.free ∧
    (State.doMark s ch b code evt value).time = s.time ∧ (State.doMark s ch b code evt value).dev = s.dev ∧
    (State.doMark s ch b code evt value).pwr = s.pwr ∧ (State.doMark s ch b code evt value).sag = s.sag ∧
    (State.doMark s ch b code evt value).cfg = s.cfg ∧ (State.doMark s ch b code evt value).flash = s.flash ∧
    (State.doMark s ch b code evt value).acts = s.acts ∧ (State.doMark s ch b code evt value).tiles = s.tiles ∧
    (State.doMark s ch b code evt value).planner = s.planner ∧ (State.doMark s ch b code evt value).nav = s.nav ∧
    (State.doMark s ch b code evt value).loops = s.loops ∧ (State.doMark s ch b code evt value).field = s.field ∧
    (State.doMark s ch b code evt value).can = s.can := by
  simp [State.doMark]

@[simp] theorem State.seqTarget_keeps (s : State) (ch addr : Nat) (taken : Bool) :
    (State.seqTarget s ch addr taken).pending = s.pending ∧ (State.seqTarget s ch addr taken).free = s.free ∧
    (State.seqTarget s ch addr taken).time = s.time ∧ (State.seqTarget s ch addr taken).dev = s.dev ∧
    (State.seqTarget s ch addr taken).pwr = s.pwr ∧ (State.seqTarget s ch addr taken).sag = s.sag ∧
    (State.seqTarget s ch addr taken).cfg = s.cfg ∧ (State.seqTarget s ch addr taken).tiles = s.tiles ∧
    (State.seqTarget s ch addr taken).planner = s.planner ∧ (State.seqTarget s ch addr taken).nav = s.nav ∧
    (State.seqTarget s ch addr taken).loops = s.loops ∧ (State.seqTarget s ch addr taken).field = s.field ∧
    (State.seqTarget s ch addr taken).can = s.can := by
  simp [State.seqTarget]

@[simp] theorem State.doLoop_keeps (s : State) (ch n : Nat) (reload : Bool) (addr : Nat) :
    (State.doLoop s ch n reload addr).pending = s.pending ∧ (State.doLoop s ch n reload addr).free = s.free ∧
    (State.doLoop s ch n reload addr).time = s.time ∧ (State.doLoop s ch n reload addr).dev = s.dev ∧
    (State.doLoop s ch n reload addr).pwr = s.pwr ∧ (State.doLoop s ch n reload addr).sag = s.sag ∧
    (State.doLoop s ch n reload addr).cfg = s.cfg ∧ (State.doLoop s ch n reload addr).tiles = s.tiles ∧
    (State.doLoop s ch n reload addr).planner = s.planner ∧ (State.doLoop s ch n reload addr).nav = s.nav ∧
    (State.doLoop s ch n reload addr).loops = s.loops ∧ (State.doLoop s ch n reload addr).field = s.field ∧
    (State.doLoop s ch n reload addr).can = s.can := by
  simp [State.doLoop]

@[simp] theorem State.doEnd_keeps (s : State) (ch b : Nat) :
    (State.doEnd s ch b).pending = s.pending ∧ (State.doEnd s ch b).free = s.free ∧
    (State.doEnd s ch b).time = s.time ∧ (State.doEnd s ch b).dev = s.dev ∧ (State.doEnd s ch b).pwr = s.pwr ∧
    (State.doEnd s ch b).sag = s.sag ∧ (State.doEnd s ch b).cfg = s.cfg ∧ (State.doEnd s ch b).flash = s.flash ∧
    (State.doEnd s ch b).tiles = s.tiles ∧ (State.doEnd s ch b).planner = s.planner ∧
    (State.doEnd s ch b).nav = s.nav ∧ (State.doEnd s ch b).loops = s.loops ∧ (State.doEnd s ch b).field = s.field ∧
    (State.doEnd s ch b).can = s.can := by
  simp [State.doEnd]

@[simp] theorem State.waitiDone_keeps (s : State) (ch sampleMt ma : Nat) :
    (State.waitiDone s ch sampleMt ma).pending = s.pending ∧ (State.waitiDone s ch sampleMt ma).free = s.free ∧
    (State.waitiDone s ch sampleMt ma).time = s.time ∧ (State.waitiDone s ch sampleMt ma).dev = s.dev ∧
    (State.waitiDone s ch sampleMt ma).pwr = s.pwr ∧ (State.waitiDone s ch sampleMt ma).sag = s.sag ∧
    (State.waitiDone s ch sampleMt ma).host = s.host ∧ (State.waitiDone s ch sampleMt ma).cfg = s.cfg ∧
    (State.waitiDone s ch sampleMt ma).flash = s.flash ∧ (State.waitiDone s ch sampleMt ma).acts = s.acts ∧
    (State.waitiDone s ch sampleMt ma).cnt = s.cnt ∧ (State.waitiDone s ch sampleMt ma).tiles = s.tiles ∧
    (State.waitiDone s ch sampleMt ma).planner = s.planner ∧ (State.waitiDone s ch sampleMt ma).nav = s.nav ∧
    (State.waitiDone s ch sampleMt ma).loops = s.loops ∧ (State.waitiDone s ch sampleMt ma).field = s.field ∧
    (State.waitiDone s ch sampleMt ma).can = s.can := by
  unfold State.waitiDone; dsimp only; (repeat' split) <;> simp_all

@[simp] theorem State.waitiOver_keeps (s : State) (ch : Nat) :
    (State.waitiOver s ch).pending = s.pending ∧ (State.waitiOver s ch).free = s.free ∧
    (State.waitiOver s ch).time = s.time ∧ (State.waitiOver s ch).dev = s.dev ∧ (State.waitiOver s ch).pwr = s.pwr ∧
    (State.waitiOver s ch).sag = s.sag ∧ (State.waitiOver s ch).host = s.host ∧ (State.waitiOver s ch).cfg = s.cfg ∧
    (State.waitiOver s ch).flash = s.flash ∧ (State.waitiOver s ch).acts = s.acts ∧
    (State.waitiOver s ch).cnt = s.cnt ∧ (State.waitiOver s ch).tiles = s.tiles ∧
    (State.waitiOver s ch).planner = s.planner ∧ (State.waitiOver s ch).nav = s.nav ∧
    (State.waitiOver s ch).loops = s.loops ∧ (State.waitiOver s ch).field = s.field ∧
    (State.waitiOver s ch).can = s.can := by
  unfold State.waitiOver; dsimp only; (repeat' split) <;> simp_all

@[simp] theorem State.waittOver_keeps (s : State) (ch : Nat) :
    (State.waittOver s ch).pending = s.pending ∧ (State.waittOver s ch).free = s.free ∧
    (State.waittOver s ch).time = s.time ∧ (State.waittOver s ch).dev = s.dev ∧ (State.waittOver s ch).pwr = s.pwr ∧
    (State.waittOver s ch).sag = s.sag ∧ (State.waittOver s ch).host = s.host ∧ (State.waittOver s ch).cfg = s.cfg ∧
    (State.waittOver s ch).flash = s.flash ∧ (State.waittOver s ch).acts = s.acts ∧
    (State.waittOver s ch).cnt = s.cnt ∧ (State.waittOver s ch).tiles = s.tiles ∧
    (State.waittOver s ch).planner = s.planner ∧ (State.waittOver s ch).nav = s.nav ∧
    (State.waittOver s ch).loops = s.loops ∧ (State.waittOver s ch).field = s.field ∧
    (State.waittOver s ch).can = s.can := by
  unfold State.waittOver; dsimp only; (repeat' split) <;> simp_all

@[simp] theorem State.compareStores_keeps (s : State) (bad : List (Nat × Nat)) :
    (s.compareStores bad).pending = s.pending ∧ (s.compareStores bad).free = s.free ∧
    (s.compareStores bad).time = s.time ∧ (s.compareStores bad).dev = s.dev ∧ (s.compareStores bad).pwr = s.pwr ∧
    (s.compareStores bad).cfg = s.cfg ∧ (s.compareStores bad).tiles = s.tiles ∧
    (s.compareStores bad).planner = s.planner ∧ (s.compareStores bad).nav = s.nav ∧
    (s.compareStores bad).loops = s.loops ∧ (s.compareStores bad).field = s.field ∧
    (s.compareStores bad).can = s.can := by
  unfold State.compareStores
  refine ⟨?_, ?_, ?_, ?_, ?_, ?_, ?_, ?_, ?_, ?_, ?_, ?_⟩ <;>
  · first
    | apply State.each_pending | apply State.each_free | apply State.each_time | apply State.each_dev
    | apply State.each_pwr | apply State.each_cfg
    | apply State.each_tiles | apply State.each_planner | apply State.each_nav
    | apply State.each_loops | apply State.each_field | apply State.each_can
    intro s g; (repeat' split) <;> simp

end Sys2Proof.Machine
end

