-- ==== Sys2Proof/Laws/FrameTileOps.lean ====
section
/-! SUPPORT. What the operations of Machine/TileOps.lean leave alone: one lemma per operation, the conjunction of
every field of State that it keeps. -/

set_option Elab.async false

open Sys2Proof Sys2Proof.Machine

namespace Sys2Proof.Machine

@[simp] theorem State.putSram_keeps (s : State) (slot off : Nat) (bs : List Byte) :
    (s.putSram slot off bs).pending = s.pending ∧ (s.putSram slot off bs).free = s.free ∧
    (s.putSram slot off bs).time = s.time ∧ (s.putSram slot off bs).dev = s.dev ∧
    (s.putSram slot off bs).pwr = s.pwr ∧ (s.putSram slot off bs).sag = s.sag ∧
    (s.putSram slot off bs).host = s.host ∧ (s.putSram slot off bs).cfg = s.cfg ∧
    (s.putSram slot off bs).flash = s.flash ∧ (s.putSram slot off bs).acts = s.acts ∧
    (s.putSram slot off bs).cnt = s.cnt ∧ (s.putSram slot off bs).valves = s.valves ∧
    (s.putSram slot off bs).planner = s.planner ∧ (s.putSram slot off bs).nav = s.nav ∧
    (s.putSram slot off bs).loops = s.loops ∧ (s.putSram slot off bs).field = s.field ∧
    (s.putSram slot off bs).can = s.can := by
  exact ⟨rfl, rfl, rfl, rfl, rfl, rfl, rfl, rfl, rfl, rfl, rfl, rfl, rfl, rfl, rfl, rfl, rfl⟩

@[simp] theorem State.clearSram_keeps (s : State) (slot : Nat) :
    (s.clearSram slot).pending = s.pending ∧ (s.clearSram slot).free = s.free ∧ (s.clearSram slot).time = s.time ∧
    (s.clearSram slot).dev = s.dev ∧ (s.clearSram slot).pwr = s.pwr ∧ (s.clearSram slot).sag = s.sag ∧
    (s.clearSram slot).host = s.host ∧ (s.clearSram slot).cfg = s.cfg ∧ (s.clearSram slot).flash = s.flash ∧
    (s.clearSram slot).acts = s.acts ∧ (s.clearSram slot).cnt = s.cnt ∧ (s.clearSram slot).valves = s.valves ∧
    (s.clearSram slot).planner = s.planner ∧ (s.clearSram slot).nav = s.nav ∧ (s.clearSram slot).loops = s.loops ∧
    (s.clearSram slot).field = s.field ∧ (s.clearSram slot).can = s.can :=
  State.putSram_keeps s slot 0 _

@[simp] theorem State.updSlot_keeps (s : State) (n : Nat) (f : TSlot → TSlot) :
    (State.updSlot s n f).pending = s.pending ∧ (State.updSlot s n f).free = s.free ∧
    (State.updSlot s n f).time = s.time ∧ (State.updSlot s n f).dev = s.dev ∧ (State.updSlot s n f).pwr = s.pwr ∧
    (State.updSlot s n f).sag = s.sag ∧ (State.updSlot s n f).host = s.host ∧ (State.updSlot s n f).cfg = s.cfg ∧
    (State.updSlot s n f).flash = s.flash ∧ (State.updSlot s n f).acts = s.acts ∧
    (State.updSlot s n f).cnt = s.cnt ∧ (State.updSlot s n f).valves = s.valves ∧
    (State.updSlot s n f).planner = s.planner ∧ (State.updSlot s n f).nav = s.nav ∧
    (State.updSlot s n f).loops = s.loops ∧ (State.updSlot s n f).field = s.field ∧
    (State.updSlot s n f).can = s.can := by
  exact ⟨rfl, rfl, rfl, rfl, rfl, rfl, rfl, rfl, rfl, rfl, rfl, rfl, rfl, rfl, rfl, rfl, rfl⟩

@[simp] theorem State.tileDone_keeps (s : State) (p : TPlaced) (result reason : Nat) :
    (State.tileDone s p result reason).pending = s.pending ∧ (State.tileDone s p result reason).free = s.free ∧
    (State.tileDone s p result reason).time = s.time ∧ (State.tileDone s p result reason).dev = s.dev ∧
    (State.tileDone s p result reason).pwr = s.pwr ∧ (State.tileDone s p result reason).sag = s.sag ∧
    (State.tileDone s p result reason).cfg = s.cfg ∧ (State.tileDone s p result reason).flash = s.flash ∧
    (State.tileDone s p result reason).acts = s.acts ∧ (State.tileDone s p result reason).cnt = s.cnt ∧
    (State.tileDone s p result reason).valves = s.valves ∧ (State.tileDone s p result reason).planner = s.planner ∧
    (State.tileDone s p result reason).nav = s.nav ∧ (State.tileDone s p result reason).loops = s.loops ∧
    (State.tileDone s p result reason).field = s.field ∧ (State.tileDone s p result reason).can = s.can := by
  simp [State.tileDone]

@[simp] theorem State.dropSlot_keeps (s : State) (n : Nat) :
    (State.dropSlot s n).pending = s.pending ∧ (State.dropSlot s n).free = s.free ∧
    (State.dropSlot s n).time = s.time ∧ (State.dropSlot s n).dev = s.dev ∧ (State.dropSlot s n).pwr = s.pwr ∧
    (State.dropSlot s n).sag = s.sag ∧ (State.dropSlot s n).cfg = s.cfg ∧ (State.dropSlot s n).flash = s.flash ∧
    (State.dropSlot s n).acts = s.acts ∧ (State.dropSlot s n).planner = s.planner ∧
    (State.dropSlot s n).nav = s.nav ∧ (State.dropSlot s n).loops = s.loops ∧ (State.dropSlot s n).field = s.field ∧
    (State.dropSlot s n).can = s.can := by
  simp [State.dropSlot]

@[simp] theorem State.dropFetch_keeps (s : State) (r : TReq) :
    (State.dropFetch s r).pending = s.pending ∧ (State.dropFetch s r).free = s.free ∧
    (State.dropFetch s r).time = s.time ∧ (State.dropFetch s r).dev = s.dev ∧ (State.dropFetch s r).pwr = s.pwr ∧
    (State.dropFetch s r).sag = s.sag ∧ (State.dropFetch s r).cfg = s.cfg ∧ (State.dropFetch s r).flash = s.flash ∧
    (State.dropFetch s r).acts = s.acts ∧ (State.dropFetch s r).planner = s.planner ∧
    (State.dropFetch s r).nav = s.nav ∧ (State.dropFetch s r).loops = s.loops ∧
    (State.dropFetch s r).field = s.field ∧ (State.dropFetch s r).can = s.can := by
  unfold State.dropFetch; dsimp only; (repeat' split) <;> simp_all

@[simp] theorem State.queueFetch_keeps (s : State) (r : TReq) :
    (State.queueFetch s r).pending = s.pending ∧ (State.queueFetch s r).free = s.free ∧
    (State.queueFetch s r).time = s.time ∧ (State.queueFetch s r).dev = s.dev ∧ (State.queueFetch s r).pwr = s.pwr ∧
    (State.queueFetch s r).sag = s.sag ∧ (State.queueFetch s r).cfg = s.cfg ∧
    (State.queueFetch s r).flash = s.flash ∧ (State.queueFetch s r).acts = s.acts ∧
    (State.queueFetch s r).planner = s.planner ∧ (State.queueFetch s r).nav = s.nav ∧
    (State.queueFetch s r).loops = s.loops ∧ (State.queueFetch s r).field = s.field ∧
    (State.queueFetch s r).can = s.can := by
  unfold State.queueFetch; dsimp only; (repeat' split) <;> simp_all

@[simp] theorem State.queueWb_keeps (s : State) (r : TReq) :
    (State.queueWb s r).pending = s.pending ∧ (State.queueWb s r).free = s.free ∧
    (State.queueWb s r).time = s.time ∧ (State.queueWb s r).dev = s.dev ∧ (State.queueWb s r).pwr = s.pwr ∧
    (State.queueWb s r).sag = s.sag ∧ (State.queueWb s r).cfg = s.cfg ∧ (State.queueWb s r).flash = s.flash ∧
    (State.queueWb s r).acts = s.acts ∧ (State.queueWb s r).planner = s.planner ∧ (State.queueWb s r).nav = s.nav ∧
    (State.queueWb s r).loops = s.loops ∧ (State.queueWb s r).field = s.field ∧
    (State.queueWb s r).can = s.can := by
  unfold State.queueWb; (repeat' split) <;> simp

@[simp] theorem State.postWb_keeps (s : State) (n : Nat) (first : Bool) :
    (State.postWb s n first).pending = s.pending ∧ (State.postWb s n first).free = s.free ∧
    (State.postWb s n first).time = s.time ∧ (State.postWb s n first).dev = s.dev ∧
    (State.postWb s n first).pwr = s.pwr ∧ (State.postWb s n first).sag = s.sag ∧
    (State.postWb s n first).cfg = s.cfg ∧ (State.postWb s n first).flash = s.flash ∧
    (State.postWb s n first).acts = s.acts ∧ (State.postWb s n first).planner = s.planner ∧
    (State.postWb s n first).nav = s.nav ∧ (State.postWb s n first).loops = s.loops ∧
    (State.postWb s n first).field = s.field ∧ (State.postWb s n first).can = s.can := by
  unfold State.postWb; (repeat' split) <;> simp

@[simp] theorem State.postRefresh_keeps (s : State) (x : TSlot) (need : Nat) :
    (State.postRefresh s x need).pending = s.pending ∧ (State.postRefresh s x need).free = s.free ∧
    (State.postRefresh s x need).time = s.time ∧ (State.postRefresh s x need).dev = s.dev ∧
    (State.postRefresh s x need).pwr = s.pwr ∧ (State.postRefresh s x need).sag = s.sag ∧
    (State.postRefresh s x need).cfg = s.cfg ∧ (State.postRefresh s x need).flash = s.flash ∧
    (State.postRefresh s x need).acts = s.acts ∧ (State.postRefresh s x need).planner = s.planner ∧
    (State.postRefresh s x need).nav = s.nav ∧ (State.postRefresh s x need).loops = s.loops ∧
    (State.postRefresh s x need).field = s.field ∧ (State.postRefresh s x need).can = s.can := by
  simp [State.postRefresh]

@[simp] theorem State.loseHeld_keeps (s : State) (tx ty : Int) :
    (State.loseHeld s tx ty).pending = s.pending ∧ (State.loseHeld s tx ty).free = s.free ∧
    (State.loseHeld s tx ty).time = s.time ∧ (State.loseHeld s tx ty).dev = s.dev ∧
    (State.loseHeld s tx ty).pwr = s.pwr ∧ (State.loseHeld s tx ty).sag = s.sag ∧
    (State.loseHeld s tx ty).host = s.host ∧ (State.loseHeld s tx ty).cfg = s.cfg ∧
    (State.loseHeld s tx ty).flash = s.flash ∧ (State.loseHeld s tx ty).acts = s.acts ∧
    (State.loseHeld s tx ty).valves = s.valves ∧ (State.loseHeld s tx ty).planner = s.planner ∧
    (State.loseHeld s tx ty).nav = s.nav ∧ (State.loseHeld s tx ty).loops = s.loops ∧
    (State.loseHeld s tx ty).field = s.field ∧ (State.loseHeld s tx ty).can = s.can := by
  simp [State.loseHeld]

@[simp] theorem State.markSlot_keeps (s : State) (x : TSlot) (cell mt : Nat) :
    (State.markSlot s x cell mt).pending = s.pending ∧ (State.markSlot s x cell mt).free = s.free ∧
    (State.markSlot s x cell mt).time = s.time ∧ (State.markSlot s x cell mt).dev = s.dev ∧
    (State.markSlot s x cell mt).pwr = s.pwr ∧ (State.markSlot s x cell mt).sag = s.sag ∧
    (State.markSlot s x cell mt).host = s.host ∧ (State.markSlot s x cell mt).cfg = s.cfg ∧
    (State.markSlot s x cell mt).flash = s.flash ∧ (State.markSlot s x cell mt).acts = s.acts ∧
    (State.markSlot s x cell mt).cnt = s.cnt ∧ (State.markSlot s x cell mt).valves = s.valves ∧
    (State.markSlot s x cell mt).planner = s.planner ∧ (State.markSlot s x cell mt).nav = s.nav ∧
    (State.markSlot s x cell mt).loops = s.loops ∧ (State.markSlot s x cell mt).field = s.field ∧
    (State.markSlot s x cell mt).can = s.can := by
  simp [State.markSlot]

@[simp] theorem State.wbEndedFor_keeps (s : State) (ops : List Byte) (slot : Nat) (ok : Bool) :
    (State.wbEndedFor s ops slot ok).pending = s.pending ∧ (State.wbEndedFor s ops slot ok).free = s.free ∧
    (State.wbEndedFor s ops slot ok).time = s.time ∧ (State.wbEndedFor s ops slot ok).dev = s.dev ∧
    (State.wbEndedFor s ops slot ok).pwr = s.pwr ∧ (State.wbEndedFor s ops slot ok).sag = s.sag ∧
    (State.wbEndedFor s ops slot ok).cfg = s.cfg ∧ (State.wbEndedFor s ops slot ok).flash = s.flash ∧
    (State.wbEndedFor s ops slot ok).acts = s.acts ∧ (State.wbEndedFor s ops slot ok).cnt = s.cnt ∧
    (State.wbEndedFor s ops slot ok).valves = s.valves ∧ (State.wbEndedFor s ops slot ok).tiles = s.tiles ∧
    (State.wbEndedFor s ops slot ok).planner = s.planner ∧ (State.wbEndedFor s ops slot ok).nav = s.nav ∧
    (State.wbEndedFor s ops slot ok).loops = s.loops ∧ (State.wbEndedFor s ops slot ok).field = s.field ∧
    (State.wbEndedFor s ops slot ok).can = s.can := by
  simp [State.wbEndedFor]

@[simp] theorem State.wbEnded_keeps (s : State) (slot : Nat) (ok : Bool) :
    (State.wbEnded s slot ok).pending = s.pending ∧ (State.wbEnded s slot ok).free = s.free ∧
    (State.wbEnded s slot ok).time = s.time ∧ (State.wbEnded s slot ok).dev = s.dev ∧
    (State.wbEnded s slot ok).pwr = s.pwr ∧ (State.wbEnded s slot ok).sag = s.sag ∧
    (State.wbEnded s slot ok).cfg = s.cfg ∧ (State.wbEnded s slot ok).flash = s.flash ∧
    (State.wbEnded s slot ok).acts = s.acts ∧ (State.wbEnded s slot ok).cnt = s.cnt ∧
    (State.wbEnded s slot ok).valves = s.valves ∧ (State.wbEnded s slot ok).tiles = s.tiles ∧
    (State.wbEnded s slot ok).planner = s.planner ∧ (State.wbEnded s slot ok).nav = s.nav ∧
    (State.wbEnded s slot ok).loops = s.loops ∧ (State.wbEnded s slot ok).field = s.field ∧
    (State.wbEnded s slot ok).can = s.can := by
  simp [State.wbEnded]

@[simp] theorem State.dropsEnded_keeps (s : State) :
    (State.dropsEnded s).pending = s.pending ∧ (State.dropsEnded s).free = s.free ∧
    (State.dropsEnded s).time = s.time ∧ (State.dropsEnded s).dev = s.dev ∧ (State.dropsEnded s).pwr = s.pwr ∧
    (State.dropsEnded s).sag = s.sag ∧ (State.dropsEnded s).cfg = s.cfg ∧ (State.dropsEnded s).flash = s.flash ∧
    (State.dropsEnded s).acts = s.acts ∧ (State.dropsEnded s).valves = s.valves ∧
    (State.dropsEnded s).tiles = s.tiles ∧ (State.dropsEnded s).planner = s.planner ∧
    (State.dropsEnded s).nav = s.nav ∧ (State.dropsEnded s).loops = s.loops ∧ (State.dropsEnded s).field = s.field ∧
    (State.dropsEnded s).can = s.can := by
  simp [State.dropsEnded]

@[simp] theorem State.takeSnapshot_keeps (s : State) (p : TPlaced) (addr : DWord) :
    (State.takeSnapshot s p addr).pending = s.pending ∧ (State.takeSnapshot s p addr).free = s.free ∧
    (State.takeSnapshot s p addr).time = s.time ∧ (State.takeSnapshot s p addr).dev = s.dev ∧
    (State.takeSnapshot s p addr).pwr = s.pwr ∧ (State.takeSnapshot s p addr).sag = s.sag ∧
    (State.takeSnapshot s p addr).cfg = s.cfg ∧ (State.takeSnapshot s p addr).flash = s.flash ∧
    (State.takeSnapshot s p addr).acts = s.acts ∧ (State.takeSnapshot s p addr).cnt = s.cnt ∧
    (State.takeSnapshot s p addr).valves = s.valves ∧ (State.takeSnapshot s p addr).planner = s.planner ∧
    (State.takeSnapshot s p addr).nav = s.nav ∧ (State.takeSnapshot s p addr).loops = s.loops ∧
    (State.takeSnapshot s p addr).field = s.field ∧ (State.takeSnapshot s p addr).can = s.can := by
  unfold State.takeSnapshot; (repeat' split) <;> simp

@[simp] theorem State.emptyCache_keeps (s : State) :
    (State.emptyCache s).pending = s.pending ∧ (State.emptyCache s).free = s.free ∧
    (State.emptyCache s).time = s.time ∧ (State.emptyCache s).dev = s.dev ∧ (State.emptyCache s).pwr = s.pwr ∧
    (State.emptyCache s).sag = s.sag ∧ (State.emptyCache s).cfg = s.cfg ∧ (State.emptyCache s).flash = s.flash ∧
    (State.emptyCache s).acts = s.acts ∧ (State.emptyCache s).planner = s.planner ∧
    (State.emptyCache s).nav = s.nav ∧ (State.emptyCache s).loops = s.loops ∧ (State.emptyCache s).field = s.field ∧
    (State.emptyCache s).can = s.can := by
  simp [State.emptyCache]

@[simp] theorem State.allocSlot_keeps (s : State) (more : Bool) :
    ((s.allocSlot more).2).pending = s.pending ∧ ((s.allocSlot more).2).free = s.free ∧
    ((s.allocSlot more).2).time = s.time ∧ ((s.allocSlot more).2).dev = s.dev ∧ ((s.allocSlot more).2).pwr = s.pwr ∧
    ((s.allocSlot more).2).sag = s.sag ∧ ((s.allocSlot more).2).cfg = s.cfg ∧
    ((s.allocSlot more).2).flash = s.flash ∧ ((s.allocSlot more).2).acts = s.acts ∧
    ((s.allocSlot more).2).planner = s.planner ∧ ((s.allocSlot more).2).nav = s.nav ∧
    ((s.allocSlot more).2).loops = s.loops ∧ ((s.allocSlot more).2).field = s.field ∧
    ((s.allocSlot more).2).can = s.can := by
  unfold State.allocSlot; dsimp only; (repeat' split) <;> simp

@[simp] theorem State.patchEnds_keeps (s : State) (tx ty : Int) :
    (s.patchEnds tx ty).pending = s.pending ∧ (s.patchEnds tx ty).free = s.free ∧
    (s.patchEnds tx ty).time = s.time ∧ (s.patchEnds tx ty).dev = s.dev ∧ (s.patchEnds tx ty).pwr = s.pwr ∧
    (s.patchEnds tx ty).sag = s.sag ∧ (s.patchEnds tx ty).cfg = s.cfg ∧ (s.patchEnds tx ty).flash = s.flash ∧
    (s.patchEnds tx ty).acts = s.acts ∧ (s.patchEnds tx ty).valves = s.valves ∧
    (s.patchEnds tx ty).planner = s.planner ∧ (s.patchEnds tx ty).nav = s.nav ∧
    (s.patchEnds tx ty).loops = s.loops ∧ (s.patchEnds tx ty).field = s.field ∧
    (s.patchEnds tx ty).can = s.can := by
  unfold State.patchEnds
  refine ⟨State.each_pending _ _ _ ?_, State.each_free _ _ _ ?_, State.each_time _ _ _ ?_, State.each_dev _ _ _ ?_, State.each_pwr _ _ _ ?_, State.each_sag _ _ _ ?_, State.each_cfg _ _ _ ?_, State.each_flash _ _ _ ?_, State.each_acts _ _ _ ?_, State.each_valves _ _ _ ?_, State.each_planner _ _ _ ?_, State.each_nav _ _ _ ?_, State.each_loops _ _ _ ?_, State.each_field _ _ _ ?_, State.each_can _ _ _ ?_⟩ <;>
  · intro s x; (repeat' split) <;> simp

@[simp] theorem State.enterWaiting_keeps (k : Nat) (s : State) :
    (State.enterWaiting k s).pending = s.pending ∧ (State.enterWaiting k s).free = s.free ∧
    (State.enterWaiting k s).time = s.time ∧ (State.enterWaiting k s).dev = s.dev ∧
    (State.enterWaiting k s).pwr = s.pwr ∧ (State.enterWaiting k s).sag = s.sag ∧
    (State.enterWaiting k s).host = s.host ∧ (State.enterWaiting k s).cfg = s.cfg ∧
    (State.enterWaiting k s).flash = s.flash ∧ (State.enterWaiting k s).acts = s.acts ∧
    (State.enterWaiting k s).cnt = s.cnt ∧ (State.enterWaiting k s).valves = s.valves ∧
    (State.enterWaiting k s).planner = s.planner ∧ (State.enterWaiting k s).nav = s.nav ∧
    (State.enterWaiting k s).loops = s.loops ∧ (State.enterWaiting k s).field = s.field ∧
    (State.enterWaiting k s).can = s.can := by
  induction k generalizing s with
  | zero => simp [State.enterWaiting]
  | succ k ih =>
    unfold State.enterWaiting
    split
    · simp [ih]
    · simp

@[simp] theorem State.enterRing_keeps (s : State) :
    (s.enterRing).pending = s.pending ∧ (s.enterRing).free = s.free ∧ (s.enterRing).time = s.time ∧
    (s.enterRing).dev = s.dev ∧ (s.enterRing).pwr = s.pwr ∧ (s.enterRing).sag = s.sag ∧ (s.enterRing).cfg = s.cfg ∧
    (s.enterRing).flash = s.flash ∧ (s.enterRing).acts = s.acts ∧ (s.enterRing).valves = s.valves ∧
    (s.enterRing).planner = s.planner ∧ (s.enterRing).nav = s.nav ∧ (s.enterRing).loops = s.loops ∧
    (s.enterRing).field = s.field ∧ (s.enterRing).can = s.can := by
  unfold State.enterRing; dsimp only; (repeat' split) <;> simp

@[simp] theorem State.fetchTile_keeps (s : State) (tx ty : Int) (need : Nat) :
    (State.fetchTile s tx ty need).pending = s.pending ∧ (State.fetchTile s tx ty need).free = s.free ∧
    (State.fetchTile s tx ty need).time = s.time ∧ (State.fetchTile s tx ty need).dev = s.dev ∧
    (State.fetchTile s tx ty need).pwr = s.pwr ∧ (State.fetchTile s tx ty need).sag = s.sag ∧
    (State.fetchTile s tx ty need).cfg = s.cfg ∧ (State.fetchTile s tx ty need).flash = s.flash ∧
    (State.fetchTile s tx ty need).acts = s.acts ∧ (State.fetchTile s tx ty need).planner = s.planner ∧
    (State.fetchTile s tx ty need).nav = s.nav ∧ (State.fetchTile s tx ty need).loops = s.loops ∧
    (State.fetchTile s tx ty need).field = s.field ∧ (State.fetchTile s tx ty need).can = s.can := by
  unfold State.fetchTile; dsimp only; (repeat' split) <;> simp_all

@[simp] theorem State.postFetch_keeps (s : State) (tx ty : Int) (need : Nat) :
    (State.postFetch s tx ty need).pending = s.pending ∧ (State.postFetch s tx ty need).free = s.free ∧
    (State.postFetch s tx ty need).time = s.time ∧ (State.postFetch s tx ty need).dev = s.dev ∧
    (State.postFetch s tx ty need).pwr = s.pwr ∧ (State.postFetch s tx ty need).sag = s.sag ∧
    (State.postFetch s tx ty need).cfg = s.cfg ∧ (State.postFetch s tx ty need).flash = s.flash ∧
    (State.postFetch s tx ty need).acts = s.acts ∧ (State.postFetch s tx ty need).planner = s.planner ∧
    (State.postFetch s tx ty need).nav = s.nav ∧ (State.postFetch s tx ty need).loops = s.loops ∧
    (State.postFetch s tx ty need).field = s.field ∧ (State.postFetch s tx ty need).can = s.can := by
  simp [State.postFetch]

@[simp] theorem State.unstick_keeps (s : State) :
    (State.unstick s).pending = s.pending ∧ (State.unstick s).free = s.free ∧ (State.unstick s).time = s.time ∧
    (State.unstick s).dev = s.dev ∧ (State.unstick s).pwr = s.pwr ∧ (State.unstick s).sag = s.sag ∧
    (State.unstick s).cfg = s.cfg ∧ (State.unstick s).flash = s.flash ∧ (State.unstick s).acts = s.acts ∧
    (State.unstick s).planner = s.planner ∧ (State.unstick s).nav = s.nav ∧ (State.unstick s).loops = s.loops ∧
    (State.unstick s).field = s.field ∧ (State.unstick s).can = s.can := by
  simp [State.unstick]

@[simp] theorem State.markCell_keeps (s : State) (cx cy : Int) (mt : Nat) :
    (State.markCell s cx cy mt).pending = s.pending ∧ (State.markCell s cx cy mt).free = s.free ∧
    (State.markCell s cx cy mt).time = s.time ∧ (State.markCell s cx cy mt).dev = s.dev ∧
    (State.markCell s cx cy mt).pwr = s.pwr ∧ (State.markCell s cx cy mt).sag = s.sag ∧
    (State.markCell s cx cy mt).cfg = s.cfg ∧ (State.markCell s cx cy mt).flash = s.flash ∧
    (State.markCell s cx cy mt).acts = s.acts ∧ (State.markCell s cx cy mt).planner = s.planner ∧
    (State.markCell s cx cy mt).nav = s.nav ∧ (State.markCell s cx cy mt).loops = s.loops ∧
    (State.markCell s cx cy mt).field = s.field ∧ (State.markCell s cx cy mt).can = s.can := by
  unfold State.markCell; dsimp only; (repeat' split) <;> simp_all

@[simp] theorem State.settled_keeps (s : State) (n : Nat) :
    (State.settled s n).pending = s.pending ∧ (State.settled s n).free = s.free ∧
    (State.settled s n).time = s.time ∧ (State.settled s n).dev = s.dev ∧ (State.settled s n).pwr = s.pwr ∧
    (State.settled s n).sag = s.sag ∧ (State.settled s n).cfg = s.cfg ∧ (State.settled s n).flash = s.flash ∧
    (State.settled s n).acts = s.acts ∧ (State.settled s n).planner = s.planner ∧ (State.settled s n).nav = s.nav ∧
    (State.settled s n).loops = s.loops ∧ (State.settled s n).field = s.field ∧
    (State.settled s n).can = s.can := by
  unfold State.settled; (repeat' split) <;> simp

@[simp] theorem State.toVoid_keeps (s : State) (x : TSlot) :
    (State.toVoid s x).pending = s.pending ∧ (State.toVoid s x).free = s.free ∧ (State.toVoid s x).time = s.time ∧
    (State.toVoid s x).dev = s.dev ∧ (State.toVoid s x).pwr = s.pwr ∧ (State.toVoid s x).sag = s.sag ∧
    (State.toVoid s x).cfg = s.cfg ∧ (State.toVoid s x).flash = s.flash ∧ (State.toVoid s x).acts = s.acts ∧
    (State.toVoid s x).valves = s.valves ∧ (State.toVoid s x).planner = s.planner ∧ (State.toVoid s x).nav = s.nav ∧
    (State.toVoid s x).loops = s.loops ∧ (State.toVoid s x).field = s.field ∧ (State.toVoid s x).can = s.can := by
  simp [State.toVoid]

@[simp] theorem State.fetchBad_keeps (s : State) (p : TPlaced) (reason : Nat) :
    (State.fetchBad s p reason).pending = s.pending ∧ (State.fetchBad s p reason).free = s.free ∧
    (State.fetchBad s p reason).time = s.time ∧ (State.fetchBad s p reason).dev = s.dev ∧
    (State.fetchBad s p reason).pwr = s.pwr ∧ (State.fetchBad s p reason).sag = s.sag ∧
    (State.fetchBad s p reason).cfg = s.cfg ∧ (State.fetchBad s p reason).flash = s.flash ∧
    (State.fetchBad s p reason).acts = s.acts ∧ (State.fetchBad s p reason).planner = s.planner ∧
    (State.fetchBad s p reason).nav = s.nav ∧ (State.fetchBad s p reason).loops = s.loops ∧
    (State.fetchBad s p reason).field = s.field ∧ (State.fetchBad s p reason).can = s.can := by
  unfold State.fetchBad; dsimp only; (repeat' split) <;> simp_all

@[simp] theorem State.wbDone_keeps (s : State) (p : TPlaced) (ok : Bool) :
    (State.wbDone s p ok).pending = s.pending ∧ (State.wbDone s p ok).free = s.free ∧
    (State.wbDone s p ok).time = s.time ∧ (State.wbDone s p ok).dev = s.dev ∧ (State.wbDone s p ok).pwr = s.pwr ∧
    (State.wbDone s p ok).sag = s.sag ∧ (State.wbDone s p ok).cfg = s.cfg ∧ (State.wbDone s p ok).flash = s.flash ∧
    (State.wbDone s p ok).acts = s.acts ∧ (State.wbDone s p ok).planner = s.planner ∧
    (State.wbDone s p ok).nav = s.nav ∧ (State.wbDone s p ok).loops = s.loops ∧
    (State.wbDone s p ok).field = s.field ∧ (State.wbDone s p ok).can = s.can := by
  unfold State.wbDone; dsimp only; (repeat' split) <;> simp_all

@[simp] theorem State.wbDiscard_keeps (s : State) (p : TPlaced) :
    (State.wbDiscard s p).pending = s.pending ∧ (State.wbDiscard s p).free = s.free ∧
    (State.wbDiscard s p).time = s.time ∧ (State.wbDiscard s p).dev = s.dev ∧ (State.wbDiscard s p).pwr = s.pwr ∧
    (State.wbDiscard s p).sag = s.sag ∧ (State.wbDiscard s p).cfg = s.cfg ∧ (State.wbDiscard s p).flash = s.flash ∧
    (State.wbDiscard s p).acts = s.acts ∧ (State.wbDiscard s p).planner = s.planner ∧
    (State.wbDiscard s p).nav = s.nav ∧ (State.wbDiscard s p).loops = s.loops ∧
    (State.wbDiscard s p).field = s.field ∧ (State.wbDiscard s p).can = s.can := by
  unfold State.wbDiscard; (repeat' split) <;> simp

@[simp] theorem State.tileOver_keeps (s : State) (p : TPlaced) :
    (State.tileOver s p).pending = s.pending ∧ (State.tileOver s p).free = s.free ∧
    (State.tileOver s p).time = s.time ∧ (State.tileOver s p).dev = s.dev ∧ (State.tileOver s p).pwr = s.pwr ∧
    (State.tileOver s p).sag = s.sag ∧ (State.tileOver s p).cfg = s.cfg ∧ (State.tileOver s p).flash = s.flash ∧
    (State.tileOver s p).acts = s.acts ∧ (State.tileOver s p).planner = s.planner ∧
    (State.tileOver s p).nav = s.nav ∧ (State.tileOver s p).loops = s.loops ∧ (State.tileOver s p).field = s.field ∧
    (State.tileOver s p).can = s.can := by
  unfold State.tileOver; dsimp only; (repeat' split) <;> simp_all

@[simp] theorem State.unanswered_keeps (s : State) :
    (State.unanswered s).pending = s.pending ∧ (State.unanswered s).free = s.free ∧
    (State.unanswered s).time = s.time ∧ (State.unanswered s).dev = s.dev ∧ (State.unanswered s).pwr = s.pwr ∧
    (State.unanswered s).sag = s.sag ∧ (State.unanswered s).cfg = s.cfg ∧ (State.unanswered s).flash = s.flash ∧
    (State.unanswered s).acts = s.acts ∧ (State.unanswered s).planner = s.planner ∧
    (State.unanswered s).nav = s.nav ∧ (State.unanswered s).loops = s.loops ∧ (State.unanswered s).field = s.field ∧
    (State.unanswered s).can = s.can := by
  simp [State.unanswered]

@[simp] theorem State.bindTiles_keeps (s : State) :
    (State.bindTiles s).pending = s.pending ∧ (State.bindTiles s).free = s.free ∧
    (State.bindTiles s).time = s.time ∧ (State.bindTiles s).dev = s.dev ∧ (State.bindTiles s).pwr = s.pwr ∧
    (State.bindTiles s).sag = s.sag ∧ (State.bindTiles s).cfg = s.cfg ∧ (State.bindTiles s).flash = s.flash ∧
    (State.bindTiles s).acts = s.acts ∧ (State.bindTiles s).planner = s.planner ∧ (State.bindTiles s).nav = s.nav ∧
    (State.bindTiles s).loops = s.loops ∧ (State.bindTiles s).field = s.field ∧
    (State.bindTiles s).can = s.can := by
  simp [State.bindTiles]

end Sys2Proof.Machine
end

