-- ==== Sys2Proof/Laws/FrameTiles.lean ====
section
/-! SUPPORT. What the operations of Machine/Tiles.lean leave alone: one lemma per operation, the conjunction of
every field of State that it keeps. -/

set_option Elab.async false

open Sys2Proof Sys2Proof.Machine

namespace Sys2Proof.Machine

@[simp] theorem State.updPChan_keeps (s : State) (ch : Nat) (f : PChan → PChan) :
    (State.updPChan s ch f).pending = s.pending ∧ (State.updPChan s ch f).free = s.free ∧
    (State.updPChan s ch f).time = s.time ∧ (State.updPChan s ch f).dev = s.dev ∧
    (State.updPChan s ch f).pwr = s.pwr ∧ (State.updPChan s ch f).sag = s.sag ∧
    (State.updPChan s ch f).host = s.host ∧ (State.updPChan s ch f).cfg = s.cfg ∧
    (State.updPChan s ch f).flash = s.flash ∧ (State.updPChan s ch f).acts = s.acts ∧
    (State.updPChan s ch f).cnt = s.cnt ∧ (State.updPChan s ch f).valves = s.valves ∧
    (State.updPChan s ch f).tiles = s.tiles ∧ (State.updPChan s ch f).nav = s.nav ∧
    (State.updPChan s ch f).loops = s.loops ∧ (State.updPChan s ch f).field = s.field ∧
    (State.updPChan s ch f).can = s.can := by
  exact ⟨rfl, rfl, rfl, rfl, rfl, rfl, rfl, rfl, rfl, rfl, rfl, rfl, rfl, rfl, rfl, rfl, rfl⟩

@[simp] theorem State.prefetchTile_keeps (s : State) (tx ty : Int) (need : Nat) :
    (State.prefetchTile s tx ty need).pending = s.pending ∧ (State.prefetchTile s tx ty need).free = s.free ∧
    (State.prefetchTile s tx ty need).time = s.time ∧ (State.prefetchTile s tx ty need).dev = s.dev ∧
    (State.prefetchTile s tx ty need).pwr = s.pwr ∧ (State.prefetchTile s tx ty need).sag = s.sag ∧
    (State.prefetchTile s tx ty need).cfg = s.cfg ∧ (State.prefetchTile s tx ty need).flash = s.flash ∧
    (State.prefetchTile s tx ty need).acts = s.acts ∧ (State.prefetchTile s tx ty need).planner = s.planner ∧
    (State.prefetchTile s tx ty need).nav = s.nav ∧ (State.prefetchTile s tx ty need).loops = s.loops ∧
    (State.prefetchTile s tx ty need).field = s.field ∧ (State.prefetchTile s tx ty need).can = s.can := by
  unfold State.prefetchTile; (repeat' split) <;> simp

@[simp] theorem State.prefetch_keeps (s : State) :
    (State.prefetch s).pending = s.pending ∧ (State.prefetch s).free = s.free ∧ (State.prefetch s).time = s.time ∧
    (State.prefetch s).dev = s.dev ∧ (State.prefetch s).pwr = s.pwr ∧ (State.prefetch s).sag = s.sag ∧
    (State.prefetch s).cfg = s.cfg ∧ (State.prefetch s).flash = s.flash ∧ (State.prefetch s).acts = s.acts ∧
    (State.prefetch s).planner = s.planner ∧ (State.prefetch s).nav = s.nav ∧ (State.prefetch s).loops = s.loops ∧
    (State.prefetch s).field = s.field ∧ (State.prefetch s).can = s.can := by
  simp [State.prefetch]

@[simp] theorem State.wbDue_keeps (s : State) (slot : Nat) :
    (State.wbDue s slot).pending = s.pending ∧ (State.wbDue s slot).free = s.free ∧
    (State.wbDue s slot).time = s.time ∧ (State.wbDue s slot).dev = s.dev ∧ (State.wbDue s slot).pwr = s.pwr ∧
    (State.wbDue s slot).sag = s.sag ∧ (State.wbDue s slot).cfg = s.cfg ∧ (State.wbDue s slot).flash = s.flash ∧
    (State.wbDue s slot).acts = s.acts ∧ (State.wbDue s slot).planner = s.planner ∧
    (State.wbDue s slot).nav = s.nav ∧ (State.wbDue s slot).loops = s.loops ∧ (State.wbDue s slot).field = s.field ∧
    (State.wbDue s slot).can = s.can := by
  unfold State.wbDue; (repeat' split) <;> simp

@[simp] theorem State.wbComplete_keeps (s : State) (slot : Nat) (ok : Bool) :
    (State.wbComplete s slot ok).pending = s.pending ∧ (State.wbComplete s slot ok).free = s.free ∧
    (State.wbComplete s slot ok).time = s.time ∧ (State.wbComplete s slot ok).dev = s.dev ∧
    (State.wbComplete s slot ok).pwr = s.pwr ∧ (State.wbComplete s slot ok).sag = s.sag ∧
    (State.wbComplete s slot ok).cfg = s.cfg ∧ (State.wbComplete s slot ok).flash = s.flash ∧
    (State.wbComplete s slot ok).acts = s.acts ∧ (State.wbComplete s slot ok).planner = s.planner ∧
    (State.wbComplete s slot ok).nav = s.nav ∧ (State.wbComplete s slot ok).loops = s.loops ∧
    (State.wbComplete s slot ok).field = s.field ∧ (State.wbComplete s slot ok).can = s.can := by
  unfold State.wbComplete; (repeat' split) <;> simp

@[simp] theorem State.tileTimedOut_keeps (s : State) (slot : Nat) :
    (State.tileTimedOut s slot).pending = s.pending ∧ (State.tileTimedOut s slot).free = s.free ∧
    (State.tileTimedOut s slot).time = s.time ∧ (State.tileTimedOut s slot).dev = s.dev ∧
    (State.tileTimedOut s slot).pwr = s.pwr ∧ (State.tileTimedOut s slot).sag = s.sag ∧
    (State.tileTimedOut s slot).cfg = s.cfg ∧ (State.tileTimedOut s slot).flash = s.flash ∧
    (State.tileTimedOut s slot).acts = s.acts ∧ (State.tileTimedOut s slot).planner = s.planner ∧
    (State.tileTimedOut s slot).nav = s.nav ∧ (State.tileTimedOut s slot).loops = s.loops ∧
    (State.tileTimedOut s slot).field = s.field ∧ (State.tileTimedOut s slot).can = s.can := by
  unfold State.tileTimedOut; (repeat' split) <;> simp

@[simp] theorem State.retrySlot_keeps (s : State) (x : TSlot) :
    (State.retrySlot s x).pending = s.pending ∧ (State.retrySlot s x).free = s.free ∧
    (State.retrySlot s x).time = s.time ∧ (State.retrySlot s x).dev = s.dev ∧ (State.retrySlot s x).pwr = s.pwr ∧
    (State.retrySlot s x).sag = s.sag ∧ (State.retrySlot s x).cfg = s.cfg ∧ (State.retrySlot s x).flash = s.flash ∧
    (State.retrySlot s x).acts = s.acts ∧ (State.retrySlot s x).planner = s.planner ∧
    (State.retrySlot s x).nav = s.nav ∧ (State.retrySlot s x).loops = s.loops ∧
    (State.retrySlot s x).field = s.field ∧ (State.retrySlot s x).can = s.can := by
  simp [State.retrySlot]

@[simp] theorem State.retryTile_keeps (s : State) (w : Int × Int × Nat) :
    (State.retryTile s w).pending = s.pending ∧ (State.retryTile s w).free = s.free ∧
    (State.retryTile s w).time = s.time ∧ (State.retryTile s w).dev = s.dev ∧ (State.retryTile s w).pwr = s.pwr ∧
    (State.retryTile s w).sag = s.sag ∧ (State.retryTile s w).cfg = s.cfg ∧ (State.retryTile s w).flash = s.flash ∧
    (State.retryTile s w).acts = s.acts ∧ (State.retryTile s w).planner = s.planner ∧
    (State.retryTile s w).nav = s.nav ∧ (State.retryTile s w).loops = s.loops ∧
    (State.retryTile s w).field = s.field ∧ (State.retryTile s w).can = s.can := by
  unfold State.retryTile; (repeat' split) <;> simp

@[simp] theorem State.cancelRect_keeps (s : State) (x0 y0 x1 y1 : Int) :
    (State.cancelRect s x0 y0 x1 y1).pending = s.pending ∧ (State.cancelRect s x0 y0 x1 y1).free = s.free ∧
    (State.cancelRect s x0 y0 x1 y1).time = s.time ∧ (State.cancelRect s x0 y0 x1 y1).dev = s.dev ∧
    (State.cancelRect s x0 y0 x1 y1).pwr = s.pwr ∧ (State.cancelRect s x0 y0 x1 y1).sag = s.sag ∧
    (State.cancelRect s x0 y0 x1 y1).host = s.host ∧ (State.cancelRect s x0 y0 x1 y1).cfg = s.cfg ∧
    (State.cancelRect s x0 y0 x1 y1).flash = s.flash ∧ (State.cancelRect s x0 y0 x1 y1).acts = s.acts ∧
    (State.cancelRect s x0 y0 x1 y1).cnt = s.cnt ∧ (State.cancelRect s x0 y0 x1 y1).valves = s.valves ∧
    (State.cancelRect s x0 y0 x1 y1).planner = s.planner ∧ (State.cancelRect s x0 y0 x1 y1).nav = s.nav ∧
    (State.cancelRect s x0 y0 x1 y1).loops = s.loops ∧ (State.cancelRect s x0 y0 x1 y1).field = s.field ∧
    (State.cancelRect s x0 y0 x1 y1).can = s.can := by
  simp [State.cancelRect]

@[simp] theorem State.flushAll_keeps (s : State) :
    (State.flushAll s).2.pending = s.pending ∧ (State.flushAll s).2.free = s.free ∧
    (State.flushAll s).2.time = s.time ∧ (State.flushAll s).2.dev = s.dev ∧ (State.flushAll s).2.pwr = s.pwr ∧
    (State.flushAll s).2.sag = s.sag ∧ (State.flushAll s).2.cfg = s.cfg ∧ (State.flushAll s).2.flash = s.flash ∧
    (State.flushAll s).2.acts = s.acts ∧ (State.flushAll s).2.planner = s.planner ∧
    (State.flushAll s).2.nav = s.nav ∧ (State.flushAll s).2.loops = s.loops ∧ (State.flushAll s).2.field = s.field ∧
    (State.flushAll s).2.can = s.can := by
  simp [State.flushAll]

@[simp] theorem State.flushDone_keeps (s : State) :
    (State.flushDone s).pending = s.pending ∧ (State.flushDone s).free = s.free ∧
    (State.flushDone s).time = s.time ∧ (State.flushDone s).dev = s.dev ∧ (State.flushDone s).pwr = s.pwr ∧
    (State.flushDone s).sag = s.sag ∧ (State.flushDone s).cfg = s.cfg ∧ (State.flushDone s).flash = s.flash ∧
    (State.flushDone s).acts = s.acts ∧ (State.flushDone s).valves = s.valves ∧
    (State.flushDone s).tiles = s.tiles ∧ (State.flushDone s).planner = s.planner ∧
    (State.flushDone s).nav = s.nav ∧ (State.flushDone s).loops = s.loops ∧ (State.flushDone s).field = s.field ∧
    (State.flushDone s).can = s.can := by
  unfold State.flushDone; (repeat' split) <;> simp

@[simp] theorem State.invalidate_keeps (s : State) (mode : Nat) (x : TSlot) :
    (s.invalidate mode x).pending = s.pending ∧ (s.invalidate mode x).free = s.free ∧
    (s.invalidate mode x).time = s.time ∧ (s.invalidate mode x).dev = s.dev ∧ (s.invalidate mode x).pwr = s.pwr ∧
    (s.invalidate mode x).sag = s.sag ∧ (s.invalidate mode x).cfg = s.cfg ∧ (s.invalidate mode x).flash = s.flash ∧
    (s.invalidate mode x).acts = s.acts ∧ (s.invalidate mode x).planner = s.planner ∧
    (s.invalidate mode x).nav = s.nav ∧ (s.invalidate mode x).loops = s.loops ∧
    (s.invalidate mode x).field = s.field ∧ (s.invalidate mode x).can = s.can := by
  unfold State.invalidate; dsimp only; (repeat' split) <;> simp

end Sys2Proof.Machine
end

