-- ==== Sys2Proof/Laws/FrameField.lean ====
section
/-! SUPPORT. What the operations of Machine/Field.lean leave alone: one lemma per operation, the conjunction of
every field of State that it keeps. -/

set_option Elab.async false

open Sys2Proof Sys2Proof.Machine

namespace Sys2Proof.Machine

@[simp] theorem State.updField_keeps (s : State) (f : Field → Field) :
    (State.updField s f).pending = s.pending ∧ (State.updField s f).free = s.free ∧
    (State.updField s f).time = s.time ∧ (State.updField s f).dev = s.dev ∧ (State.updField s f).pwr = s.pwr ∧
    (State.updField s f).sag = s.sag ∧ (State.updField s f).host = s.host ∧ (State.updField s f).cfg = s.cfg ∧
    (State.updField s f).flash = s.flash ∧ (State.updField s f).acts = s.acts ∧ (State.updField s f).cnt = s.cnt ∧
    (State.updField s f).valves = s.valves ∧ (State.updField s f).tiles = s.tiles ∧
    (State.updField s f).planner = s.planner ∧ (State.updField s f).nav = s.nav ∧
    (State.updField s f).loops = s.loops ∧ (State.updField s f).can = s.can := by
  exact ⟨rfl, rfl, rfl, rfl, rfl, rfl, rfl, rfl, rfl, rfl, rfl, rfl, rfl, rfl, rfl, rfl, rfl⟩

@[simp] theorem State.updPin_keeps (s : State) (p : Nat) (f : FdPin → FdPin) :
    (State.updPin s p f).pending = s.pending ∧ (State.updPin s p f).free = s.free ∧
    (State.updPin s p f).time = s.time ∧ (State.updPin s p f).dev = s.dev ∧ (State.updPin s p f).pwr = s.pwr ∧
    (State.updPin s p f).sag = s.sag ∧ (State.updPin s p f).host = s.host ∧ (State.updPin s p f).cfg = s.cfg ∧
    (State.updPin s p f).flash = s.flash ∧ (State.updPin s p f).acts = s.acts ∧ (State.updPin s p f).cnt = s.cnt ∧
    (State.updPin s p f).valves = s.valves ∧ (State.updPin s p f).tiles = s.tiles ∧
    (State.updPin s p f).planner = s.planner ∧ (State.updPin s p f).nav = s.nav ∧
    (State.updPin s p f).loops = s.loops ∧ (State.updPin s p f).can = s.can := by
  exact ⟨rfl, rfl, rfl, rfl, rfl, rfl, rfl, rfl, rfl, rfl, rfl, rfl, rfl, rfl, rfl, rfl, rfl⟩

@[simp] theorem State.updAi_keeps (s : State) (n : Nat) (f : AiIn → AiIn) :
    (State.updAi s n f).pending = s.pending ∧ (State.updAi s n f).free = s.free ∧
    (State.updAi s n f).time = s.time ∧ (State.updAi s n f).dev = s.dev ∧ (State.updAi s n f).pwr = s.pwr ∧
    (State.updAi s n f).sag = s.sag ∧ (State.updAi s n f).host = s.host ∧ (State.updAi s n f).cfg = s.cfg ∧
    (State.updAi s n f).flash = s.flash ∧ (State.updAi s n f).acts = s.acts ∧ (State.updAi s n f).cnt = s.cnt ∧
    (State.updAi s n f).valves = s.valves ∧ (State.updAi s n f).tiles = s.tiles ∧
    (State.updAi s n f).planner = s.planner ∧ (State.updAi s n f).nav = s.nav ∧
    (State.updAi s n f).loops = s.loops ∧ (State.updAi s n f).can = s.can := by
  exact ⟨rfl, rfl, rfl, rfl, rfl, rfl, rfl, rfl, rfl, rfl, rfl, rfl, rfl, rfl, rfl, rfl, rfl⟩

@[simp] theorem State.updPi_keeps (s : State) (n : Nat) (f : PiIn → PiIn) :
    (State.updPi s n f).pending = s.pending ∧ (State.updPi s n f).free = s.free ∧
    (State.updPi s n f).time = s.time ∧ (State.updPi s n f).dev = s.dev ∧ (State.updPi s n f).pwr = s.pwr ∧
    (State.updPi s n f).sag = s.sag ∧ (State.updPi s n f).host = s.host ∧ (State.updPi s n f).cfg = s.cfg ∧
    (State.updPi s n f).flash = s.flash ∧ (State.updPi s n f).acts = s.acts ∧ (State.updPi s n f).cnt = s.cnt ∧
    (State.updPi s n f).valves = s.valves ∧ (State.updPi s n f).tiles = s.tiles ∧
    (State.updPi s n f).planner = s.planner ∧ (State.updPi s n f).nav = s.nav ∧
    (State.updPi s n f).loops = s.loops ∧ (State.updPi s n f).can = s.can := by
  exact ⟨rfl, rfl, rfl, rfl, rfl, rfl, rfl, rfl, rfl, rfl, rfl, rfl, rfl, rfl, rfl, rfl, rfl⟩

@[simp] theorem State.updSx_keeps (s : State) (n : Nat) (f : SxOut → SxOut) :
    (State.updSx s n f).pending = s.pending ∧ (State.updSx s n f).free = s.free ∧
    (State.updSx s n f).time = s.time ∧ (State.updSx s n f).dev = s.dev ∧ (State.updSx s n f).pwr = s.pwr ∧
    (State.updSx s n f).sag = s.sag ∧ (State.updSx s n f).host = s.host ∧ (State.updSx s n f).cfg = s.cfg ∧
    (State.updSx s n f).flash = s.flash ∧ (State.updSx s n f).acts = s.acts ∧ (State.updSx s n f).cnt = s.cnt ∧
    (State.updSx s n f).valves = s.valves ∧ (State.updSx s n f).tiles = s.tiles ∧
    (State.updSx s n f).planner = s.planner ∧ (State.updSx s n f).nav = s.nav ∧
    (State.updSx s n f).loops = s.loops ∧ (State.updSx s n f).can = s.can := by
  exact ⟨rfl, rfl, rfl, rfl, rfl, rfl, rfl, rfl, rfl, rfl, rfl, rfl, rfl, rfl, rfl, rfl, rfl⟩

@[simp] theorem State.fieldSafe_keeps (s : State) :
    (State.fieldSafe s).pending = s.pending ∧ (State.fieldSafe s).free = s.free ∧
    (State.fieldSafe s).time = s.time ∧ (State.fieldSafe s).dev = s.dev ∧ (State.fieldSafe s).pwr = s.pwr ∧
    (State.fieldSafe s).sag = s.sag ∧ (State.fieldSafe s).host = s.host ∧ (State.fieldSafe s).cfg = s.cfg ∧
    (State.fieldSafe s).flash = s.flash ∧ (State.fieldSafe s).acts = s.acts ∧ (State.fieldSafe s).cnt = s.cnt ∧
    (State.fieldSafe s).valves = s.valves ∧ (State.fieldSafe s).tiles = s.tiles ∧
    (State.fieldSafe s).planner = s.planner ∧ (State.fieldSafe s).nav = s.nav ∧
    (State.fieldSafe s).loops = s.loops ∧ (State.fieldSafe s).can = s.can := by
  simp [State.fieldSafe]

@[simp] theorem State.downFrame_keeps (s : State) :
    (State.downFrame s).pending = s.pending ∧ (State.downFrame s).free = s.free ∧
    (State.downFrame s).time = s.time ∧ (State.downFrame s).dev = s.dev ∧ (State.downFrame s).pwr = s.pwr ∧
    (State.downFrame s).sag = s.sag ∧ (State.downFrame s).cfg = s.cfg ∧ (State.downFrame s).flash = s.flash ∧
    (State.downFrame s).acts = s.acts ∧ (State.downFrame s).valves = s.valves ∧
    (State.downFrame s).tiles = s.tiles ∧ (State.downFrame s).planner = s.planner ∧
    (State.downFrame s).nav = s.nav ∧ (State.downFrame s).loops = s.loops ∧ (State.downFrame s).can = s.can := by
  simp [State.downFrame]

@[simp] theorem State.takeFrame_keeps (s : State) :
    (State.takeFrame s).pending = s.pending ∧ (State.takeFrame s).free = s.free ∧
    (State.takeFrame s).time = s.time ∧ (State.takeFrame s).dev = s.dev ∧ (State.takeFrame s).pwr = s.pwr ∧
    (State.takeFrame s).sag = s.sag ∧ (State.takeFrame s).host = s.host ∧ (State.takeFrame s).cfg = s.cfg ∧
    (State.takeFrame s).flash = s.flash ∧ (State.takeFrame s).acts = s.acts ∧ (State.takeFrame s).cnt = s.cnt ∧
    (State.takeFrame s).valves = s.valves ∧ (State.takeFrame s).tiles = s.tiles ∧
    (State.takeFrame s).planner = s.planner ∧ (State.takeFrame s).nav = s.nav ∧
    (State.takeFrame s).loops = s.loops ∧ (State.takeFrame s).can = s.can := by
  simp [State.takeFrame]

@[simp] theorem State.fallSilent_keeps (s : State) :
    (State.fallSilent s).pending = s.pending ∧ (State.fallSilent s).free = s.free ∧
    (State.fallSilent s).time = s.time ∧ (State.fallSilent s).dev = s.dev ∧ (State.fallSilent s).pwr = s.pwr ∧
    (State.fallSilent s).sag = s.sag ∧ (State.fallSilent s).host = s.host ∧ (State.fallSilent s).cfg = s.cfg ∧
    (State.fallSilent s).flash = s.flash ∧ (State.fallSilent s).acts = s.acts ∧ (State.fallSilent s).cnt = s.cnt ∧
    (State.fallSilent s).valves = s.valves ∧ (State.fallSilent s).tiles = s.tiles ∧
    (State.fallSilent s).planner = s.planner ∧ (State.fallSilent s).nav = s.nav ∧
    (State.fallSilent s).loops = s.loops ∧ (State.fallSilent s).can = s.can := by
  simp [State.fallSilent]

@[simp] theorem State.downGood_keeps (s : State) :
    (State.downGood s).pending = s.pending ∧ (State.downGood s).free = s.free ∧ (State.downGood s).time = s.time ∧
    (State.downGood s).dev = s.dev ∧ (State.downGood s).pwr = s.pwr ∧ (State.downGood s).sag = s.sag ∧
    (State.downGood s).host = s.host ∧ (State.downGood s).cfg = s.cfg ∧ (State.downGood s).flash = s.flash ∧
    (State.downGood s).acts = s.acts ∧ (State.downGood s).cnt = s.cnt ∧ (State.downGood s).valves = s.valves ∧
    (State.downGood s).tiles = s.tiles ∧ (State.downGood s).planner = s.planner ∧ (State.downGood s).nav = s.nav ∧
    (State.downGood s).loops = s.loops ∧ (State.downGood s).can = s.can := by
  simp [State.downGood]

@[simp] theorem State.takePin_keeps (s : State) (p : Nat) :
    (State.takePin s p).pending = s.pending ∧ (State.takePin s p).free = s.free ∧
    (State.takePin s p).time = s.time ∧ (State.takePin s p).dev = s.dev ∧ (State.takePin s p).pwr = s.pwr ∧
    (State.takePin s p).sag = s.sag ∧ (State.takePin s p).cfg = s.cfg ∧ (State.takePin s p).flash = s.flash ∧
    (State.takePin s p).acts = s.acts ∧ (State.takePin s p).valves = s.valves ∧
    (State.takePin s p).tiles = s.tiles ∧ (State.takePin s p).planner = s.planner ∧
    (State.takePin s p).nav = s.nav ∧ (State.takePin s p).loops = s.loops ∧ (State.takePin s p).can = s.can := by
  simp [State.takePin]

@[simp] theorem State.takeChanges_keeps (s : State) :
    (State.takeChanges s).pending = s.pending ∧ (State.takeChanges s).free = s.free ∧
    (State.takeChanges s).time = s.time ∧ (State.takeChanges s).dev = s.dev ∧ (State.takeChanges s).pwr = s.pwr ∧
    (State.takeChanges s).sag = s.sag ∧ (State.takeChanges s).cfg = s.cfg ∧ (State.takeChanges s).flash = s.flash ∧
    (State.takeChanges s).acts = s.acts ∧ (State.takeChanges s).valves = s.valves ∧
    (State.takeChanges s).tiles = s.tiles ∧ (State.takeChanges s).planner = s.planner ∧
    (State.takeChanges s).nav = s.nav ∧ (State.takeChanges s).loops = s.loops ∧
    (State.takeChanges s).can = s.can := by
  simp [State.takeChanges]

@[simp] theorem State.upFrame_keeps (s : State) (good : Bool) (banks : List Nat) :
    (State.upFrame s good banks).pending = s.pending ∧ (State.upFrame s good banks).free = s.free ∧
    (State.upFrame s good banks).time = s.time ∧ (State.upFrame s good banks).dev = s.dev ∧
    (State.upFrame s good banks).pwr = s.pwr ∧ (State.upFrame s good banks).sag = s.sag ∧
    (State.upFrame s good banks).cfg = s.cfg ∧ (State.upFrame s good banks).flash = s.flash ∧
    (State.upFrame s good banks).acts = s.acts ∧ (State.upFrame s good banks).valves = s.valves ∧
    (State.upFrame s good banks).tiles = s.tiles ∧ (State.upFrame s good banks).planner = s.planner ∧
    (State.upFrame s good banks).nav = s.nav ∧ (State.upFrame s good banks).loops = s.loops ∧
    (State.upFrame s good banks).can = s.can := by
  simp [State.upFrame]

@[simp] theorem State.symbol_keeps (s : State) :
    (State.symbol s).pending = s.pending ∧ (State.symbol s).free = s.free ∧ (State.symbol s).time = s.time ∧
    (State.symbol s).dev = s.dev ∧ (State.symbol s).pwr = s.pwr ∧ (State.symbol s).sag = s.sag ∧
    (State.symbol s).host = s.host ∧ (State.symbol s).cfg = s.cfg ∧ (State.symbol s).flash = s.flash ∧
    (State.symbol s).acts = s.acts ∧ (State.symbol s).cnt = s.cnt ∧ (State.symbol s).valves = s.valves ∧
    (State.symbol s).tiles = s.tiles ∧ (State.symbol s).planner = s.planner ∧ (State.symbol s).nav = s.nav ∧
    (State.symbol s).loops = s.loops ∧ (State.symbol s).can = s.can := by
  simp [State.symbol]

@[simp] theorem State.setBroken_keeps (s : State) (p : Nat) (broken : Bool) :
    (State.setBroken s p broken).pending = s.pending ∧ (State.setBroken s p broken).free = s.free ∧
    (State.setBroken s p broken).time = s.time ∧ (State.setBroken s p broken).dev = s.dev ∧
    (State.setBroken s p broken).pwr = s.pwr ∧ (State.setBroken s p broken).sag = s.sag ∧
    (State.setBroken s p broken).host = s.host ∧ (State.setBroken s p broken).cfg = s.cfg ∧
    (State.setBroken s p broken).flash = s.flash ∧ (State.setBroken s p broken).acts = s.acts ∧
    (State.setBroken s p broken).cnt = s.cnt ∧ (State.setBroken s p broken).valves = s.valves ∧
    (State.setBroken s p broken).tiles = s.tiles ∧ (State.setBroken s p broken).planner = s.planner ∧
    (State.setBroken s p broken).nav = s.nav ∧ (State.setBroken s p broken).loops = s.loops ∧
    (State.setBroken s p broken).can = s.can := by
  simp [State.setBroken]

@[simp] theorem State.fdChanged_keeps (s : State) (p : Nat) (level : Bool) (since : Nat) :
    (State.fdChanged s p level since).pending = s.pending ∧ (State.fdChanged s p level since).free = s.free ∧
    (State.fdChanged s p level since).time = s.time ∧ (State.fdChanged s p level since).dev = s.dev ∧
    (State.fdChanged s p level since).pwr = s.pwr ∧ (State.fdChanged s p level since).sag = s.sag ∧
    (State.fdChanged s p level since).host = s.host ∧ (State.fdChanged s p level since).cfg = s.cfg ∧
    (State.fdChanged s p level since).flash = s.flash ∧ (State.fdChanged s p level since).acts = s.acts ∧
    (State.fdChanged s p level since).cnt = s.cnt ∧ (State.fdChanged s p level since).valves = s.valves ∧
    (State.fdChanged s p level since).tiles = s.tiles ∧ (State.fdChanged s p level since).planner = s.planner ∧
    (State.fdChanged s p level since).nav = s.nav ∧ (State.fdChanged s p level since).loops = s.loops ∧
    (State.fdChanged s p level since).can = s.can := by
  simp [State.fdChanged]

@[simp] theorem State.latchPin_keeps (s : State) (p kind : Nat) (urgent : Bool) :
    (State.latchPin s p kind urgent).pending = s.pending ∧ (State.latchPin s p kind urgent).free = s.free ∧
    (State.latchPin s p kind urgent).time = s.time ∧ (State.latchPin s p kind urgent).dev = s.dev ∧
    (State.latchPin s p kind urgent).pwr = s.pwr ∧ (State.latchPin s p kind urgent).sag = s.sag ∧
    (State.latchPin s p kind urgent).host = s.host ∧ (State.latchPin s p kind urgent).cfg = s.cfg ∧
    (State.latchPin s p kind urgent).flash = s.flash ∧ (State.latchPin s p kind urgent).acts = s.acts ∧
    (State.latchPin s p kind urgent).cnt = s.cnt ∧ (State.latchPin s p kind urgent).valves = s.valves ∧
    (State.latchPin s p kind urgent).tiles = s.tiles ∧ (State.latchPin s p kind urgent).planner = s.planner ∧
    (State.latchPin s p kind urgent).nav = s.nav ∧ (State.latchPin s p kind urgent).loops = s.loops ∧
    (State.latchPin s p kind urgent).can = s.can := by
  simp [State.latchPin]

@[simp] theorem State.pinFinding_keeps (s : State) (p kind : Nat) :
    (State.pinFinding s p kind).pending = s.pending ∧ (State.pinFinding s p kind).free = s.free ∧
    (State.pinFinding s p kind).time = s.time ∧ (State.pinFinding s p kind).dev = s.dev ∧
    (State.pinFinding s p kind).pwr = s.pwr ∧ (State.pinFinding s p kind).sag = s.sag ∧
    (State.pinFinding s p kind).host = s.host ∧ (State.pinFinding s p kind).cfg = s.cfg ∧
    (State.pinFinding s p kind).flash = s.flash ∧ (State.pinFinding s p kind).acts = s.acts ∧
    (State.pinFinding s p kind).cnt = s.cnt ∧ (State.pinFinding s p kind).valves = s.valves ∧
    (State.pinFinding s p kind).tiles = s.tiles ∧ (State.pinFinding s p kind).planner = s.planner ∧
    (State.pinFinding s p kind).nav = s.nav ∧ (State.pinFinding s p kind).loops = s.loops ∧
    (State.pinFinding s p kind).can = s.can := by
  simp [State.pinFinding]

@[simp] theorem State.setValid_keeps (s : State) (n kind : Nat) :
    (State.setValid s n kind).pending = s.pending ∧ (State.setValid s n kind).free = s.free ∧
    (State.setValid s n kind).time = s.time ∧ (State.setValid s n kind).dev = s.dev ∧
    (State.setValid s n kind).pwr = s.pwr ∧ (State.setValid s n kind).sag = s.sag ∧
    (State.setValid s n kind).cfg = s.cfg ∧ (State.setValid s n kind).flash = s.flash ∧
    (State.setValid s n kind).acts = s.acts ∧ (State.setValid s n kind).valves = s.valves ∧
    (State.setValid s n kind).tiles = s.tiles ∧ (State.setValid s n kind).planner = s.planner ∧
    (State.setValid s n kind).nav = s.nav ∧ (State.setValid s n kind).loops = s.loops ∧
    (State.setValid s n kind).can = s.can := by
  simp [State.setValid]

@[simp] theorem State.ratioLost_keeps (s : State) (k : Nat) :
    (State.ratioLost s k).pending = s.pending ∧ (State.ratioLost s k).free = s.free ∧
    (State.ratioLost s k).time = s.time ∧ (State.ratioLost s k).dev = s.dev ∧ (State.ratioLost s k).pwr = s.pwr ∧
    (State.ratioLost s k).sag = s.sag ∧ (State.ratioLost s k).cfg = s.cfg ∧ (State.ratioLost s k).flash = s.flash ∧
    (State.ratioLost s k).acts = s.acts ∧ (State.ratioLost s k).valves = s.valves ∧
    (State.ratioLost s k).tiles = s.tiles ∧ (State.ratioLost s k).planner = s.planner ∧
    (State.ratioLost s k).nav = s.nav ∧ (State.ratioLost s k).loops = s.loops ∧
    (State.ratioLost s k).can = s.can := by
  simp [State.ratioLost]

@[simp] theorem State.piLoad_keeps (s : State) (n t : Nat) :
    (State.piLoad s n t).pending = s.pending ∧ (State.piLoad s n t).free = s.free ∧
    (State.piLoad s n t).time = s.time ∧ (State.piLoad s n t).dev = s.dev ∧ (State.piLoad s n t).pwr = s.pwr ∧
    (State.piLoad s n t).sag = s.sag ∧ (State.piLoad s n t).host = s.host ∧ (State.piLoad s n t).cfg = s.cfg ∧
    (State.piLoad s n t).flash = s.flash ∧ (State.piLoad s n t).acts = s.acts ∧
    (State.piLoad s n t).valves = s.valves ∧ (State.piLoad s n t).tiles = s.tiles ∧
    (State.piLoad s n t).planner = s.planner ∧ (State.piLoad s n t).nav = s.nav ∧
    (State.piLoad s n t).loops = s.loops ∧ (State.piLoad s n t).can = s.can := by
  unfold State.piLoad; (repeat' split) <;> simp

@[simp] theorem State.piStamp_keeps (s : State) (n src t : Nat) (level : Bool) (step : Int) :
    (State.piStamp s n src t level step).pending = s.pending ∧ (State.piStamp s n src t level step).free = s.free ∧
    (State.piStamp s n src t level step).time = s.time ∧ (State.piStamp s n src t level step).dev = s.dev ∧
    (State.piStamp s n src t level step).pwr = s.pwr ∧ (State.piStamp s n src t level step).sag = s.sag ∧
    (State.piStamp s n src t level step).host = s.host ∧ (State.piStamp s n src t level step).cfg = s.cfg ∧
    (State.piStamp s n src t level step).flash = s.flash ∧ (State.piStamp s n src t level step).acts = s.acts ∧
    (State.piStamp s n src t level step).valves = s.valves ∧ (State.piStamp s n src t level step).tiles = s.tiles ∧
    (State.piStamp s n src t level step).planner = s.planner ∧ (State.piStamp s n src t level step).nav = s.nav ∧
    (State.piStamp s n src t level step).loops = s.loops ∧ (State.piStamp s n src t level step).can = s.can := by
  simp [State.piStamp]

@[simp] theorem State.piEdge_keeps (s : State) (n t : Nat) (level : Bool) :
    (State.piEdge s n t level).pending = s.pending ∧ (State.piEdge s n t level).free = s.free ∧
    (State.piEdge s n t level).time = s.time ∧ (State.piEdge s n t level).dev = s.dev ∧
    (State.piEdge s n t level).pwr = s.pwr ∧ (State.piEdge s n t level).sag = s.sag ∧
    (State.piEdge s n t level).host = s.host ∧ (State.piEdge s n t level).cfg = s.cfg ∧
    (State.piEdge s n t level).flash = s.flash ∧ (State.piEdge s n t level).acts = s.acts ∧
    (State.piEdge s n t level).valves = s.valves ∧ (State.piEdge s n t level).tiles = s.tiles ∧
    (State.piEdge s n t level).planner = s.planner ∧ (State.piEdge s n t level).nav = s.nav ∧
    (State.piEdge s n t level).loops = s.loops ∧ (State.piEdge s n t level).can = s.can := by
  simp [State.piEdge]

@[simp] theorem State.clearPin_keeps (s : State) (p : Nat) :
    (State.clearPin s p).pending = s.pending ∧ (State.clearPin s p).free = s.free ∧
    (State.clearPin s p).time = s.time ∧ (State.clearPin s p).dev = s.dev ∧ (State.clearPin s p).pwr = s.pwr ∧
    (State.clearPin s p).sag = s.sag ∧ (State.clearPin s p).host = s.host ∧ (State.clearPin s p).cfg = s.cfg ∧
    (State.clearPin s p).flash = s.flash ∧ (State.clearPin s p).acts = s.acts ∧ (State.clearPin s p).cnt = s.cnt ∧
    (State.clearPin s p).valves = s.valves ∧ (State.clearPin s p).tiles = s.tiles ∧
    (State.clearPin s p).planner = s.planner ∧ (State.clearPin s p).nav = s.nav ∧
    (State.clearPin s p).loops = s.loops ∧ (State.clearPin s p).can = s.can := by
  simp [State.clearPin]

@[simp] theorem State.fieldParked_keeps (s : State) :
    (State.fieldParked s).pending = s.pending ∧ (State.fieldParked s).free = s.free ∧
    (State.fieldParked s).time = s.time ∧ (State.fieldParked s).dev = s.dev ∧ (State.fieldParked s).pwr = s.pwr ∧
    (State.fieldParked s).sag = s.sag ∧ (State.fieldParked s).host = s.host ∧ (State.fieldParked s).cfg = s.cfg ∧
    (State.fieldParked s).flash = s.flash ∧ (State.fieldParked s).acts = s.acts ∧
    (State.fieldParked s).cnt = s.cnt ∧ (State.fieldParked s).valves = s.valves ∧
    (State.fieldParked s).tiles = s.tiles ∧ (State.fieldParked s).planner = s.planner ∧
    (State.fieldParked s).nav = s.nav ∧ (State.fieldParked s).loops = s.loops ∧
    (State.fieldParked s).can = s.can := by
  simp [State.fieldParked]

@[simp] theorem State.fieldFired_keeps (s : State) :
    (State.fieldFired s).pending = s.pending ∧ (State.fieldFired s).free = s.free ∧
    (State.fieldFired s).time = s.time ∧ (State.fieldFired s).dev = s.dev ∧ (State.fieldFired s).pwr = s.pwr ∧
    (State.fieldFired s).sag = s.sag ∧ (State.fieldFired s).cfg = s.cfg ∧ (State.fieldFired s).flash = s.flash ∧
    (State.fieldFired s).acts = s.acts ∧ (State.fieldFired s).valves = s.valves ∧
    (State.fieldFired s).tiles = s.tiles ∧ (State.fieldFired s).planner = s.planner ∧
    (State.fieldFired s).nav = s.nav ∧ (State.fieldFired s).loops = s.loops ∧
    (State.fieldFired s).can = s.can := by
  simp [State.fieldFired]

@[simp] theorem State.aiUnit_keeps (s : State) (n : Nat) (mean : Rat) (vsx : Nat) :
    (State.aiUnit s n mean vsx).1.pending = s.pending ∧ (State.aiUnit s n mean vsx).1.time = s.time ∧
    (State.aiUnit s n mean vsx).1.dev = s.dev ∧ (State.aiUnit s n mean vsx).1.pwr = s.pwr ∧
    (State.aiUnit s n mean vsx).1.sag = s.sag ∧ (State.aiUnit s n mean vsx).1.host = s.host ∧
    (State.aiUnit s n mean vsx).1.cfg = s.cfg ∧ (State.aiUnit s n mean vsx).1.flash = s.flash ∧
    (State.aiUnit s n mean vsx).1.acts = s.acts ∧ (State.aiUnit s n mean vsx).1.cnt = s.cnt ∧
    (State.aiUnit s n mean vsx).1.valves = s.valves ∧ (State.aiUnit s n mean vsx).1.tiles = s.tiles ∧
    (State.aiUnit s n mean vsx).1.planner = s.planner ∧ (State.aiUnit s n mean vsx).1.nav = s.nav ∧
    (State.aiUnit s n mean vsx).1.loops = s.loops ∧ (State.aiUnit s n mean vsx).1.field = s.field ∧
    (State.aiUnit s n mean vsx).1.can = s.can := by
  unfold State.aiUnit; (repeat' split) <;> simp

@[simp] theorem State.aiRead_keeps (s : State) (n : Nat) (samples : List Int) (vsx : Nat) (code : Word) :
    (State.aiRead s n samples vsx code).pending = s.pending ∧ (State.aiRead s n samples vsx code).time = s.time ∧
    (State.aiRead s n samples vsx code).dev = s.dev ∧ (State.aiRead s n samples vsx code).pwr = s.pwr ∧
    (State.aiRead s n samples vsx code).sag = s.sag ∧ (State.aiRead s n samples vsx code).host = s.host ∧
    (State.aiRead s n samples vsx code).cfg = s.cfg ∧ (State.aiRead s n samples vsx code).flash = s.flash ∧
    (State.aiRead s n samples vsx code).acts = s.acts ∧ (State.aiRead s n samples vsx code).cnt = s.cnt ∧
    (State.aiRead s n samples vsx code).valves = s.valves ∧ (State.aiRead s n samples vsx code).tiles = s.tiles ∧
    (State.aiRead s n samples vsx code).planner = s.planner ∧ (State.aiRead s n samples vsx code).nav = s.nav ∧
    (State.aiRead s n samples vsx code).loops = s.loops ∧ (State.aiRead s n samples vsx code).can = s.can := by
  have h := State.aiUnit_keeps s n ((samples.sum : Rat) / (samples.length : Rat)) vsx
  unfold State.aiRead
  dsimp only
  generalize State.aiUnit s n ((samples.sum : Rat) / (samples.length : Rat)) vsx = p at *
  obtain ⟨a, b⟩ := p
  split <;> simp_all

end Sys2Proof.Machine
end

