-- ==== Sys2Proof/Laws/FrameLoads.lean ====
section
/-! SUPPORT. What the operations of Machine/Loads.lean leave alone: one lemma per operation, the conjunction of
every field of State that it keeps. -/

set_option Elab.async false

open Sys2Proof Sys2Proof.Machine

namespace Sys2Proof.Machine

@[simp] theorem State.updLs_keeps (s : State) (n : Nat) (f : Switch → Switch) :
    (State.updLs s n f).pending = s.pending ∧ (State.updLs s n f).free = s.free ∧
    (State.updLs s n f).time = s.time ∧ (State.updLs s n f).dev = s.dev ∧ (State.updLs s n f).pwr = s.pwr ∧
    (State.updLs s n f).sag = s.sag ∧ (State.updLs s n f).host = s.host ∧ (State.updLs s n f).cfg = s.cfg ∧
    (State.updLs s n f).flash = s.flash ∧ (State.updLs s n f).acts = s.acts ∧ (State.updLs s n f).cnt = s.cnt ∧
    (State.updLs s n f).valves = s.valves ∧ (State.updLs s n f).tiles = s.tiles ∧
    (State.updLs s n f).planner = s.planner ∧ (State.updLs s n f).nav = s.nav ∧
    (State.updLs s n f).field = s.field ∧ (State.updLs s n f).can = s.can := by
  exact ⟨rfl, rfl, rfl, rfl, rfl, rfl, rfl, rfl, rfl, rfl, rfl, rfl, rfl, rfl, rfl, rfl, rfl⟩

@[simp] theorem State.updLsPair_keeps (s : State) (k : Nat) (f : LsPair → LsPair) :
    (State.updLsPair s k f).pending = s.pending ∧ (State.updLsPair s k f).free = s.free ∧
    (State.updLsPair s k f).time = s.time ∧ (State.updLsPair s k f).dev = s.dev ∧
    (State.updLsPair s k f).pwr = s.pwr ∧ (State.updLsPair s k f).sag = s.sag ∧
    (State.updLsPair s k f).host = s.host ∧ (State.updLsPair s k f).cfg = s.cfg ∧
    (State.updLsPair s k f).flash = s.flash ∧ (State.updLsPair s k f).acts = s.acts ∧
    (State.updLsPair s k f).cnt = s.cnt ∧ (State.updLsPair s k f).valves = s.valves ∧
    (State.updLsPair s k f).tiles = s.tiles ∧ (State.updLsPair s k f).planner = s.planner ∧
    (State.updLsPair s k f).nav = s.nav ∧ (State.updLsPair s k f).field = s.field ∧
    (State.updLsPair s k f).can = s.can := by
  exact ⟨rfl, rfl, rfl, rfl, rfl, rfl, rfl, rfl, rfl, rfl, rfl, rfl, rfl, rfl, rfl, rfl, rfl⟩

@[simp] theorem State.lsDate_keeps (s : State) (n : Nat) :
    (State.lsDate s n).pending = s.pending ∧ (State.lsDate s n).free = s.free ∧ (State.lsDate s n).time = s.time ∧
    (State.lsDate s n).dev = s.dev ∧ (State.lsDate s n).pwr = s.pwr ∧ (State.lsDate s n).sag = s.sag ∧
    (State.lsDate s n).host = s.host ∧ (State.lsDate s n).cfg = s.cfg ∧ (State.lsDate s n).flash = s.flash ∧
    (State.lsDate s n).acts = s.acts ∧ (State.lsDate s n).cnt = s.cnt ∧ (State.lsDate s n).tiles = s.tiles ∧
    (State.lsDate s n).planner = s.planner ∧ (State.lsDate s n).nav = s.nav ∧ (State.lsDate s n).field = s.field ∧
    (State.lsDate s n).can = s.can := by
  simp [State.lsDate]

@[simp] theorem State.lsReckon_keeps (s : State) (n : Nat) :
    (State.lsReckon s n).pending = s.pending ∧ (State.lsReckon s n).free = s.free ∧
    (State.lsReckon s n).time = s.time ∧ (State.lsReckon s n).dev = s.dev ∧ (State.lsReckon s n).pwr = s.pwr ∧
    (State.lsReckon s n).sag = s.sag ∧ (State.lsReckon s n).host = s.host ∧ (State.lsReckon s n).cfg = s.cfg ∧
    (State.lsReckon s n).flash = s.flash ∧ (State.lsReckon s n).acts = s.acts ∧ (State.lsReckon s n).cnt = s.cnt ∧
    (State.lsReckon s n).valves = s.valves ∧ (State.lsReckon s n).tiles = s.tiles ∧
    (State.lsReckon s n).planner = s.planner ∧ (State.lsReckon s n).nav = s.nav ∧
    (State.lsReckon s n).field = s.field ∧ (State.lsReckon s n).can = s.can := by
  simp [State.lsReckon]

@[simp] theorem State.lsSet_keeps (s : State) (n : Nat) (m : LsMode) (duty : Int) :
    (State.lsSet s n m duty).pending = s.pending ∧ (State.lsSet s n m duty).free = s.free ∧
    (State.lsSet s n m duty).time = s.time ∧ (State.lsSet s n m duty).dev = s.dev ∧
    (State.lsSet s n m duty).pwr = s.pwr ∧ (State.lsSet s n m duty).sag = s.sag ∧
    (State.lsSet s n m duty).host = s.host ∧ (State.lsSet s n m duty).cfg = s.cfg ∧
    (State.lsSet s n m duty).flash = s.flash ∧ (State.lsSet s n m duty).acts = s.acts ∧
    (State.lsSet s n m duty).cnt = s.cnt ∧ (State.lsSet s n m duty).valves = s.valves ∧
    (State.lsSet s n m duty).tiles = s.tiles ∧ (State.lsSet s n m duty).planner = s.planner ∧
    (State.lsSet s n m duty).nav = s.nav ∧ (State.lsSet s n m duty).field = s.field ∧
    (State.lsSet s n m duty).can = s.can := by
  simp [State.lsSet]

@[simp] theorem State.lsPut_keeps (s : State) (n : Nat) (m : LsMode) (duty : Int) :
    (State.lsPut s n m duty).pending = s.pending ∧ (State.lsPut s n m duty).free = s.free ∧
    (State.lsPut s n m duty).time = s.time ∧ (State.lsPut s n m duty).dev = s.dev ∧
    (State.lsPut s n m duty).pwr = s.pwr ∧ (State.lsPut s n m duty).sag = s.sag ∧
    (State.lsPut s n m duty).host = s.host ∧ (State.lsPut s n m duty).cfg = s.cfg ∧
    (State.lsPut s n m duty).flash = s.flash ∧ (State.lsPut s n m duty).acts = s.acts ∧
    (State.lsPut s n m duty).cnt = s.cnt ∧ (State.lsPut s n m duty).tiles = s.tiles ∧
    (State.lsPut s n m duty).planner = s.planner ∧ (State.lsPut s n m duty).nav = s.nav ∧
    (State.lsPut s n m duty).field = s.field ∧ (State.lsPut s n m duty).can = s.can := by
  simp [State.lsPut]

@[simp] theorem State.lsOwned_keeps (s : State) (n : Nat) :
    (State.lsOwned s n).pending = s.pending ∧ (State.lsOwned s n).free = s.free ∧
    (State.lsOwned s n).time = s.time ∧ (State.lsOwned s n).dev = s.dev ∧ (State.lsOwned s n).pwr = s.pwr ∧
    (State.lsOwned s n).sag = s.sag ∧ (State.lsOwned s n).host = s.host ∧ (State.lsOwned s n).cfg = s.cfg ∧
    (State.lsOwned s n).flash = s.flash ∧ (State.lsOwned s n).acts = s.acts ∧ (State.lsOwned s n).cnt = s.cnt ∧
    (State.lsOwned s n).valves = s.valves ∧ (State.lsOwned s n).tiles = s.tiles ∧
    (State.lsOwned s n).planner = s.planner ∧ (State.lsOwned s n).nav = s.nav ∧
    (State.lsOwned s n).field = s.field ∧ (State.lsOwned s n).can = s.can := by
  simp [State.lsOwned]

@[simp] theorem State.lsApply_keeps (s : State) (n : Nat) :
    (State.lsApply s n).pending = s.pending ∧ (State.lsApply s n).free = s.free ∧
    (State.lsApply s n).time = s.time ∧ (State.lsApply s n).dev = s.dev ∧ (State.lsApply s n).pwr = s.pwr ∧
    (State.lsApply s n).sag = s.sag ∧ (State.lsApply s n).host = s.host ∧ (State.lsApply s n).cfg = s.cfg ∧
    (State.lsApply s n).flash = s.flash ∧ (State.lsApply s n).acts = s.acts ∧ (State.lsApply s n).cnt = s.cnt ∧
    (State.lsApply s n).tiles = s.tiles ∧ (State.lsApply s n).planner = s.planner ∧
    (State.lsApply s n).nav = s.nav ∧ (State.lsApply s n).field = s.field ∧ (State.lsApply s n).can = s.can := by
  simp [State.lsApply]

@[simp] theorem State.lsOff_keeps (s : State) (n : Nat) :
    (State.lsOff s n).pending = s.pending ∧ (State.lsOff s n).free = s.free ∧ (State.lsOff s n).time = s.time ∧
    (State.lsOff s n).dev = s.dev ∧ (State.lsOff s n).pwr = s.pwr ∧ (State.lsOff s n).sag = s.sag ∧
    (State.lsOff s n).host = s.host ∧ (State.lsOff s n).cfg = s.cfg ∧ (State.lsOff s n).flash = s.flash ∧
    (State.lsOff s n).acts = s.acts ∧ (State.lsOff s n).cnt = s.cnt ∧ (State.lsOff s n).tiles = s.tiles ∧
    (State.lsOff s n).planner = s.planner ∧ (State.lsOff s n).nav = s.nav ∧ (State.lsOff s n).field = s.field ∧
    (State.lsOff s n).can = s.can := by
  simp [State.lsOff]

@[simp] theorem State.lsLatchOne_keeps (s : State) (n cause : Nat) :
    (State.lsLatchOne s n cause).pending = s.pending ∧ (State.lsLatchOne s n cause).free = s.free ∧
    (State.lsLatchOne s n cause).time = s.time ∧ (State.lsLatchOne s n cause).dev = s.dev ∧
    (State.lsLatchOne s n cause).pwr = s.pwr ∧ (State.lsLatchOne s n cause).cfg = s.cfg ∧
    (State.lsLatchOne s n cause).acts = s.acts ∧ (State.lsLatchOne s n cause).tiles = s.tiles ∧
    (State.lsLatchOne s n cause).planner = s.planner ∧ (State.lsLatchOne s n cause).nav = s.nav ∧
    (State.lsLatchOne s n cause).field = s.field ∧ (State.lsLatchOne s n cause).can = s.can := by
  simp [State.lsLatchOne]

@[simp] theorem State.lsLatch_keeps (s : State) (n cause : Nat) :
    (State.lsLatch s n cause).pending = s.pending ∧ (State.lsLatch s n cause).free = s.free ∧
    (State.lsLatch s n cause).time = s.time ∧ (State.lsLatch s n cause).dev = s.dev ∧
    (State.lsLatch s n cause).pwr = s.pwr ∧ (State.lsLatch s n cause).cfg = s.cfg ∧
    (State.lsLatch s n cause).acts = s.acts ∧ (State.lsLatch s n cause).tiles = s.tiles ∧
    (State.lsLatch s n cause).planner = s.planner ∧ (State.lsLatch s n cause).nav = s.nav ∧
    (State.lsLatch s n cause).field = s.field ∧ (State.lsLatch s n cause).can = s.can := by
  simp [State.lsLatch]

@[simp] theorem State.lsFinding_keeps (s : State) (n cause : Nat) :
    (State.lsFinding s n cause).pending = s.pending ∧ (State.lsFinding s n cause).free = s.free ∧
    (State.lsFinding s n cause).time = s.time ∧ (State.lsFinding s n cause).dev = s.dev ∧
    (State.lsFinding s n cause).pwr = s.pwr ∧ (State.lsFinding s n cause).cfg = s.cfg ∧
    (State.lsFinding s n cause).acts = s.acts ∧ (State.lsFinding s n cause).tiles = s.tiles ∧
    (State.lsFinding s n cause).planner = s.planner ∧ (State.lsFinding s n cause).nav = s.nav ∧
    (State.lsFinding s n cause).field = s.field ∧ (State.lsFinding s n cause).can = s.can := by
  simp [State.lsFinding]

@[simp] theorem State.lsTripped_keeps (s : State) (n : Nat) (ma : Int) (short : Bool) :
    (State.lsTripped s n ma short).pending = s.pending ∧ (State.lsTripped s n ma short).free = s.free ∧
    (State.lsTripped s n ma short).time = s.time ∧ (State.lsTripped s n ma short).dev = s.dev ∧
    (State.lsTripped s n ma short).pwr = s.pwr ∧ (State.lsTripped s n ma short).cfg = s.cfg ∧
    (State.lsTripped s n ma short).acts = s.acts ∧ (State.lsTripped s n ma short).tiles = s.tiles ∧
    (State.lsTripped s n ma short).planner = s.planner ∧ (State.lsTripped s n ma short).nav = s.nav ∧
    (State.lsTripped s n ma short).field = s.field ∧ (State.lsTripped s n ma short).can = s.can := by
  simp [State.lsTripped]

@[simp] theorem State.lsMean_keeps (s : State) (n : Nat) (o : Int × Nat) :
    (State.lsMean s n o).pending = s.pending ∧ (State.lsMean s n o).free = s.free ∧
    (State.lsMean s n o).time = s.time ∧ (State.lsMean s n o).dev = s.dev ∧ (State.lsMean s n o).pwr = s.pwr ∧
    (State.lsMean s n o).sag = s.sag ∧ (State.lsMean s n o).host = s.host ∧ (State.lsMean s n o).cfg = s.cfg ∧
    (State.lsMean s n o).flash = s.flash ∧ (State.lsMean s n o).acts = s.acts ∧ (State.lsMean s n o).cnt = s.cnt ∧
    (State.lsMean s n o).valves = s.valves ∧ (State.lsMean s n o).tiles = s.tiles ∧
    (State.lsMean s n o).planner = s.planner ∧ (State.lsMean s n o).nav = s.nav ∧
    (State.lsMean s n o).field = s.field ∧ (State.lsMean s n o).can = s.can := by
  simp [State.lsMean]

@[simp] theorem State.lsPeriod_keeps (s : State) (k : Nat) (obs : List (Int × Nat)) (cell : Int) :
    (State.lsPeriod s k obs cell).pending = s.pending ∧ (State.lsPeriod s k obs cell).free = s.free ∧
    (State.lsPeriod s k obs cell).time = s.time ∧ (State.lsPeriod s k obs cell).dev = s.dev ∧
    (State.lsPeriod s k obs cell).pwr = s.pwr ∧ (State.lsPeriod s k obs cell).sag = s.sag ∧
    (State.lsPeriod s k obs cell).host = s.host ∧ (State.lsPeriod s k obs cell).cfg = s.cfg ∧
    (State.lsPeriod s k obs cell).flash = s.flash ∧ (State.lsPeriod s k obs cell).acts = s.acts ∧
    (State.lsPeriod s k obs cell).cnt = s.cnt ∧ (State.lsPeriod s k obs cell).tiles = s.tiles ∧
    (State.lsPeriod s k obs cell).planner = s.planner ∧ (State.lsPeriod s k obs cell).nav = s.nav ∧
    (State.lsPeriod s k obs cell).field = s.field ∧ (State.lsPeriod s k obs cell).can = s.can := by
  simp [State.lsPeriod]

@[simp] theorem State.thermal_keeps (s : State) (k : Nat) (temp : Int) (losses : Nat × Nat) :
    (State.thermal s k temp losses).pending = s.pending ∧ (State.thermal s k temp losses).free = s.free ∧
    (State.thermal s k temp losses).time = s.time ∧ (State.thermal s k temp losses).dev = s.dev ∧
    (State.thermal s k temp losses).pwr = s.pwr ∧ (State.thermal s k temp losses).cfg = s.cfg ∧
    (State.thermal s k temp losses).acts = s.acts ∧ (State.thermal s k temp losses).tiles = s.tiles ∧
    (State.thermal s k temp losses).planner = s.planner ∧ (State.thermal s k temp losses).nav = s.nav ∧
    (State.thermal s k temp losses).field = s.field ∧ (State.thermal s k temp losses).can = s.can := by
  simp [State.thermal]

@[simp] theorem State.lsTested_keeps (s : State) (n c : Nat) :
    (State.lsTested s n c).pending = s.pending ∧ (State.lsTested s n c).free = s.free ∧
    (State.lsTested s n c).time = s.time ∧ (State.lsTested s n c).dev = s.dev ∧ (State.lsTested s n c).pwr = s.pwr ∧
    (State.lsTested s n c).cfg = s.cfg ∧ (State.lsTested s n c).tiles = s.tiles ∧
    (State.lsTested s n c).planner = s.planner ∧ (State.lsTested s n c).nav = s.nav ∧
    (State.lsTested s n c).field = s.field ∧ (State.lsTested s n c).can = s.can := by
  simp [State.lsTested]

@[simp] theorem State.lsClearDone_keeps (s : State) (obs : List (Option OffObs)) :
    (State.lsClearDone s obs).pending = s.pending ∧ (State.lsClearDone s obs).free = s.free ∧
    (State.lsClearDone s obs).time = s.time ∧ (State.lsClearDone s obs).dev = s.dev ∧
    (State.lsClearDone s obs).pwr = s.pwr ∧ (State.lsClearDone s obs).cfg = s.cfg ∧
    (State.lsClearDone s obs).tiles = s.tiles ∧ (State.lsClearDone s obs).planner = s.planner ∧
    (State.lsClearDone s obs).nav = s.nav ∧ (State.lsClearDone s obs).field = s.field ∧
    (State.lsClearDone s obs).can = s.can := by
  unfold State.lsClearDone; (repeat' split) <;> simp

@[simp] theorem State.lsDiagDone_keeps (s : State) (obs : List (Option OffObs)) :
    (State.lsDiagDone s obs).pending = s.pending ∧ (State.lsDiagDone s obs).free = s.free ∧
    (State.lsDiagDone s obs).time = s.time ∧ (State.lsDiagDone s obs).dev = s.dev ∧
    (State.lsDiagDone s obs).pwr = s.pwr ∧ (State.lsDiagDone s obs).cfg = s.cfg ∧
    (State.lsDiagDone s obs).tiles = s.tiles ∧ (State.lsDiagDone s obs).planner = s.planner ∧
    (State.lsDiagDone s obs).nav = s.nav ∧ (State.lsDiagDone s obs).field = s.field ∧
    (State.lsDiagDone s obs).can = s.can := by
  unfold State.lsDiagDone; (repeat' split) <;> simp

@[simp] theorem State.lsAll_keeps (s : State) :
    (State.lsAll s).pending = s.pending ∧ (State.lsAll s).free = s.free ∧ (State.lsAll s).time = s.time ∧
    (State.lsAll s).dev = s.dev ∧ (State.lsAll s).pwr = s.pwr ∧ (State.lsAll s).sag = s.sag ∧
    (State.lsAll s).host = s.host ∧ (State.lsAll s).cfg = s.cfg ∧ (State.lsAll s).flash = s.flash ∧
    (State.lsAll s).acts = s.acts ∧ (State.lsAll s).cnt = s.cnt ∧ (State.lsAll s).tiles = s.tiles ∧
    (State.lsAll s).planner = s.planner ∧ (State.lsAll s).nav = s.nav ∧ (State.lsAll s).field = s.field ∧
    (State.lsAll s).can = s.can := by
  simp [State.lsAll]

@[simp] theorem State.loadsFired_keeps (s : State) :
    (State.loadsFired s).pending = s.pending ∧ (State.loadsFired s).free = s.free ∧
    (State.loadsFired s).time = s.time ∧ (State.loadsFired s).dev = s.dev ∧ (State.loadsFired s).pwr = s.pwr ∧
    (State.loadsFired s).sag = s.sag ∧ (State.loadsFired s).host = s.host ∧ (State.loadsFired s).cfg = s.cfg ∧
    (State.loadsFired s).flash = s.flash ∧ (State.loadsFired s).acts = s.acts ∧ (State.loadsFired s).cnt = s.cnt ∧
    (State.loadsFired s).valves = s.valves ∧ (State.loadsFired s).tiles = s.tiles ∧
    (State.loadsFired s).planner = s.planner ∧ (State.loadsFired s).nav = s.nav ∧
    (State.loadsFired s).field = s.field ∧ (State.loadsFired s).can = s.can := by
  simp [State.loadsFired]

@[simp] theorem State.lsForget_keeps (s : State) :
    (State.lsForget s).pending = s.pending ∧ (State.lsForget s).free = s.free ∧ (State.lsForget s).time = s.time ∧
    (State.lsForget s).dev = s.dev ∧ (State.lsForget s).pwr = s.pwr ∧ (State.lsForget s).sag = s.sag ∧
    (State.lsForget s).host = s.host ∧ (State.lsForget s).cfg = s.cfg ∧ (State.lsForget s).flash = s.flash ∧
    (State.lsForget s).acts = s.acts ∧ (State.lsForget s).cnt = s.cnt ∧ (State.lsForget s).valves = s.valves ∧
    (State.lsForget s).tiles = s.tiles ∧ (State.lsForget s).planner = s.planner ∧ (State.lsForget s).nav = s.nav ∧
    (State.lsForget s).field = s.field ∧ (State.lsForget s).can = s.can := by
  simp [State.lsForget]

end Sys2Proof.Machine
end

