-- ==== Sys2Proof/Laws/FrameLoopOps.lean ====
section
/-! SUPPORT. What the operations of Machine/LoopOps.lean leave alone: one lemma per operation, the conjunction of
every field of State that it keeps. -/

set_option Elab.async false

open Sys2Proof Sys2Proof.Machine

namespace Sys2Proof.Machine

@[simp] theorem State.updLoop_keeps (s : State) (n : Nat) (f : Loop → Loop) :
    (State.updLoop s n f).pending = s.pending ∧ (State.updLoop s n f).free = s.free ∧
    (State.updLoop s n f).time = s.time ∧ (State.updLoop s n f).dev = s.dev ∧ (State.updLoop s n f).pwr = s.pwr ∧
    (State.updLoop s n f).sag = s.sag ∧ (State.updLoop s n f).host = s.host ∧ (State.updLoop s n f).cfg = s.cfg ∧
    (State.updLoop s n f).flash = s.flash ∧ (State.updLoop s n f).acts = s.acts ∧
    (State.updLoop s n f).cnt = s.cnt ∧ (State.updLoop s n f).valves = s.valves ∧
    (State.updLoop s n f).tiles = s.tiles ∧ (State.updLoop s n f).planner = s.planner ∧
    (State.updLoop s n f).nav = s.nav ∧ (State.updLoop s n f).field = s.field ∧
    (State.updLoop s n f).can = s.can := by
  exact ⟨rfl, rfl, rfl, rfl, rfl, rfl, rfl, rfl, rfl, rfl, rfl, rfl, rfl, rfl, rfl, rfl, rfl⟩

@[simp] theorem State.updTrace_keeps (s : State) (n : Nat) (f : Trace → Trace) :
    (State.updTrace s n f).pending = s.pending ∧ (State.updTrace s n f).free = s.free ∧
    (State.updTrace s n f).time = s.time ∧ (State.updTrace s n f).dev = s.dev ∧ (State.updTrace s n f).pwr = s.pwr ∧
    (State.updTrace s n f).sag = s.sag ∧ (State.updTrace s n f).host = s.host ∧ (State.updTrace s n f).cfg = s.cfg ∧
    (State.updTrace s n f).flash = s.flash ∧ (State.updTrace s n f).acts = s.acts ∧
    (State.updTrace s n f).cnt = s.cnt ∧ (State.updTrace s n f).valves = s.valves ∧
    (State.updTrace s n f).tiles = s.tiles ∧ (State.updTrace s n f).planner = s.planner ∧
    (State.updTrace s n f).nav = s.nav ∧ (State.updTrace s n f).field = s.field ∧
    (State.updTrace s n f).can = s.can := by
  exact ⟨rfl, rfl, rfl, rfl, rfl, rfl, rfl, rfl, rfl, rfl, rfl, rfl, rfl, rfl, rfl, rfl, rfl⟩

@[simp] theorem State.holdSlot_keeps (s : State) (b n : Nat) :
    (State.holdSlot s b n).pending = s.pending ∧ (State.holdSlot s b n).time = s.time ∧
    (State.holdSlot s b n).dev = s.dev ∧ (State.holdSlot s b n).pwr = s.pwr ∧ (State.holdSlot s b n).host = s.host ∧
    (State.holdSlot s b n).cfg = s.cfg ∧ (State.holdSlot s b n).flash = s.flash ∧
    (State.holdSlot s b n).acts = s.acts ∧ (State.holdSlot s b n).cnt = s.cnt ∧
    (State.holdSlot s b n).valves = s.valves ∧ (State.holdSlot s b n).tiles = s.tiles ∧
    (State.holdSlot s b n).planner = s.planner ∧ (State.holdSlot s b n).nav = s.nav ∧
    (State.holdSlot s b n).loops = s.loops ∧ (State.holdSlot s b n).field = s.field := by
  simp [State.holdSlot]

@[simp] theorem State.loopField_keeps (s : State) (n : Nat) (u : Int) :
    (State.loopField s n u).pending = s.pending ∧ (State.loopField s n u).free = s.free ∧
    (State.loopField s n u).time = s.time ∧ (State.loopField s n u).dev = s.dev ∧
    (State.loopField s n u).pwr = s.pwr ∧ (State.loopField s n u).sag = s.sag ∧
    (State.loopField s n u).cfg = s.cfg ∧ (State.loopField s n u).flash = s.flash ∧
    (State.loopField s n u).acts = s.acts ∧ (State.loopField s n u).valves = s.valves ∧
    (State.loopField s n u).tiles = s.tiles ∧ (State.loopField s n u).planner = s.planner ∧
    (State.loopField s n u).nav = s.nav ∧ (State.loopField s n u).loops = s.loops ∧
    (State.loopField s n u).field = s.field := by
  unfold State.loopField; (repeat' split) <;> simp

@[simp] theorem State.setOut_keeps (s : State) (n : Nat) (u : Int) :
    (State.setOut s n u).pending = s.pending ∧ (State.setOut s n u).free = s.free ∧
    (State.setOut s n u).time = s.time ∧ (State.setOut s n u).dev = s.dev ∧ (State.setOut s n u).pwr = s.pwr ∧
    (State.setOut s n u).sag = s.sag ∧ (State.setOut s n u).cfg = s.cfg ∧ (State.setOut s n u).flash = s.flash ∧
    (State.setOut s n u).acts = s.acts ∧ (State.setOut s n u).valves = s.valves ∧
    (State.setOut s n u).tiles = s.tiles ∧ (State.setOut s n u).planner = s.planner ∧
    (State.setOut s n u).nav = s.nav ∧ (State.setOut s n u).field = s.field := by
  simp [State.setOut]

@[simp] theorem State.loopFault_keeps (s : State) (n cause : Nat) :
    (State.loopFault s n cause).pending = s.pending ∧ (State.loopFault s n cause).free = s.free ∧
    (State.loopFault s n cause).time = s.time ∧ (State.loopFault s n cause).dev = s.dev ∧
    (State.loopFault s n cause).pwr = s.pwr ∧ (State.loopFault s n cause).sag = s.sag ∧
    (State.loopFault s n cause).cfg = s.cfg ∧ (State.loopFault s n cause).acts = s.acts ∧
    (State.loopFault s n cause).valves = s.valves ∧ (State.loopFault s n cause).tiles = s.tiles ∧
    (State.loopFault s n cause).planner = s.planner ∧ (State.loopFault s n cause).nav = s.nav ∧
    (State.loopFault s n cause).field = s.field := by
  simp [State.loopFault]

@[simp] theorem State.loopSafe_keeps (s : State) (n : Nat) :
    (State.loopSafe s n).pending = s.pending ∧ (State.loopSafe s n).free = s.free ∧
    (State.loopSafe s n).time = s.time ∧ (State.loopSafe s n).dev = s.dev ∧ (State.loopSafe s n).pwr = s.pwr ∧
    (State.loopSafe s n).sag = s.sag ∧ (State.loopSafe s n).cfg = s.cfg ∧ (State.loopSafe s n).flash = s.flash ∧
    (State.loopSafe s n).acts = s.acts ∧ (State.loopSafe s n).valves = s.valves ∧
    (State.loopSafe s n).tiles = s.tiles ∧ (State.loopSafe s n).planner = s.planner ∧
    (State.loopSafe s n).nav = s.nav ∧ (State.loopSafe s n).field = s.field := by
  simp [State.loopSafe]

@[simp] theorem State.loopsArm_keeps (s : State) :
    (State.loopsArm s).pending = s.pending ∧ (State.loopsArm s).free = s.free ∧ (State.loopsArm s).time = s.time ∧
    (State.loopsArm s).dev = s.dev ∧ (State.loopsArm s).pwr = s.pwr ∧ (State.loopsArm s).sag = s.sag ∧
    (State.loopsArm s).host = s.host ∧ (State.loopsArm s).cfg = s.cfg ∧ (State.loopsArm s).flash = s.flash ∧
    (State.loopsArm s).acts = s.acts ∧ (State.loopsArm s).cnt = s.cnt ∧ (State.loopsArm s).valves = s.valves ∧
    (State.loopsArm s).tiles = s.tiles ∧ (State.loopsArm s).planner = s.planner ∧ (State.loopsArm s).nav = s.nav ∧
    (State.loopsArm s).field = s.field ∧ (State.loopsArm s).can = s.can := by
  simp [State.loopsArm]

@[simp] theorem State.applyOutputs_keeps (s : State) :
    (State.applyOutputs s).pending = s.pending ∧ (State.applyOutputs s).free = s.free ∧
    (State.applyOutputs s).time = s.time ∧ (State.applyOutputs s).dev = s.dev ∧ (State.applyOutputs s).pwr = s.pwr ∧
    (State.applyOutputs s).sag = s.sag ∧ (State.applyOutputs s).cfg = s.cfg ∧
    (State.applyOutputs s).flash = s.flash ∧ (State.applyOutputs s).acts = s.acts ∧
    (State.applyOutputs s).valves = s.valves ∧ (State.applyOutputs s).tiles = s.tiles ∧
    (State.applyOutputs s).planner = s.planner ∧ (State.applyOutputs s).nav = s.nav ∧
    (State.applyOutputs s).field = s.field := by
  simp [State.applyOutputs]

@[simp] theorem State.loopMeasure_keeps (s : State) (n : Nat) :
    (State.loopMeasure s n).pending = s.pending ∧ (State.loopMeasure s n).time = s.time ∧
    (State.loopMeasure s n).dev = s.dev ∧ (State.loopMeasure s n).pwr = s.pwr ∧
    (State.loopMeasure s n).cfg = s.cfg ∧ (State.loopMeasure s n).acts = s.acts ∧
    (State.loopMeasure s n).valves = s.valves ∧ (State.loopMeasure s n).tiles = s.tiles ∧
    (State.loopMeasure s n).planner = s.planner ∧ (State.loopMeasure s n).nav = s.nav ∧
    (State.loopMeasure s n).field = s.field := by
  unfold State.loopMeasure; (repeat' split) <;> simp

@[simp] theorem State.noteSat_keeps (s : State) (n : Nat) (c : BitVec 5) :
    (State.noteSat s n c).pending = s.pending ∧ (State.noteSat s n c).free = s.free ∧
    (State.noteSat s n c).time = s.time ∧ (State.noteSat s n c).dev = s.dev ∧ (State.noteSat s n c).pwr = s.pwr ∧
    (State.noteSat s n c).sag = s.sag ∧ (State.noteSat s n c).cfg = s.cfg ∧ (State.noteSat s n c).flash = s.flash ∧
    (State.noteSat s n c).acts = s.acts ∧ (State.noteSat s n c).valves = s.valves ∧
    (State.noteSat s n c).tiles = s.tiles ∧ (State.noteSat s n c).planner = s.planner ∧
    (State.noteSat s n c).nav = s.nav ∧ (State.noteSat s n c).field = s.field ∧
    (State.noteSat s n c).can = s.can := by
  simp [State.noteSat]

@[simp] theorem State.outerTakes_keeps (s : State) (n : Nat) :
    (State.outerTakes s n).pending = s.pending ∧ (State.outerTakes s n).free = s.free ∧
    (State.outerTakes s n).time = s.time ∧ (State.outerTakes s n).dev = s.dev ∧ (State.outerTakes s n).pwr = s.pwr ∧
    (State.outerTakes s n).sag = s.sag ∧ (State.outerTakes s n).cfg = s.cfg ∧
    (State.outerTakes s n).flash = s.flash ∧ (State.outerTakes s n).acts = s.acts ∧
    (State.outerTakes s n).valves = s.valves ∧ (State.outerTakes s n).tiles = s.tiles ∧
    (State.outerTakes s n).planner = s.planner ∧ (State.outerTakes s n).nav = s.nav ∧
    (State.outerTakes s n).field = s.field ∧ (State.outerTakes s n).can = s.can := by
  unfold State.outerTakes; (repeat' split) <;> simp

@[simp] theorem State.closeLoop_keeps (s : State) (n : Nat) :
    (State.closeLoop s n).pending = s.pending ∧ (State.closeLoop s n).free = s.free ∧
    (State.closeLoop s n).time = s.time ∧ (State.closeLoop s n).dev = s.dev ∧ (State.closeLoop s n).pwr = s.pwr ∧
    (State.closeLoop s n).sag = s.sag ∧ (State.closeLoop s n).cfg = s.cfg ∧ (State.closeLoop s n).flash = s.flash ∧
    (State.closeLoop s n).acts = s.acts ∧ (State.closeLoop s n).valves = s.valves ∧
    (State.closeLoop s n).tiles = s.tiles ∧ (State.closeLoop s n).planner = s.planner ∧
    (State.closeLoop s n).nav = s.nav ∧ (State.closeLoop s n).field = s.field ∧
    (State.closeLoop s n).can = s.can := by
  simp [State.closeLoop]

@[simp] theorem State.loopTarget_keeps (s : State) (n : Nat) :
    (State.loopTarget s n).pending = s.pending ∧ (State.loopTarget s n).free = s.free ∧
    (State.loopTarget s n).time = s.time ∧ (State.loopTarget s n).dev = s.dev ∧ (State.loopTarget s n).pwr = s.pwr ∧
    (State.loopTarget s n).sag = s.sag ∧ (State.loopTarget s n).host = s.host ∧ (State.loopTarget s n).cfg = s.cfg ∧
    (State.loopTarget s n).flash = s.flash ∧ (State.loopTarget s n).acts = s.acts ∧
    (State.loopTarget s n).cnt = s.cnt ∧ (State.loopTarget s n).valves = s.valves ∧
    (State.loopTarget s n).tiles = s.tiles ∧ (State.loopTarget s n).planner = s.planner ∧
    (State.loopTarget s n).nav = s.nav ∧ (State.loopTarget s n).field = s.field ∧
    (State.loopTarget s n).can = s.can := by
  simp [State.loopTarget]

@[simp] theorem State.feCheck_keeps (s : State) (n : Nat) :
    (State.feCheck s n).2.pending = s.pending ∧ (State.feCheck s n).2.free = s.free ∧
    (State.feCheck s n).2.time = s.time ∧ (State.feCheck s n).2.dev = s.dev ∧ (State.feCheck s n).2.pwr = s.pwr ∧
    (State.feCheck s n).2.sag = s.sag ∧ (State.feCheck s n).2.host = s.host ∧ (State.feCheck s n).2.cfg = s.cfg ∧
    (State.feCheck s n).2.flash = s.flash ∧ (State.feCheck s n).2.acts = s.acts ∧
    (State.feCheck s n).2.cnt = s.cnt ∧ (State.feCheck s n).2.valves = s.valves ∧
    (State.feCheck s n).2.tiles = s.tiles ∧ (State.feCheck s n).2.planner = s.planner ∧
    (State.feCheck s n).2.nav = s.nav ∧ (State.feCheck s n).2.field = s.field ∧
    (State.feCheck s n).2.can = s.can := by
  unfold State.feCheck; dsimp only; (repeat' split) <;> simp_all

@[simp] theorem State.loopLaw_keeps (s : State) (n : Nat) :
    (State.loopLaw s n).pending = s.pending ∧ (State.loopLaw s n).free = s.free ∧
    (State.loopLaw s n).time = s.time ∧ (State.loopLaw s n).dev = s.dev ∧ (State.loopLaw s n).pwr = s.pwr ∧
    (State.loopLaw s n).sag = s.sag ∧ (State.loopLaw s n).cfg = s.cfg ∧ (State.loopLaw s n).flash = s.flash ∧
    (State.loopLaw s n).acts = s.acts ∧ (State.loopLaw s n).valves = s.valves ∧
    (State.loopLaw s n).tiles = s.tiles ∧ (State.loopLaw s n).planner = s.planner ∧
    (State.loopLaw s n).nav = s.nav ∧ (State.loopLaw s n).field = s.field ∧ (State.loopLaw s n).can = s.can := by
  simp [State.loopLaw]

@[simp] theorem State.recordTraces_keeps (s : State) (n : Nat) (faulted closed : Bool) :
    (State.recordTraces s n faulted closed).pending = s.pending ∧
    (State.recordTraces s n faulted closed).free = s.free ∧ (State.recordTraces s n faulted closed).time = s.time ∧
    (State.recordTraces s n faulted closed).dev = s.dev ∧ (State.recordTraces s n faulted closed).pwr = s.pwr ∧
    (State.recordTraces s n faulted closed).sag = s.sag ∧ (State.recordTraces s n faulted closed).cfg = s.cfg ∧
    (State.recordTraces s n faulted closed).flash = s.flash ∧
    (State.recordTraces s n faulted closed).acts = s.acts ∧
    (State.recordTraces s n faulted closed).valves = s.valves ∧
    (State.recordTraces s n faulted closed).tiles = s.tiles ∧
    (State.recordTraces s n faulted closed).planner = s.planner ∧
    (State.recordTraces s n faulted closed).nav = s.nav ∧ (State.recordTraces s n faulted closed).field = s.field ∧
    (State.recordTraces s n faulted closed).can = s.can := by
  simp [State.recordTraces]

@[simp] theorem State.loopsSafe_keeps (s : State) :
    (s.loopsSafe).pending = s.pending ∧ (s.loopsSafe).free = s.free ∧ (s.loopsSafe).time = s.time ∧
    (s.loopsSafe).dev = s.dev ∧ (s.loopsSafe).pwr = s.pwr ∧ (s.loopsSafe).sag = s.sag ∧ (s.loopsSafe).cfg = s.cfg ∧
    (s.loopsSafe).flash = s.flash ∧ (s.loopsSafe).acts = s.acts ∧ (s.loopsSafe).valves = s.valves ∧
    (s.loopsSafe).tiles = s.tiles ∧ (s.loopsSafe).planner = s.planner ∧ (s.loopsSafe).nav = s.nav ∧
    (s.loopsSafe).field = s.field := by
  unfold State.loopsSafe
  refine ⟨State.each_pending _ _ _ ?_, State.each_free _ _ _ ?_, State.each_time _ _ _ ?_, State.each_dev _ _ _ ?_, State.each_pwr _ _ _ ?_, State.each_sag _ _ _ ?_, State.each_cfg _ _ _ ?_, State.each_flash _ _ _ ?_, State.each_acts _ _ _ ?_, State.each_valves _ _ _ ?_, State.each_tiles _ _ _ ?_, State.each_planner _ _ _ ?_, State.each_nav _ _ _ ?_, State.each_field _ _ _ ?_⟩ <;>
  · intro s x; (repeat' split) <;> simp

end Sys2Proof.Machine
end

