-- ==== Sys2Proof/Laws/FrameLoopRows.lean ====
section
/-! SUPPORT. What the operations of Machine/LoopRows.lean leave alone: one lemma per operation, the conjunction of
every field of State that it keeps. -/

set_option Elab.async false

open Sys2Proof Sys2Proof.Machine

namespace Sys2Proof.Machine

@[simp] theorem State.loopCmd_keeps (s : State) (n : Nat) (w : Waiting) :
    (State.loopCmd s n w).pending = s.pending ∧ (State.loopCmd s n w).free = s.free ∧
    (State.loopCmd s n w).time = s.time ∧ (State.loopCmd s n w).dev = s.dev ∧ (State.loopCmd s n w).pwr = s.pwr ∧
    (State.loopCmd s n w).sag = s.sag ∧ (State.loopCmd s n w).cfg = s.cfg ∧ (State.loopCmd s n w).flash = s.flash ∧
    (State.loopCmd s n w).acts = s.acts ∧ (State.loopCmd s n w).valves = s.valves ∧
    (State.loopCmd s n w).tiles = s.tiles ∧ (State.loopCmd s n w).planner = s.planner ∧
    (State.loopCmd s n w).nav = s.nav ∧ (State.loopCmd s n w).field = s.field := by
  unfold State.loopCmd; (repeat' split) <;> simp

@[simp] theorem State.loopCmds_keeps (s : State) (n : Nat) :
    (State.loopCmds s n).pending = s.pending ∧ (State.loopCmds s n).free = s.free ∧
    (State.loopCmds s n).time = s.time ∧ (State.loopCmds s n).dev = s.dev ∧ (State.loopCmds s n).pwr = s.pwr ∧
    (State.loopCmds s n).sag = s.sag ∧ (State.loopCmds s n).cfg = s.cfg ∧ (State.loopCmds s n).flash = s.flash ∧
    (State.loopCmds s n).acts = s.acts ∧ (State.loopCmds s n).valves = s.valves ∧
    (State.loopCmds s n).tiles = s.tiles ∧ (State.loopCmds s n).planner = s.planner ∧
    (State.loopCmds s n).nav = s.nav ∧ (State.loopCmds s n).field = s.field := by
  simp [State.loopCmds]

@[simp] theorem State.traceOut_keeps (k n : Nat) (s : State) :
    (State.traceOut k n s).pending = s.pending ∧ (State.traceOut k n s).free = s.free ∧
    (State.traceOut k n s).time = s.time ∧ (State.traceOut k n s).dev = s.dev ∧ (State.traceOut k n s).pwr = s.pwr ∧
    (State.traceOut k n s).sag = s.sag ∧ (State.traceOut k n s).cfg = s.cfg ∧
    (State.traceOut k n s).flash = s.flash ∧ (State.traceOut k n s).acts = s.acts ∧
    (State.traceOut k n s).valves = s.valves ∧ (State.traceOut k n s).tiles = s.tiles ∧
    (State.traceOut k n s).planner = s.planner ∧ (State.traceOut k n s).nav = s.nav ∧
    (State.traceOut k n s).field = s.field ∧ (State.traceOut k n s).can = s.can := by
  induction k generalizing s with
  | zero => simp [State.traceOut]
  | succ k ih => unfold State.traceOut; dsimp only; (repeat' split) <;> simp [ih]

@[simp] theorem State.traceWrite_keeps (s : State) (k : Nat) :
    (State.traceWrite s k).pending = s.pending ∧ (State.traceWrite s k).free = s.free ∧
    (State.traceWrite s k).time = s.time ∧ (State.traceWrite s k).dev = s.dev ∧ (State.traceWrite s k).pwr = s.pwr ∧
    (State.traceWrite s k).sag = s.sag ∧ (State.traceWrite s k).cfg = s.cfg ∧
    (State.traceWrite s k).flash = s.flash ∧ (State.traceWrite s k).acts = s.acts ∧
    (State.traceWrite s k).valves = s.valves ∧ (State.traceWrite s k).tiles = s.tiles ∧
    (State.traceWrite s k).planner = s.planner ∧ (State.traceWrite s k).nav = s.nav ∧
    (State.traceWrite s k).field = s.field ∧ (State.traceWrite s k).can = s.can := by
  simp [State.traceWrite]

end Sys2Proof.Machine
end

