-- ==== Sys2Proof/Laws/FrameCorrOps.lean ====
section
/-! SUPPORT. What the operations of Machine/CorrOps.lean leave alone: one lemma per operation, the conjunction of
every field of State that it keeps. -/

set_option Elab.async false

open Sys2Proof Sys2Proof.Machine

namespace Sys2Proof.Machine

@[simp] theorem State.settlePairs_keeps (s : State) :
    (State.settlePairs s).pending = s.pending ∧ (State.settlePairs s).free = s.free ∧
    (State.settlePairs s).dev = s.dev ∧ (State.settlePairs s).pwr = s.pwr ∧ (State.settlePairs s).sag = s.sag ∧
    (State.settlePairs s).host = s.host ∧ (State.settlePairs s).cfg = s.cfg ∧
    (State.settlePairs s).flash = s.flash ∧ (State.settlePairs s).acts = s.acts ∧
    (State.settlePairs s).cnt = s.cnt ∧ (State.settlePairs s).valves = s.valves ∧
    (State.settlePairs s).tiles = s.tiles ∧ (State.settlePairs s).planner = s.planner ∧
    (State.settlePairs s).nav = s.nav ∧ (State.settlePairs s).loops = s.loops ∧
    (State.settlePairs s).field = s.field ∧ (State.settlePairs s).can = s.can := by
  simp [State.settlePairs]

@[simp] theorem State.ftRecord_keeps (s : State) (change : Nat) (p : FtPair) (step : Int) :
    (State.ftRecord s change p step).pending = s.pending ∧ (State.ftRecord s change p step).free = s.free ∧
    (State.ftRecord s change p step).time = s.time ∧ (State.ftRecord s change p step).dev = s.dev ∧
    (State.ftRecord s change p step).pwr = s.pwr ∧ (State.ftRecord s change p step).sag = s.sag ∧
    (State.ftRecord s change p step).cfg = s.cfg ∧ (State.ftRecord s change p step).flash = s.flash ∧
    (State.ftRecord s change p step).acts = s.acts ∧ (State.ftRecord s change p step).valves = s.valves ∧
    (State.ftRecord s change p step).tiles = s.tiles ∧ (State.ftRecord s change p step).planner = s.planner ∧
    (State.ftRecord s change p step).nav = s.nav ∧ (State.ftRecord s change p step).loops = s.loops ∧
    (State.ftRecord s change p step).field = s.field ∧ (State.ftRecord s change p step).can = s.can := by
  simp [State.ftRecord]

@[simp] theorem State.publish_keeps (s : State) (p : FtPair) (change : Nat) (step : Int) :
    (State.publish s p change step).pending = s.pending ∧ (State.publish s p change step).free = s.free ∧
    (State.publish s p change step).dev = s.dev ∧ (State.publish s p change step).pwr = s.pwr ∧
    (State.publish s p change step).sag = s.sag ∧ (State.publish s p change step).cfg = s.cfg ∧
    (State.publish s p change step).flash = s.flash ∧ (State.publish s p change step).acts = s.acts ∧
    (State.publish s p change step).valves = s.valves ∧ (State.publish s p change step).tiles = s.tiles ∧
    (State.publish s p change step).planner = s.planner ∧ (State.publish s p change step).nav = s.nav ∧
    (State.publish s p change step).loops = s.loops ∧ (State.publish s p change step).field = s.field ∧
    (State.publish s p change step).can = s.can := by
  simp [State.publish]

@[simp] theorem State.ftInvalid_keeps (s : State) :
    (State.ftInvalid s).pending = s.pending ∧ (State.ftInvalid s).free = s.free ∧ (State.ftInvalid s).dev = s.dev ∧
    (State.ftInvalid s).pwr = s.pwr ∧ (State.ftInvalid s).sag = s.sag ∧ (State.ftInvalid s).cfg = s.cfg ∧
    (State.ftInvalid s).flash = s.flash ∧ (State.ftInvalid s).acts = s.acts ∧
    (State.ftInvalid s).valves = s.valves ∧ (State.ftInvalid s).tiles = s.tiles ∧
    (State.ftInvalid s).planner = s.planner ∧ (State.ftInvalid s).loops = s.loops ∧
    (State.ftInvalid s).field = s.field ∧ (State.ftInvalid s).can = s.can := by
  simp [State.ftInvalid]

@[simp] theorem State.updCorr_keeps (s : State) (f : Corr → Corr) :
    (State.updCorr s f).pending = s.pending ∧ (State.updCorr s f).free = s.free ∧
    (State.updCorr s f).time = s.time ∧ (State.updCorr s f).dev = s.dev ∧ (State.updCorr s f).pwr = s.pwr ∧
    (State.updCorr s f).sag = s.sag ∧ (State.updCorr s f).host = s.host ∧ (State.updCorr s f).cfg = s.cfg ∧
    (State.updCorr s f).flash = s.flash ∧ (State.updCorr s f).acts = s.acts ∧ (State.updCorr s f).cnt = s.cnt ∧
    (State.updCorr s f).valves = s.valves ∧ (State.updCorr s f).tiles = s.tiles ∧
    (State.updCorr s f).planner = s.planner ∧ (State.updCorr s f).loops = s.loops ∧
    (State.updCorr s f).field = s.field ∧ (State.updCorr s f).can = s.can := by
  exact ⟨rfl, rfl, rfl, rfl, rfl, rfl, rfl, rfl, rfl, rfl, rfl, rfl, rfl, rfl, rfl, rfl, rfl⟩

@[simp] theorem State.updSextant_keeps (s : State) (f : Sextant → Sextant) :
    (State.updSextant s f).pending = s.pending ∧ (State.updSextant s f).free = s.free ∧
    (State.updSextant s f).time = s.time ∧ (State.updSextant s f).dev = s.dev ∧ (State.updSextant s f).pwr = s.pwr ∧
    (State.updSextant s f).sag = s.sag ∧ (State.updSextant s f).host = s.host ∧ (State.updSextant s f).cfg = s.cfg ∧
    (State.updSextant s f).flash = s.flash ∧ (State.updSextant s f).acts = s.acts ∧
    (State.updSextant s f).cnt = s.cnt ∧ (State.updSextant s f).valves = s.valves ∧
    (State.updSextant s f).tiles = s.tiles ∧ (State.updSextant s f).planner = s.planner ∧
    (State.updSextant s f).loops = s.loops ∧ (State.updSextant s f).field = s.field ∧
    (State.updSextant s f).can = s.can := by
  exact ⟨rfl, rfl, rfl, rfl, rfl, rfl, rfl, rfl, rfl, rfl, rfl, rfl, rfl, rfl, rfl, rfl, rfl⟩

@[simp] theorem State.corrDiscard_keeps (s : State) (n : Nat) :
    (State.corrDiscard s n).pending = s.pending ∧ (State.corrDiscard s n).free = s.free ∧
    (State.corrDiscard s n).time = s.time ∧ (State.corrDiscard s n).dev = s.dev ∧
    (State.corrDiscard s n).pwr = s.pwr ∧ (State.corrDiscard s n).sag = s.sag ∧
    (State.corrDiscard s n).host = s.host ∧ (State.corrDiscard s n).cfg = s.cfg ∧
    (State.corrDiscard s n).flash = s.flash ∧ (State.corrDiscard s n).acts = s.acts ∧
    (State.corrDiscard s n).valves = s.valves ∧ (State.corrDiscard s n).tiles = s.tiles ∧
    (State.corrDiscard s n).planner = s.planner ∧ (State.corrDiscard s n).loops = s.loops ∧
    (State.corrDiscard s n).field = s.field ∧ (State.corrDiscard s n).can = s.can := by
  simp [State.corrDiscard]

@[simp] theorem State.station_keeps (s : State) (id pos : Nat) :
    (State.station s id pos).pending = s.pending ∧ (State.station s id pos).free = s.free ∧
    (State.station s id pos).time = s.time ∧ (State.station s id pos).dev = s.dev ∧
    (State.station s id pos).pwr = s.pwr ∧ (State.station s id pos).sag = s.sag ∧
    (State.station s id pos).cfg = s.cfg ∧ (State.station s id pos).flash = s.flash ∧
    (State.station s id pos).acts = s.acts ∧ (State.station s id pos).valves = s.valves ∧
    (State.station s id pos).tiles = s.tiles ∧ (State.station s id pos).planner = s.planner ∧
    (State.station s id pos).loops = s.loops ∧ (State.station s id pos).field = s.field ∧
    (State.station s id pos).can = s.can := by
  simp [State.station]

@[simp] theorem State.corrUse_keeps (s : State) (body : List Byte) :
    (State.corrUse s body).pending = s.pending ∧ (State.corrUse s body).free = s.free ∧
    (State.corrUse s body).time = s.time ∧ (State.corrUse s body).dev = s.dev ∧ (State.corrUse s body).pwr = s.pwr ∧
    (State.corrUse s body).sag = s.sag ∧ (State.corrUse s body).cfg = s.cfg ∧
    (State.corrUse s body).flash = s.flash ∧ (State.corrUse s body).acts = s.acts ∧
    (State.corrUse s body).valves = s.valves ∧ (State.corrUse s body).tiles = s.tiles ∧
    (State.corrUse s body).planner = s.planner ∧ (State.corrUse s body).loops = s.loops ∧
    (State.corrUse s body).field = s.field ∧ (State.corrUse s body).can = s.can := by
  unfold State.corrUse; dsimp only; (repeat' split) <;> simp_all

@[simp] theorem State.updStream_keeps (s : State) (can : Bool) (f : Stream → Stream) :
    (State.updStream s can f).pending = s.pending ∧ (State.updStream s can f).free = s.free ∧
    (State.updStream s can f).time = s.time ∧ (State.updStream s can f).dev = s.dev ∧
    (State.updStream s can f).pwr = s.pwr ∧ (State.updStream s can f).sag = s.sag ∧
    (State.updStream s can f).host = s.host ∧ (State.updStream s can f).cfg = s.cfg ∧
    (State.updStream s can f).flash = s.flash ∧ (State.updStream s can f).acts = s.acts ∧
    (State.updStream s can f).cnt = s.cnt ∧ (State.updStream s can f).valves = s.valves ∧
    (State.updStream s can f).tiles = s.tiles ∧ (State.updStream s can f).planner = s.planner ∧
    (State.updStream s can f).loops = s.loops ∧ (State.updStream s can f).field = s.field ∧
    (State.updStream s can f).can = s.can := by
  exact ⟨rfl, rfl, rfl, rfl, rfl, rfl, rfl, rfl, rfl, rfl, rfl, rfl, rfl, rfl, rfl, rfl, rfl⟩

@[simp] theorem State.corrValid_keeps (s : State) (can : Bool) :
    (State.corrValid s can).pending = s.pending ∧ (State.corrValid s can).free = s.free ∧
    (State.corrValid s can).time = s.time ∧ (State.corrValid s can).dev = s.dev ∧
    (State.corrValid s can).pwr = s.pwr ∧ (State.corrValid s can).sag = s.sag ∧
    (State.corrValid s can).host = s.host ∧ (State.corrValid s can).cfg = s.cfg ∧
    (State.corrValid s can).flash = s.flash ∧ (State.corrValid s can).acts = s.acts ∧
    (State.corrValid s can).cnt = s.cnt ∧ (State.corrValid s can).valves = s.valves ∧
    (State.corrValid s can).tiles = s.tiles ∧ (State.corrValid s can).planner = s.planner ∧
    (State.corrValid s can).loops = s.loops ∧ (State.corrValid s can).field = s.field ∧
    (State.corrValid s can).can = s.can := by
  simp [State.corrValid]

@[simp] theorem State.corrFeed_keeps (s : State) (can : Bool) (bs : List Byte) :
    (State.corrFeed s can bs).pending = s.pending ∧ (State.corrFeed s can bs).free = s.free ∧
    (State.corrFeed s can bs).time = s.time ∧ (State.corrFeed s can bs).dev = s.dev ∧
    (State.corrFeed s can bs).pwr = s.pwr ∧ (State.corrFeed s can bs).sag = s.sag ∧
    (State.corrFeed s can bs).cfg = s.cfg ∧ (State.corrFeed s can bs).flash = s.flash ∧
    (State.corrFeed s can bs).acts = s.acts ∧ (State.corrFeed s can bs).valves = s.valves ∧
    (State.corrFeed s can bs).tiles = s.tiles ∧ (State.corrFeed s can bs).planner = s.planner ∧
    (State.corrFeed s can bs).loops = s.loops ∧ (State.corrFeed s can bs).field = s.field ∧
    (State.corrFeed s can bs).can = s.can := by
  simp [State.corrFeed]

@[simp] theorem State.corrFired_keeps (s : State) :
    (State.corrFired s).pending = s.pending ∧ (State.corrFired s).free = s.free ∧
    (State.corrFired s).time = s.time ∧ (State.corrFired s).dev = s.dev ∧ (State.corrFired s).pwr = s.pwr ∧
    (State.corrFired s).sag = s.sag ∧ (State.corrFired s).host = s.host ∧ (State.corrFired s).cfg = s.cfg ∧
    (State.corrFired s).flash = s.flash ∧ (State.corrFired s).acts = s.acts ∧ (State.corrFired s).cnt = s.cnt ∧
    (State.corrFired s).valves = s.valves ∧ (State.corrFired s).tiles = s.tiles ∧
    (State.corrFired s).planner = s.planner ∧ (State.corrFired s).loops = s.loops ∧
    (State.corrFired s).field = s.field ∧ (State.corrFired s).can = s.can := by
  simp [State.corrFired]

@[simp] theorem State.rtcmTake_keeps (s : State) (d : Desc) :
    (State.rtcmTake s d).pending = s.pending ∧ (State.rtcmTake s d).free = s.free ∧
    (State.rtcmTake s d).time = s.time ∧ (State.rtcmTake s d).dev = s.dev ∧ (State.rtcmTake s d).pwr = s.pwr ∧
    (State.rtcmTake s d).sag = s.sag ∧ (State.rtcmTake s d).cfg = s.cfg ∧ (State.rtcmTake s d).flash = s.flash ∧
    (State.rtcmTake s d).acts = s.acts ∧ (State.rtcmTake s d).valves = s.valves ∧
    (State.rtcmTake s d).tiles = s.tiles ∧ (State.rtcmTake s d).planner = s.planner ∧
    (State.rtcmTake s d).loops = s.loops ∧ (State.rtcmTake s d).field = s.field ∧
    (State.rtcmTake s d).can = s.can := by
  simp [State.rtcmTake]

end Sys2Proof.Machine
end

