-- ==== Sys2Proof/Laws/FrameTrack.lean ====
section
/-! SUPPORT. What the operations of Machine/Track.lean leave alone: one lemma per operation, the conjunction of
every field of State that it keeps. -/

set_option Elab.async false

open Sys2Proof Sys2Proof.Machine

namespace Sys2Proof.Machine

@[simp] theorem State.takeSamples_keeps (s : State) (xs : List (List (BitVec 2 × BitVec 2))) :
    (State.takeSamples s xs).pending = s.pending ∧ (State.takeSamples s xs).free = s.free ∧
    (State.takeSamples s xs).time = s.time ∧ (State.takeSamples s xs).dev = s.dev ∧
    (State.takeSamples s xs).pwr = s.pwr ∧ (State.takeSamples s xs).sag = s.sag ∧
    (State.takeSamples s xs).host = s.host ∧ (State.takeSamples s xs).cfg = s.cfg ∧
    (State.takeSamples s xs).flash = s.flash ∧ (State.takeSamples s xs).acts = s.acts ∧
    (State.takeSamples s xs).cnt = s.cnt ∧ (State.takeSamples s xs).valves = s.valves ∧
    (State.takeSamples s xs).tiles = s.tiles ∧ (State.takeSamples s xs).planner = s.planner ∧
    (State.takeSamples s xs).loops = s.loops ∧ (State.takeSamples s xs).field = s.field ∧
    (State.takeSamples s xs).can = s.can := by
  simp [State.takeSamples]

@[simp] theorem State.freeTrk_keeps (s : State) (p : TrkCh → Bool) :
    (State.freeTrk s p).pending = s.pending ∧ (State.freeTrk s p).free = s.free ∧
    (State.freeTrk s p).time = s.time ∧ (State.freeTrk s p).dev = s.dev ∧ (State.freeTrk s p).pwr = s.pwr ∧
    (State.freeTrk s p).sag = s.sag ∧ (State.freeTrk s p).host = s.host ∧ (State.freeTrk s p).cfg = s.cfg ∧
    (State.freeTrk s p).flash = s.flash ∧ (State.freeTrk s p).acts = s.acts ∧ (State.freeTrk s p).cnt = s.cnt ∧
    (State.freeTrk s p).valves = s.valves ∧ (State.freeTrk s p).tiles = s.tiles ∧
    (State.freeTrk s p).planner = s.planner ∧ (State.freeTrk s p).loops = s.loops ∧
    (State.freeTrk s p).field = s.field ∧ (State.freeTrk s p).can = s.can := by
  simp [State.freeTrk]

@[simp] theorem State.assignSearches_keeps (s : State) :
    (State.assignSearches s).pending = s.pending ∧ (State.assignSearches s).free = s.free ∧
    (State.assignSearches s).time = s.time ∧ (State.assignSearches s).dev = s.dev ∧
    (State.assignSearches s).pwr = s.pwr ∧ (State.assignSearches s).sag = s.sag ∧
    (State.assignSearches s).host = s.host ∧ (State.assignSearches s).cfg = s.cfg ∧
    (State.assignSearches s).flash = s.flash ∧ (State.assignSearches s).acts = s.acts ∧
    (State.assignSearches s).cnt = s.cnt ∧ (State.assignSearches s).valves = s.valves ∧
    (State.assignSearches s).tiles = s.tiles ∧ (State.assignSearches s).planner = s.planner ∧
    (State.assignSearches s).loops = s.loops ∧ (State.assignSearches s).field = s.field ∧
    (State.assignSearches s).can = s.can := by
  simp [State.assignSearches]

@[simp] theorem State.handOvers_keeps (s : State) :
    (State.handOvers s).pending = s.pending ∧ (State.handOvers s).free = s.free ∧
    (State.handOvers s).time = s.time ∧ (State.handOvers s).dev = s.dev ∧ (State.handOvers s).pwr = s.pwr ∧
    (State.handOvers s).sag = s.sag ∧ (State.handOvers s).host = s.host ∧ (State.handOvers s).cfg = s.cfg ∧
    (State.handOvers s).flash = s.flash ∧ (State.handOvers s).acts = s.acts ∧ (State.handOvers s).cnt = s.cnt ∧
    (State.handOvers s).valves = s.valves ∧ (State.handOvers s).tiles = s.tiles ∧
    (State.handOvers s).planner = s.planner ∧ (State.handOvers s).loops = s.loops ∧
    (State.handOvers s).field = s.field ∧ (State.handOvers s).can = s.can := by
  simp [State.handOvers]

end Sys2Proof.Machine
end

