-- ==== Sys2Proof/Laws/FrameCanOps.lean ====
section
/-! SUPPORT. What the operations of Machine/CanOps.lean leave alone: one lemma per operation, the conjunction of
every field of State that it keeps. -/

set_option Elab.async false

open Sys2Proof Sys2Proof.Machine

namespace Sys2Proof.Machine

@[simp] theorem State.updBus_keeps (s : State) (b : Nat) (f : Bus → Bus) :
    (State.updBus s b f).pending = s.pending ∧ (State.updBus s b f).free = s.free ∧
    (State.updBus s b f).time = s.time ∧ (State.updBus s b f).dev = s.dev ∧ (State.updBus s b f).pwr = s.pwr ∧
    (State.updBus s b f).sag = s.sag ∧ (State.updBus s b f).host = s.host ∧ (State.updBus s b f).cfg = s.cfg ∧
    (State.updBus s b f).flash = s.flash ∧ (State.updBus s b f).acts = s.acts ∧ (State.updBus s b f).cnt = s.cnt ∧
    (State.updBus s b f).valves = s.valves ∧ (State.updBus s b f).tiles = s.tiles ∧
    (State.updBus s b f).planner = s.planner ∧ (State.updBus s b f).nav = s.nav ∧
    (State.updBus s b f).loops = s.loops ∧ (State.updBus s b f).field = s.field := by
  exact ⟨rfl, rfl, rfl, rfl, rfl, rfl, rfl, rfl, rfl, rfl, rfl, rfl, rfl, rfl, rfl, rfl, rfl⟩

@[simp] theorem State.busCount_keeps (s : State) (b k : Nat) (n : Nat) :
    (State.busCount s b k n).pending = s.pending ∧ (State.busCount s b k n).free = s.free ∧
    (State.busCount s b k n).time = s.time ∧ (State.busCount s b k n).dev = s.dev ∧
    (State.busCount s b k n).pwr = s.pwr ∧ (State.busCount s b k n).sag = s.sag ∧
    (State.busCount s b k n).host = s.host ∧ (State.busCount s b k n).cfg = s.cfg ∧
    (State.busCount s b k n).flash = s.flash ∧ (State.busCount s b k n).acts = s.acts ∧
    (State.busCount s b k n).valves = s.valves ∧ (State.busCount s b k n).tiles = s.tiles ∧
    (State.busCount s b k n).planner = s.planner ∧ (State.busCount s b k n).nav = s.nav ∧
    (State.busCount s b k n).loops = s.loops ∧ (State.busCount s b k n).field = s.field ∧
    (State.busCount s b k n).can = s.can := by
  simp [State.busCount]

@[simp] theorem State.instStarted_keeps (s : State) (b i : Nat) :
    (State.instStarted s b i).2.pending = s.pending ∧ (State.instStarted s b i).2.time = s.time ∧
    (State.instStarted s b i).2.dev = s.dev ∧ (State.instStarted s b i).2.pwr = s.pwr ∧
    (State.instStarted s b i).2.sag = s.sag ∧ (State.instStarted s b i).2.host = s.host ∧
    (State.instStarted s b i).2.cfg = s.cfg ∧ (State.instStarted s b i).2.flash = s.flash ∧
    (State.instStarted s b i).2.acts = s.acts ∧ (State.instStarted s b i).2.cnt = s.cnt ∧
    (State.instStarted s b i).2.valves = s.valves ∧ (State.instStarted s b i).2.tiles = s.tiles ∧
    (State.instStarted s b i).2.planner = s.planner ∧ (State.instStarted s b i).2.nav = s.nav ∧
    (State.instStarted s b i).2.loops = s.loops ∧ (State.instStarted s b i).2.field = s.field ∧
    (State.instStarted s b i).2.can = s.can := by
  unfold State.instStarted; dsimp only; (repeat' split) <;> simp_all

@[simp] theorem State.canDone_keeps (s : State) (b : Nat) (idx : Word) (fs : List (Nat × Nat × Nat)) :
    (State.canDone s b idx fs).pending = s.pending ∧ (State.canDone s b idx fs).free = s.free ∧
    (State.canDone s b idx fs).time = s.time ∧ (State.canDone s b idx fs).dev = s.dev ∧
    (State.canDone s b idx fs).pwr = s.pwr ∧ (State.canDone s b idx fs).sag = s.sag ∧
    (State.canDone s b idx fs).cfg = s.cfg ∧ (State.canDone s b idx fs).flash = s.flash ∧
    (State.canDone s b idx fs).acts = s.acts ∧ (State.canDone s b idx fs).valves = s.valves ∧
    (State.canDone s b idx fs).tiles = s.tiles ∧ (State.canDone s b idx fs).planner = s.planner ∧
    (State.canDone s b idx fs).nav = s.nav ∧ (State.canDone s b idx fs).loops = s.loops ∧
    (State.canDone s b idx fs).field = s.field ∧ (State.canDone s b idx fs).can = s.can := by
  simp [State.canDone]

@[simp] theorem State.frameDone_keeps (s : State) (b : Nat) (idx : Word) (res attempts : Nat) (sof : Option Nat) :
    (State.frameDone s b idx res attempts sof).pending = s.pending ∧
    (State.frameDone s b idx res attempts sof).free = s.free ∧
    (State.frameDone s b idx res attempts sof).time = s.time ∧
    (State.frameDone s b idx res attempts sof).dev = s.dev ∧
    (State.frameDone s b idx res attempts sof).pwr = s.pwr ∧
    (State.frameDone s b idx res attempts sof).sag = s.sag ∧
    (State.frameDone s b idx res attempts sof).cfg = s.cfg ∧
    (State.frameDone s b idx res attempts sof).flash = s.flash ∧
    (State.frameDone s b idx res attempts sof).acts = s.acts ∧
    (State.frameDone s b idx res attempts sof).valves = s.valves ∧
    (State.frameDone s b idx res attempts sof).tiles = s.tiles ∧
    (State.frameDone s b idx res attempts sof).planner = s.planner ∧
    (State.frameDone s b idx res attempts sof).nav = s.nav ∧
    (State.frameDone s b idx res attempts sof).loops = s.loops ∧
    (State.frameDone s b idx res attempts sof).field = s.field ∧
    (State.frameDone s b idx res attempts sof).can = s.can := by
  simp [State.frameDone]

@[simp] theorem State.msgDone_keeps (s : State) (b : Nat) (idx : Word) (res reason endMt : Nat) :
    (State.msgDone s b idx res reason endMt).pending = s.pending ∧
    (State.msgDone s b idx res reason endMt).free = s.free ∧
    (State.msgDone s b idx res reason endMt).time = s.time ∧ (State.msgDone s b idx res reason endMt).dev = s.dev ∧
    (State.msgDone s b idx res reason endMt).pwr = s.pwr ∧ (State.msgDone s b idx res reason endMt).sag = s.sag ∧
    (State.msgDone s b idx res reason endMt).cfg = s.cfg ∧
    (State.msgDone s b idx res reason endMt).flash = s.flash ∧
    (State.msgDone s b idx res reason endMt).acts = s.acts ∧
    (State.msgDone s b idx res reason endMt).valves = s.valves ∧
    (State.msgDone s b idx res reason endMt).tiles = s.tiles ∧
    (State.msgDone s b idx res reason endMt).planner = s.planner ∧
    (State.msgDone s b idx res reason endMt).nav = s.nav ∧
    (State.msgDone s b idx res reason endMt).loops = s.loops ∧
    (State.msgDone s b idx res reason endMt).field = s.field ∧
    (State.msgDone s b idx res reason endMt).can = s.can := by
  simp [State.msgDone]

@[simp] theorem State.doneBehind_keeps (s : State) (b i : Nat) (ds : List (Word × Nat × Nat)) :
    (State.doneBehind s b i ds).pending = s.pending ∧ (State.doneBehind s b i ds).free = s.free ∧
    (State.doneBehind s b i ds).time = s.time ∧ (State.doneBehind s b i ds).dev = s.dev ∧
    (State.doneBehind s b i ds).pwr = s.pwr ∧ (State.doneBehind s b i ds).sag = s.sag ∧
    (State.doneBehind s b i ds).cfg = s.cfg ∧ (State.doneBehind s b i ds).flash = s.flash ∧
    (State.doneBehind s b i ds).acts = s.acts ∧ (State.doneBehind s b i ds).valves = s.valves ∧
    (State.doneBehind s b i ds).tiles = s.tiles ∧ (State.doneBehind s b i ds).planner = s.planner ∧
    (State.doneBehind s b i ds).nav = s.nav ∧ (State.doneBehind s b i ds).loops = s.loops ∧
    (State.doneBehind s b i ds).field = s.field := by
  unfold State.doneBehind; dsimp only; (repeat' split) <;> simp_all

@[simp] theorem State.entDone_keeps (s : State) (b : Nat) (e : TxEnt) (res : Nat) :
    (State.entDone s b e res).pending = s.pending ∧ (State.entDone s b e res).free = s.free ∧
    (State.entDone s b e res).time = s.time ∧ (State.entDone s b e res).dev = s.dev ∧
    (State.entDone s b e res).pwr = s.pwr ∧ (State.entDone s b e res).sag = s.sag ∧
    (State.entDone s b e res).cfg = s.cfg ∧ (State.entDone s b e res).flash = s.flash ∧
    (State.entDone s b e res).acts = s.acts ∧ (State.entDone s b e res).valves = s.valves ∧
    (State.entDone s b e res).tiles = s.tiles ∧ (State.entDone s b e res).planner = s.planner ∧
    (State.entDone s b e res).nav = s.nav ∧ (State.entDone s b e res).loops = s.loops ∧
    (State.entDone s b e res).field = s.field := by
  unfold State.entDone; (repeat' split) <;> simp

@[simp] theorem State.entCancelled_keeps (s : State) (b i : Nat) :
    (State.entCancelled s b i).pending = s.pending ∧ (State.entCancelled s b i).free = s.free ∧
    (State.entCancelled s b i).time = s.time ∧ (State.entCancelled s b i).dev = s.dev ∧
    (State.entCancelled s b i).pwr = s.pwr ∧ (State.entCancelled s b i).sag = s.sag ∧
    (State.entCancelled s b i).cfg = s.cfg ∧ (State.entCancelled s b i).flash = s.flash ∧
    (State.entCancelled s b i).acts = s.acts ∧ (State.entCancelled s b i).valves = s.valves ∧
    (State.entCancelled s b i).tiles = s.tiles ∧ (State.entCancelled s b i).planner = s.planner ∧
    (State.entCancelled s b i).nav = s.nav ∧ (State.entCancelled s b i).loops = s.loops ∧
    (State.entCancelled s b i).field = s.field := by
  simp [State.entCancelled]

@[simp] theorem State.place_keeps (s : State) (b : Nat) (k : TxKind) (f : CanFrame) :
    (State.place s b k f).pending = s.pending ∧ (State.place s b k f).free = s.free ∧
    (State.place s b k f).time = s.time ∧ (State.place s b k f).dev = s.dev ∧ (State.place s b k f).pwr = s.pwr ∧
    (State.place s b k f).sag = s.sag ∧ (State.place s b k f).host = s.host ∧ (State.place s b k f).cfg = s.cfg ∧
    (State.place s b k f).flash = s.flash ∧ (State.place s b k f).acts = s.acts ∧
    (State.place s b k f).cnt = s.cnt ∧ (State.place s b k f).valves = s.valves ∧
    (State.place s b k f).tiles = s.tiles ∧ (State.place s b k f).planner = s.planner ∧
    (State.place s b k f).nav = s.nav ∧ (State.place s b k f).loops = s.loops ∧
    (State.place s b k f).field = s.field := by
  simp [State.place]

@[simp] theorem State.placeCm_keeps (s : State) (b : Nat) (k : TxKind) (prio pgnCm da sa : Nat) (bytes : List Nat) :
    (State.placeCm s b k prio pgnCm da sa bytes).pending = s.pending ∧
    (State.placeCm s b k prio pgnCm da sa bytes).free = s.free ∧
    (State.placeCm s b k prio pgnCm da sa bytes).time = s.time ∧
    (State.placeCm s b k prio pgnCm da sa bytes).dev = s.dev ∧
    (State.placeCm s b k prio pgnCm da sa bytes).pwr = s.pwr ∧
    (State.placeCm s b k prio pgnCm da sa bytes).sag = s.sag ∧
    (State.placeCm s b k prio pgnCm da sa bytes).host = s.host ∧
    (State.placeCm s b k prio pgnCm da sa bytes).cfg = s.cfg ∧
    (State.placeCm s b k prio pgnCm da sa bytes).flash = s.flash ∧
    (State.placeCm s b k prio pgnCm da sa bytes).acts = s.acts ∧
    (State.placeCm s b k prio pgnCm da sa bytes).cnt = s.cnt ∧
    (State.placeCm s b k prio pgnCm da sa bytes).valves = s.valves ∧
    (State.placeCm s b k prio pgnCm da sa bytes).tiles = s.tiles ∧
    (State.placeCm s b k prio pgnCm da sa bytes).planner = s.planner ∧
    (State.placeCm s b k prio pgnCm da sa bytes).nav = s.nav ∧
    (State.placeCm s b k prio pgnCm da sa bytes).loops = s.loops ∧
    (State.placeCm s b k prio pgnCm da sa bytes).field = s.field := by
  simp [State.placeCm]

@[simp] theorem State.placeAbort_keeps (s : State) (b prio proto pgn da sa reason : Nat) :
    (State.placeAbort s b prio proto pgn da sa reason).pending = s.pending ∧
    (State.placeAbort s b prio proto pgn da sa reason).free = s.free ∧
    (State.placeAbort s b prio proto pgn da sa reason).time = s.time ∧
    (State.placeAbort s b prio proto pgn da sa reason).dev = s.dev ∧
    (State.placeAbort s b prio proto pgn da sa reason).pwr = s.pwr ∧
    (State.placeAbort s b prio proto pgn da sa reason).sag = s.sag ∧
    (State.placeAbort s b prio proto pgn da sa reason).host = s.host ∧
    (State.placeAbort s b prio proto pgn da sa reason).cfg = s.cfg ∧
    (State.placeAbort s b prio proto pgn da sa reason).flash = s.flash ∧
    (State.placeAbort s b prio proto pgn da sa reason).acts = s.acts ∧
    (State.placeAbort s b prio proto pgn da sa reason).cnt = s.cnt ∧
    (State.placeAbort s b prio proto pgn da sa reason).valves = s.valves ∧
    (State.placeAbort s b prio proto pgn da sa reason).tiles = s.tiles ∧
    (State.placeAbort s b prio proto pgn da sa reason).planner = s.planner ∧
    (State.placeAbort s b prio proto pgn da sa reason).nav = s.nav ∧
    (State.placeAbort s b prio proto pgn da sa reason).loops = s.loops ∧
    (State.placeAbort s b prio proto pgn da sa reason).field = s.field := by
  simp [State.placeAbort]

@[simp] theorem State.placeDt_keeps (s : State) (b : Nat) (t : TxSess) :
    (State.placeDt s b t).pending = s.pending ∧ (State.placeDt s b t).free = s.free ∧
    (State.placeDt s b t).time = s.time ∧ (State.placeDt s b t).dev = s.dev ∧ (State.placeDt s b t).pwr = s.pwr ∧
    (State.placeDt s b t).sag = s.sag ∧ (State.placeDt s b t).cfg = s.cfg ∧ (State.placeDt s b t).flash = s.flash ∧
    (State.placeDt s b t).acts = s.acts ∧ (State.placeDt s b t).valves = s.valves ∧
    (State.placeDt s b t).tiles = s.tiles ∧ (State.placeDt s b t).planner = s.planner ∧
    (State.placeDt s b t).nav = s.nav ∧ (State.placeDt s b t).loops = s.loops ∧
    (State.placeDt s b t).field = s.field := by
  simp [State.placeDt]

@[simp] theorem State.closeTxAt_keeps (s : State) (b : Nat) (t : TxSess) (res reason : Nat) (started : Bool) :
    (State.closeTxAt s b t res reason started).pending = s.pending ∧
    (State.closeTxAt s b t res reason started).free = s.free ∧
    (State.closeTxAt s b t res reason started).time = s.time ∧
    (State.closeTxAt s b t res reason started).dev = s.dev ∧
    (State.closeTxAt s b t res reason started).pwr = s.pwr ∧
    (State.closeTxAt s b t res reason started).sag = s.sag ∧
    (State.closeTxAt s b t res reason started).cfg = s.cfg ∧
    (State.closeTxAt s b t res reason started).flash = s.flash ∧
    (State.closeTxAt s b t res reason started).acts = s.acts ∧
    (State.closeTxAt s b t res reason started).valves = s.valves ∧
    (State.closeTxAt s b t res reason started).tiles = s.tiles ∧
    (State.closeTxAt s b t res reason started).planner = s.planner ∧
    (State.closeTxAt s b t res reason started).nav = s.nav ∧
    (State.closeTxAt s b t res reason started).loops = s.loops ∧
    (State.closeTxAt s b t res reason started).field = s.field := by
  simp [State.closeTxAt]

@[simp] theorem State.closeTx_keeps (s : State) (b : Nat) (t : TxSess) (res reason : Nat) :
    (State.closeTx s b t res reason).pending = s.pending ∧ (State.closeTx s b t res reason).time = s.time ∧
    (State.closeTx s b t res reason).dev = s.dev ∧ (State.closeTx s b t res reason).pwr = s.pwr ∧
    (State.closeTx s b t res reason).sag = s.sag ∧ (State.closeTx s b t res reason).cfg = s.cfg ∧
    (State.closeTx s b t res reason).flash = s.flash ∧ (State.closeTx s b t res reason).acts = s.acts ∧
    (State.closeTx s b t res reason).valves = s.valves ∧ (State.closeTx s b t res reason).tiles = s.tiles ∧
    (State.closeTx s b t res reason).planner = s.planner ∧ (State.closeTx s b t res reason).nav = s.nav ∧
    (State.closeTx s b t res reason).loops = s.loops ∧ (State.closeTx s b t res reason).field = s.field := by
  unfold State.closeTx; dsimp only; (repeat' split) <;> simp_all

@[simp] theorem State.descDone_keeps (s : State) (b : Nat) (idx : Word) (ds : List Desc) (res : Nat) :
    (State.descDone s b idx ds res).pending = s.pending ∧ (State.descDone s b idx ds res).free = s.free ∧
    (State.descDone s b idx ds res).time = s.time ∧ (State.descDone s b idx ds res).dev = s.dev ∧
    (State.descDone s b idx ds res).pwr = s.pwr ∧ (State.descDone s b idx ds res).sag = s.sag ∧
    (State.descDone s b idx ds res).cfg = s.cfg ∧ (State.descDone s b idx ds res).flash = s.flash ∧
    (State.descDone s b idx ds res).acts = s.acts ∧ (State.descDone s b idx ds res).valves = s.valves ∧
    (State.descDone s b idx ds res).tiles = s.tiles ∧ (State.descDone s b idx ds res).planner = s.planner ∧
    (State.descDone s b idx ds res).nav = s.nav ∧ (State.descDone s b idx ds res).loops = s.loops ∧
    (State.descDone s b idx ds res).field = s.field := by
  simp [State.descDone]

@[simp] theorem State.popTx_keeps (s : State) (b : Nat) (r : List (Word × List Desc)) (n : Word) :
    (State.popTx s b r n).pending = s.pending ∧ (State.popTx s b r n).free = s.free ∧
    (State.popTx s b r n).time = s.time ∧ (State.popTx s b r n).dev = s.dev ∧ (State.popTx s b r n).pwr = s.pwr ∧
    (State.popTx s b r n).sag = s.sag ∧ (State.popTx s b r n).cfg = s.cfg ∧ (State.popTx s b r n).flash = s.flash ∧
    (State.popTx s b r n).acts = s.acts ∧ (State.popTx s b r n).cnt = s.cnt ∧
    (State.popTx s b r n).valves = s.valves ∧ (State.popTx s b r n).tiles = s.tiles ∧
    (State.popTx s b r n).planner = s.planner ∧ (State.popTx s b r n).nav = s.nav ∧
    (State.popTx s b r n).loops = s.loops ∧ (State.popTx s b r n).field = s.field := by
  simp [State.popTx]

@[simp] theorem State.errEvents_keeps (s : State) (b : Nat) (o : Bus) :
    (State.errEvents s b o).pending = s.pending ∧ (State.errEvents s b o).free = s.free ∧
    (State.errEvents s b o).time = s.time ∧ (State.errEvents s b o).dev = s.dev ∧
    (State.errEvents s b o).pwr = s.pwr ∧ (State.errEvents s b o).sag = s.sag ∧
    (State.errEvents s b o).cfg = s.cfg ∧ (State.errEvents s b o).flash = s.flash ∧
    (State.errEvents s b o).acts = s.acts ∧ (State.errEvents s b o).valves = s.valves ∧
    (State.errEvents s b o).tiles = s.tiles ∧ (State.errEvents s b o).planner = s.planner ∧
    (State.errEvents s b o).nav = s.nav ∧ (State.errEvents s b o).loops = s.loops ∧
    (State.errEvents s b o).field = s.field ∧ (State.errEvents s b o).can = s.can := by
  simp [State.errEvents]

@[simp] theorem State.errUpd_keeps (s : State) (b : Nat) (f : Bus → Bus) :
    (State.errUpd s b f).pending = s.pending ∧ (State.errUpd s b f).free = s.free ∧
    (State.errUpd s b f).time = s.time ∧ (State.errUpd s b f).dev = s.dev ∧ (State.errUpd s b f).pwr = s.pwr ∧
    (State.errUpd s b f).sag = s.sag ∧ (State.errUpd s b f).cfg = s.cfg ∧ (State.errUpd s b f).flash = s.flash ∧
    (State.errUpd s b f).acts = s.acts ∧ (State.errUpd s b f).valves = s.valves ∧
    (State.errUpd s b f).tiles = s.tiles ∧ (State.errUpd s b f).planner = s.planner ∧
    (State.errUpd s b f).nav = s.nav ∧ (State.errUpd s b f).loops = s.loops ∧
    (State.errUpd s b f).field = s.field := by
  simp [State.errUpd]

@[simp] theorem State.popHead_keeps (s : State) (b : Nat) :
    (State.popHead s b).pending = s.pending ∧ (State.popHead s b).free = s.free ∧
    (State.popHead s b).time = s.time ∧ (State.popHead s b).dev = s.dev ∧ (State.popHead s b).pwr = s.pwr ∧
    (State.popHead s b).sag = s.sag ∧ (State.popHead s b).host = s.host ∧ (State.popHead s b).cfg = s.cfg ∧
    (State.popHead s b).flash = s.flash ∧ (State.popHead s b).acts = s.acts ∧ (State.popHead s b).cnt = s.cnt ∧
    (State.popHead s b).valves = s.valves ∧ (State.popHead s b).tiles = s.tiles ∧
    (State.popHead s b).planner = s.planner ∧ (State.popHead s b).nav = s.nav ∧
    (State.popHead s b).loops = s.loops ∧ (State.popHead s b).field = s.field := by
  simp [State.popHead]

@[simp] theorem State.placeClaim_keeps (s : State) (b sa : Nat) :
    (State.placeClaim s b sa).pending = s.pending ∧ (State.placeClaim s b sa).free = s.free ∧
    (State.placeClaim s b sa).time = s.time ∧ (State.placeClaim s b sa).dev = s.dev ∧
    (State.placeClaim s b sa).pwr = s.pwr ∧ (State.placeClaim s b sa).sag = s.sag ∧
    (State.placeClaim s b sa).host = s.host ∧ (State.placeClaim s b sa).cfg = s.cfg ∧
    (State.placeClaim s b sa).flash = s.flash ∧ (State.placeClaim s b sa).acts = s.acts ∧
    (State.placeClaim s b sa).cnt = s.cnt ∧ (State.placeClaim s b sa).valves = s.valves ∧
    (State.placeClaim s b sa).tiles = s.tiles ∧ (State.placeClaim s b sa).planner = s.planner ∧
    (State.placeClaim s b sa).nav = s.nav ∧ (State.placeClaim s b sa).loops = s.loops ∧
    (State.placeClaim s b sa).field = s.field := by
  simp [State.placeClaim]

@[simp] theorem State.claimDone_keeps (s : State) (b addr : Nat) :
    (State.claimDone s b addr).pending = s.pending ∧ (State.claimDone s b addr).free = s.free ∧
    (State.claimDone s b addr).time = s.time ∧ (State.claimDone s b addr).dev = s.dev ∧
    (State.claimDone s b addr).pwr = s.pwr ∧ (State.claimDone s b addr).sag = s.sag ∧
    (State.claimDone s b addr).cfg = s.cfg ∧ (State.claimDone s b addr).flash = s.flash ∧
    (State.claimDone s b addr).acts = s.acts ∧ (State.claimDone s b addr).valves = s.valves ∧
    (State.claimDone s b addr).tiles = s.tiles ∧ (State.claimDone s b addr).planner = s.planner ∧
    (State.claimDone s b addr).nav = s.nav ∧ (State.claimDone s b addr).loops = s.loops ∧
    (State.claimDone s b addr).field = s.field ∧ (State.claimDone s b addr).can = s.can := by
  simp [State.claimDone]

@[simp] theorem State.holdCf_keeps (s : State) (b : Nat) :
    (State.holdCf s b).pending = s.pending ∧ (State.holdCf s b).time = s.time ∧ (State.holdCf s b).dev = s.dev ∧
    (State.holdCf s b).pwr = s.pwr ∧ (State.holdCf s b).sag = s.sag ∧ (State.holdCf s b).cfg = s.cfg ∧
    (State.holdCf s b).flash = s.flash ∧ (State.holdCf s b).acts = s.acts ∧ (State.holdCf s b).valves = s.valves ∧
    (State.holdCf s b).tiles = s.tiles ∧ (State.holdCf s b).planner = s.planner ∧ (State.holdCf s b).nav = s.nav ∧
    (State.holdCf s b).loops = s.loops ∧ (State.holdCf s b).field = s.field := by
  simp [State.holdCf]

@[simp] theorem State.startClaim_keeps (s : State) (b addr : Nat) :
    (State.startClaim s b addr).pending = s.pending ∧ (State.startClaim s b addr).time = s.time ∧
    (State.startClaim s b addr).dev = s.dev ∧ (State.startClaim s b addr).pwr = s.pwr ∧
    (State.startClaim s b addr).sag = s.sag ∧ (State.startClaim s b addr).cfg = s.cfg ∧
    (State.startClaim s b addr).flash = s.flash ∧ (State.startClaim s b addr).acts = s.acts ∧
    (State.startClaim s b addr).valves = s.valves ∧ (State.startClaim s b addr).tiles = s.tiles ∧
    (State.startClaim s b addr).planner = s.planner ∧ (State.startClaim s b addr).nav = s.nav ∧
    (State.startClaim s b addr).loops = s.loops ∧ (State.startClaim s b addr).field = s.field := by
  simp [State.startClaim]

@[simp] theorem State.claimHeld_keeps (s : State) (b addr : Nat) :
    (State.claimHeld s b addr).pending = s.pending ∧ (State.claimHeld s b addr).free = s.free ∧
    (State.claimHeld s b addr).time = s.time ∧ (State.claimHeld s b addr).dev = s.dev ∧
    (State.claimHeld s b addr).pwr = s.pwr ∧ (State.claimHeld s b addr).sag = s.sag ∧
    (State.claimHeld s b addr).host = s.host ∧ (State.claimHeld s b addr).cfg = s.cfg ∧
    (State.claimHeld s b addr).flash = s.flash ∧ (State.claimHeld s b addr).acts = s.acts ∧
    (State.claimHeld s b addr).cnt = s.cnt ∧ (State.claimHeld s b addr).valves = s.valves ∧
    (State.claimHeld s b addr).tiles = s.tiles ∧ (State.claimHeld s b addr).planner = s.planner ∧
    (State.claimHeld s b addr).nav = s.nav ∧ (State.claimHeld s b addr).loops = s.loops ∧
    (State.claimHeld s b addr).field = s.field := by
  simp [State.claimHeld]

@[simp] theorem State.noAddress_keeps (s : State) (b : Nat) :
    (State.noAddress s b).pending = s.pending ∧ (State.noAddress s b).time = s.time ∧
    (State.noAddress s b).dev = s.dev ∧ (State.noAddress s b).pwr = s.pwr ∧ (State.noAddress s b).sag = s.sag ∧
    (State.noAddress s b).cfg = s.cfg ∧ (State.noAddress s b).flash = s.flash ∧
    (State.noAddress s b).acts = s.acts ∧ (State.noAddress s b).valves = s.valves ∧
    (State.noAddress s b).tiles = s.tiles ∧ (State.noAddress s b).planner = s.planner ∧
    (State.noAddress s b).nav = s.nav ∧ (State.noAddress s b).loops = s.loops ∧
    (State.noAddress s b).field = s.field := by
  simp [State.noAddress]

@[simp] theorem State.loseAddr_keeps (s : State) (b : Nat) :
    (State.loseAddr s b).pending = s.pending ∧ (State.loseAddr s b).time = s.time ∧
    (State.loseAddr s b).dev = s.dev ∧ (State.loseAddr s b).pwr = s.pwr ∧ (State.loseAddr s b).sag = s.sag ∧
    (State.loseAddr s b).cfg = s.cfg ∧ (State.loseAddr s b).flash = s.flash ∧ (State.loseAddr s b).acts = s.acts ∧
    (State.loseAddr s b).valves = s.valves ∧ (State.loseAddr s b).tiles = s.tiles ∧
    (State.loseAddr s b).planner = s.planner ∧ (State.loseAddr s b).nav = s.nav ∧
    (State.loseAddr s b).loops = s.loops ∧ (State.loseAddr s b).field = s.field := by
  unfold State.loseAddr; (repeat' split) <;> simp

@[simp] theorem State.seeClaim_keeps (s : State) (b sa name : Nat) :
    (State.seeClaim s b sa name).pending = s.pending ∧ (State.seeClaim s b sa name).time = s.time ∧
    (State.seeClaim s b sa name).dev = s.dev ∧ (State.seeClaim s b sa name).pwr = s.pwr ∧
    (State.seeClaim s b sa name).sag = s.sag ∧ (State.seeClaim s b sa name).cfg = s.cfg ∧
    (State.seeClaim s b sa name).flash = s.flash ∧ (State.seeClaim s b sa name).acts = s.acts ∧
    (State.seeClaim s b sa name).valves = s.valves ∧ (State.seeClaim s b sa name).tiles = s.tiles ∧
    (State.seeClaim s b sa name).planner = s.planner ∧ (State.seeClaim s b sa name).nav = s.nav ∧
    (State.seeClaim s b sa name).loops = s.loops ∧ (State.seeClaim s b sa name).field = s.field := by
  simp [State.seeClaim]

@[simp] theorem State.answerClaim_keeps (s : State) (b : Nat) :
    (State.answerClaim s b).pending = s.pending ∧ (State.answerClaim s b).free = s.free ∧
    (State.answerClaim s b).time = s.time ∧ (State.answerClaim s b).dev = s.dev ∧
    (State.answerClaim s b).pwr = s.pwr ∧ (State.answerClaim s b).sag = s.sag ∧
    (State.answerClaim s b).host = s.host ∧ (State.answerClaim s b).cfg = s.cfg ∧
    (State.answerClaim s b).flash = s.flash ∧ (State.answerClaim s b).acts = s.acts ∧
    (State.answerClaim s b).cnt = s.cnt ∧ (State.answerClaim s b).valves = s.valves ∧
    (State.answerClaim s b).tiles = s.tiles ∧ (State.answerClaim s b).planner = s.planner ∧
    (State.answerClaim s b).nav = s.nav ∧ (State.answerClaim s b).loops = s.loops ∧
    (State.answerClaim s b).field = s.field := by
  unfold State.answerClaim; dsimp only; (repeat' split) <;> simp_all

@[simp] theorem State.claimAll_keeps (s : State) :
    (State.claimAll s).pending = s.pending ∧ (State.claimAll s).time = s.time ∧ (State.claimAll s).dev = s.dev ∧
    (State.claimAll s).pwr = s.pwr ∧ (State.claimAll s).sag = s.sag ∧ (State.claimAll s).cfg = s.cfg ∧
    (State.claimAll s).flash = s.flash ∧ (State.claimAll s).acts = s.acts ∧ (State.claimAll s).valves = s.valves ∧
    (State.claimAll s).tiles = s.tiles ∧ (State.claimAll s).planner = s.planner ∧ (State.claimAll s).nav = s.nav ∧
    (State.claimAll s).loops = s.loops ∧ (State.claimAll s).field = s.field := by
  simp [State.claimAll]

@[simp] theorem State.canRecord_keeps (s : State) (b : Nat) (hd : List (Nat × Nat × Nat)) (conts : List Desc) (drop : Bool) :
    (State.canRecord s b hd conts drop).pending = s.pending ∧ (State.canRecord s b hd conts drop).free = s.free ∧
    (State.canRecord s b hd conts drop).time = s.time ∧ (State.canRecord s b hd conts drop).dev = s.dev ∧
    (State.canRecord s b hd conts drop).pwr = s.pwr ∧ (State.canRecord s b hd conts drop).sag = s.sag ∧
    (State.canRecord s b hd conts drop).cfg = s.cfg ∧ (State.canRecord s b hd conts drop).flash = s.flash ∧
    (State.canRecord s b hd conts drop).acts = s.acts ∧ (State.canRecord s b hd conts drop).valves = s.valves ∧
    (State.canRecord s b hd conts drop).tiles = s.tiles ∧ (State.canRecord s b hd conts drop).planner = s.planner ∧
    (State.canRecord s b hd conts drop).nav = s.nav ∧ (State.canRecord s b hd conts drop).loops = s.loops ∧
    (State.canRecord s b hd conts drop).field = s.field := by
  simp [State.canRecord]

@[simp] theorem State.canHost_keeps (s : State) (b : Nat) (f : CanFrame) (sof : Nat) (filt : Option Nat) :
    (State.canHost s b f sof filt).pending = s.pending ∧ (State.canHost s b f sof filt).free = s.free ∧
    (State.canHost s b f sof filt).time = s.time ∧ (State.canHost s b f sof filt).dev = s.dev ∧
    (State.canHost s b f sof filt).pwr = s.pwr ∧ (State.canHost s b f sof filt).sag = s.sag ∧
    (State.canHost s b f sof filt).cfg = s.cfg ∧ (State.canHost s b f sof filt).flash = s.flash ∧
    (State.canHost s b f sof filt).acts = s.acts ∧ (State.canHost s b f sof filt).valves = s.valves ∧
    (State.canHost s b f sof filt).tiles = s.tiles ∧ (State.canHost s b f sof filt).planner = s.planner ∧
    (State.canHost s b f sof filt).nav = s.nav ∧ (State.canHost s b f sof filt).loops = s.loops ∧
    (State.canHost s b f sof filt).field = s.field := by
  simp [State.canHost]

@[simp] theorem State.toSlot_keeps (s : State) (b n : Nat) (f : CanFrame) (sof : Nat) :
    (State.toSlot s b n f sof).pending = s.pending ∧ (State.toSlot s b n f sof).free = s.free ∧
    (State.toSlot s b n f sof).time = s.time ∧ (State.toSlot s b n f sof).dev = s.dev ∧
    (State.toSlot s b n f sof).pwr = s.pwr ∧ (State.toSlot s b n f sof).host = s.host ∧
    (State.toSlot s b n f sof).cfg = s.cfg ∧ (State.toSlot s b n f sof).flash = s.flash ∧
    (State.toSlot s b n f sof).acts = s.acts ∧ (State.toSlot s b n f sof).valves = s.valves ∧
    (State.toSlot s b n f sof).tiles = s.tiles ∧ (State.toSlot s b n f sof).planner = s.planner ∧
    (State.toSlot s b n f sof).nav = s.nav ∧ (State.toSlot s b n f sof).loops = s.loops ∧
    (State.toSlot s b n f sof).field = s.field := by
  simp [State.toSlot]

@[simp] theorem State.route_keeps (s : State) (b : Nat) (f : CanFrame) (sof : Nat) :
    (State.route s b f sof).pending = s.pending ∧ (State.route s b f sof).free = s.free ∧
    (State.route s b f sof).time = s.time ∧ (State.route s b f sof).dev = s.dev ∧
    (State.route s b f sof).pwr = s.pwr ∧ (State.route s b f sof).cfg = s.cfg ∧
    (State.route s b f sof).flash = s.flash ∧ (State.route s b f sof).acts = s.acts ∧
    (State.route s b f sof).valves = s.valves ∧ (State.route s b f sof).tiles = s.tiles ∧
    (State.route s b f sof).planner = s.planner ∧ (State.route s b f sof).nav = s.nav ∧
    (State.route s b f sof).loops = s.loops ∧ (State.route s b f sof).field = s.field := by
  unfold State.route; (repeat' split) <;> simp

@[simp] theorem State.corrFrom_keeps (s : State) (b pgn sa : Nat) (data : List Byte) :
    (State.corrFrom s b pgn sa data).pending = s.pending ∧ (State.corrFrom s b pgn sa data).free = s.free ∧
    (State.corrFrom s b pgn sa data).time = s.time ∧ (State.corrFrom s b pgn sa data).dev = s.dev ∧
    (State.corrFrom s b pgn sa data).pwr = s.pwr ∧ (State.corrFrom s b pgn sa data).sag = s.sag ∧
    (State.corrFrom s b pgn sa data).cfg = s.cfg ∧ (State.corrFrom s b pgn sa data).flash = s.flash ∧
    (State.corrFrom s b pgn sa data).acts = s.acts ∧ (State.corrFrom s b pgn sa data).valves = s.valves ∧
    (State.corrFrom s b pgn sa data).tiles = s.tiles ∧ (State.corrFrom s b pgn sa data).planner = s.planner ∧
    (State.corrFrom s b pgn sa data).loops = s.loops ∧ (State.corrFrom s b pgn sa data).field = s.field ∧
    (State.corrFrom s b pgn sa data).can = s.can := by
  simp [State.corrFrom]

@[simp] theorem State.msgComplete_keeps (s : State) (b : Nat) (r : RxSess) (data : List Byte) (sof : Nat) :
    (State.msgComplete s b r data sof).pending = s.pending ∧ (State.msgComplete s b r data sof).time = s.time ∧
    (State.msgComplete s b r data sof).dev = s.dev ∧ (State.msgComplete s b r data sof).pwr = s.pwr ∧
    (State.msgComplete s b r data sof).sag = s.sag ∧ (State.msgComplete s b r data sof).cfg = s.cfg ∧
    (State.msgComplete s b r data sof).flash = s.flash ∧ (State.msgComplete s b r data sof).acts = s.acts ∧
    (State.msgComplete s b r data sof).valves = s.valves ∧ (State.msgComplete s b r data sof).tiles = s.tiles ∧
    (State.msgComplete s b r data sof).planner = s.planner ∧ (State.msgComplete s b r data sof).loops = s.loops ∧
    (State.msgComplete s b r data sof).field = s.field := by
  unfold State.msgComplete; dsimp only; (repeat' split) <;> simp_all

@[simp] theorem State.sendCts_keeps (s : State) (b : Nat) (r : RxSess) :
    (State.sendCts s b r).pending = s.pending ∧ (State.sendCts s b r).free = s.free ∧
    (State.sendCts s b r).time = s.time ∧ (State.sendCts s b r).dev = s.dev ∧ (State.sendCts s b r).pwr = s.pwr ∧
    (State.sendCts s b r).sag = s.sag ∧ (State.sendCts s b r).host = s.host ∧ (State.sendCts s b r).cfg = s.cfg ∧
    (State.sendCts s b r).flash = s.flash ∧ (State.sendCts s b r).acts = s.acts ∧
    (State.sendCts s b r).cnt = s.cnt ∧ (State.sendCts s b r).valves = s.valves ∧
    (State.sendCts s b r).tiles = s.tiles ∧ (State.sendCts s b r).planner = s.planner ∧
    (State.sendCts s b r).nav = s.nav ∧ (State.sendCts s b r).loops = s.loops ∧
    (State.sendCts s b r).field = s.field := by
  simp [State.sendCts]

@[simp] theorem State.openRx_keeps (s : State) (b : Nat) (r : RxSess) :
    (State.openRx s b r).pending = s.pending ∧ (State.openRx s b r).free = s.free ∧
    (State.openRx s b r).time = s.time ∧ (State.openRx s b r).dev = s.dev ∧ (State.openRx s b r).pwr = s.pwr ∧
    (State.openRx s b r).sag = s.sag ∧ (State.openRx s b r).host = s.host ∧ (State.openRx s b r).cfg = s.cfg ∧
    (State.openRx s b r).flash = s.flash ∧ (State.openRx s b r).acts = s.acts ∧
    (State.openRx s b r).valves = s.valves ∧ (State.openRx s b r).tiles = s.tiles ∧
    (State.openRx s b r).planner = s.planner ∧ (State.openRx s b r).nav = s.nav ∧
    (State.openRx s b r).loops = s.loops ∧ (State.openRx s b r).field = s.field := by
  simp [State.openRx]

@[simp] theorem State.closeRx_keeps (s : State) (b id : Nat) :
    (State.closeRx s b id).pending = s.pending ∧ (State.closeRx s b id).free = s.free ∧
    (State.closeRx s b id).time = s.time ∧ (State.closeRx s b id).dev = s.dev ∧ (State.closeRx s b id).pwr = s.pwr ∧
    (State.closeRx s b id).sag = s.sag ∧ (State.closeRx s b id).host = s.host ∧ (State.closeRx s b id).cfg = s.cfg ∧
    (State.closeRx s b id).flash = s.flash ∧ (State.closeRx s b id).acts = s.acts ∧
    (State.closeRx s b id).cnt = s.cnt ∧ (State.closeRx s b id).valves = s.valves ∧
    (State.closeRx s b id).tiles = s.tiles ∧ (State.closeRx s b id).planner = s.planner ∧
    (State.closeRx s b id).nav = s.nav ∧ (State.closeRx s b id).loops = s.loops ∧
    (State.closeRx s b id).field = s.field := by
  simp [State.closeRx]

@[simp] theorem State.takeDt_keeps (s : State) (b : Nat) (r : RxSess) (data : List Byte) (sof : Nat) :
    (State.takeDt s b r data sof).pending = s.pending ∧ (State.takeDt s b r data sof).time = s.time ∧
    (State.takeDt s b r data sof).dev = s.dev ∧ (State.takeDt s b r data sof).pwr = s.pwr ∧
    (State.takeDt s b r data sof).sag = s.sag ∧ (State.takeDt s b r data sof).cfg = s.cfg ∧
    (State.takeDt s b r data sof).flash = s.flash ∧ (State.takeDt s b r data sof).acts = s.acts ∧
    (State.takeDt s b r data sof).valves = s.valves ∧ (State.takeDt s b r data sof).tiles = s.tiles ∧
    (State.takeDt s b r data sof).planner = s.planner ∧ (State.takeDt s b r data sof).loops = s.loops ∧
    (State.takeDt s b r data sof).field = s.field := by
  simp [State.takeDt]

@[simp] theorem State.timeFrame_keeps (s : State) (b : Nat) (f : CanFrame) (sof : Nat) :
    (State.timeFrame s b f sof).pending = s.pending ∧ (State.timeFrame s b f sof).free = s.free ∧
    (State.timeFrame s b f sof).time = s.time ∧ (State.timeFrame s b f sof).dev = s.dev ∧
    (State.timeFrame s b f sof).pwr = s.pwr ∧ (State.timeFrame s b f sof).sag = s.sag ∧
    (State.timeFrame s b f sof).cfg = s.cfg ∧ (State.timeFrame s b f sof).flash = s.flash ∧
    (State.timeFrame s b f sof).acts = s.acts ∧ (State.timeFrame s b f sof).valves = s.valves ∧
    (State.timeFrame s b f sof).tiles = s.tiles ∧ (State.timeFrame s b f sof).planner = s.planner ∧
    (State.timeFrame s b f sof).nav = s.nav ∧ (State.timeFrame s b f sof).loops = s.loops ∧
    (State.timeFrame s b f sof).field = s.field := by
  unfold State.timeFrame; dsimp only; (repeat' split) <;> simp_all

@[simp] theorem State.placeFollowUp_keeps (s : State) (b seq sof : Nat) :
    (State.placeFollowUp s b seq sof).pending = s.pending ∧ (State.placeFollowUp s b seq sof).free = s.free ∧
    (State.placeFollowUp s b seq sof).time = s.time ∧ (State.placeFollowUp s b seq sof).dev = s.dev ∧
    (State.placeFollowUp s b seq sof).pwr = s.pwr ∧ (State.placeFollowUp s b seq sof).sag = s.sag ∧
    (State.placeFollowUp s b seq sof).host = s.host ∧ (State.placeFollowUp s b seq sof).cfg = s.cfg ∧
    (State.placeFollowUp s b seq sof).flash = s.flash ∧ (State.placeFollowUp s b seq sof).acts = s.acts ∧
    (State.placeFollowUp s b seq sof).cnt = s.cnt ∧ (State.placeFollowUp s b seq sof).valves = s.valves ∧
    (State.placeFollowUp s b seq sof).tiles = s.tiles ∧ (State.placeFollowUp s b seq sof).planner = s.planner ∧
    (State.placeFollowUp s b seq sof).nav = s.nav ∧ (State.placeFollowUp s b seq sof).loops = s.loops ∧
    (State.placeFollowUp s b seq sof).field = s.field := by
  simp [State.placeFollowUp]

@[simp] theorem State.entDiscarded_keeps (s : State) (b : Nat) (e : TxEnt) :
    (State.entDiscarded s b e).pending = s.pending ∧ (State.entDiscarded s b e).free = s.free ∧
    (State.entDiscarded s b e).time = s.time ∧ (State.entDiscarded s b e).dev = s.dev ∧
    (State.entDiscarded s b e).pwr = s.pwr ∧ (State.entDiscarded s b e).sag = s.sag ∧
    (State.entDiscarded s b e).cfg = s.cfg ∧ (State.entDiscarded s b e).flash = s.flash ∧
    (State.entDiscarded s b e).acts = s.acts ∧ (State.entDiscarded s b e).valves = s.valves ∧
    (State.entDiscarded s b e).tiles = s.tiles ∧ (State.entDiscarded s b e).planner = s.planner ∧
    (State.entDiscarded s b e).nav = s.nav ∧ (State.entDiscarded s b e).loops = s.loops ∧
    (State.entDiscarded s b e).field = s.field := by
  unfold State.entDiscarded; (repeat' split) <;> simp

@[simp] theorem State.canDiscard_keeps (s : State) (b : Nat) (abort : Bool) :
    (State.canDiscard s b abort).pending = s.pending ∧ (State.canDiscard s b abort).time = s.time ∧
    (State.canDiscard s b abort).dev = s.dev ∧ (State.canDiscard s b abort).pwr = s.pwr ∧
    (State.canDiscard s b abort).sag = s.sag ∧ (State.canDiscard s b abort).cfg = s.cfg ∧
    (State.canDiscard s b abort).flash = s.flash ∧ (State.canDiscard s b abort).acts = s.acts ∧
    (State.canDiscard s b abort).valves = s.valves ∧ (State.canDiscard s b abort).tiles = s.tiles ∧
    (State.canDiscard s b abort).planner = s.planner ∧ (State.canDiscard s b abort).nav = s.nav ∧
    (State.canDiscard s b abort).loops = s.loops ∧ (State.canDiscard s b abort).field = s.field := by
  simp [State.canDiscard]

@[simp] theorem State.dropAddress_keeps (s : State) (b : Nat) :
    (State.dropAddress s b).pending = s.pending ∧ (State.dropAddress s b).free = s.free ∧
    (State.dropAddress s b).time = s.time ∧ (State.dropAddress s b).dev = s.dev ∧
    (State.dropAddress s b).pwr = s.pwr ∧ (State.dropAddress s b).sag = s.sag ∧
    (State.dropAddress s b).cfg = s.cfg ∧ (State.dropAddress s b).flash = s.flash ∧
    (State.dropAddress s b).acts = s.acts ∧ (State.dropAddress s b).valves = s.valves ∧
    (State.dropAddress s b).tiles = s.tiles ∧ (State.dropAddress s b).planner = s.planner ∧
    (State.dropAddress s b).nav = s.nav ∧ (State.dropAddress s b).loops = s.loops ∧
    (State.dropAddress s b).field = s.field := by
  simp [State.dropAddress]

@[simp] theorem State.reclaim_keeps (s was : State) :
    (State.reclaim s was).pending = s.pending ∧ (State.reclaim s was).time = s.time ∧
    (State.reclaim s was).dev = s.dev ∧ (State.reclaim s was).pwr = s.pwr ∧ (State.reclaim s was).sag = s.sag ∧
    (State.reclaim s was).cfg = s.cfg ∧ (State.reclaim s was).flash = s.flash ∧
    (State.reclaim s was).acts = s.acts ∧ (State.reclaim s was).valves = s.valves ∧
    (State.reclaim s was).tiles = s.tiles ∧ (State.reclaim s was).planner = s.planner ∧
    (State.reclaim s was).nav = s.nav ∧ (State.reclaim s was).loops = s.loops ∧
    (State.reclaim s was).field = s.field := by
  simp [State.reclaim]

@[simp] theorem State.pumpTx_keeps (k : Nat) (s : State) (b : Nat) :
    (State.pumpTx k s b).pending = s.pending ∧ (State.pumpTx k s b).free = s.free ∧
    (State.pumpTx k s b).time = s.time ∧ (State.pumpTx k s b).dev = s.dev ∧ (State.pumpTx k s b).pwr = s.pwr ∧
    (State.pumpTx k s b).sag = s.sag ∧ (State.pumpTx k s b).cfg = s.cfg ∧ (State.pumpTx k s b).flash = s.flash ∧
    (State.pumpTx k s b).acts = s.acts ∧ (State.pumpTx k s b).valves = s.valves ∧
    (State.pumpTx k s b).tiles = s.tiles ∧ (State.pumpTx k s b).planner = s.planner ∧
    (State.pumpTx k s b).nav = s.nav ∧ (State.pumpTx k s b).loops = s.loops ∧
    (State.pumpTx k s b).field = s.field := by
  induction k generalizing s with
  | zero => simp [State.pumpTx]
  | succ k ih => unfold State.pumpTx; dsimp only; (repeat' split) <;> simp [ih]

@[simp] theorem State.takeTx_keeps (k : Nat) (s : State) (b : Nat) :
    (State.takeTx k s b).pending = s.pending ∧ (State.takeTx k s b).free = s.free ∧
    (State.takeTx k s b).time = s.time ∧ (State.takeTx k s b).dev = s.dev ∧ (State.takeTx k s b).pwr = s.pwr ∧
    (State.takeTx k s b).sag = s.sag ∧ (State.takeTx k s b).cfg = s.cfg ∧ (State.takeTx k s b).flash = s.flash ∧
    (State.takeTx k s b).acts = s.acts ∧ (State.takeTx k s b).valves = s.valves ∧
    (State.takeTx k s b).tiles = s.tiles ∧ (State.takeTx k s b).planner = s.planner ∧
    (State.takeTx k s b).nav = s.nav ∧ (State.takeTx k s b).loops = s.loops ∧
    (State.takeTx k s b).field = s.field := by
  induction k generalizing s with
  | zero => simp [State.takeTx]
  | succ k ih => unfold State.takeTx; dsimp only; (repeat' split) <;> simp [ih]

@[simp] theorem State.refill_keeps (s : State) (b : Nat) :
    (State.refill s b).pending = s.pending ∧ (State.refill s b).free = s.free ∧ (State.refill s b).time = s.time ∧
    (State.refill s b).dev = s.dev ∧ (State.refill s b).pwr = s.pwr ∧ (State.refill s b).sag = s.sag ∧
    (State.refill s b).cfg = s.cfg ∧ (State.refill s b).flash = s.flash ∧ (State.refill s b).acts = s.acts ∧
    (State.refill s b).valves = s.valves ∧ (State.refill s b).tiles = s.tiles ∧
    (State.refill s b).planner = s.planner ∧ (State.refill s b).nav = s.nav ∧ (State.refill s b).loops = s.loops ∧
    (State.refill s b).field = s.field := by
  simp [State.refill]

@[simp] theorem State.attemptFailed_keeps (s : State) (b : Nat) :
    (State.attemptFailed s b).pending = s.pending ∧ (State.attemptFailed s b).free = s.free ∧
    (State.attemptFailed s b).time = s.time ∧ (State.attemptFailed s b).dev = s.dev ∧
    (State.attemptFailed s b).pwr = s.pwr ∧ (State.attemptFailed s b).sag = s.sag ∧
    (State.attemptFailed s b).cfg = s.cfg ∧ (State.attemptFailed s b).flash = s.flash ∧
    (State.attemptFailed s b).acts = s.acts ∧ (State.attemptFailed s b).valves = s.valves ∧
    (State.attemptFailed s b).tiles = s.tiles ∧ (State.attemptFailed s b).planner = s.planner ∧
    (State.attemptFailed s b).nav = s.nav ∧ (State.attemptFailed s b).loops = s.loops ∧
    (State.attemptFailed s b).field = s.field := by
  unfold State.attemptFailed; (repeat' split) <;> simp

@[simp] theorem State.takeCts_keeps (s : State) (b : Nat) (t : TxSess) (n next : Nat) :
    (State.takeCts s b t n next).pending = s.pending ∧ (State.takeCts s b t n next).free = s.free ∧
    (State.takeCts s b t n next).time = s.time ∧ (State.takeCts s b t n next).dev = s.dev ∧
    (State.takeCts s b t n next).pwr = s.pwr ∧ (State.takeCts s b t n next).sag = s.sag ∧
    (State.takeCts s b t n next).cfg = s.cfg ∧ (State.takeCts s b t n next).flash = s.flash ∧
    (State.takeCts s b t n next).acts = s.acts ∧ (State.takeCts s b t n next).valves = s.valves ∧
    (State.takeCts s b t n next).tiles = s.tiles ∧ (State.takeCts s b t n next).planner = s.planner ∧
    (State.takeCts s b t n next).nav = s.nav ∧ (State.takeCts s b t n next).loops = s.loops ∧
    (State.takeCts s b t n next).field = s.field := by
  simp [State.takeCts]

@[simp] theorem State.canSafe_keeps (s : State) (fault : Bool) :
    (State.canSafe s fault).pending = s.pending ∧ (State.canSafe s fault).time = s.time ∧
    (State.canSafe s fault).dev = s.dev ∧ (State.canSafe s fault).pwr = s.pwr ∧
    (State.canSafe s fault).sag = s.sag ∧ (State.canSafe s fault).cfg = s.cfg ∧
    (State.canSafe s fault).flash = s.flash ∧ (State.canSafe s fault).acts = s.acts ∧
    (State.canSafe s fault).valves = s.valves ∧ (State.canSafe s fault).tiles = s.tiles ∧
    (State.canSafe s fault).planner = s.planner ∧ (State.canSafe s fault).nav = s.nav ∧
    (State.canSafe s fault).loops = s.loops ∧ (State.canSafe s fault).field = s.field := by
  simp [State.canSafe]

@[simp] theorem State.dropTxf_keeps (s : State) (b : Nat) :
    (State.dropTxf s b).pending = s.pending ∧ (State.dropTxf s b).time = s.time ∧ (State.dropTxf s b).dev = s.dev ∧
    (State.dropTxf s b).pwr = s.pwr ∧ (State.dropTxf s b).sag = s.sag ∧ (State.dropTxf s b).cfg = s.cfg ∧
    (State.dropTxf s b).flash = s.flash ∧ (State.dropTxf s b).acts = s.acts ∧
    (State.dropTxf s b).valves = s.valves ∧ (State.dropTxf s b).tiles = s.tiles ∧
    (State.dropTxf s b).planner = s.planner ∧ (State.dropTxf s b).nav = s.nav ∧
    (State.dropTxf s b).loops = s.loops ∧ (State.dropTxf s b).field = s.field := by
  unfold State.dropTxf; dsimp only; (repeat' split) <;> simp_all

@[simp] theorem State.stopTxf_keeps (s : State) :
    (State.stopTxf s).pending = s.pending ∧ (State.stopTxf s).time = s.time ∧ (State.stopTxf s).dev = s.dev ∧
    (State.stopTxf s).pwr = s.pwr ∧ (State.stopTxf s).sag = s.sag ∧ (State.stopTxf s).cfg = s.cfg ∧
    (State.stopTxf s).flash = s.flash ∧ (State.stopTxf s).acts = s.acts ∧ (State.stopTxf s).valves = s.valves ∧
    (State.stopTxf s).tiles = s.tiles ∧ (State.stopTxf s).planner = s.planner ∧ (State.stopTxf s).nav = s.nav ∧
    (State.stopTxf s).loops = s.loops ∧ (State.stopTxf s).field = s.field := by
  simp [State.stopTxf]

@[simp] theorem State.enterListen_keeps (s : State) (b : Nat) :
    (State.enterListen s b).pending = s.pending ∧ (State.enterListen s b).time = s.time ∧
    (State.enterListen s b).dev = s.dev ∧ (State.enterListen s b).pwr = s.pwr ∧
    (State.enterListen s b).sag = s.sag ∧ (State.enterListen s b).cfg = s.cfg ∧
    (State.enterListen s b).flash = s.flash ∧ (State.enterListen s b).acts = s.acts ∧
    (State.enterListen s b).valves = s.valves ∧ (State.enterListen s b).tiles = s.tiles ∧
    (State.enterListen s b).planner = s.planner ∧ (State.enterListen s b).nav = s.nav ∧
    (State.enterListen s b).loops = s.loops ∧ (State.enterListen s b).field = s.field := by
  simp [State.enterListen]

@[simp] theorem State.canConfigure_keeps (s : State) (boot : Bool) :
    (State.canConfigure s boot).pending = s.pending ∧ (State.canConfigure s boot).time = s.time ∧
    (State.canConfigure s boot).dev = s.dev ∧ (State.canConfigure s boot).pwr = s.pwr ∧
    (State.canConfigure s boot).sag = s.sag ∧ (State.canConfigure s boot).cfg = s.cfg ∧
    (State.canConfigure s boot).flash = s.flash ∧ (State.canConfigure s boot).acts = s.acts ∧
    (State.canConfigure s boot).valves = s.valves ∧ (State.canConfigure s boot).tiles = s.tiles ∧
    (State.canConfigure s boot).planner = s.planner ∧ (State.canConfigure s boot).nav = s.nav ∧
    (State.canConfigure s boot).loops = s.loops ∧ (State.canConfigure s boot).field = s.field := by
  simp [State.canConfigure]

end Sys2Proof.Machine
end

