-- ==== Sys2Proof/Laws/FrameCan.lean ====
section
/-! SUPPORT. What the operations of Machine/Can.lean leave alone: one lemma per operation, the conjunction of
every field of State that it keeps. -/

set_option Elab.async false

open Sys2Proof Sys2Proof.Machine

namespace Sys2Proof.Machine

@[simp] theorem State.claimAttempt_keeps (s : State) (b : Nat) (e : TxEnt) (sof : Nat) :
    (State.claimAttempt s b e sof).pending = s.pending ∧ (State.claimAttempt s b e sof).free = s.free ∧
    (State.claimAttempt s b e sof).time = s.time ∧ (State.claimAttempt s b e sof).dev = s.dev ∧
    (State.claimAttempt s b e sof).pwr = s.pwr ∧ (State.claimAttempt s b e sof).sag = s.sag ∧
    (State.claimAttempt s b e sof).host = s.host ∧ (State.claimAttempt s b e sof).cfg = s.cfg ∧
    (State.claimAttempt s b e sof).flash = s.flash ∧ (State.claimAttempt s b e sof).acts = s.acts ∧
    (State.claimAttempt s b e sof).cnt = s.cnt ∧ (State.claimAttempt s b e sof).valves = s.valves ∧
    (State.claimAttempt s b e sof).tiles = s.tiles ∧ (State.claimAttempt s b e sof).planner = s.planner ∧
    (State.claimAttempt s b e sof).nav = s.nav ∧ (State.claimAttempt s b e sof).loops = s.loops ∧
    (State.claimAttempt s b e sof).field = s.field := by
  simp [State.claimAttempt]

@[simp] theorem State.endDetect_keeps (s : State) (b : Nat) (st : Status) :
    (State.endDetect s b st).pending = s.pending ∧ (State.endDetect s b st).free = s.free ∧
    (State.endDetect s b st).time = s.time ∧ (State.endDetect s b st).dev = s.dev ∧
    (State.endDetect s b st).pwr = s.pwr ∧ (State.endDetect s b st).sag = s.sag ∧
    (State.endDetect s b st).cfg = s.cfg ∧ (State.endDetect s b st).flash = s.flash ∧
    (State.endDetect s b st).acts = s.acts ∧ (State.endDetect s b st).valves = s.valves ∧
    (State.endDetect s b st).tiles = s.tiles ∧ (State.endDetect s b st).planner = s.planner ∧
    (State.endDetect s b st).nav = s.nav ∧ (State.endDetect s b st).loops = s.loops ∧
    (State.endDetect s b st).field = s.field := by
  unfold State.endDetect; dsimp only; (repeat' split) <;> simp_all

@[simp] theorem State.rateFound_keeps (s : State) (b : Nat) (d : Detect) :
    (State.rateFound s b d).pending = s.pending ∧ (State.rateFound s b d).free = s.free ∧
    (State.rateFound s b d).time = s.time ∧ (State.rateFound s b d).dev = s.dev ∧
    (State.rateFound s b d).pwr = s.pwr ∧ (State.rateFound s b d).sag = s.sag ∧
    (State.rateFound s b d).cfg = s.cfg ∧ (State.rateFound s b d).flash = s.flash ∧
    (State.rateFound s b d).acts = s.acts ∧ (State.rateFound s b d).valves = s.valves ∧
    (State.rateFound s b d).tiles = s.tiles ∧ (State.rateFound s b d).planner = s.planner ∧
    (State.rateFound s b d).nav = s.nav ∧ (State.rateFound s b d).loops = s.loops ∧
    (State.rateFound s b d).field = s.field ∧ (State.rateFound s b d).can = s.can := by
  simp [State.rateFound]

@[simp] theorem State.detGood_keeps (s : State) (b : Nat) (d : Detect) (f : CanFrame) :
    (State.detGood s b d f).pending = s.pending ∧ (State.detGood s b d f).time = s.time ∧
    (State.detGood s b d f).dev = s.dev ∧ (State.detGood s b d f).pwr = s.pwr ∧
    (State.detGood s b d f).sag = s.sag ∧ (State.detGood s b d f).cfg = s.cfg ∧
    (State.detGood s b d f).flash = s.flash ∧ (State.detGood s b d f).acts = s.acts ∧
    (State.detGood s b d f).valves = s.valves ∧ (State.detGood s b d f).tiles = s.tiles ∧
    (State.detGood s b d f).planner = s.planner ∧ (State.detGood s b d f).nav = s.nav ∧
    (State.detGood s b d f).loops = s.loops ∧ (State.detGood s b d f).field = s.field := by
  unfold State.detGood; dsimp only; (repeat' split) <;> simp_all

@[simp] theorem State.sessionSent_keeps (s : State) (b id sof : Nat) :
    (State.sessionSent s b id sof).pending = s.pending ∧ (State.sessionSent s b id sof).time = s.time ∧
    (State.sessionSent s b id sof).dev = s.dev ∧ (State.sessionSent s b id sof).pwr = s.pwr ∧
    (State.sessionSent s b id sof).sag = s.sag ∧ (State.sessionSent s b id sof).cfg = s.cfg ∧
    (State.sessionSent s b id sof).flash = s.flash ∧ (State.sessionSent s b id sof).acts = s.acts ∧
    (State.sessionSent s b id sof).valves = s.valves ∧ (State.sessionSent s b id sof).tiles = s.tiles ∧
    (State.sessionSent s b id sof).planner = s.planner ∧ (State.sessionSent s b id sof).nav = s.nav ∧
    (State.sessionSent s b id sof).loops = s.loops ∧ (State.sessionSent s b id sof).field = s.field := by
  unfold State.sessionSent; dsimp only; (repeat' split) <;> simp_all

@[simp] theorem State.txfLoops_keeps (s : State) (f : Nat) :
    (State.txfLoops s f).pending = s.pending ∧ (State.txfLoops s f).free = s.free ∧
    (State.txfLoops s f).time = s.time ∧ (State.txfLoops s f).dev = s.dev ∧ (State.txfLoops s f).pwr = s.pwr ∧
    (State.txfLoops s f).sag = s.sag ∧ (State.txfLoops s f).cfg = s.cfg ∧ (State.txfLoops s f).flash = s.flash ∧
    (State.txfLoops s f).acts = s.acts ∧ (State.txfLoops s f).valves = s.valves ∧
    (State.txfLoops s f).tiles = s.tiles ∧ (State.txfLoops s f).planner = s.planner ∧
    (State.txfLoops s f).nav = s.nav ∧ (State.txfLoops s f).loops = s.loops ∧
    (State.txfLoops s f).field = s.field := by
  simp [State.txfLoops]

@[simp] theorem State.mergeIn_keeps (s : State) (b : Nat) (isIt : TxKind → Bool) (k : TxKind) (f : CanFrame) :
    (State.mergeIn s b isIt k f).pending = s.pending ∧ (State.mergeIn s b isIt k f).time = s.time ∧
    (State.mergeIn s b isIt k f).dev = s.dev ∧ (State.mergeIn s b isIt k f).pwr = s.pwr ∧
    (State.mergeIn s b isIt k f).sag = s.sag ∧ (State.mergeIn s b isIt k f).host = s.host ∧
    (State.mergeIn s b isIt k f).cfg = s.cfg ∧ (State.mergeIn s b isIt k f).flash = s.flash ∧
    (State.mergeIn s b isIt k f).acts = s.acts ∧ (State.mergeIn s b isIt k f).valves = s.valves ∧
    (State.mergeIn s b isIt k f).tiles = s.tiles ∧ (State.mergeIn s b isIt k f).planner = s.planner ∧
    (State.mergeIn s b isIt k f).nav = s.nav ∧ (State.mergeIn s b isIt k f).loops = s.loops ∧
    (State.mergeIn s b isIt k f).field = s.field := by
  unfold State.mergeIn; dsimp only; (repeat' split) <;> simp_all

@[simp] theorem State.cancelSession_keeps (s : State) (b : Nat) (t : TxSess) (started : Bool) :
    (State.cancelSession s b t started).pending = s.pending ∧ (State.cancelSession s b t started).free = s.free ∧
    (State.cancelSession s b t started).time = s.time ∧ (State.cancelSession s b t started).dev = s.dev ∧
    (State.cancelSession s b t started).pwr = s.pwr ∧ (State.cancelSession s b t started).sag = s.sag ∧
    (State.cancelSession s b t started).cfg = s.cfg ∧ (State.cancelSession s b t started).flash = s.flash ∧
    (State.cancelSession s b t started).acts = s.acts ∧ (State.cancelSession s b t started).valves = s.valves ∧
    (State.cancelSession s b t started).tiles = s.tiles ∧ (State.cancelSession s b t started).planner = s.planner ∧
    (State.cancelSession s b t started).nav = s.nav ∧ (State.cancelSession s b t started).loops = s.loops ∧
    (State.cancelSession s b t started).field = s.field := by
  simp [State.cancelSession]

end Sys2Proof.Machine
end

