-- ==== Sys2Proof/Laws/FrameTrans.lean ====
section
/-! SUPPORT. What the operations of Machine/Trans.lean leave alone: one lemma per operation, the conjunction of
every field of State that it keeps. -/

set_option Elab.async false

open Sys2Proof Sys2Proof.Machine

namespace Sys2Proof.Machine

@[simp] theorem State.addCause_keeps (s : State) (c : FCause) :
    (State.addCause s c).pending = s.pending ∧ (State.addCause s c).free = s.free ∧
    (State.addCause s c).time = s.time ∧ (State.addCause s c).pwr = s.pwr ∧ (State.addCause s c).sag = s.sag ∧
    (State.addCause s c).host = s.host ∧ (State.addCause s c).cfg = s.cfg ∧ (State.addCause s c).flash = s.flash ∧
    (State.addCause s c).acts = s.acts ∧ (State.addCause s c).cnt = s.cnt ∧ (State.addCause s c).valves = s.valves ∧
    (State.addCause s c).tiles = s.tiles ∧ (State.addCause s c).planner = s.planner ∧
    (State.addCause s c).nav = s.nav ∧ (State.addCause s c).loops = s.loops ∧ (State.addCause s c).field = s.field ∧
    (State.addCause s c).can = s.can := by
  simp [State.addCause]

@[simp] theorem State.withdraw_keeps (s : State) (chs : List Nat) :
    (State.withdraw s chs).pending = s.pending ∧ (State.withdraw s chs).free = s.free ∧
    (State.withdraw s chs).time = s.time ∧ (State.withdraw s chs).dev = s.dev ∧ (State.withdraw s chs).pwr = s.pwr ∧
    (State.withdraw s chs).sag = s.sag ∧ (State.withdraw s chs).host = s.host ∧ (State.withdraw s chs).cfg = s.cfg ∧
    (State.withdraw s chs).flash = s.flash ∧ (State.withdraw s chs).acts = s.acts ∧
    (State.withdraw s chs).cnt = s.cnt ∧ (State.withdraw s chs).tiles = s.tiles ∧
    (State.withdraw s chs).nav = s.nav ∧ (State.withdraw s chs).loops = s.loops ∧
    (State.withdraw s chs).field = s.field ∧ (State.withdraw s chs).can = s.can := by
  simp [State.withdraw]

@[simp] theorem State.plannerDrop_keeps (s : State) :
    (State.plannerDrop s).pending = s.pending ∧ (State.plannerDrop s).free = s.free ∧
    (State.plannerDrop s).time = s.time ∧ (State.plannerDrop s).dev = s.dev ∧ (State.plannerDrop s).pwr = s.pwr ∧
    (State.plannerDrop s).sag = s.sag ∧ (State.plannerDrop s).host = s.host ∧ (State.plannerDrop s).cfg = s.cfg ∧
    (State.plannerDrop s).flash = s.flash ∧ (State.plannerDrop s).acts = s.acts ∧
    (State.plannerDrop s).cnt = s.cnt ∧ (State.plannerDrop s).valves = s.valves ∧
    (State.plannerDrop s).tiles = s.tiles ∧ (State.plannerDrop s).nav = s.nav ∧
    (State.plannerDrop s).loops = s.loops ∧ (State.plannerDrop s).field = s.field ∧
    (State.plannerDrop s).can = s.can := by
  simp [State.plannerDrop]

@[simp] theorem State.dropIllegal_keeps (s : State) :
    (State.dropIllegal s).pending = s.pending ∧ (State.dropIllegal s).free = s.free ∧
    (State.dropIllegal s).time = s.time ∧ (State.dropIllegal s).dev = s.dev ∧ (State.dropIllegal s).pwr = s.pwr ∧
    (State.dropIllegal s).sag = s.sag ∧ (State.dropIllegal s).cfg = s.cfg ∧ (State.dropIllegal s).flash = s.flash ∧
    (State.dropIllegal s).acts = s.acts ∧ (State.dropIllegal s).valves = s.valves ∧
    (State.dropIllegal s).tiles = s.tiles ∧ (State.dropIllegal s).nav = s.nav ∧
    (State.dropIllegal s).loops = s.loops ∧ (State.dropIllegal s).field = s.field := by
  simp [State.dropIllegal]

@[simp] theorem State.releaseForce_keeps (s : State) :
    (State.releaseForce s).pending = s.pending ∧ (State.releaseForce s).free = s.free ∧
    (State.releaseForce s).time = s.time ∧ (State.releaseForce s).dev = s.dev ∧ (State.releaseForce s).pwr = s.pwr ∧
    (State.releaseForce s).host = s.host ∧ (State.releaseForce s).cfg = s.cfg ∧
    (State.releaseForce s).flash = s.flash ∧ (State.releaseForce s).acts = s.acts ∧
    (State.releaseForce s).cnt = s.cnt ∧ (State.releaseForce s).tiles = s.tiles ∧
    (State.releaseForce s).planner = s.planner ∧ (State.releaseForce s).nav = s.nav ∧
    (State.releaseForce s).loops = s.loops ∧ (State.releaseForce s).field = s.field ∧
    (State.releaseForce s).can = s.can := by
  simp [State.releaseForce]

@[simp] theorem State.endActivity_keeps (s : State) (a : Activity) :
    (State.endActivity s a).pending = s.pending ∧ (State.endActivity s a).time = s.time ∧
    (State.endActivity s a).dev = s.dev ∧ (State.endActivity s a).pwr = s.pwr ∧
    (State.endActivity s a).sag = s.sag ∧ (State.endActivity s a).cfg = s.cfg ∧
    (State.endActivity s a).flash = s.flash ∧ (State.endActivity s a).tiles = s.tiles ∧
    (State.endActivity s a).nav = s.nav ∧ (State.endActivity s a).field = s.field := by
  simp [State.endActivity]

@[simp] theorem State.abortAct_keeps (s : State) (a : Activity) :
    (State.abortAct s a).pending = s.pending ∧ (State.abortAct s a).time = s.time ∧
    (State.abortAct s a).dev = s.dev ∧ (State.abortAct s a).pwr = s.pwr ∧ (State.abortAct s a).sag = s.sag ∧
    (State.abortAct s a).cfg = s.cfg ∧ (State.abortAct s a).tiles = s.tiles ∧ (State.abortAct s a).nav = s.nav ∧
    (State.abortAct s a).field = s.field := by
  unfold State.abortAct; dsimp only; (repeat' split) <;> simp_all

@[simp] theorem State.abortAll_keeps (s : State) :
    (State.abortAll s).pending = s.pending ∧ (State.abortAll s).time = s.time ∧ (State.abortAll s).dev = s.dev ∧
    (State.abortAll s).pwr = s.pwr ∧ (State.abortAll s).sag = s.sag ∧ (State.abortAll s).cfg = s.cfg ∧
    (State.abortAll s).tiles = s.tiles ∧ (State.abortAll s).nav = s.nav ∧ (State.abortAll s).field = s.field := by
  simp [State.abortAll]

@[simp] theorem State.wake_keeps (s : State) :
    (State.wake s).pending = s.pending ∧ (State.wake s).free = s.free ∧ (State.wake s).time = s.time ∧
    (State.wake s).pwr = s.pwr ∧ (State.wake s).sag = s.sag ∧ (State.wake s).host = s.host ∧
    (State.wake s).cfg = s.cfg ∧ (State.wake s).flash = s.flash ∧ (State.wake s).acts = s.acts ∧
    (State.wake s).cnt = s.cnt ∧ (State.wake s).valves = s.valves ∧ (State.wake s).tiles = s.tiles ∧
    (State.wake s).planner = s.planner ∧ (State.wake s).nav = s.nav ∧ (State.wake s).loops = s.loops ∧
    (State.wake s).field = s.field ∧ (State.wake s).can = s.can := by
  simp [State.wake]

@[simp] theorem State.recordOrphan_keeps (s : State) (start : Nat) :
    (State.recordOrphan s start).pending = s.pending ∧ (State.recordOrphan s start).free = s.free ∧
    (State.recordOrphan s start).time = s.time ∧ (State.recordOrphan s start).pwr = s.pwr ∧
    (State.recordOrphan s start).sag = s.sag ∧ (State.recordOrphan s start).host = s.host ∧
    (State.recordOrphan s start).cfg = s.cfg ∧ (State.recordOrphan s start).acts = s.acts ∧
    (State.recordOrphan s start).cnt = s.cnt ∧ (State.recordOrphan s start).valves = s.valves ∧
    (State.recordOrphan s start).tiles = s.tiles ∧ (State.recordOrphan s start).planner = s.planner ∧
    (State.recordOrphan s start).nav = s.nav ∧ (State.recordOrphan s start).loops = s.loops ∧
    (State.recordOrphan s start).field = s.field ∧ (State.recordOrphan s start).can = s.can := by
  simp [State.recordOrphan]

@[simp] theorem State.sagRecord_keeps (s : State) (code subject : Nat) (data : List (Nat × Nat × Nat)) :
    (State.sagRecord s code subject data).pending = s.pending ∧
    (State.sagRecord s code subject data).free = s.free ∧ (State.sagRecord s code subject data).time = s.time ∧
    (State.sagRecord s code subject data).dev = s.dev ∧ (State.sagRecord s code subject data).pwr = s.pwr ∧
    (State.sagRecord s code subject data).cfg = s.cfg ∧ (State.sagRecord s code subject data).acts = s.acts ∧
    (State.sagRecord s code subject data).valves = s.valves ∧
    (State.sagRecord s code subject data).tiles = s.tiles ∧
    (State.sagRecord s code subject data).planner = s.planner ∧ (State.sagRecord s code subject data).nav = s.nav ∧
    (State.sagRecord s code subject data).loops = s.loops ∧ (State.sagRecord s code subject data).field = s.field ∧
    (State.sagRecord s code subject data).can = s.can := by
  simp [State.sagRecord]

@[simp] theorem State.detectRec_keeps (s : State) (k lane : Nat) :
    (State.detectRec s k lane).pending = s.pending ∧ (State.detectRec s k lane).free = s.free ∧
    (State.detectRec s k lane).time = s.time ∧ (State.detectRec s k lane).dev = s.dev ∧
    (State.detectRec s k lane).pwr = s.pwr ∧ (State.detectRec s k lane).cfg = s.cfg ∧
    (State.detectRec s k lane).acts = s.acts ∧ (State.detectRec s k lane).valves = s.valves ∧
    (State.detectRec s k lane).tiles = s.tiles ∧ (State.detectRec s k lane).planner = s.planner ∧
    (State.detectRec s k lane).nav = s.nav ∧ (State.detectRec s k lane).loops = s.loops ∧
    (State.detectRec s k lane).field = s.field ∧ (State.detectRec s k lane).can = s.can := by
  simp [State.detectRec]

@[simp] theorem State.ringStops_keeps (s : State) (n : Nat) :
    (State.ringStops s n).pending = s.pending ∧ (State.ringStops s n).free = s.free ∧
    (State.ringStops s n).time = s.time ∧ (State.ringStops s n).dev = s.dev ∧ (State.ringStops s n).pwr = s.pwr ∧
    (State.ringStops s n).sag = s.sag ∧ (State.ringStops s n).cfg = s.cfg ∧ (State.ringStops s n).flash = s.flash ∧
    (State.ringStops s n).acts = s.acts ∧ (State.ringStops s n).valves = s.valves ∧
    (State.ringStops s n).tiles = s.tiles ∧ (State.ringStops s n).planner = s.planner ∧
    (State.ringStops s n).nav = s.nav ∧ (State.ringStops s n).loops = s.loops ∧
    (State.ringStops s n).field = s.field := by
  simp [State.ringStops]

@[simp] theorem State.hostIfReset_keeps (s : State) :
    (State.hostIfReset s).pending = s.pending ∧ (State.hostIfReset s).free = s.free ∧
    (State.hostIfReset s).time = s.time ∧ (State.hostIfReset s).dev = s.dev ∧ (State.hostIfReset s).pwr = s.pwr ∧
    (State.hostIfReset s).sag = s.sag ∧ (State.hostIfReset s).cfg = s.cfg ∧ (State.hostIfReset s).flash = s.flash ∧
    (State.hostIfReset s).acts = s.acts ∧ (State.hostIfReset s).valves = s.valves ∧
    (State.hostIfReset s).tiles = s.tiles ∧ (State.hostIfReset s).planner = s.planner ∧
    (State.hostIfReset s).nav = s.nav ∧ (State.hostIfReset s).loops = s.loops ∧
    (State.hostIfReset s).field = s.field := by
  simp [State.hostIfReset]

@[simp] theorem State.enter_keeps (s : State) (new : DevState) (cause : Nat) :
    (s.enter new cause).pending = s.pending ∧ (s.enter new cause).time = s.time ∧ (s.enter new cause).pwr = s.pwr ∧
    (s.enter new cause).cfg = s.cfg ∧ (s.enter new cause).flash = s.flash ∧ (s.enter new cause).tiles = s.tiles ∧
    (s.enter new cause).nav = s.nav := by
  unfold State.enter; cases new <;> simp

theorem State.enter_dev (s : State) (new : DevState) (cause : Nat) :
    (s.enter new cause).dev = { s.dev with st := new, cause := cause, stMt := s.now } := by
  have h : ∀ t : State, t.time = s.time → t.now = s.now := fun t h => by simp [State.now, h]
  unfold State.enter; cases new <;> simp [State.now]

@[simp] theorem State.toFault_keeps (s : State) (cause : Nat) :
    (s.toFault cause).pending = s.pending ∧ (s.toFault cause).time = s.time ∧ (s.toFault cause).pwr = s.pwr ∧
    (s.toFault cause).cfg = s.cfg ∧ (s.toFault cause).tiles = s.tiles ∧ (s.toFault cause).nav = s.nav := by
  unfold State.toFault; dsimp only; (repeat' split) <;> simp

@[simp] theorem State.moduleWide_keeps (s : State) (c : FCause) (lane : Nat) :
    (s.moduleWide c lane).pending = s.pending ∧ (s.moduleWide c lane).time = s.time ∧
    (s.moduleWide c lane).pwr = s.pwr ∧ (s.moduleWide c lane).cfg = s.cfg ∧ (s.moduleWide c lane).tiles = s.tiles ∧
    (s.moduleWide c lane).nav = s.nav := by
  unfold State.moduleWide; simp

@[simp] theorem State.resetClass_keeps (s : State) (k lane : Nat) :
    (s.resetClass k lane).pending = s.pending ∧ (s.resetClass k lane).time = s.time ∧
    (s.resetClass k lane).pwr = s.pwr ∧ (s.resetClass k lane).cfg = s.cfg ∧ (s.resetClass k lane).tiles = s.tiles ∧
    (s.resetClass k lane).nav = s.nav := by
  unfold State.resetClass; simp

@[simp] theorem State.graceExpires_keeps (s : State) (start : Nat) :
    (s.graceExpires start).pending = s.pending ∧ (s.graceExpires start).time = s.time ∧
    (s.graceExpires start).pwr = s.pwr ∧ (s.graceExpires start).cfg = s.cfg ∧
    (s.graceExpires start).tiles = s.tiles ∧ (s.graceExpires start).nav = s.nav := by
  unfold State.graceExpires; simp

@[simp] theorem State.graceFirst_keeps (s : State) :
    s.graceFirst.pending = s.pending ∧ s.graceFirst.time = s.time ∧ s.graceFirst.pwr = s.pwr ∧
    s.graceFirst.cfg = s.cfg ∧ s.graceFirst.tiles = s.tiles ∧ s.graceFirst.nav = s.nav := by
  unfold State.graceFirst; (repeat' split) <;> simp

@[simp] theorem State.hostLost_keeps (s : State) (det : Nat) :
    (s.hostLost det).pending = s.pending ∧ (s.hostLost det).time = s.time ∧ (s.hostLost det).pwr = s.pwr ∧
    (s.hostLost det).cfg = s.cfg ∧ (s.hostLost det).tiles = s.tiles ∧ (s.hostLost det).nav = s.nav := by
  unfold State.hostLost; dsimp only; (repeat' split) <;> simp

end Sys2Proof.Machine
end

