-- ==== Sys2Proof/Laws/FrameConfig.lean ====
section
/-! SUPPORT. What the operations of Machine/Config.lean leave alone: one lemma per operation, the conjunction of
every field of State that it keeps. -/

set_option Elab.async false

open Sys2Proof Sys2Proof.Machine

namespace Sys2Proof.Machine

@[simp] theorem State.selectSafe_keeps (s : State) :
    (State.selectSafe s).pending = s.pending ∧ (State.selectSafe s).free = s.free ∧
    (State.selectSafe s).time = s.time ∧ (State.selectSafe s).pwr = s.pwr ∧ (State.selectSafe s).sag = s.sag ∧
    (State.selectSafe s).host = s.host ∧ (State.selectSafe s).cfg = s.cfg ∧ (State.selectSafe s).flash = s.flash ∧
    (State.selectSafe s).acts = s.acts ∧ (State.selectSafe s).cnt = s.cnt ∧ (State.selectSafe s).valves = s.valves ∧
    (State.selectSafe s).tiles = s.tiles ∧ (State.selectSafe s).planner = s.planner ∧
    (State.selectSafe s).nav = s.nav ∧ (State.selectSafe s).loops = s.loops ∧ (State.selectSafe s).field = s.field ∧
    (State.selectSafe s).can = s.can := by
  simp [State.selectSafe]

@[simp] theorem State.sendLimits_keeps (s : State) :
    (State.sendLimits s).pending = s.pending ∧ (State.sendLimits s).free = s.free ∧
    (State.sendLimits s).time = s.time ∧ (State.sendLimits s).dev = s.dev ∧ (State.sendLimits s).pwr = s.pwr ∧
    (State.sendLimits s).cfg = s.cfg ∧ (State.sendLimits s).flash = s.flash ∧ (State.sendLimits s).acts = s.acts ∧
    (State.sendLimits s).valves = s.valves ∧ (State.sendLimits s).tiles = s.tiles ∧
    (State.sendLimits s).planner = s.planner ∧ (State.sendLimits s).nav = s.nav ∧
    (State.sendLimits s).loops = s.loops ∧ (State.sendLimits s).field = s.field ∧
    (State.sendLimits s).can = s.can := by
  simp [State.sendLimits]

@[simp] theorem State.setVHold_keeps (s : State) :
    (State.setVHold s).pending = s.pending ∧ (State.setVHold s).free = s.free ∧ (State.setVHold s).time = s.time ∧
    (State.setVHold s).dev = s.dev ∧ (State.setVHold s).sag = s.sag ∧ (State.setVHold s).host = s.host ∧
    (State.setVHold s).cfg = s.cfg ∧ (State.setVHold s).flash = s.flash ∧ (State.setVHold s).acts = s.acts ∧
    (State.setVHold s).cnt = s.cnt ∧ (State.setVHold s).valves = s.valves ∧ (State.setVHold s).tiles = s.tiles ∧
    (State.setVHold s).planner = s.planner ∧ (State.setVHold s).nav = s.nav ∧ (State.setVHold s).loops = s.loops ∧
    (State.setVHold s).field = s.field ∧ (State.setVHold s).can = s.can := by
  simp [State.setVHold]

@[simp] theorem State.refitEnergy_keeps (s : State) :
    (State.refitEnergy s).pending = s.pending ∧ (State.refitEnergy s).free = s.free ∧
    (State.refitEnergy s).time = s.time ∧ (State.refitEnergy s).dev = s.dev ∧ (State.refitEnergy s).sag = s.sag ∧
    (State.refitEnergy s).host = s.host ∧ (State.refitEnergy s).cfg = s.cfg ∧
    (State.refitEnergy s).flash = s.flash ∧ (State.refitEnergy s).acts = s.acts ∧
    (State.refitEnergy s).cnt = s.cnt ∧ (State.refitEnergy s).valves = s.valves ∧
    (State.refitEnergy s).tiles = s.tiles ∧ (State.refitEnergy s).planner = s.planner ∧
    (State.refitEnergy s).nav = s.nav ∧ (State.refitEnergy s).loops = s.loops ∧
    (State.refitEnergy s).field = s.field ∧ (State.refitEnergy s).can = s.can := by
  simp [State.refitEnergy]

@[simp] theorem State.stopSextant_keeps (s : State) :
    (State.stopSextant s).pending = s.pending ∧ (State.stopSextant s).free = s.free ∧
    (State.stopSextant s).dev = s.dev ∧ (State.stopSextant s).pwr = s.pwr ∧ (State.stopSextant s).sag = s.sag ∧
    (State.stopSextant s).cfg = s.cfg ∧ (State.stopSextant s).flash = s.flash ∧
    (State.stopSextant s).acts = s.acts ∧ (State.stopSextant s).valves = s.valves ∧
    (State.stopSextant s).tiles = s.tiles ∧ (State.stopSextant s).planner = s.planner ∧
    (State.stopSextant s).loops = s.loops ∧ (State.stopSextant s).field = s.field ∧
    (State.stopSextant s).can = s.can := by
  simp [State.stopSextant]

@[simp] theorem State.configure_keeps (s : State) (boot : Bool) :
    (State.configure s boot).pending = s.pending ∧ (State.configure s boot).dev = s.dev ∧
    (State.configure s boot).pwr = s.pwr ∧ (State.configure s boot).cfg = s.cfg ∧
    (State.configure s boot).flash = s.flash ∧ (State.configure s boot).acts = s.acts ∧
    (State.configure s boot).tiles = s.tiles ∧ (State.configure s boot).planner = s.planner := by
  simp [State.configure]

@[simp] theorem State.fusionReset_keeps (s : State) :
    (State.fusionReset s).pending = s.pending ∧ (State.fusionReset s).free = s.free ∧
    (State.fusionReset s).time = s.time ∧ (State.fusionReset s).dev = s.dev ∧ (State.fusionReset s).pwr = s.pwr ∧
    (State.fusionReset s).sag = s.sag ∧ (State.fusionReset s).host = s.host ∧ (State.fusionReset s).cfg = s.cfg ∧
    (State.fusionReset s).flash = s.flash ∧ (State.fusionReset s).acts = s.acts ∧
    (State.fusionReset s).cnt = s.cnt ∧ (State.fusionReset s).valves = s.valves ∧
    (State.fusionReset s).tiles = s.tiles ∧ (State.fusionReset s).planner = s.planner ∧
    (State.fusionReset s).loops = s.loops ∧ (State.fusionReset s).field = s.field ∧
    (State.fusionReset s).can = s.can := by
  simp [State.fusionReset]

@[simp] theorem State.imuInit_keeps (s : State) :
    (State.imuInit s).pending = s.pending ∧ (State.imuInit s).free = s.free ∧ (State.imuInit s).time = s.time ∧
    (State.imuInit s).dev = s.dev ∧ (State.imuInit s).pwr = s.pwr ∧ (State.imuInit s).sag = s.sag ∧
    (State.imuInit s).cfg = s.cfg ∧ (State.imuInit s).flash = s.flash ∧ (State.imuInit s).acts = s.acts ∧
    (State.imuInit s).valves = s.valves ∧ (State.imuInit s).tiles = s.tiles ∧
    (State.imuInit s).planner = s.planner ∧ (State.imuInit s).loops = s.loops ∧ (State.imuInit s).field = s.field ∧
    (State.imuInit s).can = s.can := by
  unfold State.imuInit; (repeat' split) <;> simp

@[simp] theorem State.applyImage_keeps (s : State) (v : CfgVals) :
    (State.applyImage s v).pending = s.pending ∧ (State.applyImage s v).dev = s.dev ∧
    (State.applyImage s v).flash = s.flash ∧ (State.applyImage s v).acts = s.acts ∧
    (State.applyImage s v).planner = s.planner := by
  simp [State.applyImage]

@[simp] theorem State.releaseOutputs_keeps (s : State) :
    (State.releaseOutputs s).pending = s.pending ∧ (State.releaseOutputs s).free = s.free ∧
    (State.releaseOutputs s).time = s.time ∧ (State.releaseOutputs s).pwr = s.pwr ∧
    (State.releaseOutputs s).sag = s.sag ∧ (State.releaseOutputs s).host = s.host ∧
    (State.releaseOutputs s).flash = s.flash ∧ (State.releaseOutputs s).acts = s.acts ∧
    (State.releaseOutputs s).cnt = s.cnt ∧ (State.releaseOutputs s).tiles = s.tiles ∧
    (State.releaseOutputs s).planner = s.planner ∧ (State.releaseOutputs s).nav = s.nav ∧
    (State.releaseOutputs s).can = s.can := by
  simp [State.releaseOutputs]

@[simp] theorem State.updCfgSlot_keeps (s : State) (n : Nat) (f : Slot → Slot) :
    (State.updCfgSlot s n f).pending = s.pending ∧ (State.updCfgSlot s n f).free = s.free ∧
    (State.updCfgSlot s n f).time = s.time ∧ (State.updCfgSlot s n f).dev = s.dev ∧
    (State.updCfgSlot s n f).pwr = s.pwr ∧ (State.updCfgSlot s n f).sag = s.sag ∧
    (State.updCfgSlot s n f).host = s.host ∧ (State.updCfgSlot s n f).flash = s.flash ∧
    (State.updCfgSlot s n f).acts = s.acts ∧ (State.updCfgSlot s n f).cnt = s.cnt ∧
    (State.updCfgSlot s n f).valves = s.valves ∧ (State.updCfgSlot s n f).tiles = s.tiles ∧
    (State.updCfgSlot s n f).planner = s.planner ∧ (State.updCfgSlot s n f).nav = s.nav ∧
    (State.updCfgSlot s n f).loops = s.loops ∧ (State.updCfgSlot s n f).field = s.field ∧
    (State.updCfgSlot s n f).can = s.can := by
  exact ⟨rfl, rfl, rfl, rfl, rfl, rfl, rfl, rfl, rfl, rfl, rfl, rfl, rfl, rfl, rfl, rfl, rfl⟩

@[simp] theorem State.writeJournal_keeps (s : State) (op : Nat) :
    (State.writeJournal s op).pending = s.pending ∧ (State.writeJournal s op).free = s.free ∧
    (State.writeJournal s op).time = s.time ∧ (State.writeJournal s op).dev = s.dev ∧
    (State.writeJournal s op).pwr = s.pwr ∧ (State.writeJournal s op).sag = s.sag ∧
    (State.writeJournal s op).host = s.host ∧ (State.writeJournal s op).flash = s.flash ∧
    (State.writeJournal s op).cnt = s.cnt ∧ (State.writeJournal s op).valves = s.valves ∧
    (State.writeJournal s op).tiles = s.tiles ∧ (State.writeJournal s op).planner = s.planner ∧
    (State.writeJournal s op).nav = s.nav ∧ (State.writeJournal s op).loops = s.loops ∧
    (State.writeJournal s op).field = s.field ∧ (State.writeJournal s op).can = s.can := by
  simp [State.writeJournal]

@[simp] theorem State.tearJournal_keeps (s : State) (op : Nat) :
    (State.tearJournal s op).pending = s.pending ∧ (State.tearJournal s op).free = s.free ∧
    (State.tearJournal s op).time = s.time ∧ (State.tearJournal s op).dev = s.dev ∧
    (State.tearJournal s op).pwr = s.pwr ∧ (State.tearJournal s op).sag = s.sag ∧
    (State.tearJournal s op).host = s.host ∧ (State.tearJournal s op).flash = s.flash ∧
    (State.tearJournal s op).acts = s.acts ∧ (State.tearJournal s op).cnt = s.cnt ∧
    (State.tearJournal s op).valves = s.valves ∧ (State.tearJournal s op).tiles = s.tiles ∧
    (State.tearJournal s op).planner = s.planner ∧ (State.tearJournal s op).nav = s.nav ∧
    (State.tearJournal s op).loops = s.loops ∧ (State.tearJournal s op).field = s.field ∧
    (State.tearJournal s op).can = s.can := by
  simp [State.tearJournal]

@[simp] theorem State.readJournal_keeps (s : State) :
    (State.readJournal s).pending = s.pending ∧ (State.readJournal s).free = s.free ∧
    (State.readJournal s).time = s.time ∧ (State.readJournal s).dev = s.dev ∧ (State.readJournal s).pwr = s.pwr ∧
    (State.readJournal s).sag = s.sag ∧ (State.readJournal s).host = s.host ∧
    (State.readJournal s).flash = s.flash ∧ (State.readJournal s).acts = s.acts ∧
    (State.readJournal s).cnt = s.cnt ∧ (State.readJournal s).valves = s.valves ∧
    (State.readJournal s).tiles = s.tiles ∧ (State.readJournal s).planner = s.planner ∧
    (State.readJournal s).nav = s.nav ∧ (State.readJournal s).loops = s.loops ∧
    (State.readJournal s).field = s.field ∧ (State.readJournal s).can = s.can := by
  unfold State.readJournal; (repeat' split) <;> simp

@[simp] theorem State.moveRoles_keeps (s : State) (rollback : Bool) :
    (State.moveRoles s rollback).pending = s.pending ∧ (State.moveRoles s rollback).free = s.free ∧
    (State.moveRoles s rollback).time = s.time ∧ (State.moveRoles s rollback).dev = s.dev ∧
    (State.moveRoles s rollback).pwr = s.pwr ∧ (State.moveRoles s rollback).sag = s.sag ∧
    (State.moveRoles s rollback).host = s.host ∧ (State.moveRoles s rollback).flash = s.flash ∧
    (State.moveRoles s rollback).cnt = s.cnt ∧ (State.moveRoles s rollback).valves = s.valves ∧
    (State.moveRoles s rollback).tiles = s.tiles ∧ (State.moveRoles s rollback).planner = s.planner ∧
    (State.moveRoles s rollback).nav = s.nav ∧ (State.moveRoles s rollback).loops = s.loops ∧
    (State.moveRoles s rollback).field = s.field ∧ (State.moveRoles s rollback).can = s.can := by
  simp [State.moveRoles]

@[simp] theorem State.stageEnd_keeps (s : State) (w : Waiting) (st : Status) (res : BitVec 128) :
    (State.stageEnd s w st res).pending = s.pending ∧ (State.stageEnd s w st res).free = s.free ∧
    (State.stageEnd s w st res).time = s.time ∧ (State.stageEnd s w st res).dev = s.dev ∧
    (State.stageEnd s w st res).pwr = s.pwr ∧ (State.stageEnd s w st res).sag = s.sag ∧
    (State.stageEnd s w st res).cfg = s.cfg ∧ (State.stageEnd s w st res).flash = s.flash ∧
    (State.stageEnd s w st res).valves = s.valves ∧ (State.stageEnd s w st res).tiles = s.tiles ∧
    (State.stageEnd s w st res).planner = s.planner ∧ (State.stageEnd s w st res).nav = s.nav ∧
    (State.stageEnd s w st res).loops = s.loops ∧ (State.stageEnd s w st res).field = s.field ∧
    (State.stageEnd s w st res).can = s.can := by
  simp [State.stageEnd]

@[simp] theorem State.stageRead_keeps (s : State) (w : Waiting) (data : List Byte) :
    (State.stageRead s w data).pending = s.pending ∧ (State.stageRead s w data).free = s.free ∧
    (State.stageRead s w data).time = s.time ∧ (State.stageRead s w data).dev = s.dev ∧
    (State.stageRead s w data).pwr = s.pwr ∧ (State.stageRead s w data).sag = s.sag ∧
    (State.stageRead s w data).flash = s.flash ∧ (State.stageRead s w data).valves = s.valves ∧
    (State.stageRead s w data).tiles = s.tiles ∧ (State.stageRead s w data).planner = s.planner ∧
    (State.stageRead s w data).nav = s.nav ∧ (State.stageRead s w data).loops = s.loops ∧
    (State.stageRead s w data).field = s.field ∧ (State.stageRead s w data).can = s.can := by
  unfold State.stageRead; (repeat' split) <;> simp

@[simp] theorem State.stageDone_keeps (s : State) (ok : Bool) :
    (State.stageDone s ok).pending = s.pending ∧ (State.stageDone s ok).free = s.free ∧
    (State.stageDone s ok).time = s.time ∧ (State.stageDone s ok).dev = s.dev ∧ (State.stageDone s ok).pwr = s.pwr ∧
    (State.stageDone s ok).sag = s.sag ∧ (State.stageDone s ok).flash = s.flash ∧
    (State.stageDone s ok).valves = s.valves ∧ (State.stageDone s ok).tiles = s.tiles ∧
    (State.stageDone s ok).planner = s.planner ∧ (State.stageDone s ok).nav = s.nav ∧
    (State.stageDone s ok).loops = s.loops ∧ (State.stageDone s ok).field = s.field ∧
    (State.stageDone s ok).can = s.can := by
  unfold State.stageDone; (repeat' split) <;> simp

@[simp] theorem State.startFiring_keeps (s : State) (h : Hdr) (rollback : Bool) (n : Nat) :
    (State.startFiring s h rollback n).pending = s.pending ∧ (State.startFiring s h rollback n).free = s.free ∧
    (State.startFiring s h rollback n).time = s.time ∧ (State.startFiring s h rollback n).pwr = s.pwr ∧
    (State.startFiring s h rollback n).sag = s.sag ∧ (State.startFiring s h rollback n).flash = s.flash ∧
    (State.startFiring s h rollback n).tiles = s.tiles ∧ (State.startFiring s h rollback n).planner = s.planner ∧
    (State.startFiring s h rollback n).nav = s.nav ∧ (State.startFiring s h rollback n).field = s.field := by
  simp [State.startFiring]

@[simp] theorem State.maybeTear_keeps (s : State) (op : Nat) :
    (State.maybeTear s op).pending = s.pending ∧ (State.maybeTear s op).time = s.time ∧
    (State.maybeTear s op).dev = s.dev ∧ (State.maybeTear s op).pwr = s.pwr ∧ (State.maybeTear s op).sag = s.sag ∧
    (State.maybeTear s op).host = s.host ∧ (State.maybeTear s op).flash = s.flash ∧
    (State.maybeTear s op).acts = s.acts ∧ (State.maybeTear s op).cnt = s.cnt ∧
    (State.maybeTear s op).valves = s.valves ∧ (State.maybeTear s op).tiles = s.tiles ∧
    (State.maybeTear s op).planner = s.planner ∧ (State.maybeTear s op).nav = s.nav ∧
    (State.maybeTear s op).loops = s.loops ∧ (State.maybeTear s op).field = s.field ∧
    (State.maybeTear s op).can = s.can := by
  simp [State.maybeTear]

@[simp] theorem State.cutFiring_keeps (s : State) :
    (State.cutFiring s).pending = s.pending ∧ (State.cutFiring s).time = s.time ∧ (State.cutFiring s).dev = s.dev ∧
    (State.cutFiring s).pwr = s.pwr ∧ (State.cutFiring s).sag = s.sag ∧ (State.cutFiring s).flash = s.flash ∧
    (State.cutFiring s).valves = s.valves ∧ (State.cutFiring s).tiles = s.tiles ∧
    (State.cutFiring s).planner = s.planner ∧ (State.cutFiring s).nav = s.nav ∧
    (State.cutFiring s).loops = s.loops ∧ (State.cutFiring s).field = s.field ∧
    (State.cutFiring s).can = s.can := by
  unfold State.cutFiring; dsimp only; (repeat' split) <;> simp_all

end Sys2Proof.Machine
end

