-- ==== Sys2Proof/Laws/FrameReset.lean ====
section
/-! SUPPORT. What the operations of Machine/Reset.lean leave alone: one lemma per operation, the conjunction of
every field of State that it keeps. -/

set_option Elab.async false

open Sys2Proof Sys2Proof.Machine

namespace Sys2Proof.Machine

@[simp] theorem State.bootRecords_keeps (s : State) :
    (State.bootRecords s).pending = s.pending ∧ (State.bootRecords s).free = s.free ∧
    (State.bootRecords s).time = s.time ∧ (State.bootRecords s).dev = s.dev ∧ (State.bootRecords s).pwr = s.pwr ∧
    (State.bootRecords s).host = s.host ∧ (State.bootRecords s).cfg = s.cfg ∧ (State.bootRecords s).acts = s.acts ∧
    (State.bootRecords s).cnt = s.cnt ∧ (State.bootRecords s).valves = s.valves ∧
    (State.bootRecords s).tiles = s.tiles ∧ (State.bootRecords s).planner = s.planner ∧
    (State.bootRecords s).nav = s.nav ∧ (State.bootRecords s).loops = s.loops ∧
    (State.bootRecords s).field = s.field ∧ (State.bootRecords s).can = s.can := by
  simp [State.bootRecords]

@[simp] theorem State.useSlot_keeps (s : State) (n : Nat) (v : CfgVals) :
    (State.useSlot s n v).pending = s.pending ∧ (State.useSlot s n v).free = s.free ∧
    (State.useSlot s n v).time = s.time ∧ (State.useSlot s n v).dev = s.dev ∧ (State.useSlot s n v).pwr = s.pwr ∧
    (State.useSlot s n v).sag = s.sag ∧ (State.useSlot s n v).host = s.host ∧
    (State.useSlot s n v).flash = s.flash ∧ (State.useSlot s n v).acts = s.acts ∧
    (State.useSlot s n v).cnt = s.cnt ∧ (State.useSlot s n v).valves = s.valves ∧
    (State.useSlot s n v).tiles = s.tiles ∧ (State.useSlot s n v).planner = s.planner ∧
    (State.useSlot s n v).nav = s.nav ∧ (State.useSlot s n v).loops = s.loops ∧
    (State.useSlot s n v).field = s.field ∧ (State.useSlot s n v).can = s.can := by
  simp [State.useSlot]

@[simp] theorem State.imageFailed_keeps (s : State) (n fall : Nat) (prevBad : Bool) :
    (State.imageFailed s n fall prevBad).pending = s.pending ∧ (State.imageFailed s n fall prevBad).free = s.free ∧
    (State.imageFailed s n fall prevBad).time = s.time ∧ (State.imageFailed s n fall prevBad).pwr = s.pwr ∧
    (State.imageFailed s n fall prevBad).sag = s.sag ∧ (State.imageFailed s n fall prevBad).acts = s.acts ∧
    (State.imageFailed s n fall prevBad).valves = s.valves ∧ (State.imageFailed s n fall prevBad).tiles = s.tiles ∧
    (State.imageFailed s n fall prevBad).planner = s.planner ∧ (State.imageFailed s n fall prevBad).nav = s.nav ∧
    (State.imageFailed s n fall prevBad).loops = s.loops ∧ (State.imageFailed s n fall prevBad).field = s.field ∧
    (State.imageFailed s n fall prevBad).can = s.can := by
  simp [State.imageFailed]

@[simp] theorem State.bootImage_keeps (s : State) (reads : List Bool) :
    (State.bootImage s reads).pending = s.pending ∧ (State.bootImage s reads).free = s.free ∧
    (State.bootImage s reads).time = s.time ∧ (State.bootImage s reads).pwr = s.pwr ∧
    (State.bootImage s reads).sag = s.sag ∧ (State.bootImage s reads).acts = s.acts ∧
    (State.bootImage s reads).valves = s.valves ∧ (State.bootImage s reads).tiles = s.tiles ∧
    (State.bootImage s reads).planner = s.planner ∧ (State.bootImage s reads).nav = s.nav ∧
    (State.bootImage s reads).loops = s.loops ∧ (State.bootImage s reads).field = s.field ∧
    (State.bootImage s reads).can = s.can := by
  unfold State.bootImage; dsimp only; (repeat' split) <;> simp_all

@[simp] theorem State.bootCharge_keeps (s : State) (b : BootObs) :
    (State.bootCharge s b).pending = s.pending ∧ (State.bootCharge s b).free = s.free ∧
    (State.bootCharge s b).time = s.time ∧ (State.bootCharge s b).dev = s.dev ∧ (State.bootCharge s b).sag = s.sag ∧
    (State.bootCharge s b).cfg = s.cfg ∧ (State.bootCharge s b).acts = s.acts ∧
    (State.bootCharge s b).tiles = s.tiles ∧ (State.bootCharge s b).planner = s.planner ∧
    (State.bootCharge s b).nav = s.nav ∧ (State.bootCharge s b).loops = s.loops ∧
    (State.bootCharge s b).field = s.field ∧ (State.bootCharge s b).can = s.can := by
  simp [State.bootCharge]

@[simp] theorem State.bootConfigure_keeps (s : State) :
    (State.bootConfigure s).pending = s.pending ∧ (State.bootConfigure s).pwr = s.pwr ∧
    (State.bootConfigure s).cfg = s.cfg ∧ (State.bootConfigure s).flash = s.flash ∧
    (State.bootConfigure s).acts = s.acts ∧ (State.bootConfigure s).tiles = s.tiles ∧
    (State.bootConfigure s).planner = s.planner := by
  simp [State.bootConfigure]

@[simp] theorem State.safenFault_keeps (s : State) :
    (State.safenFault s).pending = s.pending ∧ (State.safenFault s).time = s.time ∧
    (State.safenFault s).pwr = s.pwr ∧ (State.safenFault s).cfg = s.cfg ∧ (State.safenFault s).tiles = s.tiles ∧
    (State.safenFault s).nav = s.nav := by
  simp [State.safenFault]

end Sys2Proof.Machine
end

