-- ==== Sys2Proof/Laws/FrameTap.lean ====
section
/-! SUPPORT. What the operations of Machine/Tap.lean leave alone: one lemma per operation, the conjunction of
every field of State that it keeps. -/

set_option Elab.async false

open Sys2Proof Sys2Proof.Machine

namespace Sys2Proof.Machine

@[simp] theorem State.tapCapture_keeps (s : State) :
    (State.tapCapture s).2.pending = s.pending ∧ (State.tapCapture s).2.time = s.time ∧
    (State.tapCapture s).2.dev = s.dev ∧ (State.tapCapture s).2.pwr = s.pwr ∧ (State.tapCapture s).2.sag = s.sag ∧
    (State.tapCapture s).2.host = s.host ∧ (State.tapCapture s).2.cfg = s.cfg ∧
    (State.tapCapture s).2.flash = s.flash ∧ (State.tapCapture s).2.acts = s.acts ∧
    (State.tapCapture s).2.cnt = s.cnt ∧ (State.tapCapture s).2.tiles = s.tiles ∧
    (State.tapCapture s).2.planner = s.planner ∧ (State.tapCapture s).2.nav = s.nav ∧
    (State.tapCapture s).2.loops = s.loops ∧ (State.tapCapture s).2.field = s.field ∧
    (State.tapCapture s).2.can = s.can := by
  unfold State.tapCapture; dsimp only; (repeat' split) <;> simp_all

@[simp] theorem State.updTap_keeps (s : State) (f : Tap → Tap) :
    (State.updTap s f).pending = s.pending ∧ (State.updTap s f).free = s.free ∧ (State.updTap s f).time = s.time ∧
    (State.updTap s f).pwr = s.pwr ∧ (State.updTap s f).sag = s.sag ∧ (State.updTap s f).host = s.host ∧
    (State.updTap s f).cfg = s.cfg ∧ (State.updTap s f).flash = s.flash ∧ (State.updTap s f).acts = s.acts ∧
    (State.updTap s f).cnt = s.cnt ∧ (State.updTap s f).valves = s.valves ∧ (State.updTap s f).tiles = s.tiles ∧
    (State.updTap s f).planner = s.planner ∧ (State.updTap s f).nav = s.nav ∧ (State.updTap s f).loops = s.loops ∧
    (State.updTap s f).field = s.field ∧ (State.updTap s f).can = s.can := by
  exact ⟨rfl, rfl, rfl, rfl, rfl, rfl, rfl, rfl, rfl, rfl, rfl, rfl, rfl, rfl, rfl, rfl, rfl⟩

@[simp] theorem State.tapAct_keeps (s : State) (tdi : Bool) :
    (State.tapAct s tdi).pending = s.pending ∧ (State.tapAct s tdi).time = s.time ∧
    (State.tapAct s tdi).pwr = s.pwr ∧ (State.tapAct s tdi).sag = s.sag ∧ (State.tapAct s tdi).host = s.host ∧
    (State.tapAct s tdi).cfg = s.cfg ∧ (State.tapAct s tdi).flash = s.flash ∧ (State.tapAct s tdi).acts = s.acts ∧
    (State.tapAct s tdi).cnt = s.cnt ∧ (State.tapAct s tdi).tiles = s.tiles ∧
    (State.tapAct s tdi).planner = s.planner ∧ (State.tapAct s tdi).nav = s.nav ∧
    (State.tapAct s tdi).loops = s.loops ∧ (State.tapAct s tdi).field = s.field ∧
    (State.tapAct s tdi).can = s.can := by
  unfold State.tapAct; dsimp only; (repeat' split) <;> simp_all

@[simp] theorem State.tck_keeps (s : State) (tms tdi : Bool) :
    (State.tck s tms tdi).pending = s.pending ∧ (State.tck s tms tdi).time = s.time ∧
    (State.tck s tms tdi).pwr = s.pwr ∧ (State.tck s tms tdi).sag = s.sag ∧ (State.tck s tms tdi).host = s.host ∧
    (State.tck s tms tdi).cfg = s.cfg ∧ (State.tck s tms tdi).flash = s.flash ∧
    (State.tck s tms tdi).acts = s.acts ∧ (State.tck s tms tdi).cnt = s.cnt ∧
    (State.tck s tms tdi).tiles = s.tiles ∧ (State.tck s tms tdi).planner = s.planner ∧
    (State.tck s tms tdi).nav = s.nav ∧ (State.tck s tms tdi).loops = s.loops ∧
    (State.tck s tms tdi).field = s.field ∧ (State.tck s tms tdi).can = s.can := by
  simp [State.tck]

@[simp] theorem State.trstnTo_keeps (s : State) (high : Bool) :
    (State.trstnTo s high).pending = s.pending ∧ (State.trstnTo s high).free = s.free ∧
    (State.trstnTo s high).time = s.time ∧ (State.trstnTo s high).pwr = s.pwr ∧ (State.trstnTo s high).sag = s.sag ∧
    (State.trstnTo s high).host = s.host ∧ (State.trstnTo s high).cfg = s.cfg ∧
    (State.trstnTo s high).flash = s.flash ∧ (State.trstnTo s high).acts = s.acts ∧
    (State.trstnTo s high).cnt = s.cnt ∧ (State.trstnTo s high).valves = s.valves ∧
    (State.trstnTo s high).tiles = s.tiles ∧ (State.trstnTo s high).planner = s.planner ∧
    (State.trstnTo s high).nav = s.nav ∧ (State.trstnTo s high).loops = s.loops ∧
    (State.trstnTo s high).field = s.field ∧ (State.trstnTo s high).can = s.can := by
  simp [State.trstnTo]

end Sys2Proof.Machine
end

