-- ==== Sys2Proof/Laws/FrameSupply.lean ====
section
/-! SUPPORT. What the operations of Machine/Supply.lean leave alone: one lemma per operation, the conjunction of
every field of State that it keeps. -/

set_option Elab.async false

open Sys2Proof Sys2Proof.Machine

namespace Sys2Proof.Machine

@[simp] theorem State.linkLost_keeps (s : State) (det : Nat) :
    (State.linkLost s det).pending = s.pending ∧ (State.linkLost s det).time = s.time ∧
    (State.linkLost s det).pwr = s.pwr ∧ (State.linkLost s det).cfg = s.cfg ∧
    (State.linkLost s det).tiles = s.tiles ∧ (State.linkLost s det).nav = s.nav := by
  simp [State.linkLost]

@[simp] theorem State.safenSeen_keeps (s : State) (lane : Nat) :
    (State.safenSeen s lane).pending = s.pending ∧ (State.safenSeen s lane).time = s.time ∧
    (State.safenSeen s lane).pwr = s.pwr ∧ (State.safenSeen s lane).cfg = s.cfg ∧
    (State.safenSeen s lane).tiles = s.tiles ∧ (State.safenSeen s lane).nav = s.nav := by
  simp [State.safenSeen]

@[simp] theorem State.supplyEvt_keeps (s : State) (kind mv : Nat) :
    (State.supplyEvt s kind mv).pending = s.pending ∧ (State.supplyEvt s kind mv).free = s.free ∧
    (State.supplyEvt s kind mv).time = s.time ∧ (State.supplyEvt s kind mv).dev = s.dev ∧
    (State.supplyEvt s kind mv).pwr = s.pwr ∧ (State.supplyEvt s kind mv).sag = s.sag ∧
    (State.supplyEvt s kind mv).cfg = s.cfg ∧ (State.supplyEvt s kind mv).flash = s.flash ∧
    (State.supplyEvt s kind mv).acts = s.acts ∧ (State.supplyEvt s kind mv).valves = s.valves ∧
    (State.supplyEvt s kind mv).tiles = s.tiles ∧ (State.supplyEvt s kind mv).planner = s.planner ∧
    (State.supplyEvt s kind mv).nav = s.nav ∧ (State.supplyEvt s kind mv).loops = s.loops ∧
    (State.supplyEvt s kind mv).field = s.field ∧ (State.supplyEvt s kind mv).can = s.can := by
  simp [State.supplyEvt]

@[simp] theorem State.supplyClears_keeps (s : State) :
    (State.supplyClears s).pending = s.pending ∧ (State.supplyClears s).free = s.free ∧
    (State.supplyClears s).time = s.time ∧ (State.supplyClears s).dev = s.dev ∧ (State.supplyClears s).pwr = s.pwr ∧
    (State.supplyClears s).host = s.host ∧ (State.supplyClears s).cfg = s.cfg ∧
    (State.supplyClears s).flash = s.flash ∧ (State.supplyClears s).acts = s.acts ∧
    (State.supplyClears s).cnt = s.cnt ∧ (State.supplyClears s).valves = s.valves ∧
    (State.supplyClears s).tiles = s.tiles ∧ (State.supplyClears s).planner = s.planner ∧
    (State.supplyClears s).nav = s.nav ∧ (State.supplyClears s).loops = s.loops ∧
    (State.supplyClears s).field = s.field ∧ (State.supplyClears s).can = s.can := by
  simp [State.supplyClears]

@[simp] theorem State.readVbat_keeps (s : State) (mv : Nat) :
    (State.readVbat s mv).pending = s.pending ∧ (State.readVbat s mv).free = s.free ∧
    (State.readVbat s mv).time = s.time ∧ (State.readVbat s mv).dev = s.dev ∧ (State.readVbat s mv).sag = s.sag ∧
    (State.readVbat s mv).host = s.host ∧ (State.readVbat s mv).cfg = s.cfg ∧
    (State.readVbat s mv).flash = s.flash ∧ (State.readVbat s mv).acts = s.acts ∧
    (State.readVbat s mv).cnt = s.cnt ∧ (State.readVbat s mv).valves = s.valves ∧
    (State.readVbat s mv).tiles = s.tiles ∧ (State.readVbat s mv).planner = s.planner ∧
    (State.readVbat s mv).nav = s.nav ∧ (State.readVbat s mv).loops = s.loops ∧
    (State.readVbat s mv).field = s.field ∧ (State.readVbat s mv).can = s.can := by
  simp [State.readVbat]

@[simp] theorem State.restart_keeps (s : State) :
    (State.restart s).pending = s.pending ∧ (State.restart s).free = s.free ∧ (State.restart s).time = s.time ∧
    (State.restart s).dev = s.dev ∧ (State.restart s).sag = s.sag ∧ (State.restart s).cfg = s.cfg ∧
    (State.restart s).flash = s.flash ∧ (State.restart s).acts = s.acts ∧ (State.restart s).valves = s.valves ∧
    (State.restart s).tiles = s.tiles ∧ (State.restart s).planner = s.planner ∧ (State.restart s).nav = s.nav ∧
    (State.restart s).loops = s.loops ∧ (State.restart s).can = s.can := by
  simp [State.restart]

@[simp] theorem State.shedLoads_keeps (s : State) :
    (State.shedLoads s).pending = s.pending ∧ (State.shedLoads s).free = s.free ∧
    (State.shedLoads s).time = s.time ∧ (State.shedLoads s).dev = s.dev ∧ (State.shedLoads s).sag = s.sag ∧
    (State.shedLoads s).cfg = s.cfg ∧ (State.shedLoads s).flash = s.flash ∧ (State.shedLoads s).acts = s.acts ∧
    (State.shedLoads s).valves = s.valves ∧ (State.shedLoads s).tiles = s.tiles ∧
    (State.shedLoads s).planner = s.planner ∧ (State.shedLoads s).loops = s.loops ∧
    (State.shedLoads s).can = s.can := by
  simp [State.shedLoads]

@[simp] theorem State.suspendCh_keeps (s : State) (ch : Nat) :
    (State.suspendCh s ch).pending = s.pending ∧ (State.suspendCh s ch).free = s.free ∧
    (State.suspendCh s ch).time = s.time ∧ (State.suspendCh s ch).dev = s.dev ∧ (State.suspendCh s ch).pwr = s.pwr ∧
    (State.suspendCh s ch).sag = s.sag ∧ (State.suspendCh s ch).cfg = s.cfg ∧
    (State.suspendCh s ch).flash = s.flash ∧ (State.suspendCh s ch).tiles = s.tiles ∧
    (State.suspendCh s ch).planner = s.planner ∧ (State.suspendCh s ch).nav = s.nav ∧
    (State.suspendCh s ch).loops = s.loops ∧ (State.suspendCh s ch).field = s.field ∧
    (State.suspendCh s ch).can = s.can := by
  simp [State.suspendCh]

@[simp] theorem State.suspend_keeps (s : State) (q : Nat) :
    (State.suspend s q).pending = s.pending ∧ (State.suspend s q).free = s.free ∧
    (State.suspend s q).time = s.time ∧ (State.suspend s q).dev = s.dev ∧ (State.suspend s q).sag = s.sag ∧
    (State.suspend s q).cfg = s.cfg ∧ (State.suspend s q).flash = s.flash ∧ (State.suspend s q).tiles = s.tiles ∧
    (State.suspend s q).planner = s.planner ∧ (State.suspend s q).nav = s.nav ∧
    (State.suspend s q).loops = s.loops ∧ (State.suspend s q).field = s.field ∧
    (State.suspend s q).can = s.can := by
  simp [State.suspend]

@[simp] theorem State.resume_keeps (s : State) (q : Nat) :
    (State.resume s q).pending = s.pending ∧ (State.resume s q).free = s.free ∧ (State.resume s q).time = s.time ∧
    (State.resume s q).dev = s.dev ∧ (State.resume s q).sag = s.sag ∧ (State.resume s q).cfg = s.cfg ∧
    (State.resume s q).flash = s.flash ∧ (State.resume s q).tiles = s.tiles ∧
    (State.resume s q).planner = s.planner ∧ (State.resume s q).nav = s.nav ∧ (State.resume s q).loops = s.loops ∧
    (State.resume s q).field = s.field ∧ (State.resume s q).can = s.can := by
  simp [State.resume]

@[simp] theorem State.vioEvt_keeps (s : State) (kind mv : Nat) :
    (State.vioEvt s kind mv).pending = s.pending ∧ (State.vioEvt s kind mv).free = s.free ∧
    (State.vioEvt s kind mv).time = s.time ∧ (State.vioEvt s kind mv).dev = s.dev ∧
    (State.vioEvt s kind mv).pwr = s.pwr ∧ (State.vioEvt s kind mv).sag = s.sag ∧
    (State.vioEvt s kind mv).cfg = s.cfg ∧ (State.vioEvt s kind mv).flash = s.flash ∧
    (State.vioEvt s kind mv).acts = s.acts ∧ (State.vioEvt s kind mv).valves = s.valves ∧
    (State.vioEvt s kind mv).tiles = s.tiles ∧ (State.vioEvt s kind mv).planner = s.planner ∧
    (State.vioEvt s kind mv).nav = s.nav ∧ (State.vioEvt s kind mv).loops = s.loops ∧
    (State.vioEvt s kind mv).field = s.field ∧ (State.vioEvt s kind mv).can = s.can := by
  simp [State.vioEvt]

@[simp] theorem State.safenFree_keeps (s : State) :
    (State.safenFree s).pending = s.pending ∧ (State.safenFree s).free = s.free ∧
    (State.safenFree s).time = s.time ∧ (State.safenFree s).dev = s.dev ∧ (State.safenFree s).pwr = s.pwr ∧
    (State.safenFree s).sag = s.sag ∧ (State.safenFree s).cfg = s.cfg ∧ (State.safenFree s).flash = s.flash ∧
    (State.safenFree s).acts = s.acts ∧ (State.safenFree s).valves = s.valves ∧
    (State.safenFree s).tiles = s.tiles ∧ (State.safenFree s).planner = s.planner ∧
    (State.safenFree s).nav = s.nav ∧ (State.safenFree s).loops = s.loops ∧ (State.safenFree s).field = s.field ∧
    (State.safenFree s).can = s.can := by
  simp [State.safenFree]

end Sys2Proof.Machine
end

