-- ==== Sys2Proof/Laws/FrameClock.lean ====
section
/-! SUPPORT. What the operations of Machine/Clock.lean leave alone: one lemma per operation, the conjunction of
every field of State that it keeps. -/

set_option Elab.async false

open Sys2Proof Sys2Proof.Machine

namespace Sys2Proof.Machine

@[simp] theorem State.clockFault_keeps (s : State) (lane : Nat) :
    (State.clockFault s lane).pending = s.pending ∧ (State.clockFault s lane).time = s.time ∧
    (State.clockFault s lane).pwr = s.pwr ∧ (State.clockFault s lane).cfg = s.cfg ∧
    (State.clockFault s lane).tiles = s.tiles ∧ (State.clockFault s lane).nav = s.nav := by
  simp [State.clockFault]

@[simp] theorem State.refLost_keeps (s : State) :
    (State.refLost s).pending = s.pending ∧ (State.refLost s).time = s.time ∧ (State.refLost s).pwr = s.pwr ∧
    (State.refLost s).cfg = s.cfg ∧ (State.refLost s).tiles = s.tiles ∧ (State.refLost s).nav = s.nav := by
  simp [State.refLost]

@[simp] theorem State.mtStops_keeps (s : State) (isl : Island) :
    (State.mtStops s isl).pending = s.pending ∧ (State.mtStops s isl).free = s.free ∧
    (State.mtStops s isl).dev = s.dev ∧ (State.mtStops s isl).pwr = s.pwr ∧ (State.mtStops s isl).sag = s.sag ∧
    (State.mtStops s isl).host = s.host ∧ (State.mtStops s isl).cfg = s.cfg ∧
    (State.mtStops s isl).flash = s.flash ∧ (State.mtStops s isl).acts = s.acts ∧
    (State.mtStops s isl).cnt = s.cnt ∧ (State.mtStops s isl).valves = s.valves ∧
    (State.mtStops s isl).tiles = s.tiles ∧ (State.mtStops s isl).planner = s.planner ∧
    (State.mtStops s isl).nav = s.nav ∧ (State.mtStops s isl).loops = s.loops ∧
    (State.mtStops s isl).field = s.field ∧ (State.mtStops s isl).can = s.can := by
  simp [State.mtStops]

@[simp] theorem State.timeMark_keeps (s : State) (diffs : List Int) :
    (State.timeMark s diffs).pending = s.pending ∧ (State.timeMark s diffs).pwr = s.pwr ∧
    (State.timeMark s diffs).cfg = s.cfg ∧ (State.timeMark s diffs).tiles = s.tiles ∧
    (State.timeMark s diffs).nav = s.nav := by
  simp [State.timeMark]

end Sys2Proof.Machine
end

