-- ==== Sys2Proof/Laws/FrameSaggar.lean ====
section
/-! SUPPORT. What the operations of Machine/Saggar.lean leave alone: one lemma per operation, the conjunction of
every field of State that it keeps. -/

set_option Elab.async false

open Sys2Proof Sys2Proof.Machine

namespace Sys2Proof.Machine

@[simp] theorem State.safenTaken_keeps (s : State) (lane : Nat) :
    (State.safenTaken s lane).pending = s.pending ∧ (State.safenTaken s lane).time = s.time ∧
    (State.safenTaken s lane).pwr = s.pwr ∧ (State.safenTaken s lane).cfg = s.cfg ∧
    (State.safenTaken s lane).tiles = s.tiles ∧ (State.safenTaken s lane).nav = s.nav := by
  simp [State.safenTaken]

@[simp] theorem State.takeLimits_keeps (s : State) :
    (State.takeLimits s).pending = s.pending ∧ (State.takeLimits s).free = s.free ∧
    (State.takeLimits s).time = s.time ∧ (State.takeLimits s).dev = s.dev ∧ (State.takeLimits s).pwr = s.pwr ∧
    (State.takeLimits s).host = s.host ∧ (State.takeLimits s).cfg = s.cfg ∧ (State.takeLimits s).flash = s.flash ∧
    (State.takeLimits s).acts = s.acts ∧ (State.takeLimits s).cnt = s.cnt ∧ (State.takeLimits s).valves = s.valves ∧
    (State.takeLimits s).tiles = s.tiles ∧ (State.takeLimits s).planner = s.planner ∧
    (State.takeLimits s).nav = s.nav ∧ (State.takeLimits s).loops = s.loops ∧ (State.takeLimits s).field = s.field ∧
    (State.takeLimits s).can = s.can := by
  unfold State.takeLimits; (repeat' split) <;> simp

@[simp] theorem State.currentClasses_keeps (s : State) :
    (State.currentClasses s).pending = s.pending ∧ (State.currentClasses s).free = s.free ∧
    (State.currentClasses s).time = s.time ∧ (State.currentClasses s).dev = s.dev ∧
    (State.currentClasses s).pwr = s.pwr ∧ (State.currentClasses s).cfg = s.cfg ∧
    (State.currentClasses s).flash = s.flash ∧ (State.currentClasses s).acts = s.acts ∧
    (State.currentClasses s).valves = s.valves ∧ (State.currentClasses s).tiles = s.tiles ∧
    (State.currentClasses s).planner = s.planner ∧ (State.currentClasses s).nav = s.nav ∧
    (State.currentClasses s).loops = s.loops ∧ (State.currentClasses s).field = s.field ∧
    (State.currentClasses s).can = s.can := by
  simp [State.currentClasses]

@[simp] theorem State.showLanes_keeps (s : State) :
    (State.showLanes s).pending = s.pending ∧ (State.showLanes s).free = s.free ∧
    (State.showLanes s).time = s.time ∧ (State.showLanes s).dev = s.dev ∧ (State.showLanes s).pwr = s.pwr ∧
    (State.showLanes s).cfg = s.cfg ∧ (State.showLanes s).flash = s.flash ∧ (State.showLanes s).acts = s.acts ∧
    (State.showLanes s).valves = s.valves ∧ (State.showLanes s).tiles = s.tiles ∧
    (State.showLanes s).planner = s.planner ∧ (State.showLanes s).nav = s.nav ∧
    (State.showLanes s).loops = s.loops ∧ (State.showLanes s).field = s.field ∧
    (State.showLanes s).can = s.can := by
  simp [State.showLanes]

@[simp] theorem State.pathTest_keeps (s : State) (missing : List (Nat × Island)) :
    (State.pathTest s missing).pending = s.pending ∧ (State.pathTest s missing).time = s.time ∧
    (State.pathTest s missing).pwr = s.pwr ∧ (State.pathTest s missing).cfg = s.cfg ∧
    (State.pathTest s missing).tiles = s.tiles ∧ (State.pathTest s missing).nav = s.nav := by
  simp [State.pathTest]

@[simp] theorem State.envelope_keeps (s : State) (c : EnvCheck) (lane : Nat) :
    (State.envelope s c lane).pending = s.pending ∧ (State.envelope s c lane).time = s.time ∧
    (State.envelope s c lane).pwr = s.pwr ∧ (State.envelope s c lane).cfg = s.cfg ∧
    (State.envelope s c lane).tiles = s.tiles ∧ (State.envelope s c lane).nav = s.nav := by
  unfold State.envelope; (repeat' split) <;> simp

@[simp] theorem State.slotLost_keeps (s : State) (n : Nat) :
    (State.slotLost s n).pending = s.pending ∧ (State.slotLost s n).free = s.free ∧
    (State.slotLost s n).time = s.time ∧ (State.slotLost s n).dev = s.dev ∧ (State.slotLost s n).pwr = s.pwr ∧
    (State.slotLost s n).sag = s.sag ∧ (State.slotLost s n).cfg = s.cfg ∧ (State.slotLost s n).flash = s.flash ∧
    (State.slotLost s n).acts = s.acts ∧ (State.slotLost s n).planner = s.planner ∧
    (State.slotLost s n).nav = s.nav ∧ (State.slotLost s n).loops = s.loops ∧ (State.slotLost s n).field = s.field ∧
    (State.slotLost s n).can = s.can := by
  unfold State.slotLost; (repeat' split) <;> simp

@[simp] theorem State.flashBad_keeps (s : State) (p : FlashPart) :
    (State.flashBad s p).pending = s.pending ∧ (State.flashBad s p).time = s.time ∧
    (State.flashBad s p).pwr = s.pwr ∧ (State.flashBad s p).tiles = s.tiles ∧
    (State.flashBad s p).nav = s.nav := by
  unfold State.flashBad; (repeat' split) <;> simp

@[simp] theorem State.forgetCause_keeps (s : State) (c : FCause) :
    (State.forgetCause s c).pending = s.pending ∧ (State.forgetCause s c).free = s.free ∧
    (State.forgetCause s c).time = s.time ∧ (State.forgetCause s c).dev = s.dev ∧
    (State.forgetCause s c).host = s.host ∧ (State.forgetCause s c).cfg = s.cfg ∧
    (State.forgetCause s c).flash = s.flash ∧ (State.forgetCause s c).acts = s.acts ∧
    (State.forgetCause s c).cnt = s.cnt ∧ (State.forgetCause s c).valves = s.valves ∧
    (State.forgetCause s c).tiles = s.tiles ∧ (State.forgetCause s c).planner = s.planner ∧
    (State.forgetCause s c).nav = s.nav ∧ (State.forgetCause s c).loops = s.loops ∧
    (State.forgetCause s c).field = s.field ∧ (State.forgetCause s c).can = s.can := by
  simp [State.forgetCause]

@[simp] theorem State.clockCompare_keeps (s : State) (x : CrossObs) :
    (State.clockCompare s x).pending = s.pending ∧ (State.clockCompare s x).time = s.time ∧
    (State.clockCompare s x).pwr = s.pwr ∧ (State.clockCompare s x).cfg = s.cfg ∧
    (State.clockCompare s x).tiles = s.tiles ∧ (State.clockCompare s x).nav = s.nav := by
  unfold State.clockCompare; dsimp only
  generalize List.idxOf? 2 _ = o
  cases o <;> simp

@[simp] theorem State.crossCheck_keeps (s : State) (x : CrossObs) :
    (State.crossCheck s x).pending = s.pending ∧ (State.crossCheck s x).time = s.time ∧
    (State.crossCheck s x).pwr = s.pwr ∧ (State.crossCheck s x).cfg = s.cfg ∧
    (State.crossCheck s x).tiles = s.tiles ∧ (State.crossCheck s x).nav = s.nav := by
  simp [State.crossCheck]

end Sys2Proof.Machine
end

