-- ==== Sys2Proof/Laws/FrameRegs.lean ====
section
/-! SUPPORT. What the operations of Machine/Regs.lean leave alone: one lemma per operation, the conjunction of
every field of State that it keeps. -/

set_option Elab.async false

open Sys2Proof Sys2Proof.Machine

namespace Sys2Proof.Machine

@[simp] theorem State.setRegLocked_keeps (s : State) :
    (State.setRegLocked s).pending = s.pending ∧ (State.setRegLocked s).free = s.free ∧
    (State.setRegLocked s).time = s.time ∧ (State.setRegLocked s).dev = s.dev ∧ (State.setRegLocked s).pwr = s.pwr ∧
    (State.setRegLocked s).sag = s.sag ∧ (State.setRegLocked s).cfg = s.cfg ∧
    (State.setRegLocked s).flash = s.flash ∧ (State.setRegLocked s).acts = s.acts ∧
    (State.setRegLocked s).cnt = s.cnt ∧ (State.setRegLocked s).valves = s.valves ∧
    (State.setRegLocked s).tiles = s.tiles ∧ (State.setRegLocked s).planner = s.planner ∧
    (State.setRegLocked s).nav = s.nav ∧ (State.setRegLocked s).loops = s.loops ∧
    (State.setRegLocked s).field = s.field ∧ (State.setRegLocked s).can = s.can := by
  simp [State.setRegLocked]

@[simp] theorem State.ringStarts_keeps (s : State) (n : Nat) :
    (State.ringStarts s n).pending = s.pending ∧ (State.ringStarts s n).free = s.free ∧
    (State.ringStarts s n).time = s.time ∧ (State.ringStarts s n).dev = s.dev ∧ (State.ringStarts s n).pwr = s.pwr ∧
    (State.ringStarts s n).sag = s.sag ∧ (State.ringStarts s n).cfg = s.cfg ∧
    (State.ringStarts s n).flash = s.flash ∧ (State.ringStarts s n).acts = s.acts ∧
    (State.ringStarts s n).planner = s.planner ∧ (State.ringStarts s n).nav = s.nav ∧
    (State.ringStarts s n).loops = s.loops ∧ (State.ringStarts s n).field = s.field ∧
    (State.ringStarts s n).can = s.can := by
  simp [State.ringStarts]

@[simp] theorem State.ringControl_keeps (s : State) (n : Nat) (v : Word) :
    (State.ringControl s n v).pending = s.pending ∧ (State.ringControl s n v).free = s.free ∧
    (State.ringControl s n v).time = s.time ∧ (State.ringControl s n v).dev = s.dev ∧
    (State.ringControl s n v).pwr = s.pwr ∧ (State.ringControl s n v).sag = s.sag ∧
    (State.ringControl s n v).cfg = s.cfg ∧ (State.ringControl s n v).flash = s.flash ∧
    (State.ringControl s n v).acts = s.acts ∧ (State.ringControl s n v).planner = s.planner ∧
    (State.ringControl s n v).nav = s.nav ∧ (State.ringControl s n v).loops = s.loops ∧
    (State.ringControl s n v).field = s.field := by
  simp [State.ringControl]

@[simp] theorem State.setHbTimeout_keeps (s : State) (v : Nat) :
    (State.setHbTimeout s v).pending = s.pending ∧ (State.setHbTimeout s v).time = s.time ∧
    (State.setHbTimeout s v).pwr = s.pwr ∧ (State.setHbTimeout s v).cfg = s.cfg ∧
    (State.setHbTimeout s v).tiles = s.tiles ∧ (State.setHbTimeout s v).nav = s.nav := by
  simp [State.setHbTimeout]

@[simp] theorem State.setPoll_keeps (s : State) (v : Nat) :
    (State.setPoll s v).pending = s.pending ∧ (State.setPoll s v).free = s.free ∧
    (State.setPoll s v).time = s.time ∧ (State.setPoll s v).dev = s.dev ∧ (State.setPoll s v).pwr = s.pwr ∧
    (State.setPoll s v).sag = s.sag ∧ (State.setPoll s v).cfg = s.cfg ∧ (State.setPoll s v).flash = s.flash ∧
    (State.setPoll s v).acts = s.acts ∧ (State.setPoll s v).cnt = s.cnt ∧ (State.setPoll s v).valves = s.valves ∧
    (State.setPoll s v).tiles = s.tiles ∧ (State.setPoll s v).planner = s.planner ∧
    (State.setPoll s v).nav = s.nav ∧ (State.setPoll s v).loops = s.loops ∧ (State.setPoll s v).field = s.field ∧
    (State.setPoll s v).can = s.can := by
  simp [State.setPoll]

@[simp] theorem State.clearHiErr_keeps (s : State) (v : Word) :
    (State.clearHiErr s v).pending = s.pending ∧ (State.clearHiErr s v).free = s.free ∧
    (State.clearHiErr s v).time = s.time ∧ (State.clearHiErr s v).dev = s.dev ∧ (State.clearHiErr s v).pwr = s.pwr ∧
    (State.clearHiErr s v).sag = s.sag ∧ (State.clearHiErr s v).cfg = s.cfg ∧
    (State.clearHiErr s v).flash = s.flash ∧ (State.clearHiErr s v).acts = s.acts ∧
    (State.clearHiErr s v).cnt = s.cnt ∧ (State.clearHiErr s v).valves = s.valves ∧
    (State.clearHiErr s v).tiles = s.tiles ∧ (State.clearHiErr s v).planner = s.planner ∧
    (State.clearHiErr s v).nav = s.nav ∧ (State.clearHiErr s v).loops = s.loops ∧
    (State.clearHiErr s v).field = s.field ∧ (State.clearHiErr s v).can = s.can := by
  simp [State.clearHiErr]

end Sys2Proof.Machine
end

