-- ==== Sys2Proof/Laws/FrameHostLink.lean ====
section
/-! SUPPORT. What the operations of Machine/HostLink.lean leave alone: one lemma per operation, the conjunction of
every field of State that it keeps. -/

set_option Elab.async false

open Sys2Proof Sys2Proof.Machine

namespace Sys2Proof.Machine

@[simp] theorem State.lost_keeps (s : State) (det : Nat) :
    (State.lost s det).pending = s.pending ∧ (State.lost s det).time = s.time ∧ (State.lost s det).pwr = s.pwr ∧
    (State.lost s det).cfg = s.cfg ∧ (State.lost s det).tiles = s.tiles ∧ (State.lost s det).nav = s.nav := by
  simp [State.lost]

@[simp] theorem State.sweepStarts_keeps (s : State) :
    (State.sweepStarts s).pending = s.pending ∧ (State.sweepStarts s).free = s.free ∧
    (State.sweepStarts s).time = s.time ∧ (State.sweepStarts s).dev = s.dev ∧ (State.sweepStarts s).pwr = s.pwr ∧
    (State.sweepStarts s).sag = s.sag ∧ (State.sweepStarts s).cfg = s.cfg ∧ (State.sweepStarts s).flash = s.flash ∧
    (State.sweepStarts s).acts = s.acts ∧ (State.sweepStarts s).valves = s.valves ∧
    (State.sweepStarts s).tiles = s.tiles ∧ (State.sweepStarts s).planner = s.planner ∧
    (State.sweepStarts s).nav = s.nav ∧ (State.sweepStarts s).loops = s.loops ∧
    (State.sweepStarts s).field = s.field ∧ (State.sweepStarts s).can = s.can := by
  simp [State.sweepStarts]

@[simp] theorem State.sweepEnds_keeps (s : State) :
    (State.sweepEnds s).pending = s.pending ∧ (State.sweepEnds s).free = s.free ∧
    (State.sweepEnds s).time = s.time ∧ (State.sweepEnds s).dev = s.dev ∧ (State.sweepEnds s).pwr = s.pwr ∧
    (State.sweepEnds s).sag = s.sag ∧ (State.sweepEnds s).cfg = s.cfg ∧ (State.sweepEnds s).flash = s.flash ∧
    (State.sweepEnds s).acts = s.acts ∧ (State.sweepEnds s).valves = s.valves ∧
    (State.sweepEnds s).tiles = s.tiles ∧ (State.sweepEnds s).planner = s.planner ∧
    (State.sweepEnds s).nav = s.nav ∧ (State.sweepEnds s).loops = s.loops ∧ (State.sweepEnds s).field = s.field ∧
    (State.sweepEnds s).can = s.can := by
  unfold State.sweepEnds; dsimp only; (repeat' split) <;> simp_all

@[simp] theorem State.doorbellFailed_keeps (s : State) :
    (State.doorbellFailed s).pending = s.pending ∧ (State.doorbellFailed s).time = s.time ∧
    (State.doorbellFailed s).pwr = s.pwr ∧ (State.doorbellFailed s).cfg = s.cfg ∧
    (State.doorbellFailed s).tiles = s.tiles ∧ (State.doorbellFailed s).nav = s.nav := by
  simp [State.doorbellFailed]

@[simp] theorem State.takeIndices_keeps (s : State) (idx : List Word) :
    (State.takeIndices s idx).pending = s.pending ∧ (State.takeIndices s idx).free = s.free ∧
    (State.takeIndices s idx).time = s.time ∧ (State.takeIndices s idx).dev = s.dev ∧
    (State.takeIndices s idx).pwr = s.pwr ∧ (State.takeIndices s idx).sag = s.sag ∧
    (State.takeIndices s idx).cfg = s.cfg ∧ (State.takeIndices s idx).flash = s.flash ∧
    (State.takeIndices s idx).acts = s.acts ∧ (State.takeIndices s idx).cnt = s.cnt ∧
    (State.takeIndices s idx).valves = s.valves ∧ (State.takeIndices s idx).tiles = s.tiles ∧
    (State.takeIndices s idx).planner = s.planner ∧ (State.takeIndices s idx).nav = s.nav ∧
    (State.takeIndices s idx).loops = s.loops ∧ (State.takeIndices s idx).field = s.field ∧
    (State.takeIndices s idx).can = s.can := by
  simp [State.takeIndices]

@[simp] theorem State.seeHeartbeat_keeps (s : State) (hb : Word) :
    (State.seeHeartbeat s hb).pending = s.pending ∧ (State.seeHeartbeat s hb).free = s.free ∧
    (State.seeHeartbeat s hb).time = s.time ∧ (State.seeHeartbeat s hb).dev = s.dev ∧
    (State.seeHeartbeat s hb).pwr = s.pwr ∧ (State.seeHeartbeat s hb).sag = s.sag ∧
    (State.seeHeartbeat s hb).cfg = s.cfg ∧ (State.seeHeartbeat s hb).flash = s.flash ∧
    (State.seeHeartbeat s hb).acts = s.acts ∧ (State.seeHeartbeat s hb).cnt = s.cnt ∧
    (State.seeHeartbeat s hb).valves = s.valves ∧ (State.seeHeartbeat s hb).tiles = s.tiles ∧
    (State.seeHeartbeat s hb).planner = s.planner ∧ (State.seeHeartbeat s hb).nav = s.nav ∧
    (State.seeHeartbeat s hb).loops = s.loops ∧ (State.seeHeartbeat s hb).field = s.field ∧
    (State.seeHeartbeat s hb).can = s.can := by
  simp [State.seeHeartbeat]

@[simp] theorem State.cplRoom_keeps (s : State) :
    (State.cplRoom s).pending = s.pending ∧ (State.cplRoom s).free = s.free ∧ (State.cplRoom s).time = s.time ∧
    (State.cplRoom s).dev = s.dev ∧ (State.cplRoom s).pwr = s.pwr ∧ (State.cplRoom s).sag = s.sag ∧
    (State.cplRoom s).cfg = s.cfg ∧ (State.cplRoom s).flash = s.flash ∧ (State.cplRoom s).acts = s.acts ∧
    (State.cplRoom s).valves = s.valves ∧ (State.cplRoom s).tiles = s.tiles ∧
    (State.cplRoom s).planner = s.planner ∧ (State.cplRoom s).nav = s.nav ∧ (State.cplRoom s).loops = s.loops ∧
    (State.cplRoom s).field = s.field ∧ (State.cplRoom s).can = s.can := by
  simp [State.cplRoom]

@[simp] theorem State.dropOld_keeps (s : State) :
    (State.dropOld s).pending = s.pending ∧ (State.dropOld s).free = s.free ∧ (State.dropOld s).time = s.time ∧
    (State.dropOld s).dev = s.dev ∧ (State.dropOld s).pwr = s.pwr ∧ (State.dropOld s).sag = s.sag ∧
    (State.dropOld s).cfg = s.cfg ∧ (State.dropOld s).flash = s.flash ∧ (State.dropOld s).acts = s.acts ∧
    (State.dropOld s).valves = s.valves ∧ (State.dropOld s).tiles = s.tiles ∧
    (State.dropOld s).planner = s.planner ∧ (State.dropOld s).nav = s.nav ∧ (State.dropOld s).loops = s.loops ∧
    (State.dropOld s).field = s.field ∧ (State.dropOld s).can = s.can := by
  simp [State.dropOld]

end Sys2Proof.Machine
end

