-- ==== Sys2Proof/Laws/FrameCmds.lean ====
section
/-! SUPPORT. What the operations of Machine/Cmds.lean leave alone: one lemma per operation, the conjunction of
every field of State that it keeps. -/

set_option Elab.async false

open Sys2Proof Sys2Proof.Machine

namespace Sys2Proof.Machine

@[simp] theorem State.takeUnknown_keeps (s : State) (op : Byte) (h : Hdr) :
    (State.takeUnknown s op h).pending = s.pending ∧ (State.takeUnknown s op h).free = s.free ∧
    (State.takeUnknown s op h).time = s.time ∧ (State.takeUnknown s op h).dev = s.dev ∧
    (State.takeUnknown s op h).pwr = s.pwr ∧ (State.takeUnknown s op h).sag = s.sag ∧
    (State.takeUnknown s op h).cfg = s.cfg ∧ (State.takeUnknown s op h).flash = s.flash ∧
    (State.takeUnknown s op h).acts = s.acts ∧ (State.takeUnknown s op h).valves = s.valves ∧
    (State.takeUnknown s op h).tiles = s.tiles ∧ (State.takeUnknown s op h).planner = s.planner ∧
    (State.takeUnknown s op h).nav = s.nav ∧ (State.takeUnknown s op h).loops = s.loops ∧
    (State.takeUnknown s op h).field = s.field ∧ (State.takeUnknown s op h).can = s.can := by
  simp [State.takeUnknown]

@[simp] theorem State.tellOrphan_keeps (s : State) :
    (State.tellOrphan s).pending = s.pending ∧ (State.tellOrphan s).free = s.free ∧
    (State.tellOrphan s).time = s.time ∧ (State.tellOrphan s).pwr = s.pwr ∧ (State.tellOrphan s).sag = s.sag ∧
    (State.tellOrphan s).cfg = s.cfg ∧ (State.tellOrphan s).flash = s.flash ∧ (State.tellOrphan s).acts = s.acts ∧
    (State.tellOrphan s).cnt = s.cnt ∧ (State.tellOrphan s).valves = s.valves ∧
    (State.tellOrphan s).tiles = s.tiles ∧ (State.tellOrphan s).planner = s.planner ∧
    (State.tellOrphan s).nav = s.nav ∧ (State.tellOrphan s).loops = s.loops ∧ (State.tellOrphan s).field = s.field ∧
    (State.tellOrphan s).can = s.can := by
  unfold State.tellOrphan; (repeat' split) <;> simp

@[simp] theorem State.bindHost_keeps (s : State) (resume : Bool) :
    (State.bindHost s resume).pending = s.pending ∧ (State.bindHost s resume).free = s.free ∧
    (State.bindHost s resume).time = s.time ∧ (State.bindHost s resume).sag = s.sag ∧
    (State.bindHost s resume).cfg = s.cfg ∧ (State.bindHost s resume).flash = s.flash ∧
    (State.bindHost s resume).planner = s.planner ∧ (State.bindHost s resume).nav = s.nav ∧
    (State.bindHost s resume).loops = s.loops ∧ (State.bindHost s resume).field = s.field ∧
    (State.bindHost s resume).can = s.can := by
  simp [State.bindHost]

@[simp] theorem State.setRun_keeps (s : State) (on : Bool) :
    (State.setRun s on).pending = s.pending ∧ (State.setRun s on).free = s.free ∧
    (State.setRun s on).time = s.time ∧ (State.setRun s on).pwr = s.pwr ∧ (State.setRun s on).sag = s.sag ∧
    (State.setRun s on).host = s.host ∧ (State.setRun s on).cfg = s.cfg ∧ (State.setRun s on).flash = s.flash ∧
    (State.setRun s on).acts = s.acts ∧ (State.setRun s on).cnt = s.cnt ∧ (State.setRun s on).valves = s.valves ∧
    (State.setRun s on).tiles = s.tiles ∧ (State.setRun s on).planner = s.planner ∧
    (State.setRun s on).nav = s.nav ∧ (State.setRun s on).loops = s.loops ∧ (State.setRun s on).field = s.field ∧
    (State.setRun s on).can = s.can := by
  simp [State.setRun]

end Sys2Proof.Machine
end

