-- ==== Sys2Proof/Laws/FrameDiag.lean ====
section
/-! SUPPORT. What the operations of Machine/Diag.lean leave alone: one lemma per operation, the conjunction of
every field of State that it keeps. -/

set_option Elab.async false

open Sys2Proof Sys2Proof.Machine

namespace Sys2Proof.Machine

@[simp] theorem State.eraseDone_keeps (s : State) (ok : Bool) :
    (State.eraseDone s ok).pending = s.pending ∧ (State.eraseDone s ok).time = s.time ∧
    (State.eraseDone s ok).dev = s.dev ∧ (State.eraseDone s ok).pwr = s.pwr ∧ (State.eraseDone s ok).sag = s.sag ∧
    (State.eraseDone s ok).cfg = s.cfg ∧ (State.eraseDone s ok).valves = s.valves ∧
    (State.eraseDone s ok).tiles = s.tiles ∧ (State.eraseDone s ok).planner = s.planner ∧
    (State.eraseDone s ok).nav = s.nav ∧ (State.eraseDone s ok).loops = s.loops ∧
    (State.eraseDone s ok).field = s.field ∧ (State.eraseDone s ok).can = s.can := by
  unfold State.eraseDone; dsimp only; (repeat' split) <;> simp_all

end Sys2Proof.Machine
end

