-- ==== Sys2Proof/Laws/FrameMaint.lean ====
section
/-! SUPPORT. What the operations of Machine/Maint.lean leave alone: one lemma per operation, the conjunction of
every field of State that it keeps. -/

set_option Elab.async false

open Sys2Proof Sys2Proof.Machine

namespace Sys2Proof.Machine

@[simp] theorem State.updAct_keeps (s : State) (a : Activity) (f : Activity → Activity) :
    (State.updAct s a f).pending = s.pending ∧ (State.updAct s a f).free = s.free ∧
    (State.updAct s a f).time = s.time ∧ (State.updAct s a f).dev = s.dev ∧ (State.updAct s a f).pwr = s.pwr ∧
    (State.updAct s a f).sag = s.sag ∧ (State.updAct s a f).host = s.host ∧ (State.updAct s a f).cfg = s.cfg ∧
    (State.updAct s a f).flash = s.flash ∧ (State.updAct s a f).cnt = s.cnt ∧
    (State.updAct s a f).valves = s.valves ∧ (State.updAct s a f).tiles = s.tiles ∧
    (State.updAct s a f).planner = s.planner ∧ (State.updAct s a f).nav = s.nav ∧
    (State.updAct s a f).loops = s.loops ∧ (State.updAct s a f).field = s.field ∧
    (State.updAct s a f).can = s.can := by
  exact ⟨rfl, rfl, rfl, rfl, rfl, rfl, rfl, rfl, rfl, rfl, rfl, rfl, rfl, rfl, rfl, rfl, rfl⟩

@[simp] theorem State.maintEnd_keeps (s : State) (a : Activity) (st : Status) (reason : Nat) (ws : List Word) :
    (State.maintEnd s a st reason ws).pending = s.pending ∧ (State.maintEnd s a st reason ws).time = s.time ∧
    (State.maintEnd s a st reason ws).dev = s.dev ∧ (State.maintEnd s a st reason ws).pwr = s.pwr ∧
    (State.maintEnd s a st reason ws).sag = s.sag ∧ (State.maintEnd s a st reason ws).cfg = s.cfg ∧
    (State.maintEnd s a st reason ws).flash = s.flash ∧ (State.maintEnd s a st reason ws).tiles = s.tiles ∧
    (State.maintEnd s a st reason ws).nav = s.nav ∧ (State.maintEnd s a st reason ws).field = s.field := by
  unfold State.maintEnd; dsimp only; (repeat' split) <;> simp_all

@[simp] theorem State.sweepHalts_keeps (s : State) :
    (State.sweepHalts s).pending = s.pending ∧ (State.sweepHalts s).time = s.time ∧
    (State.sweepHalts s).dev = s.dev ∧ (State.sweepHalts s).pwr = s.pwr ∧ (State.sweepHalts s).sag = s.sag ∧
    (State.sweepHalts s).cfg = s.cfg ∧ (State.sweepHalts s).flash = s.flash ∧ (State.sweepHalts s).tiles = s.tiles ∧
    (State.sweepHalts s).nav = s.nav ∧ (State.sweepHalts s).field = s.field := by
  unfold State.sweepHalts; (repeat' split) <;> simp

@[simp] theorem State.sweepParams_keeps (s : State) (a : Activity) (bs : List Byte) :
    (State.sweepParams s a bs).pending = s.pending ∧ (State.sweepParams s a bs).time = s.time ∧
    (State.sweepParams s a bs).dev = s.dev ∧ (State.sweepParams s a bs).pwr = s.pwr ∧
    (State.sweepParams s a bs).sag = s.sag ∧ (State.sweepParams s a bs).cfg = s.cfg ∧
    (State.sweepParams s a bs).flash = s.flash ∧ (State.sweepParams s a bs).tiles = s.tiles ∧
    (State.sweepParams s a bs).nav = s.nav ∧ (State.sweepParams s a bs).field = s.field := by
  simp [State.sweepParams]

@[simp] theorem State.tuneParams_keeps (s : State) (a : Activity) (bs : List Byte) :
    (State.tuneParams s a bs).pending = s.pending ∧ (State.tuneParams s a bs).free = s.free ∧
    (State.tuneParams s a bs).time = s.time ∧ (State.tuneParams s a bs).dev = s.dev ∧
    (State.tuneParams s a bs).pwr = s.pwr ∧ (State.tuneParams s a bs).sag = s.sag ∧
    (State.tuneParams s a bs).cfg = s.cfg ∧ (State.tuneParams s a bs).flash = s.flash ∧
    (State.tuneParams s a bs).valves = s.valves ∧ (State.tuneParams s a bs).tiles = s.tiles ∧
    (State.tuneParams s a bs).planner = s.planner ∧ (State.tuneParams s a bs).nav = s.nav ∧
    (State.tuneParams s a bs).field = s.field ∧ (State.tuneParams s a bs).can = s.can := by
  simp [State.tuneParams]

@[simp] theorem State.maintParams_keeps (s : State) (w : Waiting) (data : Option (List Byte)) :
    (State.maintParams s w data).pending = s.pending ∧ (State.maintParams s w data).time = s.time ∧
    (State.maintParams s w data).dev = s.dev ∧ (State.maintParams s w data).pwr = s.pwr ∧
    (State.maintParams s w data).sag = s.sag ∧ (State.maintParams s w data).cfg = s.cfg ∧
    (State.maintParams s w data).flash = s.flash ∧ (State.maintParams s w data).tiles = s.tiles ∧
    (State.maintParams s w data).nav = s.nav ∧ (State.maintParams s w data).field = s.field := by
  unfold State.maintParams; (repeat' split) <;> simp

@[simp] theorem State.sweepStore_keeps (s : State) (acts : Nat) (o : Swept) :
    (State.sweepStore s acts o).pending = s.pending ∧ (State.sweepStore s acts o).free = s.free ∧
    (State.sweepStore s acts o).time = s.time ∧ (State.sweepStore s acts o).dev = s.dev ∧
    (State.sweepStore s acts o).pwr = s.pwr ∧ (State.sweepStore s acts o).sag = s.sag ∧
    (State.sweepStore s acts o).cfg = s.cfg ∧ (State.sweepStore s acts o).acts = s.acts ∧
    (State.sweepStore s acts o).tiles = s.tiles ∧ (State.sweepStore s acts o).planner = s.planner ∧
    (State.sweepStore s acts o).nav = s.nav ∧ (State.sweepStore s acts o).loops = s.loops ∧
    (State.sweepStore s acts o).field = s.field ∧ (State.sweepStore s acts o).can = s.can := by
  simp [State.sweepStore]

@[simp] theorem State.sweepDone_keeps (s : State) (cMeas : List Nat) :
    (State.sweepDone s cMeas).pending = s.pending ∧ (State.sweepDone s cMeas).time = s.time ∧
    (State.sweepDone s cMeas).dev = s.dev ∧ (State.sweepDone s cMeas).cfg = s.cfg ∧
    (State.sweepDone s cMeas).tiles = s.tiles ∧ (State.sweepDone s cMeas).nav = s.nav ∧
    (State.sweepDone s cMeas).field = s.field := by
  unfold State.sweepDone; (repeat' split) <;> simp

@[simp] theorem State.wireDone_keeps (s : State) (valves : List Nat) (switches : List (Option OffObs)) :
    (State.wireDone s valves switches).pending = s.pending ∧ (State.wireDone s valves switches).time = s.time ∧
    (State.wireDone s valves switches).dev = s.dev ∧ (State.wireDone s valves switches).pwr = s.pwr ∧
    (State.wireDone s valves switches).cfg = s.cfg ∧ (State.wireDone s valves switches).tiles = s.tiles ∧
    (State.wireDone s valves switches).nav = s.nav ∧ (State.wireDone s valves switches).field = s.field := by
  unfold State.wireDone; (repeat' split) <;> simp

@[simp] theorem State.tuneEnds_keeps (s : State) (n : Nat) :
    (State.tuneEnds s n).pending = s.pending ∧ (State.tuneEnds s n).time = s.time ∧
    (State.tuneEnds s n).dev = s.dev ∧ (State.tuneEnds s n).pwr = s.pwr ∧ (State.tuneEnds s n).sag = s.sag ∧
    (State.tuneEnds s n).cfg = s.cfg ∧ (State.tuneEnds s n).flash = s.flash ∧ (State.tuneEnds s n).tiles = s.tiles ∧
    (State.tuneEnds s n).nav = s.nav ∧ (State.tuneEnds s n).field = s.field := by
  unfold State.tuneEnds; (repeat' split) <;> simp

@[simp] theorem State.tuneDone_keeps (s : State) :
    (State.tuneDone s).pending = s.pending ∧ (State.tuneDone s).time = s.time ∧ (State.tuneDone s).dev = s.dev ∧
    (State.tuneDone s).pwr = s.pwr ∧ (State.tuneDone s).sag = s.sag ∧ (State.tuneDone s).cfg = s.cfg ∧
    (State.tuneDone s).flash = s.flash ∧ (State.tuneDone s).tiles = s.tiles ∧ (State.tuneDone s).nav = s.nav ∧
    (State.tuneDone s).field = s.field := by
  unfold State.tuneDone; dsimp only; (repeat' split) <;> simp_all

@[simp] theorem State.tuneTimeout_keeps (s : State) :
    (State.tuneTimeout s).pending = s.pending ∧ (State.tuneTimeout s).time = s.time ∧
    (State.tuneTimeout s).dev = s.dev ∧ (State.tuneTimeout s).pwr = s.pwr ∧ (State.tuneTimeout s).sag = s.sag ∧
    (State.tuneTimeout s).cfg = s.cfg ∧ (State.tuneTimeout s).flash = s.flash ∧
    (State.tuneTimeout s).tiles = s.tiles ∧ (State.tuneTimeout s).nav = s.nav ∧
    (State.tuneTimeout s).field = s.field := by
  unfold State.tuneTimeout; (repeat' split) <;> simp

@[simp] theorem State.scrubDone_keeps (s : State) (pages corrected : Nat) (bad : List FlashPart) :
    (State.scrubDone s pages corrected bad).pending = s.pending ∧
    (State.scrubDone s pages corrected bad).time = s.time ∧ (State.scrubDone s pages corrected bad).pwr = s.pwr ∧
    (State.scrubDone s pages corrected bad).tiles = s.tiles ∧
    (State.scrubDone s pages corrected bad).nav = s.nav := by
  unfold State.scrubDone; (repeat' split) <;> simp

@[simp] theorem State.zeroDone_keeps (s : State) (means : List Int) (artic : Int) :
    (State.zeroDone s means artic).pending = s.pending ∧ (State.zeroDone s means artic).time = s.time ∧
    (State.zeroDone s means artic).dev = s.dev ∧ (State.zeroDone s means artic).pwr = s.pwr ∧
    (State.zeroDone s means artic).sag = s.sag ∧ (State.zeroDone s means artic).cfg = s.cfg ∧
    (State.zeroDone s means artic).tiles = s.tiles ∧ (State.zeroDone s means artic).nav = s.nav ∧
    (State.zeroDone s means artic).field = s.field := by
  unfold State.zeroDone; (repeat' split) <;> simp

@[simp] theorem State.selfTestEvent_keeps (s : State) (i : Nat) :
    (State.selfTestEvent s i).pending = s.pending ∧ (State.selfTestEvent s i).time = s.time ∧
    (State.selfTestEvent s i).dev = s.dev ∧ (State.selfTestEvent s i).pwr = s.pwr ∧
    (State.selfTestEvent s i).sag = s.sag ∧ (State.selfTestEvent s i).cfg = s.cfg ∧
    (State.selfTestEvent s i).flash = s.flash ∧ (State.selfTestEvent s i).acts = s.acts ∧
    (State.selfTestEvent s i).valves = s.valves ∧ (State.selfTestEvent s i).tiles = s.tiles ∧
    (State.selfTestEvent s i).planner = s.planner ∧ (State.selfTestEvent s i).nav = s.nav ∧
    (State.selfTestEvent s i).loops = s.loops ∧ (State.selfTestEvent s i).field = s.field ∧
    (State.selfTestEvent s i).can = s.can := by
  simp [State.selfTestEvent]

@[simp] theorem State.selfTestDone_keeps (s : State) (engines : BitVec 16) (chans : BitVec 128) :
    (State.selfTestDone s engines chans).pending = s.pending ∧ (State.selfTestDone s engines chans).time = s.time ∧
    (State.selfTestDone s engines chans).pwr = s.pwr ∧ (State.selfTestDone s engines chans).cfg = s.cfg ∧
    (State.selfTestDone s engines chans).tiles = s.tiles := by
  unfold State.selfTestDone; (repeat' split) <;> simp

end Sys2Proof.Machine
end

