-- ==== Sys2Proof/Laws/FramePlanner.lean ====
section
/-! SUPPORT. What the operations of Machine/Planner.lean leave alone: one lemma per operation, the conjunction of
every field of State that it keeps. -/

set_option Elab.async false

open Sys2Proof Sys2Proof.Machine

namespace Sys2Proof.Machine

@[simp] theorem State.speedCompare_keeps (s : State) :
    (State.speedCompare s).pending = s.pending ∧ (State.speedCompare s).time = s.time ∧
    (State.speedCompare s).pwr = s.pwr ∧ (State.speedCompare s).cfg = s.cfg ∧
    (State.speedCompare s).flash = s.flash ∧ (State.speedCompare s).tiles = s.tiles ∧
    (State.speedCompare s).nav = s.nav := by
  unfold State.speedCompare; (repeat' split) <;> simp

@[simp] theorem State.takePlan_keeps (s : State) :
    (State.takePlan s).pending = s.pending ∧ (State.takePlan s).free = s.free ∧ (State.takePlan s).time = s.time ∧
    (State.takePlan s).dev = s.dev ∧ (State.takePlan s).pwr = s.pwr ∧ (State.takePlan s).sag = s.sag ∧
    (State.takePlan s).host = s.host ∧ (State.takePlan s).flash = s.flash ∧ (State.takePlan s).acts = s.acts ∧
    (State.takePlan s).cnt = s.cnt ∧ (State.takePlan s).valves = s.valves ∧ (State.takePlan s).tiles = s.tiles ∧
    (State.takePlan s).planner = s.planner ∧ (State.takePlan s).nav = s.nav ∧ (State.takePlan s).loops = s.loops ∧
    (State.takePlan s).field = s.field ∧ (State.takePlan s).can = s.can := by
  unfold State.takePlan; (repeat' split) <;> simp

@[simp] theorem State.takeWaiting_keeps (s : State) (w : Waiting) :
    (State.takeWaiting s w).pending = s.pending ∧ (State.takeWaiting s w).free = s.free ∧
    (State.takeWaiting s w).time = s.time ∧ (State.takeWaiting s w).dev = s.dev ∧
    (State.takeWaiting s w).pwr = s.pwr ∧ (State.takeWaiting s w).sag = s.sag ∧
    (State.takeWaiting s w).cfg = s.cfg ∧ (State.takeWaiting s w).flash = s.flash ∧
    (State.takeWaiting s w).acts = s.acts ∧ (State.takeWaiting s w).valves = s.valves ∧
    (State.takeWaiting s w).tiles = s.tiles ∧ (State.takeWaiting s w).nav = s.nav ∧
    (State.takeWaiting s w).loops = s.loops ∧ (State.takeWaiting s w).field = s.field ∧
    (State.takeWaiting s w).can = s.can := by
  unfold State.takeWaiting; (repeat' split) <;> simp

@[simp] theorem State.openReport_keeps (s : State) (r : Report) :
    (State.openReport s r).pending = s.pending ∧ (State.openReport s r).free = s.free ∧
    (State.openReport s r).time = s.time ∧ (State.openReport s r).dev = s.dev ∧ (State.openReport s r).pwr = s.pwr ∧
    (State.openReport s r).sag = s.sag ∧ (State.openReport s r).host = s.host ∧ (State.openReport s r).cfg = s.cfg ∧
    (State.openReport s r).flash = s.flash ∧ (State.openReport s r).acts = s.acts ∧
    (State.openReport s r).valves = s.valves ∧ (State.openReport s r).tiles = s.tiles ∧
    (State.openReport s r).nav = s.nav ∧ (State.openReport s r).loops = s.loops ∧
    (State.openReport s r).field = s.field ∧ (State.openReport s r).can = s.can := by
  simp [State.openReport]

@[simp] theorem State.closeReport_keeps (s : State) (r : Report) :
    (State.closeReport s r).pending = s.pending ∧ (State.closeReport s r).free = s.free ∧
    (State.closeReport s r).time = s.time ∧ (State.closeReport s r).dev = s.dev ∧
    (State.closeReport s r).pwr = s.pwr ∧ (State.closeReport s r).sag = s.sag ∧
    (State.closeReport s r).cfg = s.cfg ∧ (State.closeReport s r).flash = s.flash ∧
    (State.closeReport s r).acts = s.acts ∧ (State.closeReport s r).valves = s.valves ∧
    (State.closeReport s r).tiles = s.tiles ∧ (State.closeReport s r).nav = s.nav ∧
    (State.closeReport s r).loops = s.loops ∧ (State.closeReport s r).field = s.field ∧
    (State.closeReport s r).can = s.can := by
  unfold State.closeReport; (repeat' split) <;> simp

@[simp] theorem State.takeReports_keeps (s : State) :
    (State.takeReports s).pending = s.pending ∧ (State.takeReports s).free = s.free ∧
    (State.takeReports s).time = s.time ∧ (State.takeReports s).dev = s.dev ∧ (State.takeReports s).pwr = s.pwr ∧
    (State.takeReports s).sag = s.sag ∧ (State.takeReports s).cfg = s.cfg ∧ (State.takeReports s).flash = s.flash ∧
    (State.takeReports s).acts = s.acts ∧ (State.takeReports s).tiles = s.tiles ∧
    (State.takeReports s).nav = s.nav ∧ (State.takeReports s).loops = s.loops ∧
    (State.takeReports s).field = s.field ∧ (State.takeReports s).can = s.can := by
  simp [State.takeReports]

@[simp] theorem State.settleDecided_keeps (s : State) (f : Nat) :
    (State.settleDecided s f).pending = s.pending ∧ (State.settleDecided s f).free = s.free ∧
    (State.settleDecided s f).time = s.time ∧ (State.settleDecided s f).dev = s.dev ∧
    (State.settleDecided s f).pwr = s.pwr ∧ (State.settleDecided s f).host = s.host ∧
    (State.settleDecided s f).cfg = s.cfg ∧ (State.settleDecided s f).flash = s.flash ∧
    (State.settleDecided s f).acts = s.acts ∧ (State.settleDecided s f).cnt = s.cnt ∧
    (State.settleDecided s f).valves = s.valves ∧ (State.settleDecided s f).tiles = s.tiles ∧
    (State.settleDecided s f).nav = s.nav ∧ (State.settleDecided s f).loops = s.loops ∧
    (State.settleDecided s f).field = s.field ∧ (State.settleDecided s f).can = s.can := by
  simp [State.settleDecided]

@[simp] theorem State.markMove_keeps (s : State) (ch : Nat) (a b : FusOut) (lo hi : Nat) :
    (State.markMove s ch a b lo hi).pending = s.pending ∧ (State.markMove s ch a b lo hi).free = s.free ∧
    (State.markMove s ch a b lo hi).time = s.time ∧ (State.markMove s ch a b lo hi).dev = s.dev ∧
    (State.markMove s ch a b lo hi).pwr = s.pwr ∧ (State.markMove s ch a b lo hi).sag = s.sag ∧
    (State.markMove s ch a b lo hi).cfg = s.cfg ∧ (State.markMove s ch a b lo hi).flash = s.flash ∧
    (State.markMove s ch a b lo hi).acts = s.acts ∧ (State.markMove s ch a b lo hi).planner = s.planner ∧
    (State.markMove s ch a b lo hi).nav = s.nav ∧ (State.markMove s ch a b lo hi).loops = s.loops ∧
    (State.markMove s ch a b lo hi).field = s.field ∧ (State.markMove s ch a b lo hi).can = s.can := by
  simp [State.markMove]

@[simp] theorem State.markSpan_keeps (s : State) (ch : Nat) (os : List FusOut) (x : OpenSpan) :
    (State.markSpan s ch os x).pending = s.pending ∧ (State.markSpan s ch os x).free = s.free ∧
    (State.markSpan s ch os x).time = s.time ∧ (State.markSpan s ch os x).dev = s.dev ∧
    (State.markSpan s ch os x).pwr = s.pwr ∧ (State.markSpan s ch os x).sag = s.sag ∧
    (State.markSpan s ch os x).cfg = s.cfg ∧ (State.markSpan s ch os x).flash = s.flash ∧
    (State.markSpan s ch os x).acts = s.acts ∧ (State.markSpan s ch os x).planner = s.planner ∧
    (State.markSpan s ch os x).nav = s.nav ∧ (State.markSpan s ch os x).loops = s.loops ∧
    (State.markSpan s ch os x).field = s.field ∧ (State.markSpan s ch os x).can = s.can := by
  simp [State.markSpan]

@[simp] theorem State.markAll_keeps (s : State) :
    (State.markAll s).pending = s.pending ∧ (State.markAll s).free = s.free ∧ (State.markAll s).time = s.time ∧
    (State.markAll s).dev = s.dev ∧ (State.markAll s).pwr = s.pwr ∧ (State.markAll s).sag = s.sag ∧
    (State.markAll s).cfg = s.cfg ∧ (State.markAll s).flash = s.flash ∧ (State.markAll s).acts = s.acts ∧
    (State.markAll s).nav = s.nav ∧ (State.markAll s).loops = s.loops ∧ (State.markAll s).field = s.field ∧
    (State.markAll s).can = s.can := by
  simp [State.markAll]

@[simp] theorem State.positionLoss_keeps (s : State) (o : FusOut) :
    (State.positionLoss s o).pending = s.pending ∧ (State.positionLoss s o).free = s.free ∧
    (State.positionLoss s o).time = s.time ∧ (State.positionLoss s o).dev = s.dev ∧
    (State.positionLoss s o).pwr = s.pwr ∧ (State.positionLoss s o).sag = s.sag ∧
    (State.positionLoss s o).cfg = s.cfg ∧ (State.positionLoss s o).flash = s.flash ∧
    (State.positionLoss s o).acts = s.acts ∧ (State.positionLoss s o).valves = s.valves ∧
    (State.positionLoss s o).tiles = s.tiles ∧ (State.positionLoss s o).nav = s.nav ∧
    (State.positionLoss s o).loops = s.loops ∧ (State.positionLoss s o).field = s.field ∧
    (State.positionLoss s o).can = s.can := by
  simp [State.positionLoss]

@[simp] theorem State.countLooks_keeps (s : State) (ch : Nat) (ws : List Want) :
    (State.countLooks s ch ws).pending = s.pending ∧ (State.countLooks s ch ws).free = s.free ∧
    (State.countLooks s ch ws).time = s.time ∧ (State.countLooks s ch ws).dev = s.dev ∧
    (State.countLooks s ch ws).pwr = s.pwr ∧ (State.countLooks s ch ws).sag = s.sag ∧
    (State.countLooks s ch ws).cfg = s.cfg ∧ (State.countLooks s ch ws).flash = s.flash ∧
    (State.countLooks s ch ws).acts = s.acts ∧ (State.countLooks s ch ws).planner = s.planner ∧
    (State.countLooks s ch ws).nav = s.nav ∧ (State.countLooks s ch ws).loops = s.loops ∧
    (State.countLooks s ch ws).field = s.field ∧ (State.countLooks s ch ws).can = s.can := by
  simp [State.countLooks]

@[simp] theorem State.putEdges_keeps (s : State) (f ch : Nat) (es : List Edge) :
    (State.putEdges s f ch es).pending = s.pending ∧ (State.putEdges s f ch es).free = s.free ∧
    (State.putEdges s f ch es).time = s.time ∧ (State.putEdges s f ch es).dev = s.dev ∧
    (State.putEdges s f ch es).pwr = s.pwr ∧ (State.putEdges s f ch es).sag = s.sag ∧
    (State.putEdges s f ch es).cfg = s.cfg ∧ (State.putEdges s f ch es).flash = s.flash ∧
    (State.putEdges s f ch es).acts = s.acts ∧ (State.putEdges s f ch es).valves = s.valves ∧
    (State.putEdges s f ch es).tiles = s.tiles ∧ (State.putEdges s f ch es).nav = s.nav ∧
    (State.putEdges s f ch es).loops = s.loops ∧ (State.putEdges s f ch es).field = s.field ∧
    (State.putEdges s f ch es).can = s.can := by
  simp [State.putEdges]

@[simp] theorem State.keepPlaced_keeps (s : State) (ch f : Nat) (x : Placed) (ps : List Pulse) :
    (State.keepPlaced s ch f x ps).pending = s.pending ∧ (State.keepPlaced s ch f x ps).free = s.free ∧
    (State.keepPlaced s ch f x ps).time = s.time ∧ (State.keepPlaced s ch f x ps).dev = s.dev ∧
    (State.keepPlaced s ch f x ps).pwr = s.pwr ∧ (State.keepPlaced s ch f x ps).sag = s.sag ∧
    (State.keepPlaced s ch f x ps).host = s.host ∧ (State.keepPlaced s ch f x ps).cfg = s.cfg ∧
    (State.keepPlaced s ch f x ps).flash = s.flash ∧ (State.keepPlaced s ch f x ps).acts = s.acts ∧
    (State.keepPlaced s ch f x ps).cnt = s.cnt ∧ (State.keepPlaced s ch f x ps).valves = s.valves ∧
    (State.keepPlaced s ch f x ps).tiles = s.tiles ∧ (State.keepPlaced s ch f x ps).nav = s.nav ∧
    (State.keepPlaced s ch f x ps).loops = s.loops ∧ (State.keepPlaced s ch f x ps).field = s.field ∧
    (State.keepPlaced s ch f x ps).can = s.can := by
  simp [State.keepPlaced]

@[simp] theorem State.planGroup_keeps (s : State) (o : FusOut) (f g : Nat) :
    (State.planGroup s o f g).pending = s.pending ∧ (State.planGroup s o f g).free = s.free ∧
    (State.planGroup s o f g).time = s.time ∧ (State.planGroup s o f g).dev = s.dev ∧
    (State.planGroup s o f g).pwr = s.pwr ∧ (State.planGroup s o f g).sag = s.sag ∧
    (State.planGroup s o f g).cfg = s.cfg ∧ (State.planGroup s o f g).flash = s.flash ∧
    (State.planGroup s o f g).acts = s.acts ∧ (State.planGroup s o f g).nav = s.nav ∧
    (State.planGroup s o f g).loops = s.loops ∧ (State.planGroup s o f g).field = s.field ∧
    (State.planGroup s o f g).can = s.can := by
  simp [State.planGroup]

@[simp] theorem State.abandon_keeps (s : State) (ch : Nat) :
    (State.abandon s ch).pending = s.pending ∧ (State.abandon s ch).free = s.free ∧
    (State.abandon s ch).time = s.time ∧ (State.abandon s ch).dev = s.dev ∧ (State.abandon s ch).pwr = s.pwr ∧
    (State.abandon s ch).sag = s.sag ∧ (State.abandon s ch).host = s.host ∧ (State.abandon s ch).cfg = s.cfg ∧
    (State.abandon s ch).flash = s.flash ∧ (State.abandon s ch).acts = s.acts ∧
    (State.abandon s ch).valves = s.valves ∧ (State.abandon s ch).tiles = s.tiles ∧
    (State.abandon s ch).nav = s.nav ∧ (State.abandon s ch).loops = s.loops ∧ (State.abandon s ch).field = s.field ∧
    (State.abandon s ch).can = s.can := by
  simp [State.abandon]

end Sys2Proof.Machine
end

