-- ==== Sys2Proof/Laws/FrameFusion.lean ====
section
/-! SUPPORT. What the operations of Machine/Fusion.lean leave alone: one lemma per operation, the conjunction of
every field of State that it keeps. -/

set_option Elab.async false

open Sys2Proof Sys2Proof.Machine

namespace Sys2Proof.Machine

@[simp] theorem State.updNav_keeps (s : State) (f : Nav → Nav) :
    (State.updNav s f).pending = s.pending ∧ (State.updNav s f).free = s.free ∧ (State.updNav s f).time = s.time ∧
    (State.updNav s f).dev = s.dev ∧ (State.updNav s f).pwr = s.pwr ∧ (State.updNav s f).sag = s.sag ∧
    (State.updNav s f).host = s.host ∧ (State.updNav s f).cfg = s.cfg ∧ (State.updNav s f).flash = s.flash ∧
    (State.updNav s f).acts = s.acts ∧ (State.updNav s f).cnt = s.cnt ∧ (State.updNav s f).valves = s.valves ∧
    (State.updNav s f).tiles = s.tiles ∧ (State.updNav s f).planner = s.planner ∧
    (State.updNav s f).loops = s.loops ∧ (State.updNav s f).field = s.field ∧ (State.updNav s f).can = s.can := by
  exact ⟨rfl, rfl, rfl, rfl, rfl, rfl, rfl, rfl, rfl, rfl, rfl, rfl, rfl, rfl, rfl, rfl, rfl⟩

@[simp] theorem State.updImu_keeps (s : State) (f : Imu → Imu) :
    (State.updImu s f).pending = s.pending ∧ (State.updImu s f).free = s.free ∧ (State.updImu s f).time = s.time ∧
    (State.updImu s f).dev = s.dev ∧ (State.updImu s f).pwr = s.pwr ∧ (State.updImu s f).sag = s.sag ∧
    (State.updImu s f).host = s.host ∧ (State.updImu s f).cfg = s.cfg ∧ (State.updImu s f).flash = s.flash ∧
    (State.updImu s f).acts = s.acts ∧ (State.updImu s f).cnt = s.cnt ∧ (State.updImu s f).valves = s.valves ∧
    (State.updImu s f).tiles = s.tiles ∧ (State.updImu s f).planner = s.planner ∧
    (State.updImu s f).loops = s.loops ∧ (State.updImu s f).field = s.field ∧ (State.updImu s f).can = s.can := by
  exact ⟨rfl, rfl, rfl, rfl, rfl, rfl, rfl, rfl, rfl, rfl, rfl, rfl, rfl, rfl, rfl, rfl, rfl⟩

@[simp] theorem State.spdCompare_keeps (s : State) (sel i : Nat) (x : SpdRead) (q : Nat) :
    (State.spdCompare s sel i x q).pending = s.pending ∧ (State.spdCompare s sel i x q).free = s.free ∧
    (State.spdCompare s sel i x q).time = s.time ∧ (State.spdCompare s sel i x q).dev = s.dev ∧
    (State.spdCompare s sel i x q).pwr = s.pwr ∧ (State.spdCompare s sel i x q).sag = s.sag ∧
    (State.spdCompare s sel i x q).cfg = s.cfg ∧ (State.spdCompare s sel i x q).flash = s.flash ∧
    (State.spdCompare s sel i x q).acts = s.acts ∧ (State.spdCompare s sel i x q).valves = s.valves ∧
    (State.spdCompare s sel i x q).tiles = s.tiles ∧ (State.spdCompare s sel i x q).planner = s.planner ∧
    (State.spdCompare s sel i x q).loops = s.loops ∧ (State.spdCompare s sel i x q).field = s.field ∧
    (State.spdCompare s sel i x q).can = s.can := by
  simp [State.spdCompare]

@[simp] theorem State.spdStep_keeps (s : State) (xs : List SpdRead) (q : Nat) :
    (State.spdStep s xs q).pending = s.pending ∧ (State.spdStep s xs q).free = s.free ∧
    (State.spdStep s xs q).time = s.time ∧ (State.spdStep s xs q).dev = s.dev ∧ (State.spdStep s xs q).pwr = s.pwr ∧
    (State.spdStep s xs q).sag = s.sag ∧ (State.spdStep s xs q).cfg = s.cfg ∧
    (State.spdStep s xs q).flash = s.flash ∧ (State.spdStep s xs q).acts = s.acts ∧
    (State.spdStep s xs q).valves = s.valves ∧ (State.spdStep s xs q).tiles = s.tiles ∧
    (State.spdStep s xs q).planner = s.planner ∧ (State.spdStep s xs q).loops = s.loops ∧
    (State.spdStep s xs q).field = s.field ∧ (State.spdStep s xs q).can = s.can := by
  simp [State.spdStep]

@[simp] theorem State.keepHeading_keeps (s : State) (h : Hdg) :
    (State.keepHeading s h).pending = s.pending ∧ (State.keepHeading s h).free = s.free ∧
    (State.keepHeading s h).time = s.time ∧ (State.keepHeading s h).dev = s.dev ∧
    (State.keepHeading s h).pwr = s.pwr ∧ (State.keepHeading s h).sag = s.sag ∧
    (State.keepHeading s h).host = s.host ∧ (State.keepHeading s h).cfg = s.cfg ∧
    (State.keepHeading s h).flash = s.flash ∧ (State.keepHeading s h).acts = s.acts ∧
    (State.keepHeading s h).cnt = s.cnt ∧ (State.keepHeading s h).valves = s.valves ∧
    (State.keepHeading s h).tiles = s.tiles ∧ (State.keepHeading s h).planner = s.planner ∧
    (State.keepHeading s h).loops = s.loops ∧ (State.keepHeading s h).field = s.field ∧
    (State.keepHeading s h).can = s.can := by
  simp [State.keepHeading]

@[simp] theorem State.articEvents_keeps (s : State) (est : Rat) :
    (State.articEvents s est).pending = s.pending ∧ (State.articEvents s est).free = s.free ∧
    (State.articEvents s est).time = s.time ∧ (State.articEvents s est).dev = s.dev ∧
    (State.articEvents s est).pwr = s.pwr ∧ (State.articEvents s est).sag = s.sag ∧
    (State.articEvents s est).cfg = s.cfg ∧ (State.articEvents s est).flash = s.flash ∧
    (State.articEvents s est).acts = s.acts ∧ (State.articEvents s est).valves = s.valves ∧
    (State.articEvents s est).tiles = s.tiles ∧ (State.articEvents s est).planner = s.planner ∧
    (State.articEvents s est).loops = s.loops ∧ (State.articEvents s est).field = s.field ∧
    (State.articEvents s est).can = s.can := by
  simp [State.articEvents]

@[simp] theorem State.keepFilter_keeps (s : State) (ms : List FusMeas) (h : List FilterStep) (f : FilterSt) :
    (State.keepFilter s ms h f).pending = s.pending ∧ (State.keepFilter s ms h f).free = s.free ∧
    (State.keepFilter s ms h f).time = s.time ∧ (State.keepFilter s ms h f).dev = s.dev ∧
    (State.keepFilter s ms h f).pwr = s.pwr ∧ (State.keepFilter s ms h f).sag = s.sag ∧
    (State.keepFilter s ms h f).host = s.host ∧ (State.keepFilter s ms h f).cfg = s.cfg ∧
    (State.keepFilter s ms h f).flash = s.flash ∧ (State.keepFilter s ms h f).acts = s.acts ∧
    (State.keepFilter s ms h f).cnt = s.cnt ∧ (State.keepFilter s ms h f).valves = s.valves ∧
    (State.keepFilter s ms h f).tiles = s.tiles ∧ (State.keepFilter s ms h f).planner = s.planner ∧
    (State.keepFilter s ms h f).loops = s.loops ∧ (State.keepFilter s ms h f).field = s.field ∧
    (State.keepFilter s ms h f).can = s.can := by
  simp [State.keepFilter]

@[simp] theorem State.strapdown_keeps (s : State) (m : Nat) (body : List Rat) :
    (State.strapdown s m body).pending = s.pending ∧ (State.strapdown s m body).free = s.free ∧
    (State.strapdown s m body).time = s.time ∧ (State.strapdown s m body).dev = s.dev ∧
    (State.strapdown s m body).pwr = s.pwr ∧ (State.strapdown s m body).sag = s.sag ∧
    (State.strapdown s m body).host = s.host ∧ (State.strapdown s m body).cfg = s.cfg ∧
    (State.strapdown s m body).flash = s.flash ∧ (State.strapdown s m body).acts = s.acts ∧
    (State.strapdown s m body).cnt = s.cnt ∧ (State.strapdown s m body).valves = s.valves ∧
    (State.strapdown s m body).tiles = s.tiles ∧ (State.strapdown s m body).planner = s.planner ∧
    (State.strapdown s m body).loops = s.loops ∧ (State.strapdown s m body).field = s.field ∧
    (State.strapdown s m body).can = s.can := by
  simp [State.strapdown]

@[simp] theorem State.farCheck_keeps (s : State) (x : FusOut) :
    (State.farCheck s x).pending = s.pending ∧ (State.farCheck s x).free = s.free ∧
    (State.farCheck s x).time = s.time ∧ (State.farCheck s x).dev = s.dev ∧ (State.farCheck s x).pwr = s.pwr ∧
    (State.farCheck s x).sag = s.sag ∧ (State.farCheck s x).cfg = s.cfg ∧ (State.farCheck s x).flash = s.flash ∧
    (State.farCheck s x).acts = s.acts ∧ (State.farCheck s x).valves = s.valves ∧
    (State.farCheck s x).tiles = s.tiles ∧ (State.farCheck s x).planner = s.planner ∧
    (State.farCheck s x).loops = s.loops ∧ (State.farCheck s x).field = s.field ∧
    (State.farCheck s x).can = s.can := by
  simp [State.farCheck]

@[simp] theorem State.imuMiss_keeps (s : State) :
    (State.imuMiss s).pending = s.pending ∧ (State.imuMiss s).time = s.time ∧ (State.imuMiss s).pwr = s.pwr ∧
    (State.imuMiss s).cfg = s.cfg ∧ (State.imuMiss s).tiles = s.tiles := by
  simp [State.imuMiss]

@[simp] theorem State.imuInstant_keeps (s : State) (m wait : Nat) :
    (State.imuInstant s m wait).pending = s.pending ∧ (State.imuInstant s m wait).time = s.time ∧
    (State.imuInstant s m wait).pwr = s.pwr ∧ (State.imuInstant s m wait).cfg = s.cfg ∧
    (State.imuInstant s m wait).tiles = s.tiles := by
  simp [State.imuInstant]

@[simp] theorem State.imuGood_keeps (s : State) (p : ImuProfile) (m : Nat) (fr : List Byte) :
    (State.imuGood s p m fr).pending = s.pending ∧ (State.imuGood s p m fr).time = s.time ∧
    (State.imuGood s p m fr).pwr = s.pwr ∧ (State.imuGood s p m fr).cfg = s.cfg ∧
    (State.imuGood s p m fr).tiles = s.tiles := by
  simp [State.imuGood]

@[simp] theorem State.setOrigin_keeps (s : State) (w : Waiting) (lat lon height : Word) :
    (State.setOrigin s w lat lon height).pending = s.pending ∧ (State.setOrigin s w lat lon height).time = s.time ∧
    (State.setOrigin s w lat lon height).pwr = s.pwr ∧ (State.setOrigin s w lat lon height).cfg = s.cfg := by
  simp [State.setOrigin]

@[simp] theorem State.originDone_keeps (s : State) :
    (State.originDone s).pending = s.pending ∧ (State.originDone s).time = s.time ∧
    (State.originDone s).pwr = s.pwr ∧ (State.originDone s).cfg = s.cfg := by
  unfold State.originDone; (repeat' split) <;> simp

end Sys2Proof.Machine
end

