-- ==== Sys2Proof/Laws/FrameSextant.lean ====
section
/-! SUPPORT. What the operations of Machine/Sextant.lean leave alone: one lemma per operation, the conjunction of
every field of State that it keeps. -/

set_option Elab.async false

open Sys2Proof Sys2Proof.Machine

namespace Sys2Proof.Machine

@[simp] theorem State.updClk_keeps (s : State) (f : Clk → Clk) :
    (State.updClk s f).pending = s.pending ∧ (State.updClk s f).free = s.free ∧ (State.updClk s f).time = s.time ∧
    (State.updClk s f).dev = s.dev ∧ (State.updClk s f).pwr = s.pwr ∧ (State.updClk s f).sag = s.sag ∧
    (State.updClk s f).host = s.host ∧ (State.updClk s f).cfg = s.cfg ∧ (State.updClk s f).flash = s.flash ∧
    (State.updClk s f).acts = s.acts ∧ (State.updClk s f).cnt = s.cnt ∧ (State.updClk s f).valves = s.valves ∧
    (State.updClk s f).tiles = s.tiles ∧ (State.updClk s f).planner = s.planner ∧
    (State.updClk s f).loops = s.loops ∧ (State.updClk s f).field = s.field ∧ (State.updClk s f).can = s.can := by
  exact ⟨rfl, rfl, rfl, rfl, rfl, rfl, rfl, rfl, rfl, rfl, rfl, rfl, rfl, rfl, rfl, rfl, rfl⟩

@[simp] theorem State.updTrk_keeps (s : State) (ch : Nat) (f : TrkCh → TrkCh) :
    (State.updTrk s ch f).pending = s.pending ∧ (State.updTrk s ch f).free = s.free ∧
    (State.updTrk s ch f).time = s.time ∧ (State.updTrk s ch f).dev = s.dev ∧ (State.updTrk s ch f).pwr = s.pwr ∧
    (State.updTrk s ch f).sag = s.sag ∧ (State.updTrk s ch f).host = s.host ∧ (State.updTrk s ch f).cfg = s.cfg ∧
    (State.updTrk s ch f).flash = s.flash ∧ (State.updTrk s ch f).acts = s.acts ∧
    (State.updTrk s ch f).cnt = s.cnt ∧ (State.updTrk s ch f).valves = s.valves ∧
    (State.updTrk s ch f).tiles = s.tiles ∧ (State.updTrk s ch f).planner = s.planner ∧
    (State.updTrk s ch f).loops = s.loops ∧ (State.updTrk s ch f).field = s.field ∧
    (State.updTrk s ch f).can = s.can := by
  exact ⟨rfl, rfl, rfl, rfl, rfl, rfl, rfl, rfl, rfl, rfl, rfl, rfl, rfl, rfl, rfl, rfl, rfl⟩

@[simp] theorem State.updPort_keeps (s : State) (p : Nat) (f : Port → Port) :
    (State.updPort s p f).pending = s.pending ∧ (State.updPort s p f).free = s.free ∧
    (State.updPort s p f).time = s.time ∧ (State.updPort s p f).dev = s.dev ∧ (State.updPort s p f).pwr = s.pwr ∧
    (State.updPort s p f).sag = s.sag ∧ (State.updPort s p f).host = s.host ∧ (State.updPort s p f).cfg = s.cfg ∧
    (State.updPort s p f).flash = s.flash ∧ (State.updPort s p f).acts = s.acts ∧
    (State.updPort s p f).cnt = s.cnt ∧ (State.updPort s p f).valves = s.valves ∧
    (State.updPort s p f).tiles = s.tiles ∧ (State.updPort s p f).planner = s.planner ∧
    (State.updPort s p f).loops = s.loops ∧ (State.updPort s p f).field = s.field ∧
    (State.updPort s p f).can = s.can := by
  exact ⟨rfl, rfl, rfl, rfl, rfl, rfl, rfl, rfl, rfl, rfl, rfl, rfl, rfl, rfl, rfl, rfl, rfl⟩

@[simp] theorem State.portBad_keeps (s : State) (p cond : Nat) :
    (State.portBad s p cond).pending = s.pending ∧ (State.portBad s p cond).free = s.free ∧
    (State.portBad s p cond).time = s.time ∧ (State.portBad s p cond).dev = s.dev ∧
    (State.portBad s p cond).pwr = s.pwr ∧ (State.portBad s p cond).sag = s.sag ∧
    (State.portBad s p cond).cfg = s.cfg ∧ (State.portBad s p cond).flash = s.flash ∧
    (State.portBad s p cond).acts = s.acts ∧ (State.portBad s p cond).valves = s.valves ∧
    (State.portBad s p cond).tiles = s.tiles ∧ (State.portBad s p cond).planner = s.planner ∧
    (State.portBad s p cond).loops = s.loops ∧ (State.portBad s p cond).field = s.field ∧
    (State.portBad s p cond).can = s.can := by
  simp [State.portBad]

@[simp] theorem State.admitSat_keeps (s : State) (v : SatView) :
    (State.admitSat s v).pending = s.pending ∧ (State.admitSat s v).free = s.free ∧
    (State.admitSat s v).time = s.time ∧ (State.admitSat s v).dev = s.dev ∧ (State.admitSat s v).pwr = s.pwr ∧
    (State.admitSat s v).sag = s.sag ∧ (State.admitSat s v).host = s.host ∧ (State.admitSat s v).cfg = s.cfg ∧
    (State.admitSat s v).flash = s.flash ∧ (State.admitSat s v).acts = s.acts ∧ (State.admitSat s v).cnt = s.cnt ∧
    (State.admitSat s v).valves = s.valves ∧ (State.admitSat s v).tiles = s.tiles ∧
    (State.admitSat s v).planner = s.planner ∧ (State.admitSat s v).loops = s.loops ∧
    (State.admitSat s v).field = s.field ∧ (State.admitSat s v).can = s.can := by
  simp [State.admitSat]

@[simp] theorem State.allocate_keeps (s : State) (vs : List SatView) :
    (State.allocate s vs).pending = s.pending ∧ (State.allocate s vs).free = s.free ∧
    (State.allocate s vs).time = s.time ∧ (State.allocate s vs).dev = s.dev ∧ (State.allocate s vs).pwr = s.pwr ∧
    (State.allocate s vs).sag = s.sag ∧ (State.allocate s vs).host = s.host ∧ (State.allocate s vs).cfg = s.cfg ∧
    (State.allocate s vs).flash = s.flash ∧ (State.allocate s vs).acts = s.acts ∧
    (State.allocate s vs).cnt = s.cnt ∧ (State.allocate s vs).valves = s.valves ∧
    (State.allocate s vs).tiles = s.tiles ∧ (State.allocate s vs).planner = s.planner ∧
    (State.allocate s vs).loops = s.loops ∧ (State.allocate s vs).field = s.field ∧
    (State.allocate s vs).can = s.can := by
  simp [State.allocate]

@[simp] theorem State.gainLock_keeps (s : State) (c : TrkCh) :
    (State.gainLock s c).pending = s.pending ∧ (State.gainLock s c).free = s.free ∧
    (State.gainLock s c).time = s.time ∧ (State.gainLock s c).dev = s.dev ∧ (State.gainLock s c).pwr = s.pwr ∧
    (State.gainLock s c).sag = s.sag ∧ (State.gainLock s c).host = s.host ∧ (State.gainLock s c).cfg = s.cfg ∧
    (State.gainLock s c).flash = s.flash ∧ (State.gainLock s c).acts = s.acts ∧ (State.gainLock s c).cnt = s.cnt ∧
    (State.gainLock s c).valves = s.valves ∧ (State.gainLock s c).tiles = s.tiles ∧
    (State.gainLock s c).planner = s.planner ∧ (State.gainLock s c).loops = s.loops ∧
    (State.gainLock s c).field = s.field ∧ (State.gainLock s c).can = s.can := by
  simp [State.gainLock]

@[simp] theorem State.corrSwap_keeps (s : State) :
    (State.corrSwap s).pending = s.pending ∧ (State.corrSwap s).free = s.free ∧ (State.corrSwap s).time = s.time ∧
    (State.corrSwap s).dev = s.dev ∧ (State.corrSwap s).pwr = s.pwr ∧ (State.corrSwap s).sag = s.sag ∧
    (State.corrSwap s).cfg = s.cfg ∧ (State.corrSwap s).flash = s.flash ∧ (State.corrSwap s).acts = s.acts ∧
    (State.corrSwap s).valves = s.valves ∧ (State.corrSwap s).tiles = s.tiles ∧
    (State.corrSwap s).planner = s.planner ∧ (State.corrSwap s).loops = s.loops ∧
    (State.corrSwap s).field = s.field ∧ (State.corrSwap s).can = s.can := by
  simp [State.corrSwap]

@[simp] theorem State.keepTests_keeps (s : State) (ms : List Meas) :
    (State.keepTests s ms).2.pending = s.pending ∧ (State.keepTests s ms).2.free = s.free ∧
    (State.keepTests s ms).2.time = s.time ∧ (State.keepTests s ms).2.dev = s.dev ∧
    (State.keepTests s ms).2.pwr = s.pwr ∧ (State.keepTests s ms).2.sag = s.sag ∧
    (State.keepTests s ms).2.host = s.host ∧ (State.keepTests s ms).2.cfg = s.cfg ∧
    (State.keepTests s ms).2.flash = s.flash ∧ (State.keepTests s ms).2.acts = s.acts ∧
    (State.keepTests s ms).2.valves = s.valves ∧ (State.keepTests s ms).2.tiles = s.tiles ∧
    (State.keepTests s ms).2.planner = s.planner ∧ (State.keepTests s ms).2.loops = s.loops ∧
    (State.keepTests s ms).2.field = s.field ∧ (State.keepTests s ms).2.can = s.can := by
  simp [State.keepTests]

@[simp] theorem State.spoofTest_keeps (s : State) (ms : List Meas) :
    (State.spoofTest s ms).pending = s.pending ∧ (State.spoofTest s ms).free = s.free ∧
    (State.spoofTest s ms).time = s.time ∧ (State.spoofTest s ms).dev = s.dev ∧ (State.spoofTest s ms).pwr = s.pwr ∧
    (State.spoofTest s ms).sag = s.sag ∧ (State.spoofTest s ms).cfg = s.cfg ∧
    (State.spoofTest s ms).flash = s.flash ∧ (State.spoofTest s ms).acts = s.acts ∧
    (State.spoofTest s ms).valves = s.valves ∧ (State.spoofTest s ms).tiles = s.tiles ∧
    (State.spoofTest s ms).planner = s.planner ∧ (State.spoofTest s ms).loops = s.loops ∧
    (State.spoofTest s ms).field = s.field ∧ (State.spoofTest s ms).can = s.can := by
  unfold State.spoofTest; (repeat' split) <;> simp

@[simp] theorem State.passSol_keeps (s : State) (o : EpochObs) (ok : Bool) :
    (State.passSol s o ok).pending = s.pending ∧ (State.passSol s o ok).free = s.free ∧
    (State.passSol s o ok).time = s.time ∧ (State.passSol s o ok).dev = s.dev ∧ (State.passSol s o ok).pwr = s.pwr ∧
    (State.passSol s o ok).sag = s.sag ∧ (State.passSol s o ok).cfg = s.cfg ∧
    (State.passSol s o ok).flash = s.flash ∧ (State.passSol s o ok).acts = s.acts ∧
    (State.passSol s o ok).valves = s.valves ∧ (State.passSol s o ok).tiles = s.tiles ∧
    (State.passSol s o ok).planner = s.planner ∧ (State.passSol s o ok).loops = s.loops ∧
    (State.passSol s o ok).field = s.field ∧ (State.passSol s o ok).can = s.can := by
  simp [State.passSol]

@[simp] theorem State.rerate_keeps (s : State) (rate : Int) (change : Nat) :
    (State.rerate s rate change).pending = s.pending ∧ (State.rerate s rate change).free = s.free ∧
    (State.rerate s rate change).dev = s.dev ∧ (State.rerate s rate change).pwr = s.pwr ∧
    (State.rerate s rate change).sag = s.sag ∧ (State.rerate s rate change).cfg = s.cfg ∧
    (State.rerate s rate change).flash = s.flash ∧ (State.rerate s rate change).acts = s.acts ∧
    (State.rerate s rate change).valves = s.valves ∧ (State.rerate s rate change).tiles = s.tiles ∧
    (State.rerate s rate change).planner = s.planner ∧ (State.rerate s rate change).nav = s.nav ∧
    (State.rerate s rate change).loops = s.loops ∧ (State.rerate s rate change).field = s.field ∧
    (State.rerate s rate change).can = s.can := by
  simp [State.rerate]

@[simp] theorem State.ftFirst_keeps (s : State) (o : EpochObs) :
    (State.ftFirst s o).pending = s.pending ∧ (State.ftFirst s o).free = s.free ∧ (State.ftFirst s o).dev = s.dev ∧
    (State.ftFirst s o).pwr = s.pwr ∧ (State.ftFirst s o).sag = s.sag ∧ (State.ftFirst s o).cfg = s.cfg ∧
    (State.ftFirst s o).flash = s.flash ∧ (State.ftFirst s o).acts = s.acts ∧
    (State.ftFirst s o).valves = s.valves ∧ (State.ftFirst s o).tiles = s.tiles ∧
    (State.ftFirst s o).planner = s.planner ∧ (State.ftFirst s o).loops = s.loops ∧
    (State.ftFirst s o).field = s.field ∧ (State.ftFirst s o).can = s.can := by
  simp [State.ftFirst]

@[simp] theorem State.removeError_keeps (s : State) (o : EpochObs) :
    (State.removeError s o).pending = s.pending ∧ (State.removeError s o).free = s.free ∧
    (State.removeError s o).dev = s.dev ∧ (State.removeError s o).pwr = s.pwr ∧
    (State.removeError s o).sag = s.sag ∧ (State.removeError s o).cfg = s.cfg ∧
    (State.removeError s o).flash = s.flash ∧ (State.removeError s o).acts = s.acts ∧
    (State.removeError s o).valves = s.valves ∧ (State.removeError s o).tiles = s.tiles ∧
    (State.removeError s o).planner = s.planner ∧ (State.removeError s o).loops = s.loops ∧
    (State.removeError s o).field = s.field ∧ (State.removeError s o).can = s.can := by
  simp [State.removeError]

@[simp] theorem State.coastEnd_keeps (s : State) (o : EpochObs) :
    (State.coastEnd s o).pending = s.pending ∧ (State.coastEnd s o).free = s.free ∧
    (State.coastEnd s o).dev = s.dev ∧ (State.coastEnd s o).pwr = s.pwr ∧ (State.coastEnd s o).sag = s.sag ∧
    (State.coastEnd s o).cfg = s.cfg ∧ (State.coastEnd s o).flash = s.flash ∧ (State.coastEnd s o).acts = s.acts ∧
    (State.coastEnd s o).valves = s.valves ∧ (State.coastEnd s o).tiles = s.tiles ∧
    (State.coastEnd s o).planner = s.planner ∧ (State.coastEnd s o).loops = s.loops ∧
    (State.coastEnd s o).field = s.field ∧ (State.coastEnd s o).can = s.can := by
  simp [State.coastEnd]

@[simp] theorem State.clockEpoch_keeps (s : State) (o : EpochObs) (ok : Bool) :
    (State.clockEpoch s o ok).pending = s.pending ∧ (State.clockEpoch s o ok).free = s.free ∧
    (State.clockEpoch s o ok).dev = s.dev ∧ (State.clockEpoch s o ok).pwr = s.pwr ∧
    (State.clockEpoch s o ok).sag = s.sag ∧ (State.clockEpoch s o ok).cfg = s.cfg ∧
    (State.clockEpoch s o ok).flash = s.flash ∧ (State.clockEpoch s o ok).acts = s.acts ∧
    (State.clockEpoch s o ok).valves = s.valves ∧ (State.clockEpoch s o ok).tiles = s.tiles ∧
    (State.clockEpoch s o ok).planner = s.planner ∧ (State.clockEpoch s o ok).loops = s.loops ∧
    (State.clockEpoch s o ok).field = s.field ∧ (State.clockEpoch s o ok).can = s.can := by
  unfold State.clockEpoch; dsimp only; (repeat' split) <;> simp_all

@[simp] theorem State.writeRaw_keeps (s : State) (o : EpochObs) (ms : List Meas) (noSol : Bool) :
    (State.writeRaw s o ms noSol).pending = s.pending ∧ (State.writeRaw s o ms noSol).free = s.free ∧
    (State.writeRaw s o ms noSol).time = s.time ∧ (State.writeRaw s o ms noSol).dev = s.dev ∧
    (State.writeRaw s o ms noSol).pwr = s.pwr ∧ (State.writeRaw s o ms noSol).sag = s.sag ∧
    (State.writeRaw s o ms noSol).cfg = s.cfg ∧ (State.writeRaw s o ms noSol).flash = s.flash ∧
    (State.writeRaw s o ms noSol).acts = s.acts ∧ (State.writeRaw s o ms noSol).tiles = s.tiles ∧
    (State.writeRaw s o ms noSol).planner = s.planner ∧ (State.writeRaw s o ms noSol).loops = s.loops ∧
    (State.writeRaw s o ms noSol).field = s.field ∧ (State.writeRaw s o ms noSol).can = s.can := by
  simp [State.writeRaw]

@[simp] theorem State.skyOrbits_keeps (s : State) (ms : List Meas) :
    (State.skyOrbits s ms).pending = s.pending ∧ (State.skyOrbits s ms).free = s.free ∧
    (State.skyOrbits s ms).time = s.time ∧ (State.skyOrbits s ms).dev = s.dev ∧ (State.skyOrbits s ms).pwr = s.pwr ∧
    (State.skyOrbits s ms).sag = s.sag ∧ (State.skyOrbits s ms).host = s.host ∧ (State.skyOrbits s ms).cfg = s.cfg ∧
    (State.skyOrbits s ms).flash = s.flash ∧ (State.skyOrbits s ms).acts = s.acts ∧
    (State.skyOrbits s ms).cnt = s.cnt ∧ (State.skyOrbits s ms).valves = s.valves ∧
    (State.skyOrbits s ms).tiles = s.tiles ∧ (State.skyOrbits s ms).planner = s.planner ∧
    (State.skyOrbits s ms).loops = s.loops ∧ (State.skyOrbits s ms).field = s.field ∧
    (State.skyOrbits s ms).can = s.can := by
  simp [State.skyOrbits]

@[simp] theorem State.epoch_keeps (s : State) (o : EpochObs) :
    (State.epoch s o).pending = s.pending ∧ (State.epoch s o).free = s.free ∧ (State.epoch s o).dev = s.dev ∧
    (State.epoch s o).sag = s.sag ∧ (State.epoch s o).cfg = s.cfg ∧ (State.epoch s o).flash = s.flash ∧
    (State.epoch s o).acts = s.acts ∧ (State.epoch s o).tiles = s.tiles ∧ (State.epoch s o).planner = s.planner ∧
    (State.epoch s o).loops = s.loops ∧ (State.epoch s o).can = s.can := by
  simp [State.epoch]

@[simp] theorem State.updAid_keeps (s : State) (f : Aid → Aid) :
    (State.updAid s f).pending = s.pending ∧ (State.updAid s f).free = s.free ∧ (State.updAid s f).time = s.time ∧
    (State.updAid s f).dev = s.dev ∧ (State.updAid s f).pwr = s.pwr ∧ (State.updAid s f).sag = s.sag ∧
    (State.updAid s f).host = s.host ∧ (State.updAid s f).cfg = s.cfg ∧ (State.updAid s f).flash = s.flash ∧
    (State.updAid s f).acts = s.acts ∧ (State.updAid s f).cnt = s.cnt ∧ (State.updAid s f).valves = s.valves ∧
    (State.updAid s f).tiles = s.tiles ∧ (State.updAid s f).planner = s.planner ∧
    (State.updAid s f).loops = s.loops ∧ (State.updAid s f).field = s.field ∧ (State.updAid s f).can = s.can := by
  exact ⟨rfl, rfl, rfl, rfl, rfl, rfl, rfl, rfl, rfl, rfl, rfl, rfl, rfl, rfl, rfl, rfl, rfl⟩

@[simp] theorem State.aidOrbits_keeps (s : State) (w : Waiting) (eph : Bool) (bs : List Byte) :
    (State.aidOrbits s w eph bs).pending = s.pending ∧ (State.aidOrbits s w eph bs).free = s.free ∧
    (State.aidOrbits s w eph bs).time = s.time ∧ (State.aidOrbits s w eph bs).dev = s.dev ∧
    (State.aidOrbits s w eph bs).pwr = s.pwr ∧ (State.aidOrbits s w eph bs).sag = s.sag ∧
    (State.aidOrbits s w eph bs).cfg = s.cfg ∧ (State.aidOrbits s w eph bs).flash = s.flash ∧
    (State.aidOrbits s w eph bs).acts = s.acts ∧ (State.aidOrbits s w eph bs).valves = s.valves ∧
    (State.aidOrbits s w eph bs).tiles = s.tiles ∧ (State.aidOrbits s w eph bs).planner = s.planner ∧
    (State.aidOrbits s w eph bs).loops = s.loops ∧ (State.aidOrbits s w eph bs).field = s.field ∧
    (State.aidOrbits s w eph bs).can = s.can := by
  simp [State.aidOrbits]

end Sys2Proof.Machine
end

