-- ==== Sys2Proof/Laws/FrameChecks.lean ====
section
/-! SUPPORT. What the operations of Machine/Checks.lean leave alone: one lemma per operation, the conjunction of
every field of State that it keeps. -/

set_option Elab.async false

open Sys2Proof Sys2Proof.Machine

namespace Sys2Proof.Machine

@[simp] theorem State.lsStuck_keeps (s : State) (n : Nat) (high v : Bool) :
    (State.lsStuck s n high v).pending = s.pending ∧ (State.lsStuck s n high v).free = s.free ∧
    (State.lsStuck s n high v).time = s.time ∧ (State.lsStuck s n high v).dev = s.dev ∧
    (State.lsStuck s n high v).pwr = s.pwr ∧ (State.lsStuck s n high v).sag = s.sag ∧
    (State.lsStuck s n high v).host = s.host ∧ (State.lsStuck s n high v).cfg = s.cfg ∧
    (State.lsStuck s n high v).flash = s.flash ∧ (State.lsStuck s n high v).acts = s.acts ∧
    (State.lsStuck s n high v).cnt = s.cnt ∧ (State.lsStuck s n high v).valves = s.valves ∧
    (State.lsStuck s n high v).tiles = s.tiles ∧ (State.lsStuck s n high v).planner = s.planner ∧
    (State.lsStuck s n high v).nav = s.nav ∧ (State.lsStuck s n high v).field = s.field ∧
    (State.lsStuck s n high v).can = s.can := by
  simp [State.lsStuck]

end Sys2Proof.Machine
end

