-- ==== Sys2Proof/Laws/FrameFetch.lean ====
section
/-! SUPPORT. What the operations of Machine/Fetch.lean leave alone: one lemma per operation, the conjunction of
every field of State that it keeps. -/

set_option Elab.async false

open Sys2Proof Sys2Proof.Machine

namespace Sys2Proof.Machine

@[simp] theorem State.rtcmTakes_keeps (s : State) (ds : List Desc) :
    (State.rtcmTakes s ds).pending = s.pending ∧ (State.rtcmTakes s ds).free = s.free ∧
    (State.rtcmTakes s ds).time = s.time ∧ (State.rtcmTakes s ds).dev = s.dev ∧ (State.rtcmTakes s ds).pwr = s.pwr ∧
    (State.rtcmTakes s ds).sag = s.sag ∧ (State.rtcmTakes s ds).cfg = s.cfg ∧
    (State.rtcmTakes s ds).flash = s.flash ∧ (State.rtcmTakes s ds).acts = s.acts ∧
    (State.rtcmTakes s ds).valves = s.valves ∧ (State.rtcmTakes s ds).tiles = s.tiles ∧
    (State.rtcmTakes s ds).planner = s.planner ∧ (State.rtcmTakes s ds).loops = s.loops ∧
    (State.rtcmTakes s ds).field = s.field ∧ (State.rtcmTakes s ds).can = s.can := by
  simp [State.rtcmTakes]

@[simp] theorem State.cantxRead_keeps (s : State) (b : Nat) (ds : List Desc) :
    (State.cantxRead s b ds).pending = s.pending ∧ (State.cantxRead s b ds).free = s.free ∧
    (State.cantxRead s b ds).time = s.time ∧ (State.cantxRead s b ds).dev = s.dev ∧
    (State.cantxRead s b ds).pwr = s.pwr ∧ (State.cantxRead s b ds).sag = s.sag ∧
    (State.cantxRead s b ds).cfg = s.cfg ∧ (State.cantxRead s b ds).flash = s.flash ∧
    (State.cantxRead s b ds).acts = s.acts ∧ (State.cantxRead s b ds).valves = s.valves ∧
    (State.cantxRead s b ds).tiles = s.tiles ∧ (State.cantxRead s b ds).planner = s.planner ∧
    (State.cantxRead s b ds).nav = s.nav ∧ (State.cantxRead s b ds).loops = s.loops ∧
    (State.cantxRead s b ds).field = s.field := by
  simp [State.cantxRead]

@[simp] theorem State.cantxTake_keeps (s : State) (b : Nat) :
    (State.cantxTake s b).pending = s.pending ∧ (State.cantxTake s b).free = s.free ∧
    (State.cantxTake s b).time = s.time ∧ (State.cantxTake s b).dev = s.dev ∧ (State.cantxTake s b).pwr = s.pwr ∧
    (State.cantxTake s b).sag = s.sag ∧ (State.cantxTake s b).cfg = s.cfg ∧ (State.cantxTake s b).flash = s.flash ∧
    (State.cantxTake s b).acts = s.acts ∧ (State.cantxTake s b).valves = s.valves ∧
    (State.cantxTake s b).tiles = s.tiles ∧ (State.cantxTake s b).planner = s.planner ∧
    (State.cantxTake s b).nav = s.nav ∧ (State.cantxTake s b).loops = s.loops ∧
    (State.cantxTake s b).field = s.field := by
  simp [State.cantxTake]

@[simp] theorem State.ringFailed_keeps (s : State) (n : Nat) (addr : DWord) :
    (State.ringFailed s n addr).pending = s.pending ∧ (State.ringFailed s n addr).free = s.free ∧
    (State.ringFailed s n addr).time = s.time ∧ (State.ringFailed s n addr).dev = s.dev ∧
    (State.ringFailed s n addr).pwr = s.pwr ∧ (State.ringFailed s n addr).sag = s.sag ∧
    (State.ringFailed s n addr).cfg = s.cfg ∧ (State.ringFailed s n addr).flash = s.flash ∧
    (State.ringFailed s n addr).acts = s.acts ∧ (State.ringFailed s n addr).valves = s.valves ∧
    (State.ringFailed s n addr).tiles = s.tiles ∧ (State.ringFailed s n addr).planner = s.planner ∧
    (State.ringFailed s n addr).nav = s.nav ∧ (State.ringFailed s n addr).loops = s.loops ∧
    (State.ringFailed s n addr).field = s.field ∧ (State.ringFailed s n addr).can = s.can := by
  simp [State.ringFailed]

@[simp] theorem State.bufferLost_keeps (s : State) (w : Waiting) :
    (State.bufferLost s w).pending = s.pending ∧ (State.bufferLost s w).time = s.time ∧
    (State.bufferLost s w).dev = s.dev ∧ (State.bufferLost s w).pwr = s.pwr ∧ (State.bufferLost s w).sag = s.sag ∧
    (State.bufferLost s w).cfg = s.cfg ∧ (State.bufferLost s w).flash = s.flash ∧
    (State.bufferLost s w).valves = s.valves ∧ (State.bufferLost s w).tiles = s.tiles ∧
    (State.bufferLost s w).planner = s.planner ∧ (State.bufferLost s w).nav = s.nav ∧
    (State.bufferLost s w).loops = s.loops ∧ (State.bufferLost s w).field = s.field ∧
    (State.bufferLost s w).can = s.can := by
  simp [State.bufferLost]

end Sys2Proof.Machine
end

