-- ==== Sys2Proof/Laws/Fault.lean ====
section
/-! SUPPORT. What entering a state and a module-wide detection leave behind, for statements about FAULT. -/

set_option Elab.async false

open Sys2Proof Sys2Proof.Machine

namespace Sys2Proof.Machine

/-- Entering a state from one other than FAULT leaves Saggar alone. -/
theorem State.enter_sag (s : State) (new : DevState) (cause : Nat) (h : s.dev.st ≠ .fault) :
    (s.enter new cause).sag = s.sag := by
  unfold State.enter; cases new <;> simp [h]

theorem State.addCause_mem (s : State) (c x : FCause) (h : x ∈ s.dev.causes ∨ x = c) :
    x ∈ (s.addCause c).dev.causes := by
  unfold State.addCause
  split
  · rcases h with h | rfl
    · exact h
    · rename_i h2; simpa using h2
  · simp; rcases h with h | h <;> simp [h]

@[simp] theorem State.addCause_st (s : State) (c : FCause) : (s.addCause c).dev.st = s.dev.st := by
  unfold State.addCause; split <;> simp

@[simp] theorem State.wake_st (s : State) :
    s.wake.dev.st = s.dev.st ∧ s.wake.dev.causes = s.dev.causes ∧ s.wake.dev.grace = s.dev.grace := by
  unfold State.wake; split <;> simp

@[simp] theorem State.recordOrphan_st (s : State) (m : Nat) :
    (s.recordOrphan m).dev.st = s.dev.st ∧ (s.recordOrphan m).dev.causes = s.dev.causes := by
  simp [State.recordOrphan]

theorem State.toFault_st (s : State) (k : Nat) (h : s.dev.st.booted) : (s.toFault k).dev.st = .fault := by
  unfold State.toFault
  split
  · exact absurd (by assumption) h.1
  · exact absurd (by assumption) h.2
  · assumption
  · simp [State.enter_dev]

@[simp] theorem State.toFault_sag (s : State) (k : Nat) : (s.toFault k).sag = s.sag := by
  unfold State.toFault
  split
  · rfl
  · rfl
  · rfl
  · dsimp only
    rw [State.enter_sag]
    · split <;> simp
    · split <;> simp_all

theorem State.toFault_causes (s : State) (k : Nat) (c : FCause) (h : c ∈ s.dev.causes) :
    c ∈ (s.toFault k).dev.causes := by
  unfold State.toFault
  split
  · exact h
  · exact h
  · exact h
  · dsimp only
    rw [State.enter_dev]
    split
    · rename_i g _
      have : c ∈ ((s.recordOrphan g.start).addCause .orphan).dev.causes := State.addCause_mem _ _ _ (.inl (by simpa using h))
      simpa using this
    · simpa using h

@[simp] theorem updLane_a (s : State) (lane : Nat) (f : Lane → Lane) :
    (s.updLane lane f).sag.a = if lane = 1 then s.sag.a else f s.sag.a := rfl
@[simp] theorem updLane_b (s : State) (lane : Nat) (f : Lane → Lane) :
    (s.updLane lane f).sag.b = if lane = 0 then s.sag.b else f s.sag.b := rfl
/-- The record of a detection leaves what each lane forces and has detected (R451). -/
@[simp] theorem State.detectRec_lanes (s : State) (k lane : Nat) :
    (s.detectRec k lane).sag.a.force = s.sag.a.force ∧ (s.detectRec k lane).sag.b.force = s.sag.b.force ∧
      (s.detectRec k lane).sag.a.detected = s.sag.a.detected ∧
      (s.detectRec k lane).sag.b.detected = s.sag.b.detected := by
  unfold State.detectRec
  simp only [State.raise_keeps, updLane_a, updLane_b]
  refine ⟨?_, ?_, ?_, ?_⟩ <;> split <;> simp [State.sagRecord, State.bufferRec]

/-- A module-wide detection of a booted module ends in FAULT with its cause (R443, R451, R452). -/
theorem State.moduleWide_inFault (s : State) (c : FCause) (lane : Nat) (h : s.dev.st.booted)
    (hk : c.klass < 15) :
    InFault c lane (s.moduleWide c lane) := by
  have bit : (BitVec.ofNat 15 (2 ^ c.klass)).getLsbD c.klass = true := by
    rw [BitVec.getLsbD_ofNat]; simp [hk, Nat.testBit_two_pow_self]
  refine ⟨?_, ?_, ?_, ?_⟩
  · unfold State.moduleWide; apply State.toFault_st; simp; exact h
  · unfold State.moduleWide; exact State.toFault_causes _ _ _ (State.addCause_mem _ _ _ (.inr rfl))
  · unfold State.moduleWide State.noteClass
    simp only [Sag.inLane, State.toFault_sag, State.addCause_keeps]
    constructor <;> intro hl <;> split <;> (try split) <;> simp [hl]
  · unfold State.moduleWide State.noteClass
    simp only [Sag.inLane, State.toFault_sag, State.addCause_keeps]
    generalize BitVec.ofNat 15 (2 ^ c.klass) = m at bit ⊢
    constructor <;> intro hl <;> split <;> (try split) <;> simp [hl, bit]

end Sys2Proof.Machine
end

