-- ==== Sys2Proof/Laws/Memory.lean ====
section
/-! SUPPORT. Tile SRAM as a list of bytes: a read after a write, the bytes that a write leaves alone, and the
canonical form, which every operation keeps. -/

set_option Elab.async false

namespace Sys2Proof.Machine

/-- The canonical form as a statement: no entry 0, addresses strictly rising. -/
abbrev Memory.Canon (m : List Host.Cell) : Prop :=
  (∀ c ∈ m, c.2 ≠ 0) ∧ m.Pairwise (fun a b => a.1 < b.1)

theorem Memory.rising_cons (c : Host.Cell) (m : List Host.Cell) :
    ((c :: m).zip ((c :: m).drop 1)).all (fun p => decide (p.1.1 < p.2.1)) =
      ((m.head?.all (fun d => decide (c.1 < d.1))) && (m.zip (m.drop 1)).all (fun p => decide (p.1.1 < p.2.1))) := by
  cases m <;> simp

theorem Memory.rising_pairwise (m : List Host.Cell) :
    (m.zip (m.drop 1)).all (fun p => decide (p.1.1 < p.2.1)) = true ↔ m.Pairwise (fun a b => a.1 < b.1) := by
  induction m with
  | nil => simp
  | cons c r ih =>
    rw [Memory.rising_cons, Bool.and_eq_true, ih, List.pairwise_cons]
    constructor
    · rintro ⟨h, hp⟩
      refine ⟨?_, hp⟩
      cases r with
      | nil => simp
      | cons d r =>
        simp only [List.head?_cons, Option.all_some, decide_eq_true_eq] at h
        intro x hx
        rcases List.mem_cons.mp hx with rfl | hx
        · exact h
        · exact Nat.lt_trans h ((List.pairwise_cons.mp hp).1 x hx)
    · rintro ⟨h, hp⟩
      refine ⟨?_, hp⟩
      cases r with
      | nil => simp
      | cons d r => simpa using h d (by simp)

theorem Memory.wf_iff (m : List Host.Cell) : Memory.wf m = true ↔ Memory.Canon m := by
  unfold Memory.wf
  rw [Bool.and_eq_true, Memory.rising_pairwise]
  simp

/-- Every address of a memory after a write is one of the memory's or the one written. -/
theorem Memory.write_mem (m : List Host.Cell) (a : Nat) (x : Byte) (c : Host.Cell) (h : c ∈ Memory.write m a x) :
    c ∈ m ∨ c = (a, x) ∧ x ≠ 0 := by
  induction m with
  | nil => by_cases hx : x = 0 <;> simp_all [Memory.write]
  | cons d r ih =>
    simp only [Memory.write] at h
    (repeat' split at h) <;> simp only [List.mem_cons] at h ⊢ <;> tauto

theorem Memory.write_canon (m : List Host.Cell) (a : Nat) (x : Byte) (h : Memory.Canon m) :
    Memory.Canon (Memory.write m a x) := by
  refine ⟨fun c hc => ?_, ?_⟩
  · rcases Memory.write_mem m a x c hc with hm | ⟨rfl, hx⟩
    · exact h.1 c hm
    · exact hx
  · obtain ⟨-, h⟩ := h
    induction m with
    | nil => simp only [Memory.write]; split <;> simp
    | cons d r ih =>
      obtain ⟨hd, hr⟩ := List.pairwise_cons.mp h
      simp only [Memory.write]
      split
      · refine List.pairwise_cons.mpr ⟨fun c hc => ?_, ih hr⟩
        rcases Memory.write_mem r a x c hc with hm | ⟨rfl, -⟩
        · exact hd c hm
        · assumption
      · split
        · rename_i h1 h2
          split
          · exact hr
          · exact List.pairwise_cons.mpr ⟨fun c hc => h2 ▸ hd c hc, hr⟩
        · rename_i h1 h2
          split
          · exact h
          · have hlt : a < d.1 := by omega
            refine List.pairwise_cons.mpr ⟨fun c hc => ?_, h⟩
            rcases List.mem_cons.mp hc with rfl | hc
            · exact hlt
            · exact Nat.lt_trans hlt (hd c hc)

theorem Memory.write_wf (m : List Host.Cell) (a : Nat) (x : Byte) (h : Memory.wf m = true) :
    Memory.wf (Memory.write m a x) = true := by
  rw [Memory.wf_iff] at *; exact Memory.write_canon m a x h

theorem Memory.writes_wf (bs : List Byte) (m : List Host.Cell) (a : Nat) (h : Memory.wf m = true) :
    Memory.wf (Memory.writes m a bs) = true := by
  induction bs generalizing m a with
  | nil => exact h
  | cons x r ih => exact ih _ _ (Memory.write_wf m a x h)

/-- An address below every entry reads as an unlisted one. -/
theorem Memory.read_below (m : List Host.Cell) (a : Nat) (h : ∀ c ∈ m, a < c.1) : Memory.read m a = 0 := by
  cases m with
  | nil => rfl
  | cons d r =>
    have hd := h d (by simp)
    simp only [Memory.read]
    rw [if_neg (by omega), if_pos hd]

/-- A read after a write of a canonical memory: the byte written, and every other byte as before. -/
theorem Memory.read_write (m : List Host.Cell) (a b : Nat) (x : Byte)
    (h : m.Pairwise (fun p q => p.1 < q.1)) :
    Memory.read (Memory.write m a x) b = if b = a then x else Memory.read m b := by
  induction m with
  | nil =>
    by_cases hx : x = 0
    · subst hx; simp [Memory.write, Memory.read]
    · simp only [Memory.write, if_neg hx, Memory.read]
      (repeat' split) <;> first | rfl | omega
  | cons d r ih =>
    obtain ⟨hd, hr⟩ := List.pairwise_cons.mp h
    specialize ih hr
    simp only [Memory.write]
    split
    · simp only [Memory.read, ih]
      (repeat' split) <;> first | rfl | omega
    · split
      · rename_i h1 h2
        have hb : Memory.read r a = 0 := Memory.read_below r a (fun c hc => h2 ▸ hd c hc)
        have hlt : ∀ b, b < d.1 → Memory.read r b = 0 :=
          fun b hb => Memory.read_below r b (fun c hc => Nat.lt_trans hb (hd c hc))
        split
        · rename_i hx
          simp only [Memory.read]
          split
          · rename_i h3; rw [h3, hb, hx]
          · rename_i h3
            rw [if_neg (by omega)]
            split
            · exact hlt b (by assumption)
            · rfl
        · simp only [Memory.read]
          (repeat' split) <;> first | rfl | omega
      · rename_i h1 h2
        split
        · rename_i hx
          split
          · rename_i h3; simp only [Memory.read]; rw [if_neg (by omega), if_pos (by omega), hx]
          · rfl
        · simp only [Memory.read]
          (repeat' split) <;> first | rfl | omega

/-- A byte outside the bytes written reads as before. -/
theorem Memory.read_writes_outside (bs : List Byte) (m : List Host.Cell) (a b : Nat) (h : Memory.wf m = true)
    (hb : b < a ∨ a + bs.length ≤ b) : Memory.read (Memory.writes m a bs) b = Memory.read m b := by
  induction bs generalizing m a with
  | nil => rfl
  | cons x r ih =>
    simp only [List.length_cons] at hb
    rw [Memory.writes, ih _ _ (Memory.write_wf m a x h) (by omega),
      Memory.read_write m a b x ((Memory.wf_iff m).mp h).2, if_neg (by omega)]

/-- A byte inside the bytes written reads as written. -/
theorem Memory.read_writes_inside (bs : List Byte) (m : List Host.Cell) (a i : Nat) (h : Memory.wf m = true)
    (hi : i < bs.length) : Memory.read (Memory.writes m a bs) (a + i) = bs[i] := by
  induction bs generalizing m a i with
  | nil => simp at hi
  | cons x r ih =>
    rw [Memory.writes]
    cases i with
    | zero =>
      rw [Memory.read_writes_outside r _ (a + 1) _ (Memory.write_wf m a x h) (by omega)]
      rw [Memory.read_write m a _ x ((Memory.wf_iff m).mp h).2]; simp
    | succ i =>
      have := ih (Memory.write m a x) (a + 1) i (Memory.write_wf m a x h) (by simpa using hi)
      simpa [Nat.add_assoc, Nat.add_comm 1] using this

@[simp] theorem Memory.reads_length (m : List Host.Cell) (a k : Nat) : (Memory.reads m a k).length = k := by
  simp [Memory.reads]

end Sys2Proof.Machine
end

