-- ==== Sys2Proof/Laws/Ops.lean ====
section
/-! SUPPORT. What the shared operations answer: taking a command, counting, raising an event, and reading one
element of a list in State after an update of it. -/

set_option Elab.async false

namespace Sys2Proof.Machine

/-! ### Taking a command -/

/-- Without a grace that has run out, nothing comes before a command (R35). -/
theorem State.graceFirst_eq (s : State) (h : ∀ g, s.dev.grace = some g → s.now < g.endsAt) : s.graceFirst = s := by
  unfold State.graceFirst
  split
  next g hg => exact if_neg (by have := h g hg; omega)
  next => rfl

/-- A command that the module cannot take stays in the ring: time passes, and a grace that has run out ends. -/
theorem State.command_not_taken (s : State) (dt : Nat) (op : Byte) (cmd : Instr) (h : Hdr) (body : State → Verdict)
    (hc : (s.advance dt).graceFirst.canTake h.fence = false) :
    s.command dt op cmd h body = (s.advance dt).graceFirst := by
  simp [State.command, hc]

theorem State.command_taken (s : State) (dt : Nat) (op : Byte) (cmd : Instr) (h : Hdr) (body : State → Verdict)
    (hc : (s.advance dt).graceFirst.canTake h.fence = true) :
    s.command dt op cmd h body = (s.advance dt).graceFirst.take op cmd h body := by
  simp [State.command, hc]

/-- Everything that taking a command can come to (R360, R374). -/
theorem State.take_cases (s : State) (op : Byte) (cmd : Instr) (h : Hdr) (body : State → Verdict) :
    ∃ t, t = (s.updRing 0 (fun r => { r with mod := r.mod + 1 })).updHost (fun x => { x with idxChanged := true }) ∧
      ((t.admits op.toNat = false ∧ s.take op cmd h body = t.complete op h (s.ring 0).mod .wrongState 0) ∨
       (t.admits op.toNat = true ∧ ∃ st res u, body t = .done st res u ∧
          s.take op cmd h body = u.complete op h (s.ring 0).mod st res) ∨
       (t.admits op.toNat = true ∧ ∃ dma aux u, body t = .wait dma aux u ∧
          s.take op cmd h body = (if dma then u.emit (.bufferRead (bufferOf cmd)) else u).updHost (fun x =>
            { x with outstanding := x.outstanding ++
              [{ cmd := cmd, op := op, h := h, idx := (s.ring 0).mod, dma := dma, aux := aux, mt := u.now }] }))) := by
  refine ⟨_, rfl, ?_⟩
  unfold State.take
  generalize (s.updRing 0 _).updHost _ = t
  cases ha : t.admits op.toNat with
  | false => simp [ha]
  | true =>
    cases hb : body t with
    | done st res u => exact .inr (.inl ⟨rfl, st, res, u, rfl, by simp [ha, hb]⟩)
    | wait dma aux u => exact .inr (.inr ⟨rfl, dma, aux, u, rfl, by cases dma <;> simp [ha, hb, State.updHost]⟩)

/-- What the taking of a command keeps is what its body keeps. -/
theorem State.take_time (s : State) (op : Byte) (cmd : Instr) (h : Hdr) (body : State → Verdict)
    (hd : ∀ t st res u, body t = .done st res u → u.time = t.time)
    (hw : ∀ t dma aux u, body t = .wait dma aux u → u.time = t.time) : (s.take op cmd h body).time = s.time := by
  obtain ⟨t, ht, ⟨-, h⟩ | ⟨-, st, res, u, hb, h⟩ | ⟨-, dma, aux, u, hb, h⟩⟩ := State.take_cases s op cmd h body <;>
    subst ht <;> rw [h]
  · simp
  · simpa using hd _ _ _ _ hb
  · simpa using hw _ _ _ _ hb

/-! ### Counters -/

/-- A saturating count never falls (R395). -/
theorem satInc_le (w : Word) (k : Nat) : w ≤ satInc w k := by
  have := w.isLt
  rw [BitVec.le_def]
  simp only [satInc, BitVec.toNat_ofNat]
  rw [Nat.mod_eq_of_lt (by omega)]
  omega

@[simp] theorem State.count_length (s : State) (i k : Nat) : (s.count i k).cnt.length = s.cnt.length := by
  simp [State.count]

theorem State.count_mono (s : State) (i k j : Nat) : s.cnt.getD j 0 ≤ (s.count i k).cnt.getD j 0 := by
  simp only [State.count, List.getD_eq_getElem?_getD, List.getElem?_modify]
  cases h : s.cnt[j]? with
  | none => simp
  | some w =>
    by_cases hij : i = j
    · simpa [hij] using satInc_le w k
    · simp [hij]

/-! ### One element of a list in State -/

theorem getD_modify {α : Type} (l : List α) (i j : Nat) (f : α → α) (d : α) (h : i < l.length) :
    (l.modify i f).getD j d = if j = i then f (l.getD j d) else l.getD j d := by
  simp only [List.getD_eq_getElem?_getD, List.getElem?_modify]
  by_cases hij : i = j
  · subst hij; simp [h]
  · have : j ≠ i := fun e => hij e.symm
    simp [hij, this]

theorem State.chan_updChan (s : State) (ch j : Nat) (f : Chan → Chan) (h : ch < s.valves.ch.length) :
    (s.updChan ch f).chan j = if j = ch then f (s.chan j) else s.chan j := getD_modify _ _ _ f _ h

theorem State.ctx_updCtx (s : State) (ch j : Nat) (f : Ctx → Ctx) (h : ch < s.valves.ch.length) :
    (s.updCtx ch f).ctx j = if j = ch then f (s.ctx j) else s.ctx j := by
  simp only [State.ctx, State.updCtx, State.chan_updChan s ch j _ h]; split <;> rfl

theorem State.group_updGroup (s : State) (g j : Nat) (f : Group → Group) (h : g < s.valves.grp.length) :
    (s.updGroup g f).group j = if j = g then f (s.group j) else s.group j := getD_modify _ _ _ f _ h

theorem State.quad_updQuad (s : State) (q j : Nat) (f : Quad → Quad) (h : q < s.valves.quad.length) :
    (s.updQuad q f).quad j = if j = q then f (s.quad j) else s.quad j := getD_modify _ _ _ f _ h

theorem State.ring_updRing (s : State) (n j : Nat) (f : Ring → Ring) (h : n < s.host.rings.length) :
    (s.updRing n f).ring j = if j = n then f (s.ring j) else s.ring j := getD_modify _ _ _ f _ h

theorem State.vec_updVec (s : State) (v j : Nat) (f : Vec → Vec) (h : v < s.host.vecs.length) :
    (s.updVec v f).vec j = if j = v then f (s.vec j) else s.vec j := getD_modify _ _ _ f _ h

/-! ### Events -/

/-- Raising an event writes it to the EVT ring, or keeps it in the module's queue (R362). -/
theorem State.raise_cases (s : State) (code subject : Nat) (data : List (Nat × Nat × Nat)) (urgent : Bool) :
    ∃ e : Evt, e.code = BitVec.ofNat 16 code ∧ e.subject = BitVec.ofNat 16 subject ∧ e.data = resultOf data ∧
      e.mt = BitVec.ofNat 64 s.now ∧ e.urgent = urgent ∧
      ((s.host.events = [] ∧ s.canWrite 2 1 = true ∧ s.raise code subject data urgent = s.writeEvt e) ∨
       ((s.host.events ≠ [] ∨ s.canWrite 2 1 = false) ∧ s.raise code subject data urgent = s.queueEvt e)) := by
  refine ⟨{ code := BitVec.ofNat 16 code, subject := BitVec.ofNat 16 subject, mt := BitVec.ofNat 64 s.now,
            data := resultOf data, urgent := urgent }, rfl, rfl, rfl, rfl, rfl, ?_⟩
  unfold State.raise
  cases he : s.host.events with
  | nil => cases hc : s.canWrite 2 1 <;> simp
  | cons e r => simp

end Sys2Proof.Machine
end

