-- ==== Sys2Proof/Tests/Slice0.lean ====
section
/-! SUPPORT. The model's own tests: the WellFormed smoke, decoding, the spec's worked examples, and for every
statement with hypotheses states and operands that meet them, clause by clause. -/

set_option Elab.async false

/-! ### Small states -/

namespace Sys2Proof.Witness

open Sys2Proof Sys2Proof.Machine

/-- A bound module in STANDBY, one tick before MT 250,000,000, with one command announced and room for its answer. -/
def w0 : State :=
  { time := { running := true, mt := 249999999, up := 249999999 }
    dev := { st := .standby, bound := true, bar0Ready := true, strapsB := [7, 7, 7], bootCount := 1 }
    sag := { a := { force := false }, b := { force := false } }
    host :=
      { link := true, bme := true, mse := true
        rings := [{ en := true, host := 1 }, { en := true, vec := 1 }] ++ List.replicate 14 {} } }

/-- The device state changed. -/
def wSt (d : DevState) (s : State) : State := { s with dev := { s.dev with st := d } }

/-- One configuration field set. -/
def wCfg (f : Fld) (i : Nat) (v : Int) (s : State) : State :=
  { s with cfg := { s.cfg with vals := { s.cfg.vals with vals := (f, i, v) :: s.cfg.vals.vals } } }

/-- MT one tick before `m`. -/
def wAt (m : Nat) (s : State) : State := { s with time := { s.time with mt := m - 1, up := m - 1 } }

/-- One ring changed. -/
def wRing (n : Nat) (f : Ring → Ring) (s : State) : State := s.updRing n f

/-- One waiting command. -/
def wWait (w : Waiting) (s : State) : State := { s with host := { s.host with outstanding := [w] } }

/-- One running activity. -/
def wAct (a : Activity) (s : State) : State := { s with acts := [a] }

/-- The smallest image that passes the checks of R404: one section with an empty body. -/
def wImg : List Byte :=
  [0xF1, 0xC0, 0x96, 0x5D, 1, 0, 1, 0, 96, 0, 0, 0, 1, 0, 0, 0, 1, 0, 0, 0, 170, 2, 243, 189, 195, 201, 152, 178]
    ++ List.replicate 36 0 ++ [1, 0, 0, 0, 80, 0, 0, 0] ++ List.replicate 24 0

/-- That image in a slot. -/
def wSlot (n : Nat) (s : State) : State :=
  { s with cfg := { s.cfg with slots := s.cfg.slots.set n { filled := true, image := wImg, digest := 0xB298C9C3BDF302AA } } }

/-- An IMU profile of one 8-byte burst in force, a burst under way. -/
def wImu : State :=
  { w0 with
    cfg := { w0.cfg with
      vals := { blobs := [(.imuProfile, 0,
        [0, 0, 8] ++ List.replicate 42 0 ++ [0, 16, 0, 0, 0, 0] ++ [0, 0, 0, 0, 0])] } }
    nav := { w0.nav with imu := { burst := some 249900000, missed := 4 } } }

/-- Channel 11 in use, its group's profile 0 from address 5 to 20, the drive rails at 12 V and the boost limits set. -/
def wV : State :=
  wCfg .chEnable 11 1
    { w0 with
      valves := { w0.valves with
        grp := w0.valves.grp.set 1
          { hdrs := BitVec.ofNat 128 (5 + 20 * 512 + 100 * 2 ^ 18 + 2 ^ 112) :: List.replicate 15 (BitVec.allOnes 128) } }
      pwr := { w0.pwr with vdrv := List.replicate 4 12000, vLim := List.replicate 4 65000 } }

/-- Channel 11 changed. -/
def wCh (f : Chan → Chan) (s : State) : State := s.updChan 11 f

/-- Channel 11's context changed. -/
def wCtx (f : Ctx → Ctx) (s : State) : State := wCh (fun c => { c with ctx := f c.ctx }) s

/-- Group 1 changed. -/
def wGrp (f : Group → Group) (s : State) : State :=
  { s with valves := { s.valves with grp := s.valves.grp.modify 1 f } }

/-- Instruction `i` due on channel 11 at address 7. -/
def wSeq (i : SeqInstr) : State :=
  wCtx (fun c => { c with st := .run, pc := 7, base := 200000000, next := 250000000, act := true })
    (wGrp (fun g => { g with store := List.replicate 7 0 ++ [encodeSeq i] ++ List.replicate 20 0 }) (wSt .working wV))

/-- The header of a tile record of tile (3, 4) with no body, which passes the checks (R131, R140). -/
def wRec (s : State) : List Byte :=
  let le := fun (n k : Nat) => (List.range n).map (fun i => BitVec.ofNat 8 (k / 256 ^ i))
  le 2 0x5D96 ++ [1, BitVec.ofNat 8 (cellCode s.cellMm)] ++ le 2 3 ++ le 2 4 ++ le 4 s.originCrc.toNat
    ++ List.replicate 52 0

end Sys2Proof.Witness

namespace Sys2Proof.Tests

open Sys2Proof Sys2Proof.Machine Sys2Proof.Witness

/-! ### WellFormed: one ill-formed command for each check is refused, the same with the field in range is not -/

theorem test_wf_refuses_0 : [
    .watchdogTimeout 0 16, .islandClockStop 0 (.drv 12), .timeMarkMissing 0 (.drv 12), .safenAssert 0 3 0, .driveSuspension 0 4 0 0, .driveSuspensionEnd 0 4 0 0,
    .loadSuspension 0 4 0 0, .loadSuspensionEnd 0 4 0 0, .envelopeViolation 0 (.switchUnsafe 0) 3, .dieOvertemp 0 5 0 0,
    .coreLockstepMismatch 0 16, .laneConfirmTimeout 0 15, .hostBufferRead 0 (2 ^ 32) none,
    .msixModerationTimeout 0 32, .ringEnable 0 16 0 0, .ringEnable 0 0 0 32, .ringDisable 0 16 0,
    .ringDisable 0 0 32, .msixUnmask 0 (some 32), .telSelect 0 {} 0 [1, 1, 1, 1, 1, 1, 1] 256,
    .telSelect 0 {} 0 [1, 1, 1, 65536, 1, 1, 1] 0, .telSelect 0 {} 0 [1, 1] 0, .maintStart 0 {} {} 0 0 32,
    .tilePatch 0 {} 0 0 false false 1024 0 0 0, .tilePatch 0 {} 0 0 false false 0 1024 0 0,
    .tileInvalidate 0 {} 0 0 0 0 4, .planManual 0 {} 0 false 128 0, .valveClear 0 {} 16 0, .valveDiagNow 0 {} 16 0,
    .seqRead 0 {} 0 16 false 0 0, .seqRead 0 {} 0 0 false 512 0, .seqRead 0 {} 0 0 false 0 1024,
    .seqSetK 0 {} 16 0 0 0 [0, 0, 0, 0], .seqSetK 0 {} 0 0 0 0 [1, 1], .loopClose 0 {} 32, .loopOpen 0 {} 32 false,
    .loopSetpoint 0 {} 32 0, .loopOutput 0 {} 32 0].all (fun i => !Instr.wf i) = true := by
  decide +kernel

theorem test_wf_refuses_1 : [
    .loopCoef 0 {} 32 0 0 0 0, .loopClear 0 {} 32, .traceArm 0 {} 4 0 0 0 0 0 0 0, .traceArm 0 {} 0 32 0 0 0 0 0 0,
    .traceArm 0 {} 0 0 256 0 0 0 0 0, .traceArm 0 {} 0 0 0 4096 0 0 0 0, .traceArm 0 {} 0 0 0 0 16 0 0 0,
    .traceArm 0 {} 0 0 0 0 0 8 0 0, .traceStop 0 {} 4 false false, .lsSet 0 {} 0 8 0, .piCountSet 0 {} 16 0 0,
    .piCountLoad 0 16, .canTxCancel 0 {} 4 0 false, .canBusRecover 0 {} 4, .canMode 0 {} 4 false false 0 0,
    .canMode 0 {} 0 false false 8 0, .canMode 0 {} 0 false false 0 4, .canRateDetect 0 {} 4 0,
    .canRateDetect 0 {} 0 (2 ^ 32), .canSlotRead 0 {} {} 4 0, .canFilterSet 0 {} 4 0 0, .canFilterSet 0 {} 0 256 0,
    .isoClaim 0 {} 4 0, .sxRestart 0 {} 4, .sxExclude 0 {} false 0 0 16, .acquisitionDetection 0 16 0 0 0 0 0,
    .acquisitionDetection 0 0 0 0 128 0 0, .acquisitionConfirmTimeout 0 16, .handoverLockTimeout 0 128,
    .lowCn0Release 0 128, .bocJump 0 128 false, .portFault 0 4 0, .portFault 0 0 3, .portGood 0 4,
    .tileRecordRead 0 4096 none, .writebackDue 0 4096].all (fun i => !Instr.wf i) = true := by
  decide +kernel

theorem test_wf_refuses_2 : [
    .writebackComplete 0 4096 false, .tileTimeout 0 4096, .tileRetry 0 4096, .edgeHandover 0 96, .edgeRelease 0 96,
    .seqSrc 0 96 0 false, .seqItgt 0 96 false, .seqWaiti 0 96 false, .seqWaitt 0 96 false, .seqArm 0 96 false,
    .seqDecay 0 96 false, .seqMark 0 96 false, .seqJmp 0 96 false, .seqJc 0 96 0 false, .seqLoop 0 96 false,
    .seqHoldw 0 96 false, .seqEnd 0 96 false, .seqReservedOpcode 0 96 false, .seqReload 0 12, .boostGrant 0 12 0,
    .boostRefusal 0 96, .waitiEnd 0 96 0 0, .waitiTimeout 0 96, .waittExpiry 0 96,
    .arrivalWindowTimeout 0 96 false, .arrivalDetected 0 96 false {}, .decayEnd 0 96 0 0, .minOffElapsed 0 96,
    .markBufferDrain 0 12, .offStateTest 0 96 0, .shortSupplyTrip 0 96 0, .openLoadOn 0 96 [] 0, .coilR 0 96 [] 0,
    .railLeak 0 12 [], .tied 0 96 0 [], .tied 0 0 96 []].all (fun i => !Instr.wf i) = true := by
  decide +kernel

theorem test_wf_refuses_3 : [
    .railOvercurrent 0 12 0 0, .railOverload 0 12 [], .chOverload 0 96 [], .bstOv 0 4 0 0, .bstFail 0 4 0, .bstFailClear 0 4 0,
    .loopSample 0 32, .measLost 0 32, .traceWrite 0 4, .loopCheck 0 32, .lsPwmPeriodStart 0 8 [] 0, .lsTrip 0 16 0 0,
    .lsShortTrip 0 16 0 (0, 0) 0, .lsPauseEnd 0 16, .lsTripCountReset 0 16, .inrushWindowEnd 0 16 none,
    .inrushBudgetSpent 0 16 0, .thermalShutdown 0 8 0 (0, 0), .thermalRestart 0 8 0, .lsOffStateTest 0 16 {},
    .lsOpenLoadOn 0 16 0, .lsReadbackMismatch 0 16 false false, .fdChange 0 32 false 0, .wireBreak 0 32 false,
    .fdOverload 0 32, .bankOverload 0 4 0 0, .bankOverload 0 0 32 0, .fdOpenLoad 0 32, .pinDriven 0 32 false,
    .fdReadbackMismatch 0 32 false, .aiReading 0 16 [] 5000 0, .aiValid 0 16,
    .ma20ShuntDisconnect 0 16, .piEdge 0 16 0 0, .piZeroTimeout 0 16].all (fun i => !Instr.wf i) = true := by
  decide +kernel

theorem test_wf_refuses_4 : [
    .extevEdge 0 2, .canFrameReceived 0 4 0 {}, .tpSessionTimeout 0 4 false 0, .canTxSuccess 0 4 0,
    .canArbitrationLost 0 4 0, .canTxError 0 4 0 .flagged, .canRxError 0 4 false, .busFault 0 4, .busStuck 0 4,
    .busLineClear 0 4, .periodicFrame 0 32, .syncFrame 0 4, .addressClaimComplete 0 4, .txSessionOpen 0 4 none,
    .bamPacket 0 4 0, .busRecovered 0 4, .busRecoveryTimeout 0 4, .rateDetectTimeout 0 4, .phaseLock 0 128 0,
    .diagStarvation 0 96, .ma20ShuntReconnect 0 16, .busIntegration 0 4].all (fun i => !Instr.wf i) = true := by
  decide +kernel

theorem test_wf_accepts_0 : [
    .watchdogTimeout 0 0, .islandClockStop 0 (.drv 11), .timeMarkMissing 0 (.drv 11), .safenAssert 0 0 0, .driveSuspension 0 0 0 0, .driveSuspensionEnd 0 0 0 0,
    .loadSuspension 0 0 0 0, .loadSuspensionEnd 0 0 0 0, .envelopeViolation 0 (.switchUnsafe 0) 0, .dieOvertemp 0 0 0 0,
    .coreLockstepMismatch 0 0, .laneConfirmTimeout 0 0, .hostBufferRead 0 0 none, .msixModerationTimeout 0 0,
    .ringEnable 0 0 0 0, .ringDisable 0 0 0, .msixUnmask 0 (some 0), .telSelect 0 {} 0 [1, 1, 1, 1, 1, 1, 1] 0,
    .maintStart 0 {} {} 0 0 0, .tilePatch 0 {} 0 0 false false 0 0 0 0, .tileInvalidate 0 {} 0 0 0 0 0,
    .planManual 0 {} 0 false 0 0, .valveClear 0 {} 0 0, .valveDiagNow 0 {} 0 0, .seqRead 0 {} 0 0 false 0 0,
    .seqSetK 0 {} 0 0 0 0 [0, 0, 0, 0], .loopClose 0 {} 0, .loopOpen 0 {} 0 false, .loopSetpoint 0 {} 0 0,
    .loopOutput 0 {} 0 0, .loopCoef 0 {} 0 0 0 0 0, .loopClear 0 {} 0, .traceArm 0 {} 0 0 0 0 0 0 0 0,
    .traceStop 0 {} 0 false false, .lsSet 0 {} 0 0 0, .piCountSet 0 {} 0 0 0, .piCountLoad 0 0,
    .canTxCancel 0 {} 0 0 false].all Instr.wf = true := by
  decide +kernel

theorem test_wf_accepts_1 : [
    .canBusRecover 0 {} 0, .canMode 0 {} 0 false false 0 0, .canRateDetect 0 {} 0 0, .canSlotRead 0 {} {} 0 0,
    .canFilterSet 0 {} 0 0 0, .isoClaim 0 {} 0 0, .sxRestart 0 {} 0, .sxExclude 0 {} false 0 0 0,
    .acquisitionDetection 0 0 0 0 0 0 0, .acquisitionConfirmTimeout 0 0, .handoverLockTimeout 0 0,
    .lowCn0Release 0 0, .bocJump 0 0 false, .portFault 0 0 0, .portGood 0 0, .tileRecordRead 0 0 none,
    .writebackDue 0 0, .writebackComplete 0 0 false, .tileTimeout 0 0, .tileRetry 0 0, .edgeHandover 0 0,
    .edgeRelease 0 0, .seqSrc 0 0 0 false, .seqItgt 0 0 false, .seqWaiti 0 0 false, .seqWaitt 0 0 false,
    .seqArm 0 0 false, .seqDecay 0 0 false, .seqMark 0 0 false, .seqJmp 0 0 false, .seqJc 0 0 0 false,
    .seqLoop 0 0 false, .seqHoldw 0 0 false, .seqEnd 0 0 false, .seqReservedOpcode 0 0 false, .seqReload 0 0].all Instr.wf = true := by
  decide +kernel

theorem test_wf_accepts_2 : [
    .boostGrant 0 0 0, .boostRefusal 0 0, .waitiEnd 0 0 0 0, .waitiTimeout 0 0, .waittExpiry 0 0,
    .arrivalWindowTimeout 0 0 false, .arrivalDetected 0 0 false {}, .decayEnd 0 0 0 0, .minOffElapsed 0 0,
    .markBufferDrain 0 0, .offStateTest 0 0 0, .shortSupplyTrip 0 0 0, .openLoadOn 0 0 [] 0, .coilR 0 0 [] 0,
    .railLeak 0 0 [], .tied 0 0 0 [], .railOvercurrent 0 0 0 0, .railOverload 0 0 [], .chOverload 0 0 [], .bstOv 0 0 0 0,
    .bstFail 0 0 0, .bstFailClear 0 0 0, .loopSample 0 0, .measLost 0 0, .traceWrite 0 0, .loopCheck 0 0,
    .lsPwmPeriodStart 0 0 [] 0, .lsTrip 0 0 0 0, .lsShortTrip 0 0 0 (0, 0) 0, .lsPauseEnd 0 0, .lsTripCountReset 0 0,
    .inrushWindowEnd 0 0 none, .inrushBudgetSpent 0 0 0, .thermalShutdown 0 0 0 (0, 0), .thermalRestart 0 0 0,
    .lsOffStateTest 0 0 {}].all Instr.wf = true := by
  decide +kernel

theorem test_wf_accepts_3 : [
    .lsOpenLoadOn 0 0 0, .lsReadbackMismatch 0 0 false false, .fdChange 0 0 false 0, .wireBreak 0 0 false,
    .fdOverload 0 0, .bankOverload 0 0 0 0, .fdOpenLoad 0 0, .pinDriven 0 0 false, .fdReadbackMismatch 0 0 false,
    .aiReading 0 0 [] 5000 0, .aiValid 0 0, .ma20ShuntDisconnect 0 0, .piEdge 0 0 0 0, .piZeroTimeout 0 0,
    .extevEdge 0 0, .canFrameReceived 0 0 0 {}, .tpSessionTimeout 0 0 false 0, .canTxSuccess 0 0 0,
    .canArbitrationLost 0 0 0, .canTxError 0 0 0 .flagged, .canRxError 0 0 false, .busFault 0 0, .busStuck 0 0,
    .busLineClear 0 0, .periodicFrame 0 0, .syncFrame 0 0, .addressClaimComplete 0 0, .txSessionOpen 0 0 none,
    .bamPacket 0 0 0, .busRecovered 0 0, .busRecoveryTimeout 0 0, .rateDetectTimeout 0 0, .phaseLock 0 0 0,
    .diagStarvation 0 0, .ma20ShuntReconnect 0 0, .busIntegration 0 0].all Instr.wf = true := by
  decide +kernel

/-! ### Encodings, from the spec's example profiles -/

/-- The words of profile 0 (08, example profiles, addresses 0 to 11). -/
theorem test_profile0_decodes :
    [0x540000, 0x108000, 0x419000, 0x080000, 0x21E320, 0x040000, 0x158001, 0x800009, 0x460800, 0x4A1000, 0xA00000,
      0xB00000].map decodeSeq =
    [some (.decay 1), some (.itgt 0 0 true 0), some (.arm 0 false 50), some (.src 2), some (.waiti false false 30 800),
      some (.src 1), some (.itgt 1 1 true 1), some (.jc 0 9), some (.arm 1 true 1), some (.arm 2 true 2),
      some .holdw, some .end_] := by decide +kernel

/-- The words of profile 1 that profile 0 has no like of (08, addresses 22, 27, 29, 30, 32). -/
theorem test_profile1_decodes :
    [0x380014, 0x3C0003, 0x618000, 0x980011, 0x1500FA].map decodeSeq =
    [some (.waitt 2 20), some (.waitt 3 3), some (.mark 1 true false 0), some (.loop 2 false 17),
      some (.itgt 1 1 false 250)] := by decide +kernel

/-- Reserved opcodes and reserved field values (R216). -/
theorem test_reserved_words :
    [0xC00000, 0xF00000, 0x0C0000, 0x1C0000, 0x5C0000, 0x890000].map decodeSeq = List.replicate 6 none := by
  decide +kernel

/-- The header of the example profile 0: START 0, LAST 11, MIN_OFF 2 ms (R226). -/
theorem test_header_fields :
    let h := BitVec.ofNat 128 (11 * 2 ^ 9 + 200 * 2 ^ 18 + 1600 * 2 ^ 32 + 400 * 2 ^ 48)
    hdrStart h = 0 ∧ hdrLast h = 11 ∧ hdrMinOff h = 500000 ∧ hdrK h 0 = 1600 ∧ hdrK h 1 = 400 := by decide +kernel

/-! ### Checks and numbers, from the spec's examples -/

/-- CRC-32 with the conventions of R140 of the nine digits, the published check value of that CRC. -/
theorem test_crc32_check : crc32 [0x31, 0x32, 0x33, 0x34, 0x35, 0x36, 0x37, 0x38, 0x39] = 0xCBF43926 := by
  decide +kernel

/-- 44.8 µF measured is 47.04 µF in use (07, example after R187). -/
theorem test_use_cap : useCap 44800 = 47040 := by decide

/-- EC-B holds V_LIM at the setpoint of 48.0 V, EC-A at 29.1 V (07, example after R187). -/
theorem test_v_lim : energyMv 48000 60 44800 = 48000 ∧ energyMv 48000 20 44800 = 29100 := by decide +kernel

/-- D_TF 10,000 µs and PERIOD 2,000 µs give CF 54,613 (R244). -/
theorem test_coef_cf : (coefOf 0 0 0 10000 2000).1.cf = 54613 := by decide +kernel

/-- A CF that would round to 0x0001_0000 is cut to 0x0000_FFFF (R244). -/
theorem test_coef_cut : (coefOf 0 0 0 10000000 50).1.cf = 65535 ∧ (coefOf 0 0 0 10000000 50).2 = true := by
  decide +kernel

/-! ### Commands (14, the example after R378, and others) -/

/-- STATUS and RESULT of the last completion written, and the device state. -/
def told (o : Out) : Option (Nat × DevState) :=
  match o with
  | .next t => (t.host.out.findSome? (fun w => match w with
      | .body 1 _ ((_, d) :: _) => some (Desc.field d 32 8)
      | _ => none)).map (fun c => (c, t.dev.st))
  | _ => none

/-- The example's module: an origin set, an image in force. -/
def wEx : State := { w0 with cfg := { w0.cfg with inForce := .slot 0 }, nav := { w0.nav with origin := some (0, 0, 0) } }

/-- 0x0101: RUN in STANDBY. -/
theorem test_run_standby : told (exec (.run 1 {}) w0) = some (1, .standby) := by decide +kernel
/-- 0x0102: ARM in STANDBY. -/
theorem test_arm : told (exec (.arm 1 {}) wEx) = some (0, .parked) := by decide +kernel
/-- ARM with no image in force (R374). -/
theorem test_arm_not_fired : told (exec (.arm 1 {}) w0) = some (3, .standby) := by decide +kernel
/-- 0x0103: RUN in PARKED sets the run request. -/
theorem test_run_parked : (match exec (.run 1 {}) (wSt .parked w0) with
    | .next t => (t.dev.runReq, t.dev.st)
    | _ => (false, .reset)) = (true, .parked) := by decide +kernel
/-- 0x0105: FIELD_ORIGIN in PARKED. -/
theorem test_field_origin_parked : told (exec (.fieldOrigin 1 {} 0 0 0) (wSt .parked w0)) = some (1, .parked) := by
  decide +kernel
/-- 0x0106: MANUAL_ENTER in PARKED. -/
theorem test_manual_enter : told (exec (.manualEnter 1 {}) (wSt .parked w0)) = some (0, .manual) := by decide +kernel
/-- 0x0107: PLAN_HOLD_ACK in MANUAL. -/
theorem test_hold_ack_manual : told (exec (.planHoldAck 1 {}) (wSt .manual w0)) = some (1, .manual) := by decide +kernel

/-- A NOP with IRQ: its index, tag and MT in its completion (R361; 13, example of one NOP). -/
theorem test_nop_completion : (match exec (.nop 1 { tag := 7, irq := true }) w0 with
    | .next t => t.host.out.head?
    | _ => none) = some (.body 1 0 [((w0.ring 1).base, descOf [(128, 0, 0), (64, 64, 250000000), (32, 16, 0)])]) := by decide +kernel

/-! ### Supply, reset and grace -/

/-- 4,499 mV is a power-on reset, 4,500 mV is not (R41). -/
theorem test_power_on_reset : (match exec (.powerOnReset 1 4500 4500 500) w0, exec (.powerOnReset 1 4499 0 500) w0 with
    | .next a, .next b => (a.dev.st, b.dev.st)
    | _, _ => (.boot, .boot)) = (.standby, .reset) := by decide +kernel

/-- BROWNOUT in WORKING is FAULT (R39). -/
theorem test_brownout : (match exec (.brownout 1 5999 24000 2500) (wSt .working w0) with
    | .next t => (t.dev.st, t.dev.causes)
    | _ => (.reset, [])) = (.fault, [.brownout]) := by decide +kernel

/-- The link drop at speed (02): lost at MT 5,000,000,000 in WORKING with HOST_GRACE 200 ms, the grace ends at
MT 5,050,000,000. -/
theorem test_grace_ends : (match exec (.dlDown 1) (wAt 5000000000 { wSt .working w0 with host.hostGrace := 200 }) with
    | .next t => (t.dev.st, t.dev.grace)
    | _ => (.reset, none)) = (.working, some { start := 5000000000, endsAt := 5050000000 }) := by decide +kernel

/-- A host loss in STANDBY is SAFE (R50). -/
theorem test_loss_standby : (match exec (.hotReset 1) w0 with
    | .next t => t.dev.st
    | _ => .reset) = .safe := by decide +kernel

/-! ### The sequencer (R219, R223; 08, instants of one VC44 actuation) -/

/-- The instruction after one that does not wait runs 25 ticks later. -/
theorem test_itgt_cycle : (match exec (.seqItgt 1 11 false) (wSeq (.itgt 0 0 true 0)) with
    | .next t => ((t.ctx 11).pc, (t.ctx 11).next)
    | _ => (0, 0)) = (8, 250000025) := by decide +kernel

/-- A LOOP with its register at 2 counts it to 1 and jumps. -/
theorem test_loop_jumps : (match exec (.seqLoop 1 11 false)
      (wCtx (fun c => { c with ks := [0, 0, 2, 0] }) (wSeq (.loop 2 false 17))) with
    | .next t => ((t.ctx 11).pc, (t.ctx 11).ks.getD 2 0)
    | _ => (0, 0)) = (17, 1) := by decide +kernel

/-- A LOOP with its register at 1 counts it to 0 and goes on. -/
theorem test_loop_falls_through : (match exec (.seqLoop 1 11 false)
      (wCtx (fun c => { c with ks := [0, 0, 1, 0] }) (wSeq (.loop 2 false 17))) with
    | .next t => ((t.ctx 11).pc, (t.ctx 11).ks.getD 2 0)
    | _ => (0, 0)) = (8, 0) := by decide +kernel

/-! ### Tile SRAM -/

/-- R27: the partitions follow one another and fill 32 MiB, and a record of the fault ring has 64 bytes. -/
theorem test_flash_map :
    ([.firmware, .slot 0, .slot 1, .slot 2, .journal, .calibration, .records, .reserved].foldl
      (fun (a : Option Nat) p => a.bind (fun o => if flashOffset p = o then some (o + flashSize p) else none)) (some 0))
      = some (32 * 2 ^ 20) ∧ Config.recordCap = flashSize .records / 64 := by decide +kernel

/-- R487: IDCODE of an SD9600 of STEP 1 has the mark bit, and its version and part. -/
theorem test_idcode : State.reset.idcode = 0x196005A7 := by decide +kernel

/-- R463: EXTEST acts only while RESETN is held low, and TRSTN keeps the port in reset. -/
theorem test_tap :
    (({ State.reset with dev.tap := { st := .runTestIdle, trstn := true, instr := .extest }, dev.resetnHigh := 5 } : State).tapActs
      = .extest)
    ∧ (({ State.reset with dev.tap := { st := .runTestIdle, trstn := true, instr := .extest } } : State).tapActs = .bypass)
    ∧ (State.reset.tck true true).dev.tap.st = .testLogicReset := by decide +kernel

/-- Bytes written lie in address order, and a 0 written removes its entry. -/
theorem test_memory : Memory.writes [] 5 [1, 0, 3] = [(5, 1), (7, 3)] ∧ Memory.write [(5, 1), (7, 3)] 7 0 = [(5, 1)] := by
  decide

/-! ### The queue -/

/-- A step runs the front command and leaves the rest waiting. -/
theorem test_queue : (match step { wEx with pending := [.arm 1 {}, .hold 1 {}] } with
    | .next t => (t.pending, t.dev.st)
    | _ => ([], .reset)) = ([.hold 1 {}], .parked) := by decide +kernel

/-! ### The hypotheses of every statement are met, clause by clause -/

/-- No ring but CMD and CPL is enabled: checked for the sixteen there are. -/
theorem rest_off {s : State} (hl : s.host.rings.length = 16) (hs : ∀ n < 16, 1 < n → (s.ring n).en = false) :
    ∀ n, 1 < n → (s.ring n).en = false := by
  intro n hn
  by_cases h : n < 16
  · exact hs n h hn
  · simp only [State.ring, List.getD_eq_getElem?_getD]
    rw [List.getElem?_eq_none (by rw [hl]; omega)]
    rfl

theorem met_resetRows :
    (∃ (vbat : Nat) (hold : Nat) (held : Nat), max vbat hold < 4500 ∧ 500 ≤ held)
    ∧ (∃ (lowNs : Nat), 1000 ≤ lowNs)
    ∧ (∃ (s : State), s.dev.st ≠ .reset)
    ∧ (∃ (s : State) (dt : Nat) (k : Nat) (m : Nat), s.dev.st ≠ .reset ∧ s.sag.resetPending = some (k, m) ∧ k ≠ 5 ∧
        ((∀ r ∈ s.sag.a.buffer, r.code ≠ 0xB001 ∨ r.subject ≠ BitVec.ofNat 16 k) ∨ m + 2500000 ≤ s.time.up + dt))
    ∧ (∃ (s : State) (dt : Nat) (due : Nat), s.dev.resetDue = some due ∧ due ≤ (s.advance dt).now)
    ∧ (∃ (lowNs : Nat), 200 ≤ lowNs ∧ lowNs < 1000)
    ∧ (∃ (lowNs : Nat), lowNs < 200)
    ∧ (∃ (s : State) (dt : Nat) (m : Nat), s.dev.st ≠ .reset ∧ s.sag.resetPending = some (5, m) ∧ s.sag.refBad =
        false ∧ s.sag.refFrom + 2500000 ≤ s.time.up + dt ∧ ((∀ r ∈ s.sag.a.buffer, r.code ≠ 0xB001 ∨ r.subject ≠ 5)
        ∨ m + 2500000 ≤ s.time.up + dt)) :=
  ⟨⟨0, 0, 500, by decide +kernel⟩,
   ⟨1000, by decide +kernel⟩,
   ⟨w0, by decide +kernel⟩,
   ⟨{ w0 with sag.resetPending := some (3, 5) }, 1, 3, 5, by decide +kernel⟩,
   ⟨{ w0 with dev.resetDue := some 250000000 }, 1, 250000000, by decide +kernel⟩,
   ⟨500, by decide +kernel⟩,
   ⟨0, by decide +kernel⟩,
   ⟨{ w0 with sag.resetPending := some (5, 5) }, 1, 5, by decide +kernel⟩⟩

theorem met_bootRows :
    (∃ (s : State) (dt : Nat) (vbat : Nat), s.dev.st = .reset ∧ s.dev.released = none ∧ s.dev.resetUp +
        s.dev.resetHold ≤ s.time.up + dt ∧ (s.dev.resetSource = 0 → 4500 ≤ vbat))
    ∧ (∃ (s : State) (dt : Nat) (r : Nat), s.dev.st = .reset ∧ s.dev.released = some r ∧ r + 375000 ≤ s.time.up +
        dt)
    ∧ (∃ (s : State) (b : BootObs), s.dev.st = .boot ∧ s.dev.sigFail = false ∧ b.sigOk = true ∧ b.pathOk = true ∧
        s.strapsDiffer = false ∧ s.pwr.brownout = false ∧ s.pwr.overV = false ∧ s.pwr.holdOv = false ∧ s.sag.a.safen
        = false ∧ s.sag.b.safen = false ∧ s.pwr.vhioLow = false ∧ s.dev.causes = [])
    ∧ (∃ (s : State) (b : BootObs), s.dev.st = .boot ∧ s.dev.sigFail = false ∧ b.sigOk = false)
    ∧ (∃ (s : State), s.dev.st = .boot ∧ s.dev.bar0Ready = false) :=
  ⟨⟨State.reset, 0, 12000, by decide +kernel⟩,
   ⟨{ State.reset with dev.released := some 0, time.up := 374999 }, 1, 0, by decide +kernel⟩,
   ⟨wSt .boot w0, { sigOk := true, pathOk := true }, by decide +kernel⟩,
   ⟨wSt .boot w0, { sigOk := false }, by decide +kernel⟩,
   ⟨{ wSt .boot w0 with dev.bar0Ready := false }, by decide +kernel⟩⟩

/-- The state of SupplyConditions, clause 1. -/
def wSupplyConditions_1 : State :=
  { w0 with pwr.sag := true }

theorem met_supplyConditions :
    (∃ (s : State) (mv : Nat) (held : Nat), mv < s.sagMv ∧ s.pwr.sagTold = false ∧ 250000 ≤ held)
    ∧ (∃ (s : State) (mv : Nat) (held : Nat), s.pwr.sag = true ∧ s.pwr.lowField = false ∧ s.pwr.brownout = false ∧
        s.sagMv + 500 < mv ∧ 250000 ≤ held)
    ∧ (∃ (s : State) (mv : Nat) (held : Nat), mv < 9000 ∧ s.pwr.lowTold = false ∧ 25000 ≤ held)
    ∧ (∃ (s : State) (mv : Nat) (held : Nat), s.pwr.lowField = true ∧ s.pwr.brownout = false ∧ 9500 < mv ∧ 25000 ≤
        held)
    ∧ (∃ (s : State) (mv : Nat) (held : Nat), s.pwr.brownout = true ∧ 6500 < mv ∧ 2500 ≤ held)
    ∧ (∃ (s : State) (mv : Nat) (held : Nat), s.pwr.overV = true ∧ mv < 64000 ∧ 2500 ≤ held)
    ∧ (∃ (s : State) (mv : Nat) (held : Nat), mv < 16000 ∧ s.pwr.vioLow = false ∧ 250000 ≤ held)
    ∧ (∃ (s : State) (mv : Nat) (held : Nat), mv < 12000 ∧ s.pwr.vioLost = false ∧ 250000 ≤ held)
    ∧ (∃ (s : State) (mv : Nat) (held : Nat), s.pwr.vioLost = true ∧ 14000 < mv ∧ 250000 ≤ held)
    ∧ (∃ (s : State) (mv : Nat) (held : Nat), 35000 < mv ∧ s.pwr.vio24Ov = false ∧ 250000 ≤ held)
    ∧ (∃ (s : State) (mv : Nat) (held : Nat), s.pwr.vio24Ov = true ∧ mv < 33000 ∧ 250000 ≤ held)
    ∧ (∃ (s : State) (mv : Nat) (held : Nat), s.pwr.vhioLow = true ∧ s.vhioIn mv = true ∧ 250000 ≤ held)
    ∧ (∃ (s : State) (mv : Nat), s.sagMv ≤ mv)
    ∧ (∃ (mv : Nat), 16000 ≤ mv) :=
  ⟨⟨w0, w0.sagMv - 1, 250000, by decide +kernel⟩,
   ⟨wSupplyConditions_1, wSupplyConditions_1.sagMv + 501, 250000, by decide +kernel⟩,
   ⟨w0, 8999, 25000, by decide +kernel⟩,
   ⟨{ w0 with pwr.lowField := true, pwr.sag := true, pwr.shed := true }, 9501, 25000, by decide +kernel⟩,
   ⟨{ w0 with pwr.brownout := true, pwr.lowField := true, pwr.onHold := true, pwr.shed := true, dev.st := .fault,
                dev.causes := [.brownout], pwr.sag := true }, 6501, 2500, by decide +kernel⟩,
   ⟨{ w0 with pwr.overV := true, dev.st := .fault }, 63999, 2500, by decide +kernel⟩,
   ⟨w0, 15999, 250000, by decide +kernel⟩,
   ⟨w0, 11999, 250000, by decide +kernel⟩,
   ⟨{ w0 with pwr.vioLost := true, pwr.vioLow := true }, 14001, 250000, by decide +kernel⟩,
   ⟨w0, 35001, 250000, by decide +kernel⟩,
   ⟨{ w0 with pwr.vio24Ov := true }, 32999, 250000, by decide +kernel⟩,
   ⟨{ w0 with pwr.vhioLow := true, sag.a.safen := true, sag.b.safen := true }, 3000, 250000, by decide +kernel⟩,
   ⟨w0, 60000, by decide +kernel⟩,
   ⟨24000, by decide +kernel⟩⟩

theorem met_supplyFaults :
    (∃ (s : State) (mv : Nat) (held : Nat), s.dev.st.booted ∧ mv < 6000 ∧ s.pwr.brownout = false ∧ 2500 ≤ held)
    ∧ (∃ (s : State) (mv : Nat) (held : Nat), s.dev.st.booted ∧ 66000 < mv ∧ s.pwr.overV = false ∧ 2500 ≤ held)
    ∧ (∃ (s : State), s.dev.st.booted)
    ∧ (∃ (s : State) (mv : Nat), s.dev.st.booted ∧ s.pwr.vHold + 2000 < mv)
    ∧ (∃ (s : State) (mv : Nat) (held : Nat), s.dev.st.booted ∧ (s.dev.st ≠ .fault → FCause.safen ∉ s.dev.causes) ∧
        mv < 1400 ∧ s.pwr.vhioLow = false ∧ 2500 ≤ held) :=
  ⟨⟨wSt .working w0, 5999, 2500, by decide +kernel⟩,
   ⟨w0, 66001, 2500, by decide +kernel⟩,
   ⟨w0, by decide +kernel⟩,
   ⟨w0, 2001, by decide +kernel⟩,
   ⟨wSt .manual w0, 1399, 2500, by decide +kernel⟩⟩

theorem met_suspensions :
    (∃ (s : State) (q : Nat) (mv : Nat) (held : Nat), q < s.nQuad ∧ (mv < 5500 ∨ 60500 < mv) ∧ s.pwr.drvSusp.getD q
        false = false ∧ 2500 ≤ held)
    ∧ (∃ (s : State) (q : Nat) (mv : Nat) (held : Nat), q < s.nQuad ∧ s.pwr.drvSusp.getD q false = true ∧ 6000 ≤ mv
        ∧ mv ≤ 59500 ∧ 2500 ≤ held)
    ∧ (∃ (s : State) (q : Nat) (mv : Nat) (held : Nat), q < 4 ∧ (mv < 5500 ∨ 60500 < mv) ∧ s.pwr.loadSusp.getD q
        false = false ∧ 2500 ≤ held)
    ∧ (∃ (s : State) (q : Nat) (mv : Nat) (held : Nat), q < 4 ∧ s.pwr.loadSusp.getD q false = true ∧ 6000 ≤ mv ∧ mv
        ≤ 59500 ∧ 2500 ≤ held) :=
  ⟨⟨w0, 3, 5499, 2500, by decide +kernel⟩,
   ⟨{ w0 with pwr.drvSusp := [true, true, true, true] }, 3, 6000, 2500, by decide +kernel⟩,
   ⟨w0, 3, 60501, 2500, by decide +kernel⟩,
   ⟨{ w0 with pwr.loadSusp := [true, true, true, true] }, 3, 59500, 2500, by decide +kernel⟩⟩

theorem met_clockRows :
    (∃ (s : State), s.dev.st.booted)
    ∧ (∃ (s : State) (isl : Island), s.dev.st.booted ∧ isl.real = true)
    ∧ (∃ (s : State) (dt : Nat) (diffs : List Int), s.time.running = true ∧ (s.time.mt + dt) % 1024 = 0 ∧ (∀ d ∈
        diffs, -2 ≤ d ∧ d ≤ 2))
    ∧ (∃ (s : State) (dt : Nat) (diffs : List Int) (i : Nat), s.dev.st.booted ∧ s.time.running = true ∧ (s.time.mt +
        dt) % 1024 = 0 ∧ i < 22 ∧ i ≠ 3 ∧ (2 < diffs.getD i 0 ∨ diffs.getD i 0 < -2))
    ∧ (∃ (s : State) (isl : Island), s.dev.st.booted ∧ isl ≠ .wheel ∧ isl.real = true) :=
  ⟨⟨w0, by decide +kernel⟩,
   ⟨wSt .working w0, .wheel, by decide +kernel⟩,
   ⟨wAt 1024 w0, 1, [2, -2, 0], by decide +kernel⟩,
   ⟨wAt 1024 w0, 1, [0, 0, 0, 0, -3], 4, by decide +kernel⟩,
   ⟨{ w0 with time.missed := List.replicate 22 3 }, .drv 0, by decide +kernel⟩⟩

theorem met_safenRows :
    (∃ (s : State) (lowNs : Nat), s.dev.st.booted ∧ 1000 ≤ lowNs ∧ s.sag.a.safen = false ∧ s.sag.b.safen = false ∧
        s.pwr.vhioLow = false ∧ (s.dev.st ≠ .fault → FCause.safen ∉ s.dev.causes))
    ∧ (∃ (s : State) (highTicks : Nat), 250000 ≤ highTicks ∧ (s.sag.a.safen = true ∨ s.sag.b.safen = true)) :=
  ⟨⟨wSt .working w0, 1000, by decide +kernel⟩,
   ⟨{ wSt .fault w0 with sag.a.safen := true, dev.causes := [.safen] }, 250000, by decide +kernel⟩⟩

theorem met_crossCheckRows :
    (∃ (s : State) (x : CrossObs), s.dev.st ≠ .reset ∧ x.okA = true ∧ x.okB = true ∧ s.lanesDiffer x = false ∧
        oddOnes x = [false, false, false])
    ∧ (∃ (s : State) (x : CrossObs), s.dev.st.booted ∧ (x.okA && x.okB) = false ∧ s.sag.badFrames = 1)
    ∧ (∃ (s : State) (dt : Nat) (x : CrossObs), s.dev.st.booted ∧ x.okA = true ∧ x.okB = true ∧ (s.advance
        dt).currentClasses.lanesDiffer x = true ∧ s.sag.diff = 1)
    ∧ (∃ (s : State) (dt : Nat) (k : Nat) (m : Nat), s.dev.st.booted ∧ s.sag.unconfirmed = [(k, 0, m)] ∧ m + 5000 ≤
        (s.advance dt).now ∧ s.sag.b.detected.getLsbD k = false)
    ∧ (∃ (s : State) (missing : List (Nat × Island)), s.dev.st ≠ .reset ∧ (∀ m ∈ missing, s.isLine m.2 = false))
    ∧ (∃ (s : State) (lane : Nat) (isl : Island), s.dev.st.booted ∧ lane < 2 ∧ s.isLine isl = true) :=
  ⟨⟨wSt .fault w0, {}, by decide +kernel⟩,
   ⟨{ w0 with sag.badFrames := 1 }, { okA := false }, by decide +kernel⟩,
   ⟨{ w0 with sag.diff := 1 }, 1, { safenA := true }, by decide +kernel⟩,
   ⟨{ w0 with sag.unconfirmed := [(3, 0, 5)] }, 1, 3, 5, by decide +kernel⟩,
   ⟨w0, [], by decide +kernel⟩,
   ⟨w0, 1, .drv 0, by decide +kernel⟩⟩

theorem met_monitorRows :
    (∃ (s : State) (dt : Nat) (ch : Nat) (lane : Nat), s.dev.st.booted ∧ (s.advance dt).envelopeOut lane
        (.valveConducts ch) = true)
    ∧ (∃ (s : State) (dt : Nat) (n : Nat) (lane : Nat), s.dev.st.booted ∧ (s.advance dt).envelopeOut lane
        (.switchUnsafe n) = true)
    ∧ (∃ (s : State) (n : Nat) (ma : Nat) (held : Nat) (lane : Nat), s.dev.st ≠ .reset ∧ n < 16 ∧ s.loops.ls.length
        = 16 ∧ (∀ c ∈ s.sag.copies lane, 12 * (if (s.ls n).win.isSome then c.inrushLimit else c.ocLimit).getD n 0 <
        10 * (ma : Int)) ∧ s.cfgN .ocTripT n * 250 + 2500 < held)
    ∧ (∃ (s : State) (ch : Nat) (ma : Nat) (held : Nat) (lane : Nat), s.dev.st ≠ .reset ∧ s.hasCh ch ∧ s.inUse ch =
        true ∧ (∀ c ∈ s.sag.copies lane, 11 * (if (s.ctx ch).granted then c.iPeak else c.iHold).getD ch 0 + 500 < 10
        * (ma : Int)) ∧ 2500 ≤ held)
    ∧ (∃ (s : State) (die : Nat) (held : Nat) (temp : Int), s.dev.st.booted ∧ die < 5 ∧ dieLimit die ≤ temp ∧ 250000
        ≤ held)
    ∧ (∃ (s : State) (die : Nat) (held : Nat) (temp : Int), s.dev.st ≠ .reset ∧ die < 5 ∧ (temp < dieLimit die ∨
        held < 250000))
    ∧ (∃ (s : State) (core : Nat), s.dev.st.booted ∧ core < 16)
    ∧ (∃ (s : State), s.dev.st ≠ .reset)
    ∧ (∃ (s : State), s.dev.st.booted)
    ∧ (∃ (s : State), s.dev.st ≠ .reset)
    ∧ (∃ (s : State), s.dev.st.booted ∧ s.claimed .store = false)
    ∧ (∃ (s : State) (n : Fin 3), s.dev.st.booted ∧ s.claimed .store = false ∧ n.val = s.cfg.roles.active)
    ∧ (∃ (s : State) (n : Fin 3), s.dev.st ≠ .reset ∧ s.claimed .store = false ∧ n.val ≠ s.cfg.roles.active)
    ∧ (∃ (s : State) (m : Nat) (r : FaultRec) (rest : List (FaultRec × Nat)), s.sag.writing = (r, m) :: rest)
    ∧ (∃ (s : State) (m : Nat) (r : FaultRec) (rest : List (FaultRec × Nat)), s.sag.writing = (r, m) :: rest) :=
  ⟨⟨w0, 1, 95, 0, by decide +kernel⟩,
   ⟨wSt .safe w0, 1, 15, 1, by decide +kernel⟩,
   ⟨w0, 15, 100000, 1000000000, 1, by decide +kernel⟩,
   ⟨wV, 11, 30000, 2500, 1, by decide +kernel⟩,
   ⟨wSt .parked w0, 4, 250000, 150, by decide +kernel⟩,
   ⟨w0, 4, 249999, 150, by decide +kernel⟩,
   ⟨w0, 15, by decide +kernel⟩,
   ⟨w0, by decide +kernel⟩,
   ⟨w0, by decide +kernel⟩,
   ⟨w0, by decide +kernel⟩,
   ⟨w0, by decide +kernel⟩,
   ⟨w0, ⟨w0.cfg.roles.active % 3, by omega⟩, by decide +kernel⟩,
   ⟨w0, 2, by decide +kernel⟩,
   ⟨{ w0 with sag.writing := [({ number := 1 }, 5), ({ number := 2 }, 6)] }, 5, { number := 1 }, [({ number := 2 },
       6)], by decide +kernel⟩,
   ⟨{ w0 with sag.writing := [({ number := 1 }, 5), ({ number := 2 }, 6)] }, 5, { number := 1 }, [({ number := 2 },
       6)], by decide +kernel⟩⟩

theorem met_readbackRows :
    (∃ (s : State) (dt : Nat) (n : Nat) (high : Bool), s.dev.st.booted ∧ n < 16 ∧ ((if high then ((s.advance
        dt).lsCmd n).1 else ((s.advance dt).lsCmd n).2) = false))
    ∧ (∃ (s : State) (dt : Nat) (n : Nat) (high : Bool), s.dev.st ≠ .reset ∧ n < 16 ∧ ((if high then ((s.advance
        dt).lsSides n).1 else ((s.advance dt).lsSides n).2) = true))
    ∧ (∃ (s : State) (pin : Nat), s.dev.st.booted ∧ pin < 32 ∧ s.fdOut pin = true ∧ s.fdDrive pin = false)
    ∧ (∃ (s : State) (pin : Nat), s.dev.st ≠ .reset ∧ pin < 32 ∧ s.fdDrive pin = true)
    ∧ (∃ (s : State) (n : Nat), s.dev.st.booted ∧ s.islands = true ∧ s.loopOn n = true ∧ (s.loop n).st = .closed ∧
        s.loopUnchecked n = false) :=
  ⟨⟨w0, 1, 15, false, by decide +kernel⟩,
   ⟨(wCfg .ocLimit 5 1000 (wCfg .inrushLimit 5 3000 (wCfg .lsEnable 5 1 (wCfg .lsEnable 4 1 (wSt .working
       { w0 with pwr.vload := [12000, 12000, 12000, 12000] }))))).updLs 5 (fun x => { x with mode := .high }), 1, 5,
       true, by decide +kernel⟩,
   ⟨(let z := wCfg .fdMode 31 2 (wSt .working w0); { z with field.modes := z.field.modes.set 31 2 }), 31,
       by decide +kernel⟩,
   ⟨(let z := (wCfg .fdOl 31 1 (wCfg .fdMode 31 2 w0)).updPin 31 (fun p => { p with out := true });
       { z with field.modes := z.field.modes.set 31 2 }), 31, by decide +kernel⟩,
   ⟨wCfg .loopEn 31 1 (wSt .working (w0.updLoop 31 (fun l => { l with st := .closed }))), 31, by decide +kernel⟩⟩

theorem met_hostLossRows :
    (∃ (s : State), s.dev.st ≠ .reset)
    ∧ (∃ (s : State), s.dev.st ≠ .reset ∧ s.host.bme = true)
    ∧ (∃ (s : State), s.dev.st ≠ .reset ∧ s.host.mse = true)
    ∧ (∃ (s : State), s.dev.st ≠ .reset ∧ s.host.d0 = true)
    ∧ (∃ (s : State) (dt : Nat), s.dev.st ≠ .reset ∧ s.dev.bound = true ∧ s.host.lastHb + s.host.hbTimeout * 250000
        ≤ (s.advance dt).now) :=
  ⟨⟨wSt .fault w0, by decide +kernel⟩,
   ⟨wSt .working w0, by decide +kernel⟩,
   ⟨wSt .working w0, by decide +kernel⟩,
   ⟨wSt .manual w0, by decide +kernel⟩,
   ⟨{ w0 with host.lastHb := 1 }, 1, by decide +kernel⟩⟩

theorem met_hostReturnRows :
    (∃ (s : State), s.dev.st ≠ .reset ∧ s.pwr.vhioLow = false)
    ∧ (∃ (s : State) (dt : Nat) (g : Grace), s.dev.grace = some g ∧ g.endsAt ≤ (s.advance dt).now) :=
  ⟨⟨{ w0 with host.link := false }, by decide +kernel⟩,
   ⟨{ wSt .working w0 with dev.grace := some { start := 5, endsAt := 250000000 }, dev.bound := false }, 1,
       { start := 5, endsAt := 250000000 }, by decide +kernel⟩⟩

theorem met_sweepRows :
    (∃ (s : State) (dt : Nat), s.time.running = true ∧ s.dmaOk = true ∧ s.dev.st.servesRings = true ∧ s.anyRing =
        true ∧ s.host.sweeping = false ∧ (s.advance dt).now % ((s.advance dt).pollGrid * 250) = 0)
    ∧ (∃ (s : State) (d : Doorbell), s.host.sweeping = true ∧ d.ok = true ∧ d.answers = [] ∧ (∀ n < 16, badIndex n
        (s.ring n) (d.idx.getD n 0) = false))
    ∧ (∃ (s : State) (d : Doorbell), s.host.sweeping = true ∧ d.ok = false ∧ s.host.dbFails ≠ 2)
    ∧ (∃ (s : State) (dt : Nat) (d : Desc) (h : Hdr), s.host.sweeping = true ∧ s.dmaOk = true ∧ s.dev.st.servesRings
        = true ∧ (∀ g, s.dev.grace = some g → (s.advance dt).now < g.endsAt) ∧ (∀ n, 1 < n → (s.ring n).en = false)
        ∧ decodeCmd d = .nop 0 h ∧ s.canTake h.fence = true)
    ∧ (∃ (s : State) (dt : Nat) (d : Desc), s.host.sweeping = true ∧ s.dmaOk = true ∧ s.dev.st.servesRings = true ∧
        s.graceLasts dt ∧ (∀ n, 1 < n → (s.ring n).en = false) ∧ (s.ring 0).fails = 0 ∧ cmdField d 0 8 ≠ 0x81)
    ∧ (∃ (s : State) (dt : Nat) (d : Desc) (e : Desc), s.host.sweeping = true ∧ s.dmaOk = true ∧
        s.dev.st.servesRings = true ∧ s.graceLasts dt ∧ (∀ n, 1 < n → (s.ring n).en = false) ∧ (s.ring 0).fails = 0
        ∧ cmdField d 0 8 ≠ 0x81 ∧ cmdField e 0 8 ≠ 0x81)
    ∧ (∃ (s : State) (d : Doorbell), s.dev.st ≠ .reset ∧ s.host.sweeping = true ∧ d.ok = false ∧ s.host.dbFails = 2) :=
  ⟨⟨w0, 1, by decide +kernel⟩,
   ⟨{ w0 with host.sweeping := true }, { idx := [1, 0] }, by decide +kernel⟩,
   ⟨{ w0 with host.sweeping := true, host.dbFails := 1 }, { ok := false }, by decide +kernel⟩,
   ⟨{ w0 with host.sweeping := true }, 1, 0, {}, by decide +kernel, by decide +kernel, by decide +kernel,
       (by intro _ h; cases h), rest_off (by decide +kernel) (by decide +kernel), by decide +kernel,
       by decide +kernel⟩,
   ⟨wSt .standby { w0 with host.sweeping := true }, 1, (0x0003000A : Desc), by decide +kernel, by decide +kernel,
       by decide +kernel, by decide +kernel, rest_off (by decide +kernel) (by decide +kernel), by decide +kernel,
       by decide +kernel⟩,
   ⟨wRing 0 (fun r => { r with host := 2 }) (wSt .standby { w0 with host.sweeping := true }), 1, (0x0003000A :
       Desc), (0x0004000C : Desc), by decide +kernel, by decide +kernel, by decide +kernel, by decide +kernel,
       rest_off (by decide +kernel) (by decide +kernel), by decide +kernel, by decide +kernel, by decide +kernel⟩,
   ⟨{ w0 with host.sweeping := true, host.dbFails := 2 }, { ok := false }, by decide +kernel⟩⟩

theorem met_bufferRows :
    (∃ (s : State) (i : Nat) (w : Waiting) (d : Nat) (h : Hdr) (a : DWord), w.cmd = .rateTable d h a ∧
        s.host.outstanding.find? (fun w => w.idx.toNat = i && w.dma) = some w)
    ∧ (∃ (s : State) (i : Nat) (w : Waiting), s.host.outstanding.find? (fun w => w.idx.toNat = i && w.dma) = some w
        ∧ w.op ≠ 0x10 ∧ w.op ≠ 0x14)
    ∧ (∃ (s : State) (i : Nat) (w : Waiting) (a : Activity), s.host.outstanding.find? (fun w => w.idx.toNat = i &&
        w.dma) = some w ∧ w.op = 0x14 ∧ s.acts.find? (fun a => a.idx = w.idx && !a.ready) = some a) :=
  ⟨⟨wWait { cmd := .rateTable 0 {} 4096, op := 0x23, idx := 0, dma := true } w0, 0,
      { cmd := .rateTable 0 {} 4096, op := 0x23, idx := 0, dma := true }, 0, {}, 4096, by decide +kernel⟩,
   ⟨wWait { cmd := .tilePatch 0 {} 0 0 false true 0 0 0 0, op := 0x20, idx := 0, dma := true } w0, 0,
       { cmd := .tilePatch 0 {} 0 0 false true 0 0 0 0, op := 0x20, idx := 0, dma := true }, by decide +kernel⟩,
   ⟨wAct { code := 1, idx := 0, ready := false } (wWait
       { cmd := .maintStart 0 {} {} 0 1 0, op := 0x14, idx := 0, dma := true } w0), 0,
       { cmd := .maintStart 0 {} {} 0 1 0, op := 0x14, idx := 0, dma := true },
       ({ code := 1, idx := 0, ready := false } : Activity), by decide +kernel⟩⟩

theorem met_outboundRows :
    (∃ (s : State), s.anyRing = true ∧ s.dmaOk = true ∧ s.dev.st.servesRings = true)
    ∧ (∃ (s : State) (dt : Nat) (v : Nat), v < 32 ∧ 0 < (s.vec v).count ∧ (s.vec v).oldest + (s.vec v).curTime * 250
        ≤ (s.advance dt).now)
    ∧ (∃ (s : State), s.host.events.length ≤ 256 ∧ s.canWrite 2 s.host.events.length = true)
    ∧ (∃ (s : State), s.canWrite 2 1 = false)
    ∧ (∃ (s : State) (dt : Nat) (k : TelKind) (c : Nat) (n : Nat), s.islands = true ∧ s.dev.st.servesRings = true ∧
        (s.advance dt).telDue k = true ∧ s.telForms k = some (c, n) ∧ s.host.telSel.on.getLsbD c = true ∧
        s.host.telCount = [] ∧ s.host.link = true ∧ s.host.away = false ∧ s.host.queue = [] ∧ s.host.tel = [] ∧
        s.host.telTime = [] ∧ s.canWrite 3 n = true)
    ∧ (∃ (s : State) (k : TelKind) (c : Nat) (n : Nat), s.telForms k = some (c, n) ∧ s.host.telSel.on.getLsbD c =
        false) :=
  ⟨⟨w0, by decide +kernel⟩,
   ⟨{ w0 with host.vecs := List.replicate 32 { count := 1, mask := false } }, 1, 31, by decide +kernel⟩,
   ⟨wRing 2 (fun r => { r with en := true }) { w0 with host.events := [{ code := 0x1001, mt := 7 },
                                                         { code := 0x1002, mt := 9 }] }, by decide +kernel⟩,
   ⟨{ w0 with host.events := [{ code := 0x1001, mt := 7 }] }, by decide +kernel⟩,
   ⟨{ wRing 3 (fun r => { r with en := true }) w0 with host.telSel := { on := 0x7F } }, 1, .ai, (4 : Nat), (3 :
       Nat), by decide +kernel⟩,
   ⟨{ w0 with host.telSel := { on := 0 } }, .fd, (4 : Nat), (1 : Nat), by decide +kernel⟩⟩

theorem met_registerRows :
    (∃ (s : State) (n : Nat), s.bar0Open = true ∧ n < 16 ∧ n < s.host.rings.length ∧ (s.ring n).en = false)
    ∧ (∃ (s : State) (n : Nat), s.bar0Open = true ∧ n < 16 ∧ n < s.host.rings.length ∧ (s.ring n).en = true ∧ 4 ≤
        (s.ring n).log2 ∧ (s.ring n).log2 ≤ 12)
    ∧ (∃ (s : State) (off : Nat) (v : DWord), s.bar0Open = true ∧ off % 4 = 0 ∧ s.locks off (v.setWidth 32) = true)
    ∧ (∃ (s : State), s.bar0Open = true)
    ∧ (∃ (s : State) (dt : Nat) (v : Nat), s.bar0Open = true ∧ (s.dev.bound = false ∨ (s.advance dt).now <
        s.host.lastHb + max 10 (min 5000 (v % 8192)) * 250000))
    ∧ (∃ (s : State), s.bar0Open = true)
    ∧ (∃ (s : State) (v : Nat), s.bar0Open = true ∧ v < 32 ∧ v < s.host.vecs.length)
    ∧ (∃ (s : State), s.host.link = true ∧ s.host.vecs.length = 32)
    ∧ (∃ (s : State), s.bar0Open = true)
    ∧ (∃ (s : State) (off : Nat) (size : Nat), s.bar0Open = true ∧ goodAccess off size = true ∧ off + size ≤ 0x400)
    ∧ (∃ (s : State) (off : Nat) (size : Nat), s.bar0Open = true ∧ goodAccess off size = false)
    ∧ (∃ (s : State) (off : Nat) (size : Nat), s.bar0Open = true ∧ goodAccess off size = false)
    ∧ (∃ (s : State) (off : Nat) (size : Nat), s.bar0Open = true ∧ goodAccess off size = true ∧ off + size ≤ 65536 ∧
        (0x420 ≤ off ∧ off + size ≤ 0x500 ∨ 0x600 ≤ off ∧ off + size ≤ 0x700 ∨ 0x800 ≤ off ∧ off + size ≤ 0x1000 ∨
        0x1200 ≤ off))
    ∧ (∃ (s : State), s.bar0Open = true ∧ s.anyRing = false)
    ∧ (∃ (s : State), s.bar0Open = true ∧ s.anyRing = false)
    ∧ (∃ (s : State) (n : Nat), s.bar0Open = true ∧ n < 16 ∧ (s.ring n).en = false)
    ∧ (∃ (s : State) (off : Nat) (size : Nat) (v : DWord), s.bar0Open = true ∧ goodAccess off size = true ∧ size = 4
        ∧ s.locks off (v.setWidth 32) = true)
    ∧ (∃ (s : State) (k : Nat), s.bar0Open = true ∧ k < 32)
    ∧ (∃ (s : State) (k : Nat), s.bar0Open = true ∧ k < 32 ∧ k < s.host.vecs.length)
    ∧ (∃ (s : State) (k : Nat), s.bar0Open = true ∧ k < 32 ∧ k < s.host.vecs.length)
    ∧ (∃ (s : State) (k : Nat), s.bar0Open = true ∧ k < 32 ∧ k < s.host.vecs.length)
    ∧ (∃ (s : State) (dt : Nat) (v : Nat), s.bar0Open = true ∧ s.dev.bound = true ∧ s.host.lastHb + max 10 (min 5000
        (v % 8192)) * 250000 ≤ (s.advance dt).now) :=
  ⟨⟨w0, 15, by decide +kernel⟩,
   ⟨w0, 0, by decide +kernel⟩,
   ⟨w0, 0x500, 0, by decide +kernel⟩,
   ⟨w0, by decide +kernel⟩,
   ⟨{ w0 with dev.bound := false }, 1, 1000, by decide +kernel⟩,
   ⟨w0, by decide +kernel⟩,
   ⟨w0, 31, by decide +kernel⟩,
   ⟨w0, by decide +kernel⟩,
   ⟨w0, by decide +kernel⟩,
   ⟨w0, 0, 4, by decide +kernel⟩,
   ⟨w0, 0x3, 4, by decide +kernel⟩,
   ⟨w0, 0x3, 4, by decide +kernel⟩,
   ⟨w0, 0x420, 4, by decide +kernel⟩,
   ⟨{ w0 with host.rings := List.replicate 16 {} }, by decide +kernel⟩,
   ⟨{ w0 with host.rings := List.replicate 16 {} }, by decide +kernel⟩,
   ⟨w0, 15, by decide +kernel⟩,
   ⟨w0, 0x500, 4, 0, by decide +kernel⟩,
   ⟨w0, 31, by decide +kernel⟩,
   ⟨w0, 31, by decide +kernel⟩,
   ⟨w0, 31, by decide +kernel⟩,
   ⟨w0, 31, by decide +kernel⟩,
   ⟨wSt .working { w0 with host.lastHb := 1 }, 1, 20, by decide +kernel⟩⟩

theorem met_systemCommands :
    (∃ (s : State) (dt : Nat) (h : Hdr), Takes s dt 0x00 h)
    ∧ (∃ (s : State) (dt : Nat) (h : Hdr), Takes s dt 0x0A h)
    ∧ (∃ (s : State) (dt : Nat) (h : Hdr), Takes s dt 0x0B h)
    ∧ (∃ (s : State) (dt : Nat) (h : Hdr), Takes s dt 0x0C h)
    ∧ (∃ (s : State) (dt : Nat) (h : Hdr) (decs : List Nat) (age : Nat), Takes s dt 0x0D h ∧ decs.length = 7 ∧ (∀ d
        ∈ decs, 1 ≤ d ∧ d ≤ 1000) ∧ 1 ≤ age ∧ age ≤ 100)
    ∧ (∃ (s : State) (dt : Nat) (h : Hdr) (decs : List Nat) (age : Nat), Takes s dt 0x0D h ∧ decs.length = 7 ∧ ((∃ d
        ∈ decs, d < 1 ∨ 1000 < d) ∨ age < 1 ∨ 100 < age))
    ∧ (∃ (s : State) (dt : Nat) (h : Hdr) (op : Byte), s.graceLasts dt ∧ s.canTake h.fence = true ∧ assigned
        op.toNat = false) :=
  ⟨⟨w0, 1, { tag := 7, irq := true }, by decide +kernel⟩,
   ⟨w0, 1, { tag := 7, irq := true }, by decide +kernel⟩,
   ⟨w0, 1, { tag := 7, irq := true }, by decide +kernel⟩,
   ⟨w0, 1, { tag := 7, irq := true }, by decide +kernel⟩,
   ⟨w0, 1, { tag := 7, irq := true }, [1, 2, 3, 4, 5, 1000, 7], 100, by decide +kernel⟩,
   ⟨w0, 1, { tag := 7 }, [0, 1, 2, 3, 4, 5, 1001], 5, by decide +kernel⟩,
   ⟨w0, 1, { tag := 7 }, 0xFF, by decide +kernel⟩⟩

theorem met_bindCommands :
    (∃ (s : State) (dt : Nat) (h : Hdr) (resume : Bool) (boot : Word), Takes s dt 0x01 h ∧ s.firingTag = none ∧
        s.dev.st ≠ .fault ∧ (s.dev.grace = none ∨ resume = false ∨ boot ≠ s.dev.bootCount))
    ∧ (∃ (s : State) (dt : Nat) (h : Hdr) (g : Grace), Takes s dt 0x01 h ∧ s.firingTag = none ∧ s.dev.grace = some
        g)
    ∧ (∃ (s : State) (dt : Nat) (h : Hdr), Takes s dt 0x01 h ∧ s.firingTag = none ∧ s.dev.st = .fault ∧ s.dev.grace
        = none)
    ∧ (∃ (s : State) (dt : Nat) (h : Hdr), Takes s dt 0x02 h ∧ s.unsafeHolder = none) :=
  ⟨⟨{ wSt .safe w0 with dev.bound := false }, 1, {}, true, 9, by decide +kernel⟩,
   ⟨{ wSt .working w0 with dev.grace := some { start := 5, endsAt := 260000000 }, dev.bound := false }, 1, {},
       { start := 5, endsAt := 260000000 }, by decide +kernel⟩,
   ⟨{ wSt .fault w0 with dev.bound := false, dev.causes := [.cls 1], dev.orphan := some (3, 4) }, 1, {},
       by decide +kernel⟩,
   ⟨w0, 1, {}, by decide +kernel⟩⟩

theorem met_stateCommands :
    (∃ (s : State) (dt : Nat) (h : Hdr), Takes s dt 0x03 h ∧ s.firingTag = none ∧ s.cfg.inForce ≠ .straps ∧
        s.nav.origin ≠ none)
    ∧ (∃ (s : State) (dt : Nat) (h : Hdr), Takes s dt 0x04 h ∧ s.firingTag = none)
    ∧ (∃ (s : State) (dt : Nat) (h : Hdr), Takes s dt 0x05 h ∧ s.firingTag = none)
    ∧ (∃ (s : State) (dt : Nat) (h : Hdr), Takes s dt 0x06 h ∧ s.firingTag = none)
    ∧ (∃ (s : State) (dt : Nat) (h : Hdr), Takes s dt 0x07 h ∧ s.outputsHolder = none)
    ∧ (∃ (s : State) (dt : Nat) (h : Hdr), Takes s dt 0x08 h ∧ s.firingTag = none) :=
  ⟨⟨{ w0 with cfg.inForce := .slot 1, nav.origin := some (1, 2, 3) }, 1, {}, by decide +kernel⟩,
   ⟨wSt .parked w0, 1, {}, by decide +kernel⟩,
   ⟨wSt .parked w0, 1, {}, by decide +kernel⟩,
   ⟨wSt .working w0, 1, {}, by decide +kernel⟩,
   ⟨wSt .parked w0, 1, {}, by decide +kernel⟩,
   ⟨wSt .manual w0, 1, {}, by decide +kernel⟩⟩

theorem met_clearFaultCommand :
    (∃ (s : State) (dt : Nat) (h : Hdr), Takes s dt 0x09 h ∧ s.firingTag = none ∧ s.dev.bound = true ∧ (∀ c ∈
        s.dev.causes, (s.advance dt).causeGone c = true))
    ∧ (∃ (s : State) (dt : Nat) (h : Hdr), Takes s dt 0x09 h ∧ s.firingTag = none ∧ s.dev.bound = true ∧
        s.dev.causes = [.cls 1]) :=
  ⟨⟨wSt .fault { w0 with dev.causes := [.orphan], sag.a.force := true, dev.summary := 3 }, 1, {},
      by decide +kernel⟩,
   ⟨wSt .fault { w0 with dev.causes := [.cls 1], sag.a.force := true }, 1, {}, by decide +kernel⟩⟩

theorem met_statusCommands :
    (∃ (s : State) (mask : BitVec 96), s.fitted (bitsOf mask) = true)
    ∧ (∃ (s : State) (mask : BitVec 96), s.fitted (bitsOf mask) = true)
    ∧ (∃ (s : State) (mask : BitVec 96) (quads : BitVec 4), s.fitted (bitsOf mask) = true ∧ (∀ q ∈ bitsOf quads, q <
        s.nQuad))
    ∧ (∃ (s : State) (mask : Word), (∀ n ∈ bitsOf mask, s.loopOn n = true))
    ∧ (∃ (s : State) (mask : BitVec 16), (∀ n ∈ bitsOf mask, s.cfgB .lsEnable n = true))
    ∧ (∃ (s : State) (mask : Word), (∀ p ∈ bitsOf mask, s.fdEnabled p = true))
    ∧ (∃ (mask : Word), (∀ n ∈ bitsOf mask, n < 16))
    ∧ (∃ (mask : Word), (∀ n ∈ bitsOf mask, n < 18))
    ∧ (∃ (s : State) (dt : Nat) (h : Hdr) (bus : Nat), bus < 4 ∧ Takes s dt 0x85 h)
    ∧ (∃ (s : State) (dt : Nat) (h : Hdr), Takes s dt 0x16 h)
    ∧ (∃ (s : State) (dt : Nat) (h : Hdr) (mask : Word), (∀ n ∈ bitsOf mask, s.loopOn n = true) ∧ Takes s dt 0x50 h) :=
  ⟨⟨wCfg .loopEn 3 1 w0, 8, by decide +kernel⟩,
   ⟨wCfg .loopEn 3 1 w0, 8, by decide +kernel⟩,
   ⟨wCfg .loopEn 3 1 w0, 8, 8, by decide +kernel⟩,
   ⟨wCfg .loopEn 3 1 w0, 8, by decide +kernel⟩,
   ⟨wCfg .lsEnable 3 1 w0, 8, by decide +kernel⟩,
   ⟨wCfg .fdMode 3 2 w0, 8, by decide +kernel⟩,
   ⟨8, by decide +kernel⟩,
   ⟨0x20008, by decide +kernel⟩,
   ⟨w0, 1, { tag := 3 }, 3, by decide +kernel⟩,
   ⟨w0, 1, { tag := 3 }, by decide +kernel⟩,
   ⟨wCfg .loopEn 3 1 { w0 with loops.loop := w0.loops.loop.map (fun l => { l with sticky := 31 }) }, 1,
       { tag := 3 }, 8, by decide +kernel⟩⟩

/-- The state of DiagCommands, clause 0. -/
def wDiagCommands_0 : State :=
  { w0 with flash.records := [{ number := 1 }, { number := 2 }], flash.nextRec := 3 }

theorem met_diagCommands :
    (∃ (s : State) (dt : Nat) (h : Hdr), Takes s dt 0xB0 h)
    ∧ (∃ (s : State) (dt : Nat) (h : Hdr), Takes s dt 0xB3 h ∧ s.holderOf [.store] = none)
    ∧ (∃ (s : State) (d : Nat) (h : Hdr) (last : Word) (w : Waiting), s.acts.any (fun a => a.code = 10) = true ∧
        s.waitingFor 0xB3 = some w ∧ w.cmd = .diagErase d h last) :=
  ⟨⟨wDiagCommands_0, 1, {}, by decide +kernel⟩,
   ⟨w0, 1, {}, by decide +kernel⟩,
   ⟨wAct { code := 10 } (wWait { cmd := .diagErase 0 {} 1, op := 0xB3 }
       { w0 with flash.records := [{ number := 1 }, { number := 2 }] }), 0, {}, 1,
       { cmd := .diagErase 0 {} 1, op := 0xB3 }, by decide +kernel⟩⟩

/-- The state of ConfigRows, clause 4. -/
def wConfigRows_4 : State :=
  wAct { code := 7 } (wWait { cmd := .cfgFire 0 {} 0xB298C9C3BDF302AA, op := 0x11, idx := 0 } { wSlot 0 w0 with
                                                                                                  cfg.firing := some
                                                                                                    { rollback := false, start := 5, src := 0 }
                                                                                                    })

theorem met_configRows :
    (∃ (s : State) (dt : Nat) (h : Hdr), Takes s dt 0x10 h ∧ s.holderOf [.store] = none)
    ∧ (∃ (s : State) (w : Waiting), s.waitingFor 0x10 (fun w => !w.dma) = some w ∧ s.cfg.roles.staged <
        s.cfg.slots.length)
    ∧ (∃ (s : State) (dt : Nat) (h : Hdr) (digest : DWord), Takes s dt 0x11 h ∧ s.acts = [] ∧ (s.slot
        s.cfg.roles.staged).filled = true ∧ (s.slot s.cfg.roles.staged).digest = digest ∧ s.cellBlocked
        s.cfg.roles.staged = false)
    ∧ (∃ (s : State) (dt : Nat) (h : Hdr), Takes s dt 0x12 h ∧ s.acts = [] ∧ (s.slot s.cfg.roles.previous).filled =
        true ∧ s.cellBlocked s.cfg.roles.previous = false)
    ∧ (∃ (s : State) (f : Firing) (v : CfgVals), s.cfg.firing = some f ∧ s.recheckSlot f.src = .ok v)
    ∧ (∃ (s : State) (f : Firing), s.cfg.firing = some f)
    ∧ (∃ (s : State), s.acts.any (fun a => a.code = 11) = true) :=
  ⟨⟨w0, 1, { tag := 3 }, by decide +kernel⟩,
   ⟨wAct { code := 9 } (wWait { cmd := .cfgStage 0 {} {}, op := 0x10, idx := 0, aux := [96] } w0),
       { cmd := .cfgStage 0 {} {}, op := 0x10, idx := 0, aux := [96] }, by decide +kernel⟩,
   ⟨wSlot 0 w0, 1, { tag := 3 }, 0xB298C9C3BDF302AA, by decide +kernel⟩,
   ⟨wSlot 2 w0, 1, { tag := 3 }, by decide +kernel⟩,
   ⟨wConfigRows_4, { rollback := false, start := 5, src := 0 }, ((wConfigRows_4.recheckSlot 0).toOption.getD {}),
       by decide +kernel⟩,
   ⟨wAct { code := 7 } (wWait { cmd := .cfgFire 0 {} 0xB298C9C3BDF302AA, op := 0x11, idx := 0 } { wSlot 0 w0 with
                                                                                                    cfg.firing := some
                                                                                                      { rollback := false, start := 5, src := 0 }
                                                                                                      }),
       { rollback := false, start := 5, src := 0 }, by decide +kernel⟩,
   ⟨wAct { code := 11 } { w0 with cfg.journal := [{ seq := 1 }, { seq := 2 }], cfg.jpos := 2 }, by decide +kernel⟩⟩

theorem met_maintCommands :
    (∃ (s : State) (dt : Nat) (h : Hdr) (result : DWord) (act : Byte) (loop : Nat), Takes s dt 0x14 h ∧ 1 ≤
        act.toNat ∧ act.toNat ≤ 6 ∧ s.dev.st.admitsAct act.toNat = true ∧ (act.toNat = 3 → s.loopOn loop = true) ∧
        (act.toNat = 1 → s.cfg.inForce ≠ .straps) ∧ ((s.advance dt).taken).holderOf (((s.advance dt).taken).claimOf
        (((s.advance dt).taken).request h result act.toNat loop)) = none)
    ∧ (∃ (s : State) (dt : Nat) (h : Hdr) (target : BitVec 16) (a : Activity), Takes s dt 0x15 h ∧ s.acts.find? (fun
        a => a.tag = target) = some a ∧ a.code ≤ 6)
    ∧ (∃ (s : State) (dt : Nat) (h : Hdr) (target : BitVec 16) (a : Activity), Takes s dt 0x15 h ∧ s.acts.find? (fun
        a => a.tag = target) = some a ∧ 6 < a.code ∧ a.code ≠ 9) :=
  ⟨⟨w0, 1, { tag := 3 }, 0, 5, 0, by decide +kernel⟩,
   ⟨wAct { code := 2, tag := 9, idx := 4 } w0, 1, {}, 9, { code := 2, tag := 9, idx := 4 }, by decide +kernel⟩,
   ⟨wAct { code := 7, tag := 9 } w0, 1, {}, 9, { code := 7, tag := 9 }, by decide +kernel⟩⟩

theorem met_maintEnds :
    (∃ (s : State) (o : Swept) (n : Nat) (a : Activity) (w : Waiting), s.running 1 = some a ∧ a.params = [(n : Int)]
        ∧ a.swept = [o] ∧ s.sweptOut o = true ∧ s.maintCmd a = some w ∧ s.sweepMoves = false ∧ sweptWell n
        o.detected o.opens = true ∧ sweptWell n o.closes.length o.closes = true)
    ∧ (∃ (s : State) (a : Activity) (w : Waiting), s.running 2 = some a ∧ s.maintCmd a = some w)
    ∧ (∃ (s : State) (a : Activity) (w : Waiting), s.maintCmd a = some w ∧ s.acts.find? (fun a => a.code = 3 &&
        a.ready && ((s.loop a.loop).relay.map (·.ended)) == some 1) = some a)
    ∧ (∃ (s : State) (dt : Nat) (a : Activity) (w : Waiting), s.maintCmd a = some w ∧ s.acts.find? (fun a => a.code
        = 3 && a.ready && decide (a.start + (a.params.getD 7 0).toNat * 250000000 ≤ (s.advance dt).now) && ((s.loop
        a.loop).relay.map (·.ended)) != some 1) = some a)
    ∧ (∃ (s : State) (a : Activity) (w : Waiting), s.running 4 = some a ∧ s.maintCmd a = some w)
    ∧ (∃ (s : State) (dt : Nat) (a : Activity) (w : Waiting), s.running 5 = some a ∧ s.maintCmd a = some w ∧ a.start
        + 250000000 ≤ (s.advance dt).now)
    ∧ (∃ (s : State) (dt : Nat) (a : Activity) (w : Waiting), s.running 6 = some a ∧ s.maintCmd a = some w ∧ a.start
        + 200000000 ≤ (s.advance dt).now) :=
  ⟨⟨wAct { code := 1, idx := 7, params := [8], start := 5, swept := [{ ch := 3, detected := 8, opens := [500000,
                                                                         510000, 500000, 510000, 500000, 500000,
                                                                         500000, 500000], closes := [400000, 400000,
                                                                         400000, 410000, 400000, 400000, 400000,
                                                                         400000] }] } (wWait
      { cmd := .maintStart 0 {} {} 0 1 0, op := 0x14, idx := 7 } (w0)), { ch := 3, detected := 8, opens := [500000,
                                                                            510000, 500000, 510000, 500000, 500000,
                                                                            500000, 500000], closes := [400000,
                                                                            400000, 400000, 410000, 400000, 400000,
                                                                            400000, 400000] }, 8, { code := 1,
                                                                                                      idx := 7,
                                                                                                      params := [8],
                                                                                                      start := 5,
                                                                                                      swept := [{ ch := 3,
                                                                                                                    detected := 8,
                                                                                                                    opens := [500000,
                                                                                                                    510000,
                                                                                                                    500000,
                                                                                                                    510000,
                                                                                                                    500000,
                                                                                                                    500000,
                                                                                                                    500000,
                                                                                                                    500000],
                                                                                                                    closes := [400000,
                                                                                                                    400000,
                                                                                                                    400000,
                                                                                                                    410000,
                                                                                                                    400000,
                                                                                                                    400000,
                                                                                                                    400000,
                                                                                                                    400000]
                                                                                                                    }]
                                                                                                      },
      { cmd := .maintStart 0 {} {} 0 1 0, op := 0x14, idx := 7 }, by decide +kernel⟩,
   ⟨wAct { code := 2, idx := 7 } (wWait { cmd := .maintStart 0 {} {} 0 1 0, op := 0x14, idx := 7 } (w0)),
       { code := 2, idx := 7 }, { cmd := .maintStart 0 {} {} 0 1 0, op := 0x14, idx := 7 }, by decide +kernel⟩,
   ⟨wAct { code := 3, idx := 7, loop := 3, params := [0, 0, 0, 0, 0, 0, 0, 4] } (wWait
       { cmd := .maintStart 0 {} {} 0 1 0, op := 0x14, idx := 7 } (w0.updLoop 3 (fun l => { l with
                                                                                              st := .tune,
                                                                                                relay := some
                                                                                                { ended := 1,
                                                                                                    cycles := [(250000,
                                                                                                    1), (250000,
                                                                                                    1)], lo := 0,
                                                                                                    hi := 65536 }
                                                                                                }))),
       { code := 3, idx := 7, loop := 3, params := [0, 0, 0, 0, 0, 0, 0, 4] },
       { cmd := .maintStart 0 {} {} 0 1 0, op := 0x14, idx := 7 }, by decide +kernel⟩,
   ⟨wAct { code := 3, idx := 7, loop := 3, params := [0, 0, 0, 0, 0, 0, 0, 1] } (wWait
       { cmd := .maintStart 0 {} {} 0 1 0, op := 0x14, idx := 7 } (w0.updLoop 3 (fun l =>
       { l with st := .tune, relay := some {} }))), 1,
       { code := 3, idx := 7, loop := 3, params := [0, 0, 0, 0, 0, 0, 0, 1] },
       { cmd := .maintStart 0 {} {} 0 1 0, op := 0x14, idx := 7 }, by decide +kernel⟩,
   ⟨wAct { code := 4, idx := 7 } (wWait { cmd := .maintStart 0 {} {} 0 1 0, op := 0x14, idx := 7 } (w0)),
       { code := 4, idx := 7 }, { cmd := .maintStart 0 {} {} 0 1 0, op := 0x14, idx := 7 }, by decide +kernel⟩,
   ⟨wAct { code := 5, idx := 7 } (wWait { cmd := .maintStart 0 {} {} 0 1 0, op := 0x14, idx := 7 } (wCfg .aiZeroEn 1
       1 w0)), 1, { code := 5, idx := 7 }, { cmd := .maintStart 0 {} {} 0 1 0, op := 0x14, idx := 7 },
       by decide +kernel⟩,
   ⟨wAct { code := 6, idx := 7 } (wWait { cmd := .maintStart 0 {} {} 0 1 0, op := 0x14, idx := 7 } (w0)), 1,
       { code := 6, idx := 7 }, { cmd := .maintStart 0 {} {} 0 1 0, op := 0x14, idx := 7 }, by decide +kernel⟩⟩

/-- The state of TileExchangeRows, clause 2. -/
def wTileExchangeRows_2 : State :=
  { w0 with nav.origin := some (0, 0, 0), tiles.slots := [{ slot := 9, tx := 3, ty := 4 }],
              tiles.placed := [{ slot := 9, tx := 3, ty := 4, addr := some 4096 }] }

theorem met_tileExchangeRows :
    (∃ (s : State) (dt : Nat), s.dev.st.planning = true ∧ (s.tiles.recomputed = none ∨ ∃ m, s.tiles.recomputed =
        some m ∧ m + 2500000 ≤ (s.advance dt).now))
    ∧ (∃ (s : State) (dt : Nat) (r : TReq), (s.advance dt).nextReq = some r ∧ s.tileRoom = true)
    ∧ (∃ (s : State) (n : Nat) (p : TPlaced) (x : TSlot) (d : List Byte), s.answeredReq true n = some p ∧
        p.cancelled = false ∧ s.tileCheck p.tx p.ty d = 0 ∧ s.slotFor p.tx p.ty = some x ∧ x.st ≠ .refresh ∧
        s.tiles.held = [])
    ∧ (∃ (s : State) (dt : Nat) (n : Nat) (x : TSlot), s.tiles.slots.find? (fun x => x.slot = n) = some x ∧ x.dirty
        = true ∧ x.oldest + 500000000 ≤ (s.advance dt).now ∧ x.notBefore ≤ (s.advance dt).now ∧ s.wbBusy n = false ∧
        s.tiles.queue.length < 256)
    ∧ (∃ (s : State) (n : Nat) (p : TPlaced), s.answeredReq false n = some p)
    ∧ (∃ (s : State) (dt : Nat) (n : Nat) (p : TPlaced), s.tiles.placed.find? (fun p => p.slot = n && p.addr.isNone
        && !p.timedOut) = some p ∧ p.placed + s.cfgN .tileAnswerMax * 250000 ≤ (s.advance dt).now)
    ∧ (∃ (s : State) (dt : Nat) (n : Nat) (x : TSlot), s.tiles.slots.find? (fun x => x.slot = n) = some x ∧ x.dirty
        = false ∧ x.needsRecord = true ∧ x.fetchAfter ≤ (s.advance dt).now ∧ s.fetchBusy x = false ∧
        s.tiles.queue.length < 256 ∧ s.tiles.waitBad = [])
    ∧ (∃ (s : State) (dt : Nat) (m : Nat) (need : Nat) (tx : Int) (ty : Int), s.tiles.waitBad = [(tx, ty, m)] ∧ m ≤
        (s.advance dt).now ∧ s.dev.st.planning = true ∧ reach tx = true ∧ reach ty = true ∧ s.tiles.region = [(tx,
        ty, need)] ∧ s.tiles.held = [] ∧ s.tiles.slots = [] ∧ s.tiles.stuck = [] ∧ s.tiles.queue.length < 256) :=
  ⟨⟨wCfg .chEnable 11 1 { wSt .working w0 with tiles.recomputed := some 0, nav.outs := [{ epoch := 249750000,
                                                                                            quality := 4,
                                                                                            speed := 2000,
                                                                                            speedValid := true,
                                                                                            originValid := true,
                                                                                            hdgSrc := 1 }] }, 1,
      by decide +kernel, .inr ⟨0, by decide +kernel⟩⟩,
   ⟨{ wRing 4 (fun r => { r with en := true }) w0 with tiles.queue := [{ tx := 3, ty := 4, slot := 9 }] }, 1,
       { tx := 3, ty := 4, slot := 9 }, by decide +kernel⟩,
   ⟨wTileExchangeRows_2, 9, { slot := 9, tx := 3, ty := 4, addr := some 4096 }, { slot := 9, tx := 3, ty := 4 },
       wRec wTileExchangeRows_2, by decide +kernel⟩,
   ⟨wAt 500000006 { w0 with tiles.slots := [{ slot := 9, tx := 3, ty := 4, dirty := true, oldest := 6, st := .valid
                                                }] }, 1, 9, { slot := 9, tx := 3, ty := 4, dirty := true,
                                                                oldest := 6, st := .valid }, by decide +kernel⟩,
   ⟨{ w0 with tiles.slots := [{ slot := 9, tx := 3, ty := 4, dirty := true, st := .valid }],
                tiles.placed := [{ slot := 9, tx := 3, ty := 4, fetch := false, addr := some 4096, idx := 5 },
                { idx := 6 }] }, 9, { slot := 9, tx := 3, ty := 4, fetch := false, addr := some 4096, idx := 5 },
       by decide +kernel⟩,
   ⟨wAt 2500000000 { w0 with tiles.slots := [{ slot := 9, tx := 3, ty := 4 }],
                               tiles.placed := [{ slot := 9, tx := 3, ty := 4, idx := 5 }] }, 1, 9,
       { slot := 9, tx := 3, ty := 4, idx := 5 }, by decide +kernel⟩,
   ⟨{ w0 with tiles.slots := [{ slot := 9, tx := 1, ty := 2, st := .refresh, fetchAfter := 5 }] }, 1, 9,
       { slot := 9, tx := 1, ty := 2, st := .refresh, fetchAfter := 5 }, by decide +kernel⟩,
   ⟨{ wSt .parked w0 with tiles.waitBad := [(1, 2, 3)], tiles.region := [(1, 2, 77)] }, 1, 3, 77, 1, 2,
       by decide +kernel⟩⟩

/-- The state of TileCommands, clause 2. -/
def wTileCommands_2 : State :=
  { w0 with tiles.slots := [{ slot := 9, tx := 3, ty := -4, st := .valid },
              { slot := 8, tx := 0, ty := 0, st := .valid }], nav.origin := some (0, 0, 0) }

/-- The state of TileCommands, clause 3. -/
def wTileCommands_3 : State :=
  { w0 with tiles.slots := [{ slot := 9, tx := 3, ty := -4, st := .valid, dirty := true }] }

/-- The state of TileCommands, clause 4. -/
def wTileCommands_4 : State :=
  { w0 with tiles.slots := [{ slot := 9, tx := 3, ty := -4, st := .valid },
              { slot := 8, tx := 0, ty := 0, st := .valid }], nav.origin := some (0, 0, 0) }

theorem met_tileCommands :
    (∃ (s : State) (dt : Nat) (h : Hdr) (tx : BitVec 16) (ty : BitVec 16) (rate : Bool) (dma : Bool) (off : Nat)
        (len : Nat), Takes s dt 0x20 h ∧ (off + len ≤ (if rate then 256 else 512)) ∧ (dma = true ∨ len ≤ 16) ∧
        s.slotFor tx.toInt ty.toInt = none)
    ∧ (∃ (s : State) (dt : Nat) (h : Hdr) (tx : BitVec 16) (ty : BitVec 16) (rate : Bool) (dma : Bool) (off : Nat)
        (len : Nat) (x : _), Takes s dt 0x20 h ∧ (off + len ≤ (if rate then 256 else 512)) ∧ (dma = true ∨ len ≤ 16)
        ∧ s.slotFor tx.toInt ty.toInt = some x)
    ∧ (∃ (s : State) (dt : Nat) (h : Hdr), Takes s dt 0x21 h ∧ s.tiles.stuck = [] ∧ (∀ x ∈ s.tiles.slots, x.drop =
        false))
    ∧ (∃ (s : State) (dt : Nat) (h : Hdr) (x0 : BitVec 16) (y0 : BitVec 16) (x1 : BitVec 16) (y1 : BitVec 16) (x :
        _), Takes s dt 0x21 h ∧ s.tiles.stuck = [] ∧ (s.rectSlots x0.toInt y0.toInt x1.toInt y1.toInt) = [x] ∧
        x.dirty = true ∧ s.tiles.queue.length < 256)
    ∧ (∃ (s : State) (dt : Nat) (h : Hdr), Takes s dt 0x21 h ∧ s.tiles.stuck = [])
    ∧ (∃ (s : State) (dt : Nat) (h : Hdr), Takes s dt 0x22 h ∧ (∀ x ∈ s.tiles.slots, x.dirty = false))
    ∧ (∃ (s : State) (dt : Nat) (h : Hdr), Takes s dt 0x22 h ∧ (∃ x ∈ s.tiles.slots, x.dirty = true))
    ∧ (∃ (s : State) (posted : Nat) (failed : Nat) (w : Waiting), s.waitingFor 0x22 = some w ∧ w.aux = [posted,
        failed])
    ∧ (∃ (s : State) (dt : Nat) (h : Hdr), Takes s dt 0x23 h) :=
  ⟨⟨w0, 1, { tag := 3 }, 0, 0, false, false, 500, 12, by decide +kernel⟩,
   ⟨{ w0 with tiles.slots := [{ slot := 9, tx := 3, ty := -4, st := .valid }] }, 1, {}, 3, -4, false, false, 500,
       12, { slot := 9, tx := 3, ty := -4, st := .valid }, by decide +kernel⟩,
   ⟨wTileCommands_2, 1, {}, by decide +kernel⟩,
   ⟨wTileCommands_3, 1, {}, 0, -4, 3, 0, { slot := 9, tx := 3, ty := -4, st := .valid, dirty := true },
       by decide +kernel⟩,
   ⟨wTileCommands_4, 1, {}, by decide +kernel⟩,
   ⟨{ w0 with tiles.slots := [{ slot := 9, tx := 3, ty := -4, st := .valid },
                { slot := 8, tx := 0, ty := 0, st := .valid }], nav.origin := some (0, 0, 0) }, 1, {},
       by decide +kernel⟩,
   ⟨{ w0 with tiles.slots := [{ slot := 9, tx := 3, ty := -4, st := .valid, dirty := true }] }, 1, {},
       by decide +kernel⟩,
   ⟨wWait { cmd := .tileFlush 0 {}, op := 0x22, aux := [3, 1] } w0, 3, 1,
       { cmd := .tileFlush 0 {}, op := 0x22, aux := [3, 1] }, by decide +kernel⟩,
   ⟨w0, 1, {}, by decide +kernel⟩⟩

theorem met_plannerRows :
    (∃ (s : State) (dt : Nat), s.islands = true ∧ s.dev.st.servesRings = true ∧ (s.advance dt).now % 125000 = 0)
    ∧ (∃ (s : State) (dt : Nat), s.islands = true ∧ (s.advance dt).now % 125000 = 0 ∧ s.dev.st = .parked ∧
        s.dev.runReq = true ∧ s.dev.grace = none ∧ s.cfgN .workSpeed ≤ (s.advance dt).groundSpeed ∧ s.outputsHolder
        = none)
    ∧ (∃ (s : State) (dt : Nat), s.islands = true ∧ (s.advance dt).now % 125000 = 0 ∧ s.dev.st = .working ∧
        s.dev.runReq = true ∧ (∀ g, s.dev.grace = some g → (s.advance dt).now < g.endsAt) ∧ (s.advance
        dt).groundSpeed + s.cfgN .workHyst < s.cfgN .workSpeed)
    ∧ (∃ (s : State) (dt : Nat) (d : Nat) (h : Hdr) (w : Waiting) (mask : BitVec 96) (en : Bool), s.islands = true ∧
        (s.advance dt).now % 125000 = 0 ∧ s.dev.st = .standby ∧ s.host.outstanding = [w] ∧ w.cmd =
        .planSectionEnable d h mask en)
    ∧ (∃ (s : State) (dt : Nat) (m : Nat), s.planner.placing = true ∧ s.planner.cycle = some m ∧ m + 100000 ≤
        (s.advance dt).now)
    ∧ (∃ (s : State) (dt : Nat), s.dev.st = .working ∧ s.planner.loss = 2 ∧ s.planner.lossMt + s.cfgN .holdAckMax *
        250000 ≤ (s.advance dt).now)
    ∧ (∃ (s : State) (dt : Nat), s.dev.st = .working ∧ s.planner.loss = 3 ∧ s.planner.lossMt + s.cfgN .holdMax *
        250000 ≤ (s.advance dt).now) :=
  ⟨⟨wSt .working w0, 1, by decide +kernel⟩,
   ⟨wSt .parked { wCfg .workSpeed 0 300 w0 with dev.runReq := true, nav.outs := [{ epoch := 249750000, quality := 3,
                                                                                     speed := 3000,
                                                                                     speedValid := true,
                                                                                     originValid := true }] }, 1,
       by decide +kernel⟩,
   ⟨wSt .working { wCfg .workSpeed 0 3000 w0 with dev.runReq := true }, 1, by decide +kernel, by decide +kernel,
       by decide +kernel, by decide +kernel, (by intro _ h; cases h), by decide +kernel⟩,
   ⟨wWait { cmd := .planSectionEnable 0 {} 5 5, op := 0x25 } w0, 1, 0, {},
       { cmd := .planSectionEnable 0 {} 5 5, op := 0x25 }, 5, 5, by decide +kernel⟩,
   ⟨{ w0 with planner.placing := true, planner.cycle := some 249900000 }, 1, 249900000, by decide +kernel⟩,
   ⟨wSt .working (wSt .working (wAt 25000000000 { w0 with planner.loss := 2, planner.lossMt := 5 })), 1,
       by decide +kernel⟩,
   ⟨wSt .working (wSt .working (wAt 2500000000000 { w0 with planner.loss := 3, planner.lossMt := 5 })), 1,
       by decide +kernel⟩⟩

theorem met_plannerCommands :
    (∃ (s : State) (dt : Nat) (h : Hdr) (mask : BitVec 96), Takes s dt 0x25 h ∧ mask = 0)
    ∧ (∃ (s : State) (dt : Nat) (h : Hdr) (mask : BitVec 96), Takes s dt 0x25 h ∧ mask ≠ 0)
    ∧ (∃ (s : State) (dt : Nat) (h : Hdr) (mask : BitVec 96), Takes s dt 0x26 h ∧ mask = 0)
    ∧ (∃ (s : State) (dt : Nat) (h : Hdr) (mask : BitVec 96), Takes s dt 0x26 h ∧ mask ≠ 0)
    ∧ (∃ (s : State) (dt : Nat) (h : Hdr), Takes s dt 0x27 h ∧ s.planner.loss = 2)
    ∧ (∃ (s : State) (dt : Nat) (h : Hdr), Takes s dt 0x27 h ∧ s.planner.loss ≠ 2) :=
  ⟨⟨w0, 1, {}, 0, by decide +kernel⟩,
   ⟨w0, 1, {}, 5, by decide +kernel⟩,
   ⟨wSt .manual w0, 1, {}, 0, by decide +kernel⟩,
   ⟨wSt .manual w0, 1, {}, 5, by decide +kernel⟩,
   ⟨wSt .working { w0 with planner.loss := 2 }, 1, {}, by decide +kernel⟩,
   ⟨wSt .working { w0 with planner.loss := 3 }, 1, {}, by decide +kernel⟩⟩

/-- The state of FusionRows, clause 5. -/
def wFusionRows_5 : State :=
  wCfg .imuMode 0 1 { wImu with nav.imu.lost := true, nav.imu.initAt := some 0 }

theorem met_fusionRows :
    (∃ (s : State) (dt : Nat), s.navRuns = true ∧ (s.advance dt).now % 250000 = 0 ∧ s.running 1 = none)
    ∧ (∃ (s : State), s.navRuns = true ∧ s.cfgN .imuMode = 1 ∧ s.nav.imu.burst = none)
    ∧ (∃ (s : State) (dt : Nat), s.navRuns = true ∧ s.cfgN .imuMode = 2 ∧ (s.advance dt).now % (250000000 / max 1
        (s.cfgN .imuRate)) = 0)
    ∧ (∃ (s : State) (dt : Nat) (m : Nat) (fr : List Byte) (p : ImuProfile), s.navRuns = true ∧ s.nav.imu.burst =
        some m ∧ s.nav.imu.readAt ≤ (s.advance dt).now ∧ imuParse (s.cfg.vals.blob .imuProfile 0) = some p ∧ p.good
        fr = true)
    ∧ (∃ (s : State) (dt : Nat) (m : Nat) (fr : List Byte) (p : ImuProfile), s.navRuns = true ∧ s.nav.imu.burst =
        some m ∧ s.nav.imu.readAt ≤ (s.advance dt).now ∧ imuParse (s.cfg.vals.blob .imuProfile 0) = some p ∧ p.good
        fr = false)
    ∧ (∃ (s : State) (dt : Nat) (m : Nat) (p : ImuProfile), s.navRuns = true ∧ s.nav.imu.lost = true ∧
        s.nav.imu.initAt = some m ∧ s.cfgN .imuMode ≠ 0 ∧ imuParse (s.cfg.vals.blob .imuProfile 0) = some p ∧ m +
        250000000 ≤ (s.advance dt).now) :=
  ⟨⟨wCfg .antennas 0 2 w0, 1, by decide +kernel⟩,
   ⟨wCfg .imuMode 0 1 w0, by decide +kernel⟩,
   ⟨wCfg .imuMode 0 2 w0, 1, by decide +kernel⟩,
   ⟨wImu, 1, 249900000, [1, 2, 3, 4, 5, 6, 7, 8], (imuParse (wImu.cfg.vals.blob .imuProfile 0)).getD {},
       by decide +kernel⟩,
   ⟨wImu, 1, 249900000, [1, 2, 3, 4, 5, 6, 7], (imuParse (wImu.cfg.vals.blob .imuProfile 0)).getD {},
       by decide +kernel⟩,
   ⟨wFusionRows_5, 1, 0, (imuParse (wFusionRows_5.cfg.vals.blob .imuProfile 0)).getD {}, by decide +kernel⟩⟩

theorem met_fusionCommands :
    (∃ (s : State) (dt : Nat) (h : Hdr), Takes s dt 0x38 h)
    ∧ (∃ (s : State) (d : Nat) (h : Hdr) (lat : Word) (lon : Word) (height : Word) (w : Waiting), s.waitingFor 0x38
        = some w ∧ w.cmd = .fieldOrigin d h lat lon height ∧ w.aux.drop 2 = [])
    ∧ (∃ (s : State) (dt : Nat) (h : Hdr), Takes s dt 0x3A h) :=
  ⟨⟨w0, 1, {}, by decide +kernel⟩,
   ⟨wWait { cmd := .fieldOrigin 0 {} 1 2 3, op := 0x38, aux := [0, 0] } { w0 with tiles.slots := [{ slot := 1 }] },
       0, {}, 1, 2, 3, { cmd := .fieldOrigin 0 {} 1 2 3, op := 0x38, aux := [0, 0] }, by decide +kernel⟩,
   ⟨{ w0 with nav.gyroBias := [1, 2, 3], nav.origin := some (1, 2, 3) }, 1, {}, by decide +kernel⟩⟩

theorem met_trackingRows :
    (∃ (s : State) (p : Nat) (cond : Nat), s.sxRuns = true ∧ s.portOn p = true ∧ p < s.nav.sx.ports.length ∧ cond <
        2)
    ∧ (∃ (s : State) (dt : Nat) (p : Nat), s.sxRuns = true ∧ s.portOn p = true ∧ p < s.nav.sx.ports.length ∧ (s.port
        p).fault = true ∧ (s.port p).since + 25000000 ≤ (s.advance dt).now)
    ∧ (∃ (s : State) (dt : Nat), s.sxRuns = true ∧ (s.nav.sx.allocated = none ∨ ∃ m, s.nav.sx.allocated = some m ∧ m
        + 250000000 ≤ (s.advance dt).now))
    ∧ (∃ (s : State) (e : Nat) (sig : Nat) (svid : Nat) (ch : Nat) (dopp : Int) (c : TrkCh) (q : Search), s.sxRuns =
        true ∧ s.trk ch = some c ∧ c.port = 0 ∧ c.signal = sig ∧ c.svid = svid ∧ c.locked = false ∧ e <
        s.nav.sx.engines.length ∧ (s.nav.sx.engines.getD e {}).bad = false ∧ (s.port 0).fault = false ∧
        (s.nav.sx.engines.getD e {}).det = none ∧ (s.nav.sx.engines.getD e {}).search = some q ∧ q.ch = ch ∧
        q.signal = sig ∧ q.svid = svid ∧ (dopp - q.centreHz).natAbs ≤ q.windowHz)
    ∧ (∃ (s : State) (dt : Nat) (e : Nat) (d : AcqDet), e < s.nav.sx.engines.length ∧ (s.nav.sx.engines.getD e
        {}).det = some d ∧ d.mt + 50000000 ≤ (s.advance dt).now)
    ∧ (∃ (s : State), s.sxRuns = true)
    ∧ (∃ (s : State) (ch : Nat) (c : TrkCh), s.sxRuns = true ∧ s.nav.sx.chans = [c] ∧ c.ch = ch ∧ (c.signal = 0x11 ∨
        c.signal = 0x21))
    ∧ (∃ (s : State) (ch : Nat) (ind : Int) (c : TrkCh), s.sxRuns = true ∧ s.trk ch = some c ∧ (s.port c.port).fault
        = false ∧ c.begun = true ∧ c.locked = false ∧ 800 ≤ ind)
    ∧ (∃ (s : State) (ch : Nat) (ind : Int) (c : TrkCh), s.sxRuns = true ∧ s.trk ch = some c ∧ (s.port c.port).fault
        = false ∧ c.begun = true ∧ c.locked = true ∧ ind < 600) :=
  ⟨⟨{ wCfg .antennas 0 2 w0 with nav.sx.chans := [{ ch := 5, port := 3, locked := true, fll := false },
                                   { ch := 6, port := 0, locked := true, fll := false }] }, 3, 1,
      by decide +kernel⟩,
   ⟨{ wCfg .antennas 0 2 w0 with nav.sx.ports := [{}, {}, {}, { fault := true, since := 225000000 }] }, 1, 3,
       by decide +kernel⟩,
   ⟨{ wCfg .antennas 0 2 w0 with nav.sx.allocated := some 0, nav.sx.excluded := [(0, 7, 0)] }, 1, by decide +kernel,
       .inr ⟨0, by decide +kernel⟩⟩,
   ⟨{ wCfg .antennas 0 2 w0 with nav.sx.chans := [{ ch := 5, port := 0, signal := 0x11, sys := 0, svid := 7 }],
                                   nav.sx.engines := List.replicate 16 { search := some { ch := 5, signal := 0x11,
                                                                                            svid := 7,
                                                                                            centreHz := -5000,
                                                                                            windowHz := 1500 } } },
       15, 0x11, 7, 5, -6000, { ch := 5, port := 0, signal := 0x11, sys := 0, svid := 7 }, { ch := 5,
                                                                                               signal := 0x11,
                                                                                               svid := 7,
                                                                                               centreHz := -5000,
                                                                                               windowHz := 1500 },
       by decide +kernel⟩,
   ⟨{ wCfg .antennas 0 2 w0 with nav.sx.engines := List.replicate 16 { det := some
                                                                         { signal := 0x11, svid := 7, ch := 5, mt := 200000000 },
                                                                         search := some { ch := 5, signal := 0x11,
                                                                                            svid := 7,
                                                                                            centreHz := -5000,
                                                                                            windowHz := 1500 } } },
       1, 15, { signal := 0x11, svid := 7, ch := 5, mt := 200000000 }, by decide +kernel⟩,
   ⟨{ wCfg .antennas 0 2 w0 with nav.sx.chans := [{ ch := 5, port := 0, signal := 0x11, sys := 0, svid := 7 },
                                   { ch := 6 }] }, by decide +kernel⟩,
   ⟨{ wCfg .antennas 0 2 w0 with nav.sx.chans := [{ ch := 5, port := 0, signal := 0x11, sys := 0, svid := 7 }] }, 5,
       { ch := 5, port := 0, signal := 0x11, sys := 0, svid := 7 }, by decide +kernel⟩,
   ⟨{ wCfg .antennas 0 2 w0 with nav.sx.chans := [{  ch := 5, port := 0, signal := 0x11, sys := 0, svid := 7 ,
                                                      begun := true }, { ch := 6 }],
                                   nav.sx.engines := List.replicate 16
                                   { det := some { signal := 0x11, svid := 7, ch := 5, mt := 200000000 } } }, 5,
       800, {  ch := 5, port := 0, signal := 0x11, sys := 0, svid := 7 , begun := true }, by decide +kernel⟩,
   ⟨{ wCfg .antennas 0 2 w0 with nav.sx.chans := [{  ch := 5, port := 0, signal := 0x11, sys := 0, svid := 7,
                                                      locked := true, fll := false , begun := true }, { ch := 6 }]
                                   }, 5, 599, {  ch := 5, port := 0, signal := 0x11, sys := 0, svid := 7,
                                                  locked := true, fll := false , begun := true },
       by decide +kernel⟩⟩

/-- The state of ClockModelRows, clause 6. -/
def wClockModelRows_6 : State :=
  { wCfg .tpPeriod 0 1000 (wCfg .antennas 0 2 w0) with
      time.pair := { mtBase := 250000000, ftBase := 2000000000, ftRate := 0 }, time.ftValid := true,
      nav.sx.clk.tpOff := false, nav.sx.clk.firstPulse := some 5 }

theorem met_clockModelRows :
    (∃ (s : State) (dt : Nat), s.sxRuns = true ∧ (s.advance dt).epochDue = true)
    ∧ (∃ (s : State) (dt : Nat), s.sxRuns = true ∧ 2 ≤ s.cfgN .corrSource ∧ s.nav.sx.corr.onCan = s.corrPrimary ∧
        ((if s.corrPrimary then s.nav.sx.corr.can else s.nav.sx.corr.ring).lastValid + s.cfgN .corrSwitch *
        250000000 ≤ (s.advance dt).now))
    ∧ (∃ (s : State) (dt : Nat) (m : Nat), s.navRuns = true ∧ s.time.ftValid = true ∧ s.time.clock ≠ .coast ∧
        s.nav.sx.clk.last = some m ∧ m + 250000000 ≤ (s.advance dt).now)
    ∧ (∃ (s : State) (dt : Nat) (m : Nat) (e : Int), s.navRuns = true ∧ s.time.ftValid = true ∧ s.time.ahead = [] ∧
        s.nav.sx.clk.step = some (e, m) ∧ m ≤ (s.advance dt).now)
    ∧ (∃ (s : State) (dt : Nat) (m : Nat) (e : Int), s.navRuns = true ∧ s.time.ftValid = true ∧ s.time.ahead = [] ∧
        s.nav.sx.clk.slew = some (e, m) ∧ m ≤ (s.advance dt).now)
    ∧ (∃ (s : State) (dt : Nat), s.navRuns = true ∧ s.time.ftValid = true ∧ s.time.clock = .coast ∧ (s.cfgN
        .tpUncMax : Rat) < s.ftU (s.advance dt).now)
    ∧ (∃ (s : State) (dt : Nat) (f : Int), s.navRuns = true ∧ s.time.ftValid = true ∧ s.nav.sx.clk.tpOff = false ∧
        s.nav.sx.clk.firstPulse = some f ∧ s.nav.sx.clk.lastPulse = none ∧ f ≤ (nearest (s.cfgN .tpPeriod * 1000000)
        (s.ftExact (s.advance dt).now)) ∧ ratAbs (((nearest (s.cfgN .tpPeriod * 1000000) (s.ftExact (s.advance
        dt).now)) : Rat) - s.ftExact (s.advance dt).now) ≤ 2)
    ∧ (∃ (s : State) (dt : Nat) (l : Int), s.navRuns = true ∧ s.time.ftValid = true ∧ s.nav.sx.clk.tpOff = false ∧
        s.nav.sx.clk.tp0 = true ∧ s.nav.sx.clk.lastPulse = some l ∧ ratAbs ((l + s.cfgI .tpWidth * 1000 : Int) -
        s.ftExact (s.advance dt).now) ≤ 2) :=
  ⟨⟨{ wCfg .antennas 0 2 w0 with nav.sx.lastEpoch := some 0, nav.sx.seq := 7, nav.runs := [1, 1, 1, 1] }, 1,
      by decide +kernel⟩,
   ⟨wAt 25000000000 (wCfg .antennas 0 2 (wCfg .corrSource 0 3 { w0 with nav.sx.corr.onCan := true })), 1,
       by decide +kernel⟩,
   ⟨{ wCfg .antennas 0 2 w0 with time.ftValid := true, nav.sx.clk.last := some 0 }, 1, 0, by decide +kernel⟩,
   ⟨{ wCfg .antennas 0 2 w0 with time.pair := { mtBase := 5, ftBase := 1000000, ftRate := 1000 },
                                   time.ftValid := true, nav.sx.clk.step := some (5000, 250000000) }, 1, 250000000,
       5000, by decide +kernel⟩,
   ⟨{ wCfg .antennas 0 2 w0 with time.pair := { mtBase := 5, ftBase := 1000000, ftRate := 1000 },
                                   time.ftValid := true, time.clock := .slew, nav.sx.clk.slew := some (50,
                                   250000000), nav.sx.clk.rate := 77 }, 1, 250000000, 50, by decide +kernel⟩,
   ⟨{ wCfg .antennas 0 2 w0 with time.pair := { mtBase := 5, ftBase := 1000000, ftRate := 1000 },
                                   time.ftValid := true, time.clock := .coast, nav.sx.clk.last := some 0,
                                   nav.sx.clk.u0 := 5000000 }, 1, by decide +kernel⟩,
   ⟨wClockModelRows_6, 1, 5, by decide +kernel⟩,
   ⟨{ wCfg .tpWidth 0 5 (wCfg .antennas 0 2 w0) with
       time.pair := { mtBase := 250000000, ftBase := 2000005001, ftRate := 0 }, time.ftValid := true,
       nav.sx.clk.tpOff := false, nav.sx.clk.tp0 := true, nav.sx.clk.lastPulse := some 2000000000 }, 1, 2000000000,
       by decide +kernel⟩⟩

/-- The state of SextantCommands, clause 1. -/
def wSextantCommands_1 : State :=
  { wCfg .antennas 0 2 w0 with nav.sol := some { epoch := 249000000, ft := 100000000, x := 1, y := 2, z := 3 } }

theorem met_sextantCommands :
    (∃ (s : State) (dt : Nat) (h : Hdr) (ft : DWord) (unc : Word), Takes s dt 0xA1 h ∧ s.cfgN .antennas ≠ 0 ∧ (¬(∃ x
        ∈ s.nav.sol, (s.advance dt).now ≤ x.epoch + s.cfgN .gnssAgeMax * 250000 ∧ unc.toNat < ((ft.toNat : Int) -
        (x.ft + 4 * ((s.advance dt).now - x.epoch : Nat))).natAbs)))
    ∧ (∃ (s : State) (dt : Nat) (h : Hdr) (ft : DWord) (unc : Word), Takes s dt 0xA1 h ∧ s.cfgN .antennas ≠ 0 ∧ (∃ x
        ∈ s.nav.sol, (s.advance dt).now ≤ x.epoch + s.cfgN .gnssAgeMax * 250000 ∧ unc.toNat < ((ft.toNat : Int) -
        (x.ft + 4 * ((s.advance dt).now - x.epoch : Nat))).natAbs))
    ∧ (∃ (s : State) (dt : Nat) (h : Hdr) (lat : Word) (lon : Word) (height : Word) (unc : Word), Takes s dt 0xA2 h
        ∧ s.cfgN .antennas ≠ 0 ∧ (s.advance dt).posDisagrees lat lon height unc = false)
    ∧ (∃ (s : State) (dt : Nat) (h : Hdr) (lat : Word) (lon : Word) (height : Word) (unc : Word), Takes s dt 0xA2 h
        ∧ s.cfgN .antennas ≠ 0 ∧ (s.advance dt).posDisagrees lat lon height unc = true)
    ∧ (∃ (s : State) (dt : Nat) (h : Hdr), Takes s dt 0xA3 h ∧ s.cfgN .antennas ≠ 0)
    ∧ (∃ (s : State) (dt : Nat) (h : Hdr), Takes s dt 0xA4 h ∧ s.cfgN .antennas ≠ 0)
    ∧ (∃ (s : State) (dt : Nat) (h : Hdr) (sig : Byte) (svid : Byte) (sys : Nat), Takes s dt 0xA5 h ∧ s.cfgN
        .antennas ≠ 0 ∧ svidOk sys svid.toNat = true ∧ (sig = 0 ∨ sxSignals.contains sig.toNat = true))
    ∧ (∃ (s : State) (dt : Nat) (h : Hdr) (en : Bool), Takes s dt 0xA6 h ∧ s.cfgN .antennas ≠ 0 ∧ (en = true →
        (s.ring 6).en = true ∧ 8 ≤ (s.ring 6).log2)) :=
  ⟨⟨wCfg .antennas 0 2 w0, 1, {}, 7, 5, by decide +kernel⟩,
   ⟨wSextantCommands_1, 1, {}, 7, 5, by decide +kernel⟩,
   ⟨{ wCfg .antennas 0 2 w0 with nav.sol := some
                                   { epoch := 249000000, ft := 100000000, x := 6378137000, y := 2, z := 3 } }, 1,
       {}, 0, 0, 0, 100, by decide +kernel⟩,
   ⟨{ wCfg .antennas 0 2 w0 with nav.sol := some { epoch := 249000000, ft := 100000000, x := 1, y := 2, z := 3 } },
       1, {}, 1, 2, 3, 4, by decide +kernel⟩,
   ⟨wCfg .antennas 0 2 w0, 1, {}, by decide +kernel⟩,
   ⟨{ wCfg .antennas 0 2 w0 with nav.sx.chans := [{ ch := 5, port := 0, signal := 0x11, sys := 0, svid := 7 }] }, 1,
       {}, by decide +kernel⟩,
   ⟨{ wCfg .antennas 0 2 w0 with nav.sx.chans := [{ ch := 5, port := 0, signal := 0x11, sys := 0, svid := 7 }] }, 1,
       {}, 0x11, 7, 0, by decide +kernel⟩,
   ⟨wRing 6 (fun r => { r with en := true, log2 := 8 }) (wCfg .antennas 0 2 w0), 1, {}, true, by decide +kernel⟩⟩

theorem met_edgeRows :
    (∃ (s : State) (dt : Nat) (ch : Nat) (e : Edge), s.hasCh ch ∧ firstEdge s.planner.wheel ch = some e ∧ (∀ x ∈
        s.planner.wheel, grpOf x.ch = grpOf ch → e.due ≤ x.due) ∧ e.due ≤ (s.advance dt).now + 4096 ∧ (s.group
        (grpOf ch)).handed.length < 32 ∧ (s.chan ch).latched = false)
    ∧ (∃ (s : State) (dt : Nat) (ch : Nat) (e : Edge), s.hasCh ch ∧ firstEdge s.planner.wheel ch = some e ∧ (∀ x ∈
        s.planner.wheel, grpOf x.ch = grpOf ch → e.due ≤ x.due) ∧ e.due ≤ (s.advance dt).now + 4096 ∧ (s.chan
        ch).latched = true)
    ∧ (∃ (s : State) (dt : Nat) (ch : Nat) (e : Edge), s.hasCh ch ∧ firstEdge (s.group (grpOf ch)).handed ch = some
        e ∧ e.ch = ch ∧ e.due ≤ (s.advance dt).drvMt (grpOf ch) ∧ e.on = true ∧ (s.chan ch).latched = false ∧ (s.ctx
        ch).st = .idle ∧ (s.chan ch).idleAt = none ∧ hdrEmpty (s.hdrOf ch) = false ∧ s.pwr.drvSusp.getD (quadOf ch)
        false = false)
    ∧ (∃ (s : State) (dt : Nat) (ch : Nat) (e : Edge), s.hasCh ch ∧ firstEdge (s.group (grpOf ch)).handed ch = some
        e ∧ e.ch = ch ∧ e.due ≤ (s.advance dt).drvMt (grpOf ch) ∧ e.on = false ∧ (s.chan ch).latched = false ∧
        ((s.ctx ch).st = .run ∨ (s.ctx ch).st = .hold))
    ∧ (∃ (s : State) (ch : Nat), s.hasCh ch ∧ (s.ctx ch).decaying = true ∧ (s.ctx ch).closeWin = none)
    ∧ (∃ (s : State) (dt : Nat) (ch : Nat), s.hasCh ch ∧ (s.advance dt).deferredReady ch = true) :=
  ⟨⟨{ wV with planner.wheel := [{ ch := 11, on := false, due := 260000000 },
                { ch := 11, on := true, due := 250004096 }] }, 1, 11, { ch := 11, on := true, due := 250004096 },
      by decide +kernel⟩,
   ⟨wCh (fun c => { c with latched := true }) { wV with
                                                  planner.wheel := [{ ch := 11, on := true, due := 250004096 }] },
       1, 11, { ch := 11, on := true, due := 250004096 }, by decide +kernel⟩,
   ⟨wSt .working (wGrp (fun g => { g with handed := [{ ch := 11, on := true, due := 250000000 },
                                            { ch := 12, due := 3 }] }) wV), 1, 11,
       { ch := 11, on := true, due := 250000000 }, by decide +kernel⟩,
   ⟨wSt .working (wCtx (fun c => { c with st := .hold, act := true, conductAt := some 3, granted := true }) (wGrp
       (fun g => { g with handed := [{ ch := 11, on := false, due := 250000000 }] }) wV)), 1, 11,
       { ch := 11, on := false, due := 250000000 }, by decide +kernel⟩,
   ⟨wCtx (fun c => { c with st := .decay, decaying := true, clamped := true }) wV, 11, by decide +kernel⟩,
   ⟨wSt .working (wCtx (fun c => { c with st := .deferred, deferAt := some 7 }) wV), 1, 11, by decide +kernel⟩⟩

/-- The state of ClaimArrivalRows, clause 3. -/
def wClaimArrivalRows_3 : State :=
  wCtx (fun c => { c with st := .hold, openWin := some
                            { det := .bump, opened := 249000000, timeout := some 250000000 }, act := true }) wV

/-- The state of ClaimArrivalRows, clause 4. -/
def wClaimArrivalRows_4 : State :=
  wCtx (fun c => { c with st := .decay, closeWin := some
                            { det := .bump, opened := 249000000, timeout := some 250000000 }, act := true }) wV

theorem met_claimArrivalRows :
    (∃ (s : State) (g : Nat) (ch : Nat) (m : Nat) (rest : List (Nat × Nat)), s.hasCh ch ∧ grpOf ch = g ∧ (s.group
        g).holder = none ∧ (s.group g).queue = (ch, m) :: rest ∧ (s.quad (quadOf ch)).noBoost = false)
    ∧ (∃ (s : State) (g : Nat) (ch : Nat) (m : Nat) (rest : List (Nat × Nat)), s.hasCh ch ∧ grpOf ch = g ∧ (s.group
        g).holder = none ∧ (s.group g).queue = (ch, m) :: rest ∧ (s.quad (quadOf ch)).noBoost = true)
    ∧ (∃ (s : State) (dt : Nat) (ch : Nat) (b : Nat), s.hasCh ch ∧ (s.ctx ch).st = .claim ∧ (s.ctx ch).claimAt =
        some b ∧ b + s.cfgN .deferMax (grpOf ch) * 250 ≤ (s.advance dt).now ∧ (s.group (grpOf ch)).holder.isSome =
        true)
    ∧ (∃ (s : State) (dt : Nat) (ch : Nat) (obs : DetObs) (f : Nat × Nat) (w : Window), s.hasCh ch ∧ (s.ctx
        ch).openWin = some w ∧ s.islands = true ∧ (s.ctx ch).confirm = false ∧ (s.ctx ch).openOut = none ∧ (s.ctx
        ch).act = true ∧ s.feature ch w obs = some f ∧ f.1 ≤ (s.advance dt).now ∧ f.2 ≤ (s.advance dt).now ∧ (∀ m,
        w.timeout = some m → f.1 ≤ m))
    ∧ (∃ (s : State) (dt : Nat) (ch : Nat) (obs : DetObs) (f : Nat × Nat) (w : Window), s.hasCh ch ∧ (s.ctx
        ch).closeWin = some w ∧ s.islands = true ∧ (s.ctx ch).closeOut = none ∧ (s.ctx ch).act = true ∧ s.feature ch
        w obs = some f ∧ f.1 ≤ (s.advance dt).now ∧ f.2 ≤ (s.advance dt).now ∧ (∀ m, w.timeout = some m → f.1 ≤ m))
    ∧ (∃ (s : State) (dt : Nat) (ch : Nat) (m : Nat) (w : Window), s.hasCh ch ∧ (s.ctx ch).openWin = some w ∧
        w.timeout = some m ∧ m ≤ (s.advance dt).now ∧ (s.ctx ch).confirm = false ∧ (s.ctx ch).st = .hold ∧ (s.ctx
        ch).openOut = none ∧ (s.ctx ch).act = true)
    ∧ (∃ (s : State) (dt : Nat) (ch : Nat) (m : Nat) (w : Window), s.hasCh ch ∧ (s.ctx ch).closeWin = some w ∧
        w.timeout = some m ∧ m ≤ (s.advance dt).now ∧ (s.ctx ch).closeOut = none ∧ (s.ctx ch).act = true)
    ∧ (∃ (s : State) (g : Nat), g < s.valves.grp.length) :=
  ⟨⟨wCtx (fun c => { c with st := .claim, claimAt := some 5 }) (wGrp (fun g =>
      { g with queue := [(11, 5), (12, 6)] }) wV), 1, 11, 5, [(12, 6)], by decide +kernel⟩,
   ⟨wCtx (fun c => { c with st := .claim, claimAt := some 5 }) (wGrp (fun g =>
       { g with queue := [(11, 5), (12, 6)] }) { wV with valves.quad := List.replicate 4 { fail := true } }), 1, 11,
       5, [(12, 6)], by decide +kernel⟩,
   ⟨wCtx (fun c => { c with st := .claim, claimAt := some 5 }) (wGrp (fun g =>
       { g with holder := some 9, queue := [(11, 5)] }) wV), 1, 11, 5, by decide +kernel⟩,
   ⟨wClaimArrivalRows_3, 1, 11, { first := 249500000, ma := [500, 1500, 500] }, (wClaimArrivalRows_3.feature 11
       ({ det := .bump, opened := 249000000, timeout := some 250000000 })
       ({ first := 249500000, ma := [500, 1500, 500] })).getD (0, 0),
       { det := .bump, opened := 249000000, timeout := some 250000000 }, by decide +kernel, by decide +kernel,
       by decide +kernel, by decide +kernel, by decide +kernel, by decide +kernel, by decide +kernel,
       by decide +kernel, by decide +kernel, by intro _ h; cases h; decide +kernel⟩,
   ⟨wClaimArrivalRows_4, 1, 11, { first := 249500000, ma := [500, 1500, 500] }, (wClaimArrivalRows_4.feature 11
       ({ det := .bump, opened := 249000000, timeout := some 250000000 })
       ({ first := 249500000, ma := [500, 1500, 500] })).getD (0, 0),
       { det := .bump, opened := 249000000, timeout := some 250000000 }, by decide +kernel, by decide +kernel,
       by decide +kernel, by decide +kernel, by decide +kernel, by decide +kernel, by decide +kernel,
       by decide +kernel, by intro _ h; cases h; decide +kernel⟩,
   ⟨wCtx (fun c => { c with st := .hold, openWin := some { opened := 249000000, timeout := some 250000000 },
                              act := true }) wV, 1, 11, 250000000,
       { opened := 249000000, timeout := some 250000000 }, by decide +kernel⟩,
   ⟨wCtx (fun c => { c with st := .decay, closeWin := some { opened := 249000000, timeout := some 250000000 },
                              act := true }) wV, 1, 11, 250000000,
       { opened := 249000000, timeout := some 250000000 }, by decide +kernel⟩,
   ⟨wGrp (fun g => { g with marks := [{ ch := 11, evt := true }] }) wV, 1, by decide +kernel⟩⟩

/-- The state of ValveFindingRows, clause 11. -/
def wValveFindingRows_11 : State :=
  wCtx (fun c => { c with st := .hold }) wV

/-- The state of ValveFindingRows, clause 12. -/
def wValveFindingRows_12 : State :=
  wCtx (fun c => { c with st := .hold, conductAt := some 5 }) wV

theorem met_valveFindingRows :
    (∃ (s : State) (dt : Nat) (ch : Nat), s.hasCh ch ∧ s.inUse ch = true ∧ s.cfgB .vcDiagOff ch = true ∧ (s.advance
        dt).testable ch = true ∧ s.outputsHeld = false ∧ s.islands = true ∧ (s.chan ch).latched = false ∧ (s.chan
        ch).testedAt = none)
    ∧ (∃ (s : State) (dt : Nat) (ch : Nat) (m : Nat), s.hasCh ch ∧ s.inUse ch = true ∧ s.cfgB .vcDiagOff ch = true ∧
        (s.chan ch).starved = false ∧ s.islands = true ∧ (s.chan ch).testedAt = some m ∧ m + 10 * s.cfgN .diagPeriod
        (grpOf ch) * 250000 ≤ (s.advance dt).now)
    ∧ (∃ (s : State) (ch : Nat) (ma : Nat), s.hasCh ch ∧ s.inUse ch = true ∧ (s.ctx ch).isOn = true ∧ 5400 ≤ ma)
    ∧ (∃ (s : State) (dt : Nat) (ch : Nat) (m : Nat) (vdrv : Nat) (runs : List (Nat × Nat)), s.hasCh ch ∧ quadOf ch
        < s.pwr.vdrv.length ∧ s.inUse ch = true ∧ (s.ctx ch).loadFrom = some m ∧ m + 250000 ≤ (s.advance dt).now ∧
        1000 ≤ runLen runs ∧ (∀ p ∈ runs, p.1 < 50) ∧ s.outputsHeld = false ∧ 9000 ≤ vdrv)
    ∧ (∃ (s : State) (dt : Nat) (ch : Nat) (m : Nat) (vdrv : Nat) (runs : List (Nat × Nat)), s.hasCh ch ∧ quadOf ch
        < s.pwr.vdrv.length ∧ s.inUse ch = true ∧ (s.ctx ch).loadFrom = some m ∧ m + 250000 ≤ (s.advance dt).now ∧
        1000 ≤ runLen runs ∧ (∀ p ∈ runs, p.1 < 50) ∧ s.outputsHeld = false ∧ vdrv < 9000)
    ∧ (∃ (s : State) (ch : Nat) (r : Nat) (vdrv : Nat) (runs : List ((Nat × Int) × Nat)), s.hasCh ch ∧ quadOf ch <
        s.pwr.vdrv.length ∧ s.inUse ch = true ∧ (s.ctx ch).st = .hold ∧ 9000 ≤ vdrv ∧ coilOhms runs = some r)
    ∧ (∃ (s : State) (g : Nat) (runs : List ((Nat × List Nat) × Nat)), g < s.nGrp ∧ g < s.valves.grp.length ∧
        s.islands = true ∧ s.grpLive g = true ∧ 100 ≤ runLen runs ∧ (∀ p ∈ runs, p.1.2.sum + 200 < p.1.1))
    ∧ (∃ (s : State) (g : Nat) (ma : Nat) (held : Nat), g < s.nGrp ∧ g < s.valves.grp.length ∧ s.islands = true ∧
        20000 < ma ∧ 250 ≤ held)
    ∧ (∃ (s : State) (g : Nat) (runs : List (Nat × Nat)), g < s.nGrp ∧ g < s.valves.grp.length ∧ s.islands = true ∧
        runLen runs = 1000000 ∧ 8500 * 1000000 < (runs.map (fun p => p.1 * p.2)).sum)
    ∧ (∃ (s : State) (g : Nat) (read : Nat), g < s.nGrp ∧ g < s.valves.grp.length ∧ s.islands = true ∧ read ≠ 0 ∧
        read ≠ (s.group g).rail)
    ∧ (∃ (s : State) (ch : Nat) (runs : List (Nat × Nat)), s.hasCh ch ∧ s.inUse ch = true ∧ s.islands = true ∧
        runLen runs = 1000000 ∧ 1600 * 1600 * 1000000 < (runs.map (fun p => p.1 * p.1 * p.2)).sum)
    ∧ (∃ (s : State) (dt : Nat) (ch : Nat) (read : Nat) (obs : DetObs), s.hasCh ch ∧ s.inUse ch = true ∧ s.islands =
        true ∧ ((s.advance dt).watch ch (samplesAt obs.first obs.ma)).switchOn ch = false ∧ read ≠ 0)
    ∧ (∃ (s : State) (dt : Nat) (ch : Nat) (read : Nat) (obs : DetObs), s.hasCh ch ∧ s.inUse ch = true ∧ s.islands =
        true ∧ ((s.advance dt).watch ch (samplesAt obs.first obs.ma)).switchOn ch = true ∧ read = 0)
    ∧ (∃ (s : State) (a : Nat) (b : Nat) (stamps : List (Nat × Nat)), s.hasCh a ∧ s.hasCh b ∧ s.inUse a = true ∧
        s.inUse b = true ∧ s.islands = true ∧ a ≠ b ∧ s.cfgB .tiedCheck a = true ∧ (s.ctx a).isOn = false ∧ offOver
        (s.chan a).lastActs (s.chan b).lastActs = true ∧ tiedTo (s.chan b).lastActs stamps = true) :=
  ⟨⟨wCfg .vcDiagOff 11 1 wV, 1, 11, by decide +kernel⟩,
   ⟨wAt 50000000000 (wCfg .vcDiagOff 11 1 (wCh (fun c => { c with testedAt := some 5 }) wV)), 1, 11, 5,
       by decide +kernel⟩,
   ⟨wSt .working (wCtx (fun c => { c with st := .run }) wV), 11, 5400, by decide +kernel⟩,
   ⟨wSt .working (wCtx (fun c => { c with st := .run, target := 100, loadFrom := some 5 }) (wGrp (fun g =>
       { g with rail := 1 }) wV)), 1, 11, 5, 9000, [(40, 900), (20, 100)], by decide +kernel⟩,
   ⟨wSt .working (wCtx (fun c => { c with st := .run, target := 100, loadFrom := some 5 }) (wGrp (fun g =>
       { g with rail := 1 }) wV)), 1, 11, 5, 8999, [(40, 900), (20, 100)], by decide +kernel⟩,
   ⟨wSt .working (wCtx (fun c => { c with st := .hold }) wV), 11, 4000, 9000, [((1000, 4000), 2000)],
       by decide +kernel⟩,
   ⟨wCtx (fun c => { c with st := .hold, conductAt := some 5 }) (wGrp (fun g => { g with rail := 1 }) wV), 1,
       [((301, [100]), 60), ((500, [100, 50]), 40)], by decide +kernel⟩,
   ⟨wV, 11, 20001, 250, by decide +kernel⟩,
   ⟨wV, 11, [(8501, 999999), (8500, 1)], by decide +kernel⟩,
   ⟨wGrp (fun g => { g with rail := 1 }) wV, 1, 2, by decide +kernel⟩,
   ⟨wCtx (fun c => { c with st := .hold }) wV, 11, [(1601, 1000000)], by decide +kernel⟩,
   ⟨wValveFindingRows_11, 1, 11, 1, {}, by decide +kernel⟩,
   ⟨wValveFindingRows_12, 1, 11, 0, {}, by decide +kernel⟩,
   ⟨wCfg .tiedCheck 11 1 (wCfg .chEnable 12 1 (wV.updChan 12 (fun c =>
       { c with lastActs := [(900, 1000), (500, 600), (100, 200)] }))), 11, 12, [(1000, 1500), (1000, 600), (150,
       210)], by decide +kernel⟩⟩

theorem met_boostRows :
    (∃ (s : State) (q : Nat) (mv : Nat) (held : Nat), q < s.nQuad ∧ q < s.valves.quad.length ∧ 3 * q + 2 <
        s.valves.grp.length ∧ s.pwr.vLim.getD q 0 + 2000 < mv ∧ 2500 ≤ held)
    ∧ (∃ (s : State) (dt : Nat) (q : Nat) (mv : Nat) (m : Nat), q < s.nQuad ∧ q < s.valves.quad.length ∧ q <
        s.pwr.res.length ∧ (s.quad q).off = false ∧ (s.quad q).fail = false ∧ (s.quad q).since = some m ∧ m +
        12500000 ≤ (s.advance dt).now ∧ mv * 10 < s.pwr.vLim.getD q 0 * 9)
    ∧ (∃ (s : State) (dt : Nat) (q : Nat) (mv : Nat), q < s.nQuad ∧ q < s.valves.quad.length ∧ q < s.pwr.res.length
        ∧ (s.quad q).fail = true ∧ s.pwr.vLim.getD q 0 * 9 ≤ mv * 10 ∧ (∀ m, (s.quad q).lowAt = some m → m +
        250000000 ≤ (s.advance dt).now)) :=
  ⟨⟨wV, 3, 67001, 2500, by decide +kernel⟩,
   ⟨{ wV with valves.quad := List.replicate 4 { off := false, since := some 237500000 } }, 1, 3, 58499, 237500000,
       by decide +kernel⟩,
   ⟨{ wV with valves.quad := List.replicate 4
                { off := false, fail := true, since := some 237500000, lowAt := some 0 } }, 1, 3, 58500,
       by decide +kernel, by decide +kernel, by decide +kernel, by decide +kernel, by decide +kernel,
       by intro _ h; cases h; decide +kernel⟩⟩

/-- The state of ValveCommands, clause 4. -/
def wValveCommands_4 : State :=
  wWait { cmd := .valveClear 0 {} 1 8, op := 0x41 } (wCh (fun c => { c with latched := true, finding := 1 }) wV)

/-- The state of ValveCommands, clause 5. -/
def wValveCommands_5 : State :=
  wWait { cmd := .valveClear 0 {} 1 8, op := 0x41 } (wCh (fun c => { c with latched := true, finding := 1 }) wV)

/-- The state of ValveCommands, clause 7. -/
def wValveCommands_7 : State :=
  wWait { cmd := .valveDiagNow 0 {} 1 8, op := 0x43 } wV

theorem met_valveCommands :
    (∃ (s : State) (dt : Nat) (h : Hdr) (g : Nat) (mask : BitVec 8), s.namedOk g mask = true ∧ Takes s dt 0x41 h ∧
        mask = 0)
    ∧ (∃ (s : State) (dt : Nat) (h : Hdr) (g : Nat) (mask : BitVec 8), s.namedOk g mask = true ∧ Takes s dt 0x41 h ∧
        mask ≠ 0)
    ∧ (∃ (s : State) (dt : Nat) (h : Hdr) (g : Nat) (mask : BitVec 8), s.namedOk g mask = true ∧ Takes s dt 0x43 h ∧
        mask = 0)
    ∧ (∃ (s : State) (dt : Nat) (h : Hdr) (g : Nat) (mask : BitVec 8), s.namedOk g mask = true ∧ Takes s dt 0x43 h ∧
        mask ≠ 0 ∧ s.outputsOf ((namedCh g mask).map Res.valve) = none)
    ∧ (∃ (s : State) (dt : Nat) (d : Nat) (g : Nat) (h : Hdr) (mask : BitVec 8) (codes : List Nat) (w : Waiting),
        s.waitingFor 0x41 = some w ∧ w.cmd = .valveClear d h g mask ∧ (∀ c ∈ ((s.advance dt).testCodes g mask
        codes), c = 0 ∨ c = 5))
    ∧ (∃ (s : State) (dt : Nat) (d : Nat) (g : Nat) (h : Hdr) (mask : BitVec 8) (codes : List Nat) (w : Waiting),
        s.waitingFor 0x41 = some w ∧ w.cmd = .valveClear d h g mask ∧ (∃ c ∈ ((s.advance dt).testCodes g mask
        codes), 1 ≤ c ∧ c ≤ 3))
    ∧ (∃ (s : State) (dt : Nat) (h : Hdr) (mask : BitVec 96), Takes s dt 0x42 h ∧ (∀ ch ∈ bitsOf mask, s.inUse ch =
        true) ∧ (mask ≠ 0 → s.outputsOf ((bitsOf mask).map Res.valve) = none))
    ∧ (∃ (s : State) (dt : Nat) (d : Nat) (g : Nat) (h : Hdr) (mask : BitVec 8) (codes : List Nat) (w : Waiting),
        s.waitingFor 0x43 = some w ∧ w.cmd = .valveDiagNow d h g mask ∧ (∀ c ∈ ((s.advance dt).testCodes g mask
        codes), c = 0 ∨ c = 5)) :=
  ⟨⟨wV, 1, { tag := 3 }, 1, 0, by decide +kernel⟩,
   ⟨wCh (fun c => { c with latched := true }) wV, 1, { tag := 3 }, 1, 8, by decide +kernel⟩,
   ⟨wV, 1, { tag := 3 }, 1, 0, by decide +kernel⟩,
   ⟨wV, 1, { tag := 3 }, 1, 8, by decide +kernel⟩,
   ⟨wValveCommands_4, 1, 0, 1, {}, 8, [0, 0, 0, 0], { cmd := .valveClear 0 {} 1 8, op := 0x41 }, by decide +kernel⟩,
   ⟨wValveCommands_5, 1, 0, 1, {}, 8, [0, 0, 0, 2], { cmd := .valveClear 0 {} 1 8, op := 0x41 }, by decide +kernel⟩,
   ⟨wV, 1, { tag := 3 }, 0x800, by decide +kernel⟩,
   ⟨wValveCommands_7, 1, 0, 1, {}, 8, [0, 0, 0, 0], { cmd := .valveDiagNow 0 {} 1 8, op := 0x43 },
       by decide +kernel⟩⟩

theorem met_seqInstrRows :
    (∃ (s : State) (dt : Nat) (ch : Nat) (k : BitVec 2), SeqDue s dt ch (.src k) ∧ (k = 2 → ∀ x, (s.group (grpOf
        ch)).took = some x → x.2.1 ≠ (s.ctx ch).next))
    ∧ (∃ (s : State) (dt : Nat) (ch : Nat) (m : BitVec 2) (p : BitVec 2) (reg : Bool) (v : BitVec 12), SeqDue s dt
        ch (.itgt m p reg v))
    ∧ (∃ (s : State) (dt : Nat) (ch : Nat) (u : BitVec 2) (n : BitVec 18), SeqDue s dt ch (.waitt u n))
    ∧ (∃ (s : State) (dt : Nat) (ch : Nat) (det : BitVec 2) (scale : Bool) (cnt : BitVec 6), SeqDue s dt ch (.arm
        det scale cnt))
    ∧ (∃ (s : State) (dt : Nat) (ch : Nat) (m : BitVec 2), SeqDue s dt ch (.decay m))
    ∧ (∃ (s : State) (dt : Nat) (ch : Nat) (code : BitVec 4) (evt : Bool) (reg : Bool) (v : BitVec 12), SeqDue s dt
        ch (.mark code evt reg v))
    ∧ (∃ (s : State) (dt : Nat) (ch : Nat), SeqDue s dt ch .holdw)
    ∧ (∃ (s : State) (dt : Nat) (ch : Nat), SeqDue s dt ch .end_)
    ∧ (∃ (s : State) (dt : Nat) (ch : Nat) (m : Nat), s.hasCh ch ∧ (s.ctx ch).st = .run ∧ (s.ctx ch).wait = .till m
        ∧ m ≤ (s.advance dt).now) :=
  ⟨⟨wSeq (.src 2), 1, 11, 2, by decide +kernel⟩,
   ⟨wSeq (.itgt 1 2 true 3), 1, 11, 1, 2, true, 3, by decide +kernel⟩,
   ⟨wSeq (.waitt 1 100), 1, 11, 1, 100, by decide +kernel⟩,
   ⟨wSeq (.arm 1 true 5), 1, 11, 1, true, 5, by decide +kernel⟩,
   ⟨wSeq (.decay 1), 1, 11, 1, by decide +kernel⟩,
   ⟨wSeq (.mark 5 true false 9), 1, 11, 5, true, false, 9, by decide +kernel⟩,
   ⟨wSeq (.holdw), 1, 11, by decide +kernel⟩,
   ⟨wSeq (.end_), 1, 11, by decide +kernel⟩,
   ⟨wCtx (fun c => { c with wait := .till 250000000 }) (wSeq .holdw), 1, 11, 250000000, by decide +kernel⟩⟩

theorem met_seqFlowRows :
    (∃ (s : State) (dt : Nat) (ch : Nat) (a : BitVec 9), SeqDue s dt ch (.jmp a) ∧ hdrStart (s.hdrOf ch) ≤ a.toNat ∧
        a.toNat ≤ hdrLast (s.hdrOf ch))
    ∧ (∃ (s : State) (dt : Nat) (ch : Nat) (a : BitVec 9), SeqDue s dt ch (.jmp a) ∧ (a.toNat < hdrStart (s.hdrOf
        ch) ∨ hdrLast (s.hdrOf ch) < a.toNat))
    ∧ (∃ (s : State) (dt : Nat) (ch : Nat) (c : BitVec 4) (a : BitVec 9), SeqDue s dt ch (.jc c a) ∧ hdrStart
        (s.hdrOf ch) ≤ a.toNat ∧ a.toNat ≤ hdrLast (s.hdrOf ch))
    ∧ (∃ (s : State) (dt : Nat) (ch : Nat), s.hasCh ch ∧ ch < s.nCh ∧ (s.ctx ch).due (s.advance dt).now = true ∧
        (s.ctx ch).pc ≤ hdrLast (s.hdrOf ch) ∧ (s.ctx ch).runLen < 4096 ∧ decodeSeq ((s.group (grpOf ch)).store.getD
        (s.ctx ch).pc 0) = none)
    ∧ (∃ (s : State) (dt : Nat) (ch : Nat), s.hasCh ch ∧ ch < s.nCh ∧ (s.ctx ch).due (s.advance dt).now = true)
    ∧ (∃ (s : State), s.islands = true)
    ∧ (∃ (s : State) (dt : Nat) (g : Nat), s.islands = true ∧ g < s.nGrp ∧ g < s.valves.grp.length ∧ (s.group
        g).compared + 250000000 ≤ (s.advance dt).now)
    ∧ (∃ (s : State) (g : Nat), g < s.valves.grp.length ∧ (s.group g).reloadBy.isSome = true) :=
  ⟨⟨wSeq (.jmp 20), 1, 11, 20, by decide +kernel⟩,
   ⟨wSeq (.jmp 21), 1, 11, 21, by decide +kernel⟩,
   ⟨wSeq (.jc 1 5), 1, 11, 1, 5, by decide +kernel⟩,
   ⟨wGrp (fun g => { g with store := List.replicate 20 (BitVec.allOnes 24) }) (wSeq .holdw), 1, 11,
       by decide +kernel⟩,
   ⟨wCtx (fun c => { c with runLen := 4096 }) (wSeq .holdw), 1, 11, by decide +kernel⟩,
   ⟨wSeq .holdw, by decide +kernel⟩,
   ⟨wSeq .holdw, 1, 1, by decide +kernel⟩,
   ⟨wGrp (fun g => { g with reloadBy := some 250025000, fault := true }) (wSeq .holdw), 1, by decide +kernel⟩⟩

theorem met_waitSamples :
    (∃ (s : State) (dt : Nat) (ch : Nat) (le : Bool) (scale : Bool) (cnt : BitVec 6) (thr : BitVec 12), SeqDue s dt
        ch (.waiti le scale cnt thr))
    ∧ (∃ (s : State) (dt : Nat) (ch : Nat) (m : Nat) (ma : Nat) (thr : Nat) (fr : Nat) (le : Bool) (tmo : Option
        Nat), s.hasCh ch ∧ (s.ctx ch).st = .run ∧ (s.ctx ch).wait = .current le thr fr tmo ∧ (if le then ma ≤ thr
        else thr ≤ ma) ∧ (∀ x, tmo = some x → m + 50 ≤ x) ∧ m % 250 = 0 ∧ fr ≤ m ∧ m + 50 ≤ (s.advance dt).now)
    ∧ (∃ (s : State) (dt : Nat) (ch : Nat) (m : Nat) (thr : Nat) (fr : Nat) (le : Bool), s.hasCh ch ∧ (s.ctx ch).st
        = .run ∧ (s.ctx ch).wait = .current le thr fr (some m) ∧ m ≤ (s.advance dt).now)
    ∧ (∃ (s : State) (dt : Nat) (ch : Nat) (m : Nat) (thr : Nat) (fr : Nat) (le : Bool) (tmo : Option Nat), (s.ctx
        ch).wait = .current le thr fr tmo ∧ (m < fr ∨ m % 250 ≠ 0 ∨ (s.advance dt).now < m + 50)) :=
  ⟨⟨wSeq (.waiti true true 5 7), 1, 11, true, true, 5, 7, by decide +kernel⟩,
   ⟨wCtx (fun c => { c with wait := .current true 500 249000000 none }) (wSeq .holdw), 1, 11, 249999750, 400, 500,
       249000000, true, none, by decide +kernel, by decide +kernel, by decide +kernel, by decide +kernel,
       (by intro _ h; cases h), by decide +kernel, by decide +kernel, by decide +kernel⟩,
   ⟨wCtx (fun c => { c with wait := .current true 500 249000000 (some 250000000) }) (wSeq .holdw), 1, 11, 250000000,
       500, 249000000, true, by decide +kernel⟩,
   ⟨wCtx (fun c => { c with wait := .current true 500 249000000 none }) (wSeq .holdw), 1, 11, 248999750, 500,
       249000000, true, none, by decide +kernel⟩⟩

theorem met_seqCommands :
    (∃ (s : State) (dt : Nat) (h : Hdr) (g : Nat) (first : Nat) (n : Nat), Takes s dt 0x45 h ∧ g < s.nGrp ∧ 1 ≤ n ∧
        first + n ≤ 512)
    ∧ (∃ (s : State) (dt : Nat) (h : Hdr) (g : Nat), Takes s dt 0x45 h ∧ g < s.nGrp ∧ (s.group g).hdrs.length = 16)
    ∧ (∃ (s : State) (dt : Nat) (h : Hdr) (g : Nat) (mask : BitVec 8), Takes s dt 0x46 h ∧ s.namedOk g mask = true ∧
        (mask ≠ 0 → s.outputsOf ((namedCh g mask).map Res.valve) = none)) :=
  ⟨⟨wSeq .holdw, 1, { tag := 3 }, 1, 500, 12, by decide +kernel⟩,
   ⟨wSeq .holdw, 1, { tag := 3 }, 1, by decide +kernel⟩,
   ⟨wV, 1, { tag := 3 }, 1, 8, by decide +kernel⟩⟩

theorem met_loopRows :
    (∃ (s : State) (dt : Nat) (n : Nat), n < s.loops.loop.length ∧ (s.advance dt).sampleDue n = true ∧ (s.loop n).st
        = .opened ∧ (s.loop n).closing = false ∧ s.host.outstanding = [] ∧ s.acts = [] ∧ s.sinkLost n = false ∧
        s.loops.appliedAt ≠ some (s.advance dt).now)
    ∧ (∃ (s : State) (dt : Nat) (n : Nat), n < s.loops.loop.length ∧ (s.advance dt).sampleDue n = true ∧ (s.loop
        n).st = .closed ∧ (s.loop n).closing = false ∧ s.host.outstanding = [] ∧ s.acts = [] ∧ s.sinkLost n = false
        ∧ s.cfgI .feLimit n = 0 ∧ s.cfgI .spRamp n = 0 ∧ s.loops.appliedAt ≠ some (s.advance dt).now ∧ ((s.advance
        dt).applyOutputs.rawOf n).2 = true)
    ∧ (∃ (s : State) (dt : Nat) (n : Nat) (m : Nat), n < s.loops.loop.length ∧ (s.advance dt).sampleDue n = true ∧
        (s.loop n).st = .closed ∧ s.host.outstanding = [] ∧ s.acts = [] ∧ ((s.advance dt).applyOutputs.rawOf n).2 =
        false ∧ (s.loop n).holdFrom = some m ∧ m + s.cfgN .measHold n * 250000 ≤ (s.advance dt).now) :=
  ⟨⟨(wCfg .spMax 3 6553600 (wCfg .spMin 3 (-6553600) (wCfg .iMax 3 6553600 (wCfg .iMin 3 (-6553600) (wCfg .uMax 3
      6553600 (wCfg .uSafe 3 65536 (wCfg .kp 3 65536 (wCfg .aiMode 0 1 (wCfg .period 3 1000 (wCfg .loopEn 3 1
      w0)))))))))).updLoop 3 (fun l => { l with uNext := 5, uOut := 4 }), 1, 3, by decide +kernel⟩,
   ⟨((wCfg .spMax 3 6553600 (wCfg .spMin 3 (-6553600) (wCfg .iMax 3 6553600 (wCfg .iMin 3 (-6553600) (wCfg .uMax 3
       6553600 (wCfg .uSafe 3 65536 (wCfg .kp 3 65536 (wCfg .aiMode 0 1 (wCfg .period 3 1000 (wCfg .loopEn 3 1
       w0)))))))))).updLoop 3 (fun l => { l with st := .closed, uNext := 5, uOut := 4, n := { l.n with i := 70000 },
                                                   rHost := some 131072 })).updAi 0 (fun a =>
       { a with reading := 32768, kind := 0 }), 1, 3, by decide +kernel⟩,
   ⟨wAt 1000000000000 (((wCfg .spMax 3 6553600 (wCfg .spMin 3 (-6553600) (wCfg .iMax 3 6553600 (wCfg .iMin 3
       (-6553600) (wCfg .uMax 3 6553600 (wCfg .uSafe 3 65536 (wCfg .kp 3 65536 (wCfg .aiMode 0 1 (wCfg .period 3
       1000 (wCfg .loopEn 3 1 w0)))))))))).updLoop 3 (fun l =>
       { l with st := .closed, holdFrom := some 5, n := { l.n with i := 7 } })).updAi 0 (fun a =>
       { a with kind := 2 })), 1, 3, 5, by decide +kernel⟩⟩

theorem met_loopCommands :
    (∃ (s : State) (dt : Nat) (n : Nat) (h : Hdr), s.loopOn n = true ∧ s.loopHolder n = none ∧ Takes s dt 0x51 h)
    ∧ (∃ (s : State) (dt : Nat) (n : Nat) (h : Hdr), s.loopOn n = true ∧ s.loopHolder n = none ∧ Takes s dt 0x52 h)
    ∧ (∃ (s : State) (dt : Nat) (n : Nat) (h : Hdr), s.loopOn n = true ∧ s.loopHolder n = none ∧ Takes s dt 0x53 h)
    ∧ (∃ (s : State) (dt : Nat) (n : Nat) (h : Hdr), s.loopOn n = true ∧ s.loopHolder n = none ∧ Takes s dt 0x54 h)
    ∧ (∃ (s : State) (dt : Nat) (n : Nat) (h : Hdr), s.loopOn n = true ∧ s.loopHolder n = none ∧ Takes s dt 0x55 h)
    ∧ (∃ (s : State) (dt : Nat) (n : Nat) (h : Hdr), s.loopOn n = true ∧ s.loopHolder n = none ∧ Takes s dt 0x56 h)
    ∧ (∃ (s : State) (dt : Nat) (n : Nat) (w : Waiting) (d : _) (h : _), n < s.loops.loop.length ∧ (s.advance
        dt).sampleDue n = true ∧ s.host.outstanding = [w] ∧ w.aux = [n] ∧ 0x51 ≤ w.op.toNat ∧ w.op.toNat ≤ 0x56 ∧
        s.acts = [] ∧ s.sinkLost n = false ∧ (s.loop n).closing = false ∧ (s.loop n).st = .opened ∧ 0 ≤ s.cfgI
        .feLimit n ∧ ((s.advance dt).applyOutputs.rawOf n).2 = true ∧ w.cmd = .loopClose d h n)
    ∧ (∃ (s : State) (dt : Nat) (n : Nat) (w : Waiting) (d : _) (h : _), n < s.loops.loop.length ∧ (s.advance
        dt).sampleDue n = true ∧ s.host.outstanding = [w] ∧ w.aux = [n] ∧ 0x51 ≤ w.op.toNat ∧ w.op.toNat ≤ 0x56 ∧
        s.acts = [] ∧ s.sinkLost n = false ∧ (s.loop n).closing = false ∧ (s.loop n).st = .opened ∧ 0 ≤ s.cfgI
        .feLimit n ∧ ((s.advance dt).applyOutputs.rawOf n).2 = true ∧ w.cmd = .loopOpen d h n true)
    ∧ (∃ (s : State) (dt : Nat) (n : Nat) (w : Waiting) (d : _) (h : _) (r : _), n < s.loops.loop.length ∧
        (s.advance dt).sampleDue n = true ∧ s.host.outstanding = [w] ∧ w.aux = [n] ∧ 0x51 ≤ w.op.toNat ∧ w.op.toNat
        ≤ 0x56 ∧ s.acts = [] ∧ s.sinkLost n = false ∧ (s.loop n).closing = false ∧ (s.loop n).st = .opened ∧ 0 ≤
        s.cfgI .feLimit n ∧ ((s.advance dt).applyOutputs.rawOf n).2 = true ∧ w.cmd = .loopSetpoint d h n r ∧ s.cfgN
        .spSrc n = 0)
    ∧ (∃ (s : State) (dt : Nat) (n : Nat) (w : Waiting) (d : _) (h : _) (u : _), n < s.loops.loop.length ∧
        (s.advance dt).sampleDue n = true ∧ s.host.outstanding = [w] ∧ w.aux = [n] ∧ 0x51 ≤ w.op.toNat ∧ w.op.toNat
        ≤ 0x56 ∧ s.acts = [] ∧ s.sinkLost n = false ∧ (s.loop n).closing = false ∧ (s.loop n).st = .opened ∧ 0 ≤
        s.cfgI .feLimit n ∧ ((s.advance dt).applyOutputs.rawOf n).2 = true ∧ w.cmd = .loopOutput d h n u)
    ∧ (∃ (s : State) (dt : Nat) (n : Nat) (w : Waiting) (d : _) (h : _) (kp : _) (ki : _) (kd : _) (tf : _), n <
        s.loops.loop.length ∧ (s.advance dt).sampleDue n = true ∧ s.host.outstanding = [w] ∧ w.aux = [n] ∧ 0x51 ≤
        w.op.toNat ∧ w.op.toNat ≤ 0x56 ∧ s.acts = [] ∧ s.sinkLost n = false ∧ (s.loop n).closing = false ∧ (s.loop
        n).st = .opened ∧ 0 ≤ s.cfgI .feLimit n ∧ ((s.advance dt).applyOutputs.rawOf n).2 = true ∧ w.cmd = .loopCoef
        d h n kp ki kd tf)
    ∧ (∃ (s : State) (dt : Nat) (n : Nat) (d : Nat) (h : Hdr) (w : Waiting), n < s.loops.loop.length ∧ (s.advance
        dt).sampleDue n = true ∧ s.host.outstanding = [w] ∧ w.aux = [n] ∧ w.op = 0x56 ∧ w.cmd = .loopClear d h n ∧
        s.acts = [] ∧ s.sinkLost n = false ∧ (s.loop n).closing = false ∧ (s.loop n).st = .faulted ∧ (s.loop
        n).cause ≠ 1) :=
  ⟨⟨wSt .working (wCfg .spMax 3 6553600 (wCfg .spMin 3 (-6553600) (wCfg .iMax 3 6553600 (wCfg .iMin 3 (-6553600)
      (wCfg .uMax 3 6553600 (wCfg .uSafe 3 65536 (wCfg .kp 3 65536 (wCfg .aiMode 0 1 (wCfg .period 3 1000 (wCfg
      .loopEn 3 1 w0)))))))))), 1, 3, { tag := 4 }, by decide +kernel⟩,
   ⟨wSt .working (wCfg .spMax 3 6553600 (wCfg .spMin 3 (-6553600) (wCfg .iMax 3 6553600 (wCfg .iMin 3 (-6553600)
       (wCfg .uMax 3 6553600 (wCfg .uSafe 3 65536 (wCfg .kp 3 65536 (wCfg .aiMode 0 1 (wCfg .period 3 1000 (wCfg
       .loopEn 3 1 w0)))))))))), 1, 3, { tag := 4 }, by decide +kernel⟩,
   ⟨wSt .working (wCfg .spMax 3 6553600 (wCfg .spMin 3 (-6553600) (wCfg .iMax 3 6553600 (wCfg .iMin 3 (-6553600)
       (wCfg .uMax 3 6553600 (wCfg .uSafe 3 65536 (wCfg .kp 3 65536 (wCfg .aiMode 0 1 (wCfg .period 3 1000 (wCfg
       .loopEn 3 1 w0)))))))))), 1, 3, { tag := 4 }, by decide +kernel⟩,
   ⟨wSt .working (wCfg .spMax 3 6553600 (wCfg .spMin 3 (-6553600) (wCfg .iMax 3 6553600 (wCfg .iMin 3 (-6553600)
       (wCfg .uMax 3 6553600 (wCfg .uSafe 3 65536 (wCfg .kp 3 65536 (wCfg .aiMode 0 1 (wCfg .period 3 1000 (wCfg
       .loopEn 3 1 w0)))))))))), 1, 3, { tag := 4 }, by decide +kernel⟩,
   ⟨wSt .working (wCfg .spMax 3 6553600 (wCfg .spMin 3 (-6553600) (wCfg .iMax 3 6553600 (wCfg .iMin 3 (-6553600)
       (wCfg .uMax 3 6553600 (wCfg .uSafe 3 65536 (wCfg .kp 3 65536 (wCfg .aiMode 0 1 (wCfg .period 3 1000 (wCfg
       .loopEn 3 1 w0)))))))))), 1, 3, { tag := 4 }, by decide +kernel⟩,
   ⟨wSt .working (wCfg .spMax 3 6553600 (wCfg .spMin 3 (-6553600) (wCfg .iMax 3 6553600 (wCfg .iMin 3 (-6553600)
       (wCfg .uMax 3 6553600 (wCfg .uSafe 3 65536 (wCfg .kp 3 65536 (wCfg .aiMode 0 1 (wCfg .period 3 1000 (wCfg
       .loopEn 3 1 w0)))))))))), 1, 3, { tag := 4 }, by decide +kernel⟩,
   ⟨wWait { cmd := .loopClose 0 {} 3, op := 0x51, aux := [3] } (((wCfg .spMax 3 6553600 (wCfg .spMin 3 (-6553600)
       (wCfg .iMax 3 6553600 (wCfg .iMin 3 (-6553600) (wCfg .uMax 3 6553600 (wCfg .uSafe 3 65536 (wCfg .kp 3 65536
       (wCfg .aiMode 0 1 (wCfg .period 3 1000 (wCfg .loopEn 3 1 w0)))))))))).updLoop 3 (fun l =>
       { l with uNext := 5, uOut := 5 })).updAi 0 (fun a => { a with reading := 32768, kind := 0 })), 1, 3,
       { cmd := .loopClose 0 {} 3, op := 0x51, aux := [3] }, 0, {}, by decide +kernel⟩,
   ⟨wWait { cmd := .loopOpen 0 {} 3 true, op := 0x52, aux := [3] } (((wCfg .spMax 3 6553600 (wCfg .spMin 3
       (-6553600) (wCfg .iMax 3 6553600 (wCfg .iMin 3 (-6553600) (wCfg .uMax 3 6553600 (wCfg .uSafe 3 65536 (wCfg
       .kp 3 65536 (wCfg .aiMode 0 1 (wCfg .period 3 1000 (wCfg .loopEn 3 1 w0)))))))))).updLoop 3 (fun l =>
       { l with uNext := 5, uOut := 5 })).updAi 0 (fun a => { a with reading := 32768, kind := 0 })), 1, 3,
       { cmd := .loopOpen 0 {} 3 true, op := 0x52, aux := [3] }, 0, {}, by decide +kernel⟩,
   ⟨wWait { cmd := .loopSetpoint 0 {} 3 7000000, op := 0x53, aux := [3] } (((wCfg .spMax 3 6553600 (wCfg .spMin 3
       (-6553600) (wCfg .iMax 3 6553600 (wCfg .iMin 3 (-6553600) (wCfg .uMax 3 6553600 (wCfg .uSafe 3 65536 (wCfg
       .kp 3 65536 (wCfg .aiMode 0 1 (wCfg .period 3 1000 (wCfg .loopEn 3 1 w0)))))))))).updLoop 3 (fun l =>
       { l with uNext := 5, uOut := 5 })).updAi 0 (fun a => { a with reading := 32768, kind := 0 })), 1, 3,
       { cmd := .loopSetpoint 0 {} 3 7000000, op := 0x53, aux := [3] }, 0, {}, 7000000, by decide +kernel⟩,
   ⟨wWait { cmd := .loopOutput 0 {} 3 7000000, op := 0x54, aux := [3] } (((wCfg .spMax 3 6553600 (wCfg .spMin 3
       (-6553600) (wCfg .iMax 3 6553600 (wCfg .iMin 3 (-6553600) (wCfg .uMax 3 6553600 (wCfg .uSafe 3 65536 (wCfg
       .kp 3 65536 (wCfg .aiMode 0 1 (wCfg .period 3 1000 (wCfg .loopEn 3 1 w0)))))))))).updLoop 3 (fun l =>
       { l with uNext := 5, uOut := 5 })).updAi 0 (fun a => { a with reading := 32768, kind := 0 })), 1, 3,
       { cmd := .loopOutput 0 {} 3 7000000, op := 0x54, aux := [3] }, 0, {}, 7000000, by decide +kernel⟩,
   ⟨wWait { cmd := .loopCoef 0 {} 3 65536 5 7 20000000, op := 0x55, aux := [3] } (((wCfg .spMax 3 6553600 (wCfg
       .spMin 3 (-6553600) (wCfg .iMax 3 6553600 (wCfg .iMin 3 (-6553600) (wCfg .uMax 3 6553600 (wCfg .uSafe 3 65536
       (wCfg .kp 3 65536 (wCfg .aiMode 0 1 (wCfg .period 3 1000 (wCfg .loopEn 3 1 w0)))))))))).updLoop 3 (fun l =>
       { l with uNext := 5, uOut := 5 })).updAi 0 (fun a => { a with reading := 32768, kind := 0 })), 1, 3,
       { cmd := .loopCoef 0 {} 3 65536 5 7 20000000, op := 0x55, aux := [3] }, 0, {}, 65536, 5, 7, 20000000,
       by decide +kernel⟩,
   ⟨wWait { cmd := .loopClear 0 {} 3, op := 0x56, aux := [3] } (((wCfg .spMax 3 6553600 (wCfg .spMin 3 (-6553600)
       (wCfg .iMax 3 6553600 (wCfg .iMin 3 (-6553600) (wCfg .uMax 3 6553600 (wCfg .uSafe 3 65536 (wCfg .kp 3 65536
       (wCfg .aiMode 0 1 (wCfg .period 3 1000 (wCfg .loopEn 3 1 w0)))))))))).updLoop 3 (fun l =>
       { l with st := .faulted, cause := 2, uOut := 9 })).updAi 0 (fun a =>
       { a with reading := 32768, kind := 0 })), 1, 3, 0, {}, { cmd := .loopClear 0 {} 3, op := 0x56, aux := [3] },
       by decide +kernel⟩⟩

theorem met_traceRows :
    (∃ (s : State) (k : Nat), (s.trace k).st ≠ 3)
    ∧ (∃ (s : State) (k : Nat), k < s.loops.trace.length ∧ (s.trace k).st = 3 ∧ (s.trace k).left = 8193 ∧ (∀ j < 4,
        j ≠ k → (s.trace j).st = 3 → 8193 ≤ (s.trace j).left) ∧ s.canWrite 7 1 = true)
    ∧ (∃ (s : State) (dt : Nat) (h : Hdr) (u : Nat) (n : Nat) (dec : Nat) (pre : Nat) (trig : Nat), Takes s dt 0x57
        h ∧ u < s.loops.trace.length ∧ u < 4 ∧ trig ≤ 6 ∧ dec < 256 ∧ pre < 4096 ∧ s.loopOn n = true ∧ (s.trace
        u).st = 0)
    ∧ (∃ (s : State) (dt : Nat) (h : Hdr) (u : Nat), Takes s dt 0x58 h ∧ u < s.loops.trace.length ∧ u < 4 ∧
        ((s.trace u).st = 0 ∨ s.loopOn (s.trace u).loop = true))
    ∧ (∃ (s : State) (dt : Nat) (h : Hdr) (u : Nat), Takes s dt 0x58 h ∧ u < s.loops.trace.length ∧ u < 4 ∧
        ((s.trace u).st = 0 ∨ s.loopOn (s.trace u).loop = true) ∧ (s.trace u).st = 1 ∧ (s.trace u).pre ≤ (s.trace
        u).samples.length) :=
  ⟨⟨w0.updTrace 3 (fun t => { t with st := 2 }), 3, by decide +kernel⟩,
   ⟨wRing 7 (fun r => { r with en := true }) (w0.updTrace 3 (fun t =>
       { t with st := 3, left := 8193, samples := [{}] })), 3, by decide +kernel⟩,
   ⟨wCfg .spMax 3 6553600 (wCfg .spMin 3 (-6553600) (wCfg .iMax 3 6553600 (wCfg .iMin 3 (-6553600) (wCfg .uMax 3
       6553600 (wCfg .uSafe 3 65536 (wCfg .kp 3 65536 (wCfg .aiMode 0 1 (wCfg .period 3 1000 (wCfg .loopEn 3 1
       w0))))))))), 1, { tag := 3 }, 3, 3, 255, 4095, 6, by decide +kernel⟩,
   ⟨(wCfg .spMax 3 6553600 (wCfg .spMin 3 (-6553600) (wCfg .iMax 3 6553600 (wCfg .iMin 3 (-6553600) (wCfg .uMax 3
       6553600 (wCfg .uSafe 3 65536 (wCfg .kp 3 65536 (wCfg .aiMode 0 1 (wCfg .period 3 1000 (wCfg .loopEn 3 1
       w0)))))))))).updTrace 3 (fun t => { t with st := 2, loop := 3 }), 1, {}, 3, by decide +kernel⟩,
   ⟨(wCfg .spMax 3 6553600 (wCfg .spMin 3 (-6553600) (wCfg .iMax 3 6553600 (wCfg .iMin 3 (-6553600) (wCfg .uMax 3
       6553600 (wCfg .uSafe 3 65536 (wCfg .kp 3 65536 (wCfg .aiMode 0 1 (wCfg .period 3 1000 (wCfg .loopEn 3 1
       w0)))))))))).updTrace 3 (fun t => { t with st := 1, loop := 3 }), 1, {}, 3, by decide +kernel⟩⟩

/-- The state of SwitchRows, clause 0. -/
def wSwitchRows_0 : State :=
  (wCfg .ocLimit 5 1000 (wCfg .inrushLimit 5 3000 (wCfg .lsEnable 5 1 (wCfg .lsEnable 4 1 (wSt .working
      { w0 with pwr.vload := [12000, 12000, 12000, 12000] }))))).updLs 5 (fun x =>
      { x with mode := .low, onFrom := some 5 })

theorem met_switchRows :
    (∃ (s : State) (dt : Nat) (n : Nat) (held : Nat) (ma : Int), n < 16 ∧ s.loops.ls.length = 16 ∧ (s.ls n).mode ≠
        .off ∧ s.lsHeld n = false ∧ (s.iLim n : Int) ≤ ma.natAbs ∧ s.cfgN .ocTripT n * 250 ≤ held ∧ (s.advance
        dt).lsOnFor n held = true)
    ∧ (∃ (s : State) (dt : Nat) (n : Nat) (mv : Nat) (vload : Nat) (held : Nat) (m : Nat) (ma : Int), n < 16 ∧
        s.loops.ls.length = 16 ∧ n / 4 < s.pwr.vload.length ∧ (s.ls n).win = some m ∧ m + held ≤ (s.advance dt).now
        ∧ 12500 ≤ held ∧ (if s.cfgB .loadTo n then vload < mv + s.cfgN .shortMv n else mv < s.cfgN .shortMv n) ∧
        (s.cfgN .inrushLimit n : Int) ≤ ma.natAbs)
    ∧ (∃ (s : State) (dt : Nat) (n : Nat) (m : Nat), n < 16 ∧ s.loops.ls.length = 16 ∧ (s.ls n).pause = some m ∧ m ≤
        (s.advance dt).now)
    ∧ (∃ (s : State) (dt : Nat) (n : Nat) (m : Nat), n < 16 ∧ s.loops.ls.length = 16 ∧ (s.ls n).onFrom = some m ∧ m
        + 250000000 ≤ (s.advance dt).time.up)
    ∧ (∃ (s : State) (dt : Nat) (n : Nat) (m : Nat) (below : _), n < s.loops.ls.length ∧ (s.ls n).win = some m ∧
        (s.advance dt).winOver n m below = true)
    ∧ (∃ (s : State) (dt : Nat) (n : Nat) (m : Nat) (ma : Int), n < s.loops.ls.length ∧ (s.ls n).win = some m ∧
        ((s.advance dt).updLs n (fun x => { x with iNow := ma })).lsBudget n = 0)
    ∧ (∃ (s : State) (dt : Nat) (k : Nat) (n : Nat), k < 8 ∧ s.loops.ls.length = 16 ∧ k < s.loops.pair.length ∧
        s.islands = true ∧ (s.advance dt).pairStart k = true ∧ (n = 2 * k ∨ n = 2 * k + 1)) :=
  ⟨⟨wSwitchRows_0, 1, 5, wSwitchRows_0.cfgN .ocTripT 5 * 250, -1000, by decide +kernel⟩,
   ⟨wCfg .shortMv 5 2000 ((wCfg .ocLimit 5 1000 (wCfg .inrushLimit 5 3000 (wCfg .lsEnable 5 1 (wCfg .lsEnable 4 1
       (wSt .working { w0 with pwr.vload := [12000, 12000, 12000, 12000] }))))).updLs 5 (fun x =>
       { x with mode := .low, win := some 5 })), 1, 5, 1999, 1, 12500, 5, 3000, by decide +kernel⟩,
   ⟨(wCfg .ocLimit 5 1000 (wCfg .inrushLimit 5 3000 (wCfg .lsEnable 5 1 (wCfg .lsEnable 4 1 (wSt .working
       { w0 with pwr.vload := [12000, 12000, 12000, 12000] }))))).updLs 5 (fun x =>
       { x with mode := .low, pause := some 250000000, trips := 1 }), 1, 5, 250000000, by decide +kernel⟩,
   ⟨(wCfg .ocLimit 5 1000 (wCfg .inrushLimit 5 3000 (wCfg .lsEnable 5 1 (wCfg .lsEnable 4 1 (wSt .working
       { w0 with pwr.vload := [12000, 12000, 12000, 12000] }))))).updLs 5 (fun x =>
       { x with mode := .low, trips := 3, onFrom := some 0 }), 1, 5, 0, by decide +kernel⟩,
   ⟨(wCfg .ocLimit 5 1000 (wCfg .inrushLimit 5 3000 (wCfg .lsEnable 5 1 (wCfg .lsEnable 4 1 (wSt .working
       { w0 with pwr.vload := [12000, 12000, 12000, 12000] }))))).updLs 5 (fun x =>
       { x with mode := .low, win := some 9 }), 1, 5, 9, none, by decide +kernel⟩,
   ⟨wCfg .inrushI2t 5 100 (wCfg .inrushRest 5 1000 ((wCfg .ocLimit 5 1000 (wCfg .inrushLimit 5 3000 (wCfg .lsEnable
       5 1 (wCfg .lsEnable 4 1 (wSt .working { w0 with pwr.vload := [12000, 12000, 12000, 12000] }))))).updLs 5 (fun
       x => { x with mode := .low, win := some 9, budget := some 0, budgetAt := 249000000 }))), 1, 5, 9, 7000,
       by decide +kernel⟩,
   ⟨wAt 250000000 (wCfg .lsPwmHz 2 1000 ((wCfg .ocLimit 5 1000 (wCfg .inrushLimit 5 3000 (wCfg .lsEnable 5 1 (wCfg
       .lsEnable 4 1 (wSt .working { w0 with pwr.vload := [12000, 12000, 12000, 12000] }))))).updLs 5 (fun x =>
       { x with mode := .pwm, duty := 3276800 }))), 1, 2, 5, by decide +kernel⟩⟩

/-- The state of SwitchFindingRows, clause 2. -/
def wSwitchFindingRows_2 : State :=
  wCfg .lsDiagOff 5 1 (wCfg .ocLimit 5 1000 (wCfg .inrushLimit 5 3000 (wCfg .lsEnable 5 1 (wCfg .lsEnable 4 1 (wSt
      .working { w0 with pwr.vload := [12000, 12000, 12000, 12000] })))))

theorem met_switchFindingRows :
    (∃ (s : State) (k : Nat) (temp : Int), k < 8 ∧ s.loops.ls.length = 16 ∧ k < s.loops.pair.length ∧ 175 ≤ temp ∧
        (s.lsPair k).hot = false)
    ∧ (∃ (s : State) (k : Nat) (temp : Int), k < 8 ∧ s.loops.ls.length = 16 ∧ k < s.loops.pair.length ∧ (s.lsPair
        k).hot = true ∧ temp ≤ 160)
    ∧ (∃ (s : State) (dt : Nat) (n : Nat), s.loops.ls.length = 16 ∧ (s.advance dt).lsTestable n = true ∧ s.cfgB
        .lsDiagOff n = true ∧ (s.ls n).tested = none ∧ (s.ls n).latched = false ∧ s.outputsHeld = false ∧ s.islands
        = true)
    ∧ (∃ (s : State) (dt : Nat) (n : Nat) (ma : Int), n < 16 ∧ s.loops.ls.length = 16 ∧ s.lsActive n = true ∧
        (s.advance dt).lsLow n = true ∧ ma.natAbs < s.cfgN .olMa n ∧ s.outputsHeld = false ∧ (s.ls n).latched =
        false) :=
  ⟨⟨(wCfg .ocLimit 5 1000 (wCfg .inrushLimit 5 3000 (wCfg .lsEnable 5 1 (wCfg .lsEnable 4 1 (wSt .working
      { w0 with pwr.vload := [12000, 12000, 12000, 12000] }))))).updLs 5 (fun x => { x with mode := .low }), 2, 175,
      by decide +kernel⟩,
   ⟨((wCfg .ocLimit 5 1000 (wCfg .inrushLimit 5 3000 (wCfg .lsEnable 5 1 (wCfg .lsEnable 4 1 (wSt .working
       { w0 with pwr.vload := [12000, 12000, 12000, 12000] }))))).updLs 5 (fun x =>
       { x with mode := .low })).updLsPair 2 (fun p => { p with hot := true, shut := [5] }), 2, 160,
       by decide +kernel⟩,
   ⟨wSwitchFindingRows_2, 1, 5, by decide +kernel⟩,
   ⟨wCfg .olMa 5 100 ((wCfg .ocLimit 5 1000 (wCfg .inrushLimit 5 3000 (wCfg .lsEnable 5 1 (wCfg .lsEnable 4 1 (wSt
       .working { w0 with pwr.vload := [12000, 12000, 12000, 12000] }))))).updLs 5 (fun x =>
       { x with mode := .high, lowFrom := some 5 })), 1, 5, -99, by decide +kernel⟩⟩

/-- The state of SwitchCommands, clause 5. -/
def wSwitchCommands_5 : State :=
  wWait { cmd := .lsClear 0 {} 0x20, op := 0x62 } ((wCfg .ocLimit 5 1000 (wCfg .inrushLimit 5 3000 (wCfg .lsEnable 5
      1 (wCfg .lsEnable 4 1 (wSt .working { w0 with pwr.vload := [12000, 12000, 12000, 12000] }))))).updLs 5 (fun x
      => { x with latched := true, cause := 2, trips := 3 }))

/-- The state of SwitchCommands, clause 6. -/
def wSwitchCommands_6 : State :=
  wWait { cmd := .lsClear 0 {} 0x20, op := 0x62 } ((wCfg .ocLimit 5 1000 (wCfg .inrushLimit 5 3000 (wCfg .lsEnable 5
      1 (wCfg .lsEnable 4 1 (wSt .working { w0 with pwr.vload := [12000, 12000, 12000, 12000] }))))).updLs 5 (fun x
      => { x with latched := true, cause := 2, trips := 3 }))

/-- The state of SwitchCommands, clause 7. -/
def wSwitchCommands_7 : State :=
  wWait { cmd := .lsDiagNow 0 {} 0x20, op := 0x63 } (wCfg .ocLimit 5 1000 (wCfg .inrushLimit 5 3000 (wCfg .lsEnable
      5 1 (wCfg .lsEnable 4 1 (wSt .working { w0 with pwr.vload := [12000, 12000, 12000, 12000] })))))

theorem met_switchCommands :
    (∃ (s : State) (dt : Nat) (h : Hdr) (mask : BitVec 16) (k : Nat) (m : LsMode), Takes s dt 0x60 h ∧
        s.loops.ls.length = 16 ∧ lsModeOf k = some m ∧ (∀ n ∈ bitsOf mask, s.lsNamed m n = true ∧ s.lsOwner n =
        none) ∧ (mask ≠ 0 → s.outputsOf ((bitsOf mask).map Res.switch) = none))
    ∧ (∃ (s : State) (dt : Nat) (h : Hdr) (mask : BitVec 16), (∀ n ∈ bitsOf mask, s.cfgB .lsEnable n = true) ∧ Takes
        s dt 0x62 h ∧ mask = 0)
    ∧ (∃ (s : State) (dt : Nat) (h : Hdr) (mask : BitVec 16), (∀ n ∈ bitsOf mask, s.cfgB .lsEnable n = true) ∧ Takes
        s dt 0x62 h ∧ mask ≠ 0)
    ∧ (∃ (s : State) (dt : Nat) (h : Hdr) (mask : BitVec 16), (∀ n ∈ bitsOf mask, s.cfgB .lsEnable n = true) ∧ Takes
        s dt 0x63 h ∧ mask = 0)
    ∧ (∃ (s : State) (dt : Nat) (h : Hdr) (mask : BitVec 16), (∀ n ∈ bitsOf mask, s.cfgB .lsEnable n = true) ∧ Takes
        s dt 0x63 h ∧ mask ≠ 0 ∧ s.outputsOf ((bitsOf mask).map Res.switch) = none)
    ∧ (∃ (s : State) (dt : Nat) (d : Nat) (h : Hdr) (mask : BitVec 16) (obs : List (Option OffObs)) (w : Waiting),
        s.loops.ls.length = 16 ∧ s.waitingFor 0x62 = some w ∧ w.cmd = .lsClear d h mask ∧ (∀ c ∈ ((s.advance
        dt).lsTestCodes mask obs), c = 0 ∨ c = 5))
    ∧ (∃ (s : State) (dt : Nat) (d : Nat) (h : Hdr) (mask : BitVec 16) (obs : List (Option OffObs)) (w : Waiting),
        s.loops.ls.length = 16 ∧ s.waitingFor 0x62 = some w ∧ w.cmd = .lsClear d h mask ∧ (∃ c ∈ ((s.advance
        dt).lsTestCodes mask obs), 1 ≤ c ∧ c ≤ 3))
    ∧ (∃ (s : State) (dt : Nat) (d : Nat) (h : Hdr) (mask : BitVec 16) (obs : List (Option OffObs)) (w : Waiting),
        s.loops.ls.length = 16 ∧ s.waitingFor 0x63 = some w ∧ w.cmd = .lsDiagNow d h mask ∧ (∀ c ∈ ((s.advance
        dt).lsTestCodes mask obs), c = 0 ∨ 4 ≤ c)) :=
  ⟨⟨wSt .manual (wCfg .lsEnable 15 1 (wCfg .ocLimit 5 1000 (wCfg .inrushLimit 5 3000 (wCfg .lsEnable 5 1 (wCfg
      .lsEnable 4 1 (wSt .working { w0 with pwr.vload := [12000, 12000, 12000, 12000] })))))), 1, { tag := 3 },
      0x8020, 3, .pwm, by decide +kernel⟩,
   ⟨(wCfg .ocLimit 5 1000 (wCfg .inrushLimit 5 3000 (wCfg .lsEnable 5 1 (wCfg .lsEnable 4 1 (wSt .working
       { w0 with pwr.vload := [12000, 12000, 12000, 12000] }))))).updLs 5 (fun x =>
       { x with latched := true, cause := 2 }), 1, { tag := 3 }, 0, by decide +kernel⟩,
   ⟨(wCfg .ocLimit 5 1000 (wCfg .inrushLimit 5 3000 (wCfg .lsEnable 5 1 (wCfg .lsEnable 4 1 (wSt .working
       { w0 with pwr.vload := [12000, 12000, 12000, 12000] }))))).updLs 5 (fun x =>
       { x with latched := true, cause := 2 }), 1, { tag := 3 }, 0x20, by decide +kernel⟩,
   ⟨wSt .standby (wCfg .ocLimit 5 1000 (wCfg .inrushLimit 5 3000 (wCfg .lsEnable 5 1 (wCfg .lsEnable 4 1 (wSt
       .working { w0 with pwr.vload := [12000, 12000, 12000, 12000] }))))), 1, { tag := 3 }, 0, by decide +kernel⟩,
   ⟨wSt .standby (wCfg .ocLimit 5 1000 (wCfg .inrushLimit 5 3000 (wCfg .lsEnable 5 1 (wCfg .lsEnable 4 1 (wSt
       .working { w0 with pwr.vload := [12000, 12000, 12000, 12000] }))))), 1, { tag := 3 }, 0x20,
       by decide +kernel⟩,
   ⟨wSwitchCommands_5, 1, 0, {}, 0x20, List.replicate 16 (some { off := 2000, pulled := 2000 }),
       { cmd := .lsClear 0 {} 0x20, op := 0x62 }, by decide +kernel⟩,
   ⟨wSwitchCommands_6, 1, 0, {}, 0x20, List.replicate 16 (some { off := 7000, pulled := 2000 }),
       { cmd := .lsClear 0 {} 0x20, op := 0x62 }, by decide +kernel⟩,
   ⟨wSwitchCommands_7, 1, 0, {}, 0x20, List.replicate 16 (some { off := 2000, pulled := 2000 }),
       { cmd := .lsDiagNow 0 {} 0x20, op := 0x63 }, by decide +kernel⟩⟩

theorem met_fieldLinkRows :
    (∃ (s : State) (dt : Nat), s.islands = true ∧ (s.advance dt).now % 25000 = 0 ∧ s.dev.st ≠ .reset)
    ∧ (∃ (s : State) (dt : Nat) (p : Nat), s.field.silent = false ∧ p < s.field.pins.length ∧ s.field.inFlight =
        true ∧ (s.advance dt).time.up < s.field.lastDown + s.field.timeout * 250000)
    ∧ (∃ (s : State) (p : Nat), s.field.silent = false ∧ p < s.field.pins.length ∧ s.field.inFlight = false)
    ∧ (∃ (s : State), s.field.clockBad = false)
    ∧ (∃ (s : State) (good : Bool), (good = false ∨ s.field.clockBad = true))
    ∧ (∃ (s : State), 3 ≤ s.field.missedUp ∧ s.field.stale = false)
    ∧ (∃ (s : State) (dt : Nat), s.field.silent = false ∧ s.field.lastDown + s.field.timeout * 250000 ≤ (s.advance
        dt).time.up)
    ∧ (∃ (s : State), s.dev.st = .reset)
    ∧ (∃ (s : State), (s.sag.a.force = true ∨ s.sag.b.force = true)) :=
  ⟨⟨wWait { cmd := .fdSet 0 {} 1 1, op := 0x70 } { w0 with field.resumeDue := true }, 1, by decide +kernel⟩,
   ⟨wCfg .silenceTimeout 0 100 { w0 with field.silent := false, field.inFlight := true, field.lastDown := 249000000,
                                           field.frame := List.replicate 32 (some true), field.missedDown := 2 }, 1,
       31, by decide +kernel⟩,
   ⟨{ w0 with field.silent := false, field.linkOk := true }, 31, by decide +kernel⟩,
   ⟨({ w0 with field.linkOk := true, field.missedDown := 3, field.stale := true, field.missedUp := 5 }).updPin 31
       (fun p => { p with fresh := true, level := true, stamp := 77 }), by decide +kernel⟩,
   ⟨w0, false, by decide +kernel⟩,
   ⟨{ w0 with field.missedUp := 3 }, by decide +kernel⟩,
   ⟨wAt 250000000000 { w0 with field.silent := false, field.linkOk := true, dev.fdSafe := List.replicate 32 1 }, 1,
       by decide +kernel⟩,
   ⟨wSt .reset { w0 with dev.fdSafe := List.replicate 32 2 }, by decide +kernel⟩,
   ⟨{ w0 with sag.b.force := true, dev.fdSafe := List.replicate 32 1 }, by decide +kernel⟩⟩

theorem met_pinRows :
    (∃ (s : State) (dt : Nat) (p : Nat) (since : Nat) (l : Bool), p < 32 ∧ p < s.field.pins.length ∧ s.fdMode p ≠ 3
        ∧ since + s.cfgN .fdFilter p * 250 ≤ (s.advance dt).now ∧ (s.pin p).level ≠ l)
    ∧ (∃ (s : State) (p : Nat) (b : Bool), p < s.field.pins.length ∧ s.fdIn p = true ∧ s.cfgB .fdWb p = true ∧ (b =
        true → (s.pin p).level = false) ∧ (s.pin p).broken ≠ b)
    ∧ (∃ (s : State) (p : Nat), p < s.field.pins.length ∧ s.fdDrive p = true)
    ∧ (∃ (s : State) (p : Nat) (ma : _), p < s.field.pins.length ∧ s.fdDrive p = true ∧ 2000 < ma)
    ∧ (∃ (s : State) (p : Nat), p < s.field.pins.length ∧ s.fdDrive p = true ∧ s.cfgB .fdOl p = true)
    ∧ (∃ (s : State) (p : Nat), p < s.field.pins.length ∧ s.fdOut p = true ∧ s.fdDrive p = false ∧ (s.pin p).driven
        = false)
    ∧ (∃ (s : State) (p : Nat), p < s.field.pins.length ∧ s.fdOut p = true) :=
  ⟨⟨wCfg .fdFilter 31 10 w0, 1, 31, 249997500, true, by decide +kernel⟩,
   ⟨wCfg .fdWb 31 1 w0, 31, true, by decide +kernel⟩,
   ⟨(let z := (wCfg .fdOl 31 1 (wCfg .fdMode 31 2 w0)).updPin 31 (fun p => { p with out := true });
       { z with field.modes := z.field.modes.set 31 2 }), 31, by decide +kernel⟩,
   ⟨(let z := (wCfg .fdOl 31 1 (wCfg .fdMode 31 2 w0)).updPin 31 (fun p => { p with out := true });
       { z with field.modes := z.field.modes.set 31 2 }), 31, 2001, by decide +kernel⟩,
   ⟨(let z := (wCfg .fdOl 31 1 (wCfg .fdMode 31 2 w0)).updPin 31 (fun p => { p with out := true });
       { z with field.modes := z.field.modes.set 31 2 }), 31, by decide +kernel⟩,
   ⟨(let z := (wCfg .fdOl 31 1 (wCfg .fdMode 31 2 w0)).updPin 31 (fun p => { p with out := false });
       { z with field.modes := z.field.modes.set 31 2 }), 31, by decide +kernel⟩,
   ⟨(let z := (wCfg .fdOl 31 1 (wCfg .fdMode 31 2 w0)).updPin 31 (fun p => { p with out := false, driven := true });
       { z with field.modes := z.field.modes.set 31 2 }), 31, by decide +kernel⟩⟩

/-- The state of AnalogRows, clause 1. -/
def wAnalogRows_1 : State :=
  w0.updAi 15 (fun a => { a with above := true, aboveAt := 249750000 })

theorem met_analogRows :
    (∃ (s : State) (n : Nat) (xs : List Int), n < 16 ∧ n < s.field.ai.length ∧ xs.length = s.cfgN .aiAvg n ∧
        s.islands = true)
    ∧ (∃ (s : State) (n : Nat), n < 16 ∧ n < s.field.ai.length ∧ s.islands = true ∧ (s.ain n).shunt = none ∧
        s.ratioOf n = none)
    ∧ (∃ (s : State) (n : Nat), n < 16 ∧ n < s.field.ai.length ∧ s.cfgN .aiMode n = 3 ∧ (s.ain n).shunt = none)
    ∧ (∃ (s : State) (dt : Nat) (n : Nat) (m : Nat), n < 16 ∧ n < s.field.ai.length ∧ (s.ain n).shunt = some m ∧ m ≤
        (s.advance dt).now)
    ∧ (∃ (s : State) (b : Bool), s.field.sx.length = 2 ∧ s.field.ai.length = 16 ∧ s.sxGood (b2n b) = true)
    ∧ (∃ (s : State) (dt : Nat) (b : Bool), s.field.sx.length = 2 ∧ s.pwr.shed = false ∧ (s.sxOut (b2n b)).on = true
        ∧ (s.sxOut (b2n b)).fault = true ∧ (s.sxOut (b2n b)).at_ + 25000000 ≤ (s.advance dt).now) :=
  ⟨⟨wCfg .aiAvg 15 4 (wCfg .aiMode 15 1 w0), 15, [1, 2, 3, 5], by decide +kernel⟩,
   ⟨wAnalogRows_1, 15, by decide +kernel⟩,
   ⟨wCfg .aiMode 15 3 w0, 15, by decide +kernel⟩,
   ⟨(wCfg .aiMode 15 3 w0).updAi 15 (fun a => { a with shunt := some 250000000, kind := 2 }), 1, 15, 250000000,
       by decide +kernel⟩,
   ⟨wCfg .aiMode 3 5 (w0.updSx 1 (fun x => { x with on := true })), true, by decide +kernel⟩,
   ⟨wCfg .aiMode 3 5 (w0.updSx 1 (fun x => { x with on := true, fault := true, retry := true, at_ := 225000000 })),
       1, true, by decide +kernel⟩⟩

theorem met_pulseRows :
    (∃ (s : State) (n : Nat) (held : Nat) (mv : Int) (level : Bool), n < 16 ∧ s.field.pi.length = 16 ∧ s.islands =
        true ∧ s.piMode n ≠ 3 ∧ s.piCompare n mv = level ∧ (s.pin_ n).level ≠ level ∧ s.cfgN .piGlitch n * 250 ≤
        held ∧ (s.pin_ n).load = none ∧ (s.cfgN .piEdge n = 2 ∨ s.cfgN .piEdge n = (if level then 0 else 1)))
    ∧ (∃ (s : State) (n : Nat) (held : Nat) (mv : Int) (level : Bool), n < 16 ∧ s.field.pi.length = 16 ∧ s.islands =
        true ∧ s.piMode n ≠ 3 ∧ s.piCompare n mv = level ∧ (s.pin_ n).level ≠ level ∧ s.cfgN .piGlitch n * 250 ≤
        held ∧ (s.pin_ n).load = none ∧ (s.cfgN .piEdge n = (if level then 1 else 0)))
    ∧ (∃ (s : State) (n : Nat) (held : Nat), held < s.cfgN .piGlitch n * 250)
    ∧ (∃ (s : State) (dt : Nat) (k : Nat) (held : Nat) (mv : Int) (b : Bool) (level : Bool), k < 8 ∧
        s.field.pi.length = 16 ∧ s.islands = true ∧ s.piMode (2 * k + b2n b) = 3 ∧ s.piCompare (2 * k + b2n b) mv =
        level ∧ (s.pin_ (2 * k + b2n b)).level ≠ level ∧ s.cfgN .piGlitch (2 * k + b2n b) * 250 ≤ held ∧ (s.pin_ (2
        * k)).load = none ∧ (s.pin_ (2 * k + 1)).load = none ∧ (∀ m, (s.pin_ (2 * k)).stamps.getLast? = some m → m +
        500 < (s.advance dt).now - held) ∧ (∀ m ∈ (s.pin_ (2 * k)).loadedAt, m ≤ (s.advance dt).now - held))
    ∧ (∃ (s : State) (dt : Nat) (n : Nat) (m : Nat), n < s.field.pi.length ∧ (s.pin_ n).stamps.getLast? = some m ∧ m
        + s.cfgN .piZeroT n * 250000 ≤ (s.advance dt).now)
    ∧ (∃ (s : State) (dt : Nat) (n : Nat) (m : Nat) (c : Word), n < s.field.pi.length ∧ (s.pin_ n).load = some (c,
        m) ∧ m ≤ (s.advance dt).now)
    ∧ (∃ (s : State) (n : Nat), s.islands = true ∧ n < s.field.extev.length) :=
  ⟨⟨wCfg .piEdge 15 2 w0, 15, 1000000, 30000, true, by decide +kernel⟩,
   ⟨wCfg .piEdge 15 1 w0, 15, 1000000, 30000, true, by decide +kernel⟩,
   ⟨wCfg .piGlitch 15 10 w0, 15, 2499, by decide +kernel⟩,
   ⟨wCfg .piMode 14 3 w0, 1, 7, 1000000, 30000, true, true, by decide +kernel, by decide +kernel, by decide +kernel,
       by decide +kernel, by decide +kernel, by decide +kernel, by decide +kernel, by decide +kernel,
       by decide +kernel, (by intro _ h; cases h), by decide +kernel⟩,
   ⟨wCfg .piZeroT 15 100 (w0.updPi 15 (fun p => { p with stamps := [224000000, 225000000], f := 77 })), 1, 15,
       225000000, by decide +kernel⟩,
   ⟨w0.updPi 15 (fun p => { p with load := some (77, 250000000), count := 5 }), 1, 15, 250000000, 77,
       by decide +kernel⟩,
   ⟨{ w0 with field.extev := [{}, { stamps := [249000000], count := 4 }] }, 1, by decide +kernel⟩⟩

theorem met_fieldCommands :
    (∃ (s : State) (dt : Nat) (h : Hdr) (mask : Word), Takes s dt 0x70 h ∧ (∀ p ∈ bitsOf mask, s.fdSetOut p = true))
    ∧ (∃ (s : State) (dt : Nat) (h : Hdr) (mask : Word), Takes s dt 0x72 h ∧ (∀ p ∈ bitsOf mask, p <
        s.field.pins.length ∧ ((s.pin p).latched = true → (s.pin p).driven = false)))
    ∧ (∃ (s : State) (dt : Nat) (n : Nat) (h : Hdr), Takes s dt 0x75 h ∧ n < 16 ∧ n < s.field.pi.length)
    ∧ (∃ (s : State) (dt : Nat) (h : Hdr), Takes s dt 0x76 h ∧ s.field.sx.length = 2 ∧ s.field.ai.length = 16) :=
  ⟨⟨wSt .working (wCfg .fdMode 31 2 w0), 1, { tag := 3 }, 0x80000000, by decide +kernel⟩,
   ⟨(wCfg .fdMode 31 2 w0).updPin 31 (fun p => { p with latched := true, kind := 1 }), 1, { tag := 3 }, 0x80000000,
       by decide +kernel⟩,
   ⟨w0, 1, 15, { tag := 3 }, by decide +kernel⟩,
   ⟨w0, 1, { tag := 3 }, by decide +kernel⟩⟩

theorem met_canReceiveRows :
    (∃ (s : State) (dt : Nat) (b : Nat) (sof : Nat) (i : Nat) (f : CanFrame), b < 4 ∧ s.can.bus.length = 4 ∧
        s.canLive = true ∧ (s.busOf b).off = false ∧ (s.busOf b).integrating = false ∧ (f.fdf = true → (s.busOf
        b).fdEn = true) ∧ (s.busOf b).listen = false ∧ (s.busOf b).detect = none ∧ (List.range 128).find? (fun i =>
        (s.filtOf b i sof).frameMatch f) = some i ∧ (s.filtOf b i sof).action = 2 ∧ (s.filtOf b i sof).slot <
        (s.busOf b).slots.length ∧ sof ≤ (s.advance dt).now)
    ∧ (∃ (s : State) (b : Nat) (f : CanFrame) (d : Detect), b < 4 ∧ s.can.bus.length = 4 ∧ s.canLive = true ∧
        (s.busOf b).off = false ∧ (s.busOf b).integrating = false ∧ f.fdf = false ∧ (s.busOf b).listen = true ∧
        (s.busOf b).detect = some d ∧ d.nom = none ∧ d.good = 0)
    ∧ (∃ (s : State) (b : Nat) (f : CanFrame) (d : Detect), b < 4 ∧ s.can.bus.length = 4 ∧ s.canLive = true ∧
        (s.busOf b).off = false ∧ (s.busOf b).integrating = false ∧ f.fdf = false ∧ (s.busOf b).listen = true ∧
        (s.busOf b).detect = some d ∧ d.nom = none ∧ d.good = 1 ∧ (s.busOf b).fdEn = true)
    ∧ (∃ (s : State) (b : Nat), b < 4 ∧ s.can.bus.length = 4 ∧ s.canLive = true ∧ (s.busOf b).off = false ∧ (s.busOf
        b).integrating = false ∧ (s.busOf b).listen = false ∧ (s.busOf b).detect = none)
    ∧ (∃ (s : State) (b : Nat) (d : Detect), b < 4 ∧ s.can.bus.length = 4 ∧ s.canLive = true ∧ (s.busOf b).off =
        false ∧ (s.busOf b).integrating = false ∧ (s.busOf b).detect = some d ∧ d.nom = none)
    ∧ (∃ (s : State) (dt : Nat) (b : Nat) (id : Nat) (u : RxSess), b < 4 ∧ s.can.bus.length = 4 ∧ s.canLive = true ∧
        (s.busOf b).rx.find? (fun r => r.id = id && decide (r.deadline ≤ (s.advance dt).now)) = some u)
    ∧ (∃ (s : State) (dt : Nat) (b : Nat) (id : Nat) (u : TxSess), b < 4 ∧ s.can.bus.length = 4 ∧ s.canLive = true ∧
        (s.busOf b).tx.find? (fun t => t.id = id && (t.proto = 1 || t.proto = 2) && decide (t.deadline ≤ (s.advance
        dt).now)) = some u)
    ∧ (∃ (s : State) (b : Nat), b < s.can.bus.length) :=
  ⟨⟨(wCfg .filtAction 387 2 (wCfg .filtId 387 0x123 (wCfg .filtMask 387 0x7FF (wCfg .filtSlot 387 63 w0)))).updBus 3
      (fun x => { x with alone := true }), 1, 3, 249990000, 3, { id := 0x123, data := [1, 2, 3] },
      by decide +kernel⟩,
   ⟨(w0).updBus 3 (fun x => { x with listen := true, detect := some { cand := 1, deadline := 260000000 } }), 3,
       { id := 0x123, data := [1, 2, 3] }, { cand := 1, deadline := 260000000 }, by decide +kernel⟩,
   ⟨(w0).updBus 3 (fun x => { x with listen := true, fdEn := true, detect := some
                                       { cand := 1, good := 1, deadline := 260000000 } }), 3,
       { id := 0x123, data := [1, 2, 3] }, { cand := 1, good := 1, deadline := 260000000 }, by decide +kernel⟩,
   ⟨(w0).updBus 3 (fun x => { x with rec_ := 120 }), 3, by decide +kernel⟩,
   ⟨(w0).updBus 3 (fun x => { x with listen := true, detect := some { cand := 1, good := 1, deadline := 260000000 }
                                       }), 3, { cand := 1, good := 1, deadline := 260000000 }, by decide +kernel⟩,
   ⟨(w0).updBus 3 (fun x => { x with rx := [{ id := 5, sa := 9, da := 128, pgn := 0xFECA, proto := 1, len := 20,
                                                deadline := 250000000 }, { id := 6 }], addr := some 128 }), 1, 3, 5,
       { id := 5, sa := 9, da := 128, pgn := 0xFECA, proto := 1, len := 20, deadline := 250000000 },
       by decide +kernel⟩,
   ⟨(w0).updBus 3 (fun x => { x with tx := [{ id := 5, idx := 4, tag := 7, da := 9, proto := 1,
                                                deadline := 250000000, data := [1, 2, 3, 4, 5, 6, 7, 8, 9] },
                                       { id := 6, proto := 2, deadline := 260000000 }], addr := some 128 }), 1, 3,
       5, { id := 5, idx := 4, tag := 7, da := 9, proto := 1, deadline := 250000000, data := [1, 2, 3, 4, 5, 6, 7,
              8, 9] }, by decide +kernel⟩,
   ⟨(w0).updBus 3 (fun x => { x with integrating := true }), 3, by decide +kernel⟩⟩

/-- The state of CanTransmitRows, clause 4. -/
def wCanTransmitRows_4 : State :=
  wSt .working (wCfg .txfId 31 5 (wCfg .txfBus 31 3 (wCfg .txfPeriod 31 100 (wCfg .txfSaAuto 31 0 w0))))

theorem met_canTransmitRows :
    (∃ (s : State) (b : Nat) (e : TxEnt), b < 4 ∧ s.can.bus.length = 4 ∧ s.contender b = some e)
    ∧ (∃ (s : State) (b : Nat) (e : TxEnt), b < 4 ∧ s.can.bus.length = 4 ∧ s.contender b = some e ∧ e.leave = 0 ∧
        e.kind ≠ .claim)
    ∧ (∃ (s : State) (b : Nat) (e : TxEnt), b < 4 ∧ s.can.bus.length = 4 ∧ s.contender b = some e ∧ e.leave = 0 ∧
        e.kind ≠ .claim ∧ (s.busOf b).listen = false)
    ∧ (∃ (s : State) (b : Nat) (e : TxEnt), b < 4 ∧ s.can.bus.length = 4 ∧ s.contender b = some e ∧ e.leave = 0 ∧
        e.kind ≠ .claim ∧ (s.busOf b).listen = false)
    ∧ (∃ (s : State) (dt : Nat) (n : Nat), n < 32 ∧ s.can.bus.length = 4 ∧ 0 ≤ s.cfgI .txfBus n ∧ s.cfgN .txfBus n <
        4 ∧ 0 ≤ s.cfgI .txfId n ∧ s.canLive = true ∧ (s.advance dt).now % (s.cfgN .txfPeriod n * 250000) = 0 ∧
        s.dev.st.operating = true ∧ s.cfg.firing = none ∧ s.cfgB .txfSaAuto n = false ∧ (s.busOf (s.cfgN .txfBus
        n)).listen = false ∧ (s.busOf (s.cfgN .txfBus n)).fifo.length < 64 ∧ (∀ e ∈ (s.busOf (s.cfgN .txfBus
        n)).fifo, e.kind ≠ .txf n))
    ∧ (∃ (s : State) (dt : Nat) (b : Nat), b < 4 ∧ s.can.bus.length = 4 ∧ s.cfgN .timeRole b = 1 ∧ 0 ≤ s.cfgI
        .timeId b ∧ s.canLive = true ∧ (s.advance dt).now % (s.cfgN .timePeriod b * 250000) = 0 ∧ s.time.ftValid =
        true ∧ s.dev.st = .standby ∧ (s.busOf b).listen = false ∧ (s.busOf b).fifo.length < 64 ∧ (∀ e ∈ (s.busOf
        b).fifo, e.kind.isSync = false))
    ∧ (∃ (s : State) (b : Nat) (len : Nat) (e : TxEnt) (rest : List TxEnt) (idx : Word) (tag : BitVec 16) (pgn :
        Nat) (prio : Nat) (da : Nat) (a : DWord), b < 4 ∧ s.can.bus.length = 4 ∧ s.canLive = true ∧ (s.busOf
        b).sends = true ∧ (s.busOf b).tx.length < 8 ∧ (s.busOf b).fifo = e :: rest ∧ e.kind = .msg idx tag pgn prio
        da len a ∧ (s.busOf b).addr = none ∧ (s.busOf b).tx = [] ∧ (s.busOf b).wait = [])
    ∧ (∃ (s : State) (b : Nat) (len : Nat) (e : TxEnt) (rest : List TxEnt) (idx : Word) (tag : BitVec 16) (pgn :
        Nat) (prio : Nat) (da : Nat) (a : DWord) (sa : _), b < 4 ∧ s.can.bus.length = 4 ∧ s.canLive = true ∧
        (s.busOf b).sends = true ∧ (s.busOf b).tx.length < 8 ∧ (s.busOf b).fifo = e :: rest ∧ e.kind = .msg idx tag
        pgn prio da len a ∧ (s.busOf b).addr = some sa ∧ s.dmaOk = true)
    ∧ (∃ (s : State) (dt : Nat) (b : Nat) (id : Nat) (u : TxSess), b < 4 ∧ s.can.bus.length = 4 ∧ (s.busOf b).tx =
        [u] ∧ u.id = id ∧ u.proto = 0 ∧ u.nextAt ≤ (s.advance dt).now ∧ u.sent < packets u.data.length ∧ (s.busOf
        b).fifo.length < 64 ∧ (s.busOf b).claim = none) :=
  ⟨⟨(w0).updBus 3 (fun x => { x with fifo := [{ kind := .host 4 7, frame := { id := 0x55 }, attempts := 1 }, {}],
                                       tec := 5, acks := 3 }), 3,
      { kind := .host 4 7, frame := { id := 0x55 }, attempts := 1 }, by decide +kernel⟩,
   ⟨(w0).updBus 3 (fun x => { x with fifo := [{ kind := .host 4 7, frame := { id := 0x55 }, attempts := 1 }, {}],
                                       tec := 100, acks := 3 }), 3,
       { kind := .host 4 7, frame := { id := 0x55 }, attempts := 1 }, by decide +kernel⟩,
   ⟨(w0).updBus 3 (fun x => { x with fifo := [{ kind := .host 4 7, frame := { id := 0x55 }, attempts := 1 }, {}],
                                       tec := 100, acks := 3 }), 3,
       { kind := .host 4 7, frame := { id := 0x55 }, attempts := 1 }, by decide +kernel⟩,
   ⟨(w0).updBus 3 (fun x => { x with fifo := [{ kind := .host 4 7, frame := { id := 0x55 }, attempts := 1 }, {}],
                                       tec := 100, acks := 3 }), 3,
       { kind := .host 4 7, frame := { id := 0x55 }, attempts := 1 }, by decide +kernel⟩,
   ⟨wCanTransmitRows_4, 1, 31, by decide +kernel⟩,
   ⟨wCfg .timeRole 3 1 (wCfg .timeId 3 5 (wCfg .timePeriod 3 100 { w0 with time.ftValid := true })), 1, 3,
       by decide +kernel⟩,
   ⟨(w0).updBus 3 (fun x => { x with fifo := [{ kind := .msg 4 7 0xFECA 6 255 9 4096 }, {}] }), 3, 9,
       { kind := .msg 4 7 0xFECA 6 255 9 4096 }, [{}], 4, 7, 0xFECA, 6, 255, 4096, by decide +kernel⟩,
   ⟨(w0).updBus 3 (fun x => { x with fifo := [{ kind := .msg 4 7 0xFECA 6 255 9 4096 }, {}], addr := some 128 }), 3,
       9, { kind := .msg 4 7 0xFECA 6 255 9 4096 }, [{}], 4, 7, 0xFECA, 6, 255, 4096, 128, by decide +kernel⟩,
   ⟨(w0).updBus 3 (fun x => { x with tx := [{ id := 5, idx := 4, tag := 7, da := 255, proto := 0, prio := 5,
                                                nextAt := 250000000, sent := 1, data := [1, 2, 3, 4, 5, 6, 7, 8, 9]
                                                }], addr := some 128 }), 1, 3, 5, { id := 5, idx := 4, tag := 7,
                                                                                      da := 255, proto := 0,
                                                                                      prio := 5,
                                                                                      nextAt := 250000000,
                                                                                      sent := 1, data := [1, 2, 3,
                                                                                      4, 5, 6, 7, 8, 9] },
       by decide +kernel⟩⟩

theorem met_busStateRows :
    (∃ (s : State) (b : Nat), b < 4 ∧ s.can.bus.length = 4 ∧ s.canLive = true ∧ (s.busOf b).fault = false)
    ∧ (∃ (s : State) (b : Nat), b < 4 ∧ s.can.bus.length = 4 ∧ s.canLive = true ∧ (s.busOf b).stuck = false)
    ∧ (∃ (s : State) (b : Nat), b < 4 ∧ s.can.bus.length = 4 ∧ s.canLive = true ∧ ((s.busOf b).fault = true ∨
        (s.busOf b).stuck = true))
    ∧ (∃ (s : State) (b : Nat), b < 4 ∧ s.can.bus.length = 4 ∧ (s.busOf b).off = true ∧ (s.busOf b).recov.isSome =
        true)
    ∧ (∃ (s : State) (dt : Nat) (b : Nat) (m : Nat) (w : Waiting), s.host.outstanding = [w] ∧ w.op = 0x82 ∧ w.aux =
        [b, m] ∧ m + 250000000 ≤ (s.advance dt).now)
    ∧ (∃ (s : State) (dt : Nat) (b : Nat) (d : Detect), b < 4 ∧ s.can.bus.length = 4 ∧ (s.busOf b).detect = some d ∧
        d.deadline ≤ (s.advance dt).now)
    ∧ (∃ (s : State) (dt : Nat) (b : Nat) (a : Nat) (m : Nat), b < 4 ∧ s.can.bus.length = 4 ∧ (s.busOf b).claim =
        some (a, some m) ∧ m ≤ (s.advance dt).now) :=
  ⟨⟨w0, 3, by decide +kernel⟩,
   ⟨w0, 3, by decide +kernel⟩,
   ⟨(w0).updBus 3 (fun x => { x with stuck := true }), 3, by decide +kernel⟩,
   ⟨(w0).updBus 3 (fun x => { x with off := true, recov := some 5, tec := 256 }), 3, by decide +kernel⟩,
   ⟨(wWait { cmd := .canBusRecover 0 {} 3, op := 0x82, aux := [3, 0] } w0).updBus 3 (fun x =>
       { x with off := true, recov := some 0 }), 1, 3, 0,
       { cmd := .canBusRecover 0 {} 3, op := 0x82, aux := [3, 0] }, by decide +kernel⟩,
   ⟨(w0).updBus 3 (fun x => { x with listen := true, detect := some { cand := 1, deadline := 250000000 } }), 1, 3,
       { cand := 1, deadline := 250000000 }, by decide +kernel⟩,
   ⟨(w0).updBus 3 (fun x => { x with claim := some (128, some 250000000) }), 1, 3, 128, 250000000,
       by decide +kernel⟩⟩

theorem met_canCommands :
    (∃ (s : State) (dt : Nat) (b : Nat) (i : Nat) (h : Hdr) (tag : BitVec 16) (started : Bool), Takes s dt 0x81 h ∧
        b < 4 ∧ s.can.bus.length = 4 ∧ (s.busOf b).tx = [] ∧ (s.busOf b).wait = [] ∧ (s.busOf b).fifo.findIdx? (fun
        e => e.tag? = some tag) = some i ∧ (i = 0 → started = false))
    ∧ (∃ (s : State) (dt : Nat) (b : Nat) (i : Nat) (h : Hdr) (tag : BitVec 16) (started : Bool), Takes s dt 0x81 h
        ∧ b < 4 ∧ s.can.bus.length = 4 ∧ (s.busOf b).tx = [] ∧ (s.busOf b).wait = [] ∧ (s.busOf b).fifo.findIdx?
        (fun e => e.tag? = some tag) = some i ∧ i = 0 ∧ started = true ∧ (s.contender b).isSome = true)
    ∧ (∃ (s : State) (dt : Nat) (b : Nat) (h : Hdr), Takes s dt 0x82 h ∧ b < 4 ∧ s.can.bus.length = 4 ∧ (s.busOf
        b).off = true)
    ∧ (∃ (s : State) (dt : Nat) (b : Nat) (h : Hdr), Takes s dt 0x83 h ∧ b < 4 ∧ s.can.bus.length = 4 ∧ (s.busOf
        b).detect = none)
    ∧ (∃ (s : State) (dt : Nat) (b : Nat) (h : Hdr), Takes s dt 0x84 h ∧ b < 4 ∧ s.can.bus.length = 4 ∧ (s.busOf
        b).listen = true ∧ (s.busOf b).detect = none)
    ∧ (∃ (s : State) (dt : Nat) (b : Nat) (h : Hdr), Takes s dt 0x86 h ∧ b < 4)
    ∧ (∃ (s : State) (dt : Nat) (b : Nat) (h : Hdr), Takes s dt 0x87 h ∧ b < 4 ∧ s.can.bus.length = 4 ∧ s.isoOn b =
        true) :=
  ⟨⟨(w0).updBus 3 (fun x => { x with fifo := [{}, { kind := .host 4 7, frame := { id := 0x55 } }] }), 1, 3, 1,
      { tag := 3 }, 7, true, by decide +kernel⟩,
   ⟨(w0).updBus 3 (fun x => { x with fifo := [{ kind := .host 4 7, frame := { id := 0x55 } }, {}] }), 1, 3, 0,
       { tag := 3 }, 7, true, by decide +kernel⟩,
   ⟨(w0).updBus 3 (fun x => { x with off := true, tec := 256 }), 1, 3, { tag := 3 }, by decide +kernel⟩,
   ⟨(w0).updBus 3 (fun x => { x with addr := some 128 }), 1, 3, { tag := 3 }, by decide +kernel⟩,
   ⟨(w0).updBus 3 (fun x => { x with listen := true }), 1, 3, { tag := 3 }, by decide +kernel⟩,
   ⟨w0, 1, 3, { tag := 3 }, by decide +kernel⟩,
   ⟨wCfg .isoEn 3 1 w0, 1, 3, { tag := 3 }, by decide +kernel⟩⟩

theorem met_loopInstruction :
    (∃ (s : State) (dt ch : Nat) (n : BitVec 2) (reload : Bool) (a : BitVec 9), SeqDue s dt ch (.loop n reload a) ∧
        hdrStart (s.hdrOf ch) ≤ a.toNat ∧ a.toNat ≤ hdrLast (s.hdrOf ch) ∧ n.toNat < (s.ctx ch).ks.length) :=
  ⟨wSeq (.loop 3 true 5), 1, 11, 3, true, 5, by decide +kernel⟩

theorem met_stepRunsFront : ∃ s : State, s.pending = [] := ⟨State.reset, rfl⟩

/-- An index ahead of the ring by more than its size (R371). -/
theorem met_hostError :
    ∃ (s : State) (d : Doorbell) (n : Nat), s.host.sweeping = true ∧ d.ok = true ∧ d.answers = [] ∧ n < 16
      ∧ badIndex n (s.ring n) (d.idx.getD n 0) = true :=
  ⟨{ w0 with host.sweeping := true }, { idx := [1000] }, 0, by decide +kernel⟩

/-- The premises of host loss: STANDBY, a state with a grace, one without, and another state. -/
theorem met_linkLossIsHostLoss :
    (∃ (s : State) (dt : Nat) (c : Instr), s.dev.st = .standby ∧ c ∈ [.perstnAssert dt, .hotReset dt, .dlDown dt])
    ∧ (∃ (s : State) (dt : Nat) (c : Instr), s.dev.st.active = true ∧ s.dev.grace = none ∧ s.host.hostGrace ≠ 0
        ∧ c ∈ [.perstnAssert dt, .hotReset dt, .dlDown dt])
    ∧ (∃ (s : State) (dt : Nat) (c : Instr), s.dev.st.active = true ∧ s.dev.grace = none ∧ s.host.hostGrace = 0
        ∧ c ∈ [.perstnAssert dt, .hotReset dt, .dlDown dt])
    ∧ (∃ (s : State) (dt : Nat) (c : Instr), s.dev.st ≠ .reset ∧ s.dev.st ≠ .standby ∧ s.dev.st.active = false
        ∧ c ∈ [.perstnAssert dt, .hotReset dt, .dlDown dt]) :=
  ⟨⟨w0, 1, .perstnAssert 1, by decide +kernel⟩,
   ⟨{ wSt .working w0 with host.hostGrace := 200 }, 1, .hotReset 1, by decide +kernel⟩,
   ⟨{ wSt .manual w0 with host.hostGrace := 0 }, 1, .dlDown 1, by decide +kernel⟩,
   ⟨wSt .safe w0, 1, .dlDown 1, by decide +kernel⟩⟩

/-- An SD9648 in STANDBY. -/
def wHalf : State := { w0 with dev.variant := 1 }

theorem met_absentOnVariant :
    wHalf.dev.variant ≠ 0
    ∧ (∃ mask : BitVec 96, ∃ ch ∈ bitsOf mask, 48 ≤ ch) ∧ (∃ quads : BitVec 4, ∃ q ∈ bitsOf quads, 2 ≤ q)
    ∧ (∃ g : Nat, 6 ≤ g)
    ∧ (∀ op ∈ [(0x28 : Byte), 0x44, 0x42, 0x40, 0x41, 0x43, 0x46, 0x45], Takes wHalf 1 op {})
    ∧ (∃ (s : State) (w : Waiting) (a : Activity) (bs : List Byte), s.dev.variant ≠ 0
        ∧ w.cmd = .maintStart 0 {} {} 0 1 0 ∧ w.op = 0x14 ∧ w.dma = true ∧ s.host.outstanding = [w] ∧ s.acts = [a]
        ∧ a.idx = w.idx ∧ a.code = 1 ∧ a.ready = false ∧ a.swept = [] ∧ (leAt bs 0 12).testBit 48 = true) :=
  ⟨by decide +kernel, ⟨BitVec.ofNat 96 (2 ^ 48), 48, by decide +kernel⟩, ⟨4, 2, by decide +kernel⟩, ⟨6, by decide⟩,
    by decide +kernel,
    ⟨{ wWait { cmd := .maintStart 0 {} {} 0 1 0, op := 0x14, dma := true } wHalf with acts := [{ code := 1, ready := false }] },
      { cmd := .maintStart 0 {} {} 0 1 0, op := 0x14, dma := true }, { code := 1, ready := false }, [0, 0, 0, 0, 0, 0, 1],
      by decide +kernel⟩⟩

theorem met_preferredAddress :
    ∃ s : State, s.cfg.vals.get? .prefAddr 0 = none ∧ s.dev.straps.getD 6 7 ≤ 7 := ⟨State.reset, by decide +kernel⟩

theorem met_transitionTable :
    (∃ (c : Instr) (s t : State), s.graceOk ∧ (∀ dt d, c ≠ .descriptorFetch dt d) ∧ exec c s = .next t
      ∧ t.dev.st ≠ s.dev.st)
    ∧ (∃ (s t : State) (dt : Nat) (f : Fetch), s.graceOk ∧ exec (.descriptorFetch dt f) s = .next t) :=
  ⟨⟨.hotReset 1, w0, _, by decide +kernel, (fun _ _ h => nomatch h), rfl, by decide +kernel⟩,
   ⟨w0, _, 1, {}, by decide +kernel, rfl⟩⟩

theorem met_graceKept : ∃ s t : State, s.graceOk ∧ s.dev.grace.isSome = true ∧ step s = .next t :=
  ⟨{ wSt .working w0 with dev.grace := some { start := 5, endsAt := 250000000 } }, _, by decide +kernel,
    by decide +kernel, rfl⟩

theorem met_tileMemoryKept : ∃ s t : State, s.tiles.mem ≠ [] ∧ Memory.wf s.tiles.mem = true ∧ step s = .next t :=
  ⟨{ w0 with tiles.mem := [(5, 1), (7, 3)] }, _, by decide +kernel, by decide +kernel, rfl⟩

theorem met_countersNeverFall :
    ∃ (c : Instr) (s t : State), exec c s = .next t ∧ t.dev.st ≠ .reset ∧ t.cnt ≠ s.cnt :=
  ⟨.doorbellReadComplete 1 { ok := false }, { w0 with host.sweeping := true }, _, rfl, by decide +kernel,
    by decide +kernel⟩

theorem met_faultSafesOutputs :
    ∃ (c : Instr) (s t : State), exec c s = .next t ∧ s.dev.st ≠ .fault ∧ t.dev.st = .fault :=
  ⟨.brownout 1 5999 24000 2500, wSt .working w0, _, rfl, by decide +kernel, by decide +kernel⟩

/-- RUN in STANDBY, and a valve sweep in WORKING. -/
theorem met_wrongStateAnswered :
    (∃ (s : State) (d : Desc), s.graceLasts 0 ∧ s.canTake (cmdHdr d).fence = true ∧ assigned (cmdField d 0 8) = true
      ∧ s.admits (cmdField d 0 8) = false)
    ∧ (∃ (s : State) (dt : Nat) (h : Hdr) (act : Byte), Takes s dt 0x14 h ∧ 1 ≤ act.toNat ∧ act.toNat ≤ 6
      ∧ s.dev.st.admitsAct act.toNat = false) :=
  ⟨⟨w0, 5, by decide +kernel⟩, ⟨wSt .working w0, 1, {}, 1, by decide +kernel⟩⟩

theorem met_completionRecord : ∃ s : State, s.served 1 = true ∧ 1 < s.host.rings.length := ⟨w0, by decide +kernel⟩

theorem met_encodingsAgree :
    (∃ i : SeqInstr, i.wf = true) ∧ (∃ (w : BitVec 24) (i : SeqInstr), decodeSeq w = some i) :=
  ⟨⟨.jc 8 511, by decide⟩, ⟨0x880000, .jc 8 0, by decide +kernel⟩⟩

end Sys2Proof.Tests
end

section
/-! The commands that name what the SD9648 lacks (R3). -/

namespace Sys2Proof.Machine

/-! ### A command that is taken and answered at once -/

theorem State.canTake_advance (s : State) (dt : Nat) (fence : Bool) : (s.advance dt).canTake fence = s.canTake fence := rfl

theorem State.admits_taken (s : State) (dt op : Nat) : (s.advance dt).taken.admits op = s.admits op := rfl

theorem State.graceFirst_of_graceLasts {s : State} {dt : Nat} (hl : s.graceLasts dt) :
    (s.advance dt).graceFirst = s.advance dt := by
  refine State.graceFirst_eq _ fun g hg => ?_
  have hg' : s.dev.grace = some g := by simpa using hg
  simpa [State.graceLasts, hg'] using hl

/-- A command that can be taken, and whose body answers at once, completes from the state that the body leaves (R360). -/
theorem State.command_of_done {s u : State} {dt : Nat} {op : Byte} {cmd : Instr} {h : Hdr} {body : State → Verdict}
    {st : Status} {res : BitVec 128} (ht : Takes s dt op h) (hb : body (s.advance dt).taken = .done st res u) :
    s.command dt op cmd h body = u.complete op h (s.ring 0).mod st res := by
  obtain ⟨hl, hc, ha⟩ := ht
  have hg := State.graceFirst_of_graceLasts hl
  rw [State.command_taken _ _ _ _ _ _ (by rw [hg, State.canTake_advance, hc]), hg]
  obtain ⟨t, rfl, hno | ⟨-, st', res', u', hb', htake⟩ | ⟨-, dma, aux, u', hb', -⟩⟩ :=
    State.take_cases (s.advance dt) op cmd h body
  · have hno' : (s.advance dt).taken.admits op.toNat = false := hno.1
    simp [State.admits_taken, ha] at hno'
  · cases hb.symm.trans hb'
    exact htake
  · cases hb.symm.trans hb'

theorem answers_of_done {s u : State} {dt : Nat} {op : Byte} {c : Instr} {h : Hdr} {body : State → Verdict}
    {st : Status} {res : BitVec 128} {P : State → Prop} (hx : exec c s = .next (s.command dt op c h body))
    (ht : Takes s dt op h) (hb : body (s.advance dt).taken = .done st res u) (hP : P u) : Answers c op h s st res P :=
  ⟨u, by rw [hx, State.command_of_done ht hb], hP⟩

/-! ### What the SD9648 lacks (R1 to R3) -/

/-- What does not exist is NO_RESOURCE before the content, a holder or the state are looked at (R374). -/
theorem checks_not_exists {e : Bool} (he : e = false) (s : State) (content : Bool) (holder : Option (BitVec 16))
    (allowed : Option Status) (k : Verdict) : checks s e content holder allowed k = .done .noResource 0 s := by
  simp [checks, he]

section Absent

variable {s : State} (hv : s.dev.variant ≠ 0)
include hv

theorem State.nCh_sd9648 : s.nCh = 48 := if_neg hv

theorem State.nGrp_sd9648 : s.nGrp = 6 := if_neg hv

theorem State.nQuad_sd9648 : s.nQuad = 2 := if_neg hv

theorem State.inUse_absent {ch : Nat} (hc : 48 ≤ ch) : s.inUse ch = false := by
  have : ¬ ch < s.nCh := by rw [State.nCh_sd9648 hv]; omega
  simp [State.inUse, this]

theorem State.fitted_absent {chs : List Nat} (hc : ∃ ch ∈ chs, 48 ≤ ch) : s.fitted chs = false := by
  simpa [State.fitted, State.nCh_sd9648 hv] using hc

theorem State.all_inUse_absent {chs : List Nat} (hc : ∃ ch ∈ chs, 48 ≤ ch) : chs.all s.inUse = false := by
  obtain ⟨ch, hmem, hge⟩ := hc
  exact List.all_eq_false.2 ⟨ch, hmem, by simp [State.inUse_absent hv hge]⟩

theorem State.quads_absent {qs : List Nat} (hq : ∃ q ∈ qs, 2 ≤ q) : qs.all (· < s.nQuad) = false := by
  obtain ⟨q, hmem, hge⟩ := hq
  exact List.all_eq_false.2 ⟨q, hmem, by simp [State.nQuad_sd9648 hv, Nat.not_lt.2 hge]⟩

theorem State.group_absent {g : Nat} (hg : 6 ≤ g) : decide (g < s.nGrp) = false := by
  simpa [State.nGrp_sd9648 hv] using hg

theorem State.namedOk_absent {g : Nat} (hg : 6 ≤ g) (mask : BitVec 8) : s.namedOk g mask = false := by
  rw [State.namedOk, State.group_absent hv hg, Bool.false_and]

/-! What each command's body answers where it names something absent. -/

theorem cmdPlanStatus_absent {mask : BitVec 96} (hc : ∃ ch ∈ bitsOf mask, 48 ≤ ch) (h : Hdr) (rep : Ref) :
    cmdPlanStatus h rep mask s = .done .noResource 0 s := checks_not_exists (State.fitted_absent hv hc) ..

theorem cmdSeqStatus_absent {mask : BitVec 96} (hc : ∃ ch ∈ bitsOf mask, 48 ≤ ch) (h : Hdr) (rep : Ref) :
    cmdSeqStatus h rep mask s = .done .noResource 0 s := checks_not_exists (State.fitted_absent hv hc) ..

theorem cmdValveDelayReset_absent {mask : BitVec 96} (hc : ∃ ch ∈ bitsOf mask, 48 ≤ ch) (h : Hdr) :
    cmdValveDelayReset h mask s = .done .noResource 0 s := checks_not_exists (State.all_inUse_absent hv hc) ..

theorem cmdValveStatus_absent {mask : BitVec 96} {quads : BitVec 4}
    (hcq : (∃ ch ∈ bitsOf mask, 48 ≤ ch) ∨ ∃ q ∈ bitsOf quads, 2 ≤ q) (h : Hdr) (rep : Ref) :
    cmdValveStatus h rep mask quads s = .done .noResource 0 s := by
  have he : (s.fitted (bitsOf mask) && (bitsOf quads).all (· < s.nQuad)) = false := by
    rcases hcq with hc | hq
    · rw [State.fitted_absent hv hc, Bool.false_and]
    · rw [State.quads_absent hv hq, Bool.and_false]
  rw [cmdValveStatus, checks_not_exists he]

section Group

variable {g : Nat} (hg : 6 ≤ g)
include hg

theorem cmdValveClear_absent (h : Hdr) (mask : BitVec 8) : cmdValveClear h g mask s = .done .noResource 0 s :=
  checks_not_exists (State.namedOk_absent hv hg mask) ..

theorem cmdValveDiagNow_absent (h : Hdr) (mask : BitVec 8) : cmdValveDiagNow h g mask s = .done .noResource 0 s :=
  checks_not_exists (State.namedOk_absent hv hg mask) ..

theorem cmdSeqSetK_absent (mask : BitVec 8) (which en : BitVec 4) (ks : List (BitVec 16)) :
    cmdSeqSetK g mask which en ks s = .done .noResource 0 s := checks_not_exists (State.namedOk_absent hv hg mask) ..

theorem cmdSeqRead_absent (addr : DWord) (headers : Bool) (first words : Nat) :
    cmdSeqRead addr g headers first words s = .done .noResource 0 s := by
  rw [cmdSeqRead, checks_not_exists (State.group_absent hv hg)]

end Group

end Absent

/-! ### A valve sweep's parameter block (R382) -/

theorem slice_succ (bs : List Byte) (off k : Nat) : slice bs off (k + 1) = bs.getD off 0 :: slice bs (off + 1) k := by
  rcases Nat.lt_or_ge off bs.length with hlt | hge
  · rw [slice, slice, List.drop_eq_getElem_cons hlt, List.getD_eq_getElem bs 0 hlt]
    simp only [List.take_succ_cons, List.cons_append, List.length_cons, Nat.add_sub_add_right]
  · have hnil := List.drop_eq_nil_of_le hge
    have hnil' := List.drop_eq_nil_of_le (Nat.le_succ_of_le hge)
    simp [slice, hnil, hnil', hge, List.replicate_succ]

@[simp] theorem leAt_zero (bs : List Byte) (off : Nat) : leAt bs off 0 = 0 := by simp [leAt, slice, ofLe]

theorem leAt_succ (bs : List Byte) (off k : Nat) :
    leAt bs off (k + 1) = (bs.getD off 0).toNat + 256 * leAt bs (off + 1) k := by
  rw [leAt, slice_succ, ofLe, leAt]

/-- A number's low bytes, and its high bytes above them. -/
theorem leAt_add (bs : List Byte) (off j k : Nat) :
    leAt bs off (j + k) = leAt bs off j + 256 ^ j * leAt bs (off + j) k := by
  induction j generalizing off with
  | zero => simp
  | succ j ih =>
    rw [Nat.add_right_comm, leAt_succ, leAt_succ, ih, Nat.add_right_comm off 1 j, Nat.pow_succ, Nat.add_assoc off j 1]
    ring

/-- The three mask words of a sweep are the block's first twelve bytes. -/
theorem leAt_twelve (bs : List Byte) :
    leAt bs 0 12 = leAt bs 0 4 + 2 ^ 32 * leAt bs 4 4 + 2 ^ 64 * leAt bs 8 4 := by
  rw [leAt_add bs 0 4 8, leAt_add bs 4 4 4]
  ring

theorem mem_bitsOf_ofNat {w n k : Nat} (hk : k < w) (hb : n.testBit k = true) : k ∈ bitsOf (BitVec.ofNat w n) := by
  simp [bitsOf, BitVec.getLsbD_ofNat, hk, hb]

/-- A sweep whose mask names a channel not in use ends NO_RESOURCE. -/
theorem State.sweepParams_not_inUse {s : State} {bs : List Byte} {k : Nat} (a : Activity) (hk : k < 96)
    (hb : (leAt bs 0 12).testBit k = true) (hu : s.inUse k = false) :
    s.sweepParams a bs = s.maintEnd a .noResource 0 [] := by
  have hmem := mem_bitsOf_ofNat hk hb
  rw [leAt_twelve] at hmem
  have hall : (bitsOf (BitVec.ofNat 96 (leAt bs 0 4 + 2 ^ 32 * leAt bs 4 4 + 2 ^ 64 * leAt bs 8 4))).all s.inUse = false :=
    List.all_eq_false.2 ⟨k, hmem, by simp [hu]⟩
  exact if_pos (by simpa [paramWords, List.range_succ] using hall)

/-! ### The end of an activity whose parameter block was refused -/

/-- A sweep that has not begun holds no channel: only its claim ends. -/
theorem State.endActivity_unread (s : State) {a : Activity} (hc : a.code = 1) (hr : a.ready = false) (hs : a.swept = []) :
    s.endActivity a = { s with acts := s.acts.filter (fun x => !(x == a)) } := by
  simp [State.endActivity, hc, hr, hs, State.each]

theorem State.maintEnd_unread {s : State} {a : Activity} {w : Waiting} (hc : a.code = 1) (hr : a.ready = false)
    (hs : a.swept = []) (hw : s.maintCmd a = some w) (st : Status) (reason : Nat) :
    s.maintEnd a st reason []
      = ({ s with acts := s.acts.filter (fun x => !(x == a)) } : State).finish w st (maintRes reason []) := by
  have hw' : ({ s with acts := s.acts.filter (fun x => !(x == a)) } : State).maintCmd a = some w := hw
  simp [State.maintEnd, State.endActivity_unread s hc hr hs, hw']

@[simp] theorem Waiting.same_self (w : Waiting) : w.same w = true := by simp [Waiting.same]

/-- The buffer of `w` has been read: it waits for no DMA any more. -/
abbrev State.bufferArrived (s : State) (w : Waiting) : State := s.updWaiting w (fun x => { x with dma := false })

/-- That a command has its buffer makes no difference to its completion. -/
theorem State.finish_bufferArrived {s : State} {w : Waiting} (ho : s.host.outstanding = [w]) (st : Status)
    (res : BitVec 128) :
    (s.bufferArrived w).finish { w with dma := false } st res = s.finish w st res := by
  simp [State.finish, State.finishAt, State.updWaiting, ho, Waiting.same, State.now]

theorem State.maintCmd_bufferArrived {s : State} {w : Waiting} {a : Activity} (ho : s.host.outstanding = [w])
    (hop : w.op = 0x14) (hi : a.idx = w.idx) :
    (s.bufferArrived w).maintCmd a = some { w with dma := false } := by
  simp [State.maintCmd, State.waitingFor, State.updWaiting, ho, hop, hi]

/-- On the SD9648 the parameter block of the one sweep, where its mask names an absent channel, ends it (R3, R382). -/
theorem State.maintParams_absent {s : State} {w : Waiting} {a : Activity} {bs : List Byte} {k : Nat}
    (hv : s.dev.variant ≠ 0) (hop : w.op = 0x14) (ho : s.host.outstanding = [w]) (ha : s.acts = [a]) (hi : a.idx = w.idx)
    (hc : a.code = 1) (hr : a.ready = false) (hs : a.swept = []) (hk : 48 ≤ k) (hk' : k < 96)
    (hb : (leAt bs 0 12).testBit k = true) :
    s.maintParams w (some bs) = ({ s with acts := [] } : State).finish w .noResource 0 := by
  have hfind : s.acts.find? (fun x => x.idx = w.idx && !x.ready) = some a := by simp [ha, hi, hr]
  have hcmd := State.maintCmd_bufferArrived ho hop hi
  have hacts : (s.bufferArrived w).acts.filter (fun x => !(x == a)) = [] := by simp [ha]
  have hu : (s.bufferArrived w).inUse k = false := State.inUse_absent (s := s.bufferArrived w) hv hk
  calc s.maintParams w (some bs)
      = (s.bufferArrived w).sweepParams a bs := by simp [State.maintParams, hfind, hc]
    _ = (s.bufferArrived w).maintEnd a .noResource 0 [] := State.sweepParams_not_inUse a hk' hb hu
    _ = ({ s.bufferArrived w with acts := [] } : State).finish { w with dma := false } .noResource 0 := by
        rw [State.maintEnd_unread hc hr hs hcmd, hacts]; rfl
    _ = ({ s with acts := [] } : State).finish w .noResource 0 :=
        State.finish_bufferArrived (s := { s with acts := [] }) ho _ _

/-- HOST_BUFFER_READ hands a block to the MAINT_START that waits for it (R357). -/
theorem execHostBufferRead_maintStart {s : State} {w : Waiting} {dt i d loop : Nat} {h : Hdr} {param : Ref}
    {result : DWord} {act : Byte} (bs : List Byte) (hcmd : w.cmd = .maintStart d h param result act loop)
    (hd : w.dma = true) (hi : w.idx.toNat = i) (ho : s.host.outstanding = [w]) :
    exec (.hostBufferRead dt i (some bs)) s = .next ((s.advance dt).maintParams w (some bs)) := by
  have hfind : s.host.outstanding.find? (fun x => x.idx.toNat = i && x.dma) = some w := by simp [ho, hi, hd]
  show execHostBufferRead dt i (some bs) s = _
  simp [execHostBufferRead, hfind, State.bufferRead, hcmd]

/-- A command whose body finds what it names absent is taken, answers NO_RESOURCE and does nothing else. -/
theorem refused_of_noResource {s : State} {dt : Nat} {op : Byte} {c : Instr} {h : Hdr} {body : State → Verdict}
    (hx : exec c s = .next (s.command dt op c h body))
    (hb : body (s.advance dt).taken = .done .noResource 0 (s.advance dt).taken) (ht : Takes s dt op h) :
    Answers c op h s .noResource 0 (fun v => v = (s.advance dt).taken) :=
  answers_of_done hx ht hb rfl

/-- Settles O49: the existence check (check 3 of R374) fails on what the SD9648 lacks, before anything else is looked
at; a sweep's mask fails the same check once its block has been read. -/
theorem absentOnVariant : Obligations.AbsentOnVariant := by
  intro s dt h hv
  have hv' : (s.advance dt).taken.dev.variant ≠ 0 := hv
  refine ⟨?channels, ?quadrants, ?groups, ?sweep⟩
  case channels =>
    exact fun rep mask hc => ⟨refused_of_noResource rfl (cmdPlanStatus_absent hv' hc h rep),
      refused_of_noResource rfl (cmdSeqStatus_absent hv' hc h rep),
      refused_of_noResource rfl (cmdValveDelayReset_absent hv' hc h),
      fun _ => refused_of_noResource rfl (cmdValveStatus_absent hv' (.inl hc) h rep)⟩
  case quadrants =>
    exact fun rep _ _ hq => refused_of_noResource rfl (cmdValveStatus_absent hv' (.inr hq) h rep)
  case groups =>
    exact fun g mask hg => ⟨refused_of_noResource rfl (cmdValveClear_absent hv' hg h mask),
      refused_of_noResource rfl (cmdValveDiagNow_absent hv' hg h mask),
      fun which en ks => refused_of_noResource rfl (cmdSeqSetK_absent hv' hg mask which en ks),
      fun addr headers first words => refused_of_noResource rfl (cmdSeqRead_absent hv' hg addr headers first words)⟩
  case sweep =>
    intro i k bs w a d loop param result act hcmd hop hd ho hi ha hidx hc hr hs hk hk' hb
    exact ⟨_, execHostBufferRead_maintStart bs hcmd hd hi ho,
      State.maintParams_absent hv hop ho ha hidx hc hr hs hk hk' hb⟩

end Sys2Proof.Machine
end

section
/-! Clocks and replicas of MT: class 5, and the correction at a mark (R12 to R16, R28, R29). -/

namespace Sys2Proof.Machine

/-! ### A class that asks for a reset (R446) -/

/-- FAULT is read off the device state and the two lanes alone. -/
theorem InFault.of_same {c : FCause} {lane : Nat} {t u : State} (h : InFault c lane t) (hd : u.dev = t.dev)
    (ha : u.sag.a = t.sag.a) (hb : u.sag.b = t.sag.b) : InFault c lane u := by
  simpa only [InFault, Sag.inLane, hd, ha, hb] using h

theorem State.resetClass_inFault {s : State} {k : Nat} (lane : Nat) (hs : s.dev.st.booted) (hk : k < 15) :
    InFault (.cls k) lane (s.resetClass k lane) :=
  (State.moduleWide_inFault s (.cls k) lane hs hk).of_same rfl rfl rfl

theorem State.resetClass_resetPending (s : State) (k lane : Nat) : (s.resetClass k lane).sag.resetPending ≠ none := by
  simp only [State.resetClass, State.updSag_sag]
  split <;> exact Option.some_ne_none _

@[simp] theorem State.detectRec_refBad (s : State) (k lane : Nat) : (s.detectRec k lane).sag.refBad = s.sag.refBad := by
  simp only [State.detectRec, State.raise_keeps]
  rfl

@[simp] theorem State.moduleWide_refBad (s : State) (c : FCause) (lane : Nat) :
    (s.moduleWide c lane).sag.refBad = s.sag.refBad := by
  simp only [State.moduleWide, State.toFault_sag, State.addCause_keeps]
  split
  · rfl
  · split <;> simp only [State.updSag_sag, State.detectRec_refBad] <;> rfl

theorem State.resetClass_refBad (s : State) (k lane : Nat) : (s.resetClass k lane).sag.refBad = s.sag.refBad :=
  State.moduleWide_refBad s (.cls k) lane

/-! ### Class 5 (R28, R29, R445) -/

theorem State.supervised_of_booted {s : State} (hs : s.dev.st.booted) : s.supervised = true := bne_iff_ne.2 hs.1

theorem State.clockFault_of_booted {s : State} (lane : Nat) (hs : s.dev.st.booted) :
    s.clockFault lane = s.resetClass 5 lane := if_pos (State.supervised_of_booted hs)

theorem State.clockFault_inFault {s : State} (lane : Nat) (hs : s.dev.st.booted) :
    InFault (.cls 5) lane (s.clockFault lane) := by
  rw [State.clockFault_of_booted lane hs]
  exact State.resetClass_inFault lane hs (by decide)

theorem State.clockFault_resetPending {s : State} (lane : Nat) (hs : s.dev.st.booted) :
    (s.clockFault lane).sag.resetPending ≠ none := by
  rw [State.clockFault_of_booted lane hs]
  exact State.resetClass_resetPending s 5 lane

theorem State.refLost_of_booted {s : State} (hs : s.dev.st.booted) :
    s.refLost = (s.updSag (fun g => { g with refBad := true })).resetClass 5 2 :=
  if_pos (State.supervised_of_booted hs)

/-- The stages of an island turn off, but what Saggar and the device state hold stays (R28). -/
@[simp] theorem State.stagesOff_keeps (s : State) (isl : Island) :
    (s.stagesOff isl).dev = s.dev ∧ (s.stagesOff isl).sag = s.sag := by
  cases isl <;> simp [State.stagesOff]

theorem execIslandClockStop_real {s : State} {dt : Nat} {isl : Island} (hreal : isl.real = true) :
    exec (.islandClockStop dt isl) s
      = .next ((((s.advance dt).clockFault (watcher isl)).stagesOff isl).mtStops isl) := by
  show execIslandClockStop dt isl s = _
  simp only [execIslandClockStop, hreal, if_true]

/-! ### The time mark (R14, R15) -/

/-- While MT runs, `dt` ticks take it `dt` on. -/
theorem State.advance_mt {s : State} (hr : s.time.running = true) (dt : Nat) : (s.advance dt).time.mt = s.time.mt + dt :=
  if_pos hr

/-- MT runs and stands at a multiple of 1,024: the mark is taken. -/
theorem execTimeMark_due {s : State} {dt : Nat} (diffs : List Int) (hr : s.time.running = true)
    (hm : (s.time.mt + dt) % 1024 = 0) : exec (.timeMark dt diffs) s = .next ((s.advance dt).timeMark diffs) := by
  have hdue : ((s.advance dt).time.running && decide ((s.advance dt).now % 1024 = 0)) = true := by
    simp [State.now, State.advance_mt hr, hr, hm]
  show execTimeMark dt diffs s = _
  simp only [execTimeMark, hdue, if_true]

/-- How far each replica is from the mark, the master's own (island 3) being the mark itself. -/
def markDiffs (diffs : List Int) : List Int := (List.range 22).map (fun i => if i = 3 then 0 else diffs.getD i 0)

theorem mem_markDiffs {diffs : List Int} {d : Int} :
    d ∈ markDiffs diffs ↔ ∃ i < 22, (if i = 3 then 0 else diffs.getD i 0) = d := by
  simp [markDiffs]

/-- The replicas after a mark: each corrected by its own difference, and no mark missing any more. -/
def State.marked (s : State) (diffs : List Int) : State :=
  s.updTime (fun t => { t with replicas := (markDiffs diffs).zipIdx.map (fun p => markFix p.2 p.1),
                               missed := List.replicate 22 0 })

/-- A mark corrects the replicas, and where one was more than two ticks off it is class 5 too. -/
theorem State.timeMark_eq (s : State) (diffs : List Int) :
    s.timeMark diffs = if (markDiffs diffs).any (fun d => decide (2 < d) || decide (d < -2))
      then (s.marked diffs).clockFault 2 else s.marked diffs := rfl

theorem State.marked_replica (s : State) (diffs : List Int) {i : Nat} (hi : i < 22) :
    (s.marked diffs).time.replicas.getD i 0 = if i = 3 then 0 else markFix i (diffs.getD i 0) := by
  have hfix : (s.marked diffs).time.replicas.getD i 0 = markFix i (if i = 3 then 0 else diffs.getD i 0) := by
    simp [State.marked, markDiffs, hi]
  rw [hfix]
  split
  case isTrue h3 => rw [h3]; decide
  case isFalse => rfl

theorem getD_bounded {diffs : List Int} (hb : ∀ d ∈ diffs, -2 ≤ d ∧ d ≤ 2) (i : Nat) :
    -2 ≤ diffs.getD i 0 ∧ diffs.getD i 0 ≤ 2 := by
  rcases Nat.lt_or_ge i diffs.length with hlt | hge
  · rw [List.getD_eq_getElem _ _ hlt]
    exact hb _ (List.getElem_mem hlt)
  · rw [List.getD_eq_default _ _ hge]
    decide

/-- No replica more than two ticks off: the mark only corrects. -/
theorem State.timeMark_of_bounded (s : State) {diffs : List Int} (hb : ∀ d ∈ diffs, -2 ≤ d ∧ d ≤ 2) :
    s.timeMark diffs = s.marked diffs := by
  rw [State.timeMark_eq, if_neg]
  rw [List.any_eq_true]
  rintro ⟨d, hd, hfar⟩
  obtain ⟨i, -, rfl⟩ := mem_markDiffs.1 hd
  have := getD_bounded hb i
  simp only [Bool.or_eq_true, decide_eq_true_eq] at hfar
  split at hfar <;> omega

/-- A replica more than two ticks off is class 5. -/
theorem State.timeMark_of_far (s : State) {diffs : List Int} {i : Nat} (hi : i < 22) (h3 : i ≠ 3)
    (hfar : 2 < diffs.getD i 0 ∨ diffs.getD i 0 < -2) : s.timeMark diffs = (s.marked diffs).clockFault 2 := by
  rw [State.timeMark_eq, if_pos]
  exact List.any_eq_true.2 ⟨_, mem_markDiffs.2 ⟨i, hi, if_neg h3⟩, by simpa using hfar⟩

/-- The fourth missing mark of an island other than the master's is a fault of its clock. -/
theorem execTimeMarkMissing_real {s : State} {dt : Nat} {isl : Island} (hw : isl ≠ .wheel) (hreal : isl.real = true) :
    exec (.timeMarkMissing dt isl) s
      = .next (((s.advance dt).updTime (fun t => { t with missed := t.missed.set (islandIdx isl) 4 })).clockFault
          (watcher isl)) := by
  show execTimeMarkMissing dt isl s = _
  simp [execTimeMarkMissing, hw, hreal]

/-! ### The obligation -/

/-- Settles O7: each clause is class 5 by `clockFault` or the corrected replicas of `marked`; what follows a stopped
clock (stages off, MT stopped) touches neither FAULT nor the reset asked for. -/
theorem clockRows : Obligations.ClockRows := by
  refine ⟨?refclk, ?stop, ?mark, ?far, ?missing⟩
  case refclk =>
    intro s dt hs
    refine ⟨_, rfl, ?_⟩
    rw [State.refLost_of_booted (s := s.advance dt) hs]
    exact ⟨State.resetClass_inFault 2 hs (by decide), State.resetClass_refBad _ _ _, State.resetClass_resetPending _ _ _⟩
  case stop =>
    intro s dt isl hs hreal
    refine ⟨_, execIslandClockStop_real hreal, ?_, ?_⟩
    · exact (State.clockFault_inFault (s := s.advance dt) (watcher isl) hs).of_same (by simp) (by simp) (by simp)
    · simpa using State.clockFault_resetPending (s := s.advance dt) (watcher isl) hs
  case mark =>
    intro s dt diffs hr hm hb
    refine ⟨_, execTimeMark_due diffs hr hm, ?_⟩
    rw [State.timeMark_of_bounded _ hb]
    exact ⟨rfl, State.advance_mt hr dt, rfl, fun i hi => State.marked_replica _ diffs hi⟩
  case far =>
    intro s dt diffs i hs hr hm hi h3 hfar
    refine ⟨_, execTimeMark_due diffs hr hm, ?_⟩
    rw [State.timeMark_of_far _ hi h3 hfar]
    exact State.clockFault_inFault (s := (s.advance dt).marked diffs) 2 hs
  case missing =>
    intro s dt isl hs hw hreal
    exact ⟨_, execTimeMarkMissing_real hw hreal, State.clockFault_inFault _ hs, State.clockFault_resetPending _ hs⟩

end Sys2Proof.Machine
end

section
/-! An edge dropped for a latched channel under a valve sweep (R209, R414). -/

namespace Sys2Proof.Machine

/-! ### The sweep's next actuation (R414) -/

/-- An actuation is an ON and an OFF more on the wheel. -/
theorem State.sweepPlace_wheel_length (s : State) (ch t : Nat) :
    (s.sweepPlace ch t).planner.wheel.length = s.planner.wheel.length + 2 := by
  simp [State.sweepPlace]

/-- A sweep that has an actuation to come in the group places it. -/
theorem State.sweepNext_wheel_length {s : State} {g : Nat} (t : Nat)
    (hx : ∃ x ∈ s.acts.flatMap (·.swept), grpOf x.ch = g ∧ 0 < x.left) :
    (s.sweepNext g t).planner.wheel.length = s.planner.wheel.length + 2 := by
  unfold State.sweepNext
  split
  next => exact State.sweepPlace_wheel_length ..
  next hnone =>
    obtain ⟨x, hmem, hg, hleft⟩ := hx
    exact absurd (List.find?_eq_none.1 hnone x hmem) (by simp [hg, hleft])

/-- The OFF of a channel that a sweep drives, with an actuation to come in its group, brings that one onto the wheel. -/
theorem State.sweepAfter_wheel_length {s : State} {e : Edge} (hs : s.sweeping e.ch = true) (hoff : e.on = false)
    (hx : ∃ x ∈ s.acts.flatMap (·.swept), grpOf x.ch = grpOf e.ch ∧ 0 < x.left) :
    (s.sweepAfter e).planner.wheel.length = s.planner.wheel.length + 2 := by
  rw [State.sweepAfter, if_pos (by simp [hs, hoff])]
  exact State.sweepNext_wheel_length _ hx

/-- The dropped OFF of a latched channel under a sweep brings the sweep's next actuation onto the wheel (R209, R414). -/
theorem State.cross_latched_swept_wheel_length {s : State} {e : Edge} (hl : (s.chan e.ch).latched = true)
    (hs : s.sweeping e.ch = true) (hoff : e.on = false)
    (hx : ∃ x ∈ s.acts.flatMap (·.swept), grpOf x.ch = grpOf e.ch ∧ 0 < x.left) :
    (s.cross e).planner.wheel.length = (s.planner.wheel.erase e).length + 2 := by
  rw [State.cross, if_pos hl]
  exact State.sweepAfter_wheel_length hs hoff hx

/-- The one edge of the wheel, due within 4,096 ticks, crosses (R22). -/
theorem State.handover_single {s : State} {e : Edge} (hw : s.planner.wheel = [e]) (hdue : e.due ≤ s.now + 4096) :
    s.handover e.ch = s.cross e := by
  simp [State.handover, hw, firstEdge, State.each, Nat.not_lt.2 hdue]

/-! ### The obligation -/

/-- The OFF of channel 0, due at once. -/
def latchedOff : Edge := { ch := 0, on := false }

/-- A valve sweep with one more actuation of channel 0 to come: the channel has latched since its ON, and its OFF is
the one edge on the wheel. -/
def latchedUnderSweep : State :=
  { acts := [{ code := 1, swept := [{ ch := 0, left := 1 }] }]
    planner := { wheel := [latchedOff] }
    valves := { ch := { latched := true, finding := 1, ctx := { st := .latched } } :: List.replicate 95 {} } }

/-- Refutes O30: for a latched channel the statement says that the wheel only loses the dropped edge, and leaves out
the valve sweep.  In `latchedUnderSweep` the drop of the OFF also places the sweep's next ON and OFF (R414), so that
the wheel holds two edges and not none. -/
theorem not_edgeRows : ¬ Obligations.EdgeRows := by
  rintro ⟨-, hdropped, -⟩
  have hwheel : latchedUnderSweep.planner.wheel = [latchedOff] := rfl
  have htocome : ∃ x ∈ latchedUnderSweep.acts.flatMap (·.swept), grpOf x.ch = grpOf latchedOff.ch ∧ 0 < x.left :=
    ⟨{ ch := 0, left := 1 }, by simp [latchedUnderSweep], rfl, by decide⟩
  have hlength : (latchedUnderSweep.handover latchedOff.ch).planner.wheel.length = 2 := by
    rw [State.handover_single hwheel (Nat.zero_le _), State.cross_latched_swept_wheel_length rfl rfl rfl htocome, hwheel]
    simp
  obtain ⟨t, ht, hplanner, -⟩ := hdropped latchedUnderSweep 0 latchedOff.ch latchedOff ⟨by decide, by decide⟩ rfl
    (by simp [hwheel]) (Nat.zero_le _) rfl
  have hrow : exec (.edgeHandover 0 latchedOff.ch) latchedUnderSweep = .next (latchedUnderSweep.handover latchedOff.ch) := by
    show execEdgeHandover 0 latchedOff.ch _ = _
    rw [execEdgeHandover, State.advance_zero]
  rw [← Host.Outcome.next.inj (ht.symm.trans hrow), hplanner, hwheel] at hlength
  simp at hlength

end Sys2Proof.Machine
end

section
/-! What the meaning of a row does to the device part of the state: first the rows that leave it as it was. -/

namespace Sys2Proof.Machine

/-! ### The device part kept by an outcome -/

/-- Whatever next state the outcome gives has the device part of `s`. -/
def Out.KeepsDev (s : State) (o : Out) : Prop := ∀ t, o = .next t → t.dev = s.dev

@[simp] theorem Out.keepsDev_next (s t : State) : Out.KeepsDev s (.next t) ↔ t.dev = s.dev :=
  ⟨fun h => h t rfl, fun h _ ht => Host.Outcome.next.inj ht ▸ h⟩

/-! ### Operations whose frame stops short of the device part -/

@[simp] theorem State.imuMiss_dev (s : State) : s.imuMiss.dev = s.dev := by
  simp [State.imuMiss]

@[simp] theorem State.imuInstant_dev (s : State) (m wait : Nat) : (s.imuInstant m wait).dev = s.dev := by
  simp [State.imuInstant]

@[simp] theorem State.imuGood_dev (s : State) (p : ImuProfile) (m : Nat) (fr : List Byte) :
    (s.imuGood p m fr).dev = s.dev := by
  simp [State.imuGood]

@[simp] theorem State.setOrigin_dev (s : State) (w : Waiting) (lat lon height : Word) :
    (s.setOrigin w lat lon height).dev = s.dev := by
  simp [State.setOrigin]

@[simp] theorem State.originDone_dev (s : State) : s.originDone.dev = s.dev := by
  unfold State.originDone
  (repeat' split) <;> simp

@[simp] theorem State.selfTestDone_dev (s : State) (engines : BitVec 16) (chans : BitVec 128) :
    (s.selfTestDone engines chans).dev = s.dev := by
  unfold State.selfTestDone
  (repeat' split) <;> simp

@[simp] theorem State.takeCm_dev (s : State) (b : Nat) (etp : Bool) (sa da : Nat) (d : List Byte) (sof : Nat) :
    (s.takeCm b etp sa da d sof).dev = s.dev := by
  unfold State.takeCm
  dsimp only
  (repeat' split) <;> simp

@[simp] theorem State.isoFrame_dev (s : State) (b : Nat) (f : CanFrame) (sof : Nat) :
    (s.isoFrame b f sof).dev = s.dev := by
  unfold State.isoFrame
  extract_lets
  split
  · rfl
  · (repeat' split) <;> simp +zetaDelta

@[simp] theorem State.relaySample_dev (s : State) (n : Nat) (ps : List Int) : (s.relaySample n ps).dev = s.dev := by
  unfold State.relaySample
  dsimp only
  (repeat' split) <;> simp

@[simp] theorem State.loopSample_dev (s : State) (n : Nat) : (s.loopSample n).dev = s.dev := by
  unfold State.loopSample
  split
  · simp only [State.recordTraces_keeps, State.updLoop_keeps, State.ite_dev]
    (repeat' split) <;> simp
  · rfl

@[simp] theorem State.fuse_dev (s : State) (o : FusObs) : (s.fuse o).dev = s.dev := by
  have hold : ∀ (t : State) (i : Nat), (match t.spdKind i with
      | .iso k => t.holdSlot (t.cfgN .speedBus) (t.isoSlot k)
      | _ => t).dev = t.dev := fun t i => by split <;> simp
  unfold State.fuse
  dsimp only
  (repeat' split) <;> simp
  all_goals exact (State.each_dev _ _ _ hold).trans (by simp)

@[simp] theorem State.applyHeld_dev (s : State) (tx ty : Int) : (s.applyHeld tx ty).dev = s.dev := by
  unfold State.applyHeld
  rw [State.each_dev _ _ _ fun u m => by split <;> simp]
  simp

@[simp] theorem State.recordRead_dev (s : State) (p : TPlaced) (data : Option (List Byte)) :
    (s.recordRead p data).dev = s.dev := by
  unfold State.recordRead
  dsimp only
  (repeat' split) <;> simp

@[simp] theorem State.tileRead_dev (s : State) (slot : Nat) (data : Option (List Byte)) :
    (s.tileRead slot data).dev = s.dev := by
  unfold State.tileRead
  split
  · simp
  · rfl

@[simp] theorem State.tileRetry_dev (s : State) (slot : Nat) : (s.tileRetry slot).dev = s.dev := by
  have hretry : ∀ (ws : List (Int × Int × Nat)) (t : State), (ws.foldl State.retryTile t).dev = t.dev :=
    fun ws t => State.each_dev t ws State.retryTile (fun u w => by
      unfold State.retryTile
      split <;> simp)
  unfold State.tileRetry
  dsimp only
  rw [hretry]
  split <;> simp


theorem State.filterSet_dev {s t : State} {b n : Nat} {bs : List Byte} (h : s.filterSet b n bs = some t) :
    t.dev = s.dev := by
  unfold State.filterSet at h
  dsimp only at h
  split at h
  · cases h
  · rw [← Option.some.inj h]
    simp

@[simp] theorem State.bufferRead_dev (s : State) (w : Waiting) (bs : List Byte) : (s.bufferRead w bs).dev = s.dev := by
  unfold State.bufferRead
  split
  case h_5 =>
    split
    next hset => simp [State.filterSet_dev hset]
    next => simp
  all_goals simp

/-- A sequencer's instruction keeps the device part where its own effect does (R230). -/
theorem State.seqRun_dev (s : State) (ch : Nat) (par : Bool) {act : State → Nat → SeqInstr → Option State}
    (ha : ∀ b i, ((act s b i).getD s).dev = s.dev) : (s.seqRun ch par act).dev = s.dev := by
  unfold State.seqRun
  dsimp only
  (repeat' split) <;> simp [ha]

theorem Out.keepsDev_seqRun {s : State} {dt ch : Nat} {par : Bool} {act : State → Nat → SeqInstr → Option State}
    (ha : ∀ b i, ((act (s.advance dt) b i).getD (s.advance dt)).dev = (s.advance dt).dev) :
    Out.KeepsDev s (.next ((s.advance dt).seqRun ch par act)) := by
  simp [State.seqRun_dev _ _ _ ha]

@[simp] theorem State.formRecord_dev (s : State) (k : TelKind) : (s.formRecord k).dev = s.dev := by
  unfold State.formRecord
  (repeat' split) <;> simp

/-! ### The rows that leave it -/

@[simp] theorem execFaultRecordWritten_keepsDev (dt : Nat) (ok : Bool) (s : State) :
    Out.KeepsDev s (execFaultRecordWritten dt ok s) := by
  simp only [execFaultRecordWritten, Out.keepsDev_next]
  (repeat' split) <;> simp

@[simp] theorem execDoorbellSweep_keepsDev (dt : Nat) (s : State) : Out.KeepsDev s (execDoorbellSweep dt s) := by
  simp only [execDoorbellSweep, Out.keepsDev_next]
  (repeat' split) <;> simp

@[simp] theorem execHostBufferRead_keepsDev (dt cmdIdx : Nat) (data : Option (List Byte)) (s : State) :
    Out.KeepsDev s (execHostBufferRead dt cmdIdx data s) := by
  simp only [execHostBufferRead, Out.keepsDev_next]
  (repeat' split) <;> simp

@[simp] theorem execTelemetryRecord_keepsDev (dt : Nat) (k : TelKind) (s : State) :
    Out.KeepsDev s (execTelemetryRecord dt k s) := by
  simp only [execTelemetryRecord, Out.keepsDev_next]
  (repeat' split) <;> simp

@[simp] theorem execFusionEpoch_keepsDev (dt : Nat) (o : FusObs) (s : State) :
    Out.KeepsDev s (execFusionEpoch dt o s) := by
  simp only [execFusionEpoch, Out.keepsDev_next]
  (repeat' split) <;> simp

@[simp] theorem execImuDrdyEdge_keepsDev (dt : Nat) (s : State) : Out.KeepsDev s (execImuDrdyEdge dt s) := by
  simp only [execImuDrdyEdge, Out.keepsDev_next]
  (repeat' split) <;> simp

@[simp] theorem execImuSyncPulse_keepsDev (dt : Nat) (s : State) : Out.KeepsDev s (execImuSyncPulse dt s) := by
  simp only [execImuSyncPulse, Out.keepsDev_next]
  (repeat' split) <;> simp

@[simp] theorem execImuBurstComplete_keepsDev (dt : Nat) (frame : List Byte) (s : State) :
    Out.KeepsDev s (execImuBurstComplete dt frame s) := by
  simp only [execImuBurstComplete, Out.keepsDev_next]
  (repeat' split) <;> simp

@[simp] theorem execFtStep_keepsDev (dt : Nat) (s : State) : Out.KeepsDev s (execFtStep dt s) := by
  simp only [execFtStep, Out.keepsDev_next]
  (repeat' split) <;> simp

@[simp] theorem execSlewComplete_keepsDev (dt : Nat) (s : State) : Out.KeepsDev s (execSlewComplete dt s) := by
  simp only [execSlewComplete, Out.keepsDev_next]
  (repeat' split) <;> simp

@[simp] theorem execTp0Pulse_keepsDev (dt : Nat) (s : State) : Out.KeepsDev s (execTp0Pulse dt s) := by
  simp only [execTp0Pulse, Out.keepsDev_next]
  (repeat' split) <;> simp

@[simp] theorem execAcquisitionConfirmTimeout_keepsDev (dt engine : Nat) (s : State) :
    Out.KeepsDev s (execAcquisitionConfirmTimeout dt engine s) := by
  simp only [execAcquisitionConfirmTimeout, Out.keepsDev_next]
  (repeat' split) <;> simp

@[simp] theorem execSeqSrc_keepsDev (dt ch resMv : Nat) (par : Bool) (s : State) :
    Out.KeepsDev s (execSeqSrc dt ch resMv par s) :=
  Out.keepsDev_seqRun fun b i => by split <;> simp

@[simp] theorem execSeqItgt_keepsDev (dt ch : Nat) (par : Bool) (s : State) :
    Out.KeepsDev s (execSeqItgt dt ch par s) :=
  Out.keepsDev_seqRun fun b i => by split <;> simp

@[simp] theorem execSeqWaiti_keepsDev (dt ch : Nat) (par : Bool) (s : State) :
    Out.KeepsDev s (execSeqWaiti dt ch par s) :=
  Out.keepsDev_seqRun fun b i => by split <;> simp

@[simp] theorem execSeqWaitt_keepsDev (dt ch : Nat) (par : Bool) (s : State) :
    Out.KeepsDev s (execSeqWaitt dt ch par s) :=
  Out.keepsDev_seqRun fun b i => by split <;> simp

@[simp] theorem execSeqArm_keepsDev (dt ch : Nat) (par : Bool) (s : State) :
    Out.KeepsDev s (execSeqArm dt ch par s) :=
  Out.keepsDev_seqRun fun b i => by split <;> simp

@[simp] theorem execSeqDecay_keepsDev (dt ch : Nat) (par : Bool) (s : State) :
    Out.KeepsDev s (execSeqDecay dt ch par s) :=
  Out.keepsDev_seqRun fun b i => by split <;> simp

@[simp] theorem execSeqMark_keepsDev (dt ch : Nat) (par : Bool) (s : State) :
    Out.KeepsDev s (execSeqMark dt ch par s) :=
  Out.keepsDev_seqRun fun b i => by split <;> simp

@[simp] theorem execSeqJmp_keepsDev (dt ch : Nat) (par : Bool) (s : State) :
    Out.KeepsDev s (execSeqJmp dt ch par s) :=
  Out.keepsDev_seqRun fun b i => by split <;> simp

@[simp] theorem execSeqJc_keepsDev (dt ch railMv : Nat) (par : Bool) (s : State) :
    Out.KeepsDev s (execSeqJc dt ch railMv par s) :=
  Out.keepsDev_seqRun fun b i => by split <;> simp

@[simp] theorem execSeqLoop_keepsDev (dt ch : Nat) (par : Bool) (s : State) :
    Out.KeepsDev s (execSeqLoop dt ch par s) :=
  Out.keepsDev_seqRun fun b i => by split <;> simp

@[simp] theorem execSeqHoldw_keepsDev (dt ch : Nat) (par : Bool) (s : State) :
    Out.KeepsDev s (execSeqHoldw dt ch par s) :=
  Out.keepsDev_seqRun fun b i => by split <;> simp

@[simp] theorem execSeqEnd_keepsDev (dt ch : Nat) (par : Bool) (s : State) :
    Out.KeepsDev s (execSeqEnd dt ch par s) :=
  Out.keepsDev_seqRun fun b i => by split <;> simp

@[simp] theorem execSeqReservedOpcode_keepsDev (dt ch : Nat) (par : Bool) (s : State) :
    Out.KeepsDev s (execSeqReservedOpcode dt ch par s) :=
  Out.keepsDev_seqRun fun _ _ => rfl

@[simp] theorem execCoilR_keepsDev (dt ch : Nat) (runs : List ((Nat × Int) × Nat)) (vdrv : Nat) (s : State) :
    Out.KeepsDev s (execCoilR dt ch runs vdrv s) := by
  simp only [execCoilR, Out.keepsDev_next]
  (repeat' split) <;> simp

@[simp] theorem execMeasLost_keepsDev (dt loop : Nat) (s : State) : Out.KeepsDev s (execMeasLost dt loop s) := by
  simp only [execMeasLost, Out.keepsDev_next]
  (repeat' split) <;> simp

@[simp] theorem execLsPauseEnd_keepsDev (dt n : Nat) (s : State) : Out.KeepsDev s (execLsPauseEnd dt n s) := by
  simp only [execLsPauseEnd, Out.keepsDev_next]
  (repeat' split) <;> simp

@[simp] theorem execInrushWindowEnd_keepsDev (dt n : Nat) (below : Option Nat) (s : State) :
    Out.KeepsDev s (execInrushWindowEnd dt n below s) := by
  simp only [execInrushWindowEnd, Out.keepsDev_next]
  (repeat' split) <;> simp

@[simp] theorem execPiZeroTimeout_keepsDev (dt input : Nat) (s : State) :
    Out.KeepsDev s (execPiZeroTimeout dt input s) := by
  simp only [execPiZeroTimeout, Out.keepsDev_next]
  (repeat' split) <;> simp

@[simp] theorem execCanFrameReceived_keepsDev (dt bus sof : Nat) (f : CanFrame) (s : State) :
    Out.KeepsDev s (execCanFrameReceived dt bus sof f s) := by
  simp only [execCanFrameReceived, Out.keepsDev_next]
  (repeat' split) <;> simp

@[simp] theorem execTpSessionTimeout_keepsDev (dt bus : Nat) (tx : Bool) (sess : Nat) (s : State) :
    Out.KeepsDev s (execTpSessionTimeout dt bus tx sess s) := by
  simp only [execTpSessionTimeout, Out.keepsDev_next]
  (repeat' split) <;> simp

@[simp] theorem execCanTxSuccess_keepsDev (dt bus sof : Nat) (s : State) :
    Out.KeepsDev s (execCanTxSuccess dt bus sof s) := by
  simp only [execCanTxSuccess, Out.keepsDev_next]
  (repeat' split) <;> simp

@[simp] theorem execCanArbitrationLost_keepsDev (dt bus sof : Nat) (s : State) :
    Out.KeepsDev s (execCanArbitrationLost dt bus sof s) := by
  simp only [execCanArbitrationLost, Out.keepsDev_next]
  (repeat' split) <;> simp

@[simp] theorem execCanTxError_keepsDev (dt bus sof : Nat) (e : TxErr) (s : State) :
    Out.KeepsDev s (execCanTxError dt bus sof e s) := by
  simp only [execCanTxError, Out.keepsDev_next]
  (repeat' split) <;> simp

@[simp] theorem execCanRxError_keepsDev (dt bus : Nat) (by8 : Bool) (s : State) :
    Out.KeepsDev s (execCanRxError dt bus by8 s) := by
  simp only [execCanRxError, Out.keepsDev_next]
  (repeat' split) <;> simp

@[simp] theorem execAddressClaimComplete_keepsDev (dt bus : Nat) (s : State) :
    Out.KeepsDev s (execAddressClaimComplete dt bus s) := by
  simp only [execAddressClaimComplete, Out.keepsDev_next]
  (repeat' split) <;> simp

@[simp] theorem execTxSessionOpen_keepsDev (dt bus : Nat) (data : Option (List Byte)) (s : State) :
    Out.KeepsDev s (execTxSessionOpen dt bus data s) := by
  simp only [execTxSessionOpen, Out.keepsDev_next]
  (repeat' split) <;> simp

@[simp] theorem execBamPacket_keepsDev (dt bus sess : Nat) (s : State) :
    Out.KeepsDev s (execBamPacket dt bus sess s) := by
  simp only [execBamPacket, Out.keepsDev_next]
  (repeat' split) <;> simp

@[simp] theorem execBusRecoveryTimeout_keepsDev (dt bus : Nat) (s : State) :
    Out.KeepsDev s (execBusRecoveryTimeout dt bus s) := by
  simp only [execBusRecoveryTimeout, Out.keepsDev_next]
  (repeat' split) <;> simp

@[simp] theorem execRateDetectTimeout_keepsDev (dt bus : Nat) (s : State) :
    Out.KeepsDev s (execRateDetectTimeout dt bus s) := by
  simp only [execRateDetectTimeout, Out.keepsDev_next]
  (repeat' split) <;> simp

@[simp] theorem execPhaseLock_keepsDev (dt ch : Nat) (indicator : Int) (s : State) :
    Out.KeepsDev s (execPhaseLock dt ch indicator s) := by
  simp only [execPhaseLock, Out.keepsDev_next]
  (repeat' split) <;> simp

@[simp] theorem execMa20ShuntReconnect_keepsDev (dt input : Nat) (s : State) :
    Out.KeepsDev s (execMa20ShuntReconnect dt input s) := by
  simp only [execMa20ShuntReconnect, Out.keepsDev_next]
  (repeat' split) <;> simp

end Sys2Proof.Machine
end

section
/-! How the device state may go on: relations between the state before and the state after, closed under what a row
does one after the other. -/

namespace Sys2Proof.Machine

/-! ### The relations and their rules -/

/-- Between `s` and `t` the device state has stayed, or has left STANDBY, PARKED, WORKING or MANUAL for SAFE. -/
structure State.FallsSafe (s t : State) : Prop where
  st : s.graceOk → t.dev.st = s.dev.st ∨ t.dev.st = .safe ∧ (s.dev.st = .standby ∨ s.dev.st.active = true)
  grace : s.graceOk → t.graceOk

/-- Between `s` and `t` the device state has stayed, or has left any state but RESET and BOOT for FAULT. -/
structure State.MayFault (s t : State) : Prop where
  st : t.dev.st = s.dev.st ∨ s.dev.st.booted ∧ t.dev.st = .fault
  grace : s.graceOk → t.graceOk

/-- Between `s` and `t` the device state has stayed, or has gone along one arrow of the table of R33, and a grace runs
only where it may. -/
structure State.Steps (s t : State) : Prop where
  st : s.graceOk → t.dev.st = s.dev.st ∨ s.dev.st.moves t.dev.st = true
  grace : s.graceOk → t.graceOk

/-- From SAFE every arrow leads where an arrow from STANDBY, PARKED, WORKING or MANUAL leads. -/
theorem DevState.moves_of_safe_moves {a b : DevState} (ha : a = .standby ∨ a.active = true)
    (hb : DevState.moves .safe b = true) : b = a ∨ a.moves b = true := by
  cases a <;> cases b <;> simp_all [DevState.moves, DevState.active]

theorem DevState.moves_safe {a : DevState} (ha : a = .standby ∨ a.active = true) : a.moves .safe = true := by
  cases a <;> simp_all [DevState.moves, DevState.active]

/-- Where an arrow leads out of RESET and BOOT, another leads to FAULT. -/
theorem DevState.moves_fault {a b : DevState} (hb : b.booted) (hm : b = a ∨ a.moves b = true) :
    DevState.fault = a ∨ a.moves .fault = true := by
  cases a <;> cases b <;> simp_all [DevState.moves, DevState.active, DevState.booted]

section
variable {s t u : State}

theorem State.graceOk_of_dev (h : t.dev = s.dev) (hg : s.graceOk) : t.graceOk := by
  simpa [State.graceOk, h] using hg

theorem State.FallsSafe.of_dev (h : t.dev = s.dev) : s.FallsSafe t := ⟨fun _ => by simp [h], State.graceOk_of_dev h⟩

theorem State.MayFault.of_dev (h : t.dev = s.dev) : s.MayFault t := ⟨by simp [h], State.graceOk_of_dev h⟩

theorem State.Steps.of_dev (h : t.dev = s.dev) : s.Steps t := ⟨fun _ => by simp [h], State.graceOk_of_dev h⟩

theorem State.FallsSafe.trans (h : s.FallsSafe t) (h' : t.FallsSafe u) : s.FallsSafe u where
  st hg := by
    rcases h.st hg with hs | ⟨hs, hf⟩ <;> rcases h'.st (h.grace hg) with ht | ⟨ht, hf'⟩
    · exact .inl (ht.trans hs)
    · exact .inr ⟨ht, hs ▸ hf'⟩
    · exact .inr ⟨ht.trans hs, hf⟩
    · exact .inr ⟨ht, hf⟩
  grace hg := h'.grace (h.grace hg)

theorem State.FallsSafe.steps_trans (h : s.FallsSafe t) (h' : t.Steps u) : s.Steps u where
  st hg := by
    rcases h.st hg with hs | ⟨hs, hf⟩ <;> rcases h'.st (h.grace hg) with ht | ht
    · exact .inl (ht.trans hs)
    · exact .inr (hs ▸ ht)
    · exact .inr (ht ▸ hs ▸ DevState.moves_safe hf)
    · exact DevState.moves_of_safe_moves hf (hs ▸ ht)
  grace hg := h'.grace (h.grace hg)

theorem State.FallsSafe.steps (h : s.FallsSafe t) : s.Steps t := h.steps_trans (.of_dev rfl)

/-- What left the device part before a fall to SAFE does not count. -/
theorem State.FallsSafe.before (h : t.FallsSafe u) (ht : t.dev = s.dev) : s.FallsSafe u :=
  (State.FallsSafe.of_dev ht).trans h

/-- What leaves the device part after a fall to SAFE does not count. -/
theorem State.FallsSafe.after (h : s.FallsSafe t) (hu : u.dev = t.dev) : s.FallsSafe u := h.trans (.of_dev hu)

theorem State.FallsSafe.ite {c : Prop} [Decidable c] (ht : s.FallsSafe t) (hu : s.FallsSafe u) :
    s.FallsSafe (if c then t else u) := by
  split
  · exact ht
  · exact hu

theorem State.MayFault.trans (h : s.MayFault t) (h' : t.MayFault u) : s.MayFault u where
  st := by
    rcases h.st with hs | ⟨hs, hf⟩ <;> rcases h'.st with ht | ⟨ht, hf'⟩
    · exact .inl (ht.trans hs)
    · exact .inr ⟨hs ▸ ht, hf'⟩
    · exact .inr ⟨hs, ht.trans hf⟩
    · exact .inr ⟨hs, hf'⟩
  grace hg := h'.grace (h.grace hg)

theorem State.Steps.mayFault (h : s.Steps t) (h' : t.MayFault u) : s.Steps u where
  st hg := by
    rcases h'.st with ht | ⟨hb, hu⟩
    · exact ht ▸ h.st hg
    · exact hu ▸ DevState.moves_fault hb (h.st hg)
  grace hg := h'.grace (h.grace hg)

theorem State.MayFault.steps (h : s.MayFault t) : s.Steps t := (State.Steps.of_dev rfl).mayFault h

/-- What left the device part before FAULT does not count. -/
theorem State.MayFault.before (h : t.MayFault u) (ht : t.dev = s.dev) : s.MayFault u :=
  (State.MayFault.of_dev ht).trans h

/-- What leaves the device part after FAULT does not count. -/
theorem State.MayFault.after (h : s.MayFault t) (hu : u.dev = t.dev) : s.MayFault u := h.trans (.of_dev hu)

theorem State.MayFault.ite {c : Prop} [Decidable c] (ht : s.MayFault t) (hu : s.MayFault u) :
    s.MayFault (if c then t else u) := by
  split
  · exact ht
  · exact hu

theorem State.MayFault.each {α : Type} {f : State → α → State} (hf : ∀ (v : State) x, v.MayFault (f v x)) (s : State)
    (l : List α) : s.MayFault (s.each l f) := by
  induction l generalizing s with
  | nil => exact .of_dev rfl
  | cons x xs ih => exact (hf s x).trans (ih (f s x))

theorem State.Steps.before (h : t.Steps u) (ht : t.dev = s.dev) : s.Steps u :=
  (State.FallsSafe.of_dev ht).steps_trans h

theorem State.Steps.after (h : s.Steps t) (hu : u.dev = t.dev) : s.Steps u := h.mayFault (.of_dev hu)

theorem State.Steps.ite {c : Prop} [Decidable c] (ht : s.Steps t) (hu : s.Steps u) : s.Steps (if c then t else u) := by
  split
  · exact ht
  · exact hu

end

/-! ### Rows -/

/-- Whatever next state the outcome gives, the device state has stayed or gone along one arrow. -/
def Out.Steps (s : State) (o : Out) : Prop := ∀ t, o = .next t → s.Steps t

theorem Out.steps_next {s t : State} (h : s.Steps t) : Out.Steps s (.next t) :=
  fun _ ht => Host.Outcome.next.inj ht ▸ h

@[simp] theorem Out.steps_next_of_dev {s t : State} (h : t.dev = s.dev) : Out.Steps s (.next t) :=
  Out.steps_next (.of_dev h)

@[simp] theorem Out.steps_of_keepsDev {s : State} {o : Out} (h : Out.KeepsDev s o) : Out.Steps s o :=
  fun t ht => .of_dev (h t ht)

/-- A row that goes along one arrow once its time has passed. -/
theorem State.Steps.row {s t : State} {dt : Nat} (h : (s.advance dt).Steps t) : Out.Steps s (.next t) :=
  Out.steps_next (h.before (by simp))

theorem State.FallsSafe.row {s t : State} {dt : Nat} (h : (s.advance dt).FallsSafe t) : Out.Steps s (.next t) :=
  h.steps.row

theorem State.MayFault.row {s t : State} {dt : Nat} (h : (s.advance dt).MayFault t) : Out.Steps s (.next t) :=
  h.steps.row

end Sys2Proof.Machine
end

section
/-! What the operations of host loss do to the device state: each leaves it, or drops it to SAFE. -/

namespace Sys2Proof.Machine

/-! ### The end of a grace and the loss of the host (R50, R51) -/

@[simp] theorem State.wake_grace (s : State) : s.wake.dev.grace = s.dev.grace := by
  simp [State.wake, apply_ite State.dev, apply_ite Dev.grace]

@[simp] theorem State.graceExpires_st (s : State) (m : Nat) : (s.graceExpires m).dev.st = .safe := by
  simp [State.graceExpires, State.enter_dev]

@[simp] theorem State.graceExpires_grace (s : State) (m : Nat) : (s.graceExpires m).dev.grace = none := by
  simp [State.graceExpires, State.enter_dev, State.recordOrphan]

theorem State.FallsSafe.of_safe {s t : State} (hst : t.dev.st = .safe) (hg : s.graceOk → t.graceOk)
    (hs : s.graceOk → s.dev.st = .standby ∨ s.dev.st.active = true) : s.FallsSafe t :=
  ⟨fun h => .inr ⟨hst, hs h⟩, hg⟩

theorem State.graceExpires_fallsSafe (s : State) (m : Nat) (hs : s.graceOk → s.dev.st.active = true) :
    s.FallsSafe (s.graceExpires m) :=
  .of_safe (by simp) (fun _ => by simp [State.graceOk]) fun h => .inr (hs h)

theorem State.graceFirst_fallsSafe (s : State) : s.FallsSafe s.graceFirst := by
  unfold State.graceFirst
  split
  next g hg =>
    split
    · exact s.graceExpires_fallsSafe _ fun h => h (by simp [hg])
    · exact .of_dev rfl
  next => exact .of_dev rfl

/-- What a host loss does by the device state, once nothing is bound and the maintenance has been aborted. -/
theorem State.hostLost_eq (s : State) (det : Nat) : ∃ t : State, t.dev = { s.dev with bound := false } ∧
    s.hostLost det = match t.dev.st with
      | .standby => t.enter .safe causeHostLoss
      | .parked | .working | .manual =>
        if t.dev.grace.isSome then t
        else if t.host.hostGrace = 0 then t.graceExpires t.now
        else t.updDev (fun d => { d with grace := some { start := t.now, endsAt := t.now + t.host.hostGrace * msTicks } })
      | _ => t :=
  ⟨_, by simp, rfl⟩

theorem State.hostLost_fallsSafe (s : State) (det : Nat) : s.FallsSafe (s.hostLost det) := by
  obtain ⟨t, ht, hloss⟩ := s.hostLost_eq det
  have hst : s.FallsSafe t := ⟨fun _ => by simp [ht], fun h => by simpa [State.graceOk, ht] using h⟩
  have hfall : t.dev.st.active = true → t.FallsSafe (if t.dev.grace.isSome then t
      else if t.host.hostGrace = 0 then t.graceExpires t.now
      else t.updDev (fun d => { d with grace := some { start := t.now, endsAt := t.now + t.host.hostGrace * msTicks } })) := by
    intro ha
    split
    · exact .of_dev rfl
    · split
      · exact t.graceExpires_fallsSafe _ fun _ => ha
      · exact ⟨fun _ => by simp, fun _ => by simp [State.graceOk, ha]⟩
  rw [hloss]
  refine hst.trans ?_
  split
  next h =>
    refine .of_safe (by simp [State.enter_dev]) (fun hg => ?_) fun _ => .inl h
    have hnone : t.dev.grace.isSome = false := by simpa [State.graceOk, h, DevState.active] using hg
    simp [State.graceOk, State.enter_dev, hnone]
  next h => exact hfall (by rw [h]; rfl)
  next h => exact hfall (by rw [h]; rfl)
  next h => exact hfall (by rw [h]; rfl)
  next => exact .of_dev rfl


theorem State.lost_fallsSafe (s : State) (det : Nat) : s.FallsSafe (s.lost det) := by
  unfold State.lost
  split
  · exact s.hostLost_fallsSafe det
  · exact .of_dev rfl

theorem State.FallsSafe.hostIfReset {s t : State} (h : s.FallsSafe t) : s.FallsSafe t.hostIfReset := h.after (by simp)

theorem State.FallsSafe.sweepEnds {s t : State} (h : s.FallsSafe t) : s.FallsSafe t.sweepEnds := h.after (by simp)

theorem State.linkLost_fallsSafe (s : State) (det : Nat) : s.FallsSafe (s.linkLost det) :=
  .ite (.hostIfReset (.of_dev (by simp))) (.hostIfReset ((State.hostLost_fallsSafe _ det).before (by simp)))

theorem State.doorbellFailed_fallsSafe (s : State) : s.FallsSafe s.doorbellFailed := by
  unfold State.doorbellFailed
  exact .sweepEnds (.ite ((State.hostLost_fallsSafe _ 1).before (by simp)) (.of_dev (by simp)))

theorem State.setHbTimeout_fallsSafe (s : State) (v : Nat) : s.FallsSafe (s.setHbTimeout v) :=
  .ite ((State.hostLost_fallsSafe _ 2).before (by simp)) (.of_dev (by simp))

theorem State.write32_fallsSafe (s : State) (off : Nat) (v : Word) : s.FallsSafe (s.write32 off v) := by
  unfold State.write32
  extract_lets
  refine .ite (.of_dev ?_) (.ite (.of_dev ?_) (.ite (.of_dev ?_) (.ite (s.setHbTimeout_fallsSafe _) (.of_dev ?_))))
  all_goals (repeat' split) <;> simp

theorem State.regWrite_fallsSafe (s : State) (off size : Nat) (v : DWord) : s.FallsSafe (s.regWrite off size v) :=
  .ite ((s.write32_fallsSafe _ _).trans (State.write32_fallsSafe _ _ _)) (s.write32_fallsSafe _ _)

@[simp] theorem State.freeIndices_dev (s : State) (idx : List Word) : (s.freeIndices idx).2.dev = s.dev := by
  unfold State.freeIndices
  generalize List.range 16 = ns
  refine List.foldlRecOn ns _ (motive := fun p : List Word × State => p.2.dev = s.dev) rfl fun p hp n _ => ?_
  dsimp only
  split <;> simp [hp]

@[simp] theorem State.takeSnapshot_dev (s : State) (p : TPlaced) (addr : DWord) : (s.takeSnapshot p addr).dev = s.dev := by
  unfold State.takeSnapshot
  dsimp only
  split <;> simp

@[simp] theorem State.tileAnswer_dev (s : State) (p : TPlaced) (a : TileAns) : (s.tileAnswer p a).dev = s.dev := by
  unfold State.tileAnswer
  dsimp only
  (repeat' split) <;> simp

@[simp] theorem State.takeAnswers_dev (as : List TileAns) (s : State) : (State.takeAnswers as s).dev = s.dev := by
  induction as generalizing s with
  | nil => rfl
  | cons a as ih =>
    unfold State.takeAnswers
    dsimp only
    split
    · rw [ih]
      split <;> simp
    · rfl

@[simp] theorem State.doorbellRead_dev (s : State) (d : Doorbell) : (s.doorbellRead d).dev = s.dev := by
  unfold State.doorbellRead
  dsimp only
  split <;> simp

/-! ### The rows of the host link and of the registers -/

@[simp] theorem execPerstnAssert_steps (dt : Nat) (s : State) : Out.Steps s (execPerstnAssert dt s) :=
  (State.linkLost_fallsSafe _ 0).row

@[simp] theorem execHotReset_steps (dt : Nat) (s : State) : Out.Steps s (execHotReset dt s) :=
  (State.linkLost_fallsSafe _ 0).row

@[simp] theorem execDlDown_steps (dt : Nat) (s : State) : Out.Steps s (execDlDown dt s) :=
  (State.linkLost_fallsSafe _ 0).row

@[simp] theorem execFunctionLevelReset_steps (dt : Nat) (s : State) : Out.Steps s (execFunctionLevelReset dt s) :=
  (((State.lost_fallsSafe _ 0).before (s := s.advance dt) (by simp)).hostIfReset).row

@[simp] theorem execBusMasterEnableClear_steps (dt : Nat) (memSpace : Bool) (s : State) :
    Out.Steps s (execBusMasterEnableClear dt memSpace s) :=
  (State.FallsSafe.ite ((State.lost_fallsSafe _ 3).before (by simp)) (.of_dev (by simp))).row (dt := dt)

@[simp] theorem execD3hotEntry_steps (dt : Nat) (s : State) : Out.Steps s (execD3hotEntry dt s) :=
  (State.FallsSafe.ite ((State.lost_fallsSafe _ 4).before (by simp)) (.of_dev rfl)).row (dt := dt)

@[simp] theorem execHeartbeatTimeout_steps (dt : Nat) (s : State) : Out.Steps s (execHeartbeatTimeout dt s) :=
  (State.FallsSafe.ite (State.lost_fallsSafe _ 2) (.of_dev rfl)).row (dt := dt)

@[simp] theorem execHostGraceExpiry_steps (dt : Nat) (s : State) : Out.Steps s (execHostGraceExpiry dt s) :=
  (State.graceFirst_fallsSafe _).row

@[simp] theorem execDoorbellReadComplete_steps (dt : Nat) (d : Doorbell) (s : State) :
    Out.Steps s (execDoorbellReadComplete dt d s) :=
  (State.FallsSafe.ite (.of_dev rfl) (.ite (State.doorbellFailed_fallsSafe _) (.of_dev (by simp)))).row (dt := dt)

@[simp] theorem execRingEnable_steps (dt ring log2 vec : Nat) (s : State) : Out.Steps s (execRingEnable dt ring log2 vec s) :=
  (State.FallsSafe.ite (State.regWrite_fallsSafe _ _ _ _) (.of_dev rfl)).row (dt := dt)

@[simp] theorem execRingDisable_steps (dt ring vec : Nat) (s : State) : Out.Steps s (execRingDisable dt ring vec s) :=
  (State.FallsSafe.ite (State.regWrite_fallsSafe _ _ _ _) (.of_dev rfl)).row (dt := dt)

@[simp] theorem execRegLocked_steps (dt off : Nat) (val : DWord) (s : State) : Out.Steps s (execRegLocked dt off val s) :=
  (State.FallsSafe.ite (State.regWrite_fallsSafe _ _ _ _) (.of_dev rfl)).row (dt := dt)

@[simp] theorem execPollPeriodWrite_steps (dt val : Nat) (s : State) : Out.Steps s (execPollPeriodWrite dt val s) :=
  (State.FallsSafe.ite (State.regWrite_fallsSafe _ _ _ _) (.of_dev rfl)).row (dt := dt)

@[simp] theorem execHbTimeoutWrite_steps (dt val : Nat) (s : State) : Out.Steps s (execHbTimeoutWrite dt val s) :=
  (State.FallsSafe.ite (State.regWrite_fallsSafe _ _ _ _) (.of_dev rfl)).row (dt := dt)

@[simp] theorem execHiErrClear_steps (dt : Nat) (bits : Word) (s : State) : Out.Steps s (execHiErrClear dt bits s) :=
  (State.FallsSafe.ite (State.regWrite_fallsSafe _ _ _ _) (.of_dev rfl)).row (dt := dt)

@[simp] theorem execMsixUnmask_steps (dt : Nat) (v : Option Nat) (s : State) : Out.Steps s (execMsixUnmask dt v s) := by
  apply State.FallsSafe.row (dt := dt)
  cases v with
  | some v => exact .ite (State.regWrite_fallsSafe _ _ _ _) (.of_dev rfl)
  | none => exact .ite (.of_dev ((State.each_dev _ _ _ (by simp)).trans (by simp))) (.of_dev rfl)

@[simp] theorem execRegisterWrite_steps (dt off size : Nat) (val : DWord) (s : State) :
    Out.Steps s (execRegisterWrite dt off size val s) :=
  (State.FallsSafe.ite (.of_dev rfl) (.ite (State.regWrite_fallsSafe _ _ _ _) (.of_dev (by simp)))).row (dt := dt)

end Sys2Proof.Machine
end

section
/-! What the operations of Saggar's detections do to the device state: each leaves it, or takes it into FAULT. -/

namespace Sys2Proof.Machine

/-! ### Causes and FAULT (R39, R443, R451, R452) -/

@[simp] theorem State.addCause_grace (s : State) (c : FCause) : (s.addCause c).dev.grace = s.dev.grace := by
  unfold State.addCause
  split <;> rfl

theorem State.addCause_mayFault (s : State) (c : FCause) : s.MayFault (s.addCause c) :=
  ⟨.inl (by simp), fun h => by simpa [State.graceOk] using h⟩

@[simp] theorem State.recordOrphan_grace (s : State) (m : Nat) : (s.recordOrphan m).dev.grace = none := by
  simp [State.recordOrphan]

@[simp] theorem State.toFault_grace (s : State) (k : Nat) (hs : s.dev.st.booted) (hf : s.dev.st ≠ .fault) :
    (s.toFault k).dev.grace = none := by
  unfold State.toFault
  split
  next h => exact absurd h hs.1
  next h => exact absurd h hs.2
  next h => exact absurd h hf
  next => cases hg : s.dev.grace <;> simp [State.enter_dev, hg]

theorem State.toFault_mayFault (s : State) (k : Nat) : s.MayFault (s.toFault k) := by
  by_cases hs : s.dev.st.booted ∧ s.dev.st ≠ .fault
  · exact ⟨.inr ⟨hs.1, s.toFault_st k hs.1⟩, fun _ => by simp [State.graceOk, s.toFault_grace k hs.1 hs.2]⟩
  · refine .of_dev ?_
    unfold State.toFault
    split
    next => rfl
    next => rfl
    next => rfl
    next h h' h'' => exact absurd ⟨⟨h, h'⟩, h''⟩ hs

/-- Every cause is recorded before FAULT is entered for it. -/
theorem State.MayFault.toFault {s t : State} {c : FCause} (h : t.dev = s.dev) (k : Nat) :
    s.MayFault ((t.addCause c).toFault k) :=
  ((t.addCause_mayFault c).trans (State.toFault_mayFault _ k)).before h

theorem State.moduleWide_mayFault (s : State) (c : FCause) (lane : Nat) : s.MayFault (s.moduleWide c lane) := by
  refine .toFault ?_ _
  (repeat' split) <;> simp

theorem State.resetClass_mayFault (s : State) (k lane : Nat) : s.MayFault (s.resetClass k lane) :=
  (s.moduleWide_mayFault (.cls k) lane).after (by simp [State.resetClass])

theorem State.clockFault_mayFault (s : State) (lane : Nat) : s.MayFault (s.clockFault lane) :=
  .ite (s.resetClass_mayFault 5 lane) (.of_dev rfl)

theorem State.refLost_mayFault (s : State) : s.MayFault s.refLost :=
  .ite ((State.resetClass_mayFault _ 5 2).before (by simp)) (.of_dev rfl)

theorem State.timeMark_mayFault (s : State) (diffs : List Int) : s.MayFault (s.timeMark diffs) :=
  .ite ((State.clockFault_mayFault _ 2).before (by simp)) (.of_dev (by simp))

theorem State.safenFault_mayFault (s : State) : s.MayFault s.safenFault :=
  .ite (.of_dev rfl) (.toFault (by simp) _)

theorem State.safenSeen_mayFault (s : State) (lane : Nat) : s.MayFault (s.safenSeen lane) :=
  .ite (.of_dev (by simp)) (.ite (.of_dev (by simp)) ((State.safenFault_mayFault _).before (by simp)))

theorem State.safenTaken_mayFault (s : State) (lane : Nat) : s.MayFault (s.safenTaken lane) :=
  .ite (.of_dev (by simp)) ((State.safenSeen_mayFault _ lane).before (by simp))

theorem State.pathTest_mayFault (s : State) (missing : List (Nat × Island)) : s.MayFault (s.pathTest missing) :=
  .ite (.of_dev (by simp)) ((State.moduleWide_mayFault _ _ _).before (by simp))

theorem State.flashBad_mayFault (s : State) (p : FlashPart) : s.MayFault (s.flashBad p) := by
  refine .ite ((State.moduleWide_mayFault _ _ _).before ?_) (.of_dev ?_)
  · split <;> simp
  · simp only [State.detectRec_keeps, State.noteClass_keeps]
    split <;> simp

theorem State.scrubbed_mayFault (s : State) (f : ScrubFinding) : s.MayFault (s.scrubbed f) := by
  cases f with
  | corrected => exact .of_dev (by simp [State.scrubbed])
  | coreOrWheel => exact s.resetClass_mayFault 3 2
  | tileSlot n => exact .of_dev (by simp [State.scrubbed])

/-! ### The exchange between the lanes (R441) -/

/-- One more detection, where there is one. -/
theorem State.MayFault.thenIf {s t u : State} {c : Prop} [Decidable c] (h : s.MayFault t) (h' : t.MayFault u) :
    s.MayFault (if c then u else t) := .ite (h.trans h') h

theorem State.clockCompare_mayFault (s : State) (x : CrossObs) : s.MayFault (s.clockCompare x) := by
  refine .thenIf (.thenIf (.thenIf (.of_dev ?_) (State.refLost_mayFault _)) (State.clockFault_mayFault _ 2))
    (State.clockFault_mayFault _ 2)
  (repeat' split) <;> simp

theorem State.MayFault.showLanes {s t : State} (h : s.MayFault t) : s.MayFault t.showLanes := h.after (by simp)

theorem State.MayFault.takeLimits {s t : State} (h : s.MayFault t) : s.MayFault t.takeLimits := h.after (by simp)

theorem State.crossCheck_mayFault (s : State) (x : CrossObs) : s.MayFault (s.crossCheck x) := by
  have hclass : ∀ (t : State) (c c' : Prop) [Decidable c] [Decidable c'], t.dev = s.dev → s.MayFault
      ((if c then t.moduleWide (.cls 9) 2 else if c' then t.clearClass 9 else t).clockCompare x) :=
    fun t c c' _ _ ht => .trans (.ite ((State.moduleWide_mayFault _ _ _).before ht) (.ite (.of_dev (by simp [ht])) (.of_dev ht)))
      (State.clockCompare_mayFault _ x)
  exact .showLanes (.ite (hclass _ _ _ (by simp)) (.takeLimits (hclass _ _ _ (by simp))))

theorem State.envelope_mayFault (s : State) (c : EnvCheck) (lane : Nat) : s.MayFault (s.envelope c lane) := by
  refine .ite (.of_dev rfl) ?_
  split
  · exact .of_dev (by simp)
  · exact .of_dev (by simp)
  · exact (State.moduleWide_mayFault _ _ _).before (by simp)

/-! ### The rows that detect -/

@[simp] theorem execSafenAssert_steps (dt lane lowNs : Nat) (s : State) : Out.Steps s (execSafenAssert dt lane lowNs s) :=
  (State.MayFault.ite ((State.safenTaken_mayFault _ lane).before (by simp)) (.of_dev (by simp))).row (dt := dt)

theorem State.MayFault.shedLoads {s t : State} (h : s.MayFault t) : s.MayFault t.shedLoads := h.after (by simp)

/-- A detection that counts where the module is supervised. -/
theorem State.MayFault.supervised {s t : State} {c : Prop} [Decidable c] (h : t.dev = s.dev) (k : FCause) (lane : Nat) :
    s.MayFault (if c then t.moduleWide k lane else t) :=
  .ite ((t.moduleWide_mayFault k lane).before h) (.of_dev h)

@[simp] theorem execBrownout_steps (dt mv hold held : Nat) (s : State) : Out.Steps s (execBrownout dt mv hold held s) :=
  (State.MayFault.ite (.shedLoads (.supervised (by simp) _ _)) (.of_dev (by simp))).row (dt := dt)

@[simp] theorem execVbatOvervoltage_steps (dt mv held : Nat) (s : State) : Out.Steps s (execVbatOvervoltage dt mv held s) :=
  (State.MayFault.ite (.supervised (by simp) _ _) (.of_dev (by simp))).row (dt := dt)

@[simp] theorem execHoldOvervoltage_steps (dt mv : Nat) (s : State) : Out.Steps s (execHoldOvervoltage dt mv s) :=
  (State.MayFault.ite (.supervised (by simp) _ _) (.of_dev (by simp))).row (dt := dt)

@[simp] theorem execVhioLow_steps (dt mv held : Nat) (s : State) : Out.Steps s (execVhioLow dt mv held s) :=
  (State.Steps.ite
    ((((State.linkLost_fallsSafe _ 0).before (by simp)).steps).mayFault (State.safenSeen_mayFault _ 2))
    (.of_dev rfl)).row (dt := dt)

@[simp] theorem execRefclkLoss_steps (dt : Nat) (s : State) : Out.Steps s (execRefclkLoss dt s) :=
  (State.refLost_mayFault _).row

@[simp] theorem execIslandClockStop_steps (dt : Nat) (isl : Island) (s : State) : Out.Steps s (execIslandClockStop dt isl s) :=
  (State.MayFault.ite ((State.clockFault_mayFault _ (watcher isl)).trans (.of_dev (by simp))) (.of_dev rfl)).row (dt := dt)

@[simp] theorem execTimeMark_steps (dt : Nat) (diffs : List Int) (s : State) : Out.Steps s (execTimeMark dt diffs s) :=
  (State.MayFault.ite (State.timeMark_mayFault _ diffs) (.of_dev rfl)).row (dt := dt)

@[simp] theorem execTimeMarkMissing_steps (dt : Nat) (isl : Island) (s : State) :
    Out.Steps s (execTimeMarkMissing dt isl s) :=
  (State.MayFault.ite (.of_dev rfl) ((State.clockFault_mayFault _ _).before (by simp))).row (dt := dt)

@[simp] theorem execLaneCrossCheck_steps (dt : Nat) (x : CrossObs) (s : State) : Out.Steps s (execLaneCrossCheck dt x s) :=
  (State.MayFault.ite (State.crossCheck_mayFault _ x) (.of_dev rfl)).row (dt := dt)

@[simp] theorem execForceSafePathTest_steps (dt : Nat) (missing : List (Nat × Island)) (s : State) :
    Out.Steps s (execForceSafePathTest dt missing s) :=
  (State.MayFault.ite (State.pathTest_mayFault _ missing) (.of_dev rfl)).row (dt := dt)

@[simp] theorem execEnvelopeViolation_steps (dt : Nat) (c : EnvCheck) (lane : Nat) (s : State) :
    Out.Steps s (execEnvelopeViolation dt c lane s) :=
  (State.MayFault.ite (State.envelope_mayFault _ c lane) (.of_dev rfl)).row (dt := dt)

@[simp] theorem execDieOvertemp_steps (dt die : Nat) (temp : Int) (held : Nat) (s : State) :
    Out.Steps s (execDieOvertemp dt die temp held s) :=
  (State.MayFault.ite (.supervised (by simp) _ _) (.of_dev rfl)).row (dt := dt)

@[simp] theorem execCoreLockstepMismatch_steps (dt core : Nat) (s : State) :
    Out.Steps s (execCoreLockstepMismatch dt core s) :=
  (State.MayFault.ite (State.resetClass_mayFault _ 1 2) (.of_dev rfl)).row (dt := dt)

@[simp] theorem execMemoryScrub_steps (dt : Nat) (fs : List ScrubFinding) (s : State) :
    Out.Steps s (execMemoryScrub dt fs s) :=
  (State.MayFault.ite (.each State.scrubbed_mayFault _ fs) (.of_dev rfl)).row (dt := dt)

@[simp] theorem execFlashDigestCheck_steps (dt : Nat) (bad : List FlashPart) (s : State) :
    Out.Steps s (execFlashDigestCheck dt bad s) :=
  (State.MayFault.ite (.each State.flashBad_mayFault _ bad) (.of_dev rfl)).row (dt := dt)

@[simp] theorem execFlashScrubComplete_steps (dt pages corrected : Nat) (bad : List FlashPart) (s : State) :
    Out.Steps s (execFlashScrubComplete dt pages corrected bad s) := by
  apply State.MayFault.row (dt := dt)
  unfold State.scrubDone
  split
  · exact .of_dev rfl
  · exact (State.MayFault.each State.flashBad_mayFault _ bad).trans (.of_dev (by simp))

@[simp] theorem execLaneConfirmTimeout_steps (dt cls : Nat) (s : State) : Out.Steps s (execLaneConfirmTimeout dt cls s) := by
  apply State.MayFault.row (dt := dt)
  split
  · exact .of_dev rfl
  · exact .ite (.of_dev (by simp)) ((State.moduleWide_mayFault _ _ _).before (by simp))

@[simp] theorem execLoopCheck_steps (dt loop : Nat) (s : State) : Out.Steps s (execLoopCheck dt loop s) :=
  (State.MayFault.ite ((State.moduleWide_mayFault _ _ _).before (by simp)) (.of_dev rfl)).row (dt := dt)

@[simp] theorem execLsReadbackMismatch_steps (dt n : Nat) (high on : Bool) (s : State) :
    Out.Steps s (execLsReadbackMismatch dt n high on s) := by
  have hoff : ∀ t : State, ((if t.supervised then t.noteClass 6 2 else t).lsLatch n 7).dev = t.dev := fun t => by
    split <;> simp
  exact (State.MayFault.ite (.of_dev rfl)
    (.ite (.ite (.of_dev rfl) (.ite ((State.moduleWide_mayFault _ _ _).before (by simp)) (.of_dev (by simp))))
      (.ite (.of_dev (hoff _)) (.of_dev (by simp))))).row (dt := dt)

@[simp] theorem execFdReadbackMismatch_steps (dt pin : Nat) (on : Bool) (s : State) :
    Out.Steps s (execFdReadbackMismatch dt pin on s) :=
  (State.MayFault.ite (.of_dev rfl)
    (.ite (.ite (.of_dev rfl) ((State.moduleWide_mayFault _ _ _).before (by simp)))
      (.ite (.of_dev (by simp)) (.of_dev (by simp))))).row (dt := dt)

@[simp] theorem execRegulatorOutOfRange_steps (dt : Nat) (s : State) : Out.Steps s (execRegulatorOutOfRange dt s) :=
  (State.MayFault.ite ((State.resetClass_mayFault _ 8 2).before (by simp)) (.of_dev rfl)).row (dt := dt)

end Sys2Proof.Machine
end

section
/-! Resets, BOOT, the planner's speed comparison, and the rows that change nothing of the device state but its other
fields. -/

namespace Sys2Proof.Machine

/-! ### The fields of the device part that a step keeps -/

/-- The device state and the grace are what they were. -/
theorem State.Steps.of_kept {s t : State} (hst : t.dev.st = s.dev.st) (hg : t.dev.grace = s.dev.grace) : s.Steps t :=
  ⟨fun _ => .inl hst, fun h => by simpa [State.graceOk, hst, hg] using h⟩

/-- What keeps the device state and the grace after a step does not count. -/
theorem State.Steps.thenKept {s t u : State} (h : s.Steps t) (hst : u.dev.st = t.dev.st)
    (hg : u.dev.grace = t.dev.grace) : s.Steps u :=
  ⟨fun h' => by simpa [hst] using h.st h', fun h' => by simpa [State.graceOk, hst, hg] using h.grace h'⟩

theorem State.MayFault.of_kept {s t : State} (hst : t.dev.st = s.dev.st) (hg : t.dev.grace = s.dev.grace) :
    s.MayFault t :=
  ⟨.inl hst, fun h => by simpa [State.graceOk, hst, hg] using h⟩

/-- A state in which no grace may run goes along an arrow, its grace kept. -/
theorem State.Steps.of_inactive {s t : State} (hs : s.dev.st.active = false) (hst : s.dev.st.moves t.dev.st = true)
    (hg : t.dev.grace = s.dev.grace) : s.Steps t :=
  ⟨fun _ => .inr hst, fun h h' => by simp [h (hg ▸ h')] at hs⟩

/-- No grace runs in the new state, and an arrow leads there. -/
theorem State.Steps.of_move {s t : State} (hst : s.dev.st.moves t.dev.st = true) (hg : t.dev.grace = none) :
    s.Steps t :=
  ⟨fun _ => .inr hst, fun _ => by simp [State.graceOk, hg]⟩

/-- What the fail-safe choices and the boot image leave of the device part. -/
structure Dev.SameBoot (d e : Dev) : Prop where
  st : e.st = d.st
  grace : e.grace = d.grace
  causes : e.causes = d.causes
  bound : e.bound = d.bound
  straps : e.straps = d.straps
  strapsB : e.strapsB = d.strapsB
  bar0Ready : e.bar0Ready = d.bar0Ready

theorem Dev.SameBoot.refl (d : Dev) : d.SameBoot d := ⟨rfl, rfl, rfl, rfl, rfl, rfl, rfl⟩

theorem Dev.SameBoot.trans {d e f : Dev} (h : d.SameBoot e) (h' : e.SameBoot f) : d.SameBoot f :=
  ⟨h'.st.trans h.st, h'.grace.trans h.grace, h'.causes.trans h.causes, h'.bound.trans h.bound,
    h'.straps.trans h.straps, h'.strapsB.trans h.strapsB, h'.bar0Ready.trans h.bar0Ready⟩

theorem Dev.SameBoot.of_eq {d e f : Dev} (h : d.SameBoot e) (hf : f = e) : d.SameBoot f := hf ▸ h

theorem State.selectSafe_sameBoot (s : State) : s.dev.SameBoot s.selectSafe.dev := ⟨rfl, rfl, rfl, rfl, rfl, rfl, rfl⟩

theorem State.imageFailed_sameBoot (s : State) (n fall : Nat) (prevBad : Bool) :
    s.dev.SameBoot (s.imageFailed n fall prevBad).dev := by
  constructor <;> simp [State.imageFailed]

theorem State.bootImage_sameBoot (s : State) (reads : List Bool) : s.dev.SameBoot (s.bootImage reads).dev := by
  have himage : ∀ (t : State) (n fall : Nat) (b : Bool), t.dev = s.dev → s.dev.SameBoot (t.imageFailed n fall b).dev :=
    fun t n fall b ht => ht ▸ t.imageFailed_sameBoot n fall b
  have hsame : ∀ t : State, t.dev = s.dev → s.dev.SameBoot t.dev := fun t ht => (Dev.SameBoot.refl _).of_eq ht
  unfold State.bootImage
  extract_lets t l act prev
  have ht : t.dev = s.dev := by simp [t]
  split
  · exact hsame _ ht
  · split
    · exact hsame _ ht
    · split
      · exact hsame _ (by simp [ht])
      · split
        · exact himage _ _ _ _ ht
        · split
          · exact himage _ _ _ _ (by simp [ht])
          · exact himage _ _ _ _ ht

theorem State.bootConfigure_sameBoot (s : State) : s.dev.SameBoot s.bootConfigure.dev := by
  refine (((Dev.SameBoot.refl s.dev).of_eq (f := (s.configure true).dev) (by simp)).trans
    (State.selectSafe_sameBoot _)).of_eq ?_
  simp [State.bootConfigure]

@[simp] theorem State.loopsArm_dev (s : State) : s.loopsArm.dev = s.dev :=
  State.each_dev _ _ _ fun u n => by split <;> simp

@[simp] theorem State.selectSafe_kept (s : State) :
    s.selectSafe.dev.st = s.dev.st ∧ s.selectSafe.dev.grace = s.dev.grace := ⟨rfl, rfl⟩

@[simp] theorem State.releaseOutputs_kept (s : State) :
    s.releaseOutputs.dev.st = s.dev.st ∧ s.releaseOutputs.dev.grace = s.dev.grace := by
  unfold State.releaseOutputs
  dsimp only
  split <;> simp

@[simp] theorem State.fireEnd_kept (s : State) (st : Status) (res : BitVec 128) :
    (s.fireEnd st res).dev.st = s.dev.st ∧ (s.fireEnd st res).dev.grace = s.dev.grace := by
  unfold State.fireEnd
  dsimp only
  split <;> simp

theorem State.fireEnd_steps {s t : State} (h : t.dev = s.dev) (st : Status) (res : BitVec 128) :
    s.Steps (t.fireEnd st res) := .of_kept (by simp [h]) (by simp [h])

theorem State.fireDone_steps (s : State) (flashOk readbackOk : Bool) : s.Steps (s.fireDone flashOk readbackOk) := by
  unfold State.fireDone
  split
  · exact .of_dev rfl
  · split
    · exact State.fireEnd_steps rfl _ _
    · exact .ite (State.fireEnd_steps (by simp) _ _) (State.fireEnd_steps (by simp) _ _)

/-! ### Reset and BOOT (R33, R41 to R49) -/

@[simp] theorem State.assertReset_st (s : State) (src hold : Nat) : (s.assertReset src hold).dev.st = .reset := rfl

@[simp] theorem State.assertReset_grace (s : State) (src hold : Nat) : (s.assertReset src hold).dev.grace = none := rfl

/-- Every state has an arrow to RESET. -/
theorem State.resetNow_steps (s t : State) (src hold : Nat) : s.Steps (t.resetNow src hold) :=
  .of_move rfl rfl

@[simp] theorem execPowerOnReset_steps (dt vbat hold held : Nat) (s : State) :
    Out.Steps s (execPowerOnReset dt vbat hold held s) :=
  (State.Steps.ite (State.resetNow_steps _ _ 0 0) (.of_dev (by simp))).row (dt := dt)

@[simp] theorem execResetnLow_steps (dt lowNs : Nat) (s : State) : Out.Steps s (execResetnLow dt lowNs s) := by
  apply State.Steps.row (dt := dt)
  exact .thenKept (t := if _ then _ else _) (.ite (State.resetNow_steps _ _ 1 _) (.of_dev (by simp))) rfl rfl

@[simp] theorem execWatchdogTimeout_steps (dt core : Nat) (s : State) : Out.Steps s (execWatchdogTimeout dt core s) :=
  (State.Steps.ite (State.resetNow_steps _ _ 3 _) (.of_dev rfl)).row (dt := dt)

@[simp] theorem execSaggarReset_steps (dt : Nat) (s : State) : Out.Steps s (execSaggarReset dt s) :=
  (State.Steps.ite (State.resetNow_steps _ _ 4 _) (.of_dev rfl)).row (dt := dt)

@[simp] theorem execModuleResetAssert_steps (dt : Nat) (s : State) : Out.Steps s (execModuleResetAssert dt s) := by
  apply State.Steps.row (dt := dt)
  split
  · exact .ite (State.resetNow_steps _ _ 2 _) (.of_dev rfl)
  · exact .of_dev rfl

@[simp] theorem execResetRelease_steps (dt : Nat) (straps : List StrapReading) (vhio vbat : Nat) (s : State) :
    Out.Steps s (execResetRelease dt straps vhio vbat s) := by
  apply State.Steps.row (dt := dt)
  refine .ite (.of_kept ?_ ?_) (.of_dev (by simp)) <;> split <;> simp

@[simp] theorem execStartupComplete_steps (dt : Nat) (s : State) : Out.Steps s (execStartupComplete dt s) := by
  apply State.Steps.row (dt := dt)
  by_cases hst : s.dev.st = .reset
  · refine .ite (.of_inactive (by simp [hst, DevState.active]) ?_ ?_) (.of_dev rfl)
    · dsimp only
      split <;> simp [hst, DevState.moves]
    · dsimp only
      split <;> simp
  · exact .of_dev (by rw [if_neg (by simp [hst])])

theorem State.MayFault.faultnReleased {s t : State} (h : s.MayFault t) :
    s.MayFault (t.updDev (fun d => { d with bootFaultn := false })) := h.trans (.of_kept rfl rfl)

/-- BAR0 answers (R49). -/
abbrev State.bar0Opened (s : State) : State := s.updDev (fun d => { d with bar0Ready := true })

/-- The state once BOOT has stored its records, chosen an image, tested the charge and set the outputs up (R48, R49). -/
def State.bootPrepared (s : State) (b : BootObs) : State :=
  ((s.bar0Opened.bootRecords.bootImage b.slotReads).bootCharge b).bootConfigure

theorem State.bootPrepared_sameBoot (s : State) (b : BootObs) : s.bar0Opened.dev.SameBoot (s.bootPrepared b).dev := by
  have hrecords := (Dev.SameBoot.refl s.bar0Opened.dev).of_eq (f := s.bar0Opened.bootRecords.dev) (by simp)
  have himage := hrecords.trans (State.bootImage_sameBoot _ b.slotReads)
  have hcharge := himage.of_eq (f := ((s.bar0Opened.bootRecords.bootImage b.slotReads).bootCharge b).dev) (by simp)
  exact hcharge.trans (State.bootConfigure_sameBoot _)

theorem State.bootPrepared_mayFault (s : State) (b : BootObs) : s.MayFault (s.bootPrepared b) :=
  .of_kept (s.bootPrepared_sameBoot b).st (s.bootPrepared_sameBoot b).grace

/-- BOOT ends in SAFE, or in FAULT where a cause is present (R48). -/
theorem State.bootEnds_steps {s u : State} (hs : s.dev.st = .boot) (h : s.MayFault u) :
    s.Steps (match u.dev.causes with
      | [] => u.releaseForce.enter .safe causeBoot
      | c :: _ => (u.updLane 2 (fun l => { l with force := true })).enter .fault c.code) := by
  have hu : u.dev.st = .boot := by simpa [hs, DevState.booted] using h.st
  refine ⟨fun _ => .inr ?_, fun hg hi => ?_⟩
  · split <;> simp [hs, State.enter_dev, DevState.moves]
  · have hnone : u.dev.grace.isSome = false := by simpa [State.graceOk, hu, DevState.active] using h.grace hg
    split at hi <;> simp [State.enter_dev, hnone] at hi

@[simp] theorem execBootComplete_steps (dt : Nat) (b : BootObs) (s : State) : Out.Steps s (execBootComplete dt b s) := by
  apply State.Steps.row (dt := dt)
  by_cases hst : s.dev.st = .boot
  · refine .ite (.of_dev rfl) (.ite (.of_kept rfl rfl) (State.bootEnds_steps (by simp [hst]) ?_))
    have hprep := (s.advance dt).bootPrepared_mayFault b
    unfold State.bootPrepared at hprep
    exact .faultnReleased (.thenIf (.thenIf (.thenIf (.thenIf
      (.ite hprep (hprep.trans ((State.moduleWide_mayFault _ _ 2).before (by simp))))
      (State.moduleWide_mayFault _ _ 2)) (State.moduleWide_mayFault _ _ 2)) (State.safenFault_mayFault _))
      (State.moduleWide_mayFault _ _ 2))
  · exact .of_dev (by rw [if_pos (by simp [hst])])

@[simp] theorem execLinkUp_steps (dt : Nat) (s : State) : Out.Steps s (execLinkUp dt s) :=
  (State.Steps.ite (.of_kept (by simp) (by simp)) (.of_dev rfl)).row (dt := dt)

@[simp] theorem execFiringComplete_steps (dt : Nat) (flashOk readbackOk : Bool) (s : State) :
    Out.Steps s (execFiringComplete dt flashOk readbackOk s) :=
  (State.fireDone_steps _ _ _).row

/-! ### The speed comparison of a planner cycle (R34) -/

theorem State.speedCompare_steps (s : State) : s.Steps s.speedCompare := by
  have hwork : s.dev.st = .working → ∀ k, s.Steps (s.enter .parked k) := fun h k =>
    ⟨fun _ => .inr (by simp [State.enter_dev, h, DevState.moves]), fun hg hi => by simp [State.enter_dev, DevState.active]⟩
  unfold State.speedCompare
  dsimp only
  split
  next h =>
    exact .ite ⟨fun _ => .inr (by simp [State.enter_dev, h, DevState.moves]),
      fun hg hi => by simp [State.enter_dev, DevState.active]⟩ (.of_dev rfl)
  next h => exact .ite (hwork h _) (.ite (hwork h _) (.of_dev rfl))
  next => exact .of_dev rfl

@[simp] theorem State.applyPatches_dev (s : State) (early : Bool) : (s.applyPatches early).dev = s.dev :=
  State.each_dev _ _ _ fun u w => by (repeat' split) <;> simp

@[simp] theorem State.applyFresh_dev (s : State) : s.applyFresh.dev = s.dev :=
  State.each_dev _ _ _ fun u x => by split <;> simp

@[simp] theorem State.applyRates_dev (s : State) : s.applyRates.dev = s.dev :=
  State.each_dev _ _ _ fun u w => by (repeat' split) <;> simp

theorem State.planCycle_steps (s : State) : s.Steps s.planCycle :=
  s.speedCompare_steps.after (by simp [State.planCycle, State.cycleInputs])

@[simp] theorem execPlannerCycleStart_steps (dt : Nat) (s : State) : Out.Steps s (execPlannerCycleStart dt s) :=
  (State.Steps.ite ((State.graceFirst_fallsSafe _).steps_trans (State.planCycle_steps _)) (.of_dev rfl)).row (dt := dt)

end Sys2Proof.Machine
end

section
/-! Host commands and the device state: what taking one comes to, and the rows of the commands that leave it. -/

namespace Sys2Proof.Machine

/-! ### A command's verdict -/

/-- The state that a verdict goes on from. -/
def Verdict.state : Verdict → State
  | .done _ _ s => s
  | .wait _ _ s => s

@[simp] theorem Verdict.state_done (st : Status) (res : BitVec 128) (s : State) :
    (Verdict.done st res s).state = s := by simp only [Verdict.state]

@[simp] theorem Verdict.state_wait (dma : Bool) (aux : List Nat) (s : State) :
    (Verdict.wait dma aux s).state = s := by simp only [Verdict.state]

@[simp] theorem Verdict.state_ite (c : Prop) [Decidable c] (v w : Verdict) :
    (if c then v else w).state = if c then v.state else w.state := apply_ite Verdict.state c v w

@[simp] theorem checks_dev {s : State} {k : Verdict} (ex content : Bool) (holder : Option (BitVec 16))
    (allowed : Option Status) (hk : k.state.dev = s.dev) : (checks s ex content holder allowed k).state.dev = s.dev := by
  unfold checks
  (repeat' split) <;> simp [hk]

@[simp] theorem checks_mt {s : State} {k : Verdict} (ex content : Bool) (holder : Option (BitVec 16))
    (allowed : Option Status) (hk : k.state.time.mt = s.time.mt) :
    (checks s ex content holder allowed k).state.time.mt = s.time.mt := by
  unfold checks
  (repeat' split) <;> simp [hk]

@[simp] theorem report_kept (op : Byte) (h : Hdr) (rep : Ref) (items : List Item) (s : State) :
    (report op h rep items s).state.dev = s.dev ∧ (report op h rep items s).state.time = s.time := by
  unfold report
  dsimp only
  split <;> simp

@[simp] theorem State.sxCmd_dev {s : State} {k : Verdict} (hk : k.state.dev = s.dev) : (s.sxCmd k).state.dev = s.dev :=
  checks_dev _ _ _ _ hk

@[simp] theorem State.sxCmd_mt {s : State} {k : Verdict} (hk : k.state.time.mt = s.time.mt) :
    (s.sxCmd k).state.time.mt = s.time.mt := checks_mt _ _ _ _ hk

/-! ### What taking a command comes to (R35, R360, R374) -/

/-- What a command may do between `s` and `t`, taken where a grace has not run out: the device state goes along one arrow
at most, time stands still, and a grace ends or goes on. -/
structure State.Commanded (s t : State) : Prop where
  steps : s.Steps t
  time : t.time.mt = s.time.mt
  grace : t.dev.grace = none ∨ t.dev.grace = s.dev.grace

section
variable {s t u : State}

theorem State.Commanded.of_dev (hd : t.dev = s.dev) (ht : t.time.mt = s.time.mt) : s.Commanded t :=
  ⟨.of_dev hd, ht, .inr (by rw [hd])⟩

theorem State.Commanded.of_kept (hst : t.dev.st = s.dev.st) (hg : t.dev.grace = s.dev.grace) (ht : t.time.mt = s.time.mt) :
    s.Commanded t := ⟨.of_kept hst hg, ht, .inr hg⟩

theorem State.Commanded.of_move (hst : s.dev.st.moves t.dev.st = true) (hg : t.dev.grace = none) (ht : t.time.mt = s.time.mt) :
    s.Commanded t := ⟨.of_move hst hg, ht, .inl hg⟩

theorem State.Commanded.before (h : t.Commanded u) (hd : t.dev = s.dev) (ht : t.time.mt = s.time.mt) : s.Commanded u :=
  ⟨h.steps.before hd, h.time.trans ht, hd ▸ h.grace⟩

theorem State.Commanded.after (h : s.Commanded t) (hd : u.dev = t.dev) (ht : u.time.mt = t.time.mt) : s.Commanded u :=
  ⟨h.steps.after hd, ht.trans h.time, by rw [hd]; exact h.grace⟩

theorem State.Commanded.ite {c : Prop} [Decidable c] (ht : s.Commanded t) (hu : s.Commanded u) :
    s.Commanded (if c then t else u) := by
  split
  · exact ht
  · exact hu

end

@[simp] theorem State.graceFirst_time (s : State) : s.graceFirst.time = s.time := by
  unfold State.graceFirst
  (repeat' split) <;> simp [State.graceExpires]

/-- A grace is over, or is what it was, once one that has run out has ended. -/
theorem State.graceFirst_grace (s : State) : s.graceFirst.dev.grace = none ∨ s.graceFirst.dev.grace = s.dev.grace := by
  unfold State.graceFirst
  (repeat' split) <;> simp

theorem State.command_commanded {s : State} {dt : Nat} {op : Byte} {cmd : Instr} {h : Hdr} {body : State → Verdict}
    (hb : ∀ u : State, u.admits op.toNat = true → u.Commanded (body u).state) :
    (s.advance dt).Commanded (s.command dt op cmd h body) := by
  have htake : (s.advance dt).graceFirst.Commanded (s.command dt op cmd h body) := by
    refine .ite ?_ (.of_dev rfl rfl)
    obtain ⟨t, ht, hwrong | ⟨ha, st, res, u, hu, hdone⟩ | ⟨ha, dma, aux, u, hu, hwait⟩⟩ :=
      State.take_cases (s.advance dt).graceFirst op cmd h body
    · rw [hwrong.2]
      exact .of_dev (by simp [ht]) (by simp [ht])
    · rw [hdone]
      have hstep := hb t ha
      rw [hu] at hstep
      exact (hstep.before (by simp [ht]) (by simp [ht])).after (by simp) (by simp)
    · rw [hwait]
      have hstep := hb t ha
      rw [hu] at hstep
      exact (hstep.before (by simp [ht]) (by simp [ht])).after (by cases dma <;> simp) (by cases dma <;> simp)
  refine ⟨(State.graceFirst_fallsSafe _).steps_trans htake.steps, htake.time.trans (by simp), ?_⟩
  rcases htake.grace with hnone | hsame
  · exact .inl hnone
  · exact hsame ▸ State.graceFirst_grace _

/-- Whatever next state the outcome gives, a command has been taken `dt` ticks on. -/
def Out.Commanded (s : State) (dt : Nat) (o : Out) : Prop := ∀ t, o = .next t → (s.advance dt).Commanded t

theorem Out.Commanded.steps {s : State} {dt : Nat} {o : Out} (h : Out.Commanded s dt o) : Out.Steps s o :=
  fun t ht => (h t ht).steps.before (by simp)

theorem Out.commanded_command {s : State} {dt : Nat} {op : Byte} {cmd : Instr} {h : Hdr} {body : State → Verdict}
    (hb : ∀ u : State, u.admits op.toNat = true → u.Commanded (body u).state) :
    Out.Commanded s dt (.next (s.command dt op cmd h body)) :=
  fun _ ht => Host.Outcome.next.inj ht ▸ State.command_commanded hb

/-- A command row keeps the device part and the time where its body does. -/
@[simp] theorem Out.commanded_command_of_kept {s : State} {dt : Nat} {op : Byte} {cmd : Instr} {h : Hdr}
    {body : State → Verdict} (hb : ∀ u : State, (body u).state.dev = u.dev ∧ (body u).state.time.mt = u.time.mt) :
    Out.Commanded s dt (.next (s.command dt op cmd h body)) :=
  Out.commanded_command fun u _ => .of_dev (hb u).1 (hb u).2

@[simp] theorem Out.steps_command_of_kept {s : State} {dt : Nat} {op : Byte} {cmd : Instr} {h : Hdr}
    {body : State → Verdict} (hb : ∀ u : State, (body u).state.dev = u.dev ∧ (body u).state.time.mt = u.time.mt) :
    Out.Steps s (.next (s.command dt op cmd h body)) := (Out.commanded_command_of_kept hb).steps

/-! ### Commands that leave the device part and the time -/

@[simp] theorem cmdMaintAbort_kept (target : BitVec 16) (s : State) :
    (cmdMaintAbort target s).state.dev = s.dev ∧ (cmdMaintAbort target s).state.time.mt = s.time.mt := by
  unfold cmdMaintAbort
  dsimp only
  (repeat' split) <;> simp

@[simp] theorem cmdMaintStart_kept (h : Hdr) (result : DWord) (act loop : Nat) (s : State) :
    (cmdMaintStart h result act loop s).state.dev = s.dev ∧ (cmdMaintStart h result act loop s).state.time.mt = s.time.mt := by
  unfold cmdMaintStart
  dsimp only
  (repeat' split) <;> simp

@[simp] theorem State.actItems_kept (s : State) (as : List Activity) :
    (s.actItems as).2.dev = s.dev ∧ (s.actItems as).2.time = s.time := by
  induction as generalizing s with
  | nil => exact ⟨rfl, rfl⟩
  | cons a as ih => simp [State.actItems, ih]

@[simp] theorem cmdTilePatch_kept (rate dma : Bool) (offset len : Nat) (tx ty : BitVec 16) (data : BitVec 128) (s : State) :
    (cmdTilePatch rate dma offset len tx ty data s).state.dev = s.dev ∧
      (cmdTilePatch rate dma offset len tx ty data s).state.time.mt = s.time.mt := by
  unfold cmdTilePatch
  exact ⟨checks_dev _ _ _ _ (by split <;> simp), checks_mt _ _ _ _ (by split <;> simp)⟩

@[simp] theorem cmdLsSet_kept (mask : BitVec 16) (mode : Nat) (duty : Q16) (s : State) :
    (cmdLsSet mask mode duty s).state.dev = s.dev ∧ (cmdLsSet mask mode duty s).state.time.mt = s.time.mt := by
  unfold cmdLsSet
  split
  · simp
  · refine ⟨checks_dev _ _ _ _ ?_, checks_mt _ _ _ _ ?_⟩
    · dsimp only [Verdict.state]
      rw [State.each_dev _ _ _ fun u n => by split <;> simp]
      simp
    · dsimp only [Verdict.state]
      rw [State.each_time _ _ _ fun u n => by split <;> simp]
      simp

@[simp] theorem cmdTileInvalidate_kept (tx0 ty0 tx1 ty1 : BitVec 16) (mode : Nat) (s : State) :
    (cmdTileInvalidate tx0 ty0 tx1 ty1 mode s).state.dev = s.dev ∧
      (cmdTileInvalidate tx0 ty0 tx1 ty1 mode s).state.time.mt = s.time.mt := by
  simp [cmdTileInvalidate]

@[simp] theorem cmdValveDelayReset_kept (h : Hdr) (mask : BitVec 96) (s : State) :
    (cmdValveDelayReset h mask s).state.dev = s.dev ∧ (cmdValveDelayReset h mask s).state.time.mt = s.time.mt := by
  simp [cmdValveDelayReset]

@[simp] theorem cmdSeqSetK_kept (group : Nat) (mask : BitVec 8) (which en : BitVec 4) (ks : List (BitVec 16)) (s : State) :
    (cmdSeqSetK group mask which en ks s).state.dev = s.dev ∧ (cmdSeqSetK group mask which en ks s).state.time.mt = s.time.mt := by
  simp [cmdSeqSetK]

@[simp] theorem cmdLoopStatus_kept (h : Hdr) (rep : Ref) (mask : Word) (clearSat : Bool) (s : State) :
    (cmdLoopStatus h rep mask clearSat s).state.dev = s.dev ∧ (cmdLoopStatus h rep mask clearSat s).state.time.mt = s.time.mt := by
  simp [cmdLoopStatus]

@[simp] theorem cmdFdSet_kept (mask levels : Word) (s : State) :
    (cmdFdSet mask levels s).state.dev = s.dev ∧ (cmdFdSet mask levels s).state.time.mt = s.time.mt := by
  simp [cmdFdSet]

@[simp] theorem cmdFdClear_kept (mask : Word) (s : State) :
    (cmdFdClear mask s).state.dev = s.dev ∧ (cmdFdClear mask s).state.time.mt = s.time.mt := by
  simp [cmdFdClear]

@[simp] theorem cmdSxExclude_kept (incl : Bool) (signal svid : Byte) (sys : Nat) (s : State) :
    (cmdSxExclude incl signal svid sys s).state.dev = s.dev ∧ (cmdSxExclude incl signal svid sys s).state.time.mt = s.time.mt := by
  simp [cmdSxExclude]

@[simp] theorem cmdSxRaw_kept (en : Bool) (s : State) :
    (cmdSxRaw en s).state.dev = s.dev ∧ (cmdSxRaw en s).state.time.mt = s.time.mt := by
  simp [cmdSxRaw]

@[simp] theorem State.ftInvalid_mt (s : State) : s.ftInvalid.time.mt = s.time.mt := by
  unfold State.ftInvalid
  split <;> simp

/-- A cold start makes the wall time invalid; MT goes on (R71). -/
@[simp] theorem cmdSxRestart_kept (kind : Nat) (s : State) :
    (cmdSxRestart kind s).state.dev = s.dev ∧ (cmdSxRestart kind s).state.time.mt = s.time.mt := by
  unfold cmdSxRestart
  refine ⟨checks_dev _ _ _ _ ?_, checks_mt _ _ _ _ ?_⟩
  · rw [Verdict.state_done]
    split <;> simp
  · rw [Verdict.state_done]
    split <;> simp

/-! ### Commands that move the device state (R33, R34, R50) -/

theorem State.legalIn_of_admits {s : State} {op : Nat} (h : s.admits op = true) : legalIn op s.dev.st = true := by
  simp only [State.admits, Bool.and_eq_true] at h
  exact h.1.1.1

theorem State.grace_none_of_admits {s : State} {op : Nat} (h : s.admits op = true) (hop : firstRow op = false)
    (h1 : op ≠ 1) : s.dev.grace = none := by
  simp only [State.admits, Bool.and_eq_true] at h
  simpa [hop, h1] using h.1.2

theorem checks_commanded {s : State} {k : Verdict} (ex content : Bool) (holder : Option (BitVec 16))
    (allowed : Option Status) (hk : s.Commanded k.state) : s.Commanded (checks s ex content holder allowed k).state := by
  unfold checks
  (repeat' split) <;> simp [hk, State.Commanded.of_dev]

/-- A command that is legal only in states with an arrow to `new` enters it along that arrow. -/
theorem State.enter_commanded {u t : State} {op : Nat} {new : DevState} (ha : u.admits op = true)
    (hop : ∀ d, legalIn op d = true → d.moves new = true) (hrow : firstRow op = false ∧ op ≠ 1)
    (hg : t.dev.grace = u.dev.grace) (ht : t.time = u.time) (k : Nat) : u.Commanded (t.enter new k) :=
  .of_move (by simpa [State.enter_dev] using hop _ (State.legalIn_of_admits ha))
    (by simp [State.enter_dev, hg, State.grace_none_of_admits ha hrow.1 hrow.2]) (by simp [ht])

@[simp] theorem State.setRun_kept (u : State) (on : Bool) :
    (u.setRun on).dev.st = u.dev.st ∧ (u.setRun on).dev.grace = u.dev.grace ∧ (u.setRun on).time = u.time :=
  ⟨rfl, rfl, rfl⟩

theorem State.setRun_commanded (u : State) (on : Bool) : u.Commanded (u.setRun on) := .of_kept rfl rfl rfl

theorem cmdArm_commanded {u : State} (ha : u.admits 3 = true) : u.Commanded (cmdArm u).state := by
  unfold cmdArm State.stateDone
  refine checks_commanded _ _ _ _ (State.Commanded.after (t := (u.setRun false).enter .parked causeCommand) ?_ ?_ ?_)
  · exact State.enter_commanded ha (by intro d; cases d <;> decide) (by decide) (by simp) (by simp) _
  · simp
  · simp

theorem cmdDisarm_commanded {u : State} (ha : u.admits 4 = true) : u.Commanded (cmdDisarm u).state := by
  unfold cmdDisarm State.stateDone
  refine checks_commanded _ _ _ _ ?_
  rw [Verdict.state_done]
  exact State.enter_commanded ha (by intro d; cases d <;> decide) (by decide) rfl rfl _

theorem cmdRun_commanded (u : State) : u.Commanded (cmdRun u).state := by
  unfold cmdRun State.stateDone
  exact checks_commanded _ _ _ _ (u.setRun_commanded true)

theorem cmdHold_commanded (u : State) : u.Commanded (cmdHold u).state := by
  unfold cmdHold State.stateDone
  exact checks_commanded _ _ _ _ (u.setRun_commanded false)

theorem cmdManualEnter_commanded {u : State} (ha : u.admits 7 = true) : u.Commanded (cmdManualEnter u).state := by
  unfold cmdManualEnter State.stateDone
  refine checks_commanded _ _ _ _ (State.Commanded.after (t := u.enter .manual causeCommand) ?_ ?_ ?_)
  · exact State.enter_commanded ha (by intro d; cases d <;> decide) (by decide) rfl rfl _
  · simp
  · simp

theorem cmdManualExit_commanded {u : State} (ha : u.admits 8 = true) : u.Commanded (cmdManualExit u).state := by
  unfold cmdManualExit State.stateDone
  refine checks_commanded _ _ _ _ ?_
  rw [Verdict.state_done]
  exact State.enter_commanded ha (by intro d; cases d <;> decide) (by decide) (by simp) (by simp) _

theorem cmdModuleReset_commanded (u : State) : u.Commanded (cmdModuleReset u).state := .of_kept rfl rfl rfl

theorem State.startFiring_commanded (s : State) (h : Hdr) (rollback : Bool) (n : Nat) :
    s.Commanded (s.startFiring h rollback n) :=
  .of_kept (by simp [State.startFiring]) (by simp [State.startFiring]) (by simp [State.startFiring])

theorem cmdCfgFire_commanded (h : Hdr) (digest : DWord) (u : State) : u.Commanded (cmdCfgFire h digest u).state := by
  unfold cmdCfgFire
  refine checks_commanded _ _ _ _ ?_
  simp only [Verdict.state_ite, Verdict.state_done, Verdict.state_wait]
  exact .ite (.of_dev rfl rfl) (.ite (.of_dev rfl rfl) (u.startFiring_commanded _ _ _))

theorem cmdCfgRollback_commanded (h : Hdr) (u : State) : u.Commanded (cmdCfgRollback h u).state := by
  unfold cmdCfgRollback
  refine checks_commanded _ _ _ _ ?_
  simp only [Verdict.state_ite, Verdict.state_done, Verdict.state_wait]
  exact .ite (.of_dev rfl rfl) (u.startFiring_commanded _ _ _)

@[simp] theorem State.tellOrphan_kept (s : State) :
    s.tellOrphan.dev.st = s.dev.st ∧ s.tellOrphan.dev.grace = s.dev.grace := by
  unfold State.tellOrphan
  split <;> simp

@[simp] theorem State.bindHost_kept (s : State) (resume : Bool) :
    (s.bindHost resume).dev.st = s.dev.st ∧ (s.bindHost resume).dev.grace = none ∧
      (s.bindHost resume).time = s.time := by
  simp [State.bindHost]

theorem cmdBind_commanded {u : State} (ha : u.admits 1 = true) (resume : Bool) (boot : Word) :
    u.Commanded (cmdBind resume boot u).state := by
  have hlegal : ∀ d, legalIn 1 d = true → d.moves .standby = true := by intro d; cases d <;> decide
  have hmove := hlegal _ (State.legalIn_of_admits ha)
  unfold cmdBind
  refine checks_commanded _ _ _ _ (.ite ⟨⟨fun _ => .inl (by simp), fun _ => by simp [State.graceOk]⟩, by simp, by simp⟩ ?_)
  exact .of_move (by simpa [State.enter_dev] using hmove) (by simp [State.enter_dev]) (by simp)

theorem cmdUnbind_commanded {u : State} (ha : u.admits 2 = true) : u.Commanded (cmdUnbind u).state := by
  have hnone := State.grace_none_of_admits ha (by decide) (by decide)
  unfold cmdUnbind
  refine checks_commanded _ _ _ _ ?_
  simp only [Verdict.state_done]
  split
  next hst =>
    have hst' : u.dev.st = .standby := by simpa using hst
    exact .of_move (by simp [State.enter_dev, hst', DevState.moves]) (by simp [State.enter_dev, hnone]) (by simp)
  next => exact .of_kept rfl rfl rfl

@[simp] theorem State.forgetCause_kept (s : State) (c : FCause) :
    (s.forgetCause c).dev = s.dev ∧ (s.forgetCause c).time = s.time := by
  unfold State.forgetCause
  dsimp only
  (repeat' split) <;> simp

theorem State.clearFault_commanded {u : State} (ha : u.admits 9 = true) : u.Commanded u.clearFault.state := by
  unfold State.clearFault
  simp only [Verdict.state_ite, Verdict.state_done]
  refine .ite ?_ (.of_dev rfl rfl)
  exact State.enter_commanded ha (by intro d; cases d <;> decide) (by decide) (by simp) (by simp) _

theorem cmdClearFault_commanded {u : State} (ha : u.admits 9 = true) : u.Commanded (cmdClearFault u).state := by
  unfold cmdClearFault
  exact checks_commanded _ _ _ _ (State.clearFault_commanded ha)

/-! ### The rows of the commands that move it, and of the two that are not taken as the others -/

section
variable (dt : Nat) (h : Hdr) (s : State)

@[simp] theorem execBind_commanded (resume : Bool) (boot : Word) : Out.Commanded s dt (execBind dt h resume boot s) :=
  Out.commanded_command fun _ ha => cmdBind_commanded ha resume boot

@[simp] theorem execUnbind_commanded : Out.Commanded s dt (execUnbind dt h s) :=
  Out.commanded_command fun _ ha => cmdUnbind_commanded ha

@[simp] theorem execArm_commanded : Out.Commanded s dt (execArm dt h s) :=
  Out.commanded_command fun _ ha => cmdArm_commanded ha

@[simp] theorem execDisarm_commanded : Out.Commanded s dt (execDisarm dt h s) :=
  Out.commanded_command fun _ ha => cmdDisarm_commanded ha

@[simp] theorem execRun_commanded : Out.Commanded s dt (execRun dt h s) :=
  Out.commanded_command fun u _ => cmdRun_commanded u

@[simp] theorem execHold_commanded : Out.Commanded s dt (execHold dt h s) :=
  Out.commanded_command fun u _ => cmdHold_commanded u

@[simp] theorem execManualEnter_commanded : Out.Commanded s dt (execManualEnter dt h s) :=
  Out.commanded_command fun _ ha => cmdManualEnter_commanded ha

@[simp] theorem execManualExit_commanded : Out.Commanded s dt (execManualExit dt h s) :=
  Out.commanded_command fun _ ha => cmdManualExit_commanded ha

@[simp] theorem execClearFault_commanded : Out.Commanded s dt (execClearFault dt h s) :=
  Out.commanded_command fun _ ha => cmdClearFault_commanded ha

@[simp] theorem execModuleReset_commanded : Out.Commanded s dt (execModuleReset dt h s) :=
  Out.commanded_command fun u _ => cmdModuleReset_commanded u

@[simp] theorem execCfgFire_commanded (digest : DWord) : Out.Commanded s dt (execCfgFire dt h digest s) :=
  Out.commanded_command fun u _ => cmdCfgFire_commanded h digest u

@[simp] theorem execCfgRollback_commanded : Out.Commanded s dt (execCfgRollback dt h s) :=
  Out.commanded_command fun u _ => cmdCfgRollback_commanded h u

@[simp] theorem execCanTxCancel_commanded (bus : Nat) (target : BitVec 16) (started : Bool) :
    Out.Commanded s dt (execCanTxCancel dt h bus target started s) :=
  Out.commanded_command_of_kept fun u => by
    dsimp only
    (repeat' split) <;> simp

@[simp] theorem execUnknownOpcode_commanded (op : Byte) : Out.Commanded s dt (execUnknownOpcode dt h op s) := by
  intro t ht
  rw [← Host.Outcome.next.inj ht]
  refine ⟨(State.graceFirst_fallsSafe _).steps_trans (.ite (.of_dev (by simp [State.takeUnknown])) (.of_dev rfl)), ?_, ?_⟩
  · split <;> simp [State.takeUnknown]
  · split <;> simpa [State.takeUnknown] using (s.advance dt).graceFirst_grace

end

end Sys2Proof.Machine
end

section
/-! Every row goes along one arrow of the table of R33 at most, and every command that a descriptor spells. -/

namespace Sys2Proof.Machine

/-- Every row but DESCRIPTOR_FETCH leaves the device state, or takes it along one arrow: the rows and commands that move
it by their own lemmas, the others by the laws of what they are made of. -/
theorem exec_steps (c : Instr) (s : State) (hc : ∀ dt d, c ≠ .descriptorFetch dt d) : Out.Steps s (exec c s) := by
  cases c with
  | descriptorFetch dt d => exact absurd rfl (hc dt d)
  | bind dt h resume b => exact (execBind_commanded dt h s resume b).steps
  | unbind dt h => exact (execUnbind_commanded dt h s).steps
  | arm dt h => exact (execArm_commanded dt h s).steps
  | disarm dt h => exact (execDisarm_commanded dt h s).steps
  | run dt h => exact (execRun_commanded dt h s).steps
  | hold dt h => exact (execHold_commanded dt h s).steps
  | manualEnter dt h => exact (execManualEnter_commanded dt h s).steps
  | manualExit dt h => exact (execManualExit_commanded dt h s).steps
  | clearFault dt h => exact (execClearFault_commanded dt h s).steps
  | moduleReset dt h => exact (execModuleReset_commanded dt h s).steps
  | cfgFire dt h digest => exact (execCfgFire_commanded dt h s digest).steps
  | cfgRollback dt h => exact (execCfgRollback_commanded dt h s).steps
  | canTxCancel dt h bus target started => exact (execCanTxCancel_commanded dt h s bus target started).steps
  | unknownOpcode dt h op => exact (execUnknownOpcode_commanded dt h s op).steps
  | _ =>
    simp [exec,
      execConfigRequestRetry, execSafenRelease, execSagEnter, execSagRelease, execLowFieldEnter,
      execLowFieldRelease, execBrownoutRecovery, execDriveSuspension, execDriveSuspensionEnd,
      execLoadSuspension, execLoadSuspensionEnd, execVioLow, execVioLost, execVioRestored, execVio24Overvoltage,
      execHostAccessRestored, execStatusBlockRefresh, execMsixModerationTimeout, execEvtQueueDrain,
      execTelemetryAgeDrop, execBar0BadAccess, execStagingComplete, execJournalEraseDone,
      execValveSweepComplete, execWireCheckComplete, execAutoTuneComplete, execAutoTuneTimeout,
      execSensorZeroComplete, execTileFlushComplete, execValveClearComplete, execLsClearComplete,
      execPiCountLoad, execDiagEraseComplete, execPlacementDeadline, execHoldUnacked, execHoldExpired,
      execImuInitRetry, execMeasurementEpoch, execCoastStart, execCoastUncertaintyLimit, execChannelAllocation,
      execAcquisitionDetection, execHandoverLockTimeout, execLowCn0Release, execBocJump, execPortFault,
      execPortGood, execCorrSwitch, execPrefetchRecompute, execTileRequestEnterRing, execWritebackDue,
      execWritebackComplete, execTileTimeout, execEdgeHandover, execEdgeRelease, execSeqStoreCompare,
      execSeqReload, execBoostGrant, execBoostRefusal, execWaitiEnd, execWaitiTimeout, execWaittExpiry,
      execArrivalWindowTimeout, execArrivalDetected, execDecayEnd, execMinOffElapsed, execMarkBufferDrain,
      execOffStateTest, execShortSupplyTrip, execOpenLoadOn, execRailLeak, execValveReadbackMismatch, execTied,
      execRailOvercurrent, execRailOverload, execChOverload, execBstOv, execBstFail, execBstFailClear,
      execTraceWrite, execLsPwmPeriodStart, execLsTrip, execLsShortTrip, execLsTripCountReset,
      execInrushBudgetSpent, execThermalShutdown, execThermalRestart, execLsOffStateTest, execLsOpenLoadOn,
      execDownFrame, execDownFrameReceived, execDownFrameMissed, execUpFrame, execFieldRxLost,
      execSilenceTimeout, execResetSymbol, execForceSafeSymbol, execFieldClockFail, execFdChange, execWireBreak,
      execFdOverload, execBankOverload, execFdOpenLoad, execPinDriven, execAiReading, execAiValid,
      execMa20ShuntDisconnect, execSxFault, execSxRetry, execPiEdge, execExtevEdge, execBusFault, execBusStuck,
      execBusLineClear, execPeriodicFrame, execSyncFrame, execBusRecovered, execVhioRestored,
      execDiagStarvation, execValveDiagNowComplete, execLsDiagNowComplete, execBusIntegration,
      execVbatOvervoltageRelease, execVio24OvervoltageRelease, execSextantSelfTestComplete,
      execFieldOriginComplete, execTileRecordRead, execTileRetry, execLoopSample, execNop, execHeartbeat,
      cmdHeartbeat, execStateQuery, execTelSelect, cmdTelSelect, execCfgStage, cmdCfgStage, execCfgStatus,
      execMaintStart, execMaintAbort, execMaintStatus, cmdMaintStatus, execTilePatch, execTileInvalidate,
      execTileFlush, cmdTileFlush, execRateTable, execTileStatus, execPlanSectionEnable, cmdPlanSectionEnable,
      execPlanManual, cmdPlanManual, execPlanHoldAck, cmdPlanHoldAck, execPlanStatus, cmdPlanStatus,
      execFieldOrigin, cmdFieldOrigin, execFusionStatus, execFusionReset, execValveStatus, cmdValveStatus,
      execValveClear, cmdValveClear, execValveDelayReset, execValveDiagNow, cmdValveDiagNow, execSeqStatus,
      cmdSeqStatus, execSeqRead, cmdSeqRead, execSeqSetK, execLoopStatus, execLoopClose, cmdLoop, execLoopOpen,
      execLoopSetpoint, execLoopOutput, execLoopCoef, execLoopClear, execTraceArm, cmdTraceArm, execTraceStop,
      cmdTraceStop, execTraceStatus, execLsSet, execLsStatus, execLsClear, cmdLsClear, execLsDiagNow,
      cmdLsDiagNow, execFdSet, execFdStatus, execFdClear, execAiStatus, execPiStatus, execPiCountSet,
      cmdPiCountSet, execSxSet, cmdSxSet, execCanStatus, execCanBusRecover, execCanMode, execCanRateDetect,
      execCanSlotRead, execCanFilterSet, execIsoClaim, execSxStatus, execSxAidTime, cmdSxAidTime, execSxAidPos,
      cmdSxAidPos, execSxAidOrbit, execSxRestart, execSxExclude, execSxRaw, execDiagRecords, cmdDiagRecords,
      execDiagCounters, execSaggarStatus, execDiagErase, cmdDiagErase]

/-! ### The commands that descriptors spell -/

theorem decodeLow_commanded {d : Desc} {op : Nat} {h : Hdr} {c : Instr} (hc : decodeLow d op h = some c) (s : State) :
    Out.Commanded s 0 (exec c s) := by
  unfold decodeLow at hc
  dsimp only at hc
  split at hc
  all_goals cases hc
  all_goals simp [exec,
      execNop, execHeartbeat, cmdHeartbeat, execStateQuery, execTelSelect, cmdTelSelect, execCfgStage,
      cmdCfgStage, execCfgStatus, execMaintStart, execMaintAbort, execMaintStatus, cmdMaintStatus,
      execTilePatch, execTileInvalidate, execTileFlush, cmdTileFlush, execRateTable, execTileStatus,
      execPlanSectionEnable, cmdPlanSectionEnable, execPlanManual, cmdPlanManual, execPlanHoldAck,
      cmdPlanHoldAck, execPlanStatus, cmdPlanStatus, execFieldOrigin, cmdFieldOrigin, execFusionStatus,
      execFusionReset]

theorem decodeMid_commanded {d : Desc} {op : Nat} {h : Hdr} {c : Instr} (hc : decodeMid d op h = some c) (s : State) :
    Out.Commanded s 0 (exec c s) := by
  unfold decodeMid at hc
  dsimp only at hc
  split at hc
  all_goals cases hc
  all_goals simp [exec,
      execValveStatus, cmdValveStatus, execValveClear, cmdValveClear, execValveDelayReset, execValveDiagNow,
      cmdValveDiagNow, execSeqStatus, cmdSeqStatus, execSeqRead, cmdSeqRead, execSeqSetK, execLoopStatus,
      execLoopClose, cmdLoop, execLoopOpen, execLoopSetpoint, execLoopOutput, execLoopCoef, execLoopClear,
      execTraceArm, cmdTraceArm, execTraceStop, cmdTraceStop, execTraceStatus]

theorem decodeHigh_commanded {d : Desc} {op : Nat} {h : Hdr} {c : Instr} (hc : decodeHigh d op h = some c) (s : State) :
    Out.Commanded s 0 (exec c s) := by
  unfold decodeHigh at hc
  dsimp only at hc
  split at hc
  all_goals cases hc
  all_goals simp [exec,
      execLsSet, execLsStatus, execLsClear, cmdLsClear, execLsDiagNow, cmdLsDiagNow, execFdSet, execFdStatus,
      execFdClear, execAiStatus, execPiStatus, execPiCountSet, cmdPiCountSet, execSxSet, cmdSxSet,
      execCanStatus, execCanBusRecover, execCanMode, execCanRateDetect, execCanSlotRead, execCanFilterSet,
      execIsoClaim, execSxStatus, execSxAidTime, cmdSxAidTime, execSxAidPos, cmdSxAidPos, execSxAidOrbit,
      execSxRestart, execSxExclude, execSxRaw, execDiagRecords, cmdDiagRecords, execDiagCounters,
      execSaggarStatus, execDiagErase, cmdDiagErase]

end Sys2Proof.Machine
end

section
/-! DESCRIPTOR_FETCH followed command by command, and the claims about the device state. -/

namespace Sys2Proof.Machine

/-! ### The commands that descriptors spell -/

theorem decodeCmd_commanded (d : Desc) (s : State) : Out.Commanded s 0 (exec (decodeCmd d) s) := by
  unfold decodeCmd
  extract_lets op h i
  cases hi : i with
  | none => exact execUnknownOpcode_commanded 0 h s (BitVec.ofNat 8 op)
  | some c =>
    simp only [i] at hi
    split at hi
    · exact decodeLow_commanded hi s
    · split at hi
      · exact decodeMid_commanded hi s
      · exact decodeHigh_commanded hi s

theorem decodeLow_ne_canTxCancel {d : Desc} {op : Nat} {h k : Hdr} {dt b : Nat} {t : BitVec 16} {x : Bool} :
    decodeLow d op h ≠ some (.canTxCancel dt k b t x) := by
  intro hc
  unfold decodeLow at hc
  dsimp only at hc
  split at hc <;> cases hc

theorem decodeMid_ne_canTxCancel {d : Desc} {op : Nat} {h k : Hdr} {dt b : Nat} {t : BitVec 16} {x : Bool} :
    decodeMid d op h ≠ some (.canTxCancel dt k b t x) := by
  intro hc
  unfold decodeMid at hc
  dsimp only at hc
  split at hc <;> cases hc

theorem decodeHigh_canTxCancel {d : Desc} {op : Nat} {h k : Hdr} {dt b : Nat} {t : BitVec 16} {x : Bool}
    (hc : decodeHigh d op h = some (.canTxCancel dt k b t x)) : op = 0x81 ∧ dt = 0 := by
  unfold decodeHigh at hc
  dsimp only at hc
  split at hc <;> cases hc
  exact ⟨rfl, rfl⟩

theorem decodeCmd_canTxCancel {d : Desc} {k : Hdr} {dt b : Nat} {t : BitVec 16} {x : Bool}
    (hc : decodeCmd d = .canTxCancel dt k b t x) : cmdField d 0 8 = 0x81 ∧ dt = 0 := by
  unfold decodeCmd at hc
  extract_lets op h i at hc
  cases hi : i with
  | none =>
    rw [hi] at hc
    cases hc
  | some c =>
    rw [hi, Option.getD_some] at hc
    subst hc
    simp only [i] at hi
    split at hi
    · exact absurd hi decodeLow_ne_canTxCancel
    · split at hi
      · exact absurd hi decodeMid_ne_canTxCancel
      · exact decodeHigh_canTxCancel hi

/-! ### A command in a sweep -/

theorem runCmd_cases (c : Instr) (s : State) :
    runCmd c s = s ∨ runCmd c s = nextOr s (exec c s) ∨ ∃ dt h b t x, c = .canTxCancel dt h b t x := by
  cases c with
  | canTxCancel dt h b t x => exact .inr (.inr ⟨dt, h, b, t, x, rfl⟩)
  | _ => simp [runCmd, exec]

theorem nextOr_cases (s : State) (o : Out) : nextOr s o = s ∨ o = .next (nextOr s o) := by
  cases o with
  | next t => exact .inr rfl
  | fault r => exact .inl rfl
  | refused r => exact .inl rfl

/-- A command that keeps the device part keeps it where no grace has run out. -/
theorem State.command_dev {s : State} {dt : Nat} {op : Byte} {cmd : Instr} {h : Hdr} {body : State → Verdict}
    (hl : s.graceLasts dt) (hb : ∀ u : State, (body u).state.dev = u.dev) :
    (s.command dt op cmd h body).dev = s.dev := by
  have htake : (s.advance dt).graceFirst.dev = s.dev := by simp [State.graceFirst_of_graceLasts hl]
  cases hc : (s.advance dt).graceFirst.canTake h.fence with
  | false => rw [State.command_not_taken _ _ _ _ _ _ hc, htake]
  | true =>
    rw [State.command_taken _ _ _ _ _ _ hc]
    obtain ⟨t, ht, hwrong | ⟨-, st, res, u, hu, hdone⟩ | ⟨-, dma, aux, u, hu, hwait⟩⟩ :=
      State.take_cases (s.advance dt).graceFirst op cmd h body
    · rw [hwrong.2]
      simp [ht, htake]
    · have hdev := hb t
      rw [hu] at hdev
      rw [hdone]
      simpa [ht, htake] using hdev
    · have hdev := hb t
      rw [hu] at hdev
      rw [hwait]
      cases dma <;> simpa [ht, htake] using hdev

theorem execCanTxCancel_dev {s t : State} {dt : Nat} {h : Hdr} {bus : Nat} {target : BitVec 16} {started : Bool}
    (hl : s.graceLasts dt) (ht : execCanTxCancel dt h bus target started s = .next t) : t.dev = s.dev := by
  rw [← Host.Outcome.next.inj ht]
  refine State.command_dev hl fun u => ?_
  dsimp only
  (repeat' split) <;> simp

/-- What holds of the state between the commands of a sweep: a grace runs only where it may, and has not run out. -/
structure State.InSweep (s : State) : Prop where
  grace : s.graceOk
  lasts : s.graceLasts 0

theorem State.InSweep.commanded {s t : State} (h : s.InSweep) (hc : s.Commanded t) : t.InSweep where
  grace := hc.steps.grace h.grace
  lasts := by
    have hl := h.lasts
    rcases hc.grace with hg | hg
    · simp [State.graceLasts, hg]
    · simpa [State.graceLasts, hg, State.now, hc.time] using hl

theorem State.InSweep.of_kept {s t : State} (h : s.InSweep) (hd : t.dev = s.dev) (ht : t.time.mt = s.time.mt) : t.InSweep :=
  h.commanded (.of_dev hd ht)

theorem runCmd_inSweep {ds : List Desc} {d : Desc} {u : State} (hd : d ∈ ds) (h : u.InSweep) :
    (runCmd (decodeCmd d) u = u ∨ Ran ds u (runCmd (decodeCmd d) u)) ∧ (runCmd (decodeCmd d) u).InSweep := by
  have hexec : ∀ v, exec (decodeCmd d) u = .next v → Ran ds u v ∧ v.InSweep := fun v hv => by
    have hc : u.Commanded v := by simpa using decodeCmd_commanded d u v hv
    exact ⟨⟨⟨d, hd, .inl hv⟩, hc.steps.st h.grace⟩, h.commanded hc⟩
  rcases runCmd_cases (decodeCmd d) u with hsame | hnext | ⟨dt, k, b, t, x, hcancel⟩
  · exact ⟨.inl hsame, hsame.symm ▸ h⟩
  · rw [hnext]
    rcases nextOr_cases u (exec (decodeCmd d) u) with hsame | hv
    · exact ⟨.inl hsame, hsame.symm ▸ h⟩
    · exact ⟨.inr (hexec _ hv).1, (hexec _ hv).2⟩
  · obtain ⟨hop, rfl⟩ := decodeCmd_canTxCancel hcancel
    have hfree : u.takeFree.2.InSweep := h.of_kept rfl rfl
    have hrun : execCanTxCancel 0 k b t (Config.freeBool u.takeFree.1) u.takeFree.2 = .next (runCmd (decodeCmd d) u) := by
      rw [hcancel]; rfl
    have hdev := execCanTxCancel_dev hfree.lasts hrun
    have hc := execCanTxCancel_commanded 0 k u.takeFree.2 b t (Config.freeBool u.takeFree.1) _ hrun
    exact ⟨.inr ⟨⟨d, hd, .inr ⟨hop, hdev⟩⟩, .inl (congrArg Dev.st hdev)⟩, hfree.commanded (by simpa using hc)⟩

/-- The commands of a sweep, in index order, each along one arrow at most. -/
theorem runCmds_inSweep {ds : List Desc} : ∀ (l : List Desc) (u : State), l ⊆ ds → u.InSweep →
    Relation.ReflTransGen (Ran ds) u (runCmds l u) ∧ (runCmds l u).InSweep
  | [], u, _, h => ⟨.refl, h⟩
  | d :: l, u, hl, h => by
    obtain ⟨hd, hl'⟩ := List.cons_subset.mp hl
    obtain ⟨hran, hv⟩ := runCmd_inSweep hd h
    have hfirst : Relation.ReflTransGen (Ran ds) u (runCmd (decodeCmd d) u) := by
      rcases hran with hsame | hran
      · rw [hsame]
      · exact .single hran
    unfold runCmds
    dsimp only
    split
    · exact ⟨hfirst, hv⟩
    · obtain ⟨hrest, hend⟩ := runCmds_inSweep l _ hl' hv
      exact ⟨hfirst.trans hrest, hend⟩

/-! ### DESCRIPTOR_FETCH -/

/-- A sweep's descriptors: what comes before and after the commands leaves the device part. -/
theorem State.fetched_inSweep {s : State} (f : Fetch) (h : s.InSweep) : ∃ u v, u.dev = s.dev ∧
    Relation.ReflTransGen (Ran f.cmds) u v ∧ (s.fetched f).dev = v.dev ∧ v.InSweep := by
  unfold State.fetched
  extract_lets good more reads s1 s2 s3 read early s4 s5 s6 s7 s8
  have hread : ∀ (t : State) (b : Nat), (read t b).dev = t.dev ∧ (read t b).time = t.time := fun t b => by
    simp only [read]
    split <;> simp
  have hbefore : s4.dev = s.dev ∧ s4.time = s.time := by
    constructor
    · simp only [s4, State.each_dev _ _ read fun t b => (hread t b).1]
      simp [s3, s2, s1]
    · simp only [s4, State.each_time _ _ read fun t b => (hread t b).2]
      simp [s3, s2, s1]
  have hafter : s8.sweepEnds.dev = s5.dev := by
    simp [s8, s7, s6, hread]
  have hin : s4.InSweep := h.of_kept hbefore.1 (congrArg Time.mt hbefore.2)
  refine ⟨s4, s5, hbefore.1, ?_, hafter, ?_⟩ 
  · simp only [s5]
    split
    · exact (runCmds_inSweep f.cmds s4 (List.Subset.refl _) hin).1
    · exact .refl
  · simp only [s5]
    split
    · exact (runCmds_inSweep f.cmds s4 (List.Subset.refl _) hin).2
    · exact hin

/-- A grace that has run out is over before the first command; one that runs on has not run out. -/
theorem State.graceFirst_inSweep {s : State} (hg : s.graceOk) : s.graceFirst.InSweep ∧
    (s.graceFirst.dev = s.dev ∨ s.dev.grace.isSome = true ∧ s.dev.st.active = true ∧ s.graceFirst.dev.st = .safe) := by
  unfold State.graceFirst
  split
  next g hgr =>
    split
    · exact ⟨⟨by simp [State.graceOk], by simp [State.graceLasts]⟩, .inr ⟨by simp [hgr], hg (by simp [hgr]), by simp⟩⟩
    next hend => exact ⟨⟨hg, by simpa [State.graceLasts, hgr] using hend⟩, .inl rfl⟩
  next hgr => exact ⟨⟨hg, by simp [State.graceLasts, hgr]⟩, .inl rfl⟩

/-- DESCRIPTOR_FETCH runs the commands from a state in which a grace that has run out is over. -/
theorem execDescriptorFetch_inSweep {s t : State} {dt : Nat} {f : Fetch} (hg : s.graceOk)
    (ht : exec (.descriptorFetch dt f) s = .next t) :
    ∃ u v, (u.dev = s.dev ∨ s.dev.grace.isSome = true ∧ s.dev.st.active = true ∧ u.dev.st = .safe)
      ∧ Relation.ReflTransGen (Ran f.cmds) u v ∧ t.dev = v.dev ∧ v.graceOk := by
  have hnext : execDescriptorFetch dt f s = .next t := ht
  rw [← Host.Outcome.next.inj hnext]
  split
  · exact ⟨s, s, .inl rfl, .refl, by simp, hg⟩
  · split
    · obtain ⟨hin, hfirst⟩ := State.graceFirst_inSweep (State.graceOk_of_dev (t := s.advance dt) (by simp) hg)
      obtain ⟨u, v, hu, hran, hv, hend⟩ := State.fetched_inSweep f hin
      refine ⟨u, v, ?_, hran, hv, hend.grace⟩
      simpa [hu] using hfirst
    · exact ⟨s, s, .inl rfl, .refl, by simp, hg⟩

/-- Settles O52: every row but DESCRIPTOR_FETCH goes along one arrow, and that row is followed command by command. -/
theorem transitionTable : Obligations.TransitionTable :=
  ⟨fun c s t hg hc ht => (exec_steps c s hc t ht).st hg, fun s t dt f hg ht => by
    obtain ⟨u, v, hu, hran, hv, -⟩ := execDescriptorFetch_inSweep hg ht
    exact ⟨u, v, hu, hran, hv⟩⟩

theorem exec_graceOk {c : Instr} {s t : State} (hg : s.graceOk) (ht : exec c s = .next t) : t.graceOk := by
  by_cases hc : ∃ dt f, c = .descriptorFetch dt f
  · obtain ⟨dt, f, rfl⟩ := hc
    obtain ⟨u, v, -, -, hv, hend⟩ := execDescriptorFetch_inSweep hg ht
    exact State.graceOk_of_dev hv hend
  · exact (exec_steps c s (fun dt f h => hc ⟨dt, f, h⟩) t ht).grace hg

/-- Settles O53: the rows that move the device state along the arrows of R33 keep a grace where it may run. -/
theorem graceKept : Obligations.GraceKept := by
  intro s t hg ht
  unfold step at ht
  split at ht
  next c rest _ => exact exec_graceOk (s := { s with pending := rest }) hg ht
  next =>
    rw [← Host.Outcome.next.inj ht]
    exact State.graceOk_of_dev (by simp) hg

end Sys2Proof.Machine
end

section
/-! FAULT entered by a scrub that holds swept channels: a state that no row leads to, but over which O56 ranges. -/

namespace Sys2Proof.Machine

/-- Refutes O56: FLASH_SCRUB_COMPLETE finds the firmware bad, enters FAULT with every valve off, and then ends its activity.
Where that activity (code 4) holds a swept channel, as no MAINT_START of a scrub does, and the channel's idle context
still owes an OFF, the end withdraws the channel and hands its group an edge after FAULT has been entered. -/
theorem not_faultSafesOutputs : ¬ Obligations.FaultSafesOutputs := by
  unfold Obligations.FaultSafesOutputs
  intro h
  have hoff := h (.flashScrubComplete 0 0 0 [.firmware])
    { dev := { st := .safe }
      acts := [{ code := 4, swept := [{ ch := 0 }] }]
      valves := { ch := [{ ctx := { st := .idle, offDone := false } }], grp := [{}], quad := [] } }
    _ rfl (by decide) (by decide +kernel)
  exact absurd hoff.1 (by decide +kernel)

end Sys2Proof.Machine
end

section
/-! Resets: what asserting one leaves, and the rows that assert it (R41 to R45). -/

namespace Sys2Proof.Machine

/-! ### What a reset leaves -/

/-- A reset asserted where the device part, the time, the flash, the buses and the queue are those of `dt` ticks later. -/
theorem State.resetNow_resetBy {s u : State} {dt : Nat} (src hold : Nat) (hdev : u.dev = s.dev)
    (htime : u.time = (s.advance dt).time) (hcan : u.can = s.can) (hflash : u.flash = s.flash)
    (hpending : u.pending = s.pending) : ResetBy s dt src hold (u.resetNow src hold) := by
  refine ⟨rfl, rfl, ?_, ?_, rfl, ?_, rfl, rfl, rfl, rfl, rfl, rfl, rfl, rfl, rfl, rfl, ?_, ?_, ?_⟩
  · simp [State.resetNow, State.assertReset, hdev]
  · simp [State.resetNow, State.assertReset, State.now, htime]
  · simp [State.resetNow, State.assertReset, hdev]
  · simp [State.resetNow, State.assertReset, hcan]
  · simp [State.resetNow, State.assertReset, hflash]
  · simp [State.resetNow, State.assertReset, hpending]

/-- Noting how long RESETN has been low changes nothing of what a reset leaves. -/
theorem ResetBy.resetnHigh {s t : State} {dt src hold m : Nat} (h : ResetBy s dt src hold t) :
    ResetBy s dt src hold (t.updDev (fun d => { d with resetnHigh := m })) := h

/-! ### RESETN (R41, R43) -/

/-- Whether a RESETN pulse of that length is taken: from 200 ns to 1 us a free value tells. -/
def State.takesResetn (s : State) (lowNs : Nat) : Bool :=
  decide (1000 ≤ lowNs) || (decide (200 ≤ lowNs) && Config.freeBool s.free)

/-- RESETN low for long enough to be taken resets for as long, and for 1 ms at least. -/
theorem execResetnLow_taken {s : State} {dt lowNs : Nat} (h : s.takesResetn lowNs = true) :
    Completes (.resetnLow dt lowNs) s (ResetBy s dt 1 (max 250000 (lowNs / 4))) := by
  have hreset : ResetBy s dt 1 (max 250000 (lowNs / 4)) ((s.advance dt).takeFree.2.resetNow 1 (max resetTicks (lowNs / 4))) :=
    State.resetNow_resetBy 1 _ (by simp) (by simp) (by simp) (by simp) (by simp)
  exact ⟨_, rfl, (if_pos (α := State) (c := s.takesResetn lowNs = true) h).symm ▸ hreset.resetnHigh⟩

/-- A RESETN pulse that is not taken uses a free value, and is noted. -/
theorem execResetnLow_not_taken {s : State} {dt lowNs : Nat} (h : s.takesResetn lowNs = false) :
    Completes (.resetnLow dt lowNs) s (fun t => t = { s.advance dt with free := s.free + 1, dev := t.dev }
      ∧ t.dev = { s.dev with resetnHigh := t.dev.resetnHigh }) := by
  have hnot : ¬ s.takesResetn lowNs = true := by simp [h]
  exact ⟨_, rfl, (if_neg (α := State) (c := s.takesResetn lowNs = true) hnot).symm ▸ ⟨rfl, rfl⟩⟩

/-! ### Saggar (R446) -/

theorem State.supervised_of_ne_reset {s : State} (h : s.dev.st ≠ .reset) : s.supervised = true := by
  simpa [State.supervised] using h

theorem execSaggarReset_due {s : State} {dt : Nat} (hst : s.dev.st ≠ .reset) (hdue : (s.advance dt).sagResetDue = true) :
    Completes (.saggarReset dt) s (ResetBy s dt 4 250000) := by
  refine ⟨_, rfl, ?_⟩
  rw [if_pos (by simp [State.supervised_of_ne_reset (s := s.advance dt) (by simpa using hst), hdue])]
  exact State.resetNow_resetBy 4 250000 (by simp) rfl (by simp) (by simp) (by simp)

/-- Settles O3. -/
theorem resetRows : Obligations.ResetRows := by
  refine ⟨?_, ?_, ?_, ?_, ?_, ?_, ?_, ?_⟩
  · intro s dt vbat hold held hv hheld
    refine ⟨_, rfl, ?_⟩
    rw [if_pos (by simpa [usTicks] using ⟨max_lt_iff.mp hv, hheld⟩)]
    exact State.resetNow_resetBy 0 0 (by simp) rfl (by simp) (by simp) (by simp)
  · intro s dt lowNs hlow
    exact execResetnLow_taken (by simp [State.takesResetn, hlow])
  · intro s dt core hst
    refine ⟨_, rfl, ?_⟩
    rw [if_pos (State.supervised_of_ne_reset (by simpa using hst))]
    exact State.resetNow_resetBy 3 250000 (by simp) (by simp) (by simp) (by simp) (by simp)
  · intro s dt k m hst hpend hk hrec
    refine execSaggarReset_due hst ?_
    unfold State.sagResetDue
    rcases hrec with hrec | hrec <;> simp_all [msTicks]
  · intro s dt due hdue hnow
    refine ⟨_, rfl, ?_⟩
    simp only [State.advance_keeps, hdue]
    rw [if_pos (by simpa using hnow)]
    exact State.resetNow_resetBy 2 250000 (by simp) rfl (by simp) (by simp) (by simp)
  · intro s dt lowNs h200 h1000
    cases hfree : Config.freeBool s.free with
    | true =>
      obtain ⟨t, ht, hreset⟩ := execResetnLow_taken (s := s) (dt := dt) (lowNs := lowNs) (by simp [State.takesResetn, h200, hfree])
      refine ⟨t, ht, .inl ?_⟩
      rwa [max_eq_left (by omega)] at hreset
    | false =>
      obtain ⟨t, ht, hkept⟩ := execResetnLow_not_taken (s := s) (dt := dt) (lowNs := lowNs) (by simp [State.takesResetn, hfree, h1000])
      exact ⟨t, ht, .inr hkept⟩
  · intro s dt lowNs hlow
    exact execResetnLow_not_taken (by simp [State.takesResetn]; omega)
  · intro s dt m hst hpend hbad hgood hrec
    refine execSaggarReset_due hst ?_
    unfold State.sagResetDue
    rcases hrec with hrec | hrec <;> simp_all [msTicks]

end Sys2Proof.Machine
end

section
/-! From the release of a reset through BOOT to SAFE (R44, R48, R49, R489). -/

namespace Sys2Proof.Machine

theorem execResetRelease_samples {s : State} {dt vhio vbat : Nat} {straps : List StrapReading} (hst : s.dev.st = .reset)
    (hrel : s.dev.released = none) (hlen : s.dev.resetUp + s.dev.resetHold ≤ s.time.up + dt)
    (hvbat : s.dev.resetSource = 0 → 4500 ≤ vbat) : Completes (.resetRelease dt straps vhio vbat) s (fun t =>
      t.dev.released = some (s.time.up + dt) ∧ t.dev.vhioMv = vhio ∧ t.dev.st = .reset
      ∧ t.dev.straps = (List.range 8).map (fun n => strapLevel (straps.getD n {}).a)
      ∧ t.dev.strapsB = (List.range 3).map (fun n => strapLevel (straps.getD n {}).b)) := by
  refine ⟨_, rfl, ?_⟩
  have hsrc : s.dev.resetSource ≠ 0 ∨ 4500 ≤ vbat := (em (s.dev.resetSource = 0)).symm.imp id hvbat
  rw [if_pos (by simpa [hst, hrel] using ⟨hlen, hsrc⟩)]
  dsimp only
  split <;> simp [hst]

theorem execStartupComplete_boots {s : State} {dt r : Nat} (hst : s.dev.st = .reset) (hrel : s.dev.released = some r)
    (hlen : r + 375000 ≤ s.time.up + dt) : Completes (.startupComplete dt) s (fun t =>
      t.dev.st = .boot ∧ t.dev.cause = 10 ∧ t.dev.stMt = 0 ∧ t.time.mt = 0 ∧ t.time.running = true
      ∧ t.dev.bootCount = s.dev.bootCount + 1 ∧ t.dev.resetSource = s.dev.resetSource) := by
  refine ⟨_, rfl, ?_⟩
  rw [if_pos (by simp [hst, hrel, hlen])]
  dsimp only
  split <;> simp [causeBoot]

theorem execBootComplete_badSignature {s : State} {dt : Nat} {b : BootObs} (hst : s.dev.st = .boot)
    (hsig : s.dev.sigFail = false) (hbad : b.sigOk = false) : Completes (.bootComplete dt b) s (fun t =>
      t.dev.st = .boot ∧ t.dev.sigFail = true ∧ t.dev.bar0Ready = true ∧ t.dev.cause = 11) := by
  refine ⟨_, rfl, ?_⟩
  rw [if_neg (by simp [hst, hsig]), if_pos (by simp [hbad])]
  exact ⟨by simp [hst], rfl, rfl, rfl⟩

@[simp] theorem HostIf.issue_out (h : HostIf) : h.issue.out = h.out := by
  unfold HostIf.issue
  split <;> rfl

theorem State.emit_direct_out {s : State} {w : HostWrite} (hw : w.direct = true) :
    (s.emit w).host.out = s.host.out ++ [w] := by
  simp [State.emit, State.emits, HostIf.form, hw]

theorem execConfigRequestRetry_boot {s : State} {dt : Nat} (hst : s.dev.st = .boot) (hbar : s.dev.bar0Ready = false) :
    Completes (.configRequestRetry dt) s (fun t =>
      t.host.out = s.host.out ++ [.configRetry] ∧ HostOnly (s.advance dt) t) := by
  refine ⟨_, rfl, ?_⟩
  rw [if_pos (by simp [hst, hbar])]
  exact ⟨State.emit_direct_out rfl, rfl⟩

/-! ### What BOOT leaves of the supplies and of SAFEN -/

/-- What each of the steps keeps, all of them keep. -/
theorem State.each_induct {α β : Type} (p : State → β) {f : State → α → State} (hf : ∀ u x, p (f u x) = p u) (s : State)
    (l : List α) : p (s.each l f) = p s := by
  induction l generalizing s with
  | nil => rfl
  | cons x xs ih => exact (ih (f s x)).trans (hf s x)

/-- The conditions that BOOT ends on: brown-out, the two over-voltages, VHIO, and SAFEN in the two lanes. -/
def State.bootConds (s : State) : List Bool :=
  [s.pwr.brownout, s.pwr.overV, s.pwr.holdOv, s.pwr.vhioLow, s.sag.a.safen, s.sag.b.safen]

theorem State.settle_bootConds (s : State) (k : Nat) : (s.settle k).bootConds = s.bootConds := by
  unfold State.settle
  split
  · rfl
  · simp [State.bootConds, State.clearClass, State.updLane]

theorem State.bootConds_of_kept {s t : State} (hp : t.pwr = s.pwr) (hg : t.sag = s.sag) : t.bootConds = s.bootConds := by
  simp [State.bootConds, hp, hg]

theorem State.bootRecords_bootConds (s : State) : s.bootRecords.bootConds = s.bootConds := by
  simp [State.bootRecords, State.bootConds, State.updLane, apply_ite State.sag]

theorem State.chargeTest_bootConds (s : State) (q c : Nat) : (s.chargeTest q c).bootConds = s.bootConds := by
  unfold State.chargeTest
  dsimp only
  split <;> simp [State.bootConds, State.setVLim]

theorem State.bootCharge_bootConds (s : State) (b : BootObs) : (s.bootCharge b).bootConds = s.bootConds := by
  refine Eq.trans ?_ (State.each_induct State.bootConds (f := fun u q => u.chargeTest q (b.cMeas.getD q 0))
    (fun u q => u.chargeTest_bootConds q _) s (List.range s.nQuad))
  rfl

theorem State.configure_bootConds (s : State) (boot : Bool) : (s.configure boot).bootConds = s.bootConds := by
  have hload : ∀ (u : State) (g : Nat), (u.loadStore g).bootConds = u.bootConds := fun u g =>
    (State.settle_bootConds _ 3).trans (State.bootConds_of_kept (by simp) (by simp))
  refine Eq.trans (State.bootConds_of_kept ?_ ?_) (State.each_induct State.bootConds hload s (List.range s.nGrp))
  all_goals simp [State.configure]

theorem State.bootConfigure_bootConds (s : State) : s.bootConfigure.bootConds = s.bootConds := by
  refine Eq.trans ?_ (s.configure_bootConds true)
  simp [State.bootConfigure, State.bootConds, State.sendLimits]

theorem State.bootPrepared_bootConds (s : State) (b : BootObs) : (s.bootPrepared b).bootConds = s.bootConds := by
  have himage : (s.bar0Opened.bootRecords.bootImage b.slotReads).bootConds = s.bar0Opened.bootRecords.bootConds :=
    State.bootConds_of_kept (by simp) (by simp)
  rw [State.bootPrepared, State.bootConfigure_bootConds, State.bootCharge_bootConds, himage, State.bootRecords_bootConds]
  rfl

@[simp] theorem State.stopSextant_mt (s : State) : s.stopSextant.time.mt = s.time.mt := by
  unfold State.stopSextant
  split <;> simp

theorem State.bootPrepared_now (s : State) (b : BootObs) : (s.bootPrepared b).now = s.now := by
  simp [State.bootPrepared, State.bootConfigure, State.configure, State.now]

/-- BOOT ends in SAFE where it has found no cause: the path is good, the straps agree, and no condition is present. -/
theorem execBootComplete_safe {s : State} {dt : Nat} {b : BootObs} (hst : s.dev.st = .boot) (hsig : s.dev.sigFail = false)
    (hok : b.sigOk = true) (hpath : b.pathOk = true) (hstraps : s.strapsDiffer = false)
    (hconds : s.bootConds = [false, false, false, false, false, false]) (hcauses : s.dev.causes = []) :
    Completes (.bootComplete dt b) s (fun t =>
      t.dev.st = .safe ∧ t.dev.cause = 10 ∧ t.dev.stMt = (s.advance dt).now ∧ t.dev.bar0Ready = true
      ∧ t.dev.bootFaultn = false ∧ t.dev.bound = s.dev.bound) := by
  refine ⟨_, rfl, ?_⟩
  rw [if_neg (by simp [hst, hsig]), if_neg (by simp [hok])]
  extract_lets opened u afterPath afterStraps afterSupply afterSafen afterBrownout done
  have hsame : (s.advance dt).bar0Opened.dev.SameBoot u.dev := State.bootPrepared_sameBoot _ b
  have hnow : u.now = (s.advance dt).now := State.bootPrepared_now _ b
  have hconds' : u.bootConds = [false, false, false, false, false, false] :=
    ((s.advance dt).bootPrepared_bootConds b).trans hconds
  simp only [State.bootConds, List.cons.injEq, and_true] at hconds'
  obtain ⟨hbrown, hover, hhold, hvhio, ha, hb⟩ := hconds'
  have hdiffer : u.strapsDiffer = false := by
    simpa [State.strapsDiffer, hsame.straps, hsame.strapsB] using hstraps
  have hgood : afterBrownout = u := by
    simp [afterBrownout, afterSafen, afterSupply, afterStraps, afterPath, hpath, hdiffer, hbrown, hover, hhold, hvhio, ha, hb]
  have hdone : done.dev = { u.dev with bootFaultn := false } ∧ done.now = u.now := by
    simp [done, hgood, State.now]
  split
  next =>
    have hbar := hsame.bar0Ready
    simpa [State.enter_dev, hdone.1, causeBoot, hsame.bound, hbar, State.now] using hdone.2.trans hnow
  next c cs hc => simp [hdone.1, hsame.causes, hcauses] at hc

/-- Settles O4. -/
theorem bootRows : Obligations.BootRows := by
  refine ⟨fun s dt straps vhio vbat => execResetRelease_samples, fun s dt r => execStartupComplete_boots, ?_,
    fun s dt b => execBootComplete_badSignature, fun s dt => execConfigRequestRetry_boot⟩
  intro s dt b hst hsig hok hpath hstraps hbrown hover hhold ha hb hvhio hcauses
  exact execBootComplete_safe hst hsig hok hpath hstraps (by simp [State.bootConds, hbrown, hover, hhold, hvhio, ha, hb])
    hcauses

end Sys2Proof.Machine
end

section
/-! The set-up of the host link that events, completions and the ends of activities leave as it was (R341, R482). -/

namespace Sys2Proof.Machine

/-! ### The set-up -/

/-- The link and its enables, HOST_GRACE, the last heartbeat, the telemetry selection, and, where the module may issue
no DMA, the pause of its service. -/
def HostIf.linkSetup (h : HostIf) : Bool × Bool × Bool × Bool × Nat × Nat × TelSel × Bool :=
  (h.link, h.bme, h.mse, h.d0, h.hostGrace, h.lastHb, h.telSel, !h.dmaOk && h.paused)

theorem HostIf.dmaOk_of_linkSetup {h g : HostIf} (heq : g.linkSetup = h.linkSetup) : g.dmaOk = h.dmaOk := by
  simp only [HostIf.linkSetup, Prod.mk.injEq] at heq
  simp [HostIf.dmaOk, heq]

theorem HostIf.paused_of_linkSetup {h g : HostIf} (heq : g.linkSetup = h.linkSetup) (hd : h.dmaOk = false) :
    g.paused = h.paused := by
  have hd' := HostIf.dmaOk_of_linkSetup heq
  simp only [HostIf.linkSetup, Prod.mk.injEq] at heq
  obtain ⟨-, -, -, -, -, -, -, hp⟩ := heq
  simpa [hd', hd] using hp

@[simp] theorem HostIf.ite_linkSetup (c : Prop) [Decidable c] (g h : HostIf) :
    (if c then g else h).linkSetup = if c then g.linkSetup else h.linkSetup := apply_ite HostIf.linkSetup c g h

@[simp] theorem State.each_linkSetup {α : Type} {f : State → α → State} (s : State) (l : List α)
    (hf : ∀ (u : State) x, (f u x).host.linkSetup = u.host.linkSetup) : (s.each l f).host.linkSetup = s.host.linkSetup := by
  induction l generalizing s with
  | nil => rfl
  | cons x xs ih => exact (ih (f s x)).trans (hf s x)

/-! ### Writes to the link (R353, R363) -/

@[simp] theorem HostIf.issue_linkSetup (h : HostIf) : h.issue.linkSetup = h.linkSetup := by
  unfold HostIf.issue
  split <;> rfl

@[simp] theorem HostIf.form_linkSetup (h : HostIf) (w : HostWrite) : (h.form w).linkSetup = h.linkSetup := by
  unfold HostIf.form
  dsimp only
  (repeat' split) <;> rfl

@[simp] theorem State.emits_linkSetup (s : State) (ws : List HostWrite) : (s.emits ws).host.linkSetup = s.host.linkSetup := by
  have hform : ∀ (l : List HostWrite) (h : HostIf), (l.foldl HostIf.form h).linkSetup = h.linkSetup := by
    intro l
    induction l with
    | nil => exact fun _ => rfl
    | cons w l ih => exact fun h => (ih (h.form w)).trans (h.form_linkSetup w)
  simp [State.emits, hform]

@[simp] theorem State.emit_linkSetup (s : State) (w : HostWrite) : (s.emit w).host.linkSetup = s.host.linkSetup :=
  s.emits_linkSetup [w]

@[simp] theorem State.updRing_linkSetup (s : State) (n : Nat) (f : Ring → Ring) :
    (s.updRing n f).host.linkSetup = s.host.linkSetup := rfl

@[simp] theorem State.updVec_linkSetup (s : State) (v : Nat) (f : Vec → Vec) :
    (s.updVec v f).host.linkSetup = s.host.linkSetup := rfl

@[simp] theorem State.sendMsix_linkSetup (s : State) (v : Nat) : (s.sendMsix v).host.linkSetup = s.host.linkSetup := by
  unfold State.sendMsix
  dsimp only
  split <;> simp

@[simp] theorem State.notify_linkSetup (s : State) (v : Nat) (urgent : Bool) :
    (s.notify v urgent).host.linkSetup = s.host.linkSetup := by
  unfold State.notify
  dsimp only
  split <;> simp

@[simp] theorem State.writeStatus_linkSetup (s : State) : s.writeStatus.host.linkSetup = s.host.linkSetup := by
  unfold State.writeStatus
  dsimp only
  split
  · exact s.emit_linkSetup _
  · rfl

@[simp] theorem State.writeRec_linkSetup (s : State) (n : Nat) (ds : List Desc) (urgent : Bool) :
    (s.writeRec n ds urgent).host.linkSetup = s.host.linkSetup := by
  simp [State.writeRec]

/-! ### Events (R367) -/

@[simp] theorem State.writeEvt_linkSetup (s : State) (e : Evt) : (s.writeEvt e).host.linkSetup = s.host.linkSetup :=
  s.writeRec_linkSetup 2 [e.desc s.host.evtSeq] e.urgent

@[simp] theorem State.queueEvt_linkSetup (s : State) (e : Evt) : (s.queueEvt e).host.linkSetup = s.host.linkSetup := by
  unfold State.queueEvt
  split <;> rfl

@[simp] theorem State.raise_linkSetup (s : State) (code subject : Nat) (data : List (Nat × Nat × Nat)) (urgent : Bool) :
    (s.raise code subject data urgent).host.linkSetup = s.host.linkSetup := by
  unfold State.raise
  dsimp only
  split <;> simp

@[simp] theorem State.drainEvts_linkSetup (k : Nat) (s : State) : (State.drainEvts k s).host.linkSetup = s.host.linkSetup := by
  induction k generalizing s with
  | zero => rfl
  | succ k ih =>
    unfold State.drainEvts
    split
    · rfl
    · split
      · exact (ih _).trans (State.writeEvt_linkSetup _ _)
      · rfl

/-! ### Completions (R351, R355, R360) -/

@[simp] theorem State.drainCpl_linkSetup (k : Nat) (s : State) : (State.drainCpl k s).host.linkSetup = s.host.linkSetup := by
  induction k generalizing s with
  | zero => rfl
  | succ k ih =>
    unfold State.drainCpl
    split
    · rfl
    · split
      · exact (ih _).trans (State.writeRec_linkSetup _ _ _ _)
      · rfl

@[simp] theorem State.pbaSends_linkSetup (s : State) (v : Nat) : (s.pbaSends v).host.linkSetup = s.host.linkSetup := by
  unfold State.pbaSends
  dsimp only
  split
  · exact State.sendMsix_linkSetup _ v
  · rfl

/-- A sweep ends the pause of service; it starts only where the module may issue DMA. -/
theorem State.startSweep_linkSetup {s : State} (hd : s.dmaOk = true) : s.startSweep.host.linkSetup = s.host.linkSetup := by
  unfold State.startSweep
  extract_lets t fresh late u v
  have ht : t.host.linkSetup = s.host.linkSetup := s.emit_linkSetup _
  have hd' : t.host.dmaOk = true := (HostIf.dmaOk_of_linkSetup ht).trans hd
  have hu : u.host.linkSetup = t.host.linkSetup := by
    change (_, _, _, _, _, _, _, !t.host.dmaOk && false) = t.host.linkSetup
    simp [u, HostIf.linkSetup, hd']
  have hv : v.host.linkSetup = u.host.linkSetup := by
    simp only [v]
    split <;> simp
  exact (State.drainCpl_linkSetup _ v).trans (hv.trans (hu.trans ht))

theorem State.extraSweep_linkSetup {s : State} (hd : s.dmaOk = true) : s.extraSweep.host.linkSetup = s.host.linkSetup := by
  unfold State.extraSweep
  extract_lets soon
  split
  · rfl
  · split
    · rfl
    · exact State.startSweep_linkSetup hd

theorem State.dmaOk_of_canWrite {s : State} {n k : Nat} (h : s.canWrite n k = true) : s.dmaOk = true := by
  simp only [State.canWrite, State.served, Bool.and_eq_true] at h
  simp [h]

@[simp] theorem State.completeAt_linkSetup (s : State) (op : Byte) (h : Hdr) (idx : Word) (st : Status) (res : BitVec 128)
    (mt : Nat) : (s.completeAt op h idx st res mt).host.linkSetup = s.host.linkSetup := by
  unfold State.completeAt
  dsimp only
  split
  next hw =>
    have hd := State.dmaOk_of_canWrite hw
    have hwr := s.writeRec_linkSetup 1 [cplDesc op h.tag st idx mt res] h.irq
    exact (State.extraSweep_linkSetup ((HostIf.dmaOk_of_linkSetup hwr).trans hd)).trans hwr
  next => split <;> rfl

@[simp] theorem State.finishAt_linkSetup (s : State) (w : Waiting) (st : Status) (res : BitVec 128) (mt : Nat) :
    (s.finishAt w st res mt).host.linkSetup = s.host.linkSetup := by
  unfold State.finishAt
  dsimp only
  split
  · rfl
  · simp
    rfl

@[simp] theorem State.finish_linkSetup (s : State) (w : Waiting) (st : Status) (res : BitVec 128) :
    (s.finish w st res).host.linkSetup = s.host.linkSetup := s.finishAt_linkSetup w st res s.now

@[simp] theorem State.finishNone_linkSetup (s : State) (w : Waiting) (st : Status) (res : BitVec 128) :
    (s.finishNone w st res).host.linkSetup = s.host.linkSetup := s.finishAt_linkSetup w st res w.mt

/-! ### The buses' transmissions (R315, R317) -/

@[simp] theorem State.canDone_linkSetup (s : State) (b : Nat) (idx : Word) (fs : List (Nat × Nat × Nat)) :
    (s.canDone b idx fs).host.linkSetup = s.host.linkSetup := by
  unfold State.canDone
  split <;> simp

@[simp] theorem State.frameDone_linkSetup (s : State) (b : Nat) (idx : Word) (res attempts : Nat) (sof : Option Nat) :
    (s.frameDone b idx res attempts sof).host.linkSetup = s.host.linkSetup := State.canDone_linkSetup ..

@[simp] theorem State.msgDone_linkSetup (s : State) (b : Nat) (idx : Word) (res reason endMt : Nat) :
    (s.msgDone b idx res reason endMt).host.linkSetup = s.host.linkSetup := State.canDone_linkSetup ..

@[simp] theorem State.doneBehind_linkSetup (s : State) (b i : Nat) (ds : List (Word × Nat × Nat)) :
    (s.doneBehind b i ds).host.linkSetup = s.host.linkSetup := by
  unfold State.doneBehind
  dsimp only
  split <;> simp

@[simp] theorem State.descDone_linkSetup (s : State) (b : Nat) (idx : Word) (ds : List Desc) (res : Nat) :
    (s.descDone b idx ds res).host.linkSetup = s.host.linkSetup := by
  unfold State.descDone
  split <;> simp

@[simp] theorem State.popTx_linkSetup (s : State) (b : Nat) (r : List (Word × List Desc)) (n : Word) :
    (s.popTx b r n).host.linkSetup = s.host.linkSetup := rfl

@[simp] theorem State.takeTx_linkSetup (k : Nat) (s : State) (b : Nat) :
    (State.takeTx k s b).host.linkSetup = s.host.linkSetup := by
  induction k generalizing s with
  | zero => rfl
  | succ k ih =>
    unfold State.takeTx
    dsimp only
    (repeat' split) <;> simp [ih]

@[simp] theorem State.pumpTx_host (k : Nat) (s : State) (b : Nat) : (State.pumpTx k s b).host = s.host := by
  induction k generalizing s with
  | zero => rfl
  | succ k ih =>
    unfold State.pumpTx
    dsimp only
    (repeat' split) <;> simp [ih, State.placeDt]

@[simp] theorem State.refill_linkSetup (s : State) (b : Nat) : (s.refill b).host.linkSetup = s.host.linkSetup := by
  simp [State.refill]

@[simp] theorem State.dropTxf_linkSetup (s : State) (b : Nat) : (s.dropTxf b).host.linkSetup = s.host.linkSetup := by
  unfold State.dropTxf
  dsimp only
  split <;> simp

@[simp] theorem State.stopTxf_linkSetup (s : State) : s.stopTxf.host.linkSetup = s.host.linkSetup := by
  unfold State.stopTxf
  split <;> simp

@[simp] theorem State.entDiscarded_linkSetup (s : State) (b : Nat) (e : TxEnt) :
    (s.entDiscarded b e).host.linkSetup = s.host.linkSetup := by
  unfold State.entDiscarded
  split <;> simp

@[simp] theorem State.canDiscard_linkSetup (s : State) (b : Nat) (abort : Bool) :
    (s.canDiscard b abort).host.linkSetup = s.host.linkSetup := by
  simp [State.canDiscard]

@[simp] theorem State.dropAddress_linkSetup (s : State) (b : Nat) :
    (s.dropAddress b).host.linkSetup = s.host.linkSetup := by
  unfold State.dropAddress
  dsimp only
  split <;> simp

@[simp] theorem State.canSafe_linkSetup (s : State) (fault : Bool) : (s.canSafe fault).host.linkSetup = s.host.linkSetup := by
  simp [State.canSafe]

@[simp] theorem State.claimAll_linkSetup (s : State) : s.claimAll.host.linkSetup = s.host.linkSetup := by
  simp [State.claimAll, State.startClaim, State.holdCf]

/-- The commands outstanding are no part of it. -/
theorem HostIf.linkSetup_outstanding (h : HostIf) (ws : List Waiting) :
    { h with outstanding := ws }.linkSetup = h.linkSetup := rfl

/-! ### Loops, activities and commands that end (R412, R35) -/

@[simp] theorem State.loopField_host (s : State) (n : Nat) (u : Int) : (s.loopField n u).host = s.host := by
  unfold State.loopField
  split <;> rfl

@[simp] theorem State.loopSafe_host (s : State) (n : Nat) : (s.loopSafe n).host = s.host := by
  simp [State.loopSafe, State.setOut]

@[simp] theorem State.loopsSafe_host (s : State) : s.loopsSafe.host = s.host :=
  State.each_host _ _ _ fun u n => by (repeat' split) <;> simp

@[simp] theorem State.endDetect_linkSetup (s : State) (b : Nat) (st : Status) :
    (s.endDetect b st).host.linkSetup = s.host.linkSetup := by
  unfold State.endDetect
  dsimp only
  (repeat' split) <;> simp

@[simp] theorem State.dropIllegal_linkSetup (s : State) : s.dropIllegal.host.linkSetup = s.host.linkSetup := by
  simp [State.dropIllegal]

@[simp] theorem State.endActivity_linkSetup (s : State) (a : Activity) :
    (s.endActivity a).host.linkSetup = s.host.linkSetup := by
  unfold State.endActivity
  extract_lets t u v
  have hv : v.host = s.host := by
    simp only [v]
    rw [State.each_host _ _ _ fun w n => by (repeat' split) <;> simp]
    simp [u, t]
  split <;> simp [hv]

@[simp] theorem State.abortAct_linkSetup (s : State) (a : Activity) : (s.abortAct a).host.linkSetup = s.host.linkSetup := by
  unfold State.abortAct
  dsimp only
  (repeat' split) <;> simp [HostIf.linkSetup_outstanding]

@[simp] theorem State.abortAll_linkSetup (s : State) : s.abortAll.host.linkSetup = s.host.linkSetup := by
  simp [State.abortAll]

/-! ### Entering a state -/

theorem State.enter_linkSetup (s : State) (new : DevState) (cause : Nat) (hf : new ≠ .fault) :
    (s.enter new cause).host.linkSetup = s.host.linkSetup := by
  unfold State.enter
  cases new with
  | fault => exact absurd rfl hf
  | _ => simp


end Sys2Proof.Machine
end

section
/-! Host loss: the rows that lose the host, its return, and the end of a grace (R42, R50 to R54, R341, R342, R482). -/

namespace Sys2Proof.Machine

/-! ### Once nothing is bound (R50, R412) -/

/-- Nothing is bound any more: HOST_LOST has been raised, and the maintenance aborted. -/
def State.unboundBy (s : State) (det : Nat) : State :=
  ((s.updDev (fun d => { d with bound := false })).raise 0x0002 subjModule [(128, 8, det)] false).abortAll

@[simp] theorem State.unboundBy_keeps (s : State) (det : Nat) :
    (s.unboundBy det).dev = { s.dev with bound := false } ∧ (s.unboundBy det).time = s.time := by
  simp [State.unboundBy]

@[simp] theorem State.unboundBy_linkSetup (s : State) (det : Nat) : (s.unboundBy det).host.linkSetup = s.host.linkSetup := by
  simp [State.unboundBy]

theorem State.unboundBy_hostGrace (s : State) (det : Nat) : (s.unboundBy det).host.hostGrace = s.host.hostGrace :=
  congrArg (·.2.2.2.2.1) (s.unboundBy_linkSetup det)

theorem State.hostLost_of_standby {s : State} (det : Nat) (h : s.dev.st = .standby) :
    s.hostLost det = (s.unboundBy det).enter .safe causeHostLoss := by
  have hst : (s.unboundBy det).dev.st = .standby := by simp [h]
  change (match (s.unboundBy det).dev.st with | .standby => _ | .parked | .working | .manual => _ | _ => _) = _
  rw [hst]
  rfl

theorem State.hostLost_of_active {s : State} (det : Nat) (h : s.dev.st.active = true) :
    s.hostLost det = (if s.dev.grace.isSome then s.unboundBy det
      else if s.host.hostGrace = 0 then (s.unboundBy det).graceExpires s.now
      else (s.unboundBy det).updDev (fun d =>
        { d with grace := some { start := s.now, endsAt := s.now + s.host.hostGrace * 250000 } })) := by
  have hnow : (s.unboundBy det).now = s.now := by simp [State.now]
  have hst : (s.unboundBy det).dev.st = s.dev.st := by simp
  have hgrace : (s.unboundBy det).dev.grace = s.dev.grace := by simp
  rw [← hnow, ← hgrace, ← s.unboundBy_hostGrace det]
  change (match (s.unboundBy det).dev.st with | .standby => _ | .parked | .working | .manual => _ | _ => _) = _
  rw [hst]
  split
  next hs => simp [hs, DevState.active] at h
  iterate 3 next => rfl
  next hparked hworking hmanual => cases hs : s.dev.st <;> simp_all [DevState.active]

theorem State.hostLost_of_other {s : State} (det : Nat) (h : s.dev.st ≠ .standby) (ha : s.dev.st.active = false) :
    s.hostLost det = s.unboundBy det := by
  have hst : (s.unboundBy det).dev.st = s.dev.st := by simp
  change (match (s.unboundBy det).dev.st with | .standby => _ | .parked | .working | .manual => _ | _ => _) = _
  rw [hst]
  split
  next hs => exact absurd hs h
  iterate 3 next hs => simp [hs, DevState.active] at ha
  next => rfl

/-- The branches of a host loss, by the state in which it is met. -/
theorem State.hostLost_cases (s : State) (det : Nat) {P : State → Prop}
    (hstandby : P ((s.unboundBy det).enter .safe causeHostLoss)) (hstay : P (s.unboundBy det))
    (hexpire : P ((s.unboundBy det).graceExpires s.now))
    (hgrace : ∀ g, P ((s.unboundBy det).updDev (fun d => { d with grace := some g }))) : P (s.hostLost det) := by
  by_cases hst : s.dev.st = .standby
  · rw [State.hostLost_of_standby det hst]
    exact hstandby
  · cases ha : s.dev.st.active with
    | true =>
      rw [State.hostLost_of_active det ha]
      split
      · exact hstay
      · split
        · exact hexpire
        · exact hgrace _
    | false =>
      rw [State.hostLost_of_other det hst ha]
      exact hstay

/-! ### What a host loss leaves (R50 to R52) -/

@[simp] theorem State.graceExpires_linkSetup (s : State) (m : Nat) : (s.graceExpires m).host.linkSetup = s.host.linkSetup := by
  unfold State.graceExpires
  rw [State.enter_linkSetup _ _ _ (by decide)]
  simp

@[simp] theorem State.graceExpires_bound (s : State) (m : Nat) : (s.graceExpires m).dev.bound = s.dev.bound := by
  simp [State.graceExpires, State.enter_dev, State.recordOrphan, State.wake, apply_ite State.dev, apply_ite Dev.bound]

@[simp] theorem State.graceExpires_bootCount (s : State) (m : Nat) : (s.graceExpires m).dev.bootCount = s.dev.bootCount := by
  simp [State.graceExpires, State.enter_dev, State.recordOrphan, State.wake, apply_ite State.dev, apply_ite Dev.bootCount]

@[simp] theorem State.hostLost_linkSetup (s : State) (det : Nat) : (s.hostLost det).host.linkSetup = s.host.linkSetup :=
  s.hostLost_cases det (P := fun t => t.host.linkSetup = s.host.linkSetup)
    (by simp [State.enter_linkSetup]) (by simp) (by simp) (by simp)

@[simp] theorem State.hostLost_bound (s : State) (det : Nat) : (s.hostLost det).dev.bound = false :=
  s.hostLost_cases det (P := fun t => t.dev.bound = false) (by simp [State.enter_dev]) (by simp) (by simp) (by simp)

@[simp] theorem State.hostLost_bootCount (s : State) (det : Nat) : (s.hostLost det).dev.bootCount = s.dev.bootCount :=
  s.hostLost_cases det (P := fun t => t.dev.bootCount = s.dev.bootCount)
    (by simp [State.enter_dev]) (by simp) (by simp) (by simp)

theorem State.hostLost_ne_reset {s : State} (det : Nat) (h : s.dev.st ≠ .reset) : (s.hostLost det).dev.st ≠ .reset :=
  s.hostLost_cases det (P := fun t => t.dev.st ≠ .reset) (by simp [State.enter_dev]) (by simpa using h) (by simp)
    (by simpa using h)

/-- A loss met `dt` ticks after `s`, in a state with the same device part and HOST_GRACE, is answered as R50 to R52 say. -/
theorem State.hostLost_lossIn {s u : State} {dt : Nat} (det : Nat) (hdev : u.dev = s.dev)
    (htime : u.time = (s.advance dt).time) (hg : u.host.hostGrace = s.host.hostGrace) :
    HostLossIn s dt (u.hostLost det) := by
  have hnow : u.now = (s.advance dt).now := by simp [State.now, htime]
  refine ⟨by simp, fun h => ?_, fun ha hn hz => ?_, fun ha hn hz => ?_, fun hst ha => ?_⟩
  · rw [State.hostLost_of_standby det (by rw [hdev, h])]
    simp [State.enter_dev]
  · rw [State.hostLost_of_active det (by rw [hdev, ha])]
    simp [hdev, hn, hg, hz, hnow]
  · rw [State.hostLost_of_active det (by rw [hdev, ha])]
    simp [hdev, hn, hg, hz]
  · rw [State.hostLost_of_other det (by rwa [hdev]) (by rwa [hdev])]
    simp [hdev]

theorem HostLossIn.of_dev {s t v : State} {dt : Nat} (h : HostLossIn s dt t) (hv : v.dev = t.dev) : HostLossIn s dt v := by
  unfold HostLossIn
  rwa [hv]

/-! ### The registers at their reset values (R341, R482) -/

@[simp] theorem State.ringStops_link (s : State) (n : Nat) : (s.ringStops n).host.link = s.host.link := by
  unfold State.ringStops
  dsimp only
  (repeat' split) <;> rfl

@[simp] theorem State.hostIfReset_link (s : State) : s.hostIfReset.host.link = s.host.link :=
  State.each_induct (fun t => t.host.link) State.ringStops_link s _

theorem State.hostIfReset_regsReset (s : State) : HostRegsReset s.hostIfReset := by
  refine ⟨rfl, rfl, rfl, rfl, rfl, rfl, rfl, rfl, rfl, fun r hr => ?_, rfl, rfl⟩
  obtain ⟨q, -, rfl⟩ := List.mem_map.mp hr
  rfl

/-! ### The link goes down (R42, R341) -/

/-- Settles O11: the link's loss is answered by the rules of host loss, and then resets the host interface. -/
theorem linkLossIsHostLoss : Obligations.LinkLossIsHostLoss := by
  intro s dt c hst hc
  let u : State := (s.advance dt).updHost (fun h => { h with link := false })
  have hrow : exec c s = .next (u.hostLost 0).hostIfReset := by
    have hlost : (s.advance dt).linkLost 0 = (u.hostLost 0).hostIfReset := by simp [State.linkLost, u, hst]
    simp only [List.mem_cons, List.not_mem_nil, or_false] at hc
    obtain rfl | rfl | rfl := hc <;> exact congrArg Host.Outcome.next hlost
  have hlink : (u.hostLost 0).host.link = false := congrArg Prod.fst (u.hostLost_linkSetup 0)
  refine ⟨_, hrow, ?_, ?_, by simp [u], by simp [u], by simp [u], State.hostIfReset_regsReset _, by simp [hlink]⟩
  · exact HostLossIn.of_dev (State.hostLost_lossIn (u := u) 0 (by simp [u]) (by simp [u]) (by simp [u])) (by simp)
  · rw [(State.hostIfReset_keeps _).2.2.2.1]
    exact State.hostLost_ne_reset 0 (by simpa [u] using hst)

/-! ### The other losses (R50, R341, R342) -/

theorem State.lost_of_ne_reset {s : State} (det : Nat) (h : s.dev.st ≠ .reset) : s.lost det = s.hostLost det :=
  if_pos (State.supervised_of_ne_reset h)

/-- A loss met `dt` ticks after `s`, where nothing but the set-up of the link differs: the loss is answered, and leaves
the set-up as it finds it. -/
theorem State.lost_updHost {s : State} {dt : Nat} (det : Nat) (f : HostIf → HostIf) (hst : s.dev.st ≠ .reset)
    (hg : (f s.host).hostGrace = s.host.hostGrace) : HostLossIn s dt (((s.advance dt).updHost f).lost det) ∧
    (((s.advance dt).updHost f).lost det).host.linkSetup = (f s.host).linkSetup := by
  rw [State.lost_of_ne_reset det (by simpa using hst)]
  exact ⟨State.hostLost_lossIn det (by simp) (by simp) (by simpa using hg), by simp⟩

/-- The enables and the link are parts of the set-up. -/
theorem HostIf.enables_of_linkSetup {h g : HostIf} (heq : g.linkSetup = h.linkSetup) :
    g.link = h.link ∧ g.bme = h.bme ∧ g.mse = h.mse ∧ g.d0 = h.d0 := by
  simp only [HostIf.linkSetup, Prod.mk.injEq] at heq
  simp [heq]

/-- So are the last heartbeat and the telemetry selection. -/
theorem HostIf.session_of_linkSetup {h g : HostIf} (heq : g.linkSetup = h.linkSetup) :
    g.lastHb = h.lastHb ∧ g.telSel = h.telSel := by
  simp only [HostIf.linkSetup, Prod.mk.injEq] at heq
  simp [heq]

theorem execFunctionLevelReset_lost {s : State} {dt : Nat} (hst : s.dev.st ≠ .reset) :
    Completes (.functionLevelReset dt) s (fun t => HostLossIn s dt t ∧ HostRegsReset t ∧ t.host.link = s.host.link) := by
  obtain ⟨hloss, hsetup⟩ := State.lost_updHost (dt := dt) 0 (fun h => { h with bme := false }) hst rfl
  obtain ⟨hlink, -, -, -⟩ := HostIf.enables_of_linkSetup hsetup
  exact ⟨_, rfl, hloss.of_dev (by simp), State.hostIfReset_regsReset _, by rw [State.hostIfReset_link, hlink]⟩

theorem execBusMasterEnableClear_bme {s : State} {dt : Nat} (hst : s.dev.st ≠ .reset) (hbme : s.host.bme = true) :
    Completes (.busMasterEnableClear dt false) s (fun t => HostLossIn s dt t ∧ t.host.bme = false ∧ t.host.mse = s.host.mse
      ∧ t.host.paused = true) := by
  obtain ⟨hloss, hsetup⟩ := State.lost_updHost (dt := dt) 3
    (fun h => { h with bme := h.bme && false, mse := h.mse && !false, paused := h.paused || !false }) hst rfl
  obtain ⟨-, hb, hm, -⟩ := HostIf.enables_of_linkSetup hsetup
  have hp := HostIf.paused_of_linkSetup hsetup (by simp [HostIf.dmaOk])
  refine ⟨_, congrArg Host.Outcome.next (if_pos (by simpa using hbme)), hloss, ?_, ?_, ?_⟩
  · simpa using hb
  · simpa using hm
  · simpa using hp

theorem execBusMasterEnableClear_mse {s : State} {dt : Nat} (hst : s.dev.st ≠ .reset) (hmse : s.host.mse = true) :
    Completes (.busMasterEnableClear dt true) s (fun t => HostLossIn s dt t ∧ t.host.mse = false ∧ t.host.bme = s.host.bme) := by
  obtain ⟨hloss, hsetup⟩ := State.lost_updHost (dt := dt) 3
    (fun h => { h with bme := h.bme && true, mse := h.mse && !true, paused := h.paused || !true }) hst rfl
  obtain ⟨-, hb, hm, -⟩ := HostIf.enables_of_linkSetup hsetup
  refine ⟨_, congrArg Host.Outcome.next (if_pos (by simpa using hmse)), hloss, ?_, ?_⟩
  · simpa using hm
  · simpa using hb

theorem execD3hotEntry_lost {s : State} {dt : Nat} (hst : s.dev.st ≠ .reset) (hd0 : s.host.d0 = true) :
    Completes (.d3hotEntry dt) s (fun t => HostLossIn s dt t ∧ t.host.d0 = false ∧ t.host.paused = true) := by
  obtain ⟨hloss, hsetup⟩ := State.lost_updHost (dt := dt) 4 (fun h => { h with d0 := false, paused := true }) hst rfl
  obtain ⟨-, -, -, hd⟩ := HostIf.enables_of_linkSetup hsetup
  exact ⟨_, congrArg Host.Outcome.next (if_pos (by simpa using hd0)), hloss, hd,
    HostIf.paused_of_linkSetup hsetup (by simp [HostIf.dmaOk])⟩

theorem execHeartbeatTimeout_lost {s : State} {dt : Nat} (hst : s.dev.st ≠ .reset) (hbound : s.dev.bound = true)
    (hlate : s.host.lastHb + s.host.hbTimeout * 250000 ≤ (s.advance dt).now) :
    Completes (.heartbeatTimeout dt) s (HostLossIn s dt) := by
  obtain ⟨hloss, -⟩ := State.lost_updHost (dt := dt) 2 id hst rfl
  exact ⟨_, congrArg Host.Outcome.next (if_pos (by simpa [hbound, msTicks] using hlate)), hloss⟩

/-! ### The host's return, and the end of a grace (R49, R51, R342, R482) -/

theorem execLinkUp_trains {s : State} {dt : Nat} (hst : s.dev.st ≠ .reset) (hvhio : s.pwr.vhioLow = false) :
    Completes (.linkUp dt) s (fun t =>
      t = { s.advance dt with host := { s.host with link := true }, dev := { s.dev with wakenLow := false } }) := by
  refine ⟨_, congrArg Host.Outcome.next (if_pos ?_), by simp [State.updHost, State.updDev]⟩
  simp [State.supervised_of_ne_reset (s := s.advance dt) (by simpa using hst), hvhio]

theorem State.graceExpires_orphan (s : State) (m : Nat) : (s.graceExpires m).dev.orphan = some (m, s.now) := by
  simp [State.graceExpires, State.enter_dev, State.recordOrphan, State.wake, apply_ite State.dev, apply_ite Dev.orphan,
    State.now]

theorem State.graceFirst_of_run_out {s : State} {g : Grace} (hg : s.dev.grace = some g) (hend : g.endsAt ≤ s.now) :
    s.graceFirst = s.graceExpires g.start := by
  simp [State.graceFirst, hg, hend]

theorem execHostGraceExpiry_run_out {s : State} {dt : Nat} {g : Grace} (hg : s.dev.grace = some g)
    (hend : g.endsAt ≤ (s.advance dt).now) : Completes (.hostGraceExpiry dt) s (fun t =>
      t.dev.st = .safe ∧ t.dev.cause = 3 ∧ t.dev.grace = none ∧ t.dev.orphan = some (g.start, (s.advance dt).now)) := by
  refine ⟨_, congrArg Host.Outcome.next (State.graceFirst_of_run_out (by simpa using hg) hend), ?_⟩
  exact ⟨by simp, by simp [State.graceExpires, State.enter_dev, causeGrace], by simp, State.graceExpires_orphan _ _⟩

/-- Settles O12. -/
theorem hostLinkRows : Obligations.HostLinkRows :=
  ⟨fun _ _ => execFunctionLevelReset_lost, fun _ _ => execBusMasterEnableClear_bme,
    fun _ _ => execBusMasterEnableClear_mse, fun _ _ => execD3hotEntry_lost, fun _ _ => execHeartbeatTimeout_lost,
    fun _ _ => execLinkUp_trains, fun _ _ => ⟨_, rfl, by simp [State.updHost]⟩, fun _ _ _ => execHostGraceExpiry_run_out⟩

end Sys2Proof.Machine
end

section
/-! What the tile cache does at a BIND leaves alone: the valves, and the set-up of the host link (R136 to R150). -/

namespace Sys2Proof.Machine

/-! ### Requests queued, dropped and posted (R136, R137, R143): the host interface too is left as it was -/

@[simp] theorem State.dropSlot_outside (s : State) (n : Nat) :
    (s.dropSlot n).valves = s.valves ∧ (s.dropSlot n).host = s.host := by
  simp [State.dropSlot]

@[simp] theorem State.dropFetch_outside (s : State) (r : TReq) :
    (s.dropFetch r).valves = s.valves ∧ (s.dropFetch r).host = s.host := by
  unfold State.dropFetch
  dsimp only
  (repeat' split) <;> simp

@[simp] theorem State.queueWb_outside (s : State) (r : TReq) :
    (s.queueWb r).valves = s.valves ∧ (s.queueWb r).host = s.host := by
  unfold State.queueWb
  (repeat' split) <;> simp

@[simp] theorem State.queueFetch_outside (s : State) (r : TReq) :
    (s.queueFetch r).valves = s.valves ∧ (s.queueFetch r).host = s.host := by
  unfold State.queueFetch
  dsimp only
  (repeat' split) <;> simp

@[simp] theorem State.postWb_outside (s : State) (n : Nat) (first : Bool) :
    (s.postWb n first).valves = s.valves ∧ (s.postWb n first).host = s.host := by
  unfold State.postWb
  (repeat' split) <;> simp

@[simp] theorem State.postRefresh_outside (s : State) (x : TSlot) (need : Nat) :
    (s.postRefresh x need).valves = s.valves ∧ (s.postRefresh x need).host = s.host := by
  unfold State.postRefresh
  split <;> simp

@[simp] theorem State.allocSlot_outside (s : State) (more : Bool) :
    (s.allocSlot more).2.valves = s.valves ∧ (s.allocSlot more).2.host = s.host := by
  unfold State.allocSlot
  dsimp only
  (repeat' split) <;> simp

@[simp] theorem State.fetchTile_outside (s : State) (tx ty : Int) (need : Nat) :
    (s.fetchTile tx ty need).valves = s.valves ∧ (s.fetchTile tx ty need).host = s.host := by
  unfold State.fetchTile
  dsimp only
  (repeat' split) <;> simp

@[simp] theorem State.postFetch_outside (s : State) (tx ty : Int) (need : Nat) :
    (s.postFetch tx ty need).valves = s.valves ∧ (s.postFetch tx ty need).host = s.host := by
  unfold State.postFetch
  split <;> simp

@[simp] theorem State.unstick_outside (s : State) : s.unstick.valves = s.valves ∧ s.unstick.host = s.host :=
  ⟨State.each_valves _ _ _ (by simp), State.each_host _ _ _ (by simp)⟩

/-! ### Requests that end (R141, R147): commands that waited for them end too -/

@[simp] theorem State.wbEnded_linkSetup (s : State) (slot : Nat) (ok : Bool) :
    (s.wbEnded slot ok).host.linkSetup = s.host.linkSetup := rfl

@[simp] theorem State.dropsEnded_outside (s : State) :
    s.dropsEnded.valves = s.valves ∧ s.dropsEnded.host.linkSetup = s.host.linkSetup :=
  ⟨State.each_valves _ _ _ fun u w => by split <;> simp, State.each_linkSetup _ _ fun u w => by split <;> simp⟩

@[simp] theorem State.patchEnds_linkSetup (s : State) (tx ty : Int) :
    (s.patchEnds tx ty).host.linkSetup = s.host.linkSetup :=
  State.each_linkSetup _ _ fun u w => by (repeat' split) <;> simp

@[simp] theorem State.settled_outside (s : State) (n : Nat) :
    (s.settled n).valves = s.valves ∧ (s.settled n).host.linkSetup = s.host.linkSetup := by
  unfold State.settled
  (repeat' split) <;> simp

@[simp] theorem State.tileOver_outside (s : State) (p : TPlaced) :
    (s.tileOver p).valves = s.valves ∧ (s.tileOver p).host.linkSetup = s.host.linkSetup := by
  unfold State.tileOver
  dsimp only
  (repeat' split) <;> simp

@[simp] theorem State.unanswered_outside (s : State) :
    s.unanswered.valves = s.valves ∧ s.unanswered.host.linkSetup = s.host.linkSetup := by
  simp [State.unanswered]

@[simp] theorem State.bindTiles_outside (s : State) :
    s.bindTiles.valves = s.valves ∧ s.bindTiles.host.linkSetup = s.host.linkSetup := by
  unfold State.bindTiles
  rw [State.each_valves _ _ _ (by simp), State.each_linkSetup _ _ (by simp)]
  constructor <;> split <;> simp

/-! ### BIND (R51, R52, R365) -/

theorem State.tellOrphan_outside (s : State) :
    s.tellOrphan.host.linkSetup = s.host.linkSetup ∧ s.tellOrphan.dev = { s.dev with orphan := none } := by
  unfold State.tellOrphan
  split
  next h => simp [← h]
  next => exact ⟨rfl, rfl⟩

theorem State.bindHost_lastHb (s : State) (resume : Bool) : (s.bindHost resume).host.lastHb = s.now := by
  have hsetup : (s.bindHost resume).host.linkSetup
      = { s.host with lastHb := s.now, away := false, telSel := if resume then s.host.telSel else {} }.linkSetup := by
    simp [State.bindHost, State.tellOrphan_outside, State.now]
  exact (HostIf.session_of_linkSetup hsetup).1

theorem State.bindHost_valves (s : State) (resume : Bool) : (s.bindHost resume).valves = s.valves := by
  simp [State.bindHost]

theorem State.bindHost_dev (s : State) (resume : Bool) :
    (s.bindHost resume).dev = { s.dev with bound := true, grace := none, orphan := none } := by
  simp [State.bindHost, State.tellOrphan_outside]

end Sys2Proof.Machine
end

section
/-! BIND, UNBIND, the state commands and CLEAR_FAULT (R33 to R40, R50 to R52, R413). -/

namespace Sys2Proof.Machine

/-! ### What a command finds -/

/-- What a command finds once it has been taken off the ring is what stood there before. -/
@[simp] theorem State.taken_keeps (s : State) : s.taken.time = s.time ∧ s.taken.dev = s.dev ∧ s.taken.sag = s.sag
    ∧ s.taken.acts = s.acts ∧ s.taken.cfg = s.cfg ∧ s.taken.nav = s.nav ∧ s.taken.valves = s.valves := by
  simp [State.taken]

@[simp] theorem State.taken_now (s : State) : s.taken.now = s.now := by simp [State.now]

@[simp] theorem State.taken_firingTag (s : State) (dt : Nat) : (s.advance dt).taken.firingTag = s.firingTag := by
  simp [State.firingTag]

@[simp] theorem State.taken_unsafeHolder (s : State) (dt : Nat) :
    (s.advance dt).taken.unsafeHolder = s.unsafeHolder := by
  simp [State.unsafeHolder]

@[simp] theorem State.taken_outputsHolder (s : State) (dt : Nat) :
    (s.advance dt).taken.outputsHolder = s.outputsHolder := by
  have hclaims : (s.advance dt).taken.claims = s.claims := rfl
  simp [State.outputsHolder, State.holderOf, hclaims]

theorem State.ne_fault_of_admits {s : State} {op : Nat} (ha : s.admits op = true) (hop : legalIn op .fault = false) :
    s.dev.st ≠ .fault := by
  intro hst
  have hlegal := State.legalIn_of_admits ha
  rw [hst, hop] at hlegal
  exact Bool.false_ne_true hlegal

/-- CLEAR_FAULT is legal in FAULT alone. -/
theorem State.fault_of_admits_clearFault {s : State} (ha : s.admits 0x09 = true) : s.dev.st = .fault := by
  have hlegal := State.legalIn_of_admits ha
  cases hst : s.dev.st with
  | fault => rfl
  | _ => exact absurd (hst ▸ hlegal) (by decide)

/-! ### BIND -/

/-- A BIND keeps the state of a grace of this boot, where it asks to, and FAULT (R52). -/
def State.bindKeeps (s : State) (resume : Bool) (boot : Word) : Bool :=
  s.dev.grace.isSome && resume && boot == s.dev.bootCount

theorem cmdBind_done {u : State} {resume : Bool} {boot : Word} (hf : u.firingTag = none) :
    cmdBind resume boot u = .done .ok
      ((if u.bindKeeps resume boot || (u.bindHost resume).dev.st == .fault then u.bindHost resume
        else (u.bindHost resume).enter .standby causeCommand).bindRes (u.bindKeeps resume boot))
      (if u.bindKeeps resume boot || (u.bindHost resume).dev.st == .fault then u.bindHost resume
        else (u.bindHost resume).enter .standby causeCommand) := by
  unfold cmdBind
  rw [hf]
  rfl

theorem cmdBind_stays {u : State} {resume : Bool} {boot : Word} (hf : u.firingTag = none)
    (h : u.bindKeeps resume boot = true ∨ u.dev.st = .fault) :
    cmdBind resume boot u = .done .ok ((u.bindHost resume).bindRes (u.bindKeeps resume boot)) (u.bindHost resume) := by
  rw [cmdBind_done hf, if_pos (by simpa using h)]

theorem cmdBind_enters {u : State} {resume : Bool} {boot : Word} (hf : u.firingTag = none)
    (hk : u.bindKeeps resume boot = false) (hst : u.dev.st ≠ .fault) :
    cmdBind resume boot u = .done .ok (((u.bindHost resume).enter .standby causeCommand).bindRes false)
      ((u.bindHost resume).enter .standby causeCommand) := by
  rw [cmdBind_done hf, if_neg (by simpa [hk] using hst), hk]

theorem execBind_enters {s : State} {dt : Nat} {h : Hdr} {resume : Bool} {boot : Word} (ht : Takes s dt 0x01 h)
    (hf : s.firingTag = none) (hst : s.dev.st ≠ .fault)
    (hg : s.dev.grace = none ∨ resume = false ∨ boot ≠ s.dev.bootCount) :
    Answers (.bind dt h resume boot) 0x01 h s .ok (resultOf [(128, 8, 3), (136, 1, 0), (144, 32, s.dev.bootCount.toNat)])
      (fun v => v.dev.bound = true ∧ v.dev.grace = none ∧ v.dev.st = .standby ∧ v.dev.cause = 0
        ∧ v.host.lastHb = (s.advance dt).now) := by
  have hk : (s.advance dt).taken.bindKeeps resume boot = false := by
    rcases hg with hg | hg | hg <;> simp [State.bindKeeps, hg]
  refine answers_of_done rfl ht (u := ((s.advance dt).taken.bindHost resume).enter .standby causeCommand) ?_ ?_
  · rw [cmdBind_enters (by simpa using hf) hk (by simpa using hst)]
    simp [State.bindRes, State.enter_dev, State.bindHost_dev, DevState.code, b2n]
  · refine ⟨?_, ?_, ?_, ?_, ?_⟩
    iterate 4 simp [State.enter_dev, State.bindHost_dev, causeCommand]
    have hsetup := State.enter_linkSetup ((s.advance dt).taken.bindHost resume) .standby causeCommand (by decide)
    rw [(HostIf.session_of_linkSetup hsetup).1, State.bindHost_lastHb, State.taken_now]

theorem execBind_resumes {s : State} {dt : Nat} {h : Hdr} {g : Grace} (ht : Takes s dt 0x01 h)
    (hf : s.firingTag = none) (hg : s.dev.grace = some g) :
    Answers (.bind dt h true s.dev.bootCount) 0x01 h s .ok
      (resultOf [(128, 8, s.dev.st.code), (136, 1, 1), (144, 32, s.dev.bootCount.toNat)])
      (fun v => v.dev.bound = true ∧ v.dev.grace = none ∧ v.dev.st = s.dev.st ∧ v.valves = s.valves) := by
  have hk : (s.advance dt).taken.bindKeeps true s.dev.bootCount = true := by simp [State.bindKeeps, hg]
  refine answers_of_done rfl ht (u := (s.advance dt).taken.bindHost true) ?_ ?_
  · rw [cmdBind_stays (by simpa using hf) (.inl hk), hk]
    simp [State.bindRes, State.bindHost_dev, b2n]
  · simp [State.bindHost_dev, State.bindHost_valves]

theorem execBind_in_fault {s : State} {dt : Nat} {h : Hdr} {resume : Bool} {boot : Word} (ht : Takes s dt 0x01 h)
    (hf : s.firingTag = none) (hst : s.dev.st = .fault) (hg : s.dev.grace = none) :
    Answers (.bind dt h resume boot) 0x01 h s .ok (resultOf [(128, 8, 7), (144, 32, s.dev.bootCount.toNat)])
      (fun v => v.dev = { s.dev with bound := true, orphan := none } ∧ v.host.lastHb = (s.advance dt).now) := by
  have hk : (s.advance dt).taken.bindKeeps resume boot = false := by simp [State.bindKeeps, hg]
  refine answers_of_done rfl ht (u := (s.advance dt).taken.bindHost resume) ?_ ?_
  · rw [cmdBind_stays (by simpa using hf) (.inr (by simpa using hst)), hk]
    simp [State.bindRes, State.bindHost_dev, hst, DevState.code, b2n, resultOf, pack]
  · simp [State.bindHost_dev, State.bindHost_lastHb, ← hg]

/-! ### UNBIND -/

/-- Nothing is bound any more, and no telemetry is selected. -/
def State.unbound (s : State) : State :=
  (s.updDev (fun d => { d with bound := false })).updHost (fun h => { h with telSel := {} })

theorem cmdUnbind_done {u : State} (hh : u.unsafeHolder = none) : cmdUnbind u = .done .ok 0
    (if u.dev.st == .standby then u.unbound.enter .safe causeCommand else u.unbound) := by
  unfold cmdUnbind
  rw [hh]
  rfl

theorem execUnbind_done {s : State} {dt : Nat} {h : Hdr} (ht : Takes s dt 0x02 h) (hh : s.unsafeHolder = none) :
    Answers (.unbind dt h) 0x02 h s .ok 0 (fun v =>
      v.dev.bound = false ∧ v.host.telSel = {} ∧ (s.dev.st = .standby → v.dev.st = .safe)
      ∧ (s.dev.st ≠ .standby → v.dev.st = s.dev.st)) := by
  refine answers_of_done rfl ht (cmdUnbind_done (by simpa using hh)) ?_
  by_cases hst : s.dev.st = .standby
  · have hsetup := State.enter_linkSetup (s.advance dt).taken.unbound .safe causeCommand (by decide)
    rw [if_pos (by simpa using hst), (HostIf.session_of_linkSetup hsetup).2]
    simp [State.enter_dev, State.unbound, hst]
  · rw [if_neg (by simpa using hst)]
    simp [State.unbound, hst]

/-- Settles O17. -/
theorem bindCommands : Obligations.BindCommands :=
  ⟨fun _ _ _ _ _ => execBind_enters, fun _ _ _ _ => execBind_resumes, fun _ _ _ _ _ => execBind_in_fault,
    fun _ _ _ => execUnbind_done⟩

/-! ### The state commands (R32 to R37) -/

/-- A state command that leaves the device part `d` answers OK with its state and run request. -/
theorem answers_of_stateDone {s v : State} {dt : Nat} {op : Byte} {c : Instr} {h : Hdr} {body : State → Verdict} {d : Dev}
    {code run : Nat} {P : State → Prop} (hx : exec c s = .next (s.command dt op c h body)) (ht : Takes s dt op h)
    (hb : body (s.advance dt).taken = v.stateDone) (hd : v.dev = d) (hcode : d.st.code = code) (hrun : b2n d.runReq = run)
    (hP : P v) : Answers c op h s .ok (resultOf [(128, 8, code), (136, 1, run)]) P := by
  subst hcode hrun hd
  exact answers_of_done hx ht hb hP

/-- The device part once a command has had state `new` entered. -/
def State.commandedDev (s : State) (dt : Nat) (new : DevState) (runReq : Bool) : Dev :=
  { s.dev with st := new, cause := 0, stMt := (s.advance dt).now, runReq := runReq }

theorem State.enter_commandedDev {s u : State} {dt : Nat} (new : DevState) (hdev : u.dev = { s.dev with runReq := u.dev.runReq })
    (htime : u.time = (s.advance dt).time) : (u.enter new causeCommand).dev = s.commandedDev dt new u.dev.runReq := by
  rw [State.enter_dev, hdev]
  simp [State.commandedDev, causeCommand, State.now, htime]

section StateCommand

variable {s : State} {dt : Nat} {h : Hdr}

theorem execArm_parks (ht : Takes s dt 0x03 h) (hf : s.firingTag = none) (himage : s.cfg.inForce ≠ .straps)
    (horigin : s.nav.origin ≠ none) : Answers (.arm dt h) 0x03 h s .ok (resultOf [(128, 8, 4), (136, 1, 0)]) (fun v =>
      v.dev = { s.dev with st := .parked, cause := 0, stMt := (s.advance dt).now, runReq := false } ∧ v.sag = s.sag) := by
  let u := (s.advance dt).taken
  have hst : s.dev.st ≠ .fault := State.ne_fault_of_admits ht.2.2 (by decide)
  have hbody : cmdArm u = (((u.setRun false).enter .parked causeCommand).loopsArm).stateDone := by
    simp [cmdArm, checks, hf, u, himage, horigin]
  have hdev : ((u.setRun false).enter .parked causeCommand).loopsArm.dev = s.commandedDev dt .parked false := by
    rw [State.loopsArm_dev]
    exact State.enter_commandedDev .parked (by simp [State.setRun, u]) (by simp [State.setRun, u])
  refine answers_of_stateDone rfl ht hbody hdev rfl rfl ⟨hdev, ?_⟩
  simp only [State.loopsArm_keeps]
  rw [State.enter_sag _ _ _ (by simpa [State.setRun, u] using hst)]
  simp [State.setRun, u]

theorem execDisarm_stands_by (ht : Takes s dt 0x04 h) (hf : s.firingTag = none) :
    Answers (.disarm dt h) 0x04 h s .ok (resultOf [(128, 8, 3), (136, 1, b2n s.dev.runReq)]) (fun v =>
      v.dev = { s.dev with st := .standby, cause := 0, stMt := (s.advance dt).now } ∧ v.sag = s.sag) := by
  let u := (s.advance dt).taken
  have hst : s.dev.st ≠ .fault := State.ne_fault_of_admits ht.2.2 (by decide)
  have hbody : cmdDisarm u = (u.enter .standby causeCommand).stateDone := by
    simp [cmdDisarm, checks, u, hf]
  have hdev : (u.enter .standby causeCommand).dev = s.commandedDev dt .standby s.dev.runReq := by
    simpa [u] using State.enter_commandedDev (s := s) (u := u) (dt := dt) .standby (by simp [u]) (by simp [u])
  exact answers_of_stateDone rfl ht hbody hdev rfl rfl
    ⟨hdev, by rw [State.enter_sag _ _ _ (by simpa [u] using hst)]; simp [u]⟩

theorem execManualExit_parks (ht : Takes s dt 0x08 h) (hf : s.firingTag = none) :
    Answers (.manualExit dt h) 0x08 h s .ok (resultOf [(128, 8, 4), (136, 1, 0)]) (fun v =>
      v.dev = { s.dev with st := .parked, cause := 0, stMt := (s.advance dt).now, runReq := false } ∧ v.sag = s.sag) := by
  let u := (s.advance dt).taken
  have hst : s.dev.st ≠ .fault := State.ne_fault_of_admits ht.2.2 (by decide)
  have hbody : cmdManualExit u = ((u.setRun false).enter .parked causeCommand).stateDone := by
    simp [cmdManualExit, checks, u, hf]
  have hdev : ((u.setRun false).enter .parked causeCommand).dev = s.commandedDev dt .parked false :=
    State.enter_commandedDev .parked (by simp [State.setRun, u]) (by simp [State.setRun, u])
  exact answers_of_stateDone rfl ht hbody hdev rfl rfl
    ⟨hdev, by rw [State.enter_sag _ _ _ (by simpa [State.setRun, u] using hst)]; simp [State.setRun, u]⟩

/-- Every section commanded in MANUAL is OFF. -/
def State.sectionsOff (s : State) : State := s.updPlanner (fun p => { p with manual := List.replicate 96 {} })

theorem State.sectionsOff_manual (s : State) : s.sectionsOff.planner.manual = List.replicate 96 {} := by
  simp [State.sectionsOff]

theorem execManualEnter_enters (ht : Takes s dt 0x07 h) (ho : s.outputsHolder = none) :
    Answers (.manualEnter dt h) 0x07 h s .ok (resultOf [(128, 8, 6), (136, 1, b2n s.dev.runReq)]) (fun v =>
      v.dev = { s.dev with st := .manual, cause := 0, stMt := (s.advance dt).now }
      ∧ v.planner.manual = List.replicate 96 {} ∧ v.sag = s.sag) := by
  let u := (s.advance dt).taken
  have hst : s.dev.st ≠ .fault := State.ne_fault_of_admits ht.2.2 (by decide)
  have hbody : cmdManualEnter u = (u.enter .manual causeCommand).sectionsOff.stateDone := by
    simp [cmdManualEnter, checks, u, ho, State.sectionsOff]
  have hdev : (u.enter .manual causeCommand).sectionsOff.dev = s.commandedDev dt .manual s.dev.runReq := by
    simpa [u, State.sectionsOff] using
      State.enter_commandedDev (s := s) (u := u) (dt := dt) .manual (by simp [u]) (by simp [u])
  have hsag : (u.enter .manual causeCommand).sectionsOff.sag = s.sag := by
    simp [State.sectionsOff, State.enter_sag, u, hst]
  exact answers_of_stateDone rfl ht hbody hdev rfl rfl ⟨hdev, State.sectionsOff_manual _, hsag⟩

/-- RUN and HOLD set the run request and nothing else. -/
theorem State.setRun_taken_dev (on : Bool) : ((s.advance dt).taken.setRun on).dev = { s.dev with runReq := on } := by
  simp [State.setRun]

theorem execRun_sets (ht : Takes s dt 0x05 h) (hf : s.firingTag = none) :
    Answers (.run dt h) 0x05 h s .ok (resultOf [(128, 8, s.dev.st.code), (136, 1, 1)]) (fun v =>
      v = (s.advance dt).taken.updDev (fun d => { d with runReq := true })) :=
  answers_of_stateDone rfl ht (by simp [cmdRun, checks, hf]) (State.setRun_taken_dev true) rfl rfl rfl

theorem execHold_clears (ht : Takes s dt 0x06 h) (hf : s.firingTag = none) :
    Answers (.hold dt h) 0x06 h s .ok (resultOf [(128, 8, s.dev.st.code), (136, 1, 0)]) (fun v =>
      v = (s.advance dt).taken.updDev (fun d => { d with runReq := false })) :=
  answers_of_stateDone rfl ht (by simp [cmdHold, checks, hf]) (State.setRun_taken_dev false) rfl rfl rfl

end StateCommand

/-! ### CLEAR_FAULT (R40, R443, R453) -/

theorem State.releaseForce_force (s : State) :
    s.releaseForce.sag.a.force = false ∧ s.releaseForce.sag.b.force = false := ⟨rfl, rfl⟩

/-- STANDBY entered from FAULT releases force-safe in both lanes. -/
theorem State.enter_standby_releases {u : State} (hst : u.dev.st = .fault) (k : Nat) :
    (u.enter .standby k).sag.a.force = false ∧ (u.enter .standby k).sag.b.force = false := by
  unfold State.enter
  simp [hst, DevState.active, State.releaseForce_force]

/-- The recorded causes are gone, and forgotten one by one. -/
def State.causesForgotten (s : State) : State :=
  (s.updDev (fun d => { d with causes := [], summary := 0 })).each s.dev.causes State.forgetCause

theorem State.causesForgotten_dev (s : State) : s.causesForgotten.dev = { s.dev with causes := [], summary := 0 } := by
  simp [State.causesForgotten]

theorem State.causesForgotten_time (s : State) : s.causesForgotten.time = s.time := by
  simp [State.causesForgotten]

theorem State.clearFault_of_all_gone {s : State} (h : ∀ c ∈ s.dev.causes, s.causeGone c = true) :
    s.clearFault = .done .ok (resultOf [(128, 8, 3)]) (s.causesForgotten.enter .standby causeCommand) := by
  have hleft : s.causesLeft.isEmpty = true := by
    simpa [State.causesLeft] using h
  exact if_pos hleft

theorem State.clearFault_of_held {s : State} (hst : s.dev.st = .fault) (hc : s.dev.causes = [.cls 1]) :
    s.clearFault = .done .faultHeld (resultOf [(128, 8, 7), (144, 16, 32)]) s := by
  have hleft : s.causesLeft = [.cls 1] := by simp [State.causesLeft, hc, State.causeGone]
  simp [State.clearFault, hleft, hst, DevState.code, summaryOf, FCause.bit]

theorem cmdClearFault_bound {u : State} (hf : u.firingTag = none) (hb : u.dev.bound = true) :
    cmdClearFault u = u.clearFault := by
  simp [cmdClearFault, checks, hf, hb]

theorem execClearFault_clears {s : State} {dt : Nat} {h : Hdr} (ht : Takes s dt 0x09 h) (hf : s.firingTag = none)
    (hb : s.dev.bound = true) (hgone : ∀ c ∈ s.dev.causes, (s.advance dt).causeGone c = true) :
    Answers (.clearFault dt h) 0x09 h s .ok (resultOf [(128, 8, 3)]) (fun v =>
      v.dev = { s.dev with st := .standby, cause := 0, stMt := (s.advance dt).now, causes := [], summary := 0 }
      ∧ v.sag.a.force = false ∧ v.sag.b.force = false) := by
  let u := (s.advance dt).taken
  have hgone' : ∀ c ∈ u.dev.causes, u.causeGone c = true := fun c hc => hgone c (by simpa [u] using hc)
  have hbody : cmdClearFault u = .done .ok (resultOf [(128, 8, 3)]) (u.causesForgotten.enter .standby causeCommand) :=
    (cmdClearFault_bound (by simpa [u] using hf) (by simpa [u] using hb)).trans (State.clearFault_of_all_gone hgone')
  have hst : u.causesForgotten.dev.st = .fault := by
    simpa [State.causesForgotten_dev, u] using State.fault_of_admits_clearFault ht.2.2
  refine answers_of_done rfl ht hbody ⟨?_, State.enter_standby_releases hst _⟩
  rw [State.enter_dev, State.causesForgotten_dev]
  simp [causeCommand, State.now, State.causesForgotten_time, u]

theorem execClearFault_held {s : State} {dt : Nat} {h : Hdr} (ht : Takes s dt 0x09 h) (hf : s.firingTag = none)
    (hb : s.dev.bound = true) (hc : s.dev.causes = [.cls 1]) :
    Answers (.clearFault dt h) 0x09 h s .faultHeld (resultOf [(128, 8, 7), (144, 16, 32)]) (fun v =>
      v.dev = s.dev ∧ v.sag = s.sag) := by
  have hst : (s.advance dt).taken.dev.st = .fault := by simpa using State.fault_of_admits_clearFault ht.2.2
  refine answers_of_done rfl ht (u := (s.advance dt).taken) ?_ ⟨by simp, by simp⟩
  exact (cmdClearFault_bound (by simpa using hf) (by simpa using hb)).trans (State.clearFault_of_held hst (by simpa using hc))

/-- Settles O18. -/
theorem stateCommands : Obligations.StateCommands :=
  ⟨fun _ _ _ => execArm_parks, fun _ _ _ => execDisarm_stands_by, fun _ _ _ => execRun_sets, fun _ _ _ => execHold_clears,
    fun _ _ _ => execManualEnter_enters, fun _ _ _ => execManualExit_parks, fun _ _ _ => execClearFault_clears,
    fun _ _ _ => execClearFault_held⟩

end Sys2Proof.Machine
end

section
/-! LOW_CN0_RELEASE of a channel that the Sextant self-test has out of service (R74, R98). -/

namespace Sys2Proof.Machine

/-- Channels out of service are not released for their C/N0. -/
theorem execLowCn0Release_of_underTest {s : State} {dt ch : Nat} (h : (s.advance dt).underTest ch = true) :
    execLowCn0Release dt ch s = .next (s.advance dt) := by
  simp [execLowCn0Release, h]

/-- The first 50 ms of a Sextant self-test, which has channels 0 to 7 out of service, with channel 5 in use. -/
def channelUnderTest : State :=
  { time := { running := true, mt := 250000000 }
    cfg := { vals := { vals := [(.antennas, 0, 1)] } }
    acts := [{ code := 6, start := 250000000 }]
    nav := { sx := { chans := [{ ch := 5, signal := 0x01, svid := 7, begun := true, locked := true }] } } }

/-- Refutes O28: the statement has LOW_CN0_RELEASE free the channel that it names in every state where Sextant runs,
and leaves out the self-test of R98.  In `channelUnderTest` the channel is out of service, and stays.  (The clauses for
acquisitionDetection, bocJump and phaseLock leave the self-test out too.) -/
theorem not_trackingRows : ¬ Obligations.TrackingRows := by
  rintro ⟨-, -, -, -, -, -, hrelease, -⟩
  obtain ⟨t, ht, hchans, -⟩ := hrelease channelUnderTest 0 5 (by decide)
  have hrow : exec (.lowCn0Release 0 5) channelUnderTest = .next (channelUnderTest.advance 0) :=
    execLowCn0Release_of_underTest (by decide)
  rw [Host.Outcome.next.inj (ht.symm.trans hrow)] at hchans
  exact absurd hchans (by decide)

end Sys2Proof.Machine
end

section
/-! A measurement epoch of five satellites with a valid solution, and the GPS time that the solution carries (R85, R86,
R97). -/

namespace Sys2Proof.Machine

/-! ### Measurements that pass the tests of R85 -/

theorem medianOf_replicate (n : Nat) (a : Int) : medianOf (List.replicate (n + 1) a) = a := by
  have hsorted : (List.replicate (n + 1) a).mergeSort (fun a b => decide (a ≤ b)) = List.replicate (n + 1) a :=
    List.mergeSort_of_pairwise (by simp [List.pairwise_replicate])
  have hlow : n / 2 < n + 1 := by omega
  have hhigh : (n + 1) / 2 < n + 1 := by omega
  simp [medianOf, hsorted, hlow, hhigh]

/-- Test 5 passes a measurement whose C/N0 every other shares. -/
theorem State.badPower_of_equal_cn0 {s : State} {ms : List Meas} {m : Meas} (hm : m ∈ ms)
    (heq : ∀ x ∈ ms, x.o.cn0 = m.o.cn0) (hmax : m.o.cn0 ≤ 4 * s.cfgN .t5Cn0Max)
    (hrise : s.rise m ≤ 4 * s.cfgI .t5Rise) : s.badPower ms m = false := by
  let band := ms.filter (fun x => lowerBand x.c.signal = lowerBand m.c.signal)
  have hband : band.map (fun x => (x.o.cn0 : Int)) = List.replicate band.length (m.o.cn0 : Int) :=
    List.map_eq_replicate_iff.2 fun x hx => by rw [heq x (List.mem_of_mem_filter hx)]
  obtain ⟨n, hn⟩ : ∃ n, band.length = n + 1 :=
    Nat.exists_eq_add_one.2 (List.length_pos_of_mem (List.mem_filter.2 ⟨hm, by simp⟩))
  have hmedian : medianOf (band.map (fun x => (x.o.cn0 : Int))) = (m.o.cn0 : Int) := by
    rw [hband, hn, medianOf_replicate]
  simp only [State.badPower, band] at hmedian ⊢
  rw [hmedian]
  simp [Nat.not_lt.2 hmax, Int.not_lt.2 hrise]

theorem State.testCode_eq_zero {s : State} {o : EpochObs} {ms : List Meas} {m : Meas} (hpower : s.badPower ms m = false)
    (hjump : s.badJump m = false) (hclock : s.badClock m = false) (hcross : s.badCross ms m = false)
    (hantenna : s.badAntenna o ms m = false) : s.testCode o ms m = 0 := by
  simp [State.testCode, hpower, hjump, hclock, hcross, hantenna]

/-- The measurements of an epoch, where none fails a test and the residual test has nothing to judge. -/
theorem State.testedMeas_of_passed {s : State} {o : EpochObs} (hresiduals : o.residuals = [])
    (hpass : ∀ m ∈ s.measured o, s.testCode o (s.measured o) m = 0) :
    s.testedMeas o = (s.measured o).map (fun m => s.smoothMeas { s.restarted (s.measured o) m with code := 0 }) := by
  have hcodes : (s.measured o).map (fun m => { s.restarted (s.measured o) m with code := s.testCode o (s.measured o) m })
      = (s.measured o).map (fun m => { s.restarted (s.measured o) m with code := 0 }) :=
    List.map_congr_left fun m hm => by rw [hpass m hm]
  simp [State.testedMeas, hresiduals, hcodes, State.residualTest]

/-! ### The epoch -/

/-- Five channels that track L1 C/A of five satellites on antenna A, at an instant of the epoch grid. -/
def fiveTracked : State :=
  { time := { running := true, mt := 250000000 }
    cfg := { vals := { vals := [(.antennas, 0, 1)] } }
    nav := { sx := { chans := (List.range 5).map (fun i =>
      { ch := i, signal := 0x01, svid := i + 1, begun := true, locked := true }) } } }

/-- What that epoch measures, each at 40 dB-Hz, with a single-point solution at GPS time 7 ns. -/
def singleFix : EpochObs :=
  { kind := .single, usedSats := 5, ft := 7, meas := (List.range 5).map (fun i => { ch := i, cn0 := 160 }) }

/-- The state in which the epoch's measurements are tested. -/
def fiveSampled : State := fiveTracked.takeSamples singleFix.samples

theorem fiveSampled_passes : ∀ m ∈ fiveSampled.measured singleFix,
    fiveSampled.testCode singleFix (fiveSampled.measured singleFix) m = 0 := by
  have hcn0 : ∀ m ∈ fiveSampled.measured singleFix, m.o.cn0 = 160 := by decide +kernel
  have hbounds : ∀ m ∈ fiveSampled.measured singleFix,
      m.o.cn0 ≤ 4 * fiveSampled.cfgN .t5Cn0Max ∧ fiveSampled.rise m ≤ 4 * fiveSampled.cfgI .t5Rise := by decide +kernel
  have hothers : ∀ m ∈ fiveSampled.measured singleFix, fiveSampled.badJump m = false ∧ fiveSampled.badClock m = false
      ∧ fiveSampled.badCross (fiveSampled.measured singleFix) m = false
      ∧ fiveSampled.badAntenna singleFix (fiveSampled.measured singleFix) m = false := by decide +kernel
  intro m hm
  obtain ⟨hmax, hrise⟩ := hbounds m hm
  obtain ⟨hjump, hclock, hcross, hantenna⟩ := hothers m hm
  have hpower := State.badPower_of_equal_cn0 hm (fun x hx => (hcn0 x hx).trans (hcn0 m hm).symm) hmax hrise
  exact State.testCode_eq_zero hpower hjump hclock hcross hantenna

/-- The solution passed carries the epoch's GPS time. -/
theorem fiveTracked_epoch_sol : (fiveTracked.epoch singleFix).nav.sol = some { epoch := 250000000, ft := 7, level := 2 } := by
  have htested := State.testedMeas_of_passed (o := singleFix) rfl fiveSampled_passes
  rw [fiveSampled] at htested
  simp only [State.epoch, htested]
  decide +kernel

/-- Refutes O29: the statement has an epoch pass on a solution whose GPS time (R97) is 0, as it lists the solution's
fields without `ft`.  In `fiveTracked` the epoch `singleFix` passes one with a GPS time of 7 ns. -/
theorem not_clockModelRows : ¬ Obligations.ClockModelRows := by
  rintro ⟨hepoch, -⟩
  have hnow : fiveTracked.advance 0 = fiveTracked := State.advance_zero _
  have hdue : fiveTracked.epochDue = true := by decide
  obtain ⟨t, ht, -, -, -, -, hsol, -⟩ := hepoch fiveTracked 0 singleFix (by decide) (by rw [hnow, hdue])
  have hrow : exec (.measurementEpoch 0 singleFix) fiveTracked = .next (fiveTracked.epoch singleFix) := by
    show execMeasurementEpoch 0 singleFix _ = _
    have hruns : fiveTracked.sxRuns = true := by decide
    simp [execMeasurementEpoch, hnow, hruns, hdue]
  rw [Host.Outcome.next.inj (ht.symm.trans hrow), fiveTracked_epoch_sol] at hsol
  obtain ⟨l, -, hl⟩ := hsol (by decide)
  have hft : (7 : Int) = 0 := congrArg Sol.ft (Option.some.inj hl)
  exact absurd hft (by decide)

end Sys2Proof.Machine
end

section
/-! Fusion's outputs (R20, R99, R121, R122) and the IMU port (R109 to R112). -/

namespace Sys2Proof.Machine

/-! ### What the rows of fusion may change -/

/-- `t` differs from `s` in the navigation side, the events raised and the counters at most. -/
def NavOnly (s t : State) : Prop := t = { s with nav := t.nav, host := t.host, cnt := t.cnt }

theorem NavOnly.trans {s t u : State} (hst : NavOnly s t) (htu : NavOnly t u) : NavOnly s u := by
  rw [NavOnly] at hst htu ⊢
  rw [htu, hst]

theorem NavOnly.updNav (s : State) (f : Nav → Nav) : NavOnly s (s.updNav f) := rfl

theorem NavOnly.updImu (s : State) (f : Imu → Imu) : NavOnly s (s.updImu f) := rfl

theorem NavOnly.count (s : State) (i k : Nat) : NavOnly s (s.count i k) := rfl

theorem NavOnly.raise (s : State) (code subject : Nat) (data : List (Nat × Nat × Nat)) (urgent : Bool) :
    NavOnly s (s.raise code subject data urgent) := by
  have hkeeps := State.raise_keeps s code subject data urgent
  unfold NavOnly
  generalize s.raise code subject data urgent = t at hkeeps ⊢
  cases t
  simp_all

theorem NavOnly.imuInit (s : State) : NavOnly s s.imuInit := by
  unfold State.imuInit
  split <;> rfl

/-! ### The IMU port -/

@[simp] theorem State.updImu_imu (s : State) (f : Imu → Imu) : (s.updImu f).nav.imu = f s.nav.imu := rfl

theorem State.imuMiss_navOnly (s : State) : NavOnly s s.imuMiss := by
  have hmissed := (NavOnly.count s 29 1).trans
    (NavOnly.updImu _ fun i => { i with missed := i.missed + 1, good := 0, burst := none })
  unfold State.imuMiss
  dsimp only
  split
  · exact (hmissed.trans (.updImu _ _)).trans (.raise ..)
  · exact hmissed

/-- A missed sample ends the burst read and the run of good ones; the tenth in a row is the loss (R112). -/
theorem State.imuMiss_imu (s : State) : s.imuMiss.nav.imu =
    { s.nav.imu with missed := s.nav.imu.missed + 1, good := 0, burst := none,
                     lost := s.nav.imu.lost || decide (9 ≤ s.nav.imu.missed) } := by
  unfold State.imuMiss
  dsimp only
  split
  next h =>
    obtain ⟨htenth, -⟩ : 9 ≤ s.nav.imu.missed ∧ s.nav.imu.lost = false := by simpa using h
    simp [htenth]
  next h =>
    have hlost : 9 ≤ s.nav.imu.missed → s.nav.imu.lost = true := by simpa using h
    simpa using hlost

/-- Sending the initialisation list leaves what the port has sampled as it was. -/
@[simp] theorem State.imuInit_sampling (s : State) :
    s.imuInit.nav.imu.burst = s.nav.imu.burst ∧ s.imuInit.nav.imu.missed = s.nav.imu.missed
      ∧ s.imuInit.nav.imu.good = s.nav.imu.good ∧ s.imuInit.nav.imu.lost = s.nav.imu.lost
      ∧ s.imuInit.nav.imu.sample = s.nav.imu.sample ∧ s.imuInit.nav.imu.sampleMt = s.nav.imu.sampleMt := by
  unfold State.imuInit
  split <;> simp

theorem State.imuInit_of_profile {s : State} {p : ImuProfile} (hmode : s.cfgN .imuMode ≠ 0)
    (hp : imuParse (s.cfg.vals.blob .imuProfile 0) = some p) :
    s.imuInit = s.updImu fun i => { i with initAt := some s.now, sent := p.inits, lists := i.lists + 1 } := by
  simp only [State.imuInit, if_neg hmode, hp]
  rfl

/-- The port after a good frame, before a loss is judged to have ended. -/
def State.imuKept (s : State) (p : ImuProfile) (m : Nat) (fr : List Byte) : State :=
  (s.updImu fun i => { i with missed := 0, good := i.good + 1, burst := none, sample := p.qs.map (imuCount fr),
                              body := s.imuBody p fr, sampleMt := some m }).strapdown m (s.imuBody p fr)

/-- The hundredth good frame in a row ends a loss (R112). -/
theorem State.imuGood_cases (s : State) (p : ImuProfile) (m : Nat) (fr : List Byte) :
    (s.nav.imu.lost = true ∧ 99 ≤ s.nav.imu.good ∧ ∃ data, s.imuGood p m fr =
        ((s.imuKept p m fr).updImu fun i => { i with lost := false }).imuInit.raise 0x3004 subjModule data false) ∨
      (s.nav.imu.lost && decide (s.nav.imu.good < 99)) = s.nav.imu.lost ∧ s.imuGood p m fr = s.imuKept p m fr := by
  unfold State.imuGood
  dsimp only
  split
  next h => 
    obtain ⟨hlost, hgood⟩ : s.nav.imu.lost = true ∧ 99 ≤ s.nav.imu.good := by simpa [State.strapdown] using h
    exact .inl ⟨hlost, hgood, _, rfl⟩
  next h => 
    have hshort : s.nav.imu.lost = true → s.nav.imu.good < 99 := by simpa [State.strapdown] using h
    exact .inr ⟨by simpa using hshort, rfl⟩

theorem State.imuGood_navOnly (s : State) (p : ImuProfile) (m : Nat) (fr : List Byte) : NavOnly s (s.imuGood p m fr) := by
  have hkept : NavOnly s (s.imuKept p m fr) := rfl
  obtain ⟨-, -, data, h⟩ | ⟨-, h⟩ := s.imuGood_cases p m fr
  · rw [h]
    exact ((hkept.trans (.updImu _ _)).trans (.imuInit _)).trans (.raise ..)
  · rwa [h]

/-- A good frame is kept, dated to its instant (R110, R111). -/
theorem State.imuGood_imu (s : State) (p : ImuProfile) (m : Nat) (fr : List Byte) :
    (s.imuGood p m fr).nav.imu.burst = none ∧ (s.imuGood p m fr).nav.imu.missed = 0
      ∧ (s.imuGood p m fr).nav.imu.sampleMt = some m ∧ (s.imuGood p m fr).nav.imu.sample = p.qs.map (imuCount fr)
      ∧ (s.imuGood p m fr).nav.imu.good = s.nav.imu.good + 1
      ∧ (s.imuGood p m fr).nav.imu.lost = (s.nav.imu.lost && decide (s.nav.imu.good < 99)) := by
  obtain ⟨-, hgood, data, h⟩ | ⟨hlost, h⟩ := s.imuGood_cases p m fr
  · simp [h, State.imuKept, State.strapdown, Nat.not_lt.2 hgood]
  · rw [h, hlost]
    simp [State.imuKept, State.strapdown]

/-! ### The rows of the IMU port -/

theorem State.imuInstant_of_idle {s : State} (h : s.nav.imu.burst = none) (m wait : Nat) :
    s.imuInstant m wait = s.updImu fun i => { i with burst := some m, readAt := s.now + wait } := by
  simp [State.imuInstant, h]

theorem State.imuInstant_navOnly (s : State) (m wait : Nat) : NavOnly s (s.imuInstant m wait) := by
  unfold State.imuInstant
  dsimp only
  split
  · exact s.imuMiss_navOnly.trans (.updImu _ _)
  · exact .updImu _ _

/-- An instant abandons the burst read that has not ended, a missed sample, and starts its own (R110). -/
theorem State.imuInstant_imu (s : State) (m wait : Nat) :
    (s.imuInstant m wait).nav.imu.burst = some m ∧ (s.imuInstant m wait).nav.imu.readAt = s.now + wait
      ∧ (s.nav.imu.burst.isSome = true → (s.imuInstant m wait).nav.imu.missed = s.nav.imu.missed + 1
          ∧ (s.imuInstant m wait).nav.imu.good = 0) := by
  unfold State.imuInstant
  dsimp only
  split
  · simp [State.imuMiss_imu, State.now]
  next h => simp [h]

theorem execImuDrdyEdge_starts {s : State} {dt : Nat} (hruns : s.navRuns = true) (hmode : s.cfgN .imuMode = 1)
    (hidle : s.nav.imu.burst = none) : Completes (.imuDrdyEdge dt) s (fun t =>
      t.nav.imu = { s.nav.imu with burst := some ((s.advance dt).now - s.cfgN .imuLat * 250), readAt := (s.advance dt).now }
      ∧ t = { s.advance dt with nav := t.nav }) := by
  have hdue : ((s.advance dt).navRuns && decide ((s.advance dt).cfgN .imuMode = 1)) = true := by
    simpa using ⟨hruns, hmode⟩
  refine ⟨_, congrArg Host.Outcome.next (if_pos hdue), ?_⟩
  rw [State.imuInstant_of_idle (by simpa using hidle)]
  exact ⟨rfl, rfl⟩

theorem execImuSyncPulse_starts {s : State} {dt : Nat} (hruns : s.navRuns = true) (hmode : s.cfgN .imuMode = 2)
    (hgrid : (s.advance dt).now % (250000000 / max 1 (s.cfgN .imuRate)) = 0) : Completes (.imuSyncPulse dt) s (fun t =>
      t.nav.imu.burst = some (s.advance dt).now ∧ t.nav.imu.isync = some (s.advance dt).now
      ∧ t.nav.imu.readAt = (s.advance dt).now + s.cfgN .imuLat * 250
      ∧ (s.nav.imu.burst.isSome = true → t.nav.imu.missed = s.nav.imu.missed + 1 ∧ t.nav.imu.good = 0)
      ∧ t = { s.advance dt with nav := t.nav, host := t.host, cnt := t.cnt }) := by
  have hdue : ((s.advance dt).navRuns && decide ((s.advance dt).cfgN .imuMode = 2)
      && decide ((s.advance dt).now % (250000000 / max 1 ((s.advance dt).cfgN .imuRate)) = 0)) = true := by
    simpa using ⟨⟨hruns, hmode⟩, hgrid⟩
  have hframe := ((s.advance dt).imuInstant_navOnly (s.advance dt).now (s.cfgN .imuLat * usTicks)).trans
    (.updImu _ fun i => { i with isync := some (s.advance dt).now })
  obtain ⟨hburst, hread, hmissed⟩ := (s.advance dt).imuInstant_imu (s.advance dt).now (s.cfgN .imuLat * usTicks)
  refine ⟨_, congrArg Host.Outcome.next (if_pos hdue), hburst, ?_, hread, hmissed, hframe⟩
  simp [State.now]

/-- The read of a burst that has had its time ends, and its frame is judged by the profile (R111). -/
theorem execImuBurstComplete_due {s : State} {dt m : Nat} (fr : List Byte) {p : ImuProfile} (hruns : s.navRuns = true)
    (hburst : s.nav.imu.burst = some m) (hread : s.nav.imu.readAt ≤ (s.advance dt).now)
    (hp : imuParse (s.cfg.vals.blob .imuProfile 0) = some p) : exec (.imuBurstComplete dt fr) s =
      .next (if p.good fr = true then (s.advance dt).imuGood p m fr else (s.advance dt).imuMiss) := by
  have hruns' : (s.advance dt).navRuns = true := hruns
  show execImuBurstComplete dt fr s = _
  simp [execImuBurstComplete, hburst, hp, hruns', Nat.not_lt.2 hread]

theorem execImuBurstComplete_good {s : State} {dt m : Nat} {fr : List Byte} {p : ImuProfile} (hruns : s.navRuns = true)
    (hburst : s.nav.imu.burst = some m) (hread : s.nav.imu.readAt ≤ (s.advance dt).now)
    (hp : imuParse (s.cfg.vals.blob .imuProfile 0) = some p) (hgood : p.good fr = true) :
    Completes (.imuBurstComplete dt fr) s (fun t =>
      t.nav.imu.burst = none ∧ t.nav.imu.missed = 0 ∧ t.nav.imu.sampleMt = some m
      ∧ t.nav.imu.sample = p.qs.map (imuCount fr) ∧ t.nav.imu.good = s.nav.imu.good + 1
      ∧ t.nav.imu.lost = (s.nav.imu.lost && decide (s.nav.imu.good < 99))
      ∧ t = { s.advance dt with nav := t.nav, host := t.host, cnt := t.cnt }) := by
  obtain ⟨h1, h2, h3, h4, h5, h6⟩ := (s.advance dt).imuGood_imu p m fr
  refine ⟨_, (execImuBurstComplete_due fr hruns hburst hread hp).trans (by rw [if_pos hgood]), h1, h2, h3, h4, h5, h6,
    (s.advance dt).imuGood_navOnly p m fr⟩

theorem execImuBurstComplete_bad {s : State} {dt m : Nat} {fr : List Byte} {p : ImuProfile} (hruns : s.navRuns = true)
    (hburst : s.nav.imu.burst = some m) (hread : s.nav.imu.readAt ≤ (s.advance dt).now)
    (hp : imuParse (s.cfg.vals.blob .imuProfile 0) = some p) (hbad : p.good fr = false) :
    Completes (.imuBurstComplete dt fr) s (fun t =>
      t.nav.imu.burst = none ∧ t.nav.imu.missed = s.nav.imu.missed + 1 ∧ t.nav.imu.good = 0
      ∧ t.nav.imu.lost = (s.nav.imu.lost || decide (9 ≤ s.nav.imu.missed)) ∧ t.nav.imu.sample = s.nav.imu.sample
      ∧ t = { s.advance dt with nav := t.nav, host := t.host, cnt := t.cnt }) := by
  have himu := (s.advance dt).imuMiss_imu
  refine ⟨_, (execImuBurstComplete_due fr hruns hburst hread hp).trans (by rw [if_neg (by simp [hbad])]),
    ?_, ?_, ?_, ?_, ?_, (s.advance dt).imuMiss_navOnly⟩
  all_goals rw [himu]
  all_goals rfl

theorem execImuInitRetry_sends {s : State} {dt m : Nat} {p : ImuProfile} (hruns : s.navRuns = true)
    (hlost : s.nav.imu.lost = true) (hinit : s.nav.imu.initAt = some m) (hmode : s.cfgN .imuMode ≠ 0)
    (hp : imuParse (s.cfg.vals.blob .imuProfile 0) = some p) (hdue : m + 250000000 ≤ (s.advance dt).now) :
    Completes (.imuInitRetry dt) s (fun t =>
      t.nav.imu = { s.nav.imu with initAt := some (s.advance dt).now, sent := p.inits, lists := s.nav.imu.lists + 1 }
      ∧ t = { s.advance dt with nav := t.nav }) := by
  have hruns' : (s.advance dt).navRuns = true := hruns
  have hsends : exec (.imuInitRetry dt) s = .next (s.advance dt).imuInit := by
    show execImuInitRetry dt s = _
    simp [execImuInitRetry, hruns', hlost, hinit, hdue]
  refine ⟨_, hsends, ?_⟩
  rw [State.imuInit_of_profile (s := s.advance dt) hmode (by simpa using hp)]
  exact ⟨rfl, rfl⟩

/-! ### The output of each millisecond -/

/-- `t` differs from `s` in the navigation side, the buses' slots, the events raised, the free values and the counters at
most. -/
def FusionOnly (s t : State) : Prop :=
  t = { s with nav := t.nav, can := t.can, host := t.host, free := t.free, cnt := t.cnt }

theorem FusionOnly.trans {s t u : State} (hst : FusionOnly s t) (htu : FusionOnly t u) : FusionOnly s u := by
  rw [FusionOnly] at hst htu ⊢
  rw [htu, hst]

theorem FusionOnly.updNav (s : State) (f : Nav → Nav) : FusionOnly s (s.updNav f) := rfl

theorem FusionOnly.now {s t : State} (h : FusionOnly s t) : t.now = s.now := by rw [State.now, h, State.now]

theorem FusionOnly.running {s t : State} (h : FusionOnly s t) (code : Nat) : t.running code = s.running code := by
  rw [State.running, h, State.running]

/-- A step of the work on one output: the outputs formed before, the field origin and the IMU stay. -/
structure FusionStep (s t : State) : Prop where
  only : FusionOnly s t
  outs : t.nav.outs = s.nav.outs
  origin : t.nav.origin = s.nav.origin
  imu : t.nav.imu = s.nav.imu

theorem FusionStep.refl (s : State) : FusionStep s s := ⟨rfl, rfl, rfl, rfl⟩

theorem FusionStep.trans {s t u : State} (hst : FusionStep s t) (htu : FusionStep t u) : FusionStep s u :=
  ⟨hst.only.trans htu.only, htu.outs.trans hst.outs, htu.origin.trans hst.origin, htu.imu.trans hst.imu⟩

theorem FusionStep.raise (s : State) (code subject : Nat) (data : List (Nat × Nat × Nat)) (urgent : Bool) :
    FusionStep s (s.raise code subject data urgent) := by
  refine ⟨?_, by simp, by simp, by simp⟩
  rw [FusionOnly, NavOnly.raise s code subject data urgent]

theorem FusionStep.count (s : State) (i k : Nat) : FusionStep s (s.count i k) := ⟨rfl, rfl, rfl, rfl⟩

theorem FusionStep.updNav (s : State) {f : Nav → Nav} (houts : (f s.nav).outs = s.nav.outs)
    (horigin : (f s.nav).origin = s.nav.origin) (himu : (f s.nav).imu = s.nav.imu) : FusionStep s (s.updNav f) :=
  ⟨rfl, houts, horigin, himu⟩

theorem FusionStep.each {α : Type} {f : State → α → State} (hf : ∀ u x, FusionStep u (f u x)) (s : State)
    (xs : List α) : FusionStep s (s.each xs f) := by
  unfold State.each
  induction xs generalizing s with
  | nil => exact .refl s
  | cons x xs ih => exact (hf s x).trans (ih (f s x))

theorem FusionStep.ite {c : Prop} [Decidable c] {s t u : State} (ht : FusionStep s t) (hu : FusionStep s u) :
    FusionStep s (if c then t else u) := by
  split
  · exact ht
  · exact hu

theorem FusionStep.spdCompare (s : State) (sel i : Nat) (x : SpdRead) (q : Nat) : FusionStep s (s.spdCompare sel i x q) := by
  have hset : ∀ y : SpdSrc, FusionStep s (s.updNav fun n => { n with spd := n.spd.set i y }) :=
    fun y => .updNav s rfl rfl rfl
  unfold State.spdCompare
  dsimp only
  refine .ite (hset _) (.ite (hset _) (.ite ((hset _).trans (.raise ..)) (hset _)))

theorem FusionStep.spdStep (s : State) (xs : List SpdRead) (q : Nat) : FusionStep s (s.spdStep xs q) := by
  unfold State.spdStep
  exact (FusionStep.each (fun u _ => .spdCompare u ..) s [0, 1, 2]).trans (.updNav _ rfl rfl rfl)

theorem FusionStep.keepFilter (s : State) (ms : List FusMeas) (h : List FilterStep) (f : FilterSt) :
    FusionStep s (s.keepFilter ms h f) := ⟨rfl, rfl, rfl, rfl⟩

theorem FusionStep.keepHeading (s : State) (h : Hdg) : FusionStep s (s.keepHeading h) := ⟨rfl, rfl, rfl, rfl⟩

theorem FusionStep.articEvents (s : State) (est : Rat) : FusionStep s (s.articEvents est) := by
  unfold State.articEvents
  extract_lets ok u d m w
  have hu : FusionStep s u := .ite (.refl s) ((FusionStep.updNav s rfl rfl rfl).trans (.raise ..))
  have hw : FusionStep u w := .updNav u rfl rfl rfl
  exact .ite (hu.trans (.updNav u rfl rfl rfl))
    (.ite ((hu.trans hw).trans ((FusionStep.updNav w rfl rfl rfl).trans (.raise ..))) (hu.trans hw))

theorem FusionStep.farCheck (s : State) (x : FusOut) : FusionStep s (s.farCheck x) := by
  have hfar : ∀ far, FusionStep s (s.updNav fun n => { n with far := far }) := fun far => .updNav s rfl rfl rfl
  exact .ite ((hfar _).trans (.raise ..)) (hfar _)

theorem FusionStep.holdSlot (s : State) (b n : Nat) : FusionStep s (s.holdSlot b n) := ⟨rfl, rfl, rfl, rfl⟩

theorem FusionStep.noImu {s t : State} (h : FusionStep s t) : t.noImu = s.noImu := by
  have hmode : t.cfgN .imuMode = s.cfgN .imuMode := by rw [h.only]; rfl
  rw [State.noImu, State.noImu, h.imu, hmode]

/-- Without a field origin, or without a heading, the level of R121 is 0. -/
theorem State.levelNow_eq_zero {s : State} {h : Hdg} (hno : s.nav.origin = none ∨ h.src = 0) (bad : Bool) (d : Dr) :
    s.levelNow h bad d = 0 := by
  rcases hno with hno | hno <;> simp [State.levelNow, hno]

/-- A quality falls to level 0 at once (R122). -/
theorem State.qualityOf_zero (s : State) (old hpu : Nat) : s.qualityOf old (supported hpu 0) = 0 := by
  simp [State.qualityOf, supported]

/-- While no valve sweep runs, the output is formed of what the steps before it have found, and the steps after it leave
it as it is. -/
theorem State.fuse_forms {s : State} (o : FusObs) (hr : s.running 1 = none) : ∃ x : FusOut,
    (s.fuse o).nav.outs = (x :: s.nav.outs).take 4096 ∧ x.epoch = s.now ∧ x.originValid = s.nav.origin.isSome
      ∧ x.speedValid = o.speedOk ∧ x.noImu = s.noImu ∧ (x.originValid = false ∨ x.hdgSrc = 0 → x.quality = 0)
      ∧ FusionOnly s (s.fuse o) := by
  unfold State.fuse
  extract_lets last xs ms stale round
  generalize s.filtered ms = fil
  obtain ⟨hist, jump⟩ := fil
  dsimp -zeta only
  extract_lets f step measured rev slotsHeld hdg headed noImu m w tow arted d dred hpu q held x formed changed stepped
    checked
  have hmeasured : FusionStep s measured :=
    ((FusionStep.spdStep s xs last.quality).trans (.keepFilter ..)).trans (.updNav _ rfl rfl rfl)
  clear_value step measured
  have hslots : FusionStep measured slotsHeld := by
    refine FusionStep.each (fun u i => ?_) measured [0, 1, 2]
    split
    · exact .holdSlot ..
    · exact .refl u
  clear_value slotsHeld
  have hheaded : FusionStep slotsHeld headed := (FusionStep.keepHeading slotsHeld hdg).trans (.updNav _ rfl rfl rfl)
  clear_value headed
  have hheadings : FusionStep s headed := (hmeasured.trans hslots).trans hheaded
  have harted : FusionStep headed arted := .ite ((FusionStep.articEvents ..).trans (.updNav _ rfl rfl rfl)) (.refl headed)
  have hdred : FusionStep s dred := (hheadings.trans harted).trans (.updNav _ rfl rfl rfl)
  have hchanged : FusionStep formed changed := .ite (.raise ..) (.refl formed)
  have hstepped : FusionStep changed stepped := by
    unfold stepped
    split
    · exact .raise ..
    · exact .refl changed
  have hchecked : FusionStep formed checked := (hchanged.trans hstepped).trans (.farCheck ..)
  have honly : FusionOnly s checked :=
    ((hdred.trans (.count dred 30 stale)).only.trans (.updNav ..)).trans hchecked.only
  have hformed : formed.nav.outs = (x :: s.nav.outs).take 4096 := congrArg (fun l => (x :: l).take 4096) hdred.outs
  have hquality : x.originValid = false ∨ x.hdgSrc = 0 → x.quality = 0 := by
    intro hno
    have hlevel := State.levelNow_eq_zero (s := dred) (h := hdg) (hno.imp (by simp [x]) id)
    simp only [x, q, hlevel, State.qualityOf_zero]
  have hidle : checked.running 1 = none := (honly.running 1).trans hr
  rw [hidle]
  exact ⟨x, hchecked.outs.trans hformed, hdred.only.now, congrArg Option.isSome hdred.origin, rfl, hheadings.noImu, hquality,
    honly⟩

theorem State.sweepHalts_of_no_sweep {s : State} (h : s.running 1 = none) : s.sweepHalts = s := by
  have hfind : s.acts.find? (fun a => a.code = 1 && a.ready) = none := h
  rw [State.sweepHalts, hfind]

/-- Each millisecond an output is formed (R20). -/
theorem execFusionEpoch_outputs {s : State} {dt : Nat} {o : FusObs} (hruns : s.navRuns = true)
    (hgrid : (s.advance dt).now % 250000 = 0) (hr : s.running 1 = none) : Completes (.fusionEpoch dt o) s (fun t =>
      ∃ x, t.nav.outs = (x :: s.nav.outs).take 4096
        ∧ x.epoch = (s.advance dt).now ∧ x.originValid = s.nav.origin.isSome ∧ x.speedValid = o.speedOk
        ∧ x.noImu = (s.advance dt).noImu ∧ (x.originValid = false ∨ x.hdgSrc = 0 → x.quality = 0)
        ∧ t = { s.advance dt with nav := t.nav, can := t.can, host := t.host, free := t.free, cnt := t.cnt }) := by
  have hdue : ((s.advance dt).navRuns && decide ((s.advance dt).now % 250000 = 0)) = true := by
    simpa using ⟨hruns, hgrid⟩
  obtain ⟨x, houts, hepoch, horigin, hspeed, hnoImu, hquality, honly⟩ := (s.advance dt).fuse_forms o hr
  have hidle : ((s.advance dt).fuse o).running 1 = none := (honly.running 1).trans hr
  have hrow : exec (.fusionEpoch dt o) s = .next ((s.advance dt).fuse o) :=
    congrArg Host.Outcome.next ((if_pos hdue).trans (State.sweepHalts_of_no_sweep hidle))
  exact ⟨_, hrow, x, houts, hepoch, horigin, hspeed, hnoImu, hquality, honly⟩

/-- Settles O26. -/
theorem fusionRows : Obligations.FusionRows :=
  ⟨fun _ _ _ => execFusionEpoch_outputs, fun _ _ => execImuDrdyEdge_starts, fun _ _ => execImuSyncPulse_starts,
    fun _ _ _ _ _ hruns hburst hread hp =>
      ⟨execImuBurstComplete_good hruns hburst hread hp, execImuBurstComplete_bad hruns hburst hread hp⟩,
    fun _ _ _ _ => execImuInitRetry_sends⟩

end Sys2Proof.Machine
end

section
/-! FIELD_ORIGIN, FUSION_RESET and the Sextant commands (R66, R77, R96, R97, R101, R104, R125 to R127). -/

namespace Sys2Proof.Machine

/-! ### A command that is taken and waits -/

theorem HostOnly.trans {s t u : State} (hst : HostOnly s t) (htu : HostOnly t u) : HostOnly s u := by
  rw [HostOnly] at hst htu ⊢
  rw [htu, hst]

theorem HostOnly.nav {s t : State} (h : HostOnly s t) : t.nav = s.nav := by rw [h]

theorem HostOnly.updHost (s : State) (f : HostIf → HostIf) : HostOnly s (s.updHost f) := rfl

theorem HostOnly.taken (s : State) : HostOnly s s.taken := rfl

/-- A command that can be taken, and whose body waits, is the youngest outstanding one, and its buffer is asked for
(R357, R360). -/
theorem State.command_of_wait {s u : State} {dt : Nat} {op : Byte} {cmd : Instr} {h : Hdr} {body : State → Verdict}
    {dma : Bool} {aux : List Nat} (ht : Takes s dt op h) (hb : body (s.advance dt).taken = .wait dma aux u) :
    s.command dt op cmd h body = (if dma then u.emit (.bufferRead (bufferOf cmd)) else u).updHost (fun x =>
      { x with outstanding := x.outstanding ++
        [{ cmd := cmd, op := op, h := h, idx := (s.ring 0).mod, dma := dma, aux := aux, mt := u.now }] }) := by
  obtain ⟨hl, hc, ha⟩ := ht
  have hg := State.graceFirst_of_graceLasts hl
  rw [State.command_taken _ _ _ _ _ _ (by rw [hg, State.canTake_advance, hc]), hg]
  obtain ⟨t, rfl, hno | ⟨-, st, res, u', hb', -⟩ | ⟨-, dma', aux', u', hb', htake⟩⟩ :=
    State.take_cases (s.advance dt) op cmd h body
  · have hno' : (s.advance dt).taken.admits op.toNat = false := hno.1
    simp [State.admits_taken, ha] at hno'
  · cases hb.symm.trans hb'
  · cases hb.symm.trans hb'
    exact htake

theorem waits_of_wait {s u : State} {dt : Nat} {op : Byte} {c : Instr} {h : Hdr} {body : State → Verdict} {dma : Bool}
    {aux : List Nat} {P : State → Prop} (hx : exec c s = .next (s.command dt op c h body)) (ht : Takes s dt op h)
    (hb : body (s.advance dt).taken = .wait dma aux u) (hP : ∀ t, HostOnly u t → P t) : Waits c op h s dma P := by
  have hasked : HostOnly u (if dma then u.emit (.bufferRead (bufferOf c)) else u) := by split <;> rfl
  have hnow : (if dma then u.emit (.bufferRead (bufferOf c)) else u).now = u.now := by rw [State.now, hasked, State.now]
  refine ⟨_, by rw [hx, State.command_of_wait ht hb], hP _ (hasked.trans (.updHost ..)), aux,
    (if dma then u.emit (.bufferRead (bufferOf c)) else u).host.outstanding, ?_⟩
  rw [← hnow]
  rfl

/-! ### The field origin and the fusion reset (R104, R126, R127) -/

theorem State.flushAll_of_clean {s : State} (h : ∀ x ∈ s.tiles.slots, x.dirty = false) : s.flushAll.2 = s := by
  have hdirty : s.tiles.slots.filter (·.dirty) = [] := List.filter_eq_nil_iff.2 fun x hx => by simp [h x hx]
  simp [State.flushAll, hdirty, State.each]

/-- FIELD_ORIGIN waits for the write-backs that it posts, one for each dirty tile (R104). -/
theorem execFieldOrigin_waits {s : State} {dt : Nat} {h : Hdr} {lat lon height : Word} (ht : Takes s dt 0x38 h) :
    Waits (.fieldOrigin dt h lat lon height) 0x38 h s false (fun t =>
      t.nav = s.nav ∧ ((∀ x ∈ s.tiles.slots, x.dirty = false) → HostOnly (s.advance dt) t)) := by
  refine waits_of_wait rfl ht (u := (s.advance dt).taken.flushAll.2) rfl fun t hposted => ⟨?_, fun hclean => ?_⟩
  · rw [hposted.nav]
    simp
  · rw [State.flushAll_of_clean (s := (s.advance dt).taken) hclean] at hposted
    exact (HostOnly.taken _).trans hposted

/-- Once every write-back has ended, the origin stands and the cache is empty (R104). -/
theorem State.setOrigin_sets (s : State) (w : Waiting) (lat lon height : Word) :
    (s.setOrigin w lat lon height).nav = { s.nav with origin := some (lat, lon, height), far := false }
      ∧ (s.setOrigin w lat lon height).tiles.slots = [] ∧ (s.setOrigin w lat lon height).tiles.mem = []
      ∧ (s.setOrigin w lat lon height).tiles.queue = [] ∧ (s.setOrigin w lat lon height).tiles.held = []
      ∧ (s.setOrigin w lat lon height).dev = s.dev ∧ (s.setOrigin w lat lon height).flash = s.flash
      ∧ (s.setOrigin w lat lon height).cfg = s.cfg := by
  simp [State.setOrigin, State.emptyCache]

theorem State.originDone_of_ended {s : State} {w : Waiting} {d : Nat} {h : Hdr} {lat lon height : Word}
    (hw : s.waitingFor 0x38 = some w) (hcmd : w.cmd = .fieldOrigin d h lat lon height) (hended : w.aux.drop 2 = []) :
    s.originDone = s.setOrigin w lat lon height := by
  simp [State.originDone, hw, hcmd, hended]

theorem execFieldOriginComplete_sets {s : State} {dt d : Nat} {h : Hdr} {lat lon height : Word} {w : Waiting}
    (hw : s.waitingFor 0x38 = some w) (hcmd : w.cmd = .fieldOrigin d h lat lon height) (hended : w.aux.drop 2 = []) :
    Completes (.fieldOriginComplete dt) s (fun t =>
      t.nav = { s.nav with origin := some (lat, lon, height), far := false } ∧ t.tiles.slots = [] ∧ t.tiles.mem = []
      ∧ t.tiles.queue = [] ∧ t.tiles.held = [] ∧ t.dev = s.dev ∧ t.flash = s.flash ∧ t.cfg = s.cfg) := by
  have hdone : (s.advance dt).originDone = (s.advance dt).setOrigin w lat lon height :=
    State.originDone_of_ended hw hcmd hended
  exact ⟨_, congrArg Host.Outcome.next hdone, (s.advance dt).setOrigin_sets w lat lon height⟩

theorem execFusionReset_resets {s : State} {dt : Nat} {h : Hdr} (ht : Takes s dt 0x3A h) :
    Answers (.fusionReset dt h) 0x3A h s .ok 0 (fun v => v = (s.advance dt).taken.fusionReset
      ∧ v.nav.gyroBias = [0, 0, 0] ∧ v.nav.accBias = [0, 0, 0] ∧ v.nav.scales = [65536, 65536, 65536]
      ∧ v.nav.origin = s.nav.origin) :=
  answers_of_done rfl ht rfl ⟨rfl, rfl, rfl, rfl, rfl⟩

/-! ### The Sextant commands (R96, R97) -/

/-- Where an antenna is declared, a Sextant command is judged by its own rules (R60). -/
theorem State.sxCmd_of_antennas {s : State} (ha : s.cfgN .antennas ≠ 0) (k : Verdict) : s.sxCmd k = k := by
  simp [State.sxCmd, checks, ha]

theorem checks_of_content {content : Bool} (hc : content = true) (s : State) (k : Verdict) :
    checks s content true none none k = k := by
  simp [checks, hc]

/-- A GPS time disagrees with a solution that is not too old, by more than its own uncertainty (log 71). -/
theorem State.timeDisagrees_iff (s : State) (ft : DWord) (unc : Word) : s.timeDisagrees ft unc = true ↔
    ∃ x ∈ s.nav.sol, s.now ≤ x.epoch + s.cfgN .gnssAgeMax * 250000
      ∧ unc.toNat < ((ft.toNat : Int) - (x.ft + 4 * (s.now - x.epoch : Nat))).natAbs := by
  cases hsol : s.nav.sol <;> simp [State.timeDisagrees, State.solFresh, hsol, msTicks]

theorem State.ftInvalid_ftValid (s : State) : s.ftInvalid.time.ftValid = false := by
  unfold State.ftInvalid
  split
  · simp
  next h => simpa using h

/-- FT's becoming invalid leaves Sextant's channels, engines and aiding, and the solution. -/
theorem State.ftInvalid_sextant (s : State) : s.ftInvalid.nav.sx.chans = s.nav.sx.chans
    ∧ s.ftInvalid.nav.sx.engines = s.nav.sx.engines ∧ s.ftInvalid.nav.sx.aid = s.nav.sx.aid
    ∧ s.ftInvalid.nav.sx.start = s.nav.sx.start ∧ s.ftInvalid.nav.sol = s.nav.sol := by
  unfold State.ftInvalid
  split <;> simp

/-- A restart frees the channels and idles the engines; a cold one forgets the aiding and makes FT invalid, a warm one
forgets the ephemerides (R96, R97). -/
theorem cmdSxRestart_restarts {s : State} (ha : s.cfgN .antennas ≠ 0) (kind : Nat) : ∃ u,
    cmdSxRestart kind s = .done .ok 0 u ∧ u.nav.sx.chans = [] ∧ (∀ e ∈ u.nav.sx.engines, e.det = none) ∧ u.nav.sol = s.nav.sol
    ∧ (kind = 0 → u.nav.sx.aid = {} ∧ u.nav.sx.start = 0 ∧ u.time.ftValid = false)
    ∧ (kind = 1 → (∀ x ∈ u.nav.sx.aid.orbits, x.1 = false) ∧ u.nav.sx.aid.time = s.nav.sx.aid.time)
    ∧ (kind ≠ 0 → u.time = s.time) := by
  rw [cmdSxRestart, State.sxCmd_of_antennas ha]
  extract_lets freed aided
  refine ⟨_, rfl, ?_⟩
  have hidle : ∀ e ∈ aided.nav.sx.engines, e.det = none := by
    intro e he
    obtain ⟨_, -, rfl⟩ := List.mem_map.1 he
    rfl
  split
  next hcold =>
    subst hcold
    obtain ⟨hchans, hengines, haid, hstart, hsol⟩ := (aided.updClk fun c => { c with run := 0 }).ftInvalid_sextant
    exact ⟨hchans, hengines ▸ hidle, hsol, fun _ => ⟨haid, hstart, State.ftInvalid_ftValid _⟩,
      fun h => absurd h (by decide), fun h => absurd rfl h⟩
  next hkind =>
    refine ⟨rfl, hidle, rfl, fun h => absurd h hkind, ?_, fun _ => rfl⟩
    rintro rfl
    exact ⟨fun x hx => by simpa using (List.mem_filter.1 hx).2, rfl⟩

/-- The pair named is excluded, or included again (R66). -/
theorem cmdSxExclude_excludes {s : State} (ha : s.cfgN .antennas ≠ 0) (incl : Bool) {sig svid : Byte} {sys : Nat}
    (hsvid : svidOk sys svid.toNat = true) (hsig : sig = 0 ∨ sxSignals.contains sig.toNat = true) :
    ∃ u, cmdSxExclude incl sig svid sys s = .done .ok 0 u
      ∧ ((sys, svid.toNat, sig.toNat) ∈ u.nav.sx.excluded ↔ incl = false) ∧ u = { s with nav := u.nav } := by
  have hcontent : (svidOk sys svid.toNat && (decide (sig.toNat = 0) || sxSignals.contains sig.toNat)) = true := by
    rcases hsig with rfl | hsig
    · simp [hsvid]
    · rw [hsvid, hsig, Bool.or_true, Bool.and_true]
  refine ⟨_, (State.sxCmd_of_antennas ha _).trans (checks_of_content hcontent _ _), ?_, rfl⟩
  cases incl
  case true => simp [State.updSextant]
  case false =>
    by_cases hmem : (sys, svid.toNat, sig.toNat) ∈ s.nav.sx.excluded <;> simp [State.updSextant, hmem]

theorem State.taken_ring_six (s : State) : s.taken.ring 6 = s.ring 6 := by
  simp [State.taken, State.ring, State.updRing, List.getD_eq_getElem?_getD]

section SextantCommand

variable {s : State} {dt : Nat} {h : Hdr} (ha : s.cfgN .antennas ≠ 0)
include ha

theorem State.taken_antennas : (s.advance dt).taken.cfgN .antennas ≠ 0 := ha

theorem execSxAidTime_holds {ft : DWord} {unc : Word} (ht : Takes s dt 0xA1 h)
    (hagrees : (s.advance dt).timeDisagrees ft unc = false) :
    Answers (.sxAidTime dt h ft unc) 0xA1 h s .ok 0 (fun v =>
      v.nav.sx.aid = { s.nav.sx.aid with time := some (ft.toNat, unc.toNat, (s.advance dt).now) }
      ∧ v = { (s.advance dt).taken with nav := v.nav }) := by
  have hagrees' : ¬ (s.advance dt).taken.timeDisagrees ft unc = true := Bool.eq_false_iff.1 hagrees
  exact answers_of_done rfl ht ((State.sxCmd_of_antennas (State.taken_antennas ha) _).trans (if_neg hagrees')) ⟨rfl, rfl⟩

theorem execSxAidTime_ignored {ft : DWord} {unc : Word} (ht : Takes s dt 0xA1 h)
    (hdiffers : (s.advance dt).timeDisagrees ft unc = true) :
    Answers (.sxAidTime dt h ft unc) 0xA1 h s .ok (resultOf [(128, 1, 1)]) (fun v => v = (s.advance dt).taken) :=
  answers_of_done rfl ht ((State.sxCmd_of_antennas (State.taken_antennas ha) _).trans (if_pos hdiffers)) rfl

theorem execSxAidPos_holds {lat lon height unc : Word} (ht : Takes s dt 0xA2 h)
    (hagrees : (s.advance dt).posDisagrees lat lon height unc = false) :
    Answers (.sxAidPos dt h lat lon height unc) 0xA2 h s .ok 0 (fun v =>
      v.nav.sx.aid = { s.nav.sx.aid with pos := some (lat.toInt, lon.toInt, height.toInt, unc.toNat) }
      ∧ v = { (s.advance dt).taken with nav := v.nav }) := by
  have hagrees' : ¬ (s.advance dt).taken.posDisagrees lat lon height unc = true := Bool.eq_false_iff.1 hagrees
  exact answers_of_done rfl ht ((State.sxCmd_of_antennas (State.taken_antennas ha) _).trans (if_neg hagrees')) ⟨rfl, rfl⟩

theorem execSxAidPos_ignored {lat lon height unc : Word} (ht : Takes s dt 0xA2 h)
    (hdiffers : (s.advance dt).posDisagrees lat lon height unc = true) :
    Answers (.sxAidPos dt h lat lon height unc) 0xA2 h s .ok (resultOf [(128, 1, 1)])
      (fun v => v = (s.advance dt).taken) :=
  answers_of_done rfl ht ((State.sxCmd_of_antennas (State.taken_antennas ha) _).trans (if_pos hdiffers)) rfl

theorem execSxAidOrbit_waits {buf : Ref} {eph : Bool} (ht : Takes s dt 0xA3 h) :
    Waits (.sxAidOrbit dt h buf eph) 0xA3 h s true (fun t => HostOnly (s.advance dt) t) :=
  waits_of_wait rfl ht (State.sxCmd_of_antennas (State.taken_antennas ha) _) fun _ => (HostOnly.taken _).trans

theorem execSxRestart_restarts {kind : Nat} (ht : Takes s dt 0xA4 h) :
    Answers (.sxRestart dt h kind) 0xA4 h s .ok 0 (fun v =>
      v.nav.sx.chans = [] ∧ (∀ e ∈ v.nav.sx.engines, e.det = none) ∧ v.nav.sol = s.nav.sol
      ∧ (kind = 0 → v.nav.sx.aid = {} ∧ v.nav.sx.start = 0 ∧ v.time.ftValid = false)
      ∧ (kind = 1 → (∀ x ∈ v.nav.sx.aid.orbits, x.1 = false) ∧ v.nav.sx.aid.time = s.nav.sx.aid.time)
      ∧ (kind ≠ 0 → v.time = (s.advance dt).time)) := by
  obtain ⟨u, hbody, hu⟩ := cmdSxRestart_restarts (State.taken_antennas (dt := dt) ha) kind
  exact answers_of_done rfl ht hbody (by simpa using hu)

theorem execSxExclude_excludes {incl : Bool} {sig svid : Byte} {sys : Nat} (ht : Takes s dt 0xA5 h)
    (hsvid : svidOk sys svid.toNat = true) (hsig : sig = 0 ∨ sxSignals.contains sig.toNat = true) :
    Answers (.sxExclude dt h incl sig svid sys) 0xA5 h s .ok 0 (fun v =>
      ((sys, svid.toNat, sig.toNat) ∈ v.nav.sx.excluded ↔ incl = false)
      ∧ v = { (s.advance dt).taken with nav := v.nav }) := by
  obtain ⟨u, hbody, hu⟩ := cmdSxExclude_excludes (State.taken_antennas (dt := dt) ha) incl hsvid hsig
  exact answers_of_done rfl ht hbody hu

theorem execSxRaw_sets {en : Bool} (ht : Takes s dt 0xA6 h)
    (hring : en = true → (s.ring 6).en = true ∧ 8 ≤ (s.ring 6).log2) :
    Answers (.sxRaw dt h en) 0xA6 h s .ok 0 (fun v =>
      v.nav.sx = { s.nav.sx with raw := en } ∧ v = { (s.advance dt).taken with nav := v.nav }) := by
  let u := (s.advance dt).taken
  have hcontent : (!en || ((u.ring 6).en && decide (8 ≤ (u.ring 6).log2))) = true := by
    rw [show u.ring 6 = s.ring 6 from State.taken_ring_six _]
    cases en <;> simp_all
  refine answers_of_done rfl ht (u := u.updSextant (fun x => { x with raw := en })) ?_ ⟨rfl, rfl⟩
  exact (State.sxCmd_of_antennas (State.taken_antennas ha) _).trans (checks_of_content hcontent _ _)

end SextantCommand

/-- Settles O27. -/
theorem navigationCommands : Obligations.NavigationCommands := by
  refine ⟨fun _ _ _ _ _ _ => execFieldOrigin_waits, fun _ _ _ _ _ _ _ _ => execFieldOriginComplete_sets,
    fun _ _ _ => execFusionReset_resets, fun s dt _ ft unc ht ha => ?_,
    fun _ _ _ _ _ _ _ ht ha => ⟨execSxAidPos_holds ha ht, execSxAidPos_ignored ha ht⟩,
    fun _ _ _ _ _ ht ha => execSxAidOrbit_waits ha ht, fun _ _ _ _ ht ha => execSxRestart_restarts ha ht,
    fun _ _ _ _ _ _ _ ht ha => execSxExclude_excludes ha ht, fun _ _ _ _ ht ha => execSxRaw_sets ha ht⟩
  have hiff := (s.advance dt).timeDisagrees_iff ft unc
  exact ⟨fun hagrees => execSxAidTime_holds ha ht (Bool.eq_false_iff.2 (mt hiff.1 hagrees)),
    fun hdiffers => execSxAidTime_ignored ha ht (hiff.2 hdiffers)⟩

end Sys2Proof.Machine
end

section
/-! Tile SRAM's canonical form under the operations of the tile cache (R128 to R150). -/

namespace Sys2Proof.Machine

/-! ### The invariant and its rules -/

/-- Tile SRAM is in its canonical form: rising addresses, and no byte listed that reads as an unlisted one (log 7). -/
structure State.SramWf (s : State) : Prop where
  wf : Memory.wf s.tiles.mem = true

/-! Operations of the cache that leave every byte of Tile SRAM. -/

@[simp] theorem State.updSlot_mem (s : State) (n : Nat) (f : TSlot → TSlot) : (s.updSlot n f).tiles.mem = s.tiles.mem := rfl

@[simp] theorem State.tileDone_mem (s : State) (p : TPlaced) (result reason : Nat) :
    (s.tileDone p result reason).tiles.mem = s.tiles.mem := by
  simp [State.tileDone]

@[simp] theorem State.loseHeld_mem (s : State) (tx ty : Int) : (s.loseHeld tx ty).tiles.mem = s.tiles.mem := rfl

@[simp] theorem State.cancelRect_mem (s : State) (x0 y0 x1 y1 : Int) :
    (s.cancelRect x0 y0 x1 y1).tiles.mem = s.tiles.mem := rfl

@[simp] theorem State.patchEnds_tiles (s : State) (tx ty : Int) : (s.patchEnds tx ty).tiles = s.tiles := by
  unfold State.patchEnds
  refine State.each_tiles _ _ _ fun u w => ?_
  split
  · split <;> simp
  · rfl

@[simp] theorem State.enterWaiting_mem (k : Nat) (s : State) : (State.enterWaiting k s).tiles.mem = s.tiles.mem := by
  induction k generalizing s with
  | zero => rfl
  | succ k ih =>
    unfold State.enterWaiting
    split
    · rw [ih]
      rfl
    · rfl

@[simp] theorem State.takeSnapshot_mem (s : State) (p : TPlaced) (addr : DWord) :
    (s.takeSnapshot p addr).tiles.mem = s.tiles.mem := by
  unfold State.takeSnapshot
  split <;> simp

section
variable {s t : State}

theorem State.SramWf.of_mem (h : s.SramWf) (ht : t.tiles.mem = s.tiles.mem) : t.SramWf :=
  ⟨by rw [ht, h.wf]⟩

theorem State.SramWf.of_tiles (h : s.SramWf) (ht : t.tiles = s.tiles) : t.SramWf := h.of_mem (by rw [ht])

/-- An update of the tile cache's other parts. -/
theorem State.SramWf.updTiles (h : s.SramWf) {f : Tiles → Tiles} (hf : ∀ t, (f t).mem = t.mem) : (s.updTiles f).SramWf :=
  h.of_mem (hf s.tiles)

theorem State.SramWf.updSlot (h : s.SramWf) (n : Nat) (f : TSlot → TSlot) : (s.updSlot n f).SramWf := h.of_mem rfl

theorem State.SramWf.count (h : s.SramWf) (i k : Nat) : (s.count i k).SramWf := h.of_mem rfl

theorem State.SramWf.tileDone (h : s.SramWf) (p : TPlaced) (result reason : Nat) : (s.tileDone p result reason).SramWf :=
  h.of_mem (by simp)

theorem State.SramWf.loseHeld (h : s.SramWf) (tx ty : Int) : (s.loseHeld tx ty).SramWf := h.of_mem rfl

theorem State.SramWf.patchEnds (h : s.SramWf) (tx ty : Int) : (s.patchEnds tx ty).SramWf := h.of_tiles (by simp)

theorem State.SramWf.enterWaiting (h : s.SramWf) (k : Nat) : (State.enterWaiting k s).SramWf := h.of_mem (by simp)

theorem State.SramWf.takeSnapshot (h : s.SramWf) (p : TPlaced) (addr : DWord) : (s.takeSnapshot p addr).SramWf :=
  h.of_mem (by simp)

theorem State.SramWf.raise (h : s.SramWf) (code subject : Nat) (data : List (Nat × Nat × Nat)) (urgent : Bool) :
    (s.raise code subject data urgent).SramWf := h.of_tiles (by simp)

theorem State.SramWf.finish (h : s.SramWf) (w : Waiting) (st : Status) (res : BitVec 128) : (s.finish w st res).SramWf :=
  h.of_tiles (by simp)

theorem State.SramWf.wbEndedFor (h : s.SramWf) (ops : List Byte) (slot : Nat) (ok : Bool) :
    (s.wbEndedFor ops slot ok).SramWf := h.of_mem rfl

theorem State.SramWf.wbEnded (h : s.SramWf) (slot : Nat) (ok : Bool) : (s.wbEnded slot ok).SramWf := h.of_mem rfl

theorem State.SramWf.dropsEnded (h : s.SramWf) : s.dropsEnded.SramWf := h.of_tiles (by simp)

theorem State.SramWf.ite {c : Prop} [Decidable c] (hs : s.SramWf) (ht : t.SramWf) : (if c then s else t).SramWf := by
  split
  · exact hs
  · exact ht

theorem State.SramWf.each {α : Type} {f : State → α → State} (hf : ∀ u x, u.SramWf → (f u x).SramWf) (h : s.SramWf)
    (xs : List α) : (s.each xs f).SramWf := by
  unfold State.each
  induction xs generalizing s with
  | nil => exact h
  | cons x xs ih => exact ih (hf s x h)

/-! ### Slots and the request queue (R136, R137) -/

theorem State.SramWf.putSram (h : s.SramWf) (slot off : Nat) (bs : List Byte) : (s.putSram slot off bs).SramWf :=
  ⟨Memory.writes_wf bs s.tiles.mem _ h.wf⟩

theorem State.SramWf.clearSram (h : s.SramWf) (slot : Nat) : (s.clearSram slot).SramWf := h.putSram slot 0 _

theorem State.SramWf.dropSlot (h : s.SramWf) (n : Nat) : (s.dropSlot n).SramWf := by
  unfold State.dropSlot
  extract_lets s1
  have h1 : s1.SramWf := h.clearSram n
  exact h1.updTiles fun _ => rfl

theorem State.SramWf.dropFetch (h : s.SramWf) (r : TReq) : (s.dropFetch r).SramWf := by
  unfold State.dropFetch
  extract_lets s1 s2
  have h2 : s2.SramWf := h.of_mem rfl
  split
  · exact .ite (h2.dropSlot _) h2
  · exact h2

theorem State.SramWf.queueFetch (h : s.SramWf) (r : TReq) : (s.queueFetch r).SramWf := by
  unfold State.queueFetch
  extract_lets s1
  have h1 : s1.SramWf := h.of_mem rfl
  split
  · exact h1
  · split
    · exact h1.dropFetch _
    · exact h1

theorem State.SramWf.queueWb (h : s.SramWf) (r : TReq) : (s.queueWb r).SramWf := by
  unfold State.queueWb
  split
  · exact h.of_mem rfl
  · split
    next l _ => exact (h.dropFetch l).of_mem rfl
    next => exact h.of_mem rfl

theorem State.SramWf.postWb (h : s.SramWf) (n : Nat) (first : Bool) : (s.postWb n first).SramWf := by
  unfold State.postWb
  split
  · exact .ite (h.of_mem rfl) (.ite (h.queueWb _) h)
  · exact h

theorem State.SramWf.allocSlot (h : s.SramWf) (more : Bool) : (s.allocSlot more).2.SramWf := by
  unfold State.allocSlot
  dsimp only
  split
  · exact h
  · split
    · exact h.dropSlot _
    · split
      · exact (h.updSlot _ _).postWb _ _
      · exact h

theorem State.SramWf.fetchTile (h : s.SramWf) (tx ty : Int) (need : Nat) : (s.fetchTile tx ty need).SramWf := by
  unfold State.fetchTile
  split
  · exact h
  · extract_lets known s1
    have halloc := (h.of_mem rfl : s1.SramWf).allocSlot (decide (s1.evicting < s1.tiles.stuck.length + (if known then 0 else 1)))
    split
    next o s2 hs2 =>
      rw [hs2] at halloc
      split
      · extract_lets s3
        have h3 : s3.SramWf := halloc.updTiles fun _ => rfl
        exact h3.queueFetch _
      · have h3 := (halloc.updTiles (f := fun t => { t with stuck := t.stuck ++ [(tx, ty, need)] }) fun _ => rfl)
        exact .ite halloc (.ite h3 (h3.count 1 1))

theorem State.SramWf.postFetch (h : s.SramWf) (tx ty : Int) (need : Nat) : (s.postFetch tx ty need).SramWf :=
  .ite (h.fetchTile tx ty need) h

theorem State.SramWf.unstick (h : s.SramWf) : s.unstick.SramWf := h.each (fun _ _ hu => hu.postFetch _ _ _) _

theorem State.SramWf.postRefresh (h : s.SramWf) (x : TSlot) (need : Nat) : (s.postRefresh x need).SramWf :=
  .ite h (h.queueFetch _)

theorem State.SramWf.enterRing (h : s.SramWf) : s.enterRing.SramWf := by
  unfold State.enterRing
  split
  · exact h
  · split
    · exact h
    · exact h.of_mem (by simp)

/-! ### Marks, patches and what waits for a write-back (R142 to R146) -/

theorem State.SramWf.markSlot (h : s.SramWf) (x : TSlot) (cell mt : Nat) : (s.markSlot x cell mt).SramWf := by
  unfold State.markSlot
  extract_lets a b sh v s1
  have h1 : s1.SramWf := .ite ⟨Memory.write_wf _ a _ h.wf⟩ h
  exact h1.of_mem rfl

theorem State.SramWf.markCell (h : s.SramWf) (cx cy : Int) (mt : Nat) : (s.markCell cx cy mt).SramWf := by
  unfold State.markCell
  extract_lets tx ty hold
  have hhold : (hold s).SramWf := .ite (State.SramWf.postFetch (h.updTiles fun _ => by rfl) tx ty mt) (h.count 4 1)
  split
  · exact h
  · split
    · exact hhold
    · split
      · exact hhold
      · exact h.count 5 1
      · exact h.markSlot _ _ _

theorem State.SramWf.applyHeld (h : s.SramWf) (tx ty : Int) : (s.applyHeld tx ty).SramWf := by
  unfold State.applyHeld
  extract_lets hs s1
  have h1 : s1.SramWf := h.updTiles fun _ => rfl
  refine h1.each (fun u m hu => ?_) hs
  split
  · exact hu.markSlot _ _ _
  · exact hu

theorem State.SramWf.settled (h : s.SramWf) (n : Nat) : (s.settled n).SramWf := by
  unfold State.settled
  split
  · refine .ite ?_ (.ite (.ite ?_ h) (.ite (h.dropSlot n).unstick (.ite ?_ h)))
    · exact ((h.count 6 _).dropSlot n).dropsEnded
    · exact (h.updSlot n _).unstick
    · exact (h.clearSram n).updSlot n _
  · exact h

/-! ### Fetches (R140, R147) -/

theorem State.SramWf.toVoid (h : s.SramWf) (x : TSlot) : (s.toVoid x).SramWf :=
  (((h.clearSram x.slot).updSlot x.slot _).loseHeld x.tx x.ty).patchEnds x.tx x.ty

theorem State.SramWf.fetchBad (h : s.SramWf) (p : TPlaced) (reason : Nat) : (s.fetchBad p reason).SramWf := by
  unfold State.fetchBad
  extract_lets s1 s2
  have h2 : s2.SramWf := (h.tileDone p 1 reason).raise _ _ _ _
  split
  next x _ =>
    refine .ite (h2.updSlot _ _) ?_
    extract_lets s3 s4
    have h4 : s4.SramWf := ((h2.dropSlot x.slot).loseHeld p.tx p.ty).updTiles fun _ => rfl
    exact (h4.patchEnds p.tx p.ty).unstick
  next => exact h2

theorem State.SramWf.recordRead (h : s.SramWf) (p : TPlaced) (data : Option (List Byte)) : (s.recordRead p data).SramWf := by
  have hdone := h.tileDone p
  unfold State.recordRead
  split
  · extract_lets s1
    have h1 : s1.SramWf := (hdone 3 0).patchEnds _ _
    split
    · exact .ite h1 (h1.queueFetch _)
    · exact h1.fetchTile _ _ _
  · split
    · exact h.fetchBad p 6
    next d =>
      extract_lets r
      split
      · exact h.fetchBad p r
      · split
        · exact hdone 0 0
        next x _ =>
          exact .ite ((hdone 0 0).updSlot _ _) ((((hdone 0 0).putSram x.slot 0 (slice d 0 2048)).updSlot _ _).applyHeld _ _)

/-! ### Write-backs and answers (R139, R141, R143) -/

theorem State.SramWf.wbDone (h : s.SramWf) (p : TPlaced) (ok : Bool) : (s.wbDone p ok).SramWf := by
  unfold State.wbDone
  split
  · extract_lets a s1 s2 s3 g s4 s5
    have h2 : s2.SramWf := h.of_mem rfl
    have h4 : s4.SramWf := (h2.tileDone p 0 0).updTiles fun _ => rfl
    split
    · exact h4
    · extract_lets due s6
      have h5 : s5.SramWf := h4.updSlot _ _
      have h6 : s6.SramWf := by
        simp only [s6]
        split
        · exact .ite h5 (h5.postWb _ _)
        · exact .ite (h5.postWb _ _) h5
      exact State.SramWf.settled (.ite h6 (h6.wbEnded _ _)) _
  · exact .ite (h.tileDone p 1 6)
      ((((h.tileDone p 1 6).updSlot _ _).wbEndedFor _ p.slot false).settled p.slot).unstick

theorem State.SramWf.wbDiscard (h : s.SramWf) (p : TPlaced) : (s.wbDiscard p).SramWf := by
  unfold State.wbDiscard
  split
  · exact h.tileDone p 0 0
  · exact ((((h.tileDone p 0 0).count 6 _).updSlot p.slot _).wbEnded p.slot true).settled p.slot

theorem State.SramWf.tileAnswer (h : s.SramWf) (p : TPlaced) (a : TileAns) : (s.tileAnswer p a).SramWf := by
  unfold State.tileAnswer
  extract_lets v bad s1 v1
  have h1 : s1.SramWf := .ite (h.of_mem rfl) h
  have hdone := h1.tileDone p
  refine .ite (hdone 2 0) (.ite (h1.recordRead p none) (.ite (.ite (h1.of_mem (by simp)) ?_)
    (.ite (h1.takeSnapshot p a.addr) (h1.wbDiscard p))))
  split
  next x _ => exact .ite (((hdone 0 0).updSlot _ _).postWb _ _) ((hdone 0 0).toVoid x)
  next => exact hdone 0 0

theorem State.SramWf.tileOver (h : s.SramWf) (p : TPlaced) : (s.tileOver p).SramWf := by
  unfold State.tileOver
  extract_lets s1 s2 origin s3
  have h2 : s2.SramWf := h.of_mem rfl
  split
  · split
    next x _ =>
      refine .ite (.ite (h2.postRefresh x _) h2) (.ite h2 ?_)
      extract_lets s4 s5
      have h5 : s5.SramWf := (((h2.dropSlot x.slot).loseHeld p.tx p.ty).patchEnds p.tx p.ty).unstick
      split
      · exact h5.postFetch _ _ _
      · exact h5
    · exact h2
  · have h3 : s3.SramWf := (h2.updSlot p.slot _).wbEnded p.slot false
    split
    · exact .ite (h3.settled _) (.ite h3 (h3.postWb _ _).unstick)
    · exact h3

/-! ### What a cycle start applies, and emptying (R104, R133, R146 to R150) -/

theorem State.SramWf.applyFresh (h : s.SramWf) : s.applyFresh.SramWf := by
  refine h.each (fun u x hu => ?_) _
  split
  · exact ((hu.putSram _ _ _).putSram _ _ _).of_mem rfl
  · exact hu

theorem State.SramWf.applyPatches (h : s.SramWf) (early : Bool) : (s.applyPatches early).SramWf := by
  refine h.each (fun u w hu => ?_) _
  split
  · split
    · exact hu
    · split
      · exact hu.finish _ _ _
      · split
        · exact hu.of_tiles (by simp)
        · exact hu.finish _ _ _
        · exact ((hu.putSram _ _ _).updSlot _ _).finish _ _ _
  · exact hu

theorem State.SramWf.applyRates (h : s.SramWf) : s.applyRates.SramWf := by
  refine h.each (fun u w hu => ?_) _
  split
  · exact .ite hu ((hu.updTiles fun _ => by rfl).finish _ _ _)
  · exact hu

theorem State.emptyCache_sramWf (s : State) : s.emptyCache.SramWf := ⟨rfl⟩

theorem State.SramWf.unanswered (h : s.SramWf) : s.unanswered.SramWf :=
  (h.each (fun _ _ hu => hu.tileOver _) _).of_mem rfl

theorem State.SramWf.bindTiles (h : s.SramWf) : s.bindTiles.SramWf := by
  unfold State.bindTiles
  extract_lets s1 s2
  have h1 : s1.SramWf := .ite h h.unanswered
  exact State.SramWf.each (fun u x hu => hu.postWb x.slot true) (h1.of_mem rfl : s2.SramWf) _

/-! ### The rows and commands of the cache (R135, R147, R148) -/

theorem State.SramWf.prefetchTile (h : s.SramWf) (tx ty : Int) (need : Nat) : (s.prefetchTile tx ty need).SramWf := by
  unfold State.prefetchTile
  split
  · exact h.postRefresh _ _
  · exact h.postFetch _ _ _

theorem State.SramWf.prefetch (h : s.SramWf) : s.prefetch.SramWf := by
  unfold State.prefetch
  extract_lets due rs rs' s1 s2
  exact .ite (State.SramWf.each (fun _ _ hu => hu.prefetchTile _ _ _) (State.SramWf.unstick (h.of_mem rfl : s1.SramWf)) _) h

theorem State.SramWf.tileRead (h : s.SramWf) (slot : Nat) (data : Option (List Byte)) : (s.tileRead slot data).SramWf := by
  unfold State.tileRead
  split
  · exact h.recordRead _ _
  · exact h

theorem State.SramWf.wbDue (h : s.SramWf) (slot : Nat) : (s.wbDue slot).SramWf := by
  unfold State.wbDue
  split
  · exact .ite (h.postWb _ _) h
  · exact h

theorem State.SramWf.wbComplete (h : s.SramWf) (slot : Nat) (ok : Bool) : (s.wbComplete slot ok).SramWf := by
  unfold State.wbComplete
  split
  · exact h.wbDone _ _
  · exact h

theorem State.SramWf.tileTimedOut (h : s.SramWf) (slot : Nat) : (s.tileTimedOut slot).SramWf := by
  unfold State.tileTimedOut
  split
  · exact .ite (h.tileOver _) h
  · exact h

theorem State.SramWf.retrySlot (h : s.SramWf) (x : TSlot) : (s.retrySlot x).SramWf := by
  unfold State.retrySlot
  extract_lets s1
  have h1 : s1.SramWf := .ite (h.postWb _ _) h
  exact .ite (h1.postRefresh _ _) h1

theorem State.SramWf.retryTile (h : s.SramWf) (w : Int × Int × Nat) : (s.retryTile w).SramWf := by
  unfold State.retryTile
  split
  · exact h.postFetch _ _ _
  · exact h.postFetch _ _ _
  · exact h.postFetch _ _ _
  · exact h

theorem State.SramWf.tileRetry (h : s.SramWf) (slot : Nat) : (s.tileRetry slot).SramWf := by
  unfold State.tileRetry
  extract_lets s1 due s2
  have h1 : s1.SramWf := by
    simp only [s1]
    split
    · exact h.retrySlot _
    · exact h
  exact State.SramWf.each (fun _ _ hu => hu.retryTile _) (h1.of_mem rfl : s2.SramWf) due

theorem State.SramWf.invalidate (h : s.SramWf) (mode : Nat) (x : TSlot) : (s.invalidate mode x).SramWf := by
  unfold State.invalidate
  extract_lets s1 s2
  refine .ite ((h.updSlot _ _).postRefresh _ _) (.ite ((h.updSlot _ _).postWb _ _) (.ite (h.updSlot _ _) ?_))
  have h2 : s2.SramWf := h.of_mem rfl
  exact ((h2.dropSlot x.slot).enterWaiting 1).dropsEnded

theorem State.SramWf.flushAll (h : s.SramWf) : s.flushAll.2.SramWf := h.each (fun _ _ hu => hu.postWb _ _) _

end

end Sys2Proof.Machine
end

section
/-! Operations and command bodies that leave the tile cache, where their frame does not say so. -/

namespace Sys2Proof.Machine

@[simp] theorem State.relaySample_tiles (s : State) (n : Nat) (ps : List Int) : (s.relaySample n ps).tiles = s.tiles := by
  unfold State.relaySample
  dsimp only
  (repeat' split) <;> simp

@[simp] theorem State.loopSample_tiles (s : State) (n : Nat) : (s.loopSample n).tiles = s.tiles := by
  unfold State.loopSample
  split
  · simp only [State.recordTraces_keeps, State.updLoop_keeps, State.ite_tiles]
    (repeat' split) <;> simp
  · rfl

@[simp] theorem State.takeCm_tiles (s : State) (b : Nat) (etp : Bool) (sa da : Nat) (d : List Byte) (sof : Nat) :
    (s.takeCm b etp sa da d sof).tiles = s.tiles := by
  unfold State.takeCm
  dsimp only
  (repeat' split) <;> simp

@[simp] theorem State.isoFrame_tiles (s : State) (b : Nat) (f : CanFrame) (sof : Nat) :
    (s.isoFrame b f sof).tiles = s.tiles := by
  unfold State.isoFrame
  extract_lets
  split
  · rfl
  · (repeat' split) <;> simp +zetaDelta

@[simp] theorem State.stagesOff_tiles (s : State) (isl : Island) : (s.stagesOff isl).tiles = s.tiles := by
  cases isl <;> simp [State.stagesOff]

theorem State.filterSet_tiles {s t : State} {b n : Nat} {bs : List Byte} (h : s.filterSet b n bs = some t) :
    t.tiles = s.tiles := by
  unfold State.filterSet at h
  dsimp only at h
  split at h
  · cases h
  · rw [← Option.some.inj h]
    simp

@[simp] theorem State.bufferRead_tiles (s : State) (w : Waiting) (bs : List Byte) : (s.bufferRead w bs).tiles = s.tiles := by
  unfold State.bufferRead
  split
  case h_5 =>
    split
    next hset => simp [State.filterSet_tiles hset]
    next => simp
  all_goals simp

/-- A sequencer's instruction leaves the tile cache where its own effect does (R230). -/
theorem State.seqRun_tiles {s : State} (ch : Nat) (par : Bool) {act : State → Nat → SeqInstr → Option State}
    (ha : ∀ b i, ((act s b i).getD s).tiles = s.tiles) : (s.seqRun ch par act).tiles = s.tiles := by
  unfold State.seqRun
  dsimp only
  (repeat' split) <;> simp [ha]

@[simp] theorem State.formRecord_tiles (s : State) (k : TelKind) : (s.formRecord k).tiles = s.tiles := by
  unfold State.formRecord
  (repeat' split) <;> simp

@[simp] theorem State.fuse_tiles (s : State) (o : FusObs) : (s.fuse o).tiles = s.tiles := by
  have hold : ∀ (t : State) (i : Nat), (match t.spdKind i with
      | .iso k => t.holdSlot (t.cfgN .speedBus) (t.isoSlot k)
      | _ => t).tiles = t.tiles := fun t i => by split <;> simp
  unfold State.fuse
  dsimp only
  (repeat' split) <;> simp
  all_goals exact (State.each_tiles _ _ _ hold).trans (by simp)

@[simp] theorem State.actItems_tiles (s : State) (as : List Activity) : (s.actItems as).2.tiles = s.tiles := by
  induction as generalizing s with
  | nil => rfl
  | cons a as ih => simp [State.actItems, ih]

@[simp] theorem State.freeIndices_tiles (s : State) (idx : List Word) : (s.freeIndices idx).2.tiles = s.tiles := by
  unfold State.freeIndices
  refine List.foldlRecOn (motive := fun p : List Word × State => p.2.tiles = s.tiles) _ _ rfl fun p hp n _ => ?_
  dsimp only
  split
  · simpa using hp
  · exact hp

/-! ### What taking a command comes to (R35, R360, R374) -/

@[simp] theorem checks_tiles {s : State} {k : Verdict} (ex content : Bool) (holder : Option (BitVec 16))
    (allowed : Option Status) (hk : k.state.tiles = s.tiles) : (checks s ex content holder allowed k).state.tiles = s.tiles := by
  unfold checks
  (repeat' split) <;> simp [hk]

@[simp] theorem report_tiles (op : Byte) (h : Hdr) (rep : Ref) (items : List Item) (s : State) :
    (report op h rep items s).state.tiles = s.tiles := by
  unfold report
  dsimp only
  split <;> simp

/-- A command that leaves the tile cache in its body leaves it altogether. -/
@[simp] theorem State.command_tiles {s : State} {dt : Nat} {op : Byte} {cmd : Instr} {h : Hdr} {body : State → Verdict}
    (hb : ∀ u : State, (body u).state.tiles = u.tiles) : (s.command dt op cmd h body).tiles = s.tiles := by
  have htake : ∀ v : State, (v.take op cmd h body).tiles = v.tiles := fun v => by
    obtain ⟨t, ht, hwrong | ⟨-, st, res, u, hu, hdone⟩ | ⟨-, dma, aux, u, hu, hwait⟩⟩ := State.take_cases v op cmd h body
    · rw [hwrong.2]
      simp [ht]
    · have hbt := hb t
      rw [hu] at hbt
      rw [hdone]
      simpa [ht] using hbt
    · have hbt := hb t
      rw [hu] at hbt
      rw [hwait]
      cases dma <;> simpa [ht] using hbt
  unfold State.command
  dsimp only
  split <;> simp [htake]

@[simp] theorem cmdMaintAbort_tiles (target : BitVec 16) (s : State) : (cmdMaintAbort target s).state.tiles = s.tiles := by
  unfold cmdMaintAbort
  dsimp only
  (repeat' split) <;> simp

@[simp] theorem cmdMaintStart_tiles (h : Hdr) (result : DWord) (code loop : Nat) (s : State) :
    (cmdMaintStart h result code loop s).state.tiles = s.tiles := by
  unfold cmdMaintStart
  dsimp only
  (repeat' split) <;> simp

@[simp] theorem cmdMaintStatus_tiles (h : Hdr) (rep : Ref) (s : State) : (cmdMaintStatus h rep s).state.tiles = s.tiles := by
  simp [cmdMaintStatus]

@[simp] theorem cmdTilePatch_tiles (rate dma : Bool) (offset len : Nat) (tx ty : BitVec 16) (data : BitVec 128) (s : State) :
    (cmdTilePatch rate dma offset len tx ty data s).state.tiles = s.tiles := by
  unfold cmdTilePatch
  exact checks_tiles _ _ _ _ (by split <;> simp)

@[simp] theorem cmdLsSet_tiles (mask : BitVec 16) (mode : Nat) (duty : Q16) (s : State) :
    (cmdLsSet mask mode duty s).state.tiles = s.tiles := by
  unfold cmdLsSet
  split
  · simp
  · refine checks_tiles _ _ _ _ ?_
    dsimp only [Verdict.state]
    rw [State.each_tiles _ _ _ fun u n => by split <;> simp]
    simp

@[simp] theorem cmdValveDelayReset_tiles (h : Hdr) (mask : BitVec 96) (s : State) :
    (cmdValveDelayReset h mask s).state.tiles = s.tiles := by
  simp [cmdValveDelayReset]

@[simp] theorem cmdSeqSetK_tiles (group : Nat) (mask : BitVec 8) (which en : BitVec 4) (ks : List (BitVec 16)) (s : State) :
    (cmdSeqSetK group mask which en ks s).state.tiles = s.tiles := by
  simp [cmdSeqSetK]

@[simp] theorem cmdLoopStatus_tiles (h : Hdr) (rep : Ref) (mask : Word) (clearSat : Bool) (s : State) :
    (cmdLoopStatus h rep mask clearSat s).state.tiles = s.tiles := by
  simp [cmdLoopStatus]

@[simp] theorem cmdFdSet_tiles (mask levels : Word) (s : State) : (cmdFdSet mask levels s).state.tiles = s.tiles := by
  simp [cmdFdSet]

@[simp] theorem cmdFdClear_tiles (mask : Word) (s : State) : (cmdFdClear mask s).state.tiles = s.tiles := by
  simp [cmdFdClear]

@[simp] theorem cmdSxExclude_tiles (incl : Bool) (signal svid : Byte) (sys : Nat) (s : State) :
    (cmdSxExclude incl signal svid sys s).state.tiles = s.tiles := by
  simp [cmdSxExclude, State.sxCmd]

@[simp] theorem cmdSxRaw_tiles (en : Bool) (s : State) : (cmdSxRaw en s).state.tiles = s.tiles := by
  simp [cmdSxRaw, State.sxCmd]

@[simp] theorem cmdSxRestart_tiles (kind : Nat) (s : State) : (cmdSxRestart kind s).state.tiles = s.tiles := by
  unfold cmdSxRestart
  refine checks_tiles _ _ _ _ ?_
  rw [Verdict.state_done]
  split <;> simp

@[simp] theorem State.clearFault_tiles (s : State) : s.clearFault.state.tiles = s.tiles := by
  unfold State.clearFault
  dsimp only
  split <;> simp

end Sys2Proof.Machine
end

section
/-! Tile SRAM's canonical form under every row: resets, firings, scrubs, the host link, the planner's cycle and the
commands. -/

namespace Sys2Proof.Machine

section
variable {s : State}

/-! ### Resets, firings and the field origin (R42, R104, R403) -/

theorem State.resetNow_sramWf (s : State) (source hold : Nat) : (s.resetNow source hold).SramWf where
  wf := rfl

@[simp] theorem State.fireEnd_tiles (s : State) (st : Status) (res : BitVec 128) : (s.fireEnd st res).tiles = s.tiles := by
  unfold State.fireEnd
  dsimp only
  split <;> simp

theorem State.SramWf.applyImage (h : s.SramWf) (v : CfgVals) : (s.applyImage v).SramWf := by
  unfold State.applyImage
  extract_lets was s1 s2 s3 s4 s5 s6 s7 s8 s9 s10 s11 s12
  have h10 : s10.SramWf := h.of_tiles (by simp [s10, s9, s8, s7, s6, s5, s4, s3, s1])
  have h11 : s11.SramWf := .ite h10 s10.emptyCache_sramWf
  exact h11.of_tiles (by simp [s12])

theorem State.SramWf.fireDone (h : s.SramWf) (flashOk readbackOk : Bool) : (s.fireDone flashOk readbackOk).SramWf := by
  unfold State.fireDone
  split
  · exact h
  · split
    · exact h.of_tiles (by simp)
    next v _ =>
      split
      · exact (h.applyImage v).of_tiles (by simp)
      · exact (h.applyImage (s.cfg.newPlan.getD s.cfg.vals)).of_tiles (by simp)

theorem State.setOrigin_sramWf (s : State) (w : Waiting) (lat lon height : Word) : (s.setOrigin w lat lon height).SramWf := by
  unfold State.setOrigin
  extract_lets ds hs lost s1 s2
  exact s1.emptyCache_sramWf.of_tiles (by simp [s2])

theorem State.SramWf.originDone (h : s.SramWf) : s.originDone.SramWf := by
  unfold State.originDone
  split
  · split
    · exact .ite (State.setOrigin_sramWf ..) h
    · exact h
  · exact h

/-! ### A slot lost to ECC (R448) -/

theorem State.SramWf.slotLost (h : s.SramWf) (n : Nat) : (s.slotLost n).SramWf := by
  unfold State.slotLost
  split
  · exact h
  · extract_lets s1 s2
    have h1 : s1.SramWf := h.count 4 _
    have h2 : s2.SramWf := h1.updTiles fun _ => rfl
    exact ((h2.dropSlot n).wbEnded n false).dropsEnded.unstick

theorem State.SramWf.scrubbed (h : s.SramWf) (f : ScrubFinding) : (s.scrubbed f).SramWf := by
  cases f with
  | corrected => exact h.of_tiles (by simp [State.scrubbed])
  | coreOrWheel => exact h.of_tiles (by simp [State.scrubbed])
  | tileSlot n =>
    have hnoted : (s.noteClass 3 2).SramWf := h.of_tiles (by simp)
    exact (hnoted.slotLost n).of_tiles (by simp [State.scrubbed])

/-! ### The host link and the registers (R141, R343, R356) -/

theorem State.SramWf.ringStarts (h : s.SramWf) (n : Nat) : (s.ringStarts n).SramWf :=
  .ite (h.unanswered.updTiles fun _ => rfl) h

theorem State.SramWf.ringControl (h : s.SramWf) (n : Nat) (v : Word) : (s.ringControl n v).SramWf := by
  unfold State.ringControl
  extract_lets r log2 en vec s1 s2
  have h2 : s2.SramWf := .ite (h.ringStarts n) h
  have h1 : s1.SramWf := h.of_tiles rfl
  exact .ite (.ite (h.of_tiles (by simp)) (.ite h1 (h1.of_tiles (by simp)))) (h2.of_tiles rfl)

theorem State.SramWf.write32 (h : s.SramWf) (off : Nat) (v : Word) : (s.write32 off v).SramWf := by
  unfold State.write32
  extract_lets high n k k'
  refine .ite (h.of_tiles ?_) (.ite (h.of_tiles ?_) (.ite (h.of_tiles ?_) (.ite (h.of_tiles ?_) (.ite (h.of_tiles ?_)
    (.ite (h.of_tiles ?_) (.ite ?_ (h.of_tiles ?_)))))))
  case refine_7 =>
    split
    · exact h.ringControl k v
    · exact h
    · exact h.of_tiles (by simp)
  all_goals (repeat' split) <;> simp

theorem State.SramWf.regWrite (h : s.SramWf) (off size : Nat) (v : DWord) : (s.regWrite off size v).SramWf :=
  .ite ((h.write32 _ _).write32 _ _) (h.write32 _ _)

theorem State.SramWf.takeAnswers (h : s.SramWf) (as : List TileAns) : (State.takeAnswers as s).SramWf := by
  induction as generalizing s with
  | nil => exact h
  | cons a as ih =>
    unfold State.takeAnswers
    split
    · extract_lets i s1
      have h1 : s1.SramWf := h.updTiles fun _ => rfl
      refine ih ?_
      split
      · exact h1.tileAnswer _ a
      · exact h1
    · exact h

theorem State.SramWf.doorbellRead (h : s.SramWf) (d : Doorbell) : (s.doorbellRead d).SramWf := by
  unfold State.doorbellRead
  extract_lets s1 s2 s3 s4
  have h1 : s1.SramWf := h.of_mem rfl
  have h2 : s2.SramWf := State.SramWf.takeAnswers (h1.of_tiles (by simp)) _
  have h4 : s4.SramWf := h2.of_tiles (by simp [s4, s3])
  exact .ite (h4.of_tiles (by simp)) (h4.of_tiles (by simp))

theorem State.SramWf.bindHost (h : s.SramWf) (resume : Bool) : (s.bindHost resume).SramWf :=
  State.SramWf.bindTiles (h.of_tiles (by simp))

/-! ### The planner's cycle (R142, R149, R154) -/

theorem State.SramWf.markMove (h : s.SramWf) (ch : Nat) (a b : FusOut) (lo hi : Nat) : (s.markMove ch a b lo hi).SramWf := by
  unfold State.markMove
  extract_lets x y g d p q
  exact .ite h (.ite (h.count 15 1) (.ite h (h.each (fun _ _ hu => hu.markCell _ _ _) _)))

theorem State.SramWf.markSpan (h : s.SramWf) (ch : Nat) (os : List FusOut) (x : OpenSpan) : (s.markSpan ch os x).SramWf :=
  h.each (fun _ _ hu => hu.markMove _ _ _ _ _) _

theorem State.SramWf.markAll (h : s.SramWf) : s.markAll.SramWf := by
  refine h.each (fun u ch hu => ?_) _
  exact State.SramWf.of_tiles (hu.each (fun _ _ hv => hv.markSpan _ _ _) _) rfl

theorem State.SramWf.countLooks (h : s.SramWf) (ch : Nat) (ws : List Want) : (s.countLooks ch ws).SramWf := by
  unfold State.countLooks
  extract_lets near ts rs all
  refine h.each (fun u t hu => ?_) all
  extract_lets held s1 s2 s3
  have h3 : s3.SramWf := hu.of_tiles (by simp [s3, s2, s1])
  split
  · exact (hu.count 7 1).updTiles fun _ => rfl
  · split
    · exact h3
    · refine State.SramWf.raise ?_ _ _ _ _
      exact h3.updTiles fun _ => rfl

theorem State.SramWf.planGroup (h : s.SramWf) (o : FusOut) (f g : Nat) : (s.planGroup o f g).SramWf := by
  refine h.each (fun u x hu => ?_) _
  extract_lets s1 es
  exact (hu.countLooks x.1 x.2.look).of_tiles (by simp [s1])

theorem State.SramWf.cycleInputs (h : s.SramWf) (f : Nat) : (s.cycleInputs f).SramWf := by
  have hspeed : s.speedCompare.takePlan.SramWf := h.of_tiles (by simp)
  exact ((((hspeed.applyPatches true).applyFresh).applyPatches false).applyRates).of_tiles (by simp [State.cycleInputs])

theorem State.SramWf.planCycle (h : s.SramWf) : s.planCycle.SramWf := by
  unfold State.planCycle
  extract_lets f s1 o s2 s3
  have h1 : s1.SramWf := h.cycleInputs f
  have h2 : s2.SramWf := h1.markAll.of_tiles (by simp [s2])
  have h3 : s3.SramWf := h2.of_tiles (by simp [s3])
  exact h3.each (fun _ g hu => hu.planGroup o f g) _

/-! ### Commands (R360) -/

theorem State.SramWf.command (h : s.SramWf) {dt : Nat} {op : Byte} {cmd : Instr} {hdr : Hdr} {body : State → Verdict}
    (hb : ∀ u : State, u.SramWf → (body u).state.SramWf) : (s.command dt op cmd hdr body).SramWf := by
  have hfirst : (s.advance dt).graceFirst.SramWf := h.of_tiles (by simp)
  refine .ite ?_ hfirst
  obtain ⟨t, ht, hwrong | ⟨-, st, res, u, hu, hdone⟩ | ⟨-, dma, aux, u, hu, hwait⟩⟩ :=
    State.take_cases (s.advance dt).graceFirst op cmd hdr body
  · rw [hwrong.2]
    exact hfirst.of_tiles (by simp [ht])
  · have hbody := hb t (hfirst.of_tiles (by simp [ht]))
    rw [hu] at hbody
    rw [hdone]
    exact State.SramWf.of_tiles hbody (by simp)
  · have hbody := hb t (hfirst.of_tiles (by simp [ht]))
    rw [hu] at hbody
    rw [hwait]
    exact State.SramWf.of_tiles hbody (by cases dma <;> simp)

theorem checks_sramWf (h : s.SramWf) {k : Verdict} (hk : k.state.SramWf) (ex content : Bool) (holder : Option (BitVec 16))
    (allowed : Option Status) : (checks s ex content holder allowed k).state.SramWf := by
  unfold checks
  split
  · exact h
  · split
    · exact h
    · split
      · exact h
      · split
        · exact h
        · exact hk

theorem cmdBind_sramWf (h : s.SramWf) (resume : Bool) (boot : Word) : (cmdBind resume boot s).state.SramWf := by
  refine checks_sramWf h ?_ _ _ _ _
  exact .ite (h.bindHost resume) ((h.bindHost resume).of_tiles (by simp))

theorem cmdTileInvalidate_sramWf (h : s.SramWf) (tx0 ty0 tx1 ty1 : BitVec 16) (mode : Nat) :
    (cmdTileInvalidate tx0 ty0 tx1 ty1 mode s).state.SramWf := by
  refine checks_sramWf h ?_ _ _ _ _
  extract_lets xs s1 s2 left
  have h1 : s1.SramWf := h.of_mem rfl
  have h2 : s2.SramWf := h1.each (fun _ x hu => hu.invalidate mode x) xs
  split
  · exact h2.unstick
  · exact h2.unstick

theorem cmdTileFlush_sramWf (h : s.SramWf) : (cmdTileFlush s).state.SramWf := by
  unfold cmdTileFlush
  dsimp only
  split
  · exact h.flushAll
  · exact h.flushAll

theorem cmdFieldOrigin_sramWf (h : s.SramWf) : (cmdFieldOrigin s).state.SramWf := h.flushAll

end

end Sys2Proof.Machine
end

section
/-! Tile SRAM's canonical form under every row, and the claim about it. -/

namespace Sys2Proof.Machine

/-! ### Rows -/

/-- Whatever next state the outcome gives has Tile SRAM in its canonical form. -/
def Out.SramWf (o : Out) : Prop := ∀ t, o = .next t → t.SramWf

theorem Out.SramWf.next {t : State} (h : t.SramWf) : Out.SramWf (.next t) := fun _ ht => Host.Outcome.next.inj ht ▸ h

/-- A row that leaves the tile cache. -/
theorem Out.SramWf.of_tiles {s t : State} (h : s.SramWf) (ht : t.tiles = s.tiles) : Out.SramWf (.next t) := .next (h.of_tiles ht)

theorem Out.SramWf.command {s : State} (h : s.SramWf) {dt : Nat} {op : Byte} {cmd : Instr} {hdr : Hdr} {body : State → Verdict}
    (hb : ∀ u : State, u.SramWf → (body u).state.SramWf) : Out.SramWf (.next (s.command dt op cmd hdr body)) :=
  .next (h.command hb)

theorem State.SramWf.advance {s : State} (h : s.SramWf) (dt : Nat) : (s.advance dt).SramWf := h.of_tiles (by simp)

/-! The rows of resets and of register writes, and the doorbell's. -/

section
variable {s : State} (h : s.SramWf) (dt : Nat)
include h

theorem execResetnLow_sramWf (lowNs : Nat) : Out.SramWf (execResetnLow dt lowNs s) := by
  have hfree : (s.advance dt).takeFree.2.SramWf := h.of_tiles (by simp)
  have hreset := State.resetNow_sramWf (s.advance dt).takeFree.2 1 (max resetTicks (lowNs / 4))
  exact .next (State.SramWf.of_tiles (.ite hreset hfree) rfl)

theorem execModuleResetAssert_sramWf : Out.SramWf (execModuleResetAssert dt s) := by
  refine .next ?_
  split
  · exact .ite (State.resetNow_sramWf ..) (h.advance dt)
  · exact h.advance dt

theorem execMsixUnmask_sramWf (v : Option Nat) : Out.SramWf (execMsixUnmask dt v s) := by
  refine .next ?_
  split
  · exact .ite ((h.advance dt).regWrite _ _ _) (h.advance dt)
  · exact .ite (h.of_tiles (by simp)) (h.advance dt)

theorem execRegisterWrite_sramWf (off size : Nat) (v : DWord) : Out.SramWf (execRegisterWrite dt off size v s) := by
  refine .next (.ite (h.advance dt) (.ite ((h.advance dt).regWrite _ _ _) (h.of_tiles ?_)))
  simp

theorem execDoorbellReadComplete_sramWf (d : Doorbell) : Out.SramWf (execDoorbellReadComplete dt d s) := by
  have hfree : ((s.advance dt).freeIndices d.idx).2.SramWf := (h.advance dt).of_tiles (State.freeIndices_tiles _ _)
  refine .next ?_
  split
  · exact h.advance dt
  · split
    · exact h.of_tiles (by simp)
    · split
      next idx u hu =>
        rw [hu] at hfree
        exact hfree.doorbellRead _

/-- The write of one register, where the row's condition holds. -/
theorem Out.SramWf.regWriteIf (c : Prop) [Decidable c] (off size : Nat) (v : DWord) :
    Out.SramWf (.next (if c then (s.advance dt).regWrite off size v else s.advance dt)) :=
  .next (.ite ((h.advance dt).regWrite off size v) (h.advance dt))

theorem execBootComplete_sramWf (b : BootObs) : Out.SramWf (execBootComplete dt b s) := by
  unfold execBootComplete
  extract_lets s1 s2 s3 s4 s5 s6 s7 s8 s9
  have h9 : s9.SramWf := h.of_tiles (by simp [s9, s8, s7, s6, s5, s4, s3, s2, s1])
  refine .next ?_
  split
  · exact h.advance dt
  · split
    · exact h.of_tiles (by simp [s1])
    · split
      · exact h9.of_tiles (by simp)
      · exact h9.of_tiles (by simp)

theorem execTxSessionOpen_sramWf (bus : Nat) (data : Option (List Byte)) : Out.SramWf (execTxSessionOpen dt bus data s) := by
  unfold execTxSessionOpen
  refine .of_tiles h ?_
  dsimp only
  (repeat' split) <;> simp

end

theorem State.SramWf.graceFirst {s : State} (h : s.SramWf) : s.graceFirst.SramWf := h.of_tiles (by simp)

/-- Every row but DESCRIPTOR_FETCH: first those that write Tile SRAM, empty it or reset it, then those that leave the tile
cache. -/
theorem exec_sramWf_of_ne_fetch (c : Instr) {s : State} (h : s.SramWf) (hc : ∀ dt f, c ≠ .descriptorFetch dt f) :
    Out.SramWf (exec c s) := by
  cases c with
  | descriptorFetch dt f => exact absurd rfl (hc dt f)
  | powerOnReset dt => exact .next (.ite (State.resetNow_sramWf ..) (h.of_tiles (by simp)))
  | resetnLow dt => exact execResetnLow_sramWf h dt _
  | watchdogTimeout dt => exact .next (.ite (State.resetNow_sramWf ..) (h.advance dt))
  | saggarReset dt => exact .next (.ite (State.resetNow_sramWf ..) (h.advance dt))
  | moduleResetAssert dt => exact execModuleResetAssert_sramWf h dt
  | memoryScrub dt fs => exact .next (.ite ((h.advance dt).each (fun _ f hu => hu.scrubbed f) fs) (h.advance dt))
  | bootComplete dt b => exact execBootComplete_sramWf h dt b
  | txSessionOpen dt bus data => exact execTxSessionOpen_sramWf h dt bus data
  | firingComplete dt => exact .next ((h.advance dt).fireDone _ _)
  | doorbellReadComplete dt d => exact execDoorbellReadComplete_sramWf h dt d
  | ringEnable dt | ringDisable dt | regLocked dt | pollPeriodWrite dt | hbTimeoutWrite dt | hiErrClear dt =>
    exact .regWriteIf h dt _ _ _ _
  | registerWrite dt => exact execRegisterWrite_sramWf h dt _ _ _
  | msixUnmask dt => exact execMsixUnmask_sramWf h dt _
  | plannerCycleStart dt =>
    exact .next (.ite (h.advance dt).graceFirst.planCycle (h.advance dt))
  | fieldOriginComplete dt => exact .next (h.advance dt).originDone
  | prefetchRecompute dt => exact .next (h.advance dt).prefetch
  | tileRequestEnterRing dt => exact .next (h.advance dt).enterRing
  | tileRecordRead dt => exact .next ((h.advance dt).tileRead _ _)
  | writebackDue dt => exact .next ((h.advance dt).wbDue _)
  | writebackComplete dt => exact .next ((h.advance dt).wbComplete _ _)
  | tileTimeout dt => exact .next ((h.advance dt).tileTimedOut _)
  | tileRetry dt => exact .next ((h.advance dt).tileRetry _)
  | bind => exact .command h fun u hu => cmdBind_sramWf hu _ _
  | tileInvalidate => exact .command h fun u hu => cmdTileInvalidate_sramWf hu _ _ _ _ _
  | tileFlush => exact .command h fun u hu => cmdTileFlush_sramWf hu
  | fieldOrigin => exact .command h fun u hu => cmdFieldOrigin_sramWf hu
  | seqReservedOpcode => exact .of_tiles h ((State.seqRun_tiles _ _ fun _ _ => rfl).trans (by simp))
  | seqSrc | seqItgt | seqWaiti | seqWaitt | seqArm | seqDecay | seqMark | seqJmp | seqJc | seqLoop | seqHoldw | seqEnd =>
    refine .of_tiles h ((State.seqRun_tiles _ _ fun b i => ?_).trans (by simp))
    split <;> simp
  | faultRecordWritten | laneConfirmTimeout | doorbellSweep | hostBufferRead | telemetryRecord
  | fusionEpoch | imuBurstComplete | ftStep | slewComplete | tp0Pulse | acquisitionConfirmTimeout | coilR | loopSample | measLost
  | lsPauseEnd | inrushWindowEnd | piZeroTimeout | canFrameReceived | tpSessionTimeout | canTxSuccess | canArbitrationLost
  | canTxError | canRxError | addressClaimComplete | bamPacket | busRecoveryTimeout | rateDetectTimeout
  | phaseLock | ma20ShuntReconnect =>
    refine .of_tiles h ?_
    (repeat' split) <;> simp
  | islandClockStop =>
    refine .of_tiles h ?_
    split <;> simp
  | unbind | arm | disarm | run | hold | manualEnter | manualExit | clearFault | heartbeat | moduleReset | telSelect | cfgStage
  | cfgFire | cfgRollback | planSectionEnable | planManual | planHoldAck | planStatus | valveStatus | valveClear | valveDiagNow
  | seqStatus | seqRead | loopClose | loopOpen | loopSetpoint | loopOutput | loopCoef | loopClear | traceArm | traceStop
  | lsClear | lsDiagNow | piCountSet | sxSet | sxAidTime | sxAidPos | sxAidOrbit | diagRecords | diagErase =>
    exact .of_tiles h (by simp [State.stateDone, State.sxCmd, cmdUnbind, cmdArm, cmdDisarm, cmdRun, cmdHold, cmdManualEnter,
      cmdManualExit, cmdClearFault, cmdHeartbeat, cmdModuleReset, cmdTelSelect, cmdCfgStage, cmdCfgFire, cmdCfgRollback,
      cmdPlanSectionEnable, cmdPlanManual, cmdPlanHoldAck, cmdPlanStatus, cmdValveStatus, cmdValveClear, cmdValveDiagNow,
      cmdSeqStatus, cmdSeqRead, cmdLoop, cmdTraceArm, cmdTraceStop, cmdLsClear, cmdLsDiagNow, cmdPiCountSet, cmdSxSet,
      cmdSxAidTime, cmdSxAidPos, cmdDiagRecords, cmdDiagErase])
  | canTxCancel =>
    refine .of_tiles h (State.command_tiles fun u => ?_)
    dsimp only
    (repeat' split) <;> simp
  | _ => exact .of_tiles h (by simp)

/-! ### The commands of a sweep (R356, R359) -/

theorem nextOr_sramWf {s : State} (h : s.SramWf) {o : Out} (ho : o.SramWf) : (nextOr s o).SramWf := by
  rcases nextOr_cases s o with hsame | hnext
  · exact hsame.symm ▸ h
  · exact ho _ hnext

theorem runCmd_sramWf (c : Instr) {s : State} (h : s.SramWf) : (runCmd c s).SramWf := by
  rcases runCmd_cases c s with hsame | hnext | ⟨dt, k, b, t, x, rfl⟩
  · exact hsame.symm ▸ h
  · by_cases hc : ∃ dt f, c = .descriptorFetch dt f
    · obtain ⟨dt, f, rfl⟩ := hc
      exact h
    · rw [hnext]
      exact nextOr_sramWf h (exec_sramWf_of_ne_fetch c h fun dt f hf => hc ⟨dt, f, hf⟩)
  · have hfree : s.takeFree.2.SramWf := h.of_tiles (by simp)
    exact nextOr_sramWf hfree (exec_sramWf_of_ne_fetch (.canTxCancel dt k b t (Config.freeBool s.takeFree.1)) hfree nofun)

theorem runCmds_sramWf (ds : List Desc) {s : State} (h : s.SramWf) : (runCmds ds s).SramWf := by
  induction ds generalizing s with
  | nil => exact h
  | cons d ds ih =>
    have hd := runCmd_sramWf (decodeCmd d) h
    exact .ite hd (ih hd)

/-- What comes before and after the commands of a sweep leaves the tile cache. -/
theorem State.SramWf.fetched {s : State} (h : s.SramWf) (f : Fetch) : (s.fetched f).SramWf := by
  unfold State.fetched
  extract_lets good more reads s1 s2 s3 read early s4 s5 s6 s7 s8
  have hread : ∀ (t : State) (b : Nat), (read t b).tiles = t.tiles := fun t b => by
    simp only [read]
    split <;> simp
  have h3 : s3.SramWf := h.of_tiles (by simp [s3, s2, s1])
  have h4 : s4.SramWf := h3.of_tiles (State.each_tiles _ _ _ hread)
  have h5 : s5.SramWf := .ite (runCmds_sramWf f.cmds h4) h4
  exact h5.of_tiles (by simp [s8, s7, s6, hread])

theorem exec_sramWf (c : Instr) {s : State} (h : s.SramWf) : Out.SramWf (exec c s) := by
  by_cases hc : ∃ dt f, c = .descriptorFetch dt f
  · obtain ⟨dt, f, rfl⟩ := hc
    exact .next (.ite (h.advance dt) (.ite ((h.advance dt).graceFirst.fetched f) (h.of_tiles (by simp))))
  · exact exec_sramWf_of_ne_fetch c h fun dt f hf => hc ⟨dt, f, hf⟩

/-- Settles O54: the rows that write Tile SRAM write it byte by byte, empty it or reset it, and the others leave the tile
cache as it is. -/
theorem tileMemoryKept : Obligations.TileMemoryKept := by
  intro s t hs ht
  unfold step at ht
  split at ht
  next c rest _ =>
    have hrest : State.SramWf { s with pending := rest } := ⟨hs⟩
    exact (exec_sramWf c hrest t ht).wf
  next =>
    rw [← Host.Outcome.next.inj ht]
    simpa using hs

end Sys2Proof.Machine
end

section
/-! MARK_COUNT of a WRITEBACK placed in the TILE ring (R138). -/

namespace Sys2Proof.Machine

/-! ### What a placed request holds -/

@[simp] theorem State.enterWaiting_placed (k : Nat) (s : State) : (s.enterWaiting k).tiles.placed = s.tiles.placed := by
  induction k generalizing s with
  | zero => rfl
  | succ k ih =>
    rw [State.enterWaiting]
    split
    · exact ih _
    · rfl

/-- The placed request keeps MARK_COUNT of its descriptor (R138), and that it is cancelled (R147). -/
theorem State.enterRing_placed {s : State} {r : TReq} (hr : s.nextReq = some r) (hroom : s.tileRoom = true) :
    s.enterRing.tiles.placed = s.tiles.placed ++
      [{ idx := (s.ring 4).mod, seq := s.tiles.reqSeq, fetch := r.fetch, tx := r.tx, ty := r.ty, slot := r.slot,
         need := r.need, placed := s.now, marks := Desc.field (s.tileDesc r) 224 16, cancelled := r.cancelled }] := by
  simp [State.enterRing, hr, hroom]

/-! ### The obligation -/

/-- The WRITEBACK queued for slot 9. -/
def markedRequest : TReq := { fetch := false, slot := 9 }

/-- A bound module in STANDBY with room in the TILE ring; slot 9 holds tile (0, 0), one cell of it marked since the last
write-back, and its WRITEBACK is queued. -/
def markedWriteback : State :=
  { dev := { st := .standby, bound := true }
    host := { link := true, bme := true, mse := true, rings := List.replicate 4 {} ++ [{ en := true }] }
    tiles := { slots := [{ slot := 9, st := .valid, dirty := true, marks := 1, cells := [5] }]
               queue := [markedRequest] } }

/-- Refutes O23: the statement has every placed request hold MARK_COUNT 0.  In `markedWriteback` the request that enters
the ring is a WRITEBACK of a tile with one marked cell, so that its descriptor's MARK_COUNT is 1 (R138). -/
theorem not_tileExchangeRows : ¬ Obligations.TileExchangeRows := by
  rintro ⟨-, henter, -⟩
  have hnext : markedWriteback.nextReq = some markedRequest := rfl
  have hroom : markedWriteback.tileRoom = true := by decide
  obtain ⟨t, ht, -, -, hplaced, -⟩ := henter markedWriteback 0 markedRequest (by rw [State.advance_zero, hnext]) hroom
  have hrow : exec (.tileRequestEnterRing 0) markedWriteback = .next markedWriteback.enterRing := by
    show execTileRequestEnterRing 0 _ = _
    rw [execTileRequestEnterRing, State.advance_zero]
  have hmarks := congrArg (·.map (·.marks)) hplaced
  rw [Host.Outcome.next.inj (ht.symm.trans hrow), State.enterRing_placed hnext hroom] at hmarks
  exact absurd hmarks (by decide)

end Sys2Proof.Machine
end

section
/-! TILE_INVALIDATE in mode DROP_DISCARD of a tile whose WRITEBACK is in progress (R147). -/

namespace Sys2Proof.Machine

/-! ### The drop that waits -/

/-- A slot's drop begins, and what is not written of it is to be thrown away (R147). -/
def TSlot.discarding (x : TSlot) : TSlot := { x with drop := true, discard := true }

theorem State.invalidate_discard_of_wbPlaced {s : State} {x : TSlot} (h : s.wbPlaced x.slot = true) :
    s.invalidate 2 x = s.updSlot x.slot TSlot.discarding := by
  rw [State.invalidate, if_neg (by decide), if_neg (by simp), if_pos h]
  rfl

/-- Only FETCHes are cancelled. -/
@[simp] theorem State.cancelRect_wbPlaced (s : State) (x0 y0 x1 y1 : Int) (n : Nat) :
    (s.cancelRect x0 y0 x1 y1).wbPlaced n = s.wbPlaced n := by
  rw [State.wbPlaced, State.wbPlaced, State.cancelRect, State.updTiles_tiles, List.any_map]
  refine congrArg (s.tiles.placed.any ·) (funext fun p => ?_)
  rw [Function.comp_apply]
  split <;> rfl

theorem State.unstick_of_none {s : State} (h : s.tiles.stuck = []) : s.unstick = s := by
  simp [State.unstick, h, State.each]

/-- The drop waits for a WRITEBACK in progress (log 107). -/
theorem cmdTileInvalidate_discard_of_wbPlaced {s : State} {x : TSlot} {tx0 ty0 tx1 ty1 : BitVec 16}
    (hrect : s.rectSlots tx0.toInt ty0.toInt tx1.toInt ty1.toInt = [x]) (hwb : s.wbPlaced x.slot = true)
    (hstuck : s.tiles.stuck = []) :
    cmdTileInvalidate tx0 ty0 tx1 ty1 2 s = .wait false [1, x.slot]
      ((s.cancelRect tx0.toInt ty0.toInt tx1.toInt ty1.toInt).updSlot x.slot TSlot.discarding) := by
  have hx : x ∈ s.tiles.slots := List.mem_of_mem_filter (hrect ▸ List.mem_singleton_self x)
  let u := (s.cancelRect tx0.toInt ty0.toInt tx1.toInt ty1.toInt).updSlot x.slot TSlot.discarding
  have hdropping : u.tiles.slots.any (fun y => decide (y.slot = x.slot) && y.drop) = true :=
    List.any_eq_true.2 ⟨x.discarding, List.mem_map.2 ⟨x, hx, if_pos rfl⟩, by simp [TSlot.discarding]⟩
  have hleft : [x.slot].filter (fun n => u.tiles.slots.any (fun y => decide (y.slot = n) && y.drop)) = [x.slot] :=
    List.filter_eq_self.2 fun n hn => List.mem_singleton.1 hn ▸ hdropping
  simp only [cmdTileInvalidate, checks, hrect, State.each, List.foldl_cons, List.foldl_nil, List.map_cons, List.map_nil,
    State.invalidate_discard_of_wbPlaced ((State.cancelRect_wbPlaced ..).trans hwb), hleft, u,
    State.unstick_of_none (s := u) hstuck]
  rfl

@[simp] theorem State.complete_tiles (s : State) (op : Byte) (h : Hdr) (idx : Word) (st : Status) (res : BitVec 128) :
    (s.complete op h idx st res).tiles = s.tiles := by
  simp [State.complete]

/-! ### The obligation -/

/-- A bound module in STANDBY with one command announced and room for its completion; slot 9 holds tile (0, 0), DIRTY,
and its WRITEBACK has been answered and is on its way to the host. -/
def discardUnderWriteback : State :=
  { dev := { st := .standby, bound := true }
    host := { link := true, bme := true, mse := true, rings := [{ en := true, host := 1 }, { en := true }] }
    tiles := { slots := [{ slot := 9, st := .valid, dirty := true }]
               placed := [{ fetch := false, slot := 9, addr := some 4096 }] } }

/-- Refutes O24: the statement has every TILE_INVALIDATE of mode DROP_DISCARD completed at once, with the tiles of its
rectangle gone.  In `discardUnderWriteback` the tile's WRITEBACK is in progress, which completes first (R147, log 107),
so that the command waits and the tile stays. -/
theorem not_mapCommands : ¬ Obligations.MapCommands := by
  rintro ⟨-, hinvalidate, -⟩
  have ht : Takes discardUnderWriteback 0 0x21 {} := by decide
  obtain ⟨-, -, v, hv, hgone⟩ := hinvalidate discardUnderWriteback 0 {} 0 0 0 0 ht rfl
  have hwaits : cmdTileInvalidate 0 0 0 0 2 (discardUnderWriteback.advance 0).taken = .wait false [1, 9]
      ((discardUnderWriteback.taken.cancelRect 0 0 0 0).updSlot 9 TSlot.discarding) := by
    rw [State.advance_zero]
    exact cmdTileInvalidate_discard_of_wbPlaced (x := { slot := 9, st := .valid, dirty := true }) (by decide) (by decide) rfl
  have hrow : exec (.tileInvalidate 0 {} 0 0 0 0 2) discardUnderWriteback = .next (discardUnderWriteback.command 0 0x21
      (.tileInvalidate 0 {} 0 0 0 0 2) {} (cmdTileInvalidate 0 0 0 0 2)) := rfl
  rw [hrow, State.command_of_wait ht hwaits] at hv
  have hslots := congrArg (·.tiles.slots) (Host.Outcome.next.inj hv)
  simp only [State.complete_tiles] at hslots
  rw [State.rectSlots, ← hslots] at hgone
  exact absurd hgone (by decide)

end Sys2Proof.Machine
end

section
/-! A cycle start with no command waiting, and a section command of a grace that has run out in STANDBY (R35, R51, R154,
R177). -/

namespace Sys2Proof.Machine

/-! ### A cycle start with nothing waiting (R154, R177) -/

@[simp] theorem State.updPChan_enabled (s : State) (ch : Nat) (f : PChan → PChan) :
    (s.updPChan ch f).planner.enabled = s.planner.enabled := rfl

@[simp] theorem State.openReport_enabled (s : State) (r : Report) :
    (s.openReport r).planner.enabled = s.planner.enabled := by
  unfold State.openReport
  dsimp only
  (repeat' split) <;> simp

@[simp] theorem State.closeReport_enabled (s : State) (r : Report) :
    (s.closeReport r).planner.enabled = s.planner.enabled := by
  unfold State.closeReport
  dsimp only
  split <;> simp

@[simp] theorem State.takeReports_enabled (s : State) : s.takeReports.planner.enabled = s.planner.enabled := by
  simp only [State.takeReports, State.updPlanner_planner]
  rw [State.each_induct (fun u : State => u.planner.enabled) fun u r => by (repeat' split) <;> simp]

@[simp] theorem State.settleDecided_enabled (s : State) (f : Nat) :
    (s.settleDecided f).planner.enabled = s.planner.enabled := by
  simp only [State.settleDecided, State.updPlanner_planner]
  rw [State.each_induct (fun u : State => u.planner.enabled) fun u e => by simp]

@[simp] theorem State.markAll_enabled (s : State) : s.markAll.planner.enabled = s.planner.enabled :=
  State.each_induct (fun u : State => u.planner.enabled) (fun u ch => by simp) _ _

@[simp] theorem State.positionLoss_enabled (s : State) (o : FusOut) :
    (s.positionLoss o).planner.enabled = s.planner.enabled := by
  unfold State.positionLoss
  dsimp only
  (repeat' split) <;> simp

@[simp] theorem State.putEdges_enabled (s : State) (f ch : Nat) (es : List Edge) :
    (s.putEdges f ch es).planner.enabled = s.planner.enabled := by
  unfold State.putEdges
  dsimp only
  split <;> simp

@[simp] theorem State.planGroup_enabled (s : State) (o : FusOut) (f g : Nat) :
    (s.planGroup o f g).planner.enabled = s.planner.enabled :=
  State.each_induct (fun u : State => u.planner.enabled)
    (fun u x => by simp only [State.keepPlaced, State.updPlanner_planner, State.updPChan_enabled]; split <;> simp) _ _

/-- The enables change with the inputs of a cycle, not with its marking and placement. -/
theorem State.planCycle_enabled (s : State) :
    s.planCycle.planner.enabled = (s.cycleInputs (s.now + freezeTicks)).planner.enabled := by
  unfold State.planCycle
  dsimp only
  rw [State.each_induct (fun u : State => u.planner.enabled) fun u g => by simp]
  simp

theorem State.speedCompare_of_safe {s : State} (h : s.dev.st = .safe) : s.speedCompare = s := by
  simp [State.speedCompare, h]

theorem State.applyPatches_of_none_waiting {s : State} (h : s.host.outstanding = []) (early : Bool) :
    s.applyPatches early = s := by
  rw [State.applyPatches, h]
  rfl

theorem State.applyRates_of_none_waiting {s : State} (h : s.host.outstanding = []) : s.applyRates = s := by
  rw [State.applyRates, h]
  rfl

@[simp] theorem State.applyFresh_keeps (s : State) : s.applyFresh.host = s.host ∧ s.applyFresh.planner = s.planner := by
  constructor
  · exact State.each_host _ _ _ fun u x => by split <;> simp
  · exact State.each_planner _ _ _ fun u x => by split <;> simp

theorem State.planCycle_enabled_of_none_waiting {s : State} (hst : s.dev.st = .safe) (h : s.host.outstanding = []) :
    s.planCycle.planner.enabled = s.planner.enabled := by
  have hplan : s.takePlan.host.outstanding = [] := by simpa using h
  have hfresh : s.takePlan.applyFresh.host.outstanding = [] := by simpa using h
  rw [State.planCycle_enabled, State.cycleInputs, State.speedCompare_of_safe hst,
    State.applyPatches_of_none_waiting hplan, State.applyPatches_of_none_waiting hfresh,
    State.applyRates_of_none_waiting hfresh]
  simp [h, State.each]

/-! ### The obligation -/

/-- A PLAN_SECTION_ENABLE that disables section 0. -/
def waitingDisable : Waiting := { cmd := .planSectionEnable 0 {} 1 false, op := 0x25 }

/-- STANDBY at a cycle start, with `waitingDisable` outstanding and a grace that has run out. -/
def disableUnderGrace : State :=
  { time := { running := true }
    dev := { st := .standby, grace := some {} }
    host := { outstanding := [waitingDisable] } }

/-- The grace's end enters SAFE, which does not allow the command (R51, R376). -/
theorem disableUnderGrace_graceFirst : disableUnderGrace.graceFirst.dev.st = .safe
    ∧ disableUnderGrace.graceFirst.host.outstanding = []
    ∧ disableUnderGrace.graceFirst.planner.enabled = BitVec.allOnes 96 := by
  decide +kernel

/-- Refutes O25: the statement has a cycle start in STANDBY carry out a waiting PLAN_SECTION_ENABLE, and leaves out that
a grace may run out there first (the clauses for the speed comparison name the grace).  In `disableUnderGrace` the grace
ends before the cycle's inputs are taken (R35), the command completes WRONG_STATE in SAFE (R376), and section 0 stays
enabled.  No row leads to a grace in STANDBY (`graceKept`), but the statement ranges over every state. -/
theorem not_plannerRows : ¬ Obligations.PlannerRows := by
  rintro ⟨-, -, -, hsection, -⟩
  obtain ⟨hst, hnone, henabled⟩ := disableUnderGrace_graceFirst
  obtain ⟨t, ht, hdisabled, -⟩ := hsection disableUnderGrace 0 0 {} waitingDisable 1 false rfl rfl rfl rfl rfl
  have hrow : exec (.plannerCycleStart 0) disableUnderGrace = .next disableUnderGrace.graceFirst.planCycle := by
    show execPlannerCycleStart 0 _ = _
    have hstarts : (disableUnderGrace.islands && disableUnderGrace.dev.st.servesRings
      && disableUnderGrace.now % cycleTicks = 0) = true := by decide
    rw [execPlannerCycleStart, State.advance_zero, if_pos hstarts]
  rw [Host.Outcome.next.inj (ht.symm.trans hrow), State.planCycle_enabled_of_none_waiting hst hnone, henabled] at hdisabled
  exact absurd hdisabled (by decide)

end Sys2Proof.Machine
end

section
/-! An opening that is DETECTED after its closing, as the second good actuation of a channel in the fallback (R196, R199). -/

namespace Sys2Proof.Machine

/-- An opening window of 4 ms. -/
def bumpWindow : Window := { det := .bump, opened := 249000000, timeout := some 250000000 }

/-- Channel 0 in HOLD with its opening window open, in the fallback after one good actuation, the closing of the present
one decided already. -/
def secondGoodOpening : State :=
  { time := { running := true, mt := 250000000 }
    valves := { ch :=
      { goodLast := true, ctx := { st := .hold, act := true, closeOut := some .detected, openWin := some bumpWindow } }
        :: List.replicate 95 {} } }

/-- A current that rises by 1 A from one sample to the next and falls back on the third. -/
def openingBump : DetObs := { first := 249500000, ma := [500, 1500, 500] }

theorem secondGoodOpening_feature :
    secondGoodOpening.feature 0 bumpWindow openingBump = some (249500250, 249500500) := by
  decide +kernel

/-- The end of the fallback raises its event (R199), which no ring takes. -/
theorem secondGoodOpening_raises : (secondGoodOpening.arrival 0 false openingBump).host.events.map (·.code) = [0x4003] := by
  decide +kernel

/-- Refutes O31: for an opening the statement lets ARRIVAL_DETECTED change the valves and the activities alone, and leaves
out the end of the fallback.  In `secondGoodOpening` the closing was decided first, so that the opening completes the
second good actuation in a row, and ARRIVAL_GOOD is raised to the host (R199).  (The clause for a closing names the host
interface; both clauses also say that the activities stay where no sweep that has read its parameters runs, while the
model keeps the samples of a swept channel whatever activity holds it.) -/
theorem not_claimArrivalRows : ¬ Obligations.ClaimArrivalRows := by
  rintro ⟨-, -, hopening, -⟩
  obtain ⟨t, ht, -, -, -, -, -, -, -, hframe⟩ := hopening secondGoodOpening 0 0 openingBump (249500250, 249500500) bumpWindow
    ⟨by decide, by decide⟩ rfl (by decide) rfl rfl rfl secondGoodOpening_feature (by decide) (by decide)
    (fun m hm => by cases hm; decide)
  have hrow : exec (.arrivalDetected 0 0 false openingBump) secondGoodOpening
      = .next (secondGoodOpening.arrival 0 false openingBump) := by
    show execArrivalDetected 0 0 false openingBump _ = _
    rw [execArrivalDetected, State.advance_zero, if_pos (by decide)]
  have hkept : t.host.events = [] := by
    rw [hframe]
    rfl
  have hraised := secondGoodOpening_raises
  rw [← Host.Outcome.next.inj (ht.symm.trans hrow), hkept] at hraised
  simp at hraised

end Sys2Proof.Machine
end

section
/-! A reservoir between the V_LIM just fired and the one that the lanes still hold (R188, R439, R440, R445). -/

namespace Sys2Proof.Machine

/-- A reservoir that no lane finds above its own copy of V_LIM is read, and nothing else happens (R445 class 14). -/
theorem State.boostOver_of_not_over {s : State} {q mv : Nat} (h : s.sag.overLanes q mv = none) (held : Nat) :
    s.boostOver q mv held = s.readRes q mv := by
  simp [State.boostOver, h]

theorem State.updCtx_quad (s : State) (ch j : Nat) (f : Ctx → Ctx) : (s.updCtx ch f).quad j = s.quad j := rfl

theorem State.updQuad_overE {f : Quad → Quad} (hf : ∀ x, (f x).overE = x.overE) (s : State) (q j : Nat) :
    ((s.updQuad q f).quad j).overE = (s.quad j).overE := by
  simp only [State.quad, State.updQuad, List.getD_eq_getElem?_getD, List.getElem?_modify]
  cases s.valves.quad[j]? with
  | none => rfl
  | some x => by_cases hqj : q = j <;> simp [hqj, hf]

/-- A reading of the reservoir leaves what class 14 has detected of the quadrant. -/
theorem State.readRes_overE (s : State) (q mv j : Nat) : ((s.readRes q mv).quad j).overE = (s.quad j).overE := by
  unfold State.readRes
  dsimp only
  split
  · rw [State.each_induct (fun u : State => (u.quad j).overE) fun u i => by rw [State.updCtx_quad]]
    refine State.updQuad_overE ?_ _ q j
    exact fun _ => rfl
  · refine State.updQuad_overE ?_ _ q j
    exact fun _ => rfl

/-- A firing has lowered V_LIM of quadrant 0 to 24 V; the lanes have been sent it, and hold 60 V until they next exchange
(R440). -/
def limitsOnTheWay : State :=
  { pwr := { vLim := [24000, 0, 0, 0] }
    sag :=
      { a := { limits := { vLim := [60000, 0, 0, 0] }, newLimits := some { vLim := [24000, 0, 0, 0] } }
        b := { limits := { vLim := [60000, 0, 0, 0] }, newLimits := some { vLim := [24000, 0, 0, 0] } } } }

/-- Refutes O32: the statement has BST_OV act on a reservoir 2,000 mV above the V_LIM in force.  The lanes find it, each
against its own copy of the limits (R439, R445), and take a new copy only at the exchange after the firing (R440).  In
`limitsOnTheWay` a reservoir at 30 V is above the 24 V fired and below the 60 V that both lanes still hold, and class 14
is not detected. -/
theorem not_valveFindingRows : ¬ Obligations.ValveFindingRows := by
  rintro ⟨-, -, -, -, -, -, -, -, hover, -⟩
  obtain ⟨t, ht, -, -, hdetected, -⟩ := hover limitsOnTheWay 0 0 30000 2500 (by decide) (by decide) (by decide) (by decide)
    (by decide)
  have hrow : exec (.bstOv 0 0 30000 2500) limitsOnTheWay = .next (limitsOnTheWay.readRes 0 30000) := by
    show execBstOv 0 0 30000 2500 _ = _
    rw [execBstOv, State.advance_zero, State.boostOver_of_not_over (by decide)]
  rw [Host.Outcome.next.inj (ht.symm.trans hrow), State.readRes_overE] at hdetected
  exact absurd hdetected (by decide)

end Sys2Proof.Machine
end

section
/-! The commands outstanding, which records, events and completions leave as they are (R353, R360, R362). -/

namespace Sys2Proof.Machine

/-! ### Writes to the link (R353, R363) -/

@[simp] theorem HostIf.ite_outstanding (c : Prop) [Decidable c] (g h : HostIf) :
    (if c then g else h).outstanding = if c then g.outstanding else h.outstanding := apply_ite HostIf.outstanding c g h

@[simp] theorem HostIf.issue_outstanding (h : HostIf) : h.issue.outstanding = h.outstanding := by
  unfold HostIf.issue
  split <;> rfl

@[simp] theorem HostIf.form_outstanding (h : HostIf) (w : HostWrite) : (h.form w).outstanding = h.outstanding := by
  unfold HostIf.form
  dsimp only
  (repeat' split) <;> rfl

@[simp] theorem State.emits_outstanding (s : State) (ws : List HostWrite) :
    (s.emits ws).host.outstanding = s.host.outstanding := by
  have hform (l : List HostWrite) (h : HostIf) : (l.foldl HostIf.form h).outstanding = h.outstanding := by
    induction l generalizing h with
    | nil => rfl
    | cons w l ih => exact (ih (h.form w)).trans (h.form_outstanding w)
  simp [State.emits, hform]

@[simp] theorem State.emit_outstanding (s : State) (w : HostWrite) : (s.emit w).host.outstanding = s.host.outstanding :=
  s.emits_outstanding [w]

@[simp] theorem State.updRing_outstanding (s : State) (n : Nat) (f : Ring → Ring) :
    (s.updRing n f).host.outstanding = s.host.outstanding := rfl

@[simp] theorem State.updVec_outstanding (s : State) (v : Nat) (f : Vec → Vec) :
    (s.updVec v f).host.outstanding = s.host.outstanding := rfl

@[simp] theorem State.sendMsix_outstanding (s : State) (v : Nat) :
    (s.sendMsix v).host.outstanding = s.host.outstanding := by
  unfold State.sendMsix
  dsimp only
  split <;> simp

@[simp] theorem State.notify_outstanding (s : State) (v : Nat) (urgent : Bool) :
    (s.notify v urgent).host.outstanding = s.host.outstanding := by
  unfold State.notify
  dsimp only
  split <;> simp

@[simp] theorem State.writeStatus_outstanding (s : State) : s.writeStatus.host.outstanding = s.host.outstanding := by
  unfold State.writeStatus
  dsimp only
  split
  · exact s.emit_outstanding _
  · rfl

@[simp] theorem State.writeRec_outstanding (s : State) (n : Nat) (ds : List Desc) (urgent : Bool) :
    (s.writeRec n ds urgent).host.outstanding = s.host.outstanding := by
  simp [State.writeRec]

/-! ### Events and fault records (R362, R388) -/

@[simp] theorem State.writeEvt_outstanding (s : State) (e : Evt) : (s.writeEvt e).host.outstanding = s.host.outstanding :=
  s.writeRec_outstanding 2 [e.desc s.host.evtSeq] e.urgent

@[simp] theorem State.queueEvt_outstanding (s : State) (e : Evt) : (s.queueEvt e).host.outstanding = s.host.outstanding := by
  unfold State.queueEvt
  split <;> rfl

@[simp] theorem State.raise_outstanding (s : State) (code subject : Nat) (data : List (Nat × Nat × Nat)) (urgent : Bool) :
    (s.raise code subject data urgent).host.outstanding = s.host.outstanding := by
  unfold State.raise
  dsimp only
  split <;> simp

@[simp] theorem State.record_outstanding (s : State) (source code subject : Nat) (data : List (Nat × Nat × Nat))
    (urgent : Bool) : (s.record source code subject data urgent).host.outstanding = s.host.outstanding :=
  State.raise_outstanding ..

/-! ### Completions (R355, R360) -/

@[simp] theorem State.drainCpl_outstanding (k : Nat) (s : State) :
    (State.drainCpl k s).host.outstanding = s.host.outstanding := by
  induction k generalizing s with
  | zero => rfl
  | succ k ih =>
    unfold State.drainCpl
    split
    · rfl
    · split
      · exact (ih _).trans (State.writeRec_outstanding _ _ _ _)
      · rfl

@[simp] theorem State.pbaSends_outstanding (s : State) (v : Nat) :
    (s.pbaSends v).host.outstanding = s.host.outstanding := by
  unfold State.pbaSends
  dsimp only
  split
  · exact State.sendMsix_outstanding _ v
  · rfl

theorem State.startSweep_outstanding (s : State) : s.startSweep.host.outstanding = s.host.outstanding := by
  unfold State.startSweep
  extract_lets t fresh late u v
  have hv : v.host.outstanding = s.host.outstanding := by
    simp only [v]
    split
    · rw [State.each_induct (fun x : State => x.host.outstanding) State.pbaSends_outstanding]
      exact s.emit_outstanding _
    · exact s.emit_outstanding _
  exact (State.drainCpl_outstanding _ v).trans hv

theorem State.extraSweep_outstanding (s : State) : s.extraSweep.host.outstanding = s.host.outstanding := by
  unfold State.extraSweep
  extract_lets soon
  split
  · rfl
  · split
    · rfl
    · exact s.startSweep_outstanding

@[simp] theorem State.completeAt_outstanding (s : State) (op : Byte) (h : Hdr) (idx : Word) (st : Status)
    (res : BitVec 128) (mt : Nat) : (s.completeAt op h idx st res mt).host.outstanding = s.host.outstanding := by
  unfold State.completeAt
  dsimp only
  split
  · exact (State.extraSweep_outstanding _).trans (State.writeRec_outstanding ..)
  · split <;> rfl

/-- A command that completes is outstanding no longer, and every other one stays (R360). -/
theorem State.finish_outstanding (s : State) (w : Waiting) (st : Status) (res : BitVec 128) :
    (s.finish w st res).host.outstanding = s.host.outstanding.filter (fun x => !w.same x) := by
  unfold State.finish State.finishAt
  dsimp only
  split <;> simp

end Sys2Proof.Machine
end

section
/-! What faults and tests of a channel do to the latches of the others: none is released, and the channels of a faulted
group are all latched (R205, R208). -/

namespace Sys2Proof.Machine

/-! ### The latches -/

/-- Which channels are latched OFF. -/
def State.latches (s : State) : List Bool := s.valves.ch.map (·.latched)

theorem State.latches_of_valves {s t : State} (h : t.valves = s.valves) : t.latches = s.latches := by
  rw [State.latches, h, State.latches]

@[simp] theorem Chan.ite_latched (p : Prop) [Decidable p] (c d : Chan) :
    (if p then c else d).latched = if p then c.latched else d.latched := apply_ite Chan.latched p c d

@[simp] theorem Chan.bump_latched (c : Chan) (i : Nat) : (c.bump i).latched = c.latched := by simp [Chan.bump]

@[simp] theorem Chan.outlied_latched (c : Chan) : c.outlied.latched = c.latched := by simp [Chan.outlied]

@[simp] theorem State.updChan_latches (s : State) (ch : Nat) (f : Chan → Chan) (hf : ∀ c, (f c).latched = c.latched) :
    (s.updChan ch f).latches = s.latches := by
  refine List.ext_getElem? fun i => ?_
  simp only [State.latches, State.updChan, List.getElem?_map, List.getElem?_modify]
  cases s.valves.ch[i]? with
  | none => rfl
  | some c => by_cases h : ch = i <;> simp [h, hf]

@[simp] theorem State.updCtx_latches (s : State) (ch : Nat) (f : Ctx → Ctx) : (s.updCtx ch f).latches = s.latches :=
  s.updChan_latches ch _ fun _ => rfl

@[simp] theorem State.updGroup_latches (s : State) (g : Nat) (f : Group → Group) : (s.updGroup g f).latches = s.latches := rfl

@[simp] theorem State.updQuad_latches (s : State) (q : Nat) (f : Quad → Quad) : (s.updQuad q f).latches = s.latches := rfl

@[simp] theorem State.ite_latches (c : Prop) [Decidable c] (a b : State) :
    (if c then a else b).latches = if c then a.latches else b.latches := apply_ite State.latches c a b

@[simp] theorem State.raise_latches (s : State) (code subject : Nat) (data : List (Nat × Nat × Nat)) (urgent : Bool) :
    (s.raise code subject data urgent).latches = s.latches := State.latches_of_valves (by simp)

@[simp] theorem State.record_latches (s : State) (source code subject : Nat) (data : List (Nat × Nat × Nat))
    (urgent : Bool) : (s.record source code subject data urgent).latches = s.latches := State.latches_of_valves (by simp)

@[simp] theorem State.noteClass_kept (s : State) (k lane : Nat) :
    (s.noteClass k lane).latches = s.latches ∧ (s.noteClass k lane).host.outstanding = s.host.outstanding := ⟨rfl, rfl⟩

/-! ### An actuation that ends (R196 to R200, R221, R228) -/

@[simp] theorem State.noteLoad_latches (s : State) (ch : Nat) : (s.noteLoad ch).latches = s.latches :=
  State.updCtx_latches ..

@[simp] theorem State.setRail_latches (s : State) (g : Nat) : (s.setRail g).latches = s.latches := by
  simp only [State.setRail]
  rw [State.each_induct State.latches fun u j => u.noteLoad_latches _]
  simp

@[simp] theorem State.noteReg_latches (s : State) (ch t : Nat) : (s.noteReg ch t).latches = s.latches :=
  State.updCtx_latches ..

@[simp] theorem State.endPhase_latches (s : State) (ch t : Nat) : (s.endPhase ch t).latches = s.latches := by
  unfold State.endPhase
  dsimp only
  split <;> simp

@[simp] theorem State.toFallback_latches (s : State) (ch : Nat) : (s.toFallback ch).latches = s.latches :=
  State.updChan_latches _ _ _ fun _ => rfl

@[simp] theorem State.missed_kept (s : State) (ch : Nat) (closing : Bool) : (s.missed ch closing).latches = s.latches
    ∧ (s.missed ch closing).host.outstanding = s.host.outstanding := by
  unfold State.missed
  dsimp only
  split <;> simp

@[simp] theorem State.sample_latches (s : State) (ch : Nat) (closing : Bool) (x : Rat) :
    (s.sample ch closing x).latches = s.latches := by
  unfold State.sample
  dsimp only
  (repeat' split) <;> simp

@[simp] theorem State.judge_kept (s : State) (ch : Nat) :
    (s.judge ch).latches = s.latches ∧ (s.judge ch).host.outstanding = s.host.outstanding := by
  unfold State.judge
  dsimp only
  (repeat' split) <;> simp

@[simp] theorem State.report_kept (s : State) (ch : Nat) (cancelled closing : Bool) :
    (s.report ch cancelled closing).latches = s.latches ∧ (s.report ch cancelled closing).host = s.host := ⟨rfl, rfl⟩

@[simp] theorem State.updSwept_latches (s : State) (ch : Nat) (f : Swept → Swept) : (s.updSwept ch f).latches = s.latches := rfl

@[simp] theorem State.decideOpen_kept (s : State) (ch : Nat) (o : Outc) (stamp : Nat) :
    (s.decideOpen ch o stamp).latches = s.latches
      ∧ (s.decideOpen ch o stamp).host.outstanding = s.host.outstanding := by
  unfold State.decideOpen
  dsimp only
  split
  · exact ⟨rfl, rfl⟩
  · cases o <;> simp

@[simp] theorem State.decideClose_kept (s : State) (ch : Nat) (o : Outc) (stamp : Nat) :
    (s.decideClose ch o stamp).latches = s.latches
      ∧ (s.decideClose ch o stamp).host.outstanding = s.host.outstanding := by
  unfold State.decideClose
  dsimp only
  split
  · exact ⟨rfl, rfl⟩
  · cases o <;> simp

@[simp] theorem State.startDecay_kept (s : State) (ch t : Nat) (clamp : Bool) :
    (s.startDecay ch t clamp).latches = s.latches
      ∧ (s.startDecay ch t clamp).host.outstanding = s.host.outstanding := by
  unfold State.startDecay
  dsimp only
  split <;> simp

@[simp] theorem State.noteAct_kept (s : State) (ch t : Nat) :
    (s.noteAct ch t).latches = s.latches ∧ (s.noteAct ch t).host = s.host :=
  ⟨State.updChan_latches _ _ _ fun _ => rfl, rfl⟩

@[simp] theorem State.stopActuation_kept (s : State) (ch t : Nat) (clamp : Bool) :
    (s.stopActuation ch t clamp).latches = s.latches
      ∧ (s.stopActuation ch t clamp).host.outstanding = s.host.outstanding := by
  unfold State.stopActuation
  dsimp only
  split <;> simp

@[simp] theorem State.cancelOn_latches (s : State) (ch t : Nat) : (s.cancelOn ch t).latches = s.latches := by
  unfold State.cancelOn
  dsimp only
  simp only [State.setRail_latches, State.updCtx_latches]
  exact s.endPhase_latches ch t

@[simp] theorem State.clampDecay_latches (s : State) (ch : Nat) : (s.clampDecay ch).latches = s.latches := by
  simp [State.clampDecay]

@[simp] theorem State.forceOff_kept (s : State) (ch : Nat) :
    (s.forceOff ch).latches = s.latches ∧ (s.forceOff ch).host.outstanding = s.host.outstanding := by
  unfold State.forceOff
  dsimp only
  (repeat' split) <;> simp

/-! ### Faults (R204, R208) -/

theorem State.updChan_latches_set (s : State) (ch : Nat) (f : Chan → Chan) {b : Bool} (hf : ∀ c, (f c).latched = b) :
    (s.updChan ch f).latches = s.latches.set ch b := by
  refine List.ext_getElem? fun i => ?_
  simp only [State.latches, State.updChan, List.getElem?_map, List.getElem?_modify, List.getElem?_set]
  by_cases h : ch = i
  · subst h
    by_cases hlt : ch < s.valves.ch.length <;> simp [hlt, hf]
  · simp [h]

/-- A latch concerns its own channel. -/
@[simp] theorem State.latchCh_latches (s : State) (ch finding : Nat) : (s.latchCh ch finding).latches = s.latches.set ch true := by
  simp only [State.latchCh, State.setRail_latches, State.updCtx_latches]
  rw [State.updChan_latches_set, (s.forceOff_kept ch).1]
  exact fun _ => rfl

@[simp] theorem State.latchCh_outstanding (s : State) (ch finding : Nat) :
    (s.latchCh ch finding).host.outstanding = s.host.outstanding := by
  simp [State.latchCh]

@[simp] theorem State.latchGroup_outstanding (s : State) (g finding : Nat) :
    (s.latchGroup g finding).host.outstanding = s.host.outstanding :=
  State.each_induct (fun u : State => u.host.outstanding) (fun u _ => u.latchCh_outstanding _ finding) s _

/-- Channel `ch` is there, and latched. -/
def State.isLatched (s : State) (ch : Nat) : Prop := s.latches[ch]? = some true

theorem State.isLatched_iff {s : State} {ch : Nat} : s.isLatched ch ↔ (s.chan ch).latched = true := by
  simp only [State.isLatched, State.latches, State.chan, List.getElem?_map, List.getD_eq_getElem?_getD]
  cases s.valves.ch[ch]? <;> simp

theorem State.isLatched.of_latches {s t : State} {ch : Nat} (h : s.isLatched ch) (ht : t.latches = s.latches) :
    t.isLatched ch := by
  rwa [State.isLatched, ht]

/-- Another channel's latch releases none. -/
theorem State.isLatched.latchCh {s : State} {ch : Nat} (h : s.isLatched ch) (j finding : Nat) :
    (s.latchCh j finding).isLatched ch := by
  rw [State.isLatched, State.latchCh_latches, List.getElem?_set]
  split
  next hj =>
    subst hj
    rw [if_pos (List.getElem?_eq_some_iff.1 h).1]
  next => exact h

theorem State.latchCh_isLatched (s : State) {ch : Nat} (hch : ch < s.latches.length) (finding : Nat) :
    (s.latchCh ch finding).isLatched ch := by
  simp [State.isLatched, hch]

/-- What each of many steps keeps is there after all of them. -/
theorem State.each_keeps {α : Type} {P : State → Prop} {f : State → α → State} (hkeeps : ∀ u y, P u → P (f u y))
    (l : List α) {s : State} (hs : P s) : P (s.each l f) := by
  induction l generalizing s with
  | nil => exact hs
  | cons y l ih => exact ih (hkeeps s y hs)

/-- What one step of many makes, and each of them keeps, is there after all of them. -/
theorem State.each_makes {α : Type} {I P : State → Prop} {f : State → α → State} {x : α} {l : List α} (hx : x ∈ l)
    (hI : ∀ u y, I u → I (f u y)) (hmakes : ∀ u, I u → P (f u x)) (hkeeps : ∀ u y, P u → P (f u y)) {s : State}
    (hs : I s) : P (s.each l f) := by
  induction l generalizing s with
  | nil => simp at hx
  | cons y l ih =>
    rcases List.mem_cons.1 hx with rfl | hmem
    · exact State.each_keeps hkeeps l (hmakes s hs)
    · exact ih hmem (hI s y hs)

/-- A group fault's latches are those of its eight channels. -/
theorem State.latchGroup_latches (s : State) (g finding : Nat) : (s.latchGroup g finding).latches
    = (s.each (List.range 8) fun u j => u.latchCh (8 * g + j) finding).latches := by
  rw [State.latchGroup, State.updGroup_latches]

theorem State.latchGroup_latches_length (s : State) (g finding : Nat) :
    (s.latchGroup g finding).latches.length = s.latches.length := by
  rw [State.latchGroup_latches, State.each_induct (fun u : State => u.latches.length) fun u j => by simp]

theorem State.isLatched.latchGroup {s : State} {ch : Nat} (h : s.isLatched ch) (g finding : Nat) :
    (s.latchGroup g finding).isLatched ch :=
  (State.each_keeps (P := fun u => u.isLatched ch) (fun _ _ hu => hu.latchCh _ _) _ h).of_latches
    (s.latchGroup_latches g finding)

/-- A group fault latches all eight channels. -/
theorem State.latchGroup_isLatched (s : State) {g j : Nat} (hj : j < 8) (hch : 8 * g + j < s.latches.length) (finding : Nat) :
    (s.latchGroup g finding).isLatched (8 * g + j) :=
  (State.each_makes (I := fun u => 8 * g + j < u.latches.length) (P := fun u => u.isLatched (8 * g + j))
    (List.mem_range.2 hj) (fun u i hu => by simpa using hu) (fun u hu => u.latchCh_isLatched hu finding)
    (fun _ _ hu => hu.latchCh _ _) hch).of_latches (s.latchGroup_latches g finding)

/-! ### Off-state tests (R205) -/

/-- What an off-state test finds: an open load faults the channel, a short its group. -/
theorem State.offFinding_latches_length (s : State) (ch code : Nat) :
    (s.offFinding ch code).latches.length = s.latches.length := by
  unfold State.offFinding
  (repeat' split) <;> simp [State.channelFault, State.groupFault, State.latchGroup_latches_length]

theorem State.isLatched.offFinding {s : State} {ch : Nat} (h : s.isLatched ch) (j code : Nat) :
    (s.offFinding j code).isLatched ch := by
  have hnoted : (s.noteClass 7 2).isLatched ch := h
  unfold State.offFinding
  (repeat' split)
  · exact (hnoted.latchCh j 4).of_latches (State.record_latches ..)
  · exact (hnoted.latchGroup _ 3).of_latches (State.record_latches ..)
  · exact (hnoted.latchGroup _ 2).of_latches (State.record_latches ..)
  · exact h

/-- A test that finds an open load or a short leaves its channel latched. -/
theorem State.offFinding_isLatched (s : State) {ch code : Nat} (hch : ch < s.latches.length) (h1 : 1 ≤ code) (h3 : code ≤ 3) :
    (s.offFinding ch code).isLatched ch := by
  have hgroup (finding : Nat) : ((s.noteClass 7 2).latchGroup (grpOf ch) finding).isLatched ch := by
    have hlatched := (s.noteClass 7 2).latchGroup_isLatched (g := grpOf ch) (j := ch % 8) (Nat.mod_lt _ (by decide))
      (by rwa [Nat.div_add_mod]) finding
    rwa [Nat.div_add_mod] at hlatched
  obtain rfl | rfl | rfl : code = 1 ∨ code = 2 ∨ code = 3 := by omega
  · exact ((s.noteClass 7 2).latchCh_isLatched hch 4).of_latches (State.record_latches ..)
  · exact (hgroup 3).of_latches (State.record_latches ..)
  · exact (hgroup 2).of_latches (State.record_latches ..)

theorem State.offFinding_outstanding (s : State) (ch code : Nat) :
    (s.offFinding ch code).host.outstanding = s.host.outstanding := by
  unfold State.offFinding
  (repeat' split) <;> simp [State.channelFault, State.groupFault]

end Sys2Proof.Machine
end

section
/-! The commands of the valve drive: tests that a clear or VALVE_DIAG_NOW asks for, a delay reset, and the sequencers'
stores and presets (R205, R209, R211, R212, R232, R233). -/

namespace Sys2Proof.Machine

/-! ### Steps that each change their own channel -/

/-- `t` differs from `s` in the channels alone, as many as they are. -/
def ChansOnly (s t : State) : Prop :=
  t = { s with valves := { s.valves with ch := t.valves.ch } } ∧ t.valves.ch.length = s.valves.ch.length

theorem ChansOnly.refl (s : State) : ChansOnly s s := ⟨rfl, rfl⟩

theorem ChansOnly.trans {s t u : State} (hst : ChansOnly s t) (htu : ChansOnly t u) : ChansOnly s u := by
  obtain ⟨ht, htlen⟩ := hst
  obtain ⟨hu, hulen⟩ := htu
  refine ⟨?_, hulen.trans htlen⟩
  rw [hu, ht]

theorem ChansOnly.updChan (s : State) (ch : Nat) (f : Chan → Chan) : ChansOnly s (s.updChan ch f) :=
  ⟨rfl, List.length_modify ..⟩

theorem State.chan_updChan_of_ne (s : State) {ch j : Nat} (f : Chan → Chan) (h : j ≠ ch) :
    (s.updChan ch f).chan j = s.chan j := by
  simp [State.chan, State.updChan, List.getD_eq_getElem?_getD, h.symm]

theorem State.chan_updChan_same (s : State) {ch : Nat} (f : Chan → Chan) (h : ch < s.valves.ch.length) :
    (s.updChan ch f).chan ch = f (s.chan ch) := by
  rw [State.chan_updChan s ch ch f h, if_pos rfl]

/-- `t` differs from `s` in channel `j` alone. -/
def ChanOnly (j : Nat) (s t : State) : Prop := ChansOnly s t ∧ ∀ i, i ≠ j → t.chan i = s.chan i

theorem ChanOnly.refl (j : Nat) (s : State) : ChanOnly j s s := ⟨.refl s, fun _ _ => rfl⟩

theorem ChanOnly.trans {j : Nat} {s t u : State} (hst : ChanOnly j s t) (htu : ChanOnly j t u) : ChanOnly j s u :=
  ⟨hst.1.trans htu.1, fun i hi => (htu.2 i hi).trans (hst.2 i hi)⟩

theorem ChanOnly.updChan (s : State) (j : Nat) (f : Chan → Chan) : ChanOnly j s (s.updChan j f) :=
  ⟨.updChan .., fun _ hi => s.chan_updChan_of_ne f hi⟩

/-- Each step `y` changes channel `ch y` alone. -/
def StepsOwn {α : Type} (ch : α → Nat) (f : State → α → State) : Prop := ∀ u y, ChanOnly (ch y) u (f u y)

theorem StepsOwn.each_chansOnly {α : Type} {ch : α → Nat} {f : State → α → State} (hf : StepsOwn ch f) (s : State)
    (l : List α) : ChansOnly s (s.each l f) :=
  State.each_keeps (P := ChansOnly s) (fun u _ hu => hu.trans (hf u _).1) l (.refl s)

theorem StepsOwn.each_chan_of_notMem {α : Type} {ch : α → Nat} {f : State → α → State} (hf : StepsOwn ch f) {l : List α}
    {j : Nat} (hj : j ∉ l.map ch) (s : State) : (s.each l f).chan j = s.chan j := by
  induction l generalizing s with
  | nil => rfl
  | cons y l ih =>
    rw [List.map_cons, List.mem_cons, not_or] at hj
    exact (ih hj.2 (f s y)).trans ((hf s y).2 j hj.1)

/-- Where each step has a channel of its own, a channel ends up as its step leaves it, whatever the others do. -/
theorem StepsOwn.each_chan {α : Type} {ch : α → Nat} {f : State → α → State} (hf : StepsOwn ch f) {l : List α}
    (hl : (l.map ch).Nodup) {x : α} (hx : x ∈ l) (s : State) :
    ∃ u, ChansOnly s u ∧ u.chan (ch x) = s.chan (ch x) ∧ (s.each l f).chan (ch x) = (f u x).chan (ch x) := by
  induction l generalizing s with
  | nil => simp at hx
  | cons y l ih =>
    obtain ⟨hy, hl⟩ := List.nodup_cons.1 hl
    rcases List.mem_cons.1 hx with rfl | hmem
    · exact ⟨s, .refl s, rfl, hf.each_chan_of_notMem hy _⟩
    · have hne : ch x ≠ ch y := fun h => hy (h ▸ List.mem_map_of_mem hmem)
      obtain ⟨u, hu, hbefore, hafter⟩ := ih hl hmem (f s y)
      exact ⟨u, (hf s y).1.trans hu, hbefore.trans ((hf s y).2 _ hne), hafter⟩

/-- The same where a step is named by its channel. -/
theorem StepsOwn.each_self {f : State → Nat → State} (hf : StepsOwn id f) {l : List Nat} (hl : l.Nodup) {ch : Nat}
    (hch : ch ∈ l) (s : State) :
    ∃ u, ChansOnly s u ∧ u.chan ch = s.chan ch ∧ (s.each l f).chan ch = (f u ch).chan ch :=
  hf.each_chan ((List.map_id l).symm ▸ hl) hch s

/-! ### The channels that a command names -/

theorem mem_bitsOf {w i : Nat} {m : BitVec w} : i ∈ bitsOf m ↔ i < w ∧ m.getLsbD i = true := by
  simp [bitsOf]

theorem bitsOf_nodup {w : Nat} (m : BitVec w) : (bitsOf m).Nodup := List.nodup_range.filter _

theorem mem_namedCh {g ch : Nat} {mask : BitVec 8} :
    ch ∈ namedCh g mask ↔ ∃ j < 8, mask.getLsbD j = true ∧ 8 * g + j = ch := by
  simp [namedCh, mem_bitsOf, and_assoc]

theorem groupChans_nodup (g : Nat) {l : List Nat} (hl : l.Nodup) : (l.map fun j => 8 * g + j).Nodup :=
  hl.map fun _ _ h => Nat.add_left_cancel h

theorem namedCh_nodup (g : Nat) (mask : BitVec 8) : (namedCh g mask).Nodup := groupChans_nodup g (bitsOf_nodup mask)

/-! ### A clear and a test on demand are taken (R209, R212) -/

/-- What exists, and is not held by an activity, is left to the command's own effect (R374). -/
theorem checks_pass {e : Bool} (he : e = true) {holder : Option (BitVec 16)} (hh : holder = none) (s : State) (k : Verdict) :
    checks s e true holder none k = k := by
  simp [checks, he, hh]

/-- OUTPUTS is asked for where the mask names a channel (R212). -/
theorem holder_of_mask {w : Nat} {mask : BitVec w} {o : Option (BitVec 16)} (h : mask ≠ 0 → o = none) :
    (if mask = 0 then none else o) = none := by
  split
  · rfl
  · exact h ‹_›

section NamedCommand

variable {s : State} {dt g : Nat} {h : Hdr} {mask : BitVec 8} (hn : s.namedOk g mask = true)
include hn

theorem execValveClear_empty (ht : Takes s dt 0x41 h) (hm : mask = 0) :
    Answers (.valveClear dt h g mask) 0x41 h s .ok (codesRes (List.replicate 8 5)) (fun v => v = (s.advance dt).taken) :=
  answers_of_done rfl ht ((checks_pass hn rfl _ _).trans (if_pos hm)) rfl

theorem execValveClear_waits (ht : Takes s dt 0x41 h) (hm : mask ≠ 0) :
    Waits (.valveClear dt h g mask) 0x41 h s false (fun t => HostOnly (s.advance dt) t) :=
  waits_of_wait rfl ht ((checks_pass hn rfl _ _).trans (if_neg hm)) fun _ => (HostOnly.taken _).trans

theorem execValveDiagNow_empty (ht : Takes s dt 0x43 h) (hm : mask = 0) :
    Answers (.valveDiagNow dt h g mask) 0x43 h s .ok (codesRes (List.replicate 8 5))
      (fun v => v = (s.advance dt).taken) :=
  answers_of_done rfl ht ((checks_pass hn (if_pos hm) _ _).trans (if_pos hm)) rfl

theorem execValveDiagNow_waits (ht : Takes s dt 0x43 h) (hm : mask ≠ 0)
    (ho : s.outputsOf ((namedCh g mask).map Res.valve) = none) :
    Waits (.valveDiagNow dt h g mask) 0x43 h s false (fun t => HostOnly (s.advance dt) t) :=
  waits_of_wait rfl ht ((checks_pass hn ((if_neg hm).trans ho) _ _).trans (if_neg hm)) fun _ => (HostOnly.taken _).trans

end NamedCommand

/-! ### A round of tests (R205, R209) -/

/-- The tests of a round are made, with the codes of what they find; 4 and 5 stand for no test. -/
def State.testRound (s : State) (g : Nat) (cs : List Nat) : State :=
  s.each (List.range 8) (fun s j => if cs.getD j 5 < 4 then s.tested (8 * g + j) (cs.getD j 5) else s)

/-- A channel has been tested now. -/
def State.markTested (s : State) (ch : Nat) : State :=
  s.updChan ch (fun c => { c with testedAt := some s.now, starved := false })

theorem State.tested_eq (s : State) (ch code : Nat) : s.tested ch code = (s.markTested ch).offFinding ch code := rfl

theorem State.markTested_latches (s : State) (ch : Nat) : (s.markTested ch).latches = s.latches := by
  simp [State.markTested]

theorem State.tested_latches_length (s : State) (ch code : Nat) :
    (s.tested ch code).latches.length = s.latches.length := by
  rw [State.tested_eq, State.offFinding_latches_length, State.markTested_latches]

theorem State.isLatched.tested {s : State} {ch : Nat} (h : s.isLatched ch) (j code : Nat) :
    (s.tested j code).isLatched ch := by
  rw [State.tested_eq]
  exact (h.of_latches (s.markTested_latches j)).offFinding j code

theorem State.tested_isLatched (s : State) {ch code : Nat} (hch : ch < s.latches.length) (h1 : 1 ≤ code) (h3 : code ≤ 3) :
    (s.tested ch code).isLatched ch := by
  rw [State.tested_eq]
  exact State.offFinding_isLatched _ (by rwa [State.markTested_latches]) h1 h3

theorem State.tested_outstanding (s : State) (ch code : Nat) :
    (s.tested ch code).host.outstanding = s.host.outstanding := State.offFinding_outstanding ..

/-- A channel whose test finds something is latched at the end of the round, whatever the later tests find. -/
theorem State.testRound_isLatched (s : State) {g j : Nat} {cs : List Nat} (hj : j < 8) (h1 : 1 ≤ cs.getD j 5)
    (h3 : cs.getD j 5 ≤ 3) (hch : 8 * g + j < s.valves.ch.length) : (s.testRound g cs).isLatched (8 * g + j) := by
  refine State.each_makes (I := fun u => 8 * g + j < u.latches.length) (P := fun u => u.isLatched (8 * g + j))
    (List.mem_range.2 hj) (fun u i hu => ?_) (fun u hu => ?_) (fun u i hu => ?_) (by simpa [State.latches] using hch)
  · split
    · rwa [State.tested_latches_length]
    · exact hu
  · rw [if_pos (by omega)]
    exact u.tested_isLatched hu h1 h3
  · split
    · exact hu.tested _ _
    · exact hu

theorem State.testRound_outstanding (s : State) (g : Nat) (cs : List Nat) :
    (s.testRound g cs).host.outstanding = s.host.outstanding :=
  State.each_induct (fun u : State => u.host.outstanding)
    (fun u j => by split <;> simp [State.tested_outstanding]) s (List.range 8)

theorem State.testRound_dev (s : State) (g : Nat) (cs : List Nat) : (s.testRound g cs).dev = s.dev :=
  State.each_dev _ _ _ fun u j => by split <;> simp

/-- A test that finds nothing notes its time. -/
theorem State.tested_zero (s : State) (ch : Nat) : s.tested ch 0 = s.markTested ch := rfl

section CleanRound

variable {cs : List Nat} (hclean : ∀ c ∈ cs, c = 0 ∨ c = 5)
include hclean

theorem getD_clean (j : Nat) : cs.getD j 5 = 0 ∨ cs.getD j 5 = 5 := by
  rw [List.getD_eq_getElem?_getD]
  cases hj : cs[j]? with
  | none => exact .inr rfl
  | some c => exact hclean c (List.mem_of_getElem? hj)

theorem any_finding_of_clean : cs.any (fun c => 1 ≤ c && c ≤ 3) = false := by
  rw [List.any_eq_false]
  intro c hc
  rcases hclean c hc with rfl | rfl <;> decide

theorem contains_four_of_clean : cs.contains 4 = false := by
  rw [← Bool.not_eq_true, List.contains_iff_mem]
  intro h4
  rcases hclean 4 h4 with h | h <;> simp at h

/-- In a round that finds nothing each test touches its own channel. -/
theorem testSteps_own_of_clean (g : Nat) : StepsOwn (fun j => 8 * g + j)
    (fun s j => if cs.getD j 5 < 4 then s.tested (8 * g + j) (cs.getD j 5) else s) := by
  intro u j
  dsimp only
  rcases getD_clean hclean j with hj | hj <;> rw [hj]
  · exact .updChan ..
  · exact .refl ..

theorem State.testRound_chansOnly (s : State) (g : Nat) : ChansOnly s (s.testRound g cs) :=
  (testSteps_own_of_clean hclean g).each_chansOnly s _

theorem State.testRound_testedAt (s : State) {g j : Nat} (hj : j < 8) (hc : cs.getD j 5 = 0)
    (hch : 8 * g + j < s.valves.ch.length) : ((s.testRound g cs).chan (8 * g + j)).testedAt = some s.now := by
  obtain ⟨u, ⟨hu, hlen⟩, -, hchan⟩ := (testSteps_own_of_clean hclean g).each_chan
    (groupChans_nodup g List.nodup_range) (List.mem_range.2 hj) s
  have hnow : u.now = s.now := by rw [hu]; rfl
  rw [State.testRound, hchan, hc, if_pos (by decide), State.tested_zero,
    State.markTested, State.chan_updChan_same _ _ (hlen ▸ hch), hnow]

end CleanRound

/-- What a round's codes say of a channel that the mask names: a test's finding, or 4 for none. -/
theorem State.testCodes_named (s : State) (g : Nat) {mask : BitVec 8} (codes : List Nat) {j : Nat} (hj : j < 8)
    (hm : mask.getLsbD j = true) : (s.testCodes g mask codes).getD j 5 ≤ 4 := by
  have hcode : (s.testCodes g mask codes).getD j 5
      = if s.testable (8 * g + j) && !s.claimed (.valve (8 * g + j)) then min 4 (codes.getD j 0) else 4 := by
    simp [State.testCodes, hj, hm]
  rw [hcode]
  split <;> omega

/-- A channel that the mask names has been tested in a round that finds nothing. -/
theorem State.testCodes_named_clean (s : State) (g : Nat) {mask : BitVec 8} (codes : List Nat) {j : Nat} (hj : j < 8)
    (hm : mask.getLsbD j = true) (hclean : ∀ c ∈ s.testCodes g mask codes, c = 0 ∨ c = 5) :
    (s.testCodes g mask codes).getD j 5 = 0 := by
  have hle := s.testCodes_named g codes hj hm
  have := getD_clean hclean j
  omega

/-! ### A clear that succeeds (R209) -/

/-- One channel is released. -/
def State.unlatchCh (s : State) (ch : Nat) : State :=
  (s.updChan ch (fun c => { c with latched := false, finding := 0 })).updCtx ch
    (fun x => { x with st := if x.st == .latched then .idle else x.st })

theorem State.unlatch_eq (s : State) (g : Nat) (chs : List Nat) : s.unlatch g chs =
    if (List.range 8).any (fun j => (s.each chs State.unlatchCh).inUse (8 * g + j)
      && ((s.each chs State.unlatchCh).chan (8 * g + j)).latched) then s.each chs State.unlatchCh
    else ((s.each chs State.unlatchCh).updGroup g (fun x => { x with fault := false })).each (List.range 8)
      (fun s j => s.unlatchCh (8 * g + j)) := rfl

theorem State.unlatchCh_latches (s : State) (ch : Nat) : (s.unlatchCh ch).latches = s.latches.set ch false := by
  rw [State.unlatchCh, State.updCtx_latches, State.updChan_latches_set]
  exact fun _ => rfl

theorem State.unlatchCh_not_isLatched (s : State) (ch : Nat) : ¬ (s.unlatchCh ch).isLatched ch := by
  simp [State.isLatched, State.unlatchCh_latches, List.getElem?_set]

/-- A release latches no channel. -/
theorem State.isLatched.of_unlatchCh {s : State} {j ch : Nat} (h : (s.unlatchCh j).isLatched ch) : s.isLatched ch := by
  rw [State.isLatched, State.unlatchCh_latches, List.getElem?_set] at h
  split at h
  · split at h <;> simp at h
  · exact h

theorem State.unlatch_latched (s : State) (g : Nat) {chs : List Nat} {ch : Nat} (hch : ch ∈ chs) :
    ((s.unlatch g chs).chan ch).latched = false := by
  have hkeeps (u : State) (j : Nat) (hu : ¬ u.isLatched ch) : ¬ (u.unlatchCh j).isLatched ch :=
    fun h => hu h.of_unlatchCh
  have hreleased : ¬ (s.each chs State.unlatchCh).isLatched ch :=
    State.each_makes (I := fun _ => True) (P := fun u => ¬ u.isLatched ch) hch (fun _ _ _ => trivial)
      (fun u _ => u.unlatchCh_not_isLatched ch) hkeeps trivial
  rw [← Bool.not_eq_true, ← State.isLatched_iff, State.unlatch_eq]
  split
  · exact hreleased
  · exact State.each_keeps (P := fun u => ¬ u.isLatched ch) (fun u j hu => hkeeps u _ hu) _ hreleased

/-- What an update of a channel keeps of it, it keeps of every channel. -/
theorem State.chan_updChan_keeps {β : Type} {p : Chan → β} {f : Chan → Chan} (hf : ∀ c, p (f c) = p c) (s : State)
    (ch j : Nat) : p ((s.updChan ch f).chan j) = p (s.chan j) := by
  simp only [State.chan, State.updChan, List.getD_eq_getElem?_getD, List.getElem?_modify]
  cases s.valves.ch[j]? with
  | none => rfl
  | some c => by_cases h : ch = j <;> simp [h, hf]

theorem State.unlatchCh_testedAt (s : State) (ch j : Nat) : ((s.unlatchCh ch).chan j).testedAt = (s.chan j).testedAt := by
  refine (State.chan_updChan_keeps (p := Chan.testedAt) ?_ _ ch j).trans
    (State.chan_updChan_keeps (p := Chan.testedAt) ?_ s ch j)
  · exact fun _ => rfl
  · exact fun _ => rfl

theorem State.unlatch_testedAt (s : State) (g : Nat) (chs : List Nat) (j : Nat) :
    ((s.unlatch g chs).chan j).testedAt = (s.chan j).testedAt := by
  have heach := State.each_induct (fun u : State => (u.chan j).testedAt) (fun u ch => u.unlatchCh_testedAt ch j) s chs
  rw [State.unlatch_eq]
  split
  · exact heach
  · rw [State.each_induct (fun u : State => (u.chan j).testedAt) fun u i => u.unlatchCh_testedAt _ j]
    exact heach

/-! ### The ends of a clear and of a test on demand (R209, R211) -/

/-- `t` differs from `s` in the valves, and in what Saggar has detected, at most. -/
def ValvesSagOnly (s t : State) : Prop := t = { s with valves := t.valves, sag := t.sag }

theorem ValvesSagOnly.trans {s t u : State} (hst : ValvesSagOnly s t) (htu : ValvesSagOnly t u) : ValvesSagOnly s u := by
  rw [ValvesSagOnly] at hst htu ⊢
  rw [htu, hst]

theorem ChansOnly.valvesSagOnly {s t : State} (h : ChansOnly s t) : ValvesSagOnly s t := by
  obtain ⟨h, -⟩ := h
  rw [ValvesSagOnly, h]

theorem State.unlatchCh_valvesSagOnly (s : State) (ch : Nat) : ValvesSagOnly s (s.unlatchCh ch) := rfl

theorem State.each_unlatchCh_valvesSagOnly (s : State) {α : Type} (l : List α) (ch : α → Nat) :
    ValvesSagOnly s (s.each l fun u x => u.unlatchCh (ch x)) :=
  State.each_keeps (P := ValvesSagOnly s) (fun u _ hu => hu.trans (u.unlatchCh_valvesSagOnly _)) l rfl

theorem State.updGroup_valvesSagOnly (s : State) (g : Nat) (f : Group → Group) : ValvesSagOnly s (s.updGroup g f) := rfl

theorem State.unlatch_valvesSagOnly (s : State) (g : Nat) (chs : List Nat) : ValvesSagOnly s (s.unlatch g chs) := by
  have hreleased : ValvesSagOnly s (s.each chs State.unlatchCh) := s.each_unlatchCh_valvesSagOnly chs id
  rw [State.unlatch_eq]
  split
  · exact hreleased
  · exact (hreleased.trans (State.updGroup_valvesSagOnly _ g _)).trans (State.each_unlatchCh_valvesSagOnly _ _ _)

theorem State.settle_valvesSagOnly (s : State) (k : Nat) : ValvesSagOnly s (s.settle k) := by
  unfold State.settle
  split <;> rfl

theorem State.chan_of_valves {s t : State} (h : t.valves = s.valves) (ch : Nat) : t.chan ch = s.chan ch := by
  rw [State.chan, h, State.chan]

theorem State.finish_chan (s : State) (w : Waiting) (st : Status) (res : BitVec 128) (ch : Nat) :
    (s.finish w st res).chan ch = s.chan ch := State.chan_of_valves (by simp only [State.finish_keeps]) ch

theorem State.settle_chan (s : State) (k ch : Nat) : (s.settle k).chan ch = s.chan ch :=
  State.chan_of_valves (by simp only [State.settle_keeps]) ch

/-- A command finishes on what is left of the machine, whatever the valves and Saggar hold. -/
theorem ValvesSagOnly.finish {s t : State} (h : ValvesSagOnly s t) (w : Waiting) (st : Status) (res : BitVec 128) :
    t.finish w st res
      = ({ s with valves := (t.finish w st res).valves, sag := (t.finish w st res).sag } : State).finish w st res := by
  simp only [State.finish_keeps]
  rw [← h]

/-- What a clear whose tests find nothing leaves: the named channels released, and the classes settled. -/
def State.cleared (s : State) (g : Nat) (mask : BitVec 8) (cs : List Nat) : State :=
  (((s.testRound g cs).unlatch g (namedCh g mask)).settle 6).settle 7

section TestsDone

variable {s : State} {g d : Nat} {h : Hdr} {mask : BitVec 8} {codes : List Nat} {w : Waiting}

theorem State.valveClearDone_clean (hw : s.waitingFor 0x41 = some w) (hcmd : w.cmd = .valveClear d h g mask)
    (hclean : ∀ c ∈ s.testCodes g mask codes, c = 0 ∨ c = 5) : s.valveClearDone codes
      = (s.cleared g mask (s.testCodes g mask codes)).finish w .ok (codesRes (s.testCodes g mask codes)) := by
  simp only [State.valveClearDone, hw, hcmd, contains_four_of_clean hclean, any_finding_of_clean hclean, Bool.false_and,
    Bool.false_eq_true, if_false]
  rfl

theorem State.valveClearDone_found (hw : s.waitingFor 0x41 = some w) (hcmd : w.cmd = .valveClear d h g mask)
    (hfound : ∃ c ∈ s.testCodes g mask codes, 1 ≤ c ∧ c ≤ 3) : s.valveClearDone codes
      = (s.testRound g (s.testCodes g mask codes)).finish w .faultHeld (codesRes (s.testCodes g mask codes)) := by
  have hany : (s.testCodes g mask codes).any (fun c => 1 ≤ c && c ≤ 3) = true := by simpa using hfound
  simp only [State.valveClearDone, hw, hcmd, hany, Bool.not_true, Bool.and_false, Bool.false_and]
  rfl

theorem State.valveDiagDone_clean (hw : s.waitingFor 0x43 = some w) (hcmd : w.cmd = .valveDiagNow d h g mask)
    (hclean : ∀ c ∈ s.testCodes g mask codes, c = 0 ∨ c = 5) : s.valveDiagDone codes
      = (s.testRound g (s.testCodes g mask codes)).finish w .ok (codesRes (s.testCodes g mask codes)) := by
  simp only [State.valveDiagDone, hw, hcmd, contains_four_of_clean hclean]
  rfl

theorem State.cleared_valvesSagOnly (hclean : ∀ c ∈ s.testCodes g mask codes, c = 0 ∨ c = 5) :
    ValvesSagOnly s (s.cleared g mask (s.testCodes g mask codes)) :=
  (((State.testRound_chansOnly hclean s g).valvesSagOnly.trans (State.unlatch_valvesSagOnly ..)).trans
    (State.settle_valvesSagOnly _ 6)).trans (State.settle_valvesSagOnly _ 7)

/-- A named channel is released, its test made now. -/
theorem State.cleared_named (hclean : ∀ c ∈ s.testCodes g mask codes, c = 0 ∨ c = 5) {ch : Nat}
    (hch : ch ∈ namedCh g mask) (hlen : ch < s.valves.ch.length) :
    ((s.cleared g mask (s.testCodes g mask codes)).chan ch).latched = false
      ∧ ((s.cleared g mask (s.testCodes g mask codes)).chan ch).testedAt = some s.now := by
  rw [State.cleared, State.settle_chan, State.settle_chan]
  refine ⟨State.unlatch_latched _ g hch, (State.unlatch_testedAt ..).trans ?_⟩
  obtain ⟨j, hj, hm, rfl⟩ := mem_namedCh.1 hch
  exact State.testRound_testedAt hclean s hj (s.testCodes_named_clean g codes hj hm hclean) hlen

end TestsDone

section TestsDoneRow

variable {s : State} {dt g d : Nat} {h : Hdr} {mask : BitVec 8} {codes : List Nat} {w : Waiting}

theorem execValveClearComplete_clean (hw : s.waitingFor 0x41 = some w) (hcmd : w.cmd = .valveClear d h g mask)
    (hclean : ∀ c ∈ (s.advance dt).testCodes g mask codes, c = 0 ∨ c = 5) :
    Completes (.valveClearComplete dt codes) s (fun t =>
      t = ({ s.advance dt with valves := t.valves, sag := t.sag } : State).finish w .ok
        (codesRes ((s.advance dt).testCodes g mask codes))
      ∧ (∀ ch ∈ namedCh g mask, ch < s.valves.ch.length →
          (t.chan ch).latched = false ∧ (t.chan ch).testedAt = some (s.advance dt).now)) := by
  refine ⟨_, congrArg Host.Outcome.next (State.valveClearDone_clean (s := s.advance dt) hw hcmd hclean),
    (State.cleared_valvesSagOnly hclean).finish .., fun ch hch hlen => ?_⟩
  rw [State.finish_chan]
  exact State.cleared_named hclean hch hlen

theorem execValveClearComplete_found (hw : s.waitingFor 0x41 = some w) (hcmd : w.cmd = .valveClear d h g mask)
    (hfound : ∃ c ∈ (s.advance dt).testCodes g mask codes, 1 ≤ c ∧ c ≤ 3) :
    Completes (.valveClearComplete dt codes) s (fun t =>
      t = ((s.advance dt).testRound g ((s.advance dt).testCodes g mask codes)).finish w .faultHeld
        (codesRes ((s.advance dt).testCodes g mask codes))
      ∧ (∀ j < 8, 1 ≤ ((s.advance dt).testCodes g mask codes).getD j 5 →
          ((s.advance dt).testCodes g mask codes).getD j 5 ≤ 3 → 8 * g + j < s.valves.ch.length →
          (t.chan (8 * g + j)).latched = true)
      ∧ t.host.outstanding = s.host.outstanding.filter (fun x => !w.same x) ∧ t.dev = s.dev) := by
  refine ⟨_, congrArg Host.Outcome.next (State.valveClearDone_found (s := s.advance dt) hw hcmd hfound), rfl,
    fun j hj h1 h3 hlen => ?_, ?_, ?_⟩
  · rw [State.finish_chan]
    exact State.isLatched_iff.1 (State.testRound_isLatched _ hj h1 h3 hlen)
  · rw [State.finish_outstanding, State.testRound_outstanding]
    simp
  · simp [State.testRound_dev]

theorem execValveDiagNowComplete_clean (hw : s.waitingFor 0x43 = some w) (hcmd : w.cmd = .valveDiagNow d h g mask)
    (hclean : ∀ c ∈ (s.advance dt).testCodes g mask codes, c = 0 ∨ c = 5) :
    Completes (.valveDiagNowComplete dt codes) s (fun t =>
      (∀ j < 8, ((s.advance dt).testCodes g mask codes).getD j 5 = 0 → 8 * g + j < s.valves.ch.length →
        (t.chan (8 * g + j)).testedAt = some (s.advance dt).now)
      ∧ t.dev = s.dev ∧ t.flash = s.flash) := by
  refine ⟨_, congrArg Host.Outcome.next (State.valveDiagDone_clean (s := s.advance dt) hw hcmd hclean),
    fun j hj hc hlen => ?_, ?_, ?_⟩
  · rw [State.finish_chan]
    exact State.testRound_testedAt hclean _ hj hc hlen
  · simp [State.testRound_dev]
  · obtain ⟨hround, -⟩ := State.testRound_chansOnly hclean (s.advance dt) g
    rw [(State.finish_keeps ..).2.2.2.2.2.2.2.1, hround]
    rfl

end TestsDoneRow

/-! ### Effects on the channels that a command names -/

/-- Steps on the channels leave all but the valves as it is. -/
theorem ChansOnly.valves_only {s t : State} (h : ChansOnly s t) : t = { s with valves := t.valves } := by
  obtain ⟨h, -⟩ := h
  rw [h]

/-! ### A delay reset (R199, R211) -/

/-- A channel's misses are counted anew. -/
def State.resetMisses (s : State) (ch : Nat) : State := s.updChan ch (fun c => { c with missOn := 0, missOff := 0 })

theorem State.resetMisses_misses (s : State) {ch : Nat} (h : ch < s.valves.ch.length) :
    ((s.resetMisses ch).chan ch).missOn = 0 ∧ ((s.resetMisses ch).chan ch).missOff = 0 := by
  rw [State.resetMisses, State.chan_updChan_same _ _ h]
  exact ⟨rfl, rfl⟩

/-- Whatever the calibration store holds, the filters start from a channel whose misses are counted anew. -/
theorem State.seedFilters_eq_updChan (s : State) (ch : Nat) :
    ∃ f : Chan → Chan, (∀ c, ((f c).missOn, (f c).missOff) = (c.missOn, c.missOff))
      ∧ s.seedFilters ch = (s.resetMisses ch).updChan ch f := by
  unfold State.seedFilters
  dsimp only
  split
  · refine ⟨_, ?_, rfl⟩
    exact fun _ => rfl
  · refine ⟨_, ?_, rfl⟩
    exact fun _ => rfl

theorem State.seedFilters_own : StepsOwn id State.seedFilters := by
  intro u ch
  obtain ⟨f, -, hf⟩ := u.seedFilters_eq_updChan ch
  rw [hf]
  exact (ChanOnly.updChan ..).trans (.updChan ..)

theorem State.seedFilters_misses (s : State) {ch : Nat} (h : ch < s.valves.ch.length) :
    ((s.seedFilters ch).chan ch).missOn = 0 ∧ ((s.seedFilters ch).chan ch).missOff = 0 := by
  obtain ⟨f, hkeeps, hf⟩ := s.seedFilters_eq_updChan ch
  obtain ⟨hon, hoff⟩ := Prod.mk.inj
    (State.chan_updChan_keeps (p := fun c => (c.missOn, c.missOff)) hkeeps (s.resetMisses ch) ch ch)
  obtain ⟨hon0, hoff0⟩ := s.resetMisses_misses h
  rw [hf]
  exact ⟨hon.trans hon0, hoff.trans hoff0⟩

/-- With no calibration the filters start in the fallback. -/
theorem State.seedFilters_fallback (s : State) {ch : Nat} (h : ch < s.valves.ch.length) (hcal : s.flash.cal = []) :
    ((s.seedFilters ch).chan ch).fallback = true ∧ ((s.seedFilters ch).chan ch).dOn = s.cfgN .defDOn ch * 250
      ∧ ((s.seedFilters ch).chan ch).dOff = s.cfgN .defDOff ch * 250 := by
  have hseed : s.seedFilters ch = (s.resetMisses ch).toFallback ch := by
    simp only [State.seedFilters, State.resetMisses, State.updChan, hcal, List.find?_nil]
  have hlen : ch < (s.resetMisses ch).valves.ch.length := by simpa [State.resetMisses, State.updChan] using h
  rw [hseed, State.toFallback, State.chan_updChan_same _ _ hlen]
  exact ⟨rfl, rfl, rfl⟩

theorem execValveDelayReset_answers {s : State} {dt : Nat} {h : Hdr} {mask : BitVec 96} (ht : Takes s dt 0x42 h)
    (huse : ∀ ch ∈ bitsOf mask, s.inUse ch = true)
    (ho : mask ≠ 0 → s.outputsOf ((bitsOf mask).map Res.valve) = none) :
    Answers (.valveDelayReset dt h mask) 0x42 h s .ok 0 (fun v =>
      (∀ ch ∈ bitsOf mask, ch < s.valves.ch.length → (v.chan ch).missOn = 0 ∧ (v.chan ch).missOff = 0
        ∧ (s.flash.cal = [] → (v.chan ch).fallback = true ∧ (v.chan ch).dOn = s.cfgN .defDOn ch * 250
            ∧ (v.chan ch).dOff = s.cfgN .defDOff ch * 250))
      ∧ v = { (s.advance dt).taken with valves := v.valves }) := by
  refine answers_of_done rfl ht (checks_pass (List.all_eq_true.2 huse) (holder_of_mask ho) _ _) ⟨fun ch hch hlen => ?_,
    (State.seedFilters_own.each_chansOnly ..).valves_only⟩
  obtain ⟨u, ⟨hu, hulen⟩, -, hchan⟩ := State.seedFilters_own.each_self (bitsOf_nodup mask) hch (s.advance dt).taken
  have hlen : ch < u.valves.ch.length := hulen ▸ hlen
  have hflash : u.flash = s.flash := by rw [hu]; rfl
  have hcfgN (f : Fld) : u.cfgN f ch = s.cfgN f ch := by rw [hu]; rfl
  obtain ⟨hon, hoff⟩ := u.seedFilters_misses hlen
  rw [hchan]
  refine ⟨hon, hoff, fun hcal => ?_⟩
  rw [← hcfgN, ← hcfgN]
  exact u.seedFilters_fallback hlen (hflash ▸ hcal)

/-! ### The sequencers' stores and presets (R232, R233) -/

@[simp] theorem leBytes_length (k v : Nat) : (leBytes k v).length = k := by
  induction k generalizing v with
  | zero => rfl
  | succ k ih => simp [leBytes, ih]

theorem flatten_map_leBytes_length {α : Type} (k : Nat) (l : List α) (f : α → Nat) :
    ((l.map fun x => leBytes k (f x)).flatten).length = k * l.length := by
  simp [List.length_flatten, Function.comp_def, Nat.mul_comm]

section SeqRead

variable {s : State} {dt g first n : Nat} {h : Hdr} {a : DWord} (ht : Takes s dt 0x45 h) (hg : g < s.nGrp)
include ht hg

theorem execSeqRead_words (h1 : 1 ≤ n) (hn : first + n ≤ 512) :
    Answers (.seqRead dt h a g false first n) 0x45 h s .ok (resultOf [(128, 32, 4 * n)]) (fun v =>
      v = (s.advance dt).taken.emit (.bytes a (((List.range n).map (fun i =>
        leBytes 4 ((s.group g).store.getD (first + i) 0).toNat)).flatten))) := by
  have hwords : min (max n 1) (512 - first) = n := by omega
  refine answers_of_done rfl ht ((checks_pass (decide_eq_true hg) rfl _ _).trans ?_) rfl
  simp only [hwords, ne_eq, not_true_eq_false, decide_false, Bool.and_false, Bool.false_eq_true, if_false,
    flatten_map_leBytes_length, List.length_range]
  rfl

theorem execSeqRead_headers (hlen : (s.group g).hdrs.length = 16) :
    Answers (.seqRead dt h a g true first n) 0x45 h s .ok (resultOf [(128, 32, 256)])
      (fun v => v = (s.advance dt).taken.emit (.bytes a (((s.group g).hdrs.map (fun x => leBytes 16 x.toNat)).flatten))) := by
  have hbytes : ((((s.advance dt).taken.group g).hdrs.map fun x => leBytes 16 x.toNat).flatten).length = 256 := by
    rw [flatten_map_leBytes_length, show ((s.advance dt).taken.group g).hdrs.length = 16 from hlen]
  refine answers_of_done rfl ht ((checks_pass (decide_eq_true hg) rfl _ _).trans ?_) rfl
  simp only [if_true, hbytes]
  rfl

end SeqRead

/-- The presets of a channel after SEQ_SET_K: those that WHICH names are fixed, the others as they were. -/
def Chan.setK (which en : BitVec 4) (ks : List (BitVec 16)) (c : Chan) : Chan :=
  { c with kover := (List.range 4).map (fun n =>
      if which.getLsbD n then some (en.getLsbD n, (ks.getD n 0).toNat) else c.kover.getD n none) }

theorem Chan.setK_kover (which en : BitVec 4) (ks : List (BitVec 16)) (c : Chan) {n : Nat} (hn : n < 4) :
    (c.setK which en ks).kover.getD n none
      = if which.getLsbD n then some (en.getLsbD n, (ks.getD n 0).toNat) else c.kover.getD n none := by
  simp [Chan.setK, hn]

theorem setK_own (which en : BitVec 4) (ks : List (BitVec 16)) :
    StepsOwn id fun s ch => s.updChan ch (Chan.setK which en ks) := fun _ _ => .updChan ..

theorem execSeqSetK_answers {s : State} {dt g : Nat} {h : Hdr} {mask : BitVec 8} {which en : BitVec 4}
    {ks : List (BitVec 16)} (ht : Takes s dt 0x46 h) (hn : s.namedOk g mask = true)
    (ho : mask ≠ 0 → s.outputsOf ((namedCh g mask).map Res.valve) = none) :
    Answers (.seqSetK dt h g mask which en ks) 0x46 h s .ok 0 (fun v =>
      (∀ ch ∈ namedCh g mask, ch < s.valves.ch.length → ∀ n < 4, (v.chan ch).kover.getD n none =
        if which.getLsbD n then some (en.getLsbD n, (ks.getD n 0).toNat) else (s.chan ch).kover.getD n none)
      ∧ v = { (s.advance dt).taken with valves := v.valves }) := by
  refine answers_of_done rfl ht (checks_pass hn (holder_of_mask ho) _ _) ⟨fun ch hch hlen n hn => ?_,
    ((setK_own which en ks).each_chansOnly ..).valves_only⟩
  obtain ⟨u, ⟨-, hulen⟩, hbefore, hchan⟩ := (setK_own which en ks).each_self (namedCh_nodup g mask) hch
    (s.advance dt).taken
  have hset := hchan.trans (u.chan_updChan_same _ (hulen ▸ hlen))
  have hkover := (congrArg (fun c : Chan => c.kover.getD n none) hset).trans (Chan.setK_kover which en ks _ hn)
  rwa [hbefore] at hkover

/-! ### The obligation -/

/-- Settles O33, each command by itself: the tests of a round keep the latches of those before them, and a clear, a
delay reset and SEQ_SET_K treat each named channel by a step of its own. -/
theorem valveCommands : Obligations.ValveCommands := by
  unfold Obligations.ValveCommands
  refine ⟨fun s dt h g mask hn => ⟨fun ht => ⟨execValveClear_empty hn ht, execValveClear_waits hn ht⟩,
      fun ht => ⟨execValveDiagNow_empty hn ht, execValveDiagNow_waits hn ht⟩⟩,
    fun s dt d g h mask codes w hw hcmd => ⟨execValveClearComplete_clean hw hcmd, execValveClearComplete_found hw hcmd⟩,
    fun s dt h mask ht huse ho => execValveDelayReset_answers ht huse ho,
    fun s dt d g h mask codes w hw hcmd => execValveDiagNowComplete_clean hw hcmd,
    fun s dt h a g first n ht hg h1 hn => execSeqRead_words ht hg h1 hn,
    fun s dt h a g first n ht hg hlen => execSeqRead_headers ht hg hlen,
    fun s dt h g mask which en ks ht hn ho => execSeqSetK_answers ht hn ho⟩

end Sys2Proof.Machine
end

section
/-! The encodings: the sequencer's words (R216), and the commands that CMD descriptors spell (R358, R379, R381). -/

namespace Sys2Proof.Machine

/-! ### The sequencer's words (R216) -/

/-- The table of R216, row by row: word `w` holds the opcode and the fields of the instruction; its other bits are
reserved. The word's width is free, as an encoded word is put together from its fields. -/
def SeqInstr.SpelledBy {n : Nat} (w : BitVec n) : SeqInstr → Prop
  | .src s => w.extractLsb' 20 4 = 0x0#4 ∧ w.extractLsb' 18 2 = s
  | .itgt mode par reg val => w.extractLsb' 20 4 = 0x1#4 ∧ w.extractLsb' 18 2 = mode ∧ w.extractLsb' 16 2 = par
      ∧ w.getLsbD 15 = reg ∧ w.extractLsb' 0 12 = val
  | .waiti le scale cnt thr => w.extractLsb' 20 4 = 0x2#4 ∧ w.getLsbD 19 = le ∧ w.getLsbD 18 = scale
      ∧ w.extractLsb' 12 6 = cnt ∧ w.extractLsb' 0 12 = thr
  | .waitt unit count => w.extractLsb' 20 4 = 0x3#4 ∧ w.extractLsb' 18 2 = unit ∧ w.extractLsb' 0 18 = count
  | .arm det scale cnt => w.extractLsb' 20 4 = 0x4#4 ∧ w.extractLsb' 18 2 = det ∧ w.getLsbD 17 = scale
      ∧ w.extractLsb' 11 6 = cnt
  | .decay mode => w.extractLsb' 20 4 = 0x5#4 ∧ w.extractLsb' 18 2 = mode
  | .mark code evt reg val => w.extractLsb' 20 4 = 0x6#4 ∧ w.extractLsb' 16 4 = code ∧ w.getLsbD 15 = evt
      ∧ w.getLsbD 14 = reg ∧ w.extractLsb' 0 12 = val
  | .jmp addr => w.extractLsb' 20 4 = 0x7#4 ∧ w.extractLsb' 0 9 = addr
  | .jc cond addr => w.extractLsb' 20 4 = 0x8#4 ∧ w.extractLsb' 16 4 = cond ∧ w.extractLsb' 0 9 = addr
  | .loop k reload addr => w.extractLsb' 20 4 = 0x9#4 ∧ w.extractLsb' 18 2 = k ∧ w.getLsbD 17 = reload
      ∧ w.extractLsb' 0 9 = addr
  | .holdw => w.extractLsb' 20 4 = 0xA#4
  | .end_ => w.extractLsb' 20 4 = 0xB#4

/-- Every instruction's word spells it: each field is one of the parts that the word is put together from. -/
theorem encodeSeq_spelled (i : SeqInstr) : i.SpelledBy (encodeSeq i) := by
  have hhigh {a b : Nat} (x : BitVec a) (y : BitVec b) {lo k : Nat} (h : b ≤ lo) :
      (x ++ y).extractLsb' lo k = x.extractLsb' (lo - b) k := BitVec.extractLsb'_append_eq_of_le h
  have hlow {a b : Nat} (x : BitVec a) (y : BitVec b) {lo k : Nat} (h : lo + k ≤ b) :
      (x ++ y).extractLsb' lo k = y.extractLsb' lo k := BitVec.extractLsb'_append_eq_of_add_le h
  cases i with
  | src s =>
    change SeqInstr.SpelledBy (n := 4 + 2 + 18) (0x0#4 ++ s ++ 0#18) _
    simp [-Nat.reduceAdd, SeqInstr.SpelledBy, hhigh, hlow]
  | itgt mode par reg val =>
    change SeqInstr.SpelledBy (n := 4 + 2 + 2 + 1 + 3 + 12) (0x1#4 ++ mode ++ par ++ BitVec.ofBool reg ++ 0#3 ++ val) _
    simp [-Nat.reduceAdd, SeqInstr.SpelledBy, hhigh, hlow, BitVec.getElem_append]
  | waiti le scale cnt thr =>
    change SeqInstr.SpelledBy (n := 4 + 1 + 1 + 6 + 12) (0x2#4 ++ BitVec.ofBool le ++ BitVec.ofBool scale ++ cnt ++ thr) _
    simp [-Nat.reduceAdd, SeqInstr.SpelledBy, hhigh, hlow, BitVec.getElem_append]
  | waitt unit count =>
    change SeqInstr.SpelledBy (n := 4 + 2 + 18) (0x3#4 ++ unit ++ count) _
    simp [-Nat.reduceAdd, SeqInstr.SpelledBy, hhigh, hlow]
  | arm det scale cnt =>
    change SeqInstr.SpelledBy (n := 4 + 2 + 1 + 6 + 11) (0x4#4 ++ det ++ BitVec.ofBool scale ++ cnt ++ 0#11) _
    simp [-Nat.reduceAdd, SeqInstr.SpelledBy, hhigh, hlow, BitVec.getElem_append]
  | decay mode =>
    change SeqInstr.SpelledBy (n := 4 + 2 + 18) (0x5#4 ++ mode ++ 0#18) _
    simp [-Nat.reduceAdd, SeqInstr.SpelledBy, hhigh, hlow]
  | mark code evt reg val =>
    change SeqInstr.SpelledBy (n := 4 + 4 + 1 + 1 + 2 + 12)
      (0x6#4 ++ code ++ BitVec.ofBool evt ++ BitVec.ofBool reg ++ 0#2 ++ val) _
    simp [-Nat.reduceAdd, SeqInstr.SpelledBy, hhigh, hlow, BitVec.getElem_append]
  | jmp addr =>
    change SeqInstr.SpelledBy (n := 4 + 11 + 9) (0x7#4 ++ 0#11 ++ addr) _
    simp [-Nat.reduceAdd, SeqInstr.SpelledBy, hhigh, hlow]
  | jc cond addr =>
    change SeqInstr.SpelledBy (n := 4 + 4 + 7 + 9) (0x8#4 ++ cond ++ 0#7 ++ addr) _
    simp [-Nat.reduceAdd, SeqInstr.SpelledBy, hhigh, hlow]
  | loop k reload addr =>
    change SeqInstr.SpelledBy (n := 4 + 2 + 1 + 8 + 9) (0x9#4 ++ k ++ BitVec.ofBool reload ++ 0#8 ++ addr) _
    simp [-Nat.reduceAdd, SeqInstr.SpelledBy, hhigh, hlow, BitVec.getElem_append]
  | holdw => rfl
  | end_ => rfl

/-- The decoder reads the table: a word spells at most one instruction, and decodes to it unless a field is reserved. -/
theorem decodeSeq_of_spelled {w : BitVec 24} {i : SeqInstr} (hwf : i.wf = true) (h : i.SpelledBy w) :
    decodeSeq w = some i := by
  cases i <;> simp only [SeqInstr.SpelledBy] at h <;> simp [-BitVec.getLsbD_eq_getElem, decodeSeq, h, hwf]

theorem wf_of_decodeSeq {w : BitVec 24} {i : SeqInstr} (h : decodeSeq w = some i) : i.wf = true := by
  unfold decodeSeq at h
  extract_lets j at h
  cases hj : j with
  | none => simp [hj] at h
  | some k =>
    simp only [hj] at h
    split at h
    next hwf => cases h; exact hwf
    next => cases h


theorem decodeSeq_encodeSeq {i : SeqInstr} (hwf : i.wf = true) : decodeSeq (encodeSeq i) = some i :=
  decodeSeq_of_spelled hwf (encodeSeq_spelled i)

/-! ### The commands of the descriptors (R379, R381) -/

/-- A number read from a field of a descriptor lies within the range that the field's width gives. -/
@[simp] theorem cmdField_below (d : Desc) (lo w : Nat) {k : Nat} (hk : 2 ^ w ≤ k) : below (cmdField d lo w) k = true :=
  decide_eq_true ((Nat.mod_lt _ (Nat.two_pow_pos w)).trans_le hk)

theorem decodeLow_wf {d : Desc} {op : Nat} {h : Hdr} {c : Instr} (hc : decodeLow d op h = some c) : c.wf = true := by
  unfold decodeLow at hc
  dsimp only at hc
  split at hc
  all_goals cases hc
  all_goals simp [Instr.wf]

theorem decodeMid_wf {d : Desc} {op : Nat} {h : Hdr} {c : Instr} (hc : decodeMid d op h = some c) : c.wf = true := by
  unfold decodeMid at hc
  dsimp only at hc
  split at hc
  all_goals cases hc
  all_goals simp [Instr.wf]

theorem decodeHigh_wf {d : Desc} {op : Nat} {h : Hdr} {c : Instr} (hc : decodeHigh d op h = some c) : c.wf = true := by
  unfold decodeHigh at hc
  dsimp only at hc
  split at hc
  all_goals cases hc
  all_goals simp [Instr.wf]

/-- An opcode is read in its own part of the table; one that is not assigned gives UNKNOWN_OPCODE, which names nothing
that could be out of range. -/
theorem decodeCmd_wf (d : Desc) : (decodeCmd d).wf = true := by
  have hgetD {o : Option Instr} {h : Hdr} {op : Byte} (ho : ∀ c, o = some c → c.wf = true) :
      (o.getD (.unknownOpcode 0 h op)).wf = true := by
    cases o with
    | none => rfl
    | some c => exact ho c rfl
  refine hgetD fun c hc => ?_
  split at hc
  · exact decodeLow_wf hc
  · split at hc
    · exact decodeMid_wf hc
    · exact decodeHigh_wf hc

/-! ### The obligations -/

/-- Settles O59: the decoder reads, and the encoder writes, the table of R216 row by row; and each operand of a command
is a field of its descriptor. -/
theorem encodingsAgree : Obligations.EncodingsAgree := by
  unfold Obligations.EncodingsAgree
  refine ⟨fun i hwf => decodeSeq_encodeSeq hwf, fun w i hw => ?_, decodeCmd_wf⟩
  have hwf := wf_of_decodeSeq hw
  exact ⟨hwf, decodeSeq_encodeSeq hwf⟩

/-- Settles O60: each word is decoded by itself. -/
theorem decodedWords : Obligations.DecodedWords := by
  unfold Obligations.DecodedWords
  decide +kernel

end Sys2Proof.Machine
end

section
/-! What the operations of one channel change of the others, and of the context itself (R183, R200 to R204, R218, R221). -/

namespace Sys2Proof.Machine

/-! ### Two states that agree in every part -/

theorem State.eq_of_parts {s t : State} (h : t.pending = s.pending ∧ t.free = s.free ∧ t.time = s.time ∧ t.dev = s.dev
    ∧ t.pwr = s.pwr ∧ t.sag = s.sag ∧ t.host = s.host ∧ t.cfg = s.cfg ∧ t.flash = s.flash ∧ t.acts = s.acts
    ∧ t.cnt = s.cnt ∧ t.valves = s.valves ∧ t.tiles = s.tiles ∧ t.planner = s.planner ∧ t.nav = s.nav
    ∧ t.loops = s.loops ∧ t.field = s.field ∧ t.can = s.can) : t = s := by
  cases s
  cases t
  simpa using h

/-! ### The step of one channel -/

/-- A channel with another instant from which its load counts (R206). -/
def Chan.withLoad (c : Chan) (l : Option Nat) : Chan := { c with ctx := { c.ctx with loadFrom := l } }

/-- Noting a load changes a channel in nothing else; a channel that is not there reads as it did. -/
theorem State.noteLoad_chan (s : State) (ch j : Nat) :
    (s.noteLoad ch).chan j = (s.chan j).withLoad ((s.noteLoad ch).ctx j).loadFrom := by
  simp only [State.ctx, State.noteLoad, State.updCtx, State.updChan, State.chan, List.getD_eq_getElem?_getD,
    List.getElem?_modify]
  cases s.valves.ch[j]? with
  | none => rfl
  | some c => by_cases h : ch = j <;> simp [h, Chan.withLoad]

/-- A rail switch that is set changes a channel in nothing but its load. -/
theorem State.setRail_chan (s : State) (g j : Nat) :
    (s.setRail g).chan j = (s.chan j).withLoad ((s.setRail g).ctx j).loadFrom := by
  unfold State.setRail
  refine State.each_keeps (P := fun u => u.chan j = (s.chan j).withLoad (u.ctx j).loadFrom) (fun u i hu => ?_) _ rfl
  rw [u.noteLoad_chan, hu]
  rfl

/-- Between `s` and `t` channel `ch` has taken a step: of the other channels only those of its group have changed, and
only in since when they have a load on a sourced rail; the other groups have not. -/
structure ChanStep (ch : Nat) (s t : State) : Prop where
  chans : t.valves.ch.length = s.valves.ch.length
  groups : t.valves.grp.length = s.valves.grp.length
  quads : t.valves.quad.length = s.valves.quad.length
  chan_of_ne : ∀ j, j ≠ ch → t.chan j = (s.chan j).withLoad (t.ctx j).loadFrom
  chan_of_far : ∀ j, grpOf j ≠ grpOf ch → t.chan j = s.chan j
  group_of_ne : ∀ g, g ≠ grpOf ch → t.group g = s.group g

namespace ChanStep

theorem refl (ch : Nat) (s : State) : ChanStep ch s s :=
  ⟨rfl, rfl, rfl, fun _ _ => rfl, fun _ _ => rfl, fun _ _ => rfl⟩

variable {ch : Nat} {s t u : State}

theorem trans (h : ChanStep ch s t) (h' : ChanStep ch t u) : ChanStep ch s u where
  chans := h'.chans.trans h.chans
  groups := h'.groups.trans h.groups
  quads := h'.quads.trans h.quads
  chan_of_ne j hj := (h'.chan_of_ne j hj).trans (by rw [h.chan_of_ne j hj]; rfl)
  chan_of_far j hj := (h'.chan_of_far j hj).trans (h.chan_of_far j hj)
  group_of_ne g hg := (h'.group_of_ne g hg).trans (h.group_of_ne g hg)

theorem of_valves (h : ChanStep ch s t) (hu : u.valves = t.valves) : ChanStep ch s u := by
  refine h.trans ⟨by rw [hu], by rw [hu], by rw [hu], fun j _ => ?_, fun j _ => ?_, fun g _ => ?_⟩
  · have hj : u.chan j = t.chan j := by rw [State.chan, hu, State.chan]
    rw [State.ctx, hj]
    rfl
  · rw [State.chan, hu, State.chan]
  · rw [State.group, hu, State.group]

theorem updChan (h : ChanStep ch s t) (f : Chan → Chan) : ChanStep ch s (t.updChan ch f) := by
  have hother (j : Nat) (hj : j ≠ ch) : (t.updChan ch f).chan j = t.chan j := t.chan_updChan_of_ne f hj
  refine h.trans ⟨List.length_modify .., rfl, rfl, fun j hj => ?_, fun j hj => hother j fun e => hj (e ▸ rfl),
    fun _ _ => rfl⟩
  rw [State.ctx, hother j hj]
  rfl

theorem updCtx (h : ChanStep ch s t) (f : Ctx → Ctx) : ChanStep ch s (t.updCtx ch f) := h.updChan _

theorem updGroup (h : ChanStep ch s t) (f : Group → Group) : ChanStep ch s (t.updGroup (grpOf ch) f) := by
  refine h.trans ⟨rfl, List.length_modify .., rfl, fun _ _ => rfl, fun _ _ => rfl, fun g hg => ?_⟩
  simp [State.group, State.updGroup, List.getD_eq_getElem?_getD, hg.symm]

theorem updQuad (h : ChanStep ch s t) (q : Nat) (f : Quad → Quad) : ChanStep ch s (t.updQuad q f) :=
  h.trans ⟨rfl, rfl, List.length_modify .., fun _ _ => rfl, fun _ _ => rfl, fun _ _ => rfl⟩

theorem count (h : ChanStep ch s t) (i k : Nat) : ChanStep ch s (t.count i k) := h.of_valves rfl

theorem raise (h : ChanStep ch s t) (code subject : Nat) (data : List (Nat × Nat × Nat)) (urgent : Bool) :
    ChanStep ch s (t.raise code subject data urgent) := h.of_valves (by simp)

theorem report (h : ChanStep ch s t) (c : Nat) (cancelled closing : Bool) :
    ChanStep ch s (t.report c cancelled closing) :=
  h.trans ⟨rfl, rfl, rfl, fun _ _ => rfl, fun _ _ => rfl, fun _ _ => rfl⟩

theorem ite (h : ChanStep ch s t) (h' : ChanStep ch s u) (p : Prop) [Decidable p] :
    ChanStep ch s (if p then t else u) := by
  split
  · exact h
  · exact h'

/-! #### The rail and the regulator (R183, R218) -/

/-- A channel of the group notes its load. -/
theorem noteLoad (h : ChanStep ch s t) {j : Nat} (hj : grpOf j = grpOf ch) : ChanStep ch s (t.noteLoad j) :=
  h.trans ⟨List.length_modify .., rfl, rfl, fun i _ => t.noteLoad_chan j i,
    fun _ hi => t.chan_updChan_of_ne _ fun e => hi (e ▸ hj), fun _ _ => rfl⟩

theorem setRail (h : ChanStep ch s t) : ChanStep ch s (t.setRail (grpOf ch)) := by
  unfold State.setRail State.each
  refine List.foldlRecOn _ _ (h.updGroup _) fun u hu j hj => hu.noteLoad ?_
  rw [List.mem_range] at hj
  change (8 * (ch / 8) + j) / 8 = ch / 8
  omega

theorem noteReg (h : ChanStep ch s t) (b : Nat) : ChanStep ch s (t.noteReg ch b) := by
  unfold State.noteReg
  exact h.updCtx _

theorem watch (h : ChanStep ch s t) (xs : List (Nat × Nat)) : ChanStep ch s (t.watch ch xs) := h.updCtx _

theorem countClamp (h : ChanStep ch s t) : ChanStep ch s (t.countClamp ch) := h.of_valves (by simp)

theorem countPhase (h : ChanStep ch s t) : ChanStep ch s (t.countPhase ch) := (h.updCtx _).ite h.countClamp _

/-! #### The boost claim (R201 to R203) -/

theorem endPhase (h : ChanStep ch s t) (b : Nat) : ChanStep ch s (t.endPhase ch b) := by
  unfold State.endPhase
  dsimp only
  split
  · exact ((((h.updChan _).updQuad _ _).updGroup _).updCtx _).updGroup _
  · exact (h.updCtx _).updGroup _

theorem cutClamp (h : ChanStep ch s t) : ChanStep ch s (t.cutClamp ch) := by
  refine ite ?_ h _
  have hfree : ChanStep ch s t.takeFree.2 := h.of_valves rfl
  exact (hfree.updQuad _ _).updCtx _

theorem grantClaim (h : ChanStep ch s t) (b : Nat) : ChanStep ch s (t.grantClaim ch b) :=
  (((h.updGroup _).updCtx _).noteReg _).setRail.countPhase

theorem refuseClaim (h : ChanStep ch s t) (b : Nat) : ChanStep ch s (t.refuseClaim ch b) :=
  (((h.updGroup _).updCtx _).noteReg _).setRail.countPhase

theorem askClaim (h : ChanStep ch s t) (b : Nat) : ChanStep ch s (t.askClaim ch b) := by
  have hasked := h.updCtx fun c => { c with claimAt := some b }
  exact (hasked.refuseClaim b).ite ((hasked.grantClaim b).ite
    ((hasked.refuseClaim b).ite (((hasked.updCtx _).noteReg b).updGroup _).setRail _) _) _

/-! #### Outcomes (R196 to R200, R221) -/

theorem toFallback (h : ChanStep ch s t) : ChanStep ch s (t.toFallback ch) := h.updChan _

theorem missed (h : ChanStep ch s t) (closing : Bool) : ChanStep ch s (t.missed ch closing) :=
  ((h.updChan _).toFallback.raise ..).ite (h.updChan _) _

theorem judge (h : ChanStep ch s t) : ChanStep ch s (t.judge ch) := by
  unfold State.judge
  dsimp only
  (repeat' split)
  · exact h
  · exact (h.updChan _).raise ..
  · exact h.updChan _
  · exact h.updChan _

theorem decideOpen_miss (h : ChanStep ch s t) (b : Nat) : ChanStep ch s (t.decideOpen ch .miss b) :=
  h.ite (((((h.updCtx _).updChan _).missed false).judge).report ..) _

theorem decideClose_miss (h : ChanStep ch s t) (b : Nat) : ChanStep ch s (t.decideClose ch .miss b) :=
  h.ite (((((h.updCtx _).missed true).judge).report ..).updCtx _) _

/-! #### An actuation that ends, and the latch (R208, R221, R228, R443) -/

theorem startDecay (h : ChanStep ch s t) (b : Nat) (clamp : Bool) : ChanStep ch s (t.startDecay ch b clamp) := by
  have hdecay := (h.endPhase b).updCtx
  exact (((hdecay _).decideClose_miss b).ite (hdecay _) _ |>.noteReg b).setRail

theorem noteAct (h : ChanStep ch s t) (b : Nat) : ChanStep ch s (t.noteAct ch b) := h.updChan _

theorem stopActuation (h : ChanStep ch s t) (b : Nat) (clamp : Bool) : ChanStep ch s (t.stopActuation ch b clamp) := by
  unfold State.stopActuation
  dsimp only
  split
  · exact (((h.decideOpen_miss b).startDecay b clamp).noteAct b).updCtx _
  · exact (((h.updCtx _).startDecay b clamp).noteAct b).updCtx _
  · exact ((h.startDecay b clamp).noteAct b).updCtx _

theorem cancelOn (h : ChanStep ch s t) (b : Nat) : ChanStep ch s (t.cancelOn ch b) := by
  have hreported (r : Report) : ChanStep ch s { t.endPhase ch b with
      valves := { (t.endPhase ch b).valves with reports := (t.endPhase ch b).valves.reports ++ [r] } } :=
    (h.endPhase b).trans ⟨rfl, rfl, rfl, fun _ _ => rfl, fun _ _ => rfl, fun _ _ => rfl⟩
  exact ((hreported _).updCtx _).setRail

theorem clampDecay (h : ChanStep ch s t) : ChanStep ch s (t.clampDecay ch) := (h.updCtx _).setRail

theorem forceOff (h : ChanStep ch s t) : ChanStep ch s (t.forceOff ch) := by
  unfold State.forceOff
  dsimp only
  split
  · exact h.stopActuation _ true
  · exact h.stopActuation _ true
  · exact (h.stopActuation _ true).ite (h.cancelOn _) _
  · exact (h.cancelOn _).clampDecay
  · exact (h.updCtx _).clampDecay
  · exact (h.updCtx _).clampDecay
  · exact h
  · exact h

theorem latchCh (h : ChanStep ch s t) (finding : Nat) : ChanStep ch s (t.latchCh ch finding) :=
  ((h.forceOff.updChan _).updCtx _).setRail

end ChanStep

/-! ### A context after an operation of its channel -/

theorem State.ctx_updCtx_same (s : State) {ch : Nat} (f : Ctx → Ctx) (h : ch < s.valves.ch.length) :
    (s.updCtx ch f).ctx ch = f (s.ctx ch) := by
  rw [State.ctx_updCtx s ch ch f h, if_pos rfl]

@[simp] theorem State.updCtx_chans (s : State) (ch : Nat) (f : Ctx → Ctx) :
    (s.updCtx ch f).valves.ch.length = s.valves.ch.length := List.length_modify ..

/-- A change of a channel beside its context. -/
@[simp] theorem State.updChan_ctx (s : State) (ch j : Nat) (f : Chan → Chan) (hf : ∀ c, (f c).ctx = c.ctx) :
    (s.updChan ch f).ctx j = s.ctx j := by
  simp only [State.ctx, State.chan, State.updChan, List.getD_eq_getElem?_getD, List.getElem?_modify]
  cases s.valves.ch[j]? with
  | none => rfl
  | some c => by_cases h : ch = j <;> simp [h, hf]

theorem State.ctx_of_valves {s t : State} (h : t.valves = s.valves) (j : Nat) : t.ctx j = s.ctx j := by
  rw [State.ctx, State.chan, h, State.ctx, State.chan]

@[simp] theorem State.ite_ctx (p : Prop) [Decidable p] (s t : State) (j : Nat) :
    (if p then s else t).ctx j = if p then s.ctx j else t.ctx j := apply_ite (fun u : State => u.ctx j) p s t

@[simp] theorem State.raise_ctx (s : State) (code subject : Nat) (data : List (Nat × Nat × Nat)) (urgent : Bool) (j : Nat) :
    (s.raise code subject data urgent).ctx j = s.ctx j := State.ctx_of_valves (by simp) j

@[simp] theorem State.countClamp_ctx (s : State) (ch j : Nat) : (s.countClamp ch).ctx j = s.ctx j :=
  State.ctx_of_valves (by simp) j

@[simp] theorem State.updGroup_ctx (s : State) (g j : Nat) (f : Group → Group) : (s.updGroup g f).ctx j = s.ctx j := rfl

/-- The end of a boost-sourced phase, or of a wait for one, in the context. -/
def Ctx.phaseEnded (c : Ctx) (b : Nat) : Ctx :=
  { c with granted := false, phaseAt := none
           phaseLen := match c.phaseAt with | some p => some (b - p) | none => c.phaseLen }

theorem State.endPhase_ctx (s : State) {ch : Nat} (b : Nat) (h : ch < s.valves.ch.length) :
    (s.endPhase ch b).ctx ch = (s.ctx ch).phaseEnded b := by
  unfold State.endPhase
  dsimp only
  rw [State.updGroup_ctx]
  split
  · refine (State.ctx_updCtx_same _ _ ?_).trans ?_
    · exact (List.length_modify ..).symm ▸ h
    · exact congrArg (Ctx.phaseEnded · b) (s.updChan_ctx ch ch _ fun _ => rfl)
  · exact s.ctx_updCtx_same _ h

/-- What a program steers in a context: all but what the regulator, the watch on its load, a reading of the reservoir and
the count of TARGET_CLAMPED have noted. -/
def Ctx.steered (c : Ctx) : Ctx :=
  { c with regs := [], chop := {}, loadFrom := none, turned := false, clampDone := false }

/-- An update that changes nothing of it. -/
theorem State.updCtx_steered (s : State) (ch j : Nat) {f : Ctx → Ctx} (hf : ∀ c, (f c).steered = c.steered) :
    ((s.updCtx ch f).ctx j).steered = (s.ctx j).steered := by
  simp only [State.ctx, State.chan, State.updCtx, State.updChan, List.getD_eq_getElem?_getD, List.getElem?_modify]
  cases s.valves.ch[j]? with
  | none => rfl
  | some c => by_cases h : ch = j <;> simp [h, hf]

@[simp] theorem State.noteReg_steered (s : State) (ch b j : Nat) : ((s.noteReg ch b).ctx j).steered = (s.ctx j).steered := by
  unfold State.noteReg
  exact s.updCtx_steered ch j fun _ => rfl

@[simp] theorem State.noteLoad_steered (s : State) (ch j : Nat) : ((s.noteLoad ch).ctx j).steered = (s.ctx j).steered :=
  s.updCtx_steered ch j fun _ => rfl

@[simp] theorem State.setRail_steered (s : State) (g j : Nat) : ((s.setRail g).ctx j).steered = (s.ctx j).steered := by
  unfold State.setRail
  exact State.each_induct (fun u : State => (u.ctx j).steered) (fun u i => u.noteLoad_steered _ j) _ _

@[simp] theorem State.countPhase_steered (s : State) (ch j : Nat) :
    ((s.countPhase ch).ctx j).steered = (s.ctx j).steered := by
  unfold State.countPhase
  split
  · exact s.updCtx_steered ch j fun _ => rfl
  · rw [State.countClamp_ctx]

@[simp] theorem State.cutClamp_steered (s : State) (ch j : Nat) : ((s.cutClamp ch).ctx j).steered = (s.ctx j).steered := by
  unfold State.cutClamp
  split
  · exact State.updCtx_steered _ ch j fun _ => rfl
  · rfl

@[simp] theorem State.readRes_steered (s : State) (q mv j : Nat) :
    ((s.readRes q mv).ctx j).steered = (s.ctx j).steered := by
  unfold State.readRes
  dsimp only
  split
  · refine State.each_induct (fun u : State => (u.ctx j).steered) (fun u i => u.updCtx_steered _ j fun c => ?_) _ _
    split <;> rfl
  · rfl

/-! #### Outcomes and the decay (R196, R221, R229) -/

@[simp] theorem State.toFallback_ctx (s : State) (ch j : Nat) : (s.toFallback ch).ctx j = s.ctx j :=
  s.updChan_ctx ch j _ fun _ => rfl

@[simp] theorem State.missed_ctx (s : State) (ch j : Nat) (closing : Bool) : (s.missed ch closing).ctx j = s.ctx j := by
  unfold State.missed
  extract_lets t c
  have ht : t.ctx j = s.ctx j := s.updChan_ctx ch j _ fun c => by split <;> rfl
  simp only [State.ite_ctx, State.raise_ctx, State.toFallback_ctx, ht, ite_self]

@[simp] theorem State.judge_ctx (s : State) (ch j : Nat) : (s.judge ch).ctx j = s.ctx j := by
  unfold State.judge
  dsimp only
  (repeat' split) <;> simp

@[simp] theorem State.report_ctx (s : State) (ch j : Nat) (cancelled closing : Bool) :
    (s.report ch cancelled closing).ctx j = s.ctx j := rfl

/-- An opening that is decided MISS, unless it is decided or no actuation is under way. -/
def Ctx.openMissed (c : Ctx) (stamp : Nat) : Ctx :=
  if c.openOut.isSome || !c.act then c
  else { c with openOut := some .miss, openMt := stamp, openWin := none, confirm := false, act := c.closeOut.isNone }

theorem State.decideOpen_miss_ctx (s : State) {ch : Nat} (b : Nat) (h : ch < s.valves.ch.length) :
    (s.decideOpen ch .miss b).ctx ch = (s.ctx ch).openMissed b := by
  unfold State.decideOpen Ctx.openMissed
  dsimp only
  split
  · rfl
  · rw [State.report_ctx, State.judge_ctx, State.missed_ctx, State.updChan_ctx, State.ctx_updCtx_same _ _ h]
    · simp
    · intro c
      (repeat' split) <;> rfl

/-- A closing that is decided MISS, unless it is decided or no actuation is under way. -/
def Ctx.closeMissed (c : Ctx) (stamp : Nat) : Ctx :=
  if c.closeOut.isSome || !c.act then c
  else { c with closeOut := some .miss, closeMt := stamp, closeWin := none, closeArm := none
                act := c.openOut.isNone || c.confirm }

theorem State.decideClose_miss_ctx (s : State) {ch : Nat} (b : Nat) (h : ch < s.valves.ch.length) :
    (s.decideClose ch .miss b).ctx ch = (s.ctx ch).closeMissed b := by
  have hlen := (((((ChanStep.refl ch s).updCtx fun c => { c with
    closeOut := some .miss, closeMt := b, closeWin := none, closeArm := none }).missed true).judge).report
      ch false true).chans
  unfold State.decideClose Ctx.closeMissed
  dsimp only
  split
  · rfl
  · rw [State.ctx_updCtx_same _ _ (hlen ▸ h), State.report_ctx, State.judge_ctx, State.missed_ctx,
      State.ctx_updCtx_same _ _ h]

/-- A context whose coil decays since `b`, with nothing conducting, and SELF_END as `e` has it. -/
def Ctx.decaysFrom (b : Nat) (e : Bool) (c : Ctx) : Prop :=
  c.decaying = true ∧ c.conductAt = none ∧ c.offMt = some b ∧ c.selfEnd = e

theorem Ctx.decaysFrom.closeMissed {b : Nat} {e : Bool} {c : Ctx} (h : c.decaysFrom b e) (m : Nat) :
    (c.closeMissed m).decaysFrom b e := by
  unfold Ctx.closeMissed
  split <;> exact h

theorem Ctx.decaysFrom.of_steered {b : Nat} {e : Bool} {c d : Ctx} (h : c.decaysFrom b e) (hs : d.steered = c.steered) :
    d.decaysFrom b e := by
  obtain ⟨hd, hc, ho, he⟩ := h
  exact ⟨(congrArg Ctx.decaying hs).trans hd, (congrArg Ctx.conductAt hs).trans hc, (congrArg Ctx.offMt hs).trans ho,
    (congrArg Ctx.selfEnd hs).trans he⟩

theorem State.startDecay_decaysFrom (s : State) {ch : Nat} (b : Nat) (clamp : Bool) (h : ch < s.valves.ch.length) :
    ((s.startDecay ch b clamp).ctx ch).decaysFrom b (s.ctx ch).selfEnd := by
  have hlen : ch < (s.endPhase ch b).valves.ch.length := ((ChanStep.refl ch s).endPhase b).chans ▸ h
  have hended : ((s.endPhase ch b).ctx ch).selfEnd = (s.ctx ch).selfEnd := by rw [s.endPhase_ctx b h]; rfl
  unfold State.startDecay
  extract_lets c s1 s2 s3
  have hlen2 : ch < s2.valves.ch.length := (s1.updCtx_chans ch _).symm ▸ hlen
  have h2 : (s2.ctx ch).decaysFrom b (s.ctx ch).selfEnd := by
    rw [State.ctx_updCtx_same s1 _ hlen]
    exact ⟨rfl, rfl, rfl, hended⟩
  have h3 : (s3.ctx ch).decaysFrom b (s.ctx ch).selfEnd := by
    unfold s3
    split
    · rw [State.decideClose_miss_ctx s2 b hlen2]
      exact h2.closeMissed b
    · exact h2
  clear_value s3
  exact h3.of_steered (by simp)

/-! ### The latch (R208) -/

theorem State.chLatched.of_withLoad {s t : State} {ch finding : Nat} {l : Option Nat} (h : s.chLatched ch finding)
    (ht : t.chan ch = (s.chan ch).withLoad l) : t.chLatched ch finding := by
  rw [State.chLatched, State.ctx, ht]
  exact h

theorem State.chLatched.of_valves {s t : State} {ch finding : Nat} (h : s.chLatched ch finding)
    (ht : t.valves = s.valves) : t.chLatched ch finding := by
  rwa [State.chLatched, State.ctx, State.chan, ht]

theorem State.latchCh_chLatched (s : State) {ch : Nat} (h : ch < s.valves.ch.length) (finding : Nat) :
    (s.latchCh ch finding).chLatched ch finding := by
  unfold State.latchCh
  extract_lets s1 s2 s3
  have h1 : ch < s1.valves.ch.length := (ChanStep.refl ch s).forceOff.chans ▸ h
  have h2 : ch < s2.valves.ch.length := (ChanStep.refl ch s1).updChan _ |>.chans ▸ h1
  have h3 : s3.chLatched ch finding := by
    have hch : s3.chan ch = { s2.chan ch with ctx := { (s2.chan ch).ctx with st := .latched } } :=
      s2.chan_updChan_same _ h2
    have hch2 : s2.chan ch = _ := s1.chan_updChan_same _ h1
    rw [State.chLatched, State.ctx, hch, hch2]
    exact ⟨rfl, rfl, rfl⟩
  exact h3.of_withLoad (s3.setRail_chan _ ch)

/-- What the others keep and one step of its own makes is there after all the steps. -/
theorem State.each_once {α : Type} {I P : State → Prop} {f : State → α → State} {x : α} {l : List α} (hl : l.Nodup)
    (hx : x ∈ l) (hI : ∀ u y, y ≠ x → I u → I (f u y)) (hmakes : ∀ u, I u → P (f u x))
    (hkeeps : ∀ u y, y ≠ x → P u → P (f u y)) {s : State} (hs : I s) : P (s.each l f) := by
  have hrest {l : List α} (hxl : x ∉ l) {u : State} (hu : P u) : P (u.each l f) := by
    induction l generalizing u with
    | nil => exact hu
    | cons y l ih =>
      rw [List.mem_cons, not_or] at hxl
      obtain ⟨hne, hxl⟩ := hxl
      exact ih hxl (hkeeps u y (Ne.symm hne) hu)
  induction l generalizing s with
  | nil => simp at hx
  | cons y l ih =>
    obtain ⟨hy, hl⟩ := List.nodup_cons.1 hl
    by_cases hyx : y = x
    · subst hyx
      exact hrest hy (hmakes s hs)
    · exact ih hl ((List.mem_cons.1 hx).resolve_left fun e => hyx e.symm) (hI s y hyx hs)

/-- The channels `8 * g + j` latched one after the other. -/
def State.latchEach (s : State) (g finding : Nat) (l : List Nat) : State :=
  s.each l fun u j => u.latchCh (8 * g + j) finding

theorem State.latchEach_chans (s : State) (g finding : Nat) (l : List Nat) :
    (s.latchEach g finding l).valves.ch.length = s.valves.ch.length :=
  State.each_keeps (P := fun u => u.valves.ch.length = s.valves.ch.length)
    (fun u j hu => (((ChanStep.refl (8 * g + j) u).latchCh finding).chans).trans hu) l rfl

theorem State.latchEach_groups (s : State) (g finding : Nat) (l : List Nat) :
    (s.latchEach g finding l).valves.grp.length = s.valves.grp.length :=
  State.each_keeps (P := fun u => u.valves.grp.length = s.valves.grp.length)
    (fun u j hu => (((ChanStep.refl (8 * g + j) u).latchCh finding).groups).trans hu) l rfl

/-- Each channel is latched by its own step, and stays so over the steps of the others. -/
theorem State.latchEach_chLatched (s : State) {g j : Nat} {l : List Nat} (hl : l.Nodup) (hj : j ∈ l)
    (h : 8 * g + j < s.valves.ch.length) (finding : Nat) :
    (s.latchEach g finding l).chLatched (8 * g + j) finding := by
  unfold State.latchEach
  refine State.each_once (I := fun u => 8 * g + j < u.valves.ch.length) (P := fun u => u.chLatched (8 * g + j) finding)
    hl hj ?before ?own ?after h
  case before => exact fun u i _ hu => hu.trans_eq ((ChanStep.refl (8 * g + i) u).latchCh finding).chans.symm
  case own => exact fun u hu => u.latchCh_chLatched hu finding
  case after =>
    exact fun u i hi hu => hu.of_withLoad (((ChanStep.refl (8 * g + i) u).latchCh finding).chan_of_ne _ (by omega))

/-- A group whose channels are latched, its rail opened and its claim ended. -/
theorem State.updGroup_grpLatched {t : State} {g finding : Nat} (hg : g < t.valves.grp.length)
    (h : ∀ j < 8, 8 * g + j < t.valves.ch.length → t.chLatched (8 * g + j) finding) :
    (t.updGroup g fun x => { x with fault := true, rail := 0, holder := none, queue := [] }).grpLatched g finding := by
  refine ⟨h, ?_⟩
  rw [State.group_updGroup t g g _ hg, if_pos rfl]
  exact ⟨rfl, rfl, rfl, rfl⟩

theorem State.latchGroup_eq (s : State) (g finding : Nat) : s.latchGroup g finding
    = (s.latchEach g finding (List.range 8)).updGroup g
      fun x => { x with fault := true, rail := 0, holder := none, queue := [] } := rfl

theorem State.latchGroup_grpLatched (s : State) {g : Nat} (hg : g < s.valves.grp.length) (finding : Nat) :
    (s.latchGroup g finding).grpLatched g finding := by
  rw [State.latchGroup_eq]
  refine State.updGroup_grpLatched (hg.trans_eq (s.latchEach_groups g finding _).symm) fun j hj h => ?_
  rw [State.latchEach_chans] at h
  exact s.latchEach_chLatched List.nodup_range (List.mem_range.2 hj) h finding

theorem State.latchGroup_groups (s : State) (g finding : Nat) :
    (s.latchGroup g finding).valves.grp.length = s.valves.grp.length :=
  (congrArg (fun u : State => u.valves.grp.length) (s.latchGroup_eq g finding)).trans
    ((List.length_modify ..).trans (s.latchEach_groups g finding _))

/-- The latches of a group's channels, and its group, as a later state still has them. -/
theorem State.grpLatched.of_kept {s t : State} {g finding : Nat} (h : s.grpLatched g finding)
    (hlen : t.valves.ch.length = s.valves.ch.length) (hch : ∀ j < 8, t.chan (8 * g + j) = s.chan (8 * g + j))
    (hg : ∃ x, t.group g = { s.group g with reloadBy := x }) : t.grpLatched g finding := by
  obtain ⟨x, hx⟩ := hg
  obtain ⟨hlatched, hgroup⟩ := h
  refine ⟨fun j hj h => ?_, by rwa [hx]⟩
  rw [State.chLatched, State.ctx, hch j hj]
  exact hlatched j hj (hlen ▸ h)

/-! ### Traps and parity errors (R230) -/

/-- A trap latches its channel with finding 0. -/
theorem State.trap_chLatched (s : State) {ch : Nat} (h : ch < s.valves.ch.length) (addr cause : Nat) :
    (s.trap ch addr cause).chLatched ch 0 := by
  have hlen : ch < (s.updChan ch (·.bumpSeq 3)).valves.ch.length := ((ChanStep.refl ch s).updChan _).chans ▸ h
  exact (State.latchCh_chLatched _ hlen 0).of_valves (by simp [State.trap])

/-- A parity error is a group fault with finding 0, and asks for a reload within 10 ms. -/
theorem State.parity_grpLatched (s : State) {g : Nat} (hg : g < s.valves.grp.length) (addr : Nat) :
    (s.parity g addr).grpLatched g 0 ∧ (s.parity g addr).group g
      = { (s.latchGroup g 0).group g with reloadBy := some (s.now + 2500000) } := by
  have hnow : (s.latchGroup g 0).now = s.now := by simp [State.now]
  have hvalves : (s.parity g addr).valves
      = ((s.latchGroup g 0).updGroup g fun x => { x with reloadBy := some (s.now + 2500000) }).valves := by
    simp [State.parity, hnow, msTicks]
  have hgroup : (s.parity g addr).group g
      = { (s.latchGroup g 0).group g with reloadBy := some (s.now + 2500000) } := by
    rw [State.group, hvalves]
    exact (State.group_updGroup _ g g _ (hg.trans_eq (s.latchGroup_groups g 0).symm)).trans (if_pos rfl)
  exact ⟨(s.latchGroup_grpLatched hg 0).of_kept (by rw [hvalves]; rfl)
    (fun j _ => by rw [State.chan, hvalves]; rfl) ⟨_, hgroup⟩, hgroup⟩

end Sys2Proof.Machine
end

section
/-! The sequencer's instructions: the fetch, and what each instruction does to its channel (R216 to R225, R230). -/

namespace Sys2Proof.Machine

/-! ### The fetch (R214, R217, R230) -/

/-- An instruction that is due runs, and its effect is the step's, unless it is the 4,096th in a row without a wait. -/
theorem State.seqRun_of_due {s r : State} {dt ch : Nat} {i : SeqInstr} {act : State → Nat → SeqInstr → Option State}
    (h : SeqDue s dt ch i) (hact : act (s.advance dt) (s.ctx ch).next i = some r)
    (hrun : (r.ctx ch).st = .run → (r.ctx ch).runLen < 4096) : (s.advance dt).seqRun ch false act = r := by
  obtain ⟨-, hch, hdue, hpc, hlen, hword⟩ := h
  have hsame : (s.advance dt).ctx ch = s.ctx ch ∧ (s.advance dt).nCh = s.nCh ∧ (s.advance dt).hdrOf ch = s.hdrOf ch
      ∧ (s.advance dt).group (grpOf ch) = s.group (grpOf ch) := ⟨rfl, rfl, rfl, rfl⟩
  obtain ⟨hctx, hn, hhdr, hgrp⟩ := hsame
  unfold State.seqRun
  simp only [hctx, hn, hhdr, hgrp, hch, hdue, hword, hact, decide_true, Bool.and_self, if_true, Option.getD_some,
    Bool.false_eq_true, if_false, Nat.not_lt.2 hpc, show ¬ 4096 ≤ (s.ctx ch).runLen by omega]
  by_cases hst : (r.ctx ch).st = .run
  · simp [show ¬ 4096 ≤ (r.ctx ch).runLen from Nat.not_le.2 (hrun hst)]
  · simp [hst]

/-- A row whose instruction is due completes with its effect. -/
theorem completes_of_due {s r : State} {dt ch : Nat} {i : SeqInstr} {c : Instr} {P : State → Prop}
    {act : State → Nat → SeqInstr → Option State} (hc : exec c s = .next ((s.advance dt).seqRun ch false act))
    (h : SeqDue s dt ch i) (hact : act (s.advance dt) (s.ctx ch).next i = some r)
    (hrun : (r.ctx ch).st = .run → (r.ctx ch).runLen < 4096) (hP : P r) : Completes c s P :=
  ⟨r, by rw [hc, State.seqRun_of_due h hact hrun], hP⟩

/-- What a step of one channel keeps, besides the valves, is what its instruction keeps. -/
theorem ChanStep.seqStep {s t : State} {dt ch : Nat} (h : ChanStep ch (s.advance dt) t)
    (ht : t = { s.advance dt with valves := t.valves, host := t.host, cnt := t.cnt }) : SeqStep s dt ch t :=
  ⟨ht, h.chan_of_ne, h.chan_of_far, h.group_of_ne⟩

/-! ### Waits (R217, R219) -/

section Due

variable {s : State} {dt ch : Nat}

theorem execSeqWaitt_waits {u : BitVec 2} {n : BitVec 18} (h : SeqDue s dt ch (.waitt u n)) :
    Completes (.seqWaitt dt ch false) s (fun t =>
      t.ctx ch = { s.ctx ch with
        pc := (s.ctx ch).pc + 1, runLen := 0, wait := .till ((s.ctx ch).next + waittTicks (s.ctx ch) u n) }
      ∧ SeqStep s dt ch t) := by
  obtain ⟨⟨hlen, -⟩, -⟩ := id h
  have hctx := (s.advance dt).ctx_updCtx_same (fun c =>
    { c with pc := c.pc + 1, runLen := 0, wait := .till ((s.ctx ch).next + waittTicks c u n) }) hlen
  exact completes_of_due rfl h rfl (fun _ => by rw [hctx]; simp) ⟨hctx, ((ChanStep.refl ch _).updCtx _).seqStep rfl⟩

theorem execSeqWaiti_waits {le scale : Bool} {cnt : BitVec 6} {thr : BitVec 12}
    (h : SeqDue s dt ch (.waiti le scale cnt thr)) :
    Completes (.seqWaiti dt ch false) s (fun t =>
      t.ctx ch = { s.ctx ch with
        pc := (s.ctx ch).pc + 1, runLen := 0
        wait := .current le (2 * thr.toNat) (s.ctx ch).next
          (if cnt = 0 then none else some ((s.ctx ch).next + cntTicks scale cnt.toNat)) } ∧ SeqStep s dt ch t) := by
  obtain ⟨⟨hlen, -⟩, -⟩ := id h
  have hctx := (s.advance dt).ctx_updCtx_same (fun c =>
    { c with pc := c.pc + 1, runLen := 0
             wait := .current le (2 * thr.toNat) (s.ctx ch).next
               (if cnt = 0 then none else some ((s.ctx ch).next + cntTicks scale cnt.toNat)) }) hlen
  exact completes_of_due rfl h rfl (fun _ => by rw [hctx]; simp) ⟨hctx, ((ChanStep.refl ch _).updCtx _).seqStep rfl⟩

end Due

/-! ### Instructions of one cycle (R217, R218, R221, R222) -/

theorem State.past_ctx (s : State) {ch : Nat} (n : Nat) (h : ch < s.valves.ch.length) : (s.past ch n).ctx ch
    = { s.ctx ch with pc := (s.ctx ch).pc + 1, next := (s.ctx ch).next + 25 * n, runLen := (s.ctx ch).runLen + 1 } :=
  s.ctx_updCtx_same _ h

theorem ChanStep.past {ch : Nat} {s t : State} (h : ChanStep ch s t) (n : Nat) : ChanStep ch s (t.past ch n) := h.updCtx _

section Due

variable {s : State} {dt ch : Nat}

/-- An instruction of one cycle: the context's step past it follows its effect. -/
theorem completes_of_cycle {u : State} {i : SeqInstr} {c : Instr} {P : State → Prop}
    {act : State → Nat → SeqInstr → Option State} (hc : exec c s = .next ((s.advance dt).seqRun ch false act))
    (h : SeqDue s dt ch i) (hact : act (s.advance dt) (s.ctx ch).next i = some (u.past ch 1))
    (hu : ChanStep ch (s.advance dt) u) (hrun : (u.ctx ch).runLen = (s.ctx ch).runLen) (hP : P (u.past ch 1)) :
    Completes c s P := by
  obtain ⟨⟨hlen, -⟩, -, -, -, hshort, -⟩ := id h
  refine completes_of_due hc h hact (fun _ => ?_) hP
  rw [u.past_ctx 1 (hu.chans ▸ hlen)]
  change (u.ctx ch).runLen + 1 < 4096
  omega

theorem execSeqDecay_sets {m : BitVec 2} (h : SeqDue s dt ch (.decay m)) :
    Completes (.seqDecay dt ch false) s (fun t =>
      t.ctx ch = { s.ctx ch with
        decay := m.toNat
        decayWas := if (s.ctx ch).decaying = true then
            some ((s.ctx ch).decayNow (s.ctx ch).next, ((s.ctx ch).next + 249) / 250 * 250) else none
        pc := (s.ctx ch).pc + 1, next := (s.ctx ch).next + 25, runLen := (s.ctx ch).runLen + 1 }
      ∧ SeqStep s dt ch t) := by
  obtain ⟨⟨hlen, -⟩, -⟩ := id h
  have hset := (s.advance dt).ctx_updCtx_same (fun c =>
    { c with decay := m.toNat
             decayWas := if c.decaying then
               some (c.decayNow (s.ctx ch).next, ((s.ctx ch).next + 249) / 250 * 250) else none }) hlen
  have hstep := (ChanStep.refl ch (s.advance dt)).updCtx (fun c =>
    { c with decay := m.toNat
             decayWas := if c.decaying then
               some (c.decayNow (s.ctx ch).next, ((s.ctx ch).next + 249) / 250 * 250) else none })
  refine completes_of_cycle rfl h rfl hstep (by rw [hset]; rfl) ⟨?_, (hstep.past 1).seqStep rfl⟩
  rw [State.past_ctx _ 1 (hstep.chans ▸ hlen), hset]
  rfl

/-- What ARM makes of a context (R221). -/
def Ctx.armed (c : Ctx) (b det tmo : Nat) : Ctx :=
  let t := if tmo = 0 then none else some (b + tmo)
  match det with
  | 0 => if c.openOut.isSome then c else
      { c with openWin := some { det := .rise, opened := b, timeout := t, chop := c.chop } }
  | 1 => if c.openOut.isSome then c else { c with openWin := some { det := .chop, opened := b, timeout := t } }
  | 2 => { c with closeArm := some tmo }
  | _ => { c with openWin := none }

theorem State.doArm_eq (s : State) (ch b det tmo : Nat) :
    s.doArm ch b det tmo = s.updCtx ch fun c => c.armed b det tmo := by
  match det with
  | 0 | 1 | 2 | _ + 3 => rfl

theorem Ctx.armed_keeps (c : Ctx) (b det tmo : Nat) : (c.armed b det tmo).pc = c.pc ∧ (c.armed b det tmo).next = c.next
    ∧ (c.armed b det tmo).runLen = c.runLen := by
  unfold Ctx.armed
  dsimp only
  (repeat' split) <;> exact ⟨rfl, rfl, rfl⟩

theorem Ctx.armed_opens {c : Ctx} {det : Nat} (hdet : det < 2) (hout : c.openOut = none) (b tmo : Nat) :
    ∃ w, (c.armed b det tmo).openWin = some w ∧ w.opened = b := by
  obtain rfl | rfl : det = 0 ∨ det = 1 := by omega
  all_goals simp [Ctx.armed, hout]

theorem execSeqArm_arms {det : BitVec 2} {scale : Bool} {cnt : BitVec 6} (h : SeqDue s dt ch (.arm det scale cnt)) :
    Completes (.seqArm dt ch false) s (fun t =>
      (t.ctx ch).pc = (s.ctx ch).pc + 1 ∧ (t.ctx ch).next = (s.ctx ch).next + 25
      ∧ (det.toNat < 2 → (s.ctx ch).openOut = none → ∃ w, (t.ctx ch).openWin = some w ∧ w.opened = (s.ctx ch).next)
      ∧ (det = 2 → (t.ctx ch).closeArm = some (cntTicks scale cnt.toNat))
      ∧ (det = 3 → (t.ctx ch).openWin = none) ∧ SeqStep s dt ch t) := by
  obtain ⟨⟨hlen, -⟩, -⟩ := id h
  have hset := (s.advance dt).ctx_updCtx_same (fun c => c.armed (s.ctx ch).next det.toNat (cntTicks scale cnt.toNat)) hlen
  have hstep := (ChanStep.refl ch (s.advance dt)).updCtx fun c =>
    c.armed (s.ctx ch).next det.toNat (cntTicks scale cnt.toNat)
  have hctx := State.past_ctx _ 1 (hstep.chans ▸ hlen)
  obtain ⟨hpc, hnext, hrun⟩ := (s.ctx ch).armed_keeps (s.ctx ch).next det.toNat (cntTicks scale cnt.toNat)
  refine completes_of_cycle rfl h (congrArg (fun u : State => some (u.past ch 1)) (State.doArm_eq ..)) hstep
    (by rw [hset]; exact hrun) ?_
  rw [hctx, hset]
  refine ⟨congrArg (· + 1) hpc, congrArg (· + 25) hnext, fun hdet hout => Ctx.armed_opens hdet hout _ _, ?_, ?_,
    (hstep.past 1).seqStep rfl⟩
  · rintro rfl
    rfl
  · rintro rfl
    rfl

end Due

/-- The regulator's setting that ITGT and SRC note (R218, R221). -/
theorem State.noteReg_ctx (s : State) {ch : Nat} (b : Nat) (h : ch < s.valves.ch.length) :
    ∃ rs cp, (s.noteReg ch b).ctx ch = { s.ctx ch with regs := rs, chop := cp }
      ∧ rs.getLast? = some { at_ := b, on := (s.ctx ch).conductAt.isSome, target := s.targetOf ch
                             mode := (s.ctx ch).mode, par := (s.ctx ch).par } := by
  unfold State.noteReg
  refine ⟨_, _, s.ctx_updCtx_same _ h, ?_⟩
  split <;> simp

theorem State.capOf_of_kept {s t : State} (h : t.cfg = s.cfg ∧ t.dev = s.dev) (ch : Nat) (peak : Bool) :
    t.capOf ch peak = s.capOf ch peak := by
  simp only [State.capOf, State.cfgN, State.cfgI, h]

theorem State.noteLoad_ctx (s : State) (ch : Nat) : ∃ l, (s.noteLoad ch).ctx ch = { s.ctx ch with loadFrom := l } :=
  ⟨((s.noteLoad ch).ctx ch).loadFrom, congrArg Chan.ctx (s.noteLoad_chan ch ch)⟩

/-- A setting of the context that the regulator takes up, in the context: what it notes, and since when the load counts. -/
theorem State.regulated_ctx (s : State) {ch : Nat} (f : Ctx → Ctx) (b : Nat) (h : ch < s.valves.ch.length) :
    ∃ rs cp l, ((((s.updCtx ch f).noteReg ch b).noteLoad ch).countClamp ch).ctx ch
        = { f (s.ctx ch) with regs := rs, chop := cp, loadFrom := l }
      ∧ rs.getLast? = some { at_ := b, on := (f (s.ctx ch)).conductAt.isSome
                             target := min (f (s.ctx ch)).target (s.capOf ch (f (s.ctx ch)).granted)
                             mode := (f (s.ctx ch)).mode, par := (f (s.ctx ch)).par } := by
  obtain ⟨rs, cp, hreg, hlast⟩ := (s.updCtx ch f).noteReg_ctx b ((State.updCtx_chans ..).symm ▸ h)
  rw [State.targetOf, s.ctx_updCtx_same f h] at hlast
  rw [s.ctx_updCtx_same f h] at hreg
  obtain ⟨l, hload⟩ := ((s.updCtx ch f).noteReg ch b).noteLoad_ctx ch
  refine ⟨rs, cp, l, ?_, hlast⟩
  rw [State.countClamp_ctx, hload, hreg]

theorem State.doMark_ctx (s : State) (ch b code : Nat) (evt : Bool) (value j : Nat) :
    (s.doMark ch b code evt value).ctx j = s.ctx j := by
  unfold State.doMark
  dsimp only
  (repeat' split)
  · simp
  · rfl
  · exact State.updChan_ctx _ ch j _ fun _ => rfl

theorem ChanStep.doMark {ch : Nat} {s t : State} (h : ChanStep ch s t) (b code : Nat) (evt : Bool) (value : Nat) :
    ChanStep ch s (t.doMark ch b code evt value) :=
  ((h.updGroup _).raise _ _ _ _ |>.ite (h.updGroup _) _).ite ((h.count _ _).updChan _) _

/-- A MARK enters its record in the group's buffer while the buffer has room, and changes nothing of it or of the host
interface once it is full. -/
theorem State.doMark_marks (s : State) {ch : Nat} (h : grpOf ch < s.valves.grp.length) (b code : Nat) (evt : Bool)
    (value : Nat) :
    ((s.group (grpOf ch)).marks.length < 64 → ((s.doMark ch b code evt value).group (grpOf ch)).marks
        = (s.group (grpOf ch)).marks ++ [{ ch := ch, code := code, evt := evt, value := value, mt := b }])
      ∧ (64 ≤ (s.group (grpOf ch)).marks.length →
          ((s.doMark ch b code evt value).group (grpOf ch)).marks = (s.group (grpOf ch)).marks
          ∧ (s.doMark ch b code evt value).host = s.host) := by
  refine ⟨fun hroom => ?_, fun hfull => ?_⟩
  · have hentered := s.group_updGroup (grpOf ch) (grpOf ch)
      (fun x => { x with marks := x.marks ++ [{ ch := ch, code := code, evt := evt, value := value, mt := b }] }) h
    rw [if_pos rfl] at hentered
    unfold State.doMark
    simp only [hroom, if_true]
    have hvalves (u : State) (data : List (Nat × Nat × Nat)) :
        (if evt then u.raise 0x4008 ch data false else u).group (grpOf ch) = u.group (grpOf ch) := by
      split
      · simp [State.group]
      · rfl
    rw [hvalves, hentered]
  · unfold State.doMark
    simp only [Nat.not_lt.2 hfull, if_false]
    exact ⟨rfl, rfl⟩

section Due

variable {s : State} {dt ch : Nat}

theorem execSeqItgt_sets {m p : BitVec 2} {reg : Bool} {v : BitVec 12} (h : SeqDue s dt ch (.itgt m p reg v)) :
    Completes (.seqItgt dt ch false) s (fun t =>
      t.ctx ch = { s.ctx ch with
        target := if reg then (s.ctx ch).k (v.toNat % 4) else 2 * v.toNat, mode := m.toNat, par := p.toNat
        regs := (t.ctx ch).regs, chop := (t.ctx ch).chop, loadFrom := (t.ctx ch).loadFrom
        pc := (s.ctx ch).pc + 1, next := (s.ctx ch).next + 25, runLen := (s.ctx ch).runLen + 1 }
      ∧ (t.ctx ch).regs.getLast? = some { at_ := (s.ctx ch).next, on := (s.ctx ch).conductAt.isSome,
                                          target := t.targetOf ch, mode := m.toNat, par := p.toNat }
      ∧ SeqStep s dt ch t) := by
  obtain ⟨⟨hlen, -⟩, -⟩ := id h
  let f : Ctx → Ctx := fun c => { c with
    target := if reg then (s.ctx ch).k (v.toNat % 4) else 2 * v.toNat, mode := m.toNat, par := p.toNat }
  obtain ⟨rs, cp, l, hset, hlast⟩ := (s.advance dt).regulated_ctx f (s.ctx ch).next hlen
  have hstep := (((ChanStep.refl ch (s.advance dt)).updCtx f).noteReg (s.ctx ch).next).noteLoad (rfl : grpOf ch = _)
    |>.countClamp
  have hctx := State.past_ctx _ 1 (hstep.chans ▸ hlen)
  rw [hset] at hctx
  refine completes_of_cycle rfl h
    (u := ((((s.advance dt).updCtx ch f).noteReg ch (s.ctx ch).next).noteLoad ch).countClamp ch)
    rfl hstep ((congrArg Ctx.runLen hset).trans rfl) ⟨?_, ?_, (hstep.past 1).seqStep ?_⟩
  · rw [hctx]
    rfl
  · rw [State.targetOf, State.capOf_of_kept (s := s.advance dt) (by simp), hctx]
    exact hlast
  · exact State.eq_of_parts (by simp)

theorem execSeqMark_enters {code : BitVec 4} {evt reg : Bool} {v : BitVec 12} (h : SeqDue s dt ch (.mark code evt reg v)) :
    Completes (.seqMark dt ch false) s (fun t =>
      ((s.group (grpOf ch)).marks.length < 64 → (t.group (grpOf ch)).marks = (s.group (grpOf ch)).marks ++
        [{ ch := ch, code := code.toNat, evt := evt, mt := (s.ctx ch).next,
           value := if reg then (s.ctx ch).k (v.toNat % 4) else v.toNat }])
      ∧ (64 ≤ (s.group (grpOf ch)).marks.length → (t.group (grpOf ch)).marks = (s.group (grpOf ch)).marks ∧ t.host = s.host)
      ∧ (t.ctx ch).pc = (s.ctx ch).pc + 1 ∧ (t.ctx ch).next = (s.ctx ch).next + 25 ∧ SeqStep s dt ch t) := by
  obtain ⟨⟨hlen, hgrp⟩, -⟩ := id h
  obtain ⟨hroom, hfull⟩ := (s.advance dt).doMark_marks hgrp (s.ctx ch).next code.toNat evt
    (if reg then (s.ctx ch).k (v.toNat % 4) else v.toNat)
  have hstep := (ChanStep.refl ch (s.advance dt)).doMark (s.ctx ch).next code.toNat evt
    (if reg then (s.ctx ch).k (v.toNat % 4) else v.toNat)
  have hctx := State.past_ctx _ 1 (hstep.chans ▸ hlen)
  rw [State.doMark_ctx] at hctx
  refine completes_of_cycle rfl h rfl hstep (by rw [State.doMark_ctx]; rfl)
    ⟨hroom, hfull, ?_, ?_, (hstep.past 1).seqStep ?_⟩
  · exact (congrArg Ctx.pc hctx).trans rfl
  · exact (congrArg Ctx.next hctx).trans rfl
  · exact State.eq_of_parts (by simp)

/-! ### HOLDW and END (R221, R224) -/

theorem Ctx.openMissed_keeps (c : Ctx) (b : Nat) : (c.openMissed b).st = c.st ∧ (c.openMissed b).runLen = c.runLen
    ∧ (c.openMissed b).selfEnd = c.selfEnd := by
  unfold Ctx.openMissed
  split <;> exact ⟨rfl, rfl, rfl⟩

@[simp] theorem State.decideOpen_miss_acts (s : State) (ch b : Nat) : (s.decideOpen ch .miss b).acts = s.acts := by
  unfold State.decideOpen
  dsimp only
  split
  · rfl
  · simp

theorem execSeqHoldw_holds (h : SeqDue s dt ch .holdw) : Completes (.seqHoldw dt ch false) s (fun t =>
    (t.ctx ch).st = .hold ∧ (t.ctx ch).runLen = 0
    ∧ ((s.ctx ch).openWin = none → (s.ctx ch).openOut = none → (s.ctx ch).act = true →
        (t.ctx ch).openOut = some .miss ∧ (t.ctx ch).openMt = (s.ctx ch).next)
    ∧ SeqStep s dt ch t) := by
  obtain ⟨⟨hlen, -⟩, -⟩ := id h
  let f : Ctx → Ctx := fun c => { c with st := .hold, runLen := 0 }
  let b := (s.ctx ch).next
  have hset : ((s.advance dt).updCtx ch f).ctx ch = f (s.ctx ch) := State.ctx_updCtx_same _ f hlen
  have hstep := (ChanStep.refl ch (s.advance dt)).updCtx f
  have hmissed := State.decideOpen_miss_ctx ((s.advance dt).updCtx ch f) b (hstep.chans ▸ hlen)
  rw [hset] at hmissed
  obtain ⟨hst, hrun, -⟩ := (f (s.ctx ch)).openMissed_keeps b
  by_cases hwin : (s.ctx ch).openWin = none
  · have hact : (if (((s.advance dt).updCtx ch f).ctx ch).openWin.isNone
        then ((s.advance dt).updCtx ch f).decideOpen ch .miss b else (s.advance dt).updCtx ch f)
        = ((s.advance dt).updCtx ch f).decideOpen ch .miss b := 
        if_pos (by rw [hset]; exact Option.isNone_iff_eq_none.2 hwin)
    refine completes_of_due rfl h (congrArg some hact) (fun _ => ?_) ⟨(congrArg Ctx.st hmissed).trans hst,
      (congrArg Ctx.runLen hmissed).trans hrun, fun _ hout ha => ?_,
      (hstep.decideOpen_miss b).seqStep (State.eq_of_parts (by simp))⟩
    · rw [hmissed, hrun]
      exact (by decide : 0 < 4096)
    · have hdecided : (f (s.ctx ch)).openMissed b = { f (s.ctx ch) with
          openOut := some .miss, openMt := b, openWin := none, confirm := false, act := (s.ctx ch).closeOut.isNone } :=
        if_neg (by simp [f, hout, ha])
      rw [hmissed]
      exact ⟨congrArg Ctx.openOut hdecided, congrArg Ctx.openMt hdecided⟩
  · have hact : (if (((s.advance dt).updCtx ch f).ctx ch).openWin.isNone
        then ((s.advance dt).updCtx ch f).decideOpen ch .miss b else (s.advance dt).updCtx ch f)
        = (s.advance dt).updCtx ch f := 
        if_neg (by rw [hset]; exact fun hnone => hwin (Option.isNone_iff_eq_none.1 hnone))
    refine completes_of_due rfl h (congrArg some hact) (fun _ => ?_) ⟨congrArg Ctx.st hset, congrArg Ctx.runLen hset,
      fun hnone => absurd hnone hwin, hstep.seqStep rfl⟩
    rw [hset]
    exact (by decide : 0 < 4096)

/-- END in the context: it waits in ENDED, its coil decays from the END's boundary, and SELF_END is set. -/
theorem State.doEnd_ctx (s : State) {ch : Nat} (b : Nat) (h : ch < s.valves.ch.length) :
    ((s.doEnd ch b).ctx ch).st = .ended ∧ ((s.doEnd ch b).ctx ch).runLen = 0
      ∧ ((s.doEnd ch b).ctx ch).decaysFrom b true := by
  unfold State.doEnd
  extract_lets s1 s2 s3 s4
  have hstep2 : ChanStep ch s s2 := ((ChanStep.refl ch s).updCtx _).updChan _
  have hstep3 : ChanStep ch s s3 := hstep2.decideOpen_miss b
  have hself : (s3.ctx ch).selfEnd = true := by
    obtain ⟨-, -, hkept⟩ := (s2.ctx ch).openMissed_keeps b
    have hcounted : s2.ctx ch = s1.ctx ch := s1.updChan_ctx ch ch _ fun _ => rfl
    rw [s2.decideOpen_miss_ctx b (hstep2.chans ▸ h), hkept, hcounted, s.ctx_updCtx_same _ h]
  have hdecays := s3.startDecay_decaysFrom b false (hstep3.chans ▸ h)
  rw [hself] at hdecays
  rw [s4.ctx_updCtx_same _ ((hstep3.startDecay b false).chans ▸ h)]
  exact ⟨rfl, rfl, hdecays⟩

theorem execSeqEnd_ends (h : SeqDue s dt ch .end_) : Completes (.seqEnd dt ch false) s (fun t =>
    (t.ctx ch).st = .ended ∧ (t.ctx ch).decaying = true ∧ (t.ctx ch).conductAt = none ∧ (t.ctx ch).selfEnd = true
    ∧ (t.ctx ch).offMt = some (s.ctx ch).next ∧ t.dev = s.dev ∧ t.flash = s.flash) := by
  obtain ⟨⟨hlen, -⟩, -⟩ := id h
  obtain ⟨hst, hrun, hdecaying, hnone, hoff, hself⟩ := (s.advance dt).doEnd_ctx (s.ctx ch).next hlen
  exact completes_of_due rfl h rfl (fun _ => by rw [hrun]; decide)
    ⟨hst, hdecaying, hnone, hself, hoff, by simp, by simp⟩

end Due

/-! ### Jumps, and the traps of their targets (R217, R223, R230) -/

/-- A context that has jumped, or gone past a jump. -/
def Ctx.jumped (c : Ctx) (addr : Nat) (taken : Bool) : Ctx :=
  if taken then { c with pc := addr, next := c.next + 50, runLen := c.runLen + 1 }
  else { c with pc := c.pc + 1, next := c.next + 25, runLen := c.runLen + 1 }

theorem Ctx.jumped_runLen (c : Ctx) (addr : Nat) (taken : Bool) : (c.jumped addr taken).runLen = c.runLen + 1 := by
  unfold Ctx.jumped
  split <;> rfl

/-- A target within the profile is jumped to, or passed by. -/
theorem State.seqTarget_inside (s : State) {ch addr : Nat} (hlo : hdrStart (s.hdrOf ch) ≤ addr)
    (hhi : addr ≤ hdrLast (s.hdrOf ch)) (taken : Bool) :
    s.seqTarget ch addr taken = s.updCtx ch (Ctx.jumped · addr taken) := by
  unfold State.seqTarget
  cases taken <;> simp [Nat.not_lt.2 hlo, Nat.not_lt.2 hhi] <;> rfl

theorem State.seqTarget_outside (s : State) {ch addr : Nat}
    (h : addr < hdrStart (s.hdrOf ch) ∨ hdrLast (s.hdrOf ch) < addr) (taken : Bool) :
    s.seqTarget ch addr taken = s.trap ch (s.ctx ch).pc 2 := by
  unfold State.seqTarget
  simp [h]

section Due

variable {s : State} {dt ch : Nat}

/-- An instruction that goes to a target within the profile once it has come to `u`. -/
theorem completes_of_target {u : State} {i : SeqInstr} {c : Instr} {P : State → Prop}
    {act : State → Nat → SeqInstr → Option State} {addr : Nat} {taken : Bool}
    (hc : exec c s = .next ((s.advance dt).seqRun ch false act)) (h : SeqDue s dt ch i)
    (hact : act (s.advance dt) (s.ctx ch).next i = some (u.seqTarget ch addr taken))
    (hu : ChanStep ch (s.advance dt) u) (hrest : u = { s.advance dt with valves := u.valves })
    (hrun : (u.ctx ch).runLen = (s.ctx ch).runLen) (hlo : hdrStart (u.hdrOf ch) ≤ addr)
    (hhi : addr ≤ hdrLast (u.hdrOf ch))
    (hP : ∀ t, t.ctx ch = (u.ctx ch).jumped addr taken → SeqStep s dt ch t → P t) : Completes c s P := by
  obtain ⟨⟨hlen, -⟩, -, -, -, hshort, -⟩ := id h
  have hctx := u.ctx_updCtx_same (Ctx.jumped · addr taken) (hu.chans ▸ hlen)
  rw [u.seqTarget_inside hlo hhi] at hact
  refine completes_of_due hc h hact (fun _ => ?_) (hP _ hctx ((hu.updCtx _).seqStep ?_))
  · rw [hctx, Ctx.jumped_runLen, hrun]
    omega
  · rw [hrest]
    rfl

theorem execSeqJmp_jumps {a : BitVec 9} (h : SeqDue s dt ch (.jmp a)) (hlo : hdrStart (s.hdrOf ch) ≤ a.toNat)
    (hhi : a.toNat ≤ hdrLast (s.hdrOf ch)) : Completes (.seqJmp dt ch false) s (fun t =>
      t.ctx ch = { s.ctx ch with pc := a.toNat, next := (s.ctx ch).next + 50, runLen := (s.ctx ch).runLen + 1 }
      ∧ SeqStep s dt ch t) :=
  completes_of_target rfl h rfl (.refl ch _) rfl rfl hlo hhi fun _ ht hstep => ⟨ht, hstep⟩

theorem execSeqJmp_traps {a : BitVec 9} (h : SeqDue s dt ch (.jmp a))
    (hout : a.toNat < hdrStart (s.hdrOf ch) ∨ hdrLast (s.hdrOf ch) < a.toNat) :
    Completes (.seqJmp dt ch false) s (fun t => t.chLatched ch 0 ∧ t.dev = s.dev) := by
  obtain ⟨⟨hlen, -⟩, -⟩ := id h
  have hlatched := (s.advance dt).trap_chLatched hlen (s.ctx ch).pc 2
  refine completes_of_due rfl h (congrArg some ((s.advance dt).seqTarget_outside hout true)) (fun hst => ?_)
    ⟨hlatched, by simp⟩
  exact absurd (hst.symm.trans hlatched.2.2) (by decide)

theorem execSeqJc_jumps {mv : Nat} {c : BitVec 4} {a : BitVec 9} (h : SeqDue s dt ch (.jc c a))
    (hlo : hdrStart (s.hdrOf ch) ≤ a.toNat) (hhi : a.toNat ≤ hdrLast (s.hdrOf ch)) :
    Completes (.seqJc dt ch mv false) s (fun t =>
      t.ctx ch = (if condHolds (s.ctx ch) (hdrRailLo (s.hdrOf ch)) mv c.toNat = true then
        { s.ctx ch with pc := a.toNat, next := (s.ctx ch).next + 50, runLen := (s.ctx ch).runLen + 1 }
        else { s.ctx ch with pc := (s.ctx ch).pc + 1, next := (s.ctx ch).next + 25, runLen := (s.ctx ch).runLen + 1 })
      ∧ SeqStep s dt ch t) :=
  completes_of_target rfl h rfl (.refl ch _) rfl rfl hlo hhi fun _ ht hstep => ⟨ht, hstep⟩

/-- Kn after LOOP: one less, or, where that ends it, with RELOAD the preset (R223). -/
def Ctx.kAfter (c : Ctx) (n : Nat) (reload : Bool) : Nat :=
  if decide (c.k n - 1 = 0) && reload then c.pre.getD n 0 else c.k n - 1

theorem Ctx.kAfter_of_two_le {c : Ctx} {n : Nat} (h : 2 ≤ c.k n) (reload : Bool) : c.kAfter n reload = c.k n - 1 := by
  simp [Ctx.kAfter, show ¬ c.k n - 1 = 0 by omega]

theorem Ctx.kAfter_of_le_one {c : Ctx} {n : Nat} (h : c.k n ≤ 1) (reload : Bool) :
    c.kAfter n reload = if reload then c.pre.getD n 0 else 0 := by
  simp [Ctx.kAfter, show c.k n - 1 = 0 by omega]

theorem execSeqLoop_loops {n : BitVec 2} {reload : Bool} {a : BitVec 9} (h : SeqDue s dt ch (.loop n reload a))
    (hlo : hdrStart (s.hdrOf ch) ≤ a.toNat) (hhi : a.toNat ≤ hdrLast (s.hdrOf ch))
    (hn : n.toNat < (s.ctx ch).ks.length) :
    Completes (.seqLoop dt ch false) s (fun t =>
      (2 ≤ (s.ctx ch).k n.toNat → (t.ctx ch).k n.toNat = (s.ctx ch).k n.toNat - 1 ∧ (t.ctx ch).pc = a.toNat
        ∧ (t.ctx ch).next = (s.ctx ch).next + 50)
      ∧ ((s.ctx ch).k n.toNat ≤ 1 → (t.ctx ch).k n.toNat = (if reload then (s.ctx ch).pre.getD n.toNat 0 else 0)
        ∧ (t.ctx ch).pc = (s.ctx ch).pc + 1 ∧ (t.ctx ch).next = (s.ctx ch).next + 25)
      ∧ SeqStep s dt ch t) := by
  obtain ⟨⟨hlen, -⟩, -⟩ := id h
  let u := (s.advance dt).updCtx ch fun x => { x with ks := x.ks.set n.toNat ((s.ctx ch).kAfter n.toNat reload) }
  have hset : u.ctx ch = { s.ctx ch with ks := (s.ctx ch).ks.set n.toNat ((s.ctx ch).kAfter n.toNat reload) } :=
    (s.advance dt).ctx_updCtx_same _ hlen
  have hk : (u.ctx ch).k n.toNat = (s.ctx ch).kAfter n.toNat reload := by
    rw [hset]
    simp [Ctx.k, List.getD_eq_getElem?_getD, hn]
  refine completes_of_target (u := u) (taken := !decide ((s.ctx ch).k n.toNat - 1 = 0)) rfl h rfl
    ((ChanStep.refl ch _).updCtx _) rfl ((congrArg Ctx.runLen hset).trans rfl) hlo hhi fun t ht hstep => ⟨fun h2 => ?_, fun h1 => ?_, hstep⟩
  · rw [ht, decide_eq_false (by omega : ¬ (s.ctx ch).k n.toNat - 1 = 0)]
    exact ⟨hk.trans (Ctx.kAfter_of_two_le h2 reload), rfl, (congrArg (fun x : Ctx => x.next + 50) hset).trans rfl⟩
  · rw [ht, decide_eq_true (by omega : (s.ctx ch).k n.toNat - 1 = 0)]
    exact ⟨hk.trans (Ctx.kAfter_of_le_one h1 reload), (congrArg (fun x : Ctx => x.pc + 1) hset).trans rfl,
      (congrArg (fun x : Ctx => x.next + 25) hset).trans rfl⟩

end Due

end Sys2Proof.Machine
end

section
/-! The ends of the sequencer's waits (R217, R219). -/

namespace Sys2Proof.Machine

/-- A row whose outcome is the state `u`. -/
theorem completes_of_eq {s t u : State} {c : Instr} {P : State → Prop} (hc : exec c s = .next t) (hu : t = u)
    (hP : P u) : Completes c s P :=
  ⟨u, hu ▸ hc, hP⟩

theorem State.waittOver_ends {s : State} {ch m : Nat} (hst : (s.ctx ch).st = .run) (hwait : (s.ctx ch).wait = .till m)
    (hm : m ≤ s.now) : s.waittOver ch = s.updCtx ch (fun c => { c with wait := .no, next := c.boundary m }) := by
  unfold State.waittOver
  simp only [hst, hwait, hm, if_true]

theorem State.waitiOver_ends {s : State} {ch m thr fr : Nat} {le : Bool} (hst : (s.ctx ch).st = .run)
    (hwait : (s.ctx ch).wait = .current le thr fr (some m)) (hm : m ≤ s.now) :
    s.waitiOver ch = s.updCtx ch (fun c => { c with wait := .no, toF := true, next := c.boundary m }) := by
  unfold State.waitiOver
  simp only [hst, hwait, hm, if_true]

/-- A sample that ends the WAITI is the channel's measurement, and the regulator has seen it. -/
theorem State.waitiDone_ends {s : State} {ch m ma thr fr : Nat} {le : Bool} {tmo : Option Nat}
    (hst : (s.ctx ch).st = .run) (hwait : (s.ctx ch).wait = .current le thr fr tmo)
    (hmet : if le then ma ≤ thr else thr ≤ ma) (htime : ∀ x, tmo = some x → m + 50 ≤ x) (hgrid : m % 250 = 0)
    (hfrom : fr ≤ m) (harr : m + 50 ≤ s.now) : s.waitiDone ch m ma
      = ((s.updChan ch (fun x => { x with ma := ma })).watch ch [(m, ma)]).updCtx ch
          (fun c => { c with wait := .no, toF := false, next := c.boundary (m + 50) }) := by
  unfold State.waitiDone
  simp only [hst, hwait]
  refine if_pos ?_
  simp only [Bool.and_eq_true, decide_eq_true_eq]
  refine ⟨⟨⟨⟨?met, ?intime⟩, hgrid⟩, hfrom⟩, harr⟩
  case met => cases le <;> simpa using hmet
  case intime =>
    cases tmo with
    | none => rfl
    | some x => exact decide_eq_true (htime x rfl)

/-- A sample that a WAITI does not consider yet, or not at all, changes nothing. -/
theorem State.waitiDone_ignores {s : State} {ch m ma thr fr : Nat} {le : Bool} {tmo : Option Nat}
    (hwait : (s.ctx ch).wait = .current le thr fr tmo) (hm : m < fr ∨ m % 250 ≠ 0 ∨ s.now < m + 50) :
    s.waitiDone ch m ma = s := by
  unfold State.waitiDone
  simp only [hwait]
  split
  next heq =>
    cases heq
    refine if_neg fun hall => ?_
    simp only [Bool.and_eq_true, decide_eq_true_eq] at hall
    omega
  next => rfl

/-- A channel's measurement is not of its context. -/
theorem State.updCtx_ma (s : State) (ch j : Nat) (f : Ctx → Ctx) : ((s.updCtx ch f).chan j).ma = (s.chan j).ma := by
  simp only [State.chan, State.updCtx, State.updChan, List.getD_eq_getElem?_getD, List.getElem?_modify]
  cases s.valves.ch[j]? with
  | none => rfl
  | some c => by_cases h : ch = j <;> simp [h]

section Waits

variable {s : State} {dt ch : Nat}

theorem execWaittExpiry_ends {m : Nat} (hc : s.hasCh ch) (hst : (s.ctx ch).st = .run) (hwait : (s.ctx ch).wait = .till m)
    (hm : m ≤ (s.advance dt).now) : Completes (.waittExpiry dt ch) s (fun t =>
      t.ctx ch = { s.ctx ch with wait := .no, next := (s.ctx ch).boundary m } ∧ SeqStep s dt ch t) :=
  completes_of_eq rfl ((s.advance dt).waittOver_ends hst hwait hm)
    ⟨State.ctx_updCtx_same _ _ hc.1, ((ChanStep.refl ch _).updCtx _).seqStep rfl⟩

theorem execWaitiTimeout_ends {m thr fr : Nat} {le : Bool} (hc : s.hasCh ch) (hst : (s.ctx ch).st = .run)
    (hwait : (s.ctx ch).wait = .current le thr fr (some m)) (hm : m ≤ (s.advance dt).now) :
    Completes (.waitiTimeout dt ch) s (fun t =>
      t.ctx ch = { s.ctx ch with wait := .no, toF := true, next := (s.ctx ch).boundary m } ∧ SeqStep s dt ch t) :=
  completes_of_eq rfl ((s.advance dt).waitiOver_ends hst hwait hm)
    ⟨State.ctx_updCtx_same _ _ hc.1, ((ChanStep.refl ch _).updCtx _).seqStep rfl⟩

theorem execWaitiEnd_ignores {m ma thr fr : Nat} {le : Bool} {tmo : Option Nat}
    (hwait : (s.ctx ch).wait = .current le thr fr tmo) (hm : m < fr ∨ m % 250 ≠ 0 ∨ (s.advance dt).now < m + 50) :
    Completes (.waitiEnd dt ch m ma) s (fun t => t = s.advance dt) :=
  completes_of_eq rfl ((s.advance dt).waitiDone_ignores hwait hm) rfl

theorem execWaitiEnd_ends {m ma thr fr : Nat} {le : Bool} {tmo : Option Nat} (hc : s.hasCh ch) (hst : (s.ctx ch).st = .run)
    (hwait : (s.ctx ch).wait = .current le thr fr tmo) (hmet : if le then ma ≤ thr else thr ≤ ma)
    (htime : ∀ x, tmo = some x → m + 50 ≤ x) (hgrid : m % 250 = 0) (hfrom : fr ≤ m)
    (harr : m + 50 ≤ (s.advance dt).now) : Completes (.waitiEnd dt ch m ma) s (fun t =>
      t.ctx ch = { s.ctx ch with
        wait := .no, toF := false, next := (s.ctx ch).boundary (m + 50), chop := (t.ctx ch).chop }
      ∧ (t.chan ch).ma = ma ∧ SeqStep s dt ch t) := by
  obtain ⟨hlen, -⟩ := hc
  let u := (s.advance dt).updChan ch (fun x => { x with ma := ma })
  let v := u.watch ch [(m, ma)]
  have hstep : ChanStep ch (s.advance dt) u := (ChanStep.refl ch _).updChan _
  have hu : u.ctx ch = s.ctx ch := State.updChan_ctx _ _ _ _ fun _ => rfl
  have hv : v.ctx ch = { s.ctx ch with chop := (v.ctx ch).chop } := by
    have hwatched := u.ctx_updCtx_same (fun c => { c with
      chop := (regulate c.regs c.chop ([(m, ma)].filter (fun p => decide (max c.chop.onAt c.chop.offAt < p.1)))).1 })
      (hstep.chans ▸ hlen)
    rw [show v.ctx ch = _ from hwatched, hu]
  have ht := v.ctx_updCtx_same (fun c => { c with wait := .no, toF := false, next := c.boundary (m + 50) })
    ((hstep.watch _).chans ▸ hlen)
  rw [hv] at ht
  have hma : (u.chan ch).ma = ma := congrArg Chan.ma ((s.advance dt).chan_updChan_same _ hlen)
  refine completes_of_eq rfl ((s.advance dt).waitiDone_ends hst hwait hmet htime hgrid hfrom harr)
    ⟨?_, ?_, ((hstep.watch _).updCtx _).seqStep rfl⟩
  · exact ht.trans (by rw [ht]; rfl)
  · exact (v.updCtx_ma ch ch _).trans ((u.updCtx_ma ch ch _).trans hma)

end Waits

/-- Settles O37: what the WAITI itself sets, and its two ends, each an equation of the model's wait. -/
theorem waitSamples : Obligations.WaitSamples :=
  ⟨fun _ _ _ _ _ _ _ h => execSeqWaiti_waits h,
    fun _ _ _ _ _ _ _ _ _ hc hst hwait hmet htime hgrid hfrom harr =>
      execWaitiEnd_ends hc hst hwait hmet htime hgrid hfrom harr,
    fun _ _ _ _ _ _ _ hc hst hwait hm => execWaitiTimeout_ends hc hst hwait hm,
    fun _ _ _ _ _ _ _ _ _ hwait hm => execWaitiEnd_ignores hwait hm⟩

/-- Settles O36: Kn after the LOOP decides between the jump and the fall through, as `Ctx.kAfter` says. -/
theorem loopInstruction : Obligations.LoopInstruction :=
  fun _ _ _ _ _ _ h hlo hhi hn => execSeqLoop_loops h hlo hhi hn

end Sys2Proof.Machine
end

section
/-! The traps of the fetch, and the parity, the compare and the reload of the store (R216, R230, R231). -/

namespace Sys2Proof.Machine

section Fetch

variable {s : State} {dt ch : Nat}

/-- A reserved word that is due traps, whatever the row would do. -/
theorem State.seqRun_of_reserved (hch : ch < s.nCh) (hdue : (s.ctx ch).due s.now = true)
    (hpc : (s.ctx ch).pc ≤ hdrLast (s.hdrOf ch)) (hlen : (s.ctx ch).runLen < 4096)
    (hword : decodeSeq ((s.group (grpOf ch)).store.getD (s.ctx ch).pc 0) = none)
    (act : State → Nat → SeqInstr → Option State) : s.seqRun ch false act = s.trap ch (s.ctx ch).pc 1 := by
  unfold State.seqRun
  simp only [hch, hdue, hword, decide_true, Bool.and_self, if_true, Bool.false_eq_true, if_false, Nat.not_lt.2 hpc,
    Nat.not_le.2 hlen]

theorem State.seqRun_of_parity (hch : ch < s.nCh) (hdue : (s.ctx ch).due s.now = true)
    (act : State → Nat → SeqInstr → Option State) : s.seqRun ch true act = s.parity (grpOf ch) (s.ctx ch).pc := by
  unfold State.seqRun
  simp [hch, hdue]

theorem execSeqReservedOpcode_traps (hc : s.hasCh ch) (hch : ch < s.nCh)
    (hdue : (s.ctx ch).due (s.advance dt).now = true) (hpc : (s.ctx ch).pc ≤ hdrLast (s.hdrOf ch))
    (hlen : (s.ctx ch).runLen < 4096) (hword : decodeSeq ((s.group (grpOf ch)).store.getD (s.ctx ch).pc 0) = none) :
    Completes (.seqReservedOpcode dt ch false) s (fun t => t.chLatched ch 0 ∧ t.dev = s.dev) :=
  completes_of_eq rfl (State.seqRun_of_reserved (s := s.advance dt) hch hdue hpc hlen hword _)
    ⟨(s.advance dt).trap_chLatched hc.1 _ 1, by simp⟩

theorem execSeqSrc_parity {mv : Nat} (hc : s.hasCh ch) (hch : ch < s.nCh)
    (hdue : (s.ctx ch).due (s.advance dt).now = true) : Completes (.seqSrc dt ch mv true) s (fun t =>
      t.grpLatched (grpOf ch) 0 ∧ t.dev = s.dev
        ∧ (t.group (grpOf ch)).reloadBy = some ((s.advance dt).now + 2500000)) := by
  obtain ⟨hlatched, hgroup⟩ := (s.advance dt).parity_grpLatched hc.2 (s.ctx ch).pc
  exact completes_of_eq rfl (State.seqRun_of_parity (s := s.advance dt) hch hdue _)
    ⟨hlatched, by simp, congrArg Group.reloadBy hgroup⟩

end Fetch

/-! ### The compare of the stores (R230) -/

/-- A group's store is due for its compare. -/
def State.compareDue (s : State) (g : Nat) : Prop := s.islands = true ∧ (s.group g).compared + 250000000 ≤ s.now

/-- The compare of one group's store. -/
def State.compareStore (bad : List (Nat × Nat)) (s : State) (g : Nat) : State :=
  if s.islands && (s.group g).compared + 1000 * msTicks ≤ s.now then
    let s := s.updGroup g (fun x => { x with compared := s.now })
    match bad.find? (fun p => p.1 = g) with
    | some p => s.parity g p.2
    | none => s
  else s

theorem State.compareStores_eq (s : State) (bad : List (Nat × Nat)) :
    s.compareStores bad = s.each (List.range s.nGrp) (State.compareStore bad) := rfl

/-- A compare that finds no fault in a group's store changes at most the instant of that group's last compare. -/
theorem State.compareStore_good {bad : List (Nat × Nat)} {g : Nat} (hgood : bad.find? (fun p => p.1 = g) = none)
    (s : State) : s.compareStore bad g = s ∨ s.compareStore bad g = s.updGroup g fun x => { x with compared := s.now } := by
  unfold State.compareStore
  rw [hgood]
  split
  · exact .inr rfl
  · exact .inl rfl

theorem State.compareStore_of_due {s : State} {g : Nat} (h : s.compareDue g) (bad : List (Nat × Nat)) :
    s.compareStore bad g = match bad.find? (fun p => p.1 = g) with
      | some p => (s.updGroup g fun x => { x with compared := s.now }).parity g p.2
      | none => s.updGroup g fun x => { x with compared := s.now } := by
  obtain ⟨hon, hdue⟩ := h
  unfold State.compareStore
  rw [if_pos (by simpa [hon, msTicks] using hdue)]

/-- The store of group `g` is still as `s` has it, and so is all that decides whether its compare is due. -/
structure State.StoreKept (g : Nat) (s u : State) : Prop where
  rest : u = { s with valves := u.valves }
  group : u.group g = s.group g
  groups : u.valves.grp.length = s.valves.grp.length

namespace State.StoreKept

variable {g h : Nat} {s u : State}

theorem refl (g : Nat) (s : State) : StoreKept g s s := ⟨rfl, rfl, rfl⟩

theorem updGroup_of_ne (hu : StoreKept g s u) (hne : h ≠ g) (f : Group → Group) : StoreKept g s (u.updGroup h f) := by
  obtain ⟨hrest, hgroup, hgroups⟩ := hu
  refine ⟨congrArg (fun w : State => w.updGroup h f) hrest, ?_, (List.length_modify ..).trans hgroups⟩
  rw [← hgroup]
  simp [State.group, State.updGroup, List.getD_eq_getElem?_getD, hne]

theorem compareStore_of_ne {bad : List (Nat × Nat)} (hu : StoreKept g s u) (hne : h ≠ g)
    (hgood : bad.find? (fun p => p.1 = h) = none) : StoreKept g s (u.compareStore bad h) := by
  rcases u.compareStore_good hgood with heq | heq
  · rwa [heq]
  · rw [heq]
    exact hu.updGroup_of_ne hne _

theorem now_eq (hu : StoreKept g s u) : u.now = s.now := by rw [hu.rest]; rfl

theorem compareDue (hu : StoreKept g s u) (h : s.compareDue g) : u.compareDue g := by
  obtain ⟨hon, hdue⟩ := h
  refine ⟨?_, ?_⟩
  · rw [hu.rest]
    exact hon
  · rwa [hu.group, hu.now_eq]

end State.StoreKept

/-- A compare that finds no fault changes nothing but the valves. -/
theorem State.compareStores_good_rest (s : State) :
    s.compareStores [] = { s with valves := (s.compareStores []).valves } := by
  rw [State.compareStores_eq]
  refine State.each_keeps (P := fun u => u = { s with valves := u.valves }) (fun u g hu => ?_) _ rfl
  rcases u.compareStore_good (bad := []) (g := g) rfl with heq | heq
  · rwa [heq]
  · rw [heq]
    exact congrArg (fun w : State => w.updGroup g fun x => { x with compared := u.now }) hu

/-- A store that is due and compares good notes the instant. -/
theorem State.compareStores_good_group {s : State} {g : Nat} (hg : g < s.nGrp) (hlen : g < s.valves.grp.length)
    (hdue : s.compareDue g) : (s.compareStores []).group g = { s.group g with compared := s.now } := by
  rw [State.compareStores_eq]
  refine State.each_once (I := State.StoreKept g s) (P := fun u => u.group g = { s.group g with compared := s.now })
    List.nodup_range (List.mem_range.2 hg) ?others ?own ?after (.refl g s)
  case others => exact fun u h hne hu => hu.compareStore_of_ne hne rfl
  case own =>
    intro u hu
    rw [State.compareStore_of_due (hu.compareDue hdue)]
    exact (u.group_updGroup g g _ (hu.groups ▸ hlen)).trans (by rw [if_pos rfl, hu.group, hu.now_eq])
  case after =>
    intro u h hne hu
    obtain ⟨-, hkept, -⟩ := (State.StoreKept.refl g u).compareStore_of_ne (bad := []) hne rfl
    exact hkept.trans hu

/-- A store that compares bad is a parity error, which the compares of the others leave as it is. -/
theorem State.compareStores_bad {s : State} {g : Nat} (hg : g < s.nGrp) (hlen : g < s.valves.grp.length)
    (hdue : s.compareDue g) (a : Nat) : (s.compareStores [(g, a)]).grpLatched g 0
      ∧ ((s.compareStores [(g, a)]).group g).reloadBy = some (s.now + 2500000) := by
  have hgood (h : Nat) (hne : h ≠ g) : [(g, a)].find? (fun p => p.1 = h) = none := by simp [hne.symm]
  rw [State.compareStores_eq]
  refine State.each_once (I := State.StoreKept g s)
    (P := fun u => u.grpLatched g 0 ∧ (u.group g).reloadBy = some (s.now + 2500000))
    List.nodup_range (List.mem_range.2 hg) ?others ?own ?after (.refl g s)
  case others => exact fun u h hne hu => hu.compareStore_of_ne hne (hgood h hne)
  case own =>
    intro u hu
    have hfound : [(g, a)].find? (fun p => p.1 = g) = some (g, a) := by simp
    rw [State.compareStore_of_due (hu.compareDue hdue), hfound]
    obtain ⟨hlatched, hgroup⟩ := (u.updGroup g fun x => { x with compared := u.now }).parity_grpLatched
      (g := g) ((List.length_modify ..).symm ▸ hu.groups ▸ hlen) a
    exact ⟨hlatched, (congrArg Group.reloadBy hgroup).trans (congrArg (fun n => some (n + 2500000)) hu.now_eq)⟩
  case after =>
    rintro u h hne ⟨hlatched, hreload⟩
    rcases u.compareStore_good (hgood h hne) with heq | heq
    · rw [heq]
      exact ⟨hlatched, hreload⟩
    · rw [heq]
      obtain ⟨-, hkept, -⟩ := (State.StoreKept.refl g u).updGroup_of_ne hne fun x => { x with compared := u.now }
      exact ⟨hlatched.of_kept rfl (fun _ _ => rfl) ⟨_, hkept⟩, by rw [hkept, hreload]⟩

/-! ### The reload (R230, R231) -/

theorem State.settle_eq (s : State) (k : Nat) : s.settle k = { s with sag := (s.settle k).sag } := by
  unfold State.settle State.clearClass State.updLane State.updSag
  split <;> rfl

theorem execSeqReload_loads {s : State} {dt g : Nat} (hlen : g < s.valves.grp.length)
    (hwant : (s.group g).reloadBy.isSome = true) : Completes (.seqReload dt g) s (fun t =>
      t.group g = { s.group g with
        store := progWords 512 (s.cfg.vals.blob .prog g)
        hdrs := (List.range 16).map (fun h =>
          let w := BitVec.ofInt 128 (s.cfgI .hdr (16 * g + h))
          if hdrEmpty w then w else w &&& BitVec.ofNat 128 (2 ^ 114 - 1))
        reloadBy := none, compared := (s.advance dt).now }
      ∧ t = { s.advance dt with valves := t.valves, sag := t.sag }) := by
  refine completes_of_eq rfl (if_pos hwant) ⟨?_, ?_⟩
  · unfold State.loadStore
    rw [State.group, State.settle_eq]
    exact ((s.advance dt).group_updGroup g g _ hlen).trans (if_pos rfl)
  · unfold State.loadStore
    rw [State.settle_eq]
    rfl

/-- Settles O35: a target inside the profile, a trap, a parity error of the fetch, and the store's compare and reload. -/
theorem seqFlowRows : Obligations.SeqFlowRows := by
  refine ⟨fun s dt ch a h => ⟨execSeqJmp_jumps h, execSeqJmp_traps h⟩,
    fun s dt ch mv c a h hlo hhi => execSeqJc_jumps h hlo hhi,
    fun s dt ch hc hch hdue hpc hlen hword => execSeqReservedOpcode_traps hc hch hdue hpc hlen hword,
    fun s dt ch mv hc hch hdue => execSeqSrc_parity hc hch hdue,
    fun s dt hon => ?_, fun s dt g a hon hg hlen hdue => ?_,
    fun s dt g hlen hwant => execSeqReload_loads hlen hwant⟩
  · exact completes_of_eq rfl rfl ⟨fun g hg hlen hdue =>
      State.compareStores_good_group (s := s.advance dt) hg hlen ⟨hon, hdue⟩, (s.advance dt).compareStores_good_rest⟩
  · obtain ⟨hlatched, hreload⟩ := State.compareStores_bad (s := s.advance dt) hg hlen ⟨hon, hdue⟩ a
    exact completes_of_eq rfl rfl ⟨hlatched, hreload, by simp⟩

end Sys2Proof.Machine
end

section
/-! What a reading of the reservoir, the end of a phase and the rail switch keep of groups and quadrants (R183, R190, R201). -/

namespace Sys2Proof.Machine

/-! ### The parts of the group and of the quadrant that a SRC reads -/

@[simp] theorem State.noteReg_groups (s : State) (ch b : Nat) : (s.noteReg ch b).valves.grp = s.valves.grp := rfl

@[simp] theorem State.cutClamp_groups (s : State) (ch : Nat) : (s.cutClamp ch).valves.grp = s.valves.grp := by
  unfold State.cutClamp
  split <;> rfl

@[simp] theorem State.countPhase_groups (s : State) (ch : Nat) : (s.countPhase ch).valves.grp = s.valves.grp := by
  unfold State.countPhase
  split
  · rfl
  · simp

/-- What a reading of the reservoir sets of the reservoir and of its quadrant. -/
def State.noteRes (s : State) (q mv : Nat) : State :=
  (s.updPwr fun p => { p with res := p.res.set q mv }).updQuad q fun x =>
    { x with lowAt := if mv * 10 < s.pwr.vLim.getD q 0 * 9 then some s.now else x.lowAt
             since := if mv * 10 < s.pwr.vLim.getD q 0 * 9 then x.since else none
             full := if s.pwr.vLim.getD q 0 ≤ mv then true
               else if mv * 100 ≤ s.pwr.vLim.getD q 0 * 99 then false else x.full }

/-- A channel's decay in FAST-RECOVER goes on in FAST-CLAMP. -/
def State.turnDecay (s : State) (ch : Nat) : State :=
  s.updCtx ch fun c => if c.decaying && c.decayNow s.now = 1 then { c with turned := true } else c

theorem State.readRes_eq (s : State) (q mv : Nat) : s.readRes q mv
    = if s.pwr.vLim.getD q 0 ≤ mv then (s.noteRes q mv).each (List.range 24) fun u j => u.turnDecay (24 * q + j)
      else s.noteRes q mv := rfl

/-- Beside that, a reading changes contexts only. -/
theorem State.readRes_induct {β : Type} (p : State → β) (hp : ∀ u ch f, p (State.updCtx u ch f) = p u) (s : State)
    (q mv : Nat) : p (s.readRes q mv) = p (s.noteRes q mv) := by
  rw [State.readRes_eq]
  split
  · exact State.each_induct p (fun u j => hp u _ _) _ _
  · rfl

theorem State.readRes_groups (s : State) (q mv : Nat) : (s.readRes q mv).valves.grp = s.valves.grp :=
  s.readRes_induct (fun u => u.valves.grp) (fun _ _ _ => rfl) q mv

theorem State.readRes_chans (s : State) (q mv : Nat) : (s.readRes q mv).valves.ch.length = s.valves.ch.length :=
  s.readRes_induct (fun u => u.valves.ch.length) State.updCtx_chans q mv

theorem State.readRes_pwr (s : State) (q mv : Nat) : (s.readRes q mv).pwr = { s.pwr with res := s.pwr.res.set q mv } :=
  s.readRes_induct (fun u => u.pwr) (fun _ _ _ => rfl) q mv

/-- A reading below V_LIM turns no decay. -/
theorem State.readRes_chan {s : State} {q mv : Nat} (h : mv < s.pwr.vLim.getD q 0) (j : Nat) :
    (s.readRes q mv).chan j = s.chan j := by
  rw [State.readRes_eq, if_neg (Nat.not_le.2 h)]
  rfl

/-- A change of a quadrant beside one part of it, which reads as it did. -/
theorem State.updQuad_part {β : Type} (part : Quad → β) {f : Quad → Quad} (hf : ∀ q, part (f q) = part q) (s : State)
    (i j : Nat) : part ((s.updQuad i f).quad j) = part (s.quad j) := by
  simp only [State.quad, State.updQuad, List.getD_eq_getElem?_getD, List.getElem?_modify]
  cases s.valves.quad[j]? with
  | none => rfl
  | some q => by_cases h : i = j <;> simp [h, hf]

theorem State.readRes_noBoost (s : State) (q mv j : Nat) : ((s.readRes q mv).quad j).noBoost = (s.quad j).noBoost :=
  (s.readRes_induct (fun u => (u.quad j).noBoost) (fun _ _ _ => rfl) q mv).trans (by
    unfold State.noteRes
    refine State.updQuad_part Quad.noBoost ?_ _ q j
    exact fun _ => rfl)

/-- Beside the rail switch, setting it changes contexts only. -/
theorem State.setRail_induct {β : Type} (p : State → β) (hp : ∀ u ch f, p (State.updCtx u ch f) = p u) (s : State)
    (g : Nat) : p (s.setRail g) = p (s.updGroup g fun x =>
      { x with rail := s.railSource g, stirred := if x.rail = s.railSource g then x.stirred else some s.now }) := by
  unfold State.setRail
  exact State.each_induct p (f := fun u j => u.noteLoad (8 * g + j)) (fun u j => by unfold State.noteLoad; exact hp u _ _) _ _

theorem State.updCtx_quads (s : State) (ch : Nat) (f : Ctx → Ctx) : (s.updCtx ch f).valves.quad = s.valves.quad := rfl

theorem State.noteReg_quads (s : State) (ch b : Nat) : (s.noteReg ch b).valves.quad = s.valves.quad := rfl

theorem State.setRail_quads (s : State) (g : Nat) : (s.setRail g).valves.quad = s.valves.quad :=
  s.setRail_induct (fun u => u.valves.quad) (fun _ _ _ => rfl) g

theorem State.setRail_holder (s : State) (g j : Nat) : ((s.setRail g).group j).holder = (s.group j).holder := by
  refine (s.setRail_induct (fun u => (u.group j).holder) (fun _ _ _ => rfl) g).trans ?_
  simp only [State.group, State.updGroup, List.getD_eq_getElem?_getD, List.getElem?_modify]
  cases s.valves.grp[j]? with
  | none => rfl
  | some x => by_cases h : g = j <;> simp [h]

/-- The end of a phase in a quadrant sets nothing but since when its reservoir has not been low. -/
theorem State.endPhase_quad {β : Type} (part : Quad → β) (hpart : ∀ q m, part { q with since := m } = part q) (s : State)
    (ch b j : Nat) : part ((s.endPhase ch b).quad j) = part (s.quad j) := by
  unfold State.endPhase
  dsimp only
  split
  · exact (State.updQuad_part part (fun q => hpart q _) _ (quadOf ch) j).trans rfl
  · rfl

/-- The end of a phase in its group: the claim is given back and the request taken out of the queue. -/
theorem State.endPhase_group (s : State) {ch : Nat} (b : Nat) (h : grpOf ch < s.valves.grp.length) :
    ∃ e, (s.endPhase ch b).group (grpOf ch) = { s.group (grpOf ch) with
      boostEnd := e
      holder := if (s.group (grpOf ch)).holder = some ch then none else (s.group (grpOf ch)).holder
      queue := (s.group (grpOf ch)).queue.filter (fun q => q.1 ≠ ch) } := by
  have hown (u : State) (hlen : u.valves.grp.length = s.valves.grp.length) (f : Group → Group) :
      (u.updGroup (grpOf ch) f).group (grpOf ch) = f (u.group (grpOf ch)) :=
    (State.group_updGroup u _ _ f (hlen ▸ h)).trans (if_pos rfl)
  unfold State.endPhase
  extract_lets c g s1 s2
  have hended : ∃ e, s1.group (grpOf ch) = { s.group (grpOf ch) with boostEnd := e } ∧ s1.valves.grp.length = s.valves.grp.length := by
    unfold s1
    split
    · exact ⟨_, hown _ rfl _, List.length_modify ..⟩
    · exact ⟨_, rfl, rfl⟩
  obtain ⟨e, he, hlen⟩ := hended
  refine ⟨e, (hown s2 hlen _).trans ?_⟩
  rw [show s2.group (grpOf ch) = s1.group (grpOf ch) from rfl, he]

end Sys2Proof.Machine
end

section
/-! SRC: what every SRC begins with, NONE and DRIVE (R194, R217, R220). -/

namespace Sys2Proof.Machine

/-! ### What a SRC leaves in its context -/

/-- A context after SRC `k`: past the instruction with its source noted; NONE opens the switch, DRIVE closes it. -/
structure Ctx.SrcDone (k : Nat) (c d : Ctx) : Prop where
  src : d.src = k
  pc : d.pc = c.pc + 1
  runLen : d.runLen ≤ c.runLen + 1
  off : k = 0 → d.conductAt = none ∧ d.granted = false ∧ d.next = c.next + 25
  drive : k = 1 → d.conductAt.isSome = true ∧ d.conducted = true ∧ d.granted = false

theorem Ctx.SrcDone.of_steered {k : Nat} {c d e : Ctx} (h : c.SrcDone k d) (he : e.steered = d.steered) :
    c.SrcDone k e := by
  have hsrc : e.src = d.src := (congrArg Ctx.src he).trans rfl
  have hpc : e.pc = d.pc := (congrArg Ctx.pc he).trans rfl
  have hrun : e.runLen = d.runLen := (congrArg Ctx.runLen he).trans rfl
  have hat : e.conductAt = d.conductAt := (congrArg Ctx.conductAt he).trans rfl
  have hgranted : e.granted = d.granted := (congrArg Ctx.granted he).trans rfl
  have hnext : e.next = d.next := (congrArg Ctx.next he).trans rfl
  have hconducted : e.conducted = d.conducted := (congrArg Ctx.conducted he).trans rfl
  constructor <;> simp only [hsrc, hpc, hrun, hat, hgranted, hnext, hconducted]
  exacts [h.src, h.pc, h.runLen, h.off, h.drive]

/-- What tells of the claim is steered. -/
theorem Ctx.claim_of_steered {d e : Ctx} (h : e.steered = d.steered) : e.granted = d.granted ∧ e.phaseAt = d.phaseAt
    ∧ e.drv = d.drv ∧ e.drivePeak = d.drivePeak :=
  ⟨(congrArg Ctx.granted h).trans rfl, (congrArg Ctx.phaseAt h).trans rfl, (congrArg Ctx.drv h).trans rfl,
    (congrArg Ctx.drivePeak h).trans rfl⟩

/-- What is not steered matters as little before the SRC. -/
theorem Ctx.SrcDone.before {k : Nat} {c d e : Ctx} (h : c.SrcDone k d) (he : c.steered = e.steered) : e.SrcDone k d := by
  have hpc : c.pc = e.pc := (congrArg Ctx.pc he).trans rfl
  have hrun : c.runLen = e.runLen := (congrArg Ctx.runLen he).trans rfl
  have hnext : c.next = e.next := (congrArg Ctx.next he).trans rfl
  exact ⟨h.src, hpc ▸ h.pc, hrun ▸ h.runLen, hnext ▸ h.off, h.drive⟩

/-- The context of a SRC at `b` that has ended the phase before it and gone past. -/
def Ctx.srcBegun (c : Ctx) (b k : Nat) : Ctx :=
  { c.phaseEnded b with pc := c.pc + 1, next := c.next + 25, runLen := c.runLen + 1, src := k }

/-- What every SRC begins with: the phase before it ends, and the context goes past with the source noted. -/
def State.srcBegun (s : State) (ch b k : Nat) : State := ((s.endPhase ch b).past ch 1).updCtx ch fun c => { c with src := k }

theorem ChanStep.srcBegun {ch : Nat} {s t : State} (h : ChanStep ch s t) (b k : Nat) : ChanStep ch s (t.srcBegun ch b k) :=
  ((h.endPhase b).past 1).updCtx _

theorem State.srcBegun_ctx (s : State) {ch : Nat} (b k : Nat) (h : ch < s.valves.ch.length) :
    (s.srcBegun ch b k).ctx ch = (s.ctx ch).srcBegun b k := by
  have hended := (ChanStep.refl ch s).endPhase b
  refine (State.ctx_updCtx_same _ _ ((hended.past 1).chans ▸ h)).trans ?_
  rw [State.past_ctx _ 1 (hended.chans ▸ h), s.endPhase_ctx b h]
  rfl

theorem State.srcBegun_rest (s : State) (ch b k : Nat) : s.srcBegun ch b k = { s with valves := (s.srcBegun ch b k).valves } :=
  State.eq_of_parts (by simp [State.srcBegun])

/-! ### SRC NONE and SRC DRIVE -/

/-- SRC NONE opens the switch; a coil that carried current goes on decaying. -/
def Ctx.srcNone (c : Ctx) : Ctx :=
  { c with conductAt := none, decaying := c.decaying || c.conductAt.isSome, turned := c.decaying && c.turned
           decayWas := if c.decaying then c.decayWas else none }

theorem State.doSrc_none (s : State) (ch b : Nat) :
    s.doSrc ch b 0 = (((s.srcBegun ch b 0).updCtx ch Ctx.srcNone).noteReg ch b).setRail (grpOf ch) := rfl

/-- SRC DRIVE closes the switch at `m`. -/
def Ctx.srcDrive (m : Nat) (c : Ctx) : Ctx := { c with conductAt := some m, conducted := true, decaying := false }

/-- DRIVE conducts from the end of its cycle, or 100 ns later where the rail switch has left the boost. -/
theorem State.doSrc_drive (s : State) (ch b : Nat) : ∃ m, s.doSrc ch b 1
    = (((((((s.srcBegun ch b 1).cutClamp ch).updCtx ch (Ctx.srcDrive (b + 25))).setRail (grpOf ch)).updCtx ch
        fun c => { c with conductAt := some m }).noteReg ch m).countClamp ch) := ⟨_, rfl⟩

theorem State.doSrc_boost (s : State) (ch b : Nat) :
    s.doSrc ch b 2 = ((s.srcBegun ch b 2).cutClamp ch).requestClaim ch b := rfl

theorem ChanStep.doSrc_none {ch : Nat} {s t : State} (h : ChanStep ch s t) (b : Nat) : ChanStep ch s (t.doSrc ch b 0) := by
  rw [State.doSrc_none]
  exact (((h.srcBegun b 0).updCtx _).noteReg b).setRail

theorem ChanStep.doSrc_drive {ch : Nat} {s t : State} (h : ChanStep ch s t) (b : Nat) :
    ChanStep ch s (t.doSrc ch b 1) := by
  obtain ⟨m, hm⟩ := t.doSrc_drive ch b
  rw [hm]
  exact (((((h.srcBegun b 1).cutClamp).updCtx _).setRail.updCtx _).noteReg m).countClamp

theorem State.doSrc_none_rest (s : State) (ch b : Nat) : s.doSrc ch b 0
    = { s with valves := (s.doSrc ch b 0).valves, host := (s.doSrc ch b 0).host, cnt := (s.doSrc ch b 0).cnt } := by
  rw [State.doSrc_none, s.srcBegun_rest ch b 0]
  exact State.eq_of_parts (by simp)

theorem State.doSrc_none_done (s : State) {ch : Nat} (b : Nat) (h : ch < s.valves.ch.length) :
    (s.ctx ch).SrcDone 0 ((s.doSrc ch b 0).ctx ch) := by
  have hbegun := (ChanStep.refl ch s).srcBegun b 0
  have hdone : (s.ctx ch).SrcDone 0 ((s.ctx ch).srcBegun b 0).srcNone :=
    ⟨rfl, rfl, le_rfl, fun _ => ⟨rfl, rfl, rfl⟩, fun h => absurd h (by decide)⟩
  rw [State.doSrc_none]
  refine hdone.of_steered ?_
  rw [State.setRail_steered, State.noteReg_steered, State.ctx_updCtx_same _ _ (hbegun.chans ▸ h), s.srcBegun_ctx b 0 h]

/-- The context before the switch of a SRC DRIVE closes is that of the SRC's beginning, but for what is not steered. -/
theorem State.cutClamp_begun (s : State) {ch : Nat} (b k : Nat) (h : ch < s.valves.ch.length) :
    (((s.srcBegun ch b k).cutClamp ch).ctx ch).steered = ((s.ctx ch).srcBegun b k).steered := by
  rw [State.cutClamp_steered, s.srcBegun_ctx b k h]

theorem State.doSrc_drive_done (s : State) {ch : Nat} (b : Nat) (h : ch < s.valves.ch.length) :
    (s.ctx ch).SrcDone 1 ((s.doSrc ch b 1).ctx ch) := by
  have hcut := ((ChanStep.refl ch s).srcBegun b 1).cutClamp
  have hset := (hcut.updCtx (Ctx.srcDrive (b + 25))).setRail
  let u := (((s.srcBegun ch b 1).cutClamp ch).updCtx ch (Ctx.srcDrive (b + 25))).setRail (grpOf ch)
  have hu : (u.ctx ch).steered = (((s.ctx ch).srcBegun b 1).srcDrive (b + 25)).steered := by
    rw [State.setRail_steered, State.ctx_updCtx_same _ _ (hcut.chans ▸ h)]
    exact congrArg (Ctx.srcDrive (b + 25)) (s.cutClamp_begun b 1 h)
  have hdone (m : Nat) : (s.ctx ch).SrcDone 1 { ((s.ctx ch).srcBegun b 1).srcDrive (b + 25) with conductAt := some m } :=
    ⟨rfl, rfl, le_rfl, fun h => absurd h (by decide), fun _ => ⟨rfl, rfl, rfl⟩⟩
  obtain ⟨m, hm⟩ := s.doSrc_drive ch b
  rw [hm]
  refine (hdone m).of_steered ?_
  rw [State.countClamp_ctx, State.noteReg_steered, State.ctx_updCtx_same _ _ (hset.chans ▸ h)]
  exact congrArg (fun c : Ctx => { c with conductAt := some m }) hu

/-! #### A decay in FAST-CLAMP that SRC DRIVE cuts short (R194, log 160) -/

/-- The context decays in FAST-CLAMP after a FAST-RECOVER that has brought the reservoir to V_LIM. -/
abbrev Ctx.clamping (c : Ctx) : Bool := c.decaying && c.turned

theorem State.cutClamp_of_not {s : State} {ch : Nat} (h : (s.ctx ch).clamping = false) : s.cutClamp ch = s :=
  if_neg (Bool.eq_false_iff.1 h)

theorem State.cutClamp_of_clamping {s : State} {ch : Nat} (h : (s.ctx ch).clamping = true) : s.cutClamp ch
    = (({ s with free := s.free + 1 } : State).updQuad (quadOf ch) fun q =>
        { q with clampMj := q.clampMj + BitVec.ofNat 32 (Config.freeNat s.free) }).updCtx ch
          fun c => { c with turned := false } := if_pos h

/-- A SRC DRIVE that cuts no decay short uses no free value. -/
theorem State.doSrc_drive_rest {s : State} {ch : Nat} (b : Nat) (h : ch < s.valves.ch.length)
    (hcut : (s.ctx ch).clamping = false) : s.doSrc ch b 1
      = { s with valves := (s.doSrc ch b 1).valves, host := (s.doSrc ch b 1).host, cnt := (s.doSrc ch b 1).cnt } := by
  obtain ⟨m, hm⟩ := s.doSrc_drive ch b
  rw [hm, State.cutClamp_of_not (by rw [s.srcBegun_ctx b 1 h]; exact hcut), s.srcBegun_rest ch b 1]
  exact State.eq_of_parts (by simp)

/-- One that does uses one, which its quadrant counts. -/
theorem State.doSrc_drive_cuts {s : State} {ch : Nat} (b : Nat) (h : ch < s.valves.ch.length)
    (hcut : (s.ctx ch).clamping = true) :
    s.doSrc ch b 1 = { s with free := s.free + 1, valves := (s.doSrc ch b 1).valves
                              host := (s.doSrc ch b 1).host, cnt := (s.doSrc ch b 1).cnt }
      ∧ (quadOf ch < s.valves.quad.length → ((s.doSrc ch b 1).quad (quadOf ch)).clampMj
        = (s.quad (quadOf ch)).clampMj + BitVec.ofNat 32 (Config.freeNat s.free)) := by
  have hbegun := (ChanStep.refl ch s).srcBegun b 1
  have hfree : (s.srcBegun ch b 1).free = s.free := by rw [s.srcBegun_rest ch b 1]
  obtain ⟨m, hm⟩ := s.doSrc_drive ch b
  rw [hm, State.cutClamp_of_clamping (by rw [s.srcBegun_ctx b 1 h]; exact hcut), hfree]
  refine ⟨?_, fun hq => ?_⟩
  · rw [s.srcBegun_rest ch b 1]
    exact State.eq_of_parts (by simp)
  · have hquad {u v : State} (huv : u.valves.quad = v.valves.quad) (j : Nat) : u.quad j = v.quad j := by
      rw [State.quad, huv, State.quad]
    have hcounted := (s.srcBegun ch b 1).quad_updQuad (quadOf ch) (quadOf ch)
      (fun q => { q with clampMj := q.clampMj + BitVec.ofNat 32 (Config.freeNat s.free) }) (hbegun.quads ▸ hq)
    rw [if_pos rfl] at hcounted
    have hended : ((s.srcBegun ch b 1).quad (quadOf ch)).clampMj = (s.quad (quadOf ch)).clampMj :=
      s.endPhase_quad Quad.clampMj (fun _ _ => rfl) ch b (quadOf ch)
    rw [← hended]
    refine (congrArg Quad.clampMj ((hquad ?_ _).trans hcounted)).trans rfl
    simp only [State.countClamp_keeps, State.noteReg_quads, State.updCtx_quads, State.setRail_quads]
    rfl

end Sys2Proof.Machine
end

section
/-! SRC BOOST: the request for the boost claim, granted, refused or queued (R201 to R203, R220); and the row of SRC. -/

namespace Sys2Proof.Machine

/-- A request whose claim no other has taken on its tick is asked for as it stands. -/
theorem State.requestClaim_asks {s : State} {ch b : Nat}
    (h : ∀ x, (s.group (grpOf ch)).took = some x → x.2.1 ≠ b) : s.requestClaim ch b = s.askClaim ch b := by
  unfold State.requestClaim
  split
  next j m old htook =>
    have hm : m ≠ b := h _ htook
    simp [hm]
  next => rfl

/-- A context whose request is refused at `m` after a wait. -/
def Ctx.refused (m wait : Nat) (c : Ctx) : Ctx :=
  { c with st := .run, granted := false, claimAt := none, drv := true, drivePeak := true
           deferRail := c.deferRail + wait, conductAt := some (max m c.next), conducted := true, decaying := false
           next := max c.next (c.boundary m), runLen := if c.next ≤ m && 0 < wait then 0 else c.runLen }

theorem State.refuseClaim_eq (s : State) (ch m : Nat) : ∃ wait, s.refuseClaim ch m
    = ((((s.updGroup (grpOf ch) fun x => { x with queue := x.queue.filter (fun q => q.1 ≠ ch) }).updCtx ch
        (Ctx.refused m wait)).noteReg ch (max m (s.ctx ch).next)).setRail (grpOf ch)).countPhase ch := ⟨_, rfl⟩

/-- A context whose request is granted at `m` after a wait, with the reservoir low or not, and conducts `sw` later where
the rail switch changes. -/
def Ctx.grantedAt (m wait sw : Nat) (low : Bool) (c : Ctx) : Ctx :=
  { c with st := .run, granted := true, phaseAt := some m, claimAt := none
           lowb := c.lowb || low, lowBoost := c.lowBoost || low, deferRail := c.deferRail + wait
           conductAt := some (max m c.next + sw), conducted := true, decaying := false, next := max c.next (c.boundary m)
           runLen := if c.next ≤ m && 0 < wait then 0 else c.runLen }

theorem State.grantClaim_eq (s : State) (ch m : Nat) : ∃ wait sw low, s.grantClaim ch m
    = ((((s.updGroup (grpOf ch) fun x => { x with
        holder := some ch, queue := x.queue.filter (fun q => q.1 ≠ ch), took := some (ch, m, s.ctx ch) }).updCtx ch
          (Ctx.grantedAt m wait sw low)).noteReg ch (max m (s.ctx ch).next + sw)).setRail (grpOf ch)).countPhase ch :=
  ⟨_, _, _, rfl⟩

theorem State.refuseClaim_ctx (s : State) {ch : Nat} (m : Nat) (h : ch < s.valves.ch.length) :
    ∃ wait, ((s.refuseClaim ch m).ctx ch).steered = ((s.ctx ch).refused m wait).steered := by
  obtain ⟨wait, hw⟩ := s.refuseClaim_eq ch m
  refine ⟨wait, ?_⟩
  rw [hw, State.countPhase_steered, State.setRail_steered, State.noteReg_steered]
  exact congrArg Ctx.steered (State.ctx_updCtx_same (s.updGroup _ _) _ h)

theorem State.grantClaim_ctx (s : State) {ch : Nat} (m : Nat) (h : ch < s.valves.ch.length) :
    ∃ wait sw low, ((s.grantClaim ch m).ctx ch).steered = ((s.ctx ch).grantedAt m wait sw low).steered := by
  obtain ⟨wait, sw, low, hw⟩ := s.grantClaim_eq ch m
  refine ⟨wait, sw, low, ?_⟩
  rw [hw, State.countPhase_steered, State.setRail_steered, State.noteReg_steered]
  exact congrArg Ctx.steered (State.ctx_updCtx_same (s.updGroup _ _) _ h)

theorem State.grantClaim_holder (s : State) {ch : Nat} (m : Nat) (h : grpOf ch < s.valves.grp.length) :
    ((s.grantClaim ch m).group (grpOf ch)).holder = some ch := by
  have hgroup {u v : State} (huv : u.valves.grp = v.valves.grp) (g : Nat) : u.group g = v.group g := by
    rw [State.group, huv, State.group]
  obtain ⟨wait, sw, low, hw⟩ := s.grantClaim_eq ch m
  rw [hw, hgroup (State.countPhase_groups _ _), State.setRail_holder, hgroup (State.noteReg_groups ..)]
  exact congrArg Group.holder ((s.group_updGroup (grpOf ch) (grpOf ch) _ h).trans (if_pos rfl))

/-! ### The outcomes of a request -/

/-- A channel that has asked for the claim. -/
abbrev State.asking (s : State) (ch b : Nat) : State := s.updCtx ch fun c => { c with claimAt := some b }

theorem State.askClaim_refused {s : State} {ch : Nat} (b : Nat) (h : (s.quad (quadOf ch)).noBoost = true) :
    s.askClaim ch b = (s.asking ch b).refuseClaim ch b := if_pos h

/-- A claim that nobody holds or waits for is granted. -/
theorem State.askClaim_granted {s : State} {ch : Nat} (b : Nat) (h : (s.quad (quadOf ch)).noBoost = false)
    (hholder : (s.group (grpOf ch)).holder = none) (hqueue : (s.group (grpOf ch)).queue = []) :
    s.askClaim ch b = (s.asking ch b).grantClaim ch b := by
  unfold State.askClaim
  dsimp only
  rw [if_neg (by exact Bool.eq_false_iff.1 h), if_pos (by simp [hholder, hqueue])]

theorem Ctx.SrcDone.refused {c d : Ctx} (h : c.SrcDone 2 d) (m wait : Nat) : c.SrcDone 2 (d.refused m wait) := by
  refine ⟨h.src, h.pc, ?_, fun h => absurd h (by decide), fun h => absurd h (by decide)⟩
  unfold Ctx.refused
  dsimp only
  split
  · exact Nat.zero_le _
  · exact h.runLen

theorem Ctx.SrcDone.grantedAt {c d : Ctx} (h : c.SrcDone 2 d) (m wait sw : Nat) (low : Bool) :
    c.SrcDone 2 (d.grantedAt m wait sw low) := by
  refine ⟨h.src, h.pc, ?_, fun h => absurd h (by decide), fun h => absurd h (by decide)⟩
  unfold Ctx.grantedAt
  dsimp only
  split
  · exact Nat.zero_le _
  · exact h.runLen

/-- A context with its request, or one that waits for its grant, is past the SRC as it was. -/
theorem Ctx.SrcDone.asking {c d : Ctx} (h : c.SrcDone 2 d) (b : Nat) : c.SrcDone 2 { d with claimAt := some b } :=
  ⟨h.src, h.pc, h.runLen, fun h => absurd h (by decide), fun h => absurd h (by decide)⟩

theorem Ctx.SrcDone.waiting {c d : Ctx} (h : c.SrcDone 2 d) : c.SrcDone 2 { d with st := .claim, conductAt := none } :=
  ⟨h.src, h.pc, h.runLen, fun h => absurd h (by decide), fun h => absurd h (by decide)⟩

theorem State.askClaim_done {s : State} {c : Ctx} {ch : Nat} (b : Nat) (h : ch < s.valves.ch.length)
    (hc : c.SrcDone 2 (s.ctx ch)) : c.SrcDone 2 ((s.askClaim ch b).ctx ch) := by
  have hlen : ch < (s.asking ch b).valves.ch.length := by rwa [State.updCtx_chans]
  have hasking : c.SrcDone 2 ((s.asking ch b).ctx ch) := by
    rw [s.ctx_updCtx_same _ h]
    exact hc.asking b
  have hrefused : c.SrcDone 2 (((s.asking ch b).refuseClaim ch b).ctx ch) := by
    obtain ⟨wait, hw⟩ := (s.asking ch b).refuseClaim_ctx b hlen
    exact (hasking.refused b wait).of_steered hw
  have hgranted : c.SrcDone 2 (((s.asking ch b).grantClaim ch b).ctx ch) := by
    obtain ⟨wait, sw, low, hw⟩ := (s.asking ch b).grantClaim_ctx b hlen
    exact (hasking.grantedAt b wait sw low).of_steered hw
  unfold State.askClaim
  extract_lets g grp a left q
  split
  · exact hrefused
  split
  · exact hgranted
  split
  · exact hrefused
  · refine hasking.waiting.of_steered ?_
    rw [State.setRail_steered, State.updGroup_ctx, State.noteReg_steered, State.ctx_updCtx_same _ _ hlen]

/-! ### SRC BOOST -/

theorem State.cutClamp_noBoost (s : State) (ch j : Nat) : ((s.cutClamp ch).quad j).noBoost = (s.quad j).noBoost := by
  unfold State.cutClamp
  split
  · refine State.updQuad_part Quad.noBoost ?_ s.takeFree.2 (quadOf ch) j
    exact fun _ => rfl
  · rfl

/-- The state in which a SRC BOOST at `b` asks for its claim. -/
def State.boostBegun (s : State) (ch b : Nat) : State := (s.srcBegun ch b 2).cutClamp ch

theorem ChanStep.boostBegun {ch : Nat} {s t : State} (h : ChanStep ch s t) (b : Nat) : ChanStep ch s (t.boostBegun ch b) :=
  (h.srcBegun b 2).cutClamp

theorem State.boostBegun_done (s : State) {ch : Nat} (b : Nat) (h : ch < s.valves.ch.length) :
    (s.ctx ch).SrcDone 2 ((s.boostBegun ch b).ctx ch) := by
  have hbegun : (s.ctx ch).SrcDone 2 ((s.ctx ch).srcBegun b 2) :=
    ⟨rfl, rfl, le_rfl, fun h => absurd h (by decide), fun h => absurd h (by decide)⟩
  exact hbegun.of_steered (s.cutClamp_begun b 2 h)

theorem State.boostBegun_noBoost (s : State) (ch b j : Nat) :
    ((s.boostBegun ch b).quad j).noBoost = (s.quad j).noBoost :=
  ((s.srcBegun ch b 2).cutClamp_noBoost ch j).trans (s.endPhase_quad Quad.noBoost (fun _ _ => rfl) ch b j)

/-- The group as the phase before the SRC has left it. -/
theorem State.boostBegun_group (s : State) {ch : Nat} (b : Nat) (h : grpOf ch < s.valves.grp.length) :
    ∃ e, (s.boostBegun ch b).group (grpOf ch) = { s.group (grpOf ch) with
      boostEnd := e
      holder := if (s.group (grpOf ch)).holder = some ch then none else (s.group (grpOf ch)).holder
      queue := (s.group (grpOf ch)).queue.filter (fun q => q.1 ≠ ch) } := by
  rw [State.boostBegun, State.group, State.cutClamp_groups]
  exact s.endPhase_group b h

/-- A SRC BOOST asks for the claim as it stands where no other channel has taken it on the tick. -/
theorem State.doSrc_boost_asks {s : State} {ch b : Nat} (h : grpOf ch < s.valves.grp.length)
    (htook : ∀ x, (s.group (grpOf ch)).took = some x → x.2.1 ≠ b) :
    s.doSrc ch b 2 = (s.boostBegun ch b).askClaim ch b := by
  obtain ⟨e, he⟩ := s.boostBegun_group b h
  exact State.requestClaim_asks (s := s.boostBegun ch b) (by rw [he]; exact htook)

section Boost

variable {s : State} {ch b : Nat} (h : s.hasCh ch) (htook : ∀ x, (s.group (grpOf ch)).took = some x → x.2.1 ≠ b)
include h htook

theorem ChanStep.doSrc_boost : ChanStep ch s (s.doSrc ch b 2) := by
  rw [State.doSrc_boost_asks h.2 htook]
  exact ((ChanStep.refl ch s).boostBegun b).askClaim b

theorem State.doSrc_boost_done : (s.ctx ch).SrcDone 2 ((s.doSrc ch b 2).ctx ch) := by
  rw [State.doSrc_boost_asks h.2 htook]
  exact State.askClaim_done b (((ChanStep.refl ch s).boostBegun b).chans ▸ h.1) (s.boostBegun_done b h.1)

/-- A claim that nobody holds or waits for is granted to the SRC. -/
theorem State.doSrc_boost_granted (hboost : (s.quad (quadOf ch)).noBoost = false)
    (hholder : (s.group (grpOf ch)).holder = none) (hqueue : (s.group (grpOf ch)).queue = []) :
    ((s.doSrc ch b 2).ctx ch).granted = true ∧ ((s.doSrc ch b 2).group (grpOf ch)).holder = some ch
      ∧ ((s.doSrc ch b 2).ctx ch).phaseAt = some b := by
  have hstep := ((ChanStep.refl ch s).boostBegun b).updCtx fun c => { c with claimAt := some b }
  obtain ⟨e, he⟩ := s.boostBegun_group b h.2
  obtain ⟨wait, sw, low, hctx⟩ := ((s.boostBegun ch b).asking ch b).grantClaim_ctx b (hstep.chans ▸ h.1)
  rw [State.doSrc_boost_asks h.2 htook, State.askClaim_granted b (by rw [State.boostBegun_noBoost, hboost])
    (by rw [he]; simp [hholder]) (by rw [he]; simp [hqueue])]
  obtain ⟨hgranted, hphase, -⟩ := Ctx.claim_of_steered hctx
  exact ⟨hgranted, State.grantClaim_holder _ b (hstep.groups ▸ h.2), hphase⟩

/-- A boost that fails, or is bad, refuses the SRC. -/
theorem State.doSrc_boost_refused (hboost : (s.quad (quadOf ch)).noBoost = true) :
    ((s.doSrc ch b 2).ctx ch).granted = false ∧ ((s.doSrc ch b 2).ctx ch).drv = true
      ∧ ((s.doSrc ch b 2).ctx ch).drivePeak = true := by
  have hstep := ((ChanStep.refl ch s).boostBegun b).updCtx fun c => { c with claimAt := some b }
  obtain ⟨wait, hctx⟩ := ((s.boostBegun ch b).asking ch b).refuseClaim_ctx b (hstep.chans ▸ h.1)
  rw [State.doSrc_boost_asks h.2 htook, State.askClaim_refused b (by rw [State.boostBegun_noBoost, hboost])]
  obtain ⟨hgranted, -, hdrv, hpeak⟩ := Ctx.claim_of_steered hctx
  exact ⟨hgranted, hdrv, hpeak⟩

end Boost

/-! ### The row -/

section Due

variable {s : State} {dt ch mv : Nat}

theorem execSeqSrc_none (h : SeqDue s dt ch (.src 0)) : Completes (.seqSrc dt ch mv false) s (fun t =>
    (s.ctx ch).SrcDone 0 (t.ctx ch) ∧ SeqStep s dt ch t) := by
  obtain ⟨⟨hlen, -⟩, -, -, -, hshort, -⟩ := id h
  have hdone := (s.advance dt).doSrc_none_done (s.ctx ch).next hlen
  refine completes_of_due (r := (s.advance dt).doSrc ch (s.ctx ch).next 0) rfl h rfl (fun _ => ?_)
    ⟨hdone, ((ChanStep.refl ch _).doSrc_none _).seqStep ?_⟩
  · exact hdone.runLen.trans_lt (Nat.succ_lt_succ hshort)
  · exact State.doSrc_none_rest ..

theorem execSeqSrc_drive (h : SeqDue s dt ch (.src 1)) : Completes (.seqSrc dt ch mv false) s (fun t =>
    (s.ctx ch).SrcDone 1 (t.ctx ch)
    ∧ ((s.ctx ch).clamping = false → SeqStep s dt ch t)
    ∧ ((s.ctx ch).clamping = true → SeqStep { s with free := s.free + 1 } dt ch t
        ∧ (quadOf ch < s.valves.quad.length →
          (t.quad (quadOf ch)).clampMj = (s.quad (quadOf ch)).clampMj + BitVec.ofNat 32 (Config.freeNat s.free)))) := by
  obtain ⟨⟨hlen, -⟩, -, -, -, hshort, -⟩ := id h
  have hdone := (s.advance dt).doSrc_drive_done (s.ctx ch).next hlen
  have hstep := (ChanStep.refl ch (s.advance dt)).doSrc_drive (s.ctx ch).next
  refine completes_of_due (r := (s.advance dt).doSrc ch (s.ctx ch).next 1) rfl h rfl
    (fun _ => hdone.runLen.trans_lt (Nat.succ_lt_succ hshort)) ⟨hdone, fun hno => ?_, fun hcut => ?_⟩
  · exact hstep.seqStep (State.doSrc_drive_rest (s := s.advance dt) _ hlen hno)
  · obtain ⟨hrest, hmj⟩ := State.doSrc_drive_cuts (s := s.advance dt) (s.ctx ch).next hlen hcut
    exact ⟨⟨hrest, hstep.chan_of_ne, hstep.chan_of_far, hstep.group_of_ne⟩, hmj⟩

theorem execSeqSrc_boost (h : SeqDue s dt ch (.src 2))
    (htook : ∀ x, (s.group (grpOf ch)).took = some x → x.2.1 ≠ (s.ctx ch).next) :
    Completes (.seqSrc dt ch mv false) s (fun t => (s.ctx ch).SrcDone 2 (t.ctx ch)
      ∧ ((s.quad (quadOf ch)).noBoost = false → (s.group (grpOf ch)).holder = none → (s.group (grpOf ch)).queue = [] →
          (t.ctx ch).granted = true ∧ (t.group (grpOf ch)).holder = some ch ∧ (t.ctx ch).phaseAt = some (s.ctx ch).next)
      ∧ ((s.quad (quadOf ch)).noBoost = true →
          (t.ctx ch).granted = false ∧ (t.ctx ch).drv = true ∧ (t.ctx ch).drivePeak = true)
      ∧ t = { s.advance dt with valves := t.valves, pwr := t.pwr, cnt := t.cnt, free := t.free }
      ∧ t.pwr = { s.pwr with res := s.pwr.res.set (quadOf ch) mv } ∧ (∀ g, g ≠ grpOf ch → t.group g = s.group g)
      ∧ (mv < s.pwr.vLim.getD (quadOf ch) 0 →
          ∀ j, j ≠ ch → t.chan j = { s.chan j with ctx := { s.ctx j with loadFrom := (t.ctx j).loadFrom } })) := by
  obtain ⟨⟨hlen, hgrp⟩, -, -, -, hshort, -⟩ := id h
  let r := (s.advance dt).readRes (quadOf ch) mv
  have hr : r.hasCh ch := ⟨((s.advance dt).readRes_chans ..).symm ▸ hlen, ((s.advance dt).readRes_groups ..).symm ▸ hgrp⟩
  have hgroup (g : Nat) : r.group g = s.group g := by
    rw [State.group, (s.advance dt).readRes_groups]
    rfl
  have hsteered : (r.ctx ch).steered = (s.ctx ch).steered := State.readRes_steered ..
  have hnoBoost : (r.quad (quadOf ch)).noBoost = (s.quad (quadOf ch)).noBoost := State.readRes_noBoost ..
  have htook' : ∀ x, (r.group (grpOf ch)).took = some x → x.2.1 ≠ (s.ctx ch).next := by rwa [hgroup]
  have hdone := (State.doSrc_boost_done hr htook').before hsteered
  have hstep := ChanStep.doSrc_boost hr htook'
  refine completes_of_due (r := r.doSrc ch (s.ctx ch).next 2) rfl h rfl
    (fun _ => hdone.runLen.trans_lt (Nat.succ_lt_succ hshort)) ⟨hdone, fun hboost hholder hqueue => ?_, fun hboost => ?_,
      State.eq_of_parts (by simp [r]), ?_, fun g hg => ?_, fun hlow j hj => ?_⟩
  · exact State.doSrc_boost_granted hr htook' (hnoBoost.trans hboost) (by rwa [hgroup]) (by rwa [hgroup])
  · exact State.doSrc_boost_refused hr htook' (hnoBoost.trans hboost)
  · rw [show (r.doSrc ch (s.ctx ch).next 2).pwr = r.pwr by simp]
    exact State.readRes_pwr ..
  · exact (hstep.group_of_ne g hg).trans (hgroup g)
  · refine (hstep.chan_of_ne j hj).trans ?_
    rw [show r.chan j = s.chan j from State.readRes_chan (s := s.advance dt) hlow j]
    rfl

end Due

/-- SRC NONE, DRIVE and BOOST are the sources that decode (R216). -/
theorem src_cases_of_due {s : State} {dt ch : Nat} {k : BitVec 2} (h : SeqDue s dt ch (.src k)) :
    k = 0 ∨ k = 1 ∨ k = 2 := by
  obtain ⟨-, -, -, -, -, hword⟩ := h
  have hk : k ≠ 3 := by simpa [SeqInstr.wf] using wf_of_decodeSeq hword
  clear hword
  revert k
  decide

/-- Settles O34: what SRC does for each of its sources, and one lemma for each of the other instructions. -/
theorem seqInstrRows : Obligations.SeqInstrRows := by
  refine ⟨fun s dt ch mv k h htook => ?_, fun _ _ _ _ _ _ _ h => execSeqItgt_sets h,
    fun _ _ _ _ _ h => execSeqWaitt_waits h, fun _ _ _ _ _ _ h => execSeqArm_arms h,
    fun _ _ _ _ h => execSeqDecay_sets h, fun _ _ _ _ _ _ _ h => execSeqMark_enters h,
    fun _ _ _ h => execSeqHoldw_holds h, fun _ _ _ h => execSeqEnd_ends h,
    fun _ _ _ _ hc hst hwait hm => execWaittExpiry_ends hc hst hwait hm⟩
  rcases src_cases_of_due h with rfl | rfl | rfl
  case inl =>
    obtain ⟨t, ht, hdone, hstep⟩ := execSeqSrc_none (mv := mv) h
    exact ⟨t, ht, hdone.src, hdone.pc, fun _ => hdone.off rfl, (absurd · (by decide)), (absurd · (by decide)),
      (absurd · (by decide)), fun _ => hstep, (absurd · (by decide)), (absurd · (by decide))⟩
  case inr.inl =>
    obtain ⟨t, ht, hdone, hstep, hcut⟩ := execSeqSrc_drive (mv := mv) h
    refine ⟨t, ht, hdone.src, hdone.pc, (absurd · (by decide)), fun _ => hdone.drive rfl, (absurd · (by decide)),
      (absurd · (by decide)), ?_, fun _ hdecaying hturned => hcut (by simp [hdecaying, hturned]), (absurd · (by decide))⟩
    rintro (hk | ⟨-, hno⟩)
    · exact absurd hk (by decide)
    · exact hstep ((Bool.and_eq_false_iff ..).2 hno)
  case inr.inr =>
    obtain ⟨t, ht, hdone, hgranted, hrefused, hrest⟩ := execSeqSrc_boost (mv := mv) h (htook rfl)
    refine ⟨t, ht, hdone.src, hdone.pc, (absurd · (by decide)), (absurd · (by decide)), fun _ => hgranted,
      fun _ => hrefused, ?_, (absurd · (by decide)), fun _ => hrest⟩
    rintro (hk | ⟨hk, -⟩) <;> exact absurd hk (by decide)

end Sys2Proof.Machine
end

section
/-! What the operations of one sample do to a rate loop, and the parts of the module that they may change (R234 to R253). -/

namespace Sys2Proof.Machine

/-! ### One loop of the list -/

@[simp] theorem State.updLoop_length (s : State) (n : Nat) (f : Loop → Loop) :
    (s.updLoop n f).loops.loop.length = s.loops.loop.length := List.length_modify ..

theorem State.loop_updLoop {s : State} {n : Nat} (hn : n < s.loops.loop.length) (j : Nat) (f : Loop → Loop) :
    (s.updLoop n f).loop j = if j = n then f (s.loop j) else s.loop j := getD_modify _ _ _ f _ hn

@[simp] theorem State.loop_updLoop_self {s : State} {n : Nat} (hn : n < s.loops.loop.length) (f : Loop → Loop) :
    (s.updLoop n f).loop n = f (s.loop n) := by
  rw [State.loop_updLoop hn, if_pos rfl]

/-- What an update keeps of a loop's data, it keeps of every loop, wherever it stands. -/
theorem State.updLoop_proj {β : Type} (p : Loop → β) (s : State) (n j : Nat) {f : Loop → Loop}
    (hf : ∀ l, p (f l) = p l) : p ((s.updLoop n f).loop j) = p (s.loop j) := by
  simp only [State.loop, State.updLoop, List.getD_eq_getElem?_getD, List.getElem?_modify]
  cases s.loops.loop[j]? with
  | none => rfl
  | some l => by_cases hnj : n = j <;> simp [hnj, hf]

theorem State.loop_of_loops {s t : State} (h : t.loops = s.loops) (n : Nat) : t.loop n = s.loop n := by
  rw [State.loop, h, State.loop]

/-! ### What a sample may change -/

/-- Between `s` and `t` a part of one tick's samples has run: loops and trace units, frames and mail slots, free values, the
host interface and the counters may have changed, no loop is added or gone, and no command is new. -/
structure LoopStep (s t : State) : Prop where
  parts : t = { s with
    loops := { s.loops with appliedAt := t.loops.appliedAt, loop := t.loops.loop, trace := t.loops.trace },
    can := t.can, host := t.host, free := t.free, cnt := t.cnt }
  length : t.loops.loop.length = s.loops.loop.length
  outstanding : t.host.outstanding ⊆ s.host.outstanding

namespace LoopStep

theorem refl (s : State) : LoopStep s s := ⟨rfl, rfl, List.Subset.refl _⟩

variable {s t u : State}

theorem trans (h : LoopStep s t) (h' : LoopStep t u) : LoopStep s u where
  parts := by rw [h'.parts, h.parts]
  length := h'.length.trans h.length
  outstanding := List.Subset.trans h'.outstanding h.outstanding

theorem each {α : Type} {f : State → α → State} (hf : ∀ u x, LoopStep u (f u x)) (s : State) (xs : List α) :
    LoopStep s (s.each xs f) := State.each_keeps (P := LoopStep s) (fun u x hu => hu.trans (hf u x)) xs (.refl s)

theorem ite (h : LoopStep s t) (h' : LoopStep s u) (c : Prop) [Decidable c] : LoopStep s (if c then t else u) := by
  split
  · exact h
  · exact h'

/-! #### What stays as it was -/

section
variable (h : LoopStep s t)
include h

theorem now : t.now = s.now := by rw [State.now, h.parts, State.now]

theorem acts : t.acts = s.acts := by rw [h.parts]

theorem cfgI (f : Fld) (i : Nat) : t.cfgI f i = s.cfgI f i := by rw [State.cfgI, h.parts, State.cfgI]

theorem cfgN (f : Fld) (i : Nat) : t.cfgN f i = s.cfgN f i := by rw [State.cfgN, h.cfgI, State.cfgN]

theorem ls (n : Nat) : t.ls n = s.ls n := by rw [State.ls, h.parts, State.ls]

theorem chan (n : Nat) : t.chan n = s.chan n := by rw [State.chan, h.parts, State.chan]

theorem outstanding_nil (hs : s.host.outstanding = []) : t.host.outstanding = [] :=
  List.eq_nil_of_subset_nil (hs ▸ h.outstanding)

/-- Whether a sink is lost depends on the loop's last sample beside what a sample leaves alone (R238). -/
theorem sinkLost {n : Nat} (hsampled : (t.loop n).sampled = (s.loop n).sampled) : t.sinkLost n = s.sinkLost n := by
  have hlost (b : Bool) (m : Option Nat) : (t.loop n).lostTo b m = (s.loop n).lostTo b m := by
    simp only [Loop.lostTo, hsampled]
  have hunit (k : Nat) : t.lsUnit k = s.lsUnit k := by
    rw [State.lsUnit, State.pairMode, h.cfgN, State.lsUnit, State.pairMode]
  simp only [State.sinkLost, State.sink, h.cfgI, hunit, h.ls, h.chan, hlost]

end

/-! #### The operations -/

theorem updLoop (s : State) (n : Nat) (f : Loop → Loop) : LoopStep s (s.updLoop n f) :=
  ⟨rfl, s.updLoop_length n f, List.Subset.refl _⟩

theorem updTrace (s : State) (n : Nat) (f : Trace → Trace) : LoopStep s (s.updTrace n f) :=
  ⟨rfl, rfl, List.Subset.refl _⟩

theorem raise (s : State) (code subject : Nat) (data : List (Nat × Nat × Nat)) (urgent : Bool) :
    LoopStep s (s.raise code subject data urgent) :=
  ⟨State.eq_of_parts (by simp), by simp, by simp⟩

theorem finish (s : State) (w : Waiting) (st : Status) (res : BitVec 128) : LoopStep s (s.finish w st res) := by
  refine ⟨State.eq_of_parts (by simp), by simp, ?_⟩
  rw [State.finish_outstanding]
  exact List.filter_subset_self _

theorem loopField (s : State) (n : Nat) (u : Int) : LoopStep s (s.loopField n u) :=
  ⟨State.eq_of_parts (by simp), by simp, by simp⟩

theorem setOut (s : State) (n : Nat) (u : Int) : LoopStep s (s.setOut n u) :=
  (updLoop s n _).trans (loopField ..)

theorem holdSlot (s : State) (b n : Nat) : LoopStep s (s.holdSlot b n) :=
  ⟨rfl, rfl, List.Subset.refl _⟩

theorem applyOutputs (s : State) : LoopStep s s.applyOutputs := by
  unfold State.applyOutputs
  split
  · exact refl s
  · refine trans (each (fun u n => ?_) s _) ⟨rfl, rfl, List.Subset.refl _⟩
    exact ite (loopField ..) ((updLoop ..).trans (loopField ..)) _

theorem noteSat (s : State) (n : Nat) (c : BitVec 5) : LoopStep s (s.noteSat n c) := by
  unfold State.noteSat
  exact ite (updLoop ..) ((updLoop ..).trans (raise ..)) _

theorem outerTakes (s : State) (n : Nat) : LoopStep s (s.outerTakes n) := by
  unfold State.outerTakes
  dsimp only
  split
  · refine ite (.trans (updLoop ..) (ite (refl _) (.trans (noteSat ..) (updLoop ..)) _)) (refl s) _
  · exact refl s

theorem closeLoop (s : State) (n : Nat) : LoopStep s (s.closeLoop n) := (updLoop s n _).trans (outerTakes ..)

theorem loopSafe (s : State) (n : Nat) : LoopStep s (s.loopSafe n) := (setOut s n _).trans (updLoop ..)

theorem loopTarget (s : State) (n : Nat) : LoopStep s (s.loopTarget n) := updLoop s n _

theorem loopLaw (s : State) (n : Nat) : LoopStep s (s.loopLaw n) := (updLoop s n _).trans (noteSat ..)

theorem recordTraces (s : State) (n : Nat) (faulted closed : Bool) : LoopStep s (s.recordTraces n faulted closed) :=
  each (fun _ _ => ite (updTrace ..) (refl _) _) s _

theorem loopCmd (s : State) (n : Nat) (w : Waiting) : LoopStep s (s.loopCmd n w) := by
  unfold State.loopCmd
  dsimp only
  split
  · exact finish ..
  · split
    · exact ite (finish ..) (ite (finish ..) (ite ((closeLoop ..).trans (finish ..)) (finish ..) _) _) _
    · refine ite (finish ..) (ite (.trans (ite (setOut ..) (refl s) _) (finish ..)) (.trans ?_ (finish ..)) _) _
      exact (ite (setOut ..) (setOut ..) _).trans (updLoop ..)
    · exact ite (finish ..) ((updLoop ..).trans (finish ..)) _
    · exact ite (finish ..) ((setOut ..).trans (finish ..)) _
    · exact ite (finish ..) ((updLoop ..).trans (finish ..)) _
    · exact ite (finish ..) (ite (finish ..) (((loopSafe ..).trans (updLoop ..)).trans (finish ..)) _) _
    · exact refl s

end LoopStep

end Sys2Proof.Machine
end

section
/-! The steps of one sample: outputs, measurement, target and law (R238 to R251). -/

namespace Sys2Proof.Machine

/-! ### Step 1: the outputs (R239) -/

/-- A loop whose output of the sample before is in force. -/
def Loop.applied (l : Loop) : Loop := { l with uOut := l.uNext }

/-- One loop's output is applied. -/
def State.applyOutput (s : State) (m : Nat) : State :=
  let u := (s.loop m).uNext
  if (s.loop m).uOut = u then s.loopField m u
  else (s.updLoop m (fun l => { l with uOut := u })).loopField m u

theorem State.applyOutputs_eq (s : State) : s.applyOutputs = if s.loops.appliedAt = some s.now then s else
    let t := s.each ((List.range 32).filter s.sampleDue) State.applyOutput
    { t with loops := { t.loops with appliedAt := some t.now } } := rfl

theorem LoopStep.applyOutput (s : State) (m : Nat) : LoopStep s (s.applyOutput m) :=
  .ite (.loopField ..) ((LoopStep.updLoop ..).trans (.loopField ..)) _

@[simp] theorem State.loopField_loop (s : State) (m n : Nat) (u : Int) : (s.loopField m u).loop n = s.loop n :=
  State.loop_of_loops (by simp) n

theorem State.applyOutput_loop {s : State} {m : Nat} (hm : m < s.loops.loop.length) :
    (s.applyOutput m).loop m = (s.loop m).applied := by
  unfold State.applyOutput Loop.applied
  dsimp only
  split
  next hu => exact (State.loopField_loop ..).trans (congrArg (fun u => { s.loop m with uOut := u }) hu)
  next => rw [State.loopField_loop, State.loop_updLoop_self hm]

theorem State.applyOutput_loop_of_ne (s : State) {m n : Nat} (hmn : m ≠ n) : (s.applyOutput m).loop n = s.loop n := by
  unfold State.applyOutput
  dsimp only
  split
  · rw [State.loopField_loop]
  · rw [State.loopField_loop]
    simp [State.loop, State.updLoop, List.getD_eq_getElem?_getD, hmn]

/-- A due loop's output comes into force once in a tick (R238). -/
theorem State.applyOutputs_loop {s : State} {n : Nat} (hn : n < s.loops.loop.length) (hdue : s.sampleDue n = true) :
    s.applyOutputs.loop n = if s.loops.appliedAt = some s.now then s.loop n else (s.loop n).applied := by
  rw [State.applyOutputs_eq]
  split
  case isTrue => rfl
  case isFalse =>
    have hlt : n < 32 := by
      simp only [State.sampleDue, State.loopOn, Bool.and_eq_true, decide_eq_true_eq] at hdue
      omega
    have hmem : n ∈ (List.range 32).filter s.sampleDue := List.mem_filter.2 ⟨List.mem_range.2 hlt, hdue⟩
    refine State.each_once (I := fun u => u.loops.loop.length = s.loops.loop.length ∧ u.loop n = s.loop n)
      (P := fun u => u.loop n = (s.loop n).applied) (List.nodup_range.filter _) hmem (fun u m hm hu => ?_)
      (fun u hu => ?_) (fun u m hm hu => (u.applyOutput_loop_of_ne hm).trans hu) ⟨rfl, rfl⟩
    · exact ⟨(LoopStep.applyOutput u m).length.trans hu.1, (u.applyOutput_loop_of_ne hm).trans hu.2⟩
    · rw [State.applyOutput_loop (hu.1 ▸ hn), hu.2]

/-! ### Step 2: the measurement (R234, R235, R250) -/

/-- A loop with a new measurement: its value, and whether it is valid. -/
def Loop.measured (l : Loop) (y : Int) (ok : Bool) (now : Nat) : Loop :=
  { l with measOk := ok, justClosed := false, conds := if ok && overQ y then 16 else 0,
           n := { l.n with y := if ok then satQ y else l.n.y },
           yValid := if ok then some (satQ y) else l.yValid,
           holdFrom := if ok then none else if l.st == LoopSt.closed then (match l.holdFrom with
             | some m => some m
             | none => some now) else none }

/-- The reader's hold on the mail slot that a loop measures from (R322). -/
def State.holdSource (s : State) (n : Nat) : State :=
  match decodeMSrc (s.cfgI .mSrc n) with
  | .can b sl _ _ _ => s.holdSlot b sl
  | _ => s

/-- Loop `n` has measured, and no fault is decided yet. -/
def State.measuring (s : State) (n : Nat) : State :=
  let t := s.holdSource n
  t.updLoop n (fun l => l.measured (t.measure n (s.rawOf n).1) (s.rawOf n).2 t.now)

/-- The measurement of loop `n` has been invalid for MEAS_HOLD (R250). -/
def State.measGone (s : State) (n : Nat) : Bool :=
  match (s.loop n).holdFrom with
  | some m => (s.loop n).st == LoopSt.closed && decide (m + s.cfgN .measHold n * msTicks ≤ s.now)
  | none => false

theorem State.loopMeasure_eq (s : State) (n : Nat) :
    s.loopMeasure n = if (s.measuring n).measGone n then (s.measuring n).loopFault n 1
      else if ((s.measuring n).loop n).st != LoopSt.faulted && (s.measuring n).sinkLost n then
        (s.measuring n).loopFault n 3
      else s.measuring n := rfl

theorem LoopStep.holdSource (s : State) (n : Nat) : LoopStep s (s.holdSource n) := by
  unfold State.holdSource
  split
  · exact .holdSlot ..
  · exact .refl s

theorem State.holdSource_loop (s : State) (n j : Nat) : (s.holdSource n).loop j = s.loop j := by
  refine State.loop_of_loops ?_ j
  unfold State.holdSource
  split <;> rfl

theorem LoopStep.measuring (s : State) (n : Nat) : LoopStep s (s.measuring n) :=
  (LoopStep.holdSource s n).trans (.updLoop ..)

theorem State.measuring_loop {s : State} {n : Nat} (hn : n < s.loops.loop.length) :
    (s.measuring n).loop n = (s.loop n).measured (s.measure n (s.rawOf n).1) (s.rawOf n).2 s.now := by
  have hstep := LoopStep.holdSource s n
  have hy (raw : Int) : (s.holdSource n).measure n raw = s.measure n raw := by
    rw [State.measure, hstep.cfgI, hstep.cfgI, State.measure]
  rw [State.measuring, State.loop_updLoop_self (hstep.length.symm ▸ hn), State.holdSource_loop, hy, hstep.now]

/-- A loop whose measurement is valid, or that is not CLOSED, and whose sink is there measures without a fault. -/
theorem State.loopMeasure_of_kept {s : State} {n : Nat} (hn : n < s.loops.loop.length)
    (hmeas : (s.rawOf n).2 = true ∨ (s.loop n).st ≠ .closed) (hsink : s.sinkLost n = false) :
    s.loopMeasure n = s.measuring n := by
  have hloop := State.measuring_loop hn
  have hgone : (s.measuring n).measGone n = false := by
    have hnone : ((s.measuring n).loop n).holdFrom = none := by
      rw [hloop]
      rcases hmeas with h | h <;> simp [Loop.measured, h]
    rw [State.measGone, hnone]
  have hlost : (s.measuring n).sinkLost n = false :=
    ((LoopStep.measuring s n).sinkLost (by rw [hloop]; rfl)).trans hsink
  simp [State.loopMeasure_eq, hgone, hlost]

/-- A CLOSED loop whose measurement has been invalid for MEAS_HOLD faults (R250). -/
theorem State.loopMeasure_of_gone {s : State} {n m : Nat} (hn : n < s.loops.loop.length)
    (hst : (s.loop n).st = .closed) (hbad : (s.rawOf n).2 = false) (hfrom : (s.loop n).holdFrom = some m)
    (hheld : m + s.cfgN .measHold n * msTicks ≤ s.now) : s.loopMeasure n = (s.measuring n).loopFault n 1 := by
  have hstep := LoopStep.measuring s n
  have hloop := State.measuring_loop hn
  have hfrom' : ((s.measuring n).loop n).holdFrom = some m := by simp [hloop, Loop.measured, hbad, hst, hfrom]
  have hst' : ((s.measuring n).loop n).st = .closed := by rw [hloop]; exact hst
  have hgone : (s.measuring n).measGone n = true := by
    rw [State.measGone, hfrom', hst', hstep.cfgN, hstep.now]
    simpa using hheld
  rw [State.loopMeasure_eq, if_pos hgone]

/-! ### Outputs that are put in force at once, and faults (R246, R252) -/

theorem State.setOut_loop {s : State} {n : Nat} (hn : n < s.loops.loop.length) (u : Int) :
    (s.setOut n u).loop n = { s.loop n with uOut := u, uNext := u } := by
  rw [State.setOut, State.loopField_loop, State.loop_updLoop_self hn]

theorem State.loopSafe_loop {s : State} {n : Nat} (hn : n < s.loops.loop.length) :
    (s.loopSafe n).loop n = { s.loop n with
      uOut := s.uSafe n, uNext := s.uSafe n, st := .opened, closing := false, holdFrom := none, feFrom := none,
      cause := 0 } := by
  rw [State.loopSafe, State.loop_updLoop_self ((LoopStep.setOut ..).length.symm ▸ hn), State.setOut_loop hn]

@[simp] theorem State.raise_loop (s : State) (code subject : Nat) (data : List (Nat × Nat × Nat)) (urgent : Bool)
    (j : Nat) : (s.raise code subject data urgent).loop j = s.loop j := State.loop_of_loops (by simp) j

@[simp] theorem State.record_loop (s : State) (source code subject : Nat) (data : List (Nat × Nat × Nat)) (urgent : Bool)
    (j : Nat) : (s.record source code subject data urgent).loop j = s.loop j := State.loop_of_loops (by simp) j

theorem State.loopFault_loop {s : State} {n : Nat} (hn : n < s.loops.loop.length) (cause : Nat) :
    (s.loopFault n cause).loop n = { s.loop n with
      uOut := s.uSafe n, uNext := s.uSafe n, st := .faulted, cause := cause, closing := false, holdFrom := none,
      feFrom := none, n := { (s.loop n).n with i := 0, d := 0 },
      relay := (s.loop n).relay.map (fun r => { r with ended := max r.ended 4 }) } := by
  have hlen := (LoopStep.setOut s n (s.uSafe n)).length
  rw [State.loopFault, State.record_loop, State.loop_updLoop_self (hlen.symm ▸ hn), State.setOut_loop hn]

/-! ### Steps 4 and 5: the target and the law (R240 to R243, R248, R251) -/

theorem State.noteSat_loop {s : State} {n : Nat} (hn : n < s.loops.loop.length) (c : BitVec 5) :
    (s.noteSat n c).loop n = { s.loop n with
      conds := c, sticky := (s.loop n).sticky ||| c,
      counts := (s.loop n).counts.zipIdx.map (fun p => if c.getLsbD p.2 then satInc p.1 else p.1) } := by
  unfold State.noteSat
  dsimp only
  split
  · rw [State.loop_updLoop_self hn]
  · rw [State.raise_loop, State.loop_updLoop_self hn]

/-- What noting conditions keeps of a loop's data, it keeps of every loop's. -/
theorem State.noteSat_proj {β : Type} (p : Loop → β) (s : State) (n j : Nat) (c : BitVec 5)
    (hp : ∀ (l : Loop) c y k, p { l with conds := c, sticky := y, counts := k } = p l) :
    p ((s.noteSat n c).loop j) = p (s.loop j) := by
  unfold State.noteSat
  dsimp only
  split
  · exact State.updLoop_proj p s n j fun l => hp l ..
  · rw [State.raise_loop]
    exact State.updLoop_proj p s n j fun l => hp l ..

theorem State.loopTarget_loop {s : State} {n : Nat} (hn : n < s.loops.loop.length) :
    (s.loopTarget n).loop n = { s.loop n with
      r := s.target n, n := { (s.loop n).n with rs := ((s.loopTarget n).loop n).n.rs } } := by
  simp only [State.loopTarget, State.loop_updLoop_self hn]

theorem State.loopTarget_rs_of_not_closed {s : State} {n : Nat} (hn : n < s.loops.loop.length)
    (hst : (s.loop n).st ≠ .closed) : ((s.loopTarget n).loop n).n.rs = s.target n := by
  simp [State.loopTarget, State.loop_updLoop_self hn, hst]

/-- A loop that closes starts from its measurement (R247). -/
theorem State.loopTarget_rs_of_closing {s : State} {n : Nat} (hn : n < s.loops.loop.length)
    (hst : (s.loop n).st = .closed) (hhold : (s.loop n).holdFrom = none) (hjust : (s.loop n).justClosed = true) :
    ((s.loopTarget n).loop n).n.rs = (s.loop n).n.y := by
  simp [State.loopTarget, State.loop_updLoop_self hn, hst, hhold, hjust]

theorem State.loopTarget_rs_of_no_ramp {s : State} {n : Nat} (hn : n < s.loops.loop.length)
    (hst : (s.loop n).st = .closed) (hhold : (s.loop n).holdFrom = none) (hjust : (s.loop n).justClosed = false)
    (hramp : s.cfgI .spRamp n = 0) : ((s.loopTarget n).loop n).n.rs = s.target n := by
  simp [State.loopTarget, State.loop_updLoop_self hn, hst, hhold, hjust, hramp]

/-- Within FE_LIMIT the following-error check only forgets since when it was exceeded (R251). -/
theorem State.feCheck_of_within {s : State} {n : Nat}
    (h : s.cfgI .feLimit n = 0 ∨ ((satQ ((s.loop n).n.rs - (s.loop n).n.y)).natAbs : Int) ≤ s.cfgI .feLimit n) :
    s.feCheck n = (false, s.updLoop n (fun l => { l with feFrom := none })) := by
  unfold State.feCheck
  dsimp only
  rw [if_pos]
  rcases h with h | h <;> simp only [h, decide_true, Bool.or_true, Bool.true_or]

end Sys2Proof.Machine
end

section
/-! The law, the closing of a loop, and a sample as a whole (R238 to R250). -/

namespace Sys2Proof.Machine

/-! ### The law (R240 to R243) -/

theorem clampI_clampI (lo hi x : Int) : clampI lo hi (clampI lo hi x) = clampI lo hi x := by
  unfold clampI
  omega

theorem clampI_mem {lo hi : Int} (h : lo ≤ hi) (x : Int) : lo ≤ clampI lo hi x ∧ clampI lo hi x ≤ hi := by
  unfold clampI
  omega

/-- `l'` is loop `n` of `s` after the law has been applied to `l`: e, P and u of R240 and R243, I within its clamp, and u
held for the next sample. -/
structure LawApplied (s : State) (n : Nat) (l l' : Loop) : Prop where
  st : l'.st = l.st
  measOk : l'.measOk = l.measOk
  uOut : l'.uOut = l.uOut
  r : l'.r = l.r
  rs : l'.n.rs = l.n.rs
  y : l'.n.y = l.n.y
  e : l'.n.e = satQ (l'.n.rs - l'.n.y)
  p : l'.n.p = satQ (mulQ (s.coefs n).kp l'.n.e)
  i : l'.n.i = clampI (s.cfgI .iMin n) (s.cfgI .iMax n) l'.n.i
  u : l'.n.u = clampI (s.cfgI .uMin n) (s.cfgI .uMax n) l'.n.v
  uNext : l'.uNext = l'.n.u

theorem State.loopLaw_applies {s : State} {n : Nat} (hn : n < s.loops.loop.length) :
    LawApplied s n (s.loop n) ((s.loopLaw n).loop n) := by
  unfold State.loopLaw
  extract_lets
  rw [State.noteSat_loop, State.loop_updLoop_self hn]
  case hn => rwa [State.updLoop_length]
  exact ⟨rfl, rfl, rfl, rfl, rfl, rfl, rfl, rfl, (clampI_clampI ..).symm, rfl, rfl⟩

theorem LoopStep.coefs {s t : State} (h : LoopStep s t) {n : Nat} (hcoef : (t.loop n).coef = (s.loop n).coef) :
    t.coefs n = s.coefs n := by
  simp only [State.coefs, hcoef, h.cfgI]

/-- Step 5 of a sample: the law on a CLOSED loop that holds no output, the conditions of the sample on any other. -/
def State.lawStep (s : State) (n : Nat) : State :=
  let l := s.loop n
  if l.st == .closed && l.holdFrom.isNone then
    let (bad, s) := s.feCheck n
    let eCut : BitVec 5 := if overQ (l.n.rs - l.n.y) then 16 else 0
    if bad then (s.loopFault n 2).noteSat n (l.conds ||| eCut) else s.loopLaw n
  else s.noteSat n l.conds

theorem State.lawStep_of_not_closed {s : State} {n : Nat} (hst : (s.loop n).st ≠ .closed) :
    s.lawStep n = s.noteSat n (s.loop n).conds := by
  simp [State.lawStep, hst]

theorem State.lawStep_of_closed {s : State} {n : Nat} (hst : (s.loop n).st = .closed)
    (hhold : (s.loop n).holdFrom = none)
    (hfe : s.cfgI .feLimit n = 0 ∨ ((satQ ((s.loop n).n.rs - (s.loop n).n.y)).natAbs : Int) ≤ s.cfgI .feLimit n) :
    s.lawStep n = (s.updLoop n (fun l => { l with feFrom := none })).loopLaw n := by
  simp [State.lawStep, hst, hhold, State.feCheck_of_within hfe]

/-! ### Closing (R247, R249) -/

/-- What closing sets of a loop, and the loop around it leaves alone. -/
def Loop.course (l : Loop) : LoopSt × Bool × Bool × Option Nat × Int :=
  (l.st, l.closing, l.justClosed, l.holdFrom, l.n.y)

theorem State.outerTakes_course (s : State) (n j : Nat) : ((s.outerTakes n).loop j).course = (s.loop j).course := by
  unfold State.outerTakes
  split
  next o _ =>
    extract_lets l i0 i v t
    have ht : (t.loop j).course = (s.loop j).course := State.updLoop_proj Loop.course s o j fun _ => rfl
    split
    · split
      · exact ht
      · refine (State.updLoop_proj Loop.course (t.noteSat o 2) o j
          (f := fun x => { x with conds := l.conds ||| 2 }) fun _ => rfl).trans ?_
        exact (State.noteSat_proj Loop.course t o j 2 fun _ _ _ _ => rfl).trans ht
    · rfl
  next => rfl

theorem State.closeLoop_course {s : State} {n : Nat} (hn : n < s.loops.loop.length) :
    ((s.closeLoop n).loop n).course = (.closed, false, true, none, (s.loop n).n.y) := by
  unfold State.closeLoop
  rw [State.outerTakes_course, State.loop_updLoop_self hn]
  rfl

/-! ### A sample as a whole (R238) -/

@[simp] theorem State.recordTraces_loop (s : State) (n j : Nat) (faulted closed : Bool) :
    (s.recordTraces n faulted closed).loop j = s.loop j :=
  State.each_induct (fun u : State => u.loop j) (fun u k => by split <;> rfl) s _

/-- A loop without the conditions and the instant that a sample notes of it. -/
def Loop.bare (l : Loop) : Loop := { l with conds := 0, sticky := 0, counts := [], sampled := none, cascOpen := false }

/-- The end of a sample: its instant is noted, and the trace units on the loop record it (R249, R258). -/
def State.sampleEnd (s : State) (n : Nat) (was : Loop) : State :=
  let s := s.updLoop n (fun l => { l with sampled := some s.now, cascOpen := s.cascadeOpen n })
  s.recordTraces n ((s.loop n).st == LoopSt.faulted && was.st != LoopSt.faulted) (s.loop n).justClosed

theorem LoopStep.sampleEnd (s : State) (n : Nat) (was : Loop) : LoopStep s (s.sampleEnd n was) :=
  (LoopStep.updLoop s n _).trans (.recordTraces ..)

theorem State.sampleEnd_loop {s : State} {n : Nat} (hn : n < s.loops.loop.length) (was : Loop) :
    (s.sampleEnd n was).loop n = { s.loop n with sampled := some s.now, cascOpen := s.cascadeOpen n } := by
  rw [State.sampleEnd, State.recordTraces_loop, State.loop_updLoop_self hn]

/-- A sample that neither CLOSE_ON ARM nor an auto-tune takes part in: from the state `u` that the measurement and the
commands leave, target, law and end follow. -/
theorem State.loopSample_eq {s u : State} {n : Nat} (hdue : s.sampleDue n = true)
    (hu : (s.applyOutputs.loopMeasure n).loopCmds n = u) (hacts : s.acts = []) (hclosing : (u.loop n).closing = false) :
    s.loopSample n = ((u.loopTarget n).lawStep n).sampleEnd n (s.loop n) := by
  have hfind (p : Activity → Bool) : (u.loopTarget n).acts.find? p = none := by simp [← hu, hacts]
  unfold State.loopSample
  rw [if_pos hdue]
  dsimp only
  rw [hu, hclosing, Bool.false_and, if_neg Bool.false_ne_true, hfind]
  rfl

section Sample

variable {s u : State} {n : Nat} (hdue : s.sampleDue n = true)
  (hu : (s.applyOutputs.loopMeasure n).loopCmds n = u) (hacts : s.acts = []) (hn : n < u.loops.loop.length)
  (hclosing : (u.loop n).closing = false)
include hdue hu hacts hn hclosing

/-- A loop that is not CLOSED takes its target and keeps its output (R246, R248). -/
theorem State.loopSample_of_not_closed (hst : (u.loop n).st ≠ .closed) :
    LoopStep u (s.loopSample n) ∧ ((s.loopSample n).loop n).sampled = some u.now
      ∧ ((s.loopSample n).loop n).bare
        = { u.loop n with r := u.target n, n := { (u.loop n).n with rs := u.target n } : Loop }.bare := by
  let v := u.loopTarget n
  have htarget : LoopStep u v := .loopTarget ..
  have hloop : v.loop n = _ := State.loopTarget_loop hn
  rw [State.loopTarget_rs_of_not_closed hn hst] at hloop
  have hst' : (v.loop n).st ≠ .closed := by rw [hloop]; exact hst
  have hnote : LoopStep u (v.noteSat n (v.loop n).conds) := htarget.trans (.noteSat ..)
  have hend := State.sampleEnd_loop (hnote.length.symm ▸ hn) (s.loop n)
  rw [State.loopSample_eq hdue hu hacts hclosing, State.lawStep_of_not_closed hst']
  refine ⟨hnote.trans (.sampleEnd ..), ?_, ?_⟩
  · rw [hend, hnote.now]
  · rw [hend, ← hloop]
    exact State.noteSat_proj Loop.bare v n n _ fun _ _ _ _ => rfl

/-- A CLOSED loop that holds no output and keeps within FE_LIMIT applies the law to its target r* (R240, R251). -/
theorem State.loopSample_of_closed (hst : (u.loop n).st = .closed) (hhold : (u.loop n).holdFrom = none)
    (hfe : u.cfgI .feLimit n = 0
      ∨ ((satQ (((u.loopTarget n).loop n).n.rs - (u.loop n).n.y)).natAbs : Int) ≤ u.cfgI .feLimit n) :
    LoopStep u (s.loopSample n)
      ∧ LawApplied u n ((u.loopTarget n).loop n) ((s.loopSample n).loop n) := by
  let v := (u.loopTarget n).updLoop n (fun l => { l with feFrom := none })
  have htarget := LoopStep.loopTarget u n
  have hn' : n < (u.loopTarget n).loops.loop.length := htarget.length.symm ▸ hn
  have hloop := State.loopTarget_loop hn
  have hst' : ((u.loopTarget n).loop n).st = .closed := by rw [hloop]; exact hst
  have hhold' : ((u.loopTarget n).loop n).holdFrom = none := by rw [hloop]; exact hhold
  have hy : ((u.loopTarget n).loop n).n.y = (u.loop n).n.y := by rw [hloop]
  have hv : LoopStep u v := htarget.trans (.updLoop ..)
  have hnv : n < v.loops.loop.length := hv.length.symm ▸ hn
  have hvloop : v.loop n = { (u.loopTarget n).loop n with feFrom := none } := State.loop_updLoop_self hn' _
  have hcoefs : v.coefs n = u.coefs n := hv.coefs (by rw [hvloop, hloop])
  have hlaw := State.loopLaw_applies hnv
  have hstep := LoopStep.loopLaw v n
  rw [State.loopSample_eq hdue hu hacts hclosing, State.lawStep_of_closed hst' hhold'
    (by rw [htarget.cfgI, hy]; exact hfe)]
  refine ⟨(hv.trans hstep).trans (.sampleEnd ..), ?_⟩
  rw [hvloop] at hlaw
  rw [State.sampleEnd_loop (hstep.length.symm ▸ hnv)]
  refine ⟨hlaw.st, hlaw.measOk, hlaw.uOut, hlaw.r, hlaw.rs, hlaw.y, hlaw.e, hcoefs ▸ hlaw.p, ?_, ?_, hlaw.uNext⟩
  · rw [← hv.cfgI, ← hv.cfgI]
    exact hlaw.i
  · rw [← hv.cfgI, ← hv.cfgI]
    exact hlaw.u

end Sample

/-! ### The row -/

theorem State.tuneEnds_of_no_acts {s : State} (hacts : s.acts = []) (n : Nat) : s.tuneEnds n = s := by
  simp [State.tuneEnds, hacts]

/-- Without an activity the row is the loop's sample. -/
theorem exec_loopSample {s : State} {dt n : Nat} (hacts : ((s.advance dt).loopSample n).acts = []) :
    exec (.loopSample dt n) s = .next ((s.advance dt).loopSample n) :=
  congrArg Host.Outcome.next (State.tuneEnds_of_no_acts hacts n)

end Sys2Proof.Machine
end

section
/-! The trace units: what TRACE_WRITE, TRACE_ARM and TRACE_STOP do (R258, R259). -/

namespace Sys2Proof.Machine

/-! ### One unit of the list -/

theorem State.trace_updTrace {s : State} {k : Nat} (hk : k < s.loops.trace.length) (f : Trace → Trace) :
    (s.updTrace k f).trace k = f (s.trace k) := (getD_modify _ _ _ f _ hk).trans (if_pos rfl)

theorem State.trace_updTrace_of_ne (s : State) {j k : Nat} (hj : j ≠ k) (f : Trace → Trace) :
    (s.updTrace k f).trace j = s.trace j := by
  simp [State.trace, State.updTrace, List.getD_eq_getElem?_getD, hj.symm]

/-! ### A record counts nothing (R353, R367) -/

@[simp] theorem State.sendMsix_cnt (s : State) (v : Nat) : (s.sendMsix v).cnt = s.cnt := by
  unfold State.sendMsix
  dsimp only
  split <;> simp

@[simp] theorem State.notify_cnt (s : State) (v : Nat) (urgent : Bool) : (s.notify v urgent).cnt = s.cnt := by
  unfold State.notify
  dsimp only
  split <;> simp

@[simp] theorem State.writeRec_cnt (s : State) (n : Nat) (ds : List Desc) (urgent : Bool) :
    (s.writeRec n ds urgent).cnt = s.cnt := by
  simp [State.writeRec]

/-! ### TRACE_WRITE -/

/-- Between `s` and `t` only unit `k`, TRACE_SEQ and the host interface have changed. -/
structure TraceStep (k : Nat) (s t : State) : Prop where
  parts : t = { s with loops := t.loops, host := t.host }
  loop : t.loops.loop = s.loops.loop
  length : t.loops.trace.length = s.loops.trace.length
  trace_of_ne : ∀ j, j ≠ k → t.trace j = s.trace j

namespace TraceStep

theorem refl (k : Nat) (s : State) : TraceStep k s s := ⟨rfl, rfl, rfl, fun _ _ => rfl⟩

variable {k : Nat} {s t u : State}

theorem trans (h : TraceStep k s t) (h' : TraceStep k t u) : TraceStep k s u where
  parts := by rw [h'.parts, h.parts]
  loop := h'.loop.trans h.loop
  length := h'.length.trans h.length
  trace_of_ne j hj := (h'.trace_of_ne j hj).trans (h.trace_of_ne j hj)

theorem writeRec (k : Nat) (s : State) (ds : List Desc) : TraceStep k s (s.writeRec 7 ds false) :=
  ⟨State.eq_of_parts (by simp), by simp, by simp, fun j _ => by simp [State.trace]⟩

theorem updTrace (k : Nat) (s : State) (f : Trace → Trace) : TraceStep k s (s.updTrace k f) :=
  ⟨rfl, rfl, List.length_modify .., fun _ hj => s.trace_updTrace_of_ne hj f⟩

end TraceStep

theorem State.writeRec_trace (s : State) (n : Nat) (ds : List Desc) (urgent : Bool) (k : Nat) :
    (s.writeRec n ds urgent).trace k = s.trace k := by
  simp [State.trace]

/-- A unit that has not stopped has nothing to write. -/
theorem State.traceOut_of_running {s : State} {k : Nat} (hst : (s.trace k).st ≠ 3) (fuel : Nat) :
    State.traceOut fuel k s = s := by
  cases fuel with
  | zero => rfl
  | succ fuel => simp [State.traceOut, hst]

theorem State.traceWrite_of_running {s : State} {k : Nat} (hst : (s.trace k).st ≠ 3) : s.traceWrite k = s := by
  rw [State.traceWrite, State.traceOut_of_running hst, ite_self]

/-- The header of a stopped unit's trace goes first (R259). -/
theorem State.traceOut_header {s : State} {k : Nat} (hst : (s.trace k).st = 3) (hleft : (s.trace k).left = 8193)
    (hroom : s.canWrite 7 1 = true) (fuel : Nat) : State.traceOut (fuel + 1) k s =
      State.traceOut fuel k ((s.writeRec 7 [s.traceHeader k] false).updTrace k (fun t => { t with left := 8192 })) := by
  simp [State.traceOut, hst, hleft, hroom]

/-- Once the header is written, a round writes nothing, or one pair of descriptors, which may be the last. -/
theorem State.traceOut_pair {s : State} {k : Nat} (hleft : (s.trace k).left ≤ 8192) (fuel : Nat) :
    State.traceOut (fuel + 1) k s = s ∨ ∃ ds, let u := s.writeRec 7 ds false
      State.traceOut (fuel + 1) k s = { u.updTrace k (fun _ => {}) with
          loops := { (u.updTrace k (fun _ => {})).loops with traceSeq := u.loops.traceSeq + 1 } }
      ∨ State.traceOut (fuel + 1) k s = State.traceOut fuel k (u.updTrace k (fun t => { t with left := t.left - 2 })) := by
  have hheader : (s.trace k).left ≠ 8193 := by omega
  rw [State.traceOut]
  dsimp only
  rw [if_neg hheader]
  split
  · exact .inl rfl
  · split
    · split
      · exact .inr ⟨_, .inl rfl⟩
      · exact .inr ⟨_, .inr rfl⟩
    · exact .inl rfl

/-- The rounds that follow the header change only the unit, which has ever less left to write. -/
theorem State.traceOut_pairs {s : State} {k : Nat} (hk : k < s.loops.trace.length) (hleft : (s.trace k).left ≤ 8192)
    (fuel : Nat) : TraceStep k s (State.traceOut fuel k s) ∧ ((State.traceOut fuel k s).trace k).left ≤ 8192 := by
  induction fuel generalizing s with
  | zero => exact ⟨.refl k s, hleft⟩
  | succ fuel ih =>
    rcases State.traceOut_pair hleft fuel with hnone | ⟨ds, hlast | hmore⟩
    case inl => exact hnone.symm ▸ ⟨.refl k s, hleft⟩
    case inr.inl =>
      have hwritten := TraceStep.writeRec k s ds
      have hstep := hwritten.trans (.updTrace k _ fun _ => {})
      have hfree := State.trace_updTrace (hwritten.length.symm ▸ hk) fun _ => {}
      rw [hlast]
      refine ⟨hstep.trans ⟨rfl, rfl, rfl, fun _ _ => rfl⟩, ?_⟩
      exact (congrArg Trace.left hfree).trans_le (Nat.zero_le _)
    case inr.inr =>
      have hwritten := TraceStep.writeRec k s ds
      have hstep := hwritten.trans (.updTrace k _ fun t => { t with left := t.left - 2 })
      have hunit := State.trace_updTrace (hwritten.length.symm ▸ hk) fun t => { t with left := t.left - 2 }
      rw [State.writeRec_trace] at hunit
      have hrest := ih (hstep.length.symm ▸ hk) (by rw [hunit]; exact (Nat.sub_le ..).trans hleft)
      rw [hmore]
      exact ⟨hstep.trans hrest.1, hrest.2⟩

/-- A stopped unit whose trace is whole, no other one having begun, writes its header at least (R259). -/
theorem State.traceWrite_whole {s : State} {k : Nat} (hk : k < s.loops.trace.length) (hst : (s.trace k).st = 3)
    (hleft : (s.trace k).left = 8193) (hothers : ∀ j < 4, j ≠ k → (s.trace j).st = 3 → 8193 ≤ (s.trace j).left)
    (hroom : s.canWrite 7 1 = true) : TraceStep k s (s.traceWrite k) ∧ ((s.traceWrite k).trace k).left ≤ 8192 := by
  have hnone : ¬ (List.range 4).any (fun j => j ≠ k && (s.trace j).st = 3 && (s.trace j).left < 8193) = true := by
    simpa using hothers
  have hwritten := TraceStep.writeRec k s [s.traceHeader k]
  have hstep := hwritten.trans (.updTrace k _ fun t => { t with left := 8192 })
  have hunit := State.trace_updTrace (hwritten.length.symm ▸ hk) fun t => { t with left := 8192 }
  rw [State.traceWrite, if_neg hnone, State.traceOut_header hst hleft hroom]
  have hrest := State.traceOut_pairs (hstep.length.symm ▸ hk) (by rw [hunit]) 4096
  exact ⟨hstep.trans hrest.1, hrest.2⟩

/-! ### The rows and commands -/

theorem execTraceWrite_of_running {s : State} {dt k : Nat} (hst : (s.trace k).st ≠ 3) :
    Completes (.traceWrite dt k) s (fun t => t = s.advance dt) :=
  ⟨_, rfl, State.traceWrite_of_running (s := s.advance dt) hst⟩

theorem execTraceWrite_whole {s : State} {dt k : Nat} (hk : k < s.loops.trace.length) (hst : (s.trace k).st = 3)
    (hleft : (s.trace k).left = 8193) (hothers : ∀ j < 4, j ≠ k → (s.trace j).st = 3 → 8193 ≤ (s.trace j).left)
    (hroom : s.canWrite 7 1 = true) : Completes (.traceWrite dt k) s (fun t =>
      (t.trace k).left ≤ 8192 ∧ (∀ j, j ≠ k → t.trace j = s.trace j) ∧ t.loops.loop = s.loops.loop
      ∧ t = { s.advance dt with loops := t.loops, host := t.host }) := by
  obtain ⟨hstep, hless⟩ := State.traceWrite_whole (s := s.advance dt) hk hst hleft hothers hroom
  exact ⟨_, rfl, hless, hstep.trace_of_ne, hstep.loop, hstep.parts⟩

theorem execTraceArm_arms {s : State} {dt u n dec pre trig node : Nat} {h : Hdr} {fl : BitVec 5} {lvl : Q16}
    (ht : Takes s dt 0x57 h) (hu : u < s.loops.trace.length) (hu4 : u < 4) (htrig : trig ≤ 6) (hdec : dec < 256)
    (hpre : pre < 4096) (hon : s.loopOn n = true) (hfree : (s.trace u).st = 0) :
    Answers (.traceArm dt h u n dec pre trig node fl lvl) 0x57 h s .ok 0 (fun v =>
      v.trace u = { st := 1, loop := n, dec := dec + 1, pre := pre, trig := trig, node := node, flags := fl,
                    level := lvl.toInt }
      ∧ v = { (s.advance dt).taken with loops := v.loops }) := by
  have hon' : (s.advance dt).taken.loopOn n = true := hon
  have hfree' : ((s.advance dt).taken.trace u).st = 0 := hfree
  refine answers_of_done rfl ht (u := (s.advance dt).taken.updTrace u fun _ =>
    { st := 1, loop := n, dec := dec + 1, pre := pre, trig := trig, node := node, flags := fl, level := lvl.toInt }) ?_
    ⟨State.trace_updTrace hu _, rfl⟩
  simp [cmdTraceArm, hu4, htrig, hdec, hpre, hon', hfree']

section TraceStop

variable {s : State} {dt u : Nat} {h : Hdr} (ht : Takes s dt 0x58 h) (hu : u < s.loops.trace.length) (hu4 : u < 4)
include ht hu hu4

theorem execTraceStop_discards (hon : (s.trace u).st = 0 ∨ s.loopOn (s.trace u).loop = true) (trig : Bool) :
    Answers (.traceStop dt h u trig true) 0x58 h s .ok 0 (fun v =>
      v.trace u = {} ∧ v = { (s.advance dt).taken with loops := v.loops }) := by
  have hon' : ((s.advance dt).taken.trace u).st = 0
      ∨ (s.advance dt).taken.loopOn ((s.advance dt).taken.trace u).loop = true := hon
  refine answers_of_done rfl ht (u := (s.advance dt).taken.updTrace u fun _ => {}) ?_ ⟨State.trace_updTrace hu _, rfl⟩
  rcases hon' with h0 | hloop
  · simp [cmdTraceStop, Nat.not_le.2 hu4, h0]
  · simp [cmdTraceStop, Nat.not_le.2 hu4, hloop]

theorem execTraceStop_triggers (hon : s.loopOn (s.trace u).loop = true) (harmed : (s.trace u).st = 1)
    (hpre : (s.trace u).pre ≤ (s.trace u).samples.length) :
    Answers (.traceStop dt h u true false) 0x58 h s .ok 0 (fun v =>
      v.trace u = { s.trace u with hostTrig := true } ∧ v = { (s.advance dt).taken with loops := v.loops }) := by
  have hon' : (s.advance dt).taken.loopOn ((s.advance dt).taken.trace u).loop = true := hon
  have harmed' : ((s.advance dt).taken.trace u).st = 1 := harmed
  have hpre' : ((s.advance dt).taken.trace u).pre ≤ ((s.advance dt).taken.trace u).samples.length := hpre
  refine answers_of_done rfl ht (u := (s.advance dt).taken.updTrace u fun t => { t with hostTrig := true }) ?_
    ⟨State.trace_updTrace hu _, rfl⟩
  simp [cmdTraceStop, Nat.not_le.2 hu4, hon', harmed', hpre']

end TraceStop

end Sys2Proof.Machine
end

section
/-! Samples of loops that no command waits for (R238 to R252), and the claim about samples and traces. -/

namespace Sys2Proof.Machine

/-! ### From the instant of a sample to its measurement -/

namespace LoopStep

variable {s t : State} (h : LoopStep s t)
include h

theorem dev : t.dev = s.dev := by rw [h.parts]

theorem cfg : t.cfg = s.cfg := by rw [h.parts]

theorem frame : t = { s with loops := t.loops, can := t.can, host := t.host, free := t.free, cnt := t.cnt } := by
  rw [h.parts]

end LoopStep

section Due

variable {s : State} {n : Nat} (hn : n < s.loops.loop.length) (hdue : s.sampleDue n = true)
include hn hdue

theorem State.applyOutputs_uOut : ∃ u, s.applyOutputs.loop n = { s.loop n with uOut := u }
    ∧ (s.loops.appliedAt ≠ some s.now → u = (s.loop n).uNext) := by
  rw [State.applyOutputs_loop hn hdue]
  split
  next happ => exact ⟨(s.loop n).uOut, rfl, fun hne => absurd happ hne⟩
  next => exact ⟨(s.loop n).uNext, rfl, fun _ => rfl⟩

/-- The loop of a due sample once it has measured: the output of the sample before is in force where it was not yet. -/
theorem State.measuring_of_due : ∃ u, (s.applyOutputs.measuring n).loop n = ({ s.loop n with uOut := u } : Loop).measured
      (s.applyOutputs.measure n (s.applyOutputs.rawOf n).1) (s.applyOutputs.rawOf n).2 s.now
    ∧ (s.loops.appliedAt ≠ some s.now → u = (s.loop n).uNext) := by
  obtain ⟨u, hloop, hu⟩ := State.applyOutputs_uOut hn hdue
  have hstep := LoopStep.applyOutputs s
  exact ⟨u, by rw [State.measuring_loop (hstep.length.symm ▸ hn), hloop, hstep.now], hu⟩

theorem State.loopMeasure_of_due (hmeas : (s.applyOutputs.rawOf n).2 = true ∨ (s.loop n).st ≠ .closed)
    (hsink : s.sinkLost n = false) : s.applyOutputs.loopMeasure n = s.applyOutputs.measuring n := by
  obtain ⟨u, hloop, -⟩ := State.applyOutputs_uOut hn hdue
  have hstep := LoopStep.applyOutputs s
  exact State.loopMeasure_of_kept (hstep.length.symm ▸ hn) (by rw [hloop]; exact hmeas)
    ((hstep.sinkLost (by rw [hloop])).trans hsink)

end Due

theorem LoopStep.measured (s : State) (n : Nat) : LoopStep s (s.applyOutputs.measuring n) :=
  (LoopStep.applyOutputs s).trans (.measuring ..)

theorem State.loopCmds_of_none {s : State} (hout : s.host.outstanding = []) (n : Nat) : s.loopCmds n = s := by
  simp [State.loopCmds, hout, State.each]

/-! ### LOOP_SAMPLE -/

theorem execLoopSample_opened {s : State} {dt n : Nat} (hn : n < s.loops.loop.length)
    (hdue : (s.advance dt).sampleDue n = true) (hst : (s.loop n).st = .opened) (hclosing : (s.loop n).closing = false)
    (hout : s.host.outstanding = []) (hacts : s.acts = []) (hsink : s.sinkLost n = false)
    (happ : s.loops.appliedAt ≠ some (s.advance dt).now) : Completes (.loopSample dt n) s (fun t =>
      (t.loop n).st = .opened ∧ (t.loop n).sampled = some (s.advance dt).now ∧ (t.loop n).uOut = (s.loop n).uNext
      ∧ (t.loop n).n.rs = (t.loop n).r
      ∧ (s.cfgI .spMin n ≤ s.cfgI .spMax n → s.cfgI .spMin n ≤ (t.loop n).r ∧ (t.loop n).r ≤ s.cfgI .spMax n)
      ∧ t = { s.advance dt with loops := t.loops, can := t.can, host := t.host, free := t.free, cnt := t.cnt }) := by
  let m := (s.advance dt).applyOutputs.measuring n
  have hm : LoopStep (s.advance dt) m := .measured ..
  obtain ⟨u, hloop, hu⟩ := State.measuring_of_due (s := s.advance dt) hn hdue
  have hst' : (m.loop n).st = .opened := by rw [hloop]; exact hst
  have hcmds : ((s.advance dt).applyOutputs.loopMeasure n).loopCmds n = m := by
    have hopen : ((s.advance dt).loop n).st ≠ .closed := by rw [show ((s.advance dt).loop n).st = .opened from hst]; decide
    rw [State.loopMeasure_of_due (s := s.advance dt) hn hdue (.inr hopen) hsink,
      State.loopCmds_of_none (hm.outstanding_nil hout)]
  obtain ⟨hstep, hsampled, hbare⟩ := State.loopSample_of_not_closed hdue hcmds hacts (hm.length.symm ▸ hn)
    (by rw [hloop]; exact hclosing) (by rw [hst']; decide)
  have hall := hm.trans hstep
  have hr : (((s.advance dt).loopSample n).loop n).r = m.target n := congrArg Loop.r hbare
  refine ⟨_, exec_loopSample (hall.acts.trans hacts), (congrArg Loop.st hbare).trans hst', ?_,
    (congrArg Loop.uOut hbare).trans ?_, (congrArg (fun l : Loop => l.n.rs) hbare).trans hr.symm, fun hle => ?_,
    hall.frame⟩
  · rw [hsampled, hm.now]
  · exact (congrArg Loop.uOut hloop).trans (hu happ)
  · rw [hr, State.target, hm.cfgI, hm.cfgI]
    exact clampI_mem hle _

theorem execLoopSample_closed {s : State} {dt n : Nat} (hn : n < s.loops.loop.length)
    (hdue : (s.advance dt).sampleDue n = true) (hst : (s.loop n).st = .closed) (hclosing : (s.loop n).closing = false)
    (hout : s.host.outstanding = []) (hacts : s.acts = []) (hsink : s.sinkLost n = false)
    (hfe : s.cfgI .feLimit n = 0) (hramp : s.cfgI .spRamp n = 0)
    (happ : s.loops.appliedAt ≠ some (s.advance dt).now) (hok : ((s.advance dt).applyOutputs.rawOf n).2 = true) :
    Completes (.loopSample dt n) s (fun t =>
      let l := t.loop n
      l.st = .closed ∧ l.measOk = true ∧ l.uOut = (s.loop n).uNext ∧ l.n.rs = l.r
      ∧ l.n.y = satQ ((s.advance dt).applyOutputs.measure n ((s.advance dt).applyOutputs.rawOf n).1)
      ∧ l.n.e = satQ (l.n.rs - l.n.y) ∧ l.n.p = satQ (mulQ (s.coefs n).kp l.n.e)
      ∧ l.n.i = clampI (s.cfgI .iMin n) (s.cfgI .iMax n) l.n.i ∧ l.n.u = clampI (s.cfgI .uMin n) (s.cfgI .uMax n) l.n.v
      ∧ l.uNext = l.n.u
      ∧ t = { s.advance dt with loops := t.loops, can := t.can, host := t.host, free := t.free, cnt := t.cnt }) := by
  let m := (s.advance dt).applyOutputs.measuring n
  have hm : LoopStep (s.advance dt) m := .measured ..
  have hnm : n < m.loops.loop.length := hm.length.symm ▸ hn
  obtain ⟨u, hloop, hu⟩ := State.measuring_of_due (s := s.advance dt) hn hdue
  rw [hok] at hloop
  have hst' : (m.loop n).st = .closed := (congrArg Loop.st hloop).trans hst
  have hhold : (m.loop n).holdFrom = none := congrArg Loop.holdFrom hloop
  have hcmds : ((s.advance dt).applyOutputs.loopMeasure n).loopCmds n = m := by
    rw [State.loopMeasure_of_due (s := s.advance dt) hn hdue (.inl hok) hsink,
      State.loopCmds_of_none (hm.outstanding_nil hout)]
  obtain ⟨hstep, hlaw⟩ := State.loopSample_of_closed hdue hcmds hacts hnm ((congrArg Loop.closing hloop).trans hclosing)
    hst' hhold (.inl ((hm.cfgI ..).trans hfe))
  have htarget := State.loopTarget_loop hnm
  rw [State.loopTarget_rs_of_no_ramp hnm hst' hhold (congrArg Loop.justClosed hloop) ((hm.cfgI ..).trans hramp)] at htarget
  rw [htarget] at hlaw
  have hall := hm.trans hstep
  have hcoefs : m.coefs n = s.coefs n := hm.coefs ((congrArg Loop.coef hloop).trans rfl)
  refine ⟨_, exec_loopSample (hall.acts.trans hacts), hlaw.st.trans hst', hlaw.measOk.trans (congrArg Loop.measOk hloop),
    hlaw.uOut.trans ((congrArg Loop.uOut hloop).trans (hu happ)), hlaw.rs.trans hlaw.r.symm,
    hlaw.y.trans (congrArg Loop.y hloop), hlaw.e, ?_, ?_, ?_, hlaw.uNext, hall.frame⟩
  · rw [← hcoefs]
    exact hlaw.p
  · have hi := hlaw.i
    rwa [hm.cfgI, hm.cfgI] at hi
  · have hclamped := hlaw.u
    rwa [hm.cfgI, hm.cfgI] at hclamped

/-! ### MEAS_LOST -/

theorem State.loopFault_outstanding (s : State) (n cause : Nat) :
    (s.loopFault n cause).host.outstanding = s.host.outstanding := by
  simp [State.loopFault, State.setOut]

theorem State.loopFault_length (s : State) (n cause : Nat) :
    (s.loopFault n cause).loops.loop.length = s.loops.loop.length := by
  simp [State.loopFault, State.setOut, State.record]

theorem execMeasLost_eq {s : State} {dt n m : Nat} (hst : (s.loop n).st = .closed) (hfrom : (s.loop n).holdFrom = some m)
    (hheld : m + s.cfgN .measHold n * 250000 ≤ (s.advance dt).now) :
    exec (.measLost dt n) s = .next ((s.advance dt).loopSample n) := by
  have hst' : ((s.advance dt).loop n).st = .closed := hst
  have hfrom' : ((s.advance dt).loop n).holdFrom = some m := hfrom
  have hheld' : m + (s.advance dt).cfgN .measHold n * msTicks ≤ (s.advance dt).now := hheld
  exact congrArg Host.Outcome.next (by simp [hst', hfrom', hheld'])

theorem execMeasLost_faults {s : State} {dt n m : Nat} (hn : n < s.loops.loop.length)
    (hdue : (s.advance dt).sampleDue n = true) (hst : (s.loop n).st = .closed) (hout : s.host.outstanding = [])
    (hacts : s.acts = []) (hbad : ((s.advance dt).applyOutputs.rawOf n).2 = false)
    (hfrom : (s.loop n).holdFrom = some m) (hheld : m + s.cfgN .measHold n * 250000 ≤ (s.advance dt).now) :
    Completes (.measLost dt n) s (fun t =>
      (t.loop n).st = .faulted ∧ (t.loop n).cause = 1 ∧ (t.loop n).uOut = s.cfgI .uSafe n ∧ (t.loop n).n.i = 0
      ∧ (t.loop n).n.d = 0 ∧ t.dev = s.dev ∧ t.cfg = s.cfg) := by
  let a := (s.advance dt).applyOutputs
  let m := a.measuring n
  let f := m.loopFault n 1
  have ha : LoopStep (s.advance dt) a := .applyOutputs _
  have hm : LoopStep (s.advance dt) m := .measured ..
  have hnm : n < m.loops.loop.length := hm.length.symm ▸ hn
  have hnf : n < f.loops.loop.length := (m.loopFault_length n 1).symm ▸ hnm
  have hfloop := State.loopFault_loop hnm 1
  obtain ⟨u, haloop, -⟩ := State.applyOutputs_uOut (s := s.advance dt) hn hdue
  have hcmds : (a.loopMeasure n).loopCmds n = f := by
    rw [State.loopMeasure_of_gone (s := a) (ha.length.symm ▸ hn) (by rw [haloop]; exact hst) hbad
      (by rw [haloop]; exact hfrom) (by rw [ha.cfgN, ha.now]; exact hheld)]
    exact State.loopCmds_of_none ((m.loopFault_outstanding n 1).trans (hm.outstanding_nil hout)) n
  obtain ⟨hstep, -, hbare⟩ := State.loopSample_of_not_closed hdue hcmds hacts hnf (congrArg Loop.closing hfloop)
    (by rw [show (f.loop n).st = .faulted from congrArg Loop.st hfloop]; decide)
  rw [hfloop] at hbare
  refine ⟨_, execMeasLost_eq hst hfrom hheld, congrArg Loop.st hbare, congrArg Loop.cause hbare,
    (congrArg Loop.uOut hbare).trans (hm.cfgI ..), congrArg (fun l : Loop => l.n.i) hbare,
    congrArg (fun l : Loop => l.n.d) hbare, ?_, ?_⟩
  · rw [hstep.dev, show f.dev = m.dev by simp [f], hm.dev]
    rfl
  · rw [hstep.cfg, show f.cfg = m.cfg by simp [f], hm.cfg]
    rfl

/-- Settles O38: a row or command at a time. -/
theorem loopRows : Obligations.LoopRows := by
  refine ⟨fun s dt n hn hdue hst hclosing hout hacts hsink happ =>
      execLoopSample_opened hn hdue hst hclosing hout hacts hsink happ,
    fun s dt n hn hdue hst hclosing hout hacts hsink hfe hramp happ hok =>
      execLoopSample_closed hn hdue hst hclosing hout hacts hsink hfe hramp happ hok,
    fun s dt n m hn hdue hst hout hacts hbad hfrom hheld => execMeasLost_faults hn hdue hst hout hacts hbad hfrom hheld,
    fun s dt k hst => execTraceWrite_of_running hst,
    fun s dt k hk hst hleft hothers hroom => execTraceWrite_whole hk hst hleft hothers hroom,
    fun s dt h u n dec pre trig node fl lvl ht hu hu4 htrig hdec hpre hon hfree =>
      execTraceArm_arms ht hu hu4 htrig hdec hpre hon hfree,
    fun s dt h u trig ht hu hu4 hon => ⟨execTraceStop_discards ht hu hu4 hon trig, fun harmed hpre => ?_⟩⟩
  exact execTraceStop_triggers ht hu hu4 (hon.resolve_left (by rw [harmed]; decide)) harmed hpre

end Sys2Proof.Machine
end

section
/-! The loop commands: each waits for the loop's next sample, which judges it (R249, R253, R360, R381). -/

namespace Sys2Proof.Machine

/-! ### A loop command is taken (R238, R261) -/

theorem waits_of_cmdLoop {s : State} {dt n : Nat} {op : Byte} {c : Instr} {h : Hdr} (hon : s.loopOn n = true)
    (hfree : s.loopHolder n = none) (hx : exec c s = .next (s.command dt op c h (cmdLoop n))) (ht : Takes s dt op h) :
    Waits c op h s false (fun t => HostOnly (s.advance dt) t) :=
  waits_of_wait hx ht (checks_pass (s := (s.advance dt).taken) hon hfree _) fun _ => (HostOnly.taken _).trans

/-! ### The judgement of a command (R238 step 3, R253) -/

theorem State.loopHolder_of_no_acts {s : State} (hacts : s.acts = []) (n : Nat) : s.loopHolder n = none := by
  simp [State.loopHolder, State.holderOf, hacts]

@[simp] theorem State.finish_loop (s : State) (w : Waiting) (st : Status) (res : BitVec 128) (j : Nat) :
    (s.finish w st res).loop j = s.loop j := State.loop_of_loops (by simp) j

/-- With the one command outstanding finished, none is. -/
theorem State.finish_outstanding_nil {s : State} {w : Waiting} (hs : s.host.outstanding ⊆ [w]) (st : Status)
    (res : BitVec 128) : (s.finish w st res).host.outstanding = [] := by
  rw [State.finish_outstanding, List.filter_eq_nil_iff]
  intro x hx
  rw [List.mem_singleton.1 (hs hx), Waiting.same_self]
  decide

section Judged

variable {s : State} {n k d : Nat} {w : Waiting} {h : Hdr} (hfree : s.loopHolder n = none)
include hfree

theorem State.loopCmd_close (hcmd : w.cmd = .loopClose d h k) (hst : (s.loop n).st = .opened)
    (hok : (s.loop n).measOk = true) : s.loopCmd n w = (s.closeLoop n).finish w .ok 0 := by
  simp [State.loopCmd, hfree, hcmd, hst, hok]

theorem State.loopCmd_openSafe (hcmd : w.cmd = .loopOpen d h k true) (hst : (s.loop n).st = .opened) :
    s.loopCmd n w = (s.setOut n (s.uSafe n)).finish w .ok 0 := by
  simp [State.loopCmd, hfree, hcmd, hst]

theorem State.loopCmd_setpoint {r : Q16} (hcmd : w.cmd = .loopSetpoint d h k r) (hsrc : s.cfgN .spSrc n = 0) :
    ∃ st res, s.loopCmd n w = (s.updLoop n (fun l =>
      { l with rHost := some (clampI (s.cfgI .spMin n) (s.cfgI .spMax n) r.toInt) })).finish w st res :=
  ⟨_, _, by simp only [State.loopCmd, hfree, hcmd, hsrc, ne_eq, not_true, if_false]; rfl⟩

theorem State.loopCmd_output {u : Q16} (hcmd : w.cmd = .loopOutput d h k u) (hst : (s.loop n).st = .opened) :
    ∃ st res, s.loopCmd n w = (s.setOut n (clampI (s.cfgI .uMin n) (s.cfgI .uMax n) u.toInt)).finish w st res :=
  ⟨_, _, by simp only [State.loopCmd, hfree, hcmd, hst, bne_self_eq_false, Bool.false_eq_true, if_false]; rfl⟩

theorem State.loopCmd_coef {kp ki kd : Q16} {tf : Word} (hcmd : w.cmd = .loopCoef d h k kp ki kd tf)
    (hst : (s.loop n).st = .opened) : ∃ st res, s.loopCmd n w = (s.updLoop n (fun l => { l with
      coefNext := some (coefOf kp.toInt ki.toInt kd.toInt (min 10000000 tf.toNat : Nat) (s.cfgI .period n)).1
    })).finish w st res :=
  ⟨_, _, by simp only [State.loopCmd, hfree, hcmd, hst]; rfl⟩

theorem State.loopCmd_clear (hcmd : w.cmd = .loopClear d h k) (hst : (s.loop n).st = .faulted)
    (hcause : (s.loop n).cause ≠ 1) (hsink : s.sinkLost n = false) : s.loopCmd n w
      = ((s.loopSafe n).updLoop n (fun l => { l with cleared := true })).finish w .ok 0 := by
  simp [State.loopCmd, hfree, hcmd, hst, hcause, hsink]

end Judged

/-! ### The sample that judges a command -/

theorem State.applyOutput_host (s : State) (m : Nat) : (s.applyOutput m).host = s.host := by
  unfold State.applyOutput
  dsimp only
  split <;> simp

theorem State.applyOutputs_host (s : State) : s.applyOutputs.host = s.host := by
  rw [State.applyOutputs_eq]
  split
  · rfl
  · exact State.each_induct (fun u : State => u.host) State.applyOutput_host s _

theorem State.measuring_host (s : State) (n : Nat) : (s.measuring n).host = s.host := by
  unfold State.measuring State.holdSource
  dsimp only
  split <;> rfl

theorem State.loopCmds_of_one {s : State} {n : Nat} {w : Waiting} (hout : s.host.outstanding = [w]) (haux : w.aux = [n])
    (hlo : 0x51 ≤ w.op.toNat) (hhi : w.op.toNat ≤ 0x56) : s.loopCmds n = s.loopCmd n w := by
  simp [State.loopCmds, hout, haux, hlo, hhi, State.each]

/-- The sample of loop `n` is due `dt` ticks after `s`, the loop command `w` on it is the one command outstanding, no
activity runs, and the loop's sink is not lost. -/
structure Commanded (s : State) (dt n : Nat) (w : Waiting) : Prop where
  loop : n < s.loops.loop.length
  due : (s.advance dt).sampleDue n = true
  outstanding : s.host.outstanding = [w]
  aux : w.aux = [n]
  first : 0x51 ≤ w.op.toNat
  last : w.op.toNat ≤ 0x56
  acts : s.acts = []
  sink : s.sinkLost n = false

section Commanded

variable {s v : State} {dt n : Nat} {w : Waiting} {st : Status} {res : BitVec 128} (hc : Commanded s dt n w)
  (hmeas : ((s.advance dt).applyOutputs.rawOf n).2 = true ∨ (s.loop n).st ≠ .closed)
  (hcmd : ((s.advance dt).applyOutputs.measuring n).loopCmd n w = v.finish w st res)
  (hv : LoopStep ((s.advance dt).applyOutputs.measuring n) v)
include hc

theorem Commanded.loop_measuring : n < ((s.advance dt).applyOutputs.measuring n).loops.loop.length :=
  (LoopStep.measured (s.advance dt) n).length.symm ▸ hc.loop

theorem Commanded.free : ((s.advance dt).applyOutputs.measuring n).loopHolder n = none :=
  State.loopHolder_of_no_acts ((LoopStep.measured (s.advance dt) n).acts.trans hc.acts) n

include hmeas hcmd in
/-- A sample whose one command is finished from `v` goes on from there. -/
theorem Commanded.loopCmds : ((s.advance dt).applyOutputs.loopMeasure n).loopCmds n = v.finish w st res := by
  have hhost : ((s.advance dt).applyOutputs.measuring n).host.outstanding = [w] := by
    rw [State.measuring_host, State.applyOutputs_host]
    exact hc.outstanding
  rw [State.loopMeasure_of_due (s := s.advance dt) hc.loop hc.due hmeas hc.sink,
    State.loopCmds_of_one hhost hc.aux hc.first hc.last, hcmd]

include hv in
theorem Commanded.finish_outstanding : (v.finish w st res).host.outstanding = [] :=
  State.finish_outstanding_nil (List.Subset.trans ((LoopStep.measured (s.advance dt) n).trans hv).outstanding
    (hc.outstanding ▸ List.Subset.refl _)) st res

include hmeas hcmd hv

theorem execLoopSample_of_not_closed (hclosing : (v.loop n).closing = false) (hst : (v.loop n).st ≠ .closed) :
    ∃ t r, exec (.loopSample dt n) s = .next t ∧ t.host.outstanding = []
      ∧ (t.loop n).bare = { v.loop n with r := r, n := { (v.loop n).n with rs := r } : Loop }.bare := by
  have hall := ((LoopStep.measured (s.advance dt) n).trans hv).trans (LoopStep.finish v w st res)
  obtain ⟨hstep, -, hbare⟩ := State.loopSample_of_not_closed hc.due (hc.loopCmds hmeas hcmd) hc.acts
    (hall.length.symm ▸ hc.loop) (by rwa [State.finish_loop]) (by rwa [State.finish_loop])
  rw [State.finish_loop] at hbare
  exact ⟨_, _, exec_loopSample ((hall.trans hstep).acts.trans hc.acts), hstep.outstanding_nil (hc.finish_outstanding hv),
    hbare⟩

/-- A loop that closes on its sample takes its measurement for r*, so that no following error stands against it (R247). -/
theorem execLoopSample_of_closing (hlim : 0 ≤ s.cfgI .feLimit n) {y : Int}
    (hcourse : (v.loop n).course = (.closed, false, true, none, y)) :
    ∃ t, exec (.loopSample dt n) s = .next t ∧ t.host.outstanding = [] ∧ (t.loop n).st = .closed := by
  let u := v.finish w st res
  have hall : LoopStep (s.advance dt) u :=
    ((LoopStep.measured (s.advance dt) n).trans hv).trans (LoopStep.finish v w st res)
  have hnu : n < u.loops.loop.length := hall.length.symm ▸ hc.loop
  have huv : u.loop n = v.loop n := State.finish_loop ..
  simp only [Loop.course, Prod.mk.injEq, ← huv] at hcourse
  obtain ⟨hst, hclosing, hjust, hhold, -⟩ := hcourse
  have hrs := State.loopTarget_rs_of_closing hnu hst hhold hjust
  obtain ⟨hstep, hlaw⟩ := State.loopSample_of_closed hc.due (hc.loopCmds hmeas hcmd) hc.acts hnu hclosing hst hhold
    (.inr (by
      rw [hrs, Int.sub_self, hall.cfgI]
      exact hlim))
  rw [State.loopTarget_loop hnu] at hlaw
  exact ⟨_, exec_loopSample ((hall.trans hstep).acts.trans hc.acts), hstep.outstanding_nil (hc.finish_outstanding hv),
    hlaw.st.trans hst⟩

end Commanded

end Sys2Proof.Machine
end

section
/-! What each loop command comes to at its loop's sample, and the claim about the loop commands (R249, R253). -/

namespace Sys2Proof.Machine

/-! ### An OPEN loop -/

section Opened

variable {s : State} {dt n d : Nat} {h : Hdr} {w : Waiting} (hc : Commanded s dt n w)
  (hclosing : (s.loop n).closing = false) (hst : (s.loop n).st = .opened)
  (hok : ((s.advance dt).applyOutputs.rawOf n).2 = true)
include hc hclosing hst hok

/-- The loop once it has measured is OPEN as before, and its measurement valid. -/
theorem Commanded.measuring_opened : let l := ((s.advance dt).applyOutputs.measuring n).loop n
    l.st = .opened ∧ l.closing = false ∧ l.measOk = true := by
  obtain ⟨u, hloop, -⟩ := State.measuring_of_due (s := s.advance dt) hc.loop hc.due
  rw [hloop, hok]
  exact ⟨hst, hclosing, rfl⟩

theorem execLoopSample_loopClose (hcmd : w.cmd = .loopClose d h n) (hlim : 0 ≤ s.cfgI .feLimit n) :
    Completes (.loopSample dt n) s (fun t => (t.loop n).st = .closed ∧ t.host.outstanding = []) := by
  obtain ⟨hst', -, hok'⟩ := hc.measuring_opened hclosing hst hok
  obtain ⟨t, hx, hnone, hclosed⟩ := execLoopSample_of_closing hc (.inl hok) (State.loopCmd_close hc.free hcmd hst' hok')
    (.closeLoop ..) hlim (State.closeLoop_course hc.loop_measuring)
  exact ⟨t, hx, hclosed, hnone⟩

/-- A command that leaves the loop OPEN is finished by the sample, which keeps what the command has set. -/
theorem execLoopSample_of_opened {v : State} {st : Status} {res : BitVec 128}
    (hjudged : ((s.advance dt).applyOutputs.measuring n).loopCmd n w = v.finish w st res)
    (hv : LoopStep ((s.advance dt).applyOutputs.measuring n) v)
    (hkept : (v.loop n).st = (((s.advance dt).applyOutputs.measuring n).loop n).st
      ∧ (v.loop n).closing = (((s.advance dt).applyOutputs.measuring n).loop n).closing) :
    Completes (.loopSample dt n) s (fun t => ((t.loop n).st = .opened ∧ (t.loop n).uOut = (v.loop n).uOut
      ∧ (t.loop n).rHost = (v.loop n).rHost ∧ (t.loop n).coefNext = (v.loop n).coefNext) ∧ t.host.outstanding = []) := by
  obtain ⟨hst', hclosing', -⟩ := hc.measuring_opened hclosing hst hok
  have hopen : (v.loop n).st = .opened := hkept.1.trans hst'
  obtain ⟨t, r, hx, hnone, hbare⟩ := execLoopSample_of_not_closed hc (.inl hok) hjudged hv (hkept.2.trans hclosing')
    (by rw [hopen]; decide)
  exact ⟨t, hx, ⟨(congrArg Loop.st hbare).trans hopen, (congrArg Loop.uOut hbare :), (congrArg Loop.rHost hbare :),
    (congrArg Loop.coefNext hbare :)⟩, hnone⟩

theorem execLoopSample_loopOpen (hcmd : w.cmd = .loopOpen d h n true) : Completes (.loopSample dt n) s (fun t =>
    (t.loop n).st = .opened ∧ (t.loop n).uOut = s.cfgI .uSafe n ∧ t.host.outstanding = []) := by
  have hm := LoopStep.measured (s.advance dt) n
  obtain ⟨hst', -, -⟩ := hc.measuring_opened hclosing hst hok
  have hloop := State.setOut_loop hc.loop_measuring (((s.advance dt).applyOutputs.measuring n).uSafe n)
  obtain ⟨t, hx, ⟨hopen, hu, -, -⟩, hnone⟩ := execLoopSample_of_opened hc hclosing hst hok
    (State.loopCmd_openSafe hc.free hcmd hst') (.setOut ..) (by rw [hloop]; exact ⟨rfl, rfl⟩)
  rw [hloop] at hu
  exact ⟨t, hx, hopen, hu.trans (hm.cfgI ..), hnone⟩

theorem execLoopSample_loopSetpoint {r : Q16} (hcmd : w.cmd = .loopSetpoint d h n r) (hsrc : s.cfgN .spSrc n = 0) :
    Completes (.loopSample dt n) s (fun t =>
      (t.loop n).rHost = some (clampI (s.cfgI .spMin n) (s.cfgI .spMax n) r.toInt) ∧ t.host.outstanding = []) := by
  have hm := LoopStep.measured (s.advance dt) n
  obtain ⟨st, res, hjudged⟩ := State.loopCmd_setpoint hc.free hcmd ((hm.cfgN ..).trans hsrc)
  have hloop := State.loop_updLoop_self hc.loop_measuring
  obtain ⟨t, hx, ⟨-, -, hr, -⟩, hnone⟩ := execLoopSample_of_opened hc hclosing hst hok hjudged (.updLoop ..)
    (by rw [hloop]; exact ⟨rfl, rfl⟩)
  rw [hloop, hm.cfgI, hm.cfgI] at hr
  exact ⟨t, hx, hr, hnone⟩

theorem execLoopSample_loopOutput {u : Q16} (hcmd : w.cmd = .loopOutput d h n u) : Completes (.loopSample dt n) s (fun t =>
    (t.loop n).uOut = clampI (s.cfgI .uMin n) (s.cfgI .uMax n) u.toInt ∧ t.host.outstanding = []) := by
  have hm := LoopStep.measured (s.advance dt) n
  obtain ⟨hst', -, -⟩ := hc.measuring_opened hclosing hst hok
  obtain ⟨st, res, hjudged⟩ := State.loopCmd_output hc.free hcmd hst'
  have hloop := State.setOut_loop hc.loop_measuring
  obtain ⟨t, hx, ⟨-, hu, -, -⟩, hnone⟩ := execLoopSample_of_opened hc hclosing hst hok hjudged (.setOut ..)
    (by rw [hloop]; exact ⟨rfl, rfl⟩)
  rw [hloop, hm.cfgI, hm.cfgI] at hu
  exact ⟨t, hx, hu, hnone⟩

theorem execLoopSample_loopCoef {kp ki kd : Q16} {tf : Word} (hcmd : w.cmd = .loopCoef d h n kp ki kd tf) :
    Completes (.loopSample dt n) s (fun t => (t.loop n).coefNext
        = some (coefOf kp.toInt ki.toInt kd.toInt (min 10000000 tf.toNat) (s.cfgI .period n)).1
      ∧ t.host.outstanding = []) := by
  have hm := LoopStep.measured (s.advance dt) n
  obtain ⟨hst', -, -⟩ := hc.measuring_opened hclosing hst hok
  obtain ⟨st, res, hjudged⟩ := State.loopCmd_coef hc.free hcmd hst'
  have hloop := State.loop_updLoop_self hc.loop_measuring
  obtain ⟨t, hx, ⟨-, -, -, hnext⟩, hnone⟩ := execLoopSample_of_opened hc hclosing hst hok hjudged (.updLoop ..)
    (by rw [hloop]; exact ⟨rfl, rfl⟩)
  rw [hloop, hm.cfgI, Nat.cast_min, Nat.cast_ofNat] at hnext
  exact ⟨t, hx, hnext, hnone⟩

end Opened

/-! ### A FAULTED loop -/

/-- LOOP_CLEAR of a fault whose cause has gone opens the loop at U_SAFE (R253). -/
theorem execLoopSample_loopClear {s : State} {dt n d : Nat} {h : Hdr} {w : Waiting} (hc : Commanded s dt n w)
    (hcmd : w.cmd = .loopClear d h n) (hst : (s.loop n).st = .faulted) (hcause : (s.loop n).cause ≠ 1) :
    Completes (.loopSample dt n) s (fun t =>
      (t.loop n).st = .opened ∧ (t.loop n).uOut = s.cfgI .uSafe n ∧ t.host.outstanding = []) := by
  let m := (s.advance dt).applyOutputs.measuring n
  have hm : LoopStep (s.advance dt) m := .measured ..
  obtain ⟨u, hmeasured, -⟩ := State.measuring_of_due (s := s.advance dt) hc.loop hc.due
  have hst' : (m.loop n).st = .faulted := (congrArg Loop.st hmeasured).trans hst
  have hcause' : (m.loop n).cause ≠ 1 := by rw [hmeasured]; exact hcause
  have hsink : m.sinkLost n = false := (hm.sinkLost ((congrArg Loop.sampled hmeasured).trans rfl)).trans hc.sink
  have hsafe := LoopStep.loopSafe m n
  have hloop := State.loop_updLoop_self (hsafe.length.symm ▸ hc.loop_measuring) (fun l => { l with cleared := true })
  rw [State.loopSafe_loop hc.loop_measuring] at hloop
  obtain ⟨t, r, hx, hnone, hbare⟩ := execLoopSample_of_not_closed hc (.inr (by rw [hst]; decide))
    (State.loopCmd_clear hc.free hcmd hst' hcause' hsink) (hsafe.trans (.updLoop ..)) (congrArg Loop.closing hloop)
    (by rw [hloop]; exact LoopSt.noConfusion)
  rw [hloop] at hbare
  exact ⟨t, hx, congrArg Loop.st hbare, (congrArg Loop.uOut hbare).trans (hm.cfgI ..), hnone⟩

/-- Settles O39: each command waits when it is taken, and its loop's next sample judges it. -/
theorem loopCommands : Obligations.LoopCommands := by
  refine ⟨fun s dt n h hon hfree => ⟨waits_of_cmdLoop hon hfree rfl, fun _ => waits_of_cmdLoop hon hfree rfl,
      fun _ => waits_of_cmdLoop hon hfree rfl, fun _ => waits_of_cmdLoop hon hfree rfl,
      fun _ _ _ _ => waits_of_cmdLoop hon hfree rfl, waits_of_cmdLoop hon hfree rfl⟩,
    fun s dt n w hn hdue hout haux hlo hhi hacts hsink hclosing hst hlim hok => ?_,
    fun s dt n d h w hn hdue hout haux hop hcmd hacts hsink _ hst hcause =>
      execLoopSample_loopClear ⟨hn, hdue, hout, haux, by rw [hop]; decide, by rw [hop]; decide, hacts, hsink⟩ hcmd
        hst hcause⟩
  have hc : Commanded s dt n w := ⟨hn, hdue, hout, haux, hlo, hhi, hacts, hsink⟩
  exact ⟨fun _ _ hcmd => execLoopSample_loopClose hc hclosing hst hok hcmd hlim,
    fun _ _ hcmd => execLoopSample_loopOpen hc hclosing hst hok hcmd,
    fun _ _ _ hcmd hsrc => execLoopSample_loopSetpoint hc hclosing hst hok hcmd hsrc,
    fun _ _ _ hcmd => execLoopSample_loopOutput hc hclosing hst hok hcmd,
    fun _ _ _ _ _ _ hcmd => execLoopSample_loopCoef hc hclosing hst hok hcmd⟩

end Sys2Proof.Machine
end

section
/-! LS_SET of an empty mask (R284, R375). -/

namespace Sys2Proof.Machine

/-- A bound module in PARKED with one command announced and room for its completion. -/
def parkedWithCommand : State :=
  { dev := { st := .parked, bound := true }
    host := { link := true, bme := true, mse := true, rings := [{ en := true, host := 1 }, { en := true }] } }

/-- LS_SET without a switch comes to nothing, whatever its duty. -/
theorem cmdLsSet_empty (s : State) {k : Nat} {m : LsMode} (hm : lsModeOf k = some m) (duty : Q16) :
    cmdLsSet 0 k duty s = .done .ok 0 s := by
  simp only [cmdLsSet, hm]
  rfl

/-- Refutes O41: the statement has LS_SET complete CLAMPED, with the clamped duty as its RESULT, for an empty mask too, as
its hypotheses about the named switches are then void.  In `parkedWithCommand` an LS_SET of PWM at 120 % that names no
switch is a command without effect, and completes OK with RESULT 0 (R375). -/
theorem not_switchCommands : ¬ Obligations.SwitchCommands := by
  rintro ⟨hset, -⟩
  have ht : Takes parkedWithCommand 0 0x60 {} := by decide
  obtain ⟨v, hv, -, -, hframe⟩ := hset parkedWithCommand 0 {} 0 3 .pwm 0x780000 ht rfl rfl
    (fun n hn => by simp [mem_bitsOf] at hn) (fun h => absurd rfl h)
  have hrow : exec (.lsSet 0 {} 0 3 0x780000) parkedWithCommand = .next (parkedWithCommand.taken.complete 0x60 {}
      (parkedWithCommand.ring 0).mod .ok 0) := by
    refine congrArg Host.Outcome.next (State.command_of_done ht ?_)
    rw [State.advance_zero]
    exact cmdLsSet_empty _ rfl _
  have heq := Host.Outcome.next.inj (hv.symm.trans hrow)
  have hloops : v.loops = parkedWithCommand.taken.loops := by simpa using congrArg State.loops heq
  rw [hframe, hloops] at heq
  exact absurd (congrArg (·.host.out) heq) (by decide +kernel)

end Sys2Proof.Machine
end

section
/-! One load switch of the list, and what the operations of a switch change (R263 to R281). -/

namespace Sys2Proof.Machine

/-! ### One switch, and one pair, of the list -/

@[simp] theorem State.updLs_length (s : State) (n : Nat) (f : Switch → Switch) :
    (s.updLs n f).loops.ls.length = s.loops.ls.length := List.length_modify ..

theorem State.ls_updLs {s : State} {n : Nat} (hn : n < s.loops.ls.length) (f : Switch → Switch) :
    (s.updLs n f).ls n = f (s.ls n) := by
  rw [State.ls, State.updLs, getD_modify _ _ _ f _ hn, if_pos rfl, State.ls]

/-- What the update of one switch makes of each, or leaves as it is, holds of every switch after it. -/
theorem State.updLs_all {P : Switch → Switch → Prop} (hrefl : ∀ x, P x x) {f : Switch → Switch} (hf : ∀ x, P x (f x))
    (s : State) (n j : Nat) : P (s.ls j) ((s.updLs n f).ls j) := by
  simp only [State.ls, State.updLs, List.getD_eq_getElem?_getD, List.getElem?_modify]
  cases s.loops.ls[j]? with
  | none => exact hrefl _
  | some x =>
    by_cases hnj : n = j
    · simpa [hnj] using hf x
    · simpa [hnj] using hrefl x

/-- What an update keeps of a switch, it keeps of every switch. -/
theorem State.updLs_proj {β : Type} (p : Switch → β) {f : Switch → Switch} (hf : ∀ x, p (f x) = p x) (s : State)
    (n j : Nat) : p ((s.updLs n f).ls j) = p (s.ls j) :=
  State.updLs_all (P := fun x y => p y = p x) (fun _ => rfl) hf s n j

theorem State.ls_updLs_of_ne (s : State) {n j : Nat} (f : Switch → Switch) (h : j ≠ n) :
    (s.updLs n f).ls j = s.ls j := by
  simp [State.ls, State.updLs, List.getD_eq_getElem?_getD, h.symm]

theorem State.ls_of_loops {s t : State} (h : t.loops = s.loops) (j : Nat) : t.ls j = s.ls j := by
  rw [State.ls, h, State.ls]

theorem State.lsPair_updLsPair {s : State} {k : Nat} (hk : k < s.loops.pair.length) (f : LsPair → LsPair) :
    (s.updLsPair k f).lsPair k = f (s.lsPair k) := by
  rw [State.lsPair, State.updLsPair, getD_modify _ _ _ f _ hk, if_pos rfl, State.lsPair]

/-! ### The switches that act as one (R263, R278) -/

section PairIf

variable (c : Prop) [Decidable c] (n : Nat)

theorem mem_pairIf : n ∈ if c then [n / 2 * 2, n / 2 * 2 + 1] else [n] := by
  split
  · simp
    omega
  · simp

theorem pairIf_nodup : (if c then [n / 2 * 2, n / 2 * 2 + 1] else [n]).Nodup := by
  split <;> simp

theorem lt_of_mem_pairIf {m : Nat} (hn : n < 16) (hm : m ∈ if c then [n / 2 * 2, n / 2 * 2 + 1] else [n]) : m < 16 := by
  split at hm <;> simp at hm <;> omega

end PairIf

theorem State.mem_lsUnit (s : State) (n : Nat) : n ∈ s.lsUnit n := mem_pairIf ..

theorem State.lsUnit_nodup (s : State) (n : Nat) : (s.lsUnit n).Nodup := pairIf_nodup ..

theorem State.lt_of_mem_lsUnit {s : State} {n m : Nat} (hlen : s.loops.ls.length = 16) (hn : n < 16)
    (hm : m ∈ s.lsUnit n) : m < s.loops.ls.length := hlen ▸ lt_of_mem_pairIf _ n hn hm

theorem State.mem_lsLoad (s : State) (n : Nat) : n ∈ s.lsLoad n := mem_pairIf ..

theorem State.lsLoad_nodup (s : State) (n : Nat) : (s.lsLoad n).Nodup := pairIf_nodup ..

/-! ### What the operations of some switches may change -/

/-- Between `s` and `t` no switch but those of `ns` has changed, nor anything else but the host interface, what Saggar has
detected, the fault records and the counters. -/
structure SwitchStep (ns : List Nat) (s t : State) : Prop where
  parts : t = { s with
    loops := { s.loops with ls := t.loops.ls }, host := t.host, sag := t.sag, flash := t.flash, cnt := t.cnt }
  length : t.loops.ls.length = s.loops.ls.length
  others : ∀ j, j ∉ ns → t.ls j = s.ls j

namespace SwitchStep

theorem refl (ns : List Nat) (s : State) : SwitchStep ns s s := ⟨rfl, rfl, fun _ _ => rfl⟩

variable {ns ms : List Nat} {s t u : State}

theorem trans (h : SwitchStep ns s t) (h' : SwitchStep ns t u) : SwitchStep ns s u where
  parts := by rw [h'.parts, h.parts]
  length := h'.length.trans h.length
  others j hj := (h'.others j hj).trans (h.others j hj)

theorem mono (h : SwitchStep ns s t) (hsub : ns ⊆ ms) : SwitchStep ms s t where
  parts := h.parts
  length := h.length
  others j hj := h.others j fun hmem => hj (hsub hmem)

/-- Steps of different switches after each other. -/
theorem append (h : SwitchStep ns s t) (h' : SwitchStep ms t u) : SwitchStep (ns ++ ms) s u :=
  (h.mono (List.subset_append_left ns ms)).trans (h'.mono (List.subset_append_right ns ms))

theorem each {f : State → Nat → State} (hf : ∀ u x, SwitchStep [x] u (f u x)) (s : State) (l : List Nat) :
    SwitchStep l s (s.each l f) := by
  induction l generalizing s with
  | nil => exact refl _ s
  | cons y l ih => exact (hf s y).append (ih (f s y))

/-- Where each step has a switch of its own, a switch ends up as its step leaves it, whatever the others do. -/
theorem each_at {f : State → Nat → State} (hf : ∀ u x, SwitchStep [x] u (f u x)) {l : List Nat} (hl : l.Nodup) {x : Nat}
    (hx : x ∈ l) (s : State) :
    ∃ u ms, SwitchStep ms s u ∧ u.ls x = s.ls x ∧ (s.each l f).ls x = (f u x).ls x := by
  refine State.each_once (I := fun v => ∃ ms, SwitchStep ms s v ∧ v.ls x = s.ls x)
    (P := fun v => ∃ u ms, SwitchStep ms s u ∧ u.ls x = s.ls x ∧ v.ls x = (f u x).ls x) hl hx ?_ ?_ ?_ ⟨[], refl _ s, rfl⟩
  · rintro v y hy ⟨ms, hv, hkept⟩
    exact ⟨_, hv.append (hf v y), ((hf v y).others x (by simpa using hy.symm)).trans hkept⟩
  · rintro v ⟨ms, hv, hkept⟩
    exact ⟨v, ms, hv, hkept, rfl⟩
  · rintro v y hy ⟨u, ms, hu, hkept, hmade⟩
    exact ⟨u, ms, hu, hkept, ((hf v y).others x (by simpa using hy.symm)).trans hmade⟩

theorem ite (h : SwitchStep ns s t) (h' : SwitchStep ns s u) (c : Prop) [Decidable c] :
    SwitchStep ns s (if c then t else u) := by
  split
  · exact h
  · exact h'

/-! #### What stays as it was -/

section
variable (h : SwitchStep ns s t)
include h

theorem now : t.now = s.now := by rw [State.now, h.parts, State.now]

theorem dev : t.dev = s.dev := by rw [h.parts]

theorem cfg : t.cfg = s.cfg := by rw [h.parts]

theorem cfgI (f : Fld) (i : Nat) : t.cfgI f i = s.cfgI f i := by rw [State.cfgI, h.parts, State.cfgI]

theorem cfgN (f : Fld) (i : Nat) : t.cfgN f i = s.cfgN f i := by rw [State.cfgN, h.cfgI, State.cfgN]

theorem cfgB (f : Fld) (i : Nat) : t.cfgB f i = s.cfgB f i := by rw [State.cfgB, h.cfgI, State.cfgB]

theorem lsPair (k : Nat) : t.lsPair k = s.lsPair k := by rw [State.lsPair, h.parts, State.lsPair]

theorem lsUnit (n : Nat) : t.lsUnit n = s.lsUnit n := by
  rw [State.lsUnit, State.pairMode, h.cfgN, State.lsUnit, State.pairMode]

/-- A step that tells nobody of it changes the switches alone. -/
theorem frame (hkeeps : t.host = s.host ∧ t.sag = s.sag ∧ t.flash = s.flash ∧ t.cnt = s.cnt) :
    t = { s with loops := t.loops } := by
  obtain ⟨hhost, hsag, hflash, hcnt⟩ := hkeeps
  have hparts := h.parts
  rw [hhost, hsag, hflash, hcnt] at hparts
  rw [hparts]

end

/-! #### The operations -/

theorem updLs (s : State) (n : Nat) (f : Switch → Switch) : SwitchStep [n] s (s.updLs n f) :=
  ⟨rfl, s.updLs_length n f, fun _ hj => s.ls_updLs_of_ne f (by simpa using hj)⟩

theorem raise (s : State) (code subject : Nat) (data : List (Nat × Nat × Nat)) (urgent : Bool) :
    SwitchStep ns s (s.raise code subject data urgent) :=
  ⟨State.eq_of_parts (by simp), by simp, fun _ _ => State.ls_of_loops (by simp) _⟩

theorem record (s : State) (source code subject : Nat) (data : List (Nat × Nat × Nat)) (urgent : Bool) :
    SwitchStep ns s (s.record source code subject data urgent) :=
  ⟨State.eq_of_parts (by simp), by simp, fun _ _ => State.ls_of_loops (by simp) _⟩

theorem bufferRec (s : State) (r : FaultRec) : SwitchStep ns s (s.bufferRec r) := ⟨rfl, rfl, fun _ _ => rfl⟩

theorem noteClass (s : State) (k lane : Nat) : SwitchStep ns s (s.noteClass k lane) := ⟨rfl, rfl, fun _ _ => rfl⟩

theorem lsDate (s : State) (n : Nat) : SwitchStep [n] s (s.lsDate n) := updLs ..

theorem lsReckon (s : State) (n : Nat) : SwitchStep [n] s (s.lsReckon n) := updLs ..

theorem lsSet (s : State) (n : Nat) (m : LsMode) (duty : Int) : SwitchStep [n] s (s.lsSet n m duty) :=
  (lsReckon s n).trans (updLs ..)

theorem lsPut (s : State) (n : Nat) (m : LsMode) (duty : Int) : SwitchStep [n] s (s.lsPut n m duty) :=
  (lsDate s n).trans (lsSet ..)

theorem lsOff (s : State) (n : Nat) : SwitchStep [n] s (s.lsOff n) := lsPut ..

theorem lsOwned (s : State) (n : Nat) : SwitchStep [n] s (s.lsOwned n) := (updLs s n _).ite (refl _ s) _

theorem lsApply (s : State) (n : Nat) : SwitchStep [n] s (s.lsApply n) :=
  (lsOwned s n).trans ((refl ..).ite (lsPut ..) _)

theorem lsMean (s : State) (n : Nat) (o : Int × Nat) : SwitchStep [n] s (s.lsMean n o) :=
  ((updLs s n _).trans (lsReckon ..)).trans (updLs ..)

theorem lsLatchOne (s : State) (n cause : Nat) : SwitchStep [n] s (s.lsLatchOne n cause) :=
  (refl _ s).ite (((lsOff s n).trans (updLs ..)).trans ((bufferRec ..).ite (record ..) _)) _

theorem lsLatch (s : State) (n cause : Nat) : SwitchStep (s.lsUnit n) s (s.lsLatch n cause) :=
  each (fun _ _ => lsLatchOne ..) s _

end SwitchStep

end Sys2Proof.Machine
end

section
/-! What a change of mode, a latch and a finding do to the switches (R264 to R281). -/

namespace Sys2Proof.Machine

/-! ### A change of mode (R266, R273) -/

/-- A switch without what a change of mode may change. -/
def Switch.rest (x : Switch) : Switch :=
  { x with mode := .off, duty := 0, cyc := 0, hiOff := 0, loOff := 0, offFrom := 0, win := none, budget := none,
           budgetAt := 0, iNow := 0, onFrom := none, condFrom := none, wideFrom := none, lowFrom := none }

theorem State.ls_of_ge {s : State} {n : Nat} (h : s.loops.ls.length ≤ n) : s.ls n = {} := List.getD_eq_default _ _ h

theorem State.lsDate_rest (s : State) (n j : Nat) : ((s.lsDate n).ls j).rest = (s.ls j).rest :=
  State.updLs_proj Switch.rest (by exact fun _ => rfl) s n j

theorem State.lsSet_rest (s : State) (n j : Nat) (m : LsMode) (duty : Int) :
    ((s.lsSet n m duty).ls j).rest = (s.ls j).rest :=
  (State.updLs_proj Switch.rest (by exact fun _ => rfl) (s.lsReckon n) n j).trans
    (State.updLs_proj Switch.rest (by exact fun _ => rfl) s n j)

theorem State.lsPut_rest (s : State) (n j : Nat) (m : LsMode) (duty : Int) :
    ((s.lsPut n m duty).ls j).rest = (s.ls j).rest := (State.lsSet_rest ..).trans (s.lsDate_rest n j)

theorem State.lsOff_rest (s : State) (n j : Nat) : ((s.lsOff n).ls j).rest = (s.ls j).rest := State.lsPut_rest ..

theorem State.lsSet_mode {s : State} {n : Nat} (hn : n < s.loops.ls.length) (m : LsMode) (duty : Int) :
    ((s.lsSet n m duty).ls n).mode = m ∧ ((s.lsSet n m duty).ls n).duty = duty := by
  have hset := State.ls_updLs (s := s.lsReckon n) (n := n) (by rwa [(SwitchStep.lsReckon s n).length])
  rw [State.lsSet, hset]
  exact ⟨rfl, rfl⟩

theorem State.lsOff_mode {s : State} {n : Nat} (hn : n < s.loops.ls.length) : ((s.lsOff n).ls n).mode = .off :=
  (State.lsSet_mode (s := s.lsDate n) (by rwa [(SwitchStep.lsDate s n).length]) .off 0).1

/-- Turning one switch off turns none on. -/
theorem State.lsOff_mode_or (s : State) (n j : Nat) :
    ((s.lsOff n).ls j).mode = .off ∨ ((s.lsOff n).ls j).mode = (s.ls j).mode := by
  refine (State.updLs_all (P := fun x y => y.mode = .off ∨ y.mode = x.mode) (fun _ => .inr rfl) ?_
    ((s.lsDate n).lsReckon n) n j).imp_right fun h => h.trans ?_
  · exact fun _ => .inl rfl
  · exact (State.updLs_proj Switch.mode (by exact fun _ => rfl) (s.lsDate n) n j).trans
      (State.updLs_proj Switch.mode (by exact fun _ => rfl) s n j)

/-- The owner's setting of a mode changes nothing of a switch but that it has been cleared. -/
theorem State.lsOwned_proj {β : Type} (p : Switch → β) (hp : ∀ x : Switch, p { x with cleared := false } = p x)
    (s : State) (n j : Nat) : p ((s.lsOwned n).ls j) = p (s.ls j) := by
  unfold State.lsOwned
  split
  · exact State.updLs_proj p hp s n j
  · rfl

theorem State.lsApply_pause (s : State) (n j : Nat) : ((s.lsApply n).ls j).pause = (s.ls j).pause := by
  rw [← State.lsOwned_proj Switch.pause (fun _ => rfl) s n j, State.lsApply]
  split
  · rfl
  · exact (congrArg Switch.pause (State.lsPut_rest ..) :)

/-! ### A latch (R281) -/

/-- A switch latched at MT `m`. -/
def Switch.latchedAt (x : Switch) (cause m : Nat) : Switch :=
  { x with latched := true, cause := cause, pause := none, latchMt := some m }

theorem State.lsLatchOne_ls (s : State) (n cause j : Nat) : (s.lsLatchOne n cause).ls j =
    if (s.ls n).latched then s.ls j else ((s.lsOff n).updLs n (·.latchedAt cause (s.lsOff n).now)).ls j := by
  unfold State.lsLatchOne
  dsimp only
  split
  · rfl
  · exact State.ls_of_loops (by split <;> simp <;> rfl) j

/-- A finding of a switch's tests is counted, and its class noted. -/
def State.findingNoted (s : State) (n : Nat) : State :=
  (s.updLs n (fun x => { x with counts := x.counts.modify 2 satInc })).noteClass 7 2

theorem State.lsFinding_eq (s : State) (n cause : Nat) : s.lsFinding n cause = (s.findingNoted n).lsLatch n cause := rfl

theorem SwitchStep.findingNoted (s : State) (n : Nat) : SwitchStep [n] s (s.findingNoted n) :=
  (updLs s n _).trans (noteClass ..)

/-- Between `x` and `y` a switch that was not latched may have been turned off, and latched with a cause. -/
structure Latching (cause : Nat) (x y : Switch) : Prop where
  log : (y.tested, y.trips, y.mv) = (x.tested, x.trips, x.mv)
  off : x.mode = .off → y.mode = .off
  held : x.latched = true → y.latched = true ∧ y.cause = x.cause
  newly : y.latched = true → x.latched = true ∨ (y.cause = cause ∧ y.mode = .off)

namespace Latching

variable {cause : Nat} {x y z : Switch}

theorem refl (cause : Nat) (x : Switch) : Latching cause x x := ⟨rfl, id, fun h => ⟨h, rfl⟩, .inl⟩

theorem trans (h : Latching cause x y) (h' : Latching cause y z) : Latching cause x z where
  log := h'.log.trans h.log
  off hx := h'.off (h.off hx)
  held hx := ⟨(h'.held (h.held hx).1).1, (h'.held (h.held hx).1).2.trans (h.held hx).2⟩
  newly hz := (h'.newly hz).elim (fun hy => (h.newly hy).imp_right fun hnew =>
    ⟨(h'.held hy).2.trans hnew.1, h'.off hnew.2⟩) .inr

theorem each {α : Type} {f : State → α → State} {j : Nat} (hf : ∀ u i, Latching cause (u.ls j) ((f u i).ls j))
    (s : State) (l : List α) : Latching cause (s.ls j) ((s.each l f).ls j) :=
  State.each_keeps (P := fun u => Latching cause (s.ls j) (u.ls j)) (fun u i hu => hu.trans (hf u i)) l (.refl ..)

theorem lsLatchOne (s : State) (n cause j : Nat) : Latching cause (s.ls j) ((s.lsLatchOne n cause).ls j) := by
  have hoff := s.lsOff_rest n j
  rw [State.lsLatchOne_ls]
  split
  · exact refl ..
  · by_cases hj : j = n
    · subst hj
      by_cases hlen : j < s.loops.ls.length
      · rw [State.ls_updLs (by rwa [(SwitchStep.lsOff s j).length])]
        exact ⟨(congrArg (fun x : Switch => (x.tested, x.trips, x.mv)) hoff :), fun _ => State.lsOff_mode hlen,
          fun hl => absurd hl ‹_›, fun _ => .inr ⟨rfl, State.lsOff_mode hlen⟩⟩
      · have hge : s.loops.ls.length ≤ j := Nat.le_of_not_lt hlen
        rw [State.ls_of_ge hge, State.ls_of_ge (by rwa [State.updLs_length, (SwitchStep.lsOff s j).length])]
        exact refl ..
    · rw [State.ls_updLs_of_ne _ _ hj, (SwitchStep.lsOff s n).others j (by simpa using hj)]
      exact refl ..

theorem lsLatch (s : State) (n cause j : Nat) : Latching cause (s.ls j) ((s.lsLatch n cause).ls j) :=
  each (fun u m => lsLatchOne u m cause j) s _

theorem lsFinding (s : State) (n cause j : Nat) : Latching cause (s.ls j) ((s.lsFinding n cause).ls j) := by
  refine trans ?_ (lsLatch (s.findingNoted n) n cause j)
  refine State.updLs_all (P := Latching cause) (refl cause) ?_ s n j
  exact fun _ => ⟨rfl, id, fun h => ⟨h, rfl⟩, .inl⟩

end Latching

theorem State.lsLatchOne_latched {s : State} {n : Nat} (hn : n < s.loops.ls.length) (cause : Nat) :
    ((s.lsLatchOne n cause).ls n).latched = true := by
  rw [State.lsLatchOne_ls]
  split
  · assumption
  · rw [State.ls_updLs (by rwa [(SwitchStep.lsOff s n).length])]
    rfl

/-- A switch of a unit that latches is latched. -/
theorem State.lsLatch_latched {s : State} {n m : Nat} (hm : m ∈ s.lsUnit n) (hlen : m < s.loops.ls.length)
    (cause : Nat) : ((s.lsLatch n cause).ls m).latched = true :=
  State.each_makes (I := fun u => m < u.loops.ls.length) (P := fun u => (u.ls m).latched = true) hm
    (fun u i hu => by rwa [(SwitchStep.lsLatchOne u i cause).length]) (fun u hu => State.lsLatchOne_latched hu cause)
    (fun u i hu => ((Latching.lsLatchOne u i cause m).held hu).1) hlen

theorem State.lsFinding_length (s : State) (n cause : Nat) :
    (s.lsFinding n cause).loops.ls.length = s.loops.ls.length :=
  ((SwitchStep.findingNoted s n).append (.lsLatch ..)).length

theorem State.lsFinding_latched {s : State} {n : Nat} (hn : n < s.loops.ls.length) (cause : Nat) :
    ((s.lsFinding n cause).ls n).latched = true :=
  State.lsLatch_latched (s := s.findingNoted n) (State.mem_lsUnit ..)
    (by rwa [(SwitchStep.findingNoted s n).length]) cause

/-! ### A trip (R263, R270, R271) -/

/-- A switch is turned off, and a trip counted. -/
def State.tripOne (s : State) (m : Nat) : State := (s.lsOff m).updLs m (fun x => { x with trips := x.trips + 1 })

/-- The unit of a switch that trips at current `ma` is off, and its trip counted. -/
def State.tripOff (s : State) (n : Nat) (ma : Int) : State :=
  (s.updLs n (fun x => { x with iNow := ma })).each (s.lsUnit n) State.tripOne

/-- The trip is dated. -/
def State.tripDated (s : State) (n : Nat) (ma : Int) : State :=
  (s.tripOff n ma).updLs n
    (fun x => { x with tripAt := some (s.tripOff n ma).now, counts := x.counts.modify 0 satInc })

/-- The trip's event is raised. -/
def State.tripTold (s : State) (n : Nat) (ma : Int) (short : Bool) : State :=
  (s.tripDated n ma).raise 0x6001 n
    [(128, 1, b2n short), (136, 8, ((s.tripDated n ma).ls n).trips), (144, 32, twos 32 ma)] false

/-- A switch pauses after its trip `i`. -/
def State.pauseOne (i : Nat) (s : State) (m : Nat) : State :=
  s.updLs m (fun x => { x with pause := some (s.now + pauseTicks i) })

theorem State.lsTripped_eq (s : State) (n : Nat) (ma : Int) (short : Bool) : s.lsTripped n ma short =
    if (s.tripTold n ma short).cfgN .ocTries n ≤ ((s.tripDated n ma).ls n).trips
    then (s.tripTold n ma short).lsLatch n lsOver
    else (s.tripTold n ma short).each (s.lsUnit n) (.pauseOne ((s.tripDated n ma).ls n).trips) := rfl

/-- The data of a switch that a trip changes or shows at once: its mode, trips and voltage. -/
def Switch.tripData (x : Switch) : LsMode × Nat × Nat := (x.mode, x.trips, x.mv)

theorem State.tripDated_tripData (s : State) (n j : Nat) (ma : Int) :
    ((s.tripDated n ma).ls j).tripData = ((s.tripOff n ma).ls j).tripData :=
  State.updLs_proj Switch.tripData (by exact fun _ => rfl) _ n j

theorem State.tripTold_ls (s : State) (n j : Nat) (ma : Int) (short : Bool) :
    (s.tripTold n ma short).ls j = (s.tripDated n ma).ls j := State.ls_of_loops (by simp [State.tripTold]) j

theorem SwitchStep.tripOne (s : State) (m : Nat) : SwitchStep [m] s (s.tripOne m) := (lsOff s m).trans (updLs ..)

theorem State.tripOne_mv (s : State) (m j : Nat) : ((s.tripOne m).ls j).mv = (s.ls j).mv :=
  (State.updLs_proj Switch.mv (by exact fun _ => rfl) (s.lsOff m) m j).trans (congrArg Switch.mv (s.lsOff_rest m j) :)

section Trip

variable {s : State} {n : Nat} {ma : Int} {short : Bool}

theorem SwitchStep.tripOff : SwitchStep (n :: s.lsUnit n) s (s.tripOff n ma) :=
  (updLs s n _).append (each SwitchStep.tripOne ..)

theorem SwitchStep.tripTold : SwitchStep ((n :: s.lsUnit n) ++ [n]) s (s.tripTold n ma short) :=
  SwitchStep.tripOff.append ((updLs _ n _).trans (raise ..))

/-- Each switch of the unit is turned off, and its trip counted. -/
theorem State.tripOff_tripData {m : Nat} (hm : m ∈ s.lsUnit n) (hlen : m < s.loops.ls.length) :
    ((s.tripOff n ma).ls m).tripData = (.off, (s.ls m).trips + 1, (s.ls m).mv) := by
  obtain ⟨u, ms, hu, hkept, hmade⟩ := SwitchStep.each_at SwitchStep.tripOne (s.lsUnit_nodup n) hm
    (s.updLs n (fun x => { x with iNow := ma }))
  have hlenu : m < u.loops.ls.length := by rwa [hu.length, State.updLs_length]
  have hdata : ((s.updLs n (fun x => { x with iNow := ma })).ls m).tripData = (s.ls m).tripData :=
    State.updLs_proj Switch.tripData (by exact fun _ => rfl) s n m
  rw [← hkept] at hdata
  have hrest := u.lsOff_rest m m
  rw [State.tripOff, hmade, State.tripOne, State.ls_updLs (by rwa [(SwitchStep.lsOff u m).length])]
  have htrips : (u.ls m).trips = (s.ls m).trips := (congrArg (·.2.1) hdata :)
  have hmv : (u.ls m).mv = (s.ls m).mv := (congrArg (·.2.2) hdata :)
  rw [← htrips, ← hmv]
  exact congrArg₂ _ (State.lsOff_mode hlenu) (congrArg (fun x : Switch => (x.trips + 1, x.mv)) hrest :)

theorem State.tripTold_tripData {m : Nat} (hm : m ∈ s.lsUnit n) (hlen : m < s.loops.ls.length) :
    ((s.tripTold n ma short).ls m).tripData = (.off, (s.ls m).trips + 1, (s.ls m).mv) := by
  rw [State.tripTold_ls, State.tripDated_tripData, State.tripOff_tripData hm hlen]

theorem State.tripDated_trips (hlen : n < s.loops.ls.length) : ((s.tripDated n ma).ls n).trips = (s.ls n).trips + 1 :=
  (congrArg (·.2.1) ((State.tripDated_tripData ..).trans (State.tripOff_tripData (s.mem_lsUnit n) hlen)) :)

/-- The trip that brings the count to OC_TRIES latches (R271). -/
theorem State.lsTripped_of_last (hlen : n < s.loops.ls.length) (hlast : s.cfgN .ocTries n ≤ (s.ls n).trips + 1) :
    s.lsTripped n ma short = (s.tripTold n ma short).lsLatch n lsOver := by
  rw [State.lsTripped_eq, SwitchStep.tripTold.cfgN, State.tripDated_trips hlen, if_pos hlast]

/-- An earlier trip pauses (R271). -/
theorem State.lsTripped_of_early (hlen : n < s.loops.ls.length) (hearly : (s.ls n).trips + 1 < s.cfgN .ocTries n) :
    s.lsTripped n ma short = (s.tripTold n ma short).each (s.lsUnit n) (.pauseOne ((s.ls n).trips + 1)) := by
  rw [State.lsTripped_eq, SwitchStep.tripTold.cfgN, State.tripDated_trips hlen, if_neg (Nat.not_le_of_lt hearly)]

/-- What a trip comes to for each switch of the unit, whether it pauses or latches. -/
theorem State.lsTripped_tripData {m : Nat} (hn : n < s.loops.ls.length) (hm : m ∈ s.lsUnit n)
    (hlen : m < s.loops.ls.length) :
    ((s.lsTripped n ma short).ls m).tripData = (.off, (s.ls m).trips + 1, (s.ls m).mv) := by
  have htold := State.tripTold_tripData (ma := ma) (short := short) hm hlen
  by_cases hearly : (s.ls n).trips + 1 < s.cfgN .ocTries n
  · rw [State.lsTripped_of_early hn hearly, ← htold]
    exact State.each_induct (fun u : State => (u.ls m).tripData)
      (fun u i => State.updLs_proj Switch.tripData (by exact fun _ => rfl) u i m) _ _
  · have hlatch := Latching.lsLatch (s.tripTold n ma short) n lsOver m
    rw [State.lsTripped_of_last hn (Nat.le_of_not_lt hearly), ← htold]
    exact congrArg₂ _ ((hlatch.off (congrArg (·.1) htold)).trans (congrArg (·.1) htold).symm) (congrArg (·.2) hlatch.log)

theorem State.lsTripped_pauses (hn : n < s.loops.ls.length) (hearly : (s.ls n).trips + 1 < s.cfgN .ocTries n) {m : Nat}
    (hm : m ∈ s.lsUnit n) (hlen : m < s.loops.ls.length) :
    ((s.lsTripped n ma short).ls m).pause = some (s.now + pauseTicks ((s.ls n).trips + 1)) := by
  obtain ⟨u, ms, hu, -, hmade⟩ := SwitchStep.each_at (f := State.pauseOne ((s.ls n).trips + 1))
    (fun v x => .updLs v x _) (s.lsUnit_nodup n) hm (s.tripTold n ma short)
  rw [State.lsTripped_of_early hn hearly, hmade, State.pauseOne,
    State.ls_updLs (by rwa [hu.length, SwitchStep.tripTold.length]), hu.now, SwitchStep.tripTold.now]

/-- A trip that pauses leaves no fault record. -/
theorem State.lsTripped_flash (hn : n < s.loops.ls.length) (hearly : (s.ls n).trips + 1 < s.cfgN .ocTries n) :
    (s.lsTripped n ma short).flash = s.flash := by
  rw [State.lsTripped_of_early hn hearly]
  simp [State.pauseOne, State.tripTold, State.tripDated, State.tripOff, State.tripOne]

theorem State.lsTripped_latches (hn : n < s.loops.ls.length) (hlast : s.cfgN .ocTries n ≤ (s.ls n).trips + 1) {m : Nat}
    (hm : m ∈ s.lsUnit n) (hlen : m < s.loops.ls.length) : ((s.lsTripped n ma short).ls m).latched = true := by
  rw [State.lsTripped_of_last hn hlast]
  exact State.lsLatch_latched (by rwa [SwitchStep.tripTold.lsUnit]) (by rwa [SwitchStep.tripTold.length]) _

end Trip

end Sys2Proof.Machine
end

section
/-! The mode that a switch has to take, the start of a PWM period, and a thermal shutdown (R265 to R269, R276, R277). -/

namespace Sys2Proof.Machine

/-! ### What a switch has to take (R265, R266, R281) -/

namespace SwitchStep

variable {ms : List Nat} {s t : State} (h : SwitchStep ms s t)
include h

theorem pwr : t.pwr = s.pwr := by rw [h.parts]

theorem loop (n : Nat) : t.loop n = s.loop n := by rw [State.loop, h.parts, State.loop]

theorem sink (n : Nat) : t.sink n = s.sink n := by rw [State.sink, h.cfgI, State.sink]

theorem lsLead (n : Nat) : t.lsLead n = s.lsLead n := by
  rw [State.lsLead, State.pairMode, h.cfgN, State.lsLead, State.pairMode]

theorem lsOwner (n : Nat) : t.lsOwner n = s.lsOwner n := by
  rw [h.parts]
  rfl

theorem lsTuned (n : Nat) : t.lsTuned n = s.lsTuned n := by
  rw [h.parts]
  rfl

theorem lsWaits {n : Nat} (hcleared : (t.ls n).cleared = (s.ls n).cleared) : t.lsWaits n = s.lsWaits n := by
  simp only [State.lsWaits, hcleared, h.lsOwner, h.loop]

end SwitchStep

/-- The data of a switch that bear on what it has to take. -/
def Switch.choiceData (x : Switch) : Bool × Option Nat × Option (LsMode × Int) × Bool :=
  (x.latched, x.pause, x.asked, x.cleared)

/-- Between `s` and `t` neither what holds switch `n` off nor what any switch is asked for has changed. -/
structure ChoiceKept (n : Nat) (s t : State) : Prop where
  step : ∃ ms, SwitchStep ms s t
  held : ((t.ls n).latched, (t.ls n).pause) = ((s.ls n).latched, (s.ls n).pause)
  waits : t.lsWaits n = s.lsWaits n
  asked : ∀ j, (t.ls j).asked = (s.ls j).asked

namespace ChoiceKept

variable {n : Nat} {s t u : State}

theorem refl (n : Nat) (s : State) : ChoiceKept n s s := ⟨⟨[], .refl _ s⟩, rfl, rfl, fun _ => rfl⟩

theorem trans (h : ChoiceKept n s t) (h' : ChoiceKept n t u) : ChoiceKept n s u where
  step := ⟨_, h.step.choose_spec.append h'.step.choose_spec⟩
  held := h'.held.trans h.held
  waits := h'.waits.trans h.waits
  asked j := (h'.asked j).trans (h.asked j)

theorem ite (h : ChoiceKept n s t) (h' : ChoiceKept n s u) (c : Prop) [Decidable c] :
    ChoiceKept n s (if c then t else u) := by
  split
  · exact h
  · exact h'

theorem each {α : Type} {f : State → α → State} (hf : ∀ u x, ChoiceKept n u (f u x)) (s : State) (l : List α) :
    ChoiceKept n s (s.each l f) := State.each_keeps (P := ChoiceKept n s) (fun u x hu => hu.trans (hf u x)) l (.refl n s)

theorem of_data {m : Nat} (h : SwitchStep [m] s t) (hdata : ∀ j, (t.ls j).choiceData = (s.ls j).choiceData) :
    ChoiceKept n s t where
  step := ⟨_, h⟩
  held := congrArg (fun d => (d.1, d.2.1)) (hdata n)
  waits := h.lsWaits (congrArg (·.2.2.2) (hdata n))
  asked j := congrArg (·.2.2.1) (hdata j)

theorem updLs (s : State) (m : Nat) {f : Switch → Switch} (hf : ∀ x, (f x).choiceData = x.choiceData) :
    ChoiceKept n s (s.updLs m f) := of_data (.updLs s m f) (State.updLs_proj Switch.choiceData hf s m)

theorem lsDate (s : State) (m : Nat) : ChoiceKept n s (s.lsDate m) :=
  of_data (.lsDate s m) fun j => (congrArg Switch.choiceData (s.lsDate_rest m j) :)

theorem lsSet (s : State) (m : Nat) (md : LsMode) (duty : Int) : ChoiceKept n s (s.lsSet m md duty) :=
  of_data (.lsSet s m md duty) fun j => (congrArg Switch.choiceData (s.lsSet_rest m j md duty) :)

theorem lsMean (s : State) (m : Nat) (o : Int × Nat) : ChoiceKept n s (s.lsMean m o) := by
  refine ((updLs s m ?_).trans (updLs _ m ?_)).trans (updLs _ m ?_)
  all_goals exact fun _ => rfl

/-- A switch whose owner has set a mode no longer waits for one, whether or not that is noted. -/
theorem lsOwned (s : State) (m : Nat) : ChoiceKept n s (s.lsOwned m) where
  step := ⟨_, .lsOwned s m⟩
  held := State.lsOwned_proj (fun x : Switch => (x.latched, x.pause)) (fun _ => rfl) s m n
  waits := by
    unfold State.lsOwned
    split
    next hset =>
      obtain ⟨hcleared, hwaits⟩ : (s.ls m).cleared = true ∧ s.lsWaits m = false := by simpa using hset
      by_cases hnm : n = m
      · subst hnm
        have hlen : n < s.loops.ls.length := by
          by_contra hge
          rw [State.ls_of_ge (Nat.le_of_not_lt hge)] at hcleared
          exact Bool.false_ne_true hcleared
        rw [hwaits, State.lsWaits, State.ls_updLs hlen]
        rfl
      · exact (SwitchStep.updLs s m _).lsWaits (by rw [State.ls_updLs_of_ne _ _ hnm])
    · rfl
  asked j := State.lsOwned_proj Switch.asked (fun _ => rfl) s m j

theorem lsWanted (h : ChoiceKept n s t) : t.lsWanted n = s.lsWanted n := by
  obtain ⟨ms, hstep⟩ := h.step
  simp only [State.lsWanted, hstep.dev, hstep.cfg, hstep.lsTuned, hstep.lsOwner, hstep.loop, hstep.sink, hstep.lsLead,
    h.asked]

theorem lsHeld (h : ChoiceKept n s t) : t.lsHeld n = s.lsHeld n := by
  obtain ⟨ms, hstep⟩ := h.step
  obtain ⟨hlatched, hpause⟩ := Prod.mk.inj h.held
  simp only [State.lsHeld, hlatched, hpause, h.waits, hstep.cfg, hstep.cfgB, hstep.lsPair, hstep.pwr]

theorem lsChoice (h : ChoiceKept n s t) : t.lsChoice n = s.lsChoice n := by
  rw [State.lsChoice, h.lsHeld, h.lsWanted, State.lsChoice]

end ChoiceKept

/-- What a cell shows does not change what its switches have to take, unless it holds them off. -/
theorem State.lsChoice_updLsPair {s : State} {k : Nat} (hk : k < s.loops.pair.length) {f : LsPair → LsPair}
    (hf : (f (s.lsPair k)).hot = (s.lsPair k).hot) (n : Nat) : (s.updLsPair k f).lsChoice n = s.lsChoice n := by
  have hhot : ((s.updLsPair k f).lsPair (n / 2)).hot = (s.lsPair (n / 2)).hot := by
    rw [State.lsPair, State.updLsPair, getD_modify _ _ _ f _ hk]
    split
    next h => rw [h]; exact hf
    · rfl
  rw [State.lsChoice, State.lsHeld, hhot]
  rfl

/-! ### The start of a PWM period (R267, R269) -/

/-- A pair's period starts: the ends of its sides' last parts are kept, and the cell's temperature shown. -/
def State.periodBegun (s : State) (k : Nat) (cell : Int) : State :=
  let u := s.each [2 * k, 2 * k + 1] State.lsDate
  u.updLsPair k (fun p => { p with temp := cell, start := u.now })

/-- At a period's start the mean of a switch is shown, where there is one. -/
def State.meanShown (ms : Bool) (o : Int × Nat) (s : State) (n : Nat) : State :=
  if ms || s.lsPulses n then s.lsMean n o else s

/-- A switch takes, at its pair's period start, the mode and duty that it has to. -/
def State.periodOne (ms : Bool) (o : Nat → Int × Nat) (s : State) (n : Nat) : State :=
  let u := (s.meanShown ms (o n) n).lsOwned n
  u.lsSet n (u.lsChoice n).1 (u.lsChoice n).2

theorem State.lsPeriod_of_start {s : State} {k : Nat} (hk : k < 8) (hislands : s.islands = true)
    (hstart : s.pairStart k = true) (obs : List (Int × Nat)) (cell : Int) : s.lsPeriod k obs cell =
      (s.periodBegun k cell).each [2 * k, 2 * k + 1]
        (.periodOne (decide (s.now % 250000 = 0)) fun n => obs.getD (n % 2) (0, 0)) := by
  rw [State.lsPeriod, if_neg (by simp [hk, hislands]), if_pos hstart]
  rfl

section Period

variable {s : State} {ms : Bool} {o : Nat → Int × Nat} {m : Nat}

theorem SwitchStep.meanShown (x : Int × Nat) : SwitchStep [m] s (s.meanShown ms x m) := (lsMean s m x).ite (refl _ s) _

theorem ChoiceKept.meanShown {n : Nat} (x : Int × Nat) : ChoiceKept n s (s.meanShown ms x m) :=
  (lsMean s m x).ite (refl n s) _

theorem SwitchStep.periodOne : SwitchStep [m] s (s.periodOne ms o m) :=
  ((meanShown _).trans (lsOwned ..)).trans (lsSet ..)

theorem ChoiceKept.periodOne {n : Nat} : ChoiceKept n s (s.periodOne ms o m) :=
  ((meanShown _).trans (lsOwned ..)).trans (lsSet ..)

theorem State.periodOne_takes (hm : m < s.loops.ls.length) :
    ((s.periodOne ms o m).ls m).mode = (s.lsChoice m).1 ∧ ((s.periodOne ms o m).ls m).duty = (s.lsChoice m).2 := by
  have hkept : ChoiceKept m s ((s.meanShown ms (o m) m).lsOwned m) := (ChoiceKept.meanShown _).trans (.lsOwned ..)
  rw [← hkept.lsChoice]
  exact State.lsSet_mode (by rwa [((SwitchStep.meanShown _).trans (.lsOwned ..)).length]) ..

theorem State.periodOne_shows (hm : m < s.loops.ls.length) :
    ((s.periodOne true o m).ls m).ma = (o m).1 ∧ ((s.periodOne true o m).ls m).mv = (o m).2 := by
  have hshown : ((s.meanShown true (o m) m).ls m).ma = (o m).1 ∧ ((s.meanShown true (o m) m).ls m).mv = (o m).2 := by
    have hmean := State.ls_updLs (s := (s.updLs m (fun x => { x with iNow := (o m).1 })).lsReckon m) (n := m)
      (by rwa [(SwitchStep.lsReckon ..).length, State.updLs_length])
    rw [State.meanShown, Bool.true_or, if_pos rfl, State.lsMean, hmean]
    exact ⟨rfl, rfl⟩
  have hkept : (((s.periodOne true o m).ls m).ma, ((s.periodOne true o m).ls m).mv)
      = (((s.meanShown true (o m) m).ls m).ma, ((s.meanShown true (o m) m).ls m).mv) :=
    (congrArg (fun x : Switch => (x.ma, x.mv)) (State.lsSet_rest ..) :).trans
      (State.lsOwned_proj (fun x : Switch => (x.ma, x.mv)) (fun _ => rfl) _ m m)
  rw [hshown.1, hshown.2] at hkept
  exact Prod.mk.inj hkept

/-- Each switch of the pair takes what it has to at the start of the period, and shows its mean at a millisecond. -/
theorem State.each_periodOne {l : List Nat} (hl : l.Nodup) (hm : m ∈ l) (hlen : m < s.loops.ls.length) :
    let x := (s.each l (.periodOne ms o)).ls m
    x.mode = (s.lsChoice m).1 ∧ x.duty = (s.lsChoice m).2 ∧ (ms = true → x.ma = (o m).1 ∧ x.mv = (o m).2) := by
  refine State.each_once (I := fun u => ChoiceKept m s u)
    (P := fun u => (u.ls m).mode = (s.lsChoice m).1 ∧ (u.ls m).duty = (s.lsChoice m).2
      ∧ (ms = true → (u.ls m).ma = (o m).1 ∧ (u.ls m).mv = (o m).2)) hl hm (fun u i _ hu => hu.trans .periodOne)
    (fun u hu => ?_) (fun u i hi hu => ?_) (.refl m s)
  · have hlenu : m < u.loops.ls.length := by rwa [hu.step.choose_spec.length]
    obtain ⟨hmode, hduty⟩ := State.periodOne_takes (ms := ms) (o := o) hlenu
    rw [← hu.lsChoice]
    exact ⟨hmode, hduty, fun hms => hms ▸ State.periodOne_shows hlenu⟩
  · rwa [SwitchStep.periodOne.others m (by simpa using hi.symm)]

end Period

section PeriodBegun

variable {s : State} {k : Nat} {cell : Int}

/-- The sides of the pair's switches are dated. -/
theorem ChoiceKept.dated {n : Nat} : ChoiceKept n s (s.each [2 * k, 2 * k + 1] State.lsDate) :=
  each (fun _ _ => lsDate ..) s _

theorem SwitchStep.dated : SwitchStep [2 * k, 2 * k + 1] s (s.each [2 * k, 2 * k + 1] State.lsDate) := each lsDate s _

theorem State.periodBegun_lsChoice (hk : k < s.loops.pair.length) (n : Nat) :
    (s.periodBegun k cell).lsChoice n = s.lsChoice n :=
  (State.lsChoice_updLsPair (s := s.each [2 * k, 2 * k + 1] State.lsDate) hk rfl n).trans ChoiceKept.dated.lsChoice

theorem State.periodBegun_temp (hk : k < s.loops.pair.length) : ((s.periodBegun k cell).lsPair k).temp = cell := by
  rw [State.periodBegun, State.lsPair_updLsPair (s := s.each [2 * k, 2 * k + 1] State.lsDate) hk]

theorem State.periodBegun_length : (s.periodBegun k cell).loops.ls.length = s.loops.ls.length :=
  (SwitchStep.dated (s := s) (k := k)).length

end PeriodBegun

/-- Two rounds of changes in the loops and switches alone. -/
theorem loops_frame_trans {s t u : State} (h : t = { s with loops := t.loops }) (h' : u = { t with loops := u.loops }) :
    u = { s with loops := u.loops } := by
  rw [h', h]

/-- The period's start changes the loops and switches alone. -/
theorem State.lsPeriod_frame {s : State} {k : Nat} (hk : k < 8) (hislands : s.islands = true)
    (hstart : s.pairStart k = true) (obs : List (Int × Nat)) (cell : Int) :
    s.lsPeriod k obs cell = { s with loops := (s.lsPeriod k obs cell).loops } := by
  have hbegun : s.periodBegun k cell = { s with loops := (s.periodBegun k cell).loops } :=
    loops_frame_trans (SwitchStep.dated.frame (by simp)) rfl
  refine loops_frame_trans hbegun ?_
  rw [State.lsPeriod_of_start hk hislands hstart]
  exact (SwitchStep.each (fun _ _ => .periodOne) ..).frame (by simp [State.periodOne, State.meanShown])

/-! ### A thermal shutdown (R276, R277) -/

/-- A switch is turned off by its cell, and the shutdown counted. -/
def State.shutOne (s : State) (n : Nat) : State :=
  (s.lsOff n).updLs n (fun x => { x with counts := x.counts.modify 1 satInc })

/-- The cell's two switches are off, and the cell hot; `shut` are the shutdowns of the last 60 s. -/
def State.shutOff (s : State) (k : Nat) (temp : Int) (shut : List Nat) : State :=
  (s.updLsPair k (fun p => { p with temp := temp, hot := true, shut := shut })).each [2 * k, 2 * k + 1] State.shutOne

theorem SwitchStep.shutOne (s : State) (n : Nat) : SwitchStep [n] s (s.shutOne n) := (lsOff s n).trans (updLs ..)

theorem SwitchStep.shutOff {s : State} {k : Nat} {temp : Int} {shut : List Nat} : SwitchStep [2 * k, 2 * k + 1]
    (s.updLsPair k (fun p => { p with temp := temp, hot := true, shut := shut })) (s.shutOff k temp shut) :=
  each shutOne ..

theorem State.shutOff_mode {s : State} {k n : Nat} {temp : Int} {shut : List Nat} (hn : n ∈ [2 * k, 2 * k + 1])
    (hlen : n < s.loops.ls.length) : ((s.shutOff k temp shut).ls n).mode = .off := by
  obtain ⟨u, ms, hu, -, hmade⟩ := SwitchStep.each_at SwitchStep.shutOne (l := [2 * k, 2 * k + 1]) (by simp) hn
    (s.updLsPair k (fun p => { p with temp := temp, hot := true, shut := shut }))
  have hlenu : n < u.loops.ls.length := by rwa [hu.length]
  rw [State.shutOff, hmade]
  exact (State.updLs_proj Switch.mode (by exact fun _ => rfl) (u.lsOff n) n n).trans (State.lsOff_mode hlenu)

theorem State.thermCause_le (s : State) (k : Nat) (losses : Nat × Nat) : s.thermCause k losses ≤ 1 := by
  simp only [State.thermCause]
  (repeat' split) <;> decide

/-- The events of a shutdown that is attributed to switch `2 * k + c`: of the other too where it was asked to conduct. -/
def State.shutTold (s : State) (k : Nat) (temp : Int) (c : Nat) (asked : Bool) : State :=
  let ev := fun (u : State) (n kind : Nat) => u.raise 0x6003 n [(128, 8, kind), (136, 16, twos 16 temp)] false
  let u := ev s (2 * k + c) 2
  if asked then ev u (2 * k + (1 - c)) 3 else u

theorem SwitchStep.shutTold {s : State} {k : Nat} {temp : Int} {c : Nat} {asked : Bool} :
    SwitchStep [] s (s.shutTold k temp c asked) := by
  rw [State.shutTold]
  exact ((raise ..).trans (raise ..)).ite (raise ..) _

/-- A shutdown turns the cell's switches off, tells of it, and latches both switches or neither; with LATCH, both. -/
theorem State.thermal_cases {s : State} {k : Nat} {temp : Int} {losses : Nat × Nat} (hk : k < 8) (htemp : 175 ≤ temp)
    (hhot : (s.lsPair k).hot = false) : ∃ shut u, SwitchStep [] (s.shutOff k temp shut) u
      ∧ ((s.thermal k temp losses = u ∧ s.cfgB .thermMode k = false)
        ∨ ∃ a b cause cause', (a = 2 * k ∧ b = 2 * k + 1 ∨ a = 2 * k + 1 ∧ b = 2 * k)
          ∧ s.thermal k temp losses = (u.lsLatchOne a cause).lsLatchOne b cause') := by
  let c := s.thermCause k losses
  let shut := (s.lsPair k).shut.filter (fun m => decide (s.now ≤ m + 60000 * msTicks)) ++ [s.now]
  let asked := (s.lsWanted (2 * k + (1 - c))).1 != .off
  let u := (s.shutOff k temp shut).shutTold k temp c asked
  have hstep : SwitchStep [] (s.shutOff k temp shut) u := .shutTold
  have hmode : u.cfgB .thermMode k = s.cfgB .thermMode k := (hstep.cfgB ..).trans (SwitchStep.shutOff.cfgB ..)
  have hthermal : s.thermal k temp losses = if u.cfgB .thermMode k then
        (u.lsLatchOne (2 * k + c) 2).lsLatchOne (2 * k + (1 - c)) (if asked then 3 else 2)
      else if 10 ≤ shut.length then (u.lsLatchOne (2 * k) 2).lsLatchOne (2 * k + 1) 2 else u := by
    rw [State.thermal, if_pos (by simp [hk, htemp, hhot])]
    rfl
  have hc : c ≤ 1 := s.thermCause_le k losses
  refine ⟨shut, u, hstep, ?_⟩
  rw [hthermal, hmode]
  split
  next => exact .inr ⟨_, _, _, _, by omega, rfl⟩
  next hrestart =>
    split
    · exact .inr ⟨_, _, _, _, .inl ⟨rfl, rfl⟩, rfl⟩
    · exact .inl ⟨rfl, by simpa using hrestart⟩

/-- Two switches that are latched one after the other. -/
theorem State.lsLatchOne_two {s : State} {a b n : Nat} (cause cause' : Nat) (hn : n = a ∨ n = b)
    (hlen : n < s.loops.ls.length) : (((s.lsLatchOne a cause).lsLatchOne b cause').ls n).latched = true := by
  rcases hn with rfl | rfl
  · exact ((Latching.lsLatchOne _ b cause' n).held (State.lsLatchOne_latched hlen cause)).1
  · exact State.lsLatchOne_latched (by rwa [(SwitchStep.lsLatchOne s a cause).length]) cause'

/-- What a shutdown leaves of its cell, and of each of its switches. -/
theorem State.thermal_shuts {s : State} {k : Nat} {temp : Int} {losses : Nat × Nat} (hk : k < 8) (htemp : 175 ≤ temp)
    (hhot : (s.lsPair k).hot = false) (hpair : k < s.loops.pair.length) (hlen : s.loops.ls.length = 16) :
    (((s.thermal k temp losses).lsPair k).hot = true ∧ ((s.thermal k temp losses).lsPair k).temp = temp)
      ∧ ∀ n ∈ [2 * k, 2 * k + 1], ((s.thermal k temp losses).ls n).mode = .off
        ∧ (s.cfgB .thermMode k = true → ((s.thermal k temp losses).ls n).latched = true) := by
  obtain ⟨shut, u, hu, hcases⟩ := State.thermal_cases (losses := losses) hk htemp hhot
  have hcell : u.lsPair k = { s.lsPair k with temp := temp, hot := true, shut := shut } := by
    rw [hu.lsPair, SwitchStep.shutOff.lsPair, State.lsPair_updLsPair hpair]
  have hlenu : u.loops.ls.length = 16 := by rw [hu.length, SwitchStep.shutOff.length]; exact hlen
  have hoff {n : Nat} (hn : n ∈ [2 * k, 2 * k + 1]) : (u.ls n).mode = .off := by
    rw [hu.others n (by simp)]
    exact State.shutOff_mode hn (by simp at hn; omega)
  rcases hcases with ⟨hthermal, hrestart⟩ | ⟨a, b, cause, cause', hab, hthermal⟩
  · rw [hthermal, hcell]
    exact ⟨⟨rfl, rfl⟩, fun n hn => ⟨hoff hn, fun hlatch => by simp [hrestart] at hlatch⟩⟩
  · rw [hthermal, ((SwitchStep.lsLatchOne u a cause).append (.lsLatchOne _ b cause')).lsPair, hcell]
    refine ⟨⟨rfl, rfl⟩, fun n hn => ⟨?_, fun _ => State.lsLatchOne_two cause cause' ?_ ?_⟩⟩
    · exact (Latching.lsLatchOne _ b cause' n).off ((Latching.lsLatchOne u a cause n).off (hoff hn))
    · simp at hn
      omega
    · simp at hn
      omega

end Sys2Proof.Machine
end

section
/-! The load switch rows, and the claim about them (R266 to R279). -/

namespace Sys2Proof.Machine

/-! ### Trips (R270 to R272, R275) -/

/-- The voltages that a short's trip has observed are shown. -/
def State.voltsShown (s : State) (n mv vload : Nat) : State :=
  (s.updLs n (fun x => { x with mv := mv })).updPwr (fun p => { p with vload := p.vload.set (n / 4) vload })

section Trips

variable {s : State} {dt n held : Nat} {ma : Int} (hn : n < 16) (hlen : s.loops.ls.length = 16)
include hn hlen

theorem execLsTrip_trips (hmode : (s.ls n).mode ≠ .off) (hfree : s.lsHeld n = false)
    (hlim : (s.iLim n : Int) ≤ ma.natAbs)
    (htime : s.cfgN .ocTripT n * 250 ≤ held) (hon : (s.advance dt).lsOnFor n held = true) :
    Completes (.lsTrip dt n ma held) s (fun t =>
      (∀ m ∈ s.lsUnit n, (t.ls m).mode = .off ∧ (t.ls m).trips = (s.ls m).trips + 1)
      ∧ ((s.ls n).trips + 1 < s.cfgN .ocTries n → ∀ m ∈ s.lsUnit n,
          (t.ls m).pause = some ((s.advance dt).now + pauseTicks ((s.ls n).trips + 1)) ∧ t.flash = s.flash)
      ∧ (s.cfgN .ocTries n ≤ (s.ls n).trips + 1 → ∀ m ∈ s.lsUnit n, (t.ls m).latched = true) ∧ t.dev = s.dev) := by
  have hrow : exec (.lsTrip dt n ma held) s = .next ((s.advance dt).lsTripped n ma false) :=
    congrArg Host.Outcome.next (if_pos (by
      simp only [Bool.and_eq_true, decide_eq_true_eq, bne_iff_ne, Bool.not_eq_true']
      exact ⟨⟨⟨⟨⟨hn, hmode⟩, hfree⟩, hlim⟩, htime⟩, hon⟩))
  have hnlen : n < (s.advance dt).loops.ls.length := by rw [← hlen] at hn; exact hn
  have hunit {m : Nat} (hm : m ∈ s.lsUnit n) : m < (s.advance dt).loops.ls.length := State.lt_of_mem_lsUnit hlen hn hm
  refine ⟨_, hrow, fun m hm => ?_, fun hearly m hm => ?_, fun hlast m hm => ?_, by simp⟩
  · have hdata := State.lsTripped_tripData (ma := ma) (short := false) hnlen hm (hunit hm)
    exact ⟨congrArg (·.1) hdata, congrArg (·.2.1) hdata⟩
  · exact ⟨State.lsTripped_pauses hnlen hearly hm (hunit hm), State.lsTripped_flash hnlen hearly⟩
  · exact State.lsTripped_latches hnlen hlast hm (hunit hm)

theorem execLsShortTrip_trips {mv vload m : Nat} (hsupply : n / 4 < s.pwr.vload.length) (hwin : (s.ls n).win = some m)
    (hin : m + held ≤ (s.advance dt).now) (htime : 12500 ≤ held)
    (hlow : if s.cfgB .loadTo n then vload < mv + s.cfgN .shortMv n else mv < s.cfgN .shortMv n)
    (hlim : (s.cfgN .inrushLimit n : Int) ≤ ma.natAbs) :
    Completes (.lsShortTrip dt n ma (mv, vload) held) s (fun t =>
      (∀ m ∈ s.lsUnit n, (t.ls m).mode = .off ∧ (t.ls m).trips = (s.ls m).trips + 1) ∧ (t.ls n).mv = mv
      ∧ t.pwr = { s.pwr with vload := s.pwr.vload.set (n / 4) vload } ∧ t.dev = s.dev) := by
  let u := (s.advance dt).voltsShown n mv vload
  have hnlen : n < s.loops.ls.length := hlen ▸ hn
  have hulen : u.loops.ls.length = s.loops.ls.length := State.updLs_length ..
  have hshown : u.ls n = { s.ls n with mv := mv } := State.ls_updLs (s := s.advance dt) hnlen _
  have htrips (j : Nat) : (u.ls j).trips = (s.ls j).trips :=
    State.updLs_proj Switch.trips (by exact fun _ => rfl) (s.advance dt) n j
  have hvload : u.pwr.vload.getD (n / 4) 0 = vload := by
    have hset : u.pwr.vload = s.pwr.vload.set (n / 4) vload := rfl
    simp [hset, List.getD_eq_getElem?_getD, hsupply]
  have hinWin : (match (u.ls n).win with | some m => decide (m + held ≤ u.now) | none => false) = true := by
    rw [show (u.ls n).win = some m from (congrArg Switch.win hshown).trans hwin]
    exact decide_eq_true hin
  have hvolts : (if u.cfgB .loadTo n then decide (u.pwr.vload.getD (n / 4) 0 < mv + u.cfgN .shortMv n)
      else decide (mv < u.cfgN .shortMv n)) = true := by
    rw [hvload]
    by_cases hto : s.cfgB .loadTo n = true
    · rw [if_pos hto] at hlow
      exact (if_pos hto).trans (decide_eq_true hlow)
    · rw [if_neg hto] at hlow
      exact (if_neg hto).trans (decide_eq_true hlow)
  have hrow : exec (.lsShortTrip dt n ma (mv, vload) held) s = .next (u.lsTripped n ma true) := by
    refine congrArg Host.Outcome.next (if_pos ?_)
    simp only [Bool.and_eq_true, decide_eq_true_eq]
    refine ⟨⟨⟨⟨hn, ?_⟩, htime⟩, ?_⟩, hlim⟩
    · exact hinWin
    · exact hvolts
  have hdata {j : Nat} (hj : j ∈ s.lsUnit n) := State.lsTripped_tripData (s := u) (ma := ma) (short := true)
    (hulen.symm ▸ hnlen) hj (hulen.symm ▸ State.lt_of_mem_lsUnit hlen hn hj)
  refine ⟨_, hrow, fun j hj => ⟨congrArg (·.1) (hdata hj), ?_⟩, ?_, ?_, ?_⟩
  · rw [← htrips]
    exact congrArg (·.2.1) (hdata hj)
  · have hmv := congrArg (·.2.2) (hdata (s.mem_lsUnit n))
    rw [hshown] at hmv
    exact hmv
  · simp only [State.lsTripped_keeps]
    rfl
  · simp only [State.lsTripped_keeps]
    rfl

theorem execLsPauseEnd_ends {m : Nat} (hpause : (s.ls n).pause = some m) (hover : m ≤ (s.advance dt).now) :
    Completes (.lsPauseEnd dt n) s (fun t =>
      (∀ j ∈ s.lsUnit n, (t.ls j).pause = none) ∧ (∀ j, j ∉ s.lsUnit n → t.ls j = s.ls j)
      ∧ t = { s.advance dt with loops := t.loops }) := by
  let ended := (s.advance dt).each (s.lsUnit n) fun u j => u.updLs j (fun x => { x with pause := none })
  have hrow : exec (.lsPauseEnd dt n) s = .next (ended.each (s.lsUnit n) State.lsApply) := by
    show execLsPauseEnd dt n s = _
    rw [execLsPauseEnd, show ((s.advance dt).ls n).pause = some m from hpause]
    exact congrArg Host.Outcome.next (if_pos hover)
  have hended : SwitchStep (s.lsUnit n) (s.advance dt) ended := .each (fun u j => .updLs u j _) ..
  have hstep : SwitchStep (s.lsUnit n) (s.advance dt) (ended.each (s.lsUnit n) State.lsApply) :=
    hended.trans (.each SwitchStep.lsApply ..)
  refine ⟨_, hrow, fun j hj => ?_, hstep.others, hstep.frame (by simp [ended])⟩
  rw [State.each_induct (fun u : State => (u.ls j).pause) fun u i => u.lsApply_pause i j]
  obtain ⟨u, ms, hu, -, hmade⟩ := SwitchStep.each_at (f := fun u j => u.updLs j (fun x => { x with pause := none }))
    (fun u j => .updLs u j _) (s.lsUnit_nodup n) hj (s.advance dt)
  rw [hmade, State.ls_updLs (by rw [hu.length]; exact State.lt_of_mem_lsUnit hlen hn hj)]

theorem execLsTripCountReset_resets {m : Nat} (hon : (s.ls n).onFrom = some m)
    (hlong : m + 250000000 ≤ (s.advance dt).time.up) :
    Completes (.lsTripCountReset dt n) s (fun t =>
      (∀ j ∈ s.lsUnit n, t.ls j = { s.ls j with trips := 0 }) ∧ (∀ j, j ∉ s.lsUnit n → t.ls j = s.ls j)
      ∧ t = { s.advance dt with loops := t.loops }) := by
  have honFor : (s.advance dt).lsOnFor n (1000 * msTicks) = true := by
    rw [State.lsOnFor, show ((s.advance dt).ls n).onFrom = some m from hon]
    exact decide_eq_true hlong
  have hrow : exec (.lsTripCountReset dt n) s = .next ((s.advance dt).each (s.lsUnit n) fun u j =>
      u.updLs j (fun x => { x with trips := 0 })) := congrArg Host.Outcome.next (if_pos honFor)
  have hstep : SwitchStep (s.lsUnit n) (s.advance dt) ((s.advance dt).each (s.lsUnit n) fun u j =>
      u.updLs j (fun x => { x with trips := 0 })) := .each (fun u j => .updLs u j _) ..
  refine ⟨_, hrow, fun j hj => ?_, hstep.others, hstep.frame (by simp)⟩
  obtain ⟨u, ms, hu, hkept, hmade⟩ := SwitchStep.each_at (f := fun u j => u.updLs j (fun x => { x with trips := 0 }))
    (fun u j => .updLs u j _) (s.lsUnit_nodup n) hj (s.advance dt)
  rw [hmade, State.ls_updLs (by rw [hu.length]; exact State.lt_of_mem_lsUnit hlen hn hj), hkept]
  rfl

end Trips

/-! ### The inrush window and its budget (R273, R274) -/

section Window

variable {s : State} {dt n m : Nat} (hn : n < s.loops.ls.length) (hwin : (s.ls n).win = some m)
include hn hwin

theorem execInrushWindowEnd_ends {below : Option Nat} (hover : (s.advance dt).winOver n m below = true) :
    Completes (.inrushWindowEnd dt n below) s (fun t =>
      t.ls n = { s.ls n with win := none, budget := some ((s.advance dt).lsBudget n), budgetAt := (s.advance dt).now }
      ∧ t = { s.advance dt with loops := t.loops }) := by
  have hrow : exec (.inrushWindowEnd dt n below) s
      = .next (((s.advance dt).lsReckon n).updLs n (fun x => { x with win := none })) := by
    show execInrushWindowEnd dt n below s = _
    rw [execInrushWindowEnd, show ((s.advance dt).ls n).win = some m from hwin]
    exact congrArg Host.Outcome.next (if_pos hover)
  refine ⟨_, hrow, ?_, rfl⟩
  rw [State.ls_updLs (by rwa [(SwitchStep.lsReckon ..).length]), State.lsReckon, State.ls_updLs (s := s.advance dt) hn]
  rfl

theorem execInrushBudgetSpent_ends {ma : Int}
    (hspent : ((s.advance dt).updLs n (fun x => { x with iNow := ma })).lsBudget n = 0) :
    Completes (.inrushBudgetSpent dt n ma) s (fun t =>
      t.ls n = { s.ls n with win := none, budget := some 0, budgetAt := (s.advance dt).now, iNow := ma }
      ∧ t.iLim n = s.cfgN .ocLimit n ∧ t = { s.advance dt with loops := t.loops }) := by
  let u := (s.advance dt).updLs n (fun x => { x with iNow := ma })
  have hreckoned : (u.lsReckon n).ls n
      = { s.ls n with budget := some 0, budgetAt := (s.advance dt).now, iNow := ma } := by
    rw [State.lsReckon, State.ls_updLs (by rwa [State.updLs_length]), State.ls_updLs (s := s.advance dt) hn, hspent]
    rfl
  have hrow : exec (.inrushBudgetSpent dt n ma) s = .next ((u.lsReckon n).updLs n (fun x => { x with win := none })) :=
    congrArg Host.Outcome.next (if_pos (by rw [hreckoned]; simp [hwin]))
  have hls : ((u.lsReckon n).updLs n (fun x => { x with win := none })).ls n
      = { s.ls n with win := none, budget := some 0, budgetAt := (s.advance dt).now, iNow := ma } := by
    rw [State.ls_updLs (by rwa [(SwitchStep.lsReckon ..).length, State.updLs_length]), hreckoned]
  refine ⟨_, hrow, hls, ?_, rfl⟩
  rw [State.iLim, hls]
  rfl

end Window

/-! ### The start of a period (R267, R269) -/

theorem execLsPwmPeriodStart_takes {s : State} {dt k n : Nat} {a b : Int × Nat} {cell : Int} (hk : k < 8)
    (hlen : s.loops.ls.length = 16) (hpair : k < s.loops.pair.length) (hislands : s.islands = true)
    (hstart : (s.advance dt).pairStart k = true) (hn : n = 2 * k ∨ n = 2 * k + 1) :
    Completes (.lsPwmPeriodStart dt k [a, b] cell) s (fun t =>
      (t.lsPair k).temp = cell
      ∧ ((s.advance dt).now % 250000 = 0 → (t.ls n).ma = (if n = 2 * k then a else b).1
          ∧ (t.ls n).mv = (if n = 2 * k then a else b).2)
      ∧ (s.lsHeld n = true → (t.ls n).mode = .off)
      ∧ (s.lsHeld n = false → (t.ls n).mode = (s.lsWanted n).1 ∧ (t.ls n).duty = (s.lsWanted n).2)
      ∧ t = { s.advance dt with loops := t.loops }) := by
  let begun := (s.advance dt).periodBegun k cell
  have hmem : n ∈ [2 * k, 2 * k + 1] := by simpa using hn
  have hnlen : n < begun.loops.ls.length := by
    rw [State.periodBegun_length]
    show n < s.loops.ls.length
    omega
  have hchoice : begun.lsChoice n = s.lsChoice n := State.periodBegun_lsChoice (s := s.advance dt) hpair n
  have hobs : [a, b].getD (n % 2) (0, 0) = if n = 2 * k then a else b := by
    rcases hn with rfl | rfl
    · simp
    · simp [Nat.add_mod]
  obtain ⟨hmode, hduty, hshown⟩ := State.each_periodOne (s := begun) (ms := decide ((s.advance dt).now % 250000 = 0))
    (o := fun n => [a, b].getD (n % 2) (0, 0)) (l := [2 * k, 2 * k + 1]) (by simp) hmem hnlen
  have hframe := State.lsPeriod_frame (s := s.advance dt) hk hislands hstart [a, b] cell
  have hperiod := State.lsPeriod_of_start (s := s.advance dt) hk hislands hstart [a, b] cell
  rw [hperiod] at hframe
  rw [hchoice] at hmode hduty
  refine ⟨_, congrArg Host.Outcome.next hperiod, ?_, fun hms => ?_, fun hheld => ?_, fun hfree => ?_, hframe⟩
  · rw [(SwitchStep.each (fun _ _ => .periodOne) begun [2 * k, 2 * k + 1]).lsPair]
    exact State.periodBegun_temp (s := s.advance dt) hpair
  · rw [← hobs]
    exact hshown (decide_eq_true hms)
  · rw [hmode, State.lsChoice, if_pos hheld]
  · rw [hmode, hduty, State.lsChoice, if_neg (by simp [hfree])]
    exact ⟨rfl, rfl⟩

/-! ### Thermal shutdown and restart (R276) -/

theorem execThermalShutdown_shuts {s : State} {dt k : Nat} {temp : Int} {x : Nat × Nat} (hk : k < 8)
    (hlen : s.loops.ls.length = 16) (hpair : k < s.loops.pair.length) (htemp : 175 ≤ temp)
    (hhot : (s.lsPair k).hot = false) : Completes (.thermalShutdown dt k temp x) s (fun t =>
      (t.lsPair k).hot = true ∧ (t.lsPair k).temp = temp ∧ (t.ls (2 * k)).mode = .off ∧ (t.ls (2 * k + 1)).mode = .off
      ∧ (s.cfgB .thermMode k = true → (t.ls (2 * k)).latched = true ∧ (t.ls (2 * k + 1)).latched = true)
      ∧ t.dev = s.dev) := by
  obtain ⟨⟨hhot', htemp'⟩, hswitches⟩ := State.thermal_shuts (s := s.advance dt) (losses := x) hk htemp hhot hpair hlen
  obtain ⟨hoff, hlatch⟩ := hswitches (2 * k) (by simp)
  obtain ⟨hoff', hlatch'⟩ := hswitches (2 * k + 1) (by simp)
  exact ⟨_, rfl, hhot', htemp', hoff, hoff', fun hmode => ⟨hlatch hmode, hlatch' hmode⟩, by simp⟩

theorem execThermalRestart_cools {s : State} {dt k : Nat} {temp : Int} (hpair : k < s.loops.pair.length)
    (hhot : (s.lsPair k).hot = true) (htemp : temp ≤ 160) :
    Completes (.thermalRestart dt k temp) s (fun t =>
      t.lsPair k = { s.lsPair k with temp := temp, hot := false } ∧ t = { s.advance dt with loops := t.loops }) := by
  let cool := (s.advance dt).updLsPair k (fun p => { p with temp := temp, hot := false })
  have hrow : exec (.thermalRestart dt k temp) s = .next ((cool.lsApply (2 * k)).lsApply (2 * k + 1)) :=
    congrArg Host.Outcome.next (if_pos (Bool.and_eq_true_iff.2 ⟨hhot, decide_eq_true htemp⟩))
  have hstep := (SwitchStep.lsApply cool (2 * k)).append (.lsApply _ (2 * k + 1))
  refine ⟨_, hrow, ?_, loops_frame_trans (t := cool) rfl (hstep.frame (by simp))⟩
  rw [hstep.lsPair, State.lsPair_updLsPair (s := s.advance dt) hpair]
  rfl

/-! ### The tests (R278, R279) -/

/-- The switches that a test covers have been tested now. -/
def State.lsMarked (s : State) (n : Nat) : State :=
  s.each (s.lsLoad n) (fun u m => u.updLs m (fun x => { x with tested := some u.now }))

theorem State.lsTested_zero (s : State) (n : Nat) : s.lsTested n 0 = s.lsMarked n := rfl

theorem State.lsTested_of_found (s : State) (n : Nat) {c : Nat} (hc : c ≠ 0) : s.lsTested n c =
    (s.lsMarked n).each ((s.lsMarked n).lsLoad n) (fun u m => u.lsFinding m (lsCause c)) := if_neg hc

theorem SwitchStep.lsMarked (s : State) (n : Nat) : SwitchStep (s.lsLoad n) s (s.lsMarked n) :=
  each (fun u m => updLs u m _) ..

theorem State.lsMarked_tested {s : State} {n : Nat} (hn : n < s.loops.ls.length) :
    ((s.lsMarked n).ls n).tested = some s.now := by
  obtain ⟨u, ms, hu, -, hmade⟩ := SwitchStep.each_at
    (f := fun u m => u.updLs m (fun x => { x with tested := some u.now }))
    (fun u m => .updLs u m _) (s.lsLoad_nodup n) (s.mem_lsLoad n) s
  rw [State.lsMarked, hmade, State.ls_updLs (by rwa [hu.length]), hu.now]

theorem State.lsMarked_latched (s : State) (n j : Nat) : ((s.lsMarked n).ls j).latched = (s.ls j).latched :=
  State.each_induct (fun u : State => (u.ls j).latched)
    (fun u m => State.updLs_proj Switch.latched (by exact fun _ => rfl) u m j) s _

/-- Findings on switches one after the other latch each of them. -/
theorem State.each_lsFinding_latched {s : State} {n : Nat} {l : List Nat} (hn : n ∈ l) (hlen : n < s.loops.ls.length)
    (cause : Nat) : ((s.each l fun u m => u.lsFinding m cause).ls n).latched = true := by
  have hkeeps (u : State) (m : Nat) (hu : (u.ls n).latched = true) : ((u.lsFinding m cause).ls n).latched = true :=
    ((Latching.lsFinding u m cause n).held hu).1
  exact State.each_makes (I := fun u => n < u.loops.ls.length) (P := fun u => (u.ls n).latched = true) hn
    (fun u m hu => by rwa [State.lsFinding_length]) (fun u hu => State.lsFinding_latched hu cause) hkeeps hlen

/-- A test's finding latches a switch that was not latched, with its cause. -/
theorem State.lsTested_finding {s : State} {n c : Nat} (hn : n < s.loops.ls.length) (hfree : (s.ls n).latched = false)
    (hc : c ≠ 0) : ((s.lsTested n c).ls n).tested = some s.now ∧ ((s.lsTested n c).ls n).latched = true
      ∧ ((s.lsTested n c).ls n).cause = lsCause c := by
  let marked := s.lsMarked n
  have hmarked : (marked.ls n).latched = false := (s.lsMarked_latched n n).trans hfree
  have hlatching : Latching (lsCause c) (marked.ls n) ((s.lsTested n c).ls n) := by
    rw [State.lsTested_of_found s n hc]
    exact Latching.each (j := n) (fun u m => .lsFinding u m (lsCause c) n) marked _
  have hlatched : ((s.lsTested n c).ls n).latched = true := by
    rw [State.lsTested_of_found s n hc]
    exact State.each_lsFinding_latched (marked.mem_lsLoad n) (by rwa [(SwitchStep.lsMarked s n).length]) _
  refine ⟨(congrArg (·.1) hlatching.log).trans (State.lsMarked_tested hn), hlatched, ?_⟩
  exact ((hlatching.newly hlatched).resolve_left (by simp [hmarked])).1

/-- What a test finds on an output that it pulls up: a short to the supply before an open load (R278, log 161). -/
theorem State.lsFound_up {s : State} {n : Nat} (hup : s.pairMode n = 1 ∨ s.cfgB .loadTo n = false) (o : OffObs) :
    s.lsFound n o = if 6500 < o.off then 2 else if 4000 < o.pulled then 1 else 0 := if_pos (by simpa using hup)

/-- What a test finds on an output that it pulls down. -/
theorem State.lsFound_down {s : State} {n : Nat} (hdown : ¬(s.pairMode n = 1 ∨ s.cfgB .loadTo n = false)) (o : OffObs) :
    s.lsFound n o = if o.off < 1000 then 3 else if o.pulled + 4000 < o.vload then 1 else 0 :=
  if_neg (by simpa using hdown)

theorem State.lt_of_lsTestable {s : State} {n : Nat} (h : s.lsTestable n = true) : n < 16 := by
  simp only [State.lsTestable, Bool.and_eq_true, decide_eq_true_eq] at h
  obtain ⟨⟨⟨⟨hn, -⟩, -⟩, -⟩, -⟩ := h
  exact hn

theorem execLsOffStateTest_eq {s : State} {dt n : Nat} {o : OffObs} (htestable : (s.advance dt).lsTestable n = true)
    (hdiag : s.cfgB .lsDiagOff n = true) (hdue : (s.ls n).tested = none) (hunheld : s.outputsHeld = false)
    (hislands : s.islands = true) :
    exec (.lsOffStateTest dt n o) s = .next ((s.advance dt).lsTested n (s.lsFound n o)) := by
  show execLsOffStateTest dt n o s = _
  rw [execLsOffStateTest, show ((s.advance dt).ls n).tested = none from hdue]
  refine congrArg Host.Outcome.next (if_pos ?_)
  simp only [Bool.and_eq_true, Bool.not_eq_true']
  exact ⟨⟨⟨⟨htestable, hdiag⟩, trivial⟩, hunheld⟩, hislands⟩

theorem execLsOffStateTest_finds {s : State} {dt n : Nat} {o : OffObs} (hlen : s.loops.ls.length = 16)
    (htestable : (s.advance dt).lsTestable n = true) (hdiag : s.cfgB .lsDiagOff n = true) (hdue : (s.ls n).tested = none)
    (hfree : (s.ls n).latched = false) (hunheld : s.outputsHeld = false) (hislands : s.islands = true) :
    let up := s.pairMode n = 1 ∨ s.cfgB .loadTo n = false
    Completes (.lsOffStateTest dt n o) s (fun t =>
      (t.ls n).tested = some (s.advance dt).now ∧ t.dev = s.dev
      ∧ (up → 6500 < o.off → (t.ls n).latched = true ∧ (t.ls n).cause = 5)
      ∧ (up → o.off ≤ 6500 → 4000 < o.pulled → (t.ls n).latched = true ∧ (t.ls n).cause = 4)
      ∧ (¬up → o.off < 1000 → (t.ls n).latched = true ∧ (t.ls n).cause = 6)
      ∧ (¬up → 1000 ≤ o.off → o.pulled + 4000 < o.vload → (t.ls n).latched = true ∧ (t.ls n).cause = 4)
      ∧ ((if up then o.off ≤ 6500 ∧ o.pulled ≤ 4000 else 1000 ≤ o.off ∧ o.vload ≤ o.pulled + 4000) →
          (t.ls n).latched = false ∧ t = { s.advance dt with loops := t.loops })) := by
  intro up
  have hn : n < (s.advance dt).loops.ls.length := hlen ▸ State.lt_of_lsTestable htestable
  have hfound {c : Nat} (hc : c ≠ 0) := State.lsTested_finding (s := s.advance dt) hn hfree hc
  have hlatched {c : Nat} (h : s.lsFound n o = c) (hc : c ≠ 0) :
      (((s.advance dt).lsTested n (s.lsFound n o)).ls n).latched = true
        ∧ (((s.advance dt).lsTested n (s.lsFound n o)).ls n).cause = lsCause c := by
    rw [h]
    exact (hfound hc).2
  refine ⟨_, execLsOffStateTest_eq htestable hdiag hdue hunheld hislands, ?_, by simp, fun hup hoff => ?_,
    fun hup hoff hpulled => ?_, fun hdown hoff => ?_, fun hdown hoff hpulled => ?_, fun hclean => ?_⟩
  · by_cases hc : s.lsFound n o = 0
    · rw [hc]
      exact State.lsMarked_tested (s := s.advance dt) hn
    · exact (hfound hc).1
  · exact hlatched (c := 2) (by rw [State.lsFound_up hup, if_pos hoff]) (by decide)
  · exact hlatched (c := 1) (by rw [State.lsFound_up hup, if_neg (by omega), if_pos hpulled]) (by decide)
  · exact hlatched (c := 3) (by rw [State.lsFound_down hdown, if_pos hoff]) (by decide)
  · exact hlatched (c := 1) (by rw [State.lsFound_down hdown, if_neg (by omega), if_pos hpulled]) (by decide)
  · have hnone : s.lsFound n o = 0 := by
      split at hclean
      next hup => rw [State.lsFound_up hup, if_neg (by omega), if_neg (by omega)]
      next hdown => rw [State.lsFound_down hdown, if_neg (by omega), if_neg (by omega)]
    rw [hnone, State.lsTested_zero]
    exact ⟨((s.advance dt).lsMarked_latched n n).trans hfree,
      (SwitchStep.lsMarked (s.advance dt) n).frame (by simp [State.lsMarked])⟩

/-- An open load while on latches the switch, and turns it off (R279). -/
theorem execLsOpenLoadOn_latches {s : State} {dt n : Nat} {ma : Int} (hn : n < 16) (hlen : s.loops.ls.length = 16)
    (hactive : s.lsActive n = true) (hlow : (s.advance dt).lsLow n = true) (hma : ma.natAbs < s.cfgN .olMa n)
    (hunheld : s.outputsHeld = false) (hfree : (s.ls n).latched = false) :
    Completes (.lsOpenLoadOn dt n ma) s (fun t =>
      (t.ls n).latched = true ∧ (t.ls n).cause = 4 ∧ (t.ls n).mode = .off ∧ t.dev = s.dev) := by
  have hrow : exec (.lsOpenLoadOn dt n ma) s = .next ((s.advance dt).lsFinding n 4) :=
    congrArg Host.Outcome.next (if_pos (by
      simp only [Bool.and_eq_true, decide_eq_true_eq, Bool.not_eq_true']
      exact ⟨⟨⟨⟨hn, hactive⟩, hlow⟩, hma⟩, hunheld⟩))
  have hlatched := State.lsFinding_latched (s := s.advance dt) (n := n) (by rw [← hlen] at hn; exact hn) 4
  obtain ⟨hcause, hoff⟩ := ((Latching.lsFinding (s.advance dt) n 4 n).newly hlatched).resolve_left
    (by rw [show ((s.advance dt).ls n).latched = false from hfree]; decide)
  exact ⟨_, hrow, hlatched, hcause, hoff, by simp⟩

/-- Settles O40, row by row: a trip through what each switch of the unit comes to, a period through what a switch has to take,
the findings through what a latch does to a switch that was not latched. -/
theorem switchRows : Obligations.SwitchRows :=
  ⟨fun _ _ _ _ _ hn hlen hmode hfree hlim htime hon => execLsTrip_trips hn hlen hmode hfree hlim htime hon,
    fun _ _ _ _ _ _ _ _ hn hlen hsupply hwin hin htime hlow hlim =>
      execLsShortTrip_trips hn hlen hsupply hwin hin htime hlow hlim,
    fun _ _ _ _ hn hlen hpause hover => execLsPauseEnd_ends hn hlen hpause hover,
    fun _ _ _ _ hn hlen hon hlong => execLsTripCountReset_resets hn hlen hon hlong,
    fun _ _ _ _ _ hn hwin => ⟨fun _ hover => execInrushWindowEnd_ends hn hwin hover,
      fun hspent => execInrushBudgetSpent_ends hn hwin hspent⟩,
    fun _ _ _ _ _ _ _ hk hlen hpair hislands hstart hn => execLsPwmPeriodStart_takes hk hlen hpair hislands hstart hn,
    fun _ _ _ _ _ hk hlen hpair htemp hhot => execThermalShutdown_shuts hk hlen hpair htemp hhot,
    fun _ _ _ _ _ _ hpair hhot htemp => execThermalRestart_cools hpair hhot htemp,
    fun _ _ _ _ hlen htestable hdiag hdue hfree hunheld hislands =>
      execLsOffStateTest_finds hlen htestable hdiag hdue hfree hunheld hislands,
    fun _ _ _ _ hn hlen hactive hlow hma hunheld hfree =>
      execLsOpenLoadOn_latches hn hlen hactive hlow hma hunheld hfree⟩

end Sys2Proof.Machine
end

section
/-! The queue of waiting commands is no row's to change: every row answers a next state, with the queue as it was. -/

namespace Sys2Proof.Machine

/-! ### Operations and command bodies that keep the queue, where their frame does not say so -/

@[simp] theorem State.relaySample_pending (s : State) (n : Nat) (ps : List Int) :
    (s.relaySample n ps).pending = s.pending := by
  unfold State.relaySample
  dsimp only
  (repeat' split) <;> simp

@[simp] theorem State.loopSample_pending (s : State) (n : Nat) : (s.loopSample n).pending = s.pending := by
  unfold State.loopSample
  split
  · simp only [State.recordTraces_keeps, State.updLoop_keeps, State.ite_pending]
    (repeat' split) <;> simp
  · rfl

@[simp] theorem State.takeCm_pending (s : State) (b : Nat) (etp : Bool) (sa da : Nat) (d : List Byte) (sof : Nat) :
    (s.takeCm b etp sa da d sof).pending = s.pending := by
  unfold State.takeCm
  dsimp only
  (repeat' split) <;> simp

@[simp] theorem State.isoFrame_pending (s : State) (b : Nat) (f : CanFrame) (sof : Nat) :
    (s.isoFrame b f sof).pending = s.pending := by
  unfold State.isoFrame
  extract_lets
  split
  · rfl
  · (repeat' split) <;> simp +zetaDelta

@[simp] theorem State.stagesOff_pending (s : State) (isl : Island) : (s.stagesOff isl).pending = s.pending := by
  cases isl <;> simp [State.stagesOff]

theorem State.filterSet_pending {s t : State} {b n : Nat} {bs : List Byte} (h : s.filterSet b n bs = some t) :
    t.pending = s.pending := by
  unfold State.filterSet at h
  dsimp only at h
  split at h
  · cases h
  · rw [← Option.some.inj h]
    simp

@[simp] theorem State.bufferRead_pending (s : State) (w : Waiting) (bs : List Byte) :
    (s.bufferRead w bs).pending = s.pending := by
  unfold State.bufferRead
  split
  case h_5 =>
    split
    next hset => simp [State.filterSet_pending hset]
    next => simp
  all_goals simp

/-- A sequencer's instruction keeps the queue where its own effect does (R230). -/
theorem State.seqRun_pending {s : State} (ch : Nat) (par : Bool) {act : State → Nat → SeqInstr → Option State}
    (ha : ∀ b i, ((act s b i).getD s).pending = s.pending) : (s.seqRun ch par act).pending = s.pending := by
  unfold State.seqRun
  dsimp only
  (repeat' split) <;> simp [ha]

@[simp] theorem State.formRecord_pending (s : State) (k : TelKind) : (s.formRecord k).pending = s.pending := by
  unfold State.formRecord
  (repeat' split) <;> simp

@[simp] theorem State.fuse_pending (s : State) (o : FusObs) : (s.fuse o).pending = s.pending := by
  have hold : ∀ (t : State) (i : Nat), (match t.spdKind i with
      | .iso k => t.holdSlot (t.cfgN .speedBus) (t.isoSlot k)
      | _ => t).pending = t.pending := fun t i => by split <;> simp
  unfold State.fuse
  dsimp only
  (repeat' split) <;> simp
  all_goals exact (State.each_pending _ _ _ hold).trans (by simp)

@[simp] theorem State.actItems_pending (s : State) (as : List Activity) : (s.actItems as).2.pending = s.pending := by
  induction as generalizing s with
  | nil => rfl
  | cons a as ih => simp [State.actItems, ih]

@[simp] theorem State.freeIndices_pending (s : State) (idx : List Word) : (s.freeIndices idx).2.pending = s.pending := by
  unfold State.freeIndices
  refine List.foldlRecOn (motive := fun p : List Word × State => p.2.pending = s.pending) _ _ rfl fun p hp n _ => ?_
  dsimp only
  split
  · simpa using hp
  · exact hp

/-! ### What taking a command comes to (R35, R360, R374) -/

@[simp] theorem checks_pending {s : State} {k : Verdict} (ex content : Bool) (holder : Option (BitVec 16))
    (allowed : Option Status) (hk : k.state.pending = s.pending) :
    (checks s ex content holder allowed k).state.pending = s.pending := by
  unfold checks
  (repeat' split) <;> simp [hk]

@[simp] theorem report_pending (op : Byte) (h : Hdr) (rep : Ref) (items : List Item) (s : State) :
    (report op h rep items s).state.pending = s.pending := by
  unfold report
  dsimp only
  split <;> simp

/-- A command that keeps the queue in its body keeps it altogether. -/
@[simp] theorem State.command_pending {s : State} {dt : Nat} {op : Byte} {cmd : Instr} {h : Hdr} {body : State → Verdict}
    (hb : ∀ u : State, (body u).state.pending = u.pending) : (s.command dt op cmd h body).pending = s.pending := by
  have htake : ∀ v : State, (v.take op cmd h body).pending = v.pending := fun v => by
    obtain ⟨t, ht, hwrong | ⟨-, st, res, u, hu, hdone⟩ | ⟨-, dma, aux, u, hu, hwait⟩⟩ := State.take_cases v op cmd h body
    · rw [hwrong.2]
      simp [ht]
    · have hbt := hb t
      rw [hu] at hbt
      rw [hdone]
      simpa [ht] using hbt
    · have hbt := hb t
      rw [hu] at hbt
      rw [hwait]
      cases dma <;> simpa [ht] using hbt
  unfold State.command
  dsimp only
  split <;> simp [htake]

@[simp] theorem cmdMaintAbort_pending (target : BitVec 16) (s : State) :
    (cmdMaintAbort target s).state.pending = s.pending := by
  unfold cmdMaintAbort
  dsimp only
  (repeat' split) <;> simp

@[simp] theorem cmdMaintStart_pending (h : Hdr) (result : DWord) (code loop : Nat) (s : State) :
    (cmdMaintStart h result code loop s).state.pending = s.pending := by
  unfold cmdMaintStart
  dsimp only
  (repeat' split) <;> simp

@[simp] theorem cmdMaintStatus_pending (h : Hdr) (rep : Ref) (s : State) :
    (cmdMaintStatus h rep s).state.pending = s.pending := by
  simp [cmdMaintStatus]

@[simp] theorem cmdTilePatch_pending (rate dma : Bool) (offset len : Nat) (tx ty : BitVec 16) (data : BitVec 128)
    (s : State) : (cmdTilePatch rate dma offset len tx ty data s).state.pending = s.pending := by
  unfold cmdTilePatch
  exact checks_pending _ _ _ _ (by split <;> simp)

@[simp] theorem cmdLsSet_pending (mask : BitVec 16) (mode : Nat) (duty : Q16) (s : State) :
    (cmdLsSet mask mode duty s).state.pending = s.pending := by
  unfold cmdLsSet
  split
  · simp
  · refine checks_pending _ _ _ _ ?_
    dsimp only [Verdict.state]
    rw [State.each_pending _ _ _ fun u n => by split <;> simp]
    simp

@[simp] theorem cmdSxRestart_pending (kind : Nat) (s : State) : (cmdSxRestart kind s).state.pending = s.pending := by
  unfold cmdSxRestart
  refine checks_pending _ _ _ _ ?_
  rw [Verdict.state_done]
  split <;> simp

@[simp] theorem State.clearFault_pending (s : State) : s.clearFault.state.pending = s.pending := by
  unfold State.clearFault
  dsimp only
  split <;> simp

@[simp] theorem cmdValveDelayReset_pending (h : Hdr) (mask : BitVec 96) (s : State) :
    (cmdValveDelayReset h mask s).state.pending = s.pending := by
  simp [cmdValveDelayReset]

@[simp] theorem cmdTileInvalidate_pending (tx0 ty0 tx1 ty1 : BitVec 16) (mode : Nat) (s : State) :
    (cmdTileInvalidate tx0 ty0 tx1 ty1 mode s).state.pending = s.pending := by
  simp [cmdTileInvalidate]

@[simp] theorem cmdSeqSetK_pending (group : Nat) (mask : BitVec 8) (which en : BitVec 4) (ks : List (BitVec 16))
    (s : State) : (cmdSeqSetK group mask which en ks s).state.pending = s.pending := by
  simp [cmdSeqSetK]

@[simp] theorem cmdLoopStatus_pending (h : Hdr) (rep : Ref) (mask : Word) (clearSat : Bool) (s : State) :
    (cmdLoopStatus h rep mask clearSat s).state.pending = s.pending := by
  simp [cmdLoopStatus]

@[simp] theorem cmdFdSet_pending (mask levels : Word) (s : State) : (cmdFdSet mask levels s).state.pending = s.pending := by
  simp [cmdFdSet]

@[simp] theorem cmdFdClear_pending (mask : Word) (s : State) : (cmdFdClear mask s).state.pending = s.pending := by
  simp [cmdFdClear]

@[simp] theorem cmdSxExclude_pending (incl : Bool) (signal svid : Byte) (sys : Nat) (s : State) :
    (cmdSxExclude incl signal svid sys s).state.pending = s.pending := by
  simp [cmdSxExclude, State.sxCmd]

@[simp] theorem cmdSxRaw_pending (en : Bool) (s : State) : (cmdSxRaw en s).state.pending = s.pending := by
  simp [cmdSxRaw, State.sxCmd]

/-! ### Resets, and writes to registers (R42, R343) -/

@[simp] theorem State.resetNow_pending (s : State) (source hold : Nat) : (s.resetNow source hold).pending = s.pending := by
  simp [State.resetNow, State.assertReset]

theorem State.pending_ite {c : Prop} [Decidable c] {s a b : State} (ha : a.pending = s.pending)
    (hb : b.pending = s.pending) : (if c then a else b).pending = s.pending := by
  split
  · exact ha
  · exact hb

@[simp] theorem State.write32_pending (s : State) (off : Nat) (v : Word) : (s.write32 off v).pending = s.pending := by
  unfold State.write32
  extract_lets
  refine State.pending_ite ?_ (State.pending_ite ?_ (State.pending_ite ?_ (State.pending_ite ?_ ?_)))
  all_goals (repeat' split) <;> simp

@[simp] theorem State.regWrite_pending (s : State) (off size : Nat) (v : DWord) :
    (s.regWrite off size v).pending = s.pending := by
  simp [State.regWrite]

/-! ### The tile cache, firings and the planner's cycle (R140, R154, R406) -/

@[simp] theorem State.applyHeld_pending (s : State) (tx ty : Int) : (s.applyHeld tx ty).pending = s.pending := by
  unfold State.applyHeld
  rw [State.each_pending _ _ _ fun u m => by split <;> simp]
  simp

@[simp] theorem State.recordRead_pending (s : State) (p : TPlaced) (data : Option (List Byte)) :
    (s.recordRead p data).pending = s.pending := by
  unfold State.recordRead
  dsimp only
  (repeat' split) <;> simp

@[simp] theorem State.tileRead_pending (s : State) (slot : Nat) (data : Option (List Byte)) :
    (s.tileRead slot data).pending = s.pending := by
  unfold State.tileRead
  split
  · simp
  · rfl

@[simp] theorem State.tileRetry_pending (s : State) (slot : Nat) : (s.tileRetry slot).pending = s.pending := by
  have hretry : ∀ (ws : List (Int × Int × Nat)) (t : State), (ws.foldl State.retryTile t).pending = t.pending :=
    fun ws t => State.each_pending t ws State.retryTile (fun u w => by
      unfold State.retryTile
      split <;> simp)
  unfold State.tileRetry
  dsimp only
  rw [hretry]
  split <;> simp

@[simp] theorem State.fireEnd_pending (s : State) (st : Status) (res : BitVec 128) :
    (s.fireEnd st res).pending = s.pending := by
  unfold State.fireEnd
  dsimp only
  split <;> simp

@[simp] theorem State.fireDone_pending (s : State) (flashOk readbackOk : Bool) :
    (s.fireDone flashOk readbackOk).pending = s.pending := by
  unfold State.fireDone
  dsimp only
  (repeat' split) <;> simp

@[simp] theorem State.scrubbed_pending (s : State) (f : ScrubFinding) : (s.scrubbed f).pending = s.pending := by
  cases f <;> simp [State.scrubbed]

@[simp] theorem State.applyPatches_pending (s : State) (early : Bool) : (s.applyPatches early).pending = s.pending :=
  State.each_pending _ _ _ fun u w => by (repeat' split) <;> simp

@[simp] theorem State.applyFresh_pending (s : State) : s.applyFresh.pending = s.pending :=
  State.each_pending _ _ _ fun u x => by split <;> simp

@[simp] theorem State.applyRates_pending (s : State) : s.applyRates.pending = s.pending :=
  State.each_pending _ _ _ fun u w => by (repeat' split) <;> simp

@[simp] theorem State.planCycle_pending (s : State) : s.planCycle.pending = s.pending := by
  simp [State.planCycle, State.cycleInputs]

@[simp] theorem State.tileAnswer_pending (s : State) (p : TPlaced) (a : TileAns) : (s.tileAnswer p a).pending = s.pending := by
  unfold State.tileAnswer
  dsimp only
  (repeat' split) <;> simp

@[simp] theorem State.takeAnswers_pending (as : List TileAns) (s : State) :
    (State.takeAnswers as s).pending = s.pending := by
  induction as generalizing s with
  | nil => rfl
  | cons a as ih =>
    unfold State.takeAnswers
    dsimp only
    (repeat' split) <;> simp [ih]

@[simp] theorem State.doorbellRead_pending (s : State) (d : Doorbell) : (s.doorbellRead d).pending = s.pending := by
  simp [State.doorbellRead]

/-! ### Rows whose meaning begins with a match -/

theorem execDoorbellReadComplete_pending (dt : Nat) (d : Doorbell) (s : State) :
    ∃ t, execDoorbellReadComplete dt d s = .next t ∧ t.pending = s.pending := by
  have hfree : ((s.advance dt).freeIndices d.idx).2.pending = s.pending := by simp
  refine ⟨_, rfl, ?_⟩
  (repeat' split) <;> simp_all

theorem execTxSessionOpen_pending (dt bus : Nat) (data : Option (List Byte)) (s : State) :
    ∃ t, execTxSessionOpen dt bus data s = .next t ∧ t.pending = s.pending := by
  unfold execTxSessionOpen
  refine ⟨_, rfl, ?_⟩
  dsimp only
  (repeat' split) <;> simp

theorem execBootComplete_pending (dt : Nat) (b : BootObs) (s : State) :
    ∃ t, execBootComplete dt b s = .next t ∧ t.pending = s.pending := by
  unfold execBootComplete
  extract_lets s1 s2 s3 s4 s5 s6 s7 s8 s9
  have h9 : s9.pending = s.pending := by simp [s9, s8, s7, s6, s5, s4, s3, s2, s1]
  refine ⟨_, rfl, ?_⟩
  (repeat' split) <;> simp [h9, s1]

/-! ### The commands of a sweep (R356, R359) -/

theorem nextOr_pending (s : State) {o : Out} (ho : ∃ t, o = .next t ∧ t.pending = s.pending) :
    (nextOr s o).pending = s.pending := by
  obtain ⟨t, rfl, ht⟩ := ho
  exact ht

/-- What comes before and after the commands of a sweep keeps the queue where they do. -/
theorem State.fetched_pending {f : Fetch} (hf : ∀ s : State, (runCmds f.cmds s).pending = s.pending) (s : State) :
    (s.fetched f).pending = s.pending := by
  unfold State.fetched
  extract_lets good more reads s1 s2 s3 read early s4 s5 s6 s7 s8
  have hread : ∀ (t : State) (b : Nat), (read t b).pending = t.pending := fun t b => by
    simp only [read]
    split <;> simp
  have h4 : s4.pending = s.pending := (State.each_pending _ _ _ hread).trans (by simp [s3, s2, s1])
  have h5 : s5.pending = s.pending := by
    simp only [s5]
    split
    · rw [hf, h4]
    · exact h4
  simp [s8, s7, s6, hread, h5]

/-! ### Rows -/

/-- Every row but DESCRIPTOR_FETCH: the sequencer's rows by their common frame, the others by the laws of what they are
made of. -/
theorem exec_pending_of_ne_fetch (c : Instr) (s : State) (hc : ∀ dt f, c ≠ .descriptorFetch dt f) :
    ∃ t, exec c s = .next t ∧ t.pending = s.pending := by
  cases c with
  | descriptorFetch dt f => exact absurd rfl (hc dt f)
  | seqReservedOpcode => exact ⟨_, rfl, (State.seqRun_pending _ _ fun _ _ => rfl).trans (by simp)⟩
  | seqSrc | seqItgt | seqWaiti | seqWaitt | seqArm | seqDecay | seqMark | seqJmp | seqJc | seqLoop | seqHoldw | seqEnd =>
    refine ⟨_, rfl, (State.seqRun_pending _ _ fun b i => ?_).trans (by simp)⟩
    split <;> simp
  | faultRecordWritten | laneConfirmTimeout | doorbellSweep | hostBufferRead | imuBurstComplete | ftStep | slewComplete
  | tp0Pulse | acquisitionConfirmTimeout | coilR | measLost | lsPauseEnd | inrushWindowEnd | piZeroTimeout
  | canFrameReceived | tpSessionTimeout | canTxSuccess | canArbitrationLost | canTxError | canRxError
  | addressClaimComplete | bamPacket | busRecoveryTimeout | rateDetectTimeout | phaseLock | ma20ShuntReconnect
  | moduleResetAssert | plannerCycleStart | msixUnmask
  | tileRecordRead | tileRetry | firingComplete | memoryScrub =>
    refine ⟨_, rfl, ?_⟩
    (repeat' split) <;> simp
  | doorbellReadComplete => exact execDoorbellReadComplete_pending ..
  | bootComplete => exact execBootComplete_pending ..
  | txSessionOpen => exact execTxSessionOpen_pending ..
  | bind | unbind | arm | disarm | run | hold | manualEnter | manualExit | clearFault | heartbeat | moduleReset | telSelect
  | cfgStage | cfgFire | cfgRollback | planSectionEnable | planManual | planHoldAck | planStatus | valveStatus | valveClear
  | valveDiagNow | seqStatus | seqRead | loopClose | loopOpen | loopSetpoint | loopOutput | loopCoef | loopClear | traceArm
  | traceStop | lsClear | lsDiagNow | piCountSet | sxSet | sxAidTime | sxAidPos | sxAidOrbit | diagRecords | diagErase
  | fieldOrigin | tileFlush =>
    exact ⟨_, rfl, by simp [State.stateDone, State.sxCmd, cmdBind, cmdUnbind, cmdArm, cmdDisarm, cmdRun, cmdHold, cmdManualEnter,
      cmdManualExit, cmdClearFault, cmdHeartbeat, cmdModuleReset, cmdTelSelect, cmdCfgStage, cmdCfgFire, cmdCfgRollback,
      cmdPlanSectionEnable, cmdPlanManual, cmdPlanHoldAck, cmdPlanStatus, cmdValveStatus, cmdValveClear, cmdValveDiagNow,
      cmdSeqStatus, cmdSeqRead, cmdLoop, cmdTraceArm, cmdTraceStop, cmdLsClear, cmdLsDiagNow, cmdPiCountSet, cmdSxSet,
      cmdSxAidTime, cmdSxAidPos, cmdDiagRecords, cmdDiagErase, cmdFieldOrigin, cmdTileFlush]⟩
  | canTxCancel =>
    refine ⟨_, rfl, State.command_pending fun u => ?_⟩
    dsimp only
    (repeat' split) <;> simp
  | _ => exact ⟨_, rfl, by simp⟩

theorem runCmd_pending (c : Instr) (s : State) : (runCmd c s).pending = s.pending := by
  rcases runCmd_cases c s with hsame | hnext | ⟨dt, k, b, t, x, rfl⟩
  · rw [hsame]
  · by_cases hc : ∃ dt f, c = .descriptorFetch dt f
    · obtain ⟨dt, f, rfl⟩ := hc
      rfl
    · rw [hnext, nextOr_pending s (exec_pending_of_ne_fetch c s fun dt f hf => hc ⟨dt, f, hf⟩)]
  · exact nextOr_pending s.takeFree.2
      (exec_pending_of_ne_fetch (.canTxCancel dt k b t (Config.freeBool s.takeFree.1)) s.takeFree.2 nofun)

theorem runCmds_pending (ds : List Desc) (s : State) : (runCmds ds s).pending = s.pending := by
  induction ds generalizing s with
  | nil => rfl
  | cons d ds ih =>
    rw [runCmds]
    split
    · exact runCmd_pending _ s
    · rw [ih, runCmd_pending]

/-! ### The obligation -/

/-- Settles O51: every row answers a next state by the shape of its meaning, and none of the operations that it is made of
touches the queue. -/
theorem everyRowCompletes : Obligations.EveryRowCompletes := by
  intro c s
  by_cases hc : ∃ dt f, c = .descriptorFetch dt f
  · obtain ⟨dt, f, rfl⟩ := hc
    have hf := State.fetched_pending (runCmds_pending f.cmds) (s.advance dt).graceFirst
    refine ⟨_, rfl, ?_⟩
    (repeat' split) <;> simp [hf]
  · exact exec_pending_of_ne_fetch c s fun dt f hf => hc ⟨dt, f, hf⟩

end Sys2Proof.Machine
end

section
/-! The counters of R395 under the operations that a row is made of: each leaves every counter at least what it was. -/

namespace Sys2Proof.Machine

/-! ### Counts that have not fallen -/

/-- No counter of `d` is below the one of `c` at its index (R395). -/
structure CntLe (c d : List Word) : Prop where
  le : ∀ i, (c.getD i 0).toNat ≤ (d.getD i 0).toNat

@[simp] theorem CntLe.refl (c : List Word) : CntLe c c := ⟨fun _ => le_rfl⟩

theorem CntLe.trans {c d e : List Word} (h : CntLe c d) (h' : CntLe d e) : CntLe c e :=
  ⟨fun i => (h.le i).trans (h'.le i)⟩

@[simp] theorem CntLe.ite (c d e : List Word) (p : Prop) [Decidable p] :
    CntLe c (if p then d else e) ↔ (p → CntLe c d) ∧ (¬p → CntLe c e) := by
  split <;> simp_all

/-- One counter counts on, saturating. -/
@[simp] theorem CntLe.modify {c d : List Word} (h : CntLe c d) (i k : Nat) : CntLe c (d.modify i (satInc · k)) :=
  ⟨fun j => (h.le j).trans (State.count_mono { cnt := d } i k j)⟩

/-- What counts on step by step counts on altogether. -/
@[simp] theorem State.each_counts {α : Type} {c : List Word} {s : State} (h : CntLe c s.cnt) {f : State → α → State}
    (hf : ∀ u x, CntLe u.cnt (f u x).cnt) (xs : List α) : CntLe c (s.each xs f).cnt := by
  unfold State.each
  induction xs generalizing s with
  | nil => exact h
  | cons x xs ih => exact ih (h.trans (hf s x))

section
variable {old : List Word} {s : State} (h : CntLe old s.cnt)
include h


@[simp] theorem State.sendMsix_counts (v : Nat) : CntLe old (s.sendMsix v).cnt := by
  simp [State.sendMsix, h]

@[simp] theorem State.sendLate_counts (v : Nat) : CntLe old (s.sendLate v).cnt := by
  simp [State.sendLate, h]

@[simp] theorem State.pbaSends_counts (v : Nat) : CntLe old (s.pbaSends v).cnt := by
  simp [State.pbaSends, h]

@[simp] theorem State.notify_counts (v : Nat) (urgent : Bool) : CntLe old (s.notify v urgent).cnt := by
  simp [State.notify, h]

@[simp] theorem State.writeRec_counts (n : Nat) (ds : List Desc) (urgent : Bool) :
    CntLe old (s.writeRec n ds urgent).cnt := by
  simp [State.writeRec, h]

@[simp] theorem State.writeEvt_counts (e : Evt) : CntLe old (s.writeEvt e).cnt := by
  simp [State.writeEvt, h]

@[simp] theorem State.queueEvt_counts (e : Evt) : CntLe old (s.queueEvt e).cnt := by
  simp [State.queueEvt, h]

@[simp] theorem State.raise_counts (code subject : Nat) (data : List (Nat × Nat × Nat)) (urgent : Bool) :
    CntLe old (s.raise code subject data urgent).cnt := by
  simp [State.raise, h]

@[simp] theorem State.record_counts (source code subject : Nat) (data : List (Nat × Nat × Nat)) (urgent : Bool) :
    CntLe old (s.record source code subject data urgent).cnt := by
  simp [State.record, h]

@[simp] theorem State.dropTel_counts (cls : Nat) : CntLe old (s.dropTel cls).cnt := by
  simp [State.dropTel, h]

@[simp] theorem State.writeTel_counts (t : Tel) : CntLe old (s.writeTel t).cnt := by
  simp [State.writeTel, h]

@[simp] theorem State.drainEvts_counts (k : Nat) : CntLe old (State.drainEvts k s).cnt := by
  induction k generalizing s with
  | zero => simpa [State.drainEvts] using h
  | succ k ih =>
    unfold State.drainEvts
    (repeat' split) <;> simp [h, ih]

@[simp] theorem State.drainTel_counts (k : Nat) : CntLe old (State.drainTel k s).cnt := by
  induction k generalizing s with
  | zero => simpa [State.drainTel] using h
  | succ k ih =>
    unfold State.drainTel
    (repeat' split) <;> simp [h, ih]

@[simp] theorem State.makeTelRoom_counts (k need : Nat) : CntLe old (State.makeTelRoom k need s).cnt := by
  induction k generalizing s with
  | zero => simpa [State.makeTelRoom] using h
  | succ k ih =>
    unfold State.makeTelRoom
    (repeat' split) <;> simp [h, ih]

@[simp] theorem State.formTel_counts (cls : Nat) (ds : List Desc) : CntLe old (s.formTel cls ds).cnt := by
  simp [State.formTel, h]

@[simp] theorem State.telemeter_counts (cls typ : Nat) (ds : List Desc) : CntLe old (s.telemeter cls typ ds).cnt := by
  simp [State.telemeter, h]

@[simp] theorem State.drainCpl_counts (k : Nat) : CntLe old (State.drainCpl k s).cnt := by
  induction k generalizing s with
  | zero => simpa [State.drainCpl] using h
  | succ k ih =>
    unfold State.drainCpl
    (repeat' split) <;> simp [h, ih]

@[simp] theorem State.startSweep_counts : CntLe old s.startSweep.cnt := by
  unfold State.startSweep
  dsimp only
  refine State.drainCpl_counts ?_ _
  split <;> simp [h]

@[simp] theorem State.extraSweep_counts : CntLe old s.extraSweep.cnt := by
  simp [State.extraSweep, h]

@[simp] theorem State.completeAt_counts (op : Byte) (h : Hdr) (idx : Word) (st : Status) (res : BitVec 128) (mt : Nat) :
    CntLe old (s.completeAt op h idx st res mt).cnt := by
  unfold State.completeAt
  dsimp only
  (repeat' split) <;> simp_all

@[simp] theorem State.complete_counts (op : Byte) (hdr : Hdr) (idx : Word) (st : Status) (res : BitVec 128) :
    CntLe old (s.complete op hdr idx st res).cnt :=
  State.completeAt_counts h ..

@[simp] theorem State.finishAt_counts (w : Waiting) (st : Status) (res : BitVec 128) (mt : Nat) :
    CntLe old (s.finishAt w st res mt).cnt := by
  simp [State.finishAt, h]

@[simp] theorem State.finish_counts (w : Waiting) (st : Status) (res : BitVec 128) :
    CntLe old (s.finish w st res).cnt := by
  simp [State.finish, h]

@[simp] theorem State.finishNone_counts (w : Waiting) (st : Status) (res : BitVec 128) :
    CntLe old (s.finishNone w st res).cnt := by
  simp [State.finishNone, h]

@[simp] theorem State.countClamp_counts (ch : Nat) : CntLe old (s.countClamp ch).cnt := by
  simp [State.countClamp, h]

@[simp] theorem State.countPhase_counts (ch : Nat) : CntLe old (s.countPhase ch).cnt := by
  simp [State.countPhase, h]

@[simp] theorem State.grantClaim_counts (ch t : Nat) : CntLe old (s.grantClaim ch t).cnt := by
  simp [State.grantClaim, h]

@[simp] theorem State.refuseClaim_counts (ch t : Nat) : CntLe old (s.refuseClaim ch t).cnt := by
  simp [State.refuseClaim, h]

@[simp] theorem State.askClaim_counts (ch b : Nat) : CntLe old (s.askClaim ch b).cnt := by
  simp [State.askClaim, h]

@[simp] theorem State.requestClaim_counts (ch b : Nat) : CntLe old (s.requestClaim ch b).cnt := by
  unfold State.requestClaim
  (repeat' split) <;> simp [h]

@[simp] theorem State.seedFilters_counts (ch : Nat) : CntLe old (s.seedFilters ch).cnt := by
  unfold State.seedFilters
  dsimp only
  (repeat' split) <;> simp [h]

@[simp] theorem State.missed_counts (ch : Nat) (closing : Bool) : CntLe old (s.missed ch closing).cnt := by
  simp [State.missed, h]

@[simp] theorem State.judge_counts (ch : Nat) : CntLe old (s.judge ch).cnt := by
  simp [State.judge, h]

@[simp] theorem State.decideOpen_counts (ch : Nat) (o : Outc) (stamp : Nat) :
    CntLe old (s.decideOpen ch o stamp).cnt := by
  unfold State.decideOpen
  (repeat' split) <;> simp [h]

@[simp] theorem State.decideClose_counts (ch : Nat) (o : Outc) (stamp : Nat) :
    CntLe old (s.decideClose ch o stamp).cnt := by
  unfold State.decideClose
  (repeat' split) <;> simp [h]

@[simp] theorem State.startProfile_counts (ch t : Nat) : CntLe old (s.startProfile ch t).cnt := by
  simp [State.startProfile, h]

@[simp] theorem State.startDecay_counts (ch t : Nat) (clamp : Bool) : CntLe old (s.startDecay ch t clamp).cnt := by
  simp [State.startDecay, h]

@[simp] theorem State.noteAct_counts (ch t : Nat) : CntLe old (s.noteAct ch t).cnt := by
  simp [State.noteAct, h]

@[simp] theorem State.stopActuation_counts (ch t : Nat) (clamp : Bool) :
    CntLe old (s.stopActuation ch t clamp).cnt := by
  unfold State.stopActuation
  extract_lets c s1 s2
  have h1 : CntLe old s1.cnt := by
    simp only [s1]
    split <;> simp [h]
  simp [s2, h1]

@[simp] theorem State.forceOff_counts (ch : Nat) : CntLe old (s.forceOff ch).cnt := by
  unfold State.forceOff
  dsimp only
  (repeat' split) <;> simp [h]

@[simp] theorem State.latchCh_counts (ch finding : Nat) : CntLe old (s.latchCh ch finding).cnt := by
  simp [State.latchCh, h]

@[simp] theorem State.channelFault_counts (ch finding : Nat) (partner : Nat) :
    CntLe old (s.channelFault ch finding partner).cnt := by
  simp [State.channelFault, h]

@[simp] theorem State.latchGroup_counts (g finding : Nat) : CntLe old (s.latchGroup g finding).cnt := by
  simp [State.latchGroup, h]

@[simp] theorem State.groupFault_counts (g finding : Nat) : CntLe old (s.groupFault g finding).cnt := by
  simp [State.groupFault, h]

@[simp] theorem State.valvesSafe_counts : CntLe old s.valvesSafe.cnt := by
  simp [State.valvesSafe, h]

@[simp] theorem State.onRelease_counts (ch t : Nat) : CntLe old (s.onRelease ch t).cnt := by
  unfold State.onRelease
  dsimp only
  (repeat' split) <;> simp [h]

@[simp] theorem State.offRelease_counts (ch t : Nat) : CntLe old (s.offRelease ch t).cnt := by
  unfold State.offRelease
  dsimp only
  (repeat' split) <;> simp [h]

@[simp] theorem State.decayEnds_counts (ch : Nat) : CntLe old (s.decayEnds ch).cnt := by
  unfold State.decayEnds
  dsimp only
  (repeat' split) <;> simp [h]

@[simp] theorem State.chargeTest_counts (q c : Nat) : CntLe old (s.chargeTest q c).cnt := by
  unfold State.chargeTest
  dsimp only
  split
  · exact State.raise_counts (by simp [h]) ..
  · simp [h]

@[simp] theorem State.bufferRec_counts (r : FaultRec) : CntLe old (s.bufferRec r).cnt := by
  simp [State.bufferRec, h]

@[simp] theorem State.lateEdge_counts (e : Edge) (t : Nat) : CntLe old (s.lateEdge e t).cnt := by
  simp [State.lateEdge, h]

@[simp] theorem State.releaseEdge_counts (ch : Nat) : CntLe old (s.releaseEdge ch).cnt := by
  unfold State.releaseEdge
  extract_lets g t
  split
  · exact h
  next e _ =>
    split
    · exact h
    · extract_lets same s1 s2 told vs s3 s4
      have h4 : CntLe old s4.cnt := by simp [s4, s3, s2, s1, h]
      split <;> simp [h4]

@[simp] theorem State.passClaim_counts (g resMv : Nat) : CntLe old (s.passClaim g resMv).cnt := by
  unfold State.passClaim
  dsimp only
  (repeat' split) <;> simp [h]

@[simp] theorem State.refuseWaiting_counts (ch : Nat) : CntLe old (s.refuseWaiting ch).cnt := by
  unfold State.refuseWaiting
  dsimp only
  (repeat' split) <;> simp [h]

@[simp] theorem State.unconfirmed_counts (ch : Nat) (timeout : Option Nat) :
    CntLe old (s.unconfirmed ch timeout).cnt := by
  unfold State.unconfirmed
  (repeat' split) <;> simp [h]

@[simp] theorem State.windowTimeout_counts (ch : Nat) (closing : Bool) :
    CntLe old (s.windowTimeout ch closing).cnt := by
  unfold State.windowTimeout
  dsimp only
  (repeat' split) <;> simp [h]

@[simp] theorem State.arrival_counts (ch : Nat) (closing : Bool) (obs : DetObs) :
    CntLe old (s.arrival ch closing obs).cnt := by
  unfold State.arrival
  dsimp only
  (repeat' split) <;> simp [h]

@[simp] theorem State.decayOver_counts (ch resMv clampMj : Nat) : CntLe old (s.decayOver ch resMv clampMj).cnt := by
  simp [State.decayOver, h]

@[simp] theorem State.offFinding_counts (ch code : Nat) : CntLe old (s.offFinding ch code).cnt := by
  simp [State.offFinding, h]

@[simp] theorem State.tested_counts (ch code : Nat) : CntLe old (s.tested ch code).cnt := by
  simp [State.tested, h]

@[simp] theorem State.offTest_counts (ch finding : Nat) : CntLe old (s.offTest ch finding).cnt := by
  simp [State.offTest, h]

@[simp] theorem State.diagStarved_counts (ch : Nat) : CntLe old (s.diagStarved ch).cnt := by
  simp [State.diagStarved, h]

@[simp] theorem State.valveReadback_counts (n : Nat) (rail : Bool) (read : Nat) (obs : DetObs) :
    CntLe old (s.valveReadback n rail read obs).cnt := by
  simp [State.valveReadback, h]

@[simp] theorem State.boostOver_counts (q mv held : Nat) : CntLe old (s.boostOver q mv held).cnt := by
  unfold State.boostOver
  dsimp only
  split
  · exact State.record_counts (State.each_counts (by simp [h]) (by simp) _) ..
  · simp [h]

@[simp] theorem State.valveClearDone_counts (codes : List Nat) : CntLe old (s.valveClearDone codes).cnt := by
  unfold State.valveClearDone
  dsimp only
  (repeat' split)
  case h_1.isFalse.isTrue => exact State.finish_counts (by simp [h]) ..
  case h_1.isFalse.isFalse.isTrue => exact State.finish_counts (by simp [h]) ..
  case h_1.isFalse.isFalse.isFalse => exact State.finish_counts (by simp [h]) ..
  all_goals exact h

@[simp] theorem State.valveDiagDone_counts (codes : List Nat) : CntLe old (s.valveDiagDone codes).cnt := by
  unfold State.valveDiagDone
  dsimp only
  (repeat' split)
  case h_1.isFalse.isTrue => exact State.finish_counts (by simp [h]) ..
  case h_1.isFalse.isFalse => exact State.finish_counts (by simp [h]) ..
  all_goals exact h

@[simp] theorem State.trap_counts (ch addr cause : Nat) : CntLe old (s.trap ch addr cause).cnt := by
  simp [State.trap, h]

@[simp] theorem State.parity_counts (g addr : Nat) : CntLe old (s.parity g addr).cnt := by
  simp [State.parity, h]

@[simp] theorem State.doSrc_counts (ch b k : Nat) : CntLe old (s.doSrc ch b k).cnt := by
  unfold State.doSrc
  (repeat' split) <;> simp [h]

@[simp] theorem State.doMark_counts (ch b code : Nat) (evt : Bool) (value : Nat) :
    CntLe old (s.doMark ch b code evt value).cnt := by
  simp [State.doMark, h]

@[simp] theorem State.seqTarget_counts (ch addr : Nat) (taken : Bool) :
    CntLe old (s.seqTarget ch addr taken).cnt := by
  simp [State.seqTarget, h]

@[simp] theorem State.doLoop_counts (ch n : Nat) (reload : Bool) (addr : Nat) :
    CntLe old (s.doLoop ch n reload addr).cnt := by
  simp [State.doLoop, h]

@[simp] theorem State.doEnd_counts (ch b : Nat) : CntLe old (s.doEnd ch b).cnt := by
  simp [State.doEnd, h]

@[simp] theorem State.compareStores_counts (bad : List (Nat × Nat)) : CntLe old (s.compareStores bad).cnt := by
  refine State.each_counts h (fun u g => ?_) _
  dsimp only
  (repeat' split) <;> simp

@[simp] theorem State.dropSlot_counts (n : Nat) : CntLe old (s.dropSlot n).cnt := by
  simp [State.dropSlot, h]

@[simp] theorem State.dropFetch_counts (r : TReq) : CntLe old (s.dropFetch r).cnt := by
  unfold State.dropFetch
  dsimp only
  (repeat' split) <;> simp [h]

@[simp] theorem State.queueFetch_counts (r : TReq) : CntLe old (s.queueFetch r).cnt := by
  unfold State.queueFetch
  dsimp only
  (repeat' split) <;> simp [h]

@[simp] theorem State.queueWb_counts (r : TReq) : CntLe old (s.queueWb r).cnt := by
  unfold State.queueWb
  (repeat' split) <;> simp [h]

@[simp] theorem State.postWb_counts (n : Nat) (first : Bool) : CntLe old (s.postWb n first).cnt := by
  unfold State.postWb
  (repeat' split) <;> simp [h]

@[simp] theorem State.postRefresh_counts (x : TSlot) (need : Nat) : CntLe old (s.postRefresh x need).cnt := by
  simp [State.postRefresh, h]

@[simp] theorem State.loseHeld_counts (tx ty : Int) : CntLe old (s.loseHeld tx ty).cnt := by
  simp [State.loseHeld, h]

@[simp] theorem State.dropsEnded_counts : CntLe old s.dropsEnded.cnt := by
  simp [State.dropsEnded, h]

@[simp] theorem State.emptyCache_counts : CntLe old s.emptyCache.cnt := by
  simp [State.emptyCache, h]

@[simp] theorem State.allocSlot_counts (more : Bool) : CntLe old (s.allocSlot more).2.cnt := by
  unfold State.allocSlot
  dsimp only
  (repeat' split) <;> simp [h]

@[simp] theorem State.patchEnds_counts (tx ty : Int) : CntLe old (s.patchEnds tx ty).cnt := by
  refine State.each_counts h (fun u w => ?_) _
  (repeat' split) <;> simp

@[simp] theorem State.enterRing_counts : CntLe old s.enterRing.cnt := by
  unfold State.enterRing
  (repeat' split) <;> simp [h]

@[simp] theorem State.fetchTile_counts (tx ty : Int) (need : Nat) : CntLe old (s.fetchTile tx ty need).cnt := by
  unfold State.fetchTile
  dsimp only
  (repeat' split) <;> simp [h]

@[simp] theorem State.postFetch_counts (tx ty : Int) (need : Nat) : CntLe old (s.postFetch tx ty need).cnt := by
  simp [State.postFetch, h]

@[simp] theorem State.unstick_counts : CntLe old s.unstick.cnt := by
  simp [State.unstick, h]

@[simp] theorem State.markCell_counts (cx cy : Int) (mt : Nat) : CntLe old (s.markCell cx cy mt).cnt := by
  unfold State.markCell
  dsimp only
  (repeat' split) <;> simp [h]

@[simp] theorem State.settled_counts (n : Nat) : CntLe old (s.settled n).cnt := by
  unfold State.settled
  split
  · split
    · exact State.dropsEnded_counts (State.dropSlot_counts (by simp [h]) _)
    · (repeat' split) <;> simp [h]
  · exact h

@[simp] theorem State.toVoid_counts (x : TSlot) : CntLe old (s.toVoid x).cnt := by
  simp [State.toVoid, h]

@[simp] theorem State.fetchBad_counts (p : TPlaced) (reason : Nat) : CntLe old (s.fetchBad p reason).cnt := by
  unfold State.fetchBad
  extract_lets s1 s2
  have h2 : CntLe old s2.cnt := by simp [s2, s1, h]
  split
  · split
    · simp [h2]
    · exact State.unstick_counts (State.patchEnds_counts (by simp [h2]) ..)
  · exact h2

@[simp] theorem State.wbDone_counts (p : TPlaced) (ok : Bool) : CntLe old (s.wbDone p ok).cnt := by
  unfold State.wbDone
  dsimp only
  (repeat' split) <;> simp [h]

@[simp] theorem State.wbDiscard_counts (p : TPlaced) : CntLe old (s.wbDiscard p).cnt := by
  unfold State.wbDiscard
  (repeat' split) <;> simp [h]

@[simp] theorem State.tileOver_counts (p : TPlaced) : CntLe old (s.tileOver p).cnt := by
  unfold State.tileOver
  extract_lets s1 s2 origin s5
  have h2 : CntLe old s2.cnt := by simp [s2, s1, h]
  have h5 : CntLe old s5.cnt := by simp [s5, h2]
  have hdrop : ∀ n, CntLe old (((s2.dropSlot n).loseHeld p.tx p.ty).patchEnds p.tx p.ty).unstick.cnt := fun n =>
    State.unstick_counts (State.patchEnds_counts (by simp [h2]) ..)
  split
  · split
    · dsimp only
      (repeat' split) <;> simp [h2, hdrop]
    · exact h2
  · split
    · (repeat' split) <;> simp [h5]
    · exact h5

@[simp] theorem State.unanswered_counts : CntLe old s.unanswered.cnt := by
  simp [State.unanswered, h]

@[simp] theorem State.bindTiles_counts : CntLe old s.bindTiles.cnt := by
  simp [State.bindTiles, h]

@[simp] theorem State.prefetchTile_counts (tx ty : Int) (need : Nat) : CntLe old (s.prefetchTile tx ty need).cnt := by
  unfold State.prefetchTile
  (repeat' split) <;> simp [h]

@[simp] theorem State.prefetch_counts : CntLe old s.prefetch.cnt := by
  simp [State.prefetch, h]

@[simp] theorem State.wbDue_counts (slot : Nat) : CntLe old (s.wbDue slot).cnt := by
  unfold State.wbDue
  (repeat' split) <;> simp [h]

@[simp] theorem State.wbComplete_counts (slot : Nat) (ok : Bool) : CntLe old (s.wbComplete slot ok).cnt := by
  unfold State.wbComplete
  (repeat' split) <;> simp [h]

@[simp] theorem State.tileTimedOut_counts (slot : Nat) : CntLe old (s.tileTimedOut slot).cnt := by
  unfold State.tileTimedOut
  (repeat' split) <;> simp [h]

@[simp] theorem State.retrySlot_counts (x : TSlot) : CntLe old (s.retrySlot x).cnt := by
  simp [State.retrySlot, h]

@[simp] theorem State.retryTile_counts (w : Int × Int × Nat) : CntLe old (s.retryTile w).cnt := by
  unfold State.retryTile
  (repeat' split) <;> simp [h]

@[simp] theorem State.flushAll_counts : CntLe old (s.flushAll).2.cnt := by
  simp [State.flushAll, h]

@[simp] theorem State.flushDone_counts : CntLe old s.flushDone.cnt := by
  unfold State.flushDone
  (repeat' split) <;> simp [h]

@[simp] theorem State.invalidate_counts (mode : Nat) (x : TSlot) : CntLe old (s.invalidate mode x).cnt := by
  unfold State.invalidate
  extract_lets s1 s2
  have h2 : CntLe old s2.cnt := by simp [s2, s1, h]
  (repeat' split) <;> simp [h, h2]

@[simp] theorem State.downFrame_counts : CntLe old s.downFrame.cnt := by
  simp [State.downFrame, h]

@[simp] theorem State.takePin_counts (p : Nat) : CntLe old (s.takePin p).cnt := by
  unfold State.takePin
  extract_lets q s1 s2
  have h2 : CntLe old s2.cnt := State.each_counts (by simp [s1, h]) (by simp) _
  split <;> simp [h2]

@[simp] theorem State.takeChanges_counts : CntLe old s.takeChanges.cnt := by
  simp [State.takeChanges, h]

@[simp] theorem State.upFrame_counts (good : Bool) (banks : List Nat) : CntLe old (s.upFrame good banks).cnt := by
  unfold State.upFrame
  extract_lets was s1 s2 s3 s4
  have h1 : CntLe old s1.cnt := by simp [s1, h]
  have h2 : CntLe old s2.cnt := by simp [s2, h1]
  have h3 : CntLe old s3.cnt := by simp [s3, h2]
  have h4 : CntLe old s4.cnt := by simp [s4, h3]
  split <;> simp [h, h4]

@[simp] theorem State.setValid_counts (n kind : Nat) : CntLe old (s.setValid n kind).cnt := by
  simp [State.setValid, h]

@[simp] theorem State.ratioLost_counts (k : Nat) : CntLe old (s.ratioLost k).cnt := by
  simp [State.ratioLost, h]

@[simp] theorem State.piLoad_counts (n t : Nat) : CntLe old (s.piLoad n t).cnt := by
  unfold State.piLoad
  (repeat' split) <;> simp [h]

@[simp] theorem State.piStamp_counts (n src t : Nat) (level : Bool) (step : Int) :
    CntLe old (s.piStamp n src t level step).cnt := by
  simp [State.piStamp, h]

@[simp] theorem State.piEdge_counts (n t : Nat) (level : Bool) : CntLe old (s.piEdge n t level).cnt := by
  unfold State.piEdge
  extract_lets s1 s2 a s3 p la lb lead near kind
  have h2 : CntLe old s2.cnt := by simp [s2, s1, h]
  have h3 : CntLe old s3.cnt := by simp [s3, h2]
  (repeat' split) <;> simp [h2, h3]

@[simp] theorem State.fieldFired_counts : CntLe old s.fieldFired.cnt := by
  simp [State.fieldFired, h]

@[simp] theorem State.lsLatchOne_counts (n cause : Nat) : CntLe old (s.lsLatchOne n cause).cnt := by
  simp [State.lsLatchOne, h]

@[simp] theorem State.lsLatch_counts (n cause : Nat) : CntLe old (s.lsLatch n cause).cnt := by
  simp [State.lsLatch, h]

@[simp] theorem State.lsFinding_counts (n cause : Nat) : CntLe old (s.lsFinding n cause).cnt := by
  simp [State.lsFinding, h]

@[simp] theorem State.lsTripped_counts (n : Nat) (ma : Int) (short : Bool) :
    CntLe old (s.lsTripped n ma short).cnt := by
  unfold State.lsTripped
  extract_lets us s1 s2 s3 t s4
  have h4 : CntLe old s4.cnt := State.raise_counts (by simp [s3, s2, s1, h]) ..
  split <;> simp [h4]

@[simp] theorem State.thermal_counts (k : Nat) (temp : Int) (losses : Nat × Nat) :
    CntLe old (s.thermal k temp losses).cnt := by
  unfold State.thermal
  extract_lets c asked shut s1 s2 ev s3 s4
  have hev : ∀ {u : State} {n kind : Nat}, CntLe old u.cnt → CntLe old (ev u n kind).cnt := fun hu => by simp [ev, hu]
  have h3 : CntLe old s3.cnt := hev (by simp [s2, s1, h])
  have h4 : CntLe old s4.cnt := by
    simp only [s4]
    split
    · exact hev h3
    · exact h3
  (repeat' split) <;> simp [h, h4]

@[simp] theorem State.lsTested_counts (n c : Nat) : CntLe old (s.lsTested n c).cnt := by
  unfold State.lsTested
  dsimp only
  split
  · simp [h]
  · exact State.each_counts (by simp [h]) (by simp) _

@[simp] theorem State.lsClearDone_counts (obs : List (Option OffObs)) : CntLe old (s.lsClearDone obs).cnt := by
  unfold State.lsClearDone
  dsimp only
  (repeat' split)
  · exact h
  iterate 3 exact State.finish_counts (by simp [h]) ..
  all_goals exact h

@[simp] theorem State.lsDiagDone_counts (obs : List (Option OffObs)) : CntLe old (s.lsDiagDone obs).cnt := by
  unfold State.lsDiagDone
  dsimp only
  (repeat' split)
  · exact State.finish_counts (by simp [h]) ..
  all_goals exact h

@[simp] theorem State.loopField_counts (n : Nat) (u : Int) : CntLe old (s.loopField n u).cnt := by
  unfold State.loopField
  (repeat' split) <;> simp [h]

@[simp] theorem State.setOut_counts (n : Nat) (u : Int) : CntLe old (s.setOut n u).cnt := by
  simp [State.setOut, h]

@[simp] theorem State.loopFault_counts (n cause : Nat) : CntLe old (s.loopFault n cause).cnt := by
  simp [State.loopFault, h]

@[simp] theorem State.loopSafe_counts (n : Nat) : CntLe old (s.loopSafe n).cnt := by
  simp [State.loopSafe, h]

@[simp] theorem State.applyOutputs_counts : CntLe old s.applyOutputs.cnt := by
  simp [State.applyOutputs, h]

@[simp] theorem State.loopMeasure_counts (n : Nat) : CntLe old (s.loopMeasure n).cnt := by
  unfold State.loopMeasure
  (repeat' split) <;> simp [h]

@[simp] theorem State.noteSat_counts (n : Nat) (c : BitVec 5) : CntLe old (s.noteSat n c).cnt := by
  unfold State.noteSat
  dsimp only
  split
  · simp [h]
  · exact State.raise_counts (by simp [h]) ..

@[simp] theorem State.outerTakes_counts (n : Nat) : CntLe old (s.outerTakes n).cnt := by
  unfold State.outerTakes
  dsimp only
  (repeat' split) <;> simp [h]

@[simp] theorem State.closeLoop_counts (n : Nat) : CntLe old (s.closeLoop n).cnt := by
  simp [State.closeLoop, h]

@[simp] theorem State.loopLaw_counts (n : Nat) : CntLe old (s.loopLaw n).cnt := by
  unfold State.loopLaw
  extract_lets
  exact State.noteSat_counts (by simp +zetaDelta [h]) ..

@[simp] theorem State.recordTraces_counts (n : Nat) (faulted closed : Bool) :
    CntLe old (s.recordTraces n faulted closed).cnt := by
  simp [State.recordTraces, h]

@[simp] theorem State.loopsSafe_counts : CntLe old s.loopsSafe.cnt := by
  refine State.each_counts h (fun u n => ?_) _
  (repeat' split) <;> simp

@[simp] theorem State.loopCmd_counts (n : Nat) (w : Waiting) : CntLe old (s.loopCmd n w).cnt := by
  unfold State.loopCmd
  (repeat' split) <;> simp [h]

@[simp] theorem State.loopCmds_counts (n : Nat) : CntLe old (s.loopCmds n).cnt := by
  simp [State.loopCmds, h]

@[simp] theorem State.traceOut_counts (k n : Nat) : CntLe old (State.traceOut k n s).cnt := by
  induction k generalizing s with
  | zero => simpa [State.traceOut] using h
  | succ k ih =>
    unfold State.traceOut
    (repeat' split) <;> simp [h, ih]

@[simp] theorem State.traceWrite_counts (k : Nat) : CntLe old (s.traceWrite k).cnt := by
  simp [State.traceWrite, h]

@[simp] theorem State.ftRecord_counts (change : Nat) (p : FtPair) (step : Int) :
    CntLe old (s.ftRecord change p step).cnt := by
  simp [State.ftRecord, h]

@[simp] theorem State.publish_counts (p : FtPair) (change : Nat) (step : Int) :
    CntLe old (s.publish p change step).cnt := by
  simp [State.publish, h]

@[simp] theorem State.ftInvalid_counts : CntLe old s.ftInvalid.cnt := by
  simp [State.ftInvalid, h]

@[simp] theorem State.corrDiscard_counts (n : Nat) : CntLe old (s.corrDiscard n).cnt := by
  simp [State.corrDiscard, h]

@[simp] theorem State.station_counts (id pos : Nat) : CntLe old (s.station id pos).cnt := by
  simp [State.station, h]

@[simp] theorem State.corrUse_counts (body : List Byte) : CntLe old (s.corrUse body).cnt := by
  unfold State.corrUse
  dsimp only
  (repeat' split) <;> simp [h]

@[simp] theorem State.corrFeed_counts (can : Bool) (bs : List Byte) : CntLe old (s.corrFeed can bs).cnt := by
  simp [State.corrFeed, h]

@[simp] theorem State.rtcmTake_counts (d : Desc) : CntLe old (s.rtcmTake d).cnt := by
  simp [State.rtcmTake, h]

@[simp] theorem State.busCount_counts (b k : Nat) (n : Nat) : CntLe old (s.busCount b k n).cnt := by
  simp [State.busCount, h]

@[simp] theorem State.canDone_counts (b : Nat) (idx : Word) (fs : List (Nat × Nat × Nat)) :
    CntLe old (s.canDone b idx fs).cnt := by
  simp [State.canDone, h]

@[simp] theorem State.frameDone_counts (b : Nat) (idx : Word) (res attempts : Nat) (sof : Option Nat) :
    CntLe old (s.frameDone b idx res attempts sof).cnt := by
  simp [State.frameDone, h]

@[simp] theorem State.msgDone_counts (b : Nat) (idx : Word) (res reason endMt : Nat) :
    CntLe old (s.msgDone b idx res reason endMt).cnt := by
  simp [State.msgDone, h]

@[simp] theorem State.doneBehind_counts (b i : Nat) (ds : List (Word × Nat × Nat)) :
    CntLe old (s.doneBehind b i ds).cnt := by
  unfold State.doneBehind
  dsimp only
  (repeat' split) <;> simp [h]

@[simp] theorem State.entDone_counts (b : Nat) (e : TxEnt) (res : Nat) : CntLe old (s.entDone b e res).cnt := by
  unfold State.entDone
  (repeat' split) <;> simp [h]

@[simp] theorem State.entCancelled_counts (b i : Nat) : CntLe old (s.entCancelled b i).cnt := by
  simp [State.entCancelled, h]

@[simp] theorem State.placeDt_counts (b : Nat) (t : TxSess) : CntLe old (s.placeDt b t).cnt := by
  simp [State.placeDt, h]

@[simp] theorem State.closeTxAt_counts (b : Nat) (t : TxSess) (res reason : Nat) (started : Bool) :
    CntLe old (s.closeTxAt b t res reason started).cnt := by
  simp [State.closeTxAt, h]

@[simp] theorem State.closeTx_counts (b : Nat) (t : TxSess) (res reason : Nat) :
    CntLe old (s.closeTx b t res reason).cnt := by
  unfold State.closeTx
  dsimp only
  (repeat' split) <;> simp [h]

@[simp] theorem State.descDone_counts (b : Nat) (idx : Word) (ds : List Desc) (res : Nat) :
    CntLe old (s.descDone b idx ds res).cnt := by
  simp [State.descDone, h]

@[simp] theorem State.errEvents_counts (b : Nat) (o : Bus) : CntLe old (s.errEvents b o).cnt := by
  simp [State.errEvents, h]

@[simp] theorem State.errUpd_counts (b : Nat) (f : Bus → Bus) : CntLe old (s.errUpd b f).cnt := by
  simp [State.errUpd, h]

@[simp] theorem State.claimDone_counts (b addr : Nat) : CntLe old (s.claimDone b addr).cnt := by
  simp [State.claimDone, h]

@[simp] theorem State.holdCf_counts (b : Nat) : CntLe old (s.holdCf b).cnt := by
  simp [State.holdCf, h]

@[simp] theorem State.startClaim_counts (b addr : Nat) : CntLe old (s.startClaim b addr).cnt := by
  simp [State.startClaim, h]

@[simp] theorem State.noAddress_counts (b : Nat) : CntLe old (s.noAddress b).cnt := by
  unfold State.noAddress
  extract_lets s1 x had s2 s3 s4
  have h3 : CntLe old s3.cnt := State.each_counts (by simp [s2, s1, h]) (by simp) _
  have h4 : CntLe old s4.cnt := State.each_counts h3 (by simp) _
  split <;> simp [h4]

@[simp] theorem State.loseAddr_counts (b : Nat) : CntLe old (s.loseAddr b).cnt := by
  unfold State.loseAddr
  (repeat' split) <;> simp [h]

@[simp] theorem State.seeClaim_counts (b sa name : Nat) : CntLe old (s.seeClaim b sa name).cnt := by
  simp [State.seeClaim, h]

@[simp] theorem State.claimAll_counts : CntLe old s.claimAll.cnt := by
  simp [State.claimAll, h]

@[simp] theorem State.canRecord_counts (b : Nat) (hd : List (Nat × Nat × Nat)) (conts : List Desc) (drop : Bool) :
    CntLe old (s.canRecord b hd conts drop).cnt := by
  simp [State.canRecord, h]

@[simp] theorem State.canHost_counts (b : Nat) (f : CanFrame) (sof : Nat) (filt : Option Nat) :
    CntLe old (s.canHost b f sof filt).cnt := by
  simp [State.canHost, h]

@[simp] theorem State.toSlot_counts (b n : Nat) (f : CanFrame) (sof : Nat) : CntLe old (s.toSlot b n f sof).cnt := by
  simp [State.toSlot, h]

@[simp] theorem State.route_counts (b : Nat) (f : CanFrame) (sof : Nat) : CntLe old (s.route b f sof).cnt := by
  unfold State.route
  (repeat' split) <;> simp [h]

@[simp] theorem State.corrFrom_counts (b pgn sa : Nat) (data : List Byte) :
    CntLe old (s.corrFrom b pgn sa data).cnt := by
  simp [State.corrFrom, h]

@[simp] theorem State.msgComplete_counts (b : Nat) (r : RxSess) (data : List Byte) (sof : Nat) :
    CntLe old (s.msgComplete b r data sof).cnt := by
  unfold State.msgComplete
  extract_lets s1 st s2
  have h1 : CntLe old s1.cnt := by simp [s1, h]
  have h2 : CntLe old s2.cnt := by simp [s2, h1]
  (repeat' split) <;> simp [h2]

@[simp] theorem State.openRx_counts (b : Nat) (r : RxSess) : CntLe old (s.openRx b r).cnt := by
  simp [State.openRx, h]

@[simp] theorem State.takeDt_counts (b : Nat) (r : RxSess) (data : List Byte) (sof : Nat) :
    CntLe old (s.takeDt b r data sof).cnt := by
  simp [State.takeDt, h]

@[simp] theorem State.timeFrame_counts (b : Nat) (f : CanFrame) (sof : Nat) :
    CntLe old (s.timeFrame b f sof).cnt := by
  unfold State.timeFrame
  dsimp only
  (repeat' split) <;> simp [h]

@[simp] theorem State.entDiscarded_counts (b : Nat) (e : TxEnt) : CntLe old (s.entDiscarded b e).cnt := by
  unfold State.entDiscarded
  (repeat' split) <;> simp [h]

@[simp] theorem State.canDiscard_counts (b : Nat) (abort : Bool) : CntLe old (s.canDiscard b abort).cnt := by
  have hstart : CntLe old (s.instStarted b 0).2.cnt := by simp [h]
  unfold State.canDiscard
  split
  next st u hu =>
    rw [hu] at hstart
    extract_lets x k s1 s2 ends s3 s4
    have h2 : CntLe old s2.cnt := State.each_counts (by simp [s1, hstart]) (by simp) _
    have h3 : CntLe old s3.cnt := by
      refine State.each_counts h2 (fun v t => ?_) _
      dsimp only
      (repeat' split) <;> simp
    have h4 : CntLe old s4.cnt := State.each_counts h3 (by simp) _
    simp [h4]

@[simp] theorem State.dropAddress_counts (b : Nat) : CntLe old (s.dropAddress b).cnt := by
  simp [State.dropAddress, h]

@[simp] theorem State.reclaim_counts (was : State) : CntLe old (s.reclaim was).cnt :=
  State.each_counts h (by simp) _

@[simp] theorem State.pumpTx_counts (k : Nat) (b : Nat) : CntLe old (State.pumpTx k s b).cnt := by
  induction k generalizing s with
  | zero => simpa [State.pumpTx] using h
  | succ k ih =>
    unfold State.pumpTx
    dsimp only
    (repeat' split) <;> simp [h, ih]

@[simp] theorem State.takeTx_counts (k : Nat) (b : Nat) : CntLe old (State.takeTx k s b).cnt := by
  induction k generalizing s with
  | zero => simpa [State.takeTx] using h
  | succ k ih =>
    unfold State.takeTx
    dsimp only
    (repeat' split) <;> simp [h, ih]

@[simp] theorem State.refill_counts (b : Nat) : CntLe old (s.refill b).cnt := by
  simp [State.refill, h]

@[simp] theorem State.attemptFailed_counts (b : Nat) : CntLe old (s.attemptFailed b).cnt := by
  unfold State.attemptFailed
  (repeat' split) <;> simp [h]

@[simp] theorem State.takeCts_counts (b : Nat) (t : TxSess) (n next : Nat) :
    CntLe old (s.takeCts b t n next).cnt := by
  simp [State.takeCts, h]

@[simp] theorem State.canSafe_counts (fault : Bool) : CntLe old (s.canSafe fault).cnt := by
  refine State.each_counts h (fun u b => State.takeTx_counts ?_ ..) _
  split <;> simp

@[simp] theorem State.dropTxf_counts (b : Nat) : CntLe old (s.dropTxf b).cnt := by
  unfold State.dropTxf
  dsimp only
  (repeat' split) <;> simp [h]

@[simp] theorem State.stopTxf_counts : CntLe old s.stopTxf.cnt := by
  simp [State.stopTxf, h]

@[simp] theorem State.enterListen_counts (b : Nat) : CntLe old (s.enterListen b).cnt := by
  exact State.takeTx_counts (State.claimDone_counts (by simp [h]) ..) ..

@[simp] theorem State.canConfigure_counts (boot : Bool) : CntLe old (s.canConfigure boot).cnt := by
  simp [State.canConfigure, h]

@[simp] theorem State.endDetect_counts (b : Nat) (st : Status) : CntLe old (s.endDetect b st).cnt := by
  unfold State.endDetect
  dsimp only
  (repeat' split) <;> simp [h]

@[simp] theorem State.rateFound_counts (b : Nat) (d : Detect) : CntLe old (s.rateFound b d).cnt := by
  simp [State.rateFound, h]

@[simp] theorem State.detGood_counts (b : Nat) (d : Detect) (f : CanFrame) : CntLe old (s.detGood b d f).cnt := by
  unfold State.detGood
  dsimp only
  (repeat' split) <;> simp [h]

@[simp] theorem State.sessionSent_counts (b id sof : Nat) : CntLe old (s.sessionSent b id sof).cnt := by
  unfold State.sessionSent
  dsimp only
  (repeat' split) <;> simp [h]

@[simp] theorem State.txfLoops_counts (f : Nat) : CntLe old (s.txfLoops f).cnt := by
  simp [State.txfLoops, h]

@[simp] theorem State.mergeIn_counts (b : Nat) (isIt : TxKind → Bool) (k : TxKind) (f : CanFrame) :
    CntLe old (s.mergeIn b isIt k f).cnt := by
  unfold State.mergeIn
  dsimp only
  (repeat' split) <;> simp [h]

@[simp] theorem State.cancelSession_counts (b : Nat) (t : TxSess) (started : Bool) :
    CntLe old (s.cancelSession b t started).cnt := by
  unfold State.cancelSession
  extract_lets x s1 s2
  have h1 : CntLe old s1.cnt := by simp [s1, h]
  have h2 : CntLe old s2.cnt := by
    simp only [s2]
    split <;> simp [h1]
  exact State.refill_counts h2 _

@[simp] theorem State.dropIllegal_counts : CntLe old s.dropIllegal.cnt := by
  unfold State.dropIllegal
  extract_lets s1 bad s2
  have h1 : CntLe old s1.cnt := State.each_counts h (fun u b => by split <;> simp) _
  have h2 : CntLe old s2.cnt := by simp [s2, h1]
  exact State.each_counts h2 (by simp) _

@[simp] theorem State.endActivity_counts (a : Activity) : CntLe old (s.endActivity a).cnt := by
  unfold State.endActivity
  extract_lets s1 s2 s3
  have h3 : CntLe old s3.cnt := by
    refine State.each_counts (by simp [s2, s1, h]) (fun u n => ?_) _
    dsimp only
    (repeat' split) <;> simp
  split <;> simp [h3]

@[simp] theorem State.abortAct_counts (a : Activity) : CntLe old (s.abortAct a).cnt := by
  unfold State.abortAct
  dsimp only
  (repeat' split) <;> simp [h]

@[simp] theorem State.abortAll_counts : CntLe old s.abortAll.cnt := by
  simp [State.abortAll, h]

@[simp] theorem State.sagRecord_counts (code subject : Nat) (data : List (Nat × Nat × Nat)) :
    CntLe old (s.sagRecord code subject data).cnt := by
  simp [State.sagRecord, h]

@[simp] theorem State.detectRec_counts (k lane : Nat) : CntLe old (s.detectRec k lane).cnt := by
  simp [State.detectRec, h]

@[simp] theorem State.ringStops_counts (n : Nat) : CntLe old (s.ringStops n).cnt := by
  simp [State.ringStops, h]

@[simp] theorem State.hostIfReset_counts : CntLe old s.hostIfReset.cnt := by
  simp [State.hostIfReset, h]

omit h in
@[simp] theorem State.enter_counts {old : List Word} {s : State} (h : CntLe old s.cnt) (new : DevState) (cause : Nat) :
    CntLe old (s.enter new cause).cnt := by
  unfold State.enter
  extract_lets was s1 s2 s3 s4 s5 s6 s7
  have h1 : CntLe old s1.cnt := by
    simp only [s1]
    split <;> simp [h]
  have h4 : CntLe old s4.cnt := by simp [s4, s3, s2, h1]
  have h5 : CntLe old s5.cnt := by
    simp only [s5]
    (repeat' split) <;> simp [h4]
  have h6 : CntLe old s6.cnt := by
    simp only [s6]
    split <;> simp [h5]
  exact State.raise_counts (State.dropIllegal_counts h6) ..

@[simp] theorem State.toFault_counts (cause : Nat) : CntLe old (s.toFault cause).cnt := by
  unfold State.toFault
  (repeat' split) <;> simp [h]

@[simp] theorem State.moduleWide_counts (c : FCause) (lane : Nat) : CntLe old (s.moduleWide c lane).cnt := by
  unfold State.moduleWide
  extract_lets k told s1 s2 s3
  have h3 : CntLe old s3.cnt := by
    simp only [s3]
    (repeat' split) <;> simp [s2, s1, h]
  simp [h3]

@[simp] theorem State.resetClass_counts (k lane : Nat) : CntLe old (s.resetClass k lane).cnt := by
  unfold State.resetClass
  simp [h]

@[simp] theorem State.graceExpires_counts (start : Nat) : CntLe old (s.graceExpires start).cnt := by
  simp [State.graceExpires, h]

@[simp] theorem State.graceFirst_counts : CntLe old s.graceFirst.cnt := by
  unfold State.graceFirst
  (repeat' split) <;> simp [h]

@[simp] theorem State.hostLost_counts (det : Nat) : CntLe old (s.hostLost det).cnt := by
  unfold State.hostLost
  extract_lets s1 s2
  have h2 : CntLe old s2.cnt := State.abortAll_counts (by simp [s1, h])
  (repeat' split) <;> simp [h2]

@[simp] theorem State.sendLimits_counts : CntLe old s.sendLimits.cnt := by
  simp [State.sendLimits, h]

@[simp] theorem State.stopSextant_counts : CntLe old s.stopSextant.cnt := by
  simp [State.stopSextant, h]

@[simp] theorem State.configure_counts (boot : Bool) : CntLe old (s.configure boot).cnt := by
  unfold State.configure
  extract_lets s1 s2 s3
  have h1 : CntLe old (s1.canConfigure boot).cnt := State.canConfigure_counts (by simp [s1, h]) _
  have h2 : CntLe old s2.cnt := by simp [s2, h1]
  have h3 : CntLe old s3.cnt := State.each_counts h2 (fun u n => by split <;> simp) _
  exact State.stopSextant_counts h3

@[simp] theorem State.imuInit_counts : CntLe old s.imuInit.cnt := by
  unfold State.imuInit
  (repeat' split) <;> simp [h]

@[simp] theorem State.applyImage_counts (v : CfgVals) : CntLe old (s.applyImage v).cnt := by
  unfold State.applyImage
  extract_lets was s1 vs s3 s4 s5 s6 s7 s8 s9 s10 s11 s12
  have h4 : CntLe old s4.cnt := State.reclaim_counts (State.configure_counts (by simp [s3, s1, h]) _) _
  have h6 : CntLe old s6.cnt := State.each_counts (by simp [s5, h4]) (fun u k => by split <;> simp) _
  have h7 : CntLe old s7.cnt := State.each_counts h6 (fun u ch => by split <;> simp) _
  have h11 : CntLe old s11.cnt := by simp [s11, s10, s9, s8, h7]
  simp [s12, h11]

@[simp] theorem State.stageEnd_counts (w : Waiting) (st : Status) (res : BitVec 128) :
    CntLe old (s.stageEnd w st res).cnt := by
  simp [State.stageEnd, h]

@[simp] theorem State.stageRead_counts (w : Waiting) (data : List Byte) : CntLe old (s.stageRead w data).cnt := by
  unfold State.stageRead
  (repeat' split) <;> simp [h]

@[simp] theorem State.stageDone_counts (ok : Bool) : CntLe old (s.stageDone ok).cnt := by
  unfold State.stageDone
  (repeat' split) <;> simp [h]

@[simp] theorem State.startFiring_counts (h : Hdr) (rollback : Bool) (n : Nat) :
    CntLe old (s.startFiring h rollback n).cnt := by
  unfold State.startFiring
  dsimp only
  (repeat' split) <;> simp_all

@[simp] theorem State.cutFiring_counts : CntLe old s.cutFiring.cnt := by
  unfold State.cutFiring
  dsimp only
  (repeat' split) <;> simp [h]

@[simp] theorem State.imageFailed_counts (n fall : Nat) (prevBad : Bool) :
    CntLe old (s.imageFailed n fall prevBad).cnt := by
  simp [State.imageFailed, h]

@[simp] theorem State.bootImage_counts (reads : List Bool) : CntLe old (s.bootImage reads).cnt := by
  unfold State.bootImage
  dsimp only
  (repeat' split) <;> simp [h]

@[simp] theorem State.bootCharge_counts (b : BootObs) : CntLe old (s.bootCharge b).cnt := by
  unfold State.bootCharge
  dsimp only
  simp [h]

@[simp] theorem State.bootConfigure_counts : CntLe old s.bootConfigure.cnt := by
  unfold State.bootConfigure
  extract_lets s1 s2 s3 s4 s5
  have h2 : CntLe old s2.cnt := State.each_counts (by simp [s1, h]) (by simp) _
  exact State.imuInit_counts (by simp [s5, s4, s3, h2])

@[simp] theorem State.safenFault_counts : CntLe old s.safenFault.cnt := by
  simp [State.safenFault, h]

@[simp] theorem State.linkLost_counts (det : Nat) : CntLe old (s.linkLost det).cnt := by
  simp [State.linkLost, h]

@[simp] theorem State.safenSeen_counts (lane : Nat) : CntLe old (s.safenSeen lane).cnt := by
  simp [State.safenSeen, h]

@[simp] theorem State.supplyEvt_counts (kind mv : Nat) : CntLe old (s.supplyEvt kind mv).cnt := by
  simp [State.supplyEvt, h]

@[simp] theorem State.restart_counts : CntLe old s.restart.cnt := by
  simp [State.restart, h]

@[simp] theorem State.shedLoads_counts : CntLe old s.shedLoads.cnt := by
  simp [State.shedLoads, h]

@[simp] theorem State.suspendCh_counts (ch : Nat) : CntLe old (s.suspendCh ch).cnt := by
  simp [State.suspendCh, h]

@[simp] theorem State.suspend_counts (q : Nat) : CntLe old (s.suspend q).cnt := by
  simp [State.suspend, h]

@[simp] theorem State.resume_counts (q : Nat) : CntLe old (s.resume q).cnt := by
  simp [State.resume, h]

@[simp] theorem State.vioEvt_counts (kind mv : Nat) : CntLe old (s.vioEvt kind mv).cnt := by
  simp [State.vioEvt, h]

@[simp] theorem State.safenFree_counts : CntLe old s.safenFree.cnt := by
  simp [State.safenFree, h]

@[simp] theorem State.clockFault_counts (lane : Nat) : CntLe old (s.clockFault lane).cnt := by
  simp [State.clockFault, h]

@[simp] theorem State.refLost_counts : CntLe old s.refLost.cnt := by
  simp [State.refLost, h]

@[simp] theorem State.timeMark_counts (diffs : List Int) : CntLe old (s.timeMark diffs).cnt := by
  simp [State.timeMark, h]

@[simp] theorem State.safenTaken_counts (lane : Nat) : CntLe old (s.safenTaken lane).cnt := by
  simp [State.safenTaken, h]

@[simp] theorem State.currentClasses_counts : CntLe old s.currentClasses.cnt := by
  simp [State.currentClasses, h]

@[simp] theorem State.showLanes_counts : CntLe old s.showLanes.cnt := by
  simp [State.showLanes, h]

@[simp] theorem State.pathTest_counts (missing : List (Nat × Island)) : CntLe old (s.pathTest missing).cnt := by
  unfold State.pathTest
  dsimp only
  split
  · simp [h]
  · exact State.moduleWide_counts (by simp [h]) ..

@[simp] theorem State.envelope_counts (c : EnvCheck) (lane : Nat) : CntLe old (s.envelope c lane).cnt := by
  unfold State.envelope
  split
  · exact h
  · split
    · simp [h]
    · simp [h]
    · exact State.moduleWide_counts (by simp [h]) ..

@[simp] theorem State.slotLost_counts (n : Nat) : CntLe old (s.slotLost n).cnt := by
  unfold State.slotLost
  split
  · exact h
  · exact State.unstick_counts (State.dropsEnded_counts (by simp [h]))

@[simp] theorem State.flashBad_counts (p : FlashPart) : CntLe old (s.flashBad p).cnt := by
  unfold State.flashBad
  extract_lets s1
  have h1 : CntLe old s1.cnt := by
    simp only [s1]
    split <;> simp [h]
  split <;> simp [h1]

@[simp] theorem State.clockCompare_counts (x : CrossObs) : CntLe old (s.clockCompare x).cnt := by
  unfold State.clockCompare
  extract_lets ks s1 s2 s3 s4 s5
  have h3 : CntLe old s3.cnt := by
    simp only [s3]
    split <;> simp [s2, s1, h]
  have h4 : CntLe old s4.cnt := by simp [s4, h3]
  have h5 : CntLe old s5.cnt := by simp [s5, h4]
  split <;> simp [h5]

@[simp] theorem State.crossCheck_counts (x : CrossObs) : CntLe old (s.crossCheck x).cnt := by
  unfold State.crossCheck
  extract_lets s1 bad differ s2 s3 s4 s5
  have h3 : CntLe old s3.cnt := by simp [s3, s2, s1, h]
  have h4 : CntLe old s4.cnt := by simp [s4, h3]
  have h5 : CntLe old s5.cnt := by simp [s5, h4]
  simp [h5]

@[simp] theorem State.ringStarts_counts (n : Nat) : CntLe old (s.ringStarts n).cnt := by
  simp [State.ringStarts, h]

@[simp] theorem State.ringControl_counts (n : Nat) (v : Word) : CntLe old (s.ringControl n v).cnt := by
  simp [State.ringControl, h]

@[simp] theorem State.setHbTimeout_counts (v : Nat) : CntLe old (s.setHbTimeout v).cnt := by
  simp [State.setHbTimeout, h]

@[simp] theorem State.lost_counts (det : Nat) : CntLe old (s.lost det).cnt := by
  simp [State.lost, h]

@[simp] theorem State.sweepStarts_counts : CntLe old s.sweepStarts.cnt := by
  simp [State.sweepStarts, h]

@[simp] theorem State.sweepEnds_counts : CntLe old s.sweepEnds.cnt := by
  unfold State.sweepEnds
  dsimp only
  (repeat' split) <;> simp [h]

@[simp] theorem State.doorbellFailed_counts : CntLe old s.doorbellFailed.cnt := by
  unfold State.doorbellFailed
  extract_lets s1 s2
  have h2 : CntLe old s2.cnt := by simp [s2, s1, h]
  exact State.sweepEnds_counts h2

@[simp] theorem State.cplRoom_counts : CntLe old s.cplRoom.cnt := by
  simp [State.cplRoom, h]

@[simp] theorem State.dropOld_counts : CntLe old s.dropOld.cnt := by
  simp [State.dropOld, h]

@[simp] theorem State.takeUnknown_counts (op : Byte) (h : Hdr) : CntLe old (s.takeUnknown op h).cnt := by
  unfold State.takeUnknown
  dsimp only
  simp_all

@[simp] theorem State.bindHost_counts (resume : Bool) : CntLe old (s.bindHost resume).cnt := by
  simp [State.bindHost, h]

@[simp] theorem State.eraseDone_counts (ok : Bool) : CntLe old (s.eraseDone ok).cnt := by
  unfold State.eraseDone
  dsimp only
  (repeat' split) <;> simp [h]

@[simp] theorem State.maintEnd_counts (a : Activity) (st : Status) (reason : Nat) (ws : List Word) :
    CntLe old (s.maintEnd a st reason ws).cnt := by
  unfold State.maintEnd
  dsimp only
  (repeat' split) <;> simp [h]

@[simp] theorem State.sweepHalts_counts : CntLe old s.sweepHalts.cnt := by
  unfold State.sweepHalts
  (repeat' split) <;> simp [h]

@[simp] theorem State.sweepParams_counts (a : Activity) (bs : List Byte) : CntLe old (s.sweepParams a bs).cnt := by
  simp [State.sweepParams, h]

@[simp] theorem State.tuneParams_counts (a : Activity) (bs : List Byte) : CntLe old (s.tuneParams a bs).cnt := by
  simp [State.tuneParams, h]

@[simp] theorem State.maintParams_counts (w : Waiting) (data : Option (List Byte)) :
    CntLe old (s.maintParams w data).cnt := by
  unfold State.maintParams
  (repeat' split) <;> simp [h]

@[simp] theorem State.sweepStore_counts (acts : Nat) (o : Swept) : CntLe old (s.sweepStore acts o).cnt := by
  simp [State.sweepStore, h]

@[simp] theorem State.sweepDone_counts (cMeas : List Nat) : CntLe old (s.sweepDone cMeas).cnt := by
  unfold State.sweepDone
  split
  · exact h
  · extract_lets n os s1 s2 ws qs
    have h1 : CntLe old s1.cnt := State.each_counts h (by simp) _
    have h2 : CntLe old s2.cnt := by simp [s2, h1]
    (repeat' split) <;> simp [h, h2]

@[simp] theorem State.wireDone_counts (valves : List Nat) (switches : List (Option OffObs)) :
    CntLe old (s.wireDone valves switches).cnt := by
  unfold State.wireDone
  split
  · exact h
  · extract_lets vs ls s1 s2
    have h1 : CntLe old s1.cnt := State.each_counts h (fun u ch => by split <;> simp) _
    have h2 : CntLe old s2.cnt := State.each_counts h1 (fun u n => by split <;> simp) _
    simp [h2]

@[simp] theorem State.tuneEnds_counts (n : Nat) : CntLe old (s.tuneEnds n).cnt := by
  unfold State.tuneEnds
  (repeat' split) <;> simp [h]

@[simp] theorem State.tuneDone_counts : CntLe old s.tuneDone.cnt := by
  unfold State.tuneDone
  dsimp only
  (repeat' split) <;> simp [h]

@[simp] theorem State.tuneTimeout_counts : CntLe old s.tuneTimeout.cnt := by
  unfold State.tuneTimeout
  (repeat' split) <;> simp [h]

@[simp] theorem State.scrubDone_counts (pages corrected : Nat) (bad : List FlashPart) :
    CntLe old (s.scrubDone pages corrected bad).cnt := by
  unfold State.scrubDone
  split
  · exact h
  · exact State.maintEnd_counts (State.each_counts h (by simp) _) ..

@[simp] theorem State.zeroDone_counts (means : List Int) (artic : Int) : CntLe old (s.zeroDone means artic).cnt := by
  unfold State.zeroDone
  (repeat' split) <;> simp [h]

@[simp] theorem State.selfTestEvent_counts (i : Nat) : CntLe old (s.selfTestEvent i).cnt := by
  simp [State.selfTestEvent, h]

@[simp] theorem State.selfTestDone_counts (engines : BitVec 16) (chans : BitVec 128) :
    CntLe old (s.selfTestDone engines chans).cnt := by
  unfold State.selfTestDone
  split
  · exact h
  · split
    · exact h
    · exact State.maintEnd_counts (State.each_counts (by simp [h]) (by simp) _) ..

@[simp] theorem State.speedCompare_counts : CntLe old s.speedCompare.cnt := by
  unfold State.speedCompare
  (repeat' split) <;> simp [h]

@[simp] theorem State.takeWaiting_counts (w : Waiting) : CntLe old (s.takeWaiting w).cnt := by
  unfold State.takeWaiting
  (repeat' split) <;> simp [h]

@[simp] theorem State.openReport_counts (r : Report) : CntLe old (s.openReport r).cnt := by
  simp [State.openReport, h]

@[simp] theorem State.closeReport_counts (r : Report) : CntLe old (s.closeReport r).cnt := by
  unfold State.closeReport
  (repeat' split) <;> simp [h]

@[simp] theorem State.takeReports_counts : CntLe old s.takeReports.cnt := by
  simp [State.takeReports, h]

@[simp] theorem State.markMove_counts (ch : Nat) (a b : FusOut) (lo hi : Nat) :
    CntLe old (s.markMove ch a b lo hi).cnt := by
  simp [State.markMove, h]

@[simp] theorem State.markSpan_counts (ch : Nat) (os : List FusOut) (x : OpenSpan) :
    CntLe old (s.markSpan ch os x).cnt := by
  simp [State.markSpan, h]

@[simp] theorem State.markAll_counts : CntLe old s.markAll.cnt := by
  refine State.each_counts h (fun u ch => ?_) _
  exact State.each_counts (CntLe.refl _) (by simp) _

@[simp] theorem State.positionLoss_counts (o : FusOut) : CntLe old (s.positionLoss o).cnt := by
  simp [State.positionLoss, h]

@[simp] theorem State.countLooks_counts (ch : Nat) (ws : List Want) : CntLe old (s.countLooks ch ws).cnt := by
  unfold State.countLooks
  extract_lets near ts rs all
  refine State.each_counts h (fun u t => ?_) all
  extract_lets held s1 s2 s3
  have h2 : CntLe u.cnt s2.cnt := by simp [s2, s1]
  have h3 : CntLe u.cnt s3.cnt := by simp [s3, h2]
  (repeat' split) <;> simp [h3]

@[simp] theorem State.putEdges_counts (f ch : Nat) (es : List Edge) : CntLe old (s.putEdges f ch es).cnt := by
  simp [State.putEdges, h]

@[simp] theorem State.planGroup_counts (o : FusOut) (f g : Nat) : CntLe old (s.planGroup o f g).cnt := by
  simp [State.planGroup, h]

@[simp] theorem State.abandon_counts (ch : Nat) : CntLe old (s.abandon ch).cnt := by
  simp [State.abandon, h]

@[simp] theorem State.spdCompare_counts (sel i : Nat) (x : SpdRead) (q : Nat) :
    CntLe old (s.spdCompare sel i x q).cnt := by
  simp [State.spdCompare, h]

@[simp] theorem State.spdStep_counts (xs : List SpdRead) (q : Nat) : CntLe old (s.spdStep xs q).cnt := by
  simp [State.spdStep, h]

@[simp] theorem State.articEvents_counts (est : Rat) : CntLe old (s.articEvents est).cnt := by
  simp [State.articEvents, h]

@[simp] theorem State.farCheck_counts (x : FusOut) : CntLe old (s.farCheck x).cnt := by
  simp [State.farCheck, h]

@[simp] theorem State.imuMiss_counts : CntLe old s.imuMiss.cnt := by
  simp [State.imuMiss, h]

@[simp] theorem State.imuInstant_counts (m wait : Nat) : CntLe old (s.imuInstant m wait).cnt := by
  simp [State.imuInstant, h]

@[simp] theorem State.imuGood_counts (p : ImuProfile) (m : Nat) (fr : List Byte) :
    CntLe old (s.imuGood p m fr).cnt := by
  simp [State.imuGood, h]

@[simp] theorem State.setOrigin_counts (w : Waiting) (lat lon height : Word) :
    CntLe old (s.setOrigin w lat lon height).cnt := by
  exact State.finish_counts (by simp [h]) ..

@[simp] theorem State.originDone_counts : CntLe old s.originDone.cnt := by
  unfold State.originDone
  (repeat' split) <;> simp [h]

@[simp] theorem State.portBad_counts (p cond : Nat) : CntLe old (s.portBad p cond).cnt := by
  simp [State.portBad, h]

@[simp] theorem State.corrSwap_counts : CntLe old s.corrSwap.cnt := by
  simp [State.corrSwap, h]

@[simp] theorem State.keepTests_counts (ms : List Meas) : CntLe old (s.keepTests ms).2.cnt := by
  simp [State.keepTests, h]

@[simp] theorem State.spoofTest_counts (ms : List Meas) : CntLe old (s.spoofTest ms).cnt := by
  unfold State.spoofTest
  (repeat' split) <;> simp [h]

@[simp] theorem State.passSol_counts (o : EpochObs) (ok : Bool) : CntLe old (s.passSol o ok).cnt := by
  simp [State.passSol, h]

@[simp] theorem State.rerate_counts (rate : Int) (change : Nat) : CntLe old (s.rerate rate change).cnt := by
  simp [State.rerate, h]

@[simp] theorem State.ftFirst_counts (o : EpochObs) : CntLe old (s.ftFirst o).cnt := by
  simp [State.ftFirst, h]

@[simp] theorem State.removeError_counts (o : EpochObs) : CntLe old (s.removeError o).cnt := by
  simp [State.removeError, h]

@[simp] theorem State.coastEnd_counts (o : EpochObs) : CntLe old (s.coastEnd o).cnt := by
  simp [State.coastEnd, h]

@[simp] theorem State.clockEpoch_counts (o : EpochObs) (ok : Bool) : CntLe old (s.clockEpoch o ok).cnt := by
  unfold State.clockEpoch
  dsimp only
  (repeat' split) <;> simp [h]

@[simp] theorem State.writeRaw_counts (o : EpochObs) (ms : List Meas) (noSol : Bool) :
    CntLe old (s.writeRaw o ms noSol).cnt := by
  simp [State.writeRaw, h]

@[simp] theorem State.epoch_counts (o : EpochObs) : CntLe old (s.epoch o).cnt := by
  have hkept : CntLe old ((s.takeSamples o.samples).keepTests ((s.takeSamples o.samples).testedMeas o)).2.cnt := by
    simp [h]
  unfold State.epoch
  extract_lets s1
  split
  next ms u hu =>
    rw [hu] at hkept
    extract_lets noSol s2 s3 s4 ok
    have h3 : CntLe old s3.cnt := State.writeRaw_counts (State.spoofTest_counts (by simp [hkept]) _) ..
    have h4 : CntLe old s4.cnt := by simp [s4, h3]
    simp [h4]

@[simp] theorem State.aidOrbits_counts (w : Waiting) (eph : Bool) (bs : List Byte) :
    CntLe old (s.aidOrbits w eph bs).cnt := by
  simp [State.aidOrbits, h]

@[simp] theorem State.rtcmTakes_counts (ds : List Desc) : CntLe old (s.rtcmTakes ds).cnt := by
  simp [State.rtcmTakes, h]

@[simp] theorem State.cantxRead_counts (b : Nat) (ds : List Desc) : CntLe old (s.cantxRead b ds).cnt := by
  simp [State.cantxRead, h]

@[simp] theorem State.cantxTake_counts (b : Nat) : CntLe old (s.cantxTake b).cnt := by
  simp [State.cantxTake, h]

@[simp] theorem State.ringFailed_counts (n : Nat) (addr : DWord) : CntLe old (s.ringFailed n addr).cnt := by
  simp [State.ringFailed, h]

@[simp] theorem State.bufferLost_counts (w : Waiting) : CntLe old (s.bufferLost w).cnt := by
  simp [State.bufferLost, h]

end

section
variable {old : List Word} {s : State} (h : CntLe old s.cnt)
include h

/-! ### Operations whose frame stops short of the counters -/

@[simp] theorem State.relaySample_counts (n : Nat) (ps : List Int) : CntLe old (s.relaySample n ps).cnt := by
  unfold State.relaySample
  dsimp only
  (repeat' split) <;> simp [h]

@[simp] theorem State.loopSample_counts (n : Nat) : CntLe old (s.loopSample n).cnt := by
  unfold State.loopSample
  split
  · extract_lets was s1 s2 s3 l1 s4 s5 l2 s6 l3 eCut s7 s8 l4
    have h3 : CntLe old s3.cnt := State.loopCmds_counts (by simp [s2, s1, h]) _
    have h4 : CntLe old s4.cnt := by
      simp only [s4]
      (repeat' split) <;> simp [h3]
    have h6 : CntLe old s6.cnt := by
      simp only [s6]
      (repeat' split) <;> simp [s5, h4]
    have h7 : CntLe old s7.cnt := by
      simp only [s7]
      (repeat' split) <;> simp_all
    exact State.recordTraces_counts (by simp [s8, h7]) ..
  · exact h

@[simp] theorem State.takeCm_counts (b : Nat) (etp : Bool) (sa da : Nat) (d : List Byte) (sof : Nat) :
    CntLe old (s.takeCm b etp sa da d sof).cnt := by
  unfold State.takeCm
  dsimp only
  (repeat' split) <;> simp [h]

@[simp] theorem State.isoFrame_counts (b : Nat) (f : CanFrame) (sof : Nat) : CntLe old (s.isoFrame b f sof).cnt := by
  unfold State.isoFrame
  extract_lets
  split
  · exact h
  · (repeat' split) <;> simp +zetaDelta [h]

@[simp] theorem State.stagesOff_counts (isl : Island) : CntLe old (s.stagesOff isl).cnt := by
  cases isl <;> simp [State.stagesOff, h]

theorem State.filterSet_counts {t : State} {b n : Nat} {bs : List Byte} (ht : s.filterSet b n bs = some t) :
    CntLe old t.cnt := by
  unfold State.filterSet at ht
  dsimp only at ht
  split at ht
  · cases ht
  · rw [← Option.some.inj ht]
    simp [h]

@[simp] theorem State.bufferRead_counts (w : Waiting) (bs : List Byte) : CntLe old (s.bufferRead w bs).cnt := by
  unfold State.bufferRead
  split
  case h_5 =>
    split
    next hset => exact State.finish_counts (State.filterSet_counts h hset) ..
    next => simp [h]
  all_goals simp [h]

@[simp] theorem State.formRecord_counts (k : TelKind) : CntLe old (s.formRecord k).cnt := by
  unfold State.formRecord
  (repeat' split) <;> simp [h]

@[simp] theorem State.fuse_counts (o : FusObs) : CntLe old (s.fuse o).cnt := by
  have hold : ∀ (t : State) (i : Nat), CntLe t.cnt (match t.spdKind i with
      | .iso k => t.holdSlot (t.cfgN .speedBus) (t.isoSlot k)
      | _ => t).cnt := fun t i => by split <;> simp
  unfold State.fuse
  extract_lets last xs ms stale r
  split
  next hist jump _ =>
    extract_lets f step s1 rev s2 hd s3 noImu m w tow
    clear_value step
    have h2 : CntLe old s2.cnt := State.each_counts (by simp [s1, h]) hold _
    have h3 : CntLe old s3.cnt := by simp [s3, h2]
    split
    next c est _ =>
      extract_lets s4 d s5 hpu q held x s6 s7 s8 s9
      have h6 : CntLe old s6.cnt := by simp [s6, s5, s4, h3]
      have h7 : CntLe old s7.cnt := by simp [s7, h6]
      have h8 : CntLe old s8.cnt := by
        simp only [s8]
        split <;> simp [h7]
      have h9 : CntLe old s9.cnt := by simp [s9, h8]
      (repeat' split) <;> simp [h9]

@[simp] theorem State.freeIndices_counts (idx : List Word) : CntLe old (s.freeIndices idx).2.cnt := by
  unfold State.freeIndices
  refine List.foldlRecOn (motive := fun p : List Word × State => CntLe old p.2.cnt) _ _ h fun p hp n _ => ?_
  dsimp only
  split
  · simpa using hp
  · exact hp

/-! ### The tile cache (R140 to R147) -/

@[simp] theorem State.applyHeld_counts (tx ty : Int) : CntLe old (s.applyHeld tx ty).cnt :=
  State.each_counts (by simp [h]) (fun u m => by split <;> simp) _

@[simp] theorem State.recordRead_counts (p : TPlaced) (data : Option (List Byte)) :
    CntLe old (s.recordRead p data).cnt := by
  unfold State.recordRead
  dsimp only
  (repeat' split) <;> simp [h]

@[simp] theorem State.tileRead_counts (slot : Nat) (data : Option (List Byte)) : CntLe old (s.tileRead slot data).cnt := by
  unfold State.tileRead
  split
  · simp [h]
  · exact h

@[simp] theorem State.tileRetry_counts (slot : Nat) : CntLe old (s.tileRetry slot).cnt := by
  unfold State.tileRetry
  extract_lets s1 due s2
  have h1 : CntLe old s1.cnt := by
    simp only [s1]
    split <;> simp [h]
  have h2 : CntLe old s2.cnt := by simp [s2, h1]
  exact State.each_counts h2 (by simp) due

@[simp] theorem State.tileAnswer_counts (p : TPlaced) (a : TileAns) : CntLe old (s.tileAnswer p a).cnt := by
  unfold State.tileAnswer
  extract_lets v bad s1 v' s2
  have h1 : CntLe old s1.cnt := by simp [s1, h]
  (repeat' split) <;> simp [s2, h1]

omit h in
@[simp] theorem State.takeAnswers_counts {s : State} (h : CntLe old s.cnt) (as : List TileAns) :
    CntLe old (State.takeAnswers as s).cnt := by
  induction as generalizing s with
  | nil => exact h
  | cons a as ih =>
    unfold State.takeAnswers
    split
    · refine ih ?_
      split <;> simp [h]
    · exact h

/-! ### Sweeps, firings, scrubs and the planner's cycle (R154, R356, R406, R448) -/

@[simp] theorem State.doorbellRead_counts (d : Doorbell) : CntLe old (s.doorbellRead d).cnt := by
  unfold State.doorbellRead
  extract_lets s1 s2 s3 s4
  have h2 : CntLe old s2.cnt := State.takeAnswers_counts (by simp [s1, h]) _
  have h4 : CntLe old s4.cnt := by simp [s4, s3, h2]
  split <;> simp [h4]

@[simp] theorem State.fireEnd_counts (st : Status) (res : BitVec 128) : CntLe old (s.fireEnd st res).cnt := by
  unfold State.fireEnd
  dsimp only
  split <;> simp [h]

@[simp] theorem State.fireDone_counts (flashOk readbackOk : Bool) : CntLe old (s.fireDone flashOk readbackOk).cnt := by
  unfold State.fireDone
  split
  · exact h
  · split
    · simp [h]
    · split
      · exact State.fireEnd_counts (State.sendLimits_counts (by simp [h])) ..
      · simp [h]

@[simp] theorem State.scrubbed_counts (f : ScrubFinding) : CntLe old (s.scrubbed f).cnt := by
  cases f <;> simp [State.scrubbed, h]

@[simp] theorem State.applyPatches_counts (early : Bool) : CntLe old (s.applyPatches early).cnt :=
  State.each_counts h (fun u w => by (repeat' split) <;> simp) _

@[simp] theorem State.applyFresh_counts : CntLe old s.applyFresh.cnt :=
  State.each_counts h (fun u x => by split <;> simp) _

@[simp] theorem State.applyRates_counts : CntLe old s.applyRates.cnt :=
  State.each_counts h (fun u w => by (repeat' split) <;> simp) _

@[simp] theorem State.cycleInputs_counts (f : Nat) : CntLe old (s.cycleInputs f).cnt := by
  have hspeed : CntLe old s.speedCompare.takePlan.cnt := by simp [h]
  have hpatch : CntLe old ((s.speedCompare.takePlan.applyPatches true).applyFresh.applyPatches false).cnt :=
    State.applyPatches_counts (State.applyFresh_counts (State.applyPatches_counts hspeed _)) _
  unfold State.cycleInputs
  extract_lets s1 s2
  have h2 : CntLe old s2.cnt := State.each_counts (State.applyRates_counts hpatch) (by simp) _
  simp [h2]

@[simp] theorem State.planCycle_counts : CntLe old s.planCycle.cnt := by
  unfold State.planCycle
  extract_lets f s1 o s2 s3
  have h2 : CntLe old s2.cnt := State.positionLoss_counts (State.markAll_counts (by simp [s1, h])) _
  exact State.each_counts (by simp [s3, h2]) (by simp) _

/-! ### Registers (R343) -/

@[simp] theorem State.write32_counts (off : Nat) (v : Word) : CntLe old (s.write32 off v).cnt := by
  have hite : ∀ {c : Prop} [Decidable c] {a b : State}, CntLe old a.cnt → CntLe old b.cnt →
      CntLe old (if c then a else b).cnt := fun ha hb => by
    split
    · exact ha
    · exact hb
  unfold State.write32
  extract_lets
  refine hite ?_ (hite ?_ (hite ?_ (hite ?_ ?_)))
  all_goals (repeat' split) <;> simp [h]

@[simp] theorem State.regWrite_counts (off size : Nat) (v : DWord) : CntLe old (s.regWrite off size v).cnt := by
  simp [State.regWrite, h]

end

end Sys2Proof.Machine
end

section
/-! O55: no counter falls but by a reset (R395). -/

namespace Sys2Proof.Machine

/-! ### What taking a command comes to (R35, R360, R374) -/

@[simp] theorem checks_counts {s : State} {k : Verdict} (hk : CntLe s.cnt k.state.cnt) (ex content : Bool)
    (holder : Option (BitVec 16)) (allowed : Option Status) :
    CntLe s.cnt (checks s ex content holder allowed k).state.cnt := by
  unfold checks
  (repeat' split) <;> simp [hk]

@[simp] theorem report_counts {old : List Word} {s : State} (h : CntLe old s.cnt) (op : Byte) (k : Hdr) (rep : Ref)
    (items : List Item) : CntLe old (report op k rep items s).state.cnt := by
  unfold report
  dsimp only
  split <;> simp [h]

/-- A command counts on where its body does. -/
theorem State.command_counts {s : State} {dt : Nat} {op : Byte} {cmd : Instr} {h : Hdr} {body : State → Verdict}
    (hb : ∀ u : State, CntLe u.cnt (body u).state.cnt) : CntLe s.cnt (s.command dt op cmd h body).cnt := by
  have hfirst : CntLe s.cnt (s.advance dt).graceFirst.cnt := by simp
  have htake : ∀ v : State, CntLe v.cnt (v.take op cmd h body).cnt := fun v => by
    obtain ⟨t, ht, hwrong | ⟨-, st, res, u, hu, hdone⟩ | ⟨-, dma, aux, u, hu, hwait⟩⟩ := State.take_cases v op cmd h body
    · rw [hwrong.2]
      simp [ht]
    · have hbt := hb t
      rw [hu] at hbt
      rw [hdone]
      exact State.complete_counts (by simpa [ht] using hbt) ..
    · have hbt := hb t
      rw [hu] at hbt
      rw [hwait]
      cases dma <;> simpa [ht] using hbt
  unfold State.command
  dsimp only
  split
  · exact hfirst.trans (htake _)
  · exact hfirst

/-! The bodies of the commands, where more than their checks stands before what they do. -/

theorem cmdMaintAbort_counts (target : BitVec 16) (s : State) : CntLe s.cnt (cmdMaintAbort target s).state.cnt := by
  unfold cmdMaintAbort
  dsimp only
  (repeat' split) <;> simp

theorem cmdMaintStart_counts (h : Hdr) (result : DWord) (code loop : Nat) (s : State) :
    CntLe s.cnt (cmdMaintStart h result code loop s).state.cnt := by
  unfold cmdMaintStart
  dsimp only
  (repeat' split) <;> simp

theorem State.actItems_cnt (s : State) (as : List Activity) : (s.actItems as).2.cnt = s.cnt := by
  induction as generalizing s with
  | nil => rfl
  | cons a as ih => simp [State.actItems, ih]

theorem cmdMaintStatus_counts (h : Hdr) (rep : Ref) (s : State) : CntLe s.cnt (cmdMaintStatus h rep s).state.cnt := by
  have hitems := State.actItems_cnt s s.acts
  unfold cmdMaintStatus
  exact report_counts (by simp [hitems]) ..

theorem cmdTilePatch_counts (rate dma : Bool) (offset len : Nat) (tx ty : BitVec 16) (data : BitVec 128) (s : State) :
    CntLe s.cnt (cmdTilePatch rate dma offset len tx ty data s).state.cnt := by
  unfold cmdTilePatch
  exact checks_counts (by split <;> simp) ..

theorem cmdLsSet_counts (mask : BitVec 16) (mode : Nat) (duty : Q16) (s : State) :
    CntLe s.cnt (cmdLsSet mask mode duty s).state.cnt := by
  unfold cmdLsSet
  split
  · simp
  · refine checks_counts ?_ _ _ _ _
    dsimp only [Verdict.state]
    exact State.each_counts (by simp) (fun u n => by split <;> simp) _

theorem cmdSxRestart_counts (kind : Nat) (s : State) : CntLe s.cnt (cmdSxRestart kind s).state.cnt := by
  unfold cmdSxRestart
  refine checks_counts ?_ _ _ _ _
  rw [Verdict.state_done]
  split <;> simp

theorem cmdValveDelayReset_counts (h : Hdr) (mask : BitVec 96) (s : State) :
    CntLe s.cnt (cmdValveDelayReset h mask s).state.cnt :=
  checks_counts (State.each_counts (.refl _) (fun u ch => by simp) _) ..

theorem cmdTileInvalidate_counts (tx0 ty0 tx1 ty1 : BitVec 16) (mode : Nat) (s : State) :
    CntLe s.cnt (cmdTileInvalidate tx0 ty0 tx1 ty1 mode s).state.cnt := by
  unfold cmdTileInvalidate
  refine checks_counts ?_ ..
  extract_lets xs s1 s2 left
  have h2 : CntLe s.cnt s2.cnt := State.each_counts (by simp [s1]) (fun u x => by simp) _
  split <;> simp [h2]

theorem cmdLoopStatus_counts (h : Hdr) (rep : Ref) (mask : Word) (clearSat : Bool) (s : State) :
    CntLe s.cnt (cmdLoopStatus h rep mask clearSat s).state.cnt := by
  unfold cmdLoopStatus
  refine checks_counts (report_counts ?_ ..) ..
  split
  · exact State.each_counts (.refl _) (fun u n => by simp) _
  · exact .refl _

theorem State.clearFault_counts (s : State) : CntLe s.cnt s.clearFault.state.cnt := by
  unfold State.clearFault
  dsimp only
  split <;> simp

/-! ### Rows -/

/-- A row has a next state, whose counters have not fallen. -/
def Out.Counts (s : State) (o : Out) : Prop := ∃ t, o = .next t ∧ CntLe s.cnt t.cnt

theorem Out.Counts.command {s : State} {dt : Nat} {op : Byte} {cmd : Instr} {h : Hdr} {body : State → Verdict}
    (hb : ∀ u : State, CntLe u.cnt (body u).state.cnt) : Out.Counts s (.next (s.command dt op cmd h body)) :=
  ⟨_, rfl, State.command_counts hb⟩

/-- A sequencer's instruction counts on where its own effect does (R230). -/
theorem Out.Counts.seqRun {s : State} {dt ch : Nat} {par : Bool} {act : State → Nat → SeqInstr → Option State}
    (ha : ∀ (u : State) b i, CntLe u.cnt ((act u b i).getD u).cnt) :
    Out.Counts s (.next ((s.advance dt).seqRun ch par act)) := by
  have hrun : ∀ u : State, CntLe u.cnt (u.seqRun ch par act).cnt := fun u => by
    unfold State.seqRun
    dsimp only
    (repeat' split) <;> simp [ha]
  exact ⟨_, rfl, by simpa using hrun (s.advance dt)⟩

/-- The rows that assert a reset. -/
def assertsReset : Instr → Bool
  | .powerOnReset .. | .resetnLow .. | .watchdogTimeout .. | .saggarReset .. | .moduleResetAssert .. => true
  | _ => false

theorem execBootComplete_counts (dt : Nat) (b : BootObs) (s : State) : Out.Counts s (execBootComplete dt b s) := by
  unfold execBootComplete
  extract_lets s1 s2 s3 s4 s5 s6 s7 s8 s9
  have h3 : CntLe s.cnt s3.cnt := State.bootConfigure_counts (by simp [s2, s1])
  have h4 : CntLe s.cnt s4.cnt := by simp [s4, h3]
  have h5 : CntLe s.cnt s5.cnt := by simp [s5, h4]
  have h6 : CntLe s.cnt s6.cnt := by simp [s6, h5]
  have h7 : CntLe s.cnt s7.cnt := by simp [s7, h6]
  have h9 : CntLe s.cnt s9.cnt := by simp [s9, s8, h7]
  refine ⟨_, rfl, ?_⟩
  (repeat' split) <;> simp [h9, s1]

theorem execTxSessionOpen_counts (dt bus : Nat) (data : Option (List Byte)) (s : State) :
    Out.Counts s (execTxSessionOpen dt bus data s) := by
  unfold execTxSessionOpen
  refine ⟨_, rfl, ?_⟩
  dsimp only
  (repeat' split) <;> simp

theorem execDoorbellReadComplete_counts (dt : Nat) (d : Doorbell) (s : State) :
    Out.Counts s (execDoorbellReadComplete dt d s) := by
  have hfree : CntLe s.cnt ((s.advance dt).freeIndices d.idx).2.cnt := by simp
  refine ⟨_, rfl, ?_⟩
  (repeat' split) <;> simp_all


theorem execCanFrameReceived_counts (dt bus sof : Nat) (f : CanFrame) (s : State) :
    Out.Counts s (execCanFrameReceived dt bus sof f s) := by
  unfold execCanFrameReceived
  extract_lets s1 sof1 x s2
  have h2 : CntLe s.cnt s2.cnt := by simp [s2, s1]
  have hdet : ∀ d, CntLe s.cnt (s2.detGood bus d f).cnt := fun d => by simp [h2]
  have hroute : ∀ {u : State}, CntLe s.cnt u.cnt → CntLe s.cnt (((u.route bus f sof1).isoFrame bus f sof1).timeFrame bus f sof1).cnt :=
    fun hu => State.timeFrame_counts (by simp [hu]) ..
  refine ⟨_, rfl, ?_⟩
  (repeat' split) <;> simp [s1, h2, hdet, hroute]

theorem execCanTxSuccess_counts (dt bus sof : Nat) (s : State) : Out.Counts s (execCanTxSuccess dt bus sof s) := by
  unfold execCanTxSuccess
  extract_lets s1 sof1 alone
  refine ⟨_, rfl, ?_⟩
  split
  · simp [s1]
  next e he =>
    extract_lets s2 s3 s4 s5
    have h2 : CntLe s.cnt s2.cnt := by simp [s2, s1]
    have h4 : CntLe s.cnt s4.cnt := by simp [s4, s3, h2]
    have h5 : CntLe s.cnt s5.cnt := by
      simp only [s5]
      split <;> simp [h4]
    split
    · simp [s1]
    · exact State.refill_counts h5 _

theorem execAddressClaimComplete_counts (dt bus : Nat) (s : State) : Out.Counts s (execAddressClaimComplete dt bus s) := by
  unfold execAddressClaimComplete
  extract_lets s1
  refine ⟨_, rfl, ?_⟩
  (repeat' split)
  · exact State.refill_counts (State.claimDone_counts (by simp [s1]) ..) _
  all_goals simp [s1]

theorem execBrownout_counts (dt mv hold held : Nat) (s : State) : Out.Counts s (execBrownout dt mv hold held s) := by
  unfold execBrownout
  extract_lets s1 s2 s3 s4
  have h3 : CntLe s.cnt s3.cnt := by simp [s3, s2, s1]
  have h4 : CntLe s.cnt s4.cnt := by simp [s4, h3]
  refine ⟨_, rfl, ?_⟩
  split
  · exact State.shedLoads_counts h4
  · simp [s1]

theorem execBusRecovered_counts (dt bus : Nat) (s : State) : Out.Counts s (execBusRecovered dt bus s) := by
  unfold execBusRecovered
  extract_lets s1 x s2 s3
  refine ⟨_, rfl, ?_⟩
  split
  · exact State.each_counts (by simp [s3, s2, s1]) (fun u w => by simp) _
  · simp [s1]

theorem execCanTxCancel_counts (dt : Nat) (h : Hdr) (bus : Nat) (target : BitVec 16) (started : Bool) (s : State) :
    Out.Counts s (execCanTxCancel dt h bus target started s) := by
  refine .command fun u => ?_
  have hfill : CntLe u.cnt (u.refill bus).cnt := by simp
  dsimp only
  (repeat' split) <;> simp [hfill]

theorem execCanSlotRead_counts (dt : Nat) (h : Hdr) (rep : Ref) (bus : Nat) (mask : DWord) (s : State) :
    Out.Counts s (execCanSlotRead dt h rep bus mask s) := by
  refine .command fun u => ?_
  split
  · simp
  · exact report_counts (State.each_counts (.refl _) (fun v n => by simp) _) ..

/-- Every row but the resets and DESCRIPTOR_FETCH counts on: the commands by their bodies, the sequencer's rows by their
common frame, the others by the laws of what they are made of. -/
theorem exec_counts (c : Instr) (s : State) (hc : ∀ dt f, c ≠ .descriptorFetch dt f) (hr : assertsReset c = false) :
    Out.Counts s (exec c s) := by
  cases c with
  | descriptorFetch dt f => exact absurd rfl (hc dt f)
  | powerOnReset | resetnLow | watchdogTimeout | saggarReset | moduleResetAssert => cases hr
  | doorbellReadComplete => exact execDoorbellReadComplete_counts ..
  | bootComplete => exact execBootComplete_counts ..
  | txSessionOpen => exact execTxSessionOpen_counts ..
  | seqReservedOpcode => exact .seqRun fun u _ _ => .refl _
  | seqSrc | seqItgt | seqWaiti | seqWaitt | seqArm | seqDecay | seqMark | seqJmp | seqJc | seqLoop | seqHoldw | seqEnd =>
    exact .seqRun fun u b i => by split <;> simp
  | faultRecordWritten | laneConfirmTimeout | doorbellSweep | hostBufferRead | imuBurstComplete | ftStep | slewComplete
  | tp0Pulse | acquisitionConfirmTimeout | coilR | measLost | lsPauseEnd | inrushWindowEnd | piZeroTimeout
  | tpSessionTimeout | canArbitrationLost | canTxError | canRxError
  | bamPacket | busRecoveryTimeout | rateDetectTimeout | phaseLock | ma20ShuntReconnect
  | msixUnmask =>
    refine ⟨_, rfl, ?_⟩
    (repeat' split) <;> simp
  | bind | unbind | arm | disarm | run | hold | manualEnter | manualExit | clearFault | heartbeat | moduleReset | telSelect
  | cfgStage | cfgFire | cfgRollback | planSectionEnable | planManual | planHoldAck | planStatus | valveStatus | valveClear
  | valveDiagNow | seqStatus | seqRead | loopClose | loopOpen | loopSetpoint | loopOutput | loopCoef | loopClear | traceArm
  | traceStop | lsClear | lsDiagNow | piCountSet | sxSet | sxAidTime | sxAidPos | sxAidOrbit | diagRecords | diagErase
  | fieldOrigin | tileFlush | seqSetK | fdSet | fdClear | sxExclude | sxRaw =>
    exact .command fun u => by
      simp [State.stateDone, State.sxCmd, cmdBind, cmdUnbind, cmdArm, cmdDisarm, cmdRun, cmdHold, cmdManualEnter,
        cmdManualExit, cmdClearFault, cmdHeartbeat, cmdModuleReset, cmdTelSelect, cmdCfgStage, cmdCfgFire, cmdCfgRollback,
        cmdPlanSectionEnable, cmdPlanManual, cmdPlanHoldAck, cmdPlanStatus, cmdValveStatus, cmdValveClear, cmdValveDiagNow,
        cmdSeqStatus, cmdSeqRead, cmdLoop, cmdTraceArm, cmdTraceStop, cmdLsClear, cmdLsDiagNow, cmdPiCountSet, cmdSxSet,
        cmdSxAidTime, cmdSxAidPos, cmdDiagRecords, cmdDiagErase, cmdFieldOrigin, cmdTileFlush, cmdSeqSetK, cmdFdSet, cmdFdClear, cmdSxExclude, cmdSxRaw,
        State.clearFault_counts]
  | maintAbort => exact .command fun u => cmdMaintAbort_counts ..
  | maintStart => exact .command fun u => cmdMaintStart_counts ..
  | maintStatus => exact .command fun u => cmdMaintStatus_counts ..
  | tilePatch => exact .command fun u => cmdTilePatch_counts ..
  | lsSet => exact .command fun u => cmdLsSet_counts ..
  | sxRestart => exact .command fun u => cmdSxRestart_counts ..
  | nop | stateQuery | cfgStatus | rateTable | tileStatus | fusionStatus | fusionReset | traceStatus | lsStatus | fdStatus | aiStatus | piStatus
  | canStatus | canBusRecover | canMode | canRateDetect | canFilterSet | isoClaim | sxStatus | diagCounters
  | saggarStatus =>
    exact .command fun u => by simp
  | canTxCancel => exact execCanTxCancel_counts ..
  | canSlotRead => exact execCanSlotRead_counts ..
  | canFrameReceived => exact execCanFrameReceived_counts ..
  | canTxSuccess => exact execCanTxSuccess_counts ..
  | addressClaimComplete => exact execAddressClaimComplete_counts ..
  | brownout => exact execBrownout_counts ..
  | busRecovered => exact execBusRecovered_counts ..
  | valveDelayReset => exact .command fun u => cmdValveDelayReset_counts ..
  | tileInvalidate => exact .command fun u => cmdTileInvalidate_counts ..
  | loopStatus => exact .command fun u => cmdLoopStatus_counts ..
  | _ => exact ⟨_, rfl, by simp⟩

/-! ### The commands of a sweep (R356, R359) -/

theorem nextOr_counts {s : State} {o : Out} (ho : Out.Counts s o) : CntLe s.cnt (nextOr s o).cnt := by
  obtain ⟨t, rfl, ht⟩ := ho
  exact ht

theorem runCmd_counts (c : Instr) (s : State) : CntLe s.cnt (runCmd c s).cnt := by
  rcases runCmd_cases c s with hsame | hnext | ⟨dt, k, b, t, x, rfl⟩
  · rw [hsame]
    exact .refl _
  · by_cases hc : ∃ dt f, c = .descriptorFetch dt f
    · obtain ⟨dt, f, rfl⟩ := hc
      exact .refl s.cnt
    · cases hr : assertsReset c with
      | true =>
        have hsame : runCmd c s = s := by
          cases c with
          | powerOnReset | resetnLow | watchdogTimeout | saggarReset | moduleResetAssert => rfl
          | _ => cases hr
        rw [hsame]
        exact .refl _
      | false =>
        rw [hnext]
        exact nextOr_counts (exec_counts c s (fun dt f hf => hc ⟨dt, f, hf⟩) hr)
  · exact nextOr_counts (s := s.takeFree.2) (execCanTxCancel_counts dt k b t (Config.freeBool s.takeFree.1) s.takeFree.2)

theorem runCmds_counts (ds : List Desc) (s : State) : CntLe s.cnt (runCmds ds s).cnt := by
  induction ds generalizing s with
  | nil => exact .refl _
  | cons d ds ih =>
    rw [runCmds]
    split
    · exact runCmd_counts _ s
    · exact (runCmd_counts _ s).trans (ih _)

/-- What comes before and after the commands of a sweep counts on, as they do. -/
theorem State.fetched_counts {old : List Word} {s : State} (h : CntLe old s.cnt) (f : Fetch) : CntLe old (s.fetched f).cnt := by
  unfold State.fetched
  extract_lets good more reads s1 s2 s3 read early s4 s5 s6 s7 s8
  have hread : ∀ (t : State) (b : Nat), CntLe t.cnt (read t b).cnt := fun t b => by
    simp only [read]
    split <;> simp
  have h1 : CntLe old s1.cnt := by simp [s1, h]
  have h2 : CntLe old s2.cnt := State.each_counts h1 (fun t p => by split <;> simp) _
  have h3 : CntLe old s3.cnt := State.each_counts h2 (fun t n => by simp) _
  have h4 : CntLe old s4.cnt := State.each_counts h3 hread _
  have h5 : CntLe old s5.cnt := by
    simp only [s5]
    split
    · exact h4.trans (runCmds_counts ..)
    · exact h4
  have h6 : CntLe old s6.cnt := by simp [s6, h5]
  have h7 : CntLe old s7.cnt := State.each_counts h6 hread _
  have h8 : CntLe old s8.cnt := State.each_counts h7 (fun t b => by split <;> simp) _
  exact State.sweepEnds_counts h8

theorem execDescriptorFetch_counts (dt : Nat) (f : Fetch) (s : State) : Out.Counts s (execDescriptorFetch dt f s) := by
  have hf : CntLe s.cnt ((s.advance dt).graceFirst.fetched f).cnt := State.fetched_counts (by simp) f
  refine ⟨_, rfl, ?_⟩
  (repeat' split) <;> simp [hf]

/-! ### The rows that assert a reset (R42) -/

theorem State.resetNow_dev_st (s : State) (source hold : Nat) : (s.resetNow source hold).dev.st = .reset := rfl

/-- A row asserts a reset or counts on. -/
def Out.ResetOrCounts (s : State) (o : Out) : Prop := ∃ t, o = .next t ∧ (t.dev.st = .reset ∨ CntLe s.cnt t.cnt)

theorem Out.ResetOrCounts.ite {s u v : State} (hv : CntLe s.cnt v.cnt) (p : Prop) [Decidable p] (source hold : Nat) :
    Out.ResetOrCounts s (.next (if p then u.resetNow source hold else v)) := by
  split
  · exact ⟨_, rfl, .inl (State.resetNow_dev_st ..)⟩
  · exact ⟨_, rfl, .inr hv⟩

theorem exec_resetOrCounts (c : Instr) (s : State) (hr : assertsReset c = true) : Out.ResetOrCounts s (exec c s) := by
  cases c with
  | powerOnReset => exact .ite (by simp) ..
  | watchdogTimeout | saggarReset => exact .ite (by simp) ..
  | resetnLow =>
    refine ⟨_, rfl, ?_⟩
    split
    · exact .inl rfl
    · exact .inr (by simp)
  | moduleResetAssert =>
    refine ⟨_, rfl, ?_⟩
    (repeat' split)
    · exact .inl (State.resetNow_dev_st ..)
    all_goals exact .inr (by simp)
  | _ => cases hr

/-! ### The obligation -/

/-- Settles O55: a row asserts a reset, or counts on by the laws of the operations that it is made of. -/
theorem countersNeverFall : Obligations.CountersNeverFall := by
  intro c s t hx hst
  have hcounts : Out.ResetOrCounts s (exec c s) := by
    by_cases hc : ∃ dt f, c = .descriptorFetch dt f
    · obtain ⟨dt, f, rfl⟩ := hc
      exact (execDescriptorFetch_counts dt f s).imp fun _ => .imp_right .inr
    · cases hr : assertsReset c with
      | true => exact exec_resetOrCounts c s hr
      | false => exact (exec_counts c s (fun dt f hf => hc ⟨dt, f, hf⟩) hr).imp fun _ => .imp_right .inr
  obtain ⟨u, hu, hor⟩ := hcounts
  rw [hu] at hx
  cases hx
  exact (hor.resolve_left hst).le

end Sys2Proof.Machine
end

section
/-! O57: a command that is not allowed in the device state (R374, R378, R403). -/

namespace Sys2Proof.Machine

/-! ### A command that is taken and not admitted -/

theorem State.command_of_not_admitted {s : State} {dt : Nat} {op : Byte} {h : Hdr} (hl : s.graceLasts dt)
    (hc : s.canTake h.fence = true) (ha : s.admits op.toNat = false) (cmd : Instr) (body : State → Verdict) :
    s.command dt op cmd h body = (s.advance dt).taken.complete op h (s.ring 0).mod .wrongState 0 := by
  have hg := State.graceFirst_of_graceLasts hl
  rw [State.command_taken _ _ _ _ _ _ (by rw [hg, State.canTake_advance, hc]), hg]
  obtain ⟨t, rfl, ⟨-, htake⟩ | ⟨hyes, -⟩ | ⟨hyes, -⟩⟩ := State.take_cases (s.advance dt) op cmd h body
  · exact htake
  all_goals cases ha.symm.trans hyes

/-! ### What a descriptor spells is the command of its opcode (R374, R378) -/

/-- Row `c` is a command of opcode `op` with header `h`, taken by the common rules. -/
def TakenAs (c : Instr) (op : Byte) (h : Hdr) : Prop :=
  ∀ s : State, ∃ cmd body, exec c s = .next (s.command 0 op cmd h body)

theorem decodeLow_takenAs {d : Desc} {op : Nat} {h : Hdr} {c : Instr} (hc : decodeLow d op h = some c) :
    TakenAs c (BitVec.ofNat 8 op) h := by
  unfold decodeLow at hc
  dsimp only at hc
  split at hc
  all_goals cases hc
  all_goals exact fun s => ⟨_, _, rfl⟩

theorem decodeMid_takenAs {d : Desc} {op : Nat} {h : Hdr} {c : Instr} (hc : decodeMid d op h = some c) :
    TakenAs c (BitVec.ofNat 8 op) h := by
  unfold decodeMid at hc
  dsimp only at hc
  split at hc
  all_goals cases hc
  all_goals exact fun s => ⟨_, _, rfl⟩

theorem decodeHigh_takenAs {d : Desc} {op : Nat} {h : Hdr} {c : Instr} (hc : decodeHigh d op h = some c) :
    TakenAs c (BitVec.ofNat 8 op) h := by
  unfold decodeHigh at hc
  dsimp only at hc
  split at hc
  all_goals cases hc
  all_goals exact fun s => ⟨_, _, rfl⟩

/-! The opcode alone says whether a descriptor spells a command. -/

theorem decodeLow_isSome (d : Desc) (op : Nat) (h : Hdr) : (decodeLow d op h).isSome = (decodeLow 0 op {}).isSome := by
  unfold decodeLow
  dsimp only
  split <;> rfl

theorem decodeMid_isSome (d : Desc) (op : Nat) (h : Hdr) : (decodeMid d op h).isSome = (decodeMid 0 op {}).isSome := by
  unfold decodeMid
  dsimp only
  split <;> rfl

theorem decodeHigh_isSome (d : Desc) (op : Nat) (h : Hdr) : (decodeHigh d op h).isSome = (decodeHigh 0 op {}).isSome := by
  unfold decodeHigh
  dsimp only
  split <;> rfl

/-- Every assigned opcode has its command. -/
theorem decode_isSome_of_assigned : ∀ op < 256, assigned op = true →
    (if op < 0x40 then decodeLow 0 op {} else if op < 0x60 then decodeMid 0 op {} else decodeHigh 0 op {}).isSome = true := by
  decide +kernel

theorem cmdField_byte_lt (d : Desc) : cmdField d 0 8 < 256 := Nat.mod_lt _ (by decide)

theorem decodeCmd_takenAs {d : Desc} (ha : assigned (cmdField d 0 8) = true) :
    TakenAs (decodeCmd d) (cmdBits d 0 8) (cmdHdr d) := by
  have hsome := decode_isSome_of_assigned _ (cmdField_byte_lt d) ha
  unfold decodeCmd
  extract_lets op h i
  cases hi : i with
  | none =>
    have hnone : i.isSome = true := by
      simp only [i, apply_ite Option.isSome, decodeLow_isSome d, decodeMid_isSome d, decodeHigh_isSome d] at hsome ⊢
      exact hsome
    rw [hi] at hnone
    cases hnone
  | some c =>
    simp only [i] at hi
    split at hi
    · exact decodeLow_takenAs hi
    · split at hi
      · exact decodeMid_takenAs hi
      · exact decodeHigh_takenAs hi

/-- Settles O57: what is not admitted is completed before the command's body is looked at; MAINT_START's body looks at the
device state first. -/
theorem wrongStateAnswered : Obligations.WrongStateAnswered := by
  refine ⟨fun s d hl hc hassigned hadmits => ?_, fun s dt loop h param result act ht h1 h6 hno => ?_⟩
  · obtain ⟨cmd, body, hx⟩ := decodeCmd_takenAs hassigned s
    have hop : (cmdBits d 0 8).toNat = cmdField d 0 8 := by
      simp [cmdBits, Nat.mod_eq_of_lt (cmdField_byte_lt d)]
    exact ⟨_, by rw [hx, State.command_of_not_admitted hl hc (by rw [hop, hadmits])], rfl⟩
  · have hrange : ¬ (act.toNat < 1 ∨ 6 < act.toNat) := by omega
    have hst : (s.advance dt).taken.dev.st.admitsAct act.toNat = false := hno
    have hbody : cmdMaintStart h result act.toNat loop (s.advance dt).taken = .done .wrongState 0 (s.advance dt).taken := by
      rw [cmdMaintStart, if_neg hrange, hst]
      rfl
    exact answers_of_done rfl ht hbody rfl

end Sys2Proof.Machine
end

section
/-! O1, O2 and O50: a step, the state after power-on, and the default address of BUS0. -/

namespace Sys2Proof.Machine

/-- Settles O1: both clauses are the step's own two cases. -/
theorem stepRunsFront : Obligations.StepRunsFront :=
  ⟨fun _ _ _ => rfl, fun s hs => by rw [step, hs]⟩

/-- Settles O2, reading every register of the power-on state. -/
theorem powerOnState : Obligations.PowerOnState := by
  refine ⟨by decide +kernel, by decide, by decide, fun _ => rfl, by decide, fun i => ?_⟩
  have hcnt : State.reset.cnt = List.replicate 69 0 := rfl
  simp only [hcnt, List.getD_eq_getElem?_getD, List.getElem?_replicate]
  split <;> rfl

/-- Settles O50: without a record in the image the field's default is the strap's (R396). -/
theorem preferredAddress : Obligations.PreferredAddress := by
  intro s hnone
  have haddr : s.cfgN .prefAddr 0 = 0x80 + s.dev.straps.getD 6 7 := by
    have hdef : s.cfgI .prefAddr 0 = 0x80 + ((s.dev.straps.getD 6 7 : Nat) : Int) := by
      rw [State.cfgI, CfgVals.val, hnone, Option.getD_none]
      rfl
    rw [State.cfgN, hdef]
    omega
  exact ⟨haddr, fun hle => by omega⟩

end Sys2Proof.Machine
end

section
/-! O58: a completion is written at once only while CPL has room for it (R347, R360). -/

namespace Sys2Proof.Machine

/-- A bound module whose CPL ring of 16 descriptors is full: the host has taken none of the 16 written. -/
def cplFull : State :=
  { dev := { st := .standby, bound := true, bar0Ready := true }
    host := { link := true, bme := true, mse := true,
              rings := [{ en := true }, { en := true, mod := 16 }] ++ List.replicate 14 {} } }

/-- Refutes O58: the statement has every completion written while CPL is served, and leaves out a full ring.  In `cplFull`
the completion of a NOP is held until the host has taken a descriptor (R360), and the module's index stays. -/
theorem not_completionRecord : ¬ Obligations.CompletionRecord := by
  intro hrecord
  obtain ⟨hmod, -, -⟩ := hrecord cplFull 0 {} 0 .ok 0 (by decide +kernel) (by decide +kernel)
  revert hmod
  decide +kernel

end Sys2Proof.Machine
end

section
/-! O16 and O20: the system commands, and the fault records (R50, R365, R374, R381, R388). -/

namespace Sys2Proof.Machine

/-! ### The system commands -/

/-- A telemetry selection within its ranges is taken as it stands. -/
theorem clamp1_of_mem {hi v : Nat} (h1 : 1 ≤ v) (hhi : v ≤ hi) : clamp1 hi v = v := by
  unfold clamp1
  omega

theorem map_getD_seven {ds : List Nat} (h : ds.length = 7) : (List.range 7).map (fun i => ds.getD i 0) = ds := by
  refine List.ext_getElem (by simp [h]) fun i hi hi' => ?_
  simp [List.getElem?_eq_getElem hi']

/-- TEL_SELECT puts the clamped values in force, and says whether a value was clamped (R365, R377). -/
theorem cmdTelSelect_clamps {decs : List Nat} (hlen : decs.length = 7) (on : BitVec 7) (age : Nat) (s : State) :
    cmdTelSelect on decs age s = .done (okOr (decs.map (clamp1 1000) != decs || clamp1 100 age != age)) 0
      (s.updHost (fun x => { x with telSel := { on := on, decs := decs.map (clamp1 1000), age := clamp1 100 age } })) := by
  simp only [cmdTelSelect, map_getD_seven hlen]

theorem execTelSelect_inRange {s : State} {dt : Nat} {h : Hdr} {on : BitVec 7} {decs : List Nat} {age : Nat}
    (ht : Takes s dt 0x0D h) (hlen : decs.length = 7) (hdecs : ∀ d ∈ decs, 1 ≤ d ∧ d ≤ 1000) (h1 : 1 ≤ age)
    (h100 : age ≤ 100) : Answers (.telSelect dt h on decs age) 0x0D h s .ok 0 (fun v =>
      v = (s.advance dt).taken.updHost (fun x => { x with telSel := { on := on, decs := decs, age := age } })) := by
  have hmap : decs.map (clamp1 1000) = decs := by
    simpa using List.map_congr_left (g := id) fun d hd => clamp1_of_mem (hdecs d hd).1 (hdecs d hd).2
  have hbody := cmdTelSelect_clamps hlen on age (s.advance dt).taken
  rw [hmap, clamp1_of_mem h1 h100] at hbody
  simp only [bne_self_eq_false, Bool.or_self] at hbody
  exact answers_of_done rfl ht hbody rfl

theorem execTelSelect_clamped {s : State} {dt : Nat} {h : Hdr} {on : BitVec 7} {decs : List Nat} {age : Nat}
    (ht : Takes s dt 0x0D h) (hlen : decs.length = 7) (hout : (∃ d ∈ decs, d < 1 ∨ 1000 < d) ∨ age < 1 ∨ 100 < age) :
    Answers (.telSelect dt h on decs age) 0x0D h s .clamped 0 (fun v =>
      v = (s.advance dt).taken.updHost (fun x => { x with
        telSel := { on := on, decs := decs.map (fun d => max 1 (min 1000 d)), age := max 1 (min 100 age) } })) := by
  have hclamped : (decs.map (clamp1 1000) != decs || clamp1 100 age != age) = true := by
    rw [Bool.or_eq_true, bne_iff_ne, bne_iff_ne]
    rcases hout with ⟨d, hd, hrange⟩ | hrange
    · refine .inl fun hmap => ?_
      have hfix := List.map_eq_map_iff.1 (hmap.trans (List.map_id' decs).symm) d hd
      simp only [clamp1] at hfix
      omega
    · right
      unfold clamp1
      omega
  have hbody := cmdTelSelect_clamps hlen on age (s.advance dt).taken
  rw [hclamped] at hbody
  exact answers_of_done rfl ht hbody rfl

/-- An opcode that is not assigned is answered before the device state is looked at (R374). -/
theorem execUnknownOpcode_answers {s : State} {dt : Nat} {h : Hdr} {op : Byte} (hl : s.graceLasts dt)
    (hc : s.canTake h.fence = true) (hop : assigned op.toNat = false) :
    Answers (.unknownOpcode dt h op) op h s .noResource (resultOf [(128, 1, 1)]) (fun v => v = (s.advance dt).taken) := by
  refine ⟨_, ?_, rfl⟩
  have htaken : (!assigned op.toNat && (s.advance dt).graceFirst.canTake h.fence) = true := by
    rw [State.graceFirst_of_graceLasts hl, State.canTake_advance, hc, hop]
    rfl
  have hx : exec (.unknownOpcode dt h op) s =
      .next (if !assigned op.toNat && (s.advance dt).graceFirst.canTake h.fence then
        (s.advance dt).graceFirst.takeUnknown op h else (s.advance dt).graceFirst) := rfl
  rw [hx, if_pos htaken, State.graceFirst_of_graceLasts hl]
  rfl

/-- Settles O16: the body of each command answers at once. -/
theorem systemCommands : Obligations.SystemCommands :=
  ⟨fun _ _ _ ht => answers_of_done rfl ht rfl rfl, fun _ _ _ ht => answers_of_done rfl ht rfl rfl,
    fun _ _ _ ht => answers_of_done rfl ht rfl rfl, fun _ _ _ ht => answers_of_done rfl ht rfl rfl,
    fun _ _ _ _ _ _ ht hlen hdecs h1 h100 => execTelSelect_inRange ht hlen hdecs h1 h100,
    fun _ _ _ _ _ _ ht hlen hout => execTelSelect_clamped ht hlen hout,
    fun _ _ _ _ hl hc hop => execUnknownOpcode_answers hl hc hop⟩

/-! ### The fault records -/

theorem HostIf.foldl_form_out (ws : List HostWrite) (h : HostIf) : (ws.foldl HostIf.form h).out = h.out ++ ws := by
  have hform : ∀ (g : HostIf) (w : HostWrite), (g.form w).out = g.out ++ [w] := fun g w => by
    unfold HostIf.form
    dsimp only
    (repeat' split) <;> rfl
  induction ws generalizing h with
  | nil => simp
  | cons w ws ih => rw [List.foldl_cons, ih, hform, List.append_assoc, List.singleton_append]

/-- Writes that the module may issue are formed in their order (R341, R363). -/
theorem State.emits_out {s : State} (hd : s.dmaOk = true) (ws : List HostWrite) :
    (s.emits ws).host.out = s.host.out ++ ws := by
  simp [State.emits, HostIf.foldl_form_out, hd]

theorem State.emit_out {s : State} (hd : s.dmaOk = true) (w : HostWrite) : (s.emit w).host.out = s.host.out ++ [w] :=
  State.emits_out hd [w]

theorem HostOnly.refl (s : State) : HostOnly s s := rfl

theorem HostOnly.emit (s : State) (w : HostWrite) : HostOnly s (s.emit w) := rfl

/-- A command is taken only while the module may issue writes (R341, R348). -/
theorem State.dmaOk_of_canTake {s : State} {fence : Bool} (h : s.canTake fence = true) : s.dmaOk = true := by
  simp only [State.canTake, State.served, Bool.and_eq_true] at h
  simp only [h]

theorem execDiagRecords_writes {s : State} {dt : Nat} {h : Hdr} {buf : Ref} {first : Word} (ht : Takes s dt 0xB0 h) :
    let rs := (s.recordsFrom first).take (buf.len.toNat / 64)
    Answers (.diagRecords dt h buf first) 0xB0 h s .ok
      (resultOf [(128, 32, rs.length), (160, 32, (s.flash.nextRec - 1).toNat)]) (fun v =>
        HostOnly (s.advance dt) v
        ∧ v.host.out = s.host.out ++ (if rs = [] then [] else [.bytes buf.addr (rs.map FaultRec.bytes).flatten])) := by
  intro rs
  have ⟨_, hc, _⟩ := ht
  have hd : (s.advance dt).taken.dmaOk = true := (State.dmaOk_of_canTake hc : s.dmaOk = true)
  refine answers_of_done rfl ht rfl ?_
  split
  next hnil =>
    have hrs : rs = [] := List.isEmpty_iff.1 hnil
    exact ⟨HostOnly.taken _, by rw [if_pos hrs, List.append_nil]; rfl⟩
  next hsome =>
    have hrs : rs ≠ [] := fun hnil => hsome (List.isEmpty_iff.2 hnil)
    exact ⟨(HostOnly.taken _).trans (.emit ..), by rw [if_neg hrs, State.emit_out hd]; rfl⟩

theorem execDiagErase_claims {s : State} {dt : Nat} {h : Hdr} {last : Word} (ht : Takes s dt 0xB3 h)
    (hfree : s.holderOf [.store] = none) : Waits (.diagErase dt h last) 0xB3 h s false (fun t =>
      t.acts = s.acts ++ [{ code := 10, tag := h.tag, start := (s.advance dt).now }] ∧ t.flash = s.flash ∧ t.dev = s.dev) := by
  have hfree' : (s.advance dt).taken.holderOf [.store] = none := hfree
  refine waits_of_wait rfl ht (by simp only [cmdDiagErase, checks, hfree']; rfl) fun t hto => ?_
  rw [hto]
  exact ⟨rfl, rfl, rfl⟩

theorem State.eraseDone_good {s : State} {d : Nat} {h : Hdr} {last : Word} {w : Waiting}
    (hact : s.acts.any (fun a => a.code = 10) = true) (hw : s.waitingFor 0xB3 = some w) (hcmd : w.cmd = .diagErase d h last) :
    (s.eraseDone true).flash = { s.flash with records := s.flash.records.filter (fun r => !(s.erasable last).contains r) }
      ∧ (s.eraseDone true).acts = s.acts.filter (fun a => a.code ≠ 10)
      ∧ (s.eraseDone true).host.outstanding = s.host.outstanding.filter (fun x => !w.same x) := by
  have hw' : ({ s.takeFree.2 with acts := s.acts.filter (fun a => a.code ≠ 10) } : State).waitingFor 0xB3 = some w := hw
  unfold State.eraseDone
  rw [if_neg (by simp [hact])]
  simp only [State.takeFree] at hw' ⊢
  simp only [hw', hcmd, if_true, State.finish_outstanding]
  simp [State.erasable]

/-- Settles O20: DIAG_RECORDS answers at once, and DIAG_ERASE waits for its completion's row. -/
theorem diagCommands : Obligations.DiagCommands :=
  ⟨fun _ _ _ _ _ ht => execDiagRecords_writes ht, fun _ _ _ _ ht hfree => execDiagErase_claims ht hfree,
    fun s dt _ _ _ _ hact hw hcmd => ⟨_, rfl, State.eraseDone_good (s := s.advance dt) hact hw hcmd⟩⟩

end Sys2Proof.Machine
end

section
/-! O19: the status commands (R322, R379 to R381). -/

namespace Sys2Proof.Machine

/-! ### The report (R380) -/

theorem itemWords_length (i : Item) : (itemWords i).length = i.2.length + 1 := rfl

/-- The items kept fit in the room that the report leaves them. -/
theorem fitItems_words_le (items : List Item) (room : Nat) :
    ((fitItems room items).map itemWords).flatten.length ≤ room := by
  induction items generalizing room with
  | nil => simp [fitItems]
  | cons i r ih =>
    unfold fitItems
    split
    next hfits =>
      have hrest := ih (room - (i.2.length + 1))
      simp only [List.map_cons, List.flatten_cons, List.length_append, itemWords_length]
      omega
    next => simp

/-- Where the module may write, a report is answered OK, written within its length, and touches the host interface
only. -/
theorem report_reported {u : State} (hd : u.dmaOk = true) (op : Byte) (h : Hdr) (rep : Ref) (items : List Item) :
    ∃ res v, report op h rep items u = .done .ok res v ∧ v = { u with host := v.host } ∧ Reported op h rep u v res := by
  unfold report
  extract_lets len kept body bytes hdr addr
  have hbody : body.length ≤ len - 8 := fitItems_words_le items _
  have hwords : (hdr ++ body).length = 8 + body.length := by simp [hdr, dwords]; omega
  have hbytes : bytes = 4 * (hdr ++ body).length := by rw [hwords]; simp only [bytes]; omega
  by_cases hshort : len < 8
  · have hrep : ¬ 32 ≤ rep.len.toNat := by simp only [len] at hshort; omega
    rw [if_pos hshort]
    exact ⟨_, u, rfl, rfl, 0, items.length, hdr ++ body, by rw [if_neg hrep], fun hlong => absurd hlong hrep,
      fun _ => ⟨rfl, rfl⟩⟩
  · have hrep : 32 ≤ rep.len.toNat := by simp only [len] at hshort; omega
    rw [if_neg hshort]
    refine ⟨_, _, rfl, rfl, kept.length, items.length, hdr ++ body, by rw [if_pos hrep, hbytes],
      fun _ => ⟨State.emit_out hd _, ?_, ?_⟩, fun hless => absurd hrep (by omega)⟩
    · rw [hwords]
      simp only [len] at hbody
      omega
    · have hhdr : hdr.length = 8 := rfl
      rw [List.take_append_of_le_length (by rw [hhdr]), List.take_of_length_le (by rw [hhdr]), ← hbytes]
      rfl

/-- What a report of a machine `u` that `s` has become by taking the command says, it says of `s`. -/
theorem Reported.of_out {op : Byte} {h : Hdr} {rep : Ref} {s u v : State} {res : BitVec 128}
    (hr : Reported op h rep u v res) (ho : u.host.out = s.host.out) : Reported op h rep s v res := by
  unfold Reported at hr ⊢
  rwa [ho] at hr

theorem State.taken_dmaOk {s : State} {dt : Nat} {op : Byte} {h : Hdr} (ht : Takes s dt op h) :
    (s.advance dt).taken.dmaOk = true := by
  have ⟨_, hc, _⟩ := ht
  exact (State.dmaOk_of_canTake hc : s.dmaOk = true)

/-- A command whose body is its report is a status command. -/
theorem tells_of_report {s : State} {dt : Nat} {h : Hdr} {rep : Ref} {c : Instr} {op : Byte} {body : State → Verdict}
    {items : List Item} (hx : exec c s = .next (s.command dt op c h body))
    (hb : body (s.advance dt).taken = report op h rep items (s.advance dt).taken) : Tells s dt h rep c op := by
  intro ht
  obtain ⟨res, v, hv, hhost, hrep⟩ := report_reported (State.taken_dmaOk ht) op h rep items
  refine ⟨res, answers_of_done hx ht (hb.trans hv) ⟨(HostOnly.taken _).trans ?_, hrep.of_out rfl⟩⟩
  rw [HostOnly, hhost]

/-- The same where what the command names exists. -/
theorem tells_of_checked {s : State} {dt : Nat} {h : Hdr} {rep : Ref} {c : Instr} {op : Byte} {body : State → Verdict}
    {e : Bool} {items : List Item} (hx : exec c s = .next (s.command dt op c h body)) (he : e = true)
    (hb : body (s.advance dt).taken
      = checks (s.advance dt).taken e true none none (report op h rep items (s.advance dt).taken)) :
    Tells s dt h rep c op :=
  tells_of_report hx (hb.trans (checks_pass he rfl ..))

/-! ### The commands that do more than tell -/

/-- What each entry keeps, a change of one entry keeps. -/
theorem getD_modify_keeps {α β : Type} {p : α → β} {f : α → α} (hf : ∀ x, p (f x) = p x) (l : List α) (i j : Nat) (d : α) :
    p ((l.modify i f).getD j d) = p (l.getD j d) := by
  simp only [List.getD_eq_getElem?_getD, List.getElem?_modify]
  cases l[j]? with
  | none => rfl
  | some x => by_cases hij : i = j <;> simp [hij, hf]

/-- What a mail slot shows. -/
def Mail.shown (m : Mail) : Option CanFrame × Nat × BitVec 16 := (m.frame, m.sof, m.count)

/-- Holding a slot changes nothing that it shows (R322). -/
theorem Mail.settle_hold_shown (m : Mail) (now later : Nat) :
    (({ m.settle now with heldTo := max (m.settle now).heldTo later } : Mail).settle now).shown = (m.settle now).shown := by
  obtain ⟨frame, sof, count, shadow, heldTo⟩ := m
  cases shadow with
  | none => rfl
  | some q =>
    by_cases hheld : heldTo ≤ now
    · simp [Mail.settle, hheld, Mail.shown]
    · have hlater : ¬ max heldTo later ≤ now := by omega
      simp [Mail.settle, hheld, Mail.shown]

theorem State.holdSlot_mail (s : State) (bus k b n : Nat) :
    ((s.holdSlot bus k).mail b n).shown = (s.mail b n).shown :=
  getD_modify_keeps (p := fun x : Bus => ((x.slots.getD n {}).settle s.now).shown)
    (fun x => getD_modify_keeps (p := fun m : Mail => (m.settle s.now).shown) (fun m => m.settle_hold_shown s.now _) x.slots k n {})
    s.can.bus bus b {}

/-- What differs in the buses, the host interface, the counters and the free values at most. -/
def CanRead (s t : State) : Prop := t = { s with can := t.can, host := t.host, free := t.free, cnt := t.cnt }

theorem CanRead.trans {s t u : State} (hst : CanRead s t) (htu : CanRead t u) : CanRead s u := by
  rw [CanRead] at hst htu ⊢
  rw [htu, hst]

/-- A read of mail slots holds them, and changes nothing that a slot shows. -/
theorem State.holdSlots_keeps (s : State) (bus : Nat) (ks : List Nat) :
    CanRead s (s.each ks (fun s k => s.holdSlot bus k)) ∧ (s.each ks (fun s k => s.holdSlot bus k)).host = s.host
      ∧ ∀ b n, ((s.each ks (fun s k => s.holdSlot bus k)).mail b n).shown = (s.mail b n).shown :=
  ⟨by
    induction ks generalizing s with
    | nil => rfl
    | cons k ks ih => exact CanRead.trans (t := s.holdSlot bus k) rfl (ih _),
    State.each_induct State.host (f := fun s k => s.holdSlot bus k) (fun _ _ => rfl) ..,
    fun b n => State.each_induct (fun u : State => (u.mail b n).shown) (fun u k => u.holdSlot_mail bus k b n) ..⟩

theorem execCanSlotRead_tells {s : State} {dt bus : Nat} {h : Hdr} {rep : Ref} {mask : DWord} (hbus : bus < 4)
    (ht : Takes s dt 0x85 h) : ∃ res, Answers (.canSlotRead dt h rep bus mask) 0x85 h s .ok res (fun v =>
      (∀ b n, (v.mail b n).frame = ((s.advance dt).mail b n).frame ∧ (v.mail b n).sof = ((s.advance dt).mail b n).sof
        ∧ (v.mail b n).count = ((s.advance dt).mail b n).count)
      ∧ v = { s.advance dt with can := v.can, host := v.host, free := v.free, cnt := v.cnt }
      ∧ Reported 0x85 h rep s v res) := by
  obtain ⟨hread, hhost, hshown⟩ := State.holdSlots_keeps (s.advance dt).taken bus (bitsOf mask)
  have hd : ((s.advance dt).taken.each (bitsOf mask) (fun s n => s.holdSlot bus n)).dmaOk = true := by
    rw [State.dmaOk, hhost]
    exact State.taken_dmaOk ht
  obtain ⟨res, v, hv, hkept, hrep⟩ := report_reported hd 0x85 h rep ((bitsOf mask).map (fun n =>
      let m := (s.advance dt).taken.mail bus n
      let f := m.frame.getD {}
      ((1, [wn (n + m.count.toNat * 65536)] ++ dwords m.sof ++ [wn (pack (b2nF f) >>> 32), wn f.data.length]
        ++ (List.range 16).map (fun k => wn (leAt f.data (4 * k) 4))) : Item)))
  refine ⟨res, answers_of_done rfl ht ((if_neg (by omega)).trans hv) ⟨fun b n => ?_, ?_, hrep.of_out (by rw [hhost]; rfl)⟩⟩
  · have hmail : (v.mail b n).shown = ((s.advance dt).mail b n).shown := by
      rw [hkept]
      exact hshown b n
    simpa [Mail.shown] using hmail
  · exact CanRead.trans (t := (s.advance dt).taken) rfl (hread.trans (by rw [CanRead, hkept]))

theorem State.actItems_free (s : State) (as : List Activity) : (s.actItems as).2 = { s with free := (s.actItems as).2.free } := by
  induction as generalizing s with
  | nil => rfl
  | cons a as ih => exact ih s.takeFree.2

theorem execMaintStatus_tells {s : State} {dt : Nat} {h : Hdr} {rep : Ref} (ht : Takes s dt 0x16 h) :
    ∃ res, Answers (.maintStatus dt h rep) 0x16 h s .ok res (fun v =>
      v = { s.advance dt with host := v.host, free := v.free } ∧ Reported 0x16 h rep s v res) := by
  have hitems := State.actItems_free (s.advance dt).taken (s.advance dt).taken.acts
  generalize hu : ((s.advance dt).taken.actItems (s.advance dt).taken.acts).2 = u at hitems
  have hd : u.dmaOk = true := by
    rw [hitems]
    exact State.taken_dmaOk ht
  obtain ⟨res, v, hv, hkept, hrep⟩ :=
    report_reported hd 0x16 h rep ((s.advance dt).taken.actItems (s.advance dt).taken.acts).1
  refine ⟨res, answers_of_done rfl ht ?_ ⟨?_, hrep.of_out ?_⟩⟩
  · rw [cmdMaintStatus, ← hv, ← hu]
  · rw [hkept, hitems]
    rfl
  · rw [hitems]
    rfl

/-- Changing the loops named, once or more, changes those and only those. -/
theorem State.each_updLoop_loop {f : Loop → Loop} (hf : ∀ l, f (f l) = f l) (s : State) (ns : List Nat) (n : Nat)
    (hn : n < s.loops.loop.length) :
    (s.each ns (fun s k => s.updLoop k f)).loop n = if n ∈ ns then f (s.loop n) else s.loop n := by
  induction ns generalizing s with
  | nil => rfl
  | cons k ks ih =>
    have hstep : (s.updLoop k f).loop n = if n = k then f (s.loop n) else s.loop n := by
      by_cases hnk : k = n
      · subst hnk
        exact (getD_modify s.loops.loop k k f {} hn)
      · simp [State.updLoop, State.loop, hnk, Ne.symm hnk]
    refine (ih (s.updLoop k f) (by simpa [State.updLoop] using hn)).trans ?_
    rw [hstep]
    by_cases hnk : n = k <;> by_cases hks : n ∈ ks <;> simp [hnk, hks, hf]

theorem State.each_updLoop_loops (f : Loop → Loop) (s : State) (ns : List Nat) :
    s.each ns (fun s k => s.updLoop k f) = { s with loops := { s.loops with
      loop := (s.each ns (fun s k => s.updLoop k f)).loops.loop } } := by
  induction ns generalizing s with
  | nil => rfl
  | cons k ks ih => exact ih (s.updLoop k f)

theorem execLoopStatus_clears {s : State} {dt : Nat} {h : Hdr} {rep : Ref} {mask : Word}
    (hon : ∀ n ∈ bitsOf mask, s.loopOn n = true) (ht : Takes s dt 0x50 h) :
    ∃ res, Answers (.loopStatus dt h rep mask true) 0x50 h s .ok res (fun v =>
      (∀ n < s.loops.loop.length, v.loop n = if mask.getLsbD n then { s.loop n with sticky := 0 } else s.loop n)
      ∧ v = { s.advance dt with loops := { s.loops with loop := v.loops.loop }, host := v.host, cnt := v.cnt }
      ∧ Reported 0x50 h rep s v res) := by
  have hcleared := State.each_updLoop_loops (fun l => { l with sticky := 0 }) (s.advance dt).taken (bitsOf mask)
  have hloop := State.each_updLoop_loop (f := fun l => { l with sticky := 0 }) (fun _ => rfl) (s.advance dt).taken (bitsOf mask)
  generalize hu : (s.advance dt).taken.each (bitsOf mask) (fun s k => s.updLoop k (fun l => { l with sticky := 0 })) = u
    at hcleared hloop
  have hd : u.dmaOk = true := by
    rw [hcleared]
    exact State.taken_dmaOk ht
  obtain ⟨res, v, hv, hkept, hrep⟩ := report_reported hd 0x50 h rep ((bitsOf mask).map (s.advance dt).taken.loopItem)
  have hbody : cmdLoopStatus h rep mask true (s.advance dt).taken = .done .ok res v := by
    have hall : (bitsOf mask).all (s.advance dt).taken.loopOn = true := List.all_eq_true.2 hon
    rw [cmdLoopStatus, if_pos rfl, hu, checks_pass hall rfl, hv]
  refine ⟨res, answers_of_done rfl ht hbody ⟨fun n hn => ?_, ?_, hrep.of_out ?_⟩⟩
  · have hmem : n ∈ bitsOf mask ↔ mask.getLsbD n = true := by
      rw [mem_bitsOf]
      exact ⟨And.right, fun hbit => ⟨BitVec.lt_of_getLsbD hbit, hbit⟩⟩
    have hvn : v.loop n = u.loop n := by rw [hkept]; rfl
    rw [hvn, hloop n hn]
    simp only [hmem]
    rfl
  · rw [hkept, hcleared]
    rfl
  · rw [hcleared]
    rfl

/-! ### The obligation -/

theorem cmdRef_fields (d : Desc) : cmdRef d = { addr := d.extractLsb' 32 64, len := d.extractLsb' 96 32 } := by
  have hbits : ∀ lo w, cmdBits d lo w = d.extractLsb' lo w := fun lo w => by
    apply BitVec.eq_of_toNat_eq
    simp [cmdBits, cmdField, BitVec.extractLsb', Nat.shiftRight_eq_div_pow]
  simp only [cmdRef, hbits]

/-- Settles O19: every body is its report, CAN_SLOT_READ's on the slots held, MAINT_STATUS's on free values, and
CLEAR_SAT's on the loops cleared. -/
theorem statusCommands : Obligations.StatusCommands := by
  refine ⟨cmdRef_fields, fun s dt h rep => ⟨tells_of_report rfl rfl, fun _ _ _ => tells_of_report rfl rfl,
    fun mask hf => ⟨tells_of_checked rfl hf rfl, tells_of_checked rfl hf rfl⟩, tells_of_report rfl rfl,
    fun mask quads hf hq => ?_, fun mask hon => ?_, tells_of_report rfl rfl, fun mask hon => ?_, fun mask hon => ?_,
    fun mask => ⟨fun hn => ?_, fun hn => ?_⟩, fun _ => tells_of_report rfl rfl, tells_of_report rfl rfl,
    tells_of_report rfl rfl, tells_of_report rfl rfl, fun _ _ hbus ht => execCanSlotRead_tells hbus ht,
    execMaintStatus_tells, fun _ hon ht => execLoopStatus_clears hon ht⟩⟩
  · have hq' : (bitsOf quads).all (· < s.nQuad) = true := by simpa using hq
    exact tells_of_checked rfl (by rw [hf, hq']; rfl : (s.fitted (bitsOf mask) && (bitsOf quads).all (· < s.nQuad)) = true) rfl
  · exact tells_of_checked rfl (List.all_eq_true.2 hon : (bitsOf mask).all s.loopOn = true) rfl
  · exact tells_of_checked rfl (List.all_eq_true.2 hon : (bitsOf mask).all (fun n => s.cfgB .lsEnable n) = true) rfl
  · exact tells_of_checked rfl (List.all_eq_true.2 hon : (bitsOf mask).all s.fdEnabled = true) rfl
  · exact tells_of_checked rfl (by simpa using hn : (bitsOf mask).all (· < 16) = true) rfl
  · exact tells_of_checked rfl (by simpa using hn : (bitsOf mask).all (· < 18) = true) rfl

end Sys2Proof.Machine
end

section
/-! O21: staging, firing and rollback (R401 to R409). -/

namespace Sys2Proof.Machine

/-! ### What the operations of a firing leave of the configuration -/

@[simp] theorem State.startFiring_cfg (s : State) (h : Hdr) (rollback : Bool) (n : Nat) :
    (s.startFiring h rollback n).cfg = { s.cfg with firing := some { rollback := rollback, start := s.now, src := n } } := by
  simp [State.startFiring, State.now]

@[simp] theorem State.startFiring_dev (s : State) (h : Hdr) (rollback : Bool) (n : Nat) :
    (s.startFiring h rollback n).dev = { s.dev with runReq := false } := by
  simp [State.startFiring]

@[simp] theorem State.startFiring_acts (s : State) (h : Hdr) (rollback : Bool) (n : Nat) :
    (s.startFiring h rollback n).acts = s.acts ++ [{ code := if rollback then 8 else 7, tag := h.tag, start := s.now }] := by
  simp [State.startFiring]

@[simp] theorem State.releaseOutputs_cfg (s : State) : s.releaseOutputs.cfg = { s.cfg with firing := none } := by
  simp [State.releaseOutputs]

/-- The image in force changes neither the generations nor a slot, nor the firing (R406). -/
theorem State.applyImage_cfg (s : State) (v : CfgVals) :
    (s.applyImage v).cfg = { s.cfg with vals := heldBack s.cfg.vals v, newPlan := some v } := by
  simp [State.applyImage]

/-- The journal takes one record, of any operation. -/
theorem State.writeJournal_cfg (s : State) (op : Nat) : (s.writeJournal op).cfg = s.cfg.journalPut (s.cfg.journalRec op) := by
  unfold State.writeJournal
  dsimp only
  split <;> rfl

theorem State.moveRoles_nextGen (s : State) (rollback : Bool) : (s.moveRoles rollback).cfg.nextGen = s.cfg.nextGen + 1 := by
  simp [State.moveRoles, State.writeJournal_cfg, Cfg.journalPut]

/-! ### Staging -/

theorem execCfgStage_claims {s : State} {dt : Nat} {h : Hdr} {buf : Ref} (ht : Takes s dt 0x10 h)
    (hfree : s.holderOf [.store] = none) : Waits (.cfgStage dt h buf) 0x10 h s true (fun t =>
      t.acts = s.acts ++ [{ code := 9, tag := h.tag, start := (s.advance dt).now }] ∧ t.cfg = s.cfg ∧ t.dev = s.dev) := by
  have hfree' : (s.advance dt).taken.holderOf [.store] = none := hfree
  refine waits_of_wait rfl ht (by rw [cmdCfgStage, checks_pass rfl hfree']) fun t hto => ?_
  rw [hto]
  exact ⟨rfl, rfl, rfl⟩

theorem State.stageEnd_ends (s : State) (w : Waiting) (st : Status) (res : BitVec 128) :
    (s.stageEnd w st res).cfg = s.cfg ∧ (∀ a ∈ (s.stageEnd w st res).acts, a.code ≠ 9)
      ∧ (s.stageEnd w st res).host.outstanding = s.host.outstanding.filter (fun x => !w.same x) := by
  refine ⟨by simp [State.stageEnd], fun a ha => ?_, by rw [State.stageEnd, State.finish_outstanding]⟩
  have hmem : a ∈ s.acts ∧ ¬ a.code = 9 := by simpa [State.stageEnd] using ha
  exact hmem.2

theorem State.stageDone_good {s : State} {w : Waiting} (hw : s.waitingFor 0x10 (fun w => !w.dma) = some w)
    (hslot : s.cfg.roles.staged < s.cfg.slots.length) :
    let t := s.stageDone true
    t.slot s.cfg.roles.staged = { s.slot s.cfg.roles.staged with filled := true } ∧ t.cfg.roles = s.cfg.roles
      ∧ t.cfg.journal.length = s.cfg.journal.length + 1 ∧ (∀ a ∈ t.acts, a.code ≠ 9)
      ∧ t.host.outstanding = s.host.outstanding.filter (fun x => !w.same x) := by
  simp only [State.stageDone, hw, if_true]
  generalize hu : (s.updCfgSlot s.cfg.roles.staged (fun x => { x with filled := true })).writeJournal 0 = u
  have hcfg := State.writeJournal_cfg (s.updCfgSlot s.cfg.roles.staged (fun x => { x with filled := true })) 0
  rw [hu] at hcfg
  obtain ⟨hkept, hacts, hout⟩ := u.stageEnd_ends w .ok
    (resultOf [(128, 64, (s.slot s.cfg.roles.staged).digest.toNat), (192, 32, (s.slot s.cfg.roles.staged).image.length)])
  refine ⟨?_, by rw [hkept, hcfg]; rfl, by rw [hkept, hcfg]; simp [Cfg.journalPut, State.updCfgSlot], hacts, ?_⟩
  · rw [State.slot, hkept, hcfg]
    exact (getD_modify _ _ _ _ _ hslot).trans (if_pos rfl)
  · rw [hout, ← hu]
    simp [State.updCfgSlot]

/-! ### Firing and rollback -/

theorem cmdCfgFire_starts {s : State} {h : Hdr} {digest : DWord} (hacts : s.acts = [])
    (hfilled : (s.slot s.cfg.roles.staged).filled = true) (hdig : (s.slot s.cfg.roles.staged).digest = digest)
    (hcells : s.cellBlocked s.cfg.roles.staged = false) :
    cmdCfgFire h digest s = .wait false [] (s.startFiring h false s.cfg.roles.staged) := by
  simp [cmdCfgFire, checks, hacts, hfilled, hdig, hcells]

theorem cmdCfgRollback_starts {s : State} {h : Hdr} (hacts : s.acts = [])
    (hfilled : (s.slot s.cfg.roles.previous).filled = true) (hcells : s.cellBlocked s.cfg.roles.previous = false) :
    cmdCfgRollback h s = .wait false [] (s.startFiring h true s.cfg.roles.previous) := by
  simp [cmdCfgRollback, checks, hacts, hfilled, hcells]

/-- What a firing or a rollback that has started holds (R401, R406). -/
theorem State.startFiring_holds {s t : State} {dt : Nat} {h : Hdr} {rollback : Bool} {n : Nat} (hacts : s.acts = [])
    (ht : HostOnly ((s.advance dt).taken.startFiring h rollback n) t) :
    t.cfg = { s.cfg with firing := some { rollback := rollback, start := (s.advance dt).now, src := n } }
      ∧ t.acts = [{ code := if rollback then 8 else 7, tag := h.tag, start := (s.advance dt).now }]
      ∧ t.dev = { s.dev with runReq := false } := by
  have hcfg : t.cfg = ((s.advance dt).taken.startFiring h rollback n).cfg := by rw [ht]
  have hact : t.acts = ((s.advance dt).taken.startFiring h rollback n).acts := by rw [ht]
  have hdev : t.dev = ((s.advance dt).taken.startFiring h rollback n).dev := by rw [ht]
  have htaken : (s.advance dt).taken.acts = [] := hacts
  rw [hcfg, hact, hdev, State.startFiring_cfg, State.startFiring_acts, State.startFiring_dev, htaken]
  exact ⟨rfl, rfl, rfl⟩

/-- However a firing ends, its claim and its record are over. -/
theorem State.fireEnd_ends (s : State) (st : Status) (res : BitVec 128) :
    (s.fireEnd st res).cfg = { s.cfg with firing := none } ∧ ∀ a ∈ (s.fireEnd st res).acts, a.code ≠ 7 ∧ a.code ≠ 8 := by
  have hacts : (s.fireEnd st res).acts = s.acts.filter (fun a => a.code ≠ 7 && a.code ≠ 8) := by
    unfold State.fireEnd
    dsimp only
    split <;> simp
  refine ⟨?_, fun a ha => ?_⟩
  · unfold State.fireEnd
    dsimp only
    split <;> simp
  · rw [hacts] at ha
    simpa using (List.mem_filter.1 ha).2

theorem State.fireDone_good {s : State} {f : Firing} {v : CfgVals} (hf : s.cfg.firing = some f)
    (hv : s.recheckSlot f.src = .ok v) :
    let t := s.fireDone true true
    t.cfg.inForce = .slot f.src ∧ t.cfg.gen = s.cfg.nextGen ∧ t.cfg.nextGen = s.cfg.nextGen + 1
      ∧ t.cfg.digest = (s.slot f.src).digest ∧ t.cfg.firing = none ∧ ∀ a ∈ t.acts, a.code ≠ 7 ∧ a.code ≠ 8 := by
  simp only [State.fireDone, hf, hv, if_true]
  generalize hu : (((s.applyImage v).moveRoles f.rollback).updCfg (fun c =>
    { c with inForce := .slot f.src, gen := s.cfg.nextGen, digest := (s.slot f.src).digest })).sendLimits = u
  obtain ⟨hcfg, hacts⟩ := u.fireEnd_ends .ok
    (resultOf [(128, 32, s.cfg.nextGen.toNat), (160, 64, (s.slot f.src).digest.toNat)])
  have hnext : ((s.applyImage v).moveRoles f.rollback).cfg.nextGen = s.cfg.nextGen + 1 := by
    rw [State.moveRoles_nextGen, State.applyImage_cfg]
  refine ⟨?_, ?_, ?_, ?_, by rw [hcfg], hacts⟩
  all_goals rw [hcfg, ← hu, (State.sendLimits_keeps _).2.2.2.2.2.1]
  all_goals simp [State.updCfg, hnext]

theorem State.fireDone_flashBad {s : State} {f : Firing} (readback : Bool) (hf : s.cfg.firing = some f) :
    (s.fireDone false readback).cfg = { s.cfg with firing := none }
      ∧ ∀ a ∈ (s.fireDone false readback).acts, a.code ≠ 7 ∧ a.code ≠ 8 := by
  simp only [State.fireDone, hf]
  exact s.fireEnd_ends _ _

/-- Settles O21: each command claims what it holds while it waits, and each end gives up its claim. -/
theorem configRows : Obligations.ConfigRows := by
  refine ⟨fun _ _ _ _ ht hfree => execCfgStage_claims ht hfree,
    fun s dt w hw hslot => ⟨_, rfl, State.stageDone_good (s := s.advance dt) hw hslot⟩,
    fun s dt h digest ht hacts hfilled hdig hcells => ?_, fun s dt h ht hacts hfilled hcells => ?_,
    fun s dt f v hf hv => ⟨_, rfl, State.fireDone_good (s := s.advance dt) hf hv⟩,
    fun s dt f readback hf => ⟨_, rfl, State.fireDone_flashBad (s := s.advance dt) readback hf⟩,
    fun s dt hact => ⟨_, rfl, ?_⟩⟩
  · exact waits_of_wait rfl ht (cmdCfgFire_starts (s := (s.advance dt).taken) hacts hfilled hdig hcells)
      fun t hto => State.startFiring_holds hacts hto
  · exact waits_of_wait rfl ht (cmdCfgRollback_starts (s := (s.advance dt).taken) hacts hfilled hcells)
      fun t hto => State.startFiring_holds hacts hto
  · have hact' : (s.advance dt).acts.any (fun a => a.code = 11) = true := hact
    rw [if_pos hact']
    simp [State.updCfg]

end Sys2Proof.Machine
end

section
/-! O22: maintenance activities, from their start to their end (R410 to R416). -/

namespace Sys2Proof.Machine

/-! ### What keeps the activities and the commands outstanding -/

/-- The activities and the commands outstanding. -/
def State.charged (s : State) : List Activity × List Waiting := (s.acts, s.host.outstanding)

theorem State.charged_of_kept {s t : State} (ha : t.acts = s.acts) (ho : t.host.outstanding = s.host.outstanding) :
    t.charged = s.charged := by
  rw [State.charged, State.charged, ha, ho]

/-! The buses: a frame that leaves a FIFO tells its CANTX ring, and no command. -/

@[simp] theorem State.canDone_outstanding (s : State) (b : Nat) (idx : Word) (fs : List (Nat × Nat × Nat)) :
    (s.canDone b idx fs).host.outstanding = s.host.outstanding := by
  unfold State.canDone
  dsimp only
  split <;> simp

@[simp] theorem State.doneBehind_outstanding (s : State) (b i : Nat) (ds : List (Word × Nat × Nat)) :
    (s.doneBehind b i ds).host.outstanding = s.host.outstanding := by
  unfold State.doneBehind
  dsimp only
  split
  · rfl
  · exact State.each_induct (fun u : State => u.host.outstanding) (fun u d => by simp [State.frameDone]) s ds

@[simp] theorem State.descDone_outstanding (s : State) (b : Nat) (idx : Word) (ds : List Desc) (res : Nat) :
    (s.descDone b idx ds res).host.outstanding = s.host.outstanding := by
  unfold State.descDone
  split <;> simp [State.msgDone]

@[simp] theorem State.popTx_outstanding (s : State) (b : Nat) (r : List (Word × List Desc)) (n : Word) :
    (s.popTx b r n).host.outstanding = s.host.outstanding := rfl

@[simp] theorem State.updBus_host (s : State) (b : Nat) (f : Bus → Bus) : (s.updBus b f).host = s.host := rfl

@[simp] theorem State.takeTx_outstanding (k : Nat) (s : State) (b : Nat) :
    (State.takeTx k s b).host.outstanding = s.host.outstanding := by
  induction k generalizing s with
  | zero => rfl
  | succ k ih =>
    unfold State.takeTx
    dsimp only
    (repeat' split) <;> simp [ih]

@[simp] theorem State.refill_outstanding (s : State) (b : Nat) : (s.refill b).host.outstanding = s.host.outstanding := by
  simp [State.refill]

@[simp] theorem State.stopTxf_outstanding (s : State) : s.stopTxf.host.outstanding = s.host.outstanding := by
  have hdrop : ∀ (u : State) (b : Nat), (u.dropTxf b).host.outstanding = u.host.outstanding := fun u b => by
    unfold State.dropTxf
    dsimp only
    rw [State.refill_outstanding, State.updBus_host]
    split <;> simp
  unfold State.stopTxf
  split
  · exact State.each_induct (fun u : State => u.host.outstanding) hdrop s _
  · rfl

/-! Valves and switches: a finding latches, and ends no activity. -/

@[simp] theorem State.decideClose_miss_acts (s : State) (ch b : Nat) : (s.decideClose ch .miss b).acts = s.acts := by
  unfold State.decideClose
  dsimp only
  split
  · rfl
  · simp

@[simp] theorem State.startDecay_acts (s : State) (ch t : Nat) (clamp : Bool) : (s.startDecay ch t clamp).acts = s.acts := by
  unfold State.startDecay
  dsimp only
  split <;> simp

@[simp] theorem State.stopActuation_acts (s : State) (ch t : Nat) (clamp : Bool) :
    (s.stopActuation ch t clamp).acts = s.acts := by
  unfold State.stopActuation
  dsimp only
  split <;> simp

@[simp] theorem State.latchCh_acts (s : State) (ch finding : Nat) : (s.latchCh ch finding).acts = s.acts := by
  have hforce : (s.forceOff ch).acts = s.acts := by
    unfold State.forceOff
    dsimp only
    (repeat' split) <;> simp
  simp [State.latchCh, hforce]

@[simp] theorem State.tested_acts (s : State) (ch code : Nat) : (s.tested ch code).acts = s.acts := by
  unfold State.tested State.offFinding State.channelFault State.groupFault State.latchGroup
  (repeat' split) <;> simp

theorem State.tested_charged (s : State) (ch code : Nat) : (s.tested ch code).charged = s.charged :=
  State.charged_of_kept (s.tested_acts ch code) (s.tested_outstanding ch code)

theorem State.lsLatchOne_outstanding (s : State) (n cause : Nat) :
    (s.lsLatchOne n cause).host.outstanding = s.host.outstanding := by
  unfold State.lsLatchOne
  dsimp only
  split
  · rfl
  · split
    · rfl
    · simp

theorem State.lsFinding_charged (s : State) (n cause : Nat) : (s.lsFinding n cause).charged = s.charged := by
  refine State.charged_of_kept (State.lsLatch_keeps ..).2.2.2.2.2.2.1 ?_
  unfold State.lsFinding State.lsLatch
  exact State.each_induct (fun u : State => u.host.outstanding) (fun u m => u.lsLatchOne_outstanding m cause) _ _

theorem State.lsTested_charged (s : State) (n c : Nat) : (s.lsTested n c).charged = s.charged := by
  have hmark : (s.each (s.lsLoad n) (fun s m => s.updLs m (fun x => { x with tested := some s.now }))).charged = s.charged :=
    State.each_induct State.charged (f := fun s m => s.updLs m (fun x => { x with tested := some s.now })) (fun _ _ => rfl) s _
  unfold State.lsTested
  dsimp only
  split
  · exact hmark
  · exact (State.each_induct State.charged (fun u m => u.lsFinding_charged m _) _ _).trans hmark

/-! ### The end of an activity -/

theorem State.endActivity_acts (s : State) (a : Activity) : (s.endActivity a).acts = s.acts.filter (fun x => !(x == a)) := by
  unfold State.endActivity
  extract_lets s1 s2 s3
  have h1 : s1.acts = s.acts := by
    simp only [s1]
    split <;> simp
  have h3 : s3.acts = s2.acts := State.each_induct State.acts (fun u n => by simp) s2 _
  have h2 : s2.acts = s.acts.filter (fun x => !(x == a)) := by rw [← h1]
  split <;> simp [h3, h2]

@[simp] theorem State.endActivity_outstanding (s : State) (a : Activity) :
    (s.endActivity a).host.outstanding = s.host.outstanding := by
  unfold State.endActivity
  extract_lets s1 s2 s3
  have h1 : s1.host.outstanding = s.host.outstanding := by
    simp only [s1]
    split <;> simp
  have h3 : s3.host.outstanding = s.host.outstanding :=
    (State.each_induct (fun u : State => u.host.outstanding)
      (fun u n => by simp) s2 _).trans h1
  split <;> simp [h3]

/-- An activity that ends gives up its claim, and completes its MAINT_START (R410). -/
theorem State.maintEnd_endsAct {s : State} {a : Activity} {w : Waiting} (hw : s.maintCmd a = some w) (st : Status)
    (reason : Nat) (ws : List Word) : EndsAct s (s.maintEnd a st reason ws) a w := by
  unfold State.maintEnd
  extract_lets s1 s2
  have h2 : s2.acts = s1.acts ∧ s2.host.outstanding = s1.host.outstanding ∧ s2.dev = s1.dev := by
    simp only [s2]
    split <;> simp
  obtain ⟨hacts, hout, hdev⟩ := h2
  have hwait : s2.maintCmd a = some w := by
    rw [State.maintCmd, State.waitingFor, hout]
    simpa [s1, State.maintCmd, State.waitingFor] using hw
  rw [hwait]
  refine ⟨?_, ?_, ?_⟩
  · simp [hacts, s1, State.endActivity_acts]
  · rw [State.finish_outstanding, hout]
    simp [s1]
  · simp [hdev, s1]

/-- What an end does before it ends the activity keeps the activities, the commands and the device. -/
theorem EndsAct.of_kept {s u t : State} {a : Activity} {w : Waiting} (hc : u.charged = s.charged) (hd : u.dev = s.dev)
    (he : EndsAct u t a w) : EndsAct s t a w := by
  obtain ⟨ha, ho⟩ := Prod.ext_iff.1 hc
  simp only [State.charged] at ha ho
  rw [EndsAct, ha, ho, hd] at he
  exact he

theorem State.maintCmd_of_charged {s u : State} (hc : u.charged = s.charged) (a : Activity) : u.maintCmd a = s.maintCmd a := by
  have ho : u.host.outstanding = s.host.outstanding := congrArg Prod.snd hc
  rw [State.maintCmd, State.maintCmd, State.waitingFor, State.waitingFor, ho]

/-- An end that follows what keeps the activities, the commands and the device. -/
theorem State.maintEnd_after {s u : State} {a : Activity} {w : Waiting} (hc : u.charged = s.charged) (hd : u.dev = s.dev)
    (hw : s.maintCmd a = some w) (st : Status) (reason : Nat) (ws : List Word) :
    EndsAct s (u.maintEnd a st reason ws) a w :=
  (State.maintEnd_endsAct (by rw [State.maintCmd_of_charged hc, hw]) st reason ws).of_kept hc hd

/-! ### Start and abort -/

theorem State.rings_pos_of_canTake {s : State} {fence : Bool} (h : s.canTake fence = true) : 0 < s.host.rings.length := by
  by_contra hnone
  have hring : s.ring 0 = {} := by
    rw [State.ring, List.eq_nil_of_length_eq_zero (Nat.eq_zero_of_not_pos hnone)]
    rfl
  simp [State.canTake, State.served, hring] at h

theorem execMaintStart_waits {s : State} {dt : Nat} {h : Hdr} {param : Ref} {result : DWord} {act : Byte} {loop : Nat}
    (ht : Takes s dt 0x14 h) (h1 : 1 ≤ act.toNat) (h6 : act.toNat ≤ 6) (hst : s.dev.st.admitsAct act.toNat = true)
    (hloop : act.toNat = 3 → s.loopOn loop = true) (hfired : act.toNat = 1 → s.cfg.inForce ≠ .straps) :
    let u := (s.advance dt).taken
    let a := u.request h result act.toNat loop
    u.holderOf (u.claimOf a) = none →
    Waits (.maintStart dt h param result act loop) 0x14 h s (act.toNat = 1 || act.toNat = 3) (fun t =>
      t.acts = s.acts ++ [a] ∧ a.code = act.toNat ∧ a.tag = h.tag ∧ a.idx = (s.ring 0).mod ∧ a.start = (s.advance dt).now
      ∧ t.dev = s.dev ∧ t.valves = s.valves ∧ t.loops = s.loops) := by
  intro u a hfree
  have hrange : ¬ (act.toNat < 1 ∨ 6 < act.toNat) := by omega
  have hst' : u.dev.st.admitsAct act.toNat = true := hst
  have hex : (act.toNat ≠ 3 || u.loopOn loop) = true := by
    by_cases h3 : act.toNat = 3
    · have hon : u.loopOn loop = true := hloop h3
      simp [hon]
    · simp [h3]
  have hcontent : (act.toNat ≠ 1 || u.cfg.inForce != .straps) = true := by
    by_cases hsweep : act.toNat = 1
    · have hf : u.cfg.inForce ≠ .straps := hfired hsweep
      simp [hf]
    · simp [hsweep]
  have hready : (!a.ready) = (act.toNat = 1 || act.toNat = 3) := Bool.not_not _
  have hbody : cmdMaintStart h result act.toNat loop u
      = .wait (act.toNat = 1 || act.toNat = 3) [] { u with acts := u.acts ++ [a] } := by
    rw [cmdMaintStart, if_neg hrange, hst']
    simp only [Bool.not_true, Bool.false_eq_true, if_false, hex, hcontent, ← hready]
    exact checks_pass rfl hfree ..
  have hidx : a.idx = (s.ring 0).mod := by
    have ⟨_, hc, _⟩ := ht
    have hmod : (u.ring 0).mod = (s.ring 0).mod + 1 := by
      have hring := State.ring_updRing (s.advance dt) 0 0 (fun r => { r with mod := r.mod + 1 }) (State.rings_pos_of_canTake hc)
      exact congrArg Ring.mod hring
    show (u.ring 0).mod - 1 = _
    rw [hmod]
    simp
  refine waits_of_wait rfl ht hbody fun t hto => ?_
  rw [hto]
  exact ⟨rfl, rfl, rfl, hidx, rfl, rfl, rfl, rfl⟩

theorem execMaintAbort_ends {s : State} {dt : Nat} {h : Hdr} {target : BitVec 16} {a : Activity} (ht : Takes s dt 0x15 h)
    (ha : s.acts.find? (fun a => a.tag = target) = some a) (hcode : a.code ≤ 6) :
    Answers (.maintAbort dt h target) 0x15 h s .ok 0 (fun v =>
      v.acts = s.acts.filter (fun x => !(x == a)) ∧ v.dev = s.dev ∧ v.flash = s.flash) := by
  have ha' : (s.advance dt).taken.acts.find? (fun a => a.tag = target) = some a := ha
  have hbody : cmdMaintAbort target (s.advance dt).taken = .done .ok 0 ((s.advance dt).taken.maintEnd a .timeout 1 []) := by
    simp only [cmdMaintAbort, ha', if_pos hcode]
  refine answers_of_done rfl ht hbody ⟨?_, ?_, ?_⟩
  · have hend : ((s.advance dt).taken.maintEnd a .timeout 1 []).acts = ((s.advance dt).taken.endActivity a).acts := by
      unfold State.maintEnd
      dsimp only
      (repeat' split) <;> simp
    rw [hend, State.endActivity_acts]
    rfl
  · rw [(State.maintEnd_keeps ..).2.2.1]
    rfl
  · rw [(State.maintEnd_keeps ..).2.2.2.2.2.2.1]
    rfl

theorem execMaintAbort_started {s : State} {dt : Nat} {h : Hdr} {target : BitVec 16} {a : Activity} (ht : Takes s dt 0x15 h)
    (ha : s.acts.find? (fun a => a.tag = target) = some a) (hcode : 6 < a.code) (hstage : a.code ≠ 9) :
    Answers (.maintAbort dt h target) 0x15 h s .started 0 (fun v => v = (s.advance dt).taken) := by
  have ha' : (s.advance dt).taken.acts.find? (fun a => a.tag = target) = some a := ha
  have hbody : cmdMaintAbort target (s.advance dt).taken = .done .started 0 (s.advance dt).taken := by
    simp only [cmdMaintAbort, ha', if_neg (Nat.not_le.2 hcode), if_neg hstage]
  exact answers_of_done rfl ht hbody rfl

/-! ### Valve sweep and wire check (R414, R415) -/

theorem State.chargeTest_charged (s : State) (q c : Nat) : (s.chargeTest q c).charged = s.charged := by
  refine State.charged_of_kept (by simp) ?_
  unfold State.chargeTest
  dsimp only
  split <;> simp [State.setVLim]

theorem State.chargeTest_cal (s : State) (q c : Nat) : (s.chargeTest q c).flash.cal = s.flash.cal := by
  unfold State.chargeTest
  dsimp only
  split <;> simp [State.setVLim]

theorem State.seedFilters_outstanding (s : State) (ch : Nat) :
    (s.seedFilters ch).host.outstanding = s.host.outstanding := by
  unfold State.seedFilters
  dsimp only
  (repeat' split) <;> simp

/-- A sweep that went well is kept under the key of its profile words (R414, log 12). -/
theorem State.sweepStore_keeps_result {s : State} {n : Nat} {o : Swept} (hopen : sweptWell n o.detected o.opens = true)
    (hclose : sweptWell n o.closes.length o.closes = true) :
    (s.sweepStore n o).charged = s.charged ∧ (s.sweepStore n o).dev = s.dev
      ∧ { ch := o.ch, key := s.profileKey o.ch, dOn := some (sweepStat o.opens), dOff := some (sweepStat o.closes) }
        ∈ (s.sweepStore n o).flash.cal := by
  rw [State.sweepStore, hopen, hclose]
  refine ⟨State.charged_of_kept (by simp) (by simp [State.seedFilters_outstanding]), by simp, by simp [State.updFlash]⟩

/-- What the end of a sweep of one channel does before it ends the activity. -/
def State.sweepKept (s : State) (n : Nat) (o : Swept) (cMeas : List Nat) : State :=
  ((s.sweepStore n o).each (List.range (s.sweepStore n o).nQuad) (fun s q => s.chargeTest q (cMeas.getD q 0))).settle 14

theorem State.sweepDone_eq {s : State} {o : Swept} {n : Nat} (cMeas : List Nat) {a : Activity}
    (hrun : s.running 1 = some a) (hn : a.params = [(n : Int)]) (ho : a.swept = [o]) (hout : s.sweptOut o = true)
    (hstill : s.sweepMoves = false) : ∃ st ws, s.sweepDone cMeas = (s.sweepKept n o cMeas).maintEnd a st 0 ws := by
  have hall : a.swept.all s.sweptOut = true := by simp [ho, hout]
  have hcount : (a.params.headD 8).toNat = n := by simp [hn]
  unfold State.sweepDone
  rw [hrun]
  dsimp only
  rw [if_neg (by simp [hstill]), if_neg (by simp [hall]), hcount, ho]
  exact ⟨_, _, rfl⟩

theorem State.sweepKept_keeps (s : State) (n : Nat) (o : Swept) (cMeas : List Nat)
    (hopen : sweptWell n o.detected o.opens = true) (hclose : sweptWell n o.closes.length o.closes = true) :
    (s.sweepKept n o cMeas).charged = s.charged ∧ (s.sweepKept n o cMeas).dev = s.dev
      ∧ { ch := o.ch, key := s.profileKey o.ch, dOn := some (sweepStat o.opens), dOff := some (sweepStat o.closes) }
        ∈ (s.sweepKept n o cMeas).flash.cal := by
  obtain ⟨hcharged, hdev, hkept⟩ := State.sweepStore_keeps_result (s := s) hopen hclose
  unfold State.sweepKept
  generalize hu : ((s.sweepStore n o).each (List.range (s.sweepStore n o).nQuad)
    (fun s q => s.chargeTest q (cMeas.getD q 0))) = u
  have huc : u.charged = s.charged := by
    rw [← hu, State.each_induct State.charged fun v q => v.chargeTest_charged q _, hcharged]
  have hud : u.dev = s.dev := by
    rw [← hu, State.each_induct State.dev fun v q => by simp, hdev]
  have hcal : u.flash.cal = (s.sweepStore n o).flash.cal := by
    rw [← hu, State.each_induct (fun v : State => v.flash.cal) fun v q => v.chargeTest_cal q _]
  refine ⟨(State.charged_of_kept (by simp) (by simp)).trans huc, by simp [hud], ?_⟩
  rw [(State.settle_keeps ..).2.2.2.2.2.2.2.1, hcal]
  exact hkept

theorem State.sweepDone_ends {s : State} {o : Swept} {n : Nat} (cMeas : List Nat) {a : Activity} {w : Waiting}
    (hrun : s.running 1 = some a) (hn : a.params = [(n : Int)]) (ho : a.swept = [o]) (hout : s.sweptOut o = true)
    (hw : s.maintCmd a = some w) (hstill : s.sweepMoves = false) (hopen : sweptWell n o.detected o.opens = true)
    (hclose : sweptWell n o.closes.length o.closes = true) :
    EndsAct s (s.sweepDone cMeas) a w ∧ ∃ e ∈ (s.sweepDone cMeas).flash.cal, e.ch = o.ch ∧ e.key = s.profileKey o.ch
      ∧ e.dOn = some (sweepStat o.opens) ∧ e.dOff = some (sweepStat o.closes) := by
  obtain ⟨hcharged, hdev, hkept⟩ := s.sweepKept_keeps n o cMeas hopen hclose
  obtain ⟨st, ws, hdone⟩ := State.sweepDone_eq cMeas hrun hn ho hout hstill
  rw [hdone]
  refine ⟨State.maintEnd_after hcharged hdev hw .., CalEntry.mk o.ch (s.profileKey o.ch) (some (sweepStat o.opens))
    (some (sweepStat o.closes)), ?_, rfl, rfl, rfl, rfl⟩
  rw [(State.maintEnd_keeps ..).2.2.2.2.2.2.1]
  exact hkept

theorem State.wireDone_ends {s : State} (valves : List Nat) (switches : List (Option OffObs)) {a : Activity} {w : Waiting}
    (hrun : s.running 2 = some a) (hw : s.maintCmd a = some w) : EndsAct s (s.wireDone valves switches) a w := by
  unfold State.wireDone
  rw [hrun]
  extract_lets vs ls s1 s2
  have h1 : s1.charged = s.charged ∧ s1.dev = s.dev :=
    ⟨State.each_induct State.charged (fun u ch => by split <;> simp [State.tested_charged]) s _,
      State.each_induct State.dev (fun u ch => by split <;> simp) s _⟩
  have h2 : s2.charged = s1.charged ∧ s2.dev = s1.dev :=
    ⟨State.each_induct State.charged (fun u n => by split <;> simp [State.lsTested_charged]) s1 _,
      State.each_induct State.dev (fun u n => by split <;> simp) s1 _⟩
  exact State.maintEnd_after (h2.1.trans h1.1) (h2.2.trans h1.2) hw ..

/-! ### Relay auto-tune (R255, R256) -/

theorem State.tuneDone_ends {s : State} {a : Activity} {w : Waiting} (hw : s.maintCmd a = some w)
    (ha : s.acts.find? (fun a => a.code = 3 && a.ready && ((s.loop a.loop).relay.map (·.ended)) == some 1) = some a) :
    EndsAct s s.tuneDone a w := by
  have hended := List.find?_some ha
  cases hr : (s.loop a.loop).relay with
  | none => simp [hr] at hended
  | some r =>
    simp only [State.tuneDone, ha, hr]
    refine State.maintEnd_after ?_ ?_ hw _ _ _
    · rfl
    · rfl

theorem State.tuneTimeout_ends {s : State} {a : Activity} {w : Waiting} (hw : s.maintCmd a = some w)
    (ha : s.acts.find? (fun a => a.code = 3 && a.ready
      && decide (a.start + (a.params.getD 7 0).toNat * 250000000 ≤ s.now)
      && ((s.loop a.loop).relay.map (·.ended)) != some 1) = some a) : EndsAct s s.tuneTimeout a w := by
  unfold State.tuneTimeout
  rw [ha]
  exact State.maintEnd_endsAct hw ..

/-! ### Scrub, sensor zero and self-test (R98, R300, R416) -/

theorem State.scrubDone_ends {s : State} (pages corrected : Nat) {a : Activity} {w : Waiting} (hrun : s.running 4 = some a)
    (hw : s.maintCmd a = some w) : EndsAct s (s.scrubDone pages corrected []) a w := by
  rw [State.scrubDone, hrun]
  exact State.maintEnd_endsAct hw ..

theorem State.zeroDone_ends {s : State} (means : List Int) (artic : Int) {a : Activity} {w : Waiting}
    (hrun : s.running 5 = some a) (hw : s.maintCmd a = some w) (htime : a.start + 250000000 ≤ s.now) :
    EndsAct s (s.zeroDone means artic) a w ∧ (s.zeroDone means artic).flash.articZero = artic
      ∧ ∀ i < s.flash.aiZero.length, (s.zeroDone means artic).flash.aiZero.getD i 0 =
          if s.cfgB .aiZeroEn i then means.getD i 0 else s.flash.aiZero.getD i 0 := by
  unfold State.zeroDone
  rw [hrun]
  dsimp only
  rw [if_neg (Nat.not_lt.2 htime)]
  refine ⟨State.maintEnd_after ?_ ?_ hw _ _ _, ?_, fun i hi => ?_⟩
  · rfl
  · rfl
  · rw [(State.maintEnd_keeps ..).2.2.2.2.2.2.1]
    rfl
  · rw [(State.maintEnd_keeps ..).2.2.2.2.2.2.1]
    simp only [State.updFlash, List.getD_eq_getElem?_getD, List.getElem?_map, List.getElem?_zipIdx,
      List.getElem?_eq_getElem hi, Option.map_some, Option.getD_some, Nat.zero_add]
    split <;> rfl

theorem State.selfTestEvent_keeps_nav (s : State) (i : Nat) :
    (s.selfTestEvent i).charged = s.charged ∧ (s.selfTestEvent i).dev = s.dev ∧ (s.selfTestEvent i).nav = s.nav :=
  ⟨State.charged_of_kept (by simp) (by simp [State.selfTestEvent]), by simp, by simp⟩

theorem State.selfTestDone_ends {s : State} (engines : BitVec 16) (chans : BitVec 128) {a : Activity} {w : Waiting}
    (hrun : s.running 6 = some a) (hw : s.maintCmd a = some w) (htime : a.start + 200000000 ≤ s.now) :
    EndsAct s (s.selfTestDone engines chans) a w
      ∧ (∀ c ∈ (s.selfTestDone engines chans).nav.sx.chans, chans.getLsbD c.ch = false)
      ∧ ∀ i : Fin 128, chans.getLsbD i = true → i.val ∈ (s.selfTestDone engines chans).nav.sx.badChans := by
  unfold State.selfTestDone
  rw [hrun]
  split
  next hnone => cases hnone
  next b hb =>
  cases hb
  rw [if_neg (Nat.not_lt.2 htime)]
  extract_lets lost s1 s2 s3
  have h3 : s3.charged = s2.charged ∧ s3.dev = s2.dev ∧ s3.nav = s2.nav :=
    ⟨State.each_induct State.charged (fun u i => (u.selfTestEvent_keeps_nav i).1) s2 _,
      State.each_induct State.dev (fun u i => (u.selfTestEvent_keeps_nav i).2.1) s2 _,
      State.each_induct State.nav (fun u i => (u.selfTestEvent_keeps_nav i).2.2) s2 _⟩
  obtain ⟨hcharged, hdev, hnav⟩ := h3
  have hnav' : ∀ st reason ws, (s3.maintEnd a st reason ws).nav = s2.nav := fun st reason ws => by simp [hnav]
  refine ⟨State.maintEnd_after hcharged hdev hw .., fun c hc => ?_, fun i hi => ?_⟩
  · rw [hnav'] at hc
    obtain ⟨x, hx, rfl⟩ := List.mem_map.1 hc
    have hch : ((if lost x then s1.stopTrk x else x) : TrkCh).ch = x.ch := by
      split
      · rfl
      · rfl
    have hkept := (List.mem_filter.1 hx).2
    simpa [hch] using hkept
  · rw [hnav']
    have hi' : i.val ∈ bitsOf chans := mem_bitsOf.2 ⟨i.isLt, hi⟩
    by_cases hbad : i.val ∈ s1.nav.sx.badChans
    · exact List.mem_append_left _ hbad
    · exact List.mem_append_right _ (List.mem_filter.2 ⟨hi', by simpa using hbad⟩)

/-- Settles O22: a start appends its activity, and every end goes through `State.maintEnd`. -/
theorem maintenanceRows : Obligations.MaintenanceRows :=
  ⟨fun _ _ _ _ _ _ _ ht h1 h6 hst hloop hfired => execMaintStart_waits ht h1 h6 hst hloop hfired,
    fun _ _ _ _ _ ht ha hcode => execMaintAbort_ends ht ha hcode,
    fun _ _ _ _ _ ht ha hcode hstage => execMaintAbort_started ht ha hcode hstage,
    fun s dt _ _ cMeas _ _ hrun hn ho hout hw hstill hopen hclose =>
      ⟨_, rfl, State.sweepDone_ends (s := s.advance dt) cMeas hrun hn ho hout hw hstill hopen hclose⟩,
    fun s dt valves switches _ _ hrun hw => ⟨_, rfl, State.wireDone_ends (s := s.advance dt) valves switches hrun hw⟩,
    fun s dt _ _ hw ha => ⟨_, rfl, State.tuneDone_ends (s := s.advance dt) hw ha⟩,
    fun s dt _ _ hw ha => ⟨_, rfl, State.tuneTimeout_ends (s := s.advance dt) hw ha⟩,
    fun s dt pages corrected _ _ hrun hw => ⟨_, rfl, State.scrubDone_ends (s := s.advance dt) pages corrected hrun hw⟩,
    fun s dt means artic _ _ hrun hw htime =>
      ⟨_, rfl, State.zeroDone_ends (s := s.advance dt) means artic hrun hw htime⟩,
    fun s dt engines chans _ _ hrun hw htime =>
      ⟨_, rfl, State.selfTestDone_ends (s := s.advance dt) engines chans hrun hw htime⟩⟩

end Sys2Proof.Machine
end

section
/-! O5: the supply conditions and the suspensions of quadrants (R420 to R430, R291). -/

namespace Sys2Proof.Machine

/-! ### What a supply row may change -/

theorem State.raise_hostOnly (s : State) (code subject : Nat) (data : List (Nat × Nat × Nat)) (urgent : Bool) :
    HostOnly s (s.raise code subject data urgent) :=
  State.eq_of_parts (by simp)

theorem PwrOnly.of_hostOnly {s u t : State} (hu : PwrOnly s u) (ht : HostOnly u t) : PwrOnly s t := by
  rw [PwrOnly] at hu ⊢
  rw [HostOnly] at ht
  rw [ht, hu]

theorem State.supplyEvt_hostOnly (s : State) (kind mv : Nat) : HostOnly s (s.supplyEvt kind mv) := by
  unfold State.supplyEvt
  split
  · exact State.raise_hostOnly ..
  · exact HostOnly.refl s

theorem State.vioEvt_hostOnly (s : State) (kind mv : Nat) : HostOnly s (s.vioEvt kind mv) := by
  unfold State.vioEvt
  split
  · exact State.raise_hostOnly ..
  · exact HostOnly.refl s

/-- A condition set or cleared by `f`, and told. -/
theorem supply_told {s t : State} {dt : Nat} {f : Pwr → Pwr} (ht : HostOnly ((s.advance dt).updPwr f) t) :
    t.pwr = f s.pwr ∧ PwrOnly (s.advance dt) t := by
  refine ⟨?_, .of_hostOnly (u := (s.advance dt).updPwr f) rfl ht⟩
  rw [ht]
  rfl

/-- A row that changes its condition where `c` holds is answered with the change. -/
theorem completes_of_cond {c : Instr} {s t u : State} {p : Prop} [Decidable p] {P : State → Prop}
    (hx : exec c s = .next (if p then t else u)) (hp : p) (hP : P t) : Completes c s P :=
  ⟨_, by rw [hx, if_pos hp], hP⟩

theorem completes_of_not_cond {c : Instr} {s t u : State} {p : Prop} [Decidable p] {P : State → Prop}
    (hx : exec c s = .next (if p then t else u)) (hp : ¬p) (hP : P u) : Completes c s P :=
  ⟨_, by rw [hx, if_neg hp], hP⟩

@[simp] theorem State.readVbat_pwr (s : State) (mv : Nat) : (s.readVbat mv).pwr = { s.pwr with vbat := mv } := rfl

@[simp] theorem State.readVbat_sagMv (s : State) (dt mv : Nat) : ((s.advance dt).readVbat mv).sagMv = s.sagMv := rfl

/-! ### VBAT -/

section Vbat

variable {s : State} {dt mv held : Nat}

theorem execSagEnter_sags (hmv : mv < s.sagMv) (htold : s.pwr.sagTold = false) (hheld : 250000 ≤ held) :
    Completes (.sagEnter dt mv held) s (fun t =>
      t.pwr = { s.pwr with vbat := mv, sag := true, sagTold := true } ∧ PwrOnly (s.advance dt) t) :=
  completes_of_cond rfl (by simp [hmv, htold, hheld])
    (supply_told (f := fun p => { p with vbat := mv, sag := true, sagTold := true }) (State.supplyEvt_hostOnly ..))

theorem execSagEnter_reads (hmv : s.sagMv ≤ mv) : Completes (.sagEnter dt mv held) s (fun t =>
    t = { s.advance dt with pwr := { s.pwr with vbat := mv } }) :=
  completes_of_not_cond rfl (by simp [Nat.not_lt.2 hmv]) rfl

theorem execSagRelease_releases (hsag : s.pwr.sag = true) (hlow : s.pwr.lowField = false) (hbrown : s.pwr.brownout = false)
    (hmv : s.sagMv + 500 < mv) (hheld : 250000 ≤ held) : Completes (.sagRelease dt mv held) s (fun t =>
      t.pwr = { s.pwr with vbat := mv, sag := false, sagTold := false } ∧ PwrOnly (s.advance dt) t) :=
  completes_of_cond rfl (by simp [hsag, hlow, hbrown, hmv, hheld])
    (supply_told (f := fun p => { p with vbat := mv, sag := false, sagTold := false }) (State.supplyEvt_hostOnly ..))

theorem execLowFieldEnter_enters (hmv : mv < 9000) (htold : s.pwr.lowTold = false) (hheld : 25000 ≤ held) :
    Completes (.lowFieldEnter dt mv held) s (fun t =>
      t.pwr = { s.pwr with vbat := mv, sag := true, lowField := true, lowTold := true } ∧ PwrOnly (s.advance dt) t) :=
  completes_of_cond rfl (by simp [hmv, htold, usTicks, hheld])
    (supply_told (f := fun p => { p with vbat := mv, sag := true, lowField := true, lowTold := true })
      (State.supplyEvt_hostOnly ..))

/-- What a BROWNOUT shed restarts, and only where it shed something (R423). -/
theorem State.restart_pwr (s : State) : s.restart.pwr = { s.pwr with shed := false } := by
  unfold State.restart
  split
  · dsimp only
    split
    · exact State.each_induct State.pwr (fun u k => by simp) _ _
    · rfl
  next hshed =>
    have hshed' : s.pwr.shed = false := by simpa using hshed
    rw [← hshed']

theorem execLowFieldRelease_releases (hlow : s.pwr.lowField = true) (hbrown : s.pwr.brownout = false) (hmv : 9500 < mv)
    (hheld : 25000 ≤ held) : Completes (.lowFieldRelease dt mv held) s (fun t =>
      t.pwr = { s.pwr with vbat := mv, lowField := false, lowTold := false, shed := false } ∧ t.dev = s.dev
      ∧ t.valves = s.valves) := by
  refine completes_of_cond rfl (by simp [hlow, hbrown, hmv, usTicks, hheld]) ?_
  refine ⟨?_, by simp [State.readVbat], by simp [State.readVbat]⟩
  rw [(State.supplyClears_keeps _).2.2.2.2.1, State.restart_pwr]
  rfl

theorem execBrownoutRecovery_recovers (hbrown : s.pwr.brownout = true) (hmv : 6500 < mv) (hheld : 2500 ≤ held) :
    Completes (.brownoutRecovery dt mv held) s (fun t =>
      t.pwr = { s.pwr with vbat := mv, brownout := false, onHold := false } ∧ PwrOnly (s.advance dt) t) :=
  completes_of_cond rfl (by simp [hbrown, hmv, usTicks, hheld])
    (supply_told (f := fun p => { p with vbat := mv, brownout := false, onHold := false }) (HostOnly.refl _))

theorem execVbatOvervoltageRelease_releases (hover : s.pwr.overV = true) (hmv : mv < 64000) (hheld : 2500 ≤ held) :
    Completes (.vbatOvervoltageRelease dt mv held) s (fun t =>
      t.pwr = { s.pwr with vbat := mv, overV := false } ∧ t.dev = s.dev ∧ t.valves = s.valves) := by
  refine completes_of_cond rfl (by simp [hover, hmv, usTicks, hheld]) ?_
  exact ⟨by simp, by simp [State.readVbat], by simp [State.readVbat]⟩

end Vbat

/-! ### VIO24 and VHIO -/

section Vio

variable {s : State} {dt mv held : Nat}

theorem execVioLow_enters (hmv : mv < 16000) (hlow : s.pwr.vioLow = false) (hheld : 250000 ≤ held) :
    Completes (.vioLow dt mv held) s (fun t =>
      t.pwr = { s.pwr with vio24 := mv, vioLow := true } ∧ PwrOnly (s.advance dt) t) :=
  completes_of_cond rfl (by simp [hmv, hlow, hheld])
    (supply_told (f := fun p => { p with vio24 := mv, vioLow := true }) (State.vioEvt_hostOnly ..))

theorem execVioLow_reads (hmv : 16000 ≤ mv) : Completes (.vioLow dt mv held) s (fun t =>
    t = { s.advance dt with pwr := { s.pwr with vio24 := mv } }) :=
  completes_of_not_cond rfl (by simp [Nat.not_lt.2 hmv]) rfl

theorem execVioLost_enters (hmv : mv < 12000) (hlost : s.pwr.vioLost = false) (hheld : 250000 ≤ held) :
    Completes (.vioLost dt mv held) s (fun t =>
      t.pwr = { s.pwr with vio24 := mv, vioLow := true, vioLost := true } ∧ PwrOnly (s.advance dt) t) :=
  completes_of_cond rfl (by simp [hmv, hlost, hheld])
    (supply_told (f := fun p => { p with vio24 := mv, vioLow := true, vioLost := true }) (State.vioEvt_hostOnly ..))

theorem execVioRestored_restores (hlost : s.pwr.vioLost = true) (hmv : 14000 < mv) (hheld : 250000 ≤ held) :
    Completes (.vioRestored dt mv held) s (fun t =>
      t.pwr = { s.pwr with vio24 := mv, vioLost := false, vioLow := decide (mv < 16000) } ∧ PwrOnly (s.advance dt) t) :=
  completes_of_cond rfl (by simp [hmv, hlost, hheld])
    (supply_told (f := fun p => { p with vio24 := mv, vioLost := false, vioLow := decide (mv < 16000) })
      (State.vioEvt_hostOnly ..))

theorem execVio24Overvoltage_enters (hmv : 35000 < mv) (hover : s.pwr.vio24Ov = false) (hheld : 250000 ≤ held) :
    Completes (.vio24Overvoltage dt mv held) s (fun t =>
      t.pwr = { s.pwr with vio24 := mv, vio24Ov := true } ∧ PwrOnly (s.advance dt) t) :=
  completes_of_cond rfl (by simp [hmv, hover, hheld])
    (supply_told (f := fun p => { p with vio24 := mv, vio24Ov := true }) (State.vioEvt_hostOnly ..))

theorem execVio24OvervoltageRelease_releases (hover : s.pwr.vio24Ov = true) (hmv : mv < 33000) (hheld : 250000 ≤ held) :
    Completes (.vio24OvervoltageRelease dt mv held) s (fun t =>
      t.pwr = { s.pwr with vio24 := mv, vio24Ov := false } ∧ PwrOnly (s.advance dt) t) :=
  completes_of_cond rfl (by simp [hmv, hover, hheld])
    (supply_told (f := fun p => { p with vio24 := mv, vio24Ov := false }) (HostOnly.refl _))

theorem execVhioRestored_restores (hlow : s.pwr.vhioLow = true) (hin : s.vhioIn mv = true) (hheld : 250000 ≤ held) :
    Completes (.vhioRestored dt mv held) s (fun t => t.pwr = { s.pwr with vhioLow := false } ∧ PwrOnly (s.advance dt) t) := by
  have hin' : (s.advance dt).vhioIn mv = true := hin
  refine completes_of_cond rfl (by simp [hlow, hin', hheld]) ?_
  dsimp only
  refine supply_told (f := fun p => { p with vhioLow := false }) ?_
  split
  · exact HostOnly.refl _
  · unfold State.safenFree
    split
    · exact State.raise_hostOnly ..
    · exact HostOnly.refl _

end Vio

/-! ### Drive and load suspensions -/

/-- The rail switch that is set takes its group's source; the others stay. -/
theorem State.setRail_rail (s : State) (g j : Nat) :
    ((s.setRail g).group j).rail = 0 ∨ j = g ∧ ((s.setRail g).group j).rail = s.railSource g
      ∨ ((s.setRail g).group j).rail = (s.group j).rail := by
  have hrail := s.setRail_induct (fun u => (u.group j).rail) (fun _ _ _ => rfl) g
  simp only [State.group, State.updGroup, List.getD_eq_getElem?_getD, List.getElem?_modify] at hrail ⊢
  rw [hrail]
  cases s.valves.grp[j]? with
  | none => exact .inl rfl
  | some x =>
    by_cases h : g = j
    · exact .inr (.inl ⟨h.symm, by simp [h]⟩)
    · exact .inr (.inr (by simp [h]))

/-- Quadrant `q` is suspended. -/
abbrev State.driveOff (s : State) (q : Nat) : Prop := s.pwr.drvSusp.getD q false = true

theorem State.railSource_suspended {s : State} {g : Nat} (h : s.driveOff (g / 3)) : s.railSource g = 0 := by
  unfold State.railSource
  rw [h, Bool.or_true]
  rfl

/-- A rail switch of a suspended quadrant that is set opens, and stays open. -/
theorem State.setRail_opens {s : State} {g : Nat} (h : s.driveOff (g / 3)) : ((s.setRail g).group g).rail = 0 := by
  have hnone : s.railSource g = 0 := State.railSource_suspended h
  have hmod := s.setRail_induct (fun u => (u.group g).rail) (fun _ _ _ => rfl) g
  simp only [State.group, State.updGroup, List.getD_eq_getElem?_getD, List.getElem?_modify] at hmod ⊢
  rw [hmod]
  cases s.valves.grp[g]? with
  | none => rfl
  | some x => simp [hnone]

theorem State.setRail_stays_open {s : State} {g : Nat} (j : Nat) (h : s.driveOff (g / 3) ∧ (s.group g).rail = 0) :
    (s.setRail j).driveOff (g / 3) ∧ ((s.setRail j).group g).rail = 0 := by
  obtain ⟨hoff, hrail⟩ := h
  refine ⟨by simpa [State.driveOff] using hoff, ?_⟩
  by_cases hj : g = j
  · subst hj
    exact State.setRail_opens hoff
  · rcases s.setRail_rail j g with hzero | ⟨heq, -⟩ | hkept
    · exact hzero
    · exact absurd heq hj
    · rw [hkept, hrail]

/-- Every rail switch of a suspended quadrant is open (R424). -/
theorem State.suspend_opens (s : State) {q g : Nat} (hq : q < s.pwr.drvSusp.length) (hlo : 3 * q ≤ g) (hhi : g ≤ 3 * q + 2) :
    ((s.suspend q).group g).rail = 0 := by
  have hdiv : g / 3 = q := by omega
  unfold State.suspend
  extract_lets s1 s2
  have h1 : s1.driveOff (g / 3) := by
    simp [State.driveOff, s1, hdiv, hq]
  have h2 : s2.pwr = s1.pwr :=
    State.each_induct State.pwr (fun u ch => by unfold State.suspendCh; split <;> simp) s1 _
  have hmem : g ∈ quadGroups q := List.mem_map.2 ⟨g - 3 * q, List.mem_range.2 (by omega), by omega⟩
  refine (State.each_makes (I := fun u => u.driveOff (g / 3)) (P := fun u => u.driveOff (g / 3) ∧ (u.group g).rail = 0) hmem
    (fun u j hu => ?_) (fun u hu => ⟨?_, State.setRail_opens hu⟩) (fun u j hu => State.setRail_stays_open j hu) ?_).2
  · simpa [State.driveOff] using hu
  · simpa [State.driveOff] using hu
  · simpa [State.driveOff, h2] using h1

theorem State.suspend_keeps_parts (s : State) (q : Nat) :
    (s.suspend q).pwr = { s.pwr with drvSusp := s.pwr.drvSusp.set q true } ∧ (s.suspend q).dev = s.dev
      ∧ (s.suspend q).loops = s.loops ∧ (s.suspend q).flash = s.flash := by
  simp [State.suspend]

theorem State.resume_keeps_parts (s : State) (q : Nat) :
    (s.resume q).pwr = { s.pwr with drvSusp := s.pwr.drvSusp.set q false } ∧ (s.resume q).dev = s.dev
      ∧ (s.resume q).loops = s.loops ∧ (s.resume q).flash = s.flash := by
  simp [State.resume]

theorem outOfWindow_iff (mv : Nat) : outOfWindow mv = true ↔ mv < 5500 ∨ 60500 < mv := by simp [outOfWindow]

theorem inWindow_of_mem {mv : Nat} (hlo : 6000 ≤ mv) (hhi : mv ≤ 59500) : inWindow mv = true := by simp [inWindow, hlo, hhi]

@[simp] theorem State.lsAll_valves (s : State) : s.lsAll.valves = s.valves := by
  have hput : ∀ (u : State) (n : Nat), (u.lsApply n).valves = u.valves := fun u n => by
    unfold State.lsApply
    dsimp only
    split
    · simp
    · exact (State.lsOwned_keeps u n).2.2.2.2.2.2.2.2.2.2.2.1
  exact State.each_induct State.valves hput s _

section Suspension

variable {s : State} {dt q mv held : Nat}

theorem execDriveSuspension_suspends (hq : q < s.nQuad) (hmv : mv < 5500 ∨ 60500 < mv)
    (hoff : s.pwr.drvSusp.getD q false = false) (hheld : 2500 ≤ held) : Completes (.driveSuspension dt q mv held) s (fun t =>
      t.pwr = { s.pwr with vdrv := s.pwr.vdrv.set q mv, drvSusp := s.pwr.drvSusp.set q true }
      ∧ (q < s.pwr.drvSusp.length → ∀ g, 3 * q ≤ g → g ≤ 3 * q + 2 → (t.group g).rail = 0)
      ∧ t.dev = s.dev ∧ t.loops = s.loops ∧ t.flash = s.flash) := by
  have hq' : q < ((s.advance dt).updPwr (fun p => { p with vdrv := p.vdrv.set q mv })).nQuad := hq
  rw [List.getD_eq_getElem?_getD] at hoff
  refine completes_of_cond rfl (by simp [hq', (outOfWindow_iff mv).2 hmv, hoff, usTicks, hheld]) ?_
  obtain ⟨hpwr, hdev, hloops, hflash⟩ := State.suspend_keeps_parts ((s.advance dt).updPwr (fun p => { p with vdrv := p.vdrv.set q mv })) q
  rw [hpwr, hdev, hloops, hflash]
  exact ⟨rfl, fun hlen g hlo hhi => State.suspend_opens _ hlen hlo hhi, rfl, rfl, rfl⟩

theorem execDriveSuspensionEnd_resumes (hq : q < s.nQuad) (hon : s.pwr.drvSusp.getD q false = true) (hlo : 6000 ≤ mv)
    (hhi : mv ≤ 59500) (hheld : 2500 ≤ held) : Completes (.driveSuspensionEnd dt q mv held) s (fun t =>
      t.pwr = { s.pwr with vdrv := s.pwr.vdrv.set q mv, drvSusp := s.pwr.drvSusp.set q false }
      ∧ t.dev = s.dev ∧ t.loops = s.loops ∧ t.flash = s.flash) := by
  have hq' : q < ((s.advance dt).updPwr (fun p => { p with vdrv := p.vdrv.set q mv })).nQuad := hq
  rw [List.getD_eq_getElem?_getD] at hon
  refine completes_of_cond rfl (by simp [hq', inWindow_of_mem hlo hhi, hon, usTicks, hheld]) ?_
  obtain ⟨hpwr, hdev, hloops, hflash⟩ := State.resume_keeps_parts ((s.advance dt).updPwr (fun p => { p with vdrv := p.vdrv.set q mv })) q
  rw [hpwr, hdev, hloops, hflash]
  exact ⟨rfl, rfl, rfl, rfl⟩

theorem State.lsAll_loops (s : State) : ∃ l, s.lsAll = { s with loops := l } := by
  generalize ht : s.lsAll = t
  exact ⟨t.loops, State.eq_of_parts (by simp [← ht])⟩

/-- The switches set after a change of the supplies: nothing else changes. -/
theorem lsAll_after {s : State} {dt : Nat} (f : Pwr → Pwr) {t : State} (ht : t = ((s.advance dt).updPwr f).lsAll) :
    t.pwr = f s.pwr ∧ t = { s.advance dt with pwr := t.pwr, loops := t.loops } := by
  obtain ⟨l, hl⟩ := ((s.advance dt).updPwr f).lsAll_loops
  rw [ht, hl]
  exact ⟨rfl, rfl⟩

theorem execLoadSuspension_suspends (hq : q < 4) (hmv : mv < 5500 ∨ 60500 < mv) (hoff : s.pwr.loadSusp.getD q false = false)
    (hheld : 2500 ≤ held) : Completes (.loadSuspension dt q mv held) s (fun t =>
      t.pwr = { s.pwr with vload := s.pwr.vload.set q mv, loadSusp := s.pwr.loadSusp.set q true }
      ∧ t = { s.advance dt with pwr := t.pwr, loops := t.loops }) := by
  rw [List.getD_eq_getElem?_getD] at hoff
  exact completes_of_cond rfl (by simp [hq, (outOfWindow_iff mv).2 hmv, hoff, usTicks, hheld])
    (lsAll_after (fun p => { p with vload := p.vload.set q mv, loadSusp := p.loadSusp.set q true }) rfl)

theorem execLoadSuspensionEnd_resumes (hq : q < 4) (hon : s.pwr.loadSusp.getD q false = true) (hlo : 6000 ≤ mv)
    (hhi : mv ≤ 59500) (hheld : 2500 ≤ held) : Completes (.loadSuspensionEnd dt q mv held) s (fun t =>
      t.pwr = { s.pwr with vload := s.pwr.vload.set q mv, loadSusp := s.pwr.loadSusp.set q false }
      ∧ t = { s.advance dt with pwr := t.pwr, loops := t.loops }) := by
  rw [List.getD_eq_getElem?_getD] at hon
  exact completes_of_cond rfl (by simp [hq, inWindow_of_mem hlo hhi, hon, usTicks, hheld])
    (lsAll_after (fun p => { p with vload := p.vload.set q mv, loadSusp := p.loadSusp.set q false }) rfl)

end Suspension

/-- Settles O5: a condition is set or cleared and told, and a suspension opens its rails. -/
theorem supplyRows : Obligations.SupplyRows :=
  ⟨fun _ _ _ _ => execSagEnter_sags, fun _ _ _ _ => execSagRelease_releases, fun _ _ _ _ => execLowFieldEnter_enters,
    fun _ _ _ _ => execLowFieldRelease_releases, fun _ _ _ _ => execBrownoutRecovery_recovers,
    fun _ _ _ _ => execVbatOvervoltageRelease_releases, fun _ _ _ _ => execVioLow_enters, fun _ _ _ _ => execVioLost_enters,
    fun _ _ _ _ => execVioRestored_restores, fun _ _ _ _ => execVio24Overvoltage_enters,
    fun _ _ _ _ => execVio24OvervoltageRelease_releases, fun _ _ _ _ => execVhioRestored_restores,
    fun _ _ _ _ => execSagEnter_reads, fun _ _ _ _ => execVioLow_reads, fun _ _ _ _ _ => execDriveSuspension_suspends,
    fun _ _ _ _ _ => execDriveSuspensionEnd_resumes, fun _ _ _ _ _ => execLoadSuspension_suspends,
    fun _ _ _ _ _ => execLoadSuspensionEnd_resumes⟩

end Sys2Proof.Machine
end

section
/-! O9 and O10: the cross-check between the lanes (R441 to R445), and the monitors (R445 to R451). -/

namespace Sys2Proof.Machine

/-! ### FAULT stays while more is detected -/

theorem State.toFault_of_fault {s : State} (h : s.dev.st = .fault) (cause : Nat) : s.toFault cause = s := by
  simp [State.toFault, h]

/-- A module that has found class `c` forces safe in both lanes, and both have detected it. -/
theorem inFault_iff {c : FCause} {s : State} : InFault c 2 s ↔ s.dev.st = .fault ∧ c ∈ s.dev.causes
    ∧ (s.sag.a.force = true ∧ s.sag.b.force = true)
    ∧ s.sag.a.detected.getLsbD c.klass = true ∧ s.sag.b.detected.getLsbD c.klass = true := by
  simp [InFault, Sag.inLane]

/-- A further module-wide detection leaves a faulted module's FAULT as it is. -/
theorem State.moduleWide_keepsFault {s : State} {c : FCause} (h : InFault c 2 s) (d : FCause) (lane : Nat) :
    InFault c 2 (s.moduleWide d lane) := by
  obtain ⟨hst, hcause, ⟨hfa, hfb⟩, hda, hdb⟩ := inFault_iff.1 h
  rw [inFault_iff]
  unfold State.moduleWide State.noteClass
  dsimp only
  rw [State.toFault_of_fault (by (repeat' split) <;> simp [hst])]
  simp only [State.addCause_keeps, State.addCause_st]
  refine ⟨?_, State.addCause_mem _ _ _ (.inl ?_), ⟨?_, ?_⟩, ?_, ?_⟩ <;> by_cases h0 : lane = 0 <;> by_cases h1 : lane = 1
    <;> (repeat' split) <;> simp_all

theorem State.clockFault_keepsFault {s : State} {c : FCause} (h : InFault c 2 s) (lane : Nat) :
    InFault c 2 (s.clockFault lane) := by
  rw [State.clockFault_of_booted lane (by simp [DevState.booted, h.1])]
  exact (State.moduleWide_keepsFault h (.cls 5) lane).of_same rfl rfl rfl

theorem State.refLost_keepsFault {s : State} {c : FCause} (h : InFault c 2 s) : InFault c 2 s.refLost := by
  rw [State.refLost_of_booted (by simp [DevState.booted, h.1])]
  exact (State.moduleWide_keepsFault (s := s.updSag (fun g => { g with refBad := true })) h (.cls 5) 2).of_same rfl rfl rfl

/-! ### The comparison of the clocks (R442) -/

/-- How many exchanges in a row each clock has been the odd one. -/
def oddCounts (odd : List Nat) (x : CrossObs) : List Nat :=
  (odd.zip (oddOnes x)).map (fun p => if p.2 then p.1 + 1 else 0)

/-- No clock is the odd one: none has been for 10 us. -/
theorem oddCounts_none {x : CrossObs} (hx : oddOnes x = [false, false, false]) (odd : List Nat) (i : Nat) :
    (oddCounts odd x).getD i 0 ≠ 2 := by
  have hzero : ∀ k ∈ oddCounts odd x, k = 0 := by
    intro k hk
    obtain ⟨p, hp, rfl⟩ := List.mem_map.1 hk
    have hp2 : p.2 = false := by simpa [hx] using (List.of_mem_zip hp).2
    simp [hp2]
  rcases Nat.lt_or_ge i (oddCounts odd x).length with hlt | hge
  · rw [List.getD_eq_getElem _ _ hlt, hzero _ (List.getElem_mem hlt)]
    decide
  · rw [List.getD_eq_default _ _ hge]
    decide

/-- What the comparison of the clocks can do: notes on the clocks, and a clock that is the odd one is class 5. -/
theorem State.clockCompare_induct {P : State → Prop} {x : CrossObs} {s : State} (hs : P s)
    (hnote : ∀ t odd bad frm named, P t →
      P (t.updSag (fun g => { g with clockOdd := odd, refBad := bad, refFrom := frm, clockNamed := named })))
    (hlost : oddOnes x ≠ [false, false, false] → ∀ t, P t → P t.refLost)
    (hfault : oddOnes x ≠ [false, false, false] → ∀ t, P t → P (t.clockFault 2)) : P (s.clockCompare x) := by
  have hodd : ∀ i, (oddCounts s.sag.clockOdd x).getD i 0 = 2 → oddOnes x ≠ [false, false, false] :=
    fun i hi hx => oddCounts_none hx _ _ hi
  have hcounted : ∀ t, P t → ∀ (i : Nat) (f : State → State), (oddOnes x ≠ [false, false, false] → ∀ t, P t → P (f t)) →
      P (if (oddCounts s.sag.clockOdd x).getD i 0 = 2 then f t else t) := by
    intro t ht i f hf
    split
    next hi => exact hf (hodd i hi) t ht
    next => exact ht
  unfold State.clockCompare
  refine hcounted _ (hcounted _ (hcounted _ ?_ 0 State.refLost hlost) 1 (State.clockFault · 2) hfault) 2 (State.clockFault · 2) hfault
  change P (match (oddCounts s.sag.clockOdd x).idxOf? 2 with | some _ => _ | none => _)
  have hgood : ∀ t, P t → P (if t.sag.refBad && decide (25740000 ≤ x.refHz) && decide (x.refHz ≤ 26260000) then
      t.updSag (fun g => { g with refBad := false, refFrom := t.time.up }) else t) := by
    intro t ht
    split
    · exact hnote t t.sag.clockOdd _ _ t.sag.clockNamed ht
    · exact ht
  have hcount := hgood _ (hnote s (oddCounts s.sag.clockOdd x) s.sag.refBad s.sag.refFrom s.sag.clockNamed hs)
  split
  · exact hnote _ _ _ _ _ hcount
  · exact hcount

/-! ### The exchange (R440, R441) -/

/-- Taking back the classes whose causes are gone masks what both lanes have detected, and nothing else. -/
theorem State.currentClasses_eq (s : State) :
    ∃ m, s.currentClasses = s.updLane 2 (fun l => { l with detected := l.detected &&& m }) := by
  refine State.each_keeps (P := fun u => ∃ m, u = s.updLane 2 (fun l => { l with detected := l.detected &&& m })) ?_ _
    ⟨BitVec.allOnes 15, by simp only [BitVec.and_allOnes]; rfl⟩
  rintro _ k ⟨m, rfl⟩
  split
  · exact ⟨m &&& ~~~(BitVec.ofNat 15 (2 ^ k)), by simp [State.clearClass, State.updLane, State.updSag, BitVec.and_assoc]⟩
  · exact ⟨m, rfl⟩

/-- Lanes that agree still agree then. -/
theorem State.currentClasses_agree {s : State} {x : CrossObs} (h : s.lanesDiffer x = false) :
    s.currentClasses.lanesDiffer x = false := by
  obtain ⟨m, hm⟩ := s.currentClasses_eq
  simp only [State.lanesDiffer, Bool.or_eq_false_iff, bne_eq_false_iff_eq] at h ⊢
  obtain ⟨⟨⟨⟨hforce, hcrc⟩, hstraps⟩, hsafen⟩, hdet⟩ := h
  rw [hm]
  refine ⟨⟨⟨⟨hforce, hcrc⟩, hstraps⟩, hsafen⟩, ?_⟩
  simp [hdet]

/-- What an exchange notes first: its number, the frames bad and the exchanges that differ in a row, and the oscillators. -/
def State.exchangeNoted (s : State) (x : CrossObs) (bad differ : Bool) : State :=
  (s.updSag (fun g =>
    { g with seq := g.seq + 1, badFrames := if bad then g.badFrames + 1 else 0, diff := if differ then g.diff + 1 else 0,
             agreeFrom := if bad || differ then s.now else g.agreeFrom,
             unconfirmed := g.unconfirmed.filter (fun u => !g.otherHas u) })).updSag (fun g =>
    { g with a := { g.a with oscHz := x.oscA, mism := if differ then satInc g.a.mism else g.a.mism },
             b := { g.b with oscHz := x.oscB, mism := if differ then satInc g.b.mism else g.b.mism } })

/-- The verdict on the exchange: the second difference or bad frame in a row is class 9 (R441, R445). -/
def State.exchangeJudged (s : State) (fine : Bool) : State :=
  if s.sag.diff = 2 ∨ s.sag.badFrames = 2 then s.moduleWide (.cls 9) 2 else if fine && s.sag.pathsOk then s.clearClass 9 else s

theorem State.crossCheck_eq (s : State) (x : CrossObs) {bad differ : Bool} (hbad : (!(x.okA && x.okB)) = bad)
    (hdiffer : (!bad && s.currentClasses.lanesDiffer x) = differ) :
    s.crossCheck x =
      let t := ((s.currentClasses.exchangeNoted x bad differ).exchangeJudged (!bad && !differ)).clockCompare x
      (if bad then t else t.takeLimits).showLanes := by
  subst hbad hdiffer
  rfl

/-- The exchange's last step shows the lanes' registers, which are not what FAULT is read off. -/
theorem State.showLanes_keepsFault {s : State} {c : FCause} (h : InFault c 2 s) : InFault c 2 s.showLanes := h

theorem State.takeLimits_keepsFault {s : State} {c : FCause} (h : InFault c 2 s) : InFault c 2 s.takeLimits := by
  unfold State.takeLimits
  split <;> exact h

theorem State.clockCompare_keepsFault {s : State} {c : FCause} (h : InFault c 2 s) (x : CrossObs) :
    InFault c 2 (s.clockCompare x) :=
  State.clockCompare_induct h (fun _ _ _ _ _ ht => ht) (fun _ _ ht => State.refLost_keepsFault ht)
    (fun _ _ ht => State.clockFault_keepsFault ht 2)

/-- The second difference or bad frame in a row faults the module with class 9. -/
theorem State.crossCheck_faults {s : State} {x : CrossObs} {bad differ : Bool} (hs : s.dev.st.booted)
    (hbad : (!(x.okA && x.okB)) = bad) (hdiffer : (!bad && s.currentClasses.lanesDiffer x) = differ)
    (htwo : (s.currentClasses.exchangeNoted x bad differ).sag.diff = 2
      ∨ (s.currentClasses.exchangeNoted x bad differ).sag.badFrames = 2) : InFault (.cls 9) 2 (s.crossCheck x) := by
  rw [State.crossCheck_eq s x hbad hdiffer]
  have hjudged := State.moduleWide_inFault (s.currentClasses.exchangeNoted x bad differ) (.cls 9) 2
    (by simpa [State.exchangeNoted] using hs) (by decide)
  rw [State.exchangeJudged, if_pos htwo]
  apply State.showLanes_keepsFault
  split
  · exact State.clockCompare_keepsFault hjudged x
  · exact State.takeLimits_keepsFault (State.clockCompare_keepsFault hjudged x)

/-- What an exchange that agrees leaves: Saggar's counts and oscillators, all else as it was. -/
structure Agreed (s : State) (x : CrossObs) (t : State) : Prop where
  seq : t.sag.seq = s.sag.seq + 1
  diff : t.sag.diff = 0
  badFrames : t.sag.badFrames = 0
  oscA : t.sag.a.oscHz = x.oscA
  oscB : t.sag.b.oscHz = x.oscB
  rest : { t with sag := s.sag } = s

theorem State.exchangeNoted_agreed (s : State) (x : CrossObs) : Agreed s x (s.currentClasses.exchangeNoted x false false) := by
  obtain ⟨m, hm⟩ := s.currentClasses_eq
  rw [hm]
  exact ⟨rfl, rfl, rfl, rfl, rfl, rfl⟩

theorem Agreed.takeLimits {s t : State} {x : CrossObs} (h : Agreed s x t) : Agreed s x t.takeLimits := by
  obtain ⟨hseq, hdiff, hbad, ha, hb, hrest⟩ := h
  unfold State.takeLimits
  split
  · exact ⟨hseq, hdiff, hbad, ha, hb, hrest⟩
  · exact ⟨hseq, hdiff, hbad, ha, hb, hrest⟩

theorem Agreed.showLanes {s t : State} {x : CrossObs} (h : Agreed s x t) : Agreed s x t.showLanes :=
  ⟨h.seq, h.diff, h.badFrames, h.oscA, h.oscB, h.rest⟩

theorem Agreed.eq {s t : State} {x : CrossObs} (h : Agreed s x t) : t = { s with sag := t.sag } := by
  rw [← h.rest]

theorem Agreed.judged {s t : State} {x : CrossObs} (h : Agreed s x t) (fine : Bool) : Agreed s x (t.exchangeJudged fine) := by
  obtain ⟨hseq, hdiff, hbad, ha, hb, hrest⟩ := h
  unfold State.exchangeJudged
  rw [if_neg (by simp [hdiff, hbad])]
  split
  · exact ⟨hseq, hdiff, hbad, ha, hb, hrest⟩
  · exact ⟨hseq, hdiff, hbad, ha, hb, hrest⟩

/-- An exchange whose frames arrive and agree, while no clock is the odd one. -/
theorem State.crossCheck_agreed {s : State} {x : CrossObs} (ha : x.okA = true) (hb : x.okB = true)
    (hsame : s.lanesDiffer x = false) (hx : oddOnes x = [false, false, false]) : Agreed s x (s.crossCheck x) := by
  rw [State.crossCheck_eq s x (bad := false) (differ := false) (by simp [ha, hb]) (by simp [State.currentClasses_agree hsame])]
  have hcompared := State.clockCompare_induct (x := x) ((s.exchangeNoted_agreed x).judged true)
    (fun t odd bad frm named ht => ⟨ht.seq, ht.diff, ht.badFrames, ht.oscA, ht.oscB, ht.rest⟩)
    (fun h => absurd hx h) (fun h => absurd hx h)
  exact hcompared.takeLimits.showLanes

/-! ### The rows -/

theorem execLaneCrossCheck_of_supervised {s : State} (h : s.dev.st ≠ .reset) (dt : Nat) (x : CrossObs) :
    exec (.laneCrossCheck dt x) s = .next ((s.advance dt).crossCheck x) :=
  congrArg Host.Outcome.next (if_pos (bne_iff_ne.2 h))

theorem execForceSafePathTest_of_supervised {s : State} (h : s.dev.st ≠ .reset) (dt : Nat) (missing : List (Nat × Island)) :
    exec (.forceSafePathTest dt missing) s = .next ((s.advance dt).pathTest missing) :=
  congrArg Host.Outcome.next (if_pos (bne_iff_ne.2 h))

/-- Lane 0's only detection, which lane 1 has not made in 20 us: class 9 (R451). -/
theorem execLaneConfirmTimeout_unconfirmed {s : State} {dt k m : Nat} (hone : s.sag.unconfirmed = [(k, 0, m)])
    (hdue : m + 5000 ≤ (s.advance dt).now) (hother : s.sag.b.detected.getLsbD k = false) :
    exec (.laneConfirmTimeout dt k) s = .next (((s.advance dt).updSag (fun g =>
      { g with unconfirmed := g.unconfirmed.filter (fun v => v != (k, 0, m)) })).moduleWide (.cls 9) 2) := by
  have hfind : (s.advance dt).sag.unconfirmed.find? (fun u => u.1 = k && decide (u.2.2 + 20 * usTicks ≤ (s.advance dt).now))
      = some (k, 0, m) := by
    rw [show (s.advance dt).sag.unconfirmed = _ from hone]
    simp [hdue, usTicks]
  have hok : (s.advance dt).sag.otherHas (k, 0, m) = false := hother
  show execLaneConfirmTimeout dt k s = _
  simp only [execLaneConfirmTimeout, hfind, hok]
  rfl

theorem State.isLine_advance (s : State) (dt : Nat) (isl : Island) : (s.advance dt).isLine isl = s.isLine isl := by
  cases isl <;> rfl

@[simp] theorem State.detectRec_pathsOk (s : State) (k lane : Nat) : (s.detectRec k lane).sag.pathsOk = s.sag.pathsOk := by
  simp only [State.detectRec, State.raise_keeps]
  rfl

@[simp] theorem State.moduleWide_pathsOk (s : State) (c : FCause) (lane : Nat) :
    (s.moduleWide c lane).sag.pathsOk = s.sag.pathsOk := by
  simp only [State.moduleWide, State.toFault_sag, State.addCause_keeps]
  split
  · rfl
  · split <;> simp only [State.updSag_sag, State.detectRec_pathsOk] <;> rfl

/-- Settles O9: an exchange that agrees only counts; the second bad or differing one, a detection that the other lane does
not confirm, and a missing echo are class 9, and what the exchange still does then leaves FAULT as it is. -/
theorem crossCheckRows : Obligations.CrossCheckRows := by
  refine ⟨?agree, ?badFrame, ?differ, ?confirm, ?pathsOk, ?pathBad⟩
  case agree =>
    intro s dt x hs ha hb hsame hx
    have h := State.crossCheck_agreed (s := s.advance dt) ha hb hsame hx
    exact ⟨_, execLaneCrossCheck_of_supervised hs dt x, h.seq, h.diff, h.badFrames, h.oscA, h.oscB, h.eq⟩
  case badFrame =>
    intro s dt x hs hbad hone
    refine ⟨_, execLaneCrossCheck_of_supervised hs.1 dt x,
      State.crossCheck_faults (bad := true) (differ := false) hs (by simp [hbad]) rfl (.inr ?_)⟩
    obtain ⟨m, hm⟩ := (s.advance dt).currentClasses_eq
    simp [hm, State.exchangeNoted, State.updLane, hone]
  case differ =>
    intro s dt x hs ha hb hdiffer hone
    refine ⟨_, execLaneCrossCheck_of_supervised hs.1 dt x,
      State.crossCheck_faults (bad := false) (differ := true) hs (by simp [ha, hb]) (by simp [hdiffer]) (.inl ?_)⟩
    obtain ⟨m, hm⟩ := (s.advance dt).currentClasses_eq
    simp [hm, State.exchangeNoted, State.updLane, hone]
  case confirm =>
    intro s dt k m hs hone hdue hother
    refine ⟨_, execLaneConfirmTimeout_unconfirmed hone hdue hother, ?_⟩
    exact State.moduleWide_inFault _ (.cls 9) 2 hs (by decide)
  case pathsOk =>
    intro s dt missing hs hnone
    refine ⟨_, execForceSafePathTest_of_supervised hs dt missing, ?_⟩
    have hempty : missing.filter (fun m => (s.advance dt).isLine m.2) = [] :=
      List.filter_eq_nil_iff.2 fun m hm => by rw [State.isLine_advance, hnone m hm]; decide
    rw [State.pathTest, hempty]
    exact ⟨rfl, rfl⟩
  case pathBad =>
    intro s dt lane isl hs hlane hline
    refine ⟨_, execForceSafePathTest_of_supervised hs.1 dt _, ?_⟩
    have hmissing : [(lane, isl)].filter (fun m => (s.advance dt).isLine m.2) = [(lane, isl)] := by
      simp [State.isLine_advance, hline]
    have hpath : (s.advance dt).pathTest [(lane, isl)]
        = ((s.advance dt).updSag (fun g => { g with pathsOk := false })).moduleWide (.cls 9) lane := by
      obtain rfl | rfl : lane = 0 ∨ lane = 1 := by omega
      · rw [State.pathTest, hmissing]; rfl
      · rw [State.pathTest, hmissing]; rfl
    rw [hpath]
    exact ⟨State.moduleWide_inFault _ (.cls 9) lane hs (by decide), State.moduleWide_pathsOk ..⟩

/-! ### The memory scrub -/

/-- A module at work whose slot 0 holds a tile, while another tile waits for a slot. -/
def tileStuck : State :=
  { dev := { st := .working }, tiles := { slots := [{ slot := 0, st := .valid }], stuck := [(0, 1, 0)] } }

/-- Refutes O10: the statement has a Tile SRAM slot with an uncorrected error empty after the scrub, and leaves out a tile
that waits for a slot.  In `tileStuck` the slot lost is fetched again at once, for the waiting tile, and is listed. -/
theorem not_monitorRows : ¬ Obligations.MonitorRows := by
  intro h
  obtain ⟨-, -, -, -, -, -, -, -, -, htile, -⟩ := h
  obtain ⟨t, ht, -, hslots, -⟩ := htile tileStuck 0 0 (by decide +kernel)
  rw [← Host.Outcome.next.inj ht] at hslots
  revert hslots
  decide +kernel

end Sys2Proof.Machine
end

section
/-! For O15: what host loss and an ended request leave of HB_TIMEOUT, the rings and the vectors (R345, R482), and what a
write of four bytes to BAR0 does, by the register (R344, R477 to R483). -/

namespace Sys2Proof.Machine

/-! ### HB_TIMEOUT, and the numbers of rings and vectors: what nothing but a write or a reset of the registers sets -/

def HostIf.layout (h : HostIf) : Nat × Nat × Nat := (h.hbTimeout, h.rings.length, h.vecs.length)


@[simp] theorem HostIf.ite_layout (c : Prop) [Decidable c] (g h : HostIf) :
    (if c then g else h).layout = if c then g.layout else h.layout := apply_ite HostIf.layout c g h

@[simp] theorem State.each_layout {α : Type} {f : State → α → State} (s : State) (l : List α)
    (hf : ∀ (u : State) x, (f u x).host.layout = u.host.layout) : (s.each l f).host.layout = s.host.layout := by
  induction l generalizing s with
  | nil => rfl
  | cons x xs ih => exact (ih (f s x)).trans (hf s x)

/-! ### Writes to the link (R353, R363) -/

@[simp] theorem HostIf.issue_layout (h : HostIf) : h.issue.layout = h.layout := by
  unfold HostIf.issue
  split <;> rfl

@[simp] theorem HostIf.form_layout (h : HostIf) (w : HostWrite) : (h.form w).layout = h.layout := by
  unfold HostIf.form
  dsimp only
  (repeat' split) <;> rfl

@[simp] theorem State.emits_layout (s : State) (ws : List HostWrite) : (s.emits ws).host.layout = s.host.layout := by
  have hform : ∀ (l : List HostWrite) (h : HostIf), (l.foldl HostIf.form h).layout = h.layout := by
    intro l
    induction l with
    | nil => exact fun _ => rfl
    | cons w l ih => exact fun h => (ih (h.form w)).trans (h.form_layout w)
  simp [State.emits, hform]

@[simp] theorem State.emit_layout (s : State) (w : HostWrite) : (s.emit w).host.layout = s.host.layout :=
  s.emits_layout [w]

@[simp] theorem State.updRing_layout (s : State) (n : Nat) (f : Ring → Ring) :
    (s.updRing n f).host.layout = s.host.layout := by
  simp [HostIf.layout, State.updRing]

@[simp] theorem State.updVec_layout (s : State) (v : Nat) (f : Vec → Vec) :
    (s.updVec v f).host.layout = s.host.layout := by
  simp [HostIf.layout, State.updVec]

@[simp] theorem State.sendMsix_layout (s : State) (v : Nat) : (s.sendMsix v).host.layout = s.host.layout := by
  unfold State.sendMsix
  dsimp only
  split <;> simp

@[simp] theorem State.notify_layout (s : State) (v : Nat) (urgent : Bool) :
    (s.notify v urgent).host.layout = s.host.layout := by
  unfold State.notify
  dsimp only
  split <;> simp

@[simp] theorem State.writeStatus_layout (s : State) : s.writeStatus.host.layout = s.host.layout := by
  unfold State.writeStatus
  dsimp only
  split
  · exact s.emit_layout _
  · rfl

@[simp] theorem State.writeRec_layout (s : State) (n : Nat) (ds : List Desc) (urgent : Bool) :
    (s.writeRec n ds urgent).host.layout = s.host.layout := by
  simp [State.writeRec]

/-! ### Events (R367) -/

@[simp] theorem State.writeEvt_layout (s : State) (e : Evt) : (s.writeEvt e).host.layout = s.host.layout :=
  s.writeRec_layout 2 [e.desc s.host.evtSeq] e.urgent

@[simp] theorem State.queueEvt_layout (s : State) (e : Evt) : (s.queueEvt e).host.layout = s.host.layout := by
  unfold State.queueEvt
  split
  · rfl
  · simp
    rfl

@[simp] theorem State.raise_layout (s : State) (code subject : Nat) (data : List (Nat × Nat × Nat)) (urgent : Bool) :
    (s.raise code subject data urgent).host.layout = s.host.layout := by
  unfold State.raise
  dsimp only
  split <;> simp

/-! ### Completions (R351, R355, R360) -/

@[simp] theorem State.drainCpl_layout (k : Nat) (s : State) : (State.drainCpl k s).host.layout = s.host.layout := by
  induction k generalizing s with
  | zero => rfl
  | succ k ih =>
    unfold State.drainCpl
    split
    · rfl
    · split
      · exact (ih _).trans (State.writeRec_layout _ _ _ _)
      · rfl

@[simp] theorem State.pbaSends_layout (s : State) (v : Nat) : (s.pbaSends v).host.layout = s.host.layout := by
  unfold State.pbaSends
  dsimp only
  split
  · exact State.sendMsix_layout _ v
  · rfl

@[simp] theorem State.startSweep_layout (s : State) : s.startSweep.host.layout = s.host.layout := by
  unfold State.startSweep
  extract_lets t fresh late u v
  have ht : t.host.layout = s.host.layout := s.emit_layout _
  have hu : u.host.layout = t.host.layout := by simp [u, HostIf.layout]
  have hv : v.host.layout = u.host.layout := by
    simp only [v]
    split <;> simp
  exact (State.drainCpl_layout _ v).trans (hv.trans (hu.trans ht))

@[simp] theorem State.extraSweep_layout (s : State) : s.extraSweep.host.layout = s.host.layout := by
  unfold State.extraSweep
  extract_lets soon
  split
  · rfl
  · split
    · rfl
    · exact s.startSweep_layout

@[simp] theorem State.completeAt_layout (s : State) (op : Byte) (h : Hdr) (idx : Word) (st : Status) (res : BitVec 128)
    (mt : Nat) : (s.completeAt op h idx st res mt).host.layout = s.host.layout := by
  unfold State.completeAt
  dsimp only
  split
  · simp
  · split <;> rfl

@[simp] theorem State.finishAt_layout (s : State) (w : Waiting) (st : Status) (res : BitVec 128) (mt : Nat) :
    (s.finishAt w st res mt).host.layout = s.host.layout := by
  unfold State.finishAt
  dsimp only
  split
  · rfl
  · simp
    rfl

@[simp] theorem State.finish_layout (s : State) (w : Waiting) (st : Status) (res : BitVec 128) :
    (s.finish w st res).host.layout = s.host.layout := s.finishAt_layout w st res s.now

@[simp] theorem State.finishNone_layout (s : State) (w : Waiting) (st : Status) (res : BitVec 128) :
    (s.finishNone w st res).host.layout = s.host.layout := s.finishAt_layout w st res w.mt

/-! ### The buses' transmissions (R315, R317) -/

@[simp] theorem State.canDone_layout (s : State) (b : Nat) (idx : Word) (fs : List (Nat × Nat × Nat)) :
    (s.canDone b idx fs).host.layout = s.host.layout := by
  unfold State.canDone
  split <;> simp

@[simp] theorem State.frameDone_layout (s : State) (b : Nat) (idx : Word) (res attempts : Nat) (sof : Option Nat) :
    (s.frameDone b idx res attempts sof).host.layout = s.host.layout := State.canDone_layout ..

@[simp] theorem State.msgDone_layout (s : State) (b : Nat) (idx : Word) (res reason endMt : Nat) :
    (s.msgDone b idx res reason endMt).host.layout = s.host.layout := State.canDone_layout ..

@[simp] theorem State.doneBehind_layout (s : State) (b i : Nat) (ds : List (Word × Nat × Nat)) :
    (s.doneBehind b i ds).host.layout = s.host.layout := by
  unfold State.doneBehind
  dsimp only
  split <;> simp

@[simp] theorem State.descDone_layout (s : State) (b : Nat) (idx : Word) (ds : List Desc) (res : Nat) :
    (s.descDone b idx ds res).host.layout = s.host.layout := by
  unfold State.descDone
  split <;> simp

@[simp] theorem State.popTx_layout (s : State) (b : Nat) (r : List (Word × List Desc)) (n : Word) :
    (s.popTx b r n).host.layout = s.host.layout := by
  simp [State.popTx, HostIf.layout, State.updRing]

@[simp] theorem State.takeTx_layout (k : Nat) (s : State) (b : Nat) :
    (State.takeTx k s b).host.layout = s.host.layout := by
  induction k generalizing s with
  | zero => rfl
  | succ k ih =>
    unfold State.takeTx
    dsimp only
    (repeat' split) <;> simp [ih]

@[simp] theorem State.refill_layout (s : State) (b : Nat) : (s.refill b).host.layout = s.host.layout := by
  simp [State.refill]

@[simp] theorem State.dropTxf_layout (s : State) (b : Nat) : (s.dropTxf b).host.layout = s.host.layout := by
  unfold State.dropTxf
  dsimp only
  split <;> simp

@[simp] theorem State.stopTxf_layout (s : State) : s.stopTxf.host.layout = s.host.layout := by
  unfold State.stopTxf
  split <;> simp

@[simp] theorem State.entDiscarded_layout (s : State) (b : Nat) (e : TxEnt) :
    (s.entDiscarded b e).host.layout = s.host.layout := by
  unfold State.entDiscarded
  split <;> simp

@[simp] theorem State.canDiscard_layout (s : State) (b : Nat) (abort : Bool) :
    (s.canDiscard b abort).host.layout = s.host.layout := by
  simp [State.canDiscard]

@[simp] theorem State.dropAddress_layout (s : State) (b : Nat) :
    (s.dropAddress b).host.layout = s.host.layout := by
  unfold State.dropAddress
  dsimp only
  split <;> simp

@[simp] theorem State.canSafe_layout (s : State) (fault : Bool) : (s.canSafe fault).host.layout = s.host.layout := by
  simp [State.canSafe]

@[simp] theorem State.claimAll_layout (s : State) : s.claimAll.host.layout = s.host.layout := by
  simp [State.claimAll, State.startClaim, State.holdCf]

/-- The commands outstanding are no part of it. -/
theorem HostIf.layout_outstanding (h : HostIf) (ws : List Waiting) :
    { h with outstanding := ws }.layout = h.layout := rfl

/-! ### Loops, activities and commands that end (R412, R35) -/

@[simp] theorem State.endDetect_layout (s : State) (b : Nat) (st : Status) :
    (s.endDetect b st).host.layout = s.host.layout := by
  unfold State.endDetect
  dsimp only
  (repeat' split) <;> simp

@[simp] theorem State.dropIllegal_layout (s : State) : s.dropIllegal.host.layout = s.host.layout := by
  simp [State.dropIllegal]

@[simp] theorem State.endActivity_layout (s : State) (a : Activity) :
    (s.endActivity a).host.layout = s.host.layout := by
  unfold State.endActivity
  extract_lets t u v
  have hv : v.host = s.host := by
    simp only [v]
    rw [State.each_host _ _ _ fun w n => by (repeat' split) <;> simp]
    simp [u, t]
  split <;> simp [hv]

@[simp] theorem State.abortAct_layout (s : State) (a : Activity) : (s.abortAct a).host.layout = s.host.layout := by
  unfold State.abortAct
  dsimp only
  (repeat' split) <;> simp [HostIf.layout_outstanding]

@[simp] theorem State.abortAll_layout (s : State) : s.abortAll.host.layout = s.host.layout := by
  simp [State.abortAll]

/-! ### Entering a state -/

theorem State.enter_layout (s : State) (new : DevState) (cause : Nat) (hf : new ≠ .fault) :
    (s.enter new cause).host.layout = s.host.layout := by
  unfold State.enter
  cases new with
  | fault => exact absurd rfl hf
  | _ => simp


/-! ### Requests that end (R141, R147): commands that waited for them end too -/

@[simp] theorem State.wbEnded_layout (s : State) (slot : Nat) (ok : Bool) :
    (s.wbEnded slot ok).host.layout = s.host.layout := rfl

@[simp] theorem State.dropsEnded_layout (s : State) :
    s.dropsEnded.host.layout = s.host.layout :=
  State.each_layout _ _ fun u w => by split <;> simp

@[simp] theorem State.patchEnds_layout (s : State) (tx ty : Int) :
    (s.patchEnds tx ty).host.layout = s.host.layout :=
  State.each_layout _ _ fun u w => by (repeat' split) <;> simp

@[simp] theorem State.settled_layout (s : State) (n : Nat) :
    (s.settled n).host.layout = s.host.layout := by
  unfold State.settled
  (repeat' split) <;> simp

@[simp] theorem State.tileOver_layout (s : State) (p : TPlaced) :
    (s.tileOver p).host.layout = s.host.layout := by
  unfold State.tileOver
  dsimp only
  (repeat' split) <;> simp

@[simp] theorem State.unanswered_layout (s : State) :
    s.unanswered.host.layout = s.host.layout := by
  simp [State.unanswered]


theorem State.unboundBy_layout (s : State) (det : Nat) : (s.unboundBy det).host.layout = s.host.layout := by
  simp [State.unboundBy]

theorem State.graceExpires_layout (s : State) (m : Nat) : (s.graceExpires m).host.layout = s.host.layout := by
  unfold State.graceExpires
  rw [State.enter_layout _ _ _ (by decide)]
  simp

theorem State.hostLost_layout (s : State) (det : Nat) : (s.hostLost det).host.layout = s.host.layout :=
  s.hostLost_cases det (P := fun t => t.host.layout = s.host.layout) (by simp [State.enter_layout, State.unboundBy_layout])
    (s.unboundBy_layout det) (by simp [State.graceExpires_layout, State.unboundBy_layout]) (fun _ => s.unboundBy_layout det)

theorem State.ringStarts_rings (s : State) (n : Nat) : (s.ringStarts n).host.rings.length = s.host.rings.length := by
  unfold State.ringStarts
  split
  · exact congrArg (·.2.1) (s.unanswered_layout)
  · rfl

/-! ### Words -/

theorem setHalf_bit (x : DWord) (high : Bool) (v : Word) (i : Nat) : (setHalf x high v).getLsbD i
    = if high then (if i < 32 then x.getLsbD i else v.getLsbD (i - 32))
      else (if i < 32 then v.getLsbD i else x.getLsbD i) := by
  have happend : ∀ a b : Word, (a ++ b : DWord).getLsbD i = if i < 32 then b.getLsbD i else a.getLsbD (i - 32) :=
    fun a b => BitVec.getLsbD_append
  cases high with
  | true =>
    refine (happend _ _).trans ?_
    split <;> simp_all
  | false =>
    refine (happend _ _).trans ?_
    split
    next => rfl
    next hge =>
      have hback : 32 + (i - 32) = i := by omega
      have hout : ¬ i - 32 < 32 → x.getLsbD i = false := fun h => BitVec.getLsbD_of_ge x i (by omega)
      by_cases hin : i - 32 < 32
      · simp [hin, hback]
      · simp [hin, hout hin]

/-- The two halves of a word, each masked as it is written, are the word masked. -/
theorem setHalf_halves (x v m : DWord) :
    setHalf (setHalf x false (v.setWidth 32) &&& m) true ((v >>> 32).setWidth 32) &&& m = v &&& m := by
  refine BitVec.eq_of_getLsbD_eq fun i hi => ?_
  by_cases hlow : i < 32
  · simp [setHalf_bit, hlow]
  · simp [setHalf_bit, hlow, show i - 32 < 32 by omega, show 32 + (i - 32) = i by omega]

theorem controlWord_toNat (log2 vec : Nat) (en : Bool) :
    ((controlWord log2 vec en).setWidth 32).toNat = log2 % 16 + b2n en * 256 + vec % 32 * 65536 := by
  have hbit : b2n en ≤ 1 := by cases en <;> decide
  simp only [controlWord, pack, BitVec.toNat_setWidth, BitVec.toNat_ofNat]
  omega

theorem controlWord_fields (log2 vec : Nat) (en : Bool) :
    ((controlWord log2 vec en).setWidth 32).toNat % 16 = log2 % 16
      ∧ ((controlWord log2 vec en).setWidth 32).getLsbD 8 = en
      ∧ ((controlWord log2 vec en).setWidth 32).toNat / 65536 % 32 = vec % 32 := by
  have hbit : b2n en ≤ 1 := by cases en <;> decide
  have hen : b2n en = 1 ↔ en = true := by cases en <;> decide
  have height : ((controlWord log2 vec en).setWidth 32).toNat / 2 ^ 8 % 2 = b2n en := by
    rw [controlWord_toNat]
    omega
  refine ⟨?_, ?_, ?_⟩
  · rw [controlWord_toNat]
    omega
  · rw [BitVec.getLsbD, Nat.testBit_eq_decide_div_mod_eq, height]
    simp [hen]
  · rw [controlWord_toNat]
    omega

/-! ### A write of four bytes, by the register -/

theorem State.regWrite_four (s : State) (off : Nat) (v : DWord) : s.regWrite off 4 v = s.write32 off (v.setWidth 32) := rfl

theorem State.regWrite_eight (s : State) (off : Nat) (v : DWord) :
    s.regWrite off 8 v = (s.write32 off (v.setWidth 32)).write32 (off + 4) ((v >>> 32).setWidth 32) := rfl

/-- A locked field only sets REG_LOCKED (R344, R481). -/
theorem State.write32_locked {s : State} {off : Nat} {v : Word} (ha : off % 4 = 0) (hl : s.locks off v = true) :
    s.write32 off v = s.setRegLocked := by
  unfold State.locks at hl
  split at hl
  next hbase =>
    have hoff : off = 0x400 ∨ off = 0x404 ∨ off = 0x408 ∨ off = 0x40C := by omega
    rcases hoff with rfl | rfl | rfl | rfl <;> simp [State.write32, hl]
  next =>
    split at hl
    next hring =>
      obtain ⟨hen, hfield⟩ := Bool.and_eq_true_iff.1 hl
      unfold State.write32
      dsimp only
      repeat rw [if_neg (by omega)]
      rw [if_pos hring]
      have hrest : off % 16 = 0 ∨ off % 16 = 4 ∨ off % 16 = 8 ∨ off % 16 = 12 := by omega
      rcases hrest with hr | hr | hr | hr
      · simp [hr, hen]
      · simp [hr, hen]
      · rw [hr] at hfield
        simp only [hr, State.ringControl, hen, if_true]
        rw [if_pos (of_decide_eq_true hfield)]
      · simp [hr] at hfield
    next => exact absurd hl Bool.false_ne_true

/-- The offsets that hold no register a host writes. -/
def ignored (off : Nat) : Prop :=
  off < 0x400 ∨ (0x420 ≤ off ∧ off < 0x500) ∨ (0x600 ≤ off ∧ off < 0x700) ∨ (0x800 ≤ off ∧ off < 0x1000) ∨ 0x1200 ≤ off

theorem State.write32_ignored (s : State) {off : Nat} (h : ignored off) (v : Word) : s.write32 off v = s := by
  unfold ignored at h
  unfold State.write32
  dsimp only
  repeat rw [if_neg (by omega)]

theorem State.write32_control (s : State) {n : Nat} (hn : n < 16) (v : Word) :
    s.write32 (0x508 + 16 * n) v = s.ringControl n v := by
  have hfield : (0x508 + 16 * n) % 16 = 8 := by omega
  have hidx : (0x508 + 16 * n - 0x500) / 16 = n := by omega
  unfold State.write32
  dsimp only
  repeat rw [if_neg (by omega)]
  rw [if_pos (by omega)]
  simp only [hfield, hidx]

/-- A half of a ring's base, while the ring is not enabled. -/
theorem State.write32_ringBase {s : State} {off : Nat} (hr : 0x500 ≤ off ∧ off < 0x600) (hf : off % 16 = 0 ∨ off % 16 = 4)
    (hen : (s.ring ((off - 0x500) / 16)).en = false) (v : Word) : s.write32 off v = s.updRing ((off - 0x500) / 16)
      (fun r => { r with base := setHalf r.base (decide (off / 4 % 2 = 1)) v &&& ~~~(4095 : DWord) }) := by
  unfold State.write32
  dsimp only
  repeat rw [if_neg (by omega)]
  rw [if_pos hr]
  rcases hf with hf | hf <;> simp only [hf, hen] <;> rfl

theorem State.write32_moderation (s : State) {k : Nat} (hk : k < 32) (v : Word) : s.write32 (0x700 + 8 * k) v
    = s.updVec k (fun x => { x with modTime := min 1000 (v.toNat % 1024), modCount := max 1 (min 256 (v.toNat / 65536 % 512)) }) := by
  have hidx : (0x700 + 8 * k - 0x700) / 8 = k := by omega
  unfold State.write32
  dsimp only
  repeat rw [if_neg (by omega)]
  rw [if_pos (by omega), if_neg (by omega), hidx]

/-- A vector's message address by halves, its data, and its mask; the first and the last may let its message go. -/
theorem State.write32_vector (s : State) {k : Nat} (hk : k < 32) (v : Word) :
    s.write32 (0x1000 + 16 * k) v = (s.updVec k (fun x => { x with addr := setHalf x.addr false v &&& ~~~(3 : DWord) })).pbaSends k
      ∧ s.write32 (0x1004 + 16 * k) v = (s.updVec k (fun x => { x with addr := setHalf x.addr true v &&& ~~~(3 : DWord) })).pbaSends k
      ∧ s.write32 (0x1008 + 16 * k) v = s.updVec k (fun x => { x with data := v })
      ∧ s.write32 (0x100C + 16 * k) v = (s.updVec k (fun x => { x with mask := v.getLsbD 0 })).pbaSends k := by
  have hfield : ∀ o < 16, (0x1000 + o + 16 * k) % 16 = o ∧ (0x1000 + o + 16 * k - 0x1000) / 16 = k
      ∧ (0x1000 + o + 16 * k) / 4 % 2 = o / 4 % 2 := by omega
  have hwrite : ∀ o < 16, s.write32 (0x1000 + o + 16 * k) v =
      if o = 8 then s.updVec k (fun x => { x with data := v })
      else if o = 12 then (s.updVec k (fun x => { x with mask := v.getLsbD 0 })).pbaSends k
      else (s.updVec k (fun x => { x with addr := setHalf x.addr (decide (o / 4 % 2 = 1)) v &&& ~~~(3 : DWord) })).pbaSends k := by
    intro o ho
    obtain ⟨hmod, hidx, hhigh⟩ := hfield o ho
    unfold State.write32
    dsimp only
    repeat rw [if_neg (by omega)]
    rw [if_pos (by omega)]
    simp only [hmod, hidx, hhigh]
    split
    · rfl
    · rfl
    case h_3 h8 h12 => rw [if_neg h8, if_neg h12]
  exact ⟨hwrite 0 (by decide), hwrite 4 (by decide), hwrite 8 (by decide), hwrite 12 (by decide)⟩

end Sys2Proof.Machine
end

section
/-! For O14 and O15: the message of a vector (R353, R367, R368), and the control word of a ring (R347, R481). -/

namespace Sys2Proof.Machine

/-! ### What a write to the link changes, and a message -/

/-- A host interface with other writes and reads formed, waiting and taken: what a write to the link changes of it. -/
def HostIf.withLink (h : HostIf) (out sent : List HostWrite) (queue reads : List (Nat × HostWrite)) (prec n : Nat) : HostIf :=
  { h with out := out, sent := sent, queue := queue, reads := reads, lastPrec := prec, linkN := n }

theorem HostIf.issue_withLink (h : HostIf) : ∃ sent queue reads n, h.issue = h.withLink h.out sent queue reads h.lastPrec n := by
  unfold HostIf.issue
  split <;> exact ⟨_, _, _, _, rfl⟩

theorem HostIf.form_withLink (h : HostIf) (w : HostWrite) :
    ∃ out sent queue reads prec, h.form w = h.withLink out sent queue reads prec h.linkN := by
  unfold HostIf.form
  dsimp only
  (repeat' split) <;> exact ⟨_, _, _, _, _, rfl⟩

theorem HostIf.foldl_form_withLink (ws : List HostWrite) (h : HostIf) :
    ∃ out sent queue reads prec, ws.foldl HostIf.form h = h.withLink out sent queue reads prec h.linkN := by
  induction ws generalizing h with
  | nil => exact ⟨_, _, _, _, _, rfl⟩
  | cons w ws ih =>
    obtain ⟨_, _, _, _, _, hw⟩ := h.form_withLink w
    obtain ⟨_, _, _, _, _, hws⟩ := ih (h.form w)
    exact ⟨_, _, _, _, _, by rw [List.foldl_cons, hws, hw]; rfl⟩

theorem State.emits_withLink (s : State) (ws : List HostWrite) : ∃ out sent queue reads prec n,
    s.emits ws = s.updHost (·.withLink out sent queue reads prec n) := by
  obtain ⟨_, _, _, _, _, hws⟩ := HostIf.foldl_form_withLink (ws.filter (fun w => w.direct || s.dmaOk)) s.host
  obtain ⟨_, _, _, _, hissue⟩ := ((ws.filter (fun w => w.direct || s.dmaOk)).foldl HostIf.form s.host).issue_withLink
  exact ⟨_, _, _, _, _, _, by rw [State.emits, hissue, hws]; rfl⟩

/-- A vector's message is withheld, and its PBA bit set instead (R368, R482, R483). -/
def State.withheld (s : State) (v : Nat) : Bool :=
  (s.vec v).mask || s.host.fmask || decide ((s.vec v).addr = 0) || s.host.paused || !s.dmaOk

/-- A message, sent or withheld, ends the count of its vector; the rest of the host interface that it changes is the link. -/
theorem State.sendMsix_withLink (s : State) (v : Nat) : ∃ sent queue reads prec n,
    s.sendMsix v = (s.updHost (·.withLink
        (if s.withheld v then s.host.out else s.host.out ++ [.msix v (s.vec v).addr (s.vec v).data]) sent queue reads prec n)).updVec v
      (fun x => { x with pba := s.withheld v, count := 0 }) := by
  cases hw : s.withheld v with
  | true =>
    refine ⟨s.host.sent, s.host.queue, s.host.reads, s.host.lastPrec, s.host.linkN, ?_⟩
    have hcond : ((s.vec v).mask || s.host.fmask || decide ((s.vec v).addr = 0) || s.host.paused || !s.dmaOk) = true := hw
    unfold State.sendMsix
    rw [if_pos hcond]
    rfl
  | false =>
    have hcond : ((s.vec v).mask || s.host.fmask || decide ((s.vec v).addr = 0) || s.host.paused || !s.dmaOk) = false := hw
    have hdma : s.dmaOk = true := by
      simp only [Bool.or_eq_false_iff, Bool.not_eq_false'] at hcond
      exact hcond.2
    obtain ⟨out, sent, queue, reads, prec, n, hemit⟩ := s.emits_withLink [.msix v (s.vec v).addr (s.vec v).data]
    have hout : out = s.host.out ++ [.msix v (s.vec v).addr (s.vec v).data] := by
      rw [← State.emit_out hdma, State.emit, hemit]
      rfl
    refine ⟨sent, queue, reads, prec, n, ?_⟩
    unfold State.sendMsix
    dsimp only
    rw [if_neg (by rw [hcond]; decide), State.emit, hemit, hout]
    rfl

theorem State.sendLate_withLink (s : State) (v : Nat) : ∃ sent queue reads prec n,
    s.sendLate v = (s.updHost (·.withLink
        (if s.withheld v then s.host.out else s.host.out ++ [.msix v (s.vec v).addr (s.vec v).data]) sent queue reads prec n)).updVec v
      (fun x => { x with pba := s.withheld v, count := 0 }) := by
  unfold State.sendLate
  dsimp only
  generalize ((s.host.queue.filter (s.beforeMsix v)).map (·.1)).foldl max 1 = p
  obtain ⟨sent, queue, reads, prec, n, h⟩ := (s.updHost (fun h => { h with lastPrec := p })).sendMsix_withLink v
  exact ⟨sent, queue, reads, prec, n, h⟩

theorem State.sendLate_vec {s : State} {v : Nat} (hv : v < s.host.vecs.length) (j : Nat) : (s.sendLate v).vec j
    = if j = v then { s.vec j with pba := s.withheld v, count := 0 } else s.vec j := by
  obtain ⟨sent, queue, reads, prec, n, h⟩ := s.sendLate_withLink v
  rw [h]
  exact State.vec_updVec (s.updHost _) v j _ hv

theorem State.sendLate_out (s : State) (v : Nat) : (s.sendLate v).host.out
    = if s.withheld v then s.host.out else s.host.out ++ [.msix v (s.vec v).addr (s.vec v).data] := by
  obtain ⟨sent, queue, reads, prec, n, h⟩ := s.sendLate_withLink v
  rw [h]
  rfl

theorem State.sendLate_host (s : State) (v : Nat) : s.sendLate v = { s with host := (s.sendLate v).host } := by
  obtain ⟨sent, queue, reads, prec, n, h⟩ := s.sendLate_withLink v
  rw [h]
  rfl

/-! ### A vector whose PBA bit is set -/

/-- The set PBA bit of a vector that is not masked, and has a message. -/
def State.pbaDue (s : State) (v : Nat) : Bool :=
  (s.vec v).pba && !(s.vec v).mask && !s.host.fmask && decide ((s.vec v).addr ≠ 0)

theorem State.pbaSends_eq (s : State) (v : Nat) : s.pbaSends v = if s.pbaDue v then s.sendLate v else s := rfl

theorem State.pbaSends_host (s : State) (v : Nat) : s.pbaSends v = { s with host := (s.pbaSends v).host } := by
  rw [State.pbaSends_eq]
  split
  · exact s.sendLate_host v
  · rfl

/-- Of a vector only the PBA bit and the count can change, and these only where its message is due. -/
theorem State.pbaSends_vec {s : State} {v : Nat} (hv : v < s.host.vecs.length) (j : Nat) : (s.pbaSends v).vec j
    = if j = v ∧ s.pbaDue v = true then { s.vec j with pba := s.withheld v, count := 0 } else s.vec j := by
  rw [State.pbaSends_eq]
  split
  next hdue => simp only [State.sendLate_vec hv, hdue, and_true]
  next hdue => simp [hdue]

theorem State.pbaSends_out (s : State) (v : Nat) : (s.pbaSends v).host.out
    = if s.pbaDue v && !s.withheld v then s.host.out ++ [.msix v (s.vec v).addr (s.vec v).data] else s.host.out := by
  rw [State.pbaSends_eq]
  split
  next hdue => rw [State.sendLate_out]; cases s.withheld v <;> simp [hdue]
  next hdue => simp [hdue]

/-- A vector that is masked keeps all of it. -/
theorem State.pbaSends_vec_of_masked {s : State} {v : Nat} (hm : (s.vec v).mask = true) (j : Nat) :
    (s.pbaSends j).vec v = s.vec v := by
  rw [State.pbaSends_eq]
  split
  next hdue =>
    by_cases hj : j < s.host.vecs.length
    · rw [State.sendLate_vec hj, if_neg]
      rintro rfl
      simp [State.pbaDue, hm] at hdue
    · have hnone : s.vec j = {} := List.getD_eq_default _ _ (by omega)
      simp [State.pbaDue, hnone] at hdue
  next => rfl

/-- Nothing withholds the message of vector `v`. -/
structure Sendable (v : Nat) (s : State) : Prop where
  inTable : v < s.host.vecs.length
  unmasked : (s.vec v).mask = false
  named : (s.vec v).addr ≠ 0
  fmask : s.host.fmask = false
  paused : s.host.paused = false
  dma : s.dmaOk = true

theorem Sendable.not_withheld {v : Nat} {s : State} (h : Sendable v s) : s.withheld v = false := by
  simp only [State.withheld, h.unmasked, h.fmask, h.paused, h.dma, h.named, decide_false]
  rfl

theorem Sendable.due {v : Nat} {s : State} (h : Sendable v s) : s.pbaDue v = (s.vec v).pba := by
  simp only [State.pbaDue, h.unmasked, h.fmask, ne_eq, h.named, not_false_eq_true, decide_true]
  simp

/-- A message of any vector leaves it so. -/
theorem Sendable.pbaSends {v : Nat} {s : State} (h : Sendable v s) (j : Nat) : Sendable v (s.pbaSends j) := by
  rw [State.pbaSends_eq]
  split
  next hdue =>
    obtain ⟨sent, queue, reads, prec, n, heq⟩ := s.sendLate_withLink j
    have hvec : ((s.sendLate j).vec v).mask = (s.vec v).mask ∧ ((s.sendLate j).vec v).addr = (s.vec v).addr := by
      by_cases hj : j < s.host.vecs.length
      · rw [State.sendLate_vec hj]
        split <;> exact ⟨rfl, rfl⟩
      · have hnone : s.vec j = {} := List.getD_eq_default _ _ (by omega)
        simp [State.pbaDue, hnone] at hdue
    obtain ⟨hmask, haddr⟩ := hvec
    refine ⟨?_, by rw [hmask, h.unmasked], by rw [haddr]; exact h.named, ?_, ?_, ?_⟩
    · rw [heq]
      simpa [State.updVec, HostIf.withLink] using h.inTable
    · rw [heq]
      exact h.fmask
    · rw [heq]
      exact h.paused
    · rw [heq]
      exact h.dma
  next => exact h

theorem Sendable.pba_sent {v : Nat} {s : State} (h : Sendable v s) : ((s.pbaSends v).vec v).pba = false := by
  rw [State.pbaSends_vec h.inTable, h.due, h.not_withheld]
  split
  · rfl
  · simp_all

/-- A PBA bit that is clear stays so, whatever messages go. -/
theorem State.pbaSends_pba_of_clear {s : State} {v : Nat} (h : (s.vec v).pba = false) (j : Nat) :
    ((s.pbaSends j).vec v).pba = false := by
  rw [State.pbaSends_eq]
  split
  next hdue =>
    by_cases hj : j < s.host.vecs.length
    · rw [State.sendLate_vec hj]
      split
      next heq => subst heq; simp [State.pbaDue, h] at hdue
      next => exact h
    · have hnone : s.vec j = {} := List.getD_eq_default _ _ (by omega)
      simp [State.pbaDue, hnone] at hdue
  next => exact h

/-- All the vectors' messages that may go have gone. -/
theorem Sendable.each_pba {v : Nat} {s : State} (h : Sendable v s) {l : List Nat} (hv : v ∈ l) :
    ((s.each l State.pbaSends).vec v).pba = false :=
  State.each_makes (I := Sendable v) (P := fun u => (u.vec v).pba = false) hv (fun _ j hu => hu.pbaSends j)
    (fun _ hu => hu.pba_sent) (fun _ j hu => State.pbaSends_pba_of_clear hu j) h

theorem State.each_pbaSends_host (s : State) (l : List Nat) :
    s.each l State.pbaSends = { s with host := (s.each l State.pbaSends).host } :=
  State.each_keeps (P := fun u => u = { s with host := u.host }) (fun u j hu => by
    rw [State.pbaSends_host, hu]) l (s := s) rfl

/-! ### The rows of the registers: what an access runs -/

section
variable {s : State} {dt : Nat}

theorem execRegisterWrite_four (h : s.bar0Open = true) {off : Nat} (ha : off % 4 = 0) (hoff : off + 4 ≤ 65536) (v : DWord) :
    exec (.registerWrite dt off 4 v) s = .next ((s.advance dt).write32 off (v.setWidth 32)) := by
  have hopen : (s.advance dt).bar0Open = true := h
  show execRegisterWrite dt off 4 v s = _
  simp [execRegisterWrite, hopen, goodAccess, ha, hoff, State.regWrite_four]

theorem execRegisterWrite_eight (h : s.bar0Open = true) {off : Nat} (ha : off % 8 = 0) (hoff : off + 8 ≤ 65536) (v : DWord) :
    exec (.registerWrite dt off 8 v) s
      = .next (((s.advance dt).write32 off (v.setWidth 32)).write32 (off + 4) ((v >>> 32).setWidth 32)) := by
  have hopen : (s.advance dt).bar0Open = true := h
  show execRegisterWrite dt off 8 v s = _
  simp [execRegisterWrite, hopen, goodAccess, ha, hoff, State.regWrite_eight]

theorem execRegisterWrite_bad (h : s.bar0Open = true) {off size : Nat} (hg : goodAccess off size = false) (v : DWord) :
    exec (.registerWrite dt off size v) s = .next ((s.advance dt).emit .unsupported) := by
  have hopen : (s.advance dt).bar0Open = true := h
  show execRegisterWrite dt off size v s = _
  simp [execRegisterWrite, hopen, hg]

/-- A good access is one of four bytes, or of eight. -/
theorem goodAccess_iff {off size : Nat} : goodAccess off size = true ↔ size = 4 ∧ off % 4 = 0 ∨ size = 8 ∧ off % 8 = 0 := by
  simp [goodAccess]

/-- An access that touches no register a host writes changes nothing. -/
theorem execRegisterWrite_ignored (h : s.bar0Open = true) {off size : Nat} (hg : goodAccess off size = true)
    (hoff : off + size ≤ 65536) (hi : ignored off) (hlast : ignored (off + size - 4)) (v : DWord) :
    exec (.registerWrite dt off size v) s = .next (s.advance dt) := by
  rcases goodAccess_iff.1 hg with ⟨rfl, ha⟩ | ⟨rfl, ha⟩
  · rw [execRegisterWrite_four h ha hoff, State.write32_ignored _ hi]
  · rw [execRegisterWrite_eight h ha hoff, State.write32_ignored _ hi, State.write32_ignored _ (by simpa using hlast)]

theorem execRingEnable_control (h : s.bar0Open = true) {n : Nat} (hn : n < 16) (log2 vec : Nat) :
    exec (.ringEnable dt n log2 vec) s
      = .next ((s.advance dt).ringControl n ((controlWord log2 vec true).setWidth 32)) := by
  have hopen : (s.advance dt).bar0Open = true := h
  show execRingEnable dt n log2 vec s = _
  simp [execRingEnable, hopen, hn, State.regWrite_four, State.write32_control _ hn]

theorem execRingDisable_control (h : s.bar0Open = true) {n : Nat} (hn : n < 16) (vec : Nat) :
    exec (.ringDisable dt n vec) s
      = .next ((s.advance dt).ringControl n ((controlWord (s.ring n).log2 vec false).setWidth 32)) := by
  have hopen : (s.advance dt).bar0Open = true := h
  show execRingDisable dt n vec s = _
  simp only [execRingDisable, hopen, hn, State.regWrite_four, State.write32_control _ hn]
  rfl

/-! ### A ring is enabled, and disabled (R347, R481) -/

theorem State.ringControl_enables {n : Nat} (hlen : n < s.host.rings.length) (hen : (s.ring n).en = false) (log2 vec : Nat) :
    let r := (s.ringControl n ((controlWord log2 vec true).setWidth 32)).ring n
    r.en = true ∧ r.fresh = true ∧ r.log2 = max 4 (min 12 (log2 % 16)) ∧ r.vec = vec % 32 ∧ r.stopped = false := by
  obtain ⟨hlog2, hon, hvec⟩ := controlWord_fields log2 vec true
  unfold State.ringControl
  simp only [hen, hlog2, hon, hvec, Bool.false_eq_true, if_false, if_true]
  rw [State.ring_updRing _ _ _ _ (by rwa [State.ringStarts_rings]), if_pos rfl]
  simp

theorem State.updRing_loss (s : State) (n j : Nat) :
    ∃ loss, (s.updRing n (fun r => { r with loss := true })).ring j = { s.ring j with loss := loss } := by
  simp only [State.ring, State.updRing, List.getD_eq_getElem?_getD, List.getElem?_modify]
  split
  · cases s.host.rings[j]? <;> exact ⟨_, rfl⟩
  · cases s.host.rings[j]? <;> exact ⟨_, rfl⟩

/-- A ring that stops keeps what it is set to: only its LOSS flag can change. -/
theorem State.ringStops_ring (s : State) (n : Nat) : ∃ loss, (s.ringStops n).ring n = { s.ring n with loss := loss } := by
  unfold State.ringStops
  extract_lets mine k t u v
  have hu : ∃ loss, u.ring n = { s.ring n with loss := loss } := by
    simp only [u]
    split
    · exact ⟨(s.ring n).loss, rfl⟩
    · exact (t.count 66 k).updRing_loss n n
  obtain ⟨lost, hu⟩ := hu
  split
  · exact ⟨lost, hu⟩
  · split
    · have hv : ∃ loss, v.ring n = { u.ring n with loss := loss } := by
        simp only [v]
        split
        · exact ⟨(u.ring n).loss, rfl⟩
        · exact u.updRing_loss 3 n
      obtain ⟨loss, hv⟩ := hv
      exact ⟨loss, by rw [hu] at hv; exact hv⟩
    · split <;> exact ⟨lost, hu⟩

theorem State.ringStops_drops (s : State) (n : Nat) :
    (n = 3 → (s.ringStops n).host.tel = []) ∧ (n = 1 → (s.ringStops n).host.heldCpl = []) := by
  constructor
  · rintro rfl
    rfl
  · rintro rfl
    rfl

theorem State.ringControl_disables {n : Nat} (hlen : n < s.host.rings.length) (hen : (s.ring n).en = true)
    (h4 : 4 ≤ (s.ring n).log2) (h12 : (s.ring n).log2 ≤ 12) (vec : Nat) :
    let t := s.ringControl n ((controlWord (s.ring n).log2 vec false).setWidth 32)
    (t.ring n).en = false ∧ (t.ring n).fresh = false ∧ (t.ring n).vec = vec % 32
      ∧ (n = 3 → t.host.tel = []) ∧ (n = 1 → t.host.heldCpl = []) := by
  obtain ⟨hlog2, hoff, hvec⟩ := controlWord_fields (s.ring n).log2 vec false
  have hsame : max 4 (min 12 ((s.ring n).log2 % 16)) = (s.ring n).log2 := by omega
  intro t
  have ht : t = (s.updRing n (fun r => { r with en := false, vec := vec % 32, fresh := r.fresh && false })).ringStops n := by
    simp only [t, State.ringControl, hen, hlog2, hoff, hvec, hsame, if_true, ne_eq, not_true_eq_false, if_false,
      Bool.false_eq_true]
  obtain ⟨loss, hring⟩ := (s.updRing n (fun r => { r with en := false, vec := vec % 32, fresh := r.fresh && false })).ringStops_ring n
  rw [State.ring_updRing _ _ _ _ hlen, if_pos rfl] at hring
  obtain ⟨htel, hcpl⟩ := (s.updRing n (fun r => { r with en := false, vec := vec % 32, fresh := r.fresh && false })).ringStops_drops n
  rw [← ht] at hring htel hcpl
  rw [hring]
  exact ⟨rfl, by simp, rfl, htel, hcpl⟩

end

end Sys2Proof.Machine
end

section
/-! O15 and O13: the rows of the registers (R341 to R346, R477 to R487), and the doorbell's indices (R356, R371). -/

namespace Sys2Proof.Machine

/-! ### The clauses of the register rows -/

section
variable {s : State} {dt : Nat}

theorem execHiErrClear_clears (h : s.bar0Open = true) (bits : Word) :
    exec (.hiErrClear dt bits) s = .next ((s.advance dt).clearHiErr bits) := by
  have hopen : (s.advance dt).bar0Open = true := h
  have hbits : (bits.setWidth 64).setWidth 32 = bits := by simp
  show execHiErrClear dt bits s = _
  simp only [execHiErrClear, hopen, State.regWrite_four, hbits]
  rfl

theorem State.clearHiErr_ring {n : Nat} (hn : n < s.host.rings.length) (bits : Word) : (s.clearHiErr bits).ring n
    = { s.ring n with err := (s.ring n).err && (!bits.getLsbD (16 + n) || decide ((s.ring n).errAt = some s.now)) } := by
  simp [State.clearHiErr, State.ring, hn]

theorem execMsixUnmask_some (h : s.bar0Open = true) {v : Nat} (hv : v < 32) : exec (.msixUnmask dt (some v)) s
    = .next (((s.advance dt).updVec v (fun x => { x with mask := false })).pbaSends v) := by
  have hopen : (s.advance dt).bar0Open = true := h
  have hwrite := ((s.advance dt).write32_vector hv 0).2.2.2
  show execMsixUnmask dt (some v) s = _
  simp only [execMsixUnmask, hopen, State.regWrite_four]
  rw [show BitVec.setWidth 32 (0 : DWord) = 0 from rfl, hwrite]
  simp [hv]

theorem execMsixUnmask_none (h : s.host.link = true) : exec (.msixUnmask dt none) s
    = .next (((s.advance dt).updHost (fun h => { h with fmask := false })).each (List.range 32) State.pbaSends) :=
  congrArg Host.Outcome.next (if_pos h)

/-- One vector is unmasked: its message goes where nothing else withholds it. -/
theorem execMsixUnmask_vector (h : s.bar0Open = true) {v : Nat} (hv : v < 32) (hlen : v < s.host.vecs.length) :
    Completes (.msixUnmask dt (some v)) s (fun t => (t.vec v).mask = false ∧ t = { s.advance dt with host := t.host }
      ∧ ((s.vec v).pba = true → s.host.fmask = false → (s.vec v).addr ≠ 0 → s.host.paused = false → s.dmaOk = true →
          (t.vec v).pba = false ∧ t.host.out = s.host.out ++ [.msix v (s.vec v).addr (s.vec v).data])) := by
  refine ⟨_, execMsixUnmask_some h hv, ?_⟩
  generalize hu : (s.advance dt).updVec v (fun x => { x with mask := false }) = u
  have hvec : u.vec v = { s.vec v with mask := false } := by
    rw [← hu, State.vec_updVec _ _ _ _ (show v < (s.advance dt).host.vecs.length from hlen), if_pos rfl]
    rfl
  have hlen' : v < u.host.vecs.length := by
    rw [← hu]
    simpa [State.updVec] using hlen
  refine ⟨?_, ?_, fun hpba hfmask haddr hpaused hdma => ?_⟩
  · rw [State.pbaSends_vec hlen']
    split <;> rw [hvec]
  · rw [State.pbaSends_host, ← hu]
    rfl
  · have hsend : Sendable v u :=
      ⟨hlen', by rw [hvec], by rwa [hvec], by rw [← hu]; exact hfmask, by rw [← hu]; exact hpaused, by rw [← hu]; exact hdma⟩
    refine ⟨hsend.pba_sent, ?_⟩
    rw [State.pbaSends_out, hsend.due, hsend.not_withheld, hvec, ← hu]
    simp [hpba, State.updVec]

/-- The Function Mask is cleared: every vector not masked sends the message that its PBA bit stands for. -/
theorem execMsixUnmask_function (h : s.host.link = true) (hlen : s.host.vecs.length = 32) :
    Completes (.msixUnmask dt none) s (fun t => t.host.fmask = false ∧ t = { s.advance dt with host := t.host }
      ∧ (∀ v < 32, (s.vec v).mask = true → t.vec v = s.vec v)
      ∧ (∀ v < 32, (s.vec v).pba = true → (s.vec v).mask = false → (s.vec v).addr ≠ 0 → s.host.paused = false → s.dmaOk = true →
          (t.vec v).pba = false)) := by
  refine ⟨_, execMsixUnmask_none h, ?_⟩
  generalize hu : (s.advance dt).updHost (fun h => { h with fmask := false }) = u
  have hfmask : ∀ (w : State) (v : Nat), w.host.fmask = false → (w.pbaSends v).host.fmask = false := fun w v hw => by
    rw [State.pbaSends_eq]
    split
    · obtain ⟨sent, queue, reads, prec, n, heq⟩ := w.sendLate_withLink v
      rw [heq]
      exact hw
    · exact hw
  refine ⟨State.each_keeps (P := fun w => w.host.fmask = false) hfmask _ (by rw [← hu]; rfl), ?_, fun v hv hm => ?_,
    fun v hv hpba hm haddr hpaused hdma => ?_⟩
  · have hrest := u.each_pbaSends_host (List.range 32)
    generalize u.each (List.range 32) State.pbaSends = w at hrest ⊢
    rw [hrest, ← hu]
    rfl
  · have hsame := State.each_keeps (P := fun w => w.vec v = s.vec v) (f := State.pbaSends) (fun w j hw => by
      rw [State.pbaSends_vec_of_masked (by rw [hw, hm]), hw]) (List.range 32) (s := u) (by rw [← hu]; rfl)
    exact hsame
  · refine Sendable.each_pba ?_ (List.mem_range.2 hv)
    rw [← hu]
    exact ⟨hlen ▸ hv, hm, haddr, rfl, hpaused, hdma⟩

theorem execHbTimeoutWrite_sets (h : s.bar0Open = true) (v : Nat) : exec (.hbTimeoutWrite dt v) s
    = .next ((s.advance dt).setHbTimeout (max 10 (min 5000 (v % 8192)))) := by
  have hopen : (s.advance dt).bar0Open = true := h
  show execHbTimeoutWrite dt v s = _
  simp [execHbTimeoutWrite, hopen, State.regWrite_four, State.write32]

theorem execPollPeriodWrite_sets (h : s.bar0Open = true) (v : Nat) : exec (.pollPeriodWrite dt v) s
    = .next ((s.advance dt).setPoll (max 1 (min 64 (v % 128)))) := by
  have hopen : (s.advance dt).bar0Open = true := h
  show execPollPeriodWrite dt v s = _
  simp [execPollPeriodWrite, hopen, State.regWrite_four, State.write32]

/-- A heartbeat timeout that the running timer has not reached. -/
theorem State.setHbTimeout_runs {v : Nat} (h : s.dev.bound = false ∨ s.now < s.host.lastHb + v * 250000) :
    s.setHbTimeout v = s.updHost (fun x => { x with hbTimeout := v }) := by
  unfold State.setHbTimeout
  refine if_neg ?_
  rcases h with h | h
  · simp [h]
  · simpa [msTicks, State.now] using fun _ => h

/-- One that it has passed is a host loss. -/
theorem State.setHbTimeout_loses {v : Nat} (hb : s.dev.bound = true) (h : s.host.lastHb + v * 250000 ≤ s.now) :
    s.setHbTimeout v = (s.updHost (fun x => { x with hbTimeout := v })).hostLost 2 := by
  unfold State.setHbTimeout
  exact if_pos (by simpa [hb, msTicks, State.now] using h)

theorem execHbTimeoutWrite_loses (h : s.bar0Open = true) {v : Nat} (hb : s.dev.bound = true)
    (hlate : s.host.lastHb + max 10 (min 5000 (v % 8192)) * 250000 ≤ (s.advance dt).now) :
    Completes (.hbTimeoutWrite dt v) s (fun t => HostLossIn s dt t ∧ t.host.hbTimeout = max 10 (min 5000 (v % 8192))) := by
  refine ⟨_, execHbTimeoutWrite_sets h v, ?_⟩
  rw [State.setHbTimeout_loses (s := s.advance dt) hb hlate]
  exact ⟨State.hostLost_lossIn 2 rfl rfl rfl, congrArg Prod.fst (State.hostLost_layout _ 2)⟩

/-! ### Bases, and the table of the vectors -/

theorem State.write32_grace (v : Word) :
    s.write32 0x418 v = s.updHost (fun h => { h with hostGrace := min 2000 (v.toNat % 2048) }) := by
  simp [State.write32]

theorem State.write32_bases (hr : s.anyRing = false) (v : Word) :
    s.write32 0x400 v = s.updHost (fun h => { h with dbBase := setHalf h.dbBase false v &&& ~~~(127 : DWord) })
      ∧ s.write32 0x404 v = s.updHost (fun h => { h with dbBase := setHalf h.dbBase true v &&& ~~~(127 : DWord) })
      ∧ s.write32 0x408 v = s.updHost (fun h => { h with stBase := setHalf h.stBase false v &&& ~~~(127 : DWord) })
      ∧ s.write32 0x40C v = s.updHost (fun h => { h with stBase := setHalf h.stBase true v &&& ~~~(127 : DWord) }) := by
  refine ⟨?_, ?_, ?_, ?_⟩ <;> simp [State.write32, hr]

theorem execRegisterWrite_bases (h : s.bar0Open = true) (hr : s.anyRing = false) (v : DWord) :
    Completes (.registerWrite dt 0x400 8 v) s (fun t => t = { s.advance dt with host := { s.host with dbBase := v &&& ~~~(127 : DWord) } })
    ∧ Completes (.registerWrite dt 0x408 8 v) s (fun t => t = { s.advance dt with host := { s.host with stBase := v &&& ~~~(127 : DWord) } }) := by
  refine ⟨⟨_, execRegisterWrite_eight h rfl (by decide) v, ?_⟩, ⟨_, execRegisterWrite_eight h rfl (by decide) v, ?_⟩⟩
  · rw [(State.write32_bases (s := s.advance dt) hr _).1, (State.write32_bases (by exact hr) _).2.1, ← setHalf_halves s.host.dbBase v]
    rfl
  · rw [(State.write32_bases (s := s.advance dt) hr _).2.2.1, (State.write32_bases (by exact hr) _).2.2.2, ← setHalf_halves s.host.stBase v]
    rfl

theorem State.updRing_updRing (n : Nat) (f g : Ring → Ring) : (s.updRing n f).updRing n g = s.updRing n (g ∘ f) := by
  simp [State.updRing, List.modify_modify_eq]

theorem State.updRing_base_en (n : Nat) (f : Ring → DWord) :
    ((s.updRing n (fun r => { r with base := f r })).ring n).en = (s.ring n).en := by
  simp only [State.ring, State.updRing, List.getD_eq_getElem?_getD, List.getElem?_modify]
  cases s.host.rings[n]? <;> rfl

theorem execRegisterWrite_ringBase (h : s.bar0Open = true) {n : Nat} (hn : n < 16) (hen : (s.ring n).en = false) (v : DWord) :
    exec (.registerWrite dt (0x500 + 16 * n) 8 v) s
      = .next ((s.advance dt).updRing n (fun r => { r with base := v &&& ~~~(4095 : DWord) })) := by
  have hidx : (0x500 + 16 * n - 0x500) / 16 = n ∧ (0x500 + 16 * n + 4 - 0x500) / 16 = n := by omega
  have hhalf : (0x500 + 16 * n) / 4 % 2 = 0 ∧ (0x500 + 16 * n + 4) / 4 % 2 = 1 := by omega
  have hlow : (s.advance dt).write32 (0x500 + 16 * n) (v.setWidth 32) = (s.advance dt).updRing n
      (fun r => { r with base := setHalf r.base false (v.setWidth 32) &&& ~~~(4095 : DWord) }) := by
    rw [State.write32_ringBase (by omega) (by omega) (by rw [hidx.1]; exact hen), hidx.1, hhalf.1]
    rfl
  have hstill : (((s.advance dt).updRing n
      (fun r => { r with base := setHalf r.base false (v.setWidth 32) &&& ~~~(4095 : DWord) })).ring n).en = false := by
    rw [State.updRing_base_en]
    exact hen
  rw [execRegisterWrite_eight h (by omega) (by omega), hlow,
    State.write32_ringBase (by omega) (by omega) (by rw [hidx.2]; exact hstill), hidx.2, hhalf.2, State.updRing_updRing]
  simp [Function.comp_def, setHalf_halves]

theorem State.updVec_updVec (k : Nat) (f g : Vec → Vec) : (s.updVec k f).updVec k g = s.updVec k (g ∘ f) := by
  simp [State.updVec, List.modify_modify_eq]

/-- A message leaves what its vector is set to. -/
theorem State.pbaSends_settings (v j : Nat) : ((s.pbaSends v).vec j).addr = (s.vec j).addr
    ∧ ((s.pbaSends v).vec j).data = (s.vec j).data ∧ ((s.pbaSends v).vec j).mask = (s.vec j).mask := by
  by_cases hv : v < s.host.vecs.length
  · rw [State.pbaSends_vec hv]
    split <;> exact ⟨rfl, rfl, rfl⟩
  · have hnone : s.vec v = {} := List.getD_eq_default _ _ (Nat.le_of_not_lt hv)
    have hdue : s.pbaDue v = false := by simp [State.pbaDue, hnone]
    simp [State.pbaSends_eq, hdue]

theorem State.updVec_length (v : Nat) (f : Vec → Vec) : (s.updVec v f).host.vecs.length = s.host.vecs.length := by
  simp [State.updVec]

theorem State.pbaSends_length (v : Nat) : (s.pbaSends v).host.vecs.length = s.host.vecs.length :=
  congrArg (·.2.2) (s.pbaSends_layout v)

/-- The message address is written by halves, and a message may go after each. -/
theorem execRegisterWrite_vecAddr (h : s.bar0Open = true) {k : Nat} (hk : k < 32) (hlen : k < s.host.vecs.length) (v : DWord) :
    Completes (.registerWrite dt (0x1000 + 16 * k) 8 v) s (fun t =>
      (t.vec k).addr = v &&& ~~~(3 : DWord) ∧ t = { s.advance dt with host := t.host }) := by
  have hoff : 0x1000 + 16 * k + 4 = 0x1004 + 16 * k := by omega
  refine ⟨_, execRegisterWrite_eight h (by omega) (by omega) v, ?_⟩
  rw [((s.advance dt).write32_vector hk _).1, hoff, (State.write32_vector _ hk _).2.1]
  generalize hu : (s.advance dt).updVec k (fun x => { x with addr := setHalf x.addr false (v.setWidth 32) &&& ~~~(3 : DWord) }) = u
  have hlenu : k < u.host.vecs.length := by
    rw [← hu, State.updVec_length]
    exact hlen
  have haddr : (u.vec k).addr = setHalf ((s.advance dt).vec k).addr false (v.setWidth 32) &&& ~~~(3 : DWord) := by
    rw [← hu, State.vec_updVec _ _ _ _ (show k < (s.advance dt).host.vecs.length from hlen), if_pos rfl]
  constructor
  · rw [(State.pbaSends_settings _ _).1, State.vec_updVec _ _ _ _ (by rwa [State.pbaSends_length]), if_pos rfl,
      (State.pbaSends_settings _ _).1, haddr, setHalf_halves]
  · have hfirst := u.pbaSends_host k
    generalize u.pbaSends k = w at hfirst ⊢
    rw [State.pbaSends_host]
    generalize ((w.updVec k _).pbaSends k).host = g
    rw [hfirst, ← hu]
    rfl

theorem execRegisterWrite_vecData (h : s.bar0Open = true) {k : Nat} (hk : k < 32) (hlen : k < s.host.vecs.length) (v : DWord) :
    Completes (.registerWrite dt (0x1008 + 16 * k) 4 v) s (fun t =>
      (t.vec k).data = v.setWidth 32 ∧ t = { s.advance dt with host := t.host }) := by
  refine ⟨_, execRegisterWrite_four h (by omega) (by omega) v, ?_, ?_⟩
  · rw [((s.advance dt).write32_vector hk _).2.2.1, State.vec_updVec _ _ _ _ (show k < (s.advance dt).host.vecs.length from hlen),
      if_pos rfl]
  · rw [((s.advance dt).write32_vector hk _).2.2.1]
    rfl

theorem execRegisterWrite_vecMask (h : s.bar0Open = true) {k : Nat} (hk : k < 32) (hlen : k < s.host.vecs.length) (v : DWord) :
    Completes (.registerWrite dt (0x100C + 16 * k) 4 v) s (fun t =>
      (t.vec k).mask = v.getLsbD 0 ∧ t = { s.advance dt with host := t.host }) := by
  refine ⟨_, execRegisterWrite_four h (by omega) (by omega) v, ?_, ?_⟩
  · rw [((s.advance dt).write32_vector hk _).2.2.2, (State.pbaSends_settings _ _).2.2,
      State.vec_updVec _ _ _ _ (show k < (s.advance dt).host.vecs.length from hlen), if_pos rfl]
    simp
  · rw [((s.advance dt).write32_vector hk _).2.2.2, State.pbaSends_host]
    rfl

theorem State.locks_bound {off : Nat} {v : Word} (h : s.locks off v = true) : off + 4 ≤ 65536 := by
  by_contra hbig
  rw [State.locks, if_neg (by omega), if_neg (by omega)] at h
  exact absurd h (by decide)

end

/-- Settles O15: each row writes the registers that `write32` names; what an enabled or a stopping ring, an unmasked
vector and a heartbeat timeout already passed do beyond that is the part of the module that the clause speaks of. -/
theorem registerRows : Obligations.RegisterRows := by
  refine ⟨?enable, ?disable, ?locked, ?poll, ?hbTimeout, ?hiErr, ?unmask, ?unmaskAll, ?grace, ?low, ?bad, ?badAccess, ?gaps, ?bases,
    ?ringBase, ?lockedWrite, ?control, ?moderation, ?vectors, ?hbLoss⟩
  case enable =>
    intro s dt n log2 vec h hn hlen hen
    obtain ⟨hon, hfresh, hlog2, hvec, hstop⟩ := State.ringControl_enables (s := s.advance dt) hlen hen log2 vec
    exact ⟨_, execRingEnable_control h hn log2 vec, hon, hfresh, hlog2, hvec, hstop, by simp⟩
  case disable =>
    intro s dt n vec h hn hlen hen h4 h12
    obtain ⟨hoff, hfresh, hvec, htel, hcpl⟩ := State.ringControl_disables (s := s.advance dt) hlen hen h4 h12 vec
    exact ⟨_, execRingDisable_control h hn vec, hoff, hfresh, hvec, htel, hcpl, by simp⟩
  case locked =>
    intro s dt off v h ha hl
    have hopen : (s.advance dt).bar0Open = true := h
    have hl' : (s.advance dt).locks off (v.setWidth 32) = true := hl
    refine ⟨_, congrArg Host.Outcome.next (if_pos (by simp [hopen, ha, hl'])), ?_⟩
    rw [State.regWrite_four, State.write32_locked ha hl']
    rfl
  case poll =>
    intro s dt v h
    exact ⟨_, execPollPeriodWrite_sets h v, rfl⟩
  case hbTimeout =>
    intro s dt v h hrun
    exact ⟨_, execHbTimeoutWrite_sets h v, State.setHbTimeout_runs (s := s.advance dt) hrun⟩
  case hiErr =>
    intro s dt bits h
    refine ⟨_, execHiErrClear_clears h bits, rfl, rfl, fun n hn => ?_, rfl⟩
    exact State.clearHiErr_ring (s := s.advance dt) hn bits
  case unmask => exact fun s dt v h hv hlen => execMsixUnmask_vector h hv hlen
  case unmaskAll => exact fun s dt h hlen => execMsixUnmask_function h hlen
  case grace =>
    intro s dt v h
    refine ⟨_, execRegisterWrite_four h rfl (by decide) v, ?_⟩
    have hv : (v.setWidth 32).toNat % 2048 = v.toNat % 2048 := by
      simp only [BitVec.toNat_setWidth]
      omega
    rw [State.write32_grace, hv]
    rfl
  case low =>
    intro s dt off size v h hg hoff
    refine ⟨_, execRegisterWrite_ignored h hg (by omega) (.inl ?_) (.inl ?_) v, rfl⟩
    · rcases goodAccess_iff.1 hg with ⟨rfl, -⟩ | ⟨rfl, -⟩ <;> omega
    · rcases goodAccess_iff.1 hg with ⟨rfl, -⟩ | ⟨rfl, -⟩ <;> omega
  case bad => exact fun s dt off size v h hg => ⟨_, execRegisterWrite_bad h hg v, rfl⟩
  case badAccess =>
    intro s dt off size write h hg
    have hopen : (s.advance dt).bar0Open = true := h
    exact ⟨_, congrArg Host.Outcome.next (if_pos (by simp [hopen, hg])), rfl⟩
  case gaps =>
    intro s dt off size v h hg hoff hgap
    have hsize : 4 ≤ size := by rcases goodAccess_iff.1 hg with ⟨rfl, -⟩ | ⟨rfl, -⟩ <;> decide
    refine ⟨_, execRegisterWrite_ignored h hg hoff ?_ ?_ v, rfl⟩
    · unfold ignored
      omega
    · unfold ignored
      omega
  case bases => exact fun s dt v h hr => execRegisterWrite_bases h hr v
  case ringBase => exact fun s dt n v h hn hen => ⟨_, execRegisterWrite_ringBase h hn hen v, rfl⟩
  case lockedWrite =>
    intro s dt off size v h hg hsize hl
    subst hsize
    obtain ⟨-, ha⟩ | ⟨hsize, -⟩ := goodAccess_iff.1 hg
    · refine ⟨_, execRegisterWrite_four h ha (State.locks_bound hl) v, ?_⟩
      rw [State.write32_locked (s := s.advance dt) ha hl]
      rfl
    · exact absurd hsize (by decide)
  case control =>
    intro s dt n log2 vec h hn
    rw [execRingEnable_control h hn, execRegisterWrite_four h (by omega) (by omega), State.write32_control _ hn]
  case moderation =>
    intro s dt k v h hk
    refine ⟨_, execRegisterWrite_four h (by omega) (by omega) v, ?_⟩
    have hv : (v.setWidth 32).toNat % 1024 = v.toNat % 1024
        ∧ (v.setWidth 32).toNat / 65536 % 512 = v.toNat / 65536 % 512 := by
      simp only [BitVec.toNat_setWidth]
      omega
    rw [State.write32_moderation _ hk, hv.1, hv.2]
  case vectors =>
    intro s dt k v h hk hlen
    exact ⟨execRegisterWrite_vecAddr h hk hlen v, execRegisterWrite_vecData h hk hlen v, execRegisterWrite_vecMask h hk hlen v⟩
  case hbLoss => exact fun s dt v h hb hlate => execHbTimeoutWrite_loses h hb hlate

/-! ### The indices that a doorbell read gives -/

/-- A sweep is in progress, and the model's list of rings holds one more than the sixteen that the module has. -/
def seventeenRings : State :=
  { dev := { st := .standby, bound := true, bar0Ready := true }
    host := { link := true, bme := true, mse := true, sweeping := true,
              rings := List.replicate 16 {} ++ [{ en := true }] } }

/-- Sixteen indices of 0, and a seventeenth. -/
def seventeenIndices : Doorbell := { ok := true, hb := 0, answers := [], idx := List.replicate 16 0 ++ [1] }

/-- Refutes O13: the statement has every ring of the state's list take its index from the doorbell data, and does not bound
the ring's number by 16, as it does where it speaks of the indices' goodness.  In `seventeenRings` the ring numbered 16
finds no index: a doorbell block has sixteen (R345, R356). -/
theorem not_sweepRows : ¬ Obligations.SweepRows := by
  intro h
  obtain ⟨-, hread, -⟩ := h
  obtain ⟨t, ht, -, -, hidx⟩ := hread seventeenRings 0 seventeenIndices (by decide) rfl rfl (by decide +kernel)
  rw [← Host.Outcome.next.inj ht] at hidx
  have hhost := hidx 16 (by decide) (by decide) (by decide) (by decide)
  revert hhost
  decide +kernel

end Sys2Proof.Machine
end

section
/-! O14: what the module writes on its own (R349 to R354, R362 to R367, R385, R389). -/

namespace Sys2Proof.Machine

/-! ### A record written to a ring: what it changes of the host interface -/

/-- The state without what a write changes beside its ring: the link, the vectors, and the notes on the status block. -/
def State.unwritten (s : State) : State := s.updHost (fun h =>
  { h with out := [], sent := [], queue := [], reads := [], lastPrec := 0, linkN := 0, vecs := [], idxChanged := false, lastStatus := 0 })

/-- What `unwritten` does not hide is the same. -/
theorem State.eq_of_unwritten {s t : State} (h : t.unwritten = s.unwritten) : t = { s with host := t.host } := by
  have ht : ∀ u : State, u = { u.unwritten with host := u.host } := fun _ => rfl
  rw [ht t, h]
  rfl

theorem State.ring_of_unwritten {s t : State} (h : t.unwritten = s.unwritten) (n : Nat) : t.ring n = s.ring n :=
  congrArg (·.ring n) h

theorem State.served_of_unwritten {s t : State} (h : t.unwritten = s.unwritten) (n : Nat) : t.served n = s.served n :=
  congrArg (·.served n) h

@[simp] theorem State.emits_unwritten (s : State) (ws : List HostWrite) : (s.emits ws).unwritten = s.unwritten := by
  obtain ⟨_, _, _, _, _, _, h⟩ := s.emits_withLink ws
  rw [h]
  rfl

@[simp] theorem State.sendMsix_unwritten (s : State) (v : Nat) : (s.sendMsix v).unwritten = s.unwritten := by
  obtain ⟨_, _, _, _, _, h⟩ := s.sendMsix_withLink v
  rw [h]
  rfl

@[simp] theorem State.notify_unwritten (s : State) (v : Nat) (urgent : Bool) : (s.notify v urgent).unwritten = s.unwritten := by
  unfold State.notify
  extract_lets t x
  split
  · exact t.sendMsix_unwritten v
  · rfl

@[simp] theorem State.writeStatus_unwritten (s : State) : s.writeStatus.unwritten = s.unwritten := by
  unfold State.writeStatus
  extract_lets h w
  split
  · exact s.emits_unwritten [w]
  · rfl

theorem State.linkTakes_unwritten (s : State) : s.linkTakes.unwritten = s.unwritten := by
  obtain ⟨_, _, _, _, h⟩ := s.host.issue_withLink
  rw [State.linkTakes, h]
  rfl

/-- A record written is one more of its ring. -/
theorem State.writeRec_unwritten (s : State) (n : Nat) (ds : List Desc) (urgent : Bool) : (s.writeRec n ds urgent).unwritten
    = (s.updRing n (fun r => { r with mod := r.mod + BitVec.ofNat 32 ds.length, loss := false })).unwritten := by
  unfold State.writeRec
  extract_lets r hd hdr body at_ t u v
  have ht : t.unwritten = s.unwritten := s.emits_unwritten _
  have hu : u.unwritten
      = (s.updRing n (fun r => { r with mod := r.mod + BitVec.ofNat 32 ds.length, loss := false })).unwritten :=
    congrArg (·.updRing n (fun r => { r with mod := r.mod + BitVec.ofNat 32 ds.length, loss := false })) ht
  exact ((v.notify_unwritten _ _).trans u.writeStatus_unwritten).trans hu

theorem State.ring_updRing_of_ne (s : State) {n j : Nat} (h : n ≠ j) (f : Ring → Ring) : (s.updRing n f).ring j = s.ring j := by
  simp [State.ring, State.updRing, h]

/-- A ring that is served stands in the list. -/
theorem State.ring_lt_of_served {s : State} {n : Nat} (h : s.served n = true) : n < s.host.rings.length := by
  by_contra hge
  have hnone : s.ring n = {} := List.getD_eq_default _ _ (by omega)
  simp [State.served, hnone] at h

/-! ### Room -/

theorem Ring.room_after {r : Ring} {k : Nat} (h : k + 1 ≤ r.room) (loss : Bool) :
    k ≤ Ring.room { r with mod := r.mod + 1, loss := loss } := by
  have hstep : (r.mod + 1 - r.host).toNat ≤ (r.mod - r.host).toNat + 1 := by bv_omega
  simp only [Ring.room] at h ⊢
  omega

/-- A record of one descriptor leaves its ring served, with one descriptor less of room. -/
theorem State.canWrite_updRing {s : State} {n k : Nat} (h : s.canWrite n (k + 1) = true) :
    (s.updRing n (fun r => { r with mod := r.mod + 1, loss := false })).canWrite n k = true := by
  obtain ⟨hserved, hroom⟩ := Bool.and_eq_true_iff.1 h
  have hring : (s.updRing n (fun r => { r with mod := r.mod + 1, loss := false })).ring n
      = { s.ring n with mod := (s.ring n).mod + 1, loss := false } := by
    rw [State.ring_updRing _ _ _ _ (State.ring_lt_of_served hserved), if_pos rfl]
  refine Bool.and_eq_true_iff.2 ⟨?_, decide_eq_true ?_⟩
  · rw [← hserved]
    simp only [State.served, hring]
    rfl
  · rw [hring]
    exact Ring.room_after (of_decide_eq_true hroom) false

/-! ### Events (R362) -/

/-- An event written is one more of the EVT ring and of EVT_SEQ, and nothing else but the write. -/
theorem State.writeEvt_unwritten (s : State) (e : Evt) : (s.writeEvt e).unwritten
    = ((s.updRing 2 (fun r => { r with mod := r.mod + 1, loss := false })).updHost (fun h => { h with evtSeq := s.host.evtSeq + 1 })).unwritten :=
  congrArg (·.updHost (fun h => { h with evtSeq := s.host.evtSeq + 1 })) (s.writeRec_unwritten 2 [e.desc s.host.evtSeq] e.urgent)

theorem State.canWrite_of_le {s : State} {n j k : Nat} (h : s.canWrite n k = true) (hj : j ≤ k) : s.canWrite n j = true := by
  obtain ⟨hserved, hroom⟩ := Bool.and_eq_true_iff.1 h
  exact Bool.and_eq_true_iff.2 ⟨hserved, decide_eq_true (hj.trans (of_decide_eq_true hroom))⟩

theorem State.drainEvts_none {k : Nat} {s : State} (h : s.host.events = []) : State.drainEvts (k + 1) s = s := by
  unfold State.drainEvts
  rw [h]

theorem State.drainEvts_next {k : Nat} {s : State} {e : Evt} {r : List Evt} (h : s.host.events = e :: r)
    (hw : s.canWrite 2 1 = true) :
    State.drainEvts (k + 1) s = State.drainEvts k (State.writeEvt { s with host := { s.host with events := r } } e) := by
  rw [State.drainEvts, h]
  exact if_pos hw

/-- The queue drains while the ring has room for it. -/
theorem State.drainEvts_all {k : Nat} {s : State} (hk : s.host.events.length ≤ k)
    (hw : s.canWrite 2 s.host.events.length = true) :
    let t := State.drainEvts k s
    t.host.events = [] ∧ t.host.evtSeq = s.host.evtSeq + BitVec.ofNat 16 s.host.events.length
      ∧ (t.ring 2).mod = (s.ring 2).mod + BitVec.ofNat 32 s.host.events.length ∧ t = { s with host := t.host } := by
  have hnone : ∀ (u : State), u.host.events = [] → u.host.events = [] ∧ u.host.evtSeq = u.host.evtSeq + BitVec.ofNat 16 u.host.events.length
      ∧ (u.ring 2).mod = (u.ring 2).mod + BitVec.ofNat 32 u.host.events.length ∧ u = { u with host := u.host } :=
    fun u hu => by simp [hu]
  induction k generalizing s with
  | zero => exact hnone s (List.eq_nil_of_length_eq_zero (Nat.le_zero.1 hk))
  | succ k ih =>
    by_cases hempty : s.host.events = []
    · rw [State.drainEvts_none hempty]
      exact hnone s hempty
    · obtain ⟨e, r, hev⟩ := List.exists_cons_of_ne_nil hempty
      rw [hev, List.length_cons] at hw hk
      generalize hrest : { s with host := { s.host with events := r } } = v
      have hv : (v.writeEvt e).unwritten = ((v.updRing 2 (fun r => { r with mod := r.mod + 1, loss := false })).updHost
          (fun h => { h with evtSeq := v.host.evtSeq + 1 })).unwritten := v.writeEvt_unwritten e
      have hevents : (v.writeEvt e).host.events = r := by
        rw [show (v.writeEvt e).host.events = v.host.events from congrArg (·.host.events) hv, ← hrest]
      have hseq : (v.writeEvt e).host.evtSeq = s.host.evtSeq + 1 := by
        rw [show (v.writeEvt e).host.evtSeq = v.host.evtSeq + 1 from congrArg (·.host.evtSeq) hv, ← hrest]
      have hwv : v.canWrite 2 (r.length + 1) = true := by
        rw [← hrest]
        exact hw
      have hmod : ((v.writeEvt e).ring 2).mod = (s.ring 2).mod + 1 := by
        have hring := State.ring_updRing v 2 2 (fun r => { r with mod := r.mod + 1, loss := false })
          (State.ring_lt_of_served (Bool.and_eq_true_iff.1 hwv).1)
        rw [show (v.writeEvt e).ring 2 = (v.updRing 2 (fun r => { r with mod := r.mod + 1, loss := false })).ring 2 from
          congrArg (·.ring 2) hv, hring, ← hrest]
        rfl
      have hcan : (v.writeEvt e).canWrite 2 r.length = true :=
        (congrArg (·.canWrite 2 r.length) hv).trans (State.canWrite_updRing hwv)
      have heq : v.writeEvt e = { s with host := (v.writeEvt e).host } := by
        rw [State.eq_of_unwritten hv, ← hrest]
        rfl
      rw [State.drainEvts_next hev (State.canWrite_of_le hw (Nat.le_add_left 1 _)), hrest, hev]
      obtain ⟨hnil, hseq', hmod', heq'⟩ := ih (s := v.writeEvt e) (by rw [hevents]; omega) (by rw [hevents]; exact hcan)
      rw [hevents] at hseq' hmod'
      refine ⟨hnil, ?_, ?_, ?_⟩
      · rw [hseq', hseq, List.length_cons, BitVec.ofNat_add]
        ac_rfl
      · rw [hmod', hmod, List.length_cons, BitVec.ofNat_add]
        ac_rfl
      · generalize State.drainEvts k (v.writeEvt e) = w at heq' ⊢
        rw [heq', heq]

/-! ### Telemetry waiting (R366) -/

theorem State.writeTel_unwritten (s : State) (t : Tel) : (s.writeTel t).unwritten
    = ((s.updRing 3 (fun r => { r with mod := r.mod + BitVec.ofNat 32 (t.descs.drop 1).length.succ, loss := false })).updHost
        (fun h => { h with telSeq := s.host.telSeq + 1 })).unwritten :=
  congrArg (·.updHost (fun h => { h with telSeq := s.host.telSeq + 1 })) (s.writeRec_unwritten 3 _ false)

/-- Two states with the same events and the same EVT ring, which differ in the host interface alone. -/
def SameEvents (s t : State) : Prop :=
  t.host.events = s.host.events ∧ t.host.evtSeq = s.host.evtSeq ∧ t.ring 2 = s.ring 2 ∧ t = { s with host := t.host }

theorem SameEvents.trans {s t u : State} (h : SameEvents s t) (h' : SameEvents t u) : SameEvents s u := by
  obtain ⟨hev, hseq, hring, heq⟩ := h
  obtain ⟨hev', hseq', hring', heq'⟩ := h'
  exact ⟨hev'.trans hev, hseq'.trans hseq, hring'.trans hring, by rw [heq', heq]⟩

theorem SameEvents.writeTel (s : State) (t : Tel) : SameEvents s (s.writeTel t) := by
  have h := s.writeTel_unwritten t
  refine ⟨congrArg (·.host.events) h, congrArg (·.host.evtSeq) h, ?_, by rw [State.eq_of_unwritten h]; rfl⟩
  exact (congrArg (·.ring 2) h).trans (State.ring_updRing_of_ne s (by decide) _)

/-- Telemetry that waits is written to the TEL ring alone. -/
theorem SameEvents.drainTel (k : Nat) (s : State) : SameEvents s (State.drainTel k s) := by
  have hrefl : ∀ u : State, SameEvents u u := fun u => ⟨rfl, rfl, rfl, rfl⟩
  induction k generalizing s with
  | zero => exact hrefl s
  | succ k ih =>
    have hnext : ∀ (v : State) (t : Tel), SameEvents s v → SameEvents s (State.drainTel k (v.writeTel t)) :=
      fun v t hv => (hv.trans (.writeTel v t)).trans (ih _)
    unfold State.drainTel
    split
    · split
      · exact hnext _ _ ⟨rfl, rfl, rfl, rfl⟩
      · exact hrefl s
    · split
      · exact hnext _ _ ⟨rfl, rfl, rfl, rfl⟩
      · exact hrefl s
    · exact hrefl s

/-! ### The rows -/

section
variable {s : State} {dt : Nat}

theorem State.linkTakes_events (s : State) : SameEvents s s.linkTakes := by
  have h := s.linkTakes_unwritten
  exact ⟨congrArg (·.host.events) h, congrArg (·.host.evtSeq) h, congrArg (·.ring 2) h, State.eq_of_unwritten h⟩

theorem execEvtQueueDrain_drains (hlen : s.host.events.length ≤ 256) (hw : s.canWrite 2 s.host.events.length = true) :
    Completes (.evtQueueDrain dt) s (fun t => t.host.events = [] ∧ t.host.evtSeq = s.host.evtSeq + BitVec.ofNat 16 s.host.events.length
      ∧ (t.ring 2).mod = (s.ring 2).mod + BitVec.ofNat 32 s.host.events.length ∧ t = { s.advance dt with host := t.host }) := by
  refine ⟨_, rfl, ?_⟩
  generalize hu : (s.advance dt).linkTakes = u
  have hlink : u.unwritten = (s.advance dt).unwritten := by rw [← hu, State.linkTakes_unwritten]
  have hev : u.host.events = s.host.events := congrArg (·.host.events) hlink
  have hwu : u.canWrite 2 u.host.events.length = true := by
    rw [hev]
    exact (congrArg (·.canWrite 2 s.host.events.length) hlink).trans hw
  obtain ⟨hnil, hseq, hmod, heq⟩ := State.drainEvts_all (k := 256) (by rw [hev]; exact hlen) hwu
  generalize State.drainEvts 256 u = v at hnil hseq hmod heq ⊢
  obtain ⟨hnil', hseq', hring, heq'⟩ := SameEvents.drainTel (v.host.tel.length + v.host.telTime.length) v
  generalize State.drainTel (v.host.tel.length + v.host.telTime.length) v = w at hnil' hseq' hring heq' ⊢
  refine ⟨hnil'.trans hnil, ?_, ?_, ?_⟩
  · rw [hseq', hseq, hev]
    exact congrArg (· + _) (congrArg (·.host.evtSeq) hlink)
  · rw [hring, hmod, hev]
    exact congrArg (·.mod + _) (State.ring_of_unwritten hlink 2)
  · rw [heq', heq, State.eq_of_unwritten hlink]

theorem execEvtQueueDrain_waits (hw : s.canWrite 2 1 = false) : Completes (.evtQueueDrain dt) s (fun t =>
    t.host.events = s.host.events ∧ t.host.evtSeq = s.host.evtSeq ∧ t = { s.advance dt with host := t.host }) := by
  refine ⟨_, rfl, ?_⟩
  generalize hu : (s.advance dt).linkTakes = u
  have hlink : u.unwritten = (s.advance dt).unwritten := by rw [← hu, State.linkTakes_unwritten]
  have hstay : State.drainEvts 256 u = u := by
    have hwu : u.canWrite 2 1 = false := (congrArg (·.canWrite 2 1) hlink).trans hw
    unfold State.drainEvts
    split
    · rfl
    · simp [hwu]
  rw [hstay]
  obtain ⟨hev, hseq, -, heq⟩ := SameEvents.drainTel (u.host.tel.length + u.host.telTime.length) u
  generalize State.drainTel (u.host.tel.length + u.host.telTime.length) u = w at hev hseq heq ⊢
  exact ⟨hev.trans (congrArg (·.host.events) hlink), hseq.trans (congrArg (·.host.evtSeq) hlink),
    by rw [heq, State.eq_of_unwritten hlink]⟩

theorem execStatusBlockRefresh_writes (hr : s.anyRing = true) (hd : s.dmaOk = true) (hst : s.dev.st.servesRings = true) :
    Completes (.statusBlockRefresh dt) s (fun t =>
      t.host.out = s.host.out ++ [.status s.host.stBase (s.host.rings.map (·.mod)) (BitVec.ofNat 64 (s.advance dt).now) s.dev.bootCount
        s.dev.st.code s.dev.grace.isSome (s.cnt.getD 64 0) (s.cnt.getD 65 0) s.host.sweeps]
      ∧ t.host.lastStatus = (s.advance dt).now ∧ t = { s.advance dt with host := t.host }) := by
  have hdue : ((s.advance dt).anyRing && (s.advance dt).dmaOk && (s.advance dt).dev.st.servesRings) = true := by
    rw [show (s.advance dt).anyRing = true from hr, show (s.advance dt).dmaOk = true from hd]
    exact hst
  refine ⟨_, congrArg Host.Outcome.next (if_pos hdue), ?_⟩
  unfold State.writeStatus
  extract_lets h w
  rw [if_pos (show (s.advance dt).dmaOk = true from hd)]
  exact ⟨State.emit_out (s := s.advance dt) hd _, rfl, rfl⟩

theorem execMsixModerationTimeout_sends {v : Nat} (hv : v < 32) (hc : 0 < (s.vec v).count)
    (hdue : (s.vec v).oldest + (s.vec v).curTime * 250 ≤ (s.advance dt).now) : Completes (.msixModerationTimeout dt v) s (fun t =>
      (t.vec v).count = 0
      ∧ (if (s.vec v).mask = true ∨ s.host.fmask = true ∨ (s.vec v).addr = 0 ∨ s.host.paused = true ∨ s.dmaOk = false
          then (t.vec v).pba = true ∧ t.host.out = s.host.out
          else (t.vec v).pba = false ∧ t.host.out = s.host.out ++ [.msix v (s.vec v).addr (s.vec v).data])
      ∧ t = { s.advance dt with host := t.host }) := by
  have hlen : v < (s.advance dt).host.vecs.length := by
    by_contra hge
    have hnone : s.vec v = {} := List.getD_eq_default _ _ (Nat.le_of_not_lt hge)
    simp [hnone] at hc
  have hrow : exec (.msixModerationTimeout dt v) s = .next ((s.advance dt).sendLate v) :=
    congrArg Host.Outcome.next (if_pos (by
      rw [show (s.advance dt).vec v = s.vec v from rfl]
      simp [hv, hc, hdue, usTicks]))
  have hheld : (s.advance dt).withheld v = true
      ↔ (s.vec v).mask = true ∨ s.host.fmask = true ∨ (s.vec v).addr = 0 ∨ s.host.paused = true ∨ s.dmaOk = false := by
    rw [show (s.advance dt).withheld v = s.withheld v from rfl]
    simp [State.withheld, or_assoc]
  refine ⟨_, hrow, ?_, ?_, State.sendLate_host _ v⟩
  · rw [State.sendLate_vec hlen, if_pos rfl]
  · rw [State.sendLate_vec hlen, if_pos rfl, State.sendLate_out]
    split
    next h => exact ⟨hheld.2 h, if_pos (hheld.2 h)⟩
    next h =>
      have hfree : (s.advance dt).withheld v = false := by
        rw [← Bool.not_eq_true, hheld]
        exact h
      simp only [hfree, Bool.false_eq_true, if_false, true_and]
      rfl

/-! ### Telemetry (R364 to R366, R389) -/

/-- A kind of record forms one where `telForms` says so, of its class and length, and none otherwise; the stamps that a
pulse edge's record takes leave the input. -/
theorem State.formRecord_eq (u : State) (k : TelKind) : match u.telForms k with
    | none => u.formRecord k = u
    | some (c, n) => ∃ field typ ds, ds.length = n ∧ 0 < n ∧ c < 7 ∧ u.formRecord k = State.telemeter { u with field := field } c typ ds := by
  have hforms : ∀ (c typ m v : Nat), 0 < m → c < 7 → ∃ field typ' ds, ds.length = m ∧ 0 < m ∧ c < 7
      ∧ u.telemeter c typ (descsOf m v) = State.telemeter { u with field := field } c typ' ds :=
    fun c typ m v hm hc => ⟨u.field, typ, descsOf m v, by simp [descsOf], hm, hc, rfl⟩
  cases k with
  | fusion =>
    cases hout : u.nav.outs with
    | nil => simp [State.telForms, State.formRecord, hout]
    | cons o os => simpa [State.telForms, State.formRecord, hout] using hforms 0 0x10 3 o.record (by decide) (by decide)
  | valve ch =>
    cases hp : u.planned ch with
    | false => simp [State.telForms, State.formRecord, hp]
    | true => simpa [State.telForms, State.formRecord, hp] using hforms 1 _ 2 _ (by decide) (by decide)
  | loop n =>
    cases hl : u.loopOn n with
    | false => simp [State.telForms, State.formRecord, hl]
    | true => simpa [State.telForms, State.formRecord, hl] using hforms 3 _ 1 _ (by decide) (by decide)
  | fd => exact hforms 4 _ 1 _ (by decide) (by decide)
  | ai => exact hforms 4 _ 3 _ (by decide) (by decide)
  | pi => exact hforms 4 _ 3 _ (by decide) (by decide)
  | count k =>
    by_cases hk : k < 12
    · simpa [State.telForms, State.formRecord, hk] using hforms 6 _ 1 _ (by decide) (by decide)
    · simp [State.telForms, State.formRecord, hk]
  | edge n =>
    cases ht : (u.pin_ n).tel with
    | nil => simp [State.telForms, State.formRecord, ht]
    | cons e es =>
      have hnone : (u.pin_ n).tel.isEmpty = false := by simp [ht]
      have hthree : ((u.pin_ n).tel.take 3).isEmpty = false := by simp [ht]
      simp only [State.telForms, State.formRecord, hnone, hthree]
      exact ⟨(u.updPi n (fun p => { p with tel := p.tel.drop 3 })).field, 0x41, descsOf 1 (edgeRecord n ((u.pin_ n).tel.take 3)),
        by simp [descsOf], by decide, by decide, rfl⟩

theorem State.formRecord_of_forms {u : State} {k : TelKind} {c n : Nat} (h : u.telForms k = some (c, n)) :
    ∃ field typ ds, ds.length = n ∧ 0 < n ∧ c < 7 ∧ u.formRecord k = State.telemeter { u with field := field } c typ ds := by
  have heq := u.formRecord_eq k
  rw [h] at heq
  exact heq

/-- Forming a record changes the host interface, the counters, and the stamps of a pulse input. -/
theorem State.formRecord_frame (u : State) (k : TelKind) :
    u.formRecord k = { u with host := (u.formRecord k).host, cnt := (u.formRecord k).cnt, field := (u.formRecord k).field } := by
  have heq := u.formRecord_eq k
  split at heq
  · rw [heq]
  · obtain ⟨field, typ, ds, -, -, -, heq⟩ := heq
    rw [heq]
    exact State.eq_of_parts (by simp)

/-- A class that is off forms nothing (R365). -/
theorem State.telemeter_off {c : Nat} (hc : c < 7) (hoff : s.host.telSel.on.getLsbD c = false) (typ : Nat) (ds : List Desc) :
    s.telemeter c typ ds = s := by
  unfold State.telemeter State.telOn
  rw [if_neg (by simp [hoff]; omega)]

/-- The first record of its type is formed, whatever its class's decimation. -/
theorem State.telemeter_first {c : Nat} (hon : s.host.telSel.on.getLsbD c = true) (hcount : s.host.telCount = [])
    (typ : Nat) (ds : List Desc) : ∃ count, s.telemeter c typ ds = (s.updHost (fun h => { h with telCount := count })).formTel c ds := by
  refine ⟨[(typ, 1 % max (s.host.telSel.decs.getD c 1) 1)], ?_⟩
  unfold State.telemeter State.telOn State.telTurn
  rw [if_pos (by simp [hon]), hcount]
  rfl

theorem State.linkTakes_queue (h : s.host.queue = []) : s.linkTakes.host.queue = [] := by
  have hstep : ∀ k, linkStep k [] = ([], []) := fun k => by cases k <;> rfl
  unfold State.linkTakes HostIf.issue
  split
  · simp [h, hstep]
  · exact h

/-- A record of telemetry is written at once while nothing waits before it, and its ring has room. -/
theorem State.formTel_writes {c : Nat} (hc : c ≠ 7) {ds : List Desc} (hds : 0 < ds.length) (hlink : s.host.link = true)
    (haway : s.host.away = false) (hqueue : s.host.queue = []) (htel : s.host.tel = []) (htime : s.host.telTime = [])
    (hw : s.canWrite 3 ds.length = true) :
    let t := s.formTel c ds
    t.host.telSeq = s.host.telSeq + 1 ∧ (t.ring 3).mod = (s.ring 3).mod + BitVec.ofNat 32 ds.length ∧ t.host.tel = []
      ∧ t = { s with host := t.host } := by
  intro t
  let rec_ : Tel := { cls := c, formed := s.now, descs := ds }
  let u : State := State.linkTakes { s with host := { s.host with tel := [rec_] } }
  let v : State := { u with host := { u.host with tel := [] } }
  have hu : u.unwritten = (s.updHost (fun h => { h with tel := [rec_] })).unwritten := State.linkTakes_unwritten _
  have hready : u.telReady ds.length = true := by
    have hcan : u.canWrite 3 ds.length = true := (congrArg (·.canWrite 3 ds.length) hu).trans hw
    have hq : u.host.queue = [] := State.linkTakes_queue hqueue
    simp [State.telReady, hcan, hq]
  have ht : t = v.writeTel rec_ := by
    have hroom : State.makeTelRoom 0 (32 * ds.length) s = s := rfl
    have hform : t = State.drainTel ([rec_].length + s.host.telTime.length) u := by
      simp only [t, u, rec_, State.formTel, hlink, haway, hc, htel, List.length_nil, hroom, List.nil_append, Bool.not_true,
        Bool.or_false, Bool.false_eq_true, if_false]
    have htimeu : u.host.telTime = [] := (congrArg (·.host.telTime) hu).trans htime
    have htelu : u.host.tel = [rec_] := congrArg (·.host.tel) hu
    rw [hform, htime, List.length_singleton, List.length_nil, State.drainTel, htimeu, htelu]
    exact if_pos hready
  have hv : v.unwritten = s.unwritten := by
    refine (congrArg (fun x : State => x.updHost (fun h => { h with tel := [] })) hu).trans ?_
    rw [← htel]
    rfl
  have hlen : (ds.drop 1).length.succ = ds.length := by
    rw [List.length_drop]
    omega
  have hwrite := v.writeTel_unwritten rec_
  rw [← ht, hlen] at hwrite
  have hring := State.ring_updRing v 3 3 (fun r => { r with mod := r.mod + BitVec.ofNat 32 ds.length, loss := false })
    (State.ring_lt_of_served ((congrArg (·.served 3) hv).trans (Bool.and_eq_true_iff.1 hw).1))
  refine ⟨?_, ?_, congrArg (·.host.tel) hwrite, ?_⟩
  · exact (congrArg (·.host.telSeq) hwrite).trans (congrArg (·.host.telSeq + 1) hv)
  · rw [State.ring_of_unwritten hwrite]
    exact (congrArg Ring.mod hring).trans (congrArg (·.mod + _) (State.ring_of_unwritten hv 3))
  · rw [State.eq_of_unwritten hwrite]
    have hrest := State.eq_of_unwritten hv
    generalize v = w at hrest ⊢
    rw [hrest]
    rfl

theorem execTelemetryRecord_due {k : TelKind} (hi : s.islands = true) (hst : s.dev.st.servesRings = true)
    (hdue : (s.advance dt).telDue k = true) : exec (.telemetryRecord dt k) s = .next (((s.advance dt).updHost (fun h =>
      { h with telAt := ((telRate k).1, (s.advance dt).now) :: h.telAt.filter (fun p => p.1 ≠ (telRate k).1) })).formRecord k) := by
  have hgo : ((s.advance dt).islands && (s.advance dt).dev.st.servesRings && (s.advance dt).telDue k) = true := by
    rw [show (s.advance dt).islands = s.islands from rfl, hi, hdue]
    simpa using hst
  exact congrArg Host.Outcome.next (if_pos hgo)

theorem State.telForms_updHost (k : TelKind) (f : HostIf → HostIf) : ((s.advance dt).updHost f).telForms k = s.telForms k := by
  cases k <;> rfl

theorem execTelemetryRecord_frame (k : TelKind) : Completes (.telemetryRecord dt k) s (fun t =>
    t = { s.advance dt with host := t.host, cnt := t.cnt, field := t.field }) := by
  refine ⟨_, rfl, ?_⟩
  split
  · rw [State.formRecord_frame]
    rfl
  · rfl

theorem execTelemetryAgeDrop_drops : Completes (.telemetryAgeDrop dt) s (fun t =>
    t.host.tel = s.host.tel.filter (fun r => decide ((s.advance dt).now < r.formed + s.host.telSel.age * 250000))
      ∧ HostOnly (s.advance dt) t) := by
  refine ⟨_, rfl, ?_⟩
  have hkept : (fun r : Tel => !decide (r.formed + s.host.telSel.age * msTicks ≤ (s.advance dt).now))
      = fun r => decide ((s.advance dt).now < r.formed + s.host.telSel.age * 250000) := by
    funext r
    rw [← decide_not]
    exact decide_eq_decide.2 (by simp [msTicks])
  unfold State.dropOld
  extract_lets old gone u
  refine State.each_keeps (P := fun v => v.host.tel = s.host.tel.filter (fun r =>
      decide ((s.advance dt).now < r.formed + s.host.telSel.age * 250000)) ∧ HostOnly (s.advance dt) v) ?_ gone ⟨?_, rfl⟩
  · rintro v r ⟨htel, honly⟩
    exact ⟨htel, honly.trans rfl⟩
  · rw [← hkept]
    rfl

theorem execTelemetryRecord_writes {k : TelKind} {c n : Nat} (hi : s.islands = true) (hst : s.dev.st.servesRings = true)
    (hdue : (s.advance dt).telDue k = true) (hforms : s.telForms k = some (c, n)) (hon : s.host.telSel.on.getLsbD c = true)
    (hcount : s.host.telCount = []) (hlink : s.host.link = true) (haway : s.host.away = false) (hqueue : s.host.queue = [])
    (htel : s.host.tel = []) (htime : s.host.telTime = []) (hw : s.canWrite 3 n = true) :
    Completes (.telemetryRecord dt k) s (fun t => t.host.telSeq = s.host.telSeq + 1
      ∧ (t.ring 3).mod = (s.ring 3).mod + BitVec.ofNat 32 n ∧ t.host.tel = []
      ∧ t = { s.advance dt with host := t.host, cnt := t.cnt, field := t.field }) := by
  refine ⟨_, execTelemetryRecord_due hi hst hdue, ?_⟩
  obtain ⟨field, typ, ds, rfl, hpos, hc, heq⟩ :=
    State.formRecord_of_forms ((State.telForms_updHost (dt := dt) k _).trans hforms)
  rw [heq]
  generalize hu : ({ (s.advance dt).updHost _ with field := field } : State) = u
  obtain ⟨count, htold⟩ := State.telemeter_first (s := u) (c := c) (by rw [← hu]; exact hon) (by rw [← hu]; exact hcount) typ ds
  obtain ⟨hseq, hmod, hnil, hrest⟩ := State.formTel_writes (s := u.updHost (fun h => { h with telCount := count })) (c := c)
    (by omega) hpos (by rw [← hu]; exact hlink) (by rw [← hu]; exact haway) (by rw [← hu]; exact hqueue)
    (by rw [← hu]; exact htel) (by rw [← hu]; exact htime) (by rw [← hu]; exact hw)
  rw [htold]
  generalize (u.updHost (fun h => { h with telCount := count })).formTel c ds = t at hseq hmod hnil hrest ⊢
  refine ⟨hseq.trans (by rw [← hu]; rfl), hmod.trans (by rw [← hu]; rfl), hnil, ?_⟩
  rw [hrest, ← hu]
  rfl

theorem execTelemetryRecord_off {k : TelKind} {c n : Nat} (hforms : s.telForms k = some (c, n))
    (hoff : s.host.telSel.on.getLsbD c = false) : Completes (.telemetryRecord dt k) s (fun t =>
      t.host = { s.host with telAt := t.host.telAt } ∧ t = { s.advance dt with host := t.host, field := t.field }) := by
  refine ⟨_, rfl, ?_⟩
  split
  · obtain ⟨field, typ, ds, -, -, hc, heq⟩ := State.formRecord_of_forms ((State.telForms_updHost (dt := dt) k _).trans hforms)
    rw [heq, State.telemeter_off hc (by exact hoff)]
    exact ⟨rfl, rfl⟩
  · exact ⟨rfl, rfl⟩

end

/-- Settles O14: a message, a record and a status block each change the link, their ring and their vector only, so the
queue of events drains into the EVT ring, and a due record of a selected class into the TEL ring. -/
theorem outboundRows : Obligations.OutboundRows :=
  ⟨fun _ _ hr hd hst => execStatusBlockRefresh_writes hr hd hst,
    fun _ _ _ hv hc hdue => execMsixModerationTimeout_sends hv hc hdue,
    fun _ _ hlen hw => execEvtQueueDrain_drains hlen hw,
    fun _ _ hw => execEvtQueueDrain_waits hw,
    fun _ _ _ _ _ hi hst hdue hforms hon hcount hlink haway hqueue htel htime hw =>
      execTelemetryRecord_writes hi hst hdue hforms hon hcount hlink haway hqueue htel htime hw,
    fun _ _ _ _ _ hforms hoff => execTelemetryRecord_off hforms hoff,
    fun _ _ k => execTelemetryRecord_frame k,
    fun _ _ => execTelemetryAgeDrop_drops⟩

end Sys2Proof.Machine
end

section
/-! O45: FD_CLEAR of a pin that the configuration disables (R296, R374, R375). -/

namespace Sys2Proof.Machine

/-- A bound module with one command announced; pin 0 is DISABLED by the configuration, and latched. -/
def disabledPinLatched : State :=
  { dev := { st := .standby, bound := true, bar0Ready := true }
    host := { link := true, bme := true, mse := true,
              rings := [{ en := true, host := 1 }, { en := true }] ++ List.replicate 14 {} }
    cfg := { vals := { vals := [(.fdMode, 0, 3)] } }
    field := { pins := { latched := true } :: List.replicate 31 {} } }

/-- Refutes O45: the statement has FD_CLEAR unlatch every pin of its mask, and leaves out a pin that the configuration
disables, which no mask may name (R374, R375).  In `disabledPinLatched` the command completes NO_RESOURCE, and the pin
stays latched. -/
theorem not_fieldCommands : ¬ Obligations.FieldCommands := by
  rintro ⟨-, hclear, -⟩
  obtain ⟨v, ht, hpins, -⟩ := hclear disabledPinLatched 0 {} 1 (by decide +kernel) (by decide +kernel)
  obtain ⟨hlatch, -⟩ := hpins 0 (by decide)
  have hfield : (v.complete 0x72 {} (disabledPinLatched.ring 0).mod .ok 0).field = v.field := by simp
  rw [State.pin, ← hfield, ← Host.Outcome.next.inj ht] at hlatch
  revert hlatch
  decide +kernel

end Sys2Proof.Machine
end

section
/-! O46, O47 and O48: a started attempt that CAN_MODE let end (R332, R339), and a cancelled frame behind which
descriptors have ended (R316, R317). -/

namespace Sys2Proof.Machine

/-- A module in STANDBY whose BUS0 reintegrates after a CAN_MODE, while the attempt of its head frame is still under
way. -/
def attemptOutlivesMode : State :=
  { dev := { st := .standby }
    time := { running := true }
    can := { bus := { integrating := true, fifo := [{ kind := .host 0 0, going := true }] } :: List.replicate 3 {} } }

/-- Refutes O46: the statement has BUS_INTEGRATION end the reintegration at once, but a head frame whose attempt is under
way ends it first (R339).  In `attemptOutlivesMode` the bus goes on reintegrating. -/
theorem not_canReceiveRows : ¬ Obligations.CanReceiveRows := by
  rintro ⟨-, -, -, -, -, -, hintegrated, -⟩
  obtain ⟨t, ht, hbus, -⟩ := hintegrated attemptOutlivesMode 0 0 (by decide)
  rw [← Host.Outcome.next.inj ht] at hbus
  have hdone := congrArg Bus.integrating hbus
  revert hdone
  decide +kernel

/-- Refutes O47: the statement leaves the head frame that lost its arbitration as it was but for its count, and its
attempt has ended as well (R314, R339).  In `attemptOutlivesMode` the head no longer counts as under way. -/
theorem not_canTransmitRows : ¬ Obligations.CanTransmitRows := by
  rintro ⟨-, hlost, -⟩
  obtain ⟨⟨t, ht, hbus, -⟩, -⟩ := hlost attemptOutlivesMode 0 0 0 { kind := .host 0 0, going := true }
    (by decide) (by decide) (by decide +kernel) rfl (by decide)
  rw [← Host.Outcome.next.inj ht] at hbus
  have hhead := congrArg (fun x => (x.fifo.headD {}).going) hbus
  revert hhead
  decide +kernel

/-- A bound module with one command announced; two host frames wait on BUS0, and behind the second a descriptor of the
ring has ended BAD, whose DONE follows in ring order. -/
def endedBehindSecond : State :=
  { dev := { st := .standby, bound := true, bar0Ready := true }
    host := { link := true, bme := true, mse := true,
              rings := [{ en := true, host := 1 }, { en := true }] ++ List.replicate 14 {} }
    can := { bus := { fifo := [{ kind := .host 0 1 }, { kind := .host 1 2, after := [(2, 3, 0)] }] }
                      :: List.replicate 3 {} } }

/-- Refutes O48: the statement has CAN_TX_CANCEL take its frame out and leave the others of the FIFO as they are, but the
descriptors that ended behind the frame then follow the host frame before it (R316).  In `endedBehindSecond` the first
frame has one such descriptor after the cancel of the second. -/
theorem not_canCommands : ¬ Obligations.CanCommands := by
  rintro ⟨hcancel, -⟩
  obtain ⟨hcancelled, -⟩ := hcancel endedBehindSecond 0 0 1 {} 2 false (by decide +kernel) (by decide) (by decide)
    (by decide) (by decide) (by decide +kernel)
  obtain ⟨v, ht, hfifo, -⟩ := hcancelled (by decide)
  have hcan : (v.complete 0x81 {} (endedBehindSecond.ring 0).mod .ok 0).can = v.can := by simp
  rw [State.busOf, ← hcan, ← Host.Outcome.next.inj ht] at hfifo
  revert hfifo
  decide +kernel

end Sys2Proof.Machine
end

section
/-! O6 and O8: the supply conditions that put a booted module into FAULT, and SAFEN (R39, R422, R428, R443, R450). -/

namespace Sys2Proof.Machine

/-! ### The set-up of the link, where FAULT is entered -/

@[simp] theorem State.judge_linkSetup (s : State) (ch : Nat) : (s.judge ch).host.linkSetup = s.host.linkSetup := by
  unfold State.judge
  dsimp only
  (repeat' split) <;> simp

@[simp] theorem State.missed_linkSetup (s : State) (ch : Nat) (closing : Bool) :
    (s.missed ch closing).host.linkSetup = s.host.linkSetup := by
  unfold State.missed
  dsimp only
  (repeat' split) <;> simp [State.toFallback]

@[simp] theorem State.decideOpen_linkSetup (s : State) (ch : Nat) (o : Outc) (stamp : Nat) :
    (s.decideOpen ch o stamp).host.linkSetup = s.host.linkSetup := by
  unfold State.decideOpen
  dsimp only
  (repeat' split) <;> simp

@[simp] theorem State.decideClose_linkSetup (s : State) (ch : Nat) (o : Outc) (stamp : Nat) :
    (s.decideClose ch o stamp).host.linkSetup = s.host.linkSetup := by
  unfold State.decideClose
  dsimp only
  (repeat' split) <;> simp

@[simp] theorem State.stopActuation_linkSetup (s : State) (ch t : Nat) (clamp : Bool) :
    (s.stopActuation ch t clamp).host.linkSetup = s.host.linkSetup := by
  have hdecay : ∀ u : State, (u.startDecay ch t clamp).host.linkSetup = u.host.linkSetup := fun u => by
    unfold State.startDecay
    dsimp only
    split <;> simp
  unfold State.stopActuation
  dsimp only
  split <;> simp [hdecay]

@[simp] theorem State.forceOff_linkSetup (s : State) (ch : Nat) : (s.forceOff ch).host.linkSetup = s.host.linkSetup := by
  unfold State.forceOff
  dsimp only
  (repeat' split) <;> simp

@[simp] theorem State.valvesSafe_linkSetup (s : State) : s.valvesSafe.host.linkSetup = s.host.linkSetup := by
  simp [State.valvesSafe]

/-- Entering FAULT keeps the set-up of the link, as entering every other state does. -/
theorem State.enter_fault_linkSetup (s : State) (cause : Nat) : (s.enter .fault cause).host.linkSetup = s.host.linkSetup := by
  unfold State.enter
  dsimp only
  (repeat' split) <;> simp

theorem State.toFault_linkSetup (s : State) (cause : Nat) : (s.toFault cause).host.linkSetup = s.host.linkSetup := by
  have hdiscard : ∀ h : HostIf, { h with discard := h.sweeping }.linkSetup = h.linkSetup := fun _ => rfl
  unfold State.toFault
  (repeat' split)
  iterate 3 rfl
  all_goals
    rw [State.enter_fault_linkSetup]
    simp [hdiscard]

/-! ### SAFEN -/

/-- The module's answer to SAFEN: FAULT with the cause, whatever was recorded before (R450). -/
theorem State.safenFault_faults {s : State} (hs : s.dev.st.booted) (hnew : s.dev.st ≠ .fault → FCause.safen ∉ s.dev.causes) :
    s.safenFault.dev.st = .fault ∧ FCause.safen ∈ s.safenFault.dev.causes := by
  unfold State.safenFault
  split
  next hold =>
    have hmem : FCause.safen ∈ s.dev.causes := by simpa using hold
    exact ⟨by_contra fun hst => hnew hst hmem, hmem⟩
  next =>
    exact ⟨State.toFault_st _ _ (by simpa using hs), State.toFault_causes _ _ _ (State.addCause_mem _ _ _ (.inr rfl))⟩

/-- SAFEN's answer touches no lane's SAFEN and force. -/
theorem State.safenFault_lanes (s : State) :
    s.safenFault.sag.a.safen = s.sag.a.safen ∧ s.safenFault.sag.a.force = s.sag.a.force
      ∧ s.safenFault.sag.b.safen = s.sag.b.safen ∧ s.safenFault.sag.b.force = s.sag.b.force := by
  unfold State.safenFault
  split
  · exact ⟨rfl, rfl, rfl, rfl⟩
  · simp only [State.toFault_sag, State.addCause_keeps]
    exact ⟨rfl, rfl, rfl, rfl⟩

/-- A booted module sees SAFEN: the lane forces safe, and the module faults. -/
theorem State.safenSeen_faults {s : State} {lane : Nat} (hs : s.dev.st.booted)
    (hnew : s.dev.st ≠ .fault → FCause.safen ∉ s.dev.causes) :
    let t := s.safenSeen lane
    t.dev.st = .fault ∧ FCause.safen ∈ t.dev.causes ∧ t.sag.inLane lane (·.force)
      ∧ (s.sag.inLane lane (·.safen) → t.sag.inLane lane (·.safen)) := by
  obtain ⟨hreset, hboot⟩ := hs
  intro t
  generalize hu : (s.updLane lane (fun l => { l with force := true })).raise 0xB002 subjModule [(128, 1, 1)] true = u
  have ht : t = u.safenFault := by
    have hst : u.dev.st = s.dev.st := by simp [← hu]
    have hsafe : (s.updLane lane (fun l => { l with force := true })).dev.st ≠ .reset := by simpa using hreset
    simp only [t, State.safenSeen, hu]
    rw [if_neg (by simpa using hsafe), if_neg (by simpa [hst] using hboot)]
  have hdev : u.dev = s.dev := by simp [← hu]
  obtain ⟨hasafen, haforce, hbsafen, hbforce⟩ := u.safenFault_lanes
  obtain ⟨hfault, hcause⟩ := State.safenFault_faults (s := u) (by rw [hdev]; exact ⟨hreset, hboot⟩) (by rwa [hdev])
  have hsag : u.sag = (s.updLane lane (fun l => { l with force := true })).sag := by simp [← hu]
  rw [ht]
  refine ⟨hfault, hcause, ?_, fun hin => ?_⟩
  · simp only [Sag.inLane, haforce, hbforce, hsag, updLane_a, updLane_b]
    exact ⟨fun hl => by simp [hl], fun hl => by simp [hl]⟩
  · simp only [Sag.inLane, hasafen, hbsafen, hsag, updLane_a, updLane_b] at hin ⊢
    exact ⟨fun hl => by simpa [hl] using hin.1 hl, fun hl => by simpa [hl] using hin.2 hl⟩

theorem execSafenAssert_faults {s : State} {dt lane lowNs : Nat} (hs : s.dev.st.booted) (hlow : 1000 ≤ lowNs)
    (ha : s.sag.a.safen = false) (hb : s.sag.b.safen = false) (hvhio : s.pwr.vhioLow = false)
    (hnew : s.dev.st ≠ .fault → FCause.safen ∉ s.dev.causes) : Completes (.safenAssert dt lane lowNs) s (fun t =>
      t.dev.st = .fault ∧ FCause.safen ∈ t.dev.causes ∧ t.sag.inLane lane (fun l => l.safen && l.force)) := by
  let u := ((s.advance dt).takeFree.2).updLane lane (fun l => { l with safen := true })
  have hrow : exec (.safenAssert dt lane lowNs) s = .next (u.safenSeen lane) := by
    have htold : ((s.advance dt).takeFree.2.safenIn (s.advance dt).takeFree.2.sag.a
        || (s.advance dt).takeFree.2.safenIn (s.advance dt).takeFree.2.sag.b) = false := by simp [State.safenIn, ha, hb, hvhio]
    have htaken : (s.advance dt).takeFree.2.safenTaken lane = u.safenSeen lane := by
      unfold State.safenTaken
      rw [htold]
      rfl
    show execSafenAssert dt lane lowNs s = _
    rw [← htaken]
    simp [execSafenAssert, hlow]
  obtain ⟨hfault, hcause, hforce, hsafen⟩ := State.safenSeen_faults (s := u) (lane := lane) (by simpa [u] using hs) (by simpa [u] using hnew)
  have hin : u.sag.inLane lane (·.safen) := by
    simp only [Sag.inLane, u, updLane_a, updLane_b]
    exact ⟨fun hl => by simp [hl], fun hl => by simp [hl]⟩
  obtain ⟨hsa, hsb⟩ := hsafen hin
  obtain ⟨hfa, hfb⟩ := hforce
  exact ⟨_, hrow, hfault, hcause, fun hl => by simp [hsa hl, hfa hl], fun hl => by simp [hsb hl, hfb hl]⟩

theorem execSafenRelease_releases {s : State} {dt highTicks : Nat} (hhigh : 250000 ≤ highTicks)
    (hin : s.sag.a.safen = true ∨ s.sag.b.safen = true) : Completes (.safenRelease dt highTicks) s (fun t =>
      t.sag.a = { s.sag.a with safen := false } ∧ t.sag.b = { s.sag.b with safen := false }
      ∧ t = { s.advance dt with sag := t.sag, host := t.host, cnt := t.cnt }) := by
  generalize hu : (s.advance dt).updLane 2 (fun l => { l with safen := false }) = u
  have hfree : ∀ t : State, HostOnly u t → t.sag.a = { s.sag.a with safen := false } ∧ t.sag.b = { s.sag.b with safen := false }
      ∧ t = { s.advance dt with sag := t.sag, host := t.host, cnt := t.cnt } := fun t ht => by
    rw [HostOnly] at ht
    rw [ht, ← hu]
    exact ⟨rfl, rfl, rfl⟩
  refine completes_of_cond rfl (by simp [hhigh, hin]) ?_
  simp only [hu]
  split
  · exact hfree u (HostOnly.refl u)
  · unfold State.safenFree
    split
    · exact hfree _ (State.raise_hostOnly ..)
    · exact hfree u (HostOnly.refl u)

/-- Settles O8: SAFEN is seen by `State.safenSeen`, and released in both lanes at once. -/
theorem safenRows : Obligations.SafenRows :=
  ⟨fun _ _ _ _ hs hlow ha hb hvhio hnew => execSafenAssert_faults hs hlow ha hb hvhio hnew,
    fun _ _ _ hhigh hin => execSafenRelease_releases hhigh hin⟩

/-! ### Supplies that fault the module -/

theorem State.ratioLost_pwr (s : State) (k : Nat) : (s.ratioLost k).pwr = s.pwr := by
  unfold State.ratioLost
  exact State.each_induct State.pwr (fun u n => by simp) s _

theorem State.shedLoads_pwr (s : State) : s.shedLoads.pwr = { s.pwr with shed := true } := by
  unfold State.shedLoads
  exact State.each_induct State.pwr State.ratioLost_pwr _ _

section Faults

variable {s : State} {dt mv held : Nat} (hs : s.dev.st.booted)
include hs

theorem State.supplyEvt_of_booted (kind : Nat) : s.supplyEvt kind mv
    = s.raise 0xB003 subjModule [(128, 8, kind), (144, 16, mv)] (decide (kind = 2)) :=
  if_pos (State.supervised_of_booted hs)

theorem execBrownout_faults {hold : Nat} (hmv : mv < 6000) (hbrown : s.pwr.brownout = false) (hheld : 2500 ≤ held) :
    Completes (.brownout dt mv hold held) s (fun t => InFault .brownout 2 t
      ∧ t.pwr = { s.pwr with vbat := mv, hold := hold, sag := true, lowField := true, brownout := true, onHold := true,
                             shed := true }) := by
  refine completes_of_cond rfl (by simp [hmv, hbrown, usTicks, hheld]) ?_
  generalize hu : ((((s.advance dt).readVbat mv).updPwr (fun p => { p with hold := hold })).updPwr (fun p =>
    { p with sag := true, lowField := true, brownout := true, onHold := true })).supplyEvt 2 mv = u
  have hdev : u.dev = s.dev := by
    rw [← hu, State.supplyEvt_hostOnly]
    rfl
  have hpwr : u.pwr = { s.pwr with vbat := mv, hold := hold, sag := true, lowField := true, brownout := true, onHold := true } := by
    rw [← hu, State.supplyEvt_hostOnly]
    rfl
  have hbooted : u.dev.st.booted := by rwa [hdev]
  simp only [hu]
  rw [if_pos (State.supervised_of_booted hbooted)]
  refine ⟨(State.moduleWide_inFault u .brownout 2 hbooted (by decide)).of_same (by simp) (by simp) (by simp), ?_⟩
  rw [State.shedLoads_pwr]
  simp [hpwr]

/-- A supply condition of class 8, set by `f`, faults a booted module. -/
theorem supply_faults (f : Pwr → Pwr) :
    InFault (.cls 8) 2 (((s.advance dt).updPwr f).moduleWide (.cls 8) 2)
      ∧ (((s.advance dt).updPwr f).moduleWide (.cls 8) 2).pwr = f s.pwr :=
  ⟨State.moduleWide_inFault _ _ _ hs (by decide), by simp⟩

theorem execVbatOvervoltage_faults (hmv : 66000 < mv) (hover : s.pwr.overV = false) (hheld : 2500 ≤ held) :
    Completes (.vbatOvervoltage dt mv held) s (fun t => InFault (.cls 8) 2 t ∧ t.pwr = { s.pwr with vbat := mv, overV := true }) := by
  refine completes_of_cond rfl (by simp [hmv, hover, usTicks, hheld]) ?_
  dsimp only
  split
  · exact supply_faults hs (fun p => { p with vbat := mv, overV := true })
  next hno => exact absurd (bne_iff_ne.2 hs.1) hno

theorem execRegulatorOutOfRange_faults : Completes (.regulatorOutOfRange dt) s (fun t =>
    InFault (.cls 8) 2 t ∧ t.pwr = { s.pwr with regBad := true } ∧ t.sag.resetPending ≠ none) := by
  refine completes_of_cond rfl (bne_iff_ne.2 hs.1) ⟨State.resetClass_inFault 2 hs (by decide), ?_, State.resetClass_resetPending _ _ _⟩
  unfold State.resetClass
  simp

theorem execHoldOvervoltage_faults (hmv : s.pwr.vHold + 2000 < mv) : Completes (.holdOvervoltage dt mv) s (fun t =>
    InFault (.cls 8) 2 t ∧ t.pwr = { s.pwr with hold := mv, holdOv := true }) := by
  refine completes_of_cond rfl (by simpa using hmv) ?_
  dsimp only
  split
  · exact supply_faults hs (fun p => { p with hold := mv, holdOv := true })
  next hno => exact absurd (bne_iff_ne.2 hs.1) hno

end Faults

/-! ### VHIO too low: the host is lost, and SAFEN seen (R341, R445) -/

/-- A host loss records no cause, and leaves a booted module out of RESET, BOOT and FAULT where it was. -/
theorem State.hostLost_causes {s : State} (det : Nat) (hs : s.dev.st.booted) :
    (s.hostLost det).dev.causes = s.dev.causes ∧ (s.hostLost det).dev.st.booted
      ∧ ((s.hostLost det).dev.st = .fault ↔ s.dev.st = .fault) := by
  have hcauses : ∀ k m, ((s.unboundBy det).graceExpires m).dev.causes = s.dev.causes
      ∧ ((s.unboundBy det).enter .safe k).dev.causes = s.dev.causes := fun k m => by
    simp [State.graceExpires, State.enter_dev]
  by_cases hst : s.dev.st = .standby
  · rw [State.hostLost_of_standby det hst]
    exact ⟨(hcauses _ 0).2, by simp [State.enter_dev, DevState.booted], by simp [State.enter_dev, hst]⟩
  · cases ha : s.dev.st.active with
    | true =>
      have hnofault : s.dev.st ≠ .fault := fun hf => by simp [hf, DevState.active] at ha
      rw [State.hostLost_of_active det ha]
      (repeat' split)
      · exact ⟨by simp, by simpa using hs, by simp⟩
      · exact ⟨(hcauses 0 _).1, by simp [State.graceExpires, State.enter_dev, DevState.booted], by simp [State.graceExpires, State.enter_dev, hnofault]⟩
      · exact ⟨by simp, by simpa using hs, by simp⟩
    | false =>
      rw [State.hostLost_of_other det hst ha]
      exact ⟨by simp, by simpa using hs, by simp⟩

theorem State.linkLost_of_booted {s : State} (det : Nat) (hs : s.dev.st.booted) :
    s.linkLost det = ((s.updHost (fun h => { h with link := false })).hostLost det).hostIfReset := by
  unfold State.linkLost
  dsimp only
  rw [if_neg (by simpa using hs.1)]

theorem State.safenSeen_linkSetup (s : State) (lane : Nat) : (s.safenSeen lane).host.linkSetup = s.host.linkSetup := by
  have hfault : ∀ u : State, u.safenFault.host.linkSetup = u.host.linkSetup := fun u => by
    unfold State.safenFault
    split
    · rfl
    · rw [State.toFault_linkSetup, (State.addCause_keeps ..).2.2.2.2.2.1]
      rfl
  unfold State.safenSeen
  simp [hfault]

@[simp] theorem State.wake_bound (s : State) : s.wake.dev.bound = s.dev.bound := by
  unfold State.wake
  split <;> rfl

@[simp] theorem State.addCause_bound (s : State) (c : FCause) : (s.addCause c).dev.bound = s.dev.bound := by
  unfold State.addCause
  split <;> rfl

theorem State.toFault_bound (s : State) (k : Nat) : (s.toFault k).dev.bound = s.dev.bound := by
  unfold State.toFault
  (repeat' split) <;> simp [State.enter_dev, State.recordOrphan]

theorem State.safenSeen_bound (s : State) (lane : Nat) : (s.safenSeen lane).dev.bound = s.dev.bound := by
  have hfault : ∀ u : State, u.safenFault.dev.bound = u.dev.bound := fun u => by
    unfold State.safenFault
    split
    · rfl
    · rw [State.toFault_bound]
      simp
  unfold State.safenSeen
  dsimp only
  split
  · simp
  · split <;> simp [hfault]

theorem execVhioLow_faults {s : State} {dt mv held : Nat} (hs : s.dev.st.booted)
    (hnew : s.dev.st ≠ .fault → FCause.safen ∉ s.dev.causes) (hmv : mv < 1400) (hlow : s.pwr.vhioLow = false)
    (hheld : 2500 ≤ held) : Completes (.vhioLow dt mv held) s (fun t =>
      t.dev.st = .fault ∧ FCause.safen ∈ t.dev.causes ∧ t.sag.a.force = true ∧ t.sag.b.force = true
      ∧ t.dev.bound = false ∧ t.host.link = false ∧ t.pwr = { s.pwr with vhioLow := true }) := by
  refine completes_of_cond rfl (by simp [hmv, hlow, usTicks, hheld]) ?_
  rw [State.linkLost_of_booted (s := (s.advance dt).updPwr (fun p => { p with vhioLow := true })) 0 hs]
  generalize hv : ((s.advance dt).updPwr (fun p => { p with vhioLow := true })).updHost (fun h => { h with link := false }) = v
  have hvdev : v.dev = s.dev := by simp [← hv]
  have hvlink : v.host.link = false := by rw [← hv]; rfl
  have hvpwr : v.pwr = { s.pwr with vhioLow := true } := by rw [← hv]; rfl
  obtain ⟨hcauses, hbooted, hfault⟩ := v.hostLost_causes 0 (by rwa [hvdev])
  have hlink : (v.hostLost 0).hostIfReset.host.link = false := by
    rw [State.hostIfReset_link]
    exact (congrArg Prod.fst (v.hostLost_linkSetup 0)).trans hvlink
  obtain ⟨hst, hcause, hforce, -⟩ := State.safenSeen_faults (s := (v.hostLost 0).hostIfReset) (lane := 2)
    (by simpa using hbooted) (by simpa [hcauses, hfault, hvdev] using hnew)
  obtain ⟨hfa, hfb⟩ := hforce
  refine ⟨hst, hcause, hfa (by decide), hfb (by decide), ?_, ?_, ?_⟩
  · rw [State.safenSeen_bound]
    simp
  · exact (congrArg Prod.fst (State.safenSeen_linkSetup _ 2)).trans hlink
  · rw [(State.safenSeen_keeps ..).2.2.1]
    simp [hvpwr]

/-- Settles O6: each supply's condition is set, and a module-wide cause or SAFEN puts the module into FAULT. -/
theorem supplyFaults : Obligations.SupplyFaults :=
  ⟨fun _ _ _ _ _ hs hmv hbrown hheld => execBrownout_faults hs hmv hbrown hheld,
    fun _ _ _ _ hs hmv hover hheld => execVbatOvervoltage_faults hs hmv hover hheld,
    fun _ _ hs => execRegulatorOutOfRange_faults hs, fun _ _ _ hs hmv => execHoldOvervoltage_faults hs hmv,
    fun _ _ _ _ hs hnew hmv hlow hheld => execVhioLow_faults hs hnew hmv hlow hheld⟩

end Sys2Proof.Machine
end

section
/-! What a read of the field's pins and inputs returns after a write to the same and to another one, and O43: the
inputs and outputs of the field pins (R293 to R296). -/

namespace Sys2Proof.Machine

section
variable (s : State) (dt p q : Nat)

@[simp] theorem State.advance_pin : (s.advance dt).pin p = s.pin p := rfl
@[simp] theorem State.advance_fdMode : (s.advance dt).fdMode p = s.fdMode p := rfl
@[simp] theorem State.advance_fdOut : (s.advance dt).fdOut p = s.fdOut p := rfl
@[simp] theorem State.advance_fdIn : (s.advance dt).fdIn p = s.fdIn p := rfl
@[simp] theorem State.advance_fdDrive : (s.advance dt).fdDrive p = s.fdDrive p := rfl
@[simp] theorem State.advance_cfgN (f : Fld) (i : Nat) : (s.advance dt).cfgN f i = s.cfgN f i := rfl
@[simp] theorem State.advance_cfgI (f : Fld) (i : Nat) : (s.advance dt).cfgI f i = s.cfgI f i := rfl
@[simp] theorem State.advance_cfgB (f : Fld) (i : Nat) : (s.advance dt).cfgB f i = s.cfgB f i := rfl
@[simp] theorem State.advance_islands : (s.advance dt).islands = s.islands := rfl

variable {s p q} (f : FdPin → FdPin)

theorem State.pin_updPin (hp : p < s.field.pins.length) : (s.updPin p f).pin p = f (s.pin p) :=
  (getD_modify _ _ _ _ _ hp).trans (if_pos rfl)

theorem State.pin_updPin_ne (hq : q ≠ p) : (s.updPin p f).pin q = s.pin q := by
  simp [State.pin, State.updPin, State.updField, hq.symm]

@[simp] theorem State.updPin_pins_length : (s.updPin p f).field.pins.length = s.field.pins.length := by
  simp [State.updPin, State.updField]

/-- A pin that the field side drives is neither latched nor OFF. -/
theorem State.fdDrive_updPin (hp : p < s.field.pins.length) : (s.updPin p f).fdDrive p
    = (s.fdOut p && (f (s.pin p)).out && !(f (s.pin p)).latched && !s.pwr.vioLost && !s.field.clockBad) := by
  rw [State.fdDrive, State.pin_updPin f hp]
  rfl

end

/-! ### Wire breaks and accepted levels -/

section
variable {s : State} {dt p since : Nat} {b l : Bool}

theorem State.setBroken_pin (hp : p < s.field.pins.length) : (s.setBroken p b).pin p = (if (s.pin p).broken = b then s.pin p
    else { s.pin p with broken := b, diag := (s.pin p).diag ++ [(if b then 0 else 1, false)] }) := by
  unfold State.setBroken
  split
  · rfl
  · exact State.pin_updPin _ hp

theorem State.setBroken_pin_ne {q : Nat} (hq : q ≠ p) : (s.setBroken p b).pin q = s.pin q := by
  unfold State.setBroken
  split
  · rfl
  · exact State.pin_updPin_ne _ hq

/-- What an accepted level changes of its pin itself (R293). -/
def FdPin.accept (l : Bool) (since : Nat) (q : FdPin) : FdPin :=
  { q with level := l, stamp := since, fresh := true, lost := if q.fresh then satInc q.lost else q.lost }

/-- An accepted level, of a pin that is not DISABLED, that has lasted FD_FILTER and is another than its state (R293). -/
theorem State.fdChanged_of (hm : s.fdMode p ≠ 3) (hp : p < 32) (hf : since + s.cfgN .fdFilter p * 250 ≤ s.now)
    (hl : (s.pin p).level ≠ l) : s.fdChanged p l since
      = if l then (s.updPin p (FdPin.accept l since)).setBroken p false else s.updPin p (FdPin.accept l since) :=
  if_pos (by simp [hm, hp, hf, hl])

theorem State.fdChanged_pin (hm : s.fdMode p ≠ 3) (hp : p < 32) (hlen : p < s.field.pins.length)
    (hf : since + s.cfgN .fdFilter p * 250 ≤ s.now) (hl : (s.pin p).level ≠ l) :
    ((s.fdChanged p l since).pin p).level = l ∧ ((s.fdChanged p l since).pin p).stamp = since
    ∧ ((s.fdChanged p l since).pin p).fresh = true ∧ ((s.fdChanged p l since).pin p).out = (s.pin p).out
    ∧ ((s.fdChanged p l since).pin p).broken = ((s.pin p).broken && !l) := by
  rw [State.fdChanged_of hm hp hf hl]
  cases l with
  | false => simp [State.pin_updPin _ hlen, FdPin.accept]
  | true =>
    rw [if_pos rfl, State.setBroken_pin (by simpa using hlen), State.pin_updPin _ hlen]
    split
    case isTrue h => exact ⟨rfl, rfl, rfl, rfl, by simpa using h⟩
    case isFalse => exact ⟨rfl, rfl, rfl, rfl, (Bool.and_false _).symm⟩

theorem State.fdChanged_pin_ne {q : Nat} (hq : q ≠ p) : (s.fdChanged p l since).pin q = s.pin q := by
  unfold State.fdChanged
  dsimp only
  split
  · split
    · rw [State.setBroken_pin_ne hq, State.pin_updPin_ne _ hq]
    · exact State.pin_updPin_ne _ hq
  · rfl

end

/-! ### The pin rows -/

section
variable {s : State} {dt p : Nat} (hp : p < s.field.pins.length)
include hp

theorem wireBreak_completes {b : Bool} (hin : s.fdIn p = true) (hwb : s.cfgB .fdWb p = true)
    (hl : b = true → (s.pin p).level = false) (hb : (s.pin p).broken ≠ b) : Completes (.wireBreak dt p b) s (fun t =>
      t.pin p = { s.pin p with broken := b, diag := (s.pin p).diag ++ [(if b then 0 else 1, false)] }
      ∧ t = { s.advance dt with field := t.field }) := by
  refine completes_of_cond rfl ?_ ⟨?_, State.eq_of_parts (by simp)⟩
  · simpa [hin, hwb, ← Bool.not_eq_true, imp_iff_not_or] using hl
  · exact (State.setBroken_pin (s := s.advance dt) hp).trans (if_neg hb)

/-- A latched pin is not driven. -/
theorem State.latchPin_latches (kind : Nat) : ((s.advance dt).latchPin p kind true).pin p
      = { s.pin p with latched := true, kind := kind, diag := (s.pin p).diag ++ [(kind, true)] }
    ∧ ((s.advance dt).latchPin p kind true).fdDrive p = false
    ∧ (s.advance dt).latchPin p kind true
      = { s.advance dt with field := ((s.advance dt).latchPin p kind true).field } :=
  ⟨State.pin_updPin (s := s.advance dt) _ hp,
    (State.fdDrive_updPin (s := s.advance dt) _ hp).trans (by simp), State.eq_of_parts (by simp)⟩

theorem fdOpenLoad_completes (hd : s.fdDrive p = true) (hol : s.cfgB .fdOl p = true) : Completes (.fdOpenLoad dt p) s (fun t =>
      t.pin p = { s.pin p with diag := (s.pin p).diag ++ [(4, false)] } ∧ t.fdDrive p = true
      ∧ t = { s.advance dt with field := t.field, sag := t.sag }) := by
  refine completes_of_cond rfl (by simp [hd, hol]) ?_
  have hpin := State.pin_updPin (s := s.advance dt) (fun q => { q with diag := q.diag ++ [(4, false)] }) hp
  have hdrive := State.fdDrive_updPin (s := s.advance dt) (fun q => { q with diag := q.diag ++ [(4, false)] }) hp
  rw [State.settle_eq]
  exact ⟨hpin, hdrive.trans hd, State.eq_of_parts (by simp)⟩

theorem pinDriven_completes (ho : s.fdOut p = true) (hd : s.fdDrive p = false) (hn : (s.pin p).driven = false) :
    Completes (.pinDriven dt p true) s (fun t =>
      t.pin p = { s.pin p with driven := true, diag := (s.pin p).diag ++ [(5, false)] }
      ∧ t = { s.advance dt with field := t.field }) := by
  refine completes_of_cond rfl (by simp [ho, hd, hn]) ⟨?_, State.eq_of_parts (by simp)⟩
  rw [State.pinFinding, State.pin_updPin _ (by simpa using hp), State.pin_updPin (s := s.advance dt) _ hp]
  rfl

theorem pinReleased_completes (ho : s.fdOut p = true) : Completes (.pinDriven dt p false) s (fun t =>
      t.pin p = { s.pin p with driven := false } ∧ t = { s.advance dt with field := t.field }) := by
  refine ⟨(s.advance dt).updPin p (fun q => { q with driven := false }), ?_,
    State.pin_updPin (s := s.advance dt) _ hp, State.eq_of_parts (by simp)⟩
  exact congrArg Host.Outcome.next (by simp [ho])

end

/-- Settles O43: a pin changes by its own row alone, by the rules for a pin's write. -/
theorem pinRows : Obligations.PinRows := by
  unfold Obligations.PinRows
  refine ⟨fun s dt p since l hp hlen hm hf hl => ?_, fun s dt p b hlen hin hwb hl hb => wireBreak_completes hlen hin hwb hl hb,
    fun s dt p hlen hd => ⟨?_, fun ma hma => ?_, fdOpenLoad_completes hlen hd⟩,
    fun s dt p hlen ho hd hn => pinDriven_completes hlen ho hd hn, fun s dt p hlen ho => pinReleased_completes hlen ho⟩
  · obtain ⟨hlev, hst, hfr, hout, hbr⟩ := State.fdChanged_pin (s := s.advance dt) hm hp hlen hf hl
    exact ⟨_, rfl, hlev, hst, hfr, hout, hbr, fun q hq => State.fdChanged_pin_ne hq, State.eq_of_parts (by simp)⟩
  · exact completes_of_cond rfl hd (State.latchPin_latches hlen 2)
  · exact completes_of_cond rfl (by simp [hma, hd]) (State.latchPin_latches hlen 3)

end Sys2Proof.Machine
end

section
/-! O42: the field link (R287 to R292). -/

namespace Sys2Proof.Machine

/-! ### The safe states of the outputs, and a frame's commands -/

theorem getD_map_zipIdx {α β : Type} (g : α × Nat → β) (l : List α) {p : Nat} (hp : p < l.length) (d : α) (e : β) :
    (l.zipIdx.map g).getD p e = g (l.getD p d, p) := by
  simp [List.getD_eq_getElem?_getD, hp]

section
variable {s : State} {p : Nat} (hp : p < s.field.pins.length)
include hp

theorem State.fieldSafe_pin : s.fieldSafe.pin p = safeLevel (s.dev.fdSafe.getD p 0) (s.pin p) :=
  getD_map_zipIdx _ _ hp _ _

theorem State.symbol_pin : s.symbol.pin p = safeLevel (s.dev.fdSafe.getD p 0) (s.pin p) :=
  State.fieldSafe_pin (s := s.updField _) hp

theorem State.takeFrame_pin_some {l : Bool} (hf : s.field.frame.getD p none = some l) :
    s.takeFrame.pin p = { s.pin p with out := l } :=
  (getD_map_zipIdx _ _ hp _ _).trans (by rw [hf]; rfl)

theorem State.takeFrame_pin_none (hf : s.field.frame.getD p none = none) :
    s.takeFrame.pin p = safeLevel (s.dev.fdSafe.getD p 0) (s.pin p) :=
  (getD_map_zipIdx _ _ hp _ _).trans (by rw [hf]; rfl)

end

/-! ### Down frames -/

/-- The down frame that the host side sends (R287, R290, R292). -/
def State.sentFrame (s : State) : Field :=
  { s.field with
    frame := (List.range 32).map s.frameLevel, resume := s.field.resumeDue, resumeDue := false, inFlight := true
    frameModes := if s.cfg.firing = none ∧ s.dev.st ≠ .boot then some ((List.range 32).map (fun p => s.cfgN .fdMode p))
      else none }

/-- The module with the down frame on its way. -/
def State.sendsFrame (s : State) : State :=
  if s.field.resumeDue then { s with field := s.sentFrame }.raise 0x7001 subjModule [(128, 8, 4)] false
  else { s with field := s.sentFrame }

theorem State.sendsFrame_eq (s : State) :
    s.sendsFrame = { s with field := s.sentFrame, host := s.sendsFrame.host, cnt := s.sendsFrame.cnt } := by
  unfold State.sendsFrame
  split
  · exact State.raise_hostOnly ..
  · rfl

theorem State.sendsFrame_outstanding (s : State) : s.sendsFrame.host.outstanding = s.host.outstanding := by
  unfold State.sendsFrame
  split <;> simp

/-- A down frame completes the FD_SETs that wait (R295). -/
theorem State.downFrame_of {s : State} (hi : s.islands = true) (hm : s.now % 25000 = 0) (hr : s.dev.st ≠ .reset) :
    s.downFrame = s.sendsFrame.each (s.sendsFrame.host.outstanding.filter (fun w => w.op = 0x70)) (fun u w =>
      u.finish w .ok (resultOf [(128, 1, b2n s.field.hostSilent)])) := by
  have hframe : (s.updField fun x =>
      { x with
        frame := (List.range 32).map s.frameLevel, resume := s.field.resumeDue, resumeDue := false, inFlight := true,
        frameModes := if s.cfg.firing.isNone && s.dev.st != .boot
          then some ((List.range 32).map (fun p => s.cfgN .fdMode p)) else none }) = { s with field := s.sentFrame } := by
    simp [State.updField, State.sentFrame]
  rw [State.downFrame, if_pos (by simp [hi, hm, hr])]
  dsimp only
  rw [hframe, ← State.sendsFrame, show s.sendsFrame.field.hostSilent = s.field.hostSilent by rw [s.sendsFrame_eq]; rfl]

theorem finishAll_outstanding (s : State) (keep : Waiting → Bool) (st : Status) (res : BitVec 128) :
    ∀ w ∈ (s.each (s.host.outstanding.filter keep) (fun u w => u.finish w st res)).host.outstanding, keep w = false := by
  intro w hw
  have hfin (u : State) (x : Waiting) : (u.finish x st res).host.outstanding ⊆ u.host.outstanding := by
    rw [State.finish_outstanding]
    exact List.filter_sublist.subset
  by_contra hk
  have hwas : w ∈ s.host.outstanding :=
    State.each_keeps (P := fun u => u.host.outstanding ⊆ s.host.outstanding)
      (fun u x h => List.Subset.trans (hfin u x) h) _ (List.Subset.refl _) hw
  refine State.each_makes (I := fun _ => True) (P := fun u => w ∉ u.host.outstanding)
    (List.mem_filter.2 ⟨hwas, by simpa using hk⟩) (fun _ _ _ => trivial) (fun u _ => ?_)
    (fun u x h hm => h (hfin u x hm)) trivial hw
  simp [State.finish_outstanding, Waiting.same]

theorem State.each_finish_eq (s : State) (ws : List Waiting) (st : Status) (res : BitVec 128) :
    HostOnly s (s.each ws (fun u w => u.finish w st res)) :=
  State.each_keeps (P := HostOnly s) (fun u w h => h.trans (State.eq_of_parts (by simp))) ws (HostOnly.refl s)

theorem State.downFrame_sends {s : State} (hi : s.islands = true) (hm : s.now % 25000 = 0) (hr : s.dev.st ≠ .reset) :
    s.downFrame.field = s.sentFrame ∧ (∀ w ∈ s.downFrame.host.outstanding, w.op ≠ 0x70)
    ∧ s.downFrame = { s with field := s.downFrame.field, host := s.downFrame.host, cnt := s.downFrame.cnt } := by
  have hall := s.sendsFrame.each_finish_eq (s.sendsFrame.host.outstanding.filter (fun w => w.op = 0x70)) .ok
    (resultOf [(128, 1, b2n s.field.hostSilent)])
  have hnone := finishAll_outstanding s.sendsFrame (fun w => w.op = 0x70) .ok (resultOf [(128, 1, b2n s.field.hostSilent)])
  rw [← State.downFrame_of hi hm hr] at hall hnone
  generalize s.downFrame = t at hall hnone ⊢
  rw [HostOnly, s.sendsFrame_eq] at hall
  have hfield : t.field = s.sentFrame := congrArg State.field hall
  exact ⟨hfield, fun w hw => by simpa using hnone w hw, by rw [hfield]; exact hall⟩

/-- What the field side holds once it has received a frame while it is not silent (R287, R289, R292). -/
def State.receivedField (s : State) : Field :=
  { s.field with
    missedDown := 0, lastDown := s.time.up, clockBad := false, good := 0, inFlight := false
    modes := s.field.frameModes.getD s.field.modes
    timeout := if s.field.frameModes.isSome then s.cfgN .silenceTimeout else s.field.timeout }

theorem State.downGood_of {s : State} (hs : s.field.silent = false) (hin : s.field.inFlight = true)
    (hup : s.time.up < s.field.lastDown + s.field.timeout * 250000) :
    s.downGood = State.takeFrame { s with field := s.receivedField } := by
  have hnot : s.fallSilent = s := if_neg (by simp [State.silenceDue, hup])
  rw [State.downGood, hnot, if_neg (by simp [hin])]
  simp [hs, State.updField, State.receivedField]

theorem downFrameReceived_completes {s : State} {dt p : Nat} (hs : s.field.silent = false) (hp : p < s.field.pins.length)
    (hin : s.field.inFlight = true) (hup : (s.advance dt).time.up < s.field.lastDown + s.field.timeout * 250000) :
    Completes (.downFrameReceived dt) s (fun t =>
      (∀ l, s.field.frame.getD p none = some l → t.pin p = { s.pin p with out := l })
      ∧ (s.field.frame.getD p none = none → t.pin p = safeLevel (s.dev.fdSafe.getD p 0) (s.pin p))
      ∧ t.field.lastDown = (s.advance dt).time.up ∧ t.field.missedDown = 0 ∧ t.field.inFlight = false
      ∧ t.field.modes = s.field.frameModes.getD s.field.modes ∧ t = { s.advance dt with field := t.field }) := by
  refine ⟨_, congrArg Host.Outcome.next (State.downGood_of (s := s.advance dt) hs hin hup), fun l hf => ?_, fun hf => ?_,
    rfl, rfl, rfl, rfl, State.eq_of_parts (by simp)⟩
  · exact State.takeFrame_pin_some (s := { s.advance dt with field := (s.advance dt).receivedField }) hp hf
  · exact State.takeFrame_pin_none (s := { s.advance dt with field := (s.advance dt).receivedField }) hp hf

/-! ### Up frames -/

/-- What a pin becomes as an up frame carries it, an OUT pin reading back `read` (R287). -/
def FdPin.carried (read : Bool) (q : FdPin) : FdPin :=
  { q with fresh := false, seen := q.level, seenStamp := q.stamp, diag := [], hLatched := q.latched, hKind := q.kind,
           hBroken := q.broken, read := read, findings := satInc q.findings q.diag.length }

/-- The events of a pin leave the field as it is. -/
theorem State.takePin_field (s : State) (p : Nat) :
    (s.takePin p).field = (s.updPin p (FdPin.carried (s.fdLevel p))).field := by
  have hevents := State.each_induct (fun u : State => u.field)
    (f := fun u (d : Nat × Bool) => u.raise 0x7004 p [(128, 8, d.1)] d.2) (fun u d => by simp)
    (s.updPin p (FdPin.carried (s.fdLevel p))) (s.pin p).diag
  have hlast (u : State) (data : List (Nat × Nat × Nat)) : (u.raise 0x7003 p data false).field = u.field := by simp
  unfold State.takePin
  dsimp only
  split
  · exact (hlast _ _).trans hevents
  · exact hevents

theorem State.takePin_pin {s : State} {p : Nat} (hp : p < s.field.pins.length) :
    (s.takePin p).pin p = FdPin.carried (s.fdLevel p) (s.pin p) := by
  rw [State.pin, State.takePin_field]
  exact State.pin_updPin _ hp

theorem State.takePin_pin_ne {s : State} {p q : Nat} (hq : q ≠ p) : (s.takePin p).pin q = s.pin q := by
  rw [State.pin, State.takePin_field]
  exact State.pin_updPin_ne _ hq

@[simp] theorem State.takePin_pins_length (s : State) (p : Nat) :
    (s.takePin p).field.pins.length = s.field.pins.length := by
  rw [State.takePin_field, State.updPin_pins_length]

/-- A good up frame carries every pin once. -/
theorem State.takeChanges_pin {s : State} {p : Nat} (hp : p < 32) (hlen : p < s.field.pins.length) :
    ∃ read, s.takeChanges.pin p = FdPin.carried read (s.pin p) :=
  State.each_once (I := fun u => u.pin p = s.pin p ∧ p < u.field.pins.length)
    (P := fun u => ∃ read, u.pin p = FdPin.carried read (s.pin p)) List.nodup_range (List.mem_range.2 hp)
    (fun u q hq ⟨hu, hl⟩ => ⟨(State.takePin_pin_ne hq.symm).trans hu, by simpa using hl⟩)
    (fun u ⟨hu, hl⟩ => ⟨_, (State.takePin_pin hl).trans (by rw [hu])⟩)
    (fun u q hq ⟨r, hr⟩ => ⟨r, (State.takePin_pin_ne hq.symm).trans hr⟩) ⟨rfl, hlen⟩

/-- The field but for its pins. -/
def Field.withoutPins (f : Field) : Field := { f with pins := [] }

theorem State.takeChanges_withoutPins (s : State) : s.takeChanges.field.withoutPins = s.field.withoutPins := by
  unfold State.takeChanges
  exact State.each_induct (fun u : State => u.field.withoutPins) (fun u p => by rw [State.takePin_field]; rfl) s _

/-- What the host side holds of the link once a good up frame has come (R287, R289, R290). -/
def State.heardField (s : State) (banks : List Nat) : Field :=
  { s.field with
    missedUp := 0, lastUp := s.now, stale := false, txLost := decide (3 ≤ s.field.missedDown)
    hostSilent := s.field.silent, resumeDue := s.field.silent && s.field.linkOk
    bankMa := (List.range 4).map (fun b => banks.getD b 0) }

theorem State.upFrame_of {s : State} (hc : s.field.clockBad = false) (banks : List Nat) : ∃ u : State,
    s.upFrame true banks = u.takeChanges ∧ u = { s with field := s.heardField banks, host := u.host, cnt := u.cnt } := by
  rw [State.upFrame, if_neg (by simp [hc])]
  exact ⟨_, rfl, State.eq_of_parts (by simp [State.updField, State.heardField])⟩

/-- What a good up frame leaves of the field, and of a pin (R287). -/
theorem upFrame_completes {s : State} {dt : Nat} (banks : List Nat) (hc : s.field.clockBad = false) :
    Completes (.upFrame dt true banks) s (fun t =>
      t.field.withoutPins = ((s.advance dt).heardField banks).withoutPins
      ∧ (∀ p < 32, p < s.field.pins.length → ∃ read, t.pin p = FdPin.carried read (s.pin p))
      ∧ t = { s.advance dt with field := t.field, host := t.host, cnt := t.cnt }) := by
  obtain ⟨u, hup, hu⟩ := State.upFrame_of (s := s.advance dt) hc banks
  have hfield : u.field = (s.advance dt).heardField banks := congrArg State.field hu
  have hpins : u.field.pins = s.field.pins := by rw [hfield]; rfl
  have hkeep : u.takeChanges = { u with
      field := u.takeChanges.field, host := u.takeChanges.host, cnt := u.takeChanges.cnt } := State.eq_of_parts (by simp)
  refine ⟨_, congrArg Host.Outcome.next hup, ?_, fun p hp hlen => ?_, ?_⟩
  · rw [State.takeChanges_withoutPins, hfield]
  · obtain ⟨read, hread⟩ := State.takeChanges_pin (s := u) hp (by rw [hpins]; exact hlen)
    exact ⟨read, hread.trans (by rw [State.pin, hpins]; rfl)⟩
  · generalize u.takeChanges = v at hkeep ⊢
    exact hkeep.trans (by rw [hu])

/-! ### Silence and symbols -/

theorem State.fallSilent_silences {s : State} (hs : s.field.silent = false)
    (hup : s.field.lastDown + s.field.timeout * 250000 ≤ s.time.up) :
    s.fallSilent.field.silent = true ∧ s.fallSilent.field.linkOk = false
    ∧ ∀ p < s.field.pins.length, s.fallSilent.pin p = safeLevel (s.dev.fdSafe.getD p 0) (s.pin p) := by
  rw [State.fallSilent, if_pos (by simp [State.silenceDue, hs, hup])]
  exact ⟨rfl, rfl, fun p hp => State.fieldSafe_pin (s := s.updField _) hp⟩

theorem symbol_safes (s : State) : (∀ p < s.field.pins.length, s.symbol.pin p = safeLevel (s.dev.fdSafe.getD p 0) (s.pin p))
    ∧ s.symbol.field.inFlight = false ∧ s.symbol = { s with field := s.symbol.field } :=
  ⟨fun _ hp => State.symbol_pin hp, rfl, State.eq_of_parts (by simp)⟩

theorem fieldClockFail_completes (s : State) (dt : Nat) : Completes (.fieldClockFail dt) s (fun t =>
    t.field.clockBad = true ∧ (∀ p < s.field.pins.length, t.pin p = { s.pin p with out := false })
    ∧ t = { s.advance dt with field := t.field }) :=
  ⟨_, rfl, rfl, fun p hp => by simp [State.pin, State.updField, hp], State.eq_of_parts (by simp)⟩

/-- Settles O42: each row writes the field by the rules for a pin's safe level, a frame's command and what an up frame
carries. -/
theorem fieldLinkRows : Obligations.FieldLinkRows := by
  unfold Obligations.FieldLinkRows
  refine ⟨fun s dt hi hm hr => ⟨_, rfl, State.downFrame_sends (s := s.advance dt) hi hm hr⟩,
    fun s dt p hs hp => ⟨fun hin hup => ?_, fun hin => ⟨_, rfl, if_pos (by simp [hin])⟩⟩,
    fun s dt => ⟨_, rfl, rfl⟩, fun s dt banks hc => ?_, fun s dt good banks hbad => ⟨_, rfl, if_pos (by simpa using hbad)⟩,
    fun s dt hm hst => completes_of_cond rfl (by simp [hm, hst]) ⟨?_, State.eq_of_parts (by simp)⟩,
    fun s dt hs hup => ?_, fun s dt hr => completes_of_cond rfl (by simp [hr]) (symbol_safes (s.advance dt)),
    fun s dt hf => completes_of_cond rfl (by simpa using hf) (symbol_safes (s.advance dt)), fieldClockFail_completes⟩
  · obtain ⟨t, ht, hsome, hnone, hrest⟩ := downFrameReceived_completes hs hp hin hup
    refine ⟨t, ht, ?_, hrest⟩
    cases hf : s.field.frame.getD p none with
    | none => exact hnone hf
    | some l => exact hsome l hf
  · obtain ⟨t, ht, hfield, hpin, hrest⟩ := upFrame_completes banks hc
    refine ⟨t, ht, congrArg Field.missedUp hfield, congrArg Field.stale hfield, congrArg Field.hostSilent hfield,
      congrArg Field.resumeDue hfield, congrArg Field.txLost hfield, fun p hp hlen _ => ?_, fun p hp hlen => ?_, hrest⟩
    · obtain ⟨read, hread⟩ := hpin p hp hlen
      rw [hread]
      exact ⟨rfl, rfl, rfl⟩
    · obtain ⟨read, hread⟩ := hpin p hp hlen
      rw [hread]
      exact ⟨rfl, rfl, rfl, rfl⟩
  · simp [State.updField]
  · obtain ⟨hsil, hlink, hpins⟩ := State.fallSilent_silences (s := s.advance dt) hs hup
    exact ⟨_, rfl, hsil, hlink, hpins, State.eq_of_parts (by simp)⟩

end Sys2Proof.Machine
end

section
/-! O44: analog inputs, excitations, pulse inputs and event inputs (R297 to R307, R463). -/

namespace Sys2Proof.Machine

/-! ### What a read of an input returns after a write to the same and to another one -/

section
variable (s : State) (dt n j : Nat)

@[simp] theorem State.advance_ain : (s.advance dt).ain n = s.ain n := rfl
@[simp] theorem State.advance_pin_ : (s.advance dt).pin_ n = s.pin_ n := rfl
@[simp] theorem State.advance_sxOut : (s.advance dt).sxOut n = s.sxOut n := rfl
@[simp] theorem State.advance_extevIn : (s.advance dt).extevIn n = s.extevIn n := rfl
@[simp] theorem State.advance_ratioOf : (s.advance dt).ratioOf n = s.ratioOf n := rfl
@[simp] theorem State.advance_piMode : (s.advance dt).piMode n = s.piMode n := rfl
@[simp] theorem State.advance_sxGood : (s.advance dt).sxGood n = s.sxGood n := rfl
@[simp] theorem State.advance_piCompare (mv : Int) : (s.advance dt).piCompare n mv = s.piCompare n mv := rfl

@[simp] theorem State.updAi_ai_length (f : AiIn → AiIn) : (s.updAi n f).field.ai.length = s.field.ai.length := by
  simp [State.updAi, State.updField]

@[simp] theorem State.updPi_pi_length (f : PiIn → PiIn) : (s.updPi n f).field.pi.length = s.field.pi.length := by
  simp [State.updPi, State.updField]

variable {s n j}

theorem State.ain_updAi (f : AiIn → AiIn) (hn : n < s.field.ai.length) : (s.updAi n f).ain n = f (s.ain n) :=
  (getD_modify _ _ _ _ _ hn).trans (if_pos rfl)

theorem State.ain_updAi_ne (f : AiIn → AiIn) (hj : j ≠ n) : (s.updAi n f).ain j = s.ain j := by
  simp [State.ain, State.updAi, State.updField, hj.symm]

theorem State.piIn_updPi (f : PiIn → PiIn) (hn : n < s.field.pi.length) : (s.updPi n f).pin_ n = f (s.pin_ n) :=
  (getD_modify _ _ _ _ _ hn).trans (if_pos rfl)

theorem State.piIn_updPi_ne (f : PiIn → PiIn) (hj : j ≠ n) : (s.updPi n f).pin_ j = s.pin_ j := by
  simp [State.pin_, State.updPi, State.updField, hj.symm]

theorem State.sxOut_updSx (f : SxOut → SxOut) (hn : n < s.field.sx.length) : (s.updSx n f).sxOut n = f (s.sxOut n) :=
  (getD_modify _ _ _ _ _ hn).trans (if_pos rfl)

end

/-! ### Readings and validity -/

section
variable {s : State} {dt n : Nat}

theorem State.aiUnit_of_ratio_none (hr : s.ratioOf n = none) (mean : Rat) (vsx : Nat) :
    s.aiUnit n mean vsx = (s, roundRat mean) :=
  if_pos (by simp [hr])

theorem State.aiUnit_of_ratio (hr : s.ratioOf n ≠ none) (mean : Rat) {vsx : Nat} (hv : vsx ≠ 0) :
    s.aiUnit n mean vsx = (s, roundRat (mean * 5000 / (vsx : Rat))) := by
  rw [State.aiUnit, if_neg (by simpa using hr), if_neg hv]

/-- The mean of an input's samples. -/
def meanOf (xs : List Int) : Rat := (xs.sum : Rat) / (xs.length : Rat)

/-- What a reading leaves of its input: the value in its unit less the sensor's zero, and its date (R297, R298). -/
theorem State.aiRead_ain {xs : List Int} {vsx : Nat} {code : Word} (hn : n < 16) (hlen : n < s.field.ai.length)
    (hxs : xs.length = s.cfgN .aiAvg n) (hi : s.islands = true) :
    ((s.aiRead n xs vsx code).ain n).reading = (s.aiUnit n (meanOf xs) vsx).2 - s.flash.aiZero.getD n 0
    ∧ ((s.aiRead n xs vsx code).ain n).code = code ∧ ((s.aiRead n xs vsx code).ain n).kind = (s.ain n).kind
    ∧ ((s.aiRead n xs vsx code).ain n).mt = (s.now - 500) / 2500 * 2500 - (s.cfgN .aiAvg n - 1) * 1250
    ∧ (s.aiRead n xs vsx code).free = (s.aiUnit n (meanOf xs) vsx).1.free := by
  have hkeep := State.aiUnit_keeps s n (meanOf xs) vsx
  rw [State.aiRead, if_pos (by simp [hn, hxs, hi]), ← meanOf]
  dsimp only
  generalize s.aiUnit n (meanOf xs) vsx = p at hkeep ⊢
  obtain ⟨u, x⟩ := p
  obtain ⟨-, -, -, -, -, -, -, hflash, -, -, -, -, -, -, -, hfield, -⟩ := hkeep
  dsimp only at hflash hfield
  dsimp only
  rw [State.ain_updAi _ (by rw [hfield]; exact hlen), hflash, State.ain, hfield]
  exact ⟨rfl, rfl, rfl, rfl, rfl⟩

theorem State.setValid_ain (hn : n < 16) (hlen : n < s.field.ai.length) (kind : Nat) :
    (s.setValid n kind).ain n = { s.ain n with kind := kind } := by
  unfold State.setValid
  split
  · rw [State.ain, State.raise_hostOnly]
    exact State.ain_updAi _ hlen
  case isFalse h =>
    have hk : (s.ain n).kind = kind := by simpa [hn] using h
    rw [← hk]

theorem State.setValid_ain_ne {j : Nat} (hj : j ≠ n) (kind : Nat) : (s.setValid n kind).ain j = s.ain j := by
  unfold State.setValid
  split
  · rw [State.ain, State.raise_hostOnly]
    exact State.ain_updAi_ne _ hj
  · rfl

@[simp] theorem State.setValid_ai_length (kind : Nat) : (s.setValid n kind).field.ai.length = s.field.ai.length := by
  unfold State.setValid
  split <;> simp

section
variable (hr : s.ratioOf n = none)
include hr

/-- OVER_RANGE after 1 ms (R299). -/
theorem State.aiKind_over (ha : (s.ain n).above = true) (ht : (s.ain n).aboveAt + 250000 ≤ s.now) : s.aiKind n = 1 := by
  simp [State.aiKind, hr, ha, ht]

/-- OPEN after 10 ms (R299). -/
theorem State.aiKind_open (ha : (s.ain n).above = false) (hk : (s.ain n).kind ≠ 1) (ho : (s.ain n).open_ = true)
    (ht : (s.ain n).openAt + 2500000 ≤ s.now) : s.aiKind n = 2 := by
  simp [State.aiKind, hr, ha, hk, ho, show _ + 10 * msTicks ≤ _ from ht]

/-- Each condition is gone after 10 ms without it (R299). -/
theorem State.aiKind_valid (ha : (s.ain n).above = false) (hat : (s.ain n).aboveAt + 2500000 ≤ s.now)
    (ho : (s.ain n).open_ = false) (hot : (s.ain n).openAt + 2500000 ≤ s.now) : s.aiKind n = 0 := by
  have hover : ¬ s.now < (s.ain n).aboveAt + 10 * msTicks := not_lt.2 hat
  have hopen : ¬ s.now < (s.ain n).openAt + 10 * msTicks := not_lt.2 hot
  simp [State.aiKind, hr, ha, ho, hover, hopen]

end

end

/-! ### Excitations -/

/-- The ratiometric inputs of a lost excitation are invalid (R299). -/
theorem State.ratioLost_kind {s : State} {k n : Nat} (hlen : s.field.ai.length = 16) (hn : n < 16)
    (hr : s.ratioOf n = some k) : ((s.ratioLost k).ain n).kind = 3 := by
  refine State.each_makes (I := fun u => u.field.ai.length = 16) (P := fun u => u.field.ai.length = 16 ∧ (u.ain n).kind = 3)
    (x := n) (List.mem_filter.2 ⟨List.mem_range.2 hn, by simpa using hr⟩) (fun u j hu => by simpa using hu)
    (fun u hu => ⟨by simpa using hu, by rw [State.setValid_ain hn (by omega)]⟩) (fun u j ⟨hu, hk⟩ => ⟨by simpa using hu, ?_⟩)
    hlen |>.2
  by_cases hj : n = j
  · subst hj
    rw [State.setValid_ain hn (by omega)]
  · rwa [State.setValid_ain_ne hj]

theorem State.ratioLost_sx (s : State) (k : Nat) : (s.ratioLost k).field.sx = s.field.sx :=
  State.each_induct (fun u : State => u.field.sx) (fun u n => by
    unfold State.setValid
    split
    · simp [State.updAi, State.updField]
    · rfl) s _

/-! ### Pulse inputs -/

theorem keepStamps_getLast? (gate t u : Nat) (xs : List Nat) : (keepStamps gate t (xs ++ [u])).getLast? = some u := by
  simp [keepStamps, List.zipIdx_append, List.filter_append]

/-- A pulse input but for the stamps that wait for telemetry and their count. -/
def PiIn.measured (p : PiIn) : PiIn := { p with tel := [], inSec := 0, secAt := 0, stampDrop := 0 }

/-- Two inputs that measure the same read the same in every part but the telemetry's. -/
theorem PiIn.part_of_measured {α : Type} (part : PiIn → α) (hpart : ∀ p, part p.measured = part p) {p q : PiIn}
    (h : p.measured = q.measured) : part p = part q := by
  rw [← hpart p, h, hpart q]

/-- What a counted step adds to a pulse input's count (R303, R306). -/
def State.piStep (s : State) (n t : Nat) (step : Int) : Int :=
  if !(s.pin_ n).countsAt t then 0 else if s.piMode n = 3 then step else 1

/-- The period at an edge stamped `t` (R303). -/
def PiIn.periodAt (p : PiIn) (t : Nat) : Nat := match p.stamps.getLast? with | some x => t - x | none => p.period

theorem PiIn.periodAt_of_some {p : PiIn} {m : Nat} (h : p.stamps.getLast? = some m) (t : Nat) : p.periodAt t = t - m := by
  simp [PiIn.periodAt, h]

/-- What an edge stamped `t` makes of the pulse input `n`, `p` (R303, R304). -/
def State.stampPi (s : State) (n src t : Nat) (step : Int) (p : PiIn) : PiIn :=
  let gate := s.cfgN .piGate n * msTicks
  let period := (s.pin_ n).periodAt t
  let xs := keepStamps gate t ((s.pin_ n).stamps ++ [t])
  { p with
    stamps := xs, period := period, f := gateFreq gate xs period, zero := false
    count := p.count + BitVec.ofInt 32 (s.piStep n t step), step := if s.piMode n = 3 then s.piStep n t step else step
    revWas := p.rev, lineB := src % 2 = 1
    rev := if s.piMode n = 3 then (if step = 0 then p.rev else decide (step < 0)) else p.rev }

/-- A stamp's telemetry (R306). -/
def PiIn.telStamp (t : Nat) (level : Bool) (p : PiIn) : PiIn :=
  let fresh := decide (p.secAt + 250000000 ≤ t)
  let k := if fresh then 0 else p.inSec
  if k < 2000 then { p with tel := p.tel ++ [(t, level)], inSec := k + 1, secAt := if fresh then t else p.secAt }
  else { p with stampDrop := satInc p.stampDrop }

theorem PiIn.telStamp_measured (t : Nat) (level : Bool) (p : PiIn) : (p.telStamp t level).measured = p.measured :=
  (apply_ite PiIn.measured _ _ _).trans (ite_self _)

theorem State.piStamp_eq (s : State) (n src t : Nat) (level : Bool) (step : Int) : s.piStamp n src t level step
    = if !s.cfgB .piStampTel src then s.updPi n (s.stampPi n src t step)
      else (s.updPi n (s.stampPi n src t step)).updPi src (PiIn.telStamp t level) := rfl

@[simp] theorem State.piStamp_cnt (s : State) (n src t : Nat) (level : Bool) (step : Int) :
    (s.piStamp n src t level step).cnt = s.cnt := by
  rw [State.piStamp_eq]
  split <;> rfl

/-- An edge counts unless a count has been loaded for a later MT (R306). -/
theorem PiIn.countsAt_eq_not (p : PiIn) (t : Nat) : p.countsAt t = !decide (∃ m ∈ p.loadedAt, t < m) := by
  cases h : p.loadedAt <;> simp [PiIn.countsAt, h, ← decide_not]

section
variable {s : State} {n src t j : Nat} {level : Bool} {step : Int}

theorem State.updPi_measured {f : PiIn → PiIn} (hf : ∀ p, (f p).measured = p.measured) (i j : Nat) :
    ((s.updPi i f).pin_ j).measured = (s.pin_ j).measured := by
  by_cases hj : j = i
  · subst hj
    by_cases hlen : j < s.field.pi.length
    · rw [State.piIn_updPi f hlen, hf]
    · simp [State.pin_, State.updPi, State.updField, hlen]
  · rw [State.piIn_updPi_ne f hj]

theorem State.piStamp_measured (hn : n < s.field.pi.length) :
    ((s.piStamp n src t level step).pin_ n).measured = (s.stampPi n src t step (s.pin_ n)).measured := by
  rw [State.piStamp_eq]
  split
  · rw [State.piIn_updPi _ hn]
  · rw [State.updPi_measured (PiIn.telStamp_measured t level), State.piIn_updPi _ hn]

theorem State.piStamp_measured_ne (hj : j ≠ n) :
    ((s.piStamp n src t level step).pin_ j).measured = (s.pin_ j).measured := by
  rw [State.piStamp_eq]
  split
  · rw [State.piIn_updPi_ne _ hj]
  · rw [State.updPi_measured (PiIn.telStamp_measured t level), State.piIn_updPi_ne _ hj]

theorem State.piStamp_piIn_ne (hj : j ≠ n) : (s.piStamp n n t level step).pin_ j = s.pin_ j := by
  rw [State.piStamp_eq]
  split
  · rw [State.piIn_updPi_ne _ hj]
  · rw [State.piIn_updPi_ne _ hj, State.piIn_updPi_ne _ hj]

theorem State.piLoad_of_none (h : (s.pin_ n).load = none) (t : Nat) : s.piLoad n t = s := by
  simp [State.piLoad, h]

/-- An accepted edge sets the level (R302). -/
def PiIn.setLevel (level : Bool) (p : PiIn) : PiIn := { p with level := level }

section
variable (hmode : s.piMode n ≠ 3) (hload : (s.pin_ n).load = none)
include hmode hload

/-- An edge of the kind that the input counts. -/
theorem State.piEdge_of_counted (hk : s.cfgN .piEdge n = 2 ∨ s.cfgN .piEdge n = (if level then 0 else 1)) :
    s.piEdge n t level = (s.updPi n (PiIn.setLevel level)).piStamp n n t level 0 := by
  rw [State.piEdge, State.piLoad_of_none hload]
  refine (if_neg hmode).trans (if_pos ?_)
  change (decide (s.cfgN .piEdge n = 2) || decide (s.cfgN .piEdge n = 0) && level
    || decide (s.cfgN .piEdge n = 1) && !level) = true
  cases level <;> simpa using hk

/-- An edge of the other kind moves the level alone. -/
theorem State.piEdge_of_other (hk : s.cfgN .piEdge n = (if level then 1 else 0)) :
    s.piEdge n t level = s.updPi n (PiIn.setLevel level) := by
  rw [State.piEdge, State.piLoad_of_none hload]
  refine (if_neg hmode).trans (if_neg ?_)
  change ¬(decide (s.cfgN .piEdge n = 2) || decide (s.cfgN .piEdge n = 0) && level
    || decide (s.cfgN .piEdge n = 1) && !level) = true
  cases level <;> simp [hk]

end

/-! ### Quadrature pairs -/

/-- The other fields of an input stay as they are when the level of one is set. -/
theorem State.updPi_setLevel (i j : Nat) (level : Bool) :
    ∃ l, (s.updPi i (PiIn.setLevel level)).pin_ j = (s.pin_ j).setLevel l := by
  by_cases hj : j = i
  · subst hj
    by_cases hlen : j < s.field.pi.length
    · exact ⟨level, State.piIn_updPi _ hlen⟩
    · exact ⟨(s.pin_ j).level, by simp [State.pin_, State.updPi, State.updField, hlen, PiIn.setLevel]⟩
  · exact ⟨(s.pin_ j).level, State.piIn_updPi_ne _ hj⟩

/-- Whether the edge of input `n`, of the pair whose A is `a`, leads up, from the levels after it (R303). -/
def State.leads (s : State) (n a : Nat) : Bool :=
  if n = a then decide ((s.pin_ a).level ≠ (s.pin_ (a + 1)).level) else decide ((s.pin_ a).level = (s.pin_ (a + 1)).level)

/-- An edge of a pair that does not follow the last one within 2 us (R303). -/
theorem State.piEdge_of_quad {a : Nat} (hmode : s.piMode n = 3) (ha : n / 2 * 2 = a) (hload : (s.pin_ n).load = none)
    (hloadA : (s.pin_ a).load = none) (hnear : ∀ m, (s.pin_ a).stamps.getLast? = some m → m + 500 < t) :
    s.piEdge n t level = (s.updPi n (PiIn.setLevel level)).piStamp a n t level
      (if (s.updPi n (PiIn.setLevel level)).leads n a then 1 else -1) := by
  obtain ⟨l, hl⟩ := s.updPi_setLevel n a level
  have hnone : ((s.updPi n (PiIn.setLevel level)).pin_ a).load = none := by rw [hl]; exact hloadA
  rw [State.piEdge, State.piLoad_of_none hload]
  refine (if_pos hmode).trans ?_
  rw [ha]
  have hset : (s.updPi n fun p => { p with level := level }) = s.updPi n (PiIn.setLevel level) := rfl
  dsimp only
  rw [hset, State.piLoad_of_none hnone, if_neg]
  · rfl
  · rw [hl]
    cases hlast : (PiIn.setLevel l (s.pin_ a)).stamps.getLast? with
    | none => exact Bool.false_ne_true
    | some u =>
      have hlate : ¬ t ≤ u + 500 := not_le.2 (hnear u hlast)
      simp [hlate]

end

section
variable {s : State} {a n t : Nat} {level up : Bool} (ha : a < s.field.pi.length) (hm : s.piMode a = 3)
  (hc : (s.pin_ a).countsAt t = true)
include ha hm hc

/-- An edge of a quadrature pair counts up or down and gives the direction (R303). -/
theorem State.piStamp_quad {v : State} (hv : v = s.piStamp a n t level (if up then 1 else -1)) :
    (v.pin_ a).count = (s.pin_ a).count + (if up then 1 else -1) ∧ (v.pin_ a).rev = !up
    ∧ (v.pin_ a).stamps.getLast? = some t ∧ (v.pin_ a).quadErr = (s.pin_ a).quadErr := by
  have h : (v.pin_ a).measured = (s.stampPi a n t (if up then 1 else -1) (s.pin_ a)).measured := by
    rw [hv, State.piStamp_measured ha]
  refine ⟨(PiIn.part_of_measured PiIn.count (fun _ => rfl) h).trans ?_,
    (PiIn.part_of_measured PiIn.rev (fun _ => rfl) h).trans ?_,
    (PiIn.part_of_measured (fun p => p.stamps.getLast?) (fun _ => rfl) h).trans (keepStamps_getLast? ..),
    (PiIn.part_of_measured PiIn.quadErr (fun _ => rfl) h).trans rfl⟩
  · cases up <;> simp [State.stampPi, State.piStep, hc, hm]
  · cases up <;> simp [State.stampPi, hm]

end

theorem State.piStamp_level {s : State} {a n t j : Nat} {level : Bool} {step : Int} (ha : a < s.field.pi.length) :
    ((s.piStamp a n t level step).pin_ j).level = (s.pin_ j).level := by
  by_cases hj : j = a
  · subst hj
    exact (PiIn.part_of_measured PiIn.level (fun _ => rfl) (State.piStamp_measured ha)).trans rfl
  · exact PiIn.part_of_measured PiIn.level (fun _ => rfl) (State.piStamp_measured_ne hj)

/-! ### The rows of the pulse inputs -/

section
variable {s : State} {dt n held : Nat} {mv : Int} {level : Bool}

theorem exec_piEdge (hn : n < 16) (hi : s.islands = true) (hcmp : s.piCompare n mv = level) (hl : (s.pin_ n).level ≠ level)
    (hg : s.cfgN .piGlitch n * 250 ≤ held) :
    exec (.piEdge dt n mv held) s = .next ((s.advance dt).piEdge n ((s.advance dt).now - held) level) := by
  subst hcmp
  refine congrArg Host.Outcome.next (if_pos ?_)
  simp [hn, hi, hg, Ne.symm hl]

/-- A level shorter than PI_GLITCH is ignored (R302). -/
theorem exec_piEdge_of_short (hg : held < s.cfgN .piGlitch n * 250) :
    exec (.piEdge dt n mv held) s = .next (s.advance dt) :=
  congrArg Host.Outcome.next (if_neg fun h => absurd hg (not_lt.2 (of_decide_eq_true (Bool.and_eq_true_iff.1 h).2)))

theorem piEdge_counts (hn : n < 16) (hlen : s.field.pi.length = 16) (hi : s.islands = true) (hmode : s.piMode n ≠ 3)
    (hcmp : s.piCompare n mv = level) (hl : (s.pin_ n).level ≠ level) (hg : s.cfgN .piGlitch n * 250 ≤ held)
    (hload : (s.pin_ n).load = none) (hk : s.cfgN .piEdge n = 2 ∨ s.cfgN .piEdge n = (if level then 0 else 1)) :
    Completes (.piEdge dt n mv held) s (fun t =>
      (t.pin_ n).count = (s.pin_ n).count + (if ∃ m ∈ (s.pin_ n).loadedAt, (s.advance dt).now - held < m then 0 else 1)
      ∧ (t.pin_ n).level = level ∧ (t.pin_ n).zero = false
      ∧ (∀ m, (s.pin_ n).stamps.getLast? = some m → (t.pin_ n).period = (s.advance dt).now - held - m)
      ∧ (t.pin_ n).stamps.getLast? = some ((s.advance dt).now - held) ∧ (∀ j, j ≠ n → t.pin_ j = s.pin_ j)
      ∧ t = { s.advance dt with field := t.field }) := by
  have hn' : n < s.field.pi.length := by omega
  refine ⟨_, (exec_piEdge hn hi hcmp hl hg).trans (congrArg Host.Outcome.next
    (State.piEdge_of_counted (s := s.advance dt) hmode hload hk)), ?_⟩
  have hset : ((s.advance dt).updPi n (PiIn.setLevel level)).pin_ n = (s.pin_ n).setLevel level :=
    State.piIn_updPi _ hn'
  have h := State.piStamp_measured (s := (s.advance dt).updPi n (PiIn.setLevel level)) (n := n) (src := n)
    (t := (s.advance dt).now - held) (level := level) (step := 0) (by simpa using hn')
  rw [hset] at h
  refine ⟨(PiIn.part_of_measured PiIn.count (fun _ => rfl) h).trans ?_, PiIn.part_of_measured PiIn.level (fun _ => rfl) h,
    PiIn.part_of_measured PiIn.zero (fun _ => rfl) h, fun m hm => ?_,
    (PiIn.part_of_measured (fun p => p.stamps.getLast?) (fun _ => rfl) h).trans (keepStamps_getLast? ..),
    fun j hj => (State.piStamp_piIn_ne hj).trans (State.piIn_updPi_ne _ hj), ?_⟩
  · change (s.pin_ n).count + BitVec.ofInt 32 (State.piStep _ n _ 0) = _
    have hcounts : ((s.pin_ n).setLevel level).countsAt ((s.advance dt).now - held)
      = !decide (∃ m ∈ (s.pin_ n).loadedAt, (s.advance dt).now - held < m) := PiIn.countsAt_eq_not _ _
    have hmode' : ((s.advance dt).updPi n (PiIn.setLevel level)).piMode n ≠ 3 := hmode
    rw [State.piStep, hset, hcounts, if_neg hmode', Bool.not_not]
    by_cases hlater : ∃ m ∈ (s.pin_ n).loadedAt, (s.advance dt).now - held < m
    · rw [if_pos hlater, if_pos (decide_eq_true hlater)]
      rfl
    · rw [if_neg hlater, if_neg (by simpa using hlater)]
      rfl
  · refine (PiIn.part_of_measured PiIn.period (fun _ => rfl) h).trans (PiIn.periodAt_of_some ?_ _)
    rw [hset]
    exact hm
  · exact State.eq_of_parts (by simp [State.updPi])

end

section
variable {s : State} {dt k held : Nat} {mv : Int} {b level : Bool} {a n : Nat}

theorem State.piMode_of_even (hn : n % 2 = 0) : s.piMode n = s.cfgN .piMode n := by
  simp [State.piMode, hn]

/-- The second input of a pair is QUAD with the first alone (R303). -/
theorem State.piMode_prev_of_odd (hn : n % 2 = 1) (hm : s.piMode n = 3) : s.cfgN .piMode (n - 1) = 3 := by
  by_contra hprev
  simp only [State.piMode, hn, hprev, decide_true, decide_false, Bool.and_false, Bool.true_and] at hm
  split at hm
  · contradiction
  · split at hm
    · contradiction
    · simp_all

/-- The mode of both inputs of a quadrature pair is that of its A (R303). -/
theorem State.piMode_pair (hm : s.piMode (2 * k + b2n b) = 3) : s.piMode (2 * k) = 3 := by
  cases b with
  | false => exact hm
  | true => exact (State.piMode_of_even (by omega)).trans (State.piMode_prev_of_odd (n := 2 * k + 1) (by omega) hm)

/-- Which edges lead up, from the levels before it: one of A to a level other than B's, one of B to A's (R303). -/
theorem State.leads_setLevel (hlen : 2 * k + 1 < s.field.pi.length) :
    (s.updPi (2 * k + b2n b) (PiIn.setLevel level)).leads (2 * k + b2n b) (2 * k)
      = if b then decide ((s.pin_ (2 * k)).level = level) else decide (level ≠ (s.pin_ (2 * k + 1)).level) := by
  cases b with
  | false =>
    have hset : ((s.updPi (2 * k) (PiIn.setLevel level)).pin_ (2 * k)).level = level := by
      rw [State.piIn_updPi _ (by omega)]
      rfl
    have hother : (s.updPi (2 * k) (PiIn.setLevel level)).pin_ (2 * k + 1) = s.pin_ (2 * k + 1) :=
      State.piIn_updPi_ne _ (by omega)
    simp [b2n, State.leads, hset, hother]
  | true =>
    have hset : ((s.updPi (2 * k + 1) (PiIn.setLevel level)).pin_ (2 * k + 1)).level = level := by
      rw [State.piIn_updPi _ hlen]
      rfl
    have hother : (s.updPi (2 * k + 1) (PiIn.setLevel level)).pin_ (2 * k) = s.pin_ (2 * k) :=
      State.piIn_updPi_ne _ (by omega)
    simp [b2n, State.leads, hset, hother]

theorem State.piEdge_counts_quad {t : Nat} {up : Bool} (hlen : 2 * k + 1 < s.field.pi.length)
    (hmode : s.piMode (2 * k + b2n b) = 3) (hloadA : (s.pin_ (2 * k)).load = none)
    (hloadB : (s.pin_ (2 * k + 1)).load = none)
    (hnear : ∀ m, (s.pin_ (2 * k)).stamps.getLast? = some m → m + 500 < t)
    (hloaded : ∀ m ∈ (s.pin_ (2 * k)).loadedAt, m ≤ t)
    (hup : up = if b then decide ((s.pin_ (2 * k)).level = level) else decide (level ≠ (s.pin_ (2 * k + 1)).level))
    {v : State} (hv : v = s.piEdge (2 * k + b2n b) t level) :
    (v.pin_ (2 * k)).count = (s.pin_ (2 * k)).count + (if up then 1 else -1) ∧ (v.pin_ (2 * k)).rev = !up
    ∧ (v.pin_ (2 * k + b2n b)).level = level ∧ (v.pin_ (2 * k)).stamps.getLast? = some t
    ∧ (v.pin_ (2 * k)).quadErr = (s.pin_ (2 * k)).quadErr ∧ v = { s with field := v.field } := by
  have hb : b2n b ≤ 1 := by cases b <;> simp [b2n]
  have hload : (s.pin_ (2 * k + b2n b)).load = none := by cases b <;> assumption
  rw [State.piEdge_of_quad hmode (by omega : _ = 2 * k) hload hloadA hnear, State.leads_setLevel hlen, ← hup] at hv
  obtain ⟨l, hset⟩ := s.updPi_setLevel (2 * k + b2n b) (2 * k) level
  have hlevel : ((s.updPi (2 * k + b2n b) (PiIn.setLevel level)).pin_ (2 * k + b2n b)).level = level := by
    rw [State.piIn_updPi _ (by omega)]
    rfl
  have hcnt : (PiIn.setLevel l (s.pin_ (2 * k))).countsAt t = true := by
    rw [PiIn.countsAt_eq_not]
    simpa [PiIn.setLevel] using hloaded
  have hulen : 2 * k < (s.updPi (2 * k + b2n b) (PiIn.setLevel level)).field.pi.length := by
    rw [State.updPi_pi_length]
    omega
  obtain ⟨hcount, hrev, hlast, herr⟩ := State.piStamp_quad hulen (State.piMode_pair hmode) (by rw [hset]; exact hcnt) hv
  rw [hset] at hcount herr
  refine ⟨hcount, hrev, ?_, hlast, herr, ?_⟩
  · rw [hv, State.piStamp_level hulen, hlevel]
  · rw [hv]
    exact State.eq_of_parts (by simp [State.updPi])

end

/-! ### The rows of the analog inputs and excitations -/

section
variable {s : State} {dt n : Nat}

theorem aiReading_completes {xs : List Int} {vsx : Nat} {code : Word} (hn : n < 16) (hlen : n < s.field.ai.length)
    (hxs : xs.length = s.cfgN .aiAvg n) (hi : s.islands = true) : Completes (.aiReading dt n xs vsx code) s (fun t =>
      (s.ratioOf n = none → (t.ain n).reading = roundRat (meanOf xs) - s.flash.aiZero.getD n 0 ∧ t.free = s.free)
      ∧ (s.ratioOf n ≠ none → vsx ≠ 0 →
          (t.ain n).reading = roundRat (meanOf xs * 5000 / (vsx : Rat)) - s.flash.aiZero.getD n 0 ∧ t.free = s.free)
      ∧ (t.ain n).code = code ∧ (t.ain n).kind = (s.ain n).kind
      ∧ (t.ain n).mt = ((s.advance dt).now - 500) / 2500 * 2500 - (s.cfgN .aiAvg n - 1) * 1250
      ∧ t = { s.advance dt with field := t.field, free := t.free }) := by
  obtain ⟨hread, hcode, hkind, hmt, hfree⟩ :=
    State.aiRead_ain (s := s.advance dt) (vsx := vsx) (code := code) hn hlen hxs hi
  refine ⟨_, rfl, fun hr => ?_, fun hr hv => ?_, hcode, hkind, hmt, State.eq_of_parts (by simp)⟩
  · rw [State.aiUnit_of_ratio_none (s := s.advance dt) hr] at hread hfree
    exact ⟨hread, hfree⟩
  · rw [State.aiUnit_of_ratio (s := s.advance dt) hr _ hv] at hread hfree
    exact ⟨hread, hfree⟩

theorem aiValid_completes (hn : n < 16) (hlen : n < s.field.ai.length) (hi : s.islands = true)
    (hsh : (s.ain n).shunt = none) : Completes (.aiValid dt n) s (fun t =>
      t.ain n = { s.ain n with kind := (s.advance dt).aiKind n }
      ∧ t = { s.advance dt with field := t.field, host := t.host, cnt := t.cnt }) :=
  completes_of_not_cond rfl (by simp [hsh, hi])
    ⟨State.setValid_ain (s := s.advance dt) hn hlen _, State.eq_of_parts (by simp)⟩

theorem ma20ShuntDisconnect_completes (hn : n < 16) (hlen : n < s.field.ai.length) (hm : s.cfgN .aiMode n = 3)
    (hsh : (s.ain n).shunt = none) : Completes (.ma20ShuntDisconnect dt n) s (fun t =>
      t.ain n = { s.ain n with shunt := some ((s.advance dt).now + 25000000), kind := 1 }
      ∧ t = { s.advance dt with field := t.field, host := t.host, cnt := t.cnt }) := by
  refine completes_of_cond rfl (by simp [hn, hm, hsh]) ⟨?_, State.eq_of_parts (by simp)⟩
  rw [State.setValid_ain hn (by simpa using hlen), State.ain_updAi (s := s.advance dt) _ hlen]
  rfl

theorem ma20ShuntReconnect_completes {m : Nat} (hlen : n < s.field.ai.length) (hsh : (s.ain n).shunt = some m)
    (hm : m ≤ (s.advance dt).now) : Completes (.ma20ShuntReconnect dt n) s (fun t =>
      t.ain n = { s.ain n with shunt := none, above := false, aboveAt := (s.advance dt).now }
      ∧ t = { s.advance dt with field := t.field }) := by
  refine ⟨(s.advance dt).updAi n fun a => { a with shunt := none, above := false, aboveAt := (s.advance dt).now },
    congrArg Host.Outcome.next ?_, State.ain_updAi (s := s.advance dt) _ hlen, State.eq_of_parts (by simp)⟩
  simp [hsh, hm]

theorem b2n_lt_two (b : Bool) : b2n b < 2 := by cases b <;> decide

theorem sxFault_completes {b : Bool} (hsx : s.field.sx.length = 2) (hai : s.field.ai.length = 16)
    (hg : s.sxGood (b2n b) = true) : Completes (.sxFault dt b) s (fun t =>
      t.sxOut (b2n b) = { s.sxOut (b2n b) with fault := true, retry := false, at_ := (s.advance dt).now }
      ∧ (∀ n < 16, s.ratioOf n = some (b2n b) → (t.ain n).kind = 3)
      ∧ t = { s.advance dt with field := t.field, host := t.host, cnt := t.cnt }) := by
  refine completes_of_cond rfl hg ⟨?_, fun n hn hr => State.ratioLost_kind ?_ hn ?_, State.eq_of_parts (by simp)⟩
  · rw [State.sxOut, State.ratioLost_sx, State.raise_hostOnly]
    exact State.sxOut_updSx (s := s.advance dt) _ (by have := b2n_lt_two b; simp [hsx, this])
  · rw [State.raise_hostOnly]
    exact hai
  · rw [State.raise_hostOnly]
    exact hr

end

section
variable {s : State} {dt : Nat} {b : Bool} (hshed : s.pwr.shed = false) (hon : (s.sxOut (b2n b)).on = true)
  (hf : (s.sxOut (b2n b)).fault = true)
include hshed hon hf

/-- A retry that has not held is over at once (R301). -/
theorem exec_sxRetry_of_lost (hr : (s.sxOut (b2n b)).retry = true) : exec (.sxRetry dt b false) s
    = .next ((s.advance dt).updSx (b2n b) (fun x => { x with retry := false, at_ := (s.advance dt).now })) := by
  refine congrArg Host.Outcome.next ((if_neg ?_).trans (if_pos ?_))
  · simp [hon, hf, hshed]
  · simp [hr]

variable (hat : (s.sxOut (b2n b)).at_ + 25000000 ≤ (s.advance dt).now)
include hat

/-- A retry begins each 100 ms (R301). -/
theorem exec_sxRetry_of_start {holds : Bool} (hr : (s.sxOut (b2n b)).retry = false) : exec (.sxRetry dt b holds) s
    = .next ((s.advance dt).updSx (b2n b) (fun x => { x with retry := holds, at_ := (s.advance dt).now })) := by
  refine congrArg Host.Outcome.next ((if_neg ?_).trans ((if_neg ?_).trans ((if_neg (not_lt.2 hat)).trans (if_neg ?_))))
  · simp [hon, hf, hshed]
  · simp [hr]
  · simp [hr]

/-- A retry that has held for 100 ms gives SX_GOOD (R301). -/
theorem exec_sxRetry_of_held (hr : (s.sxOut (b2n b)).retry = true) : exec (.sxRetry dt b true) s
    = .next (((s.advance dt).updSx (b2n b) (fun x => { x with fault := false, retry := false, at_ := (s.advance dt).now })).raise
        0x7006 (b2n b) [(128, 1, 1)] false) := by
  refine congrArg Host.Outcome.next ((if_neg ?_).trans ((if_neg ?_).trans ((if_neg (not_lt.2 hat)).trans (if_pos ?_))))
  · simp [hon, hf, hshed]
  · simp
  · simpa using hr

theorem sxRetry_completes {holds : Bool} (hsx : s.field.sx.length = 2) : Completes (.sxRetry dt b holds) s (fun t =>
      t.sxOut (b2n b) = (if (s.sxOut (b2n b)).retry = true ∧ holds = true then
          { s.sxOut (b2n b) with fault := false, retry := false, at_ := (s.advance dt).now }
        else { s.sxOut (b2n b) with retry := !(s.sxOut (b2n b)).retry && holds, at_ := (s.advance dt).now })
      ∧ t = { s.advance dt with field := t.field, host := t.host, cnt := t.cnt }) := by
  have hsx' : b2n b < (s.advance dt).field.sx.length := by
    have := b2n_lt_two b
    simp [hsx, this]
  cases hr : (s.sxOut (b2n b)).retry with
  | false =>
    exact ⟨_, exec_sxRetry_of_start hshed hon hf hat hr,
      (State.sxOut_updSx _ hsx').trans (by simp), State.eq_of_parts (by simp)⟩
  | true =>
    cases holds with
    | false =>
      exact ⟨_, exec_sxRetry_of_lost hshed hon hf hr, (State.sxOut_updSx _ hsx').trans (by simp), State.eq_of_parts (by simp)⟩
    | true =>
      refine ⟨_, exec_sxRetry_of_held hshed hon hf hat hr, ?_, State.eq_of_parts (by simp)⟩
      rw [State.sxOut, State.raise_hostOnly]
      exact (State.sxOut_updSx _ hsx').trans (by simp)

end

/-! ### Frequencies, loads and EXTEV -/

section
variable {s : State} {dt n m : Nat}

theorem piZeroTimeout_completes (hlen : n < s.field.pi.length) (hlast : (s.pin_ n).stamps.getLast? = some m)
    (hm : m + s.cfgN .piZeroT n * 250000 ≤ (s.advance dt).now) : Completes (.piZeroTimeout dt n) s (fun t =>
      t.pin_ n = { s.pin_ n with zero := true, f := 0 } ∧ t.piFreq n = 0 ∧ t = { s.advance dt with field := t.field }) := by
  have hset := State.piIn_updPi (s := s.advance dt) (fun p => { p with zero := true, f := 0 }) hlen
  refine ⟨(s.advance dt).updPi n fun p => { p with zero := true, f := 0 }, congrArg Host.Outcome.next ?_, hset, ?_,
    State.eq_of_parts (by simp)⟩
  · simp [hlast, show m + s.cfgN .piZeroT n * msTicks ≤ (s.advance dt).now from hm]
  · rw [State.piFreq, hset]
    rfl

theorem piCountLoad_completes {c : Word} (hlen : n < s.field.pi.length) (hload : (s.pin_ n).load = some (c, m))
    (hm : m ≤ (s.advance dt).now) : Completes (.piCountLoad dt n) s (fun t =>
      t.pin_ n = { s.pin_ n with count := c, load := none, loadedAt := some m }
      ∧ t = { s.advance dt with field := t.field }) := by
  refine ⟨(s.advance dt).updPi n fun p => { p with count := c, load := none, loadedAt := some m },
    congrArg Host.Outcome.next ?_, State.piIn_updPi (s := s.advance dt) _ hlen, State.eq_of_parts (by simp)⟩
  simp [State.piLoad, hload, hm]

theorem extevEdge_completes (hi : s.islands = true) (hlen : n < s.field.extev.length) : Completes (.extevEdge dt n) s (fun t =>
      (t.extevIn n).count = (s.extevIn n).count + 1 ∧ (t.extevIn n).stamps.getLast? = some (s.advance dt).now
      ∧ (∀ m, (s.extevIn n).stamps.getLast? = some m → (t.extevIn n).period = (s.advance dt).now - m)
      ∧ (∀ j, j ≠ n → t.extevIn j = s.extevIn j) ∧ t.field.pi = s.field.pi
      ∧ t = { s.advance dt with field := t.field }) := by
  refine completes_of_cond rfl hi ?_
  have hset : ((s.advance dt).updField fun x => { x with
      extev := x.extev.set n (((s.advance dt).extevIn n).extevEdge (s.advance dt).now) }).extevIn n
      = (s.extevIn n).extevEdge (s.advance dt).now := by
    simp [State.extevIn, State.updField, hlen]
  rw [hset]
  refine ⟨rfl, keepStamps_getLast? .., fun m hm => PiIn.periodAt_of_some hm _, fun j hj => ?_, rfl, rfl⟩
  simp [State.extevIn, State.updField, hj.symm]

end

/-- Settles O44: each row writes its input by the rules for a reading, a validity, an excitation and a stamp. -/
theorem analogPulseRows : Obligations.AnalogPulseRows := by
  unfold Obligations.AnalogPulseRows
  refine ⟨fun s dt n vsx xs code hn hlen hxs hi => aiReading_completes hn hlen hxs hi, fun s dt n hn hlen hi hsh hr => ?_,
    fun s dt n hn hlen hm hsh => ma20ShuntDisconnect_completes hn hlen hm hsh,
    fun s dt n m hn hlen hsh hm => ma20ShuntReconnect_completes hlen hsh hm,
    fun s dt b hsx hai hg => sxFault_completes hsx hai hg,
    fun s dt b holds hsx hshed hon hf hat => sxRetry_completes hshed hon hf hat hsx,
    fun s dt n held mv level hn hlen hi hmode hcmp hl hg hload hk => piEdge_counts hn hlen hi hmode hcmp hl hg hload hk,
    fun s dt n held mv level hn hlen hi hmode hcmp hl hg hload hk => ?_, fun s dt n held mv hg => ⟨_, exec_piEdge_of_short hg, rfl⟩,
    fun s dt k held mv b level hk hlen hi hmode hcmp hl hg hloadA hloadB hnear hloaded => ?_,
    fun s dt n m hlen hlast hm => piZeroTimeout_completes hlen hlast hm,
    fun s dt n m c hlen hload hm => piCountLoad_completes hlen hload hm,
    fun s dt n hi hlen => extevEdge_completes hi hlen⟩
  · obtain ⟨t, ht, hain, hrest⟩ := aiValid_completes (dt := dt) hn hlen hi hsh
    have hkind : (t.ain n).kind = (s.advance dt).aiKind n := by rw [hain]
    refine ⟨t, ht, by rw [hkind]; exact hain, fun ha hat => ?_, fun ha hk ho hot => ?_, fun ha hat ho hot => ?_, hrest⟩
    · exact hkind.trans (State.aiKind_over (s := s.advance dt) hr ha hat)
    · exact hkind.trans (State.aiKind_open (s := s.advance dt) hr ha hk ho hot)
    · exact hkind.trans (State.aiKind_valid (s := s.advance dt) hr ha hat ho hot)
  · exact ⟨_, (exec_piEdge hn hi hcmp hl hg).trans (congrArg Host.Outcome.next
      (State.piEdge_of_other (s := s.advance dt) hmode hload hk)),
      State.piIn_updPi (s := s.advance dt) _ (show n < s.field.pi.length by omega),
      fun j hj => State.piIn_updPi_ne _ hj, State.eq_of_parts (by simp)⟩
  · have hb := b2n_lt_two b
    exact ⟨_, exec_piEdge (by omega) hi hcmp hl hg, State.piEdge_counts_quad (s := s.advance dt)
      (show 2 * k + 1 < s.field.pi.length by omega) hmode hloadA hloadB hnear hloaded rfl rfl⟩

end Sys2Proof.Machine
end
